-- ==== Sys2Proof/Word.lean ====
section
/-! DEFINITION. The word types of the control space: every register is 64 bits wide (R8). -/

namespace Sys2Proof

/-- A 64-bit register word or memory word (R8). -/
abbrev Word := BitVec 64

/-- A byte. -/
abbrev Byte := BitVec 8

end Sys2Proof
end

