-- ==== Sys2Proof/Syntax.lean ====
section
/-! DEFINITION. The commands of the block: one constructor of `Instr` per row of spec/opcode_table.json. -/

namespace Sys2Proof

/-- How the companion marks an access over the KCL (R440, R586). -/
inductive Mark where
  | fabric | observe
  deriving DecidableEq, Repr

/-- The eight 32-bit header words of a fabric frame as received, word 0 first (R146). -/
structure HdrWords where
  w0 : BitVec 32
  w1 : BitVec 32
  w2 : BitVec 32
  w3 : BitVec 32
  w4 : BitVec 32
  w5 : BitVec 32
  w6 : BitVec 32
  w7 : BitVec 32
  deriving DecidableEq, Repr

/-- The body of an ID frame (R153). -/
structure IdBody where
  kind : Fin 16
  plane : Fin 16
  id : BitVec 24
  port : Fin 512
  serial : BitVec 64
  coordX : Fin 4096
  coordY : Fin 4096
  grid : Bool
  coordZ : Fin 4096
  deriving DecidableEq, Repr

/-- The body of a REV frame: the revision, the feature mask and the words of ID (R153). -/
structure RevBody where
  rev : BitVec 16
  mask : BitVec 32
  ident : IdBody
  deriving DecidableEq, Repr

/-- The target a wait queue is keyed by (R210): a bundle, one of the internal outputs 512–515, or the input's multicast
target. A bundle is 0–511, or 512 + 4096 × axis + target. -/
inductive WaitTarget where
  | bundle (key : Fin 12800)
  | internal (out : Fin 4)
  | mcast
  deriving DecidableEq, Repr

/-- What a read of a frame's cells met (R206): nothing, a correctable error, or an uncorrectable one at a cell address. -/
inductive CellRead where
  | ok
  | corrected
  | uncorrectable (cell : Fin 786432)
  deriving DecidableEq, Repr

/-- What the sensors of a unit or tile show in the cycle of a mismatch or comparison (R315, R342): temperature in 1/8 °C
(two's complement), supply in mV, the two island loads in 1/256. -/
structure Env where
  temp : BitVec 11
  vdd : BitVec 12
  island : BitVec 8
  wra : BitVec 8
  deriving DecidableEq, Repr

/-- An operation of a lane or processing element with the values its check sees (R305): an add with its carry-out; a shift
right by `k` into `q` with the part `l` shifted out; the bitwise words; a selection; a multiply; duplicated logic; or the
S4EC-D4ED check of word `word` of a stored BROADCAST chunk, found uncorrectable (R306). -/
inductive LaneOp where
  | add (a b s : BitVec 64) (c : Bool)
  | shift (a q l : BitVec 64) (k : Fin 64)
  | bitwise (a b x n o : BitVec 64)
  | select (picked result : BitVec 64)
  | mul (a b : BitVec 64) (p : BitVec 128)
  | duplicate (x y : BitVec 64)
  | stored (word : Fin 512)
  deriving DecidableEq, Repr

/-- What a lane reports of a node of a chunk (R305, R316): the physical lane, the node as R316 codes it, the operation, the
sensors. -/
structure Mismatch where
  lane : Fin 17
  node : BitVec 16
  op : LaneOp
  env : Env
  deriving DecidableEq, Repr

/-- How the forming of a chunk ends: with what a lane reports, or with no report and the bytes of the result that an error
which no check sees has changed, each by its offset and what is XORed into it (R305, R306). -/
inductive ChunkOut where
  | report (m : Mismatch)
  | formed (err : List (Fin 4096 × BitVec 8))
  deriving DecidableEq, Repr

/-- What a column reports of a pass (R342): the physical column, 255 for several, the operation, the sensors. -/
structure ColMismatch where
  col : Fin 256
  op : LaneOp
  env : Env
  deriving DecidableEq, Repr

/-- Work of the weighted-reduction array: a chunk of a context, or a gather in flight by its number (R324). -/
inductive WraWork where
  | chunk (ctx : Fin 16384) (chunk : Fin 1048576)
  | gather (id : BitVec 32)
  deriving DecidableEq, Repr

/-- A line the device watches for writes by the host or the companion (R432, R439, R499, R510): the head of a queue, the
consumer index of its completion ring, of the record ring, of the dump ring. -/
inductive WatchLine where
  | head (q : Fin 512)
  | crHead (q : Fin 512)
  | ringHead
  | dumpHead
  deriving DecidableEq, Repr

/-- What the ROM finds of an image (R530, R531): the fields of its header that the device keeps, and the outcome of each
check that needs the image's bytes. -/
structure ImageInfo where
  magicOk : Bool
  ecdsaKey : BitVec 8
  lmsKey : BitVec 8
  keyHashOk : Bool
  svn : BitVec 8
  ecdsaOk : Bool
  lmsOk : Bool
  bodyOk : Bool
  linkRev : BitVec 16
  version : BitVec 32
  deriving DecidableEq, Repr

/-- How the work of a SEC command ended outside the device's own checks (R536): its read or write over the KCL, the flash,
the persistent store; the image VERIFY saw, none where the slot could not be read; the fuse bits burned and verified; the
bytes read for EXTEND. -/
structure SecOutcome where
  kclOk : Bool
  flashOk : Bool
  storeOk : Bool
  img : Option ImageInfo
  burned : BitVec 8
  bytes : Vector Byte 48
  deriving DecidableEq, Repr
/-- One constructor per row of the table; the docstring is the row's rule and what it is. -/
inductive Instr where
  /-- REG_WRITE (R585): A control-space write to a register that has no row of its own passes the access checks in order and then takes effect. -/
  | regWrite (m : Mark) (size : Nat) (addr : Nat) (v : Word)
  /-- REG_READ_REFUSED (R585): A control-space read fails the decode, boot-stage or domain check; it returns 0 and writes a record. -/
  | regReadRefused (m : Mark) (size : Nat) (addr : Nat)
  /-- D2D_FLIT_UNCORR (R16): A die-to-die flit with an uncorrectable error is found, and the sender starts a replay. -/
  | d2dFlitUncorr (link : Fin 9)
  /-- D2D_REPLAY_RESULT (R16): A replayed flit arrives, and the device judges it good or starts a further replay. -/
  | d2dReplayResult (link : Fin 9) (good : Bool)
  /-- D2D_CORR (R16): A correctable symbol error on a die-to-die link is corrected in place and counted. -/
  | d2dCorr (link : Fin 9)
  /-- PD_CMD_NOP (R540): A SYS_PD_CMD write with cmd NOP has no effect. -/
  | pdCmdNop (m : Mark) (domain : Fin 32)
  /-- PD_CMD_ON (R28): A request to switch a power domain on is checked against R26 and R28, and the domain starts switching or the request is refused. -/
  | pdCmdOn (m : Mark) (domain : Fin 32)
  /-- PD_CMD_OFF (R28): A request to switch a power domain off is checked against R27 and R28, and the domain starts switching or the request is refused. -/
  | pdCmdOff (m : Mark) (domain : Fin 32)
  /-- PD_SWITCH_DONE (R28): A domain finishes switching and its busy bit clears; a domain switched on starts with every register at its reset value. -/
  | pdSwitchDone (domain : Fin 20) (trained : BitVec 64)
  /-- LPDDR_PATROL_SCRUB (R388): The patrol scrub visits a stripe, corrects and writes back words under R34, and counts or records errors. -/
  | lpddrPatrolScrub (chan : Fin 64) (corr bad : BitVec 32)
  /-- SRAM_SCRUB_VISIT (R33): The SRAM scrub uses a reserved access slot to check a word of an on-die SRAM. -/
  | sramScrubVisit (fid : BitVec 32) (cell : CellRead)
  /-- BG_OVERRUN (R35): A background activity misses its period; it lengthens its pass and one BG_OVERRUN record is written. -/
  | bgOverrun (activity : Fin 21)
  /-- SYS_FABRIC_POS_WRITE (R40): FABRIC writes hall, plane and device; paths already written keep their values. -/
  | sysFabricPosWrite (m : Mark) (v : Word)
  /-- SYS_FABRIC_SIZE_WRITE (R42): A write of fabric_mode or the axis sizes is checked as a whole under R42 and is carried out or refused. -/
  | sysFabricSizeWrite (m : Mark) (v : Word)
  /-- SYS_FABRIC_COORD_WRITE (R42): A write of the grid coordinates is checked under R42 and is carried out or refused. -/
  | sysFabricCoordWrite (m : Mark) (v : Word)
  /-- PORT_CFG_WRITE (R45): A write of a port's role or role parameters is accepted only while the port is fenced or DISABLED, and restarts bring-up. -/
  | portCfgWrite (m : Mark) (port : Fin 512) (v : Word)
  /-- PIN_ENTRY_RELEASE (R51): The old link's queues hold no frame of a reassigned entry's flows any longer, and the entry starts serving the frames waiting at ingress. -/
  | pinEntryRelease (bundle : Fin 12800) (entry : Fin 256)
  /-- SWAP_WAIT_EXPIRY (R61): A port in SWAP_WAIT has waited 2 s without a pair forming and goes to MISMATCH. -/
  | swapWaitExpiry (port : Fin 512)
  /-- PORT_STENCIL_WRITE (R63): A stencil entry is rewritten; an admitted port is compared at once and fenced on failure. -/
  | portStencilWrite (m : Mark) (port : Fin 512) (w : Fin 4) (v : Word)
  /-- BRINGUP_TIMEOUT (R161): No partner ID has arrived within bringup_timeout_ms of TRAIN; stencil_status becomes ABSENT and LINK_ABSENT is written. -/
  | bringupTimeout (port : Fin 512)
  /-- RING_SWEEP_END (R74): A ring's 600 us heater sweep ends, and the ring goes to IDENTIFY, HOLD or FAULT by the dips found. -/
  | ringSweepEnd (port : Fin 512) (ring : Fin 10) (dips : List (Fin 3001))
  /-- RING_TONE_CHECK (R76): The glint-tone demodulation at a candidate dip ends, and the ring goes to ACQUIRE, the next candidate, FAULT or HOLD. -/
  | ringToneCheck (port : Fin 512) (ring : Fin 10) (tones : Vector (BitVec 16) 6)
  /-- RING_ACQUIRE_SETTLED (R74): The lock error stays within 2 GHz for 1 us; the ring goes to LOCKED or to RELOCK for a wrong order. -/
  | ringAcquireSettled (port : Fin 512) (ring : Fin 10) (setting : Fin 3001) (lockError : BitVec 16)
  /-- RING_ACQUIRE_TIMEOUT (R74): ACQUIRE does not settle in 20 us; the ring resweeps or enters FAULT. -/
  | ringAcquireTimeout (port : Fin 512) (ring : Fin 10)
  /-- RING_LIGHT_LOST (R74): A LOCKED ring's monitored power stays below -14.0 dBm for 10 us and the ring enters HOLD. -/
  | ringLightLost (port : Fin 512) (ring : Fin 10)
  /-- RING_LIGHT_RETURN (R74): Light stays above -14.0 dBm for 100 us in HOLD and the ring goes to IDENTIFY at the held setting. -/
  | ringLightReturn (port : Fin 512) (ring : Fin 10)
  /-- RING_HOLD_RESWEEP (R74): A receive ring that has never locked sweeps again after 100 ms in HOLD. -/
  | ringHoldResweep (port : Fin 512) (ring : Fin 10)
  /-- RING_RELOCK_MOVE_DONE (R74): A RELOCK heater move completes and the ring enters ACQUIRE. -/
  | ringRelockMoveDone (port : Fin 512) (ring : Fin 10)
  /-- RING_RAIL_REACHED (R79): A LOCKED ring's setting enters a rail; OPT_RING_RAIL is written and the ring relocks by 2,400 GHz. -/
  | ringRailReached (port : Fin 512) (ring : Fin 10) (setting : Fin 3001)
  /-- RECAL_VISIT (R77): Recalibration identifies the slot a LOCKED ring sees and relocks it when the slot is wrong. -/
  | recalVisit (port : Fin 512) (ring : Fin 10) (tones : Vector (BitVec 16) 6)
  /-- RING_CMD_NOP (R81): Ring command NOP has no effect. -/
  | ringCmdNop (m : Mark) (port : Fin 512) (ring : Fin 10)
  /-- RING_CMD_OFF (R81): Ring command OFF puts the ring in OFF, unless the ring is busy with a lane or circuit. -/
  | ringCmdOff (m : Mark) (port : Fin 512) (ring : Fin 10)
  /-- RING_CMD_RESTART (R81): Ring command RESTART puts the ring in SWEEP, unless the ring is busy. -/
  | ringCmdRestart (m : Mark) (port : Fin 512) (ring : Fin 10)
  /-- RING_CMD_RETRY (R81): Ring command RETRY moves a ring from FAULT to SWEEP and clears its timeout count. -/
  | ringCmdRetry (m : Mark) (port : Fin 512) (ring : Fin 10)
  /-- OPT_ENG_CTRL_WRITE (R74): A write of lock_enable, ff_enable or the recalibration period changes which rings run. -/
  | optEngCtrlWrite (m : Mark) (engine : Fin 8) (v : Word)
  /-- FF_REPORT (R83): An island power report arrives and every ring of the engine applies its feed-forward correction. -/
  | ffReport (engine : Fin 8) (report : Vector (BitVec 16) 12)
  /-- FF_LOST (R84): No feed-forward report arrives for 8 us; the filters hold, ff_link_ok clears and a record is written. -/
  | ffLost (engine : Fin 8)
  /-- OPT_LANE_MAP_WRITE (R70): A write of a port's lane map is accepted only while the port is fenced or DISABLED and the map is valid. -/
  | optLaneMapWrite (m : Mark) (port : Fin 512) (v : Word)
  /-- LANE_TX_ARM (R71): Setting tx_arm arms the transmit lane switch at tx_switch_cw, or the arm is refused as late. -/
  | laneTxArm (m : Mark) (port : Fin 512) (v : Word)
  /-- LANE_RX_ARM (R71): Setting rx_arm arms the receive lane switch at rx_switch_cw, or the arm is refused as late. -/
  | laneRxArm (m : Mark) (port : Fin 512) (v : Word)
  /-- LANE_TX_SWITCH (R71): The transmit codeword count reaches tx_switch_cw; the tx half is copied into OPT_LANE_MAP and the arm clears. -/
  | laneTxSwitch (port : Fin 512)
  /-- LANE_RX_SWITCH (R71): The receive codeword count reaches rx_switch_cw; the rx half is copied into OPT_LANE_MAP and the arm clears. -/
  | laneRxSwitch (port : Fin 512)
  /-- RX_POWER_AVERAGE (R87): A 1 ms average of received OMA completes and is compared with the warn, alarm and high thresholds. -/
  | rxPowerAverage (port : Fin 512) (lane : Fin 5) (avg : BitVec 16)
  /-- MARGIN_EPISODE_END (R87): A lane's average holds 0.5 dB above a threshold for 1 s and its episode ends. -/
  | marginEpisodeEnd (port : Fin 512) (lane : Fin 4) (alarm : Bool)
  /-- PWR_REQ_SEND (R88): A lane below warn for 10 ms, or above high for 1 s, sends a power request and sets request_pending. -/
  | pwrReqSend (port : Fin 512) (lane : Fin 4) (down : Bool)
  /-- PWR_REQ_EXPIRY (R88): Ten milliseconds pass with no PWR_ANS and request_pending returns to 0. -/
  | pwrReqExpiry (port : Fin 512) (lane : Fin 4)
  /-- LC_PWR_REQ (R89): A PWR_REQ arrives; the launch trim is ramped one step, or the request is denied or ignored as excess. -/
  | lcPwrReq (port : Fin 512) (lane : Fin 4) (down : Bool) (avg : BitVec 16)
  /-- LC_PWR_ANS (R88): A PWR_ANS arrives; request_pending clears, and a grant is counted. -/
  | lcPwrAns (port : Fin 512) (lane : Fin 4) (granted : Bool) (trim : Fin 8)
  /-- LAS_ENG_CTRL_WRITE (R108): A write of laser_enable or auto_spare changes which octets may be lit and ends the warm-reset hold of R522. -/
  | lasEngCtrlWrite (m : Mark) (engine : Fin 8) (v : Word)
  /-- OCTET_LIGHT (R108): An octet's lighting conditions come to hold and its active DFBs start their 2 ms bias ramp. -/
  | octetLight (octet : Fin 64)
  /-- DFB_LIT (R108): A DFB's output and frequency settle within tolerance and it enters LIT, releasing its transmit rings. -/
  | dfbLit (octet : Fin 64) (slot : Fin 5) (b : Fin 2) (power : BitVec 16)
  /-- DFB_BIAS_LOOP (R110): The once-per-second bias loop measures a lit DFB and moves its bias toward target by at most 0.5 mA. -/
  | dfbBiasLoop (octet : Fin 64) (slot : Fin 5) (b : Fin 2) (power : BitVec 16) (move : Fin 11)
  /-- DFB_MONITOR (R111): The 10 us output comparison of a lit DFB acts on bias warning and clamp conditions. -/
  | dfbMonitor (octet : Fin 64) (slot : Fin 5) (b : Fin 2) (power : BitVec 16)
  /-- DFB_WEAR_OUT (R111): Output at the clamp stays more than 1 dB below target for 10 s; sparing is requested or the slot is parked. -/
  | dfbWearOut (octet : Fin 64) (slot : Fin 5)
  /-- DFB_FAIL (R123): Output stays more than 3 dB below target for 100 us; the DFB fails and the octet's lanes are fenced and recovered. -/
  | dfbFail (octet : Fin 64) (slot : Fin 5)
  /-- WEAR_RECORD_WRITE (R112): Every 60 s each DFB's wear figures are written to the persistent store. -/
  | wearRecordWrite (ok : Bool)
  /-- LAS_OCT_CMD_NOP (R136): Octet command NOP has no effect. -/
  | lasOctCmdNop (m : Mark) (octet : Fin 64) (slot : Fin 8)
  /-- LAS_OCT_CMD_SPARE (R113): Octet command SPARE requests a sparing sequence for the named slot, queued or refused. -/
  | lasOctCmdSpare (m : Mark) (octet : Fin 64) (slot : Fin 8)
  /-- LAS_OCT_CMD_PARK (R122): Octet command PARK requests that the named slot be parked. -/
  | lasOctCmdPark (m : Mark) (octet : Fin 64) (slot : Fin 8)
  /-- LAS_OCT_CMD_ABORT (R121): Octet command ABORT ends a queued or unarmed sequence with outcome ABORTED, or is refused as late. -/
  | lasOctCmdAbort (m : Mark) (octet : Fin 64) (slot : Fin 8)
  /-- SPARE_SEQ_START (R118): A queued sequence is allowed to run and enters PREPARE, tearing down express circuits on the spare slot. -/
  | spareSeqStart (octet : Fin 64)
  /-- LC_SPARE_REQ (R116): A SPARE_REQ arrives; the receiver checks it, arms its receive switch and answers SPARE_ACK. -/
  | lcSpareReq (port : Fin 512) (seq : BitVec 16) (back : Bool) (slot : Fin 5) (spare : Fin 5) (cw : BitVec 32)
  /-- LC_SPARE_ACK (R117): A SPARE_ACK arrives; on acceptance the near end arms its transmit switch, and on refusal it retries or fences the port. -/
  | lcSpareAck (port : Fin 512) (seq : BitVec 16) (result : Fin 8)
  /-- SPARE_ACK_TIMEOUT (R117): No SPARE_ACK arrives within 1 ms; the request is sent again, or after three attempts the port is fenced. -/
  | spareAckTimeout (port : Fin 512)
  /-- PRIMARY_RAMP_DOWN_DONE (R118): The primary DFB finishes its 1 ms ramp down and the standby starts its ramp up. -/
  | primaryRampDownDone (octet : Fin 64)
  /-- STANDBY_LIT_TIMEOUT (R120): The standby does not reach LIT within 30 ms; it fails and the sequence reverts to the primary. -/
  | standbyLitTimeout (octet : Fin 64)
  /-- LC_SPARE_READY (R118): SPARE_READY arrives and the near end starts STEER_BACK with a second switch codeword. -/
  | lcSpareReady (port : Fin 512) (seq : BitVec 16) (slot : Fin 5) (avg : BitVec 16)
  /-- SPARE_READY_TIMEOUT (R117): No SPARE_READY arrives within 5 ms of the standby becoming LIT and the port is fenced for the sequence. -/
  | spareReadyTimeout (port : Fin 512)
  /-- SPARE_RESUME_TIMEOUT (R124): A port is not admitted within 1 s after a resumed standby lights, and its final half is written directly. -/
  | spareResumeTimeout (port : Fin 512)
  /-- XPR_CMD_NOP (R142): Circuit command NOP has no effect. -/
  | xprCmdNop (m : Mark) (c : Fin 64)
  /-- XPR_CMD_SETUP (R127): SETUP checks a circuit and starts building it, or refuses it with a status. -/
  | xprCmdSetup (m : Mark) (c : Fin 64)
  /-- XPR_CMD_TEARDOWN (R130): TEARDOWN starts the teardown sequence of a circuit with cause COMMAND. -/
  | xprCmdTeardown (m : Mark) (c : Fin 64)
  /-- XPR_CMD_REWEIGHT (R131): REWEIGHT of an ACTIVE circuit recalibrates and couples the new weights. -/
  | xprCmdReweight (m : Mark) (c : Fin 64)
  /-- XPR_READY (R129): Weight calibration of a building circuit finishes and the circuit becomes READY. -/
  | xprReady (c : Fin 64)
  /-- XPR_ACTIVATE (R129): At act_time, or at READY, feed gates shut, weight rings couple and EXPRESS_DECL is sent; the circuit becomes ACTIVE. -/
  | xprActivate (c : Fin 64)
  /-- XPR_FREE (R130): The amplifier finishes ramping down and the circuit becomes FREE. -/
  | xprFree (c : Fin 64)
  /-- XPR_INPUT_MEASURE (R131): The 1 ms add-slot measurement of an ACTIVE circuit sets or ends an input-lost episode. -/
  | xprInputMeasure (c : Fin 64) (v : BitVec 16) (held : Bool)
  /-- XPR_AMP_FAULT (R130): An amplifier stays 3 dB below target for 100 us and its circuit is torn down with cause AMP_FAULT. -/
  | xprAmpFault (c : Fin 64)
  /-- XPR_CIRC_CFG_WRITE (R142): A circuit configuration write is accepted only while FREE, otherwise refused with CIRCUIT_BUSY. -/
  | xprCircCfgWrite (m : Mark) (c : Fin 64) (v : Word)
  /-- XPR_CIRC_WEIGHT_WRITE (R142): A circuit weight write is accepted while FREE or ACTIVE, otherwise refused. -/
  | xprCircWeightWrite (m : Mark) (c : Fin 64) (v : Word)
  /-- LC_EXPRESS_DECL (R153): A partner's EXPRESS_DECL arrives on a port. -/
  | lcExpressDecl (port : Fin 512) (slot : Fin 5) (drop : Bool) (circuit : Fin 64) (device : BitVec 14) (addPort : Fin 512)
  /-- LC_EXPRESS_WITHDRAW (R153): A partner's EXPRESS_WITHDRAW arrives on a port. -/
  | lcExpressWithdraw (port : Fin 512) (cause : BitVec 4) (slot : Fin 5) (circuit : Fin 64)
  /-- FABRIC_FRAME_RX (R588): A fabric frame header arrives on a port, meets the checks in order, is policed and makes its single SCD-MSD request. -/
  | fabricFrameRx (port : Fin 512) (h : HdrWords)
  /-- FRAME_LAST_BYTE (R151): A frame's last byte arrives and its CRC is judged; copies of a bad frame are stomped or discarded. -/
  | frameLastByte (port : Fin 512) (payload : List Byte) (crc : BitVec 32)
  /-- LC_CREDIT (R156): A CREDIT frame arrives and updates the returned counters, clamping an overrun. -/
  | lcCredit (port : Fin 512) (counts : Vector (BitVec 16) 8)
  /-- LC_ID (R165): An ID frame arrives and is compared, starting or repeating the stencil comparison or a restart. -/
  | lcId (port : Fin 512) (b : IdBody)
  /-- LC_REV (R64): A REV frame arrives; revisions are compared and the port proceeds, is quarantined or restarts. -/
  | lcRev (port : Fin 512) (b : RevBody)
  /-- LC_ADMIT (R160): An ADMIT frame arrives; once both ADMITs are sent and received the port becomes ADMITTED. -/
  | lcAdmit (port : Fin 512)
  /-- LC_RESTART (R163): A RESTART frame arrives; the port fences itself with LINK_LOSS and returns to TRAIN. -/
  | lcRestart (port : Fin 512) (cause : Fin 16)
  /-- LC_TYPE_RESERVED (R152): A link-control frame of a reserved lc_type arrives and is dropped under LC_UNKNOWN. -/
  | lcTypeReserved (port : Fin 512) (lcType : BitVec 8)
  /-- CREDIT_SEND (R156): Eight freed credits, 250 ns after a free, or 10 us of silence cause a CREDIT frame to be sent. -/
  | creditSend (port : Fin 512)
  /-- CREDIT_STALL (R158): A class's returned counter does not advance for credit_timeout_us; the port is fenced and its queues discarded. -/
  | creditStall (port : Fin 512) (cls : Fin 8)
  /-- TRAIN_CODEWORD_LOCK (R160): Codeword lock has been held for 1,024 codewords; the receive half is written from the tags and ID exchange starts. -/
  | trainCodewordLock (port : Fin 512) (tags : Vector (Fin 9) 5) (skewNs : Nat)
  /-- LINK_ID_RESEND (R160): Every 10 us during IDENTIFY and REVISION the port sends ID or REV again. -/
  | linkIdResend (port : Fin 512)
  /-- LINK_LOCK_LOSS (R163): Codeword or CDR lock is lost for 10 us; the port is fenced, sends RESTART and retrains. -/
  | linkLockLoss (port : Fin 512)
  /-- LINK_SILENT (R163): No link-control frame arrives for 100 us after CREDIT_INIT; the port is fenced with cause SILENT and retrains. -/
  | linkSilent (port : Fin 512)
  /-- FEC_UNCORR_CODEWORD (R164): An uncorrectable codeword is counted, and more than 16 in 1 ms fence and retrain the port. -/
  | fecUncorrCodeword (port : Fin 512)
  /-- FEC_DEGRADE (R164): The 1 s corrected-symbol rate implies a BER above 1e-4 and one record is written per episode. -/
  | fecDegrade (port : Fin 512) (above : Bool)
  /-- PORT_CMD_NOP (R172): Port command NOP has no effect. -/
  | portCmdNop (m : Mark) (port : Fin 512)
  /-- PORT_CMD_FENCE (R162): Port command FENCE sets fence cause FABRIC. -/
  | portCmdFence (m : Mark) (port : Fin 512)
  /-- PORT_CMD_UNFENCE (R172): Port command UNFENCE clears causes FABRIC and CREDIT_STALL and restarts the link after a stall. -/
  | portCmdUnfence (m : Mark) (port : Fin 512)
  /-- PORT_CMD_ADMIT (R172): Port command ADMIT sends ADMIT from ADMIT_WAIT. -/
  | portCmdAdmit (m : Mark) (port : Fin 512)
  /-- PORT_CMD_ACCEPT (R62): Port command ACCEPT copies the announced neighbour into the stencil and repeats the comparison. -/
  | portCmdAccept (m : Mark) (port : Fin 512)
  /-- PORT_CMD_RETRY (R64): Port command RETRY repeats the REV exchange of a quarantined port. -/
  | portCmdRetry (m : Mark) (port : Fin 512)
  /-- PORT_CMD_RESTART (R163): Port command RESTART sends RESTART and returns the port to TRAIN. -/
  | portCmdRestart (m : Mark) (port : Fin 512)
  /-- PORT_CMD_REBALANCE (R51): Port command REBALANCE rebuilds the bundle's indirection table. -/
  | portCmdRebalance (m : Mark) (port : Fin 512)
  /-- FWD_CTRL_WRITE (R201): A write of the seeds or flood settings takes effect, with seed changes refused while entries are valid or equal. -/
  | fwdCtrlWrite (m : Mark) (v : Word)
  /-- FWD_AGE_CTRL_WRITE (R189): A write of age_period_ms sets the next sweep's pace, stops the sweep or resumes it. -/
  | fwdAgeCtrlWrite (m : Mark) (v : Word)
  /-- FWD_LEARN_WRITE (R187): A write of a port's learning limit or excess mode takes effect before learning in that cycle. -/
  | fwdLearnWrite (m : Mark) (port : Fin 512) (v : Word)
  /-- FWD_LOCK_NOP (R204): Lock-slot command NOP has no effect. -/
  | fwdLockNop (m : Mark) (slot : Fin 64) (bucket : BitVec 19)
  /-- FWD_LOCK_ACQUIRE (R192): ACQUIRE locks a bucket into a free slot and copies its live contents, or gives BUSY, SLOT_BUSY or RANGE. -/
  | fwdLockAcquire (m : Mark) (slot : Fin 64) (bucket : BitVec 19)
  /-- FWD_LOCK_RELEASE (R192): RELEASE discards a slot's staging and frees it. -/
  | fwdLockRelease (m : Mark) (slot : Fin 64) (bucket : BitVec 19)
  /-- FWD_LOCK_COMMIT (R194): COMMIT installs one held slot's staged contents in one step, or refuses. -/
  | fwdLockCommit (m : Mark) (slot : Fin 64) (bucket : BitVec 19)
  /-- FWD_COMMIT_WRITE (R194): A write of FWD_COMMIT installs every named slot in one engine step or refuses the set. -/
  | fwdCommitWrite (m : Mark) (v : Word)
  /-- FWD_LOCK_TIMEOUT (R195): A slot is held longer than its timeout; its staging is discarded, it is freed with LOCK_LOST and a record is written. -/
  | fwdLockTimeout (slot : Fin 64)
  /-- AGE_VISIT (R188): The sweep visits a bucket or overflow group and advances or removes its learned entries. -/
  | ageVisit
  /-- AGE_REVISIT (R190): At the end of a sweep a skipped locked bucket is visited again or counted AGE_SKIP_LOCKED. -/
  | ageRevisit
  /-- MCAST_CMD_NOP (R205): Multicast command NOP has no effect. -/
  | mcastCmdNop (m : Mark) (group : Fin 65536)
  /-- MCAST_CMD_READ (R198): READ starts copying a group entry into MCAST_STAGE, or is refused BUSY. -/
  | mcastCmdRead (m : Mark) (group : Fin 65536)
  /-- MCAST_CMD_WRITE (R198): WRITE starts installing MCAST_STAGE as a group, or is refused BUSY. -/
  | mcastCmdWrite (m : Mark) (group : Fin 65536)
  /-- MCAST_CMD_DONE (R198): A multicast command completes; a WRITE installs in one step or is refused HELD or ENCODING, and result is set. -/
  | mcastCmdDone
  /-- WAIT_QUEUE_ENQUEUE (R210): The head of a wait queue chooses its output and is enqueued when the egress queue is under quota. -/
  | waitQueueEnqueue (inp : Fin 517) (cls : Fin 8) (t : WaitTarget)
  /-- CREDIT_INIT_SEND (R212): Every cell of the previous session is freed and the port sends its CREDIT_INIT allotments. -/
  | creditInitSend (port : Fin 512)
  /-- SCHED_DECISION (R237): At a unit boundary the scheduler picks an eligible class by strict priority and DWRR and starts its head frame. -/
  | schedDecision (port : Fin 512) (cell : CellRead)
  /-- FRAME_TX_END (R207): A frame's last byte leaves; its copy count falls and, at 0, its cells are freed and credits returned. -/
  | frameTxEnd (port : Fin 512) (cell : CellRead)
  /-- FENCED_DRAIN (R222): Each port-island cycle one entry of a fenced port's egress queues is discarded. -/
  | fencedDrain (port : Fin 512) (cls : Fin 8)
  /-- XBAR_IQ_WRITE (R213): A write of ingress quotas is checked under R208 and cuts or raises them by withholding. -/
  | xbarIqWrite (m : Mark) (port : Fin 512) (half : Fin 2) (v : Word)
  /-- XBAR_EQ_WRITE (R214): A write of egress quotas is checked under R208 and applies from the next enqueue test. -/
  | xbarEqWrite (m : Mark) (port : Fin 512) (half : Fin 2) (v : Word)
  /-- XBAR_INT_QUOTA_WRITE (R208): A write of the internal input quotas is checked against the pool and taken or refused. -/
  | xbarIntQuotaWrite (m : Mark) (v : Word)
  /-- XBAR_MIRROR_RES_WRITE (R208): A write of mirror_reserve and internal output quotas is checked and taken or refused. -/
  | xbarMirrorResWrite (m : Mark) (v : Word)
  /-- XBAR_PORT_MODE_WRITE (R218): A FABRIC write sets a port's service mode or its mode times. -/
  | xbarPortModeWrite (m : Mark) (port : Fin 512) (v : Word)
  /-- SERVICE_MODE_END (R218): STARTUP or RECOVERY runs out its time and the port returns to NORMAL. -/
  | serviceModeEnd (port : Fin 512)
  /-- XBAR_MIR_CFG_WRITE (R231): A mirror session configuration write enables or changes a session, or is refused. -/
  | xbarMirCfgWrite (m : Mark) (session : Fin 16) (v : Word)
  /-- XBAR_MIR_DEST_WRITE (R231): A mirror destination write is accepted only while the session is disabled. -/
  | xbarMirDestWrite (m : Mark) (session : Fin 16) (v : Word)
  /-- SCHED_PORT_CFG_WRITE (R237): A write of strict_mask or mark_mask takes effect at the next decision and resets moved classes. -/
  | schedPortCfgWrite (m : Mark) (port : Fin 512) (v : Word)
  /-- SCHED_SHAPER_WRITE (R239): A shaper write takes effect at the next decision and refills or clamps the tokens. -/
  | schedShaperWrite (m : Mark) (port : Fin 512) (cls : Fin 8) (v : Word)
  /-- SCHED_POL_CFG_WRITE (R248): A policer configuration write refills both buckets, or is refused as inconsistent. -/
  | schedPolCfgWrite (m : Mark) (pol : Fin 4096) (v : Word)
  /-- SCHED_POL_BURST_WRITE (R248): A policer burst write refills both buckets, or is refused. -/
  | schedPolBurstWrite (m : Mark) (pol : Fin 4096) (v : Word)
  /-- SCHED_POL_MAP_WRITE (R245): A policer map write keeps any field naming a policer outside the quadrant. -/
  | schedPolMapWrite (m : Mark) (port : Fin 512) (half : Fin 2) (v : Word)
  /-- GATE_ENTRY_CHANGE (R240): The active gate list moves to its next entry at the fabric time it reaches. -/
  | gateEntryChange (port : Fin 512)
  /-- GATE_CHANGE_REQUEST (R243): Setting change checks the admin gate list and sets pending, or refuses it. -/
  | gateChangeRequest (m : Mark) (port : Fin 512) (v : Word)
  /-- GATE_LIST_SWAP (R244): At the activation time the admin and active lists swap and pending clears. -/
  | gateListSwap (port : Fin 512)
  /-- SCHED_GATE_DATA_WRITE (R259): A write of an admin gate entry stores it and advances the index, or is refused while pending. -/
  | schedGateDataWrite (m : Mark) (port : Fin 512) (v : Word)
  /-- COLL_CMD_NOP (R290): Collective command NOP has no effect. -/
  | collCmdNop (m : Mark) (ctx : Fin 16384)
  /-- COLL_CMD_LOAD (R266): LOAD makes check 1 and starts reading a context image. -/
  | collCmdLoad (m : Mark) (ctx : Fin 16384)
  /-- COLL_CMD_UNLOAD (R269): UNLOAD frees an idle context's reservations, or is refused. -/
  | collCmdUnload (m : Mark) (ctx : Fin 16384)
  /-- COLL_CMD_ABORT (R272): ABORT ends a running step and cancels armed steps, or completes NO_STEP. -/
  | collCmdAbort (m : Mark) (ctx : Fin 16384)
  /-- COLL_LOAD_CHECK (R266): The image read ends; the proof pass and admission checks run in one step and load or refuse the context. -/
  | collLoadCheck (path : Fin 9) (image : Option (List Byte))
  /-- COLL_STEP_OPEN (R271): In the cycle after a step ends, an armed step opens. -/
  | collStepOpen (ctx : Fin 16384)
  /-- COLL_CONTRIB_INTAKE (R273): A contribution reaches the head of the COLL output, is checked and is copied into its chunk slot. -/
  | collContribIntake
  /-- CHUNK_VERDICT (R306): A chunk's residue verdict is reached; it passes, or a mismatch leads to recomputation. -/
  | chunkVerdict (ctx : Fin 16384) (chunk : Fin 1048576) (ovr : Bool) (out : ChunkOut)
  /-- COLL_RESULT_RELEASE (R277): A chunk result that waited for its verdict, or for room among unverified early results, is released on its route. -/
  | collResultRelease (ctx : Fin 16384) (chunk : Fin 1048576)
  /-- COLL_COMMIT_DECIDE (R280): Every chunk is verified and every copy has left or is counted, and the root sends COMMIT. -/
  | collCommitDecide (ctx : Fin 16384)
  /-- COLL_STEP_END (R280): Every copy of COMMIT or RETRACT has left; the step ends, its completion record is written and its token signalled. -/
  | collStepEnd (ctx : Fin 16384)
  /-- COLL_STEP_TIMEOUT (R352): The root's step timer expires; RETRACT STEP is sent, inputs discarded and the step ends ABORT_TIMEOUT. -/
  | collStepTimeout (ctx : Fin 16384)
  /-- COLL_STEP_SLOW (R353): Half the step timeout passes and one COLL_STEP_SLOW record is written. -/
  | collStepSlow (ctx : Fin 16384)
  /-- COLL_INNER_TIMEOUT (R354): An inner device's step timer expires; it ends its step or restarts the timer once. -/
  | collInnerTimeout (ctx : Fin 16384)
  /-- CMB_UNIT_NOP (R322): Unit command NOP has no effect. -/
  | cmbUnitNop (m : Mark) (unit : Fin 128)
  /-- CMB_RETIRE_LANE (R310): RETIRE_LANE moves a logical lane to spare lane 16 from the next chunk bound. -/
  | cmbRetireLane (m : Mark) (unit : Fin 128) (lane : Fin 32)
  /-- CMB_RESTORE_LANE (R310): RESTORE_LANE resets the retirement map and frees lane 16. -/
  | cmbRestoreLane (m : Mark) (unit : Fin 128)
  /-- CMB_UNIT_FENCE_CMD (R310): FENCE withdraws a unit and rebinds its chunks, unless it is the last unit. -/
  | cmbUnitFenceCmd (m : Mark) (unit : Fin 128)
  /-- CMB_UNIT_UNFENCE (R310): UNFENCE lets a fenced unit take chunk slots again. -/
  | cmbUnitUnfence (m : Mark) (unit : Fin 128)
  /-- CMB_CLEAR_STRIKES (R310): CLEAR_STRIKES sets the unit's strikes to 0. -/
  | cmbClearStrikes (m : Mark) (unit : Fin 128)
  /-- CMB_CTRL_WRITE (R318): A write of shadow_log2n, strike_limit or auto_fence takes effect, with a lowered N refused when reservations would break. -/
  | cmbCtrlWrite (m : Mark) (v : Word)
  /-- SHADOW_COMPARE (R312): A shadow computation finishes and its lane CRCs are compared with the delivered ones. -/
  | shadowCompare (ctx : Fin 16384) (step : BitVec 18) (chunk : Fin 1048576) (err : List (Fin 4096 × BitVec 8)) (e1 e2 : Env)
  /-- SHADOW_THIRD_DONE (R312): The third computation finishes and decides the shadow outcome and strike. -/
  | shadowThirdDone (ctx : Fin 16384) (step : BitVec 18) (chunk : Fin 1048576) (err : List (Fin 4096 × BitVec 8)) (e : Env)
  /-- WRA_DESC_CMD_NOP (R349): Descriptor command NOP has no effect. -/
  | wraDescCmdNop (m : Mark) (desc : Fin 4096)
  /-- WRA_DESC_CMD_LOAD (R330): LOAD starts reading a WRA descriptor image. -/
  | wraDescCmdLoad (m : Mark) (desc : Fin 4096)
  /-- WRA_DESC_CMD_UNLOAD (R331): UNLOAD frees a descriptor, starts draining a gather descriptor, or is refused. -/
  | wraDescCmdUnload (m : Mark) (desc : Fin 4096)
  /-- WRA_DESC_LOAD_DONE (R330): The descriptor image and coefficients are read and checked; the descriptor loads or is refused. -/
  | wraDescLoadDone (path : Fin 9) (image : Option (Vector Word 8)) (coefs : Option (List (BitVec 16)))
  /-- WRA_DESC_DRAINED (R331): A DRAINING gather descriptor's last request is answered; its reservations are freed and the unload completes. -/
  | wraDescDrained (desc : Fin 4096)
  /-- WRA_PASS_START (R340): A ready pass is granted its tile and starts loading X and streaming W. -/
  | wraPassStart (work : WraWork) (col : Fin 32) (ovr : Bool)
  /-- WRA_PASS_END (R324): A pass ends; its partial feeds the next pass or the checks and output are made. -/
  | wraPassEnd (work : WraWork) (mm : Option ColMismatch)
  /-- GATHER_REQ_TAKE (R338): A GATHER_REQ at the FMEM head is checked and its rows are read, or it waits at max_inflight. -/
  | gatherReqTake
  /-- GATHER_ROWS_DONE (R338): A gather's last row arrives and the rows are pooled in the WRA or combining units. -/
  | gatherRowsDone (id : BitVec 32) (corr bad : List (BitVec 39))
  /-- WRA_TILE_NOP (R350): Tile command NOP has no effect. -/
  | wraTileNop (m : Mark) (tile : Fin 4)
  /-- WRA_RETIRE_COL (R344): RETIRE_COL moves a logical column to spare column 128 from the next pass. -/
  | wraRetireCol (m : Mark) (tile : Fin 4) (col : Fin 128)
  /-- WRA_RESTORE_COL (R344): RESTORE_COL resets the column map. -/
  | wraRestoreCol (m : Mark) (tile : Fin 4)
  /-- WRA_TILE_FENCE (R344): FENCE withdraws a tile and rebinds its work, unless it is the last tile. -/
  | wraTileFence (m : Mark) (tile : Fin 4)
  /-- WRA_TILE_UNFENCE (R344): UNFENCE lets a tile take passes again. -/
  | wraTileUnfence (m : Mark) (tile : Fin 4)
  /-- FMEM_CMD_NOP (R394): Map command NOP has no effect. -/
  | fmemCmdNop (m : Mark) (frame : Fin 512)
  /-- FMEM_CMD_MAP (R374): MAP checks and maps a window onto a frame, which starts zeroing. -/
  | fmemCmdMap (m : Mark) (frame : Fin 512)
  /-- FMEM_CMD_UNMAP (R375): UNMAP sets a frame to DRAINING. -/
  | fmemCmdUnmap (m : Mark) (frame : Fin 512)
  /-- FMEM_CMD_RESYNC (R384): RESYNC on a DEGRADED primary starts pushing its dirty granules. -/
  | fmemCmdResync (m : Mark) (frame : Fin 512)
  /-- FMEM_CMD_PROMOTE (R384): PROMOTE makes an orphaned secondary a DEGRADED primary with every granule dirty. -/
  | fmemCmdPromote (m : Mark) (frame : Fin 512)
  /-- FMEM_ZEROING_DONE (R375): A frame finishes zeroing and enters ACTIVE, DEGRADED or RESYNC by role. -/
  | fmemZeroingDone (frame : Fin 409)
  /-- FMEM_FRAME_DRAINED (R375): A DRAINING frame's in-flight count reaches 0 and it becomes FREE. -/
  | fmemFrameDrained (frame : Fin 409)
  /-- FMEM_REQUEST (R377): A memory request leaves the FMEM output, is checked and takes an in-flight slot. -/
  | fmemRequest
  /-- FMEM_ACCESS_DONE (R379): An LPDDR access completes and the response is sent, or a write waits for its mirror acknowledgement. -/
  | fmemAccessDone (id : BitVec 32) (corr bad : List (BitVec 39))
  /-- MIRROR_PUSH (R382): A MIRROR_PUSH arrives at a secondary, is written and acknowledged. -/
  | mirrorPush
  /-- MIRROR_ACK (R382): A MIRROR_ACK arrives at the primary and the pending requester is answered. -/
  | mirrorAck
  /-- MIRROR_KEEP_SEND (R382): No push has been sent for keepalive_us and the primary sends MIRROR_KEEP. -/
  | mirrorKeepSend (frame : Fin 409)
  /-- MIRROR_KEEP (R382): A MIRROR_KEEP arrives at the secondary. -/
  | mirrorKeep
  /-- MIRROR_DONE (R384): MIRROR_DONE arrives and the secondary enters ACTIVE. -/
  | mirrorDone
  /-- MIRROR_ACK_TIMEOUT (R383): No MIRROR_ACK arrives within mirror_timeout_us and the primary becomes DEGRADED. -/
  | mirrorAckTimeout (frame : Fin 409)
  /-- MIRROR_ORPHAN_TIMEOUT (R383): No mirror frame arrives for mirror_timeout_us and the secondary becomes ORPHAN. -/
  | mirrorOrphanTimeout (frame : Fin 409)
  /-- FMEM_DEGRADED_ANSWER (R383): mirror_timeout_us plus 10 us pass after the last mirror frame and the DEGRADED primary answers its held writes. -/
  | fmemDegradedAnswer (frame : Fin 409)
  /-- RESYNC_PUSH (R384): The resync pushes the next dirty granule at resync_gbps. -/
  | resyncPush (frame : Fin 409)
  /-- MR4_POLL (R389): Every 16 ms a channel's MR4 is read and a hot channel is slowed. -/
  | mr4Poll (chan : Fin 64) (rate : BitVec 4) (hot : Bool)
  /-- TIME_REQ_SEND (R401): The request interval elapses and a TIME REQ is sent on the parent or alternate port. -/
  | timeReqSend (alt : Bool)
  /-- TIME_REQ_RX (R401): A TIME REQ arrives and the device answers with a RESP within 2 us. -/
  | timeReqRx
  /-- TIME_RESP_RX (R403): A TIME RESP arrives; it is accepted, gated or discarded, and an accepted exchange updates the servo. -/
  | timeRespRx
  /-- TIME_EXCHANGE_LOST (R403): 100 us pass with no accepted RESP; the lost run grows and the parent may become ineligible. -/
  | timeExchangeLost (alt : Bool)
  /-- TIME_ALT_WAIT_EXPIRY (R408): alt_wait_ms after the parent is lost, the device switches to an eligible alternate parent. -/
  | timeAltWaitExpiry
  /-- TIME_PARENT_WRITE (R408): A write of the parent settings selects the parent, entering HOLDOVER first when needed. -/
  | timeParentWrite (m : Mark) (v : Word)
  /-- TIME_CTRL_WRITE (R405): A write of servo_en, gm_en, ref_sel or the other time controls changes the time state or reference. -/
  | timeCtrlWrite (m : Mark) (v : Word)
  /-- HOLDOVER_AGE_TICK (R407): Each 100 ms of holdover advances holdover_age and may make time degraded. -/
  | holdoverAgeTick
  /-- PPS_IN_EDGE (R410): A PPS_IN rising edge is captured and steps or steers fabric time, or is rejected. -/
  | ppsInEdge (quarter : Fin 4)
  /-- PPS_LOSS (R410): No accepted PPS_IN edge for 2 s writes TIME_PPS_LOST and enters HOLDOVER. -/
  | ppsLoss
  /-- PPS_OUT_EDGE (R410): Fabric time reaches a whole second and PPS_OUT rises for pps_width_ms. -/
  | ppsOutEdge
  /-- CLK10M_LOSS (R411): CLK10M_IN is lost for 10 us and the time PLL switches to REFCLK. -/
  | clk10mLoss
  /-- TRIG_EDGE (R413): A trigger output reaches a scheduled pulse edge. -/
  | trigEdge (k : Fin 4)
  /-- TRIG_CTRL_WRITE (R413): A write that sets or clears a trigger's enable is checked and arms, refuses or stops the output. -/
  | trigCtrlWrite (m : Mark) (k : Fin 4) (v : Word)
  /-- CAP_EDGE (R414): A selected edge on a capture input is timestamped into its FIFO, or lost on overflow. -/
  | capEdge (c : Fin 4) (falling : Bool) (quarter : Fin 4)
  /-- CAP_POP_READ (R426): A read of TIME_CAP_NS returns the head capture and removes it. -/
  | capPopRead (m : Mark) (c : Fin 4)
  /-- TIME_NOW_READ (R421): A read of TIME_NOW_NS returns fabric time and latches its fraction and the local counter. -/
  | timeNowRead (m : Mark)
  /-- TIME_OFFSET_NS_WRITE (R423): A write of the offset steps fabric time with the staged fraction, or is discarded outside FREE and GRANDMASTER. -/
  | timeOffsetNsWrite (m : Mark) (v : Word)
  /-- TIME_OFFSET_FRAC_WRITE (R423): A write of the offset fraction is staged for the next offset write. -/
  | timeOffsetFracWrite (m : Mark) (v : Word)
  /-- TIME_RATE_WRITE (R423): A write of the rate is clamped and stored in FREE, or discarded otherwise. -/
  | timeRateWrite (m : Mark) (v : Word)
  /-- QUEUE_LINE_INVALIDATE (R432): A snoop invalidates a watched line and the device reads it again within 400 ns. -/
  | queueLineInvalidate (l : WatchLine)
  /-- WATCH_REFRESH (R432): watch_refresh_us elapses and each watched line is read again. -/
  | watchRefresh
  /-- QUEUE_LINE_READ_DONE (R432): A watched line is read; a valid entry is buffered and head advances, or a consumer index is taken. -/
  | queueLineReadDone (l : WatchLine) (line : Option (Vector Word 8))
  /-- ENTRY_START (R434): A queue head becomes ready and starts, taking its wait count, or fails its checks. -/
  | entryStart (q : Fin 512)
  /-- FENCE_ENTRY_RETIRE (R430): Every operation of earlier entries ends and a FENCE entry retires. -/
  | fenceEntryRetire (q : Fin 512)
  /-- CRING_HOLD_FLUSH (R439): The completion ring gains room and held records are written. -/
  | cringHoldFlush (q : Fin 512)
  /-- CSQ_Q_CMD_NOP (R449): Queue command NOP has no effect. -/
  | csqQCmdNop (m : Mark) (q : Fin 512)
  /-- CSQ_Q_CMD_STOP (R449): STOP ends the running entry with STOPPED and halts the queue. -/
  | csqQCmdStop (m : Mark) (q : Fin 512)
  /-- CSQ_Q_CMD_RESUME (R449): RESUME restarts a halted queue at its head. -/
  | csqQCmdResume (m : Mark) (q : Fin 512)
  /-- CSQ_Q_CMD_RESET (R449): RESET sets head and phase to their start and restarts the completion ring. -/
  | csqQCmdReset (m : Mark) (q : Fin 512)
  /-- CSQ_Q_CMD_MAP_COMMIT (R446): MAP_COMMIT checks the staged map and installs it at the next command boundary. -/
  | csqQCmdMapCommit (m : Mark) (q : Fin 512)
  /-- CSQ_Q_CFG_WRITE (R450): A queue configuration write is limited while enabled; setting enable acts as RESET. -/
  | csqQCfgWrite (m : Mark) (q : Fin 512) (v : Word)
  /-- END (R457): END retires the entry OK and copies g1 and g2 into the record. -/
  | dxEnd (q : Fin 512)
  /-- NOP (R460): Drivex NOP does nothing. -/
  | dxNop (q : Fin 512)
  /-- SET (R460): SET writes a sign-extended constant to d. -/
  | dxSet (q : Fin 512)
  /-- SETHI (R460): SETHI writes the high 20 bits of d. -/
  | dxSethi (q : Fin 512)
  /-- ADD (R460): ADD writes a + b + c to d. -/
  | dxAdd (q : Fin 512)
  /-- AND (R460): AND writes a AND b to d. -/
  | dxAnd (q : Fin 512)
  /-- OR (R460): OR writes a OR b to d. -/
  | dxOr (q : Fin 512)
  /-- SHIFT (R460): SHIFT writes a shifted left or right to d. -/
  | dxShift (q : Fin 512)
  /-- BR (R460): BR moves to pc + offset when its condition holds. -/
  | dxBr (q : Fin 512)
  /-- LOOP (R461): LOOP runs its body count times with the iteration index in d. -/
  | dxLoop (q : Fin 512)
  /-- WAIT_TOKEN (R462): WAIT in mode TOKEN blocks until a token holds n, then takes n. -/
  | dxWaitToken (q : Fin 512)
  /-- WAIT_TIME (R462): WAIT in mode TIME blocks until fabric time reaches a. -/
  | dxWaitTime (q : Fin 512)
  /-- WAIT_DONE (R462): WAIT in mode DONE blocks until every operation the entry started has ended. -/
  | dxWaitDone (q : Fin 512)
  /-- WAIT_SATISFIED (R462): A blocked WAIT's condition comes to hold and the entry continues. -/
  | dxWaitSatisfied (q : Fin 512)
  /-- WAIT_LIMIT_EXPIRY (R462): A WAIT reaches its limit and fails with WAIT_LIMIT. -/
  | dxWaitLimitExpiry (q : Fin 512)
  /-- SIGNAL (R460): SIGNAL adds n to a token, one signal at a time. -/
  | dxSignal (q : Fin 512)
  /-- TBL_ACQ (R463): TBL.ACQ acquires a bucket on a lock slot. -/
  | dxTblAcq (q : Fin 512)
  /-- TBL_STAGE (R463): TBL.STAGE writes a staging word of a held slot. -/
  | dxTblStage (q : Fin 512)
  /-- TBL_GET (R463): TBL.GET reads a staging word of a held slot into d. -/
  | dxTblGet (q : Fin 512)
  /-- TBL_COMMIT (R463): TBL.COMMIT commits the slots of a mask under R194. -/
  | dxTblCommit (q : Fin 512)
  /-- TBL_REL (R463): TBL.REL releases a lock slot. -/
  | dxTblRel (q : Fin 512)
  /-- TBL_LIMIT (R463): TBL.LIMIT sets a port's learning limit and excess mode. -/
  | dxTblLimit (q : Fin 512)
  /-- MC_WRITE (R463): MC.WRITE reads a group entry from the KCL and runs WRITE on the group. -/
  | dxMcWrite (q : Fin 512)
  /-- COLL_LOAD (R464): COLL.LOAD starts loading a context from an image. -/
  | dxCollLoad (q : Fin 512)
  /-- COLL_UNLOAD (R464): COLL.UNLOAD unloads a context. -/
  | dxCollUnload (q : Fin 512)
  /-- COLL_LAUNCH (R270): COLL.LAUNCH opens a step and arms the rest, or adds to armed_steps. -/
  | dxCollLaunch (q : Fin 512)
  /-- COLL_ABORT (R464): COLL.ABORT aborts a context's running step and armed steps. -/
  | dxCollAbort (q : Fin 512)
  /-- COLL_STATE (R464): COLL.STATE reads a context's state into d. -/
  | dxCollState (q : Fin 512)
  /-- WRA_LOAD (R464): WRA.LOAD starts loading a WRA descriptor. -/
  | dxWraLoad (q : Fin 512)
  /-- WRA_UNLOAD (R464): WRA.UNLOAD unloads a WRA descriptor. -/
  | dxWraUnload (q : Fin 512)
  /-- PORT_CMD (R465): PORT.CMD issues a port command of R172. -/
  | dxPortCmd (q : Fin 512)
  /-- PORT_CFG (R465): PORT.CFG writes a port's PORT_CFG under R45. -/
  | dxPortCfg (q : Fin 512)
  /-- PORT_STENCIL (R465): PORT.STENCIL reads a stencil entry from the KCL and writes it in one step. -/
  | dxPortStencil (q : Fin 512)
  /-- PORT_READ (R465): PORT.READ reads a selected port status register into d. -/
  | dxPortRead (q : Fin 512)
  /-- XPR_CFG (R466): XPR.CFG writes a circuit's configuration. -/
  | dxXprCfg (q : Fin 512)
  /-- XPR_WT (R466): XPR.WT writes a circuit's weights. -/
  | dxXprWt (q : Fin 512)
  /-- XPR_SETUP (R466): XPR.SETUP sets act_time and starts a circuit setup operation. -/
  | dxXprSetup (q : Fin 512)
  /-- XPR_TEAR (R466): XPR.TEAR starts a teardown operation. -/
  | dxXprTear (q : Fin 512)
  /-- XPR_REWEIGHT (R466): XPR.REWEIGHT starts a reweight operation. -/
  | dxXprReweight (q : Fin 512)
  /-- XPR_READ (R466): XPR.READ reads a circuit's status into d. -/
  | dxXprRead (q : Fin 512)
  /-- LANE_OCT (R466): LANE.OCT issues an octet command of LAS_OCT_CMD. -/
  | dxLaneOct (q : Fin 512)
  /-- LANE_NEXT (R466): LANE.NEXT writes a port's next lane map and arms the switches. -/
  | dxLaneNext (q : Fin 512)
  /-- LANE_CW (R466): LANE.CW writes a port's switch codewords. -/
  | dxLaneCw (q : Fin 512)
  /-- RING_CMD (R466): RING.CMD issues a ring command of R81. -/
  | dxRingCmd (q : Fin 512)
  /-- LANE_READ (R466): LANE.READ reads a selected octet or lane register into d. -/
  | dxLaneRead (q : Fin 512)
  /-- TIME_NOW (R467): TIME.NOW reads fabric time into d. -/
  | dxTimeNow (q : Fin 512)
  /-- TIME_STAT (R467): TIME.STAT reads TIME_STATUS into d. -/
  | dxTimeStat (q : Fin 512)
  /-- TIME_PARENT (R467): TIME.PARENT writes TIME_PARENT. -/
  | dxTimeParent (q : Fin 512)
  /-- TRIG_PERIOD (R467): TRIG.PERIOD writes a trigger's width and period. -/
  | dxTrigPeriod (q : Fin 512)
  /-- TRIG_ARM (R467): TRIG.ARM sets start, count and polarity and enables a trigger. -/
  | dxTrigArm (q : Fin 512)
  /-- TRIG_OFF (R467): TRIG.OFF disables a trigger. -/
  | dxTrigOff (q : Fin 512)
  /-- CAP_POP (R467): CAP.POP pops a capture FIFO into d. -/
  | dxCapPop (q : Fin 512)
  /-- MEM_MAP (R467): MEM.MAP starts a MAP of a frame with ARG0 and ARG1 from registers. -/
  | dxMemMap (q : Fin 512)
  /-- MEM_UNMAP (R467): MEM.UNMAP starts an UNMAP operation. -/
  | dxMemUnmap (q : Fin 512)
  /-- MEM_RESYNC (R467): MEM.RESYNC starts a RESYNC operation. -/
  | dxMemResync (q : Fin 512)
  /-- MEM_PROMOTE (R467): MEM.PROMOTE starts a PROMOTE operation. -/
  | dxMemPromote (q : Fin 512)
  /-- MEM_READ (R467): MEM.READ reads a frame's state into d. -/
  | dxMemRead (q : Fin 512)
  /-- DMA_RUN (R467): DMA.RUN starts a DMA program on a channel. -/
  | dxDmaRun (q : Fin 512)
  /-- DMA_ABORT (R467): DMA.ABORT aborts a channel. -/
  | dxDmaAbort (q : Fin 512)
  /-- DMA_READ (R467): DMA.READ reads a channel's status into d. -/
  | dxDmaRead (q : Fin 512)
  /-- PROG_LOAD (R469): PROG.LOAD starts loading and proving a program into a handle. -/
  | dxProgLoad (q : Fin 512)
  /-- PROG_LOAD_DONE (R469): A program load finishes its read, proof and copy, and the handle is set or the load fails. -/
  | dxProgLoadDone (handle : Fin 4096) (image : Option (List Word))
  /-- PROG_UNLOAD (R470): PROG.UNLOAD frees a handle's program blocks, or is refused. -/
  | dxProgUnload (q : Fin 512)
  /-- PROG_POWER (R467): PROG.POWER makes a power-domain request. -/
  | dxProgPower (q : Fin 512)
  /-- DMA_CMD_NOP (R486): DMA channel command NOP has no effect. -/
  | dmaCmdNop (m : Mark) (chan : Fin 32)
  /-- DMA_CMD_RUN (R473): RUN starts the program at DMA_CH_PROG with FABRIC privilege, or is refused. -/
  | dmaCmdRun (m : Mark) (chan : Fin 32)
  /-- DMA_CMD_RESUME (R483): RESUME clears the halt and reissues from the restart point. -/
  | dmaCmdResume (m : Mark) (chan : Fin 32)
  /-- DMA_CMD_ABORT (R484): ABORT sends the channel to ABORTING. -/
  | dmaCmdAbort (m : Mark) (chan : Fin 32)
  /-- DMA_MOVE (R479): A DMA MOVE is checked and issues its bursts with its shuffle. -/
  | dmaMove (chan : Fin 32) (fetch : Option (Vector Word 4))
  /-- DMA_LOOP (R475): A DMA LOOP repeats its body with strided addresses. -/
  | dmaLoop (chan : Fin 32) (fetch : Option (Vector Word 4))
  /-- DMA_WAIT_TOKEN (R476): A DMA WAIT TOKEN blocks until a token holds n. -/
  | dmaWaitToken (chan : Fin 32) (fetch : Option (Vector Word 4))
  /-- DMA_WAIT_EVENT (R476): A DMA WAIT EVENT blocks until a pulse on its line. -/
  | dmaWaitEvent (chan : Fin 32) (fetch : Option (Vector Word 4))
  /-- DMA_WAIT_SATISFIED (R476): A blocked DMA WAIT's condition holds and the program continues. -/
  | dmaWaitSatisfied (chan : Fin 32)
  /-- DMA_WAIT_LIMIT (R476): A DMA WAIT reaches its limit and the channel halts. -/
  | dmaWaitLimit (chan : Fin 32)
  /-- DMA_SIGNAL_TOKEN (R476): After earlier writes complete, a DMA SIGNAL adds n to a token. -/
  | dmaSignalToken (chan : Fin 32) (fetch : Option (Vector Word 4))
  /-- DMA_SIGNAL_EVENT (R477): After earlier writes complete, a DMA SIGNAL pulses an event line to its consumers. -/
  | dmaSignalEvent (chan : Fin 32) (fetch : Option (Vector Word 4))
  /-- DMA_END (R481): A DMA END waits for every write response before the program ends. -/
  | dmaEnd (chan : Fin 32) (fetch : Option (Vector Word 4))
  /-- DMA_BURST_RESPONSE (R481): A burst's read or write response arrives, or an error starts a halt. -/
  | dmaBurstResponse (chan : Fin 32) (burst : BitVec 32) (data : Option (List Byte)) (corr bad : List (BitVec 39))
  /-- DMA_PROGRAM_DONE (R481): The last write response of an ended program arrives; last_result is set and the channel returns to IDLE. -/
  | dmaProgramDone (chan : Fin 32)
  /-- DMA_HALT_SETTLED (R482): Outstanding responses of a halting channel arrive; it enters HALTED and writes DMA_HALT. -/
  | dmaHaltSettled (chan : Fin 32)
  /-- DMA_ABORT_DONE (R484): Every access of an aborting channel has its response and the channel returns to IDLE. -/
  | dmaAbortDone (chan : Fin 32)
  /-- SNAPSHOT_TIME (R497): Fabric time reaches snap_time or the next period and a counter snapshot is taken. -/
  | snapshotTime (more : BitVec 16)
  /-- SNAP_NOW (R497): A write of snap_now takes a snapshot, or counts it missed. -/
  | snapNow (m : Mark) (v : Word)
  /-- DUMP_RECORD_WRITE (R499): The dump writes its next record within its KCL share, or waits for ring room. -/
  | dumpRecordWrite
  /-- WINDOW_LATCH (R495): Fabric time reaches a window end and every port latches its window counters. -/
  | windowLatch
  /-- RAS_FIFO_DRAIN (R509): The next event in the record FIFO is written to the bank with the next sequence number. -/
  | rasFifoDrain
  /-- RATE_LIMIT_INTERVAL_END (R507): A one-second rate-limit interval ends and one record carries its folded events. -/
  | rateLimitIntervalEnd
  /-- RAS_KEEP_CLEAR (R518): Setting keep_clear empties the keep area and its persistent copy. -/
  | rasKeepClear (m : Mark) (v : Word)
  /-- RAS_TRACE_CFG_WRITE (R516): A write of the trace configuration clears every bin. -/
  | rasTraceCfgWrite (m : Mark) (v : Word)
  /-- PORST_N_ASSERT (R520): PORST_N is asserted and a POWER reset starts. -/
  | porstNAssert
  /-- PORST_N_RELEASE (R569): PORST_N is released and the boot ROM starts. -/
  | porstNRelease
  /-- WRST_N_ASSERT (R522): WRST_N is held for 1 us and a warm reset runs its sequence. -/
  | wrstNAssert
  /-- SYS_RESET_NOP (R541): Reset command NOP has no effect. -/
  | sysResetNop (m : Mark) (confirm : BitVec 16)
  /-- SYS_RESET_WARM (R522): A confirmed WARM reset command starts a warm reset. -/
  | sysResetWarm (m : Mark) (confirm : BitVec 16)
  /-- SYS_RESET_COLD (R520): A confirmed COLD reset command switches every domain off and reruns the boot ROM. -/
  | sysResetCold (m : Mark) (confirm : BitVec 16)
  /-- BOOT_WATCHDOG (R529): Boot stages run past boot_watchdog_ms and a warm reset with cause WATCHDOG follows. -/
  | bootWatchdog
  /-- CONFIRM_TIMEOUT (R537): A trial image is not confirmed in time and a warm reset boots the other slot. -/
  | confirmTimeout
  /-- BOOT_ROM_START_DONE (R528): ROM_START finishes self-test, fuse sensing, strap latching and the first AVS trim. -/
  | bootRomStartDone (straps : BitVec 4) (mv : Vector (BitVec 12) 3)
  /-- BOOT_SELECT_DONE (R529): A slot is chosen, or the ROM stays in SELECT with BOOT_NO_IMAGE. -/
  | bootSelectDone
  /-- BOOT_VERIFY_DONE (R531): The image header checks end; the slot passes or is marked INVALID and the other is taken. -/
  | bootVerifyDone (img : Option ImageInfo)
  /-- BOOT_LOAD_DONE (R528): The body is read and hashed; it loads or its slot is abandoned. -/
  | bootLoadDone (readOk hashOk : Bool)
  /-- BOOT_RESTORE_DONE (R525): The persistent store is read, warm-boot records written, keys derived and READY reached. -/
  | bootRestoreDone (recordBad : Bool)
  /-- KCL_BOOT_GO (R528): Setting go lets a KCL boot leave SELECT. -/
  | kclBootGo (m : Mark) (v : Word)
  /-- SEC_CMD_NOP (R542): Security command NOP has no effect. -/
  | secCmdNop (m : Mark) (v : BitVec 60)
  /-- SEC_CMD_WRITE (R536): WRITE copies an image into a flash slot and verifies it. -/
  | secCmdWrite (m : Mark) (v : BitVec 60)
  /-- SEC_CMD_VERIFY (R536): VERIFY runs the image checks on a slot and sets its state. -/
  | secCmdVerify (m : Mark) (v : BitVec 60)
  /-- SEC_CMD_PREFER_TRIAL (R536): PREFER_TRIAL makes a valid slot preferred with its trial flag set. -/
  | secCmdPreferTrial (m : Mark) (v : BitVec 60)
  /-- SEC_CMD_CONFIRM (R537): CONFIRM clears the running slot's trial flag. -/
  | secCmdConfirm (m : Mark) (v : BitVec 60)
  /-- SEC_CMD_SVN_COMMIT (R532): SVN_COMMIT burns fused svn bits up to the running image's svn. -/
  | secCmdSvnCommit (m : Mark) (v : BitVec 60)
  /-- SEC_CMD_REVOKE (R533): REVOKE burns the revoke bit of a key index not in use. -/
  | secCmdRevoke (m : Mark) (v : BitVec 60)
  /-- SEC_CMD_ATTEST (R535): ATTEST writes a signed measurement report or the certificate chain. -/
  | secCmdAttest (m : Mark) (v : BitVec 60)
  /-- SEC_CMD_EXTEND (R535): EXTEND appends 48 B to the measurement log. -/
  | secCmdExtend (m : Mark) (v : BitVec 60)
  /-- KCL_READ_TIMEOUT (R546): A device-mastered KCL read is unanswered within read_timeout_us and ends with an error. -/
  | kclReadTimeout (k : Fin 256)
  /-- KCL_LANE_DEGRADE (R548): A KCL lane fails or replays too often and the link retrains at half width. -/
  | kclLaneDegrade (failed : BitVec 8)
  /-- KCL_REPLAY_FAIL (R548): A flit replay fails 16 times; the link retrains and requests in flight end in error. -/
  | kclReplayFail
  /-- KCL_RETRAIN_CMD (R548): Setting retrain while the width is 4 retrains the link at full width if possible. -/
  | kclRetrainCmd (m : Mark) (v : Word)
  /-- KCL_RETRAIN_DONE (R548): KCL retraining completes and requests flow again. -/
  | kclRetrainDone (pass : BitVec 8)
  /-- SVC_BIND_WRITE (R550): A write of bind_en and bind_port binds or unbinds a service port, or is refused. -/
  | svcBindWrite (m : Mark) (svc : Fin 2) (v : Word)
  /-- KCL_SVC_ADDR_WRITE (R557): A write of the service MAC, peer or VLAN settings is accepted only while the bound port is fenced or DISABLED. -/
  | kclSvcAddrWrite (m : Mark) (svc : Fin 2) (r : Fin 3) (v : Word)
  /-- SVC_LOCK_HELD (R552): PCS block and RS-FEC lock hold for 1 ms and a bound port begins the ID exchange. -/
  | svcLockHeld (svc : Fin 2)
  /-- SVC_LOCK_LOSS (R552): Block lock is lost for 10 us and the bound port's link is lost. -/
  | svcLockLoss (svc : Fin 2)
  /-- SVC_FRAME_RX (R551): An Ethernet frame arrives on a service port and is taken as a fabric unit, passed through or dropped. -/
  | svcFrameRx (svc : Fin 2) (bytes : List Byte)
  /-- PFC_RX (R554): A PFC frame arrives and holds the classes of its priority for its quanta. -/
  | pfcRx (svc : Fin 2) (en : BitVec 8) (quanta : Vector (BitVec 16) 8)
  /-- PFC_PAUSE_EXPIRY (R554): A received PFC pause runs out and its classes may send again. -/
  | pfcPauseExpiry (svc : Fin 2) (prio : Fin 8)
  /-- PFC_XOFF_SEND (R554): Charged cells of a class reach iq_c minus headroom and XOFF is sent for its priority. -/
  | pfcXoffSend (svc : Fin 2) (prio : Fin 8)
  /-- PFC_XOFF_REPEAT (R554): Every 100 us while the condition holds XOFF is sent again. -/
  | pfcXoffRepeat (svc : Fin 2) (prio : Fin 8)
  /-- PFC_XON_SEND (R554): Every class of a priority falls below half its quota and XON is sent. -/
  | pfcXonSend (svc : Fin 2) (prio : Fin 8)
  /-- RAIL_OUT_OF_RANGE (R563): A rail leaves its range for 20 us; a POWER reset or a RAIL_FAULT shutdown follows. -/
  | railOutOfRange (rail : Fin 12) (mv : BitVec 16) (sustained : Bool)
  /-- AVS_TRIM (R564): Every 100 ms the AVS rails are trimmed from the delay monitors, or a fault stops trimming. -/
  | avsTrim (rail : Fin 3) (mv : BitVec 12) (ack alert : Bool)
  /-- REFCLK_LOSS (R568): REFCLK is missed for 1 us; lasers shut, domains other than PD0 switch off and REFCLK_LOST is written. -/
  | refclkLoss
  /-- THERM_SAMPLE (R577): Every 10 us each sensor is compared with its zone's warning, limit and trip levels. -/
  | thermSample (sensor : Fin 72) (temp : BitVec 8)
  /-- I2C_READ_THERM (R572): The management controller reads I2C_THERM over I2C. -/
  | i2cReadTherm
  /-- I2C_READ_STATUS (R572): The management controller reads I2C_STATUS over I2C. -/
  | i2cReadStatus
  /-- I2C_WRITE_STATUS (R574): The management controller writes I2C_STATUS and clears W1C alert bits. -/
  | i2cWriteStatus (v : Word)
  /-- I2C_BAD_COMMAND (R572): An unknown command byte, or data after 0x10, is not acknowledged. -/
  | i2cBadCommand (cmd : BitVec 8) (data : List Byte)
  /-- TAP_EXTEST (R571): EXTEST drives pins while board test holds the ROM, and acts as BYPASS otherwise. -/
  | tapExtest (levels : List Bool)
  /-- TAP_EXTEST_PULSE (R571): EXTEST_PULSE drives AC test pulses under board test, and acts as BYPASS otherwise. -/
  | tapExtestPulse (levels : List Bool)
  /-- TAP_EXTEST_TRAIN (R571): EXTEST_TRAIN drives pulse trains under board test, and acts as BYPASS otherwise. -/
  | tapExtestTrain (levels : List Bool)
  /-- TAP_IDCODE (R571): IDCODE shifts out the device's identification code. -/
  | tapIdcode
  /-- TAP_BYPASS (R571): BYPASS places the one-bit bypass register between TDI and TDO. -/
  | tapBypass (tdi : List Bool)
  /-- TRST_N_ASSERT (R571): TRST_N low holds the TAP in reset. -/
  | trstNAssert
  /-- IDLE_WORD_ACCEPT (R148): While the receiver hunts, an idle word followed by a second idle word is accepted and framing is regained. -/
  | idleWordAccept (port : Fin 512)
  /-- INVALID_UNIT_RX (R148): A unit beginning with an invalid ver, or a link-control frame whose CRC-32C fails, is received; framing is lost, HDR_CRC is counted and the receiver hunts. -/
  | invalidUnitRx (port : Fin 512)
  /-- DFB_RAMP_UP_DONE (R108): A DFB finishes its 2 ms bias ramp and goes from RAMP_UP to SETTLE, where its wavelength settles. -/
  | dfbRampUpDone (octet : Fin 64) (slot : Fin 5) (b : Fin 2) (bias : BitVec 12)
  /-- PRIMARY_LIT_TIMEOUT (R120): In REVERT, the relit primary fails to reach LIT, the slot is parked and the outcome becomes PARKED. -/
  | primaryLitTimeout (octet : Fin 64)
  /-- XPR_REWEIGHT_DONE (R131): The recalibration of a REWEIGHT ends, the new weights couple in one step and the XPR.REWEIGHT operation ends at ACTIVE. -/
  | xprReweightDone (c : Fin 64)
  /-- MC_WRITE_READ_DONE (R463): The 128 B group entry read by MC.WRITE arrives, or fails with IMAGE_READ, and the WRITE on the group is started. -/
  | mcWriteReadDone (q : Fin 512) (group : Fin 65536) (entry : Option (Vector Word 16))
  /-- PORT_STENCIL_READ_DONE (R465): The 32 B stencil entry read by PORT.STENCIL arrives and is written to PORT_STENCIL_0 to 3 in one step under R63, or the operation fails with IMAGE_READ. -/
  | portStencilReadDone (q : Fin 512) (port : Fin 512) (entry : Option (Vector Word 4))
  /-- SEC_CMD_DONE (R536): A running SEC command finishes; busy clears, and the result is set and recorded. -/
  | secCmdDone (r : SecOutcome)
  /-- KCL_WRITE_RESPONSE (R510): The KCL write response for a device-mastered record copy arrives; on an error completion ring_skipped adds 1 and the tail does not advance. -/
  | kclWriteResponse (ok : Bool)
  /-- RESET_RECORD_PERIODIC_UPDATE (R524): At least every 4 us while a step runs, the step entries of the reset record are updated. -/
  | resetRecordPeriodicUpdate
  /-- RAIL_RETURN_IN_RANGE (R563): A rail that was out of range for less than 20 us returns to range, and the domains held in reset while it was out are released. -/
  | railReturnInRange (rail : Fin 12) (trained : BitVec 64)
  deriving DecidableEq, Repr

end Sys2Proof
end

