-- ==== Sys2Proof/Config.lean ====
section
/-! DEFINITION. What the spec leaves open: constants without a body. Nothing in Lean can evaluate one of them, so a
statement about a machine that uses one holds whatever its value is. The argument named `n` is the counter of draws of the
state (`Dev.fresh`), so that each draw may differ (log entry 4). -/

namespace Sys2Proof.Config

/-- A value the spec says is drawn or undefined, by draw number: the LFSR draws of R219 and R249 (the spec gives neither
taps nor seed). -/
opaque freeDraw : Nat → Nat

/-- The place of a key in the echo table's hash, where R251 names a hash and does not give it. -/
opaque echoHash : Nat → Nat

/-- What the device holds for a quotient that is no whole number, where the spec states real arithmetic and no precision
(R83, R410), by the exact numerator and denominator. -/
opaque rounded : Int → Nat → Int

/-- Whether a quotient that falls between two codes of a register takes the upper one, where the spec names the register's
unit and no rounding (R112, R399, R403, R405, R406). -/
opaque roundsUp : Int → Nat → Bool

/-- The manufacturer identity assigned to Keriskuth under JEP106 (R571). -/
opaque jep106 : Nat

/-- The public attestation key and the certificate of it, by log entries 0 to 3; the certificate of the device identity key: all rest
on secrets of the device, which the spec does not give (R534, R535). -/
opaque attestKey : List (List Nat) → Nat
opaque attestCert : List (List Nat) → List Nat
opaque identityCert : List Nat

end Sys2Proof.Config
end

