-- ==== Sys2Proof/Machine/Bits.lean ====
section
/-! DEFINITION. Bit fields, two's complement and saturation on natural numbers. -/

namespace Sys2Proof.Machine

/-- Bits `[lo+w-1:lo]` of `x`. -/
def slice (x lo w : Nat) : Nat := x / 2 ^ lo % 2 ^ w

/-- Bit `i` of `x`. -/
def bit (x i : Nat) : Bool := x / 2 ^ i % 2 == 1

/-- `x` with bit `i` set. -/
def setBit (x i : Nat) : Nat := if bit x i then x else x + 2 ^ i

/-- `x` with bit `i` cleared. -/
def clrBit (x i : Nat) : Nat := if bit x i then x - 2 ^ i else x

/-- `x` with bit `i` made `b`. -/
def putBit (x i : Nat) (b : Bool) : Nat := if b then setBit x i else clrBit x i

/-- 0 or 1. -/
def b2n (b : Bool) : Nat := if b then 1 else 0

/-- A quotient of real arithmetic whose precision the spec leaves open: itself where it is whole (log entry 4). -/
def ratioFree (num : Int) (den : Nat) : Int := if num % den = 0 then num / den else Config.rounded num den

/-- A quotient put into whole codes of a register: itself where it is whole, else one of the two codes it lies between
(log entry 4). -/
def ratioRound (num : Int) (den : Nat) : Int :=
  num / den + (if num % den = 0 then 0 else if Config.roundsUp num den then 1 else 0)

/-- The bits of `x` below `n`, as the list of the indexes that are 1, rising. -/
def bitsOf (n x : Nat) : List Nat := (List.range n).filter (bit x)

/-- The number whose bit `i` is 1 just for the `i` below `n` that satisfy `p`. -/
def maskOf (n : Nat) (p : Nat → Bool) : Nat :=
  (List.range n).foldl (fun a i => if p i then a + 2 ^ i else a) 0

/-- The `w`-bit two's complement value of `x`. -/
def sgn (w x : Nat) : Int :=
  let y := x % 2 ^ w
  if y < 2 ^ (w - 1) then (y : Int) else (y : Int) - 2 ^ w

/-- The `w`-bit two's complement code of `x`. -/
def wrap (w : Nat) (x : Int) : Nat := (x % 2 ^ w).toNat

/-- `x` held within the signed `w`-bit range, coded in two's complement. -/
def satS (w : Nat) (x : Int) : Nat :=
  wrap w (max (-(2 ^ (w - 1))) (min x (2 ^ (w - 1) - 1)))

/-- `x` held at the largest `w`-bit number. -/
def satU (w x : Nat) : Nat := min x (2 ^ w - 1)

/-- `⌈a / b⌉`. -/
def cdiv (a b : Nat) : Nat := (a + b - 1) / b

/-- The little-endian number of a list of bytes (R7). -/
def leNat : List Nat → Nat
  | [] => 0
  | b :: bs => b % 256 + 256 * leNat bs

/-- The `n` little-endian bytes of `x`. -/
def leBytes : Nat → Nat → List Nat
  | 0, _ => []
  | n + 1, x => x % 256 :: leBytes n (x / 256)

/-- The big-endian number of a list of bytes (R7). -/
def beNat (l : List Nat) : Nat := l.foldl (fun a b => a * 256 + b % 256) 0

/-- The `n` big-endian bytes of `x`. -/
def beBytes (n x : Nat) : List Nat := (leBytes n x).reverse

/-- The list with element `i` replaced. -/
def setAt {α : Type} (l : List α) (i : Nat) (v : α) : List α := l.set i v

/-- Insertion of `x` behind every element it does not precede, `le` deciding. -/
def insertBy {α : Type} (le : α → α → Bool) (x : α) : List α → List α
  | [] => [x]
  | y :: ys => if le y x then y :: insertBy le x ys else x :: y :: ys

/-- Stable insertion sort. -/
def sortBy {α : Type} (le : α → α → Bool) (l : List α) : List α :=
  l.foldl (fun acc x => insertBy le x acc) []

/-- The first index below `n` that satisfies `p`. -/
def firstBelow (n : Nat) (p : Nat → Bool) : Option Nat := (List.range n).find? p

/-- The number of indexes below `n` that satisfy `p`. -/
def countBelow (n : Nat) (p : Nat → Bool) : Nat :=
  (List.range n).foldl (fun a i => if p i then a + 1 else a) 0

/-- The sum of `f` over the indexes below `n`. -/
def sumBelow (n : Nat) (f : Nat → Nat) : Nat := (List.range n).foldl (fun a i => a + f i) 0

end Sys2Proof.Machine
end

