-- ==== Sys2Proof/Machine/Codes.lean ====
section
/-! DEFINITION. The codes of the error records (R511 and the tables of chapters 20 to 22) and of the counter events (R489). -/

namespace Sys2Proof.Machine

/-- The codes an error record may carry (R511). -/
inductive RecCode where
  | REG_UNMAPPED | REG_RSVD_ENC | REG_DOMAIN_OFF | REG_PRIVILEGE | PD_DEP_REFUSED | BG_OVERRUN | D2D_FAIL 
  | GEID_INVALID | PLANE_MISMATCH | HOP_LIMIT | DOR_VIOLATION | VALLEY | HAIRPIN | NO_ROUTE | SHAPE_REFUSED 
  | ROLE_REFUSED | ROLE_BUSY | STENCIL_MISMATCH | STENCIL_UNPLANNED | CABLE_SWAP | LINK_REV_QUARANTINE 
  | OPT_RING_FAULT | OPT_RING_FENCE | OPT_RING_RAIL | OPT_WRONG_CHANNEL | OPT_WRONG_ORDER | OPT_RING_RAIL_NEAR 
  | OPT_MARGIN_LOW | OPT_MARGIN_ALARM | OPT_FF_LOST | OPT_PWR_REQ_EXCESS | OPT_RING_BUSY | LANE_MAP_INVALID 
  | LANE_MAP_BUSY | LANE_SWITCH_LATE | LAS_BIAS_WARN | LAS_BIAS_MAX | LAS_WEAR_OUT | LAS_NO_STANDBY 
  | LAS_PARKED | LAS_DFB_FAIL | LAS_SPARE_FAIL | LAS_SPARE_START | LAS_SPARE_DONE | LAS_RESUMED 
  | LAS_SPARE_NO_PEER | LAS_SEQ_OWNS_PORT | LAS_ABORT_LATE | XPR_REFUSED | XPR_ACT_LATE | XPR_TORN_DOWN 
  | XPR_INPUT_LOST | HDR_INVALID | CLASS_MISMATCH | FEATURE_MISSING | SRC_RANGE | CTRL_FILTERED 
  | ROLE_FILTERED | CREDIT_OVERRUN | LC_EXCESS | FCS_BAD | CREDIT_STALL | LINK_DOWN | LINK_SILENT 
  | LINK_FEC_FAIL | LINK_REV_CHANGE | FEC_DEGRADE | LINK_ABSENT | LOOKUP_MISS | ROUTE_DISCARD | ROUTE_INVALID 
  | MC_INVALID | MC_CLASS | FWD_TABLE_FULL | FWD_LOCK_TIMEOUT | FWD_LEARN_LIMIT | FWD_SEED_BUSY 
  | FWD_SEED_INVALID | CELL_UNCORR | XBAR_QUOTA_OVERCOMMIT | MIRROR_CFG_REFUSED | XBAR_QUOTA_CUT 
  | SCHED_GCL_REFUSED | SCHED_CFG_REFUSED | SCHED_POL_REFUSED | COLL_NO_CTX | COLL_EARLY | COLL_STALE 
  | COLL_MEMBER | COLL_SRC | COLL_LENGTH | COLL_CHUNK | COLL_LATE | COLL_WINDOW | COLL_DUP | COLL_UNEXPECTED 
  | COLL_LOAD_REFUSED | COLL_STEP_SLOW | COLL_STEP_ABORT | COLL_PARTIAL_BAD | COLL_UNDELIVERED | CMB_RESIDUE 
  | CMB_LANE_RETIRED | CMB_SHADOW_MISMATCH | CMB_UNIT_FENCED | CMB_GIVE_UP | CMB_POST_COMMIT 
  | CMB_SHADOW_REFUSED | WRA_DESC_REFUSED | WRA_RESIDUE | WRA_COL_RETIRED | WRA_TILE_FENCED | WRA_GIVE_UP 
  | FMEM_MAP_REFUSED | FMEM_MIRROR_LOST | FMEM_ORPHAN | MEMC_HOT | FMEM_RESYNC_DONE | MEM_UNCORR 
  | MEM_SCRUB_UNCORR | MEMC_CH_FAIL | TIME_STATE | TIME_STEP | TIME_PARENT_SWITCH | TIME_RATE_CLAMP 
  | TIME_PPS_LOST | TIME_REF_LOST | TIME_ALIGN_FAIL | TIME_TRIG_REFUSED | TIME_CAP_OVERFLOW | TIME_SET_BUSY 
  | CSQ_CFG_REFUSED | CSQ_CFG_BUSY | CSQ_PROTECTION | CSQ_BUDGET | CSQ_TOKEN_SAT | DMA_HALT | DMA_CFG_REFUSED 
  | RAS_LOST | RAS_KEEP_FULL | RESET_DONE | BOOT_FALLBACK | IMAGE_REFUSED | BOOT_NO_IMAGE | SVN_COMMITTED 
  | FUSE_FAIL | RESET_RECORD_BAD | PSTORE_FAIL | SEC_CMD_REFUSED | KCL_DEGRADED | KCL_RETRAIN 
  | KCL_READ_TIMEOUT | SVC_BIND_REFUSED | RAIL_FAULT | AVS_FAULT | REFCLK_LOST | THERM_WARN | THERM_OVER 
  | THERM_TRIP | THERM_COLD_HOLD
  deriving DecidableEq, Repr

/-- The 16-bit code (R511). -/
def RecCode.num : RecCode → Nat
  | .REG_UNMAPPED => 0x0101
  | .REG_RSVD_ENC => 0x0102
  | .REG_DOMAIN_OFF => 0x0103
  | .REG_PRIVILEGE => 0x0104
  | .PD_DEP_REFUSED => 0x0105
  | .BG_OVERRUN => 0x0106
  | .D2D_FAIL => 0x0110
  | .GEID_INVALID => 0x0201
  | .PLANE_MISMATCH => 0x0202
  | .HOP_LIMIT => 0x0203
  | .DOR_VIOLATION => 0x0204
  | .VALLEY => 0x0205
  | .HAIRPIN => 0x0206
  | .NO_ROUTE => 0x0207
  | .SHAPE_REFUSED => 0x0208
  | .ROLE_REFUSED => 0x0209
  | .ROLE_BUSY => 0x020A
  | .STENCIL_MISMATCH => 0x0210
  | .STENCIL_UNPLANNED => 0x0211
  | .CABLE_SWAP => 0x0212
  | .LINK_REV_QUARANTINE => 0x0213
  | .OPT_RING_FAULT => 0x0301
  | .OPT_RING_FENCE => 0x0302
  | .OPT_RING_RAIL => 0x0303
  | .OPT_WRONG_CHANNEL => 0x0304
  | .OPT_WRONG_ORDER => 0x0305
  | .OPT_RING_RAIL_NEAR => 0x0306
  | .OPT_MARGIN_LOW => 0x0307
  | .OPT_MARGIN_ALARM => 0x0308
  | .OPT_FF_LOST => 0x0309
  | .OPT_PWR_REQ_EXCESS => 0x030A
  | .OPT_RING_BUSY => 0x030B
  | .LANE_MAP_INVALID => 0x030C
  | .LANE_MAP_BUSY => 0x030D
  | .LANE_SWITCH_LATE => 0x030E
  | .LAS_BIAS_WARN => 0x0401
  | .LAS_BIAS_MAX => 0x0402
  | .LAS_WEAR_OUT => 0x0403
  | .LAS_NO_STANDBY => 0x0404
  | .LAS_PARKED => 0x0405
  | .LAS_DFB_FAIL => 0x0406
  | .LAS_SPARE_FAIL => 0x0407
  | .LAS_SPARE_START => 0x0408
  | .LAS_SPARE_DONE => 0x0409
  | .LAS_RESUMED => 0x040A
  | .LAS_SPARE_NO_PEER => 0x040B
  | .LAS_SEQ_OWNS_PORT => 0x040C
  | .LAS_ABORT_LATE => 0x040D
  | .XPR_REFUSED => 0x040E
  | .XPR_ACT_LATE => 0x040F
  | .XPR_TORN_DOWN => 0x0410
  | .XPR_INPUT_LOST => 0x0411
  | .HDR_INVALID => 0x0501
  | .CLASS_MISMATCH => 0x0502
  | .FEATURE_MISSING => 0x0503
  | .SRC_RANGE => 0x0504
  | .CTRL_FILTERED => 0x0505
  | .ROLE_FILTERED => 0x0506
  | .CREDIT_OVERRUN => 0x0507
  | .LC_EXCESS => 0x0508
  | .FCS_BAD => 0x0509
  | .CREDIT_STALL => 0x050A
  | .LINK_DOWN => 0x050B
  | .LINK_SILENT => 0x050C
  | .LINK_FEC_FAIL => 0x050D
  | .LINK_REV_CHANGE => 0x050E
  | .FEC_DEGRADE => 0x050F
  | .LINK_ABSENT => 0x0510
  | .LOOKUP_MISS => 0x0601
  | .ROUTE_DISCARD => 0x0602
  | .ROUTE_INVALID => 0x0603
  | .MC_INVALID => 0x0604
  | .MC_CLASS => 0x0605
  | .FWD_TABLE_FULL => 0x0606
  | .FWD_LOCK_TIMEOUT => 0x0607
  | .FWD_LEARN_LIMIT => 0x0608
  | .FWD_SEED_BUSY => 0x0609
  | .FWD_SEED_INVALID => 0x060A
  | .CELL_UNCORR => 0x0701
  | .XBAR_QUOTA_OVERCOMMIT => 0x0702
  | .MIRROR_CFG_REFUSED => 0x0703
  | .XBAR_QUOTA_CUT => 0x0704
  | .SCHED_GCL_REFUSED => 0x0801
  | .SCHED_CFG_REFUSED => 0x0802
  | .SCHED_POL_REFUSED => 0x0803
  | .COLL_NO_CTX => 0x0901
  | .COLL_EARLY => 0x0902
  | .COLL_STALE => 0x0903
  | .COLL_MEMBER => 0x0904
  | .COLL_SRC => 0x0905
  | .COLL_LENGTH => 0x0906
  | .COLL_CHUNK => 0x0907
  | .COLL_LATE => 0x0908
  | .COLL_WINDOW => 0x0909
  | .COLL_DUP => 0x090A
  | .COLL_UNEXPECTED => 0x090B
  | .COLL_LOAD_REFUSED => 0x090C
  | .COLL_STEP_SLOW => 0x090D
  | .COLL_STEP_ABORT => 0x090E
  | .COLL_PARTIAL_BAD => 0x090F
  | .COLL_UNDELIVERED => 0x0910
  | .CMB_RESIDUE => 0x0A01
  | .CMB_LANE_RETIRED => 0x0A02
  | .CMB_SHADOW_MISMATCH => 0x0A03
  | .CMB_UNIT_FENCED => 0x0A04
  | .CMB_GIVE_UP => 0x0A05
  | .CMB_POST_COMMIT => 0x0A06
  | .CMB_SHADOW_REFUSED => 0x0A07
  | .WRA_DESC_REFUSED => 0x0B01
  | .WRA_RESIDUE => 0x0B02
  | .WRA_COL_RETIRED => 0x0B03
  | .WRA_TILE_FENCED => 0x0B04
  | .WRA_GIVE_UP => 0x0B05
  | .FMEM_MAP_REFUSED => 0x0D01
  | .FMEM_MIRROR_LOST => 0x0D02
  | .FMEM_ORPHAN => 0x0D03
  | .MEMC_HOT => 0x0D04
  | .FMEM_RESYNC_DONE => 0x0D05
  | .MEM_UNCORR => 0x0D06
  | .MEM_SCRUB_UNCORR => 0x0D07
  | .MEMC_CH_FAIL => 0x0D08
  | .TIME_STATE => 0x0E01
  | .TIME_STEP => 0x0E02
  | .TIME_PARENT_SWITCH => 0x0E03
  | .TIME_RATE_CLAMP => 0x0E04
  | .TIME_PPS_LOST => 0x0E05
  | .TIME_REF_LOST => 0x0E06
  | .TIME_ALIGN_FAIL => 0x0E07
  | .TIME_TRIG_REFUSED => 0x0E08
  | .TIME_CAP_OVERFLOW => 0x0E09
  | .TIME_SET_BUSY => 0x0E0A
  | .CSQ_CFG_REFUSED => 0x0F01
  | .CSQ_CFG_BUSY => 0x0F02
  | .CSQ_PROTECTION => 0x0F03
  | .CSQ_BUDGET => 0x0F04
  | .CSQ_TOKEN_SAT => 0x0F05
  | .DMA_HALT => 0x1101
  | .DMA_CFG_REFUSED => 0x1102
  | .RAS_LOST => 0x1301
  | .RAS_KEEP_FULL => 0x1302
  | .RESET_DONE => 0x1401
  | .BOOT_FALLBACK => 0x1402
  | .IMAGE_REFUSED => 0x1403
  | .BOOT_NO_IMAGE => 0x1404
  | .SVN_COMMITTED => 0x1405
  | .FUSE_FAIL => 0x1406
  | .RESET_RECORD_BAD => 0x1407
  | .PSTORE_FAIL => 0x1408
  | .SEC_CMD_REFUSED => 0x1409
  | .KCL_DEGRADED => 0x1501
  | .KCL_RETRAIN => 0x1502
  | .KCL_READ_TIMEOUT => 0x1503
  | .SVC_BIND_REFUSED => 0x1504
  | .RAIL_FAULT => 0x1601
  | .AVS_FAULT => 0x1602
  | .REFCLK_LOST => 0x1603
  | .THERM_WARN => 0x1604
  | .THERM_OVER => 0x1605
  | .THERM_TRIP => 0x1606
  | .THERM_COLD_HOLD => 0x1607

/-- The severity of a code, 0 INFO to 6 FATAL (R508, R511). D2D_FAIL is FATAL for the SCD–MSD link and XPR_TORN_DOWN is INFO
for cause COMMAND: those two are raised with the severity stated where they are raised. -/
def RecCode.severity : RecCode → Nat
  | .LAS_SPARE_START | .LAS_SPARE_DONE | .LAS_RESUMED | .FMEM_RESYNC_DONE | .TIME_STATE | .TIME_STEP 
  | .TIME_PARENT_SWITCH | .RESET_DONE | .SVN_COMMITTED => 0
  | .REG_UNMAPPED | .REG_RSVD_ENC | .REG_DOMAIN_OFF | .REG_PRIVILEGE | .PD_DEP_REFUSED | .BG_OVERRUN 
  | .GEID_INVALID | .PLANE_MISMATCH | .HOP_LIMIT | .DOR_VIOLATION | .VALLEY | .HAIRPIN | .NO_ROUTE 
  | .SHAPE_REFUSED | .ROLE_REFUSED | .ROLE_BUSY | .OPT_PWR_REQ_EXCESS | .OPT_RING_BUSY | .LANE_MAP_INVALID 
  | .LANE_MAP_BUSY | .LANE_SWITCH_LATE | .LAS_SEQ_OWNS_PORT | .LAS_ABORT_LATE | .XPR_REFUSED | .XPR_ACT_LATE 
  | .HDR_INVALID | .CLASS_MISMATCH | .FEATURE_MISSING | .SRC_RANGE | .CTRL_FILTERED | .ROLE_FILTERED 
  | .CREDIT_OVERRUN | .LC_EXCESS | .LOOKUP_MISS | .ROUTE_DISCARD | .ROUTE_INVALID | .MC_INVALID | .MC_CLASS 
  | .FWD_LEARN_LIMIT | .FWD_SEED_BUSY | .FWD_SEED_INVALID | .XBAR_QUOTA_OVERCOMMIT | .MIRROR_CFG_REFUSED 
  | .XBAR_QUOTA_CUT | .SCHED_GCL_REFUSED | .SCHED_CFG_REFUSED | .SCHED_POL_REFUSED | .COLL_NO_CTX | .COLL_EARLY 
  | .COLL_STALE | .COLL_MEMBER | .COLL_SRC | .COLL_LENGTH | .COLL_CHUNK | .COLL_LATE | .COLL_WINDOW | .COLL_DUP 
  | .COLL_UNEXPECTED | .COLL_LOAD_REFUSED | .COLL_STEP_SLOW | .CMB_SHADOW_REFUSED | .WRA_DESC_REFUSED 
  | .FMEM_MAP_REFUSED | .TIME_TRIG_REFUSED | .TIME_CAP_OVERFLOW | .TIME_SET_BUSY | .CSQ_CFG_REFUSED 
  | .CSQ_CFG_BUSY | .CSQ_PROTECTION | .CSQ_BUDGET | .CSQ_TOKEN_SAT | .DMA_CFG_REFUSED | .IMAGE_REFUSED 
  | .SEC_CMD_REFUSED | .KCL_READ_TIMEOUT | .SVC_BIND_REFUSED | .THERM_COLD_HOLD => 1
  | .OPT_WRONG_CHANNEL | .OPT_WRONG_ORDER | .OPT_RING_RAIL_NEAR | .OPT_MARGIN_LOW | .OPT_MARGIN_ALARM 
  | .OPT_FF_LOST | .LAS_BIAS_WARN | .LAS_BIAS_MAX | .LAS_WEAR_OUT | .LAS_NO_STANDBY | .LAS_PARKED 
  | .XPR_INPUT_LOST | .FEC_DEGRADE | .LINK_ABSENT | .FWD_TABLE_FULL | .FWD_LOCK_TIMEOUT | .CMB_RESIDUE 
  | .CMB_LANE_RETIRED | .CMB_SHADOW_MISMATCH | .WRA_RESIDUE | .WRA_COL_RETIRED | .FMEM_MIRROR_LOST 
  | .FMEM_ORPHAN | .MEMC_HOT | .TIME_RATE_CLAMP | .TIME_PPS_LOST | .TIME_REF_LOST | .TIME_ALIGN_FAIL 
  | .RAS_LOST | .RAS_KEEP_FULL | .BOOT_FALLBACK | .FUSE_FAIL | .RESET_RECORD_BAD | .PSTORE_FAIL | .KCL_DEGRADED 
  | .KCL_RETRAIN | .AVS_FAULT | .THERM_WARN | .THERM_OVER => 2
  | .XPR_TORN_DOWN | .FCS_BAD | .CELL_UNCORR | .COLL_STEP_ABORT | .COLL_PARTIAL_BAD | .COLL_UNDELIVERED 
  | .CMB_GIVE_UP | .WRA_GIVE_UP | .MEM_UNCORR | .MEM_SCRUB_UNCORR | .DMA_HALT => 3
  | .D2D_FAIL | .STENCIL_MISMATCH | .STENCIL_UNPLANNED | .CABLE_SWAP | .LINK_REV_QUARANTINE | .OPT_RING_FAULT 
  | .OPT_RING_FENCE | .OPT_RING_RAIL | .LAS_DFB_FAIL | .LAS_SPARE_FAIL | .LAS_SPARE_NO_PEER | .CREDIT_STALL 
  | .LINK_DOWN | .LINK_SILENT | .LINK_FEC_FAIL | .LINK_REV_CHANGE | .CMB_UNIT_FENCED | .WRA_TILE_FENCED 
  | .MEMC_CH_FAIL => 4
  | .CMB_POST_COMMIT => 5
  | .BOOT_NO_IMAGE | .RAIL_FAULT | .REFCLK_LOST | .THERM_TRIP => 6

/-- The codes that R511 marks rate-limited. DEDUCED (log entry 60): R167 speaks of the records of its whole table as limited, and
places CREDIT_STALL and LINK_REV_CHANGE there, which R511 does not mark; R507 and R511 are followed, so each of those events
writes a record. OPT_PWR_REQ_EXCESS follows R89: one record a lane and second. -/
def RecCode.rateLimited : RecCode → Bool
  | .GEID_INVALID | .PLANE_MISMATCH | .HOP_LIMIT | .DOR_VIOLATION | .VALLEY | .HAIRPIN | .NO_ROUTE 
  | .HDR_INVALID | .CLASS_MISMATCH | .FEATURE_MISSING | .SRC_RANGE | .CTRL_FILTERED | .ROLE_FILTERED 
  | .CREDIT_OVERRUN | .LC_EXCESS | .FCS_BAD | .LOOKUP_MISS | .ROUTE_DISCARD | .ROUTE_INVALID | .MC_INVALID 
  | .MC_CLASS | .FWD_LEARN_LIMIT | .COLL_NO_CTX | .COLL_EARLY | .COLL_STALE | .COLL_MEMBER | .COLL_SRC 
  | .COLL_LENGTH | .COLL_CHUNK | .COLL_LATE | .COLL_WINDOW | .COLL_DUP | .COLL_UNEXPECTED => true
  | _ => false

/-- The codes whose records are copied to the keep area whatever their severity (R506). -/
def RecCode.keepAlways : RecCode → Bool
  | .CMB_LANE_RETIRED | .WRA_COL_RETIRED | .LAS_PARKED => true
  | _ => false

/-- The counter events (R489); where two kinds of block use one name, the later kind carries a suffix. -/
inductive Ev where
  | RX_FRAMES | RX_BYTES | TX_FRAMES | TX_BYTES | SLOT_RETIRED | SLOT_WASTED | SLOT_FRONT | SLOT_BACK 
  | XING_STALL | HDR_CRC | HUNT_BYTES | HDR_INVALID | FTYPE_INVALID | CLASS_MISMATCH | FEATURE_MISSING 
  | FCS_BAD | STOMPED_RX | SRC_RANGE | CTRL_FILTERED | ROLE_FILTERED | CREDIT_OVERRUN | CREDIT_STALL 
  | LC_EXCESS | LC_UNKNOWN | TRAIN_FAIL | NOT_ADMITTED | ANALYSIS_RX | FENCED_RX | FEC_UNCORR | REV_CHANGE 
  | PIN_REMAP | RING_RELOCK | RING_FENCE | WRONG_CHANNEL | WRONG_ORDER | MARGIN_HIGH | PWR_REQ_SENT 
  | PWR_REQ_GRANTED | PWR_REQ_DENIED | PWR_REQ_EXCESS | ANALYSIS_DARK | GEID_INVALID | PLANE_MISMATCH 
  | HOP_LIMIT | DOR_VIOLATION | VALLEY | HAIRPIN | NO_ROUTE | LOOKUP_MISS | ROUTE_DISCARD | ROUTE_INVALID 
  | MC_INVALID | MC_CLASS | MC_PRUNED | FLOOD_TX | LEARN_NEW | LEARN_MOVE | LEARN_LIMIT_DROP 
  | LEARN_LIMIT_FLOOD | LEARN_LOCKED | LEARN_BACKLOG | SRC_STATIC_CONFLICT | EQ_HOLD | IN_WITHHELD 
  | RED_DROP_GREEN | RED_DROP_YELLOW | RED_DROP_RED | UMBRA_SKIP | UMBRA_DISCARD | FENCED_DISCARD 
  | FENCED_STOMP | GATE_GUARD_HOLD | GATE_TIME_STEP | CMARK_SET | POL_YELLOW | POL_RED | POL_DROP_RED 
  | ECHO_SUPPRESSED | ECHO_RX | COLL_NO_CTX | COLL_EARLY | COLL_STALE | COLL_MEMBER | COLL_SRC | COLL_LENGTH 
  | COLL_CHUNK | COLL_LATE | COLL_WINDOW | COLL_DUP | COLL_UNEXPECTED | TIME_EX_LOST | TIME_EX_GATED 
  | TIME_FORMAT | TIME_REQ_EXCESS | FF_LOST | D2D_REPLAY | D2D_CORR | RESIDUE_MISMATCH | RECOMPUTE 
  | LANE_RETIRED | UNIT_FENCED | SHADOW_RUN | SHADOW_MISMATCH | INT_WRAP | FP_OVERFLOW | NAN_OUT | BS_FLUSH 
  | BS_OVERFLOW | WRA_COEF_RANGE | WRA_COEF_DUP | COLL_OVER_RATE | CHUNK_FORMED | WRA_PASS 
  | WRA_RESIDUE_MISMATCH | WRA_RECOMPUTE | WRA_COL_RETIRED | WRA_TILE_FENCED | WRA_OVER_RATE | FP_OVERFLOW_WRA 
  | NAN_OUT_WRA | WRA_BUSY | ISSUE | ENTRY_START | ENTRY_RETIRE | ENTRY_FAIL | CRING_FULL | PROT_FAIL 
  | FMEM_RD | FMEM_WR | FMEM_ATOM | MEM_CORR | MEM_UNCORR | MEM_SCRUB_CORR | MEM_SCRUB_UNCORR | MEM_RD_BYTES 
  | MEM_WR_BYTES | D2D_REPLAY_DEV | D2D_CORR_DEV | CELL_CORR | CELL_UNCORR | EQ_HOLD_DEV | AGE_REMOVED 
  | AGE_SKIP_LOCKED | FWD_LOCK_TIMEOUT | ECHO_TX | ECHO_COALESCED | ECHO_DROP | COLL_STEP_COMMIT 
  | COLL_STEP_ABORT | COLL_RETRACT_TX | COLL_UNDELIVERED | COLL_STEP_SLOW | COLL_LATE_END | SHADOW_DEFERRED 
  | POST_COMMIT | GATHER_HOLD | FMEM_HOLD | FMEM_UNEXPECTED | FMEM_MIRROR_SRC | TIME_RATE_CLAMP 
  | TIME_PPS_REJECT | TC_CORRECTED | TOKEN_SAT | DMA_HALT | DMA_BURST | SLOT_RETIRED_ALL | SLOT_WASTED_ALL 
  | SLOT_FRONT_ALL | SLOT_BACK_ALL | XING_STALL_PORT | XING_STALL_XBAR | XING_STALL_CMB | XING_STALL_WRA 
  | XING_STALL_CTRL | XING_STALL_TIME | XING_STALL_MSD | XING_STALL_LPDDR | ORIG_DROP | DMA_PULSE_0 
  | DMA_PULSE_1 | DMA_PULSE_2 | DMA_PULSE_3 | DMA_PULSE_4 | DMA_PULSE_5 | DMA_PULSE_6 | DMA_PULSE_7 
  | DMA_PULSE_8 | DMA_PULSE_9 | DMA_PULSE_10 | DMA_PULSE_11 | DMA_PULSE_12 | DMA_PULSE_13 | DMA_PULSE_14 
  | DMA_PULSE_15
  deriving DecidableEq, Repr

/-- The event code (R489). -/
def Ev.num : Ev → Nat
  | .RX_FRAMES => 0x010
  | .RX_BYTES => 0x011
  | .TX_FRAMES => 0x012
  | .TX_BYTES => 0x013
  | .SLOT_RETIRED => 0x014
  | .SLOT_WASTED => 0x015
  | .SLOT_FRONT => 0x016
  | .SLOT_BACK => 0x017
  | .XING_STALL => 0x018
  | .HDR_CRC => 0x020
  | .HUNT_BYTES => 0x021
  | .HDR_INVALID => 0x022
  | .FTYPE_INVALID => 0x023
  | .CLASS_MISMATCH => 0x024
  | .FEATURE_MISSING => 0x025
  | .FCS_BAD => 0x026
  | .STOMPED_RX => 0x027
  | .SRC_RANGE => 0x028
  | .CTRL_FILTERED => 0x029
  | .ROLE_FILTERED => 0x02A
  | .CREDIT_OVERRUN => 0x02B
  | .CREDIT_STALL => 0x02C
  | .LC_EXCESS => 0x02D
  | .LC_UNKNOWN => 0x02E
  | .TRAIN_FAIL => 0x02F
  | .NOT_ADMITTED => 0x030
  | .ANALYSIS_RX => 0x031
  | .FENCED_RX => 0x032
  | .FEC_UNCORR => 0x033
  | .REV_CHANGE => 0x034
  | .PIN_REMAP => 0x035
  | .RING_RELOCK => 0x040
  | .RING_FENCE => 0x041
  | .WRONG_CHANNEL => 0x042
  | .WRONG_ORDER => 0x043
  | .MARGIN_HIGH => 0x044
  | .PWR_REQ_SENT => 0x045
  | .PWR_REQ_GRANTED => 0x046
  | .PWR_REQ_DENIED => 0x047
  | .PWR_REQ_EXCESS => 0x048
  | .ANALYSIS_DARK => 0x049
  | .GEID_INVALID => 0x050
  | .PLANE_MISMATCH => 0x051
  | .HOP_LIMIT => 0x052
  | .DOR_VIOLATION => 0x053
  | .VALLEY => 0x054
  | .HAIRPIN => 0x055
  | .NO_ROUTE => 0x056
  | .LOOKUP_MISS => 0x057
  | .ROUTE_DISCARD => 0x058
  | .ROUTE_INVALID => 0x059
  | .MC_INVALID => 0x05A
  | .MC_CLASS => 0x05B
  | .MC_PRUNED => 0x05C
  | .FLOOD_TX => 0x05D
  | .LEARN_NEW => 0x05E
  | .LEARN_MOVE => 0x05F
  | .LEARN_LIMIT_DROP => 0x060
  | .LEARN_LIMIT_FLOOD => 0x061
  | .LEARN_LOCKED => 0x062
  | .LEARN_BACKLOG => 0x063
  | .SRC_STATIC_CONFLICT => 0x064
  | .EQ_HOLD => 0x070
  | .IN_WITHHELD => 0x071
  | .RED_DROP_GREEN => 0x072
  | .RED_DROP_YELLOW => 0x073
  | .RED_DROP_RED => 0x074
  | .UMBRA_SKIP => 0x075
  | .UMBRA_DISCARD => 0x076
  | .FENCED_DISCARD => 0x077
  | .FENCED_STOMP => 0x078
  | .GATE_GUARD_HOLD => 0x079
  | .GATE_TIME_STEP => 0x07A
  | .CMARK_SET => 0x07B
  | .POL_YELLOW => 0x07C
  | .POL_RED => 0x07D
  | .POL_DROP_RED => 0x07E
  | .ECHO_SUPPRESSED => 0x07F
  | .ECHO_RX => 0x080
  | .COLL_NO_CTX => 0x090
  | .COLL_EARLY => 0x091
  | .COLL_STALE => 0x092
  | .COLL_MEMBER => 0x093
  | .COLL_SRC => 0x094
  | .COLL_LENGTH => 0x095
  | .COLL_CHUNK => 0x096
  | .COLL_LATE => 0x097
  | .COLL_WINDOW => 0x098
  | .COLL_DUP => 0x099
  | .COLL_UNEXPECTED => 0x09A
  | .TIME_EX_LOST => 0x09B
  | .TIME_EX_GATED => 0x09C
  | .TIME_FORMAT => 0x09D
  | .TIME_REQ_EXCESS => 0x09E
  | .FF_LOST => 0x100
  | .D2D_REPLAY => 0x101
  | .D2D_CORR => 0x102
  | .RESIDUE_MISMATCH => 0x110
  | .RECOMPUTE => 0x111
  | .LANE_RETIRED => 0x112
  | .UNIT_FENCED => 0x113
  | .SHADOW_RUN => 0x114
  | .SHADOW_MISMATCH => 0x115
  | .INT_WRAP => 0x116
  | .FP_OVERFLOW => 0x117
  | .NAN_OUT => 0x118
  | .BS_FLUSH => 0x119
  | .BS_OVERFLOW => 0x11A
  | .WRA_COEF_RANGE => 0x11B
  | .WRA_COEF_DUP => 0x11C
  | .COLL_OVER_RATE => 0x11D
  | .CHUNK_FORMED => 0x11E
  | .WRA_PASS => 0x130
  | .WRA_RESIDUE_MISMATCH => 0x131
  | .WRA_RECOMPUTE => 0x132
  | .WRA_COL_RETIRED => 0x133
  | .WRA_TILE_FENCED => 0x134
  | .WRA_OVER_RATE => 0x135
  | .FP_OVERFLOW_WRA => 0x136
  | .NAN_OUT_WRA => 0x137
  | .WRA_BUSY => 0x138
  | .ISSUE => 0x140
  | .ENTRY_START => 0x141
  | .ENTRY_RETIRE => 0x142
  | .ENTRY_FAIL => 0x143
  | .CRING_FULL => 0x144
  | .PROT_FAIL => 0x145
  | .FMEM_RD => 0x150
  | .FMEM_WR => 0x151
  | .FMEM_ATOM => 0x152
  | .MEM_CORR => 0x153
  | .MEM_UNCORR => 0x154
  | .MEM_SCRUB_CORR => 0x155
  | .MEM_SCRUB_UNCORR => 0x156
  | .MEM_RD_BYTES => 0x157
  | .MEM_WR_BYTES => 0x158
  | .D2D_REPLAY_DEV => 0x180
  | .D2D_CORR_DEV => 0x181
  | .CELL_CORR => 0x182
  | .CELL_UNCORR => 0x183
  | .EQ_HOLD_DEV => 0x184
  | .AGE_REMOVED => 0x185
  | .AGE_SKIP_LOCKED => 0x186
  | .FWD_LOCK_TIMEOUT => 0x187
  | .ECHO_TX => 0x188
  | .ECHO_COALESCED => 0x189
  | .ECHO_DROP => 0x18A
  | .COLL_STEP_COMMIT => 0x18B
  | .COLL_STEP_ABORT => 0x18C
  | .COLL_RETRACT_TX => 0x18D
  | .COLL_UNDELIVERED => 0x18E
  | .COLL_STEP_SLOW => 0x18F
  | .COLL_LATE_END => 0x190
  | .SHADOW_DEFERRED => 0x191
  | .POST_COMMIT => 0x192
  | .GATHER_HOLD => 0x193
  | .FMEM_HOLD => 0x194
  | .FMEM_UNEXPECTED => 0x195
  | .FMEM_MIRROR_SRC => 0x196
  | .TIME_RATE_CLAMP => 0x197
  | .TIME_PPS_REJECT => 0x198
  | .TC_CORRECTED => 0x199
  | .TOKEN_SAT => 0x19A
  | .DMA_HALT => 0x19B
  | .DMA_BURST => 0x19C
  | .SLOT_RETIRED_ALL => 0x19D
  | .SLOT_WASTED_ALL => 0x19E
  | .SLOT_FRONT_ALL => 0x19F
  | .SLOT_BACK_ALL => 0x1A0
  | .XING_STALL_PORT => 0x1A8
  | .XING_STALL_XBAR => 0x1A9
  | .XING_STALL_CMB => 0x1AA
  | .XING_STALL_WRA => 0x1AB
  | .XING_STALL_CTRL => 0x1AC
  | .XING_STALL_TIME => 0x1AD
  | .XING_STALL_MSD => 0x1AE
  | .XING_STALL_LPDDR => 0x1AF
  | .ORIG_DROP => 0x1B0
  | .DMA_PULSE_0 => 0x1C0
  | .DMA_PULSE_1 => 0x1C1
  | .DMA_PULSE_2 => 0x1C2
  | .DMA_PULSE_3 => 0x1C3
  | .DMA_PULSE_4 => 0x1C4
  | .DMA_PULSE_5 => 0x1C5
  | .DMA_PULSE_6 => 0x1C6
  | .DMA_PULSE_7 => 0x1C7
  | .DMA_PULSE_8 => 0x1C8
  | .DMA_PULSE_9 => 0x1C9
  | .DMA_PULSE_10 => 0x1CA
  | .DMA_PULSE_11 => 0x1CB
  | .DMA_PULSE_12 => 0x1CC
  | .DMA_PULSE_13 => 0x1CD
  | .DMA_PULSE_14 => 0x1CE
  | .DMA_PULSE_15 => 0x1CF

/-- The kind of counter block `b` (R487): 0 port, 1 engine, 2 cluster, 3 WRA tile, 4 sequencer, 5 LPDDR group, 6 device. -/
def blockKind (b : Nat) : Nat :=
  if b < 512 then 0 else if b < 520 then 1 else if b < 536 then 2 else if b < 540 then 3
  else if b < 548 then 4 else if b < 556 then 5 else 6

/-- The event codes each kind of block lists, as closed ranges (R489); codes 0 and 1 are listed in every block. -/
def evRanges : Nat → List (Nat × Nat)
  | 0 => [(0x010, 0x018), (0x020, 0x035), (0x040, 0x049), (0x050, 0x064), (0x070, 0x080), (0x090, 0x09E)]
  | 1 => [(0x100, 0x102)]
  | 2 => [(0x110, 0x11E)]
  | 3 => [(0x130, 0x138)]
  | 4 => [(0x140, 0x145)]
  | 5 => [(0x150, 0x158)]
  | _ => [(0x180, 0x1A0), (0x1A8, 0x1B0), (0x1C0, 0x1CF)]

/-- Whether the kind of block `b` lists event code `e`; any other code is treated under R13 (R489). -/
def evListed (b e : Nat) : Bool :=
  decide (e ≤ 1) || (evRanges (blockKind b)).any (fun r => decide (r.1 ≤ e ∧ e ≤ r.2))

end Sys2Proof.Machine
end

