-- ==== Sys2Proof/Machine/Frame.lean ====
section
/-! DEFINITION. The fabric frame header (R146), the two checksums (R149, R150), and sizes of frames (R155, R206). -/

namespace Sys2Proof.Machine

/-- The fields of the fabric frame header (R146). -/
structure Hdr where
  ver : Nat := 1
  ftype : Nat := 0
  cls : Nat := 0
  colour : Nat := 0
  cmark : Nat := 0
  order : Nat := 0
  plane : Nat := 0
  hops : Nat := 0
  rsv0 : Nat := 0
  dst : Nat := 0
  dstSub : Nat := 0
  src : Nat := 0
  srcSub : Nat := 0
  entropy : Nat := 0
  length : Nat := 0
  rsv3 : Nat := 0
  w4 : Nat := 0
  w5 : Nat := 0
  w6 : Nat := 0
  rsv7 : Nat := 0
  deriving DecidableEq, Repr

/-- Words 0 to 6 of a header (R146). -/
def Hdr.words7 (h : Hdr) : List Nat :=
  [h.ver * 2 ^ 28 + h.ftype * 2 ^ 22 + h.cls * 2 ^ 19 + h.colour * 2 ^ 17 + h.cmark * 2 ^ 16 + h.order * 2 ^ 15
      + h.plane * 2 ^ 11 + h.hops * 2 ^ 7 + h.rsv0,
   h.dst * 256 + h.dstSub, h.src * 256 + h.srcSub, h.entropy * 2 ^ 16 + h.length * 8 + h.rsv3, h.w4, h.w5, h.w6]

/-- One bit of the header CRC-16, polynomial 0x8BB7, most significant bit first (R149). -/
def crc16Bit (c : Nat) (b : Nat) : Nat :=
  let top := (c / 2 ^ 15 + b) % 2
  let sh := c * 2 % 2 ^ 16
  if top = 1 then sh ^^^ 0x8BB7 else sh

/-- One 32-bit word of the header CRC-16, in transmission order (R149). -/
def crc16Word (c w : Nat) : Nat :=
  (List.range 32).foldl (fun c i => crc16Bit c (w / 2 ^ (31 - i) % 2)) c

/-- The header CRC-16 of words 0–6: initial value 0xFFFF, no reflection, no final XOR (R149). -/
def crc16 (ws : List Nat) : Nat := ws.foldl crc16Word 0xFFFF

/-- One bit of CRC-32C, reflected: polynomial 0x1EDC_6F41 read from its low end is 0x82F6_3B78 (R150). -/
def crc32Bit (c : Nat) : Nat := if c % 2 = 1 then (c / 2) ^^^ 0x82F63B78 else c / 2

/-- One byte of CRC-32C (R150). -/
def crc32Byte (c b : Nat) : Nat := (List.range 8).foldl (fun c _ => crc32Bit c) (c ^^^ (b % 256))

/-- CRC-32C of a byte string: initial value and final XOR 0xFFFF_FFFF, reflected (R150). -/
def crc32c (bs : List Nat) : Nat := (bs.foldl crc32Byte 0xFFFFFFFF) ^^^ 0xFFFFFFFF

/-- One byte of the Ethernet FCS: the CRC-32 of IEEE 802.3, reflected (R551 names the field; PRESUMED, log entry 10). -/
def fcsByte (c b : Nat) : Nat :=
  (List.range 8).foldl (fun c _ => if c % 2 = 1 then (c / 2) ^^^ 0xEDB88320 else c / 2) (c ^^^ (b % 256))

/-- The Ethernet FCS of a byte string. -/
def ethFcs (bs : List Nat) : Nat := (bs.foldl fcsByte 0xFFFFFFFF) ^^^ 0xFFFFFFFF

/-- The header as eight words, its CRC computed (R146, R149). -/
def Hdr.words (h : Hdr) : List Nat := h.words7 ++ [crc16 h.words7 * 2 ^ 16 + h.rsv7]

/-- The header fields of eight received words (R146). -/
def Hdr.ofWords (ws : List Nat) : Hdr :=
  let w0 := ws.getD 0 0; let w1 := ws.getD 1 0; let w2 := ws.getD 2 0; let w3 := ws.getD 3 0
  { ver := slice w0 28 4, ftype := slice w0 22 6, cls := slice w0 19 3, colour := slice w0 17 2, cmark := slice w0 16 1,
    order := slice w0 15 1, plane := slice w0 11 4, hops := slice w0 7 4, rsv0 := slice w0 0 7,
    dst := slice w1 8 24, dstSub := slice w1 0 8, src := slice w2 8 24, srcSub := slice w2 0 8,
    entropy := slice w3 16 16, length := slice w3 3 13, rsv3 := slice w3 0 3,
    w4 := ws.getD 4 0, w5 := ws.getD 5 0, w6 := ws.getD 6 0, rsv7 := slice (ws.getD 7 0) 0 16 }

/-- Whether the received words carry the right header CRC (R149). -/
def hdrCrcOk (ws : List Nat) : Bool := crc16 (ws.take 7) == slice (ws.getD 7 0) 16 16

/-- Zero pad bytes of a payload of `len` bytes (R144). -/
def padBytes (len : Nat) : Nat := (4 - len % 4) % 4

/-- Bytes a fabric frame takes on the link (R144). -/
def linkBytes (len : Nat) : Nat := 36 + len + padBytes len

/-- Cells, and credits, of a frame of payload length `len` (R155, R206). -/
def cellCost (len : Nat) : Nat := cdiv (linkBytes len) 256

/-- The bytes the frame CRC covers: word 0 with colour, cmark, hops and reserved bits 0, words 1–6, payload and pad (R150). -/
def frameCrcBytes (h : Hdr) (payload : List Nat) : List Nat :=
  let z := { h with colour := 0, cmark := 0, hops := 0, rsv0 := 0 }
  (z.words7.map (beBytes 4)).flatten ++ payload ++ List.replicate (padBytes h.length) 0

/-- The frame CRC-32C (R150). -/
def frameCrc (h : Hdr) (payload : List Nat) : Nat := crc32c (frameCrcBytes h payload)

/-- A link-control frame as its 64 bytes: word 0, the body, the CRC-32C over words 0–14 (R152). -/
def lcBytes (ty : Nat) (body : List Nat) : List Nat :=
  let ws := (0xF * 2 ^ 28 + ty * 2 ^ 20) :: (List.range 14).map (fun i => body.getD i 0)
  let bs := (ws.map (beBytes 4)).flatten
  bs ++ beBytes 4 (crc32c bs)

/-- A fabric frame as its bytes on the link: header, payload, pad, CRC-32C or its complement (R144, R151). -/
def frameBytes (h : Hdr) (payload : List Nat) (stomped : Bool) : List Nat :=
  let crc := frameCrc h payload
  (h.words.map (beBytes 4)).flatten ++ payload ++ List.replicate (padBytes h.length) 0
    ++ beBytes 4 (if stomped then crc ^^^ 0xFFFFFFFF else crc)

/-- Frame types (R147). -/
def ftDATA : Nat := 0x01
def ftCTRL : Nat := 0x02
def ftTIME : Nat := 0x03
def ftECHO : Nat := 0x04
def ftMEM_RD : Nat := 0x08
def ftMEM_WR : Nat := 0x09
def ftMEM_ATOM : Nat := 0x0A
def ftMEM_RSP : Nat := 0x0B
def ftGATHER_REQ : Nat := 0x0C
def ftGATHER_RSP : Nat := 0x0D
def ftCOLL_CONTRIB : Nat := 0x10
def ftCOLL_RESULT : Nat := 0x11
def ftCOMMIT : Nat := 0x12
def ftRETRACT : Nat := 0x13
def ftMIRROR : Nat := 0x1F

/-- The ftype code points that exist (R147). -/
def ftypeKnown (t : Nat) : Bool :=
  [0x01, 0x02, 0x03, 0x04, 0x08, 0x09, 0x0A, 0x0B, 0x0C, 0x0D, 0x10, 0x11, 0x12, 0x13, 0x1F].contains t

/-- The classes an ftype allows (R147). -/
def classAllowed (t c : Nat) : Bool :=
  if t = ftDATA then c == 5 || c == 6 else if t = ftCTRL then c == 0 else if t = ftTIME ∨ t = ftECHO then c == 7
  else if t = ftMEM_RD ∨ t = ftMEM_WR ∨ t = ftMEM_ATOM ∨ t = ftGATHER_REQ then c == 3
  else if t = ftMEM_RSP ∨ t = ftGATHER_RSP then c == 4 else if t = ftCOLL_CONTRIB then c == 1
  else if t = ftCOLL_RESULT ∨ t = ftCOMMIT ∨ t = ftRETRACT then c == 2 else if t = ftMIRROR then c == 6 else false

/-- The link feature bit an ftype needs (R65, R147). -/
def ftypeFeature (t : Nat) : Nat :=
  if 0x10 ≤ t ∧ t ≤ 0x13 then 1 else if 0x08 ≤ t ∧ t ≤ 0x0D then 2 else if t = ftTIME then 3 else if t = ftECHO then 4 else 0

/-- The ftypes the device terminates when they carry its own GEID (R147). -/
def ftypeTerminated (t : Nat) : Bool := ftypeKnown t && t != ftDATA && t != ftMIRROR

/-- The collective ftypes whose undelivered copies are reported (R223). -/
def isCollDown (t : Nat) : Bool := t == ftCOLL_RESULT || t == ftCOMMIT || t == ftRETRACT

/-- Collective context of words 4–5 (R146). -/
def Hdr.ctx (h : Hdr) : Nat := slice h.w4 18 14
/-- Collective step (R146). -/
def Hdr.step (h : Hdr) : Nat := slice h.w4 0 18
/-- Collective chunk (R146). -/
def Hdr.chunk (h : Hdr) : Nat := slice h.w5 12 20
/-- Collective member slot (R146). -/
def Hdr.member (h : Hdr) : Nat := slice h.w5 2 10
/-- Collective flags (R146). -/
def Hdr.flags (h : Hdr) : Nat := slice h.w5 0 2
/-- Fabric address (R146). -/
def Hdr.faddr (h : Hdr) : Nat := h.w4 * 2 ^ 32 + h.w5
/-- Request id (R146). -/
def Hdr.reqid (h : Hdr) : Nat := slice h.w6 12 20
/-- Opcode (R146). -/
def Hdr.opcode (h : Hdr) : Nat := slice h.w6 6 6
/-- Size code (R146). -/
def Hdr.size (h : Hdr) : Nat := slice h.w6 0 6

/-- Words 4 and 5 of a collective frame (R146). -/
def Hdr.withColl (h : Hdr) (ctx step chunk member flags : Nat) : Hdr :=
  { h with w4 := ctx * 2 ^ 18 + step, w5 := chunk * 2 ^ 12 + member * 4 + flags }

/-- Words 4 and 5 of a memory frame (R146). -/
def Hdr.withAddr (h : Hdr) (a : Nat) : Hdr := { h with w4 := a / 2 ^ 32 % 2 ^ 32, w5 := a % 2 ^ 32 }

/-- Word 6 (R146). -/
def Hdr.withReq (h : Hdr) (reqid opcode size : Nat) : Hdr := { h with w6 := reqid * 2 ^ 12 + opcode * 2 ^ 6 + size }

end Sys2Proof.Machine
end

