-- ==== Sys2Proof/Machine/Fields.lean ====
section
/-! DEFINITION. The names of the fields of every register of the spec, their widths and reset values, and the
scalar state the spec implies beside the registers (the constructors whose names begin with `h_`; with `p_`, what the
persistent store keeps). -/

namespace Sys2Proof.Machine

/-- One constructor per register field of spec/ (named register_field, as the register tables of spec/ name them),
then one per internal scalar (`h_…`, `p_…`). A field that exists several times is told apart by an index. -/
inductive Fld where
  -- SYS_ID (R540)
  | sys_id_part | sys_id_stepping | sys_id_lid | sys_id_rom_version
  -- SYS_SERIAL (R540)
  | sys_serial_serial
  -- SYS_STRAPS (R540)
  | sys_straps_slot_force | sys_straps_slot_force_en | sys_straps_boot_src
  -- SYS_FABRIC_POS (R540)
  | sys_fabric_pos_hall | sys_fabric_pos_plane | sys_fabric_pos_device
  -- SYS_FABRIC_SIZE (R540)
  | sys_fabric_size_fabric_mode | sys_fabric_size_size
  -- SYS_FABRIC_COORD (R540)
  | sys_fabric_coord_coord
  -- SYS_PD_CMD (R540)
  | sys_pd_cmd_cmd | sys_pd_cmd_domain
  -- SYS_PD_STATUS (R540)
  | sys_pd_status_busy | sys_pd_status_on
  -- SYS_RESET_CMD (R541)
  | sys_reset_cmd_level | sys_reset_cmd_confirm
  -- SYS_RESET_INFO (R541)
  | sys_reset_info_warm_count | sys_reset_info_last_level | sys_reset_info_last_cause | sys_reset_info_stage_at_reset
  -- SYS_RESET_TIME (R541)
  | sys_reset_time_reset_time
  -- SYS_BOOT_STATUS (R541)
  | sys_boot_status_stage | sys_boot_status_running_slot | sys_boot_status_trial | sys_boot_status_fallback | sys_boot_status_svn | sys_boot_status_link_rev | sys_boot_status_image_version
  -- SEC_CMD (R542)
  | sec_cmd_cmd | sec_cmd_slot | sec_cmd_allow_strand | sec_cmd_chain | sec_cmd_key_kind | sec_cmd_key_index
  -- SEC_CMD_ADDR (R542)
  | sec_cmd_addr_addr
  -- SEC_CMD_STATUS (R542)
  | sec_cmd_status_busy | sec_cmd_status_last_cmd | sec_cmd_status_result
  -- SEC_SLOT_STATUS (R542)
  | sec_slot_status_link_rev | sec_slot_status_svn | sec_slot_status_image_version | sec_slot_status_reason | sec_slot_status_state
  -- SEC_FUSE (R542)
  | sec_fuse_svn_fused | sec_fuse_lms_revoked | sec_fuse_ecdsa_revoked | sec_fuse_lms_keys | sec_fuse_ecdsa_keys
  -- SEC_BOOT_CTRL (R542)
  | sec_boot_ctrl_boot_watchdog_ms | sec_boot_ctrl_confirm_timeout_s | sec_boot_ctrl_preferred | sec_boot_ctrl_go
  -- SEC_NONCE (R542)
  | sec_nonce_nonce
  -- SEC_KCL_IMG (R542)
  | sec_kcl_img_img
  -- TIME_CTRL (R420)
  | time_ctrl_tc_en | time_ctrl_pps_out_en | time_ctrl_ref_sel | time_ctrl_step_en | time_ctrl_gm_en | time_ctrl_servo_en
  -- TIME_STATUS (R420)
  | time_status_step_count | time_status_holdover_age | time_status_steps_removed | time_status_gm_id | time_status_degraded | time_status_upstream_holdover | time_status_ref_lost | time_status_pps_ok | time_status_time_state
  -- TIME_NOW_NS (R421)
  | time_now_ns_now_ns
  -- TIME_NOW_FRAC (R421)
  | time_now_frac_now_frac
  -- TIME_LOCAL (R421)
  | time_local_local
  -- TIME_OFFSET_NS (R422)
  | time_offset_ns_offset_ns
  -- TIME_OFFSET_FRAC (R422)
  | time_offset_frac_offset_frac
  -- TIME_RATE (R422)
  | time_rate_rate
  -- TIME_SERVO (R424)
  | time_servo_step_threshold_ns | time_servo_delay_gate_ns | time_servo_lock_ns | time_servo_slew_max_ns | time_servo_ki_shift | time_servo_kp_shift
  -- TIME_PARENT (R424)
  | time_parent_alt_wait_ms | time_parent_alt_en | time_parent_alt_port | time_parent_parent_en | time_parent_parent_port
  -- TIME_MEAS (R425)
  | time_meas_offset | time_meas_delay | time_meas_lost_run | time_meas_eligible
  -- TIME_ALIGN (R425)
  | time_align_fallback_en | time_align_fallback_ctx | time_align_align_limit_ms
  -- TIME_PPS (R425)
  | time_pps_pps_width_ms | time_pps_pps_err
  -- TIME_TRIG_START (R426)
  | time_trig_start_start_ns
  -- TIME_TRIG_PERIOD (R426)
  | time_trig_period_width_ns | time_trig_period_period_ns
  -- TIME_TRIG_CTRL (R426)
  | time_trig_ctrl_count | time_trig_ctrl_remaining | time_trig_ctrl_late | time_trig_ctrl_polarity | time_trig_ctrl_enable
  -- TIME_CAP_INFO (R426)
  | time_cap_info_enable | time_cap_info_edge_sel | time_cap_info_overflow | time_cap_info_level | time_cap_info_head_edge | time_cap_info_head_quarter
  -- TIME_CAP_NS (R426)
  | time_cap_ns_cap_ns
  -- TIME_PORT (R426)
  | time_port_asym_ps
  -- PERF_SNAP_CTRL (R502)
  | perf_snap_ctrl_snap_period_us | perf_snap_ctrl_event_line | perf_snap_ctrl_snap_src | perf_snap_ctrl_dump_win | perf_snap_ctrl_dump_en | perf_snap_ctrl_snap_now
  -- PERF_SNAP_TIME (R502)
  | perf_snap_time_snap_time
  -- PERF_DUMP_BASE (R502)
  | perf_dump_base_dump_base
  -- PERF_DUMP_HEAD_ADDR (R502)
  | perf_dump_head_addr_dump_head_addr
  -- PERF_DUMP_CFG (R502)
  | perf_dump_cfg_dump_size_log2
  -- PERF_DUMP_STATUS (R502)
  | perf_dump_status_dump_seq | perf_dump_status_snaps_missed | perf_dump_status_tail | perf_dump_status_phase | perf_dump_status_busy
  -- PERF_LAST_SNAP (R502)
  | perf_last_snap_last_snap
  -- PERF_WIN_CTRL (R502)
  | perf_win_ctrl_window_us
  -- PERF_CYCLE (R503)
  | perf_cycle_cycles
  -- PERF_PMC (R503)
  | perf_pmc_count
  -- PERF_EVSEL (R503)
  | perf_evsel_enable | perf_evsel_class_mask | perf_evsel_priv_mask | perf_evsel_range_en | perf_evsel_event
  -- PERF_SNAP_CYCLE (R503)
  | perf_snap_cycle_cycles
  -- PERF_SNAP_PMC (R503)
  | perf_snap_pmc_count
  -- PERF_BLK_STATUS (R503)
  | perf_blk_status_snap_ovf | perf_blk_status_ovf
  -- PERF_WIN_BYTES (R503)
  | perf_win_bytes_rx_bytes | perf_win_bytes_tx_bytes
  -- PERF_WIN_SLOT_A (R503)
  | perf_win_slot_a_retired | perf_win_slot_a_wasted
  -- PERF_WIN_SLOT_B (R503)
  | perf_win_slot_b_front_starved | perf_win_slot_b_back_starved
  -- PERF_WIN_INFO (R503)
  | perf_win_info_window_seq | perf_win_info_partial | perf_win_info_sat
  -- PERF_RANGE (R503)
  | perf_range_hi | perf_range_lo
  -- RAS_CTRL (R518)
  | ras_ctrl_ring_size_log2 | ras_ctrl_ring_min_sev | ras_ctrl_keep_clear | ras_ctrl_ring_en
  -- RAS_STATUS (R518)
  | ras_status_lost_count | ras_status_lost_max_sev | ras_status_keep_used | ras_status_next_seq
  -- RAS_SEV (R518)
  | ras_sev_sev_seen
  -- RAS_FIRST (R518)
  | ras_first_code | ras_first_valid | ras_first_severity | ras_first_seq
  -- RAS_RING_BASE (R518)
  | ras_ring_base_ring_base
  -- RAS_RING_HEAD_ADDR (R518)
  | ras_ring_head_addr_ring_head_addr
  -- RAS_RING_STATUS (R518)
  | ras_ring_status_ring_skipped | ras_ring_status_tail | ras_ring_status_phase
  -- RAS_TRACE_CFG (R519)
  | ras_trace_cfg_enable | ras_trace_cfg_temp_base | ras_trace_cfg_code | ras_trace_cfg_unit_class | ras_trace_cfg_unit_index | ras_trace_cfg_lane | ras_trace_cfg_temp_step
  -- RAS_TRACE_BIN (R519)
  | ras_trace_bin_bin
  -- RAS_REC (R517)
  | ras_rec_word
  -- CSQ_CTRL (R452)
  | csq_ctrl_watch_refresh_us
  -- CSQ_TOKEN (R452)
  | csq_token_sat | csq_token_count
  -- CSQ_Q_CFG (R453)
  | csq_q_cfg_job_tag | csq_q_cfg_inline_budget | csq_q_cfg_cr_size_log2 | csq_q_cfg_size_log2 | csq_q_cfg_cr_loc | csq_q_cfg_loc | csq_q_cfg_prio | csq_q_cfg_seq | csq_q_cfg_privilege | csq_q_cfg_enable
  -- CSQ_Q_BASE (R453)
  | csq_q_base_base
  -- CSQ_Q_CR_BASE (R453)
  | csq_q_cr_base_cr_base
  -- CSQ_Q_CR_HEAD_ADDR (R453)
  | csq_q_cr_head_addr_cr_head_addr
  -- CSQ_Q_STATUS (R453)
  | csq_q_status_map_gen | csq_q_status_head | csq_q_status_exp_phase | csq_q_status_state | csq_q_status_map_pending | csq_q_status_buffered
  -- CSQ_Q_CR_STATUS (R453)
  | csq_q_cr_status_cr_tail | csq_q_cr_status_cr_head | csq_q_cr_status_cr_phase | csq_q_cr_status_held
  -- CSQ_Q_CMD (R453)
  | csq_q_cmd_cmd
  -- CSQ_Q_LAST (R453)
  | csq_q_last_entry | csq_q_last_status | csq_q_last_detail
  -- CSQ_Q_PMAP_STAGE (R451)
  | csq_q_pmap_stage_word
  -- CSQ_Q_PMAP_ACTIVE (R451)
  | csq_q_pmap_active_word
  -- CSQ_QSRAM (R451)
  | csq_qsram_word
  -- DMA_STATUS (R486)
  | dma_status_halted | dma_status_busy
  -- DMA_CH_PROG (R486)
  | dma_ch_prog_prog
  -- DMA_CH_CTRL (R486)
  | dma_ch_ctrl_halt_mode | dma_ch_ctrl_prog_qsram
  -- DMA_CH_CMD (R486)
  | dma_ch_cmd_cmd
  -- DMA_CH_STATUS (R486)
  | dma_ch_status_pc | dma_ch_status_last_result | dma_ch_status_fmem_status | dma_ch_status_owner | dma_ch_status_cause | dma_ch_status_state
  -- DMA_CH_FAULT_ADDR (R486)
  | dma_ch_fault_addr_address
  -- DMA_CH_FAULT_INFO (R486)
  | dma_ch_fault_info_outer_index | dma_ch_fault_info_inner_index | dma_ch_fault_info_bytes_done | dma_ch_fault_info_direction | dma_ch_fault_info_space
  -- PORT_CFG (R169)
  | port_cfg_bundle | port_cfg_target | port_cfg_axis | port_cfg_ctrl_from_down | port_cfg_auto_admit | port_cfg_role
  -- PORT_TIMERS (R170)
  | port_timers_credit_timeout_us | port_timers_bringup_timeout_ms
  -- PORT_STATUS (R171)
  | port_status_agreed_features | port_status_fence_mask | port_status_stencil_status | port_status_link_status
  -- PORT_CMD (R172)
  | port_cmd_cmd
  -- PORT_CMD_STATUS (R172)
  | port_cmd_status_last_cmd | port_cmd_status_result
  -- PORT_STENCIL_0 (R168)
  | port_stencil_0_far_port | port_stencil_0_nbr_id | port_stencil_0_nbr_plane | port_stencil_0_nbr_kind | port_stencil_0_check | port_stencil_0_valid
  -- PORT_STENCIL_1 (R168)
  | port_stencil_1_nbr_serial
  -- PORT_STENCIL_2 (R168)
  | port_stencil_2_src_limit | port_stencil_2_src_base
  -- PORT_STENCIL_3 (R168)
  -- (no field)
  -- PORT_NBR_0 (R168)
  | port_nbr_0_far_port | port_nbr_0_nbr_id | port_nbr_0_nbr_plane | port_nbr_0_nbr_kind
  -- PORT_NBR_1 (R168)
  | port_nbr_1_nbr_serial
  -- PORT_NBR_EXT (R173)
  | port_nbr_ext_partner_rev | port_nbr_ext_grid | port_nbr_ext_coord_x | port_nbr_ext_coord_y | port_nbr_ext_coord_z
  -- PORT_CREDIT (R173)
  | port_credit_allotment_tx | port_credit_allotment_rx | port_credit_returned | port_credit_sent
  -- XBAR_POOL_STATUS (R229)
  | xbar_pool_status_committed | xbar_pool_status_cells_free
  -- XBAR_INT_QUOTA (R229)
  | xbar_int_quota_iq_int
  -- XBAR_INT_USED (R229)
  | xbar_int_used_used_int
  -- XBAR_MIRROR_RES (R229)
  | xbar_mirror_res_oq_int | xbar_mirror_res_mirror_reserve
  -- XBAR_UMBRA (R229)
  | xbar_umbra_umbra
  -- XBAR_RED (R230)
  | xbar_red_pmax | xbar_red_max | xbar_red_min
  -- XBAR_MIR_CFG (R231)
  | xbar_mir_cfg_enable | xbar_mir_cfg_dest_kind | xbar_mir_cfg_trunc_len | xbar_mir_cfg_sample_n_m1
  -- XBAR_MIR_DEST (R231)
  | xbar_mir_dest_dest_port | xbar_mir_dest_dest_geid
  -- XBAR_MIR_STATS (R231)
  | xbar_mir_stats_dropped | xbar_mir_stats_sent
  -- XBAR_IQ (R232)
  | xbar_iq_iq
  -- XBAR_EQ (R232)
  | xbar_eq_eq
  -- XBAR_IN_USED (R232)
  | xbar_in_used_in_used
  -- XBAR_OUT_USED (R232)
  | xbar_out_used_out_used
  -- XBAR_PORT_MODE (R233)
  | xbar_port_mode_recovery_ms | xbar_port_mode_startup_ms | xbar_port_mode_red_profile | xbar_port_mode_svc_mode
  -- XBAR_PORT_STATUS (R233)
  | xbar_port_status_withholding | xbar_port_status_over_out | xbar_port_status_over_in
  -- XBAR_PORT_MIRROR (R233)
  | xbar_port_mirror_egr_en | xbar_port_mirror_egr_session | xbar_port_mirror_ing_en | xbar_port_mirror_ing_session
  -- SCHED_ECHO_CTRL (R255)
  | sched_echo_ctrl_echo_enable | sched_echo_ctrl_echo_gap_ns
  -- SCHED_INT_MARK (R255)
  | sched_int_mark_pmax | sched_int_mark_max | sched_int_mark_min
  -- SCHED_POL_CFG (R256)
  | sched_pol_cfg_mode | sched_pol_cfg_colour_aware | sched_pol_cfg_drop_red_normal | sched_pol_cfg_pir_mbps | sched_pol_cfg_cir_mbps
  -- SCHED_POL_BURST (R256)
  | sched_pol_burst_pbs_ebs | sched_pol_burst_cbs
  -- SCHED_POL_TOKENS (R256)
  | sched_pol_tokens_tp_te | sched_pol_tokens_tc
  -- SCHED_POL_STATS (R256)
  | sched_pol_stats_red | sched_pol_stats_yellow
  -- SCHED_PORT_CFG (R257)
  | sched_port_cfg_mark_mask | sched_port_cfg_strict_mask
  -- SCHED_QUANTUM (R257)
  | sched_quantum_quantum
  -- SCHED_POL_MAP (R257)
  | sched_pol_map_pol_en | sched_pol_map_pol_idx
  -- SCHED_SHAPER (R258)
  | sched_shaper_shape_en | sched_shaper_overhead | sched_shaper_burst | sched_shaper_rate_mbps
  -- SCHED_MARK (R258)
  | sched_mark_pmax | sched_mark_max | sched_mark_min
  -- SCHED_GATE_CTRL (R259)
  | sched_gate_ctrl_guard_extra_ns | sched_gate_ctrl_change | sched_gate_ctrl_gate_en
  -- SCHED_GATE_ADMIN (R259)
  | sched_gate_admin_cycle_ns | sched_gate_admin_n_entries
  -- SCHED_GATE_BASE (R259)
  | sched_gate_base_base_ns
  -- SCHED_GATE_INDEX (R259)
  | sched_gate_index_index
  -- SCHED_GATE_DATA (R259)
  | sched_gate_data_gates | sched_gate_data_interval_ns
  -- SCHED_GATE_STATUS (R259)
  | sched_gate_status_gate_state | sched_gate_status_entry | sched_gate_status_result | sched_gate_status_pending | sched_gate_status_active_list
  -- FWD_CTRL (R201)
  | fwd_ctrl_flood_enable | fwd_ctrl_flood_group | fwd_ctrl_seed_b | fwd_ctrl_seed_a
  -- FWD_AGE_CTRL (R202)
  | fwd_age_ctrl_age_period_ms
  -- FWD_LOCK_CTRL (R202)
  | fwd_lock_ctrl_lock_timeout_us
  -- FWD_STATUS (R202)
  | fwd_status_locks_held | fwd_status_overflow_used | fwd_status_entries_valid
  -- FWD_SWEEP (R202)
  | fwd_sweep_sweep_count | fwd_sweep_sweep_pos
  -- FWD_COMMIT (R202)
  | fwd_commit_slot_mask
  -- FWD_LEARN (R203)
  | fwd_learn_learn_blocked | fwd_learn_over_limit | fwd_learn_count | fwd_learn_excess_mode | fwd_learn_limit
  -- FWD_LOCK_REQ (R204)
  | fwd_lock_req_cmd | fwd_lock_req_bucket
  -- FWD_LOCK_STATUS (R204)
  | fwd_lock_status_bucket | fwd_lock_status_result | fwd_lock_status_held
  -- FWD_LOCK_STAGE (R204)
  | fwd_lock_stage_stage
  -- MCAST_STAGE (R205)
  | mcast_stage_stage
  -- MCAST_CMD (R205)
  | mcast_cmd_cmd | mcast_cmd_group
  -- MCAST_CMD_STATUS (R205)
  | mcast_cmd_status_busy | mcast_cmd_status_last_group | mcast_cmd_status_result
  -- MCAST_STATUS (R205)
  | mcast_status_groups_valid
  -- COLL_ADMIT_0 (R290)
  | coll_admit_0_chunks_reserved | coll_admit_0_sram_reserved
  -- COLL_ADMIT_1 (R290)
  | coll_admit_1_contexts_loaded | coll_admit_1_map_reserved_k | coll_admit_1_intake_reserved
  -- COLL_LOAD_ADDR (R290)
  | coll_load_addr_image
  -- COLL_LOAD_CMD (R290)
  | coll_load_cmd_cmd | coll_load_cmd_ctx
  -- COLL_LOAD_STATUS (R290)
  | coll_load_status_ctx | coll_load_status_busy | coll_load_status_result
  -- COLL_MAP_SEL (R290)
  | coll_map_sel_ctx
  -- COLL_UNDELIV (R290)
  | coll_undeliv_undeliv
  -- COLL_MISSING (R290)
  | coll_missing_missing
  -- COLL_CTX_STATE (R291)
  | coll_ctx_state_armed_steps | coll_ctx_state_step | coll_ctx_state_last_status | coll_ctx_state_state
  -- COLL_CTX_PROGRESS (R291)
  | coll_ctx_progress_window_base | coll_ctx_progress_chunks_done | coll_ctx_progress_chunks_released
  -- COLL_CTX_HDR (R291)
  | coll_ctx_hdr_hdr
  -- CMB_CTRL (R318)
  | cmb_ctrl_strike_limit | cmb_ctrl_auto_fence | cmb_ctrl_shadow_log2n
  -- CMB_STATUS (R319)
  | cmb_status_over_reserved | cmb_status_spares_in_use | cmb_status_units_fenced | cmb_status_rate_limit_gbps
  -- CMB_SHADOW_STATS (R320)
  | cmb_shadow_stats_runs | cmb_shadow_stats_deferred | cmb_shadow_stats_mismatches
  -- CMB_SHADOW_RES (R319)
  | cmb_shadow_res_reserve_used
  -- CMB_LAST_SIG (R320)
  | cmb_last_sig_signature
  -- CMB_LAST_LOC (R320)
  | cmb_last_loc_ctx | cmb_last_loc_step | cmb_last_loc_chunk | cmb_last_loc_kind | cmb_last_loc_unit
  -- CMB_UNIT_STATUS (R321)
  | cmb_unit_status_strikes | cmb_unit_status_active_slots | cmb_unit_status_retired_lane | cmb_unit_status_cmd_result | cmb_unit_status_fenced | cmb_unit_status_spare_in_use
  -- CMB_UNIT_CMD (R322)
  | cmb_unit_cmd_lane | cmb_unit_cmd_cmd
  -- CMB_UNIT_COUNT (R321)
  | cmb_unit_count_mismatches | cmb_unit_count_recomputes | cmb_unit_count_chunks_formed
  -- WRA_STATUS (R348)
  | wra_status_over_reserved | wra_status_spares_in_use | wra_status_tiles_fenced
  -- WRA_RATE (R348)
  | wra_rate_cycle_limit | wra_rate_cycle_reserved
  -- WRA_LAST_REFUSAL (R348)
  | wra_last_refusal_source | wra_last_refusal_number | wra_last_refusal_code
  -- WRA_LAST_SIG (R348)
  | wra_last_sig_signature
  -- WRA_LAST_LOC (R348)
  | wra_last_loc_source | wra_last_loc_number | wra_last_loc_step | wra_last_loc_chunk | wra_last_loc_tile | wra_last_loc_column
  -- WRA_DESC_ADDR (R349)
  | wra_desc_addr_image
  -- WRA_DESC_CMD (R349)
  | wra_desc_cmd_cmd | wra_desc_cmd_desc
  -- WRA_DESC_STATUS (R349)
  | wra_desc_status_desc | wra_desc_status_busy | wra_desc_status_result
  -- WRA_TILE_STATUS (R350)
  | wra_tile_status_queued_passes | wra_tile_status_retired_col | wra_tile_status_cmd_result | wra_tile_status_fenced | wra_tile_status_spare_in_use
  -- WRA_TILE_CMD (R350)
  | wra_tile_cmd_column | wra_tile_cmd_cmd
  -- WRA_TILE_COUNT (R350)
  | wra_tile_count_mismatches | wra_tile_count_recomputes | wra_tile_count_passes
  -- WRA_DESC_STATE (R349)
  | wra_desc_state_hold_count | wra_desc_state_inflight | wra_desc_state_kind | wra_desc_state_state
  -- FMEM_CTRL (R393)
  | fmem_ctrl_resync_gbps | fmem_ctrl_mirror_timeout_us | fmem_ctrl_keepalive_us
  -- FMEM_STATUS (R393)
  | fmem_status_inflight | fmem_status_frames_mapped
  -- FMEM_MAP_CMD (R394)
  | fmem_map_cmd_cmd | fmem_map_cmd_frame
  -- FMEM_MAP_ARG0 (R394)
  | fmem_map_arg0_role | fmem_map_arg0_writable | fmem_map_arg0_atomics | fmem_map_arg0_partner | fmem_map_arg0_window | fmem_map_arg0_job_tag
  -- FMEM_MAP_ARG1 (R394)
  | fmem_map_arg1_src_limit | fmem_map_arg1_src_base
  -- FMEM_MAP_STATUS (R394)
  | fmem_map_status_frame | fmem_map_status_busy | fmem_map_status_result
  -- FMEM_WIN_CFG (R395)
  | fmem_win_cfg_role | fmem_win_cfg_writable | fmem_win_cfg_atomics | fmem_win_cfg_partner | fmem_win_cfg_window | fmem_win_cfg_job_tag
  -- FMEM_WIN_SRC (R395)
  | fmem_win_src_src_limit | fmem_win_src_src_base
  -- FMEM_WIN_STATE (R395)
  | fmem_win_state_inflight | fmem_win_state_dirty | fmem_win_state_state
  -- MEMC_CTRL (R396)
  | memc_ctrl_scrub_en | memc_ctrl_scrub_hours
  -- MEMC_CH_OK (R396)
  | memc_ch_ok_ok
  -- MEMC_SCRUB (R396)
  | memc_scrub_passes | memc_scrub_progress
  -- MEMC_LAST_UNCORR (R396)
  | memc_last_uncorr_channel | memc_last_uncorr_address
  -- MEMC_CH_STATUS (R396)
  | memc_ch_status_mr4_rate | memc_ch_status_failed | memc_ch_status_hot | memc_ch_status_trained
  -- MEMC_CH_ECC (R396)
  | memc_ch_ecc_corrected | memc_ch_ecc_uncorrectable
  -- OPT_ENG_CTRL (R92)
  | opt_eng_ctrl_recal_period_ms | opt_eng_ctrl_rx_low_power_en | opt_eng_ctrl_ff_enable | opt_eng_ctrl_lock_enable
  -- OPT_ENG_STATUS (R93)
  | opt_eng_status_rings_fault | opt_eng_status_rings_locked | opt_eng_status_ff_link_ok | opt_eng_status_octet_done
  -- OPT_ENG_TEMP (R94)
  | opt_eng_temp_eic_temp | opt_eng_temp_pic_temp
  -- OPT_RX_THRESH (R95)
  | opt_rx_thresh_high | opt_rx_thresh_warn | opt_rx_thresh_alarm
  -- OPT_INTEG (R96)
  | opt_integ_ident_integ | opt_integ_power_integ
  -- OPT_FF_COEF (R97)
  | opt_ff_coef_tau_us | opt_ff_coef_coef
  -- OPT_RING_STATUS (R98)
  | opt_ring_status_relock_count | opt_ring_status_fault_cause | opt_ring_status_seen_slot | opt_ring_status_state
  -- OPT_RING_HEATER (R99)
  | opt_ring_heater_lock_error | opt_ring_heater_heater_ghz
  -- OPT_RING_CMD (R100)
  | opt_ring_cmd_cmd
  -- OPT_LANE_MAP (R101)
  | opt_lane_map_rx_spare | opt_lane_map_tx_spare | opt_lane_map_rx_lane | opt_lane_map_tx_lane
  -- OPT_LANE_NEXT (R102)
  | opt_lane_next_tx_arm | opt_lane_next_rx_arm | opt_lane_next_rx_lane | opt_lane_next_tx_lane
  -- OPT_LANE_SWITCH_CW (R103)
  | opt_lane_switch_cw_rx_switch_cw | opt_lane_switch_cw_tx_switch_cw
  -- OPT_CW_COUNT (R103)
  | opt_cw_count_rx_cw | opt_cw_count_tx_cw
  -- OPT_RX_POWER (R104)
  | opt_rx_power_lane
  -- OPT_RX_SPARE (R104)
  | opt_rx_spare_spare
  -- OPT_TX_TRIM (R105)
  | opt_tx_trim_trim_max | opt_tx_trim_trim
  -- OPT_MARGIN_STATUS (R106)
  | opt_margin_status_alarm | opt_margin_status_warn | opt_margin_status_request_pending
  -- LAS_ENG_CTRL (R134)
  | las_eng_ctrl_auto_spare | las_eng_ctrl_laser_enable
  -- LAS_ENG_STATUS (R135)
  | las_eng_status_seq_running | las_eng_status_octet_lit
  -- LAS_OCT_CMD (R136)
  | las_oct_cmd_slot | las_oct_cmd_cmd
  -- LAS_OCT_STATUS (R137)
  | las_oct_status_fenced | las_oct_status_participants | las_oct_status_parked | las_oct_status_standby_active | las_oct_status_outcome | las_oct_status_slot | las_oct_status_phase
  -- LAS_OCT_SEQ_TIME (R138)
  | las_oct_seq_time_seq_start
  -- LAS_DFB_STATUS (R139)
  | las_dfb_status_power | las_dfb_status_bias | las_dfb_status_active | las_dfb_status_state
  -- LAS_DFB_WEAR (R140)
  | las_dfb_wear_eq_hours | las_dfb_wear_lit_minutes
  -- LAS_DFB_TREND (R140)
  | las_dfb_trend_peak_bias | las_dfb_trend_bias_slope
  -- XPR_CTRL (R141)
  | xpr_ctrl_wt_integ
  -- XPR_STATUS (R141)
  | xpr_status_eng_adds | xpr_status_active
  -- XPR_SEG_USE (R141)
  | xpr_seg_use_per_slot
  -- XPR_CIRC_CFG (R142)
  | xpr_circ_cfg_add_port | xpr_circ_cfg_slot | xpr_circ_cfg_n_drop | xpr_circ_cfg_drop
  -- XPR_CIRC_WEIGHT (R142)
  | xpr_circ_weight_w
  -- XPR_CIRC_ACT_TIME (R142)
  | xpr_circ_act_time_act_time
  -- XPR_CIRC_CMD (R142)
  | xpr_circ_cmd_cmd
  -- XPR_CIRC_STATUS (R142)
  | xpr_circ_status_input_oma | xpr_circ_status_waveguide | xpr_circ_status_segments | xpr_circ_status_act_late | xpr_circ_status_input_lost | xpr_circ_status_last_cause | xpr_circ_status_status | xpr_circ_status_state
  -- KCL_STATUS (R557)
  | kcl_status_retrain_count | kcl_status_lanes_ok | kcl_status_width
  -- KCL_CTRL (R557)
  | kcl_ctrl_retrain | kcl_ctrl_read_timeout_us
  -- KCL_WATCH (R557)
  | kcl_watch_lines_watched | kcl_watch_reads_outstanding
  -- KCL_SVC_CFG (R557)
  | kcl_svc_cfg_fab_ethertype | kcl_svc_cfg_pfc_headroom | kcl_svc_cfg_pfc_en | kcl_svc_cfg_bind_port | kcl_svc_cfg_pass_en | kcl_svc_cfg_vid_check | kcl_svc_cfg_tag_en | kcl_svc_cfg_bind_en
  -- KCL_SVC_MAC (R557)
  | kcl_svc_mac_own_mac
  -- KCL_SVC_PEER (R557)
  | kcl_svc_peer_peer_mac
  -- KCL_SVC_VLAN (R557)
  | kcl_svc_vlan_pcp | kcl_svc_vlan_rx_vid | kcl_svc_vlan_tx_vid
  -- KCL_SVC_STATUS (R557)
  | kcl_svc_status_paused | kcl_svc_status_module_present | kcl_svc_status_fec_lock | kcl_svc_status_block_lock
  -- KCL_SVC_STATS (R557)
  | kcl_svc_stats_rx_bad | kcl_svc_stats_nonfabric | kcl_svc_stats_pt_drop | kcl_svc_stats_pfc_tx
  -- I2C_THERM (R573)
  | i2c_therm_scd | i2c_therm_msd | i2c_therm_eic | i2c_therm_pic | i2c_therm_laser | i2c_therm_over | i2c_therm_warn
  -- I2C_STATUS (R574)
  | i2c_status_stage | i2c_status_last_cause | i2c_status_alert
  /-- The local counter, 1 GHz, in ns (R397). -/
  | h_local
  /-- Replays already made of the flit in error on die-to-die link i (0–7 SCD–EIC, 8 SCD–MSD), 0 when none runs (R16). -/
  | h_d2d_replays
  /-- ADMIT sent on port i in this bring-up (R160). -/
  | h_admit_sent
  /-- ADMIT received on port i in this bring-up (R160). -/
  | h_admit_rcvd
  /-- The partner's ID has been received on port i since the last role change or reset (R59). -/
  | h_id_known
  /-- The partner's ID has been received on port i since it entered TRAIN (R161). -/
  | h_id_fresh
  /-- The partner's REV is held for port i (R165). -/
  | h_rev_known
  /-- The feature mask of the partner's REV on port i (R64). -/
  | h_partner_mask
  /-- The partner's first CREDIT of this CREDIT_INIT was received on port i (R160). -/
  | h_credit_rcvd
  /-- The device's CREDIT_INIT allotments were sent on port i (R212). -/
  | h_credit_sent
  /-- Cumulative credits freed, by 8 × port + class (R156). -/
  | h_freed
  /-- Credits freed since the last CREDIT, by 8 × port + class (R156). -/
  | h_unreported
  /-- Withheld count w_c, by 8 × port + class (R213). -/
  | h_withheld
  /-- The receiver of port i hunts for framing (R148). -/
  | h_hunting
  /-- The microsecond in which link-control frames are being counted on port i (R154). -/
  | h_lc_us
  /-- Link-control frames processed in that microsecond on port i (R154). -/
  | h_lc_count
  /-- A FEC_DEGRADE episode runs on port i (R164). -/
  | h_fec_degraded
  /-- Port i was ADMITTED since its last role change or reset (R218). -/
  | h_admitted_once
  /-- Port i was fenced with a cause other than FABRIC since it was last ADMITTED (R218). -/
  | h_fenced_other
  /-- tx_cw of port i runs (set at the first ADMIT sent, R161). -/
  | h_cw_run
  /-- rx_cw of port i runs (set at the first ADMIT received, R161). -/
  | h_rxcw_run
  /-- Local time at which tx_cw of port i was 0 (R161). -/
  | h_txcw_t0
  /-- Local time at which rx_cw of port i was 0 (R161). -/
  | h_rxcw_t0
  /-- 1 + the port that port i watches in SWAP_WAIT (R61). -/
  | h_swap_watch
  /-- Local time at which the domain of counter block i was switched on (R488). -/
  | h_cycle_t0
  /-- The DMA channel that is served next, round-robin (R473). -/
  | h_dma_next
  /-- 1 + the latest snapshot time that has fired since the schedule was set, 0 for none (R412, R497). -/
  | h_snap_last
  /-- Window accumulator rx_bytes of port i (R495). -/
  | h_win_rx_bytes
  /-- Window accumulator tx_bytes of port i (R495). -/
  | h_win_tx_bytes
  /-- Window accumulator of RETIRED slots of port i (R496). -/
  | h_win_retired
  /-- Window accumulator of WASTED slots of port i (R496). -/
  | h_win_wasted
  /-- Window accumulator of FRONT_STARVED slots of port i (R496). -/
  | h_win_front
  /-- Window accumulator of BACK_STARVED slots of port i (R496). -/
  | h_win_back
  /-- Saturation bits of the window that runs (R494). -/
  | h_win_sat
  /-- The window that runs is partial (R495). -/
  | h_win_partial
  /-- Half a slot of idle time left over on port i (12.5 slots a nanosecond, R496). -/
  | h_slot_half
  /-- Last value read from ring_head_addr (R510). -/
  | h_ring_head
  /-- A RAS_LOST record is due before the next record (R509). -/
  | h_ras_lost_due
  /-- RAS_KEEP_FULL was written since the last keep_clear (R506). -/
  | h_keep_full
  /-- Consecutive sweeps of transmit ring i without a dip (R74). -/
  | h_ring_nodip
  /-- Consecutive ACQUIRE timeouts of ring i (R74). -/
  | h_ring_acqto
  /-- Ring i has locked since it left OFF for the first time (R74). -/
  | h_ring_ever
  /-- The last RELOCK of ring i was entered from a rail (R74). -/
  | h_ring_rail
  /-- OPT_RING_RAIL_NEAR was written since ring i locked (R79). -/
  | h_ring_near
  /-- Ring i makes a repeat sweep in HOLD (R74). -/
  | h_ring_resweep
  /-- Target of the heater move of ring i (R74). -/
  | h_ring_target
  /-- Filter p_f of a feed-forward source, in 2^−16 of 10 mW, by 12 × engine + source (R83). -/
  | h_ff_p
  /-- ff_ghz of the last report, as two's complement in 10^−5 × 2^−16 GHz (R83). -/
  | h_ff_prev
  /-- Fabric time of the last feed-forward report (R90). -/
  | h_ff_last
  /-- Lanes of port i in a warn episode (R87). -/
  | h_low_ep
  /-- Lanes of port i in an alarm episode (R87). -/
  | h_alarm_ep
  /-- Direction of the last power request of each lane of port i, 1 down (R88). -/
  | h_pwr_dir
  /-- Lanes of port i refused an up request in this condition (R88). -/
  | h_pwr_blk_up
  /-- Lanes of port i refused a down request in this condition (R88). -/
  | h_pwr_blk_dn
  /-- Trim the far end last answered for lane 4n + i, 15 while none is known (R90). -/
  | h_far_trim
  /-- Local time of the last power request acted on, by 4 × port + lane (R89). -/
  | h_pwr_rx
  /-- A power request was acted on for this lane (R89). -/
  | h_pwr_rx_v
  /-- The lasers of octet i are lit (R108). -/
  | h_oct_lit
  /-- Sequence of octet i: 0 sparing, 1 parking, 2 failure of the active DFB (R113, R122, R123). -/
  | h_seq_kind
  /-- Sequence number of octet i (R115). -/
  | h_seq_no
  /-- The sequence of octet i was resumed after a warm reset (R124). -/
  | h_seq_resumed
  /-- An arm was made in the sequence of octet i (R121). -/
  | h_seq_armed
  /-- SPARE_ACK awaited by port i: 1 OUT, 2 BACK (R117). -/
  | h_sq_wait
  /-- SPARE_REQ sent without an answer by port i (R117). -/
  | h_sq_try
  /-- Switch codeword C pending on port i (R115). -/
  | h_sq_c
  /-- Spare slot of port i before the sequence (R118). -/
  | h_sq_home
  /-- Port i has switched out in the sequence (R118). -/
  | h_sq_out
  /-- Port i has switched back in the sequence (R118). -/
  | h_sq_back
  /-- A peer's sequence runs on the receive half of port i (R116). -/
  | h_peer_seq
  /-- Slot s of the peer's sequence on port i (R116). -/
  | h_peer_slot
  /-- The receive switch pending on port i is the BACK switch of the peer's sequence (R116). -/
  | h_peer_back
  /-- Sequence number of the peer's sequence on port i (R115). -/
  | h_peer_no
  /-- LAS_BIAS_WARN acted on since DFB i was lit (R111). -/
  | h_dfb_warned
  /-- LAS_BIAS_MAX written since DFB i was lit (R111). -/
  | h_dfb_maxed
  /-- Part of an hour of eq_hours of DFB i, in minutes × bias squared (R112). -/
  | h_eq_num
  /-- Persistent copy of lit_minutes of DFB i (R112, R527). -/
  | p_lit_minutes
  /-- Persistent copy of eq_hours of DFB i (R112). -/
  | p_eq_hours
  /-- Persistent copy of the part of an hour of DFB i (R112). -/
  | p_eq_num
  /-- Persistent copy of peak_bias of DFB i (R140). -/
  | p_peak_bias
  /-- Persistent copy of bias_slope of DFB i (R112). -/
  | p_bias_slope
  /-- Persistent copy of standby_active of octet i (R118). -/
  | p_standby_active
  /-- Persistent copy of parked of octet i (R122). -/
  | p_parked
  /-- EXPRESS_DECL was sent for circuit i (R130). -/
  | h_xpr_decl
  /-- A REWEIGHT of circuit i runs (R131). -/
  | h_xpr_rew
  /-- An input-lost episode of circuit i runs (R131). -/
  | h_xpr_lost_ep
  /-- State under R74 of the express coupler of slot s of port n, by 5n + s (R72, R125). -/
  | h_cpl_state
  /-- Its heater setting in GHz above its parked place, 200 GHz blue of its slot (R125). -/
  | h_cpl_ghz
  /-- State under R74 of the weight-bank ring of slot s of port n, by 5n + s (R72, R125). -/
  | h_wtr_state
  /-- Its heater setting in GHz above its parked place (R125). -/
  | h_wtr_ghz
  /-- Fabric time at which circuit i became READY (R129). -/
  | h_xpr_ready_ns
  /-- A zone below its lower limit holds the lighting of engine i (R578). -/
  | h_cold_hold
  /-- The ring of the peer's slot on port i has been dark since the OUT switch, and SPARE_READY is due (R118). -/
  | h_peer_dark
  /-- Timeout in force for the hold of lock slot i, in µs (R195). -/
  | h_lock_us
  /-- The bucket or overflow group the sweep visits next, 266,240 once all were visited (R189). -/
  | h_sweep_at
  /-- 1 + the second of the local counter in which FWD_TABLE_FULL was last written (R185). -/
  | h_full_sec
  /-- Learning requests that wait for the table engine (R184). -/
  | h_learn_q
  /-- Multicast command that runs: 1 READ, 2 WRITE (R198). -/
  | h_mc_op
  /-- Group of the multicast command that runs (R198). -/
  | h_mc_group
  /-- DWRR pointer of port i (R237). -/
  | h_sch_ptr
  /-- DWRR fresh bits of port i (R237). -/
  | h_sch_fresh
  /-- Shaper tokens by 8 × port + class, in 1/8,000 byte, two's complement, as of h_shp_t (R238). -/
  | h_shp_tok
  /-- Local time at which the shaper tokens were brought up to date (R238). -/
  | h_shp_t
  /-- Tokens of bucket P or E of policer i, in 1/8,000 byte, as of h_pol_t (R246). -/
  | h_pol_p
  /-- Tokens of bucket C of policer i, in 1/8,000 byte, as of h_pol_t (R246). -/
  | h_pol_c
  /-- Local time at which the tokens of policer i were brought up to date (R246). -/
  | h_pol_t
  /-- Countdown of mirror session i (R225). -/
  | h_mir_cnt
  /-- cycle_ns of the active gate list of port i (R240). -/
  | h_gate_cycle
  /-- Entries of the active gate list of port i (R240). -/
  | h_gate_n
  /-- Base time of the active gate list of port i (R240). -/
  | h_gate_base
  /-- Activation time of the pending gate list of port i (R244). -/
  | h_gate_swap
  /-- 1 + the queue last started, by 4 × sequencer + prio (R428). -/
  | h_csq_rr
  /-- Retired lane of unit i as last requested, 31 for none (R310). -/
  | h_cmb_req
  /-- Lane every strike of unit i named: 30 none yet, 31 several (R314). -/
  | h_cmb_strike
  /-- Verdicts passed since the last chosen chunk (R311). -/
  | h_cmb_verdicts
  /-- shadow_log2n in force until the count restarts (R318). -/
  | h_cmb_n
  /-- Retired column of tile i as last requested, 255 for none (R344). -/
  | h_wra_req
  /-- Number of the next gather. -/
  | h_gather_id
  /-- Order of arrival of the next chunk or gather (R340, R365). -/
  | h_work_age
  /-- Stripe index the patrol scrub visits next on channel i (R388). -/
  | h_scrub
  /-- Frame i answers no write until R383 lets it. -/
  | h_fm_hold
  /-- Number of the next mirror frame (R382). -/
  | h_push_id
  /-- Copies written to the record ring (R510). -/
  | h_ring_t
  /-- Records written to the dump ring (R499). -/
  | h_dump_t
  /-- Last value read from dump_head_addr (R499). -/
  | h_dump_head
  /-- Snapshots missed since the last dump began (R500). -/
  | h_dump_miss
  /-- Time parent chosen: 0 none, 1 parent_port, 2 alt_port (R408). -/
  | h_parent_sel
  /-- The holdover that runs followed GRANDMASTER (R405). -/
  | h_gm_hold
  /-- LOCKED or GRANDMASTER was entered since power-on (R405). -/
  | h_ever_lock
  /-- Accepted exchanges averaged since ACQUIRE was entered, at most 16 (R405). -/
  | h_acq_n
  /-- The servo integrator when ACQUIRE was entered (R405). -/
  | h_acq_freq
  /-- Their sum of o, two's complement, in 1/512,000 ns (R405). -/
  | h_acq_sum
  /-- Consecutive accepted exchanges within lock_ns (R405). -/
  | h_lock_n
  /-- Consecutive accepted exchanges beyond 50 ns (R405). -/
  | h_bad_n
  /-- Servo integrator freq_int, two's complement, in 1/16,384,000 ppb (R406). -/
  | h_freq_int
  /-- Sequence number of the last REQ, 0 of the parent port, 1 of the alternate (R401). -/
  | h_treq_seq
  /-- That REQ awaits its RESP (R403). -/
  | h_treq_out
  /-- Its transmit timestamp (R402). -/
  | h_treq_t1
  /-- The parent or alternate port was ADMITTED and unfenced when last looked at (R409). -/
  | h_tp_ok
  /-- A RESP was accepted on it (R404). -/
  | h_tp_valid
  /-- time_state of its last accepted RESP (R404). -/
  | h_tp_state
  /-- steps_removed of that RESP. -/
  | h_tp_steps
  /-- holdover_age of that RESP (R407). -/
  | h_tp_age
  /-- degraded of that RESP (R415). -/
  | h_tp_deg
  /-- gm_id of that RESP. -/
  | h_tp_gm
  /-- Second in which REQs of port i are counted (R401). -/
  | h_treq_sec
  /-- REQs received on port i in that second (R401). -/
  | h_treq_n
  /-- Staged offset_frac (R423). -/
  | h_frac_stage
  /-- An offset_frac is staged (R423). -/
  | h_frac_valid
  /-- 1 + the local time of the last TIME_RATE_CLAMP record, 0 for none (R398). -/
  | h_clamp_sec
  /-- 1 + the local time of the last PPS_IN edge in holdover after GRANDMASTER, 0 for none (R405). -/
  | h_pps_last
  /-- The time PLL runs on CLK10M_IN (R411). -/
  | h_ref_ext
  /-- A pulse of trigger i is in progress (R413). -/
  | h_trig_on
  /-- Index of the next pulse of trigger i (R413). -/
  | h_trig_next
  /-- 1 + the stamp of the last edge resolved on capture input i, in 0.25 ns (R414). -/
  | h_cap_last
  /-- Fabric time at the end of the last window (R495). -/
  | h_win_end
  /-- Training of the companion link: 0 up, 1 retraining (requests are not accepted), 2 after a reset (requests get error completions) (R548, R522). -/
  | h_kcl_train
  /-- The training that runs may end at full width (R548). -/
  | h_kcl_full
  /-- Priorities of service port i for which XOFF was the last PFC sent (R554). -/
  | h_pfc_xoff
  /-- PORST_N is asserted (R520). -/
  | h_porst
  /-- Direction of a domain's switching: 1 on (R28). -/
  | h_pd_target
  /-- Engine i keeps its octets lit and its rings as they are since a warm reset (R522). -/
  | h_eng_hold
  /-- Domains stay off until a POWER or COLD reset (R563, R568). -/
  | h_shut
  /-- Rails out of range, in the order of R561 (R563). -/
  | h_rail_out
  /-- REFCLK was missed (R568). -/
  | h_refclk
  /-- Setpoint of AVS rail i in mV (R564). -/
  | h_avs_mv
  /-- Trimming of AVS rail i has stopped (R564). -/
  | h_avs_stop
  /-- Reading of thermal sensor i in °C, two's complement, 128 while it has none: 36 SCD, 4 MSD, 8 EIC, 8 PIC, 16 laser (R576). -/
  | h_sens
  /-- A warning episode of sensor i runs (R577). -/
  | h_sens_warn
  /-- A limit episode of sensor i runs (R577). -/
  | h_sens_over
  /-- THERMTRIP_N is asserted and the ROM holds in ROM_START (R577). -/
  | h_trip
  /-- THERM_COLD_HOLD was written for the hold in ROM_START (R578). -/
  | h_cold_rom
  /-- The ROM is stopped by the board-test strap (R569). -/
  | h_board_test
  /-- The ROM stays where it is after BOOT_NO_IMAGE (R529, R540). -/
  | h_boot_stop
  /-- Slot chosen in SELECT (R529). -/
  | h_boot_slot
  /-- Slots abandoned in this boot (R529). -/
  | h_boot_fail
  /-- Watchdog resets since the last boot that reached READY (R529). -/
  | h_boot_wd
  /-- An image runs: LOAD was left (R541). -/
  | h_run_valid
  /-- ECDSA key index the running image was verified with (R533). -/
  | h_run_ecdsa
  /-- LMS key index the running image was verified with (R533). -/
  | h_run_lms
  /-- svn, link_rev and image_version of the image that VERIFY passed (R541). -/
  | h_load_img
  /-- Its key indexes. -/
  | h_load_keys
  /-- Operands of the SEC command that runs (R542). -/
  | h_sec_args
  /-- TAP instruction: 0 reset (IDCODE), 1 BYPASS, 2 EXTEST, 3 EXTEST_PULSE, 4 EXTEST_TRAIN (R571). -/
  | h_tap
  /-- Preferred slot of the boot control (R527, R537). -/
  | p_pref
  /-- Trial flag of the boot control (R537). -/
  | p_trial
  /-- The trial slot was tried (R529). -/
  | p_tried
  deriving DecidableEq, Repr

/-- The width of a field in bits. -/
def Fld.width : Fld → Nat
  | .sys_straps_slot_force | .sys_straps_slot_force_en | .sys_fabric_size_fabric_mode 
  | .sys_boot_status_running_slot | .sys_boot_status_trial | .sys_boot_status_fallback | .sec_cmd_slot 
  | .sec_cmd_allow_strand | .sec_cmd_chain | .sec_cmd_key_kind | .sec_cmd_status_busy | .sec_boot_ctrl_preferred 
  | .sec_boot_ctrl_go | .time_ctrl_tc_en | .time_ctrl_pps_out_en | .time_ctrl_ref_sel | .time_ctrl_step_en 
  | .time_ctrl_gm_en | .time_ctrl_servo_en | .time_status_degraded | .time_status_upstream_holdover 
  | .time_status_ref_lost | .time_status_pps_ok | .time_parent_alt_en | .time_parent_parent_en 
  | .time_meas_eligible | .time_align_fallback_en | .time_trig_ctrl_late | .time_trig_ctrl_polarity 
  | .time_trig_ctrl_enable | .time_cap_info_enable | .time_cap_info_overflow | .time_cap_info_head_edge 
  | .perf_snap_ctrl_dump_win | .perf_snap_ctrl_dump_en | .perf_snap_ctrl_snap_now | .perf_dump_status_phase 
  | .perf_dump_status_busy | .perf_evsel_enable | .perf_evsel_range_en | .perf_win_info_partial 
  | .ras_ctrl_keep_clear | .ras_ctrl_ring_en | .ras_first_valid | .ras_ring_status_phase | .ras_trace_cfg_enable 
  | .csq_token_sat | .csq_q_cfg_cr_loc | .csq_q_cfg_loc | .csq_q_cfg_enable | .csq_q_status_exp_phase 
  | .csq_q_status_map_pending | .csq_q_cr_status_cr_phase | .dma_ch_ctrl_halt_mode | .dma_ch_ctrl_prog_qsram 
  | .port_cfg_ctrl_from_down | .port_cfg_auto_admit | .port_stencil_0_valid | .port_nbr_ext_grid 
  | .xbar_mir_cfg_enable | .xbar_mir_cfg_dest_kind | .xbar_port_mirror_egr_en | .xbar_port_mirror_ing_en 
  | .sched_echo_ctrl_echo_enable | .sched_pol_cfg_mode | .sched_pol_cfg_colour_aware 
  | .sched_pol_cfg_drop_red_normal | .sched_pol_map_pol_en | .sched_shaper_shape_en | .sched_gate_ctrl_change 
  | .sched_gate_ctrl_gate_en | .sched_gate_status_pending | .sched_gate_status_active_list 
  | .fwd_ctrl_flood_enable | .fwd_learn_learn_blocked | .fwd_learn_over_limit | .fwd_learn_excess_mode 
  | .fwd_lock_status_held | .mcast_cmd_status_busy | .coll_load_status_busy | .cmb_ctrl_auto_fence 
  | .cmb_status_over_reserved | .cmb_unit_status_fenced | .cmb_unit_status_spare_in_use 
  | .wra_status_over_reserved | .wra_desc_status_busy | .wra_tile_status_fenced | .wra_tile_status_spare_in_use 
  | .fmem_map_arg0_writable | .fmem_map_arg0_atomics | .fmem_map_status_busy | .fmem_win_cfg_writable 
  | .fmem_win_cfg_atomics | .memc_ctrl_scrub_en | .memc_ch_status_failed | .memc_ch_status_hot 
  | .memc_ch_status_trained | .opt_eng_ctrl_rx_low_power_en | .opt_eng_ctrl_ff_enable | .opt_eng_ctrl_lock_enable 
  | .opt_eng_status_ff_link_ok | .opt_lane_next_tx_arm | .opt_lane_next_rx_arm | .las_eng_ctrl_auto_spare 
  | .las_eng_ctrl_laser_enable | .las_dfb_status_active | .xpr_circ_status_act_late | .xpr_circ_status_input_lost 
  | .kcl_ctrl_retrain | .kcl_svc_cfg_pass_en | .kcl_svc_cfg_vid_check | .kcl_svc_cfg_tag_en 
  | .kcl_svc_cfg_bind_en | .kcl_svc_status_module_present | .kcl_svc_status_fec_lock | .kcl_svc_status_block_lock 
  | .h_admit_sent | .h_admit_rcvd | .h_id_known | .h_id_fresh | .h_rev_known | .h_credit_rcvd | .h_credit_sent 
  | .h_hunting | .h_fec_degraded | .h_admitted_once | .h_fenced_other | .h_cw_run | .h_rxcw_run | .h_win_partial 
  | .h_slot_half | .h_ras_lost_due | .h_keep_full | .h_ring_ever | .h_ring_rail | .h_ring_near | .h_ring_resweep 
  | .h_pwr_rx_v | .h_oct_lit | .h_seq_resumed | .h_seq_armed | .h_sq_out | .h_sq_back | .h_peer_seq 
  | .h_peer_back | .h_dfb_warned | .h_dfb_maxed | .h_xpr_decl | .h_xpr_rew | .h_xpr_lost_ep | .h_cold_hold 
  | .h_peer_dark | .h_fm_hold | .h_gm_hold | .h_ever_lock | .h_treq_out | .h_tp_ok | .h_tp_valid | .h_tp_deg 
  | .h_frac_valid | .h_ref_ext | .h_trig_on | .h_kcl_full | .h_porst | .h_eng_hold | .h_shut | .h_refclk 
  | .h_avs_stop | .h_sens_warn | .h_sens_over | .h_trip | .h_cold_rom | .h_board_test | .h_boot_stop 
  | .h_boot_slot | .h_run_valid | .p_pref | .p_trial | .p_tried => 1
  | .sys_id_part | .sys_id_rom_version | .sys_reset_cmd_confirm | .sys_reset_info_warm_count 
  | .sys_boot_status_link_rev | .sec_slot_status_link_rev | .sec_boot_ctrl_boot_watchdog_ms 
  | .sec_boot_ctrl_confirm_timeout_s | .time_status_step_count | .time_servo_step_threshold_ns 
  | .time_parent_alt_wait_ms | .time_meas_delay | .time_align_align_limit_ms | .time_trig_ctrl_count 
  | .time_trig_ctrl_remaining | .time_port_asym_ps | .perf_dump_status_dump_seq | .perf_dump_status_snaps_missed 
  | .perf_win_ctrl_window_us | .ras_status_lost_count | .ras_first_code | .ras_ring_status_tail 
  | .ras_trace_cfg_code | .ras_trace_bin_bin | .csq_ctrl_watch_refresh_us | .csq_token_count | .csq_q_cfg_job_tag 
  | .csq_q_cfg_inline_budget | .csq_q_status_map_gen | .csq_q_status_head | .csq_q_cr_status_cr_tail 
  | .csq_q_cr_status_cr_head | .csq_q_last_entry | .dma_ch_status_pc | .dma_ch_status_owner 
  | .dma_ch_fault_info_outer_index | .dma_ch_fault_info_inner_index | .port_timers_bringup_timeout_ms 
  | .port_stencil_0_far_port | .port_nbr_0_far_port | .port_nbr_ext_partner_rev | .port_credit_allotment_tx 
  | .port_credit_allotment_rx | .port_credit_returned | .port_credit_sent | .xbar_int_quota_iq_int 
  | .xbar_int_used_used_int | .xbar_mirror_res_mirror_reserve | .xbar_red_max | .xbar_red_min 
  | .xbar_in_used_in_used | .xbar_out_used_out_used | .xbar_port_mode_recovery_ms | .xbar_port_mode_startup_ms 
  | .sched_echo_ctrl_echo_gap_ns | .sched_int_mark_max | .sched_int_mark_min | .sched_quantum_quantum 
  | .sched_mark_max | .sched_mark_min | .sched_gate_ctrl_guard_extra_ns | .fwd_ctrl_flood_group 
  | .fwd_status_overflow_used | .fwd_learn_count | .fwd_learn_limit | .mcast_cmd_group 
  | .mcast_cmd_status_last_group | .coll_admit_0_chunks_reserved | .coll_ctx_state_armed_steps 
  | .cmb_shadow_stats_deferred | .cmb_shadow_stats_mismatches | .cmb_unit_status_active_slots 
  | .cmb_unit_count_mismatches | .cmb_unit_count_recomputes | .wra_rate_cycle_limit | .wra_rate_cycle_reserved 
  | .wra_tile_status_queued_passes | .wra_tile_count_mismatches | .wra_tile_count_recomputes 
  | .wra_desc_state_hold_count | .fmem_ctrl_resync_gbps | .fmem_ctrl_mirror_timeout_us | .fmem_ctrl_keepalive_us 
  | .fmem_map_arg0_job_tag | .fmem_win_cfg_job_tag | .memc_scrub_progress | .memc_ch_ecc_uncorrectable 
  | .opt_eng_temp_eic_temp | .opt_eng_temp_pic_temp | .opt_rx_thresh_high | .opt_rx_thresh_warn 
  | .opt_rx_thresh_alarm | .opt_ff_coef_tau_us | .opt_ff_coef_coef | .opt_ring_status_relock_count 
  | .opt_ring_heater_lock_error | .opt_rx_power_lane | .opt_rx_spare_spare | .las_dfb_status_power 
  | .las_dfb_trend_bias_slope | .xpr_circ_status_input_oma | .kcl_ctrl_read_timeout_us 
  | .kcl_svc_cfg_fab_ethertype | .kcl_svc_cfg_pfc_headroom | .kcl_svc_stats_rx_bad | .kcl_svc_stats_nonfabric 
  | .kcl_svc_stats_pt_drop | .kcl_svc_stats_pfc_tx | .h_freed | .h_withheld | .h_seq_no | .h_peer_no 
  | .p_bias_slope | .h_mc_group | .h_dump_miss => 16
  | .sys_id_stepping | .sys_id_lid | .sys_fabric_pos_hall | .sys_reset_info_stage_at_reset 
  | .sys_boot_status_stage | .sys_boot_status_svn | .sec_slot_status_svn | .sec_fuse_svn_fused 
  | .time_status_holdover_age | .time_status_steps_removed | .time_servo_delay_gate_ns | .time_servo_lock_ns 
  | .time_servo_slew_max_ns | .time_meas_lost_run | .time_pps_pps_width_ms | .perf_evsel_class_mask 
  | .perf_blk_status_snap_ovf | .perf_blk_status_ovf | .ras_sev_sev_seen | .ras_trace_cfg_temp_base 
  | .ras_trace_cfg_lane | .csq_q_last_status | .dma_ch_status_last_result | .xbar_mirror_res_oq_int 
  | .xbar_red_pmax | .xbar_port_status_withholding | .xbar_port_status_over_out | .xbar_port_status_over_in 
  | .sched_int_mark_pmax | .sched_port_cfg_mark_mask | .sched_port_cfg_strict_mask | .sched_shaper_overhead 
  | .sched_mark_pmax | .sched_gate_index_index | .sched_gate_data_gates | .sched_gate_status_gate_state 
  | .sched_gate_status_entry | .fwd_ctrl_seed_b | .fwd_ctrl_seed_a | .cmb_ctrl_strike_limit 
  | .cmb_status_spares_in_use | .cmb_status_units_fenced | .cmb_unit_status_strikes | .wra_last_loc_column 
  | .wra_tile_status_retired_col | .memc_ctrl_scrub_hours | .opt_eng_ctrl_recal_period_ms 
  | .opt_eng_status_octet_done | .las_eng_status_octet_lit | .las_oct_status_fenced 
  | .las_oct_status_participants | .xpr_circ_status_segments | .kcl_status_lanes_ok | .kcl_svc_cfg_pfc_en 
  | .kcl_svc_status_paused | .i2c_therm_scd | .i2c_therm_msd | .i2c_therm_eic | .i2c_therm_pic | .i2c_therm_laser 
  | .i2c_status_stage | .h_sch_fresh | .h_wra_req | .h_tp_state | .h_tp_steps | .h_tp_age | .h_pfc_xoff | .h_sens => 8
  | .sys_serial_serial | .sys_reset_time_reset_time | .sec_cmd_addr_addr | .sec_nonce_nonce | .sec_kcl_img_img 
  | .time_now_ns_now_ns | .time_local_local | .time_offset_ns_offset_ns | .time_trig_start_start_ns 
  | .time_cap_ns_cap_ns | .perf_snap_time_snap_time | .perf_dump_base_dump_base 
  | .perf_dump_head_addr_dump_head_addr | .perf_last_snap_last_snap | .perf_cycle_cycles 
  | .perf_snap_cycle_cycles | .ras_ring_base_ring_base | .ras_ring_head_addr_ring_head_addr | .ras_rec_word 
  | .csq_q_base_base | .csq_q_cr_base_cr_base | .csq_q_cr_head_addr_cr_head_addr | .csq_q_pmap_stage_word 
  | .csq_q_pmap_active_word | .csq_qsram_word | .dma_ch_prog_prog | .dma_ch_fault_addr_address 
  | .port_stencil_1_nbr_serial | .port_nbr_1_nbr_serial | .xbar_umbra_umbra | .sched_gate_base_base_ns 
  | .fwd_commit_slot_mask | .fwd_lock_stage_stage | .mcast_stage_stage | .coll_load_addr_image 
  | .coll_undeliv_undeliv | .coll_missing_missing | .coll_ctx_hdr_hdr | .cmb_last_sig_signature 
  | .wra_last_sig_signature | .wra_desc_addr_image | .memc_ch_ok_ok | .las_oct_seq_time_seq_start 
  | .xpr_circ_act_time_act_time | .h_local | .h_lc_us | .h_txcw_t0 | .h_rxcw_t0 | .h_cycle_t0 | .h_ring_head 
  | .h_ff_last | .h_pwr_rx | .h_xpr_ready_ns | .h_full_sec | .h_shp_t | .h_pol_t | .h_gate_base | .h_gate_swap 
  | .h_work_age | .h_ring_t | .h_dump_t | .h_dump_head | .h_treq_t1 | .h_treq_sec | .h_clamp_sec | .h_pps_last 
  | .h_trig_next | .h_win_end => 64
  | .sys_fabric_pos_plane | .sys_reset_info_last_level | .sys_reset_info_last_cause | .sec_cmd_cmd 
  | .sec_cmd_status_last_cmd | .sec_cmd_status_result | .sec_slot_status_reason | .sec_fuse_lms_revoked 
  | .sec_fuse_ecdsa_revoked | .sec_fuse_lms_keys | .sec_fuse_ecdsa_keys | .time_servo_ki_shift 
  | .time_servo_kp_shift | .perf_snap_ctrl_event_line | .ras_trace_cfg_unit_class | .ras_trace_cfg_temp_step 
  | .csq_q_status_state | .csq_q_status_buffered | .dma_ch_status_cause | .port_status_link_status 
  | .port_cmd_cmd | .port_cmd_status_last_cmd | .port_cmd_status_result | .port_stencil_0_nbr_plane 
  | .port_stencil_0_nbr_kind | .port_nbr_0_nbr_plane | .port_nbr_0_nbr_kind | .xbar_port_mirror_egr_session 
  | .xbar_port_mirror_ing_session | .sched_gate_status_result | .fwd_lock_status_result 
  | .mcast_cmd_status_result | .coll_ctx_state_last_status | .cmb_last_loc_kind | .cmb_unit_status_cmd_result 
  | .wra_desc_status_result | .wra_tile_status_cmd_result | .wra_desc_state_kind | .fmem_map_status_result 
  | .memc_ch_status_mr4_rate | .opt_ring_status_fault_cause | .opt_margin_status_alarm | .opt_margin_status_warn 
  | .opt_margin_status_request_pending | .las_eng_status_seq_running | .las_oct_status_phase 
  | .xpr_status_eng_adds | .xpr_circ_status_last_cause | .xpr_circ_status_status | .kcl_status_width 
  | .i2c_status_last_cause | .h_lc_count | .h_low_ep | .h_alarm_ep | .h_pwr_dir | .h_pwr_blk_up | .h_pwr_blk_dn 
  | .h_far_trim | .h_load_keys => 4
  | .sec_slot_status_image_version | .time_now_frac_now_frac | .time_offset_frac_offset_frac | .time_meas_offset 
  | .time_pps_pps_err | .time_trig_period_width_ns | .time_trig_period_period_ns | .perf_snap_ctrl_snap_period_us 
  | .perf_win_bytes_rx_bytes | .perf_win_bytes_tx_bytes | .perf_win_slot_a_retired | .perf_win_slot_a_wasted 
  | .perf_win_slot_b_front_starved | .perf_win_slot_b_back_starved | .perf_win_info_window_seq | .perf_range_hi 
  | .perf_range_lo | .ras_status_next_seq | .ras_first_seq | .ras_ring_status_ring_skipped | .csq_q_last_detail 
  | .dma_status_halted | .dma_status_busy | .port_status_agreed_features | .xbar_mir_stats_dropped 
  | .xbar_mir_stats_sent | .sched_pol_tokens_tp_te | .sched_pol_tokens_tc | .sched_pol_stats_red 
  | .sched_pol_stats_yellow | .sched_gate_admin_cycle_ns | .sched_gate_data_interval_ns | .fwd_sweep_sweep_count 
  | .cmb_shadow_stats_runs | .cmb_unit_count_chunks_formed | .wra_tile_count_passes | .memc_scrub_passes 
  | .memc_ch_ecc_corrected | .opt_lane_switch_cw_rx_switch_cw | .opt_lane_switch_cw_tx_switch_cw 
  | .opt_cw_count_rx_cw | .opt_cw_count_tx_cw | .las_dfb_wear_eq_hours | .las_dfb_wear_lit_minutes 
  | .kcl_status_retrain_count | .h_partner_mask | .h_win_rx_bytes | .h_win_tx_bytes | .h_win_retired 
  | .h_win_wasted | .h_win_front | .h_win_back | .h_sq_c | .p_lit_minutes | .p_eq_hours | .h_gate_cycle 
  | .h_gather_id | .h_frac_stage => 32
  | .time_status_time_state | .perf_evsel_priv_mask | .ras_ctrl_ring_min_sev | .ras_status_lost_max_sev 
  | .ras_first_severity | .csq_q_cfg_seq | .csq_q_cmd_cmd | .dma_ch_status_state | .dma_ch_fault_info_space 
  | .port_cfg_role | .port_status_stencil_status | .xbar_port_mode_red_profile | .coll_ctx_state_state 
  | .cmb_unit_cmd_cmd | .wra_status_spares_in_use | .wra_status_tiles_fenced | .wra_tile_cmd_cmd 
  | .wra_desc_state_state | .fmem_map_cmd_cmd | .fmem_win_state_state | .opt_integ_ident_integ 
  | .opt_integ_power_integ | .opt_ring_status_seen_slot | .opt_ring_status_state | .opt_lane_map_rx_spare 
  | .opt_lane_map_tx_spare | .opt_lane_map_rx_lane | .opt_lane_map_tx_lane | .opt_lane_next_rx_lane 
  | .opt_lane_next_tx_lane | .opt_tx_trim_trim_max | .opt_tx_trim_trim | .las_oct_cmd_slot 
  | .las_oct_status_outcome | .las_oct_status_slot | .las_dfb_status_state | .xpr_ctrl_wt_integ 
  | .xpr_seg_use_per_slot | .xpr_circ_cfg_slot | .xpr_circ_cfg_n_drop | .xpr_circ_status_state 
  | .kcl_svc_vlan_pcp | .h_d2d_replays | .h_sq_home | .h_peer_slot | .h_cpl_state | .h_wtr_state | .h_sch_ptr 
  | .h_tap => 3
  | .sys_straps_boot_src | .sys_pd_cmd_cmd | .sys_reset_cmd_level | .sec_cmd_key_index | .sec_slot_status_state 
  | .time_cap_info_edge_sel | .time_cap_info_head_quarter | .perf_snap_ctrl_snap_src | .csq_q_cfg_prio 
  | .csq_q_cfg_privilege | .dma_ch_cmd_cmd | .dma_ch_fault_info_direction | .port_cfg_axis 
  | .xbar_port_mode_svc_mode | .fwd_lock_req_cmd | .mcast_cmd_cmd | .coll_load_cmd_cmd | .wra_last_refusal_source 
  | .wra_last_loc_source | .wra_last_loc_tile | .wra_desc_cmd_cmd | .fmem_map_arg0_role | .fmem_win_cfg_role 
  | .opt_ring_cmd_cmd | .las_oct_cmd_cmd | .xpr_circ_cmd_cmd | .xpr_circ_status_waveguide | .h_ring_nodip 
  | .h_ring_acqto | .h_seq_kind | .h_sq_wait | .h_sq_try | .h_mc_op | .h_parent_sel | .h_kcl_train | .h_boot_fail 
  | .h_boot_wd | .h_run_ecdsa | .h_run_lms => 2
  | .sys_pd_cmd_domain | .time_cap_info_level | .perf_dump_cfg_dump_size_log2 | .ras_ctrl_ring_size_log2 
  | .csq_q_cfg_cr_size_log2 | .csq_q_cfg_size_log2 | .csq_q_cr_status_held | .port_stencil_0_check 
  | .coll_load_status_result | .cmb_ctrl_shadow_log2n | .cmb_unit_status_retired_lane | .cmb_unit_cmd_lane 
  | .wra_last_refusal_code | .las_oct_status_parked | .las_oct_status_standby_active | .i2c_therm_over 
  | .i2c_therm_warn | .h_dma_next | .p_standby_active | .p_parked | .h_cmb_req | .h_cmb_strike | .h_cmb_n 
  | .h_acq_n | .h_bad_n => 5
  | .sys_fabric_coord_coord | .ras_trace_cfg_unit_index | .port_cfg_target | .port_nbr_ext_coord_x 
  | .port_nbr_ext_coord_y | .port_nbr_ext_coord_z | .sched_pol_map_pol_idx | .wra_desc_cmd_desc 
  | .wra_desc_status_desc | .opt_ring_heater_heater_ghz | .las_dfb_status_bias | .las_dfb_trend_peak_bias 
  | .kcl_svc_vlan_rx_vid | .kcl_svc_vlan_tx_vid | .h_ring_target | .p_peak_bias | .h_cpl_ghz | .h_wtr_ghz 
  | .h_treq_n | .h_rail_out | .h_avs_mv => 12
  | .sys_boot_status_image_version | .perf_dump_status_tail | .dma_ch_fault_info_bytes_done 
  | .port_stencil_0_nbr_id | .port_stencil_2_src_limit | .port_stencil_2_src_base | .port_nbr_0_nbr_id 
  | .xbar_mir_cfg_sample_n_m1 | .xbar_mir_dest_dest_geid | .sched_pol_burst_pbs_ebs | .sched_pol_burst_cbs 
  | .sched_shaper_burst | .fmem_map_arg1_src_limit | .fmem_map_arg1_src_base | .fmem_win_src_src_limit 
  | .fmem_win_src_src_base | .h_mir_cnt => 24
  | .time_parent_alt_port | .time_parent_parent_port | .ras_status_keep_used | .port_cfg_bundle 
  | .xbar_mir_cfg_trunc_len | .xbar_mir_dest_dest_port | .sched_gate_admin_n_entries | .fmem_status_frames_mapped 
  | .fmem_map_cmd_frame | .fmem_map_status_frame | .xpr_circ_cfg_add_port | .xpr_circ_cfg_drop 
  | .kcl_watch_reads_outstanding | .kcl_svc_cfg_bind_port | .h_gate_n | .h_lock_n => 9
  | .sys_pd_status_busy | .sys_pd_status_on | .port_timers_credit_timeout_us | .xbar_pool_status_committed 
  | .xbar_pool_status_cells_free | .sched_pol_cfg_pir_mbps | .sched_pol_cfg_cir_mbps | .sched_shaper_rate_mbps 
  | .cmb_last_loc_chunk | .wra_last_loc_chunk | .h_unreported | .h_push_id | .h_treq_seq | .h_pd_target => 20
  | .sys_fabric_pos_device | .time_align_fallback_ctx | .fwd_lock_ctrl_lock_timeout_us | .coll_load_cmd_ctx 
  | .coll_load_status_ctx | .coll_map_sel_ctx | .cmb_last_loc_ctx | .wra_last_refusal_number 
  | .wra_last_loc_number | .fmem_map_arg0_partner | .fmem_win_cfg_partner | .h_lock_us => 14
  | .time_rate_rate | .perf_pmc_count | .perf_snap_pmc_count | .kcl_svc_mac_own_mac | .kcl_svc_peer_peer_mac 
  | .h_ff_p | .h_shp_tok => 48
  | .perf_evsel_event | .opt_eng_status_rings_fault | .opt_eng_status_rings_locked | .h_swap_watch | .h_csq_rr => 10
  | .fwd_status_locks_held | .cmb_last_loc_unit | .wra_tile_cmd_column | .xpr_status_active | .i2c_status_alert => 7
  | .fwd_status_entries_valid | .coll_ctx_progress_window_base | .coll_ctx_progress_chunks_done 
  | .coll_ctx_progress_chunks_released | .h_cmb_verdicts => 21
  | .fwd_sweep_sweep_pos | .fwd_lock_req_bucket | .fwd_lock_status_bucket | .fmem_win_state_dirty | .h_sweep_at => 19
  | .coll_admit_1_intake_reserved | .coll_ctx_state_step | .cmb_status_rate_limit_gbps | .cmb_last_loc_step 
  | .wra_last_loc_step => 18
  | .perf_win_info_sat | .dma_ch_status_fmem_status | .memc_last_uncorr_channel | .h_win_sat => 6
  | .port_status_fence_mask | .coll_admit_1_map_reserved_k | .xpr_circ_weight_w | .kcl_watch_lines_watched => 11
  | .sys_fabric_size_size | .wra_desc_state_inflight | .h_learn_q => 13
  | .time_status_gm_id | .fwd_age_ctrl_age_period_ms | .h_tp_gm => 22
  | .xbar_iq_iq | .xbar_eq_eq | .coll_admit_1_contexts_loaded => 15
  | .mcast_status_groups_valid | .fmem_status_inflight | .fmem_win_state_inflight => 17
  | .coll_admit_0_sram_reserved | .h_eq_num | .p_eq_num => 27
  | .h_acq_freq | .h_acq_sum | .h_freq_int => 128
  | .fmem_map_arg0_window | .fmem_win_cfg_window => 26
  | .h_pol_p | .h_pol_c => 40
  | .cmb_shadow_res_reserve_used => 23
  | .memc_last_uncorr_address => 39
  | .h_snap_last => 65
  | .h_ff_prev => 96
  | .h_scrub => 25
  | .h_cap_last => 72
  | .h_load_img => 56
  | .h_sec_args => 60

/-- The value of field `f` with index `i` after reset. Where spec/ gives the reset value X, 0: DESIGN CHOICE, log entry 3. -/
def Fld.reset : Fld → Nat → Nat
  | .sys_id_rom_version, _ | .sys_serial_serial, _ | .sys_straps_slot_force, _ | .sys_straps_slot_force_en, _ 
  | .sys_straps_boot_src, _ | .sys_fabric_pos_hall, _ | .sys_fabric_pos_plane, _ | .sys_fabric_pos_device, _ 
  | .sys_fabric_size_fabric_mode, _ | .sys_fabric_coord_coord, _ | .sys_pd_cmd_cmd, _ | .sys_pd_cmd_domain, _ 
  | .sys_pd_status_busy, _ | .sys_reset_cmd_level, _ | .sys_reset_cmd_confirm, _ | .sys_reset_info_warm_count, _ 
  | .sys_reset_info_last_level, _ | .sys_reset_info_last_cause, _ | .sys_reset_info_stage_at_reset, _ 
  | .sys_reset_time_reset_time, _ | .sys_boot_status_stage, _ | .sys_boot_status_running_slot, _ 
  | .sys_boot_status_trial, _ | .sys_boot_status_fallback, _ | .sys_boot_status_svn, _ 
  | .sys_boot_status_link_rev, _ | .sys_boot_status_image_version, _ | .sec_cmd_cmd, _ | .sec_cmd_slot, _ 
  | .sec_cmd_allow_strand, _ | .sec_cmd_chain, _ | .sec_cmd_key_kind, _ | .sec_cmd_key_index, _ 
  | .sec_cmd_addr_addr, _ | .sec_cmd_status_busy, _ | .sec_cmd_status_last_cmd, _ | .sec_cmd_status_result, _ 
  | .sec_slot_status_link_rev, _ | .sec_slot_status_svn, _ | .sec_slot_status_image_version, _ 
  | .sec_slot_status_reason, _ | .sec_slot_status_state, _ | .sec_fuse_svn_fused, _ | .sec_fuse_lms_revoked, _ 
  | .sec_fuse_ecdsa_revoked, _ | .sec_fuse_lms_keys, _ | .sec_fuse_ecdsa_keys, _ | .sec_boot_ctrl_preferred, _ 
  | .sec_boot_ctrl_go, _ | .sec_nonce_nonce, _ | .sec_kcl_img_img, _ | .time_ctrl_pps_out_en, _ 
  | .time_ctrl_ref_sel, _ | .time_ctrl_gm_en, _ | .time_ctrl_servo_en, _ | .time_status_step_count, _ 
  | .time_status_holdover_age, _ | .time_status_steps_removed, _ | .time_status_gm_id, _ 
  | .time_status_upstream_holdover, _ | .time_status_ref_lost, _ | .time_status_pps_ok, _ 
  | .time_status_time_state, _ | .time_now_ns_now_ns, _ | .time_now_frac_now_frac, _ | .time_local_local, _ 
  | .time_offset_ns_offset_ns, _ | .time_offset_frac_offset_frac, _ | .time_rate_rate, _ | .time_parent_alt_en, _ 
  | .time_parent_alt_port, _ | .time_parent_parent_en, _ | .time_parent_parent_port, _ | .time_meas_offset, _ 
  | .time_meas_delay, _ | .time_meas_lost_run, _ | .time_meas_eligible, _ | .time_align_fallback_en, _ 
  | .time_align_fallback_ctx, _ | .time_pps_pps_err, _ | .time_trig_start_start_ns, _ 
  | .time_trig_period_period_ns, _ | .time_trig_ctrl_count, _ | .time_trig_ctrl_remaining, _ 
  | .time_trig_ctrl_late, _ | .time_trig_ctrl_polarity, _ | .time_trig_ctrl_enable, _ | .time_cap_info_enable, _ 
  | .time_cap_info_overflow, _ | .time_cap_info_level, _ | .time_cap_info_head_edge, _ 
  | .time_cap_info_head_quarter, _ | .time_cap_ns_cap_ns, _ | .time_port_asym_ps, _ 
  | .perf_snap_ctrl_snap_period_us, _ | .perf_snap_ctrl_event_line, _ | .perf_snap_ctrl_snap_src, _ 
  | .perf_snap_ctrl_dump_win, _ | .perf_snap_ctrl_dump_en, _ | .perf_snap_ctrl_snap_now, _ 
  | .perf_snap_time_snap_time, _ | .perf_dump_base_dump_base, _ | .perf_dump_head_addr_dump_head_addr, _ 
  | .perf_dump_status_dump_seq, _ | .perf_dump_status_snaps_missed, _ | .perf_dump_status_tail, _ 
  | .perf_dump_status_busy, _ | .perf_last_snap_last_snap, _ | .perf_cycle_cycles, _ | .perf_pmc_count, _ 
  | .perf_evsel_enable, _ | .perf_evsel_range_en, _ | .perf_evsel_event, _ | .perf_snap_cycle_cycles, _ 
  | .perf_snap_pmc_count, _ | .perf_blk_status_snap_ovf, _ | .perf_blk_status_ovf, _ | .perf_win_bytes_rx_bytes, _ 
  | .perf_win_bytes_tx_bytes, _ | .perf_win_slot_a_retired, _ | .perf_win_slot_a_wasted, _ 
  | .perf_win_slot_b_front_starved, _ | .perf_win_slot_b_back_starved, _ | .perf_win_info_window_seq, _ 
  | .perf_win_info_partial, _ | .perf_win_info_sat, _ | .perf_range_lo, _ | .ras_ctrl_keep_clear, _ 
  | .ras_ctrl_ring_en, _ | .ras_status_lost_count, _ | .ras_status_lost_max_sev, _ | .ras_status_keep_used, _ 
  | .ras_status_next_seq, _ | .ras_sev_sev_seen, _ | .ras_first_code, _ | .ras_first_valid, _ 
  | .ras_first_severity, _ | .ras_first_seq, _ | .ras_ring_base_ring_base, _ | .ras_ring_head_addr_ring_head_addr, _ 
  | .ras_ring_status_ring_skipped, _ | .ras_ring_status_tail, _ | .ras_trace_cfg_enable, _ 
  | .ras_trace_cfg_unit_index, _ | .ras_trace_bin_bin, _ | .ras_rec_word, _ | .csq_token_sat, _ 
  | .csq_token_count, _ | .csq_q_cfg_job_tag, _ | .csq_q_cfg_cr_loc, _ | .csq_q_cfg_loc, _ | .csq_q_cfg_prio, _ 
  | .csq_q_cfg_enable, _ | .csq_q_base_base, _ | .csq_q_cr_base_cr_base, _ | .csq_q_cr_head_addr_cr_head_addr, _ 
  | .csq_q_status_map_gen, _ | .csq_q_status_head, _ | .csq_q_status_state, _ | .csq_q_status_map_pending, _ 
  | .csq_q_status_buffered, _ | .csq_q_cr_status_cr_tail, _ | .csq_q_cr_status_cr_head, _ | .csq_q_cr_status_held, _ 
  | .csq_q_cmd_cmd, _ | .csq_q_last_entry, _ | .csq_q_last_status, _ | .csq_q_last_detail, _ 
  | .csq_q_pmap_stage_word, _ | .csq_q_pmap_active_word, _ | .csq_qsram_word, _ | .dma_status_halted, _ 
  | .dma_status_busy, _ | .dma_ch_prog_prog, _ | .dma_ch_ctrl_halt_mode, _ | .dma_ch_ctrl_prog_qsram, _ 
  | .dma_ch_cmd_cmd, _ | .dma_ch_status_pc, _ | .dma_ch_status_last_result, _ | .dma_ch_status_fmem_status, _ 
  | .dma_ch_status_owner, _ | .dma_ch_status_cause, _ | .dma_ch_status_state, _ | .dma_ch_fault_addr_address, _ 
  | .dma_ch_fault_info_outer_index, _ | .dma_ch_fault_info_inner_index, _ | .dma_ch_fault_info_bytes_done, _ 
  | .dma_ch_fault_info_direction, _ | .dma_ch_fault_info_space, _ | .port_cfg_bundle, _ | .port_cfg_target, _ 
  | .port_cfg_axis, _ | .port_cfg_ctrl_from_down, _ | .port_cfg_auto_admit, _ | .port_status_agreed_features, _ 
  | .port_status_fence_mask, _ | .port_status_stencil_status, _ | .port_status_link_status, _ | .port_cmd_cmd, _ 
  | .port_cmd_status_last_cmd, _ | .port_cmd_status_result, _ | .port_stencil_0_far_port, _ 
  | .port_stencil_0_nbr_id, _ | .port_stencil_0_nbr_plane, _ | .port_stencil_0_nbr_kind, _ 
  | .port_stencil_0_check, _ | .port_stencil_0_valid, _ | .port_stencil_1_nbr_serial, _ 
  | .port_stencil_2_src_limit, _ | .port_stencil_2_src_base, _ | .port_nbr_0_far_port, _ | .port_nbr_0_nbr_id, _ 
  | .port_nbr_0_nbr_plane, _ | .port_nbr_0_nbr_kind, _ | .port_nbr_1_nbr_serial, _ | .port_nbr_ext_partner_rev, _ 
  | .port_nbr_ext_grid, _ | .port_nbr_ext_coord_x, _ | .port_nbr_ext_coord_y, _ | .port_nbr_ext_coord_z, _ 
  | .port_credit_allotment_tx, _ | .port_credit_allotment_rx, _ | .port_credit_returned, _ | .port_credit_sent, _ 
  | .xbar_int_used_used_int, _ | .xbar_umbra_umbra, _ | .xbar_mir_cfg_enable, _ | .xbar_mir_cfg_dest_kind, _ 
  | .xbar_mir_cfg_sample_n_m1, _ | .xbar_mir_dest_dest_port, _ | .xbar_mir_dest_dest_geid, _ 
  | .xbar_mir_stats_dropped, _ | .xbar_mir_stats_sent, _ | .xbar_in_used_in_used, _ | .xbar_out_used_out_used, _ 
  | .xbar_port_mode_red_profile, _ | .xbar_port_mode_svc_mode, _ | .xbar_port_status_withholding, _ 
  | .xbar_port_status_over_out, _ | .xbar_port_status_over_in, _ | .xbar_port_mirror_egr_en, _ 
  | .xbar_port_mirror_egr_session, _ | .xbar_port_mirror_ing_en, _ | .xbar_port_mirror_ing_session, _ 
  | .sched_pol_cfg_mode, _ | .sched_pol_cfg_colour_aware, _ | .sched_pol_cfg_drop_red_normal, _ 
  | .sched_pol_stats_red, _ | .sched_pol_stats_yellow, _ | .sched_pol_map_pol_en, _ | .sched_shaper_shape_en, _ 
  | .sched_shaper_overhead, _ | .sched_gate_ctrl_guard_extra_ns, _ | .sched_gate_ctrl_change, _ 
  | .sched_gate_ctrl_gate_en, _ | .sched_gate_base_base_ns, _ | .sched_gate_index_index, _ 
  | .sched_gate_status_entry, _ | .sched_gate_status_result, _ | .sched_gate_status_pending, _ 
  | .sched_gate_status_active_list, _ | .fwd_ctrl_flood_enable, _ | .fwd_ctrl_flood_group, _ | .fwd_ctrl_seed_a, _ 
  | .fwd_status_locks_held, _ | .fwd_status_overflow_used, _ | .fwd_status_entries_valid, _ 
  | .fwd_sweep_sweep_count, _ | .fwd_sweep_sweep_pos, _ | .fwd_commit_slot_mask, _ | .fwd_learn_learn_blocked, _ 
  | .fwd_learn_over_limit, _ | .fwd_learn_count, _ | .fwd_learn_excess_mode, _ | .fwd_lock_req_cmd, _ 
  | .fwd_lock_req_bucket, _ | .fwd_lock_status_bucket, _ | .fwd_lock_status_result, _ | .fwd_lock_status_held, _ 
  | .fwd_lock_stage_stage, _ | .mcast_stage_stage, _ | .mcast_cmd_cmd, _ | .mcast_cmd_group, _ 
  | .mcast_cmd_status_busy, _ | .mcast_cmd_status_last_group, _ | .mcast_cmd_status_result, _ 
  | .mcast_status_groups_valid, _ | .coll_admit_0_chunks_reserved, _ | .coll_admit_0_sram_reserved, _ 
  | .coll_admit_1_contexts_loaded, _ | .coll_admit_1_map_reserved_k, _ | .coll_admit_1_intake_reserved, _ 
  | .coll_load_addr_image, _ | .coll_load_cmd_cmd, _ | .coll_load_cmd_ctx, _ | .coll_load_status_ctx, _ 
  | .coll_load_status_busy, _ | .coll_load_status_result, _ | .coll_map_sel_ctx, _ | .coll_undeliv_undeliv, _ 
  | .coll_missing_missing, _ | .coll_ctx_state_armed_steps, _ | .coll_ctx_state_step, _ 
  | .coll_ctx_state_last_status, _ | .coll_ctx_state_state, _ | .coll_ctx_progress_window_base, _ 
  | .coll_ctx_progress_chunks_done, _ | .coll_ctx_progress_chunks_released, _ | .coll_ctx_hdr_hdr, _ 
  | .cmb_status_over_reserved, _ | .cmb_status_spares_in_use, _ | .cmb_status_units_fenced, _ 
  | .cmb_shadow_stats_runs, _ | .cmb_shadow_stats_deferred, _ | .cmb_shadow_stats_mismatches, _ 
  | .cmb_shadow_res_reserve_used, _ | .cmb_last_sig_signature, _ | .cmb_last_loc_ctx, _ | .cmb_last_loc_step, _ 
  | .cmb_last_loc_chunk, _ | .cmb_last_loc_kind, _ | .cmb_last_loc_unit, _ | .cmb_unit_status_strikes, _ 
  | .cmb_unit_status_active_slots, _ | .cmb_unit_status_cmd_result, _ | .cmb_unit_status_fenced, _ 
  | .cmb_unit_status_spare_in_use, _ | .cmb_unit_cmd_lane, _ | .cmb_unit_cmd_cmd, _ | .cmb_unit_count_mismatches, _ 
  | .cmb_unit_count_recomputes, _ | .cmb_unit_count_chunks_formed, _ | .wra_status_over_reserved, _ 
  | .wra_status_spares_in_use, _ | .wra_status_tiles_fenced, _ | .wra_rate_cycle_reserved, _ 
  | .wra_last_refusal_source, _ | .wra_last_refusal_number, _ | .wra_last_refusal_code, _ 
  | .wra_last_sig_signature, _ | .wra_last_loc_source, _ | .wra_last_loc_number, _ | .wra_last_loc_step, _ 
  | .wra_last_loc_chunk, _ | .wra_last_loc_tile, _ | .wra_last_loc_column, _ | .wra_desc_addr_image, _ 
  | .wra_desc_cmd_cmd, _ | .wra_desc_cmd_desc, _ | .wra_desc_status_desc, _ | .wra_desc_status_busy, _ 
  | .wra_desc_status_result, _ | .wra_tile_status_queued_passes, _ | .wra_tile_status_cmd_result, _ 
  | .wra_tile_status_fenced, _ | .wra_tile_status_spare_in_use, _ | .wra_tile_cmd_column, _ | .wra_tile_cmd_cmd, _ 
  | .wra_tile_count_mismatches, _ | .wra_tile_count_recomputes, _ | .wra_tile_count_passes, _ 
  | .wra_desc_state_hold_count, _ | .wra_desc_state_inflight, _ | .wra_desc_state_kind, _ | .wra_desc_state_state, _ 
  | .fmem_status_inflight, _ | .fmem_status_frames_mapped, _ | .fmem_map_cmd_cmd, _ | .fmem_map_cmd_frame, _ 
  | .fmem_map_arg0_role, _ | .fmem_map_arg0_writable, _ | .fmem_map_arg0_atomics, _ | .fmem_map_arg0_partner, _ 
  | .fmem_map_arg0_window, _ | .fmem_map_arg0_job_tag, _ | .fmem_map_arg1_src_limit, _ | .fmem_map_arg1_src_base, _ 
  | .fmem_map_status_frame, _ | .fmem_map_status_busy, _ | .fmem_map_status_result, _ | .fmem_win_cfg_role, _ 
  | .fmem_win_cfg_writable, _ | .fmem_win_cfg_atomics, _ | .fmem_win_cfg_partner, _ | .fmem_win_cfg_window, _ 
  | .fmem_win_cfg_job_tag, _ | .fmem_win_src_src_limit, _ | .fmem_win_src_src_base, _ | .fmem_win_state_inflight, _ 
  | .fmem_win_state_dirty, _ | .fmem_win_state_state, _ | .memc_ch_ok_ok, _ | .memc_scrub_passes, _ 
  | .memc_scrub_progress, _ | .memc_last_uncorr_channel, _ | .memc_last_uncorr_address, _ 
  | .memc_ch_status_mr4_rate, _ | .memc_ch_status_failed, _ | .memc_ch_status_hot, _ | .memc_ch_status_trained, _ 
  | .memc_ch_ecc_corrected, _ | .memc_ch_ecc_uncorrectable, _ | .opt_eng_ctrl_rx_low_power_en, _ 
  | .opt_eng_ctrl_lock_enable, _ | .opt_eng_status_rings_fault, _ | .opt_eng_status_rings_locked, _ 
  | .opt_eng_status_ff_link_ok, _ | .opt_eng_status_octet_done, _ | .opt_eng_temp_eic_temp, _ 
  | .opt_eng_temp_pic_temp, _ | .opt_ff_coef_coef, _ | .opt_ring_status_relock_count, _ 
  | .opt_ring_status_fault_cause, _ | .opt_ring_status_state, _ | .opt_ring_heater_lock_error, _ 
  | .opt_ring_heater_heater_ghz, _ | .opt_ring_cmd_cmd, _ | .opt_lane_next_tx_arm, _ | .opt_lane_next_rx_arm, _ 
  | .opt_lane_switch_cw_rx_switch_cw, _ | .opt_lane_switch_cw_tx_switch_cw, _ | .opt_cw_count_rx_cw, _ 
  | .opt_cw_count_tx_cw, _ | .opt_tx_trim_trim, _ | .opt_margin_status_alarm, _ | .opt_margin_status_warn, _ 
  | .opt_margin_status_request_pending, _ | .las_eng_ctrl_laser_enable, _ | .las_eng_status_seq_running, _ 
  | .las_eng_status_octet_lit, _ | .las_oct_cmd_slot, _ | .las_oct_cmd_cmd, _ | .las_oct_status_fenced, _ 
  | .las_oct_status_participants, _ | .las_oct_status_parked, _ | .las_oct_status_standby_active, _ 
  | .las_oct_status_outcome, _ | .las_oct_status_slot, _ | .las_oct_status_phase, _ | .las_oct_seq_time_seq_start, _ 
  | .las_dfb_status_bias, _ | .las_dfb_status_active, _ | .las_dfb_status_state, _ | .las_dfb_wear_eq_hours, _ 
  | .las_dfb_wear_lit_minutes, _ | .las_dfb_trend_peak_bias, _ | .las_dfb_trend_bias_slope, _ 
  | .xpr_status_eng_adds, _ | .xpr_status_active, _ | .xpr_seg_use_per_slot, _ | .xpr_circ_cfg_add_port, _ 
  | .xpr_circ_cfg_n_drop, _ | .xpr_circ_cfg_drop, _ | .xpr_circ_act_time_act_time, _ | .xpr_circ_cmd_cmd, _ 
  | .xpr_circ_status_waveguide, _ | .xpr_circ_status_segments, _ | .xpr_circ_status_act_late, _ 
  | .xpr_circ_status_input_lost, _ | .xpr_circ_status_last_cause, _ | .xpr_circ_status_status, _ 
  | .xpr_circ_status_state, _ | .kcl_status_retrain_count, _ | .kcl_ctrl_retrain, _ | .kcl_watch_lines_watched, _ 
  | .kcl_watch_reads_outstanding, _ | .kcl_svc_cfg_pfc_en, _ | .kcl_svc_cfg_bind_port, _ | .kcl_svc_cfg_pass_en, _ 
  | .kcl_svc_cfg_vid_check, _ | .kcl_svc_cfg_tag_en, _ | .kcl_svc_cfg_bind_en, _ | .kcl_svc_mac_own_mac, _ 
  | .kcl_svc_status_paused, _ | .kcl_svc_status_module_present, _ | .kcl_svc_status_fec_lock, _ 
  | .kcl_svc_status_block_lock, _ | .kcl_svc_stats_rx_bad, _ | .kcl_svc_stats_nonfabric, _ 
  | .kcl_svc_stats_pt_drop, _ | .kcl_svc_stats_pfc_tx, _ | .i2c_therm_over, _ | .i2c_therm_warn, _ 
  | .i2c_status_stage, _ | .i2c_status_last_cause, _ | .i2c_status_alert, _ | .h_local, _ | .h_d2d_replays, _ 
  | .h_admit_sent, _ | .h_admit_rcvd, _ | .h_id_known, _ | .h_id_fresh, _ | .h_rev_known, _ | .h_partner_mask, _ 
  | .h_credit_rcvd, _ | .h_credit_sent, _ | .h_freed, _ | .h_unreported, _ | .h_withheld, _ | .h_hunting, _ 
  | .h_lc_us, _ | .h_lc_count, _ | .h_fec_degraded, _ | .h_admitted_once, _ | .h_fenced_other, _ | .h_cw_run, _ 
  | .h_rxcw_run, _ | .h_txcw_t0, _ | .h_rxcw_t0, _ | .h_swap_watch, _ | .h_cycle_t0, _ | .h_dma_next, _ 
  | .h_snap_last, _ | .h_win_rx_bytes, _ | .h_win_tx_bytes, _ | .h_win_retired, _ | .h_win_wasted, _ 
  | .h_win_front, _ | .h_win_back, _ | .h_win_sat, _ | .h_win_partial, _ | .h_slot_half, _ | .h_ring_head, _ 
  | .h_ras_lost_due, _ | .h_keep_full, _ | .h_ring_nodip, _ | .h_ring_acqto, _ | .h_ring_ever, _ | .h_ring_rail, _ 
  | .h_ring_near, _ | .h_ring_resweep, _ | .h_ring_target, _ | .h_ff_p, _ | .h_ff_prev, _ | .h_ff_last, _ 
  | .h_low_ep, _ | .h_alarm_ep, _ | .h_pwr_dir, _ | .h_pwr_blk_up, _ | .h_pwr_blk_dn, _ | .h_pwr_rx, _ 
  | .h_pwr_rx_v, _ | .h_oct_lit, _ | .h_seq_kind, _ | .h_seq_no, _ | .h_seq_resumed, _ | .h_seq_armed, _ 
  | .h_sq_wait, _ | .h_sq_try, _ | .h_sq_c, _ | .h_sq_out, _ | .h_sq_back, _ | .h_peer_seq, _ | .h_peer_slot, _ 
  | .h_peer_back, _ | .h_peer_no, _ | .h_dfb_warned, _ | .h_dfb_maxed, _ | .h_eq_num, _ | .p_lit_minutes, _ 
  | .p_eq_hours, _ | .p_eq_num, _ | .p_peak_bias, _ | .p_bias_slope, _ | .p_standby_active, _ | .p_parked, _ 
  | .h_xpr_decl, _ | .h_xpr_rew, _ | .h_xpr_lost_ep, _ | .h_cpl_state, _ | .h_cpl_ghz, _ | .h_wtr_state, _ 
  | .h_wtr_ghz, _ | .h_xpr_ready_ns, _ | .h_cold_hold, _ | .h_peer_dark, _ | .h_lock_us, _ | .h_sweep_at, _ 
  | .h_full_sec, _ | .h_learn_q, _ | .h_mc_op, _ | .h_mc_group, _ | .h_sch_ptr, _ | .h_shp_t, _ | .h_pol_t, _ 
  | .h_mir_cnt, _ | .h_gate_base, _ | .h_gate_swap, _ | .h_csq_rr, _ | .h_cmb_verdicts, _ | .h_gather_id, _ 
  | .h_work_age, _ | .h_scrub, _ | .h_fm_hold, _ | .h_push_id, _ | .h_ring_t, _ | .h_dump_t, _ | .h_dump_head, _ 
  | .h_dump_miss, _ | .h_parent_sel, _ | .h_gm_hold, _ | .h_ever_lock, _ | .h_acq_n, _ | .h_acq_freq, _ 
  | .h_acq_sum, _ | .h_lock_n, _ | .h_bad_n, _ | .h_freq_int, _ | .h_treq_seq, _ | .h_treq_out, _ | .h_treq_t1, _ 
  | .h_tp_ok, _ | .h_tp_valid, _ | .h_tp_state, _ | .h_tp_steps, _ | .h_tp_age, _ | .h_tp_deg, _ | .h_tp_gm, _ 
  | .h_treq_sec, _ | .h_treq_n, _ | .h_frac_stage, _ | .h_frac_valid, _ | .h_clamp_sec, _ | .h_pps_last, _ 
  | .h_ref_ext, _ | .h_trig_on, _ | .h_trig_next, _ | .h_cap_last, _ | .h_win_end, _ | .h_pfc_xoff, _ | .h_porst, _ 
  | .h_pd_target, _ | .h_eng_hold, _ | .h_shut, _ | .h_rail_out, _ | .h_refclk, _ | .h_avs_stop, _ | .h_sens_warn, _ 
  | .h_sens_over, _ | .h_trip, _ | .h_cold_rom, _ | .h_board_test, _ | .h_boot_stop, _ | .h_boot_slot, _ 
  | .h_boot_fail, _ | .h_boot_wd, _ | .h_run_valid, _ | .h_run_ecdsa, _ | .h_run_lms, _ | .h_load_img, _ 
  | .h_load_keys, _ | .h_sec_args, _ | .h_tap, _ | .p_pref, _ | .p_trial, _ | .p_tried, _ => 0
  | .opt_lane_map_rx_lane, i | .opt_lane_map_tx_lane, i | .opt_lane_next_rx_lane, i | .opt_lane_next_tx_lane, i => ([0, 1, 2, 3] : List Nat).getD (i % 4) 0
  | .xbar_mirror_res_oq_int, i => ([0x40, 0x40, 4, 4] : List Nat).getD (i % 4) 0
  | .xbar_int_quota_iq_int, i => ([0x8000, 0x4000, 0x1000, 0x2000] : List Nat).getD (i % 4) 0
  | .xbar_iq_iq, i => ([32, 320, 192, 192, 192, 256, 64, 32] : List Nat).getD (i % 8) 0
  | .h_avs_mv, i => ([800, 850, 850] : List Nat).getD (i % 3) 0
  | .sched_pol_map_pol_idx, i => i % 4096
  | .csq_q_cfg_seq, i | .kcl_svc_vlan_pcp, i => i % 8
  | .port_cfg_role, i => if 496 ≤ i then 3 else 0
  | .sys_fabric_size_size, _ | .time_ctrl_tc_en, _ | .time_ctrl_step_en, _ | .time_status_degraded, _ 
  | .time_cap_info_edge_sel, _ | .perf_dump_status_phase, _ | .ras_ctrl_ring_min_sev, _ | .ras_ring_status_phase, _ 
  | .ras_trace_cfg_unit_class, _ | .csq_q_status_exp_phase, _ | .csq_q_cr_status_cr_phase, _ 
  | .sched_echo_ctrl_echo_enable, _ | .sched_gate_admin_n_entries, _ | .cmb_ctrl_auto_fence, _ 
  | .memc_ctrl_scrub_en, _ | .opt_eng_ctrl_ff_enable, _ | .las_eng_ctrl_auto_spare, _ | .kcl_svc_vlan_rx_vid, _ 
  | .kcl_svc_vlan_tx_vid, _ | .h_gate_n, _ | .h_kcl_full, _ => 1
  | .time_servo_ki_shift, _ | .perf_dump_cfg_dump_size_log2, _ | .ras_ctrl_ring_size_log2, _ 
  | .fmem_ctrl_keepalive_us, _ => 10
  | .time_parent_alt_wait_ms, _ | .csq_ctrl_watch_refresh_us, _ | .xbar_port_mode_recovery_ms, _ 
  | .xbar_port_mode_startup_ms, _ | .time_pps_pps_width_ms, _ | .fwd_lock_ctrl_lock_timeout_us, _ 
  | .fmem_ctrl_resync_gbps, _ | .fmem_ctrl_mirror_timeout_us, _ | .opt_eng_ctrl_recal_period_ms, _ 
  | .opt_ff_coef_tau_us, _ | .kcl_ctrl_read_timeout_us, _ => 100
  | .time_servo_step_threshold_ns, _ | .perf_win_ctrl_window_us, _ | .port_timers_bringup_timeout_ms, _ 
  | .sched_echo_ctrl_echo_gap_ns, _ | .time_trig_period_width_ns, _ => 1000
  | .time_align_align_limit_ms, _ | .port_timers_credit_timeout_us, _ => 10000
  | .sched_gate_admin_cycle_ns, _ | .sched_gate_data_interval_ns, _ | .h_gate_cycle, _ => 1000000
  | .xbar_red_max, _ | .fwd_learn_limit, _ => 1024
  | .sys_pd_status_on, _ => 1027
  | .cmb_ctrl_shadow_log2n, _ | .h_cmb_n, _ => 12
  | .sched_int_mark_max, _ => 12288
  | .sched_port_cfg_mark_mask, _ => 126
  | .i2c_therm_scd, _ | .i2c_therm_msd, _ | .i2c_therm_eic, _ | .i2c_therm_pic, _ | .i2c_therm_laser, _ | .h_sens, _ => 128
  | .sched_port_cfg_strict_mask, _ => 129
  | .sys_id_part, _ => 1298
  | .h_far_trim, _ => 15
  | .time_servo_slew_max_ns, _ => 16
  | .sys_id_stepping, _ => 160
  | .fwd_ctrl_seed_b, _ => 165
  | .csq_q_cfg_privilege, _ | .cmb_ctrl_strike_limit, _ | .opt_integ_ident_integ, _ | .xpr_ctrl_wt_integ, _ 
  | .h_kcl_train, _ => 2
  | .sec_boot_ctrl_boot_watchdog_ms, _ => 2000
  | .sched_mark_max, _ => 2048
  | .cmb_status_rate_limit_gbps, _ => 209664
  | .memc_ctrl_scrub_hours, _ => 24
  | .perf_evsel_class_mask, _ | .ras_trace_cfg_lane, _ | .sched_gate_data_gates, _ 
  | .sched_gate_status_gate_state, _ | .wra_tile_status_retired_col, _ | .kcl_status_lanes_ok, _ | .h_sch_fresh, _ 
  | .h_wra_req, _ => 255
  | .csq_q_cfg_inline_budget, _ | .xbar_red_min, _ | .xbar_mir_cfg_trunc_len, _ | .xpr_circ_weight_w, _ => 256
  | .ras_trace_cfg_code, _ => 2561
  | .kcl_svc_peer_peer_mac, _ => 281474976710655
  | .opt_integ_power_integ, _ => 3
  | .h_cmb_strike, _ => 30
  | .cmb_unit_status_retired_lane, _ | .h_cmb_req, _ => 31
  | .kcl_svc_cfg_pfc_headroom, _ => 32
  | .opt_rx_power_lane, _ | .opt_rx_spare_spare, _ | .las_dfb_status_power, _ | .xpr_circ_status_input_oma, _ => 32768
  | .kcl_svc_cfg_fab_ethertype, _ => 34997
  | .time_servo_lock_ns, _ | .time_servo_kp_shift, _ | .ras_trace_cfg_temp_step, _ | .csq_q_cfg_cr_size_log2, _ 
  | .csq_q_cfg_size_log2, _ | .opt_lane_map_rx_spare, _ | .opt_lane_map_tx_spare, _ | .xpr_circ_cfg_slot, _ 
  | .h_sq_home, _ => 4
  | .sched_pol_cfg_pir_mbps, _ | .sched_pol_cfg_cir_mbps, _ | .sched_shaper_rate_mbps, _ => 400000
  | .xbar_mirror_res_mirror_reserve, _ | .xbar_eq_eq, _ | .sched_int_mark_min, _ | .sched_quantum_quantum, _ => 4096
  | .perf_range_hi, _ => 4294967295
  | .sched_mark_min, _ => 512
  | .h_pol_p, _ | .h_pol_c, _ => 524288000
  | .opt_tx_trim_trim_max, _ => 6
  | .ras_trace_cfg_temp_base, _ => 60
  | .sec_boot_ctrl_confirm_timeout_s, _ => 600
  | .fwd_age_ctrl_age_period_ms, _ => 60000
  | .xbar_red_pmax, _ | .sched_int_mark_pmax, _ | .sched_mark_pmax, _ => 64
  | .wra_rate_cycle_limit, _ => 6400
  | .opt_rx_thresh_alarm, _ => 65456
  | .opt_rx_thresh_warn, _ => 65466
  | .opt_rx_thresh_high, _ => 65491
  | .sched_pol_burst_pbs_ebs, _ | .sched_pol_burst_cbs, _ | .sched_pol_tokens_tp_te, _ | .sched_pol_tokens_tc, _ => 65536
  | .h_shp_tok, _ => 65536000
  | .perf_evsel_priv_mask, _ | .opt_ring_status_seen_slot, _ => 7
  | .xbar_pool_status_committed, _ => 720896
  | .sys_id_lid, _ => 76
  | .xbar_pool_status_cells_free, _ => 786432
  | .time_servo_delay_gate_ns, _ | .kcl_status_width, _ => 8
  | .sched_shaper_burst, _ => 8192

end Sys2Proof.Machine
end

