-- ==== Sys2Proof/Machine/RegMap.lean ====
section
/-! DEFINITION. The control-space map: for each register of spec/ its address, how often it exists, the power domain
of each copy (R32, R26) and its fields with their bits and access codes (R9). -/

namespace Sys2Proof.Machine

/-- The access codes of R9. -/
inductive Acc where
  | ro | rw | wo | w1c | w1s | rc
  deriving DecidableEq, Repr

/-- Which power domain a copy of a register lies in (R26, R32). -/
inductive DomRule where
  /-- Every copy lies in domain `d`. -/
  | fixed (d : Nat)
  /-- Copy `i` lies in domain `base + i / per`. -/
  | per (base per : Nat)
  /-- The device part that PD2 to PD5 hold alike (R228). -/
  | core
  /-- Counter block registers: the domain of the unit that is counted (R487); `per` copies a block. -/
  | perf (per : Nat)
  deriving DecidableEq, Repr

/-- A field of a register: the low bit and width, the access code, how many equal fields stand side by side
(`nsub`, `stride` bits apart), and the values a write may place in it, as closed ranges (none given: all; R13). -/
structure FieldRow where
  fld : Fld
  lo : Nat
  w : Nat
  acc : Acc
  nsub : Nat := 1
  stride : Nat := 0
  valid : List (Nat × Nat) := []
  /-- The values must also be multiples of this number (R231). -/
  step : Nat := 1
  /-- The value is computed at each read; nothing is stored under this field. -/
  live : Bool := false
  deriving DecidableEq, Repr

/-- A register: its name, the address of its first copy, the counts and address steps of its copies, its domain rule,
the copies that do not exist, its fields. -/
structure RegRow where
  name : String
  base : Nat
  dims : List (Nat × Nat) := []
  dom : DomRule
  holes : List (Nat × Nat) := []
  fields : List FieldRow
  deriving DecidableEq, Repr

/-- SYS_ID (R540). -/
def rowSYS_ID : RegRow :=
  { name := "SYS_ID", base := 0x00000000, dom := .fixed 0,
    fields := [{ fld := .sys_id_part, lo := 48, w := 16, acc := .ro },
      { fld := .sys_id_stepping, lo := 40, w := 8, acc := .ro },
      { fld := .sys_id_lid, lo := 32, w := 8, acc := .ro },
      { fld := .sys_id_rom_version, lo := 16, w := 16, acc := .ro }] }

/-- SYS_SERIAL (R540). -/
def rowSYS_SERIAL : RegRow :=
  { name := "SYS_SERIAL", base := 0x00000008, dom := .fixed 0,
    fields := [{ fld := .sys_serial_serial, lo := 0, w := 64, acc := .ro }] }

/-- SYS_STRAPS (R540). -/
def rowSYS_STRAPS : RegRow :=
  { name := "SYS_STRAPS", base := 0x00000010, dom := .fixed 0,
    fields := [{ fld := .sys_straps_slot_force, lo := 3, w := 1, acc := .ro },
      { fld := .sys_straps_slot_force_en, lo := 2, w := 1, acc := .ro },
      { fld := .sys_straps_boot_src, lo := 0, w := 2, acc := .ro }] }

/-- SYS_FABRIC_POS (R540). -/
def rowSYS_FABRIC_POS : RegRow :=
  { name := "SYS_FABRIC_POS", base := 0x00000018, dom := .fixed 0,
    fields := [{ fld := .sys_fabric_pos_hall, lo := 24, w := 8, acc := .rw },
      { fld := .sys_fabric_pos_plane, lo := 16, w := 4, acc := .rw },
      { fld := .sys_fabric_pos_device, lo := 0, w := 14, acc := .rw }] }

/-- SYS_FABRIC_SIZE (R540). -/
def rowSYS_FABRIC_SIZE : RegRow :=
  { name := "SYS_FABRIC_SIZE", base := 0x00000020, dom := .fixed 0,
    fields := [{ fld := .sys_fabric_size_fabric_mode, lo := 48, w := 1, acc := .rw },
      { fld := .sys_fabric_size_size, lo := 0, w := 13, acc := .rw, nsub := 3, stride := 16 }] }

/-- SYS_FABRIC_COORD (R540). -/
def rowSYS_FABRIC_COORD : RegRow :=
  { name := "SYS_FABRIC_COORD", base := 0x00000028, dom := .fixed 0,
    fields := [{ fld := .sys_fabric_coord_coord, lo := 0, w := 12, acc := .rw, nsub := 3, stride := 12 }] }

/-- SYS_PD_CMD (R540). -/
def rowSYS_PD_CMD : RegRow :=
  { name := "SYS_PD_CMD", base := 0x00000030, dom := .fixed 0,
    fields := [{ fld := .sys_pd_cmd_cmd, lo := 62, w := 2, acc := .wo, valid := [(0, 2)] },
      { fld := .sys_pd_cmd_domain, lo := 0, w := 5, acc := .wo, valid := [(0, 19)] }] }

/-- SYS_PD_STATUS (R540). -/
def rowSYS_PD_STATUS : RegRow :=
  { name := "SYS_PD_STATUS", base := 0x00000038, dom := .fixed 0,
    fields := [{ fld := .sys_pd_status_busy, lo := 32, w := 20, acc := .ro },
      { fld := .sys_pd_status_on, lo := 0, w := 20, acc := .ro }] }

/-- SYS_RESET_CMD (R541). -/
def rowSYS_RESET_CMD : RegRow :=
  { name := "SYS_RESET_CMD", base := 0x00000040, dom := .fixed 0,
    fields := [{ fld := .sys_reset_cmd_level, lo := 62, w := 2, acc := .wo, valid := [(0, 2)] },
      { fld := .sys_reset_cmd_confirm, lo := 0, w := 16, acc := .wo }] }

/-- SYS_RESET_INFO (R541). -/
def rowSYS_RESET_INFO : RegRow :=
  { name := "SYS_RESET_INFO", base := 0x00000048, dom := .fixed 0,
    fields := [{ fld := .sys_reset_info_warm_count, lo := 48, w := 16, acc := .ro },
      { fld := .sys_reset_info_last_level, lo := 36, w := 4, acc := .ro },
      { fld := .sys_reset_info_last_cause, lo := 32, w := 4, acc := .ro },
      { fld := .sys_reset_info_stage_at_reset, lo := 24, w := 8, acc := .ro }] }

/-- SYS_RESET_TIME (R541). -/
def rowSYS_RESET_TIME : RegRow :=
  { name := "SYS_RESET_TIME", base := 0x00000050, dom := .fixed 0,
    fields := [{ fld := .sys_reset_time_reset_time, lo := 0, w := 64, acc := .ro }] }

/-- SYS_BOOT_STATUS (R541). -/
def rowSYS_BOOT_STATUS : RegRow :=
  { name := "SYS_BOOT_STATUS", base := 0x00000058, dom := .fixed 0,
    fields := [{ fld := .sys_boot_status_stage, lo := 56, w := 8, acc := .ro },
      { fld := .sys_boot_status_running_slot, lo := 55, w := 1, acc := .ro },
      { fld := .sys_boot_status_trial, lo := 54, w := 1, acc := .ro },
      { fld := .sys_boot_status_fallback, lo := 53, w := 1, acc := .ro },
      { fld := .sys_boot_status_svn, lo := 40, w := 8, acc := .ro },
      { fld := .sys_boot_status_link_rev, lo := 24, w := 16, acc := .ro },
      { fld := .sys_boot_status_image_version, lo := 0, w := 24, acc := .ro }] }

/-- Registers of the SYS block. -/
def regsSys : List RegRow :=
  [rowSYS_ID, rowSYS_SERIAL, rowSYS_STRAPS, rowSYS_FABRIC_POS, rowSYS_FABRIC_SIZE, rowSYS_FABRIC_COORD, rowSYS_PD_CMD, rowSYS_PD_STATUS, rowSYS_RESET_CMD, rowSYS_RESET_INFO, rowSYS_RESET_TIME, rowSYS_BOOT_STATUS]

/-- SEC_CMD (R542). -/
def rowSEC_CMD : RegRow :=
  { name := "SEC_CMD", base := 0x00100000, dom := .fixed 0,
    fields := [{ fld := .sec_cmd_cmd, lo := 60, w := 4, acc := .wo, valid := [(0, 8)] },
      { fld := .sec_cmd_slot, lo := 56, w := 1, acc := .wo },
      { fld := .sec_cmd_allow_strand, lo := 55, w := 1, acc := .wo },
      { fld := .sec_cmd_chain, lo := 54, w := 1, acc := .wo },
      { fld := .sec_cmd_key_kind, lo := 53, w := 1, acc := .wo },
      { fld := .sec_cmd_key_index, lo := 48, w := 2, acc := .wo }] }

/-- SEC_CMD_ADDR (R542). -/
def rowSEC_CMD_ADDR : RegRow :=
  { name := "SEC_CMD_ADDR", base := 0x00100008, dom := .fixed 0,
    fields := [{ fld := .sec_cmd_addr_addr, lo := 0, w := 64, acc := .rw }] }

/-- SEC_CMD_STATUS (R542). -/
def rowSEC_CMD_STATUS : RegRow :=
  { name := "SEC_CMD_STATUS", base := 0x00100010, dom := .fixed 0,
    fields := [{ fld := .sec_cmd_status_busy, lo := 8, w := 1, acc := .ro },
      { fld := .sec_cmd_status_last_cmd, lo := 4, w := 4, acc := .ro },
      { fld := .sec_cmd_status_result, lo := 0, w := 4, acc := .ro }] }

/-- SEC_SLOT_STATUS (R542). -/
def rowSEC_SLOT_STATUS : RegRow :=
  { name := "SEC_SLOT_STATUS", base := 0x00100018, dims := [(2, 0x8)], dom := .fixed 0,
    fields := [{ fld := .sec_slot_status_link_rev, lo := 48, w := 16, acc := .ro },
      { fld := .sec_slot_status_svn, lo := 40, w := 8, acc := .ro },
      { fld := .sec_slot_status_image_version, lo := 8, w := 32, acc := .ro },
      { fld := .sec_slot_status_reason, lo := 4, w := 4, acc := .ro },
      { fld := .sec_slot_status_state, lo := 0, w := 2, acc := .ro }] }

/-- SEC_FUSE (R542). -/
def rowSEC_FUSE : RegRow :=
  { name := "SEC_FUSE", base := 0x00100028, dom := .fixed 0,
    fields := [{ fld := .sec_fuse_svn_fused, lo := 16, w := 8, acc := .ro, live := true },
      { fld := .sec_fuse_lms_revoked, lo := 12, w := 4, acc := .ro, live := true },
      { fld := .sec_fuse_ecdsa_revoked, lo := 8, w := 4, acc := .ro, live := true },
      { fld := .sec_fuse_lms_keys, lo := 4, w := 4, acc := .ro, live := true },
      { fld := .sec_fuse_ecdsa_keys, lo := 0, w := 4, acc := .ro, live := true }] }

/-- SEC_BOOT_CTRL (R542). -/
def rowSEC_BOOT_CTRL : RegRow :=
  { name := "SEC_BOOT_CTRL", base := 0x00100030, dom := .fixed 0,
    fields := [{ fld := .sec_boot_ctrl_boot_watchdog_ms, lo := 48, w := 16, acc := .rw },
      { fld := .sec_boot_ctrl_confirm_timeout_s, lo := 32, w := 16, acc := .rw },
      { fld := .sec_boot_ctrl_preferred, lo := 1, w := 1, acc := .ro },
      { fld := .sec_boot_ctrl_go, lo := 0, w := 1, acc := .w1s }] }

/-- SEC_NONCE (R542). -/
def rowSEC_NONCE : RegRow :=
  { name := "SEC_NONCE", base := 0x00100040, dims := [(4, 0x8)], dom := .fixed 0,
    fields := [{ fld := .sec_nonce_nonce, lo := 0, w := 64, acc := .rw }] }

/-- SEC_KCL_IMG (R542). -/
def rowSEC_KCL_IMG : RegRow :=
  { name := "SEC_KCL_IMG", base := 0x00100060, dims := [(2, 0x8)], dom := .fixed 0,
    fields := [{ fld := .sec_kcl_img_img, lo := 0, w := 64, acc := .rw }] }

/-- Registers of the SEC block. -/
def regsSec : List RegRow :=
  [rowSEC_CMD, rowSEC_CMD_ADDR, rowSEC_CMD_STATUS, rowSEC_SLOT_STATUS, rowSEC_FUSE, rowSEC_BOOT_CTRL, rowSEC_NONCE, rowSEC_KCL_IMG]

/-- TIME_CTRL (R420). -/
def rowTIME_CTRL : RegRow :=
  { name := "TIME_CTRL", base := 0x00200000, dom := .fixed 0,
    fields := [{ fld := .time_ctrl_tc_en, lo := 5, w := 1, acc := .rw },
      { fld := .time_ctrl_pps_out_en, lo := 4, w := 1, acc := .rw },
      { fld := .time_ctrl_ref_sel, lo := 3, w := 1, acc := .rw },
      { fld := .time_ctrl_step_en, lo := 2, w := 1, acc := .rw },
      { fld := .time_ctrl_gm_en, lo := 1, w := 1, acc := .rw },
      { fld := .time_ctrl_servo_en, lo := 0, w := 1, acc := .rw }] }

/-- TIME_STATUS (R420). -/
def rowTIME_STATUS : RegRow :=
  { name := "TIME_STATUS", base := 0x00200008, dom := .fixed 0,
    fields := [{ fld := .time_status_step_count, lo := 48, w := 16, acc := .ro },
      { fld := .time_status_holdover_age, lo := 40, w := 8, acc := .ro },
      { fld := .time_status_steps_removed, lo := 32, w := 8, acc := .ro },
      { fld := .time_status_gm_id, lo := 10, w := 22, acc := .ro, live := true },
      { fld := .time_status_degraded, lo := 9, w := 1, acc := .ro },
      { fld := .time_status_upstream_holdover, lo := 8, w := 1, acc := .ro },
      { fld := .time_status_ref_lost, lo := 7, w := 1, acc := .w1c },
      { fld := .time_status_pps_ok, lo := 6, w := 1, acc := .ro },
      { fld := .time_status_time_state, lo := 0, w := 3, acc := .ro }] }

/-- TIME_NOW_NS (R421). -/
def rowTIME_NOW_NS : RegRow :=
  { name := "TIME_NOW_NS", base := 0x00200010, dom := .fixed 0,
    fields := [{ fld := .time_now_ns_now_ns, lo := 0, w := 64, acc := .ro, live := true }] }

/-- TIME_NOW_FRAC (R421). -/
def rowTIME_NOW_FRAC : RegRow :=
  { name := "TIME_NOW_FRAC", base := 0x00200018, dom := .fixed 0,
    fields := [{ fld := .time_now_frac_now_frac, lo := 0, w := 32, acc := .ro }] }

/-- TIME_LOCAL (R421). -/
def rowTIME_LOCAL : RegRow :=
  { name := "TIME_LOCAL", base := 0x00200020, dom := .fixed 0,
    fields := [{ fld := .time_local_local, lo := 0, w := 64, acc := .ro }] }

/-- TIME_OFFSET_NS (R422). -/
def rowTIME_OFFSET_NS : RegRow :=
  { name := "TIME_OFFSET_NS", base := 0x00200028, dom := .fixed 0,
    fields := [{ fld := .time_offset_ns_offset_ns, lo := 0, w := 64, acc := .rw }] }

/-- TIME_OFFSET_FRAC (R422). -/
def rowTIME_OFFSET_FRAC : RegRow :=
  { name := "TIME_OFFSET_FRAC", base := 0x00200030, dom := .fixed 0,
    fields := [{ fld := .time_offset_frac_offset_frac, lo := 0, w := 32, acc := .rw }] }

/-- TIME_RATE (R422). -/
def rowTIME_RATE : RegRow :=
  { name := "TIME_RATE", base := 0x00200038, dom := .fixed 0,
    fields := [{ fld := .time_rate_rate, lo := 0, w := 48, acc := .rw }] }

/-- TIME_SERVO (R424). -/
def rowTIME_SERVO : RegRow :=
  { name := "TIME_SERVO", base := 0x00200040, dom := .fixed 0,
    fields := [{ fld := .time_servo_step_threshold_ns, lo := 48, w := 16, acc := .rw },
      { fld := .time_servo_delay_gate_ns, lo := 40, w := 8, acc := .rw },
      { fld := .time_servo_lock_ns, lo := 32, w := 8, acc := .rw },
      { fld := .time_servo_slew_max_ns, lo := 24, w := 8, acc := .rw },
      { fld := .time_servo_ki_shift, lo := 8, w := 4, acc := .rw, valid := [(4, 15)] },
      { fld := .time_servo_kp_shift, lo := 0, w := 4, acc := .rw, valid := [(1, 12)] }] }

/-- TIME_PARENT (R424). -/
def rowTIME_PARENT : RegRow :=
  { name := "TIME_PARENT", base := 0x00200048, dom := .fixed 0,
    fields := [{ fld := .time_parent_alt_wait_ms, lo := 32, w := 16, acc := .rw },
      { fld := .time_parent_alt_en, lo := 25, w := 1, acc := .rw },
      { fld := .time_parent_alt_port, lo := 16, w := 9, acc := .rw },
      { fld := .time_parent_parent_en, lo := 9, w := 1, acc := .rw },
      { fld := .time_parent_parent_port, lo := 0, w := 9, acc := .rw }] }

/-- TIME_MEAS (R425). -/
def rowTIME_MEAS : RegRow :=
  { name := "TIME_MEAS", base := 0x00200050, dims := [(2, 0x8)], dom := .fixed 0,
    fields := [{ fld := .time_meas_offset, lo := 32, w := 32, acc := .ro },
      { fld := .time_meas_delay, lo := 16, w := 16, acc := .ro },
      { fld := .time_meas_lost_run, lo := 8, w := 8, acc := .ro },
      { fld := .time_meas_eligible, lo := 0, w := 1, acc := .ro }] }

/-- TIME_ALIGN (R425). -/
def rowTIME_ALIGN : RegRow :=
  { name := "TIME_ALIGN", base := 0x00200060, dom := .fixed 0,
    fields := [{ fld := .time_align_fallback_en, lo := 63, w := 1, acc := .rw },
      { fld := .time_align_fallback_ctx, lo := 32, w := 14, acc := .rw },
      { fld := .time_align_align_limit_ms, lo := 0, w := 16, acc := .rw }] }

/-- TIME_PPS (R425). -/
def rowTIME_PPS : RegRow :=
  { name := "TIME_PPS", base := 0x00200068, dom := .fixed 0,
    fields := [{ fld := .time_pps_pps_width_ms, lo := 32, w := 8, acc := .rw },
      { fld := .time_pps_pps_err, lo := 0, w := 32, acc := .ro }] }

/-- TIME_TRIG_START (R426). -/
def rowTIME_TRIG_START : RegRow :=
  { name := "TIME_TRIG_START", base := 0x00200100, dims := [(4, 0x20)], dom := .fixed 0,
    fields := [{ fld := .time_trig_start_start_ns, lo := 0, w := 64, acc := .rw }] }

/-- TIME_TRIG_PERIOD (R426). -/
def rowTIME_TRIG_PERIOD : RegRow :=
  { name := "TIME_TRIG_PERIOD", base := 0x00200108, dims := [(4, 0x20)], dom := .fixed 0,
    fields := [{ fld := .time_trig_period_width_ns, lo := 32, w := 32, acc := .rw },
      { fld := .time_trig_period_period_ns, lo := 0, w := 32, acc := .rw }] }

/-- TIME_TRIG_CTRL (R426). -/
def rowTIME_TRIG_CTRL : RegRow :=
  { name := "TIME_TRIG_CTRL", base := 0x00200110, dims := [(4, 0x20)], dom := .fixed 0,
    fields := [{ fld := .time_trig_ctrl_count, lo := 48, w := 16, acc := .rw },
      { fld := .time_trig_ctrl_remaining, lo := 32, w := 16, acc := .ro },
      { fld := .time_trig_ctrl_late, lo := 2, w := 1, acc := .w1c },
      { fld := .time_trig_ctrl_polarity, lo := 1, w := 1, acc := .rw },
      { fld := .time_trig_ctrl_enable, lo := 0, w := 1, acc := .rw }] }

/-- TIME_CAP_INFO (R426). -/
def rowTIME_CAP_INFO : RegRow :=
  { name := "TIME_CAP_INFO", base := 0x00200200, dims := [(4, 0x10)], dom := .fixed 0,
    fields := [{ fld := .time_cap_info_enable, lo := 16, w := 1, acc := .rw },
      { fld := .time_cap_info_edge_sel, lo := 14, w := 2, acc := .rw, valid := [(1, 3)] },
      { fld := .time_cap_info_overflow, lo := 13, w := 1, acc := .w1c },
      { fld := .time_cap_info_level, lo := 8, w := 5, acc := .ro, live := true },
      { fld := .time_cap_info_head_edge, lo := 2, w := 1, acc := .ro, live := true },
      { fld := .time_cap_info_head_quarter, lo := 0, w := 2, acc := .ro, live := true }] }

/-- TIME_CAP_NS (R426). -/
def rowTIME_CAP_NS : RegRow :=
  { name := "TIME_CAP_NS", base := 0x00200208, dims := [(4, 0x10)], dom := .fixed 0,
    fields := [{ fld := .time_cap_ns_cap_ns, lo := 0, w := 64, acc := .rc, live := true }] }

/-- TIME_PORT (R426). -/
def rowTIME_PORT : RegRow :=
  { name := "TIME_PORT", base := 0x00210000, dims := [(512, 0x8)], dom := .fixed 0,
    fields := [{ fld := .time_port_asym_ps, lo := 0, w := 16, acc := .rw }] }

/-- Registers of the TIME block. -/
def regsTime : List RegRow :=
  [rowTIME_CTRL, rowTIME_STATUS, rowTIME_NOW_NS, rowTIME_NOW_FRAC, rowTIME_LOCAL, rowTIME_OFFSET_NS, rowTIME_OFFSET_FRAC, rowTIME_RATE, rowTIME_SERVO, rowTIME_PARENT, rowTIME_MEAS, rowTIME_ALIGN] ++
  [rowTIME_PPS, rowTIME_TRIG_START, rowTIME_TRIG_PERIOD, rowTIME_TRIG_CTRL, rowTIME_CAP_INFO, rowTIME_CAP_NS, rowTIME_PORT]

/-- PERF_SNAP_CTRL (R502). -/
def rowPERF_SNAP_CTRL : RegRow :=
  { name := "PERF_SNAP_CTRL", base := 0x00300000, dom := .fixed 1,
    fields := [{ fld := .perf_snap_ctrl_snap_period_us, lo := 32, w := 32, acc := .rw },
      { fld := .perf_snap_ctrl_event_line, lo := 16, w := 4, acc := .rw },
      { fld := .perf_snap_ctrl_snap_src, lo := 8, w := 2, acc := .rw, valid := [(0, 2)] },
      { fld := .perf_snap_ctrl_dump_win, lo := 2, w := 1, acc := .rw },
      { fld := .perf_snap_ctrl_dump_en, lo := 1, w := 1, acc := .rw },
      { fld := .perf_snap_ctrl_snap_now, lo := 0, w := 1, acc := .w1s }] }

/-- PERF_SNAP_TIME (R502). -/
def rowPERF_SNAP_TIME : RegRow :=
  { name := "PERF_SNAP_TIME", base := 0x00300008, dom := .fixed 1,
    fields := [{ fld := .perf_snap_time_snap_time, lo := 0, w := 64, acc := .rw }] }

/-- PERF_DUMP_BASE (R502). -/
def rowPERF_DUMP_BASE : RegRow :=
  { name := "PERF_DUMP_BASE", base := 0x00300010, dom := .fixed 1,
    fields := [{ fld := .perf_dump_base_dump_base, lo := 0, w := 64, acc := .rw }] }

/-- PERF_DUMP_HEAD_ADDR (R502). -/
def rowPERF_DUMP_HEAD_ADDR : RegRow :=
  { name := "PERF_DUMP_HEAD_ADDR", base := 0x00300018, dom := .fixed 1,
    fields := [{ fld := .perf_dump_head_addr_dump_head_addr, lo := 0, w := 64, acc := .rw }] }

/-- PERF_DUMP_CFG (R502). -/
def rowPERF_DUMP_CFG : RegRow :=
  { name := "PERF_DUMP_CFG", base := 0x00300020, dom := .fixed 1,
    fields := [{ fld := .perf_dump_cfg_dump_size_log2, lo := 0, w := 5, acc := .rw, valid := [(10, 20)] }] }

/-- PERF_DUMP_STATUS (R502). -/
def rowPERF_DUMP_STATUS : RegRow :=
  { name := "PERF_DUMP_STATUS", base := 0x00300028, dom := .fixed 1,
    fields := [{ fld := .perf_dump_status_dump_seq, lo := 48, w := 16, acc := .ro },
      { fld := .perf_dump_status_snaps_missed, lo := 32, w := 16, acc := .ro },
      { fld := .perf_dump_status_tail, lo := 8, w := 24, acc := .ro },
      { fld := .perf_dump_status_phase, lo := 1, w := 1, acc := .ro },
      { fld := .perf_dump_status_busy, lo := 0, w := 1, acc := .ro }] }

/-- PERF_LAST_SNAP (R502). -/
def rowPERF_LAST_SNAP : RegRow :=
  { name := "PERF_LAST_SNAP", base := 0x00300030, dom := .fixed 1,
    fields := [{ fld := .perf_last_snap_last_snap, lo := 0, w := 64, acc := .ro }] }

/-- PERF_WIN_CTRL (R502). -/
def rowPERF_WIN_CTRL : RegRow :=
  { name := "PERF_WIN_CTRL", base := 0x00300038, dom := .fixed 1,
    fields := [{ fld := .perf_win_ctrl_window_us, lo := 0, w := 16, acc := .rw }] }

/-- PERF_CYCLE (R503). -/
def rowPERF_CYCLE : RegRow :=
  { name := "PERF_CYCLE", base := 0x00310000, dims := [(557, 0x100)], dom := .perf 1,
    fields := [{ fld := .perf_cycle_cycles, lo := 0, w := 64, acc := .ro, live := true }] }

/-- PERF_PMC (R503). -/
def rowPERF_PMC : RegRow :=
  { name := "PERF_PMC", base := 0x00310008, dims := [(557, 0x100), (8, 0x8)], dom := .perf 8,
    fields := [{ fld := .perf_pmc_count, lo := 0, w := 48, acc := .rw }] }

/-- PERF_EVSEL (R503). -/
def rowPERF_EVSEL : RegRow :=
  { name := "PERF_EVSEL", base := 0x00310048, dims := [(557, 0x100), (8, 0x8)], dom := .perf 8,
    fields := [{ fld := .perf_evsel_enable, lo := 63, w := 1, acc := .rw },
      { fld := .perf_evsel_class_mask, lo := 32, w := 8, acc := .rw },
      { fld := .perf_evsel_priv_mask, lo := 24, w := 3, acc := .rw },
      { fld := .perf_evsel_range_en, lo := 16, w := 1, acc := .rw },
      { fld := .perf_evsel_event, lo := 0, w := 10, acc := .rw }] }

/-- PERF_SNAP_CYCLE (R503). -/
def rowPERF_SNAP_CYCLE : RegRow :=
  { name := "PERF_SNAP_CYCLE", base := 0x00310088, dims := [(557, 0x100)], dom := .perf 1,
    fields := [{ fld := .perf_snap_cycle_cycles, lo := 0, w := 64, acc := .ro }] }

/-- PERF_SNAP_PMC (R503). -/
def rowPERF_SNAP_PMC : RegRow :=
  { name := "PERF_SNAP_PMC", base := 0x00310090, dims := [(557, 0x100), (8, 0x8)], dom := .perf 8,
    fields := [{ fld := .perf_snap_pmc_count, lo := 0, w := 48, acc := .ro }] }

/-- PERF_BLK_STATUS (R503). -/
def rowPERF_BLK_STATUS : RegRow :=
  { name := "PERF_BLK_STATUS", base := 0x003100D0, dims := [(557, 0x100)], dom := .perf 1,
    fields := [{ fld := .perf_blk_status_snap_ovf, lo := 16, w := 8, acc := .ro },
      { fld := .perf_blk_status_ovf, lo := 0, w := 8, acc := .w1c }] }

/-- PERF_WIN_BYTES (R503). -/
def rowPERF_WIN_BYTES : RegRow :=
  { name := "PERF_WIN_BYTES", base := 0x003100D8, dims := [(512, 0x100)], dom := .perf 1,
    fields := [{ fld := .perf_win_bytes_rx_bytes, lo := 32, w := 32, acc := .ro },
      { fld := .perf_win_bytes_tx_bytes, lo := 0, w := 32, acc := .ro }] }

/-- PERF_WIN_SLOT_A (R503). -/
def rowPERF_WIN_SLOT_A : RegRow :=
  { name := "PERF_WIN_SLOT_A", base := 0x003100E0, dims := [(512, 0x100)], dom := .perf 1,
    fields := [{ fld := .perf_win_slot_a_retired, lo := 32, w := 32, acc := .ro },
      { fld := .perf_win_slot_a_wasted, lo := 0, w := 32, acc := .ro }] }

/-- PERF_WIN_SLOT_B (R503). -/
def rowPERF_WIN_SLOT_B : RegRow :=
  { name := "PERF_WIN_SLOT_B", base := 0x003100E8, dims := [(512, 0x100)], dom := .perf 1,
    fields := [{ fld := .perf_win_slot_b_front_starved, lo := 32, w := 32, acc := .ro },
      { fld := .perf_win_slot_b_back_starved, lo := 0, w := 32, acc := .ro }] }

/-- PERF_WIN_INFO (R503). -/
def rowPERF_WIN_INFO : RegRow :=
  { name := "PERF_WIN_INFO", base := 0x003100F0, dims := [(512, 0x100)], dom := .perf 1,
    fields := [{ fld := .perf_win_info_window_seq, lo := 32, w := 32, acc := .ro },
      { fld := .perf_win_info_partial, lo := 7, w := 1, acc := .ro },
      { fld := .perf_win_info_sat, lo := 0, w := 6, acc := .ro }] }

/-- PERF_RANGE (R503). -/
def rowPERF_RANGE : RegRow :=
  { name := "PERF_RANGE", base := 0x003100F8, dims := [(557, 0x100)], dom := .perf 1, holes := [(512, 539), (556, 556)],
    fields := [{ fld := .perf_range_hi, lo := 32, w := 32, acc := .rw },
      { fld := .perf_range_lo, lo := 0, w := 32, acc := .rw }] }

/-- Registers of the PERF block. -/
def regsPerf : List RegRow :=
  [rowPERF_SNAP_CTRL, rowPERF_SNAP_TIME, rowPERF_DUMP_BASE, rowPERF_DUMP_HEAD_ADDR, rowPERF_DUMP_CFG, rowPERF_DUMP_STATUS, rowPERF_LAST_SNAP, rowPERF_WIN_CTRL, rowPERF_CYCLE, rowPERF_PMC, rowPERF_EVSEL, rowPERF_SNAP_CYCLE] ++
  [rowPERF_SNAP_PMC, rowPERF_BLK_STATUS, rowPERF_WIN_BYTES, rowPERF_WIN_SLOT_A, rowPERF_WIN_SLOT_B, rowPERF_WIN_INFO, rowPERF_RANGE]

/-- RAS_CTRL (R518). -/
def rowRAS_CTRL : RegRow :=
  { name := "RAS_CTRL", base := 0x00400000, dom := .fixed 0,
    fields := [{ fld := .ras_ctrl_ring_size_log2, lo := 11, w := 5, acc := .rw, valid := [(8, 16)] },
      { fld := .ras_ctrl_ring_min_sev, lo := 8, w := 3, acc := .rw },
      { fld := .ras_ctrl_keep_clear, lo := 1, w := 1, acc := .w1s },
      { fld := .ras_ctrl_ring_en, lo := 0, w := 1, acc := .rw }] }

/-- RAS_STATUS (R518). -/
def rowRAS_STATUS : RegRow :=
  { name := "RAS_STATUS", base := 0x00400008, dom := .fixed 0,
    fields := [{ fld := .ras_status_lost_count, lo := 48, w := 16, acc := .ro },
      { fld := .ras_status_lost_max_sev, lo := 44, w := 3, acc := .ro },
      { fld := .ras_status_keep_used, lo := 32, w := 9, acc := .ro, live := true },
      { fld := .ras_status_next_seq, lo := 0, w := 32, acc := .ro }] }

/-- RAS_SEV (R518). -/
def rowRAS_SEV : RegRow :=
  { name := "RAS_SEV", base := 0x00400010, dom := .fixed 0,
    fields := [{ fld := .ras_sev_sev_seen, lo := 0, w := 8, acc := .w1c }] }

/-- RAS_FIRST (R518). -/
def rowRAS_FIRST : RegRow :=
  { name := "RAS_FIRST", base := 0x00400018, dom := .fixed 0,
    fields := [{ fld := .ras_first_code, lo := 48, w := 16, acc := .ro },
      { fld := .ras_first_valid, lo := 47, w := 1, acc := .w1c },
      { fld := .ras_first_severity, lo := 44, w := 3, acc := .ro },
      { fld := .ras_first_seq, lo := 0, w := 32, acc := .ro }] }

/-- RAS_RING_BASE (R518). -/
def rowRAS_RING_BASE : RegRow :=
  { name := "RAS_RING_BASE", base := 0x00400020, dom := .fixed 0,
    fields := [{ fld := .ras_ring_base_ring_base, lo := 0, w := 64, acc := .rw }] }

/-- RAS_RING_HEAD_ADDR (R518). -/
def rowRAS_RING_HEAD_ADDR : RegRow :=
  { name := "RAS_RING_HEAD_ADDR", base := 0x00400028, dom := .fixed 0,
    fields := [{ fld := .ras_ring_head_addr_ring_head_addr, lo := 0, w := 64, acc := .rw }] }

/-- RAS_RING_STATUS (R518). -/
def rowRAS_RING_STATUS : RegRow :=
  { name := "RAS_RING_STATUS", base := 0x00400030, dom := .fixed 0,
    fields := [{ fld := .ras_ring_status_ring_skipped, lo := 32, w := 32, acc := .ro },
      { fld := .ras_ring_status_tail, lo := 16, w := 16, acc := .ro },
      { fld := .ras_ring_status_phase, lo := 0, w := 1, acc := .ro }] }

/-- RAS_TRACE_CFG (R519). -/
def rowRAS_TRACE_CFG : RegRow :=
  { name := "RAS_TRACE_CFG", base := 0x00400040, dom := .fixed 0,
    fields := [{ fld := .ras_trace_cfg_enable, lo := 63, w := 1, acc := .rw },
      { fld := .ras_trace_cfg_temp_base, lo := 48, w := 8, acc := .rw },
      { fld := .ras_trace_cfg_code, lo := 32, w := 16, acc := .rw },
      { fld := .ras_trace_cfg_unit_class, lo := 28, w := 4, acc := .rw, valid := [(0, 13)] },
      { fld := .ras_trace_cfg_unit_index, lo := 16, w := 12, acc := .rw },
      { fld := .ras_trace_cfg_lane, lo := 8, w := 8, acc := .rw },
      { fld := .ras_trace_cfg_temp_step, lo := 0, w := 4, acc := .rw }] }

/-- RAS_TRACE_BIN (R519). -/
def rowRAS_TRACE_BIN : RegRow :=
  { name := "RAS_TRACE_BIN", base := 0x00400080, dims := [(8, 0x8)], dom := .fixed 0,
    fields := [{ fld := .ras_trace_bin_bin, lo := 0, w := 16, acc := .ro, nsub := 4, stride := 16 }] }

/-- RAS_REC (R517). -/
def rowRAS_REC : RegRow :=
  { name := "RAS_REC", base := 0x00410000, dims := [(4096, 0x40), (8, 0x8)], dom := .fixed 0,
    fields := [{ fld := .ras_rec_word, lo := 0, w := 64, acc := .ro, live := true }] }

/-- Registers of the RAS block. -/
def regsRas : List RegRow :=
  [rowRAS_CTRL, rowRAS_STATUS, rowRAS_SEV, rowRAS_FIRST, rowRAS_RING_BASE, rowRAS_RING_HEAD_ADDR, rowRAS_RING_STATUS, rowRAS_TRACE_CFG, rowRAS_TRACE_BIN, rowRAS_REC]

/-- CSQ_CTRL (R452). -/
def rowCSQ_CTRL : RegRow :=
  { name := "CSQ_CTRL", base := 0x00800000, dom := .fixed 1,
    fields := [{ fld := .csq_ctrl_watch_refresh_us, lo := 0, w := 16, acc := .rw }] }

/-- CSQ_TOKEN (R452). -/
def rowCSQ_TOKEN : RegRow :=
  { name := "CSQ_TOKEN", base := 0x00880000, dims := [(65536, 0x8)], dom := .fixed 1,
    fields := [{ fld := .csq_token_sat, lo := 16, w := 1, acc := .w1c },
      { fld := .csq_token_count, lo := 0, w := 16, acc := .rw }] }

/-- CSQ_Q_CFG (R453). -/
def rowCSQ_Q_CFG : RegRow :=
  { name := "CSQ_Q_CFG", base := 0x00900000, dims := [(512, 0x800)], dom := .fixed 1,
    fields := [{ fld := .csq_q_cfg_job_tag, lo := 48, w := 16, acc := .rw },
      { fld := .csq_q_cfg_inline_budget, lo := 32, w := 16, acc := .rw },
      { fld := .csq_q_cfg_cr_size_log2, lo := 24, w := 5, acc := .rw, valid := [(4, 16)] },
      { fld := .csq_q_cfg_size_log2, lo := 16, w := 5, acc := .rw, valid := [(4, 16)] },
      { fld := .csq_q_cfg_cr_loc, lo := 13, w := 1, acc := .rw },
      { fld := .csq_q_cfg_loc, lo := 12, w := 1, acc := .rw },
      { fld := .csq_q_cfg_prio, lo := 8, w := 2, acc := .rw },
      { fld := .csq_q_cfg_seq, lo := 4, w := 3, acc := .rw },
      { fld := .csq_q_cfg_privilege, lo := 2, w := 2, acc := .rw, valid := [(0, 2)] },
      { fld := .csq_q_cfg_enable, lo := 0, w := 1, acc := .rw }] }

/-- CSQ_Q_BASE (R453). -/
def rowCSQ_Q_BASE : RegRow :=
  { name := "CSQ_Q_BASE", base := 0x00900008, dims := [(512, 0x800)], dom := .fixed 1,
    fields := [{ fld := .csq_q_base_base, lo := 0, w := 64, acc := .rw }] }

/-- CSQ_Q_CR_BASE (R453). -/
def rowCSQ_Q_CR_BASE : RegRow :=
  { name := "CSQ_Q_CR_BASE", base := 0x00900010, dims := [(512, 0x800)], dom := .fixed 1,
    fields := [{ fld := .csq_q_cr_base_cr_base, lo := 0, w := 64, acc := .rw }] }

/-- CSQ_Q_CR_HEAD_ADDR (R453). -/
def rowCSQ_Q_CR_HEAD_ADDR : RegRow :=
  { name := "CSQ_Q_CR_HEAD_ADDR", base := 0x00900018, dims := [(512, 0x800)], dom := .fixed 1,
    fields := [{ fld := .csq_q_cr_head_addr_cr_head_addr, lo := 0, w := 64, acc := .rw }] }

/-- CSQ_Q_STATUS (R453). -/
def rowCSQ_Q_STATUS : RegRow :=
  { name := "CSQ_Q_STATUS", base := 0x00900020, dims := [(512, 0x800)], dom := .fixed 1,
    fields := [{ fld := .csq_q_status_map_gen, lo := 48, w := 16, acc := .ro },
      { fld := .csq_q_status_head, lo := 32, w := 16, acc := .ro },
      { fld := .csq_q_status_exp_phase, lo := 31, w := 1, acc := .ro },
      { fld := .csq_q_status_state, lo := 16, w := 4, acc := .ro },
      { fld := .csq_q_status_map_pending, lo := 8, w := 1, acc := .ro },
      { fld := .csq_q_status_buffered, lo := 0, w := 4, acc := .ro }] }

/-- CSQ_Q_CR_STATUS (R453). -/
def rowCSQ_Q_CR_STATUS : RegRow :=
  { name := "CSQ_Q_CR_STATUS", base := 0x00900028, dims := [(512, 0x800)], dom := .fixed 1,
    fields := [{ fld := .csq_q_cr_status_cr_tail, lo := 48, w := 16, acc := .ro },
      { fld := .csq_q_cr_status_cr_head, lo := 32, w := 16, acc := .ro },
      { fld := .csq_q_cr_status_cr_phase, lo := 31, w := 1, acc := .ro },
      { fld := .csq_q_cr_status_held, lo := 16, w := 5, acc := .ro }] }

/-- CSQ_Q_CMD (R453). -/
def rowCSQ_Q_CMD : RegRow :=
  { name := "CSQ_Q_CMD", base := 0x00900030, dims := [(512, 0x800)], dom := .fixed 1,
    fields := [{ fld := .csq_q_cmd_cmd, lo := 0, w := 3, acc := .wo, valid := [(0, 4)] }] }

/-- CSQ_Q_LAST (R453). -/
def rowCSQ_Q_LAST : RegRow :=
  { name := "CSQ_Q_LAST", base := 0x00900038, dims := [(512, 0x800)], dom := .fixed 1,
    fields := [{ fld := .csq_q_last_entry, lo := 48, w := 16, acc := .ro },
      { fld := .csq_q_last_status, lo := 40, w := 8, acc := .ro },
      { fld := .csq_q_last_detail, lo := 0, w := 32, acc := .ro }] }

/-- CSQ_Q_PMAP_STAGE (R451). -/
def rowCSQ_Q_PMAP_STAGE : RegRow :=
  { name := "CSQ_Q_PMAP_STAGE", base := 0x00900400, dims := [(512, 0x800), (16, 0x20), (4, 0x8)], dom := .fixed 1,
    fields := [{ fld := .csq_q_pmap_stage_word, lo := 0, w := 64, acc := .rw }] }

/-- CSQ_Q_PMAP_ACTIVE (R451). -/
def rowCSQ_Q_PMAP_ACTIVE : RegRow :=
  { name := "CSQ_Q_PMAP_ACTIVE", base := 0x00900600, dims := [(512, 0x800), (16, 0x20), (4, 0x8)], dom := .fixed 1,
    fields := [{ fld := .csq_q_pmap_active_word, lo := 0, w := 64, acc := .ro }] }

/-- CSQ_QSRAM (R451). -/
def rowCSQ_QSRAM : RegRow :=
  { name := "CSQ_QSRAM", base := 0x00A00000, dims := [(131072, 0x8)], dom := .fixed 1,
    fields := [{ fld := .csq_qsram_word, lo := 0, w := 64, acc := .rw }] }

/-- Registers of the CSQ block. -/
def regsCsq : List RegRow :=
  [rowCSQ_CTRL, rowCSQ_TOKEN, rowCSQ_Q_CFG, rowCSQ_Q_BASE, rowCSQ_Q_CR_BASE, rowCSQ_Q_CR_HEAD_ADDR, rowCSQ_Q_STATUS, rowCSQ_Q_CR_STATUS, rowCSQ_Q_CMD, rowCSQ_Q_LAST, rowCSQ_Q_PMAP_STAGE, rowCSQ_Q_PMAP_ACTIVE] ++
  [rowCSQ_QSRAM]

/-- DMA_STATUS (R486). -/
def rowDMA_STATUS : RegRow :=
  { name := "DMA_STATUS", base := 0x00C00000, dom := .fixed 1,
    fields := [{ fld := .dma_status_halted, lo := 32, w := 32, acc := .ro, live := true },
      { fld := .dma_status_busy, lo := 0, w := 32, acc := .ro, live := true }] }

/-- DMA_CH_PROG (R486). -/
def rowDMA_CH_PROG : RegRow :=
  { name := "DMA_CH_PROG", base := 0x00C10000, dims := [(32, 0x40)], dom := .fixed 1,
    fields := [{ fld := .dma_ch_prog_prog, lo := 0, w := 64, acc := .rw }] }

/-- DMA_CH_CTRL (R486). -/
def rowDMA_CH_CTRL : RegRow :=
  { name := "DMA_CH_CTRL", base := 0x00C10008, dims := [(32, 0x40)], dom := .fixed 1,
    fields := [{ fld := .dma_ch_ctrl_halt_mode, lo := 4, w := 1, acc := .rw },
      { fld := .dma_ch_ctrl_prog_qsram, lo := 0, w := 1, acc := .rw }] }

/-- DMA_CH_CMD (R486). -/
def rowDMA_CH_CMD : RegRow :=
  { name := "DMA_CH_CMD", base := 0x00C10010, dims := [(32, 0x40)], dom := .fixed 1,
    fields := [{ fld := .dma_ch_cmd_cmd, lo := 0, w := 2, acc := .wo }] }

/-- DMA_CH_STATUS (R486). -/
def rowDMA_CH_STATUS : RegRow :=
  { name := "DMA_CH_STATUS", base := 0x00C10018, dims := [(32, 0x40)], dom := .fixed 1,
    fields := [{ fld := .dma_ch_status_pc, lo := 48, w := 16, acc := .ro },
      { fld := .dma_ch_status_last_result, lo := 40, w := 8, acc := .ro },
      { fld := .dma_ch_status_fmem_status, lo := 32, w := 6, acc := .ro },
      { fld := .dma_ch_status_owner, lo := 16, w := 16, acc := .ro },
      { fld := .dma_ch_status_cause, lo := 4, w := 4, acc := .ro },
      { fld := .dma_ch_status_state, lo := 0, w := 3, acc := .ro }] }

/-- DMA_CH_FAULT_ADDR (R486). -/
def rowDMA_CH_FAULT_ADDR : RegRow :=
  { name := "DMA_CH_FAULT_ADDR", base := 0x00C10020, dims := [(32, 0x40)], dom := .fixed 1,
    fields := [{ fld := .dma_ch_fault_addr_address, lo := 0, w := 64, acc := .ro }] }

/-- DMA_CH_FAULT_INFO (R486). -/
def rowDMA_CH_FAULT_INFO : RegRow :=
  { name := "DMA_CH_FAULT_INFO", base := 0x00C10028, dims := [(32, 0x40)], dom := .fixed 1,
    fields := [{ fld := .dma_ch_fault_info_outer_index, lo := 48, w := 16, acc := .ro },
      { fld := .dma_ch_fault_info_inner_index, lo := 32, w := 16, acc := .ro },
      { fld := .dma_ch_fault_info_bytes_done, lo := 8, w := 24, acc := .ro },
      { fld := .dma_ch_fault_info_direction, lo := 6, w := 2, acc := .ro },
      { fld := .dma_ch_fault_info_space, lo := 3, w := 3, acc := .ro }] }

/-- Registers of the DMA block. -/
def regsDma : List RegRow :=
  [rowDMA_STATUS, rowDMA_CH_PROG, rowDMA_CH_CTRL, rowDMA_CH_CMD, rowDMA_CH_STATUS, rowDMA_CH_FAULT_ADDR, rowDMA_CH_FAULT_INFO]

/-- PORT_CFG (R169). -/
def rowPORT_CFG : RegRow :=
  { name := "PORT_CFG", base := 0x01000000, dims := [(512, 0x1000)], dom := .per 2 128,
    fields := [{ fld := .port_cfg_bundle, lo := 33, w := 9, acc := .rw },
      { fld := .port_cfg_target, lo := 20, w := 12, acc := .rw },
      { fld := .port_cfg_axis, lo := 16, w := 2, acc := .rw, valid := [(0, 2)] },
      { fld := .port_cfg_ctrl_from_down, lo := 9, w := 1, acc := .rw },
      { fld := .port_cfg_auto_admit, lo := 8, w := 1, acc := .rw },
      { fld := .port_cfg_role, lo := 0, w := 3, acc := .rw, valid := [(0, 5)] }] }

/-- PORT_TIMERS (R170). -/
def rowPORT_TIMERS : RegRow :=
  { name := "PORT_TIMERS", base := 0x01000008, dims := [(512, 0x1000)], dom := .per 2 128,
    fields := [{ fld := .port_timers_credit_timeout_us, lo := 16, w := 20, acc := .rw, valid := [(100, 1000000)] },
      { fld := .port_timers_bringup_timeout_ms, lo := 0, w := 16, acc := .rw }] }

/-- PORT_STATUS (R171). -/
def rowPORT_STATUS : RegRow :=
  { name := "PORT_STATUS", base := 0x01000010, dims := [(512, 0x1000)], dom := .per 2 128,
    fields := [{ fld := .port_status_agreed_features, lo := 32, w := 32, acc := .ro },
      { fld := .port_status_fence_mask, lo := 16, w := 11, acc := .ro },
      { fld := .port_status_stencil_status, lo := 12, w := 3, acc := .ro },
      { fld := .port_status_link_status, lo := 0, w := 4, acc := .ro }] }

/-- PORT_CMD (R172). -/
def rowPORT_CMD : RegRow :=
  { name := "PORT_CMD", base := 0x01000018, dims := [(512, 0x1000)], dom := .per 2 128,
    fields := [{ fld := .port_cmd_cmd, lo := 0, w := 4, acc := .wo, valid := [(0, 7)] }] }

/-- PORT_CMD_STATUS (R172). -/
def rowPORT_CMD_STATUS : RegRow :=
  { name := "PORT_CMD_STATUS", base := 0x01000020, dims := [(512, 0x1000)], dom := .per 2 128,
    fields := [{ fld := .port_cmd_status_last_cmd, lo := 4, w := 4, acc := .ro },
      { fld := .port_cmd_status_result, lo := 0, w := 4, acc := .ro }] }

/-- PORT_STENCIL_0 (R168). -/
def rowPORT_STENCIL_0 : RegRow :=
  { name := "PORT_STENCIL_0", base := 0x01000040, dims := [(512, 0x1000)], dom := .per 2 128,
    fields := [{ fld := .port_stencil_0_far_port, lo := 48, w := 16, acc := .rw },
      { fld := .port_stencil_0_nbr_id, lo := 24, w := 24, acc := .rw },
      { fld := .port_stencil_0_nbr_plane, lo := 20, w := 4, acc := .rw },
      { fld := .port_stencil_0_nbr_kind, lo := 16, w := 4, acc := .rw },
      { fld := .port_stencil_0_check, lo := 8, w := 5, acc := .rw },
      { fld := .port_stencil_0_valid, lo := 0, w := 1, acc := .rw }] }

/-- PORT_STENCIL_1 (R168). -/
def rowPORT_STENCIL_1 : RegRow :=
  { name := "PORT_STENCIL_1", base := 0x01000048, dims := [(512, 0x1000)], dom := .per 2 128,
    fields := [{ fld := .port_stencil_1_nbr_serial, lo := 0, w := 64, acc := .rw }] }

/-- PORT_STENCIL_2 (R168). -/
def rowPORT_STENCIL_2 : RegRow :=
  { name := "PORT_STENCIL_2", base := 0x01000050, dims := [(512, 0x1000)], dom := .per 2 128,
    fields := [{ fld := .port_stencil_2_src_limit, lo := 24, w := 24, acc := .rw },
      { fld := .port_stencil_2_src_base, lo := 0, w := 24, acc := .rw }] }

/-- PORT_STENCIL_3 (R168). -/
def rowPORT_STENCIL_3 : RegRow :=
  { name := "PORT_STENCIL_3", base := 0x01000058, dims := [(512, 0x1000)], dom := .per 2 128,
    fields := [] }

/-- PORT_NBR_0 (R168). -/
def rowPORT_NBR_0 : RegRow :=
  { name := "PORT_NBR_0", base := 0x01000060, dims := [(512, 0x1000)], dom := .per 2 128,
    fields := [{ fld := .port_nbr_0_far_port, lo := 48, w := 16, acc := .ro },
      { fld := .port_nbr_0_nbr_id, lo := 24, w := 24, acc := .ro },
      { fld := .port_nbr_0_nbr_plane, lo := 20, w := 4, acc := .ro },
      { fld := .port_nbr_0_nbr_kind, lo := 16, w := 4, acc := .ro }] }

/-- PORT_NBR_1 (R168). -/
def rowPORT_NBR_1 : RegRow :=
  { name := "PORT_NBR_1", base := 0x01000068, dims := [(512, 0x1000)], dom := .per 2 128,
    fields := [{ fld := .port_nbr_1_nbr_serial, lo := 0, w := 64, acc := .ro }] }

/-- PORT_NBR_EXT (R173). -/
def rowPORT_NBR_EXT : RegRow :=
  { name := "PORT_NBR_EXT", base := 0x01000070, dims := [(512, 0x1000)], dom := .per 2 128,
    fields := [{ fld := .port_nbr_ext_partner_rev, lo := 48, w := 16, acc := .ro },
      { fld := .port_nbr_ext_grid, lo := 36, w := 1, acc := .ro },
      { fld := .port_nbr_ext_coord_x, lo := 24, w := 12, acc := .ro },
      { fld := .port_nbr_ext_coord_y, lo := 12, w := 12, acc := .ro },
      { fld := .port_nbr_ext_coord_z, lo := 0, w := 12, acc := .ro }] }

/-- PORT_CREDIT (R173). -/
def rowPORT_CREDIT : RegRow :=
  { name := "PORT_CREDIT", base := 0x01000100, dims := [(512, 0x1000), (8, 0x8)], dom := .per 2 1024,
    fields := [{ fld := .port_credit_allotment_tx, lo := 48, w := 16, acc := .ro },
      { fld := .port_credit_allotment_rx, lo := 32, w := 16, acc := .ro },
      { fld := .port_credit_returned, lo := 16, w := 16, acc := .ro },
      { fld := .port_credit_sent, lo := 0, w := 16, acc := .ro }] }

/-- Registers of the PORT block. -/
def regsPort : List RegRow :=
  [rowPORT_CFG, rowPORT_TIMERS, rowPORT_STATUS, rowPORT_CMD, rowPORT_CMD_STATUS, rowPORT_STENCIL_0, rowPORT_STENCIL_1, rowPORT_STENCIL_2, rowPORT_STENCIL_3, rowPORT_NBR_0, rowPORT_NBR_1, rowPORT_NBR_EXT] ++
  [rowPORT_CREDIT]

/-- XBAR_POOL_STATUS (R229). -/
def rowXBAR_POOL_STATUS : RegRow :=
  { name := "XBAR_POOL_STATUS", base := 0x01400000, dom := .core,
    fields := [{ fld := .xbar_pool_status_committed, lo := 24, w := 20, acc := .ro, live := true },
      { fld := .xbar_pool_status_cells_free, lo := 0, w := 20, acc := .ro, live := true }] }

/-- XBAR_INT_QUOTA (R229). -/
def rowXBAR_INT_QUOTA : RegRow :=
  { name := "XBAR_INT_QUOTA", base := 0x01400008, dom := .core,
    fields := [{ fld := .xbar_int_quota_iq_int, lo := 0, w := 16, acc := .rw, nsub := 4, stride := 16 }] }

/-- XBAR_INT_USED (R229). -/
def rowXBAR_INT_USED : RegRow :=
  { name := "XBAR_INT_USED", base := 0x01400010, dom := .core,
    fields := [{ fld := .xbar_int_used_used_int, lo := 0, w := 16, acc := .ro, nsub := 4, stride := 16, live := true }] }

/-- XBAR_MIRROR_RES (R229). -/
def rowXBAR_MIRROR_RES : RegRow :=
  { name := "XBAR_MIRROR_RES", base := 0x01400018, dom := .core,
    fields := [{ fld := .xbar_mirror_res_oq_int, lo := 24, w := 8, acc := .rw, nsub := 4, stride := 8 },
      { fld := .xbar_mirror_res_mirror_reserve, lo := 0, w := 16, acc := .rw }] }

/-- XBAR_UMBRA (R229). -/
def rowXBAR_UMBRA : RegRow :=
  { name := "XBAR_UMBRA", base := 0x01400100, dims := [(8, 0x8)], dom := .core,
    fields := [{ fld := .xbar_umbra_umbra, lo := 0, w := 64, acc := .ro, live := true }] }

/-- XBAR_RED (R230). -/
def rowXBAR_RED : RegRow :=
  { name := "XBAR_RED", base := 0x01400200, dims := [(8, 0x20), (3, 0x8)], dom := .core,
    fields := [{ fld := .xbar_red_pmax, lo := 32, w := 8, acc := .rw },
      { fld := .xbar_red_max, lo := 16, w := 16, acc := .rw },
      { fld := .xbar_red_min, lo := 0, w := 16, acc := .rw }] }

/-- XBAR_MIR_CFG (R231). -/
def rowXBAR_MIR_CFG : RegRow :=
  { name := "XBAR_MIR_CFG", base := 0x01400400, dims := [(16, 0x20)], dom := .core,
    fields := [{ fld := .xbar_mir_cfg_enable, lo := 63, w := 1, acc := .rw },
      { fld := .xbar_mir_cfg_dest_kind, lo := 62, w := 1, acc := .rw },
      { fld := .xbar_mir_cfg_trunc_len, lo := 24, w := 9, acc := .rw, valid := [(64, 256)], step := 4 },
      { fld := .xbar_mir_cfg_sample_n_m1, lo := 0, w := 24, acc := .rw }] }

/-- XBAR_MIR_DEST (R231). -/
def rowXBAR_MIR_DEST : RegRow :=
  { name := "XBAR_MIR_DEST", base := 0x01400408, dims := [(16, 0x20)], dom := .core,
    fields := [{ fld := .xbar_mir_dest_dest_port, lo := 32, w := 9, acc := .rw },
      { fld := .xbar_mir_dest_dest_geid, lo := 0, w := 24, acc := .rw }] }

/-- XBAR_MIR_STATS (R231). -/
def rowXBAR_MIR_STATS : RegRow :=
  { name := "XBAR_MIR_STATS", base := 0x01400410, dims := [(16, 0x20)], dom := .core,
    fields := [{ fld := .xbar_mir_stats_dropped, lo := 32, w := 32, acc := .ro },
      { fld := .xbar_mir_stats_sent, lo := 0, w := 32, acc := .ro }] }

/-- XBAR_IQ (R232). -/
def rowXBAR_IQ : RegRow :=
  { name := "XBAR_IQ", base := 0x01410000, dims := [(512, 0x100), (2, 0x8)], dom := .per 2 256,
    fields := [{ fld := .xbar_iq_iq, lo := 0, w := 15, acc := .rw, nsub := 4, stride := 16 }] }

/-- XBAR_EQ (R232). -/
def rowXBAR_EQ : RegRow :=
  { name := "XBAR_EQ", base := 0x01410010, dims := [(512, 0x100), (2, 0x8)], dom := .per 2 256,
    fields := [{ fld := .xbar_eq_eq, lo := 0, w := 15, acc := .rw, nsub := 4, stride := 16 }] }

/-- XBAR_IN_USED (R232). -/
def rowXBAR_IN_USED : RegRow :=
  { name := "XBAR_IN_USED", base := 0x01410020, dims := [(512, 0x100), (2, 0x8)], dom := .per 2 256,
    fields := [{ fld := .xbar_in_used_in_used, lo := 0, w := 16, acc := .ro, nsub := 4, stride := 16, live := true }] }

/-- XBAR_OUT_USED (R232). -/
def rowXBAR_OUT_USED : RegRow :=
  { name := "XBAR_OUT_USED", base := 0x01410030, dims := [(512, 0x100), (2, 0x8)], dom := .per 2 256,
    fields := [{ fld := .xbar_out_used_out_used, lo := 0, w := 16, acc := .ro, nsub := 4, stride := 16, live := true }] }

/-- XBAR_PORT_MODE (R233). -/
def rowXBAR_PORT_MODE : RegRow :=
  { name := "XBAR_PORT_MODE", base := 0x01410040, dims := [(512, 0x100)], dom := .per 2 128,
    fields := [{ fld := .xbar_port_mode_recovery_ms, lo := 48, w := 16, acc := .rw },
      { fld := .xbar_port_mode_startup_ms, lo := 32, w := 16, acc := .rw },
      { fld := .xbar_port_mode_red_profile, lo := 8, w := 3, acc := .rw },
      { fld := .xbar_port_mode_svc_mode, lo := 0, w := 2, acc := .rw }] }

/-- XBAR_PORT_STATUS (R233). -/
def rowXBAR_PORT_STATUS : RegRow :=
  { name := "XBAR_PORT_STATUS", base := 0x01410048, dims := [(512, 0x100)], dom := .per 2 128,
    fields := [{ fld := .xbar_port_status_withholding, lo := 16, w := 8, acc := .ro, live := true },
      { fld := .xbar_port_status_over_out, lo := 8, w := 8, acc := .ro, live := true },
      { fld := .xbar_port_status_over_in, lo := 0, w := 8, acc := .ro, live := true }] }

/-- XBAR_PORT_MIRROR (R233). -/
def rowXBAR_PORT_MIRROR : RegRow :=
  { name := "XBAR_PORT_MIRROR", base := 0x01410050, dims := [(512, 0x100)], dom := .per 2 128,
    fields := [{ fld := .xbar_port_mirror_egr_en, lo := 9, w := 1, acc := .rw },
      { fld := .xbar_port_mirror_egr_session, lo := 5, w := 4, acc := .rw },
      { fld := .xbar_port_mirror_ing_en, lo := 4, w := 1, acc := .rw },
      { fld := .xbar_port_mirror_ing_session, lo := 0, w := 4, acc := .rw }] }

/-- Registers of the XBAR block. -/
def regsXbar : List RegRow :=
  [rowXBAR_POOL_STATUS, rowXBAR_INT_QUOTA, rowXBAR_INT_USED, rowXBAR_MIRROR_RES, rowXBAR_UMBRA, rowXBAR_RED, rowXBAR_MIR_CFG, rowXBAR_MIR_DEST, rowXBAR_MIR_STATS, rowXBAR_IQ, rowXBAR_EQ, rowXBAR_IN_USED] ++
  [rowXBAR_OUT_USED, rowXBAR_PORT_MODE, rowXBAR_PORT_STATUS, rowXBAR_PORT_MIRROR]

/-- SCHED_ECHO_CTRL (R255). -/
def rowSCHED_ECHO_CTRL : RegRow :=
  { name := "SCHED_ECHO_CTRL", base := 0x01600000, dom := .core,
    fields := [{ fld := .sched_echo_ctrl_echo_enable, lo := 16, w := 1, acc := .rw },
      { fld := .sched_echo_ctrl_echo_gap_ns, lo := 0, w := 16, acc := .rw }] }

/-- SCHED_INT_MARK (R255). -/
def rowSCHED_INT_MARK : RegRow :=
  { name := "SCHED_INT_MARK", base := 0x01600008, dims := [(2, 0x8)], dom := .core,
    fields := [{ fld := .sched_int_mark_pmax, lo := 32, w := 8, acc := .rw },
      { fld := .sched_int_mark_max, lo := 16, w := 16, acc := .rw },
      { fld := .sched_int_mark_min, lo := 0, w := 16, acc := .rw }] }

/-- SCHED_POL_CFG (R256). -/
def rowSCHED_POL_CFG : RegRow :=
  { name := "SCHED_POL_CFG", base := 0x01620000, dims := [(4096, 0x20)], dom := .per 2 1024,
    fields := [{ fld := .sched_pol_cfg_mode, lo := 63, w := 1, acc := .rw },
      { fld := .sched_pol_cfg_colour_aware, lo := 62, w := 1, acc := .rw },
      { fld := .sched_pol_cfg_drop_red_normal, lo := 61, w := 1, acc := .rw },
      { fld := .sched_pol_cfg_pir_mbps, lo := 20, w := 20, acc := .rw },
      { fld := .sched_pol_cfg_cir_mbps, lo := 0, w := 20, acc := .rw }] }

/-- SCHED_POL_BURST (R256). -/
def rowSCHED_POL_BURST : RegRow :=
  { name := "SCHED_POL_BURST", base := 0x01620008, dims := [(4096, 0x20)], dom := .per 2 1024,
    fields := [{ fld := .sched_pol_burst_pbs_ebs, lo := 24, w := 24, acc := .rw },
      { fld := .sched_pol_burst_cbs, lo := 0, w := 24, acc := .rw }] }

/-- SCHED_POL_TOKENS (R256). -/
def rowSCHED_POL_TOKENS : RegRow :=
  { name := "SCHED_POL_TOKENS", base := 0x01620010, dims := [(4096, 0x20)], dom := .per 2 1024,
    fields := [{ fld := .sched_pol_tokens_tp_te, lo := 32, w := 32, acc := .ro, live := true },
      { fld := .sched_pol_tokens_tc, lo := 0, w := 32, acc := .ro, live := true }] }

/-- SCHED_POL_STATS (R256). -/
def rowSCHED_POL_STATS : RegRow :=
  { name := "SCHED_POL_STATS", base := 0x01620018, dims := [(4096, 0x20)], dom := .per 2 1024,
    fields := [{ fld := .sched_pol_stats_red, lo := 32, w := 32, acc := .ro },
      { fld := .sched_pol_stats_yellow, lo := 0, w := 32, acc := .ro }] }

/-- SCHED_PORT_CFG (R257). -/
def rowSCHED_PORT_CFG : RegRow :=
  { name := "SCHED_PORT_CFG", base := 0x01700000, dims := [(512, 0x800)], dom := .per 2 128,
    fields := [{ fld := .sched_port_cfg_mark_mask, lo := 16, w := 8, acc := .rw },
      { fld := .sched_port_cfg_strict_mask, lo := 0, w := 8, acc := .rw }] }

/-- SCHED_QUANTUM (R257). -/
def rowSCHED_QUANTUM : RegRow :=
  { name := "SCHED_QUANTUM", base := 0x01700008, dims := [(512, 0x800), (2, 0x8)], dom := .per 2 256,
    fields := [{ fld := .sched_quantum_quantum, lo := 0, w := 16, acc := .rw, nsub := 4, stride := 16 }] }

/-- SCHED_POL_MAP (R257). -/
def rowSCHED_POL_MAP : RegRow :=
  { name := "SCHED_POL_MAP", base := 0x01700018, dims := [(512, 0x800), (2, 0x8)], dom := .per 2 256,
    fields := [{ fld := .sched_pol_map_pol_en, lo := 15, w := 1, acc := .rw, nsub := 4, stride := 16 },
      { fld := .sched_pol_map_pol_idx, lo := 0, w := 12, acc := .rw, nsub := 4, stride := 16 }] }

/-- SCHED_SHAPER (R258). -/
def rowSCHED_SHAPER : RegRow :=
  { name := "SCHED_SHAPER", base := 0x01700040, dims := [(512, 0x800), (8, 0x8)], dom := .per 2 1024,
    fields := [{ fld := .sched_shaper_shape_en, lo := 63, w := 1, acc := .rw },
      { fld := .sched_shaper_overhead, lo := 48, w := 8, acc := .rw, valid := [(0, 127), (224, 255)] },
      { fld := .sched_shaper_burst, lo := 24, w := 24, acc := .rw },
      { fld := .sched_shaper_rate_mbps, lo := 0, w := 20, acc := .rw }] }

/-- SCHED_MARK (R258). -/
def rowSCHED_MARK : RegRow :=
  { name := "SCHED_MARK", base := 0x01700080, dims := [(512, 0x800), (8, 0x8)], dom := .per 2 1024,
    fields := [{ fld := .sched_mark_pmax, lo := 32, w := 8, acc := .rw },
      { fld := .sched_mark_max, lo := 16, w := 16, acc := .rw },
      { fld := .sched_mark_min, lo := 0, w := 16, acc := .rw }] }

/-- SCHED_GATE_CTRL (R259). -/
def rowSCHED_GATE_CTRL : RegRow :=
  { name := "SCHED_GATE_CTRL", base := 0x01700100, dims := [(512, 0x800)], dom := .per 2 128,
    fields := [{ fld := .sched_gate_ctrl_guard_extra_ns, lo := 32, w := 16, acc := .rw },
      { fld := .sched_gate_ctrl_change, lo := 9, w := 1, acc := .w1s },
      { fld := .sched_gate_ctrl_gate_en, lo := 8, w := 1, acc := .rw }] }

/-- SCHED_GATE_ADMIN (R259). -/
def rowSCHED_GATE_ADMIN : RegRow :=
  { name := "SCHED_GATE_ADMIN", base := 0x01700108, dims := [(512, 0x800)], dom := .per 2 128,
    fields := [{ fld := .sched_gate_admin_cycle_ns, lo := 32, w := 32, acc := .rw },
      { fld := .sched_gate_admin_n_entries, lo := 0, w := 9, acc := .rw }] }

/-- SCHED_GATE_BASE (R259). -/
def rowSCHED_GATE_BASE : RegRow :=
  { name := "SCHED_GATE_BASE", base := 0x01700110, dims := [(512, 0x800)], dom := .per 2 128,
    fields := [{ fld := .sched_gate_base_base_ns, lo := 0, w := 64, acc := .rw }] }

/-- SCHED_GATE_INDEX (R259). -/
def rowSCHED_GATE_INDEX : RegRow :=
  { name := "SCHED_GATE_INDEX", base := 0x01700118, dims := [(512, 0x800)], dom := .per 2 128,
    fields := [{ fld := .sched_gate_index_index, lo := 0, w := 8, acc := .rw }] }

/-- SCHED_GATE_DATA (R259). -/
def rowSCHED_GATE_DATA : RegRow :=
  { name := "SCHED_GATE_DATA", base := 0x01700120, dims := [(512, 0x800)], dom := .per 2 128,
    fields := [{ fld := .sched_gate_data_gates, lo := 56, w := 8, acc := .rw, live := true },
      { fld := .sched_gate_data_interval_ns, lo := 0, w := 32, acc := .rw, live := true }] }

/-- SCHED_GATE_STATUS (R259). -/
def rowSCHED_GATE_STATUS : RegRow :=
  { name := "SCHED_GATE_STATUS", base := 0x01700128, dims := [(512, 0x800)], dom := .per 2 128,
    fields := [{ fld := .sched_gate_status_gate_state, lo := 32, w := 8, acc := .ro, live := true },
      { fld := .sched_gate_status_entry, lo := 16, w := 8, acc := .ro, live := true },
      { fld := .sched_gate_status_result, lo := 8, w := 4, acc := .ro },
      { fld := .sched_gate_status_pending, lo := 1, w := 1, acc := .ro },
      { fld := .sched_gate_status_active_list, lo := 0, w := 1, acc := .ro }] }

/-- Registers of the SCHED block. -/
def regsSched : List RegRow :=
  [rowSCHED_ECHO_CTRL, rowSCHED_INT_MARK, rowSCHED_POL_CFG, rowSCHED_POL_BURST, rowSCHED_POL_TOKENS, rowSCHED_POL_STATS, rowSCHED_PORT_CFG, rowSCHED_QUANTUM, rowSCHED_POL_MAP, rowSCHED_SHAPER, rowSCHED_MARK, rowSCHED_GATE_CTRL] ++
  [rowSCHED_GATE_ADMIN, rowSCHED_GATE_BASE, rowSCHED_GATE_INDEX, rowSCHED_GATE_DATA, rowSCHED_GATE_STATUS]

/-- FWD_CTRL (R201). -/
def rowFWD_CTRL : RegRow :=
  { name := "FWD_CTRL", base := 0x01800000, dom := .fixed 8,
    fields := [{ fld := .fwd_ctrl_flood_enable, lo := 40, w := 1, acc := .rw },
      { fld := .fwd_ctrl_flood_group, lo := 24, w := 16, acc := .rw },
      { fld := .fwd_ctrl_seed_b, lo := 8, w := 8, acc := .rw },
      { fld := .fwd_ctrl_seed_a, lo := 0, w := 8, acc := .rw }] }

/-- FWD_AGE_CTRL (R202). -/
def rowFWD_AGE_CTRL : RegRow :=
  { name := "FWD_AGE_CTRL", base := 0x01800008, dom := .fixed 8,
    fields := [{ fld := .fwd_age_ctrl_age_period_ms, lo := 0, w := 22, acc := .rw, valid := [(0, 3600000)] }] }

/-- FWD_LOCK_CTRL (R202). -/
def rowFWD_LOCK_CTRL : RegRow :=
  { name := "FWD_LOCK_CTRL", base := 0x01800010, dom := .fixed 8,
    fields := [{ fld := .fwd_lock_ctrl_lock_timeout_us, lo := 0, w := 14, acc := .rw, valid := [(0, 10000)] }] }

/-- FWD_STATUS (R202). -/
def rowFWD_STATUS : RegRow :=
  { name := "FWD_STATUS", base := 0x01800018, dom := .fixed 8,
    fields := [{ fld := .fwd_status_locks_held, lo := 48, w := 7, acc := .ro, live := true },
      { fld := .fwd_status_overflow_used, lo := 32, w := 16, acc := .ro, live := true },
      { fld := .fwd_status_entries_valid, lo := 0, w := 21, acc := .ro, live := true }] }

/-- FWD_SWEEP (R202). -/
def rowFWD_SWEEP : RegRow :=
  { name := "FWD_SWEEP", base := 0x01800020, dom := .fixed 8,
    fields := [{ fld := .fwd_sweep_sweep_count, lo := 32, w := 32, acc := .ro },
      { fld := .fwd_sweep_sweep_pos, lo := 0, w := 19, acc := .ro }] }

/-- FWD_COMMIT (R202). -/
def rowFWD_COMMIT : RegRow :=
  { name := "FWD_COMMIT", base := 0x01800028, dom := .fixed 8,
    fields := [{ fld := .fwd_commit_slot_mask, lo := 0, w := 64, acc := .wo }] }

/-- FWD_LEARN (R203). -/
def rowFWD_LEARN : RegRow :=
  { name := "FWD_LEARN", base := 0x01810000, dims := [(512, 0x8)], dom := .fixed 8,
    fields := [{ fld := .fwd_learn_learn_blocked, lo := 49, w := 1, acc := .ro, live := true },
      { fld := .fwd_learn_over_limit, lo := 48, w := 1, acc := .ro, live := true },
      { fld := .fwd_learn_count, lo := 32, w := 16, acc := .ro, live := true },
      { fld := .fwd_learn_excess_mode, lo := 16, w := 1, acc := .rw },
      { fld := .fwd_learn_limit, lo := 0, w := 16, acc := .rw }] }

/-- FWD_LOCK_REQ (R204). -/
def rowFWD_LOCK_REQ : RegRow :=
  { name := "FWD_LOCK_REQ", base := 0x01820000, dims := [(64, 0x100)], dom := .fixed 8,
    fields := [{ fld := .fwd_lock_req_cmd, lo := 62, w := 2, acc := .wo },
      { fld := .fwd_lock_req_bucket, lo := 0, w := 19, acc := .wo }] }

/-- FWD_LOCK_STATUS (R204). -/
def rowFWD_LOCK_STATUS : RegRow :=
  { name := "FWD_LOCK_STATUS", base := 0x01820008, dims := [(64, 0x100)], dom := .fixed 8,
    fields := [{ fld := .fwd_lock_status_bucket, lo := 32, w := 19, acc := .ro },
      { fld := .fwd_lock_status_result, lo := 4, w := 4, acc := .ro },
      { fld := .fwd_lock_status_held, lo := 0, w := 1, acc := .ro }] }

/-- FWD_LOCK_STAGE (R204). -/
def rowFWD_LOCK_STAGE : RegRow :=
  { name := "FWD_LOCK_STAGE", base := 0x01820040, dims := [(64, 0x100), (8, 0x8)], dom := .fixed 8,
    fields := [{ fld := .fwd_lock_stage_stage, lo := 0, w := 64, acc := .rw }] }

/-- Registers of the FWD block. -/
def regsFwd : List RegRow :=
  [rowFWD_CTRL, rowFWD_AGE_CTRL, rowFWD_LOCK_CTRL, rowFWD_STATUS, rowFWD_SWEEP, rowFWD_COMMIT, rowFWD_LEARN, rowFWD_LOCK_REQ, rowFWD_LOCK_STATUS, rowFWD_LOCK_STAGE]

/-- MCAST_STAGE (R205). -/
def rowMCAST_STAGE : RegRow :=
  { name := "MCAST_STAGE", base := 0x01C00000, dims := [(16, 0x8)], dom := .fixed 8,
    fields := [{ fld := .mcast_stage_stage, lo := 0, w := 64, acc := .rw }] }

/-- MCAST_CMD (R205). -/
def rowMCAST_CMD : RegRow :=
  { name := "MCAST_CMD", base := 0x01C00080, dom := .fixed 8,
    fields := [{ fld := .mcast_cmd_cmd, lo := 62, w := 2, acc := .wo, valid := [(0, 2)] },
      { fld := .mcast_cmd_group, lo := 0, w := 16, acc := .wo }] }

/-- MCAST_CMD_STATUS (R205). -/
def rowMCAST_CMD_STATUS : RegRow :=
  { name := "MCAST_CMD_STATUS", base := 0x01C00088, dom := .fixed 8,
    fields := [{ fld := .mcast_cmd_status_busy, lo := 20, w := 1, acc := .ro },
      { fld := .mcast_cmd_status_last_group, lo := 4, w := 16, acc := .ro },
      { fld := .mcast_cmd_status_result, lo := 0, w := 4, acc := .ro }] }

/-- MCAST_STATUS (R205). -/
def rowMCAST_STATUS : RegRow :=
  { name := "MCAST_STATUS", base := 0x01C00090, dom := .fixed 8,
    fields := [{ fld := .mcast_status_groups_valid, lo := 0, w := 17, acc := .ro, live := true }] }

/-- Registers of the MCAST block. -/
def regsMcast : List RegRow :=
  [rowMCAST_STAGE, rowMCAST_CMD, rowMCAST_CMD_STATUS, rowMCAST_STATUS]

/-- COLL_ADMIT_0 (R290). -/
def rowCOLL_ADMIT_0 : RegRow :=
  { name := "COLL_ADMIT_0", base := 0x02000000, dom := .fixed 8,
    fields := [{ fld := .coll_admit_0_chunks_reserved, lo := 32, w := 16, acc := .ro, live := true },
      { fld := .coll_admit_0_sram_reserved, lo := 0, w := 27, acc := .ro, live := true }] }

/-- COLL_ADMIT_1 (R290). -/
def rowCOLL_ADMIT_1 : RegRow :=
  { name := "COLL_ADMIT_1", base := 0x02000008, dom := .fixed 8,
    fields := [{ fld := .coll_admit_1_contexts_loaded, lo := 32, w := 15, acc := .ro, live := true },
      { fld := .coll_admit_1_map_reserved_k, lo := 21, w := 11, acc := .ro, live := true },
      { fld := .coll_admit_1_intake_reserved, lo := 0, w := 18, acc := .ro, live := true }] }

/-- COLL_LOAD_ADDR (R290). -/
def rowCOLL_LOAD_ADDR : RegRow :=
  { name := "COLL_LOAD_ADDR", base := 0x02000010, dom := .fixed 8,
    fields := [{ fld := .coll_load_addr_image, lo := 0, w := 64, acc := .rw }] }

/-- COLL_LOAD_CMD (R290). -/
def rowCOLL_LOAD_CMD : RegRow :=
  { name := "COLL_LOAD_CMD", base := 0x02000018, dom := .fixed 8,
    fields := [{ fld := .coll_load_cmd_cmd, lo := 62, w := 2, acc := .wo },
      { fld := .coll_load_cmd_ctx, lo := 0, w := 14, acc := .wo }] }

/-- COLL_LOAD_STATUS (R290). -/
def rowCOLL_LOAD_STATUS : RegRow :=
  { name := "COLL_LOAD_STATUS", base := 0x02000020, dom := .fixed 8,
    fields := [{ fld := .coll_load_status_ctx, lo := 16, w := 14, acc := .ro },
      { fld := .coll_load_status_busy, lo := 8, w := 1, acc := .ro },
      { fld := .coll_load_status_result, lo := 0, w := 5, acc := .ro }] }

/-- COLL_MAP_SEL (R290). -/
def rowCOLL_MAP_SEL : RegRow :=
  { name := "COLL_MAP_SEL", base := 0x02000028, dom := .fixed 8,
    fields := [{ fld := .coll_map_sel_ctx, lo := 0, w := 14, acc := .rw }] }

/-- COLL_UNDELIV (R290). -/
def rowCOLL_UNDELIV : RegRow :=
  { name := "COLL_UNDELIV", base := 0x02000100, dims := [(16, 0x8)], dom := .fixed 8,
    fields := [{ fld := .coll_undeliv_undeliv, lo := 0, w := 64, acc := .ro, live := true }] }

/-- COLL_MISSING (R290). -/
def rowCOLL_MISSING : RegRow :=
  { name := "COLL_MISSING", base := 0x02000180, dims := [(16, 0x8)], dom := .fixed 8,
    fields := [{ fld := .coll_missing_missing, lo := 0, w := 64, acc := .ro, live := true }] }

/-- COLL_CTX_STATE (R291). -/
def rowCOLL_CTX_STATE : RegRow :=
  { name := "COLL_CTX_STATE", base := 0x02400000, dims := [(16384, 0x100)], dom := .fixed 8,
    fields := [{ fld := .coll_ctx_state_armed_steps, lo := 48, w := 16, acc := .ro, live := true },
      { fld := .coll_ctx_state_step, lo := 30, w := 18, acc := .ro, live := true },
      { fld := .coll_ctx_state_last_status, lo := 4, w := 4, acc := .ro, live := true },
      { fld := .coll_ctx_state_state, lo := 0, w := 3, acc := .ro, live := true }] }

/-- COLL_CTX_PROGRESS (R291). -/
def rowCOLL_CTX_PROGRESS : RegRow :=
  { name := "COLL_CTX_PROGRESS", base := 0x02400008, dims := [(16384, 0x100)], dom := .fixed 8,
    fields := [{ fld := .coll_ctx_progress_window_base, lo := 42, w := 21, acc := .ro, live := true },
      { fld := .coll_ctx_progress_chunks_done, lo := 21, w := 21, acc := .ro, live := true },
      { fld := .coll_ctx_progress_chunks_released, lo := 0, w := 21, acc := .ro, live := true }] }

/-- COLL_CTX_HDR (R291). -/
def rowCOLL_CTX_HDR : RegRow :=
  { name := "COLL_CTX_HDR", base := 0x02400020, dims := [(16384, 0x100), (4, 0x8)], dom := .fixed 8,
    fields := [{ fld := .coll_ctx_hdr_hdr, lo := 0, w := 64, acc := .ro, live := true }] }

/-- Registers of the COLL block. -/
def regsColl : List RegRow :=
  [rowCOLL_ADMIT_0, rowCOLL_ADMIT_1, rowCOLL_LOAD_ADDR, rowCOLL_LOAD_CMD, rowCOLL_LOAD_STATUS, rowCOLL_MAP_SEL, rowCOLL_UNDELIV, rowCOLL_MISSING, rowCOLL_CTX_STATE, rowCOLL_CTX_PROGRESS, rowCOLL_CTX_HDR]

/-- CMB_CTRL (R318). -/
def rowCMB_CTRL : RegRow :=
  { name := "CMB_CTRL", base := 0x02800000, dom := .fixed 6,
    fields := [{ fld := .cmb_ctrl_strike_limit, lo := 16, w := 8, acc := .rw },
      { fld := .cmb_ctrl_auto_fence, lo := 8, w := 1, acc := .rw },
      { fld := .cmb_ctrl_shadow_log2n, lo := 0, w := 5, acc := .rw, valid := [(8, 20)] }] }

/-- CMB_STATUS (R319). -/
def rowCMB_STATUS : RegRow :=
  { name := "CMB_STATUS", base := 0x02800008, dom := .fixed 6,
    fields := [{ fld := .cmb_status_over_reserved, lo := 49, w := 1, acc := .ro, live := true },
      { fld := .cmb_status_spares_in_use, lo := 40, w := 8, acc := .ro, live := true },
      { fld := .cmb_status_units_fenced, lo := 32, w := 8, acc := .ro, live := true },
      { fld := .cmb_status_rate_limit_gbps, lo := 0, w := 18, acc := .ro, live := true }] }

/-- CMB_SHADOW_STATS (R320). -/
def rowCMB_SHADOW_STATS : RegRow :=
  { name := "CMB_SHADOW_STATS", base := 0x02800010, dom := .fixed 6,
    fields := [{ fld := .cmb_shadow_stats_runs, lo := 32, w := 32, acc := .ro },
      { fld := .cmb_shadow_stats_deferred, lo := 16, w := 16, acc := .ro },
      { fld := .cmb_shadow_stats_mismatches, lo := 0, w := 16, acc := .ro }] }

/-- CMB_SHADOW_RES (R319). -/
def rowCMB_SHADOW_RES : RegRow :=
  { name := "CMB_SHADOW_RES", base := 0x02800018, dom := .fixed 6,
    fields := [{ fld := .cmb_shadow_res_reserve_used, lo := 0, w := 23, acc := .ro, live := true }] }

/-- CMB_LAST_SIG (R320). -/
def rowCMB_LAST_SIG : RegRow :=
  { name := "CMB_LAST_SIG", base := 0x02800020, dom := .fixed 6,
    fields := [{ fld := .cmb_last_sig_signature, lo := 0, w := 64, acc := .ro }] }

/-- CMB_LAST_LOC (R320). -/
def rowCMB_LAST_LOC : RegRow :=
  { name := "CMB_LAST_LOC", base := 0x02800028, dom := .fixed 6,
    fields := [{ fld := .cmb_last_loc_ctx, lo := 50, w := 14, acc := .ro },
      { fld := .cmb_last_loc_step, lo := 32, w := 18, acc := .ro },
      { fld := .cmb_last_loc_chunk, lo := 12, w := 20, acc := .ro },
      { fld := .cmb_last_loc_kind, lo := 8, w := 4, acc := .ro },
      { fld := .cmb_last_loc_unit, lo := 0, w := 7, acc := .ro }] }

/-- CMB_UNIT_STATUS (R321). -/
def rowCMB_UNIT_STATUS : RegRow :=
  { name := "CMB_UNIT_STATUS", base := 0x02801000, dims := [(128, 0x20)], dom := .fixed 6,
    fields := [{ fld := .cmb_unit_status_strikes, lo := 48, w := 8, acc := .ro },
      { fld := .cmb_unit_status_active_slots, lo := 32, w := 16, acc := .ro, live := true },
      { fld := .cmb_unit_status_retired_lane, lo := 16, w := 5, acc := .ro },
      { fld := .cmb_unit_status_cmd_result, lo := 8, w := 4, acc := .ro },
      { fld := .cmb_unit_status_fenced, lo := 1, w := 1, acc := .ro },
      { fld := .cmb_unit_status_spare_in_use, lo := 0, w := 1, acc := .ro }] }

/-- CMB_UNIT_CMD (R322). -/
def rowCMB_UNIT_CMD : RegRow :=
  { name := "CMB_UNIT_CMD", base := 0x02801008, dims := [(128, 0x20)], dom := .fixed 6,
    fields := [{ fld := .cmb_unit_cmd_lane, lo := 8, w := 5, acc := .wo },
      { fld := .cmb_unit_cmd_cmd, lo := 0, w := 3, acc := .wo, valid := [(0, 5)] }] }

/-- CMB_UNIT_COUNT (R321). -/
def rowCMB_UNIT_COUNT : RegRow :=
  { name := "CMB_UNIT_COUNT", base := 0x02801010, dims := [(128, 0x20)], dom := .fixed 6,
    fields := [{ fld := .cmb_unit_count_mismatches, lo := 48, w := 16, acc := .ro },
      { fld := .cmb_unit_count_recomputes, lo := 32, w := 16, acc := .ro },
      { fld := .cmb_unit_count_chunks_formed, lo := 0, w := 32, acc := .ro }] }

/-- Registers of the CMB block. -/
def regsCmb : List RegRow :=
  [rowCMB_CTRL, rowCMB_STATUS, rowCMB_SHADOW_STATS, rowCMB_SHADOW_RES, rowCMB_LAST_SIG, rowCMB_LAST_LOC, rowCMB_UNIT_STATUS, rowCMB_UNIT_CMD, rowCMB_UNIT_COUNT]

/-- WRA_STATUS (R348). -/
def rowWRA_STATUS : RegRow :=
  { name := "WRA_STATUS", base := 0x02A00000, dom := .fixed 7,
    fields := [{ fld := .wra_status_over_reserved, lo := 16, w := 1, acc := .ro, live := true },
      { fld := .wra_status_spares_in_use, lo := 8, w := 3, acc := .ro, live := true },
      { fld := .wra_status_tiles_fenced, lo := 0, w := 3, acc := .ro, live := true }] }

/-- WRA_RATE (R348). -/
def rowWRA_RATE : RegRow :=
  { name := "WRA_RATE", base := 0x02A00008, dom := .fixed 7,
    fields := [{ fld := .wra_rate_cycle_limit, lo := 32, w := 16, acc := .ro, live := true },
      { fld := .wra_rate_cycle_reserved, lo := 0, w := 16, acc := .ro, live := true }] }

/-- WRA_LAST_REFUSAL (R348). -/
def rowWRA_LAST_REFUSAL : RegRow :=
  { name := "WRA_LAST_REFUSAL", base := 0x02A00010, dom := .fixed 7,
    fields := [{ fld := .wra_last_refusal_source, lo := 62, w := 2, acc := .ro },
      { fld := .wra_last_refusal_number, lo := 32, w := 14, acc := .ro },
      { fld := .wra_last_refusal_code, lo := 0, w := 5, acc := .ro }] }

/-- WRA_LAST_SIG (R348). -/
def rowWRA_LAST_SIG : RegRow :=
  { name := "WRA_LAST_SIG", base := 0x02A00018, dom := .fixed 7,
    fields := [{ fld := .wra_last_sig_signature, lo := 0, w := 64, acc := .ro }] }

/-- WRA_LAST_LOC (R348). -/
def rowWRA_LAST_LOC : RegRow :=
  { name := "WRA_LAST_LOC", base := 0x02A00020, dom := .fixed 7,
    fields := [{ fld := .wra_last_loc_source, lo := 62, w := 2, acc := .ro },
      { fld := .wra_last_loc_number, lo := 48, w := 14, acc := .ro },
      { fld := .wra_last_loc_step, lo := 30, w := 18, acc := .ro },
      { fld := .wra_last_loc_chunk, lo := 10, w := 20, acc := .ro },
      { fld := .wra_last_loc_tile, lo := 8, w := 2, acc := .ro },
      { fld := .wra_last_loc_column, lo := 0, w := 8, acc := .ro }] }

/-- WRA_DESC_ADDR (R349). -/
def rowWRA_DESC_ADDR : RegRow :=
  { name := "WRA_DESC_ADDR", base := 0x02A00040, dom := .fixed 7,
    fields := [{ fld := .wra_desc_addr_image, lo := 0, w := 64, acc := .rw }] }

/-- WRA_DESC_CMD (R349). -/
def rowWRA_DESC_CMD : RegRow :=
  { name := "WRA_DESC_CMD", base := 0x02A00048, dom := .fixed 7,
    fields := [{ fld := .wra_desc_cmd_cmd, lo := 62, w := 2, acc := .wo, valid := [(0, 2)] },
      { fld := .wra_desc_cmd_desc, lo := 0, w := 12, acc := .wo }] }

/-- WRA_DESC_STATUS (R349). -/
def rowWRA_DESC_STATUS : RegRow :=
  { name := "WRA_DESC_STATUS", base := 0x02A00050, dom := .fixed 7,
    fields := [{ fld := .wra_desc_status_desc, lo := 16, w := 12, acc := .ro },
      { fld := .wra_desc_status_busy, lo := 8, w := 1, acc := .ro },
      { fld := .wra_desc_status_result, lo := 0, w := 4, acc := .ro }] }

/-- WRA_TILE_STATUS (R350). -/
def rowWRA_TILE_STATUS : RegRow :=
  { name := "WRA_TILE_STATUS", base := 0x02A01000, dims := [(4, 0x40)], dom := .fixed 7,
    fields := [{ fld := .wra_tile_status_queued_passes, lo := 32, w := 16, acc := .ro, live := true },
      { fld := .wra_tile_status_retired_col, lo := 16, w := 8, acc := .ro },
      { fld := .wra_tile_status_cmd_result, lo := 8, w := 4, acc := .ro },
      { fld := .wra_tile_status_fenced, lo := 1, w := 1, acc := .ro },
      { fld := .wra_tile_status_spare_in_use, lo := 0, w := 1, acc := .ro }] }

/-- WRA_TILE_CMD (R350). -/
def rowWRA_TILE_CMD : RegRow :=
  { name := "WRA_TILE_CMD", base := 0x02A01008, dims := [(4, 0x40)], dom := .fixed 7,
    fields := [{ fld := .wra_tile_cmd_column, lo := 8, w := 7, acc := .wo },
      { fld := .wra_tile_cmd_cmd, lo := 0, w := 3, acc := .wo, valid := [(0, 4)] }] }

/-- WRA_TILE_COUNT (R350). -/
def rowWRA_TILE_COUNT : RegRow :=
  { name := "WRA_TILE_COUNT", base := 0x02A01010, dims := [(4, 0x40)], dom := .fixed 7,
    fields := [{ fld := .wra_tile_count_mismatches, lo := 48, w := 16, acc := .ro },
      { fld := .wra_tile_count_recomputes, lo := 32, w := 16, acc := .ro },
      { fld := .wra_tile_count_passes, lo := 0, w := 32, acc := .ro }] }

/-- WRA_DESC_STATE (R349). -/
def rowWRA_DESC_STATE : RegRow :=
  { name := "WRA_DESC_STATE", base := 0x02A10000, dims := [(4096, 0x8)], dom := .fixed 7, holes := [(0, 0)],
    fields := [{ fld := .wra_desc_state_hold_count, lo := 32, w := 16, acc := .ro, live := true },
      { fld := .wra_desc_state_inflight, lo := 16, w := 13, acc := .ro, live := true },
      { fld := .wra_desc_state_kind, lo := 12, w := 4, acc := .ro, live := true },
      { fld := .wra_desc_state_state, lo := 0, w := 3, acc := .ro, live := true }] }

/-- Registers of the WRA block. -/
def regsWra : List RegRow :=
  [rowWRA_STATUS, rowWRA_RATE, rowWRA_LAST_REFUSAL, rowWRA_LAST_SIG, rowWRA_LAST_LOC, rowWRA_DESC_ADDR, rowWRA_DESC_CMD, rowWRA_DESC_STATUS, rowWRA_TILE_STATUS, rowWRA_TILE_CMD, rowWRA_TILE_COUNT, rowWRA_DESC_STATE]

/-- FMEM_CTRL (R393). -/
def rowFMEM_CTRL : RegRow :=
  { name := "FMEM_CTRL", base := 0x02C00000, dom := .fixed 8,
    fields := [{ fld := .fmem_ctrl_resync_gbps, lo := 32, w := 16, acc := .rw, valid := [(1, 1000)] },
      { fld := .fmem_ctrl_mirror_timeout_us, lo := 16, w := 16, acc := .rw, valid := [(10, 65535)] },
      { fld := .fmem_ctrl_keepalive_us, lo := 0, w := 16, acc := .rw, valid := [(1, 16383)] }] }

/-- FMEM_STATUS (R393). -/
def rowFMEM_STATUS : RegRow :=
  { name := "FMEM_STATUS", base := 0x02C00008, dom := .fixed 8,
    fields := [{ fld := .fmem_status_inflight, lo := 32, w := 17, acc := .ro, live := true },
      { fld := .fmem_status_frames_mapped, lo := 16, w := 9, acc := .ro, live := true }] }

/-- FMEM_MAP_CMD (R394). -/
def rowFMEM_MAP_CMD : RegRow :=
  { name := "FMEM_MAP_CMD", base := 0x02C00010, dom := .fixed 8,
    fields := [{ fld := .fmem_map_cmd_cmd, lo := 61, w := 3, acc := .wo, valid := [(0, 4)] },
      { fld := .fmem_map_cmd_frame, lo := 0, w := 9, acc := .wo }] }

/-- FMEM_MAP_ARG0 (R394). -/
def rowFMEM_MAP_ARG0 : RegRow :=
  { name := "FMEM_MAP_ARG0", base := 0x02C00018, dom := .fixed 8,
    fields := [{ fld := .fmem_map_arg0_role, lo := 62, w := 2, acc := .rw, valid := [(0, 2)] },
      { fld := .fmem_map_arg0_writable, lo := 61, w := 1, acc := .rw },
      { fld := .fmem_map_arg0_atomics, lo := 60, w := 1, acc := .rw },
      { fld := .fmem_map_arg0_partner, lo := 46, w := 14, acc := .rw },
      { fld := .fmem_map_arg0_window, lo := 16, w := 26, acc := .rw },
      { fld := .fmem_map_arg0_job_tag, lo := 0, w := 16, acc := .rw }] }

/-- FMEM_MAP_ARG1 (R394). -/
def rowFMEM_MAP_ARG1 : RegRow :=
  { name := "FMEM_MAP_ARG1", base := 0x02C00020, dom := .fixed 8,
    fields := [{ fld := .fmem_map_arg1_src_limit, lo := 24, w := 24, acc := .rw },
      { fld := .fmem_map_arg1_src_base, lo := 0, w := 24, acc := .rw }] }

/-- FMEM_MAP_STATUS (R394). -/
def rowFMEM_MAP_STATUS : RegRow :=
  { name := "FMEM_MAP_STATUS", base := 0x02C00028, dom := .fixed 8,
    fields := [{ fld := .fmem_map_status_frame, lo := 8, w := 9, acc := .ro },
      { fld := .fmem_map_status_busy, lo := 7, w := 1, acc := .ro, live := true },
      { fld := .fmem_map_status_result, lo := 0, w := 4, acc := .ro }] }

/-- FMEM_WIN_CFG (R395). -/
def rowFMEM_WIN_CFG : RegRow :=
  { name := "FMEM_WIN_CFG", base := 0x02C10000, dims := [(409, 0x20)], dom := .fixed 8,
    fields := [{ fld := .fmem_win_cfg_role, lo := 62, w := 2, acc := .ro },
      { fld := .fmem_win_cfg_writable, lo := 61, w := 1, acc := .ro },
      { fld := .fmem_win_cfg_atomics, lo := 60, w := 1, acc := .ro },
      { fld := .fmem_win_cfg_partner, lo := 46, w := 14, acc := .ro },
      { fld := .fmem_win_cfg_window, lo := 16, w := 26, acc := .ro },
      { fld := .fmem_win_cfg_job_tag, lo := 0, w := 16, acc := .ro }] }

/-- FMEM_WIN_SRC (R395). -/
def rowFMEM_WIN_SRC : RegRow :=
  { name := "FMEM_WIN_SRC", base := 0x02C10008, dims := [(409, 0x20)], dom := .fixed 8,
    fields := [{ fld := .fmem_win_src_src_limit, lo := 24, w := 24, acc := .ro },
      { fld := .fmem_win_src_src_base, lo := 0, w := 24, acc := .ro }] }

/-- FMEM_WIN_STATE (R395). -/
def rowFMEM_WIN_STATE : RegRow :=
  { name := "FMEM_WIN_STATE", base := 0x02C10010, dims := [(409, 0x20)], dom := .fixed 8,
    fields := [{ fld := .fmem_win_state_inflight, lo := 32, w := 17, acc := .ro, live := true },
      { fld := .fmem_win_state_dirty, lo := 8, w := 19, acc := .ro, live := true },
      { fld := .fmem_win_state_state, lo := 0, w := 3, acc := .ro }] }

/-- Registers of the FMEM block. -/
def regsFmem : List RegRow :=
  [rowFMEM_CTRL, rowFMEM_STATUS, rowFMEM_MAP_CMD, rowFMEM_MAP_ARG0, rowFMEM_MAP_ARG1, rowFMEM_MAP_STATUS, rowFMEM_WIN_CFG, rowFMEM_WIN_SRC, rowFMEM_WIN_STATE]

/-- MEMC_CTRL (R396). -/
def rowMEMC_CTRL : RegRow :=
  { name := "MEMC_CTRL", base := 0x02E00000, dom := .fixed 9,
    fields := [{ fld := .memc_ctrl_scrub_en, lo := 8, w := 1, acc := .rw },
      { fld := .memc_ctrl_scrub_hours, lo := 0, w := 8, acc := .rw }] }

/-- MEMC_CH_OK (R396). -/
def rowMEMC_CH_OK : RegRow :=
  { name := "MEMC_CH_OK", base := 0x02E00008, dom := .fixed 9,
    fields := [{ fld := .memc_ch_ok_ok, lo := 0, w := 64, acc := .ro, live := true }] }

/-- MEMC_SCRUB (R396). -/
def rowMEMC_SCRUB : RegRow :=
  { name := "MEMC_SCRUB", base := 0x02E00010, dom := .fixed 9,
    fields := [{ fld := .memc_scrub_passes, lo := 32, w := 32, acc := .ro },
      { fld := .memc_scrub_progress, lo := 0, w := 16, acc := .ro }] }

/-- MEMC_LAST_UNCORR (R396). -/
def rowMEMC_LAST_UNCORR : RegRow :=
  { name := "MEMC_LAST_UNCORR", base := 0x02E00018, dom := .fixed 9,
    fields := [{ fld := .memc_last_uncorr_channel, lo := 58, w := 6, acc := .ro },
      { fld := .memc_last_uncorr_address, lo := 0, w := 39, acc := .ro }] }

/-- MEMC_CH_STATUS (R396). -/
def rowMEMC_CH_STATUS : RegRow :=
  { name := "MEMC_CH_STATUS", base := 0x02E01000, dims := [(64, 0x20)], dom := .fixed 9,
    fields := [{ fld := .memc_ch_status_mr4_rate, lo := 8, w := 4, acc := .ro },
      { fld := .memc_ch_status_failed, lo := 2, w := 1, acc := .ro },
      { fld := .memc_ch_status_hot, lo := 1, w := 1, acc := .ro },
      { fld := .memc_ch_status_trained, lo := 0, w := 1, acc := .ro }] }

/-- MEMC_CH_ECC (R396). -/
def rowMEMC_CH_ECC : RegRow :=
  { name := "MEMC_CH_ECC", base := 0x02E01008, dims := [(64, 0x20)], dom := .fixed 9,
    fields := [{ fld := .memc_ch_ecc_corrected, lo := 32, w := 32, acc := .ro },
      { fld := .memc_ch_ecc_uncorrectable, lo := 16, w := 16, acc := .ro }] }

/-- Registers of the MEMC block. -/
def regsMemc : List RegRow :=
  [rowMEMC_CTRL, rowMEMC_CH_OK, rowMEMC_SCRUB, rowMEMC_LAST_UNCORR, rowMEMC_CH_STATUS, rowMEMC_CH_ECC]

/-- OPT_ENG_CTRL (R92). -/
def rowOPT_ENG_CTRL : RegRow :=
  { name := "OPT_ENG_CTRL", base := 0x03000000, dims := [(8, 0x80000)], dom := .per 11 1,
    fields := [{ fld := .opt_eng_ctrl_recal_period_ms, lo := 8, w := 8, acc := .rw, valid := [(10, 100)] },
      { fld := .opt_eng_ctrl_rx_low_power_en, lo := 2, w := 1, acc := .rw },
      { fld := .opt_eng_ctrl_ff_enable, lo := 1, w := 1, acc := .rw },
      { fld := .opt_eng_ctrl_lock_enable, lo := 0, w := 1, acc := .rw }] }

/-- OPT_ENG_STATUS (R93). -/
def rowOPT_ENG_STATUS : RegRow :=
  { name := "OPT_ENG_STATUS", base := 0x03000008, dims := [(8, 0x80000)], dom := .per 11 1,
    fields := [{ fld := .opt_eng_status_rings_fault, lo := 32, w := 10, acc := .ro, live := true },
      { fld := .opt_eng_status_rings_locked, lo := 16, w := 10, acc := .ro, live := true },
      { fld := .opt_eng_status_ff_link_ok, lo := 8, w := 1, acc := .ro },
      { fld := .opt_eng_status_octet_done, lo := 0, w := 8, acc := .ro }] }

/-- OPT_ENG_TEMP (R94). -/
def rowOPT_ENG_TEMP : RegRow :=
  { name := "OPT_ENG_TEMP", base := 0x03000010, dims := [(8, 0x80000)], dom := .per 11 1,
    fields := [{ fld := .opt_eng_temp_eic_temp, lo := 16, w := 16, acc := .ro },
      { fld := .opt_eng_temp_pic_temp, lo := 0, w := 16, acc := .ro }] }

/-- OPT_RX_THRESH (R95). -/
def rowOPT_RX_THRESH : RegRow :=
  { name := "OPT_RX_THRESH", base := 0x03000040, dims := [(8, 0x80000)], dom := .per 11 1,
    fields := [{ fld := .opt_rx_thresh_high, lo := 32, w := 16, acc := .rw },
      { fld := .opt_rx_thresh_warn, lo := 16, w := 16, acc := .rw },
      { fld := .opt_rx_thresh_alarm, lo := 0, w := 16, acc := .rw }] }

/-- OPT_INTEG (R96). -/
def rowOPT_INTEG : RegRow :=
  { name := "OPT_INTEG", base := 0x03000048, dims := [(8, 0x80000)], dom := .per 11 1,
    fields := [{ fld := .opt_integ_ident_integ, lo := 4, w := 3, acc := .rw, valid := [(0, 4)] },
      { fld := .opt_integ_power_integ, lo := 0, w := 3, acc := .rw, valid := [(0, 4)] }] }

/-- OPT_FF_COEF (R97). -/
def rowOPT_FF_COEF : RegRow :=
  { name := "OPT_FF_COEF", base := 0x03000100, dims := [(8, 0x80000), (12, 0x8)], dom := .per 11 12,
    fields := [{ fld := .opt_ff_coef_tau_us, lo := 32, w := 16, acc := .rw },
      { fld := .opt_ff_coef_coef, lo := 0, w := 16, acc := .rw }] }

/-- OPT_RING_STATUS (R98). -/
def rowOPT_RING_STATUS : RegRow :=
  { name := "OPT_RING_STATUS", base := 0x03010000, dims := [(8, 0x80000), (64, 0x400), (10, 0x40)], dom := .per 11 640,
    fields := [{ fld := .opt_ring_status_relock_count, lo := 32, w := 16, acc := .ro },
      { fld := .opt_ring_status_fault_cause, lo := 24, w := 4, acc := .ro },
      { fld := .opt_ring_status_seen_slot, lo := 20, w := 3, acc := .ro },
      { fld := .opt_ring_status_state, lo := 0, w := 3, acc := .ro }] }

/-- OPT_RING_HEATER (R99). -/
def rowOPT_RING_HEATER : RegRow :=
  { name := "OPT_RING_HEATER", base := 0x03010008, dims := [(8, 0x80000), (64, 0x400), (10, 0x40)], dom := .per 11 640,
    fields := [{ fld := .opt_ring_heater_lock_error, lo := 16, w := 16, acc := .ro },
      { fld := .opt_ring_heater_heater_ghz, lo := 0, w := 12, acc := .ro }] }

/-- OPT_RING_CMD (R100). -/
def rowOPT_RING_CMD : RegRow :=
  { name := "OPT_RING_CMD", base := 0x03010010, dims := [(8, 0x80000), (64, 0x400), (10, 0x40)], dom := .per 11 640,
    fields := [{ fld := .opt_ring_cmd_cmd, lo := 0, w := 2, acc := .wo }] }

/-- OPT_LANE_MAP (R101). -/
def rowOPT_LANE_MAP : RegRow :=
  { name := "OPT_LANE_MAP", base := 0x03010300, dims := [(8, 0x80000), (64, 0x400)], dom := .per 11 64,
    fields := [{ fld := .opt_lane_map_rx_spare, lo := 36, w := 3, acc := .ro, live := true },
      { fld := .opt_lane_map_tx_spare, lo := 32, w := 3, acc := .ro, live := true },
      { fld := .opt_lane_map_rx_lane, lo := 16, w := 3, acc := .rw, nsub := 4, stride := 4 },
      { fld := .opt_lane_map_tx_lane, lo := 0, w := 3, acc := .rw, nsub := 4, stride := 4 }] }

/-- OPT_LANE_NEXT (R102). -/
def rowOPT_LANE_NEXT : RegRow :=
  { name := "OPT_LANE_NEXT", base := 0x03010308, dims := [(8, 0x80000), (64, 0x400)], dom := .per 11 64,
    fields := [{ fld := .opt_lane_next_tx_arm, lo := 63, w := 1, acc := .w1s },
      { fld := .opt_lane_next_rx_arm, lo := 62, w := 1, acc := .w1s },
      { fld := .opt_lane_next_rx_lane, lo := 16, w := 3, acc := .rw, nsub := 4, stride := 4 },
      { fld := .opt_lane_next_tx_lane, lo := 0, w := 3, acc := .rw, nsub := 4, stride := 4 }] }

/-- OPT_LANE_SWITCH_CW (R103). -/
def rowOPT_LANE_SWITCH_CW : RegRow :=
  { name := "OPT_LANE_SWITCH_CW", base := 0x03010310, dims := [(8, 0x80000), (64, 0x400)], dom := .per 11 64,
    fields := [{ fld := .opt_lane_switch_cw_rx_switch_cw, lo := 32, w := 32, acc := .rw },
      { fld := .opt_lane_switch_cw_tx_switch_cw, lo := 0, w := 32, acc := .rw }] }

/-- OPT_CW_COUNT (R103). -/
def rowOPT_CW_COUNT : RegRow :=
  { name := "OPT_CW_COUNT", base := 0x03010318, dims := [(8, 0x80000), (64, 0x400)], dom := .per 11 64,
    fields := [{ fld := .opt_cw_count_rx_cw, lo := 32, w := 32, acc := .ro, live := true },
      { fld := .opt_cw_count_tx_cw, lo := 0, w := 32, acc := .ro, live := true }] }

/-- OPT_RX_POWER (R104). -/
def rowOPT_RX_POWER : RegRow :=
  { name := "OPT_RX_POWER", base := 0x03010320, dims := [(8, 0x80000), (64, 0x400)], dom := .per 11 64,
    fields := [{ fld := .opt_rx_power_lane, lo := 0, w := 16, acc := .ro, nsub := 4, stride := 16 }] }

/-- OPT_RX_SPARE (R104). -/
def rowOPT_RX_SPARE : RegRow :=
  { name := "OPT_RX_SPARE", base := 0x03010328, dims := [(8, 0x80000), (64, 0x400)], dom := .per 11 64,
    fields := [{ fld := .opt_rx_spare_spare, lo := 0, w := 16, acc := .ro }] }

/-- OPT_TX_TRIM (R105). -/
def rowOPT_TX_TRIM : RegRow :=
  { name := "OPT_TX_TRIM", base := 0x03010330, dims := [(8, 0x80000), (64, 0x400)], dom := .per 11 64,
    fields := [{ fld := .opt_tx_trim_trim_max, lo := 48, w := 3, acc := .rw, valid := [(0, 6)] },
      { fld := .opt_tx_trim_trim, lo := 0, w := 3, acc := .ro, nsub := 4, stride := 4 }] }

/-- OPT_MARGIN_STATUS (R106). -/
def rowOPT_MARGIN_STATUS : RegRow :=
  { name := "OPT_MARGIN_STATUS", base := 0x03010338, dims := [(8, 0x80000), (64, 0x400)], dom := .per 11 64,
    fields := [{ fld := .opt_margin_status_alarm, lo := 8, w := 4, acc := .w1c },
      { fld := .opt_margin_status_warn, lo := 4, w := 4, acc := .w1c },
      { fld := .opt_margin_status_request_pending, lo := 0, w := 4, acc := .ro }] }

/-- Registers of the OPT block. -/
def regsOpt : List RegRow :=
  [rowOPT_ENG_CTRL, rowOPT_ENG_STATUS, rowOPT_ENG_TEMP, rowOPT_RX_THRESH, rowOPT_INTEG, rowOPT_FF_COEF, rowOPT_RING_STATUS, rowOPT_RING_HEATER, rowOPT_RING_CMD, rowOPT_LANE_MAP, rowOPT_LANE_NEXT, rowOPT_LANE_SWITCH_CW] ++
  [rowOPT_CW_COUNT, rowOPT_RX_POWER, rowOPT_RX_SPARE, rowOPT_TX_TRIM, rowOPT_MARGIN_STATUS]

/-- LAS_ENG_CTRL (R134). -/
def rowLAS_ENG_CTRL : RegRow :=
  { name := "LAS_ENG_CTRL", base := 0x03400000, dims := [(8, 0x40000)], dom := .per 11 1,
    fields := [{ fld := .las_eng_ctrl_auto_spare, lo := 1, w := 1, acc := .rw },
      { fld := .las_eng_ctrl_laser_enable, lo := 0, w := 1, acc := .rw }] }

/-- LAS_ENG_STATUS (R135). -/
def rowLAS_ENG_STATUS : RegRow :=
  { name := "LAS_ENG_STATUS", base := 0x03400008, dims := [(8, 0x40000)], dom := .per 11 1,
    fields := [{ fld := .las_eng_status_seq_running, lo := 8, w := 4, acc := .ro, live := true },
      { fld := .las_eng_status_octet_lit, lo := 0, w := 8, acc := .ro, live := true }] }

/-- LAS_OCT_CMD (R136). -/
def rowLAS_OCT_CMD : RegRow :=
  { name := "LAS_OCT_CMD", base := 0x03400800, dims := [(8, 0x40000), (8, 0x80)], dom := .per 11 8,
    fields := [{ fld := .las_oct_cmd_slot, lo := 4, w := 3, acc := .wo, valid := [(0, 4)] },
      { fld := .las_oct_cmd_cmd, lo := 0, w := 2, acc := .wo }] }

/-- LAS_OCT_STATUS (R137). -/
def rowLAS_OCT_STATUS : RegRow :=
  { name := "LAS_OCT_STATUS", base := 0x03400808, dims := [(8, 0x40000), (8, 0x80)], dom := .per 11 8,
    fields := [{ fld := .las_oct_status_fenced, lo := 56, w := 8, acc := .ro },
      { fld := .las_oct_status_participants, lo := 48, w := 8, acc := .ro },
      { fld := .las_oct_status_parked, lo := 40, w := 5, acc := .ro },
      { fld := .las_oct_status_standby_active, lo := 32, w := 5, acc := .ro },
      { fld := .las_oct_status_outcome, lo := 12, w := 3, acc := .ro },
      { fld := .las_oct_status_slot, lo := 8, w := 3, acc := .ro },
      { fld := .las_oct_status_phase, lo := 0, w := 4, acc := .ro }] }

/-- LAS_OCT_SEQ_TIME (R138). -/
def rowLAS_OCT_SEQ_TIME : RegRow :=
  { name := "LAS_OCT_SEQ_TIME", base := 0x03400810, dims := [(8, 0x40000), (8, 0x80)], dom := .per 11 8,
    fields := [{ fld := .las_oct_seq_time_seq_start, lo := 0, w := 64, acc := .ro }] }

/-- LAS_DFB_STATUS (R139). -/
def rowLAS_DFB_STATUS : RegRow :=
  { name := "LAS_DFB_STATUS", base := 0x03401000, dims := [(8, 0x40000), (80, 0x40)], dom := .per 11 80,
    fields := [{ fld := .las_dfb_status_power, lo := 32, w := 16, acc := .ro },
      { fld := .las_dfb_status_bias, lo := 16, w := 12, acc := .ro },
      { fld := .las_dfb_status_active, lo := 3, w := 1, acc := .ro, live := true },
      { fld := .las_dfb_status_state, lo := 0, w := 3, acc := .ro }] }

/-- LAS_DFB_WEAR (R140). -/
def rowLAS_DFB_WEAR : RegRow :=
  { name := "LAS_DFB_WEAR", base := 0x03401008, dims := [(8, 0x40000), (80, 0x40)], dom := .per 11 80,
    fields := [{ fld := .las_dfb_wear_eq_hours, lo := 32, w := 32, acc := .ro },
      { fld := .las_dfb_wear_lit_minutes, lo := 0, w := 32, acc := .ro }] }

/-- LAS_DFB_TREND (R140). -/
def rowLAS_DFB_TREND : RegRow :=
  { name := "LAS_DFB_TREND", base := 0x03401010, dims := [(8, 0x40000), (80, 0x40)], dom := .per 11 80,
    fields := [{ fld := .las_dfb_trend_peak_bias, lo := 16, w := 12, acc := .ro },
      { fld := .las_dfb_trend_bias_slope, lo := 0, w := 16, acc := .ro }] }

/-- Registers of the LAS block. -/
def regsLas : List RegRow :=
  [rowLAS_ENG_CTRL, rowLAS_ENG_STATUS, rowLAS_OCT_CMD, rowLAS_OCT_STATUS, rowLAS_OCT_SEQ_TIME, rowLAS_DFB_STATUS, rowLAS_DFB_WEAR, rowLAS_DFB_TREND]

/-- XPR_CTRL (R141). -/
def rowXPR_CTRL : RegRow :=
  { name := "XPR_CTRL", base := 0x03600000, dom := .fixed 19,
    fields := [{ fld := .xpr_ctrl_wt_integ, lo := 0, w := 3, acc := .rw, valid := [(0, 4)] }] }

/-- XPR_STATUS (R141). -/
def rowXPR_STATUS : RegRow :=
  { name := "XPR_STATUS", base := 0x03600008, dom := .fixed 19,
    fields := [{ fld := .xpr_status_eng_adds, lo := 8, w := 4, acc := .ro, nsub := 8, stride := 4, live := true },
      { fld := .xpr_status_active, lo := 0, w := 7, acc := .ro, live := true }] }

/-- XPR_SEG_USE (R141). -/
def rowXPR_SEG_USE : RegRow :=
  { name := "XPR_SEG_USE", base := 0x03600100, dims := [(8, 0x8)], dom := .fixed 19,
    fields := [{ fld := .xpr_seg_use_per_slot, lo := 0, w := 3, acc := .ro, nsub := 5, stride := 3, live := true }] }

/-- XPR_CIRC_CFG (R142). -/
def rowXPR_CIRC_CFG : RegRow :=
  { name := "XPR_CIRC_CFG", base := 0x03601000, dims := [(64, 0x40)], dom := .fixed 19,
    fields := [{ fld := .xpr_circ_cfg_add_port, lo := 48, w := 9, acc := .rw },
      { fld := .xpr_circ_cfg_slot, lo := 44, w := 3, acc := .rw, valid := [(0, 4)] },
      { fld := .xpr_circ_cfg_n_drop, lo := 40, w := 3, acc := .rw },
      { fld := .xpr_circ_cfg_drop, lo := 0, w := 9, acc := .rw, nsub := 4, stride := 9 }] }

/-- XPR_CIRC_WEIGHT (R142). -/
def rowXPR_CIRC_WEIGHT : RegRow :=
  { name := "XPR_CIRC_WEIGHT", base := 0x03601008, dims := [(64, 0x40)], dom := .fixed 19,
    fields := [{ fld := .xpr_circ_weight_w, lo := 0, w := 11, acc := .rw, nsub := 4, stride := 11 }] }

/-- XPR_CIRC_ACT_TIME (R142). -/
def rowXPR_CIRC_ACT_TIME : RegRow :=
  { name := "XPR_CIRC_ACT_TIME", base := 0x03601010, dims := [(64, 0x40)], dom := .fixed 19,
    fields := [{ fld := .xpr_circ_act_time_act_time, lo := 0, w := 64, acc := .rw }] }

/-- XPR_CIRC_CMD (R142). -/
def rowXPR_CIRC_CMD : RegRow :=
  { name := "XPR_CIRC_CMD", base := 0x03601018, dims := [(64, 0x40)], dom := .fixed 19,
    fields := [{ fld := .xpr_circ_cmd_cmd, lo := 0, w := 2, acc := .wo }] }

/-- XPR_CIRC_STATUS (R142). -/
def rowXPR_CIRC_STATUS : RegRow :=
  { name := "XPR_CIRC_STATUS", base := 0x03601020, dims := [(64, 0x40)], dom := .fixed 19,
    fields := [{ fld := .xpr_circ_status_input_oma, lo := 48, w := 16, acc := .ro },
      { fld := .xpr_circ_status_waveguide, lo := 32, w := 2, acc := .ro },
      { fld := .xpr_circ_status_segments, lo := 24, w := 8, acc := .ro },
      { fld := .xpr_circ_status_act_late, lo := 17, w := 1, acc := .w1c },
      { fld := .xpr_circ_status_input_lost, lo := 16, w := 1, acc := .ro },
      { fld := .xpr_circ_status_last_cause, lo := 12, w := 4, acc := .ro },
      { fld := .xpr_circ_status_status, lo := 8, w := 4, acc := .ro },
      { fld := .xpr_circ_status_state, lo := 0, w := 3, acc := .ro }] }

/-- Registers of the XPR block. -/
def regsXpr : List RegRow :=
  [rowXPR_CTRL, rowXPR_STATUS, rowXPR_SEG_USE, rowXPR_CIRC_CFG, rowXPR_CIRC_WEIGHT, rowXPR_CIRC_ACT_TIME, rowXPR_CIRC_CMD, rowXPR_CIRC_STATUS]

/-- KCL_STATUS (R557). -/
def rowKCL_STATUS : RegRow :=
  { name := "KCL_STATUS", base := 0x03800000, dom := .fixed 10,
    fields := [{ fld := .kcl_status_retrain_count, lo := 32, w := 32, acc := .ro },
      { fld := .kcl_status_lanes_ok, lo := 4, w := 8, acc := .ro },
      { fld := .kcl_status_width, lo := 0, w := 4, acc := .ro }] }

/-- KCL_CTRL (R557). -/
def rowKCL_CTRL : RegRow :=
  { name := "KCL_CTRL", base := 0x03800008, dom := .fixed 10,
    fields := [{ fld := .kcl_ctrl_retrain, lo := 16, w := 1, acc := .w1s },
      { fld := .kcl_ctrl_read_timeout_us, lo := 0, w := 16, acc := .rw }] }

/-- KCL_WATCH (R557). -/
def rowKCL_WATCH : RegRow :=
  { name := "KCL_WATCH", base := 0x03800010, dom := .fixed 10,
    fields := [{ fld := .kcl_watch_lines_watched, lo := 16, w := 11, acc := .ro, live := true },
      { fld := .kcl_watch_reads_outstanding, lo := 0, w := 9, acc := .ro, live := true }] }

/-- KCL_SVC_CFG (R557). -/
def rowKCL_SVC_CFG : RegRow :=
  { name := "KCL_SVC_CFG", base := 0x03810000, dims := [(2, 0x1000)], dom := .fixed 10,
    fields := [{ fld := .kcl_svc_cfg_fab_ethertype, lo := 48, w := 16, acc := .rw },
      { fld := .kcl_svc_cfg_pfc_headroom, lo := 32, w := 16, acc := .rw },
      { fld := .kcl_svc_cfg_pfc_en, lo := 24, w := 8, acc := .rw },
      { fld := .kcl_svc_cfg_bind_port, lo := 4, w := 9, acc := .rw },
      { fld := .kcl_svc_cfg_pass_en, lo := 3, w := 1, acc := .rw },
      { fld := .kcl_svc_cfg_vid_check, lo := 2, w := 1, acc := .rw },
      { fld := .kcl_svc_cfg_tag_en, lo := 1, w := 1, acc := .rw },
      { fld := .kcl_svc_cfg_bind_en, lo := 0, w := 1, acc := .rw }] }

/-- KCL_SVC_MAC (R557). -/
def rowKCL_SVC_MAC : RegRow :=
  { name := "KCL_SVC_MAC", base := 0x03810008, dims := [(2, 0x1000)], dom := .fixed 10,
    fields := [{ fld := .kcl_svc_mac_own_mac, lo := 0, w := 48, acc := .rw }] }

/-- KCL_SVC_PEER (R557). -/
def rowKCL_SVC_PEER : RegRow :=
  { name := "KCL_SVC_PEER", base := 0x03810010, dims := [(2, 0x1000)], dom := .fixed 10,
    fields := [{ fld := .kcl_svc_peer_peer_mac, lo := 0, w := 48, acc := .rw }] }

/-- KCL_SVC_VLAN (R557). -/
def rowKCL_SVC_VLAN : RegRow :=
  { name := "KCL_SVC_VLAN", base := 0x03810018, dims := [(2, 0x1000)], dom := .fixed 10,
    fields := [{ fld := .kcl_svc_vlan_pcp, lo := 40, w := 3, acc := .rw, nsub := 8, stride := 3 },
      { fld := .kcl_svc_vlan_rx_vid, lo := 16, w := 12, acc := .rw },
      { fld := .kcl_svc_vlan_tx_vid, lo := 0, w := 12, acc := .rw }] }

/-- KCL_SVC_STATUS (R557). -/
def rowKCL_SVC_STATUS : RegRow :=
  { name := "KCL_SVC_STATUS", base := 0x03810020, dims := [(2, 0x1000)], dom := .fixed 10,
    fields := [{ fld := .kcl_svc_status_paused, lo := 8, w := 8, acc := .ro },
      { fld := .kcl_svc_status_module_present, lo := 2, w := 1, acc := .ro },
      { fld := .kcl_svc_status_fec_lock, lo := 1, w := 1, acc := .ro },
      { fld := .kcl_svc_status_block_lock, lo := 0, w := 1, acc := .ro }] }

/-- KCL_SVC_STATS (R557). -/
def rowKCL_SVC_STATS : RegRow :=
  { name := "KCL_SVC_STATS", base := 0x03810028, dims := [(2, 0x1000)], dom := .fixed 10,
    fields := [{ fld := .kcl_svc_stats_rx_bad, lo := 48, w := 16, acc := .ro },
      { fld := .kcl_svc_stats_nonfabric, lo := 32, w := 16, acc := .ro },
      { fld := .kcl_svc_stats_pt_drop, lo := 16, w := 16, acc := .ro },
      { fld := .kcl_svc_stats_pfc_tx, lo := 0, w := 16, acc := .ro }] }

/-- Registers of the KCL block. -/
def regsKcl : List RegRow :=
  [rowKCL_STATUS, rowKCL_CTRL, rowKCL_WATCH, rowKCL_SVC_CFG, rowKCL_SVC_MAC, rowKCL_SVC_PEER, rowKCL_SVC_VLAN, rowKCL_SVC_STATUS, rowKCL_SVC_STATS]

/-- Every register of the control space. -/
def regTable : List RegRow :=
  regsSys ++ regsSec ++ regsTime ++ regsPerf ++ regsRas ++ regsCsq ++ regsDma ++ regsPort ++ regsXbar ++ regsSched ++ regsFwd ++ regsMcast ++ regsColl ++ regsCmb ++ regsWra ++ regsFmem ++ regsMemc ++ regsOpt ++ regsLas ++ regsXpr ++ regsKcl

/-- Internal scalars with their domain rules, part 1. -/
def hiddenTable1 : List (Fld × DomRule) :=
  [(Fld.h_local, DomRule.fixed 0),
   (Fld.h_d2d_replays, DomRule.fixed 0),
   (Fld.h_admit_sent, DomRule.per 2 128),
   (Fld.h_admit_rcvd, DomRule.per 2 128),
   (Fld.h_id_known, DomRule.per 2 128),
   (Fld.h_id_fresh, DomRule.per 2 128),
   (Fld.h_rev_known, DomRule.per 2 128),
   (Fld.h_partner_mask, DomRule.per 2 128),
   (Fld.h_credit_rcvd, DomRule.per 2 128),
   (Fld.h_credit_sent, DomRule.per 2 128),
   (Fld.h_freed, DomRule.per 2 1024),
   (Fld.h_unreported, DomRule.per 2 1024),
   (Fld.h_withheld, DomRule.per 2 1024),
   (Fld.h_hunting, DomRule.per 2 128),
   (Fld.h_lc_us, DomRule.per 2 128),
   (Fld.h_lc_count, DomRule.per 2 128),
   (Fld.h_fec_degraded, DomRule.per 2 128),
   (Fld.h_admitted_once, DomRule.per 2 128),
   (Fld.h_fenced_other, DomRule.per 2 128),
   (Fld.h_cw_run, DomRule.per 11 64)]

/-- Internal scalars with their domain rules, part 2. -/
def hiddenTable2 : List (Fld × DomRule) :=
  [(Fld.h_rxcw_run, DomRule.per 11 64),
   (Fld.h_txcw_t0, DomRule.per 11 64),
   (Fld.h_rxcw_t0, DomRule.per 11 64),
   (Fld.h_swap_watch, DomRule.per 2 128),
   (Fld.h_cycle_t0, DomRule.perf 1),
   (Fld.h_dma_next, DomRule.fixed 1),
   (Fld.h_snap_last, DomRule.fixed 1),
   (Fld.h_win_rx_bytes, DomRule.per 2 128),
   (Fld.h_win_tx_bytes, DomRule.per 2 128),
   (Fld.h_win_retired, DomRule.per 2 128),
   (Fld.h_win_wasted, DomRule.per 2 128),
   (Fld.h_win_front, DomRule.per 2 128),
   (Fld.h_win_back, DomRule.per 2 128),
   (Fld.h_win_sat, DomRule.per 2 128),
   (Fld.h_win_partial, DomRule.per 2 128),
   (Fld.h_slot_half, DomRule.per 2 128),
   (Fld.h_ring_head, DomRule.fixed 0),
   (Fld.h_ras_lost_due, DomRule.fixed 0),
   (Fld.h_keep_full, DomRule.fixed 0),
   (Fld.h_ring_nodip, DomRule.per 11 640)]

/-- Internal scalars with their domain rules, part 3. -/
def hiddenTable3 : List (Fld × DomRule) :=
  [(Fld.h_ring_acqto, DomRule.per 11 640),
   (Fld.h_ring_ever, DomRule.per 11 640),
   (Fld.h_ring_rail, DomRule.per 11 640),
   (Fld.h_ring_near, DomRule.per 11 640),
   (Fld.h_ring_resweep, DomRule.per 11 640),
   (Fld.h_ring_target, DomRule.per 11 640),
   (Fld.h_ff_p, DomRule.per 11 12),
   (Fld.h_ff_prev, DomRule.per 11 1),
   (Fld.h_ff_last, DomRule.per 11 1),
   (Fld.h_low_ep, DomRule.per 11 64),
   (Fld.h_alarm_ep, DomRule.per 11 64),
   (Fld.h_pwr_dir, DomRule.per 11 64),
   (Fld.h_pwr_blk_up, DomRule.per 11 64),
   (Fld.h_pwr_blk_dn, DomRule.per 11 64),
   (Fld.h_far_trim, DomRule.per 11 256),
   (Fld.h_pwr_rx, DomRule.per 11 256),
   (Fld.h_pwr_rx_v, DomRule.per 11 256),
   (Fld.h_oct_lit, DomRule.per 11 8),
   (Fld.h_seq_kind, DomRule.per 11 8),
   (Fld.h_seq_no, DomRule.per 11 8)]

/-- Internal scalars with their domain rules, part 4. -/
def hiddenTable4 : List (Fld × DomRule) :=
  [(Fld.h_seq_resumed, DomRule.per 11 8),
   (Fld.h_seq_armed, DomRule.per 11 8),
   (Fld.h_sq_wait, DomRule.per 11 64),
   (Fld.h_sq_try, DomRule.per 11 64),
   (Fld.h_sq_c, DomRule.per 11 64),
   (Fld.h_sq_home, DomRule.per 11 64),
   (Fld.h_sq_out, DomRule.per 11 64),
   (Fld.h_sq_back, DomRule.per 11 64),
   (Fld.h_peer_seq, DomRule.per 11 64),
   (Fld.h_peer_slot, DomRule.per 11 64),
   (Fld.h_peer_back, DomRule.per 11 64),
   (Fld.h_peer_no, DomRule.per 11 64),
   (Fld.h_dfb_warned, DomRule.per 11 80),
   (Fld.h_dfb_maxed, DomRule.per 11 80),
   (Fld.h_eq_num, DomRule.per 11 80),
   (Fld.p_lit_minutes, DomRule.fixed 99),
   (Fld.p_eq_hours, DomRule.fixed 99),
   (Fld.p_eq_num, DomRule.fixed 99),
   (Fld.p_peak_bias, DomRule.fixed 99),
   (Fld.p_bias_slope, DomRule.fixed 99)]

/-- Internal scalars with their domain rules, part 5. -/
def hiddenTable5 : List (Fld × DomRule) :=
  [(Fld.p_standby_active, DomRule.fixed 99),
   (Fld.p_parked, DomRule.fixed 99),
   (Fld.h_xpr_decl, DomRule.fixed 19),
   (Fld.h_xpr_rew, DomRule.fixed 19),
   (Fld.h_xpr_lost_ep, DomRule.fixed 19),
   (Fld.h_cpl_state, DomRule.fixed 19),
   (Fld.h_cpl_ghz, DomRule.fixed 19),
   (Fld.h_wtr_state, DomRule.fixed 19),
   (Fld.h_wtr_ghz, DomRule.fixed 19),
   (Fld.h_xpr_ready_ns, DomRule.fixed 19),
   (Fld.h_cold_hold, DomRule.fixed 0),
   (Fld.h_peer_dark, DomRule.per 11 64),
   (Fld.h_lock_us, DomRule.fixed 8),
   (Fld.h_sweep_at, DomRule.fixed 8),
   (Fld.h_full_sec, DomRule.fixed 8),
   (Fld.h_learn_q, DomRule.fixed 8),
   (Fld.h_mc_op, DomRule.fixed 8),
   (Fld.h_mc_group, DomRule.fixed 8),
   (Fld.h_sch_ptr, DomRule.per 2 128),
   (Fld.h_sch_fresh, DomRule.per 2 128)]

/-- Internal scalars with their domain rules, part 6. -/
def hiddenTable6 : List (Fld × DomRule) :=
  [(Fld.h_shp_tok, DomRule.per 2 1024),
   (Fld.h_shp_t, DomRule.per 2 1024),
   (Fld.h_pol_p, DomRule.per 2 1024),
   (Fld.h_pol_c, DomRule.per 2 1024),
   (Fld.h_pol_t, DomRule.per 2 1024),
   (Fld.h_mir_cnt, DomRule.core),
   (Fld.h_gate_cycle, DomRule.per 2 128),
   (Fld.h_gate_n, DomRule.per 2 128),
   (Fld.h_gate_base, DomRule.per 2 128),
   (Fld.h_gate_swap, DomRule.per 2 128),
   (Fld.h_csq_rr, DomRule.fixed 1),
   (Fld.h_cmb_req, DomRule.fixed 6),
   (Fld.h_cmb_strike, DomRule.fixed 6),
   (Fld.h_cmb_verdicts, DomRule.fixed 6),
   (Fld.h_cmb_n, DomRule.fixed 6),
   (Fld.h_wra_req, DomRule.fixed 7),
   (Fld.h_gather_id, DomRule.fixed 0),
   (Fld.h_work_age, DomRule.fixed 0),
   (Fld.h_scrub, DomRule.fixed 9),
   (Fld.h_fm_hold, DomRule.fixed 8)]

/-- Internal scalars with their domain rules, part 7. -/
def hiddenTable7 : List (Fld × DomRule) :=
  [(Fld.h_push_id, DomRule.fixed 8),
   (Fld.h_ring_t, DomRule.fixed 0),
   (Fld.h_dump_t, DomRule.fixed 1),
   (Fld.h_dump_head, DomRule.fixed 1),
   (Fld.h_dump_miss, DomRule.fixed 1),
   (Fld.h_parent_sel, DomRule.fixed 0),
   (Fld.h_gm_hold, DomRule.fixed 0),
   (Fld.h_ever_lock, DomRule.fixed 0),
   (Fld.h_acq_n, DomRule.fixed 0),
   (Fld.h_acq_freq, DomRule.fixed 0),
   (Fld.h_acq_sum, DomRule.fixed 0),
   (Fld.h_lock_n, DomRule.fixed 0),
   (Fld.h_bad_n, DomRule.fixed 0),
   (Fld.h_freq_int, DomRule.fixed 0),
   (Fld.h_treq_seq, DomRule.fixed 0),
   (Fld.h_treq_out, DomRule.fixed 0),
   (Fld.h_treq_t1, DomRule.fixed 0),
   (Fld.h_tp_ok, DomRule.fixed 0),
   (Fld.h_tp_valid, DomRule.fixed 0),
   (Fld.h_tp_state, DomRule.fixed 0)]

/-- Internal scalars with their domain rules, part 8. -/
def hiddenTable8 : List (Fld × DomRule) :=
  [(Fld.h_tp_steps, DomRule.fixed 0),
   (Fld.h_tp_age, DomRule.fixed 0),
   (Fld.h_tp_deg, DomRule.fixed 0),
   (Fld.h_tp_gm, DomRule.fixed 0),
   (Fld.h_treq_sec, DomRule.fixed 0),
   (Fld.h_treq_n, DomRule.fixed 0),
   (Fld.h_frac_stage, DomRule.fixed 0),
   (Fld.h_frac_valid, DomRule.fixed 0),
   (Fld.h_clamp_sec, DomRule.fixed 0),
   (Fld.h_pps_last, DomRule.fixed 0),
   (Fld.h_ref_ext, DomRule.fixed 0),
   (Fld.h_trig_on, DomRule.fixed 0),
   (Fld.h_trig_next, DomRule.fixed 0),
   (Fld.h_cap_last, DomRule.fixed 0),
   (Fld.h_win_end, DomRule.fixed 1),
   (Fld.h_kcl_train, DomRule.fixed 10),
   (Fld.h_kcl_full, DomRule.fixed 10),
   (Fld.h_pfc_xoff, DomRule.fixed 10),
   (Fld.h_porst, DomRule.fixed 0),
   (Fld.h_pd_target, DomRule.fixed 0)]

/-- Internal scalars with their domain rules, part 9. -/
def hiddenTable9 : List (Fld × DomRule) :=
  [(Fld.h_eng_hold, DomRule.fixed 0),
   (Fld.h_shut, DomRule.fixed 0),
   (Fld.h_rail_out, DomRule.fixed 0),
   (Fld.h_refclk, DomRule.fixed 0),
   (Fld.h_avs_mv, DomRule.fixed 0),
   (Fld.h_avs_stop, DomRule.fixed 0),
   (Fld.h_sens, DomRule.fixed 0),
   (Fld.h_sens_warn, DomRule.fixed 0),
   (Fld.h_sens_over, DomRule.fixed 0),
   (Fld.h_trip, DomRule.fixed 0),
   (Fld.h_cold_rom, DomRule.fixed 0),
   (Fld.h_board_test, DomRule.fixed 0),
   (Fld.h_boot_stop, DomRule.fixed 0),
   (Fld.h_boot_slot, DomRule.fixed 0),
   (Fld.h_boot_fail, DomRule.fixed 0),
   (Fld.h_boot_wd, DomRule.fixed 0),
   (Fld.h_run_valid, DomRule.fixed 0),
   (Fld.h_run_ecdsa, DomRule.fixed 0),
   (Fld.h_run_lms, DomRule.fixed 0),
   (Fld.h_load_img, DomRule.fixed 0)]

/-- Internal scalars with their domain rules, part 10. -/
def hiddenTable10 : List (Fld × DomRule) :=
  [(Fld.h_load_keys, DomRule.fixed 0),
   (Fld.h_sec_args, DomRule.fixed 0),
   (Fld.h_tap, DomRule.fixed 0),
   (Fld.p_pref, DomRule.fixed 99),
   (Fld.p_trial, DomRule.fixed 99),
   (Fld.p_tried, DomRule.fixed 99)]

/-- The internal scalars that a power domain holds, with the domain rule of each; 99 is no domain: the persistent store. -/
def hiddenTable : List (Fld × DomRule) :=
  hiddenTable1 ++ hiddenTable2 ++ hiddenTable3 ++ hiddenTable4 ++ hiddenTable5 ++ hiddenTable6 ++ hiddenTable7 ++ hiddenTable8 ++ hiddenTable9 ++ hiddenTable10

end Sys2Proof.Machine
end

