-- ==== Sys2Proof/Machine/SMap.lean ====
section
/-! DEFINITION. Sparse maps in one canonical form: keys strictly rising, no entry equal to what an unlisted key reads as. -/

namespace Sys2Proof.Machine

/-- A finite table by number: only the entries that differ from their default are listed. -/
structure SMap (α : Type) where
  entries : List (Nat × α) := []
  deriving DecidableEq, Repr

/-- What the list holds for key `k`. -/
def lookupKey {α : Type} (k : Nat) : List (Nat × α) → Option α
  | [] => none
  | (j, v) :: r => if j = k then some v else lookupKey k r

/-- The list without key `k`. -/
def eraseKey {α : Type} (k : Nat) : List (Nat × α) → List (Nat × α)
  | [] => []
  | (j, v) :: r => if j = k then eraseKey k r else (j, v) :: eraseKey k r

/-- The list with `(k, v)` put before the first larger key. -/
def insertKey {α : Type} (k : Nat) (v : α) : List (Nat × α) → List (Nat × α)
  | [] => [(k, v)]
  | (j, u) :: r => if k < j then (k, v) :: (j, u) :: r else (j, u) :: insertKey k v r

/-- The value of key `k`, `d` being what an unlisted key reads as. -/
def SMap.get {α : Type} (m : SMap α) (k : Nat) (d : α) : α := (lookupKey k m.entries).getD d

/-- The table with value `v` for key `k`; the value an unlisted key reads as removes the entry. -/
def SMap.set {α : Type} [DecidableEq α] (m : SMap α) (k : Nat) (d v : α) : SMap α :=
  if v = d then ⟨eraseKey k m.entries⟩ else ⟨insertKey k v (eraseKey k m.entries)⟩

/-- The table of the entries whose key satisfies `p`. -/
def SMap.keep {α : Type} (m : SMap α) (p : Nat → Bool) : SMap α :=
  ⟨m.entries.filter (fun e => p e.1)⟩

/-- Keys strictly rising. -/
def keysRising {α : Type} : List (Nat × α) → Bool
  | [] => true
  | [_] => true
  | a :: b :: r => decide (a.1 < b.1) && keysRising (b :: r)

/-- The canonical form: keys strictly rising, and no listed value equal to its default. -/
def SMap.wf {α : Type} [DecidableEq α] (m : SMap α) (d : Nat → α) : Bool :=
  keysRising m.entries && m.entries.all (fun e => decide (e.2 ≠ d e.1))

/-- A table of optional values: an unlisted key holds nothing. -/
def SMap.getOpt {α : Type} (m : SMap (Option α)) (k : Nat) : Option α := m.get k none

end Sys2Proof.Machine
end

