-- ==== Sys2Proof/Machine/State.lean ====
section
/-! DEFINITION. The state of the block as plain data, the reasons a step may stop, and the state after reset. -/

namespace Sys2Proof.Machine

/-- Reasons a step stops with a fault. No command of this block does (errors are records of R504): the type has one
constructor so that the interface has a name to carry. -/
inductive Fault where
  /-- Raised by no command; safe. -/
  | unused
  deriving DecidableEq, Repr

/-- Reasons a command is refused. -/
inductive Refusal where
  /-- The command has no meaning in this model yet; raised only by an arm of `exec`; safe. -/
  | notModelled (mnemonic : String)
  deriving DecidableEq, Repr

/-- An event on its way to the record bank, and a record of the bank (R504). -/
structure Rec where
  code : RecCode
  sev : Nat
  degraded : Bool := false
  restored : Bool := false
  kept : Bool := false
  seq : Nat := 0
  path : Nat
  time : Nat
  job : Nat := 0
  occ : Nat := 1
  d4 : Nat := 0
  d5 : Nat := 0
  d6 : Nat := 0
  d7 : Nat := 0
  deriving DecidableEq, Repr

/-- An open rate-limit interval of a code and path, and what was folded into it (R38, R507). -/
structure RateSlot where
  code : RecCode
  path : Nat
  folded : Nat := 0
  last : Option Rec := none
  deriving DecidableEq, Repr

/-- Where a frame waits to be enqueued (R210). -/
inductive Target where
  /-- A bundle, by its key: 0–511 DOWN and SERVICE bundles, 512 + 4096·axis + target for AXIS. -/
  | bundle (key : Nat)
  /-- An internal output, 512–515. -/
  | internal (out : Nat)
  /-- The input's multicast target, with the ports whose copies are still to be enqueued. -/
  | mcast (left : List Nat)
  deriving DecidableEq, Repr

/-- A frame held in cells (R206, R207, R220). -/
structure Frame where
  id : Nat
  /-- The input the cells are charged to, 0–516. -/
  input : Nat
  hdr : Hdr
  /-- Payload bytes received so far. -/
  payload : List Nat := []
  /-- The last byte has arrived and the CRC-32C was good. -/
  complete : Bool := false
  /-- Copies and queues that still hold the frame. -/
  refs : Nat := 1
  /-- A replicated frame. -/
  mc : Bool := false
  /-- The port a frame arrived on; none for a frame the device originated. -/
  arrival : Option Nat := none
  /-- Sessions that hold a mirror copy of this frame, a bit each (R224). -/
  mirrored : Nat := 0
  /-- Fabric time of its first bit in 2^−8 ns, for a TIME frame that arrived (R402). -/
  stamp : Nat := 0
  /-- A mirror copy of the reception with this number, whose bytes are completed at its last byte (R226). -/
  ofRx : Option Nat := none
  deriving DecidableEq, Repr

/-- An entry of a wait queue (R210); the queues are told apart by input, class and target. -/
structure Wait where
  fid : Nat
  input : Nat
  cls : Nat
  target : Target
  deriving DecidableEq, Repr

/-- An entry of an egress queue (R209). -/
structure EqEntry where
  out : Nat
  cls : Nat
  fid : Nat
  cells : Nat
  /-- The entry of the indirection table that chose the link, for a pinned frame (R51). -/
  pin : Option (Nat × Nat) := none
  /-- cmark set at enqueue (R249). -/
  mark : Bool := false
  deriving DecidableEq, Repr

/-- A frame whose bytes arrive on a port: its number (that of the frame it is held in, if it was accepted), the payload
length its header states. -/
structure Rx where
  rid : Nat
  len : Nat
  deriving DecidableEq, Repr

/-- An entry of the echo table: the key (src_geid and class) and the local time its echo left (R251). -/
structure EchoEntry where
  src : Nat
  cls : Nat
  time : Nat
  deriving DecidableEq, Repr

/-- A frame on its way out of a port (R237, R222). -/
structure Sending where
  fid : Nat
  cls : Nat
  hdr : Hdr
  stomp : Bool := false
  deriving DecidableEq, Repr

/-- An entry of an indirection table: its link, and the earlier links whose queues must empty of its flows first (R50, R51). -/
structure IndEntry where
  link : Nat
  old : List Nat := []
  deriving DecidableEq, Repr

/-- Power requests for a lane (4 × port + lane) ignored as excess in a second of the local counter (R89). -/
structure PwrExcess where
  lane : Nat
  sec : Nat
  count : Nat
  deriving DecidableEq, Repr

/-- What an operation of a queue entry waits for (R458). -/
inductive OpKey where
  | mcWrite (group : Nat) | mcRun (group : Nat) | collLoad (path : Nat) | collUnload (ctx : Nat) | wraLoad (path : Nat) | wraUnload (desc : Nat)
  | stencil (port : Nat) | xprSetup (circ : Nat) | xprTear (circ : Nat) | xprReweight (circ : Nat)
  | memMap (frame : Nat) | memUnmap (frame : Nat) | memResync (frame : Nat) | memPromote (frame : Nat)
  | dmaRun (chan : Nat) | progLoad (handle : Nat) | power (domain : Nat) (on : Bool)
  deriving DecidableEq, Repr

/-- An operation started by an entry: its queue, the entry's number, the starting instruction, its group, and the result
code once it has ended, 0 for success (R456, R458). -/
structure Op where
  queue : Nat
  /-- The number of the entry's run. -/
  entry : Nat
  start : Nat
  group : Nat
  key : OpKey
  res : Option Nat := none
  /-- Its detail: the proof code of a PROG.LOAD refused with PROOF (R469, R471). -/
  detail : Nat := 0
  deriving DecidableEq, Repr

/-- A sequence that waits in QUEUED (R113): kind 0 sparing, 1 parking, 2 the failure of an active DFB (R123, log entry 63). -/
structure SeqReq where
  octet : Nat
  slot : Nat
  kind : Nat
  deriving DecidableEq, Repr

/-- What the device has sent out, as the model keeps it (log entry 5). -/
inductive Emit where
  /-- A link-control frame: port, lc_type, words 1–14 (R152, R153). -/
  | lc (port lcType : Nat) (body : List Nat)
  /-- A fabric frame whose last byte has left: output port, header words, payload, stomped (R146, R151). -/
  | frame (port : Nat) (words : List Nat) (payload : List Nat) (stomped : Bool)
  /-- Data and completion of a companion access: error flag and the value read (R8, R30). -/
  | reply (error : Bool) (value : Nat)
  /-- A write over the KCL: requester code, address, bytes (R543, R586). -/
  | kclWrite (req addr : Nat) (bytes : List Nat)
  /-- A read over the KCL: requester code, address, bytes (R543, R586). -/
  | kclRead (req addr bytes : Nat)
  /-- A level on a pin (chapter 22 and R413); a pulse of so many milliseconds on PPS_OUT (R410). -/
  | pin (name : String) (level : Nat)
  /-- An Ethernet frame on a service port: port and bytes, from the destination address to the FCS (R551). -/
  | eth (svc : Nat) (bytes : List Nat)
  /-- A terminated CTRL frame handed to the in-band control path: arrival port, header words, payload (R147, log entry 11). -/
  | ctrl (port : Option Nat) (words : List Nat) (payload : List Nat)
  /-- A PFC frame: service port, priority, quanta (R554). -/
  | pfc (svc prio quanta : Nat)
  /-- Bytes answered on the management bus, `none` when not acknowledged (R572). -/
  | i2c (bytes : Option (List Nat))
  /-- Bits shifted out of the test port, first bit first (R571). -/
  | tap (bits : List Bool)
  /-- Levels driven on the pins by a test instruction: 2 EXTEST, 3 EXTEST_PULSE, 4 EXTEST_TRAIN (R571). -/
  | boundary (mode : Nat) (levels : List Bool)
  deriving DecidableEq, Repr

/-- What a read over the KCL is for (R586), so that its completion, its error and its timeout reach the requester. -/
inductive KPurpose where
  /-- The line at the head of a queue (R432). -/
  | head (queue : Nat)
  /-- The consumer index of a completion ring (R439). -/
  | crHead (queue : Nat)
  /-- The group entry of an MC.WRITE (R463): the queue, the group. -/
  | mcEntry (queue group : Nat)
  /-- The stencil entry of a PORT.STENCIL (R465). -/
  | stencil (queue port : Nat)
  /-- The image of a context load (R266). -/
  | collImage (path : Nat)
  /-- The image of a descriptor load (R330). -/
  | wraImage (path : Nat)
  /-- The image of a program load (R469). -/
  | progImage (handle : Nat)
  /-- A burst read of a DMA channel (R479). -/
  | dmaBurst (chan burst : Nat)
  /-- The consumer index of the record ring (R510). -/
  | ringHead
  /-- The consumer index of the dump ring (R499). -/
  | dumpHead
  /-- A read of the SEC block (R536, R528). -/
  | sec
  deriving DecidableEq, Repr

/-- A read over the KCL that has no answer yet (R546). -/
structure KRead where
  purpose : KPurpose
  req : Nat
  addr : Nat
  /-- The read goes over the KCL, not to queue SRAM. -/
  ext : Bool := true
  deriving DecidableEq, Repr

/-- An open LOOP of a running program (R461). -/
structure LoopSt where
  first : Nat
  last : Nat
  count : Nat
  iter : Nat
  d : Nat
  deriving DecidableEq, Repr

/-- A WAIT that blocks its entry (R462): mode, token and count, or time; the local time at which it began and its limit. -/
structure WaitSt where
  mode : Nat
  tok : Nat := 0
  n : Nat := 0
  time : Nat := 0
  since : Nat
  limit : Nat
  deriving DecidableEq, Repr

/-- A running entry (R428, R430). -/
structure Entry where
  /-- Number of the run, one for each start. -/
  run : Nat
  index : Nat
  words : List Nat
  tStart : Nat
  pc : Nat := 0
  /-- g0 to g15 (R428). -/
  regs : List Nat := []
  prog : List Nat := []
  budget : Nat := 0
  spent : Nat := 0
  loops : List LoopSt := []
  /-- The entry ran a COLL.LAUNCH (R437). -/
  launched : Bool := false
  wait : Option WaitSt := none
  deriving DecidableEq, Repr

/-- A record that waits for room in its completion ring (R439): kind, token, words 1 to 7. -/
structure CRec where
  kind : Nat
  token : Nat
  words : List Nat
  deriving DecidableEq, Repr

/-- What the registers of a queue do not show (R428 to R449). -/
structure Queue where
  /-- Buffered entries, index and eight words, oldest first (R432). -/
  buf : List (Nat × List Nat) := []
  run : Option Entry := none
  halted : Bool := false
  /-- Local time at which the head began to wait (R436). -/
  began : Nat := 0
  /-- Fallback barrier of the head: 0 none, 1 its step is open, 2 committed, 3 failed (R416). -/
  align : Nat := 0
  /-- Barrier steps of the head that aborted in a row (R416). -/
  tries : Nat := 0
  /-- The committed map that waits for the command boundary, 64 words (R446). -/
  pend : Option (List Nat) := none
  /-- Records written to the ring since it restarted. -/
  crT : Nat := 0
  /-- The consumer's index. -/
  crH : Nat := 0
  held : List CRec := []
  /-- 1 + the local time of the last CSQ_PROTECTION, 0 for none (R445). -/
  protSec : Nat := 0
  deriving DecidableEq, Repr

/-- A program held under a handle (R468 to R470). -/
structure Prog where
  words : List Nat
  budget : Nat
  /-- Sequencers that hold a copy, a bit each. -/
  seqs : Nat
  /-- Queue and map_gen of the last proof (R447). -/
  queue : Nat
  gen : Nat
  deriving DecidableEq, Repr

/-- A program load that runs (R469): the loading queue, its sequencer, the image address, seq_mask. -/
structure ProgLoad where
  queue : Nat
  addr : Nat
  mask : Nat
  deriving DecidableEq, Repr

/-- An open LOOP of a DMA program (R475), with its strides. -/
structure DmaLoop where
  first : Nat
  last : Nat
  count : Nat
  iter : Nat := 0
  src : Int
  dst : Int
  deriving DecidableEq, Repr

/-- A MOVE that runs (R474, R478, R480): resolved addresses, spaces, shuffle; the next burst to issue, and the bursts
issued that are not complete: 0 waits for its read, 1 for its write, 2 was answered without being complete. -/
structure DmaMove where
  src : Nat
  dst : Nat
  len : Nat
  shuf : Nat
  inv : Bool
  srcSp : Nat
  dstSp : Nat
  par : Nat
  next : Nat := 0
  bursts : List (Nat × Nat) := []
  deriving DecidableEq, Repr

/-- Why a channel halts (R482): cause, address, space, direction, fabric-memory status. -/
structure DmaFault where
  cause : Nat
  addr : Nat
  space : Nat
  dir : Nat
  status : Nat := 0
  deriving DecidableEq, Repr

/-- What the registers of a DMA channel do not show (R473 to R484). -/
structure DmaChan where
  prog : Nat := 0
  qsram : Bool := false
  /-- Privilege and map of the program, 64 words (R473). -/
  priv : Nat := 0
  pmap : List Nat := []
  loops : List DmaLoop := []
  move : Option DmaMove := none
  /-- A blocked WAIT: mode 0 TOKEN, 1 EVENT. -/
  wait : Option WaitSt := none
  /-- The pulse a WAIT EVENT waited for has come (R476). -/
  hit : Bool := false
  /-- END was carried out, or the program ran past its end (R481). -/
  ended : Bool := false
  /-- The cause and access of a halt that waits for the outstanding responses, or that stands (R482). -/
  fault : Option DmaFault := none
  deriving DecidableEq, Repr

/-- Passes of a chunk or gather on a tile (R324, R340): its tile, the next k-block by column block, the column block whose
pass runs, and the mismatches so far with their columns (R343). -/
structure Passes where
  tile : Option Nat := none
  cols : List Nat := []
  run : Option Nat := none
  mism : Nat := 0
  failed : List Nat := []
  /-- A pass of it ran with column 128 in use. -/
  spare : Bool := false
  deriving DecidableEq, Repr

/-- A chunk slot (R274). -/
structure Chunk where
  idx : Nat
  /-- Place in the order in which work arrived (R365). -/
  age : Nat := 0
  /-- The combining unit it is bound to; none for BARRIER. -/
  unit : Option Nat := none
  /-- The retired lane of the unit's map that applies to it, 31 for none (R310). -/
  lane : Nat := 31
  /-- Its nodes are formed again (R307, R309). -/
  again : Bool := false
  /-- Inputs held, by map entry. -/
  inputs : List (Nat × List Nat) := []
  /-- Mismatches so far, and the physical lanes that reported them (R307, R308). -/
  mism : Nat := 0
  failed : List Nat := []
  /-- The result or partial that waits to leave, once the verdict has passed. -/
  result : Option (List Nat) := none
  /-- The result was released before its verdict (R277), and its verdict then failed (R279). -/
  early : Bool := false
  retracted : Bool := false
  passes : Passes := {}
  deriving DecidableEq, Repr

/-- The running or last step of a context (R271 to R286). -/
structure Step where
  step : Nat
  /-- Fabric time and local time of its opening. -/
  tOpen : Nat
  t0 : Nat
  base : Nat := 0
  /-- Complete chunks at and above window_base, and chunks with a passed verdict at and above the lowest without one. -/
  complete : List Nat := []
  verBase : Nat := 0
  verified : List Nat := []
  done : Nat := 0
  released : Nat := 0
  retracts : Nat := 0
  retries : Nat := 0
  digest : Nat := 0
  chunks : List Chunk := []
  spare : Bool := false
  /-- Slots marked undelivered, and those counted missing at the step's end, a bit each. -/
  undeliv : Nat := 0
  missing : Nat := 0
  /-- Ports that wrote COLL_UNDELIVERED in this step (R288). -/
  ports : List Nat := []
  live : Bool := true
  /-- COMMIT is decided (R280), or was seen at lookup by an inner device (R283). -/
  decided : Bool := false
  /-- The status it ends with once the copies of its RETRACT have left; 0 for none (R280, R283). -/
  ending : Nat := 0
  restarted : Bool := false
  slow : Bool := false
  /-- Chunks found bad whose fault waits for the end of the step, with their delivering units (R363). -/
  badChunks : List (Nat × Nat) := []
  /-- Every port was fenced by the SCD–MSD link's failure: nothing further happens to the step (R361). -/
  lost : Bool := false
  /-- The chunk the checks gave up or found bad (R367). -/
  fault : Option Nat := none
  tEnd : Nat := 0
  deriving DecidableEq, Repr

/-- What launched a step (R270, R286, R416, R437): the queue, its entry's signal token and whether it signals, a fallback
barrier or not. -/
structure Launch where
  queue : Nat
  token : Nat
  signal : Bool
  barrier : Bool := false
  deriving DecidableEq, Repr

/-- A loaded context (R261, R262, R270). -/
structure Ctx where
  hdr : List Nat
  map : List Nat
  state : Nat := 1
  step : Nat := 0
  armed : Nat := 0
  last : Nat := 0
  /-- What launched each step opened or armed, oldest first. -/
  launches : List Launch := []
  run : Option Step := none
  /-- The queue that holds the record of the last step that ended (R439). -/
  prevQ : Nat := 0
  /-- Local time of the load, from which intake and cycle credit is earned; the credit used, in bits and in thousandths of a
  cycle (R365, R340). -/
  since : Nat := 0
  used : Nat := 0
  cycles : Nat := 0
  deriving DecidableEq, Repr

/-- The reset record's entry of a context with a running step (R524), with what its completion record takes from the header. -/
structure RRStep where
  step : Nat
  queue : Nat
  token : Nat
  job : Nat
  armed : Nat
  tOpen : Nat
  done : Nat
  released : Nat
  chunks : Nat
  inner : Bool
  deriving DecidableEq, Repr

/-- A context or descriptor load that runs on a path (R266, R330): its number and the image address. -/
structure Load where
  num : Nat
  addr : Nat
  /-- Privilege and map of the loading entry (R446); those of FABRIC for the control space. -/
  priv : Nat := 0
  pmap : List Nat := []
  deriving DecidableEq, Repr

/-- A chunk chosen for a shadow check (R311, R312). -/
structure Shadow where
  ctx : Nat
  step : Nat
  chunk : Nat
  job : Nat
  bytes : Nat
  /-- The delivering unit and its retired lane. -/
  unit : Nat
  lane : Nat
  format : Nat
  op : Nat
  /-- Header and map of its context, and its inputs, copied into the reserve. -/
  hdr : List Nat := []
  map : List Nat := []
  inputs : List (Nat × List Nat) := []
  /-- CRC-32C of the delivered result, a value for each lane. -/
  crcs : List Nat := []
  /-- The shadow unit, the third unit and what the first comparison found: the shadow's CRCs, the differing lanes and the two
  signatures. -/
  shadow : Option Nat := none
  third : Option Nat := none
  found : List Nat := []
  diff : Nat := 0
  sigs : Nat × Nat := (0, 0)
  /-- Status and fabric time of the end of the step, once it has ended (R313). -/
  ended : Option (Nat × Nat) := none
  deriving DecidableEq, Repr

/-- A loaded WRA descriptor (R328, R329): its image, state 1 LOADED or 2 DRAINING, its region of combine SRAM (R326, R330). -/
structure Desc where
  words : List Nat
  state : Nat := 1
  region : List Nat := []
  /-- Local time of the load, and the cycle credit used since, in thousandths of a cycle (R340). -/
  since : Nat := 0
  cycles : Nat := 0
  /-- Paths whose unload waits for the last request in flight (R331). -/
  unloads : List Nat := []
  deriving DecidableEq, Repr

/-- A memory operation that holds a slot (R381): its number, request, frame; 0 its access runs, 1 it waits for its
MIRROR_ACK, 2 for the answer of a DEGRADED primary, 3 its response waits for room; an atomic's old word as payload. -/
structure MOp where
  id : Nat
  hdr : Hdr
  payload : List Nat
  frame : Nat
  phase : Nat := 0
  data : List Nat := []
  deriving DecidableEq, Repr

/-- A mirror frame not yet acknowledged (R382, R384): its number and frame, its kind 16 or 19, the operation that waits for
it, the granule it brings up to date, the offset and number of bytes it carries. -/
structure MPush where
  num : Nat
  frame : Nat
  kind : Nat := 16
  op : Option Nat := none
  gran : Option Nat := none
  off : Nat := 0
  len : Nat := 0
  deriving DecidableEq, Repr

/-- A gather in flight (R338, R381): its number, request, descriptor, frame, base address, positions (row address and
weight), and its rows once read; whether its response waits for room. -/
structure Gather where
  id : Nat
  /-- Place in the order in which work arrived (R340). -/
  age : Nat := 0
  hdr : Hdr
  desc : Nat
  frame : Nat
  answered : Bool := false
  positions : List (Nat × Nat)
  rows : Option (List (List Nat)) := none
  passes : Passes := {}
  deriving DecidableEq, Repr

/-- Everything of the block but fabric memory, the fuses and the queue of commands. -/
structure Dev where
  /-- Every register field and internal scalar, by field and index; what is not listed holds its reset value. -/
  flds : SMap (SMap Nat) := {}
  /-- Records raised by the command that runs; empty between commands (R509). -/
  events : List Rec := []
  /-- The record FIFO, oldest first (R509). -/
  fifo : List Rec := []
  /-- Open rate-limit intervals (R38). -/
  limits : List RateSlot := []
  /-- The main ring of the record bank, by index 0–3,839 (R506). -/
  bank : SMap (Option Rec) := {}
  /-- The keep area, oldest first, at most 256 (R506). -/
  keep : List Rec := []
  /-- Ring copies waiting for the KCL, the first one in flight (R510). -/
  ringPend : List Rec := []
  /-- Frames held in cells (R206). -/
  frames : List Frame := []
  /-- Number of the next frame. -/
  nextFid : Nat := 0
  /-- The wait queues, in arrival order (R210). -/
  waits : List Wait := []
  /-- The egress queues, in order (R209). -/
  egress : List EqEntry := []
  /-- Link-control frames (type and body) that wait on a port for the unit boundary, oldest first (R145). -/
  lcWait : SMap (List (Nat × List Nat)) := {}
  /-- The frame each port is sending. -/
  sending : SMap (Option Sending) := {}
  /-- The frame each port is receiving. -/
  receiving : SMap (Option Rx) := {}
  /-- Words of the forwarding table, by 8 × bucket or overflow group + word (R176, R179). -/
  ftab : SMap Nat := {}
  /-- Buckets the sweep skipped because they were locked, in the order of their visits (R190). -/
  swSkipped : List Nat := []
  /-- Words of the multicast groups, by 16 × group + word, hold_count kept apart (R196). -/
  groups : SMap Nat := {}
  /-- The entry a multicast WRITE that runs will install (R198). -/
  mcWords : List Nat := []
  /-- Gate list entries, gate byte × 2^32 + interval, by 512 × port + 256 × list + entry (R240). -/
  gates : SMap Nat := {}
  /-- DWRR deficits, by 8 × port + class (R237). -/
  deficits : SMap Nat := {}
  /-- The echo table, by place (R251). -/
  echoes : SMap (Option EchoEntry) := {}
  /-- Collective frames of the own contexts recognised at lookup by the command that runs (R283); empty between commands. -/
  collSeen : List Hdr := []
  /-- Ports whose frame in reception spans an uncorrectable codeword (R151). -/
  rxSpoilt : SMap Bool := {}
  /-- Copies of collective frames skipped, discarded or stomped by the command that runs, with their port, passed to the
  collective engine (R223); empty between commands. -/
  undeliv : List (Nat × Hdr) := []
  /-- Indirection tables by bundle key: 256 entries, or none while the eligible set is empty (R50). -/
  indir : SMap (List IndEntry) := {}
  /-- Round-robin pointers by 8 × bundle key + class (R49). -/
  rr : SMap Nat := {}
  /-- A REV that came before the ID (R160). -/
  heldRev : SMap (Option RevBody) := {}
  /-- Times of uncorrectable codewords in the last millisecond, by port (R164). -/
  fecTimes : SMap (List Nat) := {}
  /-- Candidate dips of a ring still to be checked, by 10 × port + ring (R74). -/
  dips : SMap (List Nat) := {}
  /-- Local times of the RELOCKs of a ring within the last second (R74). -/
  relocks : SMap (List Nat) := {}
  /-- Sequences that wait in QUEUED, in the order they were requested (R113). -/
  seqQueue : List SeqReq := []
  /-- Power requests ignored in the seconds whose record is still to be written (R89, R90). -/
  pwrExcess : List PwrExcess := []
  /-- Bias of a DFB at each wear record of the last 7 days, newest first (R112). -/
  wearHist : SMap (List Nat) := {}
  /-- Operations started by queue entries, oldest first (R458). -/
  ops : List Op := []
  /-- Reads over the KCL without an answer yet (R546). -/
  reads : List KRead := []
  /-- Reads that wait for one of the 256 places of outstanding reads, with their lengths, the oldest first (R546). -/
  readWaits : List (KRead × Nat) := []
  /-- The command queues, by number (R427). -/
  queues : SMap Queue := {}
  /-- The DMA channels, by number (R473). -/
  dma : SMap DmaChan := {}
  /-- Loaded contexts (R266). -/
  ctxs : SMap (Option Ctx) := {}
  /-- Step entries of the reset record, by context (R524). -/
  rrSteps : SMap (Option RRStep) := {}
  /-- Context loads that run, by path: 0–7 for the sequencers, 8 for the control space (R459). -/
  collLoads : SMap (Option Load) := {}
  /-- Frames of the collective engine that wait for room at input 512 (R217). -/
  collOut : List (Hdr × List Nat) := []
  /-- Chosen chunks in the shadow reserve (R311). -/
  shadows : List Shadow := []
  /-- WRA descriptors (R328). -/
  descs : SMap (Option Desc) := {}
  /-- Descriptor loads that run, by path. -/
  wraLoads : SMap (Option Load) := {}
  /-- Gathers in flight (R338). -/
  gathers : List Gather := []
  /-- Memory operations in flight, oldest first (R381). -/
  fops : List MOp := []
  /-- Mirror frames not yet acknowledged (R382). -/
  fpushes : List MPush := []
  /-- Dirty granules of a frame, as intervals (R383, R384). -/
  fdirty : SMap (List (Nat × Nat)) := {}
  /-- Frames of the memory engine that wait for room at input 513, with the operation a response answers (R217, R381). -/
  fmemOut : List (Hdr × List Nat × Option Nat) := []
  /-- Local times of the uncorrectable words a channel reported in the last second (R390). -/
  chUncorr : SMap (List Nat) := {}
  /-- Captured edges of an input, oldest first: stamp in 0.25 ns, falling (R414). -/
  caps : SMap (List (Nat × Bool)) := {}
  /-- The delays d of the last 1,024 accepted exchanges, newest first, in 2^−9 ns: 0 the parent port, 1 the alternate (R403). -/
  timeDs : SMap (List Int) := {}
  /-- Records of the dump that runs, still to be written, without their phase (R499). -/
  dumpRecs : List (List Nat) := []
  /-- The persistent copy of the keep area (R506). -/
  keepStore : List Rec := []
  /-- Passed frames that wait to leave service port i, oldest first: bytes and fabric time of arrival in 2^−16 ns (R555, R417). -/
  svcFifo : SMap (List (List Nat × Nat)) := {}
  /-- The measurement log of this boot, entry 0 first (R535). -/
  measLog : List (List Nat) := []
  /-- Entries started so far. -/
  runs : Nat := 0
  /-- Programs by handle (R468). -/
  progs : SMap (Option Prog) := {}
  /-- Program loads that run, by handle (R469). -/
  progLoads : SMap (Option ProgLoad) := {}
  /-- What the device has sent, newest first. -/
  sent : List Emit := []
  /-- Draws of free values made so far (log entry 4). -/
  fresh : Nat := 0
  deriving DecidableEq, Repr

/-- The one-time fuses (R532, R533). -/
structure Fuses where
  /-- Fused svn count. -/
  svn : Nat := 0
  /-- Revoked ECDSA key indexes, a bit each. -/
  ecdsaRevoked : Nat := 0
  /-- Revoked LMS key indexes. -/
  lmsRevoked : Nat := 0
  /-- Programmed ECDSA key indexes. -/
  ecdsaKeys : Nat := 0
  /-- Programmed LMS key indexes. -/
  lmsKeys : Nat := 0
  deriving DecidableEq, Repr

/-- The state of the block. -/
structure State where
  dev : Dev := {}
  /-- Fabric memory by usable byte address; a byte not listed reads 0 (R372, log entry 6). -/
  mem : SMap Byte := {}
  fuses : Fuses := {}
  /-- Commands waiting, first in first out. -/
  pending : List Instr := []
  deriving DecidableEq, Repr

/-- The block right after a power reset: every field at its reset value, nothing queued (R520, log entry 3). -/
def State.reset : State := {}

/-- The state whose device part is `f` of the old one. -/
def State.onDev (s : State) (f : Dev → Dev) : State := { s with dev := f s.dev }

end Sys2Proof.Machine
end

