-- ==== Sys2Proof/Machine/Ops.lean ====
section
/-! DEFINITION. The named operations every meaning is built from: register fields, fabric time, hierarchy paths, error
records, event counters, messages out. -/

namespace Sys2Proof.Machine

/-! ### Register fields -/

/-- The value of field `f` with index `i`. -/
def Dev.get (d : Dev) (f : Fld) (i : Nat := 0) : Nat := (d.flds.get f.ctorIdx {}).get i (f.reset i)

/-- The device with field `f`, index `i`, holding `v` (its low bits, as many as the field has). -/
def Dev.set (d : Dev) (f : Fld) (i v : Nat) : Dev :=
  let m := d.flds.get f.ctorIdx {}
  { d with flds := d.flds.set f.ctorIdx {} (m.set i (f.reset i) (v % 2 ^ f.width)) }

/-- Whether a one-bit field is 1. -/
def Dev.flag (d : Dev) (f : Fld) (i : Nat := 0) : Bool := d.get f i != 0

/-- `f` counted up by `n`, modulo its width. -/
def Dev.incr (d : Dev) (f : Fld) (i : Nat) (n : Nat := 1) : Dev := d.set f i (d.get f i + n)

/-- `f` counted up by `n`, sticking at its largest value. -/
def Dev.incrSat (d : Dev) (f : Fld) (i : Nat) (n : Nat := 1) : Dev := d.set f i (satU f.width (d.get f i + n))

/-- Bit `k` of field `f` made `b`. -/
def Dev.putB (d : Dev) (f : Fld) (i k : Nat) (b : Bool) : Dev := d.set f i (putBit (d.get f i) k b)

/-- Bit `k` of field `f`. -/
def Dev.bitOf (d : Dev) (f : Fld) (i k : Nat) : Bool := bit (d.get f i) k

/-- Field `f` back at its reset value for the indexes that satisfy `p`. -/
def Dev.clearIdx (d : Dev) (f : Fld) (p : Nat → Bool) : Dev :=
  let m := d.flds.get f.ctorIdx {}
  { d with flds := d.flds.set f.ctorIdx {} (m.keep (fun i => !p i)) }

/-- Several fields set in order. -/
def Dev.setMany (d : Dev) (l : List (Fld × Nat × Nat)) : Dev := l.foldl (fun d e => d.set e.1 e.2.1 e.2.2) d

/-! ### Power domains -/

/-- Whether power domain `k` is on (R26). While a rail is out of range every domain other than PD0 is held in reset (R563),
which this counts as off. -/
def Dev.domainOn (d : Dev) (k : Nat) : Bool := d.bitOf .sys_pd_status_on 0 k && (k == 0 || d.get .h_rail_out == 0)

/-- The power domain of counter block `b` (R487). -/
def blockDomain (b : Nat) : Nat :=
  if b < 512 then 2 + b / 128 else if b < 520 then 11 + (b - 512) else if b < 536 then 6 else if b < 540 then 7
  else if b < 548 then 1 else if b < 556 then 9 else 1

/-- The domain of copy `i`, where one domain holds it; the device part of R228 has none. -/
def DomRule.domain (r : DomRule) (i : Nat) : Option Nat :=
  match r with
  | .fixed k => some k
  | .per base n => some (base + i / n)
  | .core => none
  | .perf n => some (blockDomain (i / n))

/-- The domain that is off and holds copy `i`, if it is off (R30, R228). -/
def Dev.offDomain (d : Dev) (r : DomRule) (i : Nat) : Option Nat :=
  match r.domain i with
  | some k => if d.domainOn k then none else some k
  | none => if (List.range 4).any (fun q => d.domainOn (2 + q)) then none else some 2

/-- Whether the quadrant of port `n` is on (R26). -/
def Dev.quadOn (d : Dev) (n : Nat) : Bool := d.domainOn (2 + n / 128)

/-! ### Fabric time -/

/-- The local counter, in ns (R397). -/
def Dev.localNs (d : Dev) : Nat := d.get .h_local

/-- The signed rate in 2^−16 ppb (R398). -/
def Dev.rate (d : Dev) : Int := sgn 48 (d.get .time_rate_rate)

/-- Fabric time in units of 2^−32 ns, truncated there, modulo 2^64 ns (R398). -/
def Dev.fabric32 (d : Dev) : Nat :=
  let num : Int := (d.localNs : Int) * (65536000000000 + d.rate) * 2 ^ 32
  let t : Int := num / 65536000000000 + (d.get .time_offset_ns_offset_ns : Int) * 2 ^ 32
    + (d.get .time_offset_frac_offset_frac : Int)
  (t % 2 ^ 96).toNat

/-- Fabric time in whole ns (R398). -/
def Dev.fabricNs (d : Dev) : Nat := d.fabric32 / 2 ^ 32

/-! ### Hierarchy paths (R22 to R25) -/

/-- Hall, plane and device of a path (R22, R24), with the depth. -/
def Dev.pathBase (d : Dev) (depth : Nat) : Nat :=
  d.get .sys_fabric_pos_hall * 2 ^ 56 + d.get .sys_fabric_pos_plane * 2 ^ 52 + d.get .sys_fabric_pos_device * 2 ^ 38
    + depth * 2 ^ 21

/-- A path of depth DEVICE, with a unit locator when `uc` is not 0 (R25). -/
def Dev.pathDevice (d : Dev) (uc : Nat := 0) (ui : Nat := 0) : Nat := d.pathBase 2 + uc * 2 ^ 12 + ui

/-- A path of depth ENGINE, with a laser locator when `uc` is 6 (R25). -/
def Dev.pathEngine (d : Dev) (e : Nat) (uc : Nat := 0) (ui : Nat := 0) : Nat :=
  d.pathBase 3 + e * 2 ^ 35 + uc * 2 ^ 12 + ui

/-- A path of depth PORT; the engine field is port[8:6] (R24). -/
def Dev.pathPort (d : Dev) (n : Nat) : Nat := d.pathBase 4 + n / 64 * 2 ^ 35 + n * 2 ^ 26

/-- A path of depth LANE. -/
def Dev.pathLane (d : Dev) (n l : Nat) : Nat := d.pathBase 5 + n / 64 * 2 ^ 35 + n * 2 ^ 26 + l * 2 ^ 24

/-- Unit classes (R25, R512). -/
def ucCMB_UNIT : Nat := 1
def ucWRA_TILE : Nat := 3
def ucSEQUENCER : Nat := 4
def ucDMA_CHANNEL : Nat := 5
def ucLASER : Nat := 6
def ucLPDDR_CHANNEL : Nat := 7
def ucFMEM_FRAME : Nat := 8
def ucQUEUE : Nat := 10
def ucLOCK_SLOT : Nat := 11
def ucTIME_IO : Nat := 12
def ucBG_ACTIVITY : Nat := 13

/-! ### Error records (R504 to R511) -/

/-- An item of a record's detail, by the width of the field it takes (R505). -/
inductive Item where
  | h (v : Nat)
  | w (v : Nat)
  | d (v : Nat)
  deriving DecidableEq, Repr

/-- The width of an item's field and its value (R505). -/
def Item.parts : Item → Nat × Nat
  | .h v => (16, v % 2 ^ 16)
  | .w v => (32, v % 2 ^ 32)
  | .d v => (64, v % 2 ^ 64)

/-- Items packed from bit 0 upward; one that would cross a word boundary starts at the next word (R505). -/
def packItems (l : List Item) : Nat :=
  (l.foldl (fun (a : Nat × Nat) it =>
    let (w, v) := it.parts
    let pos := if a.1 % 64 + w > 64 then (a.1 / 64 + 1) * 64 else a.1
    (pos + w, a.2 + v * 2 ^ pos)) (0, 0)).2

/-- A record raised by the command that runs, with an explicit severity and detail words (R504). -/
def Dev.raiseRaw (d : Dev) (c : RecCode) (sev path detail job : Nat) : Dev :=
  let r : Rec :=
    { code := c, sev := sev, degraded := d.flag .time_status_degraded, path := path, time := d.fabricNs, job := job,
      d4 := slice detail 0 64, d5 := slice detail 64 64, d6 := slice detail 128 64, d7 := slice detail 192 64 }
  { d with events := d.events ++ [r] }

/-- A record of code `c` at `path` with the listed detail and the severity of R511. -/
def Dev.raise (d : Dev) (c : RecCode) (path : Nat) (items : List Item := []) (job : Nat := 0) : Dev :=
  d.raiseRaw c c.severity path (packItems items) job

/-- As `raise`, with `n` signatures in the last words of the detail (R505). -/
def Dev.raiseSig (d : Dev) (c : RecCode) (path : Nat) (items : List Item) (sigs : List Nat) (job : Nat := 0) : Dev :=
  let sg := (List.range sigs.length).foldl (fun a i => a + sigs.getD i 0 % 2 ^ 64 * 2 ^ (64 * (4 - sigs.length + i))) 0
  d.raiseRaw c c.severity path (packItems items + sg) job

/-- An event offered to the FIFO of 80 entries, 16 of them held for FENCED and higher (R509). -/
def Dev.fifoPush (d : Dev) (r : Rec) : Dev :=
  if d.fifo.length ≥ 80 ∨ (d.fifo.length ≥ 64 ∧ r.sev < 4) then
    let d := d.incrSat .ras_status_lost_count 0
    let d := d.set .ras_status_lost_max_sev 0 (max (d.get .ras_status_lost_max_sev) r.sev)
    d.set .h_ras_lost_due 0 1
  else { d with fifo := d.fifo ++ [r] }

/-- Whether a slot is the one of a code and path. -/
def RateSlot.is (s : RateSlot) (c : RecCode) (p : Nat) : Bool := decide (s.code = c) && s.path == p

/-- One event through the rate limit (R38, R507), then to the FIFO. DESIGN CHOICE (log entry 60): the record written for folded
events has the time and detail of the last of them. -/
def Dev.admitEvent (d : Dev) (r : Rec) : Dev :=
  if r.code.rateLimited then
    if d.limits.any (·.is r.code r.path) then
      { d with limits := d.limits.map (fun s =>
          if s.is r.code r.path then { s with folded := s.folded + 1, last := some r } else s) }
    else
      let slot : RateSlot := { code := r.code, path := r.path }
      let d := { d with limits := d.limits ++ [slot] }
      d.fifoPush r
  else d.fifoPush r

/-- The order of events that arrive in one cycle: path, then code (R509). -/
def Rec.before (a b : Rec) : Bool := a.path < b.path || (a.path == b.path && a.code.num ≤ b.code.num)

/-- The events of the command that ran, sent to the FIFO in the order of R509. -/
def Dev.flush (d : Dev) : Dev :=
  (sortBy Rec.before d.events).foldl Dev.admitEvent { d with events := [] }

/-! ### Event counters (R488 to R494) -/

/-- The attributes an occurrence carries (R491). -/
structure Attr where
  cls : Option Nat := none
  priv : Option Nat := none
  src : Option Nat := none
  deriving DecidableEq, Repr

/-- Whether an occurrence passes the filters of counter `i` of block `b` (R491). -/
def Dev.filterPass (d : Dev) (b i : Nat) (a : Attr) : Bool :=
  (match a.cls with | some c => bit (d.get .perf_evsel_class_mask (8 * b + i)) c | none => true) &&
  (match a.priv with | some p => bit (d.get .perf_evsel_priv_mask (8 * b + i)) p | none => true) &&
  (match a.src with
   | some v => !d.flag .perf_evsel_range_en (8 * b + i) ||
       (decide (d.get .perf_range_lo b ≤ v) && decide (v ≤ d.get .perf_range_hi b))
   | none => true)

/-- An addition to PMC `i` of block `b`, modulo 2^48, with the sticky overflow bit (R493). -/
def Dev.pmcAdd (d : Dev) (b i n : Nat) : Dev :=
  let v := d.get .perf_pmc_count (8 * b + i) + n
  let d := d.set .perf_pmc_count (8 * b + i) v
  if v ≥ 2 ^ 48 then d.putB .perf_blk_status_ovf b i true else d

/-- `n` occurrences of the event with code `e` in block `b` (R488). -/
def Dev.countCode (d : Dev) (b e n : Nat) (a : Attr := {}) : Dev :=
  if d.domainOn (blockDomain b) then
    (List.range 8).foldl (fun d i =>
      if d.get .perf_evsel_event (8 * b + i) = e ∧ d.flag .perf_evsel_enable (8 * b + i) ∧ d.filterPass b i a
      then d.pmcAdd b i n else d) d
  else d

/-- `n` occurrences of event `e` in block `b`. -/
def Dev.count (d : Dev) (b : Nat) (e : Ev) (n : Nat := 1) (a : Attr := {}) : Dev := d.countCode b e.num n a

/-- The indexes of field `f` that hold `v`, where the reset value of `f` is not `v`. -/
def Dev.holding (d : Dev) (f : Fld) (v : Nat) : List Nat :=
  ((d.flds.get f.ctorIdx {}).entries.filter (fun e => e.2 == v)).map (·.1)

/-- Counters that count event `e` add 1 in the blocks that `p` names, while their block is on (R488). -/
def Dev.countBlocks (d : Dev) (e : Nat) (p : Nat → Bool) : Dev :=
  (d.holding .perf_evsel_event e).foldl (fun d j =>
    if d.flag .perf_evsel_enable j && p (j / 8) && d.domainOn (blockDomain (j / 8)) then d.pmcAdd (j / 8) (j % 8) 1 else d) d

/-- Counter blocks (R487). -/
def blkEngine (e : Nat) : Nat := 512 + e
def blkCluster (u : Nat) : Nat := 520 + u / 8
def blkTile (t : Nat) : Nat := 536 + t
def blkSeq (q : Nat) : Nat := 540 + q
def blkLpddr (k : Nat) : Nat := 548 + k / 8
def blkDevice : Nat := 556

/-- Class and source of a frame, as a counter filter sees them (R491). -/
def Hdr.attr (h : Hdr) : Attr := { cls := some h.cls, src := some h.src }

/-- A window counter of port `p` raised by `n`, saturating with bit `k` of sat (R494). -/
def Dev.winAdd (d : Dev) (f : Fld) (k p n : Nat) : Dev :=
  if d.get .perf_win_ctrl_window_us = 0 then d
  else
    let v := d.get f p + n
    if v ≥ 2 ^ 32 then (d.set f p (2 ^ 32 - 1)).putB .h_win_sat p k true else d.set f p v

/-- A slot event of port `p` counted in its block, in the device block and in the window (R489, R495, R496). -/
def Dev.slots (d : Dev) (p kind n : Nat) : Dev :=
  let ev := match kind with | 0 => Ev.SLOT_RETIRED | 1 => .SLOT_WASTED | 2 => .SLOT_FRONT | _ => .SLOT_BACK
  let all := match kind with | 0 => Ev.SLOT_RETIRED_ALL | 1 => .SLOT_WASTED_ALL | 2 => .SLOT_FRONT_ALL | _ => .SLOT_BACK_ALL
  let f := match kind with | 0 => Fld.h_win_retired | 1 => .h_win_wasted | 2 => .h_win_front | _ => .h_win_back
  ((d.count p ev n).count blkDevice all n).winAdd f (3 - kind) p n

/-! ### Messages out, and free values -/

/-- A message out. -/
def Dev.emit (d : Dev) (e : Emit) : Dev := { d with sent := e :: d.sent }

/-- The service port a fabric port is bound to (R550). -/
def Dev.boundSvc (d : Dev) (n : Nat) : Option Nat :=
  firstBelow 2 (fun s => d.flag .kcl_svc_cfg_bind_en s && d.get .kcl_svc_cfg_bind_port s == n)

/-- The PCP of class `c` on service port `s` (R553). -/
def Dev.pcp (d : Dev) (s c : Nat) : Nat := d.get .kcl_svc_vlan_pcp (8 * s + c)

/-- The Ethernet frame that carries a unit on service port `s`: addresses, one tag while tag_en is 1, EtherType, unit, pad
to the minimum, FCS (R551, R553). -/
def Dev.ethFrame (d : Dev) (s cls : Nat) (bytes : List Nat) : List Nat :=
  let tag := if d.flag .kcl_svc_cfg_tag_en s
    then [0x81, 0x00] ++ beBytes 2 (d.pcp s cls * 2 ^ 13 + d.get .kcl_svc_vlan_tx_vid s) else []
  let body := beBytes 6 (d.get .kcl_svc_peer_peer_mac s) ++ beBytes 6 (d.get .kcl_svc_mac_own_mac s) ++ tag
    ++ beBytes 2 (d.get .kcl_svc_cfg_fab_ethertype s) ++ bytes
  let padded := body ++ List.replicate (60 - body.length) 0
  padded ++ leBytes 4 (ethFcs padded)

/-- The 4-byte positions of the MAC stream an Ethernet frame takes, preamble and gap included (R554). -/
def ethSlots (bytes : Nat) : Nat := cdiv (bytes + 20) 4

/-- A link-control frame of 16 words leaves port `p` (R152); the words it takes on the link are slots (R496). -/
def Dev.lcPut (d : Dev) (p ty : Nat) (body : List Nat) : Dev :=
  let up := d.get .port_status_link_status p = 8 ∨ d.get .port_status_link_status p = 9
  match d.boundSvc p with
  | some s =>
    let fr := d.ethFrame s 0 (lcBytes ty body)
    let d := d.emit (.eth s fr)
    if up then d.slots p 0 (ethSlots fr.length) else d
  | none =>
    let d := d.emit (.lc p ty body)
    if up then d.slots p 0 16 else d

/-- A link-control frame for port `p`: at once, or after the frame that is being sent, ahead of those that wait (R145). -/
def Dev.sendLc (d : Dev) (p ty : Nat) (body : List Nat) : Dev :=
  if (d.sending.getOpt p).isSome then { d with lcWait := d.lcWait.set p [] (d.lcWait.get p [] ++ [(ty, body)]) } else d.lcPut p ty body

/-- Port `p` has reached a unit boundary: its frame is gone, and the link-control frames that waited leave (R145). -/
def Dev.unitEnd (d : Dev) (p : Nat) : Dev :=
  let wait := d.lcWait.get p []
  wait.foldl (fun d e => d.lcPut p e.1 e.2) { d with sending := d.sending.set p none none, lcWait := d.lcWait.set p [] [] }

/-- The next free value, and the device that has drawn it (log entry 4). -/
def Dev.draw (d : Dev) : Nat × Dev := (Config.freeDraw d.fresh, { d with fresh := d.fresh + 1 })

/-- The operations that wait for `k` end with result `code`, 0 for success, and a detail (R458, R469). -/
def Dev.opEnd (d : Dev) (k : OpKey) (code : Nat) (detail : Nat := 0) : Dev :=
  { d with ops := d.ops.map (fun o => if o.key = k ∧ o.res = none then { o with res := some code, detail := detail } else o) }

/-- A command's effect on the device: the effect, then its records on their way to the bank. -/
def State.run (s : State) (f : Dev → Dev) : Host.Outcome State Fault Refusal :=
  .next (s.onDev (fun d => (f d).flush))

end Sys2Proof.Machine
end

