-- ==== Sys2Proof/Machine/Access.lean ====
section
/-! DEFINITION. Accesses to the control space: the six checks in their order (R585, R8, R12, R13, R30, R440) and what a
write or read of a register's fields does (R9, R11). -/

namespace Sys2Proof.Machine

/-- Privileges, from the highest (R440). -/
def privFABRIC : Nat := 0
def privJOB : Nat := 1
def privOBSERVE : Nat := 2

/-- The privilege of a marked companion access. -/
def markPriv : Mark → Nat
  | .fabric => 0
  | .observe => 2

/-- The requester code of a marked companion access (R586). -/
def markReq : Mark → Nat
  | .fabric => 0
  | .observe => 1

/-- Copy number of the offset `off`, mixed radix over the counts and steps of the copies; none between the copies. -/
def copyOf : List (Nat × Nat) → Nat → Nat → Option Nat
  | [], off, acc => if off = 0 then some acc else none
  | (n, st) :: r, off, acc => if off / st < n then copyOf r (off % st) (acc * n + off / st) else none

/-- The number of copies of a list of dimensions. -/
def copies (l : List (Nat × Nat)) : Nat := l.foldl (fun a e => a * e.1) 1

/-- The offset of copy `i`. -/
def offsetOf : List (Nat × Nat) → Nat → Nat
  | [], _ => 0
  | (_, st) :: r, i => i / copies r * st + offsetOf r (i % copies r)

/-- The address of copy `i` of a register. -/
def RegRow.addr (r : RegRow) (i : Nat) : Nat := r.base + offsetOf r.dims i

/-- The copy of a register at an address, unless the spec says that copy does not exist. -/
def RegRow.copyAt (r : RegRow) (a : Nat) : Option Nat :=
  if a < r.base then none
  else match copyOf r.dims (a - r.base) 0 with
    | some i => if r.holes.any (fun h => decide (h.1 ≤ i ∧ i ≤ h.2)) then none else some i
    | none => none

/-- The register and copy at an address of the control space (R32). -/
def decodeAddr (a : Nat) : Option (RegRow × Nat) :=
  regTable.findSome? (fun r => (r.copyAt a).map (fun i => (r, i)))

/-- Whether a write may place `v` in a field (R13). -/
def FieldRow.allows (f : FieldRow) (v : Nat) : Bool :=
  f.valid.isEmpty || (f.valid.any (fun r => decide (r.1 ≤ v ∧ v ≤ r.2)) && v % f.step == 0)

/-- The low bits of the fields whose value a write may not place, by the tables' ranges (R13). -/
def RegRow.refused (r : RegRow) (v : Nat) : List Nat :=
  (r.fields.map (fun f => ((List.range f.nsub).map (fun k => f.lo + f.stride * k)).filter
    (fun lo => (f.acc == .rw || f.acc == .wo) && !f.allows (slice v lo f.w)))).flatten

/-- The fields refused under R13 by a rule of the owning chapter that looks at more than the field: an event code the
kind of block does not list (R489), keepalive_us above a quarter of the mirror_timeout_us that is in force after the write
(R393), a lane of RETIRE_LANE that is no physical lane (R322). DESIGN CHOICE (log entry 59): where the write's timeout is
itself refused, the timeout kept is the one compared. -/
def Dev.refusedMore (d : Dev) (r : RegRow) (i v : Nat) : List Nat :=
  if r.base = rowPERF_EVSEL.base then (if evListed (i / 8) (slice v 0 10) then [] else [0])
  else if r.base = rowFMEM_CTRL.base then 
    (let timeout := if (rowFMEM_CTRL.refused v).contains 16 then d.get .fmem_ctrl_mirror_timeout_us else slice v 16 16
     if slice v 0 16 > timeout / 4 then [0] else [])
  else if r.base = rowCMB_UNIT_CMD.base then (if slice v 0 3 = 1 ∧ slice v 8 5 > 15 then [8] else [])
  else []

/-- The low bits of every field refused under R13. -/
def Dev.refusedFields (d : Dev) (r : RegRow) (i v : Nat) : List Nat := r.refused v ++ d.refusedMore r i v

/-- Whether a register is a command register: every field is WO (R13). -/
def RegRow.isCommand (r : RegRow) : Bool := r.fields.all (fun f => f.acc == .wo) && !r.fields.isEmpty

/-- Whether the boot has reached READY (R528). -/
def Dev.ready (d : Dev) : Bool := d.get .sys_boot_status_stage == 5

/-- Whether an address lies in SYS or SEC, which answer at every boot stage (R528, R32). -/
def bootBlock (a : Nat) : Bool := a < 0x200000

/-- What the checks of R585 found. -/
inductive Chk where
  | form | priv | unmapped | off
  | pass (r : RegRow) (i : Nat)
  deriving DecidableEq, Repr

/-- Check 2 to 5 failed: its record (R587). -/
def Dev.recPrivilege (d : Dev) (req a v : Nat) : Dev := d.raise .REG_PRIVILEGE d.pathDevice [.w a, .h req, .d v]
def Dev.recUnmapped (d : Dev) (req a dir : Nat) : Dev := d.raise .REG_UNMAPPED d.pathDevice [.w a, .h req, .h dir]
def Dev.recDomainOff (d : Dev) (req a dir dom : Nat) : Dev :=
  d.raise .REG_DOMAIN_OFF d.pathDevice [.w a, .h req, .h dir, .h dom]

/-- The boot-stage and domain checks of a register that the address names (R585, checks 4 and 5). -/
def Dev.checkPower (d : Dev) (req dir : Nat) (r : RegRow) (i : Nat) : Option Dev :=
  if !d.ready && !bootBlock (r.addr i) then some (d.recDomainOff req (r.addr i) dir 0xFF)
  else match d.offDomain r.dom i with
    | some k => some (d.recDomainOff req (r.addr i) dir k)
    | none => none

/-- Checks 1 to 5 of R585 for an access of `size` bytes at `a`: the device with the record of the check that failed, and
the outcome. `wr` is the value of a write. -/
def Dev.access (d : Dev) (req priv size a : Nat) (wr : Option Nat) : Dev × Chk :=
  let dir := b2n wr.isSome
  if size ≠ 8 ∨ a % 8 ≠ 0 ∨ a > 0x03FFFFFF then (d, .form)
  else if wr.isSome ∧ priv ≠ privFABRIC then (d.recPrivilege req a (wr.getD 0), .priv)
  else match decodeAddr a with
    | none => (d.recUnmapped req a dir, .unmapped)
    | some (r, i) =>
      match d.checkPower req dir r i with
      | some d' => (d', .off)
      | none => (d, .pass r i)

/-- Check 6 of R585 for a write of `v`: the device with the one REG_RSVD_ENC record, and the refused fields (R13). -/
def Dev.checkEncoding (d : Dev) (req : Nat) (r : RegRow) (i v : Nat) : Dev × List Nat :=
  let bad := d.refusedFields r i v
  if bad.isEmpty then (d, [])
  else (d.raise .REG_RSVD_ENC d.pathDevice
    [.w (r.addr i), .d v, .d (maskOf 64 (fun k => bad.contains k)), .h req], bad)

/-- One field of a write, by its access code (R9): the fields refused keep their value (R13). -/
def Dev.writeField (d : Dev) (i v : Nat) (bad : List Nat) (f : FieldRow) : Dev :=
  if f.live then d
  else (List.range f.nsub).foldl (fun d k =>
    let lo := f.lo + f.stride * k
    let x := slice v lo f.w
    let j := i * f.nsub + k
    match f.acc with
    | .rw => if bad.contains lo then d else d.set f.fld j x
    | .w1c => d.set f.fld j (maskOf f.w (fun b => bit (d.get f.fld j) b && !bit x b))
    | .w1s => d.set f.fld j (maskOf f.w (fun b => bit (d.get f.fld j) b || bit x b))
    | _ => d) d

/-- The fields of a write that stores (R9, R11: reserved bits are ignored). -/
def Dev.writeFields (d : Dev) (r : RegRow) (i v : Nat) (bad : List Nat) : Dev :=
  r.fields.foldl (fun d f => d.writeField i v bad f) d

/-- A companion request that meets a link in training (R548): not accepted while it retrains; answered with an error
completion after a reset (R522). -/
def Dev.notAccepted (d : Dev) : Dev := if d.get .h_kcl_train = 2 then d.emit (.reply true 0) else d

/-- A companion write of `v` to copy `i` of register `r` through checks 2 to 6 of R585 (its address is well formed and
assigned); `eff` is what the write does once it passes, told the requester code, the value and the refused fields. -/
def Dev.hostWrite (d : Dev) (m : Mark) (r : RegRow) (i : Nat) (v : Nat)
    (eff : Nat → Nat → List Nat → Dev → Dev) : Dev :=
  let req := markReq m
  if d.get .h_kcl_train ≠ 0 then d.notAccepted
  else if markPriv m ≠ privFABRIC then (d.recPrivilege req (r.addr i) v).emit (.reply true 0)
  else match d.checkPower req 1 r i with
    | some d' => d'.emit (.reply true 0)
    | none =>
      let (d', bad) := d.checkEncoding req r i v
      if r.isCommand ∧ bad ≠ [] then d'.emit (.reply false 0)
      else (eff req v bad d').emit (.reply false 0)

/-- A companion read of copy `i` of register `r`, of either privilege (R440), through checks 4 and 5 of R585; `eff` answers
the device and the value. -/
def Dev.hostRead (d : Dev) (m : Mark) (r : RegRow) (i : Nat) (eff : Dev → Dev × Nat) : Dev :=
  if d.get .h_kcl_train ≠ 0 then d.notAccepted
  else match d.checkPower (markReq m) 0 r i with
  | some d' => d'.emit (.reply true 0)
  | none => let x := eff d; x.1.emit (.reply false x.2)

end Sys2Proof.Machine
end

