-- ==== Sys2Proof/Machine/Links.lean ====
section
/-! DEFINITION. What every family asks of a port and its queues: roles, rings needed, bundles and indirection tables
(R43 to R52), cells and credits (R155, R156, R206 to R213), fencing (R162, R221, R222). -/

namespace Sys2Proof.Machine

/-! ### Roles and link status -/

/-- Roles (R43). -/
def roleDISABLED : Nat := 0
def roleDOWN : Nat := 1
def roleAXIS : Nat := 2
def roleSERVICE : Nat := 3
def roleANALYSIS : Nat := 4
def roleEXPRESS_ONLY : Nat := 5

/-- Values of link_status (R159). -/
def lsDOWN : Nat := 0
def lsTRAIN : Nat := 1
def lsIDENTIFY : Nat := 2
def lsHELD : Nat := 3
def lsREVISION : Nat := 4
def lsQUARANTINE : Nat := 5
def lsCREDIT_INIT : Nat := 6
def lsADMIT_WAIT : Nat := 7
def lsADMITTED : Nat := 8
def lsTX_ONLY : Nat := 9

/-- Fence causes (R162). -/
def fcFABRIC : Nat := 1
def fcLINK_LOSS : Nat := 2
def fcRING : Nat := 3
def fcSPARING : Nat := 4
def fcSTENCIL : Nat := 5
def fcCREDIT_STALL : Nat := 6
def fcFEC_FAIL : Nat := 7
def fcREV_CHANGE : Nat := 8
def fcD2D : Nat := 9
def fcSILENT : Nat := 10

def Dev.role (d : Dev) (n : Nat) : Nat := d.get .port_cfg_role n
def Dev.linkStatus (d : Dev) (n : Nat) : Nat := d.get .port_status_link_status n
def Dev.admitted (d : Dev) (n : Nat) : Bool := d.linkStatus n == lsADMITTED
def Dev.fenced (d : Dev) (n : Nat) : Bool := d.get .port_status_fence_mask n != 0

/-- DOWN, AXIS and SERVICE: the roles that run the bring-up (R160). -/
def Dev.upRole (d : Dev) (n : Nat) : Bool := 1 ≤ d.role n && d.role n ≤ 3

/-- A change of link_status; a window during which the port was not ADMITTED or TX_ONLY is partial (R495);
awaited power answers are given up outside ADMITTED (R88). -/
def Dev.setLink (d : Dev) (n v : Nat) : Dev :=
  let low := fun x => x != lsADMITTED && x != lsTX_ONLY
  let d := if v = lsADMITTED then d else d.set .opt_margin_status_request_pending n 0
  let d := if low v || low (d.linkStatus n) then d.set .h_win_partial n 1 else d
  d.set .port_status_link_status n v

/-! ### Rings a port needs (R74, R75) -/

/-- The drops of circuit `c` (R142). -/
def Dev.circDrops (d : Dev) (c : Nat) : List Nat :=
  (List.range (min 4 (d.get .xpr_circ_cfg_n_drop c))).map (fun k => d.get .xpr_circ_cfg_drop (4 * c + k))

/-- Whether a circuit is set up or being set up or torn down. -/
def Dev.circBusy (d : Dev) (c : Nat) : Bool := d.get .xpr_circ_status_state c != 0

/-- Whether an express circuit uses ring `r` (0–9) of port `n`: the receive ring of its slot on the add port, the
transmit ring of its slot on each drop port (R72, R125). -/
def Dev.circUses (d : Dev) (n r : Nat) : Bool :=
  (List.range 64).any (fun c => d.circBusy c &&
    ((decide (r = 5 + d.get .xpr_circ_cfg_slot c) && d.get .xpr_circ_cfg_add_port c == n) ||
     (decide (r = d.get .xpr_circ_cfg_slot c) && (d.circDrops c).contains n)))

/-- Whether slot `s` of the octet of port `n` is parked (R122). -/
def Dev.slotParked (d : Dev) (n s : Nat) : Bool := d.bitOf .las_oct_status_parked (n / 8) s

/-- Whether ring `r` of port `n` is needed (R74). A transmit ring of a parked slot is needed only for a circuit, and no ring
of a bound port (R550). -/
def Dev.ringNeeded (d : Dev) (n r : Nat) : Bool :=
  d.circUses n r || ((d.boundSvc n).isNone && d.role n != roleDISABLED && !(decide (r < 5) && d.slotParked n r))

/-- The index of ring `r` of port `n` among all rings. -/
def ringIx (n r : Nat) : Nat := 10 * n + r

/-- Whether slot `s` of octet `o` is dark for the sequence that runs there: SWAP to REVERT (R114, R118). -/
def Dev.seqDark (d : Dev) (o s : Nat) : Bool :=
  decide (4 ≤ d.get .las_oct_status_phase o ∧ d.get .las_oct_status_phase o ≤ 7) && d.get .las_oct_status_slot o == s

/-- Whether every transmit ring needed on port `n` is LOCKED (R75). The slot that a running sequence keeps dark is not
waited for, since its lanes stay on the spare slot (R118, log entry 8). -/
def Dev.txRingsLocked (d : Dev) (n : Nat) : Bool :=
  (List.range 5).all (fun r => !d.ringNeeded n r || d.seqDark (n / 8) r || d.get .opt_ring_status_state (ringIx n r) == 4)

/-! ### Lane maps (R68, R70, R122) -/

/-- The slots of the transmit half, lane 0 first (R68). -/
def Dev.txMap (d : Dev) (n : Nat) : List Nat := (List.range 4).map (fun l => d.get .opt_lane_map_tx_lane (4 * n + l))
/-- The slots of the receive half (R68). -/
def Dev.rxMap (d : Dev) (n : Nat) : List Nat := (List.range 4).map (fun l => d.get .opt_lane_map_rx_lane (4 * n + l))

/-- The slot a half does not name (R68). -/
def spareOf (m : List Nat) : Nat := (firstBelow 5 (fun s => !m.contains s)).getD 4

def Dev.txSpare (d : Dev) (n : Nat) : Nat := spareOf (d.txMap n)
def Dev.rxSpare (d : Dev) (n : Nat) : Nat := spareOf (d.rxMap n)

/-- A transmit half written. -/
def Dev.setTxMap (d : Dev) (n : Nat) (m : List Nat) : Dev :=
  d.setMany ((List.range 4).map (fun l => (.opt_lane_map_tx_lane, 4 * n + l, m.getD l 0)))
/-- A receive half written. -/
def Dev.setRxMap (d : Dev) (n : Nat) (m : List Nat) : Dev :=
  d.setMany ((List.range 4).map (fun l => (.opt_lane_map_rx_lane, 4 * n + l, m.getD l 0)))

/-- A half whose lane on slot `a` is on slot `b` instead (R118). -/
def moveLane (m : List Nat) (a b : Nat) : List Nat := m.map (fun x => if x = a then b else x)

/-- Whether a half names four distinct slots 0–4 (R70). -/
def halfOk (m : List Nat) : Bool := m.all (· < 5) && decide m.Nodup

/-- The transmit half with the parked slot as its spare, as written at each bring-up (R122). -/
def Dev.parkHalf (d : Dev) (n : Nat) : Dev :=
  match firstBelow 5 (d.slotParked n) with
  | some s => if (d.txMap n).contains s then d.setTxMap n (moveLane (d.txMap n) s (d.txSpare n)) else d
  | none => d

/-! ### Bundles (R47 to R52) -/

/-- The bundle of port `n`: 0–511, or 512 + 4096·axis + target for an AXIS port (R44). -/
def Dev.bundleKey (d : Dev) (n : Nat) : Option Nat :=
  if d.role n = roleDOWN ∨ d.role n = roleSERVICE then some (d.get .port_cfg_bundle n)
  else if d.role n = roleAXIS then some (512 + 4096 * d.get .port_cfg_axis n + d.get .port_cfg_target n)
  else none

/-- The ports of a bundle, ascending. -/
def Dev.bundlePorts (d : Dev) (key : Nat) : List Nat := (List.range 512).filter (fun n => d.bundleKey n == some key)

/-- The links of a bundle that are admitted and not fenced (R48). -/
def Dev.eligible (d : Dev) (key : Nat) : List Nat :=
  (d.bundlePorts key).filter (fun n => d.admitted n && !d.fenced n)

/-- Whether the feature an ftype needs is agreed on port `n` (R65). -/
def Dev.hasFeature (d : Dev) (n ft : Nat) : Bool := d.bitOf .port_status_agreed_features n (ftypeFeature ft)

/-- Whether link `n` may carry this frame within its bundle (R48): arrival port `arr`, ftype `ft`. -/
def Dev.eligibleFor (d : Dev) (arr ft n : Nat) : Bool := n != arr && d.hasFeature n ft

/-- The table of a bundle as at first fill: entry i names the (i mod L)-th eligible link (R50). -/
def fillTable (el : List Nat) : List IndEntry :=
  if el.isEmpty then [] else (List.range 256).map (fun i => { link := el.getD (i % el.length) 0 })

/-- Whether the egress queues of port `p` hold a frame that entry `i` of bundle `key` placed there (R51). -/
def Dev.entryQueued (d : Dev) (key i p : Nat) : Bool :=
  d.egress.any (fun e => e.out == p && e.pin == some (key, i))

/-- Entry `i` of bundle `key` given link `new`: it waits for every earlier link that still holds frames of its flows (R51). -/
def Dev.remapEntry (d : Dev) (key i : Nat) (e : IndEntry) (new : Nat) : IndEntry :=
  { link := new, old := ((e.old ++ [e.link]).filter (fun p => p != new && d.entryQueued key i p)).dedup }

/-- The reassignment of the entries whose link left, in ascending order, round-robin over the links that remain (R51):
the new table and the number of entries moved. -/
def Dev.reassign (d : Dev) (key : Nat) (el : List Nat) (t : List IndEntry) : List IndEntry × Nat :=
  let r := t.foldl (fun (a : List IndEntry × Nat × Nat) e =>
    let (out, moved, i) := a
    if el.contains e.link then (out ++ [e], moved, i + 1)
    else
      (out ++ [d.remapEntry key i e (el.getD (moved % el.length) 0)], moved + 1, i + 1)) ([], 0, 0)
  (r.1, r.2.1)

/-- The indirection table of bundle `key` brought in line with its eligible set; each reassignment counts PIN_REMAP at
the bundle's lowest-numbered port (R51). -/
def Dev.refreshBundle (d : Dev) (key : Nat) : Dev :=
  let el := d.eligible key
  let t := d.indir.get key []
  if el.isEmpty then { d with indir := d.indir.set key [] [] }
  else if t.isEmpty then { d with indir := d.indir.set key [] (fillTable el) }
  else
    let (t', moved) := d.reassign key el t
    let d := { d with indir := d.indir.set key [] t' }
    if moved = 0 then d else d.count ((d.bundlePorts key).headD 0) .PIN_REMAP moved

/-- The bundle of port `n`, if it is in one, brought in line (R51). -/
def Dev.refreshPort (d : Dev) (n : Nat) : Dev :=
  match d.bundleKey n with
  | some k => d.refreshBundle k
  | none => d

/-! ### Cells and credits -/

/-- The cells of a frame. -/
def Frame.cells (f : Frame) : Nat := cellCost f.hdr.length

/-- The frame with a number. -/
def Dev.frame (d : Dev) (fid : Nat) : Option Frame := d.frames.find? (fun f => f.id == fid)

/-- The frame with its record replaced. -/
def Dev.mapFrame (d : Dev) (fid : Nat) (g : Frame → Frame) : Dev :=
  { d with frames := d.frames.map (fun f => if f.id = fid then g f else f) }

/-- Cells charged to an input and class (R207). -/
def Dev.inUsed (d : Dev) (inp c : Nat) : Nat :=
  d.frames.foldl (fun a f => if f.input = inp ∧ f.hdr.cls = c then a + f.cells else a) 0

/-- Cells charged to an input (R207). -/
def Dev.inputUsed (d : Dev) (inp : Nat) : Nat :=
  d.frames.foldl (fun a f => if f.input = inp then a + f.cells else a) 0

/-- Cells queued on an output in a class (R209). -/
def Dev.outUsed (d : Dev) (out c : Nat) : Nat :=
  d.egress.foldl (fun a e => if e.out = out ∧ e.cls = c then a + e.cells else a) 0

/-- Cells queued on an output, whatever the class: what int_oq bounds (R209). -/
def Dev.outputUsed (d : Dev) (out : Nat) : Nat :=
  d.egress.foldl (fun a e => if e.out = out then a + e.cells else a) 0

/-- The deficit D_c of port `n` (R213). -/
def Dev.deficit (d : Dev) (n c : Nat) : Nat :=
  d.get .port_credit_allotment_rx (8 * n + c) - d.get .xbar_iq_iq (8 * n + c)

/-- `k` credits of a class reported as freed (R156). -/
def Dev.reportFreed (d : Dev) (n c k : Nat) : Dev :=
  (d.incr .h_freed (8 * n + c) k).incr .h_unreported (8 * n + c) k

/-- The free of a frame of cost `k`: withholding first, the rest reported (R156, R213). -/
def Dev.freeCredits (d : Dev) (n c k : Nat) : Dev :=
  let w := d.get .h_withheld (8 * n + c)
  let h := min k (d.deficit n c - w)
  let d := if h = 0 then d
    else (d.set .h_withheld (8 * n + c) (w + h)).count n .IN_WITHHELD h { cls := some c }
  d.reportFreed n c (k - h)

/-- A dropped frame returns its credits (R38, R156). -/
def Dev.dropCredits (d : Dev) (n : Nat) (h : Hdr) : Dev := d.reportFreed n h.cls (cellCost h.length)

/-- A frame's cells freed: it leaves the pool, and a port input gets its credits back (R207). -/
def Dev.freeFrame (d : Dev) (f : Frame) : Dev :=
  let d := { d with frames := d.frames.filter (fun g => g.id != f.id) }
  if f.input < 512 then d.freeCredits f.input f.hdr.cls f.cells else d

/-- One holder of a frame gone: at 0 its cells are freed (R207, R220). -/
def Dev.releaseRef (d : Dev) (fid : Nat) : Dev :=
  match d.frame fid with
  | some f => if f.refs ≤ 1 then d.freeFrame f else d.mapFrame fid (fun f => { f with refs := f.refs - 1 })
  | none => d

/-- Available credit of a class on port `n` (R156). -/
def Dev.credit (d : Dev) (n c : Nat) : Nat :=
  (d.get .port_credit_returned (8 * n + c) + 2 ^ 16 - d.get .port_credit_sent (8 * n + c)) % 2 ^ 16

/-- A collective copy that did not go out is passed to the collective engine with its port (R223). -/
def Dev.undelivered (d : Dev) (port : Nat) (h : Hdr) : Dev :=
  if isCollDown h.ftype then { d with undeliv := d.undeliv ++ [(port, h)] } else d

/-- A bad frame: a copy that is leaving is stomped, every other copy is discarded unsent (R151). -/
def Dev.spoil (d : Dev) (fid : Nat) : Dev :=
  match d.frame fid with
  | none => d
  | some f =>
    let d := d.sending.entries.foldl (fun d e =>
      match e.2 with
      | some s =>
        if s.fid = fid ∧ s.stomp = false then
          ({ d with sending := d.sending.set e.1 none (some { s with stomp := true }) } : Dev).undelivered e.1 f.hdr
        else d
      | none => d) d
    let outs := (d.egress.filter (fun e => e.fid == fid)).map (·.out)
    let wt := d.waits.filter (fun w => w.fid == fid)
    let lost := outs ++ (wt.map (fun w => match w.target with | .mcast l => l | _ => [])).flatten
    let d := lost.foldl (fun d p => d.undelivered p f.hdr) d
    let d := { d with egress := d.egress.filter (fun e => e.fid != fid), waits := d.waits.filter (fun w => w.fid != fid) }
    (List.range (outs.length + wt.length)).foldl (fun d _ => d.releaseRef fid) d

/-- The reception on port `n` ends before its last byte: its frame is bad (R151, log entry 12). -/
def Dev.abortRx (d : Dev) (n : Nat) : Dev :=
  match d.receiving.getOpt n with
  | none => d
  | some r =>
    let d := { d with receiving := d.receiving.set n none none, rxSpoilt := d.rxSpoilt.set n false false }
    let mirrors := (d.frames.filter (fun f => f.ofRx == some r.rid)).map (·.id)
    mirrors.foldl Dev.spoil (d.spoil r.rid)

/-! ### Fences and link status -/

/-- A fence cause cleared on port `n`. -/
def Dev.unfence (d : Dev) (n cause : Nat) : Dev := (d.putB .port_status_fence_mask n cause false).refreshPort n

/-! ### Ring and role changes seen by the link -/

/-- The link of port `n` brought in line with its role and rings: DOWN while the role has no link or a needed transmit
ring is not LOCKED, then TRAIN, or TX_ONLY for ANALYSIS (R75, R159, R161); a bring-up that starts holds no REV (R45, R160). A
bound port follows its service port (R550). DEDUCED (log entry 61): a port that goes DOWN because its own transmit ring unlocks
has no link loss of R163, so the receiving half of a peer's sequence stays as it is (R116). -/
def Dev.refreshLink (d : Dev) (n : Nat) : Dev :=
  if (d.boundSvc n).isSome then d
  else if d.role n = roleDISABLED ∨ d.role n = roleEXPRESS_ONLY ∨ !d.txRingsLocked n then
    if d.linkStatus n = lsDOWN then d else ((d.abortRx n).setLink n lsDOWN).refreshPort n
  else if d.linkStatus n = lsDOWN then
    if d.role n = roleANALYSIS then d.setLink n lsTX_ONLY
    else
      let d := { d with heldRev := d.heldRev.set n none none }
      ((d.parkHalf n).setLink n lsTRAIN).set .h_id_fresh n 0
  else d

/-- A return to TRAIN: what the bring-up holds is forgotten, but the agreed features and the identity (R163); the receiving
end of a sequence drops its pending arm (R116). -/
def Dev.toTrain (d : Dev) (n : Nat) : Dev :=
  let d := if d.flag .h_peer_seq n then d.set .opt_lane_next_rx_arm n 0 else d
  let d := d.setMany [(.h_admit_sent, n, 0), (.h_admit_rcvd, n, 0), (.h_credit_rcvd, n, 0), (.h_credit_sent, n, 0),
    (.h_hunting, n, 0), (.h_id_fresh, n, 0), (.h_peer_seq, n, 0), (.h_peer_back, n, 0)]
  let d := { d with heldRev := d.heldRev.set n none none }
  let d := (d.abortRx n).parkHalf n
  let d := if (d.boundSvc n).isNone && !d.txRingsLocked n then d.setLink n lsDOWN else d.setLink n lsTRAIN
  d.refreshPort n

end Sys2Proof.Machine
end

