-- ==== Sys2Proof/Machine/Sparing.lean ====
section
/-! DEFINITION. Rings, DFBs and sparing sequences as the other families meet them: ring states (R74, R75), octets going
dark (R108), the phases of a sequence (R113 to R123), and the fencing of a port (R162, R221, R222). -/

namespace Sys2Proof.Machine

/-! ### Rings (R74) -/

/-- Values of the state of a ring (R74). -/
def rsOFF : Nat := 0
def rsSWEEP : Nat := 1
def rsIDENTIFY : Nat := 2
def rsACQUIRE : Nat := 3
def rsLOCKED : Nat := 4
def rsHOLD : Nat := 5
def rsRELOCK : Nat := 6
def rsFAULT : Nat := 7

def Dev.ring (d : Dev) (k : Nat) : Nat := d.get .opt_ring_status_state k

/-- Whether octet `o` has finished: every needed ring LOCKED, HOLD or FAULT (R75). -/
def Dev.octetSettled (d : Dev) (o : Nat) : Bool :=
  (List.range 8).all (fun p => (List.range 10).all (fun r =>
    !d.ringNeeded (8 * o + p) r || [rsLOCKED, rsHOLD, rsFAULT].contains (d.ring (ringIx (8 * o + p) r))))

/-- The octet_done bit set once its octet has finished (R75). -/
def Dev.octetDone (d : Dev) (o : Nat) : Dev :=
  if !d.bitOf .opt_eng_status_octet_done (o / 8) (o % 8) && d.octetSettled o
  then d.putB .opt_eng_status_octet_done (o / 8) (o % 8) true else d

/-- The received power of ring `k` is no longer measured: a receive ring not in LOCKED reads 0x8000 (R87). -/
def Dev.rxDark (d : Dev) (k : Nat) : Dev :=
  let n := k / 10
  let s := k % 10 - 5
  if k % 10 < 5 then d
  else if d.rxSpare n = s then d.set .opt_rx_spare_spare n 0x8000
  else match firstBelow 4 (fun l => d.get .opt_lane_map_rx_lane (4 * n + l) == s) with
    | some l => d.set .opt_rx_power_lane (4 * n + l) 0x8000
    | none => d

/-- A receive half written; lanes now on a ring not in LOCKED have no measurement (R70, R87). -/
def Dev.steerRx (d : Dev) (n : Nat) (m : List Nat) : Dev :=
  (List.range 5).foldl (fun d s => if d.ring (ringIx n (5 + s)) = rsLOCKED then d else d.rxDark (ringIx n (5 + s))) (d.setRxMap n m)

/-- A ring enters OFF: heater at 0 (R74). -/
def Dev.ringOff (d : Dev) (k : Nat) : Dev :=
  { (d.rxDark k).setMany [(.opt_ring_status_state, k, rsOFF), (.opt_ring_heater_heater_ghz, k, 0), (.h_ring_resweep, k, 0)] with
    dips := d.dips.set k [] [] }

/-- A ring enters SWEEP (R74). -/
def Dev.ringSweep (d : Dev) (k : Nat) : Dev :=
  { (d.rxDark k).setMany [(.opt_ring_status_state, k, rsSWEEP), (.opt_ring_heater_heater_ghz, k, 0), (.h_ring_rail, k, 0),
      (.h_ring_resweep, k, 0)] with dips := d.dips.set k [] [] }

/-- A ring enters IDENTIFY at the first of the candidates (R74). -/
def Dev.ringIdentify (d : Dev) (k : Nat) (cand : List Nat) : Dev :=
  { d.setMany [(.opt_ring_status_state, k, rsIDENTIFY), (.opt_ring_heater_heater_ghz, k, cand.headD 0),
      (.h_ring_nodip, k, 0), (.h_ring_resweep, k, 0)] with dips := d.dips.set k [] cand }

/-- A ring enters FAULT with its record: heater at 0 (R74, R90). -/
def Dev.ringFault (d : Dev) (n r cause : Nat) : Dev :=
  let k := ringIx n r
  let d := d.raise .OPT_RING_FAULT (d.pathPort n) [.h r, .h cause, .h (d.get .opt_ring_heater_heater_ghz k)]
  let d := (d.rxDark k).setMany [(.opt_ring_status_state, k, rsFAULT), (.opt_ring_status_fault_cause, k, cause),
    (.opt_ring_heater_heater_ghz, k, 0)]
  { d with dips := d.dips.set k [] [] }

/-- The active DFB of slot `s` of octet `o`: its role b (R107). -/
def Dev.activeB (d : Dev) (o s : Nat) : Nat := b2n (d.bitOf .las_oct_status_standby_active o s)

/-- The index of DFB b of a slot (R107). -/
def dfbIx (o s b : Nat) : Nat := 10 * o + 2 * s + b

def Dev.dfb (d : Dev) (k : Nat) : Nat := d.get .las_dfb_status_state k

/-- Whether ring `r` of port `n` may leave OFF: lock_enable, needed, and a transmit ring only with its laser lit (R74,
R75, R108). -/
def Dev.ringMayStart (d : Dev) (n r : Nat) : Bool :=
  d.flag .opt_eng_ctrl_lock_enable (n / 64) && d.ringNeeded n r &&
    (decide (5 ≤ r) || d.dfb (dfbIx (n / 8) r (d.activeB (n / 8) r)) == 3)

/-- Whether some ring of octet `o` is on its way to a lock. -/
def Dev.octetLocking (d : Dev) (o : Nat) : Bool :=
  (List.range 80).any (fun k => [rsSWEEP, rsIDENTIFY, rsACQUIRE, rsRELOCK].contains (d.ring (80 * o + k)))

/-- Ring `r` of port `n` brought in line: OFF when it may not run, SWEEP from OFF when it may and, by `go`, its turn has come
(R74, R75). -/
def Dev.ringLine (d : Dev) (n r : Nat) (go : Bool) : Dev :=
  let k := ringIx n r
  if d.ring k = rsOFF then (if go && d.ringMayStart n r then d.ringSweep k else d)
  else if d.flag .opt_eng_ctrl_lock_enable (n / 64) && d.ringNeeded n r then d else d.ringOff k

/-- The rings of octet `o` that may not run put in OFF, and those that may run, if `go`, in SWEEP (R74); between a warm
reset and the first write of LAS_ENG_CTRL every ring stays as it is (R522). -/
def Dev.octetRings (d : Dev) (o : Nat) (go : Bool) : Dev :=
  if d.flag .h_eng_hold (o / 8) then d
  else (List.range 80).foldl (fun d j => d.ringLine (8 * o + j / 10) (j % 10) go) d

/-- Whether octet `j` of engine `e` is locking its rings in its bring-up (R75). -/
def Dev.octetBusy (d : Dev) (e j : Nat) : Bool := !d.bitOf .opt_eng_status_octet_done e j && d.octetLocking (8 * e + j)

/-- The rings of engine `e` brought in line: octets that have not finished their bring-up go one at a time, in ascending order,
and none starts while another still locks (R75); then the links of the engine's ports. -/
def Dev.engineRings (d : Dev) (e : Nat) : Dev :=
  let at0 := firstBelow 8 (d.octetBusy e)
  let r := (List.range 8).foldl (fun (a : Dev × Option Nat) j =>
    let done := a.1.bitOf .opt_eng_status_octet_done e j
    let d := a.1.octetRings (8 * e + j) (done || a.2 == none || a.2 == some j)
    (d, if a.2 = none ∧ d.octetBusy e j then some j else a.2)) (d, at0)
  (List.range 64).foldl (fun d p => d.refreshLink (64 * e + p)) r.1

/-- After a ring of port `n` has changed: its octet may have finished, the next octet may go, the link follows (R75). -/
def Dev.afterRing (d : Dev) (n : Nat) : Dev :=
  let o := n / 8
  let d := d.refreshLink n
  if d.bitOf .opt_eng_status_octet_done (o / 8) (o % 8) then d
  else
    let d := d.octetDone o
    if d.bitOf .opt_eng_status_octet_done (o / 8) (o % 8) then d.engineRings (o / 8) else d

/-- Ring `r` of port `n` after a circuit takes or leaves it: it starts at once where its octet has finished its bring-up, else in
its octet's turn (R74, R75). -/
def Dev.ringFollow (d : Dev) (n r : Nat) : Dev :=
  if d.flag .h_eng_hold (n / 64) then d
  else if d.bitOf .opt_eng_status_octet_done (n / 64) (n / 8 % 8) then (d.ringLine n r true).afterRing n
  else d.engineRings (n / 64)

/-- The transmit rings of slot `s` of octet `o` put in a state by `f`. -/
def Dev.slotRings (d : Dev) (o s : Nat) (f : Dev → Nat → Dev) : Dev :=
  (List.range 8).foldl (fun d p => f d (ringIx (8 * o + p) s)) d

/-! ### Octets (R108) -/

/-- Roles that open feed gates and light octets (R108); a bound port's gates stay shut (R550). -/
def Dev.litRole (d : Dev) (n : Nat) : Bool := decide (1 ≤ d.role n) && decide (d.role n ≤ 4) && (d.boundSvc n).isNone

/-- Whether the feed gate of slot `s` of port `n` is open (R108): one of the four roles, and not the drop of a circuit. A gate is
shut when its circuit becomes ACTIVE (R129, step 6); it reopens with the teardown, whose first 3 µs the model does not divide
(R130, step 3, log entry 63). -/
def Dev.feedOpen (d : Dev) (n s : Nat) : Bool :=
  d.litRole n &&
    !(List.range 64).any (fun c => d.get .xpr_circ_status_state c == 3 && d.get .xpr_circ_cfg_slot c == s && (d.circDrops c).contains n)

/-- Whether light of slot `s` reaches the transmit fibre of port `n`: its feed gate is open and its DFB LIT (R107, R108). -/
def Dev.slotLit (d : Dev) (n s : Nat) : Bool := d.feedOpen n s && d.dfb (dfbIx (n / 8) s (d.activeB (n / 8) s)) == 3

/-- Whether a frame that ANALYSIS port `n` sends is lost to the analyser: a lane's slot is dark for a sequence or is parked, which
steers no lane of such a port (R114). -/
def Dev.analysisDark (d : Dev) (n : Nat) : Bool :=
  d.role n == roleANALYSIS && (d.boundSvc n).isNone && (d.txMap n).any (fun s => (d.seqDark (n / 8) s || d.slotParked n s) && !d.slotLit n s)

/-- Whether the octet's lasers should be lit (R108). -/
def Dev.octetWanted (d : Dev) (o : Nat) : Bool :=
  d.flag .las_eng_ctrl_laser_enable (o / 8) && (List.range 8).any (fun p => d.litRole (8 * o + p))

/-- A DFB goes dark: OFF, unless it has retired or failed. -/
def Dev.dfbOff (d : Dev) (k : Nat) : Dev :=
  let d := d.setMany [(.las_dfb_status_power, k, 0x8000), (.las_dfb_status_bias, k, 0), (.h_dfb_warned, k, 0),
    (.h_dfb_maxed, k, 0)]
  if d.dfb k = 5 ∨ d.dfb k = 6 then d else d.set .las_dfb_status_state k 0

/-- A DFB put in state `st`, dark in every state but LIT (R139). -/
def Dev.dfbState (d : Dev) (k st : Nat) : Dev :=
  let d := d.set .las_dfb_status_state k st
  if st = 3 then d else d.set .las_dfb_status_power k 0x8000

/-! ### Sparing sequences (R113 to R123) -/

/-- The record path of the primary DFB of a slot (R132). -/
def Dev.pathDfb (d : Dev) (o s b : Nat) : Nat := d.pathEngine (o / 8) ucLASER (dfbIx o s b)

def Dev.seqPhase (d : Dev) (o : Nat) : Nat := d.get .las_oct_status_phase o

/-- Whether a sequence runs on octet `o` in a phase after QUEUED. -/
def Dev.seqRuns (d : Dev) (o : Nat) : Bool := 2 ≤ d.seqPhase o && d.seqPhase o ≤ 7

/-- Participants of octet `o` that are not fenced participants. -/
def Dev.seqPorts (d : Dev) (o : Nat) : List Nat :=
  ((List.range 8).filter (fun p => d.bitOf .las_oct_status_participants o p && !d.bitOf .las_oct_status_fenced o p)).map
    (8 * o + ·)

/-- The octet shows QUEUED for its next waiting request, if it has one (R113). -/
def Dev.seqShowQueue (d : Dev) (o : Nat) : Dev :=
  match d.seqQueue.find? (fun q => q.octet == o) with
  | some q => if d.seqPhase o = 0 then d.setMany [(.las_oct_status_phase, o, 1), (.las_oct_status_slot, o, q.slot)] else d
  | none => d

/-- The fence of a sequence is lifted and the port retrains (R114, R123). -/
def Dev.seqLift (d : Dev) (n : Nat) : Dev := (d.putB .port_status_fence_mask n fcSPARING false).toTrain n

/-- A sequence ends with an outcome (R119, R120, R122): fenced participants get the half `final` makes of their map
written directly, their fence is lifted, and they retrain. -/
def Dev.seqEnd (d : Dev) (o outcome : Nat) (final : Dev → Nat → Dev) : Dev :=
  let d := d.setMany [(.las_oct_status_phase, o, 0), (.las_oct_status_outcome, o, outcome)]
  let d := (List.range 8).foldl (fun d p =>
    if d.bitOf .las_oct_status_fenced o p then (final d (8 * o + p)).seqLift (8 * o + p) else d) d
  d.seqShowQueue o

/-- An octet goes dark: its lasers stop, and a sequence that runs there ends ABORTED, its arms cleared and its fences lifted
(R108, R114, log entry 8). -/
def Dev.octetDark (d : Dev) (o : Nat) : Dev :=
  let d := (List.range 10).foldl (fun d j => d.dfbOff (10 * o + j)) d
  let d := d.set .h_oct_lit o 0
  let d := { d with seqQueue := d.seqQueue.filter (fun q => q.octet != o) }
  if d.get .las_oct_status_phase o = 0 then d
  else if !d.seqRuns o then d.setMany [(.las_oct_status_phase, o, 0), (.las_oct_status_outcome, o, 5)]
  else
    let d := (d.seqPorts o).foldl (fun d n => d.setMany [(.opt_lane_next_tx_arm, n, 0), (.h_sq_wait, n, 0)]) d
    d.seqEnd o 5 (fun d _ => d)

/-- An octet that should no longer be lit goes dark (R108), but not between a warm reset and the first write of LAS_ENG_CTRL
(R522). -/
def Dev.octetCheck (d : Dev) (o : Nat) : Dev :=
  if d.flag .h_eng_hold (o / 8) then d
  else if d.flag .h_oct_lit o && !d.octetWanted o then d.octetDark o else d

/-- The lane of a port back on slot `s`, the slot that was spare before the sequence spare again. -/
def Dev.halfHome (d : Dev) (n s : Nat) : Dev :=
  if (d.txMap n).contains s then d else d.setTxMap n (moveLane (d.txMap n) (d.get .h_sq_home n) s)

/-- The lane of a port off slot `s`. -/
def Dev.halfAway (d : Dev) (n s : Nat) : Dev :=
  if (d.txMap n).contains s then d.setTxMap n (moveLane (d.txMap n) s (d.txSpare n)) else d

/-- A slot is parked: its active DFB retires, its rings go to OFF, the record is written (R122). -/
def Dev.parkSlot (d : Dev) (o s : Nat) : Dev :=
  let k := dfbIx o s (d.activeB o s)
  let d := (d.dfbState k 5).set .las_dfb_status_bias k 0
  let d := (d.putB .las_oct_status_parked o s true).putB .p_parked o s true
  let d := d.slotRings o s (fun d k =>
    if d.ringNeeded (k / 10) s then d else d.ringOff k)
  let d := d.raise .LAS_PARKED (d.pathDfb o s 0)
  d.seqEnd o 4 (fun d n => d.halfAway n s)

/-- STEER_OUT is over: the active DFB ramps down and its slot goes dark, or the slot is parked (R118, R122). -/
def Dev.seqSwap (d : Dev) (o : Nat) : Dev :=
  let s := d.get .las_oct_status_slot o
  if d.get .h_seq_kind o = 1 then d.parkSlot o s
  else
    let d := d.set .las_oct_status_phase o 4
    let d := d.dfbState (dfbIx o s (d.activeB o s)) 4
    d.slotRings o s (fun d k => if d.ring k = rsOFF then d else d.set .opt_ring_status_state k rsHOLD)

/-- The sequence of octet `o` carried on as far as its participants allow (R117, R118). -/
def Dev.seqProgress (d : Dev) (o : Nat) : Dev :=
  let s := d.get .las_oct_status_slot o
  let ph := d.seqPhase o
  if ph = 2 ∨ ph = 3 then
    if (d.seqPorts o).all (fun n => d.flag .h_sq_out n) then d.seqSwap o else d
  else if ph = 5 ∨ ph = 6 ∨ (ph = 7 ∧ d.dfb (dfbIx o s 0) = 3) then
    if (d.seqPorts o).all (fun n => d.flag .h_sq_back n) then
      if ph = 7 then d.seqEnd o 3 (fun d n => d.halfHome n s)
      else
        let d := d.raise .LAS_SPARE_DONE (d.pathDfb o s 0) [.d (d.fabricNs - d.get .las_oct_seq_time_seq_start o)]
        d.seqEnd o (if d.get .las_oct_status_fenced o = 0 then 1 else 2) (fun d n => d.halfHome n s)
    else d
  else d

/-! ### Fencing (R162, R221, R222) -/

/-- A fence cause set on port `n`: the umbra bit follows; a frame being sent is finished stomped (R222); the bundle loses
the link (R51); power answers are no longer awaited (R88). -/
def Dev.fenceCore (d : Dev) (n cause : Nat) : Dev :=
  let was := d.fenced n
  let d := d.putB .port_status_fence_mask n cause true
  let d := if cause = fcFABRIC then d else d.set .h_fenced_other n 1
  let d := d.set .opt_margin_status_request_pending n 0
  let d := if was then d
    else match d.sending.getOpt n with
      | some s =>
        let d := d.count n .FENCED_STOMP 1 s.hdr.attr
        if s.stomp then d
        else ({ d with sending := d.sending.set n none (some { s with stomp := true }) } : Dev).undelivered n s.hdr
      | none => d
  d.refreshPort n

/-- A participant becomes a fenced participant: fenced for the sequence, its pending arm cleared (R114, R121). -/
def Dev.seqFence (d : Dev) (n : Nat) : Dev :=
  let d := d.fenceCore n fcSPARING
  let d := d.putB .las_oct_status_fenced (n / 8) (n % 8) true
  let d := d.setMany [(.opt_lane_next_tx_arm, n, 0), (.h_sq_wait, n, 0)]
  d.raise .LAS_SPARE_NO_PEER (d.pathPort n)

/-- A fence cause set on port `n` (R162); a participant of a running sequence becomes a fenced participant (R121). -/
def Dev.fence (d : Dev) (n cause : Nat) : Dev :=
  let d := d.fenceCore n cause
  let o := n / 8
  if d.seqRuns o && d.bitOf .las_oct_status_participants o (n % 8) && !d.bitOf .las_oct_status_fenced o (n % 8)
  then (d.seqFence n).seqProgress o else d

end Sys2Proof.Machine
end

