-- ==== Sys2Proof/Machine/Fwd.lean ====
section
/-! DEFINITION. The forwarding table (R176 to R182), learning (R183 to R187), the sweep (R188 to R191), lock slots (R192 to
R195) and multicast groups (R196 to R198), as operations on the device. -/

namespace Sys2Proof.Machine

/-! ### Entries (R176 to R181) -/

/-- Buckets of the array, and buckets and overflow groups together (R176). -/
def nBuckets : Nat := 262144
def nUnits : Nat := 266240

/-- Word `w` (0 or 1) of entry `e`, entries numbered 4 × bucket + index. -/
def Dev.fw (d : Dev) (e w : Nat) : Nat := d.ftab.get (2 * e + w) 0

/-- Entry `e` written. -/
def Dev.setEntry (d : Dev) (e w0 w1 : Nat) : Dev :=
  { d with ftab := (d.ftab.set (2 * e) 0 w0).set (2 * e + 1) 0 w1 }

/-- Fields of word 0 of an entry (R179). -/
def feValid (w0 : Nat) : Bool := bit w0 63
def feOrigin (w0 : Nat) : Nat := slice w0 61 2
def feHit (w0 : Nat) : Bool := bit w0 60
def feStale (w0 : Nat) : Bool := bit w0 59
def feOwner (w0 : Nat) : Nat := slice w0 50 9
def feGeid (w0 : Nat) : Nat := slice w0 0 24

/-- Fields of a route record (R181). -/
def rtKind (w1 : Nat) : Nat := slice w1 60 4
def rtMirrorEn (w1 : Nat) : Bool := bit w1 59
def rtSession (w1 : Nat) : Nat := slice w1 55 4
def rtBundle (w1 : Nat) : Nat := slice w1 46 9
def rtHome (w1 k : Nat) : Nat := slice w1 (24 - 12 * k) 12

/-- A field of `n` bits at `lo` replaced. -/
def putField (x lo n v : Nat) : Nat := x - slice x lo n * 2 ^ lo + v % 2 ^ n * 2 ^ lo

/-- The bucket of a key under seed `σ` (R177). -/
def fwdHash (σ g : Nat) : Nat := crc32c [σ, g / 2 ^ 16 % 256, g / 2 ^ 8 % 256, g % 256] % 2 ^ 18

def Dev.bucketA (d : Dev) (g : Nat) : Nat := fwdHash (d.get .fwd_ctrl_seed_a) g
def Dev.bucketB (d : Dev) (g : Nat) : Nat := fwdHash (d.get .fwd_ctrl_seed_b) g

/-- The four entries of a bucket or overflow group. -/
def unitEntries (k : Nat) : List Nat := [4 * k, 4 * k + 1, 4 * k + 2, 4 * k + 3]

/-- The entries listed in the table that are valid, ascending. -/
def Dev.validEntries (d : Dev) : List Nat :=
  (d.ftab.entries.filter (fun x => x.1 % 2 == 0 && feValid x.2)).map (fun x => x.1 / 2)

/-- The entry that holds key `g`: both candidate buckets, then the overflow store (R178). -/
def Dev.findEntry (d : Dev) (g : Nat) : Option Nat :=
  (unitEntries (d.bucketA g) ++ unitEntries (d.bucketB g) ++ d.validEntries.filter (fun e => decide (4 * nBuckets ≤ e))).find?
    (fun e => feValid (d.fw e 0) && feGeid (d.fw e 0) == g)

/-- The route record the destination search finds; kind NONE is a miss (R178, R181). -/
def Dev.searchDst (d : Dev) (g : Nat) : Option Nat :=
  match d.findEntry g with
  | some e => if rtKind (d.fw e 1) = 0 then none else some (d.fw e 1)
  | none => none

/-- Valid LEARNED entries owned by port `n` (R187). -/
def Dev.learnCount (d : Dev) (n : Nat) : Nat :=
  (d.validEntries.filter (fun e => feOrigin (d.fw e 0) == 1 && feOwner (d.fw e 0) == n)).length

/-- learn_blocked of port `n` (R187, R203). -/
def Dev.learnBlocked (d : Dev) (n : Nat) : Bool := d.get .fwd_learn_limit n ≤ d.learnCount n

/-- FWD_LEARN_LIMIT for the ports of the list whose learn_blocked has risen since `old` (R187). -/
def Dev.learnRises (d old : Dev) (ps : List Nat) : Dev :=
  ps.eraseDups.foldl (fun d n =>
    if d.learnBlocked n && !old.learnBlocked n then
      d.raise .FWD_LEARN_LIMIT (d.pathPort n) [.h (min (d.learnCount n) 0xFFFF), .h (d.get .fwd_learn_limit n)]
    else d) d

/-! ### Locks (R192 to R195) -/

/-- Whether slot `k` holds a bucket. -/
def Dev.slotHeld (d : Dev) (k : Nat) : Bool := d.flag .fwd_lock_status_held k

/-- Whether some slot holds bucket or overflow group `b`. -/
def Dev.locked (d : Dev) (b : Nat) : Bool :=
  (List.range 64).any (fun k => d.slotHeld k && d.get .fwd_lock_status_bucket k == b)

/-- Results of a lock slot (R204). -/
def lkOK : Nat := 0
def lkBUSY : Nat := 1
def lkSLOT_BUSY : Nat := 2
def lkLOCK_LOST : Nat := 3
def lkMISPLACED : Nat := 4
def lkDUPLICATE : Nat := 5
def lkENCODING : Nat := 6
def lkRANGE : Nat := 7
def lkCOMMIT_SET : Nat := 8

/-- ACQUIRE of bucket `b` on slot `k`, and its result (R192, R195). -/
def Dev.lockAcquire (d : Dev) (k b : Nat) : Dev × Nat :=
  let done := fun (d : Dev) r => (d.set .fwd_lock_status_result k r, r)
  if d.slotHeld k then done d lkSLOT_BUSY
  else
    let free := !d.locked b
    let d := d.set .fwd_lock_status_bucket k b
    if b ≥ nUnits then done d lkRANGE
    else if !free then done d lkBUSY
    else
      let d := d.setMany ((List.range 8).map (fun j => (.fwd_lock_stage_stage, 8 * k + j, d.ftab.get (8 * b + j) 0)))
      let d := d.setMany [(.fwd_lock_status_held, k, 1), (.h_lock_us, k, max 1 (d.get .fwd_lock_ctrl_lock_timeout_us))]
      done d lkOK

/-- RELEASE of slot `k` (R192). -/
def Dev.lockRelease (d : Dev) (k : Nat) : Dev := d.set .fwd_lock_status_held k 0

/-- The staged words of slot `k`. -/
def Dev.staged (d : Dev) (k j : Nat) : Nat := d.get .fwd_lock_stage_stage (8 * k + j)

/-- The staged valid entries of slot `k`, as index, word 0 and word 1. -/
def Dev.stagedValid (d : Dev) (k : Nat) : List (Nat × Nat × Nat) :=
  ((List.range 4).map (fun i => (i, d.staged k (2 * i), d.staged k (2 * i + 1)))).filter (fun x => feValid x.2.1)

/-- Whether a valid entry may be installed (R180). -/
def entryEncodes (w0 w1 : Nat) : Bool :=
  let g := feGeid w0
  (decide (1 ≤ g ∧ g ≤ 0xFDFFFF) || decide (0xFF0000 ≤ g ∧ g ≤ 0xFF3FFF)) && feOrigin w0 < 2 && rtKind w1 < 3

/-- The result of a named slot on its own (R194). -/
def Dev.slotFails (d : Dev) (ks : List Nat) (k : Nat) : Nat :=
  let b := d.get .fwd_lock_status_bucket k
  let own := d.stagedValid k
  let inSet := fun e => ks.any (fun j => d.slotHeld j && d.get .fwd_lock_status_bucket j == e / 4)
  let dup := fun g =>
    decide (1 < ((ks.filter d.slotHeld).map (fun j => ((d.stagedValid j).filter (fun x => feGeid x.2.1 == g)).length)).sum) ||
    (match d.findEntry g with | some e => !inSet e | none => false)
  if !d.slotHeld k then lkLOCK_LOST
  else if own.any (fun x => !entryEncodes x.2.1 x.2.2) then lkENCODING
  else if b < nBuckets ∧ own.any (fun x => d.bucketA (feGeid x.2.1) != b && d.bucketB (feGeid x.2.1) != b) then lkMISPLACED
  else if own.any (fun x => dup (feGeid x.2.1)) then lkDUPLICATE
  else lkOK

/-- The staged word 0 with the hit and stale of the live entry of the same key, when that entry lies in a bucket of the
commit (R193). -/
def Dev.keepAge (d : Dev) (ks : List Nat) (w0 : Nat) : Nat :=
  match d.findEntry (feGeid w0) with
  | some e =>
    if feValid w0 && ks.any (fun j => d.get .fwd_lock_status_bucket j == e / 4)
    then putBit (putBit w0 60 (feHit (d.fw e 0))) 59 (feStale (d.fw e 0)) else w0
  | none => w0

/-- Slot `k` of a commit installed and freed; `live` is the device before the commit. -/
def Dev.installSlot (d live : Dev) (ks : List Nat) (k : Nat) : Dev :=
  let b := live.get .fwd_lock_status_bucket k
  let d := (List.range 4).foldl (fun d i =>
    d.setEntry (4 * b + i) (live.keepAge ks (live.staged k (2 * i))) (live.staged k (2 * i + 1))) d
  d.setMany [(.fwd_lock_status_held, k, 0), (.fwd_lock_status_result, k, lkOK)]

/-- COMMIT of the slots of the mask, with the result of each (R194). -/
def Dev.lockCommit (d : Dev) (ks : List Nat) : Dev × Bool :=
  let fails := ks.map (fun k => (k, d.slotFails ks k))
  if ks.length ≤ 8 ∧ fails.all (fun x => x.2 == lkOK) then
    let d' := ks.foldl (fun a k => a.installSlot d ks k) d
    let ports := ((ks.map (fun k => (unitEntries (d.get .fwd_lock_status_bucket k)))).flatten.map
      (fun e => feOwner (d'.fw e 0)))
    (d'.learnRises d ports, true)
  else
    (fails.foldl (fun d x => d.set .fwd_lock_status_result x.1 (if x.2 = lkOK then lkCOMMIT_SET else x.2)) d, false)

/-- A hold that outlasts its timeout (R195). -/
def Dev.lockTimeout (d : Dev) (k : Nat) : Dev :=
  if d.slotHeld k then
    let d := d.setMany [(.fwd_lock_status_held, k, 0), (.fwd_lock_status_result, k, lkLOCK_LOST)]
    let d := d.count blkDevice .FWD_LOCK_TIMEOUT
    d.raise .FWD_LOCK_TIMEOUT (d.pathDevice ucLOCK_SLOT k) [.h k, .w (d.get .fwd_lock_status_bucket k)]
  else d

/-! ### Learning (R183 to R187) -/

/-- The lowest free entry of a bucket or overflow group. -/
def Dev.freeIn (d : Dev) (k : Nat) : Option Nat := (unitEntries k).find? (fun e => !feValid (d.fw e 0))

/-- Valid entries of a bucket. -/
def Dev.fill (d : Dev) (k : Nat) : Nat := ((unitEntries k).filter (fun e => feValid (d.fw e 0))).length

/-- Where a new key goes (R185). -/
def Dev.placeFor (d : Dev) (g : Nat) : Option Nat :=
  let a := d.bucketA g
  let b := d.bucketB g
  match d.freeIn (if d.fill a ≤ d.fill b then a else b) with
  | some e => some e
  | none => (List.range 4096).findSome? (fun i => if d.locked (nBuckets + i) then none else d.freeIn (nBuckets + i))

/-- Whether the only places left for a new key lie in locked overflow groups (R184). -/
def Dev.placeLocked (d : Dev) : Bool :=
  (List.range 4096).any (fun i => d.locked (nBuckets + i) && (d.freeIn (nBuckets + i)).isSome)

/-- An insertion or move asked of the table engine, whose queue holds 4,096 requests: LEARN_BACKLOG on a full one, else `f`
(R184). -/
def Dev.learnAsk (d : Dev) (n : Nat) (a : Attr) (f : Dev → Dev) : Dev :=
  if d.get .h_learn_q ≥ 4096 then d.count n .LEARN_BACKLOG 1 a else f (d.incr .h_learn_q 0)

/-- The table engine takes requests off its queue in a nanosecond, how many being a free value: the spec states no rate (R184, R191,
log entry 64). -/
def Dev.learnDrain (d : Dev) : Dev :=
  let q := d.get .h_learn_q
  if q = 0 then d else let (v, d) := d.draw; d.set .h_learn_q 0 (v % (q + 1))

/-- What learning does with the frame that carries it: forward, or drop (R186). -/
inductive Learn where
  | pass | drop
  deriving DecidableEq, Repr

/-- The excess mode of a blocked port (R186). -/
def Dev.learnExcess (d : Dev) (n : Nat) (a : Attr) : Dev × Learn :=
  if d.get .fwd_learn_excess_mode n = 0 then (d.count n .LEARN_LIMIT_DROP 1 a, .drop)
  else (d.count n .LEARN_LIMIT_FLOOD 1 a, .pass)

/-- No place is free: FWD_TABLE_FULL, once a second (R185). -/
def Dev.tableFull (d : Dev) (n : Nat) (a : Attr) : Dev × Learn :=
  let sec := d.localNs / 1000000000 + 1
  let d := if d.get .h_full_sec = sec then d
    else (d.set .h_full_sec 0 sec).raise .FWD_TABLE_FULL d.pathDevice
  (d.count n .LEARN_LIMIT_FLOOD 1 a, .pass)

/-- The route record of a learned entry: FORWARD, the port's bundle, the device's own coordinate (R183). -/
def Dev.learnRoute (d : Dev) (n : Nat) : Nat :=
  2 ^ 60 + d.get .port_cfg_bundle n * 2 ^ 46 + d.get .sys_fabric_coord_coord 0 * 2 ^ 24
    + d.get .sys_fabric_coord_coord 1 * 2 ^ 12 + d.get .sys_fabric_coord_coord 2

/-- The source search of a frame from `g` that arrived on DOWN port `n` (R184). A new entry starts as just hit (log
entry 9). -/
def Dev.learn (d : Dev) (n g : Nat) (a : Attr) : Dev × Learn :=
  let bundle := d.get .port_cfg_bundle n
  let lockedAny := d.locked (d.bucketA g) || d.locked (d.bucketB g)
  match d.findEntry g with
  | some e =>
    let w0 := d.fw e 0
    let w1 := d.fw e 1
    if rtBundle w1 = bundle then (d.setEntry e (setBit w0 60) w1, .pass)
    else if feOrigin w0 ≠ 1 then (d.count n .SRC_STATIC_CONFLICT 1 a, .pass)
    else if d.learnBlocked n then d.learnExcess n a
    else if lockedAny || d.locked (e / 4) then (d.count n .LEARN_LOCKED 1 a, .pass)
    else
      (d.learnAsk n a (fun d =>
        let d' := d.setEntry e (setBit (putField w0 50 9 n) 60) (putField w1 46 9 bundle)
        (d'.learnRises d [n]).count n .LEARN_MOVE 1 a), .pass)
  | none =>
    if d.learnBlocked n then d.learnExcess n a
    else if lockedAny then (d.count n .LEARN_LOCKED 1 a, .pass)
    else match d.placeFor g with
      | none => if d.placeLocked then (d.count n .LEARN_LOCKED 1 a, .pass) else d.tableFull n a
      | some e =>
        (d.learnAsk n a (fun d =>
          let d' := d.setEntry e (2 ^ 63 + 2 ^ 61 + 2 ^ 60 + n * 2 ^ 50 + g) (d.learnRoute n)
          (d'.learnRises d [n]).count n .LEARN_NEW 1 a), .pass)

/-- Whether learning runs for a frame that makes a lookup request (R183): role DOWN, a source below the group range, and
not fenced on arrival. -/
def Dev.learns (d : Dev) (n : Nat) (h : Hdr) : Bool :=
  d.role n == roleDOWN && decide (1 ≤ h.src ∧ h.src ≤ 0xFDFFFF) && !d.fenced n

/-! ### The sweep (R188 to R191) -/

/-- The visit of one entry (R188). -/
def Dev.ageEntry (d : Dev) (e : Nat) : Dev :=
  let w0 := d.fw e 0
  let w1 := d.fw e 1
  let gone := fun (d : Dev) => (d.setEntry e 0 0).count blkDevice .AGE_REMOVED
  if !feValid w0 || feOrigin w0 != 1 then d
  else if d.role (feOwner w0) ≠ roleDOWN ∨ d.get .port_cfg_bundle (feOwner w0) ≠ rtBundle w1 then gone d
  else if feHit w0 then d.setEntry e (clrBit (clrBit w0 60) 59) w1
  else if !feStale w0 then d.setEntry e (setBit w0 59) w1
  else gone d

/-- The visit of a bucket or overflow group. -/
def Dev.ageUnit (d : Dev) (k : Nat) : Dev := (unitEntries k).foldl Dev.ageEntry d

/-- The sweep is complete once every bucket was visited and no skipped one is left: it is counted, and the next one
starts at bucket 0 (R189, R190). -/
def Dev.sweepDone (d : Dev) : Dev :=
  if d.get .h_sweep_at = nUnits ∧ d.swSkipped = [] then (d.incr .fwd_sweep_sweep_count 0).set .h_sweep_at 0 0 else d

/-! ### Multicast groups (R196 to R198) -/

/-- Word `w` of group `g`. -/
def Dev.groupWord (d : Dev) (g w : Nat) : Nat := d.groups.get (16 * g + w) 0

/-- Whether a group is valid. -/
def Dev.groupValid (d : Dev) (g : Nat) : Bool := bit (d.groupWord g 8) 63

/-- Whether a group accepts frames of class `c`. -/
def Dev.groupClass (d : Dev) (g c : Nat) : Bool := bit (d.groupWord g 8) (55 + c)

/-- The ports of a group. -/
def Dev.groupPorts (d : Dev) (g : Nat) : List Nat :=
  (List.range 512).filter (fun p => bit (d.groupWord g (p / 64)) (p % 64))

/-- Results of a multicast command (R205). -/
def mcOK : Nat := 0
def mcHELD : Nat := 1
def mcENCODING : Nat := 2
def mcBUSY : Nat := 3

/-- A multicast command issued: READ is 1, WRITE 2 with the words it will install; false while another runs (R198). -/
def Dev.mcIssue (d : Dev) (op g : Nat) (words : List Nat) : Dev × Bool :=
  if d.flag .mcast_cmd_status_busy then (d.set .mcast_cmd_status_result 0 mcBUSY, false)
  else ({ d.setMany [(.mcast_cmd_status_busy, 0, 1), (.h_mc_op, 0, op), (.h_mc_group, 0, g)] with mcWords := words }, true)

/-- MCAST_STAGE. -/
def Dev.mcStage (d : Dev) : List Nat := (List.range 16).map (fun w => d.get .mcast_stage_stage w)

/-- Whether the reserved bits of a group entry are 0 (R196). -/
def groupEncodes (ws : List Nat) : Bool :=
  slice (ws.getD 8 0) 42 13 == 0 && slice (ws.getD 8 0) 16 16 == 0 && (ws.drop 9).all (· == 0)

/-- A group installed: n_ports is computed, hold_count is the device's own (R196). -/
def Dev.installGroup (d : Dev) (g : Nat) (ws : List Nat) : Dev :=
  let n := ((List.range 8).map (fun w => (bitsOf 64 (ws.getD w 0)).length)).sum
  let w8 := putField (putField (ws.getD 8 0) 32 10 n) 0 16 0
  { d with groups := (List.range 16).foldl (fun m w => m.set (16 * g + w) 0 (if w = 8 then w8 else ws.getD w 0)) d.groups }

end Sys2Proof.Machine
end

