-- ==== Sys2Proof/Machine/Switch.lean ====
section
/-! DEFINITION. The path of a frame through the device: destination (R36, R37, R53 to R55, R175, R197), policing (R245 to
R248), mirroring (R224 to R226), wait queues and the enqueue test (R210, R211), random early drop (R219), congestion marks
(R249, R250), echoes (R251, R252), frames the device originates (R207). -/

namespace Sys2Proof.Machine

/-! ### Destinations -/

/-- The device's own GEID (R37). -/
def Dev.ownGeid (d : Dev) : Nat := 0xFF0000 + d.get .sys_fabric_pos_device

/-- The device's plane. -/
def Dev.plane (d : Dev) : Nat := d.get .sys_fabric_pos_plane

/-- GEID ranges (R36). -/
def isEndpoint (g : Nat) : Bool := decide (1 ≤ g ∧ g ≤ 0xFDFFFF)
def isGroup (g : Nat) : Bool := decide (0xFE0000 ≤ g ∧ g ≤ 0xFEFFFF)
def isSpine (g : Nat) : Bool := decide (0xFF0000 ≤ g ∧ g ≤ 0xFF3FFF)

/-- The rank of a port as an ingress: 0 for DOWN and SERVICE, 1 to 3 for AXIS X, Y, Z (R55). -/
def Dev.rank (d : Dev) (n : Nat) : Nat := if d.role n = roleAXIS then d.get .port_cfg_axis n + 1 else 0

/-- Where a frame goes (R175). -/
inductive Route where
  | drop (c : RecCode)
  | internal (out : Nat)
  | bundle (key : Nat)
  | mcast (ports : List Nat)
  deriving DecidableEq, Repr

/-- The answer of the destination search. -/
structure Resolved where
  route : Route
  /-- Copies not made (R197). -/
  pruned : Nat := 0
  /-- A frame flooded (R175). -/
  flood : Bool := false
  /-- The flow-mirror session of the entry hit (R224). -/
  session : Option Nat := none
  deriving DecidableEq, Repr

/-- The internal output of a terminated ftype (R209). -/
def internalOut (t : Nat) : Nat :=
  if 0x10 ≤ t ∧ t ≤ 0x13 then 512 else if 0x08 ≤ t ∧ t ≤ 0x0D then 513 else if t = ftCTRL then 514 else 515

/-- Whether a copy for port `p` of a frame that arrived on `arr` is made (R197). -/
def Dev.mcKeeps (d : Dev) (arr : Option Nat) (p : Nat) : Bool :=
  arr != some p && d.upRole p &&
    (match arr with
     | some a => !(d.role a == roleAXIS && d.role p == roleAXIS && decide (d.rank p ≤ d.rank a))
     | none => true)

/-- Replication to group `g` (R197). -/
def Dev.routeGroup (d : Dev) (arr : Option Nat) (cls g : Nat) : Resolved :=
  if !d.groupValid g then { route := .drop .MC_INVALID }
  else if !d.groupClass g cls then { route := .drop .MC_CLASS }
  else
    let all := d.groupPorts g
    let kept := all.filter (d.mcKeeps arr)
    { route := .mcast kept, pruned := all.length - kept.length }

/-- The bundle of a route record, or the code of R182 (R53). -/
def Dev.selectBundle (d : Dev) (w1 : Nat) : Route :=
  if !d.flag .sys_fabric_size_fabric_mode then .bundle (rtBundle w1)
  else if (List.range 3).any (fun k => d.get .sys_fabric_size_size k ≤ rtHome w1 k) then .drop .ROUTE_INVALID
  else match firstBelow 3 (fun k => rtHome w1 k != d.get .sys_fabric_coord_coord k) with
    | some k => .bundle (512 + 4096 * k + rtHome w1 k)
    | none => .bundle (rtBundle w1)

/-- The order check of R55 at bundle selection. -/
def Dev.orderCheck (d : Dev) (arr : Option Nat) (r : Route) : Route :=
  match r, arr with
  | .bundle key, some a =>
    if d.role a = roleAXIS ∧ 512 ≤ key ∧ (key - 512) / 4096 + 1 ≤ d.rank a then .drop .DOR_VIOLATION else r
  | _, _ => r

/-- The single request of a frame, answered (R17, R37, R175). -/
def Dev.resolve (d : Dev) (arr : Option Nat) (h : Hdr) : Resolved :=
  if h.dst = 0 ∨ 0xFF4000 ≤ h.dst then { route := .drop .GEID_INVALID }
  else if h.dst = d.ownGeid then
    { route := if ftypeTerminated h.ftype then .internal (internalOut h.ftype) else .drop .GEID_INVALID }
  else if isGroup h.dst then d.routeGroup arr h.cls (h.dst - 0xFE0000)
  else match d.searchDst h.dst with
    | some w1 =>
      let s := if rtMirrorEn w1 then some (rtSession w1) else none
      if rtKind w1 = 2 then { route := .drop .ROUTE_DISCARD, session := s }
      else { route := d.orderCheck arr (d.selectBundle w1), session := s }
    | none =>
      if h.ftype = ftDATA ∧ d.flag .fwd_ctrl_flood_enable = true then
        { d.routeGroup arr h.cls (d.get .fwd_ctrl_flood_group) with flood := d.groupValid (d.get .fwd_ctrl_flood_group) }
      else { route := .drop .LOOKUP_MISS }

/-- The event of a drop code (R38, R588). -/
def dropEv : RecCode → Ev
  | .GEID_INVALID => .GEID_INVALID
  | .PLANE_MISMATCH => .PLANE_MISMATCH
  | .HOP_LIMIT => .HOP_LIMIT
  | .DOR_VIOLATION => .DOR_VIOLATION
  | .VALLEY => .VALLEY
  | .HAIRPIN => .HAIRPIN
  | .NO_ROUTE => .NO_ROUTE
  | .LOOKUP_MISS => .LOOKUP_MISS
  | .ROUTE_DISCARD => .ROUTE_DISCARD
  | .ROUTE_INVALID => .ROUTE_INVALID
  | .MC_INVALID => .MC_INVALID
  | .MC_CLASS => .MC_CLASS
  | .CLASS_MISMATCH => .CLASS_MISMATCH
  | .FEATURE_MISSING => .FEATURE_MISSING
  | .SRC_RANGE => .SRC_RANGE
  | .CTRL_FILTERED => .CTRL_FILTERED
  | .ROLE_FILTERED => .ROLE_FILTERED
  | _ => .HDR_INVALID

/-- A drop code counted and recorded: at the arrival port, or as ORIG_DROP with the internal input (R38). -/
def Dev.dropNote (d : Dev) (arr : Option Nat) (inp : Nat) (c : RecCode) (h : Hdr) : Dev :=
  match arr with
  | some n => (d.count n (dropEv c) 1 h.attr).raise c (d.pathPort n)
  | none => (d.count blkDevice .ORIG_DROP).raise c d.pathDevice [.h inp]

/-! ### Mirroring (R224 to R226) -/

/-- Cells charged to the internal inputs 512–516 (R207). -/
def Dev.inputFits (d : Dev) (inp cells : Nat) : Bool :=
  d.inputUsed inp + cells ≤
    (if inp = 516 then d.get .xbar_mirror_res_mirror_reserve else d.get .xbar_int_quota_iq_int (inp - 512))

/-- A frame put in a wait queue, its cells charged (R207, R210, R220). -/
def Dev.addFrame (d : Dev) (f : Frame) : Dev := { d with frames := d.frames ++ [f] }

/-- A frame that enters a wait queue. -/
def Dev.addWait (d : Dev) (f : Frame) (t : Target) : Dev :=
  { d.addFrame f with waits := d.waits ++ [{ fid := f.id, input := f.input, cls := f.hdr.cls, target := t }] }

/-- A frame placed on an egress queue. -/
def Dev.pushEgress (d : Dev) (e : EqEntry) : Dev := { d with egress := d.egress ++ [e] }

/-- A new frame number. -/
def Dev.newFid (d : Dev) : Nat × Dev := (d.nextFid, { d with nextFid := d.nextFid + 1 })

/-- The target of a route, where it has one. -/
def Route.target : Route → Option Target
  | .internal o => some (.internal o)
  | .bundle k => some (.bundle k)
  | .mcast l => some (.mcast l)
  | .drop _ => none

/-- A decision of probability 0 below `mn`, 1 from `mx`, `pm`/256 × (q − mn)/(mx − mn) between; a free value is drawn only
between (R219, R249, log entry 4). -/
def Dev.chance (d : Dev) (q mn mx pm : Nat) : Dev × Bool :=
  if mx ≤ q then (d, true)
  else if q < mn then (d, false)
  else
    let (v, d) := d.draw
    (d, decide (v % 65536 * 256 * (mx - mn) < 65536 * pm * (q - mn)))

/-- The test of R219 of an enqueue on port `out`: RED while the port is in a service mode; a hit is counted. -/
def Dev.redHit (d : Dev) (f : Frame) (out : Nat) : Dev × Bool :=
  let r := 3 * d.get .xbar_port_mode_red_profile out + f.hdr.colour
  let (d, hit) := if d.get .xbar_port_mode_svc_mode out = 0 then (d, false)
    else d.chance (d.outUsed out f.hdr.cls) (d.get .xbar_red_min r) (d.get .xbar_red_max r) (d.get .xbar_red_pmax r)
  if hit then
    (d.count out (if f.hdr.colour = 0 then .RED_DROP_GREEN else if f.hdr.colour = 1 then .RED_DROP_YELLOW else .RED_DROP_RED)
      1 f.hdr.attr, true)
  else (d, false)

/-- A frame placed on port `out`'s queue without a wait queue, under the test of R219 (R226, R401). -/
def Dev.putPort (d : Dev) (f : Frame) (out : Nat) : Dev :=
  match d.redHit f out with
  | (d, true) => d
  | (d, false) => (d.addFrame f).pushEgress { out := out, cls := f.hdr.cls, fid := f.id, cells := f.cells }

/-- A frame of an internal input by the answer of its request into its wait queue; its cells fit (R207). -/
def Dev.routeOwn (d : Dev) (f : Frame) (r : Resolved) : Dev :=
  match r.route with
  | .drop c => d.dropNote none f.input c f.hdr
  | rt => d.addWait { f with mc := (match rt with | .mcast _ => true | _ => false) } (rt.target.getD (.internal 514))

/-- What a capture point offers: the point, the header and payload length there, the arrival port or input, the output port,
the reception whose bytes are still to come, or all bytes. -/
structure Capture where
  point : Nat
  hdr : Hdr
  arrival : Option Nat
  out : Nat := 0
  rid : Option Nat := none
  bytes : List Nat := []
  deriving DecidableEq, Repr

/-- The header of a mirror copy (R226). -/
def Dev.mirrorHdr (d : Dev) (s : Nat) (c : Capture) (ent : Nat) : Hdr :=
  let orig := linkBytes c.hdr.length
  let trunc := d.get .xbar_mir_cfg_trunc_len s
  let now := d.fabricNs
  { ftype := ftMIRROR, cls := 6, order := 1, plane := d.plane, dst := d.get .xbar_mir_dest_dest_geid s,
    src := d.ownGeid, srcSub := s, entropy := ent, length := min trunc orig, w4 := now / 2 ^ 32, w5 := now % 2 ^ 32,
    w6 := orig * 2 ^ 12 + c.point * 2 ^ 10 + b2n (decide (trunc < orig)) * 2 ^ 9 + c.out }

/-- The copy itself: bytes, then its queue or its lookup (R226). The entropy of a copy of a frame that arrived on no port is
a free value (log entry 13). -/
def Dev.mirrorCopy (d : Dev) (s : Nat) (c : Capture) : Dev :=
  let (ent, d) := match c.arrival with
    | some n => (n, d)
    | none => let (v, d) := d.draw; (v % 2 ^ 16, d)
  let h := d.mirrorHdr s c ent
  let (fid, d) := d.newFid
  let f : Frame :=
    { id := fid, input := 516, hdr := h, complete := c.rid.isNone, ofRx := c.rid,
      payload := if c.rid.isNone then c.bytes.take h.length else (c.hdr.words.map (beBytes 4)).flatten }
  let d := d.incr .xbar_mir_stats_sent s
  if d.get .xbar_mir_cfg_dest_kind s = 0 then
    d.putPort f (d.get .xbar_mir_dest_dest_port s)
  else d.routeOwn f (d.resolve none h)

/-- A frame offered to session `s`, told the sessions that already copied it (R224, R225). -/
def Dev.mirrorOffer (d : Dev) (s : Nat) (made : Nat) (c : Capture) : Dev × Nat :=
  if !d.flag .xbar_mir_cfg_enable s || c.hdr.ftype == ftMIRROR || bit made s then (d, made)
  else if d.get .h_mir_cnt s ≠ 0 then (d.set .h_mir_cnt s (d.get .h_mir_cnt s - 1), made)
  else
    let d := d.set .h_mir_cnt s (d.get .xbar_mir_cfg_sample_n_m1 s)
    let cells := cellCost (min (d.get .xbar_mir_cfg_trunc_len s) (linkBytes c.hdr.length))
    let shut := d.get .xbar_mir_cfg_dest_kind s == 0 && d.fenced (d.get .xbar_mir_dest_dest_port s)
    if !d.inputFits 516 cells || shut then (d.incr .xbar_mir_stats_dropped s, made)
    else (d.mirrorCopy s c, setBit made s)

/-- A frame the device originates through its request: offered to the session of the entry it hits, then into its wait queue
(R207, R224). -/
def Dev.launch (d : Dev) (f : Frame) : Dev :=
  let r := d.resolve none f.hdr
  match r.session with
  | some s =>
    let c : Capture := { point := 2, hdr := f.hdr, arrival := none, bytes := frameBytes f.hdr f.payload false }
    let (d, made) := d.mirrorOffer s f.mirrored c
    d.routeOwn { f with mirrored := made } r
  | none => d.routeOwn f r

/-! ### Policers (R245 to R248) -/

/-- The policer of port `n`, class `c`, if one is mapped (R245). -/
def Dev.policer (d : Dev) (n c : Nat) : Option Nat :=
  if d.flag .sched_pol_map_pol_en (8 * n + c) then some (d.get .sched_pol_map_pol_idx (8 * n + c)) else none

/-- Tokens of bucket P or E, and of bucket C, of policer `k` now, in 1/8,000 byte (R246). -/
def Dev.polTokens (d : Dev) (k : Nat) : Nat × Nat :=
  let dt := d.localNs - d.get .h_pol_t k
  let cir := d.get .sched_pol_cfg_cir_mbps k
  let capC := d.get .sched_pol_burst_cbs k * 8000
  let capP := d.get .sched_pol_burst_pbs_ebs k * 8000
  let c := d.get .h_pol_c k + dt * cir
  if d.get .sched_pol_cfg_mode k = 0
  then (min capP (d.get .h_pol_p k + dt * d.get .sched_pol_cfg_pir_mbps k), min capC c)
  else (min capP (d.get .h_pol_p k + (c - capC)), min capC c)

/-- The result of policer `k` for `b` link bytes of incoming colour `inc`: the colour, tokens taken from P or E, and from
C (R246). -/
def polResult (mode tp tc b inc : Nat) : Nat × Nat × Nat :=
  let n := b * 8000
  if mode = 0 then
    if inc = 2 ∨ tp < n then (2, 0, 0)
    else if inc = 1 ∨ tc < n then (1, n, 0)
    else (0, n, n)
  else
    if inc = 0 ∧ n ≤ tc then (0, 0, n)
    else if inc ≠ 2 ∧ n ≤ tp then (1, n, 0)
    else (2, 0, 0)

/-- Policing of a frame that arrived on port `n`: its colour and whether it is dropped (R246, R247). -/
def Dev.police (d : Dev) (n : Nat) (h : Hdr) : Dev × Nat × Bool :=
  match d.policer n h.cls with
  | none => (d, h.colour, false)
  | some k =>
    let (tp, tc) := d.polTokens k
    let inc := if d.flag .sched_pol_cfg_colour_aware k then h.colour else 0
    let (col, up, uc) := polResult (d.get .sched_pol_cfg_mode k) tp tc (linkBytes h.length) inc
    let d := d.setMany [(.h_pol_p, k, tp - up), (.h_pol_c, k, tc - uc), (.h_pol_t, k, d.localNs)]
    if col = 0 then (d, 0, false)
    else if col = 1 then ((d.incr .sched_pol_stats_yellow k).count n .POL_YELLOW 1 h.attr, 1, false)
    else
      let d := (d.incr .sched_pol_stats_red k).count n .POL_RED 1 h.attr
      let drop := d.get .xbar_port_mode_svc_mode n != 0 || d.flag .sched_pol_cfg_drop_red_normal k
      (if drop then d.count n .POL_DROP_RED 1 h.attr else d, 2, drop)

/-! ### The enqueue test (R210, R211, R219, R221, R249, R250) -/

/-- What became of an enqueue. -/
inductive Enq where
  | done | full | red
  deriving DecidableEq, Repr

/-- The enqueue of frame `f` on output `out` (R210 step 3, then R219 and R249 or R250). -/
def Dev.enqueue (d : Dev) (f : Frame) (out : Nat) (pin : Option (Nat × Nat)) : Dev × Enq :=
  let c := f.hdr.cls
  if 512 ≤ out then
    if d.get .xbar_mirror_res_oq_int (out - 512) * 256 ≤ d.outputUsed out then (d, .full)
    else
      let (d, m) := if out < 514
        then d.chance (d.outputUsed out) (d.get .sched_int_mark_min (out - 512)) (d.get .sched_int_mark_max (out - 512))
          (d.get .sched_int_mark_pmax (out - 512))
        else (d, false)
      (d.pushEgress { out := out, cls := c, fid := f.id, cells := f.cells, mark := m }, .done)
  else
    let q := d.outUsed out c
    if d.get .xbar_eq_eq (8 * out + c) ≤ q then (d, .full)
    else
      match d.redHit f out with
      | (d, true) => (d, .red)
      | (d, false) =>
        let k := 8 * out + c
        let (d, m) := if d.bitOf .sched_port_cfg_mark_mask out c
          then d.chance q (d.get .sched_mark_min k) (d.get .sched_mark_max k) (d.get .sched_mark_pmax k) else (d, false)
        let d := if m then d.count out .CMARK_SET 1 f.hdr.attr else d
        (d.pushEgress { out := out, cls := c, fid := f.id, cells := f.cells, pin := pin, mark := m }, .done)

/-! ### The link of a unicast frame (R48 to R52) -/

/-- The choice of a link: dropped, held back by an entry whose old link has not emptied, or chosen. -/
inductive Pick where
  | drop (c : RecCode) | hold (p : Nat) | link (p : Nat) (pin : Option (Nat × Nat))
  deriving DecidableEq, Repr

/-- The place of a pinned frame in the indirection table (R50). -/
def pinIndex (h : Hdr) : Nat := crc32c (beBytes 3 h.src ++ beBytes 3 h.dst ++ beBytes 2 h.entropy) % 256

/-- The first of `cands` after `p`, with wrap-around. -/
def nextAfter (cands : List Nat) (p : Nat) : Nat := (cands.find? (fun n => decide (p < n))).getD (cands.headD 0)

/-- The link of a frame in bundle `key` at the moment of enqueue (R49, R50, R52). -/
def Dev.pickLink (d : Dev) (key : Nat) (f : Frame) : Dev × Pick :=
  let el := d.eligible key
  let feat := el.filter (fun n => d.hasFeature n f.hdr.ftype)
  let cands := feat.filter (fun n => f.arrival != some n)
  if cands.isEmpty then (d, .drop (if feat.isEmpty then .NO_ROUTE else .HAIRPIN))
  else if f.hdr.order = 0 then
    let best := cands.foldl (fun m n => max m (d.credit n f.hdr.cls)) 0
    let tied := cands.filter (fun n => d.credit n f.hdr.cls == best)
    let k := 8 * key + f.hdr.cls
    let p := (tied.find? (fun n => decide (d.rr.get k 0 ≤ n))).getD (tied.headD 0)
    ({ d with rr := d.rr.set k 0 (p + 1) }, .link p none)
  else
    let i := pinIndex f.hdr
    match (d.indir.get key [])[i]? with
    | none => (d, .link (cands.headD 0) (some (key, i)))
    | some e =>
      let p := if cands.contains e.link then e.link else nextAfter cands e.link
      (d, if e.old.isEmpty then .link p (some (key, i)) else .hold p)

/-- A frame leaves its wait queue (R220). -/
def Dev.leaveWait (d : Dev) (fid : Nat) : Dev := { d with waits := d.waits.filter (fun w => w.fid != fid) }

/-- EQ_HOLD of a head that waits for output `out` (R210). -/
def Dev.eqHold (d : Dev) (out : Nat) (h : Hdr) : Dev :=
  if out < 512 then d.count out .EQ_HOLD 1 h.attr else d.count blkDevice .EQ_HOLD_DEV 1 { cls := some h.cls }

/-- A cycle of the head of a unicast wait queue (R210). -/
def Dev.unicastHead (d : Dev) (f : Frame) (key : Nat) : Dev :=
  match d.pickLink key f with
  | (d, .drop c) => ((d.dropNote f.arrival f.input c f.hdr).leaveWait f.id).releaseRef f.id
  | (d, .hold p) => d.eqHold p f.hdr
  | (d, .link p pin) =>
    match d.enqueue f p pin with
    | (d, .done) => d.leaveWait f.id
    | (d, .full) => d.eqHold p f.hdr
    | (d, .red) => ((d.undelivered p f.hdr).leaveWait f.id).releaseRef f.id

/-- A cycle of the head of a multicast wait queue: each copy still to be enqueued is tested (R211, R219, R221). -/
def Dev.mcastHead (d : Dev) (f : Frame) (left : List Nat) : Dev :=
  let r := left.foldl (fun (a : Dev × List Nat) p =>
    let (d, rest) := a
    if d.fenced p then ((d.count p .UMBRA_SKIP 1 f.hdr.attr).undelivered p f.hdr, rest)
    else match d.enqueue f p none with
      | (d, .done) => (d.mapFrame f.id (fun g => { g with refs := g.refs + 1 }), rest)
      | (d, .full) => (d.eqHold p f.hdr, rest ++ [p])
      | (d, .red) => (d.undelivered p f.hdr, rest)) (d, [])
  if r.2.isEmpty then (r.1.leaveWait f.id).releaseRef f.id
  else { r.1 with waits := r.1.waits.map (fun w => if w.fid = f.id then { w with target := .mcast r.2 } else w) }

/-! ### Terminated frames that need no engine -/

/-- The frame at the head of an internal output's class queue, with its mark decision (R209). -/
def Dev.internalHead (d : Dev) (out c : Nat) : Option (Frame × Bool) :=
  match d.egress.find? (fun e => e.out == out && e.cls == c) with
  | some e => (d.frame e.fid).map (fun f => (f, e.mark))
  | none => none

/-- A frame leaves an internal output: its cells are freed (R207). -/
def Dev.takeInternal (d : Dev) (out : Nat) (f : Frame) : Dev :=
  ({ d with egress := d.egress.filter (fun e => !(e.out == out && e.fid == f.id)) } : Dev).releaseRef f.id

/-- Whether a memory response is of a mirror kind (R379). -/
def mirrorKind (h : Hdr) : Bool := h.ftype == ftMEM_RSP && decide (16 ≤ h.size ∧ h.size ≤ 19)

/-- What happens to a terminated frame that no engine row takes, none for the others: ECHO (R253), collective frames of the
downward direction (R273), endpoint responses (R379), TIME of another opcode (R401), CTRL (R147, log entry 11). -/
def Dev.autoTake (d : Dev) (f : Frame) : Option Dev :=
  let h := f.hdr
  let blk := f.arrival.getD blkDevice
  if h.ftype = ftECHO then some (d.count blk .ECHO_RX 1 h.attr)
  else if isCollDown h.ftype then
    let d := d.count blk .COLL_UNEXPECTED 1 { src := some h.src }
    some (d.raise .COLL_UNEXPECTED (match f.arrival with | some n => d.pathPort n | none => d.pathDevice))
  else if (h.ftype = ftMEM_RSP ∧ mirrorKind h = false) ∨ h.ftype = ftGATHER_RSP then some (d.count blkDevice .FMEM_UNEXPECTED)
  else if h.ftype = ftTIME ∧ h.opcode ≠ 1 ∧ h.opcode ≠ 2 then some (d.count blk .TIME_FORMAT 1 { src := some h.src })
  else if h.ftype = ftCTRL then some (d.emit (.ctrl f.arrival h.words f.payload))
  else none

/-- The frames at the heads of the internal outputs that need no engine, taken (fuel: the frames queued). -/
def Dev.drainAuto (d : Dev) : Nat → Dev
  | 0 => d
  | n + 1 =>
    match (List.range 32).findSome? (fun i =>
      match d.internalHead (512 + i / 8) (i % 8) with
      | some (f, _) => if f.complete then (d.autoTake f).map (fun d => d.takeInternal (512 + i / 8) f) else none
      | none => none) with
    | some d' => d'.drainAuto n
    | none => d

/-- The internal outputs after a change. -/
def Dev.settleInternal (d : Dev) : Dev := d.drainAuto d.egress.length

/-! ### Wait queues -/

/-- The head of the wait queue of an input, class and target (R210). -/
def Dev.waitHead (d : Dev) (inp c : Nat) (t : Target → Bool) : Option Wait :=
  d.waits.find? (fun w => w.input == inp && w.cls == c && t w.target)

/-- A cycle of one wait queue (R210, R211). -/
def Dev.serveWait (d : Dev) (w : Wait) : Dev :=
  match d.frame w.fid with
  | none => d.leaveWait w.fid
  | some f =>
    match w.target with
    | .bundle key => d.unicastHead f key
    | .mcast left => d.mcastHead f left
    | .internal out =>
      match d.enqueue f out none with
      | (d, .done) => (d.leaveWait f.id).settleInternal
      | (d, _) => d.eqHold out f.hdr

/-! ### Frames the device originates (R207) -/

/-- A complete frame of internal input `inp` that takes lookup and route selection; none when its cells do not fit, so that
the engine pauses with it (R207, R217). -/
def Dev.originate (d : Dev) (inp : Nat) (h : Hdr) (payload : List Nat) : Option Dev :=
  if !d.inputFits inp (cellCost h.length) then none
  else
    let (fid, d) := d.newFid
    some (d.launch { id := fid, input := inp, hdr := h, payload := payload, complete := true })

/-- A complete frame of internal input `inp` placed on port `n`'s queue without lookup (R401). -/
def Dev.originateAt (d : Dev) (inp n : Nat) (h : Hdr) (payload : List Nat) : Option Dev :=
  if !d.inputFits inp (cellCost h.length) then none
  else
    let (fid, d) := d.newFid
    let f : Frame := { id := fid, input := inp, hdr := h, payload := payload, complete := true }
    some (d.putPort f n)

/-! ### Echoes (R251, R252) -/

/-- The place of a key in the echo table (R251: the hash is not given, log entry 4). -/
def echoPlace (src cls : Nat) : Nat := Config.echoHash (8 * src + cls) % 1024

/-- The echo of a terminated frame, when one is due; `mark` is the decision of R250 (R251, R252). -/
def Dev.echo (d : Dev) (f : Frame) (mark : Bool) : Dev :=
  let h := f.hdr
  let kinds := [ftCOLL_CONTRIB, ftMEM_RD, ftMEM_WR, ftMEM_ATOM, ftGATHER_REQ]
  if !kinds.contains h.ftype || !(h.cmark == 1 || mark) || !d.flag .sched_echo_ctrl_echo_enable then d
  else
    let blk := f.arrival.getD blkDevice
    let lacks := match f.arrival with | some n => !d.bitOf .port_status_agreed_features n 4 | none => false
    let gap := d.get .sched_echo_ctrl_echo_gap_ns
    let place := echoPlace h.src h.cls
    let recent := match d.echoes.getOpt place with
      | some e => e.src == h.src && e.cls == h.cls && decide (d.localNs - e.time < gap)
      | none => false
    let eh : Hdr :=
      { ftype := ftECHO, cls := 7, order := 1, plane := d.plane, dst := h.src, dstSub := h.srcSub, src := d.ownGeid,
        entropy := h.entropy, w4 := h.w4, w5 := h.w5,
        w6 := h.reqid * 2 ^ 12 + h.ftype * 2 ^ 6 + h.cls * 8 + b2n mark * 4 + h.cmark * 2 }
    if lacks then d.count blk .ECHO_SUPPRESSED 1 h.attr
    else if recent then d.count blkDevice .ECHO_COALESCED
    else match d.originate 515 eh [] with
      | none => d.count blkDevice .ECHO_DROP
      | some d =>
        let e : EchoEntry := { src := h.src, cls := h.cls, time := d.localNs }
        ({ d with echoes := d.echoes.set place none (some e) } : Dev).count blkDevice .ECHO_TX

end Sys2Proof.Machine
end

