-- ==== Sys2Proof/Machine/Egress.lean ====
section
/-! DEFINITION. Egress: shapers (R238, R239), time gates (R240 to R244), eligibility and the scheduling decision (R234 to
R237), frames as they leave (R54, R151, R206, R207, R222, R496). -/

namespace Sys2Proof.Machine

/-! ### Shapers (R238, R239) -/

/-- Tokens of the shaper of class `c` on port `n` now, in 1/8,000 byte (R238). -/
def Dev.shaperTokens (d : Dev) (n c : Nat) : Int :=
  let k := 8 * n + c
  let cap : Int := d.get .sched_shaper_burst k * 8000
  if !d.flag .sched_shaper_shape_en k then cap
  else min cap (sgn 48 (d.get .h_shp_tok k) +
    ((d.localNs - d.get .h_shp_t k) * min 400000 (d.get .sched_shaper_rate_mbps k) : Nat))

/-- The tokens stored as of now. -/
def Dev.putTokens (d : Dev) (n c : Nat) (v : Int) : Dev :=
  d.setMany [(.h_shp_tok, 8 * n + c, wrap 48 v), (.h_shp_t, 8 * n + c, d.localNs)]

/-- The counted length of a frame (R238). -/
def Dev.countedLen (d : Dev) (n c len : Nat) : Int :=
  max 1 ((linkBytes len : Int) + sgn 8 (d.get .sched_shaper_overhead (8 * n + c)))

/-! ### Time gates (R240 to R242) -/

/-- Entry `i` of list `l` (0 or 1) of port `n`: gate byte × 2^32 + interval (R244: entry 0 at reset). -/
def gateReset (i : Nat) : Nat := if i = 0 then 0xFF * 2 ^ 32 + 1000000 else 0
def gateKey (n l i : Nat) : Nat := 512 * n + 256 * l + i
def Dev.gate (d : Dev) (n l i : Nat) : Nat := d.gates.get (gateKey n l i) (gateReset i)
def Dev.setGate (d : Dev) (n l i v : Nat) : Dev := { d with gates := d.gates.set (gateKey n l i) (gateReset i) v }

/-- Gate byte and interval of an entry. -/
def gateByte (v : Nat) : Nat := slice v 32 8
def gateNs (v : Nat) : Nat := slice v 0 32

/-- The active list of port `n`. -/
def Dev.activeList (d : Dev) (n : Nat) : Nat := d.get .sched_gate_status_active_list n

/-- The entries of list `l`, the first `k`. -/
def Dev.gateList (d : Dev) (n l k : Nat) : List Nat := (List.range k).map (d.gate n l)

/-- The index of the entry that holds offset `off`, and how far into it the offset lies. -/
def gateFind : List Nat → Nat → Nat → Nat × Nat
  | [], _, i => (i - 1, 0)
  | v :: r, off, i => if off < gateNs v ∨ r = [] then (i, off) else gateFind r (off - gateNs v) (i + 1)

/-- The entry of the active list in force now, and how far into it fabric time is (R240). -/
def Dev.gateNow (d : Dev) (n : Nat) : Nat × Nat :=
  let off := ((d.fabricNs : Int) - (d.get .h_gate_base n : Int)) % (max 1 (d.get .h_gate_cycle n) : Nat)
  gateFind (d.gateList n (d.activeList n) (d.get .h_gate_n n)) off.toNat 0

/-- ns until the first entry of `l` in which bit `c` is 0; none when there is none. -/
def gateClose (c : Nat) : List Nat → Nat → Option Nat
  | [], _ => none
  | v :: r, t => if bit (gateByte v) c then gateClose c r (t + gateNs v) else some t

/-- The entries from entry `i` on, once round the list. -/
def rotate (l : List Nat) (i : Nat) : List Nat := l.drop i ++ l.take i

/-- Whether the guard band lets class `c` of port `n` start now, its gate being open (R241): no close before
t + 83 ns + guard_extra_ns, counting a pending list's swap. -/
def Dev.guardOk (d : Dev) (n c : Nat) : Bool :=
  let guard := 83 + d.get .sched_gate_ctrl_guard_extra_ns n
  let act := d.gateList n (d.activeList n) (d.get .h_gate_n n)
  let (i, into) := d.gateNow n
  let close := (gateClose c (rotate act i) 0).map (fun t => t - into)
  let swap := d.get .h_gate_swap n - d.fabricNs
  if d.flag .sched_gate_status_pending n && decide (swap < guard) && (match close with | some t => decide (swap ≤ t) | none => true) then
    match gateClose c (d.gateList n (1 - d.activeList n) (d.get .sched_gate_admin_n_entries n)) 0 with
    | some t => decide (guard ≤ swap + t)
    | none => true
  else match close with
    | some t => decide (guard ≤ t)
    | none => true

/-- Whether the gate of class `c` on port `n` is open (R240). -/
def Dev.gateOpen (d : Dev) (n c : Nat) : Bool :=
  !d.flag .sched_gate_ctrl_gate_en n || bit (gateByte (d.gate n (d.activeList n) (d.gateNow n).1)) c

/-- Entry and gate byte of port `n` now in force (R240, R259). -/
def Dev.gateView (d : Dev) (n : Nat) : Nat × Nat :=
  if d.flag .sched_gate_ctrl_gate_en n then
    let i := (d.gateNow n).1
    (i, gateByte (d.gate n (d.activeList n) i))
  else (d.get .sched_gate_status_entry n, 0xFF)

/-- The status registers brought to the entry now in force; every gate is open while gate_en is 0 (R240, R242). -/
def Dev.gateShow (d : Dev) (n : Nat) : Dev :=
  d.setMany [(.sched_gate_status_entry, n, (d.gateView n).1), (.sched_gate_status_gate_state, n, (d.gateView n).2)]

/-- A step of fabric time, counted at every port: the gates find their entry anew (R242). -/
def Dev.gateTimeStep (d : Dev) : Dev :=
  (List.range 512).foldl (fun d n => if d.flag .sched_gate_ctrl_gate_en n then d.gateShow n else d)
    (d.countBlocks Ev.GATE_TIME_STEP.num (· < 512))

/-! ### Eligibility and the decision (R234 to R237) -/

/-- The head of the class queue of a port. -/
def Dev.portHead (d : Dev) (n c : Nat) : Option (EqEntry × Frame) :=
  match d.egress.find? (fun e => e.out == n && e.cls == c) with
  | some e => (d.frame e.fid).map (fun f => (e, f))
  | none => none

/-- Whether received PFC holds class `c` of a bound port (R554). -/
def Dev.pfcHeld (d : Dev) (n c : Nat) : Bool :=
  match d.boundSvc n with
  | some s => d.bitOf .kcl_svc_status_paused s (d.pcp s c)
  | none => false

/-- Whether class `c` of port `n` has credit for its head (R234; ANALYSIS ports send without, R161). -/
def Dev.creditOk (d : Dev) (n c : Nat) (f : Frame) : Bool :=
  !d.pfcHeld n c && (d.role n == roleANALYSIS || decide (f.cells ≤ d.credit n c))

/-- Whether the shaper lets class `c` start (R238). -/
def Dev.shaperOk (d : Dev) (n c : Nat) : Bool :=
  !d.flag .sched_shaper_shape_en (8 * n + c) || decide (0 ≤ d.shaperTokens n c)

/-- What holds a class with a waiting frame: nothing, credit, its shaper or closed gate, or the guard alone. -/
inductive Held where
  | empty | free | credit | shaped | guard
  deriving DecidableEq, Repr

/-- The state of class `c` of port `n` at a decision (R234, R241). -/
def Dev.classState (d : Dev) (n c : Nat) : Held :=
  match d.portHead n c with
  | none => .empty
  | some (_, f) =>
    if !d.creditOk n c f then .credit
    else if !d.shaperOk n c || !d.gateOpen n c then .shaped
    else if d.flag .sched_gate_ctrl_gate_en n && !d.guardOk n c then .guard
    else .free

/-- Whether class `c` of port `n` is STRICT (R236). -/
def Dev.strict (d : Dev) (n c : Nat) : Bool := d.bitOf .sched_port_cfg_strict_mask n c

/-- The link bytes of the head of a class (R236). -/
def Dev.headLen (d : Dev) (n c : Nat) : Nat :=
  match d.portHead n c with
  | some (_, f) => linkBytes f.hdr.length
  | none => 0

/-- The deficit of class `c` of port `n` (R237). -/
def Dev.deficitOf (d : Dev) (n c : Nat) : Nat := d.deficits.get (8 * n + c) 0
def Dev.setDeficit (d : Dev) (n c v : Nat) : Dev := { d with deficits := d.deficits.set (8 * n + c) 0 v }

/-- One step of the procedure of R237 at class `c`: the class that sends, or the state carried on. -/
def Dev.dwrrStep (d : Dev) (n c : Nat) (elig : Nat → Bool) (empty : Nat → Bool) : Dev × Bool :=
  let fresh := d.bitOf .h_sch_fresh n c
  let on := !d.strict n c && elig c
  let d := if on && fresh then
    (d.setDeficit n c (d.deficitOf n c + max 256 (d.get .sched_quantum_quantum (8 * n + c)))).putB .h_sch_fresh n c false else d
  if on && decide (d.headLen n c ≤ d.deficitOf n c) then
    ((d.setDeficit n c (d.deficitOf n c - d.headLen n c)).set .h_sch_ptr n c, true)
  else
    let d := if empty c then d.setDeficit n c 0 else d
    (d.putB .h_sch_fresh n c true, false)

/-- The passes of R237 from class `c`, eight steps each (fuel: an eligible class gains at least 256 a pass, and a frame is at
most 8,227 bytes). -/
def Dev.dwrr (d : Dev) (n : Nat) (elig empty : Nat → Bool) : Nat → Nat → Dev × Option Nat
  | 0, _ => (d, none)
  | fuel + 1, c =>
    match d.dwrrStep n c elig empty with
    | (d, true) => (d, some c)
    | (d, false) => d.dwrr n elig empty fuel ((c + 1) % 8)

/-- The decision (R235, R237): the class that sends, none when no class is eligible. -/
def Dev.pickClass (d : Dev) (n : Nat) : Dev × Option Nat :=
  let st := (List.range 8).map (d.classState n)
  let elig := fun c => st.getD c .empty == Held.free
  let empty := fun c => st.getD c .empty == Held.empty
  let d := (List.range 8).foldl (fun d c =>
    if st.getD c .empty == Held.guard then d.count n .GATE_GUARD_HOLD 1 { cls := some c } else d) d
  match [7, 6, 5, 4, 3, 2, 1, 0].find? (fun c => d.strict n c && elig c) with
  | some c => (d, some c)
  | none =>
    if (List.range 8).any elig then d.dwrr n elig empty 288 (d.get .h_sch_ptr n) else (d, none)

/-! ### Frames that leave -/

/-- What a read of a cell met (R206). -/
inductive Cell where
  | ok | corrected | bad (addr : Nat)
  deriving DecidableEq, Repr

/-- The result of a read of a frame's cells (R206). -/
def cellOf : CellRead → Cell
  | .ok => .ok
  | .corrected => .corrected
  | .uncorrectable a => .bad a.val

/-- The header of a copy as it leaves port `n` (R54, R146, R226). -/
def Dev.outHdr (d : Dev) (n : Nat) (h : Hdr) (mark : Bool) : Hdr :=
  let hops := if d.role n = roleAXIS then (h.hops + 1) % 16 else if d.role n = roleDOWN ∨ d.role n = roleSERVICE then 15 else h.hops
  { h with hops := hops, cmark := if mark then 1 else h.cmark }

/-- A frame whose cells hold an uncorrectable error: copies already leaving are stomped, the rest is dropped (R206). -/
def Dev.cellUncorr (d : Dev) (fid addr : Nat) : Dev :=
  ((d.count blkDevice .CELL_UNCORR).raise .CELL_UNCORR d.pathDevice [.w addr]).spoil fid

/-- All bytes of a complete frame at an EGRESS capture, or those of its header while it arrives. -/
def egressCapture (n : Nat) (f : Frame) (h : Hdr) : Capture :=
  { point := 1, hdr := h, arrival := f.arrival, out := n, rid := if f.complete then none else some f.id,
    bytes := if f.complete then frameBytes h f.payload false else [] }

/-- The EGRESS capture of a copy at dequeue (R224). -/
def Dev.egressMirror (d : Dev) (n : Nat) (f : Frame) (h : Hdr) : Dev :=
  if d.flag .xbar_port_mirror_egr_en n then
    let (d, made) := d.mirrorOffer (d.get .xbar_port_mirror_egr_session n) f.mirrored (egressCapture n f h)
    d.mapFrame f.id (fun g => { g with mirrored := made })
  else d

/-- A queue entry leaves the egress queue of its port. -/
def removeEntry (e : EqEntry) : List EqEntry → List EqEntry
  | [] => []
  | x :: r => if x = e then r else x :: removeEntry e r

/-- A TIME frame of the device gets its transmit timestamp as it leaves: t1 of a REQ, t3 of a RESP (R402). -/
def Dev.stampTime (d : Dev) (n : Nat) (f : Frame) : Dev :=
  if f.hdr.ftype = ftTIME ∧ f.input = 515 then
    let t := d.fabric32 / 2 ^ 24 % 2 ^ 64
    let off := if f.hdr.opcode = 1 then 0 else 16
    let d := d.mapFrame f.id (fun (g : Frame) => { g with payload := g.payload.take off ++ beBytes 8 t ++ g.payload.drop (off + 8) })
    (List.range 2).foldl (fun d k =>
      let port := if k = 0 then d.get .time_parent_parent_port else d.get .time_parent_alt_port
      if f.hdr.opcode = 1 ∧ d.flag .h_treq_out k ∧ port = n ∧ d.get .h_treq_seq k = f.hdr.reqid then d.set .h_treq_t1 k t else d) d
  else d

/-- Class `c` of port `n` starts its head: credit and tokens are taken, the copy's header is made (R155, R156, R238). -/
def Dev.startHead (d : Dev) (n c : Nat) (cell : Cell) : Dev :=
  match d.portHead n c with
  | none => d
  | some (e, f) =>
    match cell with
    | .bad a => d.cellUncorr f.id a
    | _ =>
      let d := if cell = .corrected then d.count blkDevice .CELL_CORR else d
      let h := d.outHdr n f.hdr e.mark
      let d := d.stampTime n f
      let d := { d with egress := removeEntry e d.egress, sending := d.sending.set n none (some { fid := f.id, cls := c, hdr := h }) }
      let d := if d.role n = roleANALYSIS then d else d.incr .port_credit_sent (8 * n + c) f.cells
      let d := if d.flag .sched_shaper_shape_en (8 * n + c) then d.putTokens n c (d.shaperTokens n c - d.countedLen n c h.length * 8000)
        else d
      d.egressMirror n ((d.frame f.id).getD f) h

/-- Whether a passed frame waits to leave the service port that stands in for port `n`, ahead of its fabric frames (R555). -/
def Dev.passWaits (d : Dev) (n : Nat) : Bool :=
  match d.boundSvc n with
  | some s => !(d.svcFifo.get s []).isEmpty
  | none => false

/-- One decision of port `n` (R235): nothing while it sends, is fenced, or is not up. -/
def Dev.schedule (d : Dev) (n : Nat) (cell : Cell) : Dev :=
  if (d.sending.getOpt n).isSome || d.fenced n || d.passWaits n || !(d.linkStatus n == lsADMITTED || d.linkStatus n == lsTX_ONLY) then d
  else match d.pickClass n with
    | (d, some c) => d.startHead n c cell
    | (d, none) => d

/-- The last byte of the frame that port `n` sends has left: the copy is out, its holder goes (R207, R220, R490, R496);
on an ANALYSIS port it may have met a dark slot (R114). -/
def Dev.txEnd (d : Dev) (n : Nat) (cell : Cell) : Dev :=
  match d.sending.getOpt n with
  | none => d
  | some s =>
    match d.frame s.fid with
    | none => d.unitEnd n
    | some f =>
      if !f.complete then d
      else
        let d := match cell with
          | .ok => d
          | .corrected => d.count blkDevice .CELL_CORR
          | .bad a => d.cellUncorr s.fid a
        let stomp := match d.sending.getOpt n with | some s => s.stomp | none => s.stomp
        let len := linkBytes s.hdr.length
        let svc := d.boundSvc n
        let eth := match svc with | some k => d.ethFrame k s.cls (frameBytes s.hdr f.payload stomp) | none => []
        let d := match svc with
          | some k => d.emit (.eth k eth)
          | none => d.emit (.frame n s.hdr.words f.payload stomp)
        let d := (d.count n .TX_FRAMES 1 s.hdr.attr).count n .TX_BYTES len s.hdr.attr
        let d := if d.analysisDark n then d.count n .ANALYSIS_DARK else d
        let d := d.winAdd .h_win_tx_bytes 4 n len
        let d := d.slots n (b2n stomp) (if svc.isSome then ethSlots eth.length else len / 4)
        (d.unitEnd n).releaseRef s.fid

/-- One entry of a fenced port's egress queues discarded (R222). -/
def Dev.fencedDrain (d : Dev) (n c : Nat) : Dev :=
  if !d.fenced n then d
  else match d.portHead n c with
    | none => d
    | some (e, f) =>
      let d := d.count n (if f.mc then .UMBRA_DISCARD else .FENCED_DISCARD) 1 f.hdr.attr
      (({ d with egress := removeEntry e d.egress } : Dev).undelivered n f.hdr).releaseRef f.id

end Sys2Proof.Machine
end

