-- ==== Sys2Proof/Machine/Clock.lean ====
section
/-! DEFINITION. The time unit below its commands: steps and rate changes (R398, R399), states (R405), degraded time (R415),
the parent (R404, R408, R409), the servo (R406), exchanges (R401 to R403). -/

namespace Sys2Proof.Machine

/-! ### Units

An offset o is held in 1/512,000 ns, in which R403 is exact; freq_int in 1/16,384,000 ppb, in which R406 is exact. -/

/-- 1 ns in units of o. -/
def oUnit : Nat := 512000
/-- 1 ppb in units of freq_int. -/
def fUnit : Nat := 16384000

/-! ### Steps, rate and states -/

/-- Time states (R405). -/
def tsFREE : Nat := 0
def tsACQUIRE : Nat := 1
def tsLOCKED : Nat := 2
def tsHOLDOVER : Nat := 3
def tsGRANDMASTER : Nat := 4

def Dev.tstate (d : Dev) : Nat := d.get .time_status_time_state

/-- Every port's window becomes partial (R495). -/
def Dev.partialAll (d : Dev) : Dev :=
  (List.range 512).foldl (fun d n => if d.quadOn n then d.set .h_win_partial n 1 else d) d

/-- The offset in 2^−32 ns, modulo 2^96. -/
def Dev.offset32 (d : Dev) : Nat := d.get .time_offset_ns_offset_ns * 2 ^ 32 + d.get .time_offset_frac_offset_frac

/-- The offset becomes `x` (in 2^−32 ns, modulo 2^96). -/
def Dev.putOffset (d : Dev) (x : Int) : Dev :=
  let y := (x % 2 ^ 96).toNat
  d.setMany [(.time_offset_ns_offset_ns, 0, y / 2 ^ 32), (.time_offset_frac_offset_frac, 0, y % 2 ^ 32)]

/-- A step of fabric time by `x` × 2^−32 ns (R399): counted, recorded with its signed size, felt by gates and windows. `at'`:
the port, where an exchange caused it (R418). -/
def Dev.timeStep (d : Dev) (x : Int) (at' : List Item) : Dev :=
  let d := (d.putOffset (d.offset32 + x)).incrSat .time_status_step_count 0
  ((d.raise .TIME_STEP d.pathDevice (.d (wrap 64 (ratioRound x (2 ^ 32))) :: at')).gateTimeStep).partialAll

/-- A rate asked for, in 2^−16 ppb, clamped, counted and recorded where it was (R398), with the port where an exchange asked for
it (R418); fabric time stays continuous (R399). -/
def Dev.putRate (d : Dev) (r : Int) (at' : List Item) : Dev :=
  let lim : Int := 13107200000
  let new := max (-lim) (min r lim)
  let d := if new = r then d
    else
      let d := d.count blkDevice .TIME_RATE_CLAMP
      let now := d.localNs + 1
      let last := d.get .h_clamp_sec
      if last ≠ 0 ∧ now < last + 1000000000 then d else (d.set .h_clamp_sec 0 now).raise .TIME_RATE_CLAMP d.pathDevice at'
  let adj := ratioRound ((d.localNs : Int) * (d.rate - new) * 2 ^ 32) 65536000000000
  let d := if new = d.rate then d else d.putOffset (d.offset32 + adj)
  d.set .time_rate_rate 0 (wrap 48 new)

/-- The servo integrator. -/
def Dev.freqInt (d : Dev) : Int := sgn 128 (d.get .h_freq_int)

/-- A rate in units of freq_int. -/
def Dev.putRateF (d : Dev) (f : Int) (at' : List Item) : Dev := d.putRate (ratioRound (f * 65536) fUnit) at'

/-- The device's own gm_id, and the gm_id in force: its own in GRANDMASTER (R402, R404). -/
def Dev.ownGm (d : Dev) : Nat := d.get .sys_fabric_pos_hall % 256 * 2 ^ 14 + d.get .sys_fabric_pos_device
def Dev.gmId (d : Dev) : Nat := if d.tstate = tsGRANDMASTER then d.ownGm else d.get .time_status_gm_id

/-- The degraded condition (R415). -/
def Dev.degradedNow (d : Dev) : Bool :=
  let st := d.tstate
  st == tsFREE || st == tsACQUIRE || decide (d.get .time_align_align_limit_ms < d.get .time_status_holdover_age * 100) ||
    (st == tsLOCKED && d.flag .h_tp_deg (d.get .h_parent_sel - 1))

/-- The degraded bit follows its condition. -/
def Dev.refreshDegraded (d : Dev) : Dev := d.set .time_status_degraded 0 (b2n d.degradedNow)

/-- time_state changes: a record with the old state, the new one and a cause, for which the spec gives no codes (R405, log
entry 4), and the port where an exchange caused it (R418); what entering ACQUIRE, HOLDOVER, GRANDMASTER sets. ACQUIRE keeps the
integrator it starts from (R405, log entry 67). -/
def Dev.toState (d : Dev) (new : Nat) (at' : List Item := []) : Dev :=
  let old := d.tstate
  if new = old then d
  else
    let (c, d) := d.draw
    let d := (d.set .time_status_gm_id 0 d.gmId).set .time_status_time_state 0 new
    let d := d.raise .TIME_STATE d.pathDevice ([.h old, .h new, .h c] ++ at')
    let d := if new = tsLOCKED ∨ new = tsGRANDMASTER then d.set .h_ever_lock 0 1 else d
    let d := if new = tsACQUIRE then
        d.setMany [(.h_acq_n, 0, 0), (.h_acq_sum, 0, 0), (.h_acq_freq, 0, d.get .h_freq_int), (.h_lock_n, 0, 0),
          (.h_bad_n, 0, 0), (.h_gm_hold, 0, 0)]
      else if new = tsHOLDOVER then
        (d.setMany [(.time_status_holdover_age, 0, 0), (.time_status_upstream_holdover, 0, 0),
          (.h_gm_hold, 0, b2n (old == tsGRANDMASTER)), (.h_pps_last, 0, 0)]).putRateF d.freqInt at'
      else if new = tsGRANDMASTER then
        d.setMany [(.time_status_holdover_age, 0, 0), (.time_status_upstream_holdover, 0, 0), (.time_status_steps_removed, 0, 0),
          (.h_gm_hold, 0, 0)]
      else if new = tsLOCKED then d.set .h_bad_n 0 0
      else d
    d.refreshDegraded

/-! ### The parent (R404, R408, R409) -/

/-- The parent port, k = 0, or the alternate, k = 1, and whether it is in use. -/
def Dev.tport (d : Dev) (k : Nat) : Nat := if k = 0 then d.get .time_parent_parent_port else d.get .time_parent_alt_port
def Dev.tportEn (d : Dev) (k : Nat) : Bool := if k = 0 then d.flag .time_parent_parent_en else d.flag .time_parent_alt_en

/-- Whether exchanges run on a port: admitted, unfenced, with TIME agreed (R65, R409). -/
def Dev.tportUp (d : Dev) (k : Nat) : Bool :=
  d.tportEn k && d.admitted (d.tport k) && !d.fenced (d.tport k) && d.hasFeature (d.tport k) ftTIME

/-- The conditions of R404. -/
def Dev.tEligible (d : Dev) (k : Nat) : Bool :=
  let n := d.tport k
  d.tportUp k && (d.role n == roleDOWN || d.role n == roleAXIS) &&
    decide (d.get .time_meas_lost_run k < 16) && d.flag .h_tp_valid k &&
    decide (2 ≤ d.get .h_tp_state k ∧ d.get .h_tp_state k ≤ 4 ∧ d.get .h_tp_steps k ≤ 14)

/-- What the parent last reported becomes the device's own steps_removed, gm_id and holdover_age (R404, R407). -/
def Dev.adopt (d : Dev) (k : Nat) : Dev :=
  (d.setMany [(.time_status_steps_removed, 0, min 255 (d.get .h_tp_steps k + 1)), (.time_status_gm_id, 0, d.get .h_tp_gm k),
    (.time_status_holdover_age, 0, d.get .h_tp_age k), (.time_status_upstream_holdover, 0, b2n (d.get .h_tp_age k != 0))]).refreshDegraded

/-- A REQ of port k that is out stays without an accepted RESP (R403). -/
def Dev.reqDropped (d : Dev) (k : Nat) : Dev :=
  if d.flag .h_treq_out k then (d.set .h_treq_out k 0).count (d.tport k) .TIME_EX_LOST else d

/-- A port in use that is fenced or leaves ADMITTED: its exchanges stop, its lost count is 16 at once (R409). -/
def Dev.tportCheck (d : Dev) (k : Nat) : Dev :=
  let ok := d.admitted (d.tport k) && !d.fenced (d.tport k)
  let d := if d.flag .h_tp_ok k && !ok then (d.reqDropped k).set .time_meas_lost_run k 16 else d
  (d.set .h_tp_ok k (b2n (ok && d.tportEn k))).set .time_meas_eligible k (b2n (d.tEligible k))

/-- What the two ports show now, and what follows from it for the state (R404, R405, R408, R409) and for degraded time (R415). -/
def Dev.timeCheck (d : Dev) (at' : List Item := []) : Dev :=
  let d := ((d.tportCheck 0).tportCheck 1).refreshDegraded
  let sel := d.get .h_parent_sel
  let ok := sel != 0 && d.tEligible (sel - 1)
  let st := d.tstate
  if st = tsACQUIRE ∨ st = tsLOCKED then
    if ok then d else (d.set .h_parent_sel 0 0).toState tsHOLDOVER at'
  else if (st = tsFREE ∨ st = tsHOLDOVER) ∧ ok ∧ d.flag .time_ctrl_servo_en then (d.toState tsACQUIRE at').adopt (sel - 1)
  else d

/-! ### The servo (R405, R406) -/

/-- The clamped slew of an o (R406), in 1/(512,000 × 2^12) ns. -/
def Dev.slew (d : Dev) (o : Int) : Int :=
  let lim : Int := (d.get .time_servo_slew_max_ns : Int) * oUnit * 4096
  max (-lim) (min lim (o * 2 ^ (12 - d.get .time_servo_kp_shift)))

/-- One update of the servo with `o`; the slew term is slew × 1,024 ppb per ns for exchanges, slew for PPS (R406, R410). -/
def Dev.servo (d : Dev) (o : Int) (pps : Bool) (at' : List Item) : Dev :=
  let f := d.freqInt + o * 2 ^ (15 - d.get .time_servo_ki_shift)
  let d := d.set .h_freq_int 0 (wrap 128 f)
  let s := d.slew o
  let num := f * 128 + s * (if pps then 1 else 1024)
  d.putRate (ratioRound (num * 65536) (fUnit * 128)) at'

/-- The 16th exchange of ACQUIRE in `d'`, with the sum of their o: where the average is beyond step_threshold_ns and steps are
allowed, fabric time is stepped by it and the servo starts from there, with the integrator it entered ACQUIRE with (R405, log
entry 67). -/
def Dev.acqStep (d : Dev) (sum : Int) (at' : List Item) : Dev :=
  if d.get .time_servo_step_threshold_ns * oUnit * 16 < sum.natAbs ∧ d.flag .time_ctrl_step_en then
    let d := d.setMany [(.h_lock_n, 0, 0), (.h_freq_int, 0, d.get .h_acq_freq)]
    (d.putRateF d.freqInt at').timeStep (ratioRound (sum * 2 ^ 32) (oUnit * 16)) at'
  else d

/-- An accepted exchange of the parent reaches the servo (R405, R406). -/
def Dev.exchange (d : Dev) (o : Int) (at' : List Item) : Dev :=
  let near := decide (o.natAbs ≤ d.get .time_servo_lock_ns * oUnit)
  if d.tstate = tsACQUIRE then
    let d := d.set .h_lock_n 0 (if near then min 256 (d.get .h_lock_n + 1) else 0)
    let n := d.get .h_acq_n
    let sum := sgn 128 (d.get .h_acq_sum) + o
    let d := d.servo o false at'
    let d := if n < 16 then d.setMany [(.h_acq_n, 0, n + 1), (.h_acq_sum, 0, wrap 128 sum)] else d
    let d := if n = 15 then d.acqStep sum at' else d
    if d.get .h_lock_n ≥ 256 then d.toState tsLOCKED at' else d
  else if d.tstate = tsLOCKED then
    let d := d.set .h_bad_n 0 (if 50 * oUnit < o.natAbs then d.get .h_bad_n + 1 else 0)
    let d := d.servo o false at'
    if d.get .h_bad_n ≥ 16 then d.toState tsACQUIRE at' else d
  else d

/-! ### Exchanges (R401 to R403) -/

/-- Words 6 and 7 of a TIME payload (R402). -/
def Dev.timeTail (d : Dev) : List Nat :=
  beBytes 4 (d.tstate * 2 ^ 24 + d.get .time_status_steps_removed * 2 ^ 16 + d.get .time_status_holdover_age * 2 ^ 8
    + d.get .time_status_degraded) ++ beBytes 4 d.gmId

/-- The header of a TIME frame on port `n` (R401). -/
def Dev.timeHdr (d : Dev) (n seq op : Nat) : Hdr :=
  let id := d.get .port_nbr_0_nbr_id n
  ({ ftype := ftTIME, cls := 7, order := 1, plane := d.plane,
     dst := if d.get .port_nbr_0_nbr_kind n = 2 then 0xFF0000 + id % 2 ^ 14 else id, src := d.ownGeid, length := 32 } : Hdr).withReq seq op 0

/-- A REQ on the parent port or the alternate (R401); one that finds no room is not sent and not awaited. -/
def Dev.timeReq (d : Dev) (k : Nat) : Dev :=
  if !d.flag .time_ctrl_servo_en || !d.tportUp k then d
  else
    let seq := (d.get .h_treq_seq k + 1) % 2 ^ 20
    match d.originateAt 515 (d.tport k) (d.timeHdr (d.tport k) seq 1) (List.replicate 24 0 ++ d.timeTail) with
    | some d => d.setMany [(.h_treq_seq, k, seq), (.h_treq_out, k, 1)]
    | none => d

/-- The TIME frame at the head of output 515, of an opcode. -/
def Dev.timeHead (d : Dev) (op : Nat) : Option (Frame × Nat) :=
  match d.internalHead 515 7 with
  | some (f, _) => match f.arrival with
    | some n => if f.complete ∧ f.hdr.ftype = ftTIME ∧ f.hdr.opcode = op then some (f, n) else none
    | none => none
  | none => none

/-- A REQ is answered on the port it came from (R401, R402); while the answer finds no room, the engine pauses with the REQ
(R207). -/
def Dev.timeAnswer (d : Dev) : Dev :=
  match d.timeHead 1 with
  | none => d
  | some (f, n) =>
    let paused := d
    let d := d.takeInternal 515 f
    let sec := d.localNs / 1000000000
    let d := if d.get .h_treq_sec n = sec then d else d.setMany [(.h_treq_sec, n, sec), (.h_treq_n, n, 0)]
    if d.get .h_treq_n n ≥ 2048 then d.count n .TIME_REQ_EXCESS 1 { src := some f.hdr.src }
    else
      let d := d.incr .h_treq_n n
      let role := d.role n
      if !(role == roleDOWN || role == roleAXIS || role == roleSERVICE) || !d.hasFeature n ftTIME then d
      else
        let p := f.payload.take 8 ++ beBytes 8 f.stamp ++ List.replicate 8 0 ++ d.timeTail
        (d.originateAt 515 n (d.timeHdr n f.hdr.reqid 2) p).getD paused

/-- The difference of two timestamps, signed (R402). -/
def stampDiff (a b : Nat) : Int := sgn 64 (a + 2 ^ 64 - b % 2 ^ 64)

/-- A RESP that matches the last REQ of its port is an accepted exchange (R403, R404). -/
def Dev.respTaken (d : Dev) (k n : Nat) (f : Frame) : Dev :=
  let p := f.payload
  let w (i len : Nat) : Nat := beNat ((p.drop i).take len)
  let a := stampDiff (w 8 8) (d.get .h_treq_t1 k)
  let b := stampDiff f.stamp (w 16 8)
  let o := (a - b) * 1000 - sgn 16 (d.get .time_port_asym_ps n) * 256
  let hist := d.timeDs.get k []
  let gated := match hist with
    | [] => false
    | h :: t => decide (t.foldl min h + (d.get .time_servo_delay_gate_ns : Int) * 512 < a + b)
  let d := { d with timeDs := d.timeDs.set k [] ((a + b) :: hist.take 1023) }
  let d := d.setMany [(.h_treq_out, k, 0), (.time_meas_lost_run, k, 0), (.time_meas_offset, k, wrap 32 (ratioRound o 2000)),
    (.time_meas_delay, k, min 65535 (ratioRound (a + b) 512).toNat), (.h_tp_valid, k, 1), (.h_tp_state, k, w 24 1),
    (.h_tp_steps, k, w 25 1), (.h_tp_age, k, w 26 1), (.h_tp_deg, k, w 27 1 % 2), (.h_tp_gm, k, w 28 4 % 2 ^ 22)]
  let d := if gated then d.count n .TIME_EX_GATED 1 { src := some f.hdr.src } else d
  let d := d.timeCheck [.h n]
  if d.get .h_parent_sel = k + 1 ∧ (d.tstate = tsACQUIRE ∨ d.tstate = tsLOCKED) then
    let d := d.adopt k
    if gated then d else d.exchange o [.h n]
  else d

/-- The RESP at the head of output 515 (R403). -/
def Dev.timeResp (d : Dev) : Dev :=
  match d.timeHead 2 with
  | none => d
  | some (f, n) =>
    let d := d.takeInternal 515 f
    match firstBelow 2 (fun k => d.tport k == n && d.tportUp k && d.flag .h_treq_out k && d.get .h_treq_seq k == f.hdr.reqid) with
    | some k => d.respTaken k n f
    | none => d

/-- A REQ found no accepted RESP in 100 µs (R403). -/
def Dev.timeLost (d : Dev) (k : Nat) : Dev :=
  if !d.flag .h_treq_out k then d else ((d.reqDropped k).incrSat .time_meas_lost_run k).timeCheck [.h (d.tport k)]

end Sys2Proof.Machine
end

