-- ==== Sys2Proof/Machine/Arith.lean ====
section
/-! DEFINITION. Reduction arithmetic: element formats (R292 to R294), accumulators and node operations (R295 to R301), output
rules (R302, R303), lanes and their checks (R292, R305, R311), the fused multiply-add of the weighted-reduction array and its
coefficient layout (R325, R326). -/

namespace Sys2Proof.Machine

/-! ### Floating-point codes -/

/-- A floating-point format: exponent and fraction bits, bias, and whether it has infinities (R293). -/
structure Fp where
  eb : Nat
  fb : Nat
  bias : Nat
  inf : Bool
  deriving DecidableEq, Repr

def fpF32 : Fp := { eb := 8, fb := 23, bias := 127, inf := true }
def fpBF16 : Fp := { eb := 8, fb := 7, bias := 127, inf := true }
def fpF16 : Fp := { eb := 5, fb := 10, bias := 15, inf := true }
def fpE4M3 : Fp := { eb := 4, fb := 3, bias := 7, inf := false }
def fpE5M2 : Fp := { eb := 5, fb := 2, bias := 15, inf := true }

/-- A value of a format: NaN, an infinity, or ±m × 2^e; `true` is negative. -/
inductive FVal where
  | nan
  | inf (neg : Bool)
  | fin (neg : Bool) (m : Nat) (e : Int)
  deriving DecidableEq, Repr

/-- Bits of a code. -/
def Fp.bits (f : Fp) : Nat := 1 + f.eb + f.fb

/-- The code of an infinity, of the canonical NaN (R303) and of the largest finite value. -/
def Fp.infCode (f : Fp) (neg : Bool) : Nat := b2n neg * 2 ^ (f.eb + f.fb) + (2 ^ f.eb - 1) * 2 ^ f.fb
def Fp.nanCode (f : Fp) : Nat := if f.inf then (2 ^ f.eb - 1) * 2 ^ f.fb + 2 ^ (f.fb - 1) else 2 ^ (f.eb + f.fb) - 1

/-- The value of a code (R293). -/
def Fp.decode (f : Fp) (c : Nat) : FVal :=
  let neg := bit c (f.eb + f.fb)
  let ex := slice c f.fb f.eb
  let fr := slice c 0 f.fb
  if ex = 2 ^ f.eb - 1 ∧ f.inf = true then (if fr = 0 then .inf neg else .nan)
  else if f.inf = false ∧ ex = 2 ^ f.eb - 1 ∧ fr = 2 ^ f.fb - 1 then .nan
  else if ex = 0 then .fin neg fr (1 - (f.bias : Int) - f.fb)
  else .fin neg (2 ^ f.fb + fr) ((ex : Int) - f.bias - f.fb)

/-- `m / 2^k` rounded to nearest, ties to even. -/
def rne (m k : Nat) : Nat :=
  let q := m / 2 ^ k
  let r := m % 2 ^ k
  let half := 2 ^ k / 2
  if k = 0 then m else if r > half ∨ (r = half ∧ q % 2 = 1) then q + 1 else q

/-- ±m × 2^e rounded to a format, nearest even, and whether it lies beyond the largest finite value; an overflow is an
infinity, or the largest finite value where the format has none (R297, R303). -/
def Fp.round (f : Fp) (neg : Bool) (m : Nat) (e : Int) : Nat × Bool :=
  let s := b2n neg * 2 ^ (f.eb + f.fb)
  if m = 0 then (s, false)
  else
    let top : Int := e + Nat.log2 m
    let q : Int := max top (1 - (f.bias : Int)) - f.fb
    let mant := if e ≥ q then m * 2 ^ (e - q).toNat else rne m (q - e).toNat
    let (mant, q) := if mant ≥ 2 ^ (f.fb + 1) then (mant / 2, q + 1) else (mant, q)
    if mant < 2 ^ f.fb then (s + mant, false)
    else
      let ex : Int := q + f.fb + f.bias
      let code := ex.toNat * 2 ^ f.fb + (mant - 2 ^ f.fb)
      let lim := if f.inf then (2 ^ f.eb - 1) * 2 ^ f.fb else 2 ^ (f.eb + f.fb) - 1
      if code ≥ lim then ((if f.inf then f.infCode neg else s + (2 ^ (f.eb + f.fb) - 2)), true) else (s + code, false)

/-- The exact sum of two finite values, or of products, as ±m × 2^e. The sign of a zero sum is that of both operands where
they agree, else + (R297). -/
def addFin (n1 : Bool) (m1 : Nat) (e1 : Int) (n2 : Bool) (m2 : Nat) (e2 : Int) : Bool × Nat × Int :=
  let e := min e1 e2
  let a : Int := (if n1 then -1 else 1) * ((m1 * 2 ^ (e1 - e).toNat : Nat) : Int)
  let b : Int := (if n2 then -1 else 1) * ((m2 * 2 ^ (e2 - e).toNat : Nat) : Int)
  let s := a + b
  if s = 0 then (n1 && n2, 0, e) else (decide (s < 0), s.natAbs, e)

/-- The sum of two values rounded to binary32 (R297, R303), and whether it overflowed. -/
def sum32 (x y : FVal) : Nat × Bool :=
  match x, y with
  | .nan, _ => (fpF32.nanCode, false)
  | _, .nan => (fpF32.nanCode, false)
  | .inf a, .inf b => (if a = b then fpF32.infCode a else fpF32.nanCode, false)
  | .inf a, _ => (fpF32.infCode a, false)
  | _, .inf b => (fpF32.infCode b, false)
  | .fin n1 m1 e1, .fin n2 m2 e2 =>
    let (n, m, e) := addFin n1 m1 e1 n2 m2 e2
    fpF32.round n m e

/-- The exact product of two values (R325). -/
def mulVal (x y : FVal) : FVal :=
  match x, y with
  | .nan, _ => .nan
  | _, .nan => .nan
  | .inf a, .inf b => .inf (a != b)
  | .inf a, .fin b m _ => if m = 0 then .nan else .inf (a != b)
  | .fin a m _, .inf b => if m = 0 then .nan else .inf (a != b)
  | .fin a m e, .fin b k g => .fin (a != b) (m * k) (e + g)

/-- fma(w, x, acc) in binary32, one rounding (R325). -/
def fma32 (w x : FVal) (acc : Nat) : Nat × Bool := sum32 (mulVal w x) (fpF32.decode acc)

/-- Whether `a` is less than `b`, −0 below +0 (R299). -/
def FVal.lt : FVal → FVal → Bool
  | .fin n1 m1 e1, .fin n2 m2 e2 =>
    let e := min e1 e2
    let a : Int := (if n1 then -1 else 1) * ((m1 * 2 ^ (e1 - e).toNat : Nat) : Int)
    let b : Int := (if n2 then -1 else 1) * ((m2 * 2 ^ (e2 - e).toNat : Nat) : Int)
    if a = b then n1 && !n2 else decide (a < b)
  | .inf n1, .inf n2 => n1 && !n2
  | .inf n1, _ => n1
  | _, .inf n2 => !n2
  | _, _ => false

/-- MIN or MAX of two codes: one of the operands, or the canonical NaN (R299). -/
def Fp.pick (f : Fp) (mx : Bool) (a b : Nat) : Nat :=
  let x := f.decode a
  let y := f.decode b
  if x = .nan ∨ y = .nan then f.nanCode
  else if mx then (if x.lt y then b else a) else (if y.lt x then b else a)

/-! ### Formats and ops of a context (R261) -/

def fmINT32 : Nat := 0
def fmINT64 : Nat := 1
def fmFP32 : Nat := 2
def fmBF16 : Nat := 3
def fmFP16 : Nat := 4
def fmE4M3 : Nat := 5
def fmE5M2 : Nat := 6
def fmBS8 : Nat := 7
def fmBS4 : Nat := 8

/-- The floating-point format of a code of R261. -/
def fpOf (fmt : Nat) : Fp :=
  if fmt = fmFP32 then fpF32 else if fmt = fmBF16 then fpBF16 else if fmt = fmFP16 then fpF16
  else if fmt = fmE4M3 then fpE4M3 else fpE5M2

/-- Bytes of an element; of a block-scaled value, 1 (R292). -/
def elemBytes (fmt : Nat) : Nat :=
  if fmt = fmINT64 then 8 else if fmt = fmINT32 ∨ fmt = fmFP32 then 4 else if fmt = fmBF16 ∨ fmt = fmFP16 then 2 else 1

/-- The accumulator size k of R267. -/
def accK (fmt op : Nat) : Nat :=
  if op ≠ 0 then 1
  else if fmt ≤ 2 then 1 else if fmt ≤ 4 then 2 else if fmt ≤ 7 then 8 else 16

/-- Big-endian elements of `es` bytes (R292). -/
def elems (es : Nat) : Nat → List Nat → List Nat
  | 0, _ => []
  | n + 1, bs => beNat (bs.take es) :: elems es n (bs.drop es)

/-- Blocks of a chunk of `c` bytes (R294). -/
def blocksOf (fmt c : Nat) : Nat := if fmt = fmBS8 then c / 33 else c / 17

/-- A window's tag and sum (R298). -/
inductive Win where
  | fin (s : Int)
  | inf (neg : Bool)
  | nan
  deriving DecidableEq, Repr

/-- A block of windows: its scale, whether bit 8 of the scale word is set, the 32 sums (R300). -/
structure Blk where
  e : Nat
  bad : Bool
  sums : List Int
  deriving DecidableEq, Repr

/-- The value of a node of the etched tree (R295). -/
inductive Node where
  /-- Element codes: integers, MIN, MAX, AND, OR, XOR. -/
  | codes (l : List Nat)
  /-- binary32 codes. -/
  | f32 (l : List Nat)
  | wins (l : List Win)
  | blks (l : List Blk)
  deriving DecidableEq, Repr

/-- What a computation counts, once a chunk (R296, R297, R301 to R303). -/
structure Notes where
  wrap : Bool := false
  ovf : Bool := false
  nan : Bool := false
  flush : Bool := false
  bsOver : Bool := false
  deriving DecidableEq, Repr

/-- Notes of two computations together. -/
def Notes.join (a b : Notes) : Notes :=
  { wrap := a.wrap || b.wrap, ovf := a.ovf || b.ovf, nan := a.nan || b.nan, flush := a.flush || b.flush,
    bsOver := a.bsOver || b.bsOver }

/-- A window of an fp8 code: units of the smallest subnormal (R298). -/
def winOf (f : Fp) (c : Nat) : Win :=
  match f.decode c with
  | .nan => .nan
  | .inf n => .inf n
  | .fin n m e =>
    let k := (e - (1 - (f.bias : Int) - f.fb)).toNat
    .fin ((if n then -1 else 1) * ((m * 2 ^ k : Nat) : Int))

/-- The 32 values of block `j` (R294). -/
def blockVals (fmt : Nat) (bs : List Nat) (j : Nat) : List Int :=
  (List.range 32).map (fun i =>
    if fmt = fmBS8 then sgn 8 (bs.getD (32 * j + i) 0)
    else sgn 4 (slice (bs.getD (16 * j + i / 2) 0) (if i % 2 = 0 then 4 else 0) 4))

/-- The scale of block `j` (R294). -/
def blockScale (fmt nb : Nat) (bs : List Nat) (j : Nat) : Nat :=
  bs.getD ((if fmt = fmBS8 then 32 * nb else 16 * nb) + j) 0

/-- A contribution or partial of `c` bytes as an accumulator (R295, R298, R300). -/
def leafAcc (fmt op c : Nat) (bs : List Nat) : Node :=
  if fmt ≥ fmBS8 then
    let nb := blocksOf fmt c
    .blks ((List.range nb).map (fun j =>
      let e := blockScale fmt nb bs j
      if e = 255 then { e := 0, bad := true, sums := List.replicate 32 0 }
      else { e := e, bad := false, sums := (blockVals fmt bs j).map (· * 2 ^ 40) }))
  else
    let l := elems (elemBytes fmt) (c / elemBytes fmt) bs
    if op ≠ 0 ∨ fmt ≤ fmINT64 then .codes l
    else if fmt ≥ fmE4M3 then .wins (l.map (winOf (fpOf fmt)))
    else if fmt = fmFP32 then .f32 l
    else .f32 (l.map (fun c => match (fpOf fmt).decode c with
      | .nan => fpF32.nanCode
      | .inf n => fpF32.infCode n
      | .fin n m e => (fpF32.round n m e).1))

/-- Two windows together (R298, R303). -/
def winAdd : Win → Win → Win
  | .nan, _ => .nan
  | _, .nan => .nan
  | .inf a, .inf b => if a = b then .inf a else .nan
  | .inf a, _ => .inf a
  | _, .inf b => .inf b
  | .fin a, .fin b => .fin (a + b)

/-- Two block windows together (R301); the arithmetic shift rounds toward −∞. -/
def blkAdd (x y : Blk) : Blk × Bool :=
  let e := max x.e y.e
  if x.bad || y.bad then ({ e := e, bad := true, sums := List.replicate 32 0 }, false)
  else
    let sh := fun (v : Int) (k : Nat) => v / 2 ^ k
    let lost := fun (v : Int) (k : Nat) => v % 2 ^ k != 0
    let prs := x.sums.zip y.sums
    ({ e := e, bad := false, sums := prs.map (fun p => sh p.1 (e - x.e) + sh p.2 (e - y.e)) },
     prs.any (fun p => lost p.1 (e - x.e) || lost p.2 (e - y.e)))

/-- op of two elements that are not summed as floats (R295, R296, R299). -/
def codeOp (fmt op : Nat) (a b : Nat) : Nat :=
  let w := 8 * elemBytes fmt
  if op = 0 then (a + b) % 2 ^ w
  else if op = 3 then a &&& b
  else if op = 4 then a ||| b
  else if op = 5 then a ^^^ b
  else if fmt ≤ fmINT64 then
    (if op = 1 then (if sgn w b < sgn w a then b else a) else (if sgn w a < sgn w b then b else a))
  else (fpOf fmt).pick (op == 2) a b

/-- Whether a signed addition of `w` bits wraps (R296). -/
def addWraps (w a b : Nat) : Bool := sgn w a + sgn w b != sgn w ((a + b) % 2 ^ w)

/-- A node from its two children, the lower slots first (R264, R295). -/
def combine (fmt op : Nat) (x y : Node) : Node × Notes :=
  match x, y with
  | .codes a, .codes b =>
    let p := a.zip b
    (.codes (p.map (fun q => codeOp fmt op q.1 q.2)),
     { wrap := op == 0 && p.any (fun q => addWraps (8 * elemBytes fmt) q.1 q.2) })
  | .f32 a, .f32 b =>
    let r := (a.zip b).map (fun q => sum32 (fpF32.decode q.1) (fpF32.decode q.2))
    (.f32 (r.map (·.1)), { ovf := r.any (·.2) })
  | .wins a, .wins b => (.wins ((a.zip b).map (fun q => winAdd q.1 q.2)), {})
  | .blks a, .blks b =>
    let r := (a.zip b).map (fun q => blkAdd q.1 q.2)
    (.blks (r.map (·.1)), { flush := r.any (·.2) })
  | x, _ => (x, {})

/-- `v × 2^s` rounded to nearest even. -/
def rneInt (v : Int) (s : Int) : Int :=
  if s ≥ 0 then v * 2 ^ s.toNat
  else (if v < 0 then -1 else 1) * ((rne v.natAbs (-s).toNat : Nat) : Int)

/-- The output scale and values of a block; none where no scale fits (R302). -/
def blkOut (fmt : Nat) (b : Blk) : Option (Nat × List Int) :=
  let lim : Int := if fmt = fmBS8 then 127 else 7
  let top : Nat := b.sums.foldl (fun a v => max a v.natAbs) 0
  let at' := fun (eo : Nat) (v : Int) => rneInt v ((b.e : Int) - 40 - eo)
  (firstBelow 255 (fun eo => decide (at' eo top ≤ lim))).map (fun eo => (eo, b.sums.map (at' eo)))

/-- The bytes of a block-scaled chunk of `c` bytes (R294, R302, R303). -/
def blksBytes (fmt c : Nat) (l : List Blk) : List Nat × Notes :=
  let outs := l.map (fun b => if b.bad then (255, List.replicate 32 (0 : Int), true, false)
    else match blkOut fmt b with
      | some (e, v) => (e, v, false, false)
      | none => (255, List.replicate 32 (0 : Int), false, true))
  let vals := (outs.map (fun o =>
    if fmt = fmBS8 then o.2.1.map (wrap 8)
    else (List.range 16).map (fun i => wrap 4 (o.2.1.getD (2 * i) 0) * 16 + wrap 4 (o.2.1.getD (2 * i + 1) 0)))).flatten
  let bytes := vals ++ outs.map (·.1)
  (bytes ++ List.replicate (c - bytes.length) 0, { nan := outs.any (·.2.2.1), bsOver := outs.any (·.2.2.2) })

/-- A binary32 accumulator rounded to an element format, its NaN canonical (R295, R303). -/
def f32Out (f : Fp) (c : Nat) : Nat × Notes :=
  match fpF32.decode c with
  | .nan => (f.nanCode, { nan := true })
  | .inf n => if f.inf then (f.infCode n, {}) else ((f.round n 1 1000).1, { ovf := true })
  | .fin n m e => let r := f.round n m e; (r.1, { ovf := r.2 })

/-- A window rounded to its format (R295, R298, R303). -/
def winOut (f : Fp) : Win → Nat × Notes
  | .nan => (f.nanCode, { nan := true })
  | .inf n => (f.infCode n, {})
  | .fin s =>
    let r := f.round (decide (s < 0)) s.natAbs (1 - (f.bias : Int) - f.fb)
    (r.1, { ovf := r.2 })

/-- Elements with their notes, as big-endian bytes. -/
def outBytes (es : Nat) (l : List (Nat × Notes)) : List Nat × Notes :=
  ((l.map (fun x => beBytes es x.1)).flatten, l.foldl (fun a x => a.join x.2) {})

/-- The output rule of a chunk of `c` bytes (R295, R302, R303). -/
def accBytes (fmt c : Nat) (x : Node) : List Nat × Notes :=
  match x with
  | .codes l =>
    if fmt ≤ fmINT64 then ((l.map (beBytes (elemBytes fmt))).flatten, {})
    else outBytes (elemBytes fmt) (l.map (fun v =>
      if (fpOf fmt).decode v = .nan then ((fpOf fmt).nanCode, { nan := true }) else (v, {})))
  | .f32 l => outBytes (elemBytes fmt) (l.map (f32Out (fpOf fmt)))
  | .wins l => outBytes (elemBytes fmt) (l.map (winOut (fpOf fmt)))
  | .blks l => blksBytes fmt c l

/-! ### The etched tree (R264) -/

/-- A possible node with its notes. -/
def combineOpt (fmt op : Nat) (x y : Option (Node × Notes)) : Option (Node × Notes) :=
  match x, y with
  | none, y => y
  | x, none => x
  | some (a, n), some (b, m) => let (v, k) := combine fmt op a b; some (v, (n.join m).join k)

/-- Node (k, j) over `leaf`, which gives the input fed to a node at a level and index: a member at level 0, a child at its
level (R264). -/
def treeNode (fmt op : Nat) (leaf : Nat → Nat → Option Node) : Nat → Nat → Option (Node × Notes)
  | 0, j => (leaf 0 j).map (fun a => (a, {}))
  | k + 1, j =>
    match leaf (k + 1) j with
    | some a => some (a, {})
    | none => combineOpt fmt op (treeNode fmt op leaf k (2 * j)) (treeNode fmt op leaf k (2 * j + 1))

/-! ### Lanes and their checks (R292, R305, R306, R311) -/

/-- The 64-bit word of a chunk that byte offset `o` belongs to, and the logical lane that word is processed on (R292). -/
def wordOf (o : Nat) : Nat := o / 8
def laneOf (o : Nat) : Nat := wordOf o % 16

/-- The mod-7 residue of an operand (R305). -/
def res7 (x : Nat) : Nat := x % 7

/-- Whether the check of a lane operation fails (R305); an uncorrectable stored word is a mismatch (R306). -/
def laneFails : LaneOp → Bool
  | .add a b s c => res7 s.toNat != (res7 a.toNat + res7 b.toNat + 14 - 2 * b2n c) % 7
  | .shift a q l k => res7 a.toNat != (res7 q.toNat * 2 ^ (k.val % 3) + res7 l.toNat) % 7
  | .bitwise a b x n o =>
    (res7 a.toNat + res7 b.toNat) % 7 != (res7 x.toNat + 2 * res7 n.toNat) % 7 || res7 o.toNat != (res7 x.toNat + res7 n.toNat) % 7
  | .select p r => res7 r.toNat != res7 p.toNat
  | .mul a b p => res7 p.toNat != res7 a.toNat * res7 b.toNat % 7
  | .duplicate x y => x != y
  | .stored _ => true

/-- The mismatch of a chunk, where a check failed; else the verdict passes (R306). -/
def outMismatch : ChunkOut → Option Mismatch
  | .report m => if laneFails m.op then some m else none
  | .formed _ => none

/-- The bytes no check sees changed. -/
def outErr : ChunkOut → List (Fin 4096 × BitVec 8)
  | .formed e => e
  | .report _ => []

/-- A result with the bytes changed that an unseen error changed. -/
def spoilt (b : List Nat) (err : List (Fin 4096 × BitVec 8)) : List Nat :=
  err.foldl (fun b e => b.modify e.1.val (fun v => v ^^^ e.2.toNat)) b

/-- CRC-32C of what each of the 16 logical lanes gives of a result (R311). -/
def laneCrcs (b : List Nat) : List Nat :=
  (List.range 16).map (fun l => crc32c ((List.range b.length).filterMap (fun o => if laneOf o = l then b[o]? else none)))

/-- The logical lanes whose CRCs differ, a bit each (R312). -/
def lanesDiffer (a b : List Nat) : Nat := maskOf 16 (fun l => a.getD l 0 != b.getD l 0)

/-! ### The weighted-reduction array (R325, R326) -/

/-- The byte offset of W[t][k] of a DENSE matrix of `m` rows in the cross-hatch layout (R326). -/
def hatchOffset (m t k : Nat) : Nat := (k / 128 * (m + 127) + t + k % 128) * 256 + 2 * (k % 128)

/-- Line `x` of block `b` of the cross-hatch layout of a row-major matrix of `m` rows and `kk` columns: lane i holds
W[x − i][128b + i], or 0 (R326). -/
def hatchLine (m kk : Nat) (cs : List Nat) (b x : Nat) : List Nat :=
  (List.range 128).map (fun i =>
    if i ≤ x ∧ x - i < m ∧ 128 * b + i < kk then cs.getD ((x - i) * kk + 128 * b + i) 0 else 0)

/-- The lines of a DENSE matrix, in order, as little-endian bf16 (R326). -/
def hatchBytes (m kk : Nat) (cs : List Nat) : List Nat :=
  (((List.range (cdiv kk 128)).map (fun b => ((List.range (m + 127)).map (hatchLine m kk cs b)).flatten)).flatten.map
    (leBytes 2)).flatten

/-- One output element: the terms in ascending k, those with a zero coefficient skipped; codes of W in bf16 and of X in
format `f`. The answer is the binary32 accumulator and whether a term overflowed. -/
def wraDot (f : Fp) (terms : List (Nat × Nat)) : Nat × Bool :=
  terms.foldl (fun acc t =>
    if slice t.1 0 15 = 0 then acc
    else
      let r := fma32 (fpBF16.decode t.1) (f.decode t.2) acc.1
      (r.1, acc.2 || r.2)) (0, false)

end Sys2Proof.Machine
end

