-- ==== Sys2Proof/Machine/Csq.lean ====
section
/-! DEFINITION. Control queues below their commands: privilege and protection maps (R440 to R447), tokens (R436), watched
lines (R432), completion rings (R438, R439), and the end of an entry (R435, R437, R448). -/

namespace Sys2Proof.Machine

/-! ### Queue state -/

/-- What queue `q` holds beside its registers. -/
def Dev.queue (d : Dev) (q : Nat) : Queue := d.queues.get q {}

/-- The sequencer that serves queue `q` (R428). -/
def Dev.qSeq (d : Dev) (q : Nat) : Nat := d.get .csq_q_cfg_seq q
/-- The privilege of queue `q` (R440). -/
def Dev.qPriv (d : Dev) (q : Nat) : Nat := d.get .csq_q_cfg_privilege q
/-- The job tag of queue `q`. -/
def Dev.qJob (d : Dev) (q : Nat) : Nat := d.get .csq_q_cfg_job_tag q
/-- Whether queue `q` is enabled. -/
def Dev.qEn (d : Dev) (q : Nat) : Bool := d.flag .csq_q_cfg_enable q

/-- The state of a queue (R448): 0 DISABLED, 1 IDLE, 2 WAITING, 3 RUNNING, 4 HALTED. -/
def Dev.qStateOf (d : Dev) (q : Nat) (x : Queue) : Nat :=
  if !d.qEn q then 0 else if x.run.isSome then 3 else if x.halted then 4 else if x.buf.isEmpty then 1 else 2

/-- Queue `q` now holds `x`; its state field follows (R448). -/
def Dev.putQueue (d : Dev) (q : Nat) (x : Queue) : Dev :=
  { d with queues := d.queues.set q {} x }.setMany
    [(.csq_q_status_state, q, d.qStateOf q x), (.csq_q_status_map_pending, q, b2n x.pend.isSome),
     (.csq_q_status_buffered, q, x.buf.length), (.csq_q_cr_status_held, q, min 16 x.held.length)]

/-- A record about queue `q` (R453): depth DEVICE, unit class SEQUENCER, the queue's job tag. -/
def Dev.qRecord (d : Dev) (q : Nat) (c : RecCode) (items : List Item := []) : Dev :=
  d.raise c (d.pathDevice ucSEQUENCER (d.qSeq q)) items (d.qJob q)

/-- An event of queue `q` in its sequencer's block (R489, R491). -/
def Dev.qCount (d : Dev) (q : Nat) (e : Ev) (n : Nat := 1) : Dev :=
  d.count (blkSeq (d.qSeq q)) e n { priv := some (d.qPriv q), src := some q }

/-! ### Protection maps (R442 to R445) -/

/-- Object classes (R444). -/
def ocCTX : Nat := 1
def ocMCAST : Nat := 2
def ocJOB_TAG : Nat := 3
def ocWRA_DESC : Nat := 4
def ocFMEM_FRAME : Nat := 5
def ocTOKEN : Nat := 6
def ocHANDLE : Nat := 7
def ocKCL_ADDR : Nat := 8
def ocDMA_CHAN : Nat := 9
def ocTRIG : Nat := 10
def ocPORT : Nat := 11

/-- Whether some entry of a map of 64 words covers `lo` to `hi` with the right needed, `use` or read (R445). -/
def mapAllows (m : List Nat) (cls lo hi : Nat) (use : Bool) : Bool :=
  (List.range 16).any (fun i =>
    let w := m.getD (4 * i) 0
    slice w 60 4 == cls && bit w (if use then 59 else 58) &&
      decide (m.getD (4 * i + 1) 0 ≤ lo) && decide (hi ≤ m.getD (4 * i + 2) 0))

/-- The installed map of queue `q`, 64 words. -/
def Dev.qMap (d : Dev) (q : Nat) : List Nat := (List.range 64).map (fun k => d.get .csq_q_pmap_active_word (64 * q + k))

/-- Whether a program of privilege `priv` and map `m` may reach an object; FABRIC always may (R442). -/
def objAllowed (priv : Nat) (m : List Nat) (cls lo hi : Nat) (use : Bool) : Bool :=
  priv == privFABRIC || mapAllows m cls lo hi use

/-- Whether queue `q` may reach an object under its installed map. -/
def Dev.qAllowed (d : Dev) (q cls lo hi : Nat) (use : Bool) : Bool := objAllowed (d.qPriv q) (d.qMap q) cls lo hi use

/-- An object an instruction took from a register is not allowed: counted, and recorded once a second (R445). -/
def Dev.protFail (d : Dev) (q cls v : Nat) : Dev :=
  let d := d.qCount q .PROT_FAIL
  let x := d.queue q
  let now := d.localNs + 1
  if x.protSec ≠ 0 ∧ now < x.protSec + 1000000000 then d
  else (d.putQueue q { x with protSec := now }).qRecord q .CSQ_PROTECTION [.h q, .h (d.qJob q), .h cls, .d v]

/-! ### Tokens (R436) -/

/-- `n` signals of token `t`, one after another: the count sticks at 65,535, each signal that finds it there counts
TOKEN_SAT, and the first sets sat with one record (R436). -/
def Dev.signalTok (d : Dev) (t n : Nat) : Dev :=
  let c := d.get .csq_token_count t + n
  let d := d.set .csq_token_count t (min c 65535)
  if c ≤ 65535 then d
  else
    let d := d.count blkDevice .TOKEN_SAT (c - 65535)
    if d.flag .csq_token_sat t then d else (d.set .csq_token_sat t 1).raise .CSQ_TOKEN_SAT d.pathDevice

/-- `n` taken from token `t`. -/
def Dev.takeTok (d : Dev) (t n : Nat) : Dev := d.set .csq_token_count t (d.get .csq_token_count t - n)

/-- wait_token, wait_count and the like of an entry's first word (R429). -/
def entSignalToken (w0 : Nat) : Nat := slice w0 48 16
def entWaitToken (w0 : Nat) : Nat := slice w0 32 16
def entWaitCount (w0 : Nat) : Nat := slice w0 24 8
def entHaltOnFail (w0 : Nat) : Bool := bit w0 19
def entRecord (w0 : Nat) : Bool := bit w0 18
def entSignalEn (w0 : Nat) : Bool := bit w0 17
def entOperand (w0 : Nat) : Nat := slice w0 4 12
def entKind (w0 : Nat) : Nat := slice w0 1 2

/-- Running entries of sequencer `k` (R428). -/
def Dev.seqRunning (d : Dev) (k : Nat) : Nat :=
  (d.queues.entries.filter (fun e => e.2.run.isSome && d.qSeq e.1 == k)).length

/-- The head of a queue that has not started, if the queue may start one (R434, R439). -/
def Dev.qHead (d : Dev) (q : Nat) (x : Queue) : Option (Nat × List Nat) :=
  if d.qEn q ∧ x.run.isNone ∧ !x.halted ∧ x.held.length < 16 then x.buf.head? else none

/-- Whether the fallback barrier governs not-before times (R416). -/
def Dev.fallbackOn (d : Dev) : Bool := d.flag .time_align_fallback_en && d.flag .time_status_degraded

/-- Whether the not-before time of a head has been released: at that fabric time (R412), and while the fallback barrier
governs, not before the barrier's COMMIT or its failure (R416). -/
def Dev.released (d : Dev) (x : Queue) (nb : Nat) : Bool :=
  nb == 0 || (decide (nb ≤ d.fabricNs) && (!d.fallbackOn || decide (x.align ≥ 2)))

/-- Whether the head of a queue is ready but for the order of waiters and running places (R434, step 3). -/
def Dev.headReady (d : Dev) (q : Nat) (x : Queue) : Bool :=
  match d.qHead q x with
  | none => false
  | some (_, ws) =>
    let w0 := ws.getD 0 0
    decide (entWaitCount w0 ≤ d.get .csq_token_count (entWaitToken w0)) && d.released x (ws.getD 1 0)

/-- The waiters on token `t` that could take it now, as (time at which they began to wait, queue number): heads of
queues, entries in WAIT, DMA channels, these last behind the queues (R436, R462, R476). -/
def Dev.tokWaiters (d : Dev) (t : Nat) : List (Nat × Nat) :=
  let c := d.get .csq_token_count t
  let ofWait (own : Nat) (w : Option WaitSt) : List (Nat × Nat) :=
    match w with
    | some w => if w.mode = 0 ∧ w.tok = t ∧ w.n ≤ c then [(w.since, own)] else []
    | none => []
  (d.queues.entries.map (fun e =>
    (match d.qHead e.1 e.2 with
     | some (_, ws) =>
       if entWaitCount (ws.getD 0 0) ≠ 0 ∧ entWaitToken (ws.getD 0 0) = t ∧ d.headReady e.1 e.2 ∧ d.seqRunning (d.qSeq e.1) < 16
       then [(e.2.began, e.1)] else []
     | none => []) ++
    (match e.2.run with | some r => ofWait e.1 r.wait | none => []))).flatten
  ++ (d.dma.entries.map (fun e => ofWait (512 + e.1) e.2.wait)).flatten

/-- Whether the waiter `own`, which began to wait at `since`, is the first that may take token `t` (R436). -/
def Dev.tokTurn (d : Dev) (t since own : Nat) : Bool :=
  (d.tokWaiters t).all (fun w => since < w.1 || (since == w.1 && own ≤ w.2))

/-! ### Queue SRAM and watched lines (R427, R432) -/

/-- The 8-byte word of queue SRAM at word index `k`. -/
def Dev.qsramWord (d : Dev) (k : Nat) : Nat := d.get .csq_qsram_word k

/-- `n` bytes of queue SRAM at byte offset `a`. -/
def Dev.qsramBytes (d : Dev) (a n : Nat) : List Nat :=
  (List.range n).map (fun i => slice (d.qsramWord ((a + i) / 8)) (8 * ((a + i) % 8)) 8)

/-- Whether the device holds 256 reads outstanding on the KCL (R546). -/
def Dev.readsFull (d : Dev) : Bool := decide (256 ≤ (d.reads.filter (fun (r : KRead) => r.ext)).length)

/-- A read over the KCL (R543), or of queue SRAM; one over the KCL waits while 256 are outstanding (R546). -/
def Dev.kread (d : Dev) (p : KPurpose) (req addr bytes : Nat) (ext : Bool := true) : Dev :=
  let r : KRead := { purpose := p, req := req, addr := addr, ext := ext }
  if !ext then { d with reads := d.reads ++ [r] }
  else if d.readsFull || !d.readWaits.isEmpty then { d with readWaits := d.readWaits ++ [(r, bytes)] }
  else { d with reads := d.reads ++ [r] }.emit (.kclRead req addr bytes)

/-- Reads that wait go out while there is a place, at most `n` of them (R546). -/
def Dev.issueReads (d : Dev) : Nat → Dev
  | 0 => d
  | n + 1 =>
    match d.readWaits with
    | [] => d
    | (r, bytes) :: rest =>
      if d.readsFull then d
      else (({ d with readWaits := rest, reads := d.reads ++ [r] } : Dev).emit (.kclRead r.req r.addr bytes)).issueReads n

/-- The device once the read for `p` is answered; none where there is no such read. -/
def Dev.takeRead (d : Dev) (p : KPurpose) : Option Dev :=
  if d.reads.any (fun r => decide (r.purpose = p)) then
    some (({ d with reads := d.reads.eraseP (fun r => decide (r.purpose = p)) } : Dev).issueReads d.readWaits.length)
  else none

/-- The device without the reads for `p`. -/
def Dev.dropReads (d : Dev) (p : KPurpose) : Dev :=
  ({ d with reads := d.reads.filter (fun r => !decide (r.purpose = p)),
            readWaits := d.readWaits.filter (fun r => !decide (r.1.purpose = p)) } : Dev).issueReads d.readWaits.length

/-- Requester codes of a queue, a completion ring, a DMA channel and a load path (R586). -/
def reqQUEUE (q : Nat) : Nat := 0x1000 + q
def reqRING (q : Nat) : Nat := 0x2000 + q
def reqDMA (c : Nat) : Nat := 0x3000 + c
def reqLOAD (path : Nat) : Nat := 0x4000 + path
def reqDUMP : Nat := 0x5000
def reqRECORD : Nat := 0x6000
def reqSEC : Nat := 0x7000

/-- The address of a queue's entry at its head index (R433, R453). -/
def Dev.headAddr (d : Dev) (q : Nat) : Nat := d.get .csq_q_base_base q / 64 * 64 + 64 * d.get .csq_q_status_head q

/-- The line at the head of queue `q` is read (R432), while the queue is enabled and its buffer of eight has room. DESIGN CHOICE
(log entry 60): the spec does not say when a function stops during a switch of its domain; queues are watched and entries run until
PD_SWITCH_DONE of PD1, whose on bit reads 0 from the accepted OFF request. -/
def Dev.readHead (d : Dev) (q : Nat) : Dev :=
  if d.qEn q ∧ (d.queue q).buf.length < 8 then
    (d.dropReads (.head q)).kread (.head q) (reqQUEUE q) (d.headAddr q) 64 (!d.flag .csq_q_cfg_loc q)
  else d

/-- The line of a queue's consumer index is read (R439). -/
def Dev.readCrHead (d : Dev) (q : Nat) : Dev :=
  if d.qEn q then
    (d.dropReads (.crHead q)).kread (.crHead q) (reqRING q) (d.get .csq_q_cr_head_addr_cr_head_addr q / 64 * 64) 64
      (!d.flag .csq_q_cfg_cr_loc q)
  else d

/-- A word of queue SRAM is written; a write to a line that an enabled queue watches acts as its invalidation (R432, R478). -/
def Dev.qsramWrite (d : Dev) (k v : Nat) : Dev :=
  let d := d.set .csq_qsram_word k v
  (d.holding .csq_q_cfg_enable 1).foldl (fun d q =>
    let d := if d.flag .csq_q_cfg_loc q ∧ d.headAddr q / 64 = k / 8 then d.readHead q else d
    if d.flag .csq_q_cfg_cr_loc q ∧ d.get .csq_q_cr_head_addr_cr_head_addr q / 64 = k / 8 then d.readCrHead q else d) d

/-- A byte of queue SRAM is written. -/
def Dev.qsramByte (d : Dev) (a v : Nat) : Dev :=
  let w := d.qsramWord (a / 8)
  d.qsramWrite (a / 8) (w - slice w (8 * (a % 8)) 8 * 2 ^ (8 * (a % 8)) + v % 256 * 2 ^ (8 * (a % 8)))

/-! ### Completion rings (R438, R439) -/

/-- Records of the completion ring of queue `q`. -/
def Dev.crSize (d : Dev) (q : Nat) : Nat := 2 ^ d.get .csq_q_cfg_cr_size_log2 q

/-- Whether the completion ring of queue `q` is full. -/
def Dev.crFull (d : Dev) (q : Nat) : Bool := decide ((d.queue q).crT - (d.queue q).crH ≥ d.crSize q)

/-- A record is written to the ring at its next place (R439). -/
def Dev.crWrite (d : Dev) (q : Nat) (r : CRec) : Dev :=
  let x := d.queue q
  let n := d.crSize q
  let t := x.crT
  let w0 := q * 2 ^ 48 + r.token % 65536 * 2 ^ 32 + r.kind * 2 ^ 16 + (1 + t / n) % 2
  let words := w0 :: r.words
  let base := d.get .csq_q_cr_base_cr_base q / 64 * 64 + t % n * 64
  let d := if d.flag .csq_q_cfg_cr_loc q
    then (List.range 8).foldl (fun d i => d.qsramWrite (base / 8 + i) (words.getD i 0)) d
    else d.emit (.kclWrite (reqRING q) base ((words.map (leBytes 8)).flatten))
  (d.putQueue q { d.queue q with crT := t + 1 }).setMany
    [(.csq_q_cr_status_cr_tail, q, t + 1), (.csq_q_cr_status_cr_phase, q, (1 + (t + 1) / n) % 2)]

/-- A record of queue `q` arises: written, or held behind those that wait while the ring is full, which counts (R439). -/
def Dev.complete (d : Dev) (q : Nat) (r : CRec) : Dev :=
  if (d.queue q).held.isEmpty ∧ !d.crFull q then d.crWrite q r
  else (d.putQueue q { d.queue q with held := (d.queue q).held ++ [r] }).qCount q .CRING_FULL

/-- Held records are written while the ring has room, at most `n` of them. -/
def Dev.flushHeld (d : Dev) (q : Nat) : Nat → Dev
  | 0 => d
  | n + 1 =>
    match (d.queue q).held with
    | [] => d
    | r :: rest => if d.crFull q then d else ((d.putQueue q { d.queue q with held := rest }).crWrite q r).flushHeld q n

/-! ### Maps and the end of an entry -/

/-- The committed map of queue `q` is installed where no entry of the queue runs (R446). -/
def Dev.installMap (d : Dev) (q : Nat) : Dev :=
  let x := d.queue q
  match x.pend with
  | none => d
  | some m =>
    if x.run.isSome then d
    else
      let d := (List.range 64).foldl (fun d k => d.set .csq_q_pmap_active_word (64 * q + k) (m.getD k 0)) d
      (d.incr .csq_q_status_map_gen q).putQueue q { x with pend := none }

/-- Status values of an ENTRY record (R438). -/
def stOK : Nat := 0
def stENCODING : Nat := 1
def stPROTECTION : Nat := 2
def stNO_HANDLE : Nat := 3
def stPROOF : Nat := 4
def stBUDGET : Nat := 5
def stINSTR_FAIL : Nat := 6
def stSTOPPED : Nat := 7

/-- How an entry ended: status, index of the failing instruction, detail, and the object an instruction took from a register and
that was not allowed. -/
structure EntryEnd where
  status : Nat
  pc : Nat := 0
  detail : Nat := 0
  obj : Option (Nat × Nat) := none
  deriving DecidableEq, Repr

/-- The end of a protection failure (R438: class in [31:28], the low bits of the value below). -/
def protEnd (cls v : Nat) (pc : Nat := 0) : EntryEnd :=
  { status := stPROTECTION, pc := pc, detail := cls * 2 ^ 28 + v % 2 ^ 28, obj := some (cls, v) }

/-- The ENTRY record of an entry that ended (R438). -/
def Dev.entryRecord (d : Dev) (q index : Nat) (ws : List Nat) (e : Option Entry) (r : EntryEnd) : CRec :=
  let w0 := ws.getD 0 0
  let g (k : Nat) : Nat := if r.status = stOK then match e with | some e => e.regs.getD k 0 | none => 0 else 0
  { kind := 1, token := entSignalToken w0,
    words := [index * 2 ^ 48 + d.qJob q * 2 ^ 32 + (if entKind w0 = 1 then entOperand w0 else 0) * 2 ^ 20
        + entKind w0 * 2 ^ 18 + r.status * 2 ^ 8,
      (match e with | some e => e.tStart | none => 0), d.fabricNs, r.pc * 2 ^ 48 + r.detail % 2 ^ 32, g 1, g 2, 0] }

/-- An entry of queue `q` ends: it leaves its place, signals once when it is OK and launched nothing, leaves its record,
and its failure may halt the queue; a committed map is installed at this boundary (R435, R437, R438, R445, R446, R448). -/
def Dev.retire (d : Dev) (q index : Nat) (ws : List Nat) (e : Option Entry) (r : EntryEnd) : Dev :=
  let w0 := ws.getD 0 0
  let ok := r.status == stOK
  let launched := match e with | some e => e.launched | none => false
  let x := d.queue q
  let d := { d with ops := d.ops.filter (fun o => !(o.queue == q && o.res.isSome)) }
  let d := d.putQueue q { x with
    run := none, began := d.localNs,
    halted := x.halted || (!ok && entHaltOnFail w0) || r.status == stSTOPPED }
  let d := d.qCount q (if ok then .ENTRY_RETIRE else .ENTRY_FAIL)
  let d := if ok && entSignalEn w0 && !launched then d.signalTok (entSignalToken w0) 1 else d
  let d := if !ok || entRecord w0 then d.complete q (d.entryRecord q index ws e r) else d
  let d := if ok then d else d.setMany [(.csq_q_last_entry, q, index), (.csq_q_last_status, q, r.status),
    (.csq_q_last_detail, q, r.detail)]
  let d := match r.obj with | some (c, v) => d.protFail q c v | none => d
  let d := if r.status = stBUDGET then d.qRecord q .CSQ_BUDGET else d
  d.installMap q

/-- The running entry of queue `q` ends. -/
def Dev.endRun (d : Dev) (q : Nat) (r : EntryEnd) : Dev :=
  match (d.queue q).run with
  | some e => d.retire q e.index e.words (some e) r
  | none => d

/-- The running entry of queue `q` becomes `f` of itself. -/
def Dev.onRun (d : Dev) (q : Nat) (f : Entry → Entry) : Dev :=
  match (d.queue q).run with
  | some e => d.putQueue q { d.queue q with run := some (f e) }
  | none => d

/-- RESET of a queue: head and expected phase at their start, buffer empty, the completion ring from record 0 (R449). -/
def Dev.qRestart (d : Dev) (q : Nat) : Dev :=
  let d := d.setMany [(.csq_q_status_head, q, 0), (.csq_q_status_exp_phase, q, 1), (.csq_q_cr_status_cr_tail, q, 0),
    (.csq_q_cr_status_cr_phase, q, 1), (.csq_q_cr_status_cr_head, q, 0)]
  let d := d.putQueue q { d.queue q with buf := [], halted := false, align := 0, tries := 0, crT := 0, crH := 0, held := [] }
  (d.readHead q).readCrHead q

end Sys2Proof.Machine
end

