-- ==== Sys2Proof/Machine/Coll.lean ====
section
/-! DEFINITION. Collective contexts: the image (R260 to R263), WRA descriptors and shapes (R328 to R336), admission (R267,
R309, R334, R337), the proof passes of loads (R266, R330, R332), loads and unloads (R269, R331), frames out (R278). -/

namespace Sys2Proof.Machine

/-! ### The context image (R261, R262) -/

def hxType (h : List Nat) : Nat := slice (h.getD 0 0) 60 4
def hxOp (h : List Nat) : Nat := slice (h.getD 0 0) 56 4
def hxFmt (h : List Nat) : Nat := slice (h.getD 0 0) 52 4
def hxCode (h : List Nat) : Nat := slice (h.getD 0 0) 50 2
def hxEarly (h : List Nat) : Bool := bit (h.getD 0 0) 49
def hxInner (h : List Nat) : Bool := bit (h.getD 0 0) 48
def hxRoute (h : List Nat) : Nat := slice (h.getD 0 0) 46 2
def hxLevel (h : List Nat) : Nat := slice (h.getD 0 0) 42 4
def hxBase (h : List Nat) : Nat := slice (h.getD 0 0) 32 10
def hxGroup (h : List Nat) : Nat := slice (h.getD 0 0) 16 16
def hxJob (h : List Nat) : Nat := slice (h.getD 0 0) 0 16
def hxChunks (h : List Nat) : Nat := slice (h.getD 1 0) 43 21
def hxWindow (h : List Nat) : Nat := slice (h.getD 1 0) 30 13
def hxIntake (h : List Nat) : Nat := slice (h.getD 1 0) 12 18
def hxRoot (h : List Nat) : Nat := slice (h.getD 1 0) 0 10
def hxParent (h : List Nat) : Nat := slice (h.getD 2 0) 40 24
def hxTimeout (h : List Nat) : Nat := slice (h.getD 2 0) 16 24
def hxDesc (h : List Nat) : Nat := slice (h.getD 2 0) 0 16
/-- The chunk size C. -/
def hxC (h : List Nat) : Nat := 1024 * 2 ^ hxCode h
/-- Route LIST. -/
def hxList (h : List Nat) : Bool := hxRoute h == 1

/-- Collective types (R260). -/
def tyREDUCE : Nat := 1
def tyREDUCE_SCATTER : Nat := 2
def tyBROADCAST : Nat := 3
def tyBARRIER : Nat := 4
def tyMOE : Nat := 5
def tySCALED : Nat := 6

/-- Whether the type uses the WRA. -/
def hxWra (h : List Nat) : Bool := hxType h == tyMOE || hxType h == tySCALED

/-- Fields of a map entry (R262). -/
def meKind (e : Nat) : Nat := slice e 30 2
def meRx (e : Nat) : Bool := bit e 29
def meLevel (e : Nat) : Nat := slice e 24 4
def meGeid (e : Nat) : Nat := slice e 0 24

/-- Indexes of the MEMBER and CHILD entries of a map, of its MEMBER entries, of its receivers (R260). -/
def directs (m : List Nat) : List Nat := (List.range m.length).filter (fun i => meKind (m.getD i 0) == 1 || meKind (m.getD i 0) == 2)
def members (m : List Nat) : List Nat := (List.range m.length).filter (fun i => meKind (m.getD i 0) == 1)
def receivers (h m : List Nat) : List Nat :=
  if hxList h then (members m).filter (fun i => meRx (m.getD i 0)) else directs m

/-- The footprint F of one chunk slot (R267, R336). -/
def footprint (h m : List Nat) : Nat :=
  let c := hxC h
  let d := (directs m).length
  if hxType h = tyBARRIER then 0
  else if hxType h = tyBROADCAST then c
  else if hxWra h then (d + 1) * c
  else (d + 1) * c + cdiv d 2 * (c * accK (hxFmt h) (hxOp h))

/-- The slots reserved, s (R267). -/
def slotsOf (h : List Nat) : Nat := hxWindow h + (if hxEarly h && !hxInner h then 2 else 0)

/-! ### WRA descriptors and shapes (R329, R334) -/

def dxKind (w : List Nat) : Nat := slice (w.getD 0 0) 60 4
def dxXFmt (w : List Nat) : Nat := slice (w.getD 0 0) 56 4
def dxOutFmt (w : List Nat) : Nat := slice (w.getD 0 0) 52 4
def dxCoefKind (w : List Nat) : Nat := slice (w.getD 0 0) 50 2
def dxTranspose (w : List Nat) : Bool := bit (w.getD 0 0) 49
def dxPoolMax (w : List Nat) : Bool := bit (w.getD 0 0) 48
def dxVec (w : List Nat) : Nat := slice (w.getD 0 0) 35 13
def dxCoefSlot (w : List Nat) : Nat := slice (w.getD 0 0) 16 10
def dxJob (w : List Nat) : Nat := slice (w.getD 0 0) 0 16
def dxBag (w : List Nat) : Nat := slice (w.getD 1 0) 56 8
def dxKTop (w : List Nat) : Nat := slice (w.getD 1 0) 48 8
def dxInflight (w : List Nat) : Nat := slice (w.getD 1 0) 32 13
def dxRate (w : List Nat) : Nat := slice (w.getD 1 0) 0 32
def dxStride (w : List Nat) : Nat := slice (w.getD 2 0) 0 32
/-- KCL address of the coefficients, bits [5:0] ignored. -/
def dxCoefSrc (w : List Nat) : Nat := w.getD 3 0 / 64 * 64
def dxCoefK (w : List Nat) : Nat := slice (w.getD 4 0) 16 13
def dxCoefM (w : List Nat) : Nat := slice (w.getD 4 0) 0 12
def dkMOE : Nat := 1
def dkSCALED : Nat := 2
def dkGATHER_WRA : Nat := 3
def dkGATHER_CMB : Nat := 4
def dxGather (w : List Nat) : Bool := decide (3 ≤ dxKind w)

/-- Rows of a k-block, and the lines it takes to load `rows` of them (R324, R327). -/
def blockRows (es : Nat) : Nat := if es = 1 then 256 else 128
def loadLines (es rows : Nat) (tr : Bool) : Nat := (if es = 1 then cdiv rows 2 else rows) * (if tr then 2 else 1)

/-- The rows of k-block `b` of `k` rows. -/
def rowsOf (es k b : Nat) : Nat := min (blockRows es) (k - b * blockRows es)

/-- Tile cycles of a pass over k-block `b` (R324). -/
def passCycles (es k m b : Nat) (tr : Bool) : Nat := max m (loadLines es (rowsOf es k b) tr)

/-- Tile cycles T of a chunk (R334). -/
def workCycles (es v k m : Nat) (tr : Bool) : Nat :=
  cdiv v 128 * sumBelow (cdiv k (blockRows es)) (fun b => passCycles es k m b tr)

/-- Indexes of the data members of a context that uses descriptor `w` (R332). -/
def dataMembers (w m : List Nat) : List Nat :=
  (members m).filter (fun i => !(dxKind w == dkMOE && i == dxCoefSlot w))

/-- Rows per contribution r (R332). -/
def rowsPer (h w : List Nat) : Nat := hxC h / (dxVec w * elemBytes (hxFmt h))

/-- K of a context (R332). -/
def rowsAll (h w m : List Nat) : Nat := (dataMembers w m).length * rowsPer h w

/-- Millions of tile cycles per second a context reserves (R334). -/
def ctxCycles (h w m : List Nat) : Nat :=
  let es := elemBytes (hxFmt h)
  let t := workCycles es (dxVec w) (rowsAll h w m) (rowsPer h w) (dxTranspose w)
  cdiv (hxIntake h * 1000 * t) (8 * (directs m).length * hxC h)

/-- Millions of tile cycles per second a GATHER_WRA descriptor reserves (R334). -/
def descCycles (w : List Nat) : Nat :=
  if dxKind w = dkGATHER_WRA then
    cdiv (dxRate w * (cdiv (dxVec w) 128 * max 1 (loadLines (elemBytes (dxXFmt w)) (dxBag w) false))) 1000
  else 0

/-- Bytes of a row of a gather (R337); block-scaled and integer formats as R292 counts them. -/
def rowBytes (w : List Nat) : Nat := dxVec w * elemBytes (dxXFmt w)

/-- Combine SRAM a descriptor takes (R330, R337). -/
def descSram (w : List Nat) : Nat :=
  if dxKind w = dkSCALED then
    (if dxCoefKind w = 1 then cdiv (2 * dxCoefK w) 256 * 256 else cdiv (dxCoefK w) 128 * (dxCoefM w + 127) * 256)
  else if dxKind w = dkGATHER_WRA then
    dxInflight w * (dxBag w * rowBytes w + dxVec w * elemBytes (dxOutFmt w))
  else if dxKind w = dkGATHER_CMB then
    dxInflight w * ((dxBag w + cdiv (dxBag w) 2 * accK (dxXFmt w) (if dxPoolMax w then 2 else 0) + 1) * rowBytes w)
  else 0

/-- Intake a GATHER_CMB descriptor reserves, in bit/s (R337). -/
def descRate (w : List Nat) : Nat :=
  if dxKind w = dkGATHER_CMB then dxRate w * 1000 * dxBag w * rowBytes w * 8 else 0

/-! ### What is loaded, and the sums of R267 and R334 -/

/-- The loaded context `x`. -/
def Dev.ctx (d : Dev) (x : Nat) : Option Ctx := d.ctxs.getOpt x
/-- Context `x` becomes `c`. -/
def Dev.putCtx (d : Dev) (x : Nat) (c : Option Ctx) : Dev := { d with ctxs := d.ctxs.set x none c }
/-- The loaded contexts by number. -/
def Dev.loadedCtxs (d : Dev) : List (Nat × Ctx) := d.ctxs.entries.filterMap (fun e => e.2.map (fun c => (e.1, c)))
/-- The descriptor `n`. -/
def Dev.desc (d : Dev) (n : Nat) : Option Desc := d.descs.getOpt n
def Dev.putDesc (d : Dev) (n : Nat) (x : Option Desc) : Dev := { d with descs := d.descs.set n none x }
def Dev.loadedDescs (d : Dev) : List (Nat × Desc) := d.descs.entries.filterMap (fun e => e.2.map (fun c => (e.1, c)))

/-- Sums over contexts and descriptors: SRAM, slots, intake in bit/s, map entries, tile cycles (R267, R330, R334). -/
def Dev.sramSum (d : Dev) : Nat :=
  (d.loadedCtxs.map (fun c => slotsOf c.2.hdr * footprint c.2.hdr c.2.map)).sum + (d.loadedDescs.map (fun x => descSram x.2.words)).sum
def Dev.slotSum (d : Dev) : Nat := (d.loadedCtxs.map (fun c => slotsOf c.2.hdr)).sum
def Dev.intakeSum (d : Dev) : Nat :=
  (d.loadedCtxs.map (fun c => hxIntake c.2.hdr * 1000000000)).sum + (d.loadedDescs.map (fun x => descRate x.2.words)).sum
def Dev.mapSum (d : Dev) : Nat := (d.loadedCtxs.map (fun c => 2 ^ hxLevel c.2.hdr)).sum
def Dev.cycleSum (d : Dev) : Nat :=
  (d.loadedCtxs.map (fun c =>
    if hxWra c.2.hdr then match d.desc (hxDesc c.2.hdr) with | some x => ctxCycles c.2.hdr x.words c.2.map | none => 0 else 0)).sum
  + (d.loadedDescs.map (fun x => descCycles x.2.words)).sum

/-- Unfenced combining units and tiles. -/
def Dev.unitsUp (d : Dev) : List Nat := (List.range 128).filter (fun u => !d.flag .cmb_unit_status_fenced u)
def Dev.tilesUp (d : Dev) : List Nat := (List.range 4).filter (fun t => !d.flag .wra_tile_status_fenced t)

/-- The RATE limit in Gb/s at N = 2^`n` (R267, R309), and with the N in force, that of the last restart of the count (R318). -/
def Dev.rateLimitAt (d : Dev) (n : Nat) : Nat := 2097152 * d.unitsUp.length * (2 ^ n - 1) / (1280 * 2 ^ n)
def Dev.rateLimit (d : Dev) : Nat := d.rateLimitAt (d.get .h_cmb_n)
/-- The tile-cycle limit in millions per second (R334). -/
def Dev.cycleLimit (d : Dev) : Nat := 1600 * d.tilesUp.length

def sramLimit : Nat := 96468992

/-- Holds on group `g`: contexts of route MCAST, and the flood group (R198). -/
def Dev.groupHolds (d : Dev) (g : Nat) : Nat :=
  b2n (d.flag .fwd_ctrl_flood_enable && d.get .fwd_ctrl_flood_group == g) +
    (d.loadedCtxs.filter (fun c => !hxList c.2.hdr && hxGroup c.2.hdr == g)).length

/-- Contexts that hold descriptor `n` (R328). -/
def Dev.descHolds (d : Dev) (n : Nat) : Nat :=
  (d.loadedCtxs.filter (fun c => hxWra c.2.hdr && hxDesc c.2.hdr == n)).length

/-! ### The proof pass of a context (R266) -/

/-- Check 5 (R261, R262). -/
def ctxEncodes (h m : List Nat) : Bool :=
  decide (1 ≤ hxType h ∧ hxType h ≤ 6 ∧ hxOp h ≤ 5 ∧ hxFmt h ≤ 8 ∧ hxCode h ≤ 2 ∧ hxRoute h ≤ 1 ∧ hxLevel h ≤ 10) &&
  decide (slice (h.getD 1 0) 10 2 = 0 ∧ h.getD 3 0 = 0 ∧ 1 ≤ hxIntake h ∧ hxIntake h ≤ 209715 ∧ 1 ≤ hxTimeout h) &&
  (!hxList h || hxGroup h == 0) && (hxType h == tyBROADCAST || hxRoot h == 0) && (hxWra h || hxDesc h == 0) &&
  m.all (fun e =>
    !bit e 28 && (!meRx e || (hxList h && meKind e == 1)) && (meKind e == 2 || meLevel e == 0) &&
    (meKind e == 1 || meKind e == 2 || meGeid e == 0))

/-- Check 6. -/
def ctxFormatOp (h : List Nat) : Bool :=
  !(decide (3 ≤ hxOp h ∧ 2 ≤ hxFmt h)) && !(decide (1 ≤ hxOp h ∧ hxOp h ≤ 2 ∧ 7 ≤ hxFmt h)) &&
  !((hxType h == tyBROADCAST || hxType h == tyBARRIER) && hxOp h != 0)

/-- Check 7. -/
def ctxRange (h : List Nat) : Bool :=
  hxBase h % 2 ^ hxLevel h == 0 && decide (hxBase h + 2 ^ hxLevel h ≤ 1024) && (hxInner h || hxBase h == 0)

/-- Slots covered by the CHILD entries beside their own. -/
def coveredBy (m : List Nat) : List Nat :=
  ((List.range m.length).map (fun i =>
    if meKind (m.getD i 0) = 2 then (List.range (2 ^ meLevel (m.getD i 0) - 1)).map (fun k => i + 1 + k) else [])).flatten

/-- Check 8. -/
def ctxMap (h m : List Nat) : Bool :=
  let n := m.length
  (List.range n).all (fun i =>
    meKind (m.getD i 0) != 2 ||
      (i % 2 ^ meLevel (m.getD i 0) == 0 && decide (i + 2 ^ meLevel (m.getD i 0) ≤ n))) &&
  (List.range n).all (fun i => (meKind (m.getD i 0) == 3) == (coveredBy m).contains i) &&
  decide (0 < (directs m).length) &&
  !(hxType h == tyBROADCAST && !hxInner h && meKind (m.getD (hxRoot h) 0) != 1) &&
  !(hxType h == tyBROADCAST && hxInner h && m.any (fun e => meKind e == 2))

/-- Check 9. -/
def ctxChunks (h m : List Nat) : Bool :=
  let p := (receivers h m).length
  decide (1 ≤ hxChunks h ∧ hxChunks h ≤ 1048576 ∧ 1 ≤ hxWindow h ∧ hxWindow h ≤ 4096 ∧ hxWindow h ≤ hxChunks h) &&
  !(hxType h == tyBARRIER && hxChunks h != 1) &&
  !(hxType h == tyREDUCE_SCATTER && p != 0 && hxChunks h % p != 0)

/-- Check 10: the route. -/
def Dev.ctxRoute (d : Dev) (h m : List Nat) : Bool :=
  if hxList h then !m.any (fun e => meKind e == 2) && m.any meRx && !hxInner h
  else
    d.groupValid (hxGroup h) && d.groupClass (hxGroup h) 2 &&
      decide (((d.groupPorts (hxGroup h)).filterMap d.bundleKey).Nodup)

/-- Check 11. -/
def Dev.ctxFeature (d : Dev) (h : List Nat) : Bool :=
  hxList h || (d.groupPorts (hxGroup h)).all (fun p => !d.admitted p || d.hasFeature p ftCOLL_RESULT)

/-- Check 12. -/
def Dev.ctxParent (d : Dev) (h m : List Nat) : Bool :=
  let grid := d.flag .sys_fabric_size_fabric_mode
  (!hxInner h || (isSpine (hxParent h) && hxParent h != d.ownGeid && grid)) && (grid || !m.any (fun e => meKind e == 2))

/-- Check 14: the first reason of R332, 0 for none. -/
def Dev.wraReason (d : Dev) (h m : List Nat) : Nat :=
  match (if hxDesc h = 0 then none else d.desc (hxDesc h)) with
  | none => 1
  | some x =>
    let w := x.words
    let f := hxFmt h
    let r := rowsPer h w
    let k := rowsAll h w m
    let dense := dxKind w == dkSCALED && dxCoefKind w == 2
    if dxKind w ≠ (if hxType h = tyMOE then dkMOE else dkSCALED) then 2
    else if f < fmBF16 ∨ fmE5M2 < f ∨ (dense = true ∧ fmE4M3 ≤ f) then 3
    else if hxOp h ≠ 0 then 4
    else if hxInner h || m.any (fun e => meKind e == 2) then 5
    else if hxC h % (dxVec w * elemBytes f) ≠ 0 ∨ 4096 < k ∨
        (dxKind w = dkMOE ∧ (meKind (m.getD (dxCoefSlot w) 0) ≠ 1 ∨ hxC h < r * dxKTop w * 4)) ∨
        (dxKind w = dkSCALED ∧ dense = false ∧ dxCoefK w ≠ (dataMembers w m).length) ∨
        (dense = true ∧ (dxCoefK w ≠ k ∨ dxCoefM w ≠ r)) then 6
    else if d.cycleLimit < d.cycleSum + ctxCycles h w m then 7
    else 0

/-- Whether the loading entry may load the image (R266 check 2, R464); `h` is the header once it is read. -/
def loadAllowed (priv : Nat) (pm : List Nat) (x addr : Nat) (h : Option (List Nat)) : Bool :=
  let len := match h with | some h => 32 + 4 * 2 ^ hxLevel h | none => 32
  objAllowed priv pm ocCTX x x true && objAllowed priv pm ocKCL_ADDR addr (addr + len - 1) false &&
    (match h with
     | some h => objAllowed priv pm ocJOB_TAG (hxJob h) (hxJob h) true &&
        (hxList h || objAllowed priv pm ocMCAST (hxGroup h) (hxGroup h) true)
     | none => true)

/-- Checks 2 to 18 of R266 of the image as read, `none` where it could not be read; the result, 0 for OK. -/
def Dev.ctxCheck (d : Dev) (priv : Nat) (pm : List Nat) (x addr : Nat) (img : Option (List Nat × List Nat)) : Nat :=
  if !loadAllowed priv pm x addr (img.map (·.1)) then 2
  else if (d.ctx x).isSome then 3
  else match img with
    | none => 4
    | some (h, m) =>
      if !ctxEncodes h m then 5
      else if !ctxFormatOp h then 6
      else if !ctxRange h then 7
      else if !ctxMap h m then 8
      else if !ctxChunks h m then 9
      else if !d.ctxRoute h m then 10
      else if !d.ctxFeature h then 11
      else if !d.ctxParent h m then 12
      else if !(d.domainOn 1 && d.domainOn 6 && d.domainOn 8 && (!hxWra h || d.domainOn 7)) then 13
      else if hxWra h && d.wraReason h m != 0 then 14
      else if sramLimit < d.sramSum + slotsOf h * footprint h m then 15
      else if 32768 < d.slotSum + slotsOf h then 16
      else if d.rateLimit * 1000000000 < d.intakeSum + hxIntake h * 1000000000 then 17
      else if 1048576 < d.mapSum + 2 ^ hxLevel h then 18
      else 0

/-- Header and map of an image of bytes; missing bytes read as 0. -/
def imageOf (bs : List Nat) : List Nat × List Nat :=
  let h := (List.range 4).map (fun i => leNat ((bs.drop (8 * i)).take 8))
  (h, (List.range (2 ^ hxLevel h)).map (fun i => leNat ((bs.drop (32 + 4 * i)).take 4)))

/-! ### Loads and unloads (R266, R269) -/

/-- COLL_LOAD_STATUS of a command of the control space. -/
def Dev.collStatus (d : Dev) (x res : Nat) (busy : Bool) : Dev :=
  d.setMany [(.coll_load_status_ctx, 0, x), (.coll_load_status_result, 0, res), (.coll_load_status_busy, 0, b2n busy)]

/-- A refused load: its record (R266). -/
def Dev.collRefused (d : Dev) (x res job : Nat) : Dev := d.raise .COLL_LOAD_REFUSED d.pathDevice [.h x, .h res] job

/-- A load of context `x` issued on a path (R266, check 1): false where it is refused BUSY. -/
def Dev.collLoad (d : Dev) (path x addr priv : Nat) (pm : List Nat) : Dev × Bool :=
  if (d.collLoads.getOpt path).isSome then
    let d := d.collRefused x 1 0
    ((if path = 8 then d.collStatus x 1 true else d), false)
  else
    let d := { d with collLoads := d.collLoads.set path none (some { num := x, addr := addr / 32 * 32, priv := priv, pmap := pm }) }
    let d := d.kread (.collImage path) (reqLOAD path) (addr / 32 * 32) 32
    ((if path = 8 then d.setMany [(.coll_load_status_ctx, 0, x), (.coll_load_status_busy, 0, 1)] else d), true)

/-- The end of the image read of a path: the proof pass in one step (R266). -/
def Dev.collLoadEnd (d : Dev) (path : Nat) (bytes : Option (List Nat)) : Dev :=
  match d.collLoads.getOpt path with
  | none => d
  | some l =>
    let d := { d.dropReads (.collImage path) with collLoads := d.collLoads.set path none none }
    let img := bytes.map imageOf
    let res := d.ctxCheck l.priv l.pmap l.num l.addr img
    let h := (img.map (·.1)).getD []
    let m := (img.map (·.2)).getD []
    let d := if res = 14 then d.setMany [(.wra_last_refusal_source, 0, 2), (.wra_last_refusal_number, 0, l.num),
      (.wra_last_refusal_code, 0, d.wraReason h m)] else d
    let d := if res = 0 then d.putCtx l.num (some { hdr := h, map := m, since := d.localNs }) else d.collRefused l.num res (hxJob h)
    let d := if path = 8 then d.collStatus l.num res false else d
    d.opEnd (.collLoad path) res

/-- An unload of context `x`, and its result (R269). -/
def Dev.collUnload (d : Dev) (x : Nat) : Dev × Nat :=
  match d.ctx x with
  | none => (d, 20)
  | some c => if c.state ≠ 1 ∨ c.armed ≠ 0 then (d, 19) else (d.putCtx x none, 0)

/-! ### Descriptor loads and unloads (R330, R331) -/

/-- Check 5 of R330: reserved values and bits, and fields that do not apply. -/
def descEncodes (w : List Nat) : Bool :=
  let k := dxKind w
  let g := dxGather w
  decide (1 ≤ k ∧ k ≤ 4 ∧ dxXFmt w ≤ 8) &&
  slice (w.getD 0 0) 26 9 == 0 && slice (w.getD 1 0) 45 3 == 0 && slice (w.getD 2 0) 32 32 == 0 &&
  slice (w.getD 4 0) 29 35 == 0 && slice (w.getD 4 0) 12 4 == 0 && (w.drop 5).all (· == 0) &&
  (g || dxXFmt w == 0) &&
  (if k = dkGATHER_WRA then dxOutFmt w == 2 || dxOutFmt w == 3 else k == dkGATHER_CMB || dxOutFmt w == 0) &&
  (if k = dkSCALED then dxCoefKind w == 1 || dxCoefKind w == 2 else dxCoefKind w == 0) &&
  (!g || !dxTranspose w) && (k == dkGATHER_CMB || !dxPoolMax w) && (k == dkMOE || (dxCoefSlot w == 0 && dxKTop w == 0)) &&
  (g || (dxBag w == 0 && dxInflight w == 0 && dxRate w == 0 && dxStride w == 0)) &&
  (k == dkSCALED || (w.getD 3 0 == 0 && dxCoefK w == 0)) && ((k == dkSCALED && dxCoefKind w == 2) || dxCoefM w == 0)

/-- Check 6 of R330. -/
def descShape (w : List Nat) : Bool :=
  let k := dxKind w
  decide (1 ≤ dxVec w ∧ dxVec w ≤ 4096) && (k != dkMOE || decide (1 ≤ dxKTop w)) &&
  (!dxGather w || (decide (1 ≤ dxBag w ∧ dxBag w ≤ 64 ∧ 1 ≤ dxInflight w ∧ dxInflight w ≤ 4096) &&
    dxStride w % 64 == 0 && decide (rowBytes w ≤ dxStride w) && decide (rowBytes w ≤ 4096))) &&
  (k != dkSCALED || (decide (1 ≤ dxCoefK w) &&
    (if dxCoefKind w = 1 then decide (dxCoefK w ≤ 1024)
     else decide (dxCoefK w ≤ 4096 ∧ 1 ≤ dxCoefM w ∧ dxCoefM w ≤ 2048)))) &&
  (k != dkGATHER_WRA || (decide (fmBF16 ≤ dxXFmt w ∧ dxXFmt w ≤ fmE5M2) && decide (dxVec w * elemBytes (dxOutFmt w) ≤ 4096))) &&
  (k != dkGATHER_CMB || (decide (dxXFmt w < fmBS8) && dxOutFmt w == 0))

/-- Checks 2 to 10 of R330 of an image as read; `coefs` says whether coef_src was read. -/
def Dev.descCheck (d : Dev) (priv : Nat) (pm : List Nat) (n addr : Nat) (img : Option (List Nat)) (coefs : Bool) : Nat :=
  if !(objAllowed priv pm ocWRA_DESC n n true && objAllowed priv pm ocKCL_ADDR addr (addr + 63) false &&
      (match img with | some w => objAllowed priv pm ocJOB_TAG (dxJob w) (dxJob w) true | none => true)) then 2
  else if (d.desc n).isSome then 3
  else match img with
    | none => 4
    | some w =>
      if dxKind w = dkSCALED ∧ coefs = false then 4
      else if n = 0 ∨ descEncodes w = false then 5
      else if !descShape w then 6
      else if d.domainOn 8 = false ∨ (dxKind w ≠ dkGATHER_CMB ∧ d.domainOn 7 = false) then 7
      else if sramLimit < d.sramSum + descSram w then 8
      else if dxKind w = dkGATHER_WRA ∧ d.cycleLimit < d.cycleSum + descCycles w then 9
      else if dxKind w = dkGATHER_CMB ∧ d.rateLimit * 1000000000 < d.intakeSum + descRate w then 10
      else 0

/-- WRA_DESC_STATUS of a command of the control space. -/
def Dev.descStatus (d : Dev) (n res : Nat) (busy : Bool) : Dev :=
  d.setMany [(.wra_desc_status_desc, 0, n), (.wra_desc_status_result, 0, res), (.wra_desc_status_busy, 0, b2n busy)]

/-- A refused descriptor load: WRA_LAST_REFUSAL and the record (R330, R348). -/
def Dev.descRefused (d : Dev) (n res job : Nat) : Dev :=
  (d.setMany [(.wra_last_refusal_source, 0, 1), (.wra_last_refusal_number, 0, n), (.wra_last_refusal_code, 0, res)]).raise
    .WRA_DESC_REFUSED d.pathDevice [.h n, .h res] job

/-- Whether a load or unload runs on a path (R330, check 1). -/
def Dev.descPathBusy (d : Dev) (path : Nat) : Bool :=
  (d.wraLoads.getOpt path).isSome || d.loadedDescs.any (fun x => x.2.unloads.contains path)

/-- A load of descriptor `n` issued on a path: false where it is refused BUSY. -/
def Dev.descLoad (d : Dev) (path n addr priv : Nat) (pm : List Nat) : Dev × Bool :=
  if d.descPathBusy path then
    let d := d.descRefused n 1 0
    ((if path = 8 then d.descStatus n 1 true else d), false)
  else
    let d := { d with wraLoads := d.wraLoads.set path none (some { num := n, addr := addr / 64 * 64, priv := priv, pmap := pm }) }
    let d := d.kread (.wraImage path) (reqLOAD path) (addr / 64 * 64) 64
    ((if path = 8 then d.setMany [(.wra_desc_status_desc, 0, n), (.wra_desc_status_busy, 0, 1)] else d), true)

/-- The region of combine SRAM of a SCALED descriptor once its coefficients, row-major, are copied: DIAG in order, the rest of
the region 0, DENSE in the cross-hatch layout through SKEW (R326, R330, R480). -/
def coefRegion (w : List Nat) (cs : List Nat) : List Nat :=
  if dxKind w ≠ dkSCALED then []
  else if dxCoefKind w = 1 then
    let bs := ((List.range (dxCoefK w)).map (fun i => leBytes 2 (cs.getD i 0))).flatten
    bs ++ List.replicate (descSram w - bs.length) 0
  else hatchBytes (dxCoefM w) (dxCoefK w) cs

/-- W[t][k] of a DENSE region, and s_q of a DIAG region as the element q of row 0 (R326, R333). -/
def Desc.coef (x : Desc) (t k : Nat) : Nat :=
  let o := if dxCoefKind x.words = 1 then 2 * k else hatchOffset (dxCoefM x.words) t k
  leNat ((x.region.drop o).take 2)

/-- The read of coef_src that a load of a SCALED descriptor makes once its image is read (R330). -/
def Dev.coefRead (d : Dev) (path : Nat) (w : List Nat) : Dev :=
  if dxKind w = dkSCALED then
    d.emit (.kclRead (reqLOAD path) (dxCoefSrc w) (2 * dxCoefK w * (if dxCoefKind w = 1 then 1 else dxCoefM w)))
  else d

/-- The end of the reads of a descriptor load: checks and load in one step (R330). -/
def Dev.descLoadEnd (d : Dev) (path : Nat) (img : Option (List Nat)) (coefs : Option (List Nat)) : Dev :=
  match d.wraLoads.getOpt path with
  | none => d
  | some l =>
    let d := { d.dropReads (.wraImage path) with wraLoads := d.wraLoads.set path none none }
    let res := d.descCheck l.priv l.pmap l.num l.addr img coefs.isSome
    let w := img.getD []
    let d := if res = 2 ∨ res = 3 then d else d.coefRead path w
    let d := if res = 0 then d.putDesc l.num (some { words := w, region := coefRegion w (coefs.getD []), since := d.localNs })
      else d.descRefused l.num res (dxJob w)
    let d := if path = 8 then d.descStatus l.num res (d.descPathBusy 8) else d
    d.opEnd (.wraLoad path) (if res = 0 then 0 else 32 + res)

/-- Gather requests of descriptor `n` in flight. -/
def Dev.descInflight (d : Dev) (n : Nat) : Nat := (d.gathers.filter (fun g => g.desc == n)).length

/-- A DRAINING descriptor without requests in flight is freed and its unloads complete (R331). -/
def Dev.descDrained (d : Dev) (n : Nat) : Dev :=
  match d.desc n with
  | some x =>
    if x.state = 2 ∧ d.descInflight n = 0 then
      let d := d.putDesc n none
      (if x.unloads.contains 8 then d.descStatus n 0 (d.descPathBusy 8) else d).opEnd (.wraUnload n) 0
    else d
  | none => d

/-- An unload of descriptor `n` on a path; the result where it ends at once, none while it waits (R331). -/
def Dev.descUnload (d : Dev) (path n : Nat) : Dev × Option Nat :=
  match d.desc n with
  | none => (d, some 12)
  | some x =>
    if d.descHolds n ≠ 0 then (d, some 11)
    else if !dxGather x.words ∨ d.descInflight n = 0 then
      (({ d with descs := d.descs.set n none (some { x with state := 2 }) } : Dev).descDrained n, some 0)
    else (d.putDesc n (some { x with state := 2, unloads := x.unloads ++ [path] }), none)

/-! ### Frames of the collective engine (R278, R217) -/

/-- A frame of context `x` and step `st` is sent (R278). -/
def Dev.collSend (d : Dev) (x st ty cls dst chunk member flags w6 : Nat) (payload : List Nat) : Dev :=
  let h : Hdr := { ftype := ty, cls := cls, order := 1, plane := d.plane, dst := dst, src := d.ownGeid, entropy := x,
                   length := payload.length, w6 := w6 }
  { d with collOut := d.collOut ++ [(h.withColl x st chunk member flags, payload)] }

/-- Whether a frame of the context's step and kind has not left yet (R280, R283). -/
def Dev.collHeld (d : Dev) (x st : Nat) (p : Hdr → Bool) : Bool :=
  d.frames.any (fun f => f.hdr.ctx == x && f.hdr.step == st && p f.hdr) ||
  d.collOut.any (fun o => o.1.ctx == x && o.1.step == st && p o.1)

end Sys2Proof.Machine
end

