-- ==== Sys2Proof/Machine/Fmem.lean ====
section
/-! DEFINITION. Fabric memory below its commands: the bytes (R372, R386), windows and frames (R371 to R375), operations in
flight and their answers (R376 to R381), mirror pairs (R382 to R384), the LPDDR side (R387 to R390). -/

namespace Sys2Proof.Machine

/-! ### Bytes -/

/-- What an unlisted byte of fabric memory reads as (log entry 6). -/
def memDefault : Byte := 0

/-- The byte at a usable address. -/
def memByte (m : SMap Byte) (a : Nat) : Nat := (m.get a memDefault).toNat

/-- A byte written. -/
def memPut (m : SMap Byte) (a v : Nat) : SMap Byte := m.set a memDefault (BitVec.ofNat 8 v)

/-- `n` bytes from an address. -/
def memRead (m : SMap Byte) (a n : Nat) : List Nat := (List.range n).map (fun i => memByte m (a + i))

/-- Bytes written from an address up. -/
def memWrite (m : SMap Byte) (a : Nat) : List Nat → SMap Byte
  | [] => m
  | b :: bs => memWrite (memPut m a b) (a + 1) bs

/-- Every byte of local frame `f` zero (R375); the zeros are there from the accepted MAP on, so a push acknowledged during ZEROING
stands (log entry 66). -/
def memZero (m : SMap Byte) (f : Nat) : SMap Byte := m.keep (fun a => !decide (f * 2 ^ 30 ≤ a ∧ a < (f + 1) * 2 ^ 30))

/-! ### Channels (R386, R387, R390) -/

/-- The channel of a stripe. -/
def stripeChan (q : Nat) : Nat := (q % 64) ^^^ (q / 64 % 64)

/-- The channel of a usable address. -/
def chanOf (a : Nat) : Nat := stripeChan (a / 256)

/-- Stripes that `n` bytes from `a` touch. -/
def stripesOf (a n : Nat) : List Nat := (List.range ((a + n - 1) / 256 - a / 256 + 1)).map (fun i => a / 256 + i)

/-- Whether some channel of an access is failed (R390). -/
def Dev.chanFailed (d : Dev) (a n : Nat) : Bool := (stripesOf a n).any (fun q => d.flag .memc_ch_status_failed (stripeChan q))

/-- A channel fails (R390). -/
def Dev.failChan (d : Dev) (k : Nat) : Dev :=
  if d.flag .memc_ch_status_failed k then d
  else (d.set .memc_ch_status_failed k 1).raise .MEMC_CH_FAIL (d.pathDevice ucLPDDR_CHANNEL k) [.h k]

/-- The window and job tag of the frame that holds a usable address, if it is mapped. -/
def Dev.mappedAt (d : Dev) (a : Nat) : Option Nat :=
  if a / 2 ^ 30 < 409 ∧ d.get .fmem_win_state_state (a / 2 ^ 30) ≠ 0 then some (a / 2 ^ 30) else none

/-- An uncorrectable word at usable address `a` found by a read, or by the patrol scrub (R387, R388, R390, R396). -/
def Dev.memUncorr (d : Dev) (scrub : Bool) (a : Nat) : Dev :=
  let k := chanOf a
  let at' : Attr := { src := some (a / 256) }
  let d := d.count (blkLpddr k) (if scrub then .MEM_SCRUB_UNCORR else .MEM_UNCORR) 1 at'
  let d := d.incrSat .memc_ch_ecc_uncorrectable k
  let d := d.setMany [(.memc_last_uncorr_channel, 0, k), (.memc_last_uncorr_address, 0, a / 8 * 8)]
  let (win, off, job) := match d.mappedAt a with
    | some f => (d.get .fmem_win_cfg_window f, a % 2 ^ 30, d.get .fmem_win_cfg_job_tag f)
    | none => (0, 0, 0)
  let d := d.raise (if scrub then .MEM_SCRUB_UNCORR else .MEM_UNCORR) (d.pathDevice ucLPDDR_CHANNEL k) [.h k, .w win, .w off] job
  let now := d.localNs
  let times := now :: ((d.chUncorr.get k []).filter (fun t => decide (now < t + 1000000000))).take 64
  let d := { d with chUncorr := d.chUncorr.set k [] times }
  if times.length > 64 then d.failChan k else d

/-- A corrected word (R387, R388). -/
def Dev.memCorr (d : Dev) (scrub : Bool) (a : Nat) : Dev :=
  (d.count (blkLpddr (chanOf a)) (if scrub then .MEM_SCRUB_CORR else .MEM_CORR) 1 { src := some (a / 256) }).incr
    .memc_ch_ecc_corrected (chanOf a)

/-- The data bytes of an access, counted by stripe (R489). -/
def Dev.memBytes (d : Dev) (e : Ev) (a n : Nat) : Dev :=
  (stripesOf a n).foldl (fun d q =>
    d.count (blkLpddr (stripeChan q)) e (min (a + n) (256 * q + 256) - max a (256 * q)) { src := some q }) d

/-- What a read of `n` bytes at `a` finds: words corrected and uncorrectable, those within the access; true when it cannot
answer (R387, R390). -/
def Dev.memCheck (d : Dev) (a n : Nat) (corr bad : List Nat) : Dev × Bool :=
  let inside := fun (w : Nat) => decide (a / 8 ≤ w / 8 ∧ w / 8 ≤ (a + n - 1) / 8)
  let c := corr.filter inside
  let b := bad.filter inside
  let d := c.foldl (fun d w => d.memCorr false w) d
  let d := b.foldl (fun d w => d.memUncorr false w) d
  (d, !b.isEmpty || d.chanFailed a n)

/-! ### Windows and frames (R371 to R375) -/

/-- Frame states (R373). -/
def fsFREE : Nat := 0
def fsZEROING : Nat := 1
def fsACTIVE : Nat := 2
def fsDEGRADED : Nat := 3
def fsORPHAN : Nat := 4
def fsRESYNC : Nat := 5
def fsDRAINING : Nat := 6

def Dev.fstate (d : Dev) (f : Nat) : Nat := d.get .fmem_win_state_state f
def Dev.frole (d : Dev) (f : Nat) : Nat := d.get .fmem_win_cfg_role f

/-- Window and offset of a fabric address (R371). -/
def faWindow (a : Nat) : Nat := slice a 30 26
def faOffset (a : Nat) : Nat := slice a 0 30

/-- The local frame that holds a window: mapped and not draining (R372). -/
def Dev.windowFrame (d : Dev) (w : Nat) : Option Nat :=
  firstBelow 409 (fun f => d.get .fmem_win_cfg_window f == w && d.fstate f != fsFREE && d.fstate f != fsDRAINING)

/-- Dirty granules of frame `f` (R383). -/
def Dev.dirty (d : Dev) (f : Nat) : List (Nat × Nat) := d.fdirty.get f []
def Dev.putDirty (d : Dev) (f : Nat) (l : List (Nat × Nat)) : Dev := { d with fdirty := d.fdirty.set f [] l }
/-- Number of granules in intervals. -/
def ivCount (l : List (Nat × Nat)) : Nat := (l.map (fun p => p.2 - p.1)).sum
def ivHas (l : List (Nat × Nat)) (g : Nat) : Bool := l.any (fun p => decide (p.1 ≤ g ∧ g < p.2))
def ivAdd (l : List (Nat × Nat)) (g : Nat) : List (Nat × Nat) := if ivHas l g then l else insertBy (fun a b => a.1 ≤ b.1) (g, g + 1) l
def ivDel (l : List (Nat × Nat)) (g : Nat) : List (Nat × Nat) :=
  (l.map (fun p => if p.1 ≤ g ∧ g < p.2 then [(p.1, g), (g + 1, p.2)].filter (fun q => decide (q.1 < q.2)) else [p])).flatten
/-- The first granule of intervals that is not in a list. -/
def ivFirst (l : List (Nat × Nat)) (not : List Nat) : Option Nat :=
  l.findSome? (fun p => (List.range (min (p.2 - p.1) (not.length + 1))).findSome? (fun i => if not.contains (p.1 + i) then none else some (p.1 + i)))

/-- Granules that `n` bytes at offset `o` touch, marked dirty. -/
def Dev.markDirty (d : Dev) (f o n : Nat) : Dev :=
  d.putDirty f ((List.range ((o + n - 1) / 4096 - o / 4096 + 1)).foldl (fun l i => ivAdd l (o / 4096 + i)) (d.dirty f))

/-- The frame that holds a window, draining ones included. -/
def Dev.winHolder (d : Dev) (w : Nat) : Option Nat :=
  firstBelow 409 (fun f => d.get .fmem_win_cfg_window f == w && d.fstate f != fsFREE)

/-- The windows of the DMA bursts in flight that read or write fabric memory, one for each (R381, R478). -/
def Dev.dmaPlaces (d : Dev) : List Nat :=
  (d.dma.entries.map (fun e => match e.2.move with
    | some m => m.bursts.filterMap (fun b =>
        if b.2 = 0 ∧ m.srcSp = 1 then some (faWindow m.src) else if b.2 = 1 ∧ m.dstSp = 1 then some (faWindow m.dst)
        else if b.2 = 0 ∧ m.dstSp = 1 then some (faWindow m.dst) else none)
    | none => [])).flatten

/-- Operations in flight on frame `f`, and in all (R381, R395). -/
def Dev.frameInflight (d : Dev) (f : Nat) : Nat :=
  (d.fops.filter (fun o => o.frame == f)).length + (d.gathers.filter (fun g => g.frame == f)).length
    + (d.dmaPlaces.filter (fun w => d.winHolder w == some f)).length
def Dev.slotsInflight (d : Dev) : Nat := d.fops.length + d.gathers.length + d.dmaPlaces.length

/-- Results of R374. -/
def Dev.mapRefused (d : Dev) (f w res job : Nat) : Dev :=
  d.raise .FMEM_MAP_REFUSED (d.pathDevice ucFMEM_FRAME f) [.h f, .w w, .h res] job

/-- Reserved bits of FMEM_MAP_ARG0 and ARG1, and a reserved role (R374 check 5, R394). -/
def argsEncode (a0 a1 : Nat) : Bool :=
  slice a0 62 2 != 3 && slice a0 42 4 == 0 && slice a1 48 16 == 0 && decide (slice a1 0 24 ≤ slice a1 24 24)

/-- Whether a command runs: an UNMAP does until its frame is FREE (R374, R467, log entry 66). -/
def Dev.memBusy (d : Dev) : Bool := (List.range 409).any (fun f => d.fstate f == fsDRAINING)

/-- MAP of frame `f` with two argument words: the result of R374. -/
def Dev.mapResult (d : Dev) (f a0 a1 : Nat) : Nat :=
  let mirror := slice a0 62 2 == 1 || slice a0 62 2 == 2
  if d.memBusy then 1
  else if !d.domainOn 9 then 3
  else if (List.range 64).any (fun k => d.flag .memc_ch_status_failed k) then 4
  else if 409 ≤ f ∨ argsEncode a0 a1 = false then 5
  else if d.fstate f ≠ fsFREE then 6
  else if (List.range 409).any (fun g => d.fstate g != fsFREE && d.get .fmem_win_cfg_window g == slice a0 16 26) then 7
  else if mirror && !d.flag .sys_fabric_size_fabric_mode then 8
  else if mirror && slice a0 46 14 == d.get .sys_fabric_pos_device then 9
  else 0

/-- MAP carried out (R375). -/
def Dev.mapFrame' (d : Dev) (f a0 a1 : Nat) : Dev :=
  d.setMany [(.fmem_win_cfg_role, f, slice a0 62 2), (.fmem_win_cfg_writable, f, slice a0 61 1), (.fmem_win_cfg_atomics, f, slice a0 60 1),
    (.fmem_win_cfg_partner, f, slice a0 46 14), (.fmem_win_cfg_window, f, slice a0 16 26), (.fmem_win_cfg_job_tag, f, slice a0 0 16),
    (.fmem_win_src_src_limit, f, slice a1 24 24), (.fmem_win_src_src_base, f, slice a1 0 24), (.fmem_win_state_state, f, fsZEROING),
    (.h_fm_hold, f, 0)]

/-- The result of UNMAP, RESYNC or PROMOTE of frame `f`, by the code of FMEM_MAP_CMD (R374). -/
def Dev.frameCmdResult (d : Dev) (cmd f : Nat) : Nat :=
  if d.memBusy then 1
  else if !d.domainOn 9 then 3
  else if 409 ≤ f then 5
  else if d.fstate f = fsFREE then 10
  else if cmd = 4 ∧ !(d.frole f == 2 && (d.fstate f == fsORPHAN || d.fstate f == fsRESYNC)) then 11
  else if cmd = 3 ∧ !(d.frole f == 1 && d.fstate f == fsDEGRADED) then 11
  else 0

/-- A frame whose pair is gone: its mirror frames in flight are discarded and those that wait to leave are not sent (R375, R383). -/
def Dev.dropPushes (d : Dev) (f : Nat) : Dev :=
  { d with
    fpushes := d.fpushes.filter (fun (p : MPush) => p.frame != f)
    fmemOut := d.fmemOut.filter (fun o => o.2.2.isSome || faWindow o.1.faddr != d.get .fmem_win_cfg_window f) }

/-! ### Frames out (R379, R382) -/

/-- Frames of the engine that wait are originated at input 513 while they fit; an operation's slot is freed when its
response is enqueued (R381). `n` bounds the frames taken. -/
def Dev.fmemDrain (d : Dev) : Nat → Dev
  | 0 => d
  | n + 1 =>
    match d.fmemOut with
    | [] => d
    | (h, p, id) :: rest =>
      match ({ d with fmemOut := rest } : Dev).originate 513 h p with
      | some d' =>
        let d'' : Dev := match id with
          | some i => { d' with
              fops := d'.fops.filter (fun (o : MOp) => o.id != i), gathers := d'.gathers.filter (fun (g : Gather) => g.id != i) }
          | none => d'
        d''.fmemDrain n
      | none => d

/-- Statuses of R377. -/
def msOK : Nat := 0
def msNOT_MAPPED : Nat := 1
def msNOT_READY : Nat := 2
def msDOMAIN_OFF : Nat := 3
def msFORMAT : Nat := 4
def msALIGN : Nat := 5
def msRANGE : Nat := 6
def msPROTECTION : Nat := 7
def msNOT_PRIMARY : Nat := 8
def msSTALE : Nat := 9
def msUNCORRECTABLE : Nat := 10
def msGATHER_DESC : Nat := 11
def msGATHER_FORMAT : Nat := 12
def msGATHER_WEIGHT : Nat := 13
def msWRA_FAULT : Nat := 14

/-- The response to request `h` of operation `id` (R379). -/
def Dev.fmemRespond (d : Dev) (id : Nat) (h : Hdr) (status : Nat) (data : List Nat) : Dev :=
  let kind := if h.ftype = ftMEM_WR then 1 else if h.ftype = ftMEM_ATOM then 2 else 0
  let r : Hdr :=
    { ftype := if h.ftype = ftGATHER_REQ then ftGATHER_RSP else ftMEM_RSP, cls := 4, order := 1, plane := d.plane, dst := h.src,
      dstSub := h.srcSub, src := d.ownGeid, entropy := h.entropy, length := data.length, w4 := h.w4, w5 := h.w5 }
  { d with fmemOut := d.fmemOut ++ [(r.withReq h.reqid status kind, data, some id)] }

/-- An operation is answered; its slot is held until the response is enqueued. -/
def Dev.opAnswer (d : Dev) (o : MOp) (status : Nat) (data : List Nat) : Dev :=
  let d := { d with fops := d.fops.map (fun (e : MOp) => if e.id = o.id then { e with phase := 3 } else e) }
  d.fmemRespond o.id o.hdr status data

/-- A mirror frame of frame `f` (R382). -/
def Dev.mirrorSend (d : Dev) (f kind num addr : Nat) (payload : List Nat) : Dev :=
  let win := d.get .fmem_win_cfg_window f
  let h : Hdr :=
    { ftype := ftMEM_RSP, cls := 4, order := 1, plane := d.plane, dst := 0xFF0000 + d.get .fmem_win_cfg_partner f,
      src := d.ownGeid, entropy := win % 2 ^ 16, length := payload.length }
  { d with fmemOut := d.fmemOut ++ [((h.withAddr addr).withReq num 0 kind, payload, none)] }

/-- A numbered mirror frame that will be acknowledged (R382, R384). -/
def Dev.mirrorPush (d : Dev) (f kind addr : Nat) (payload : List Nat) (op gran : Option Nat) : Dev :=
  let n := d.get .h_push_id
  let d := { d.incr .h_push_id 0 with fpushes := d.fpushes ++
    [({ num := n, frame := f, kind := kind, op := op, gran := gran, off := faOffset addr, len := payload.length } : MPush)] }
  d.mirrorSend f kind n addr payload

/-- MIRROR_DONE once nothing is dirty (R384). -/
def Dev.resyncDone (d : Dev) (f : Nat) : Dev :=
  if d.fstate f = fsRESYNC ∧ d.frole f = 1 ∧ ivCount (d.dirty f) = 0 ∧ !d.fpushes.any (fun p => p.frame == f && p.kind == 19) then
    d.mirrorPush f 19 (d.get .fmem_win_cfg_window f * 2 ^ 30) [] none none
  else d

/-! ### Requests (R376 to R381) -/

/-- Checks 1 to 4 of R377 that look at the frame and the header, told whether the form is right, then 5 to 9. `len` is the
length of the access. -/
def Dev.reqStatus (d : Dev) (h : Hdr) (form align : Bool) (len : Nat) (wr at' : Bool) : Nat × Nat :=
  match d.windowFrame (faWindow h.faddr) with
  | none => (msNOT_MAPPED, 0)
  | some f =>
    let st := d.fstate f
    (if st = fsZEROING then msNOT_READY
     else if !d.domainOn 9 then msDOMAIN_OFF
     else if !form || slice h.faddr 56 8 != 0 then msFORMAT
     else if !align then msALIGN
     else if 2 ^ 30 < faOffset h.faddr + len then msRANGE
     else if h.src < d.get .fmem_win_src_src_base f ∨ d.get .fmem_win_src_src_limit f < h.src ∨
        (wr = true ∧ d.flag .fmem_win_cfg_writable f = false) ∨ (at' = true ∧ d.flag .fmem_win_cfg_atomics f = false) then msPROTECTION
     else if d.frole f = 2 ∧ st ≠ fsACTIVE then msSTALE
     else if d.frole f = 2 ∧ wr = true then msNOT_PRIMARY
     else msOK, f)

/-- The status of a MEM_RD, MEM_WR or MEM_ATOM, and its frame (R376, R377). -/
def Dev.memStatus (d : Dev) (h : Hdr) : Nat × Nat :=
  let o := faOffset h.faddr
  if h.ftype = ftMEM_RD then d.reqStatus h (h.opcode == 0 && h.length == 0) (o % 64 == 0) ((h.size + 1) * 64) false false
  else if h.ftype = ftMEM_WR then
    d.reqStatus h (h.opcode == 0 && h.size == 0 && decide (8 ≤ h.length) && h.length % 8 == 0) (o % 8 == 0) h.length true false
  else
    d.reqStatus h (decide (h.opcode ≤ 7) && h.size == 0 && h.length == (if h.opcode = 2 then 16 else 8)) (o % 8 == 0) 8 true true

/-- The new word of an atomic (R378). -/
def atomNew (op old a b : Nat) : Nat :=
  match op with
  | 0 => (old + a) % 2 ^ 64
  | 1 => a
  | 2 => if old = a then b else old
  | 3 => old &&& a
  | 4 => old ||| a
  | 5 => old ^^^ a
  | 6 => if sgn 64 a < sgn 64 old then a else old
  | _ => if sgn 64 old < sgn 64 a then a else old

/-- The request at the head of the FMEM output is taken and checked, or waits for a slot (R377, R381). -/
def Dev.fmemTake (d : Dev) : Dev :=
  match d.internalHead 513 3 with
  | none => d
  | some (f, mark) =>
    if !f.complete ∨ ([ftMEM_RD, ftMEM_WR, ftMEM_ATOM].contains f.hdr.ftype) = false then d
    else if d.slotsInflight ≥ 65536 then d.count blkDevice .FMEM_HOLD
    else
      let d := d.echo f mark
      let (st, fr) := d.memStatus f.hdr
      let id := d.get .h_gather_id
      let o : MOp := { id := id, hdr := f.hdr, payload := f.payload, frame := fr }
      let d := { (d.takeInternal 513 f).incr .h_gather_id 0 with fops := d.fops ++ [o] }
      if st = msOK then d else ({ d with fops := d.fops.map (fun (e : MOp) => if e.id = id then { e with frame := 409 } else e) } : Dev).opAnswer o st []

/-- Length in bytes of an operation's access. -/
def MOp.len (o : MOp) : Nat :=
  if o.hdr.ftype = ftMEM_RD then (o.hdr.size + 1) * 64 else if o.hdr.ftype = ftMEM_WR then o.hdr.length else 8

/-- The bytes an operation touches and those of a gather's rows of `n` bytes that are read, as usable addresses and lengths. -/
def MOp.spans (o : MOp) : List (Nat × Nat) := [(o.frame * 2 ^ 30 + faOffset o.hdr.faddr, o.len)]
def Gather.spans (g : Gather) (n : Nat) : List (Nat × Nat) :=
  (g.positions.filter (fun q => slice q.2 0 15 != 0)).map (fun q => (q.1, n))
def spansMeet (a b : List (Nat × Nat)) : Bool := a.any (fun p => b.any (fun q => decide (p.1 < q.1 + q.2 ∧ q.1 < p.1 + p.2)))

/-- Whether an operation or gather older than `id` from the source of `h`, overlapping the spans, has not been executed (R380). -/
def Dev.mustWait (d : Dev) (id : Nat) (h : Hdr) (sp : List (Nat × Nat)) : Bool :=
  let same := fun (e : Hdr) => e.src == h.src && e.srcSub == h.srcSub
  d.fops.any (fun (e : MOp) => decide (e.id < id) && e.phase == 0 && same e.hdr && spansMeet e.spans sp) ||
  d.gathers.any (fun (g : Gather) => decide (g.id < id) && g.rows.isNone && !g.answered && same g.hdr &&
    spansMeet (g.spans (match d.desc g.desc with | some y => rowBytes y.words | none => 0)) sp)

/-- A write of `bytes` at offset `off` of frame `f` for operation `o` is done; the pair is told, or the answer is given or
held (R380, R382, R383). -/
def Dev.writeDone (d : Dev) (o : MOp) (data bytes : List Nat) : Dev :=
  let f := o.frame
  let st := d.fstate f
  let hold := fun (d : Dev) (ph : Nat) =>
    { d with fops := d.fops.map (fun (e : MOp) => if e.id = o.id then { e with phase := ph, data := data } else e) }
  if d.frole f = 1 ∧ (st = fsACTIVE ∨ st = fsRESYNC) then
    (hold d 1).mirrorPush f 16 o.hdr.faddr bytes (some o.id) none
  else if d.frole f = 1 ∧ st = fsDEGRADED then
    let d := d.markDirty f (faOffset o.hdr.faddr) bytes.length
    if d.flag .h_fm_hold f then hold d 2 else d.opAnswer o msOK data
  else d.opAnswer o msOK data

/-- The LPDDR access of operation `id` completes; `corr` and `bad` are the words found corrected and uncorrectable
(R378, R379, R387). -/
def Dev.accessDone (d : Dev) (m : SMap Byte) (id : Nat) (corr bad : List Nat) : Dev × SMap Byte :=
  match d.fops.find? (fun o => o.id == id && o.phase == 0) with
  | none => (d, m)
  | some o =>
    if d.mustWait o.id o.hdr o.spans then (d, m)
    else
      let a := o.frame * 2 ^ 30 + faOffset o.hdr.faddr
      let n := o.len
      let at' : Attr := { src := some (a / 256) }
      let blk := blkLpddr (chanOf a)
      if o.hdr.ftype = ftMEM_RD then
        let d := (d.count blk .FMEM_RD 1 at').memBytes .MEM_RD_BYTES a n
        let (d, err) := d.memCheck a n corr bad
        (if err then d.opAnswer o msUNCORRECTABLE [] else d.opAnswer o msOK (memRead m a n), m)
      else if o.hdr.ftype = ftMEM_WR then
        let d := (d.count blk .FMEM_WR 1 at').memBytes .MEM_WR_BYTES a n
        if d.chanFailed a n then (d.opAnswer o msUNCORRECTABLE [], m)
        else (d.writeDone o [] o.payload, memWrite m a o.payload)
      else
        let d := ((d.count blk .FMEM_ATOM 1 at').memBytes .MEM_RD_BYTES a 8)
        let (d, err) := d.memCheck a 8 corr bad
        if err then (d.opAnswer o msUNCORRECTABLE [], m)
        else
          let old := leNat (memRead m a 8)
          let new := atomNew o.hdr.opcode old (beNat (o.payload.take 8)) (beNat ((o.payload.drop 8).take 8))
          ((d.memBytes .MEM_WR_BYTES a 8).writeDone o (beBytes 8 old) (leBytes 8 new), memWrite m a (leBytes 8 new))

/-! ### Mirror frames that arrive (R382 to R384) -/

/-- A mirror frame of kind `k` at the head of the FMEM output is taken; `act` is told its frame where it may act on one of
the role, as the rules of R382 have it. -/
def Dev.mirrorHead (d : Dev) (mem : SMap Byte) (k role : Nat) (act : Nat → Frame → Dev → Dev × SMap Byte) : Dev × SMap Byte :=
  match d.internalHead 513 4 with
  | none => (d, mem)
  | some (f, _) =>
    if !f.complete ∨ f.hdr.ftype ≠ ftMEM_RSP ∨ f.hdr.size ≠ k then (d, mem)
    else
      let edge := match f.arrival with | some n => d.role n == roleDOWN || d.role n == roleSERVICE | none => false
      let at' := firstBelow 409 (fun g => d.get .fmem_win_cfg_window g == faWindow f.hdr.faddr && d.fstate g != fsFREE)
      let d' := d.takeInternal 513 f
      let no := d'.count blkDevice .FMEM_MIRROR_SRC
      match at' with
      | none => (no, mem)
      | some g =>
        if edge || f.hdr.src != 0xFF0000 + d.get .fmem_win_cfg_partner g || d.frole g != role then (no, mem)
        else if d.fstate g = fsDRAINING then (d', mem)
        else act g f d'

/-- The primary loses its partner (R383). -/
def Dev.mirrorLost (d : Dev) (f : Nat) : Dev :=
  let d := (d.fpushes.filter (fun (p : MPush) => p.frame == f && p.len != 0)).foldl (fun d p => d.markDirty f p.off p.len) d
  let d := { d.dropPushes f with
    fops := d.fops.map (fun (o : MOp) => if o.frame = f ∧ o.phase = 1 then { o with phase := 2 } else o) }
  let d := d.setMany [(.fmem_win_state_state, f, fsDEGRADED), (.h_fm_hold, f, 1)]
  d.raise .FMEM_MIRROR_LOST (d.pathDevice ucFMEM_FRAME f)
    [.h f, .w (d.get .fmem_win_cfg_window f), .h (d.get .fmem_win_cfg_partner f), .w (ivCount (d.dirty f))] (d.get .fmem_win_cfg_job_tag f)

/-- The next dirty granule is pushed (R384). -/
def Dev.resyncPush (d : Dev) (m : SMap Byte) (f : Nat) : Dev :=
  if d.fstate f ≠ fsRESYNC ∨ d.frole f ≠ 1 then d
  else
    match ivFirst (d.dirty f) (d.fpushes.filterMap (fun p => if p.frame = f then p.gran else none)) with
    | none => d
    | some g =>
      d.mirrorPush f 16 (d.get .fmem_win_cfg_window f * 2 ^ 30 + g * 4096) (memRead m (f * 2 ^ 30 + g * 4096) 4096) none (some g)

end Sys2Proof.Machine
end

