-- ==== Sys2Proof/Machine/Steps.lean ====
section
/-! DEFINITION. Steps of a collective: combining units and their shadow checks (R274, R307 to R315), chunks (R273 to R279),
the ends of a step (R280 to R287, R351 to R354, R363), launches (R270, R416). -/

namespace Sys2Proof.Machine

/-! ### Contexts and chunks -/

/-- Fields of a loaded context. -/
def Ctx.c (c : Ctx) : Nat := hxC c.hdr
def Ctx.kind (c : Ctx) : Nat := hxType c.hdr
def Ctx.base (c : Ctx) : Nat := hxBase c.hdr
def Ctx.job (c : Ctx) : Nat := hxJob c.hdr
def Ctx.inner (c : Ctx) : Bool := hxInner c.hdr
def Ctx.n (c : Ctx) : Nat := hxChunks c.hdr

/-- The map entry of an absolute slot; 0, EMPTY, outside the range. -/
def Ctx.entry (c : Ctx) (slot : Nat) : Nat := if slot < c.base then 0 else c.map.getD (slot - c.base) 0

/-- Map indexes whose inputs a chunk needs (R260). -/
def Ctx.needs (c : Ctx) : List Nat := if c.kind = tyBROADCAST then [hxRoot c.hdr - c.base] else directs c.map

/-- Whether every input of a chunk is held. -/
def Ctx.full (c : Ctx) (ch : Chunk) : Bool := c.needs.all (fun i => ch.inputs.any (fun p => p.1 == i))

/-- Whether chunk `k` of a step is complete (R274). -/
def Step.isComplete (r : Step) (k : Nat) : Bool := decide (k < r.base) || r.complete.contains k

/-- The first number at or above `b` that is not in the list, and what the list holds above it (fuel: its length). -/
def advance : Nat → Nat → List Nat → Nat × List Nat
  | 0, b, l => (b, l)
  | n + 1, b, l => if l.contains b then advance n (b + 1) (l.erase b) else (b, l)

/-- Chunk `k` becomes complete; window_base follows (R274). -/
def Step.completes (r : Step) (k : Nat) : Step :=
  if r.isComplete k then r
  else let a := advance (r.complete.length + 1) r.base (k :: r.complete); { r with base := a.1, complete := a.2 }

/-- Chunk `k` is no longer complete (R279). -/
def Step.uncompletes (r : Step) (k : Nat) : Step :=
  if k < r.base then
    { r with base := k, complete := (List.range (r.base - k - 1)).map (fun i => k + 1 + i) ++ r.complete }
  else { r with complete := r.complete.erase k }

/-- Chunk `k` has a passed verdict. -/
def Step.verifies (r : Step) (k : Nat) : Step :=
  let a := advance (r.verified.length + 1) r.verBase (k :: r.verified)
  { r with verBase := a.1, verified := a.2, done := r.done + 1 }

/-- The slot of chunk `k`. -/
def Step.chunk? (r : Step) (k : Nat) : Option Chunk := r.chunks.find? (fun ch => ch.idx == k)
def Step.mapChunk (r : Step) (k : Nat) (f : Chunk → Chunk) : Step :=
  { r with chunks := r.chunks.map (fun ch => if ch.idx = k then f ch else ch) }
def Step.dropChunk (r : Step) (k : Nat) : Step := { r with chunks := r.chunks.filter (fun ch => ch.idx != k) }

/-- The state of a context (R291): 1 IDLE, 2 RUNNING, 3 DRAINING. -/
def Ctx.stateOf (c : Ctx) (r : Option Step) : Nat :=
  match r with
  | some r => if !r.live then 1 else if r.decided || r.ending != 0 || decide (c.n ≤ r.base) then 3 else 2
  | none => 1

/-- Context `x` with its step changed; its state follows. -/
def Dev.onStep (d : Dev) (x : Nat) (f : Step → Step) : Dev :=
  match d.ctx x with
  | some c => d.putCtx x (some { c with run := c.run.map f, state := c.stateOf (c.run.map f) })
  | none => d

/-- The running step of context `x`; one that lost every port is left as it is (R361). -/
def Dev.liveStep (d : Dev) (x : Nat) : Option (Ctx × Step) :=
  match d.ctx x with
  | some c => match c.run with
    | some r => if r.live && !r.lost then some (c, r) else none
    | none => none
  | none => none

/-- A step of context `x` that no abort and no COMMIT has reached. -/
def Dev.openStep? (d : Dev) (x : Nat) : Option (Ctx × Step) :=
  match d.liveStep x with
  | some (c, r) => if r.decided || r.ending != 0 then none else some (c, r)
  | none => none

/-! ### Combining units (R274, R307 to R310, R314, R315) -/

/-- The first element of a list with the least `f`. -/
def fewest (l : List Nat) (f : Nat → Nat) : Option Nat :=
  l.foldl (fun a u => match a with | none => some u | some v => if f u < f v then some u else some v) none

/-- Chunk slots bound to unit `u` (R321); a slot is freed at its passed verdict. -/
def Dev.unitSlots (d : Dev) (u : Nat) : Nat :=
  (d.loadedCtxs.map (fun c => match c.2.run with
    | some r => (r.chunks.filter (fun ch => ch.unit == some u && ch.result.isNone)).length
    | none => 0)).sum

/-! #### Service in two tiers (R365, log entry 65) -/

/-- Bits of intake a chunk takes. -/
def Ctx.chunkBits (c : Ctx) : Nat := c.needs.length * c.c * 8

/-- Whether a context has intake credit: it earns intake_gbps from its load on. -/
def Dev.intakeCredit (d : Dev) (c : Ctx) : Bool := decide (c.used < hxIntake c.hdr * (d.localNs - c.since))

/-- A step that runs on: no abort, COMMIT or loss has reached it. -/
def Step.isOpen (r : Step) : Bool := r.live && !r.lost && !r.decided && r.ending == 0

/-- Chunks whose node work is ready on unit `u` and that count on intake credit: their age and context. -/
def Dev.unitReady (d : Dev) (u : Nat) : List (Nat × Ctx) :=
  (d.loadedCtxs.map (fun e => match e.2.run with
    | some r => (r.chunks.filter (fun ch =>
        r.isOpen && ch.unit == some u && ch.result.isNone && !ch.again && e.2.full ch && decide (e.2.kind ≤ tyBROADCAST))).map (fun ch => (ch.age, e.2))
    | none => [])).flatten

/-- Whether unit `u` now serves a chunk of context `c`, and in the second tier or not: the oldest of the chunks whose contexts
have credit first; the others where none of those is ready; a recomputation where intake that nobody reserved is free, or none
of them is ready (R274, R365). -/
def Dev.unitTurn (d : Dev) (c : Ctx) (ch : Chunk) (u : Nat) : Option Bool :=
  let first := (d.unitReady u).filter (fun e => d.intakeCredit e.2)
  if ch.again then (if first.isEmpty || decide (d.intakeSum < d.rateLimit * 1000000000) then some false else none)
  else if d.intakeCredit c then (if first.all (fun e => decide (ch.age ≤ e.1)) then some false else none)
  else if first.isEmpty then some true else none

/-- The retirement map as last requested takes effect at the next bind (R310). -/
def Dev.bindUnit (d : Dev) : Option (Nat × Dev) :=
  (fewest d.unitsUp d.unitSlots).map (fun u =>
    (u, d.setMany [(.cmb_unit_status_retired_lane, u, d.get .h_cmb_req u), (.cmb_unit_status_spare_in_use, u, b2n (d.get .h_cmb_req u != 31))]))

/-- Path of a combining unit. -/
def Dev.pathUnit (d : Dev) (u : Nat) : Nat := d.pathDevice ucCMB_UNIT u

/-- The signature of unit `u` (R315). -/
def Dev.cmbSig (d : Dev) (u fmt op lane : Nat) (e : Env) : Nat :=
  e.temp.toNat * 2 ^ 53 + min e.vdd.toNat 1023 * 2 ^ 43 + min (d.unitSlots u) 32767 * 2 ^ 28 + e.island.toNat * 2 ^ 20
    + e.wra.toNat * 2 ^ 12 + fmt * 2 ^ 8 + op * 2 ^ 5 + lane

/-- CMB_LAST_LOC (R320). -/
def Dev.cmbLoc (d : Dev) (kind x st ck u : Nat) : Dev :=
  d.setMany [(.cmb_last_loc_ctx, 0, x), (.cmb_last_loc_step, 0, st), (.cmb_last_loc_chunk, 0, ck), (.cmb_last_loc_kind, 0, kind),
    (.cmb_last_loc_unit, 0, u)]

/-- A recomputation on unit `u` (R307, R309). -/
def Dev.recomputeOn (d : Dev) (u : Nat) : Dev := (d.incrSat .cmb_unit_count_recomputes u).count (blkCluster u) .RECOMPUTE

/-- The chunks bound to unit `u` and not yet formed go on with retired lane `l` (R307). -/
def Dev.remapChunks (d : Dev) (u l : Nat) : Dev :=
  { d with ctxs := { d.ctxs with entries := d.ctxs.entries.map (fun e => (e.1, e.2.map (fun c => { c with
      run := c.run.map (fun r => { r with
        chunks := r.chunks.map (fun ch => if ch.unit = some u ∧ ch.result.isNone = true then { ch with lane := l } else ch) }) }))) } }

/-- Lane `l` of unit `u` is retired, its logical lane moving to lane 16 (R307, R310, R314): cause 1 REPEAT, 2 COMMAND,
3 STRIKES. A command takes effect at the next bind, the others at once. -/
def Dev.retireLane (d : Dev) (u l cause : Nat) : Dev :=
  let d := d.set .h_cmb_req u l
  let d := if cause = 2 then d
    else (d.setMany [(.cmb_unit_status_retired_lane, u, l), (.cmb_unit_status_spare_in_use, u, 1)]).remapChunks u l
  (d.count (blkCluster u) .LANE_RETIRED).raise .CMB_LANE_RETIRED (d.pathUnit u) [.h l, .h cause]

/-- A shadow computation's unit: not the delivering one; in another cluster where a unit there has no shadow computation,
else any, the one with the fewest active slots (R312). -/
def Dev.shadowUnit (d : Dev) (deliv : Nat) : Option Nat :=
  let cand := d.unitsUp.filter (· != deliv)
  let free := cand.filter (fun u => u / 8 != deliv / 8 && !d.shadows.any (fun s => s.shadow == some u))
  fewest (if free.isEmpty then cand else free) d.unitSlots

/-- A unit for the third computation, distinct from the delivering unit and the shadow unit (R312). -/
def Dev.thirdUnit (d : Dev) (deliv su : Nat) : Option Nat := fewest (d.unitsUp.filter (fun u => u != deliv && u != su)) d.unitSlots

/-- Shadow checks whose computation has no unfenced unit get one, a third computation where another is left (R312). -/
def Dev.placeShadows (d : Dev) : Dev :=
  (List.range d.shadows.length).foldl (fun d i =>
    match d.shadows[i]? with
    | some s =>
      let up := fun (u : Option Nat) => match u with | some u => !d.flag .cmb_unit_status_fenced u | none => false
      if s.third.isSome then
        if up s.third then d
        else { d with shadows := d.shadows.set i { s with third := (d.thirdUnit s.unit (s.shadow.getD 0)).orElse (fun _ => s.third) } }
      else if up s.shadow then d
      else { d with shadows := d.shadows.set i { s with shadow := d.shadowUnit s.unit } }
    | none => d) d

/-! ### The completion record and the end of a step (R280, R286, R287) -/

/-- Bits of a set of slots, and the lowest of them, 0 for none. -/
def lowBit (x : Nat) : Nat := (firstBelow 1024 (bit x)).getD 0
def popCount (x : Nat) : Nat := countBelow 1024 (bit x)

/-- Slots counted missing: direct entries lacking an input for some incomplete chunk that holds a slot (R286, R368); a chunk
whose verdict has passed had them all. -/
def Ctx.missingOf (c : Ctx) (r : Step) : Nat :=
  let open' := r.chunks.filter (fun ch => !r.isComplete ch.idx && ch.result.isNone)
  let lack := c.needs.filter (fun i => open'.any (fun ch => !ch.inputs.any (fun p => p.1 == i)))
  maskOf 1024 (fun s => lack.contains (s - c.base) && decide (c.base ≤ s))

/-- The flags of a completion record (R286). -/
def Dev.stepFlags (d : Dev) (c : Ctx) (spare : Bool) : Nat :=
  b2n spare + 2 * b2n (d.get .time_status_time_state == 3 || d.flag .time_status_upstream_holdover) + 4 * b2n (hxEarly c.hdr)

/-- The completion record of a step (R286); `opened` is false for a step that was armed and never opened. -/
def Dev.stepRecord (d : Dev) (x : Nat) (c : Ctx) (r : Step) (status : Nat) (l : Launch) : CRec :=
  let ok := decide (status ≤ 2)
  let first := match r.fault with | some k => k | none => r.verBase
  { kind := if l.barrier then 0x11 else 0x10, token := l.token,
    words := [x * 2 ^ 50 + r.step * 2 ^ 32 + c.job * 2 ^ 16 + b2n c.inner * 2 ^ 7 + status,
      r.done * 2 ^ 42 + r.released * 2 ^ 21 + c.n,
      lowBit r.missing * 2 ^ 54 + popCount r.missing * 2 ^ 43 + lowBit r.undeliv * 2 ^ 33 + popCount r.undeliv * 2 ^ 22
        + min r.retracts 255 * 2 ^ 8 + min r.retries 255,
      r.tOpen, d.fabricNs, first * 2 ^ 42 + d.stepFlags c r.spare,
      if ok && c.kind != tyBARRIER then r.digest else 0] }

/-- The reset record's entry of context `x` brought up to date (R524). -/
def Dev.rrUpdate (d : Dev) (x : Nat) : Dev :=
  let e : Option RRStep := match d.liveStep x with
    | some (c, r) =>
      let l := c.launches.headD { queue := 0, token := 0, signal := false }
      some { step := r.step, queue := l.queue, token := l.token, job := c.job, armed := c.armed, tOpen := r.tOpen, done := r.done,
             released := r.released, chunks := c.n, inner := c.inner }
    | none => none
  { d with rrSteps := d.rrSteps.set x none e }

/-- A post-commit fault (R313, R364). -/
def Dev.postCommit (d : Dev) (x st ck job u tEnd : Nat) : Dev :=
  ((d.count blkDevice .POST_COMMIT).raise .CMB_POST_COMMIT d.pathDevice [.h x, .w st, .w ck, .h job, .d tEnd] job).cmbLoc 3 x st ck u

/-- A step opens (R271). -/
def Dev.stepOpen (d : Dev) (x : Nat) : Dev :=
  match d.ctx x with
  | some c =>
    let st := match c.run with | some _ => (c.step + 1) % 2 ^ 18 | none => c.step
    let r : Step := { step := st, tOpen := d.fabricNs, t0 := d.localNs }
    (d.putCtx x (some { c with step := st, run := some r, state := 2 })).rrUpdate x
  | none => d

/-- A launch of `n` steps of context `x` (R270): the device, and the code of R464, 0 for success. -/
def Dev.launchSteps (d : Dev) (x n : Nat) (l : Launch) : Dev × Nat :=
  match d.ctx x with
  | none => (d, 20)
  | some c =>
    let idle := c.state == 1 && c.armed == 0
    let add := if idle then n - 1 else n
    if c.armed + add > 65535 then (d, 23)
    else
      let d := d.putCtx x (some { c with armed := c.armed + add, launches := c.launches ++ List.replicate n l })
      (if idle then d.stepOpen x else d, 0)

/-- The barrier launch of the head of queue `q` (R416, rule 1), or the failure of rule 3. -/
def Dev.alignLaunch (d : Dev) (q : Nat) : Dev :=
  let x := d.queue q
  let f := d.get .time_align_fallback_ctx
  let tok := entSignalToken ((match x.buf.head? with | some (_, ws) => ws | none => []).getD 0 0)
  let fail := fun (d : Dev) => (d.putQueue q { d.queue q with align := 3 }).raise .TIME_ALIGN_FAIL d.pathDevice
  match d.ctx f with
  | some c =>
    if c.kind ≠ tyBARRIER then fail d
    else
      let (d, code) := d.launchSteps f 1 { queue := q, token := tok, signal := false, barrier := true }
      if code = 0 then d.putQueue q { d.queue q with align := 1 } else fail d
  | none => fail d

/-- A fallback barrier step of queue `q` has ended (R416). -/
def Dev.alignEnd (d : Dev) (q : Nat) (ok : Bool) : Dev :=
  let x := d.queue q
  if x.align ≠ 1 then d
  else if ok then d.putQueue q { x with align := 2, tries := 0 }
  else if x.tries + 1 ≥ 3 then (d.putQueue q { x with align := 3, tries := 0 }).raise .TIME_ALIGN_FAIL d.pathDevice
  else (d.putQueue q { x with tries := x.tries + 1 }).alignLaunch q

/-- What the end of a launched step does in its queue: the record, then the token (R286, R437, R438). -/
def Dev.stepReport (d : Dev) (l : Launch) (r : CRec) : Dev :=
  let d := d.complete l.queue r
  if l.signal && !l.barrier then d.signalTok l.token 1 else d

/-- The running step of context `x` ends with a status (R280, R283, R287, R288, R370). A BROADCAST that an inner device saw
committed has passed every chunk (R367). -/
def Dev.stepEnd (d : Dev) (x status : Nat) : Dev :=
  match d.liveStep x with
  | none => d
  | some (c, r0) =>
    let ok := decide (status ≤ 2)
    let r0 := if ok && c.inner && c.kind == tyBROADCAST then { r0 with done := c.n, released := c.n, verBase := c.n } else r0
    let r := { r0 with missing := if ok then 0 else r0.missing }
    let l := c.launches.headD { queue := 0, token := 0, signal := false }
    let now := d.fabricNs
    let rec' := d.stepRecord x c r status l
    let r := { r with live := false, chunks := [], tEnd := now }
    let d := d.putCtx x (some { c with
      run := some r, state := 1, last := status, launches := c.launches.drop 1, prevQ := l.queue })
    let d := { d with shadows := d.shadows.map (fun (s : Shadow) => if s.ctx = x ∧ s.step = r.step ∧ s.ended = none then { s with ended := some (status, now) } else s) }
    let d := d.count blkDevice (if ok then .COLL_STEP_COMMIT else .COLL_STEP_ABORT)
    let d := if ok then d else
      d.raise .COLL_STEP_ABORT d.pathDevice
        [.h x, .h status, .w r.step, .w r.base, .h (lowBit r.missing), .h (popCount r.missing)] c.job
    let d := if ok then r.badChunks.foldl (fun d k => d.postCommit x r.step k.1 c.job k.2 now) d else d
    let d := (d.stepReport l rec').rrUpdate x
    if l.barrier then d.alignEnd l.queue ok else d

/-! ### Frames of a step (R260, R276, R278, R351) -/

/-- Destinations of the data of chunk `k` as GEID and member field (R260, R278). -/
def Ctx.dataDests (c : Ctx) (k : Nat) : List (Nat × Nat) :=
  let rx := receivers c.hdr c.map
  let own := rx.getD (k * rx.length / c.n) 0
  let scatter := c.kind == tyREDUCE_SCATTER
  if hxList c.hdr then
    (if scatter then [own] else rx).map (fun i => (meGeid (c.map.getD i 0), c.base + i))
  else [(0xFE0000 + hxGroup c.hdr, if scatter then c.base + own else 0)]

/-- Destinations of the RETRACT of chunk `k`; a multicast one carries member 0 (R278). -/
def Ctx.retractDests (c : Ctx) (k : Nat) : List (Nat × Nat) :=
  (c.dataDests k).map (fun t => (t.1, if hxList c.hdr then t.2 else 0))

/-- Destinations of COMMIT and RETRACT STEP (R351). -/
def Ctx.endDests (c : Ctx) : List (Nat × Nat) :=
  if hxList c.hdr then (members c.map).map (fun i => (meGeid (c.map.getD i 0), c.base + i)) else [(0xFE0000 + hxGroup c.hdr, 0)]

/-- The data of chunk `k` released, with flag DATA or REISSUE; on route LIST the other members get PACE with the data
(R260, R277, R278). -/
def Dev.sendResult (d : Dev) (x : Nat) (c : Ctx) (st k flag : Nat) (b : List Nat) : Dev :=
  let ds := c.dataDests k
  let d := ds.foldl (fun d t => d.collSend x st ftCOLL_RESULT 2 t.1 k t.2 flag 0 b) d
  if hxList c.hdr ∧ flag = 0 then
    (members c.map).foldl (fun d i =>
      if ds.any (fun t => t.2 == c.base + i) then d
      else d.collSend x st ftCOLL_RESULT 2 (meGeid (c.map.getD i 0)) k (c.base + i) 1 0 []) d
  else d

/-- The digest of a chunk (R286). -/
def chunkDigest (k : Nat) (b : List Nat) : Nat := crc32c (beBytes 4 k ++ b)

/-- A RETRACT decided (R279, R280): flag 0 CHUNK or 1 STEP, with its cause. -/
def Dev.sendRetract (d : Dev) (x : Nat) (st k flag cause : Nat) (ds : List (Nat × Nat)) : Dev :=
  let d := ds.foldl (fun d t => d.collSend x st ftRETRACT 2 t.1 k t.2 flag (cause * 2 ^ 6) []) d
  (d.onStep x (fun r => { r with retracts := r.retracts + 1 })).count blkDevice .COLL_RETRACT_TX

/-- An abort of the running step of context `x` (R280, R352, R354): a root sends RETRACT STEP; its step ends at once on a
timeout, else when the copies have left. An inner device sends nothing, a partial that has not left neither, and ends its
step. -/
def Dev.stepAbort (d : Dev) (x status cause : Nat) (fault : Option Nat := none) : Dev :=
  match d.openStep? x with
  | none => d
  | some (c, r) =>
    let d := d.onStep x (fun r' => { r' with missing := c.missingOf r, fault := fault })
    if c.inner then
      ({ d with collOut := d.collOut.filter (fun o => !(o.1.ctx == x && o.1.step == r.step && o.1.ftype == ftCOLL_CONTRIB)) } : Dev).stepEnd x status
    else
      let d := d.sendRetract x r.step 0 1 cause c.endDests
      let d := d.onStep x (fun r => { r with chunks := [], ending := status })
      if status = 3 then d.stepEnd x status else d

/-- ABORT of context `x` (R272), and its result: 0, NOT_LOADED, NO_STEP or STEP_ENDED. A fallback barrier among the launches it
cancels is an aborted one (R416). -/
def Dev.collAbort (d : Dev) (x : Nat) : Dev × Nat :=
  match d.ctx x with
  | none => (d, 20)
  | some c =>
    if c.state = 1 ∧ c.armed = 0 then (d, 21)
    else if (d.liveStep x).isSome ∧ (d.openStep? x).isNone then (d, 22)
    else
      let cancelled := c.launches.drop (if c.state = 1 then 0 else 1)
      let d := (d.putCtx x (some { c with armed := 0, launches := c.launches.take (if c.state = 1 then 0 else 1) })).stepAbort x 4 3
      let c' := (d.ctx x).getD c
      let first := match c.run with | some _ => c.step + 1 | none => c.step
      let d := (List.range cancelled.length).foldl (fun d i =>
        let l := cancelled.getD i { queue := 0, token := 0, signal := false }
        let r : Step := { step := (first + i) % 2 ^ 18, tOpen := 0, t0 := 0 }
        d.stepReport l (d.stepRecord x c' r 4 l)) d
      (cancelled.foldl (fun d l => if l.barrier then d.alignEnd l.queue false else d) d, 0)

/-! ### Chunks (R273, R274, R276, R277, R306) -/

/-- What the leaf (k, j) of the tree holds for a chunk (R264). -/
def Ctx.leaf (c : Ctx) (ch : Chunk) (k j : Nat) : Option Node :=
  let i := j * 2 ^ k
  let e := c.map.getD i 0
  if (k = 0 ∧ meKind e = 1) ∨ (meKind e = 2 ∧ meLevel e = k) then
    (ch.inputs.find? (fun p => p.1 == i)).map (fun p => leafAcc (hxFmt c.hdr) (hxOp c.hdr) c.c p.2)
  else none

/-- The bytes of a chunk formed in a combining unit, and what its computation counts (R264, R265, R295). -/
def Ctx.formChunk (c : Ctx) (ch : Chunk) : List Nat × Notes :=
  if c.kind = tyBROADCAST then ((ch.inputs.headD (0, [])).2, {})
  else match treeNode (hxFmt c.hdr) (hxOp c.hdr) (c.leaf ch) (hxLevel c.hdr) 0 with
    | some (a, n) => let (b, m) := accBytes (hxFmt c.hdr) c.c a; (b, n.join m)
    | none => ([], {})

/-- The element events of a chunk, once each, in a counter block (R316). -/
def Dev.countNotes (d : Dev) (u : Nat) (n : Notes) : Dev :=
  let d := if n.wrap then d.count (blkCluster u) .INT_WRAP else d
  let d := if n.ovf then d.count (blkCluster u) .FP_OVERFLOW else d
  let d := if n.nan then d.count (blkCluster u) .NAN_OUT else d
  let d := if n.flush then d.count (blkCluster u) .BS_FLUSH else d
  if n.bsOver then d.count (blkCluster u) .BS_OVERFLOW else d

/-- A chunk of a REDUCE or REDUCE_SCATTER whose verdict passes with bytes `b` is counted, and chosen for a shadow check when its
turn has come and its inputs fit (R311). -/
def Dev.shadowTurn (d : Dev) (x : Nat) (c : Ctx) (r : Step) (ch : Chunk) (u : Nat) (b : List Nat) : Dev :=
  let n := 2 ^ d.get .h_cmb_n
  let v := d.get .h_cmb_verdicts
  if v < n then d.set .h_cmb_verdicts 0 (v + 1)
  else if d.unitsUp.length < 2 then d
  else
    let bytes := ch.inputs.length * c.c
    if (d.shadows.map (·.bytes)).sum + bytes > 4194304 then
      (d.incrSat .cmb_shadow_stats_deferred 0).count blkDevice .SHADOW_DEFERRED
    else
      let s : Shadow := { ctx := x, step := r.step, chunk := ch.idx, job := c.job, bytes := bytes, unit := u, lane := ch.lane,
                          format := hxFmt c.hdr, op := hxOp c.hdr, hdr := c.hdr, map := c.map, inputs := ch.inputs, crcs := laneCrcs b }
      ({ d.setMany [(.h_cmb_verdicts, 0, 0), (.h_cmb_n, 0, d.get .cmb_ctrl_shadow_log2n)] with shadows := d.shadows ++ [s] } : Dev).placeShadows

/-- A chunk of context `x` passes its verdict with bytes `b` (R276, R277, R279, R306); a partial completes its chunk once it is
sent (R274). -/
def Dev.chunkPass (d : Dev) (x : Nat) (c : Ctx) (r : Step) (ch : Chunk) (b : List Nat) (spare : Bool) : Dev :=
  let k := ch.idx
  let dig := if c.kind = tyBARRIER then 0 else chunkDigest k b
  let d := d.onStep x (fun r => { r.verifies k with spare := r.spare || spare })
  let finish := fun (r : Step) => { (r.completes k).dropChunk k with digest := r.digest ^^^ dig }
  if c.inner then
    (d.collSend x r.step ftCOLL_CONTRIB 1 (hxParent c.hdr) k c.base 1 (hxLevel c.hdr * 2 ^ 6) b).onStep x
      (·.mapChunk k (fun ch => { ch with result := some b, inputs := [] }))
  else if c.kind = tyBARRIER then d.onStep x (fun r => { finish r with released := r.released + 1 })
  else if ch.retracted then
    let d := d.sendRetract x r.step k 0 1 (c.retractDests k)
    (d.sendResult x c r.step k 2 b).onStep x finish
  else if ch.early then d.onStep x (·.dropChunk k)
  else d.onStep x (·.mapChunk k (fun ch => { ch with result := some b, inputs := [] }))

/-- The result `b` of chunk `k` is released and the chunk complete (R274, R277). -/
def Dev.releaseData (d : Dev) (x : Nat) (c : Ctx) (r : Step) (k : Nat) (b : List Nat) (g : Step → Step) : Dev :=
  (d.sendResult x c r.step k 0 b).onStep x (fun r =>
    { g (r.completes k) with released := r.released + 1, digest := r.digest ^^^ chunkDigest k b })

/-- Whether a root may release chunk `ch` before its verdict: release EARLY, and fewer than two released chunks of the context
that await theirs (R277). -/
def Ctx.mayEarly (c : Ctx) (r : Step) (ch : Chunk) : Bool :=
  !c.inner && hxEarly c.hdr && !ch.early && ch.result.isNone && decide ((r.chunks.filter (fun e => e.early && e.result.isNone)).length < 2)

/-- An early result leaves (R277). -/
def Dev.releaseEarly (d : Dev) (x : Nat) (c : Ctx) (r : Step) (k : Nat) (b : List Nat) : Dev :=
  d.releaseData x c r k b (·.mapChunk k (fun ch => { ch with early := true }))

/-- A result that waited for its verdict is released, or one whose root node a combining unit forms is released early (R277). -/
def Dev.chunkRelease (d : Dev) (x k : Nat) : Dev :=
  match d.openStep? x with
  | none => d
  | some (c, r) =>
    match r.chunk? k with
    | none => d
    | some ch =>
      match ch.result, ch.unit with
      | some b, _ => if c.inner then d else d.releaseData x c r k b (·.dropChunk k)
      | none, some u =>
        if c.mayEarly r ch && c.full ch && decide (c.kind ≤ tyBROADCAST) && (d.unitTurn c ch u).isSome then
          d.releaseEarly x c r k (c.formChunk ch).1
        else d
      | none, none => d

/-- The checks give up on a chunk (R308, R343). -/
def Dev.cmbGiveUp (d : Dev) (x : Nat) (c : Ctx) (r : Step) (k u : Nat) : Dev :=
  let d := (d.raise .CMB_GIVE_UP (d.pathUnit u) [.h x, .w r.step, .w k, .h c.job] c.job).cmbLoc 4 x r.step k u
  d.stepAbort x 7 4 (some k)

/-- Chunk `k` of context `x`, bound to no unit or to a fenced one, is bound to another; false when none is left. -/
def Dev.rebind (d : Dev) (x k : Nat) : Dev × Bool :=
  match d.bindUnit with
  | none => (d, false)
  | some (u, d) =>
    let lane := d.get .cmb_unit_status_retired_lane u
    (d.onStep x (·.mapChunk k (fun ch => { ch with unit := some u, lane := lane, failed := [] })), true)

/-- Every chunk bound to unit `u` leaves it (R309); without another unit the checks give up on it (R308). -/
def Dev.rebindAll (d : Dev) (u : Nat) : Dev :=
  let work := (d.loadedCtxs.map (fun e => match e.2.run with
    | some r => (r.chunks.filter (fun ch => ch.unit == some u && ch.result.isNone)).map (fun ch => (e.1, ch.idx))
    | none => [])).flatten
  work.foldl (fun d w =>
    match d.openStep? w.1 with
    | none => d
    | some (c, r) =>
      match d.rebind w.1 w.2 with
      | (d', true) =>
        let d' := d'.onStep w.1 (·.mapChunk w.2 (fun ch => { ch with again := true }))
        match (d'.liveStep w.1).bind (fun p => (p.2.chunk? w.2).bind (·.unit)) with
        | some v => d'.recomputeOn v
        | none => d'
      | (_, false) => d.cmbGiveUp w.1 c r w.2 u) d

/-- Unit `u` is fenced (R307, R309, R310, R314). -/
def Dev.fenceUnit (d : Dev) (u cause : Nat) : Dev :=
  let d := d.set .cmb_unit_status_fenced u 1
  let d := (d.count (blkCluster u) .UNIT_FENCED).raise .CMB_UNIT_FENCED (d.pathUnit u) [.h cause]
  (d.rebindAll u).placeShadows

/-- Chunks that wait for a unit get one (R309). -/
def Dev.bindWaiting (d : Dev) : Dev :=
  let work := (d.loadedCtxs.map (fun e => match e.2.run with
    | some r => (r.chunks.filter (fun ch => ch.unit.isNone && ch.result.isNone && e.2.kind != tyBARRIER)).map (fun ch => (e.1, ch.idx))
    | none => [])).flatten
  (work.foldl (fun d w => (d.rebind w.1 w.2).1) d).placeShadows

/-- A strike on unit `u` that names `lane`, 31 for none or several (R314); "lane 16 unused" is told by the map in effect. -/
def Dev.strike (d : Dev) (u lane : Nat) : Dev :=
  let d := d.incrSat .cmb_unit_status_strikes u
  let prev := d.get .h_cmb_strike u
  let d := d.set .h_cmb_strike u (if prev = 30 then lane else if prev = lane then prev else 31)
  let lim := d.get .cmb_ctrl_strike_limit
  if lim = 0 ∨ d.get .cmb_unit_status_strikes u < lim ∨ !d.flag .cmb_ctrl_auto_fence then d
  else
    let same := d.get .h_cmb_strike u
    if same < 16 ∧ d.flag .cmb_unit_status_spare_in_use u = false then d.retireLane u same 3
    else if d.flag .cmb_unit_status_fenced u then d else d.fenceUnit u 3

/-- Chunk `k`, released early with bytes `b`, fails its verdict: it is complete again once it is reissued (R279). -/
def Dev.takeBack (d : Dev) (x k : Nat) (b : List Nat) : Dev :=
  d.onStep x (fun r => { ((r.uncompletes k).mapChunk k (fun ch => { ch with retracted := true })) with
    digest := r.digest ^^^ chunkDigest k b })

/-- A chunk served without credit is counted (R365). -/
def Dev.overRate (d : Dev) (u : Nat) (ovr : Bool) : Dev := if ovr then d.count (blkCluster u) .COLL_OVER_RATE else d

/-- A residue mismatch of chunk `k` of context `x` (R307, R308). -/
def Dev.chunkMismatch (d : Dev) (x : Nat) (c : Ctx) (r : Step) (ch : Chunk) (u : Nat) (mm : Mismatch) : Dev :=
  let k := ch.idx
  let p := mm.lane.val
  let sig := d.cmbSig u (hxFmt c.hdr) (hxOp c.hdr) p mm.env
  let d := (d.incrSat .cmb_unit_count_mismatches u).count (blkCluster u) .RESIDUE_MISMATCH
  let d := d.raiseSig .CMB_RESIDUE (d.pathUnit u) [.h x, .w r.step, .w k, .h mm.node.toNat, .h p] [sig] c.job
  let d := (d.set .cmb_last_sig_signature 0 sig).cmbLoc 1 x r.step k u
  let again := ch.failed.contains p
  let d := d.onStep x (·.mapChunk k (fun ch => { ch with mism := ch.mism + 1, again := true, failed := if again then ch.failed else p :: ch.failed }))
  if ch.mism + 1 ≥ 5 then d.cmbGiveUp x c r k u
  else
    let d := d.onStep x (fun r => { r with retries := r.retries + 1 })
    let d := if ch.early ∧ ch.retracted = false then d.takeBack x k (c.formChunk ch).1 else d
    if !again then d.recomputeOn u
    else if d.flag .cmb_unit_status_spare_in_use u = false ∧ p < 16 then (d.retireLane u p 1).recomputeOn u
    else d.fenceUnit u 1

/-- Whether lane report `m` can come from chunk `ch`: a lane that carries a logical lane; of a BROADCAST the lane that holds the
failing word (R292, R306). -/
def Ctx.reports (c : Ctx) (ch : Chunk) (m : Mismatch) : Bool :=
  let p := m.lane.val
  let used := if p = 16 then ch.lane != 31 else p != ch.lane
  match m.op with
  | .stored w => used && c.kind == tyBROADCAST && p == (if w.val % 16 = ch.lane then 16 else w.val % 16)
  | _ => used && c.kind != tyBROADCAST

/-- The credit of a chunk served in the first tier is used (R365). -/
def Dev.chargeIntake (d : Dev) (x : Nat) (ch : Chunk) (ovr : Bool) : Dev :=
  if ovr || ch.again then d
  else match d.ctx x with
    | some c => d.putCtx x (some { c with used := c.used + c.chunkBits })
    | none => d

/-- The verdict of chunk `k` of context `x` once its unit has served it (R306 to R308); `ovr` when it was served without credit
(R365). A chunk of a REDUCE or REDUCE_SCATTER is formed in the unit; a BROADCAST chunk is not (R311, R321). -/
def Dev.chunkVerdict (d : Dev) (x k : Nat) (ovr : Bool) (out : ChunkOut) : Dev :=
  match d.openStep? x with
  | none => d
  | some (c, r) =>
    match r.chunk? k with
    | none => d
    | some ch =>
      match ch.unit with
      | none => d
      | some u =>
        if c.full ch = false ∨ ch.result.isSome = true ∨ tyBROADCAST < c.kind ∨ d.unitTurn c ch u ≠ some ovr then d
        else
          match outMismatch out with
          | some m => if c.reports ch m then ((d.overRate u ovr).chargeIntake x ch ovr).chunkMismatch x c r ch u m else d
          | none =>
            let d := (d.overRate u ovr).chargeIntake x ch ovr
            let (b, notes) := c.formChunk ch
            let b := spoilt b (outErr out)
            let d := if c.kind ≤ tyREDUCE_SCATTER then
                (((d.incr .cmb_unit_count_chunks_formed u).count (blkCluster u) .CHUNK_FORMED).countNotes u notes).shadowTurn x c r ch u b
              else d
            d.chunkPass x c r ch b (ch.lane != 31)

/-! ### Intake (R273) -/

/-- Whether step `a` is ahead of step `b`, modulo 2^18. -/
def stepAhead (a b : Nat) : Bool := let s := (a + 2 ^ 18 - b) % 2 ^ 18; decide (0 < s ∧ s < 2 ^ 17)

/-- The first check a contribution fails (R273). -/
def Dev.intakeFails (d : Dev) (h : Hdr) : Option (Ev × RecCode) :=
  match d.ctx h.ctx with
  | none => some (.COLL_NO_CTX, .COLL_NO_CTX)
  | some c =>
    match c.run with
    | none => some (.COLL_EARLY, .COLL_EARLY)
    | some r =>
      let e := c.entry h.member
      let k := h.chunk
      let i := h.member - c.base
      if !r.live || stepAhead h.step r.step then some (.COLL_EARLY, .COLL_EARLY)
      else if h.step ≠ r.step ∨ c.state = 3 then some (.COLL_STALE, .COLL_STALE)
      else if 2 ≤ h.flags ∨ (h.flags = 0 ∧ meKind e ≠ 1) ∨ (h.flags = 1 ∧ (meKind e ≠ 2 ∨ meLevel e ≠ h.opcode)) ∨
          (c.kind = tyBROADCAST ∧ h.member ≠ hxRoot c.hdr) then some (.COLL_MEMBER, .COLL_MEMBER)
      else if h.src ≠ meGeid e then some (.COLL_SRC, .COLL_SRC)
      else if h.length ≠ (if c.kind = tyBARRIER then 0 else c.c) then some (.COLL_LENGTH, .COLL_LENGTH)
      else if c.n ≤ k then some (.COLL_CHUNK, .COLL_CHUNK)
      else if r.isComplete k then some (.COLL_LATE, .COLL_LATE)
      else if r.base + hxWindow c.hdr ≤ k then some (.COLL_WINDOW, .COLL_WINDOW)
      else match r.chunk? k with
        | some ch => if ch.result.isSome || ch.inputs.any (fun p => p.1 == i) then some (.COLL_DUP, .COLL_DUP) else none
        | none => none

/-- A contribution that passed the checks is copied into its chunk slot (R274); a BARRIER whose inputs are all there is
complete and verified (R306). -/
def Dev.intakeAccept (d : Dev) (h : Hdr) (payload : List Nat) : Dev :=
  let x := h.ctx
  let k := h.chunk
  let d := match d.liveStep x with
    | some (c, r) =>
      if (r.chunk? k).isSome then d
      else
        let d := (d.onStep x (fun r => { r with chunks := r.chunks ++ [({ idx := k, age := d.get .h_work_age } : Chunk)] })).incr .h_work_age 0
        if c.kind = tyBARRIER then d else (d.rebind x k).1
    | none => d
  match d.liveStep x with
  | none => d
  | some (c, _) =>
    let d := d.onStep x (·.mapChunk k (fun ch => { ch with inputs := ch.inputs ++ [(h.member - c.base, payload)] }))
    match d.liveStep x with
    | some (c, r) =>
      match r.chunk? k with
      | some ch => if c.kind = tyBARRIER ∧ c.full ch = true then d.chunkPass x c r ch [] false else d
      | none => d
    | none => d

/-- The frame at the head of the COLL output is taken by the engine (R251, R273). -/
def Dev.intake (d : Dev) : Dev :=
  match d.internalHead 512 1 with
  | none => d
  | some (f, mark) =>
    if !f.complete ∨ f.hdr.ftype ≠ ftCOLL_CONTRIB then d
    else
      let h := f.hdr
      let d := d.echo f mark
      let d := match d.intakeFails h with
        | some (e, c) =>
          let d := d.count (f.arrival.getD blkDevice) e 1 { src := some h.src }
          d.raise c (match f.arrival with | some n => d.pathPort n | none => d.pathDevice)
        | none => d.intakeAccept h f.payload
      d.takeInternal 512 f

/-! ### Copies that did not go out, and frames seen at lookup (R282, R283, R354) -/

/-- The bundle a GEID's route selects. -/
def Dev.routeBundle (d : Dev) (g : Nat) : Option Nat :=
  match d.searchDst g with
  | some w1 => if rtKind w1 = 1 then (match d.selectBundle w1 with | .bundle key => some key | _ => none) else none
  | none => none

/-- Map indexes a lost copy concerns (R282). -/
def Dev.lostEntries (d : Dev) (c : Ctx) (port : Nat) (h : Hdr) : List Nat :=
  if isGroup h.dst then
    (directs c.map).filter (fun i => match d.routeBundle (meGeid (c.map.getD i 0)) with
      | some key => (d.bundlePorts key).contains port
      | none => false)
  else if c.base ≤ h.member ∧ h.member < c.base + c.map.length then [h.member - c.base] else []

/-- A lost copy marks slots of its step, whose maps stand until the next step opens (R282, R288, R351, R369). -/
def Dev.markLost (d : Dev) (port : Nat) (h : Hdr) : Dev :=
  match (d.ctx h.ctx).bind (fun c => c.run.map (fun r => (c, r))) with
  | none => d
  | some (c, r) =>
    if r.step ≠ h.step || r.lost then d
    else
      let es := d.lostEntries c port h
      let slots := (es.map (fun i =>
        let e := c.map.getD i 0
        (List.range (if meKind e = 2 then 2 ^ meLevel e else 1)).map (fun j => c.base + i + j))).flatten
      let fresh := (slots.filter (fun s => !bit r.undeliv s)).eraseDups
      let d := d.onStep h.ctx (fun r => { r with undeliv := fresh.foldl setBit r.undeliv })
      let d := if fresh.isEmpty then d else d.count blkDevice .COLL_UNDELIVERED fresh.length
      if es.isEmpty || r.ports.contains port then d
      else (d.onStep h.ctx (fun r => { r with ports := port :: r.ports })).raise .COLL_UNDELIVERED (d.pathPort port) [.h h.ctx] c.job

/-- A frame of a held context recognised at lookup (R283, R354). -/
def Dev.seeFrame (d : Dev) (h : Hdr) : Dev :=
  let endsStep := h.ftype == ftCOMMIT || (h.ftype == ftRETRACT && h.flags == 1)
  match d.ctx h.ctx with
  | none => d
  | some c =>
    match c.run with
    | none => d
    | some r =>
      if !c.inner || !endsStep then d
      else if r.live ∧ r.step = h.step then
        if r.decided || r.ending != 0 then d
        else if h.ftype = ftCOMMIT then d.onStep h.ctx (fun r => { r with decided := true })
        else d.onStep h.ctx (fun r' => { r' with ending := 6, missing := c.missingOf r })
      else if stepAhead h.step r.step then d
      else d.count blkDevice .COLL_LATE_END

/-- A partial has been sent: its chunk is complete (R274, R276). -/
def Dev.partialSent (d : Dev) (h : Hdr) (b : List Nat) : Dev :=
  match d.liveStep h.ctx with
  | none => d
  | some (c, r) =>
    if h.ftype ≠ ftCOLL_CONTRIB ∨ r.step ≠ h.step ∨ (r.chunk? h.chunk).isNone then d
    else
      let dig := if c.kind = tyBARRIER then 0 else chunkDigest h.chunk b
      d.onStep h.ctx (fun r =>
        { (r.completes h.chunk).dropChunk h.chunk with released := r.released + 1, digest := r.digest ^^^ dig })

/-- Frames that wait are originated at input 512 while they fit; `n` bounds the frames taken. -/
def Dev.collDrain (d : Dev) : Nat → Dev
  | 0 => d
  | n + 1 =>
    match d.collOut with
    | [] => d
    | (h, p) :: rest =>
      match ({ d with collOut := rest } : Dev).originate 512 h p with
      | some d' => (d'.partialSent h p).collDrain n
      | none => d

/-- What the commands before left for the collective engine, taken in: frames seen, copies lost, frames that wait. -/
def Dev.absorb (d : Dev) : Dev :=
  let seen := d.collSeen
  let d := seen.foldl Dev.seeFrame { d with collSeen := [] }
  let d := d.collDrain d.collOut.length
  let lost := d.undeliv
  lost.foldl (fun d u => d.markLost u.1 u.2) { d with undeliv := [] }

/-! ### Ends (R280, R283, R352 to R354) -/

/-- The COMMIT payload (R281). -/
def Dev.commitPayload (d : Dev) (c : Ctx) (r : Step) : List Nat :=
  let t := d.fabricNs
  ([c.n, min r.retracts 255 * 256 + d.stepFlags c r.spare, t / 2 ^ 32, t % 2 ^ 32,
    (if c.kind = tyBARRIER then 0 else r.digest), 0, 0, 0].map (beBytes 4)).flatten

/-- COMMIT is decided where its three conditions hold (R280). -/
def Dev.commitDecide (d : Dev) (x : Nat) : Dev :=
  match d.openStep? x with
  | none => d
  | some (c, r) =>
    if c.inner ∨ r.verBase < c.n ∨ r.base < c.n ∨ d.collHeld x r.step (fun h => h.ftype == ftCOLL_RESULT) = true then d
    else
      let p := d.commitPayload c r
      let d := c.endDests.foldl (fun d t => d.collSend x r.step ftCOMMIT 2 t.1 0 t.2 0 0 p) d
      d.onStep x (fun r => { r with decided := true })

/-- A step whose COMMIT or RETRACT copies have left ends (R280, R283). -/
def Dev.stepFinish (d : Dev) (x : Nat) : Dev :=
  match d.liveStep x with
  | none => d
  | some (_, r) =>
    if r.decided then
      if d.collHeld x r.step (fun h => h.ftype == ftCOMMIT) then d else d.stepEnd x (if r.undeliv = 0 then 1 else 2)
    else if r.ending ≠ 0 then
      if d.collHeld x r.step (fun h => h.ftype == ftRETRACT && h.flags == 1) then d else d.stepEnd x r.ending
    else d

/-- Half the timeout has passed (R353). -/
def Dev.stepSlow (d : Dev) (x : Nat) : Dev :=
  match d.liveStep x with
  | none => d
  | some (c, r) =>
    if r.slow then d
    else
      let held : List Nat := match r.chunk? r.base with
        | some ch => if ch.result.isSome then c.needs else ch.inputs.map (fun p => p.1)
        | none => []
      let lack := if c.n ≤ r.base then none else c.needs.find? (fun i => !held.contains i)
      let d := (d.onStep x (fun r => { r with slow := true })).count blkDevice .COLL_STEP_SLOW
      d.raise .COLL_STEP_SLOW d.pathDevice [.h x, .w r.step, .w r.base, .h (match lack with | some i => c.base + i | none => 0)] c.job

/-- The root's step timer expires (R352). -/
def Dev.rootTimeout (d : Dev) (x : Nat) : Dev :=
  match d.openStep? x with
  | some (c, _) => if c.inner then d else d.stepAbort x 3 2
  | none => d

/-- An inner device's timer expires (R354). -/
def Dev.innerTimeout (d : Dev) (x : Nat) : Dev :=
  match d.openStep? x with
  | some (c, r) =>
    if !c.inner then d
    else if c.n ≤ r.base ∧ r.restarted = false then d.onStep x (fun r => { r with restarted := true })
    else d.stepAbort x 3 2
  | none => d

/-- The SCD–MSD link has failed and every port is fenced: the root's device does nothing further for its steps (R361). -/
def Dev.rootsLost (d : Dev) : Dev :=
  { d with ctxs := { d.ctxs with entries := d.ctxs.entries.map (fun e => (e.1, e.2.map (fun c =>
      if c.inner then c else { c with run := c.run.map (fun r => if r.live then { r with lost := true } else r) }))) } }

/-- Whether the record of the last step of context `x` has a place: in its ring, or among the 16 held (R286, R439). -/
def Dev.recordPlaced (d : Dev) (x : Nat) (c : Ctx) : Bool :=
  match c.run with
  | none => true
  | some r => ((d.queue c.prevQ).held.drop 16).all (fun k => k.kind < 0x10 || slice (k.words.headD 0) 32 32 != x * 2 ^ 18 + r.step)

/-- An armed step opens, once the record of the step before it has a place (R271, R439). -/
def Dev.openArmed (d : Dev) (x : Nat) : Dev :=
  match d.ctx x with
  | some c =>
    if c.state = 1 ∧ 0 < c.armed ∧ d.recordPlaced x c then
      (d.putCtx x (some { c with armed := c.armed - 1 })).stepOpen x
    else d
  | none => d

/-! ### Shadow outcomes (R312, R313, R363) -/

/-- A chunk found bad by its shadow check (R313). -/
def Dev.shadowBad (d : Dev) (s : Shadow) (outcome : Nat) : Dev :=
  match s.ended with
  | some (st, t) => if st ≤ 2 then d.postCommit s.ctx s.step s.chunk s.job s.unit t else d
  | none =>
    match d.liveStep s.ctx with
    | none => d
    | some (c, r) =>
      if r.step ≠ s.step then d
      else if c.inner then
        (d.onStep s.ctx (fun r => { r with badChunks := r.badChunks ++ [(s.chunk, s.unit)] })).raise .COLL_PARTIAL_BAD (d.pathUnit s.unit)
          [.h s.ctx, .w s.step, .w s.chunk, .h outcome] s.job
      else if r.decided then d.onStep s.ctx (fun r => { r with badChunks := r.badChunks ++ [(s.chunk, s.unit)] })
      else d.stepAbort s.ctx 7 4 (some s.chunk)

/-- A shadow check is over and its reserve freed. -/
def Dev.dropShadow (d : Dev) (s : Shadow) : Dev := { d with shadows := d.shadows.erase s }

/-- A shadow check ends with an outcome other than PASS: 1 DELIVERED_BAD, 2 SHADOW_BAD, 3 UNRESOLVED (R312, R316). -/
def Dev.shadowOutcome (d : Dev) (s : Shadow) (outcome sig3 lane : Nat) : Dev :=
  let su := s.shadow.getD 0
  let d := (d.incrSat .cmb_shadow_stats_mismatches 0).count (blkCluster s.unit) .SHADOW_MISMATCH
  let w4 := outcome + s.unit * 2 ^ 8 + su * 2 ^ 16 + (match s.third with | some u => u | none => 0xFF) * 2 ^ 24 + s.diff * 2 ^ 32
  let det := w4 + s.sigs.1 * 2 ^ 64 + s.sigs.2 * 2 ^ 128 + sig3 * 2 ^ 192
  let d := d.raiseRaw .CMB_SHADOW_MISMATCH RecCode.CMB_SHADOW_MISMATCH.severity (d.pathUnit s.unit) det s.job
  let last := if s.third.isSome then sig3 else s.sigs.2
  let d := (d.set .cmb_last_sig_signature 0 last).cmbLoc 2 s.ctx s.step s.chunk (if outcome = 2 then su else s.unit)
  let d := d.strike (if outcome = 2 then su else s.unit) lane
  (if outcome = 2 then d else d.shadowBad s outcome).placeShadows

/-- The one differing lane as a physical lane of unit `u` whose retired lane is `ret`; 31 for several (R315). -/
def physLane (diff ret : Nat) : Nat :=
  match bitsOf 16 diff with
  | [l] => if l = ret then 16 else l
  | _ => 31

/-- The lane CRCs of a computation of a chosen chunk from its copied inputs by R295 to R303, the bytes of `err` changed by an
error no check sees (R312). -/
def Shadow.form (s : Shadow) (err : List (Fin 4096 × BitVec 8)) : List Nat :=
  laneCrcs (spoilt (({ hdr := s.hdr, map := s.map } : Ctx).formChunk { idx := s.chunk, inputs := s.inputs }).1 err)

/-- A computation of a shadow check runs on unit `u` (R312, R321). -/
def Dev.shadowRun (d : Dev) (u : Nat) : Dev :=
  ((d.incr .cmb_shadow_stats_runs 0).incr .cmb_unit_count_chunks_formed u).count (blkCluster u) .CHUNK_FORMED

/-- A shadow computation ends and its lane CRCs are compared with the stored ones (R312). -/
def Dev.shadowCompare (d : Dev) (x st k : Nat) (err : List (Fin 4096 × BitVec 8)) (e1 e2 : Env) : Dev :=
  match d.shadows.find? (fun s => s.ctx == x && s.step == st && s.chunk == k && s.third.isNone) with
  | none => d
  | some s =>
    match s.shadow with
    | none => d
    | some su =>
      let d := d.shadowRun su
      let found := s.form err
      let diff := lanesDiffer found s.crcs
      if diff = 0 then ((d.dropShadow s).count (blkCluster su) .SHADOW_RUN).placeShadows
      else
        let sig1 := d.cmbSig s.unit s.format s.op (physLane diff s.lane) e1
        let sig2 := d.cmbSig su s.format s.op (physLane diff (d.get .cmb_unit_status_retired_lane su)) e2
        let s' := { s with found := found, diff := diff, sigs := (sig1, sig2) }
        match d.thirdUnit s.unit su with
        | none => (d.dropShadow s).shadowOutcome s' 3 0 (physLane diff s.lane)
        | some t => { d with shadows := d.shadows.map (fun e => if e = s then { s' with third := some t } else e) }

/-- The third computation ends and decides; where its unit was fenced and no other is left it is not run, and the outcome is
UNRESOLVED (R312). -/
def Dev.shadowThird (d : Dev) (x st k : Nat) (err : List (Fin 4096 × BitVec 8)) (e : Env) : Dev :=
  match d.shadows.find? (fun s => s.ctx == x && s.step == st && s.chunk == k && s.third.isSome) with
  | none => d
  | some s =>
    let t := s.third.getD 0
    let su := s.shadow.getD 0
    let d := d.dropShadow s
    if d.flag .cmb_unit_status_fenced t then d.shadowOutcome { s with third := none } 3 0 (physLane s.diff s.lane)
    else
      let d := d.shadowRun t
      let sig3 := d.cmbSig t s.format s.op (physLane s.diff (d.get .cmb_unit_status_retired_lane t)) e
      let crcs := s.form err
      if crcs = s.found then d.shadowOutcome s 1 sig3 (physLane s.diff s.lane)
      else if crcs = s.crcs then d.shadowOutcome s 2 sig3 (physLane s.diff (d.get .cmb_unit_status_retired_lane su))
      else d.shadowOutcome s 3 sig3 (physLane s.diff s.lane)

end Sys2Proof.Machine
end

