-- ==== Sys2Proof/Machine/Wra.lean ====
section
/-! DEFINITION. The weighted-reduction array: what a pass works on (R324, R333, R335), its result (R325), tiles (R340, R343,
R344), and pooled gathers (R337 to R339). -/

namespace Sys2Proof.Machine

/-- A chunk by context and number, or a gather by its number. -/
inductive Work where
  | chunk (x k : Nat)
  | gather (id : Nat)
  deriving DecidableEq, Repr

/-- The work an operand names. -/
def Work.of : WraWork → Work
  | .chunk x k => .chunk x.val k.val
  | .gather i => .gather i.toNat

/-- What the array is told of a piece of work (R324, R334): X format, elements per row, rows of X and of W, transposing
reads; kind 1 MOE, 2 SCALED, 3 GATHER; what a record names, job tag. -/
structure Shape where
  fmt : Nat
  v : Nat
  k : Nat
  m : Nat
  tr : Bool
  kind : Nat
  /-- Context or descriptor; step; chunk or reqid. -/
  num : Nat
  step : Nat
  sub : Nat
  job : Nat
  deriving DecidableEq, Repr

/-- Column blocks and k-blocks of a shape (R324). -/
def Shape.colBlocks (s : Shape) : Nat := cdiv s.v 128
def Shape.kBlocks (s : Shape) : Nat := max 1 (cdiv s.k (blockRows (elemBytes s.fmt)))

/-! ### Chunks of weighted contexts (R333, R335) -/

/-- The q-th element of element size `es` of a row that begins at element `at'`, rows of `v`. -/
def elemAt (es : Nat) (bs : List Nat) (i : Nat) : Nat := beNat ((bs.drop (i * es)).take es)

/-- Row `i` of a contribution of `r` rows (R327, R333). -/
def rowOf (es v r : Nat) (tr : Bool) (bs : List Nat) (i : Nat) : List Nat :=
  (List.range v).map (fun n => elemAt es bs (if tr then n * r + i else i * v + n))

/-- The X rows of a chunk (R333). -/
def Ctx.xRows (c : Ctx) (w : List Nat) (ch : Chunk) : List (List Nat) :=
  let r := rowsPer c.hdr w
  ((dataMembers w c.map).map (fun i =>
    let bs := ((ch.inputs.find? (fun (p : Nat × List Nat) => p.1 == i)).map (fun p => p.2)).getD []
    (List.range r).map (rowOf (elemBytes (hxFmt c.hdr)) (dxVec w) r (dxTranspose w) bs))).flatten

/-- Output row `t` of a SPARSE coefficient chunk: its terms k and weight, and whether an entry was skipped for its range or
as a repeat (R335). -/
def sparseRow (bs : List Nat) (kTop kAll t : Nat) : List (Nat × Nat) × Bool × Bool :=
  let es := (List.range kTop).map (fun e => beNat ((bs.drop (4 * (t * kTop + e))).take 4))
  let r := es.foldl (fun (a : List Nat × List (Nat × Nat) × Bool × Bool) e =>
    let k := slice e 16 16
    let w := slice e 0 16
    let rng := a.2.2.1 || decide (kAll ≤ k) && slice w 0 15 != 0
    if a.1.contains k then (a.1, a.2.1, rng, true)
    else (k :: a.1, if kAll ≤ k then a.2.1 else (k, w) :: a.2.1, rng, a.2.2.2)) ([], [], false, false)
  (sortBy (fun (a b : Nat × Nat) => decide (a.1 ≤ b.1)) r.2.1, r.2.2.1, r.2.2.2)

/-- Output row `t` of W for a chunk, as terms in ascending k (R333), and the skips of R335. -/
def Ctx.wRow (c : Ctx) (x : Desc) (ch : Chunk) (t : Nat) : List (Nat × Nat) × Bool × Bool :=
  let w := x.words
  let r := rowsPer c.hdr w
  let kAll := rowsAll c.hdr w c.map
  if dxKind w = dkMOE then
    let bs := ((ch.inputs.find? (fun (p : Nat × List Nat) => p.1 == dxCoefSlot w)).map (fun p => p.2)).getD []
    sparseRow bs (dxKTop w) kAll t
  else if dxCoefKind w = 1 then
    ((List.range (dataMembers w c.map).length).map (fun q => (q * r + t, x.coef 0 q)), false, false)
  else ((List.range kAll).map (fun k => (k, x.coef t k)), false, false)

/-- One row of Y in an output format: the elements with their notes (R325). -/
def wraRow (f out : Fp) (v : Nat) (xs : List (List Nat)) (ts : List (Nat × Nat)) : List (Nat × Notes) :=
  (List.range v).map (fun n =>
    let a := wraDot f (ts.map (fun t => (t.2, (xs.getD t.1 []).getD n 0)))
    let o := f32Out out a.1
    (o.1, o.2.join { ovf := a.2 }))

/-- Y of a chunk as bytes, its notes, and whether entries were skipped for their range or as repeats (R325, R335). -/
def Ctx.weigh (c : Ctx) (x : Desc) (ch : Chunk) : List Nat × Notes × Bool × Bool :=
  let w := x.words
  let f := fpOf (hxFmt c.hdr)
  let xs := c.xRows w ch
  let rows := (List.range (rowsPer c.hdr w)).map (fun t => c.wRow x ch t)
  let o := outBytes (elemBytes (hxFmt c.hdr)) ((rows.map (fun r => wraRow f f (dxVec w) xs r.1)).flatten)
  (o.1, o.2, rows.any (fun r => r.2.1), rows.any (fun r => r.2.2))

/-! ### Gathers (R337, R338) -/

/-- The pooled vector of a GATHER_WRA, as bytes with notes. -/
def Gather.weigh (g : Gather) (w : List Nat) : List Nat × Notes :=
  let es := elemBytes (dxXFmt w)
  let xs := (g.rows.getD []).map (fun bs => rowOf es (dxVec w) 1 false bs 0)
  let ts := (List.range g.positions.length).map (fun p => (p, ((g.positions.getD p (0, 0)).2)))
  outBytes (elemBytes (dxOutFmt w)) (wraRow (fpOf (dxXFmt w)) (fpOf (dxOutFmt w)) (dxVec w) xs ts)

/-- The pooled vector of a GATHER_CMB (R338): the tree over 64 slots, position p in slot p; none where every position is
padding, for which the spec states no result (log entry 4). -/
def Gather.pool (g : Gather) (w : List Nat) : Option (List Nat × Notes) :=
  let f := dxXFmt w
  let n := rowBytes w
  let op := if dxPoolMax w then 2 else 0
  let leaf := fun (k j : Nat) =>
    if k = 0 ∧ j < g.positions.length ∧ slice ((g.positions.getD j (0, 0)).2) 0 15 ≠ 0 then
      some (leafAcc f op n ((g.rows.getD []).getD j []))
    else none
  match treeNode f op leaf 6 0 with
  | some (a, notes) => let (b, m) := accBytes f n a; some (b, notes.join m)
  | none => none

/-! ### Work and tiles -/

/-- Path of a tile. -/
def Dev.pathTile (d : Dev) (t : Nat) : Nat := d.pathDevice ucWRA_TILE t

/-- The context, step and chunk of weighted work that is open. -/
def Dev.wraChunk (d : Dev) (x k : Nat) : Option (Ctx × Step × Chunk × Desc) :=
  match d.openStep? x with
  | some (c, r) =>
    if !hxWra c.hdr then none
    else match r.chunk? k, d.desc (hxDesc c.hdr) with
      | some ch, some y => if ch.result.isSome then none else some (c, r, ch, y)
      | _, _ => none
  | none => none

/-- The gather that is pooled in the array. -/
def Dev.wraGather (d : Dev) (id : Nat) : Option (Gather × Desc) :=
  match d.gathers.find? (fun (g : Gather) => g.id == id) with
  | some g => match d.desc g.desc with
    | some y => if g.answered || g.rows.isNone || dxKind y.words != dkGATHER_WRA then none else some (g, y)
    | none => none
  | none => none

/-- The shape of a piece of work, and its passes, while it is open. -/
def Dev.workOf (d : Dev) (w : Work) : Option (Shape × Passes) :=
  match w with
  | .chunk x k => (d.wraChunk x k).map (fun e =>
      let c := e.1
      let y := e.2.2.2.words
      ({ fmt := hxFmt c.hdr, v := dxVec y, k := rowsAll c.hdr y c.map, m := rowsPer c.hdr y, tr := dxTranspose y,
         kind := if dxKind y = dkMOE then 1 else 2, num := x, step := e.2.1.step, sub := k, job := hxJob c.hdr }, e.2.2.1.passes))
  | .gather id => (d.wraGather id).map (fun e =>
      let y := e.2.words
      ({ fmt := dxXFmt y, v := dxVec y, k := dxBag y, m := 1, tr := false, kind := 3, num := e.1.desc, step := 0,
         sub := e.1.hdr.reqid, job := dxJob y }, e.1.passes))

/-- The passes of a piece of work changed. -/
def Dev.setPasses (d : Dev) (w : Work) (p : Passes) : Dev :=
  match w with
  | .chunk x k => d.onStep x (·.mapChunk k (fun (ch : Chunk) => { ch with passes := p }))
  | .gather id => { d with gathers := d.gathers.map (fun (g : Gather) => if g.id = id then { g with passes := p } else g) }

/-- The open work in order: chunks by context and arrival, then gathers by arrival. -/
def Dev.works (d : Dev) : List Work :=
  let cs := (d.loadedCtxs.map (fun e =>
    if hxWra e.2.hdr then match e.2.run with
      | some r => r.chunks.map (fun ch => Work.chunk e.1 ch.idx)
      | none => []
    else [])).flatten
  (cs ++ d.gathers.map (fun g => Work.gather g.id)).filter (fun w => (d.workOf w).isSome)

/-- Passes of work bound to tile `t` that have not ended (R350). -/
def Dev.tileQueued (d : Dev) (t : Nat) : Nat :=
  (d.works.map (fun w => match d.workOf w with
    | some (s, p) => if p.tile = some t then s.colBlocks * s.kBlocks - p.cols.sum else 0
    | none => 0)).sum

/-- The pass that runs on tile `t`. -/
def Dev.tileBusy (d : Dev) (t : Nat) : Bool :=
  d.works.any (fun w => match d.workOf w with
    | some (_, p) => p.tile == some t && p.run.isSome
    | none => false)

/-- Whether the X rows of k-block `b` and the coefficients of a piece of work are held (R324). -/
def Dev.workHeld (d : Dev) (w : Work) (b : Nat) : Bool :=
  match w with
  | .chunk x k => match d.wraChunk x k with
    | some (c, _, ch, y) =>
      let wd := y.words
      let r := rowsPer c.hdr wd
      let br := blockRows (elemBytes (hxFmt c.hdr))
      let dm := dataMembers wd c.map
      let has := fun i => ch.inputs.any (fun (p : Nat × List Nat) => p.1 == i)
      (List.range dm.length).all (fun q =>
        decide (q * r + r ≤ b * br ∨ (b + 1) * br ≤ q * r) || has (dm.getD q 0)) &&
        (dxKind wd != dkMOE || has (dxCoefSlot wd))
    | none => false
  | .gather id => (d.wraGather id).isSome

/-- Work whose first pass is ready is bound to the unfenced tile with the fewest queued passes (R340). -/
def Dev.wraBind (d : Dev) : Dev :=
  d.works.foldl (fun d w => match d.workOf w with
    | some (_, p) =>
      if p.tile.isSome || !d.workHeld w 0 then d
      else match fewest d.tilesUp d.tileQueued with
        | some t => d.setPasses w { p with tile := some t }
        | none => d
    | none => d) d

/-! #### Service in two tiers (R340, log entry 65) -/

/-- Age of a piece of work; whether its holder, a context or a GATHER_WRA descriptor, has cycle credit: it earns its reservation
from its load on. -/
def Dev.workAge (d : Dev) (w : Work) : Nat :=
  match w with
  | .chunk x k => match d.wraChunk x k with | some e => e.2.2.1.age | none => 0
  | .gather id => match d.wraGather id with | some e => e.1.age | none => 0
def Dev.cycleCredit (d : Dev) (w : Work) : Bool :=
  match w with
  | .chunk x k => match d.wraChunk x k with
    | some (c, _, _, y) => decide (c.cycles < ctxCycles c.hdr y.words c.map * (d.localNs - c.since))
    | none => false
  | .gather id => match d.wraGather id with
    | some (_, y) => decide (y.cycles < descCycles y.words * (d.localNs - y.since))
    | none => false

/-- The holder of a piece of work uses `n` cycles of its credit. -/
def Dev.chargeCycles (d : Dev) (w : Work) (n : Nat) : Dev :=
  match w with
  | .chunk x _ => match d.ctx x with
    | some c => d.putCtx x (some { c with cycles := c.cycles + 1000 * n })
    | none => d
  | .gather id => match d.wraGather id with
    | some (g, y) => d.putDesc g.desc (some { y with cycles := y.cycles + 1000 * n })
    | none => d

/-- Work bound to tile `t` with a ready pass whose holder has credit. -/
def Dev.tileFirst (d : Dev) (t : Nat) : List Work :=
  d.works.filter (fun w => match d.workOf w with
    | some (s, p) => p.tile == some t && p.run.isNone && d.cycleCredit w &&
        (List.range s.colBlocks).any (fun c => decide (p.cols.getD c 0 < s.kBlocks) && d.workHeld w (p.cols.getD c 0))
    | none => false)

/-- Whether tile `t` now serves a ready pass of work `w`, and in the second tier or not: the oldest work whose holder has credit
first, the other passes where none of those is ready. -/
def Dev.tileTurn (d : Dev) (w : Work) (t : Nat) : Option Bool :=
  let first := d.tileFirst t
  if d.cycleCredit w then (if first.all (fun u => decide (d.workAge w ≤ d.workAge u)) then some false else none)
  else if first.isEmpty then some true else none

/-- The next k-block of column block `c`. -/
def Passes.next (p : Passes) (c : Nat) : Nat := p.cols.getD c 0

/-- Column block `c` has ended one more pass. -/
def Passes.ended (p : Passes) (n c : Nat) : Passes :=
  { p with run := none, cols := (List.range n).map (fun i => p.next i + (if i = c then 1 else 0)) }

/-- A ready pass of column block `c` is granted its tile; `ovr` when it uses leftover cycles (R324, R340). Column maps
requested by a command apply from here (R344). -/
def Dev.passStart (d : Dev) (w : Work) (c : Nat) (ovr : Bool) : Dev :=
  match d.workOf w with
  | none => d
  | some (s, p) =>
    match p.tile with
    | none => d
    | some t =>
      if s.colBlocks ≤ c ∨ s.kBlocks ≤ p.next c ∨ d.tileBusy t = true ∨ d.workHeld w (p.next c) = false ∨ d.tileTurn w t ≠ some ovr then d
      else
        let d := d.setMany [(.wra_tile_status_retired_col, t, d.get .h_wra_req t),
          (.wra_tile_status_spare_in_use, t, b2n (d.get .h_wra_req t != 255))]
        let d := d.setPasses w { p with run := some c }
        if ovr then d.count (blkTile t) .WRA_OVER_RATE
        else d.chargeCycles w (passCycles (elemBytes s.fmt) s.k s.m (p.next c) s.tr)

/-- The signature of a column mismatch on tile `t` (R342). -/
def Dev.wraSig (d : Dev) (t : Nat) (s : Shape) (mm : ColMismatch) : Nat :=
  wrap 12 (sgn 11 mm.env.temp.toNat) * 2 ^ 52 + mm.env.vdd.toNat * 2 ^ 40 + min (d.tileQueued t) 255 * 2 ^ 32
    + mm.env.island.toNat * 2 ^ 24 + mm.env.wra.toNat * 2 ^ 16 + s.fmt * 2 ^ 12 + s.kind * 2 ^ 8 + mm.col.val

/-- What a record of a piece of work names first (R346). -/
def Shape.items (s : Shape) : List Item := if s.kind = 3 then [.h s.num, .w s.sub] else [.h s.num, .w s.step, .w s.sub]

/-- Column `j` of tile `t` moves to column 128 (R343, R344): cause 1 REPEAT, 2 COMMAND. -/
def Dev.retireCol (d : Dev) (t j cause : Nat) : Dev :=
  let d := d.set .h_wra_req t j
  let d := if cause = 2 then d else d.setMany [(.wra_tile_status_retired_col, t, j), (.wra_tile_status_spare_in_use, t, 1)]
  (d.count (blkTile t) .WRA_COL_RETIRED).raise .WRA_COL_RETIRED (d.pathTile t) [.h j, .h cause]

/-- A request pooled in the array is answered. -/
def Dev.gatherAnswer (d : Dev) (g : Gather) (status : Nat) (data : List Nat) : Dev :=
  let d := { d with gathers := d.gathers.map (fun (e : Gather) => if e.id = g.id then { e with answered := true } else e) }
  d.fmemRespond g.id g.hdr status data

/-- The checks of a piece of work are given up (R343). -/
def Dev.wraGiveUp (d : Dev) (w : Work) (s : Shape) (t col sig : Nat) : Dev :=
  let d := d.raiseSig .WRA_GIVE_UP (d.pathTile t) (s.items ++ [.h col, .h s.job]) [sig] s.job
  match w with
  | .chunk x k => d.stepAbort x 7 4 (some k)
  | .gather id => match d.wraGather id with
    | some (g, _) => d.gatherAnswer g msWRA_FAULT []
    | none => d

/-- A recomputation of a piece of work on tile `t` (R343). -/
def Dev.wraAgain (d : Dev) (w : Work) (t : Nat) (p : Passes) : Dev :=
  let d := d.setPasses w { p with tile := some t, cols := [], run := none }
  let d := (d.incrSat .wra_tile_count_recomputes t).count (blkTile t) .WRA_RECOMPUTE
  match w with
  | .chunk x _ => d.onStep x (fun r => { r with retries := r.retries + 1 })
  | .gather _ => d

/-- Tile `t` is fenced and its bound work rebound, recomputed where a pass of it had begun (R343, R344). -/
def Dev.fenceTile (d : Dev) (t col cause sig : Nat) : Dev :=
  let d := d.set .wra_tile_status_fenced t 1
  let d := (d.count (blkTile t) .WRA_TILE_FENCED).raise .WRA_TILE_FENCED (d.pathTile t) [.h col, .h cause]
  d.works.foldl (fun d w => match d.workOf w with
    | some (s, p) =>
      if p.tile ≠ some t then d
      else
        let p' : Passes := { p with tile := none, failed := [] }
        match fewest d.tilesUp d.tileQueued with
        | none => d.wraGiveUp w s t col sig
        | some u =>
          if p.run.isNone ∧ p.cols.sum = 0 ∧ p.mism = 0 then d.setPasses w { p' with tile := some u } else d.wraAgain w u p'
    | none => d) d

/-- An early result of a weighted chunk whose verdict fails is complete no more until it is reissued (R277, R279, R343). -/
def Dev.unrelease (d : Dev) (w : Work) : Dev :=
  match w with
  | .chunk x k => match d.wraChunk x k with
    | some (c, _, ch, y) =>
      if ch.early ∧ ch.retracted = false then d.takeBack x k (c.weigh y ch).1 else d
    | none => d
  | .gather _ => d

/-- A result is released: one that passed its verdict, an early one of a combining unit, or an early one of the array, whose root
node is formed while its last pass streams (R277, log entry 65). -/
def Dev.resultRelease (d : Dev) (x k : Nat) : Dev :=
  match d.wraChunk x k, d.workOf (.chunk x k) with
  | some (c, r, ch, y), some (s, p) =>
    if c.mayEarly r ch && p.run.isSome && decide (p.cols.sum + 1 = s.colBlocks * s.kBlocks) then
      d.releaseEarly x c r k (c.weigh y ch).1
    else d
  | _, _ => d.chunkRelease x k

/-- A mismatch of a piece of work on tile `t` (R343). -/
def Dev.passMismatch (d : Dev) (w : Work) (s : Shape) (p : Passes) (t : Nat) (mm : ColMismatch) : Dev :=
  let j := mm.col.val
  let sig := d.wraSig t s mm
  let d := (d.incrSat .wra_tile_count_mismatches t).count (blkTile t) .WRA_RESIDUE_MISMATCH
  let d := d.raiseSig .WRA_RESIDUE (d.pathTile t) (s.items ++ [.h j]) [sig] s.job
  let d := d.setMany [(.wra_last_sig_signature, 0, sig), (.wra_last_loc_source, 0, if s.kind = 3 then 2 else 1),
    (.wra_last_loc_number, 0, s.num), (.wra_last_loc_step, 0, s.step), (.wra_last_loc_chunk, 0, s.sub),
    (.wra_last_loc_tile, 0, t), (.wra_last_loc_column, 0, j)]
  let again := p.failed.contains j
  let p : Passes := { p with mism := p.mism + 1, failed := if again then p.failed else j :: p.failed }
  let d := (d.setPasses w p).unrelease w
  if p.mism ≥ 5 then d.wraGiveUp w s t j sig
  else if j ≠ 128 ∧ again = false then d.wraAgain w t p
  else if j < 128 ∧ d.flag .wra_tile_status_spare_in_use t = false then (d.retireCol t j 1).wraAgain w t p
  else d.fenceTile t j 1 sig

/-- What the last pass of a piece of work leaves: the checks have passed, the result goes on (R325, R343). -/
def Dev.workDone (d : Dev) (w : Work) (t : Nat) : Dev :=
  let fp := fun (d : Dev) (n : Notes) =>
    let d := if n.ovf then d.count (blkTile t) .FP_OVERFLOW_WRA else d
    if n.nan then d.count (blkTile t) .NAN_OUT_WRA else d
  match w with
  | .chunk x k => match d.wraChunk x k with
    | some (c, r, ch, y) =>
      let (b, n, rng, dup) := c.weigh y ch
      let d := fp d n
      let u := ch.unit.getD 0
      let d := if rng then d.count (blkCluster u) .WRA_COEF_RANGE else d
      let d := if dup then d.count (blkCluster u) .WRA_COEF_DUP else d
      d.chunkPass x c r ch b ch.passes.spare
    | none => d
  | .gather id => match d.wraGather id with
    | some (g, y) => let (b, n) := g.weigh y.words; (fp d n).gatherAnswer g msOK b
    | none => d

/-- The running pass of a piece of work ends (R324, R343). -/
def Dev.passEnd (d : Dev) (w : Work) (mm : Option ColMismatch) : Dev :=
  match d.workOf w with
  | none => d
  | some (s, p) =>
    match p.tile, p.run with
    | some t, some c =>
      let mm := mm.filter (fun m => laneFails m.op)
      let j := match mm with | some m => m.col.val | none => 0
      let inUse := mm.isNone || j == 255 || (if j = 128 then d.flag .wra_tile_status_spare_in_use t
        else decide (j < 128) && d.get .wra_tile_status_retired_col t != j)
      if !inUse then d
      else
        let d := (d.incr .wra_tile_count_passes t).count (blkTile t) .WRA_PASS
        let d := d.count (blkTile t) .WRA_BUSY (passCycles (elemBytes s.fmt) s.k s.m (p.next c) s.tr)
        let p := { p.ended s.colBlocks c with spare := p.spare || d.flag .wra_tile_status_spare_in_use t }
        let d := d.setPasses w p
        match mm with
        | some m => d.passMismatch w s p t m
        | none => if p.cols.sum = s.colBlocks * s.kBlocks then d.workDone w t else d
    | _, _ => d

/-! ### Gather requests (R337 to R339) -/

/-- The positions of a GATHER_REQ payload: row index, weight, reserved bits (R337). -/
def gatherPos (p : List Nat) (n : Nat) : List (Nat × Nat × Nat) :=
  (List.range n).map (fun i =>
    (beNat ((p.drop (8 + 8 * i)).take 4), beNat ((p.drop (12 + 8 * i)).take 2), beNat ((p.drop (14 + 8 * i)).take 2)))

/-- The status of a GATHER_REQ, the frame of its base address, and its positions as usable addresses and weights
(R337, R338, R377). -/
def Dev.gatherStatus (d : Dev) (h : Hdr) (p : List Nat) : Nat × Nat × List (Nat × Nat) :=
  let (st, f) := d.reqStatus h (h.opcode == 0 && h.size == 0) true 0 false false
  if st ≠ msOK then (st, f, [])
  else
    let n := beNat (p.take 4) / 2 ^ 20
    match d.desc n with
    | none => (msGATHER_DESC, f, [])
    | some y =>
      let w := y.words
      if y.state ≠ 1 ∨ dxGather w = false then (msGATHER_DESC, f, [])
      else
        let ps := gatherPos p (dxBag w)
        if h.length ≠ 8 + 8 * dxBag w ∨ beNat (p.take 4) % 2 ^ 20 ≠ 0 ∨ beNat ((p.drop 4).take 4) ≠ 0 ∨
            ps.any (fun q => q.2.2 != 0) = true then (msGATHER_FORMAT, f, [])
        else if dxKind w = dkGATHER_CMB ∧ ps.any (fun q => slice q.2.1 0 15 != 0 && q.2.1 != 0x3F80) = true then
          (msGATHER_WEIGHT, f, [])
        else
          let rows := ps.map (fun q =>
            if slice q.2.1 0 15 = 0 then (msOK, 0, q.2.1)
            else
              let a := (h.faddr + q.1 * dxStride w) % 2 ^ 64
              let (s, g) := d.reqStatus (h.withAddr a) true (faOffset a % elemBytes (dxXFmt w) == 0) (rowBytes w) false false
              (s, g * 2 ^ 30 + faOffset a, q.2.1))
          match rows.find? (fun r => r.1 != msOK) with
          | some r => (r.1, f, [])
          | none => (msOK, f, rows.map (fun r => (r.2.1, r.2.2)))

/-- The GATHER_REQ at the head of the FMEM output is taken, or waits (R338, R339, R381). -/
def Dev.gatherTake (d : Dev) : Dev :=
  match d.internalHead 513 3 with
  | none => d
  | some (fr, mark) =>
    if !fr.complete ∨ fr.hdr.ftype ≠ ftGATHER_REQ then d
    else
      let n := beNat (fr.payload.take 4) / 2 ^ 20
      let full := match d.desc n with
        | some y => y.state == 1 && dxGather y.words && decide (dxInflight y.words ≤ d.descInflight n)
        | none => false
      if full then d.count blkDevice .GATHER_HOLD
      else if d.slotsInflight ≥ 65536 then d.count blkDevice .FMEM_HOLD
      else
        let d := d.echo fr mark
        let (st, f, ps) := d.gatherStatus fr.hdr fr.payload
        let id := d.get .h_gather_id
        let age := d.get .h_work_age
        let d := ((d.takeInternal 513 fr).incr .h_gather_id 0).incr .h_work_age 0
        if st = msOK then
          { d with gathers := d.gathers ++ [({ id := id, age := age, hdr := fr.hdr, desc := n, frame := f, positions := ps } : Gather)] }
        else
          let o : MOp := { id := id, hdr := fr.hdr, payload := [], frame := 409 }
          ({ d with fops := d.fops ++ [o] } : Dev).opAnswer o st []

/-- The rows of gather `id` have arrived, unless it waits for an older overlapping operation of its source (R380), `corr` and `bad` the words found corrected and uncorrectable (R338, R387). -/
def Dev.gatherRows (d : Dev) (m : SMap Byte) (id : Nat) (corr bad : List Nat) : Dev :=
  match d.gathers.find? (fun (g : Gather) => g.id == id && !g.answered && g.rows.isNone) with
  | none => d
  | some g =>
    match d.desc g.desc with
    | none => d
    | some y =>
      if (dxKind y.words = dkGATHER_CMB ∧ d.unitsUp.isEmpty = true) ∨
          d.mustWait g.id g.hdr (g.spans (rowBytes y.words)) = true then d
      else
      let n := rowBytes y.words
      let used := g.positions.filter (fun q => slice q.2 0 15 != 0)
      let (d, err) := used.foldl (fun (a : Dev × Bool) q =>
        let (d, e) := (a.1.memBytes .MEM_RD_BYTES q.1 n).memCheck q.1 n corr bad
        (d, a.2 || e)) (d, false)
      if err then d.gatherAnswer g msUNCORRECTABLE []
      else
        let rows := g.positions.map (fun q => if slice q.2 0 15 = 0 then [] else memRead m q.1 n)
        let g' : Gather := { g with rows := some rows }
        if dxKind y.words = dkGATHER_CMB then
          match g'.pool y.words with
          | some (b, notes) => (d.countNotes ((fewest d.unitsUp d.unitSlots).getD 0) notes).gatherAnswer g msOK b
          | none => let (v, d) := d.draw; d.gatherAnswer g msOK (beBytes n v)
        else { d with gathers := d.gathers.map (fun (e : Gather) => if e.id = id then g' else e) }

end Sys2Proof.Machine
end

