-- ==== Sys2Proof/Machine/Run.lean ====
section
/-! DEFINITION. How a command's effect reaches the state: the effect, what it leaves for the collective and memory engines
and the weighted-reduction array, then its records. -/

namespace Sys2Proof.Machine

/-- What a command that moves frames or steps leaves for the engines is taken in: frames recognised and copies lost
(R282, R283), frames that wait for an input (R217), work that becomes ready (R340), ports the time unit uses (R409). -/
def Dev.settle (d : Dev) : Dev :=
  let d := d.absorb
  ((d.fmemDrain d.fmemOut.length).wraBind).timeCheck

/-- A command's effect on the device, its consequences in the engines, then its records. -/
def State.runX (s : State) (f : Dev → Dev) : Host.Outcome State Fault Refusal := s.run (fun d => (f d).settle)

/-- As `runX`, for an effect that also reaches fabric memory. -/
def State.runMem (s : State) (f : Dev → SMap Byte → Dev × SMap Byte) : Host.Outcome State Fault Refusal :=
  let r := f s.dev s.mem
  .next { s with dev := r.1.settle.flush, mem := r.2 }

end Sys2Proof.Machine
end

