-- ==== Sys2Proof/Machine/Xpr.lean ====
section
/-! DEFINITION. Express circuits: the checks of SETUP (R126 to R128), activation (R129), teardown (R130), the input watch
and REWEIGHT (R131), the circuit registers (R142), and the declarations of a partner (R153). -/

namespace Sys2Proof.Machine

/-- Link-control frames that reach the device on port `n`, whose quadrant is on: a good one ends a hunt (R148); at most
eight are processed in a microsecond, the rest are dropped (R154). -/
def Dev.lcIn (d : Dev) (n : Nat) (f : Dev → Dev) : Dev :=
  if !d.quadOn n then d
  else
    let d := d.set .h_hunting n 0
    let us := d.localNs / 1000
    let used := if d.get .h_lc_us n = us then d.get .h_lc_count n else 0
    if used ≥ 8 then (d.count n .LC_EXCESS).raise .LC_EXCESS (d.pathPort n)
    else f (d.setMany [(.h_lc_us, n, us), (.h_lc_count, n, used + 1)])

/-- Link-control frames that count NOT_ADMITTED before ADMITTED (R161). -/
def Dev.lcAdmitted (d : Dev) (n : Nat) (f : Dev → Dev) : Dev :=
  d.lcIn n (fun d => if d.admitted n then f d else d.count n .NOT_ADMITTED)

/-- A link-control frame that a bound port does not use is dropped and counted (R552). -/
def Dev.lcUnbound (d : Dev) (n : Nat) (f : Dev → Dev) : Dev :=
  if (d.boundSvc n).isSome then d.lcIn n (fun d => d.count n .LC_UNKNOWN) else f d

/-- Signed 0.01 dBm of an OMA field (R104). -/
def oma (v : Nat) : Int := sgn 16 v

/-! ### The circuit's data -/

def Dev.circState (d : Dev) (c : Nat) : Nat := d.get .xpr_circ_status_state c
def Dev.circAdd (d : Dev) (c : Nat) : Nat := d.get .xpr_circ_cfg_add_port c
def Dev.circSlot (d : Dev) (c : Nat) : Nat := d.get .xpr_circ_cfg_slot c
/-- The used weights (R142). -/
def Dev.circWeights (d : Dev) (c : Nat) : List Nat :=
  (List.range (min 4 (d.get .xpr_circ_cfg_n_drop c))).map (fun k => d.get .xpr_circ_weight_w (4 * c + k))

/-- Segments joined from the add engine `a` to the last drop engine in loop order (R126). -/
def Dev.circSegments (d : Dev) (c : Nat) : Nat :=
  let a := d.circAdd c / 64
  let far := ((d.circDrops c).map (fun n => (n / 64 + 8 - a) % 8)).foldl max 0
  maskOf 8 (fun k => (k + 8 - a) % 8 < far)

/-- The ports of a circuit: the add port, then the drops. -/
def Dev.circPorts (d : Dev) (c : Nat) : List Nat := d.circAdd c :: d.circDrops c

/-- The lowest waveguide free for slot `s` on every segment of a mask (R126, R127). -/
def Dev.freeGuide (d : Dev) (c segs : Nat) : Option Nat :=
  firstBelow 4 (fun w => (List.range 64).all (fun c' => c' == c || !d.circBusy c' || d.circSlot c' != d.circSlot c ||
    d.get .xpr_circ_status_waveguide c' != w || (d.get .xpr_circ_status_segments c' &&& segs) == 0))

/-- The 1 ms average of the add slot (R128): the spare slot's or, on a slot that a lane uses, the lane's. -/
def Dev.slotOma (d : Dev) (n s : Nat) : Nat :=
  if d.rxSpare n = s then d.get .opt_rx_spare_spare n
  else match firstBelow 4 (fun l => d.get .opt_lane_map_rx_lane (4 * n + l) == s) with
    | some l => d.get .opt_rx_power_lane (4 * n + l)
    | none => 0x8000

/-- Whether 1,000·log10(w / 1,024), a weight's share in 0.01 dB, is at least `t`, decided on whole powers (R128). -/
def weightGe (w : Nat) (t : Int) : Bool :=
  if t ≤ 0 then decide (1024 ^ 1000 ≤ w ^ 1000 * 10 ^ (-t).toNat) else decide (1024 ^ 1000 * 10 ^ t.toNat ≤ w ^ 1000)

/-- Whether every drop launches at least −2.0 dBm with the weights given (R128). -/
def Dev.powerOk (d : Dev) (c pin : Nat) : Bool :=
  let x : Int := if d.get .xpr_circ_cfg_n_drop c > 1 then 100 else 0
  (d.circWeights c).all (fun w => weightGe w (x - 850 - oma pin))

/-- Whether the used weights fail (R127, code 3). -/
def Dev.weightBad (d : Dev) (c : Nat) : Bool :=
  (d.circWeights c).any (· == 0) || decide ((d.circWeights c).foldl (· + ·) 0 > 1024)

/-- Whether slot `s` of the half of port `n` (receive at the add) is taken (R127, code 6). -/
def Dev.slotBusy (d : Dev) (c n : Nat) (add : Bool) : Bool :=
  let s := d.circSlot c
  let lanes := if add then d.rxMap n else d.txMap n
  (d.role n != roleEXPRESS_ONLY && lanes.contains s) ||
  (List.range 64).any (fun c' => c' != c && d.circBusy c' && d.circSlot c' == s &&
    (if add then d.circAdd c' == n else (d.circDrops c').contains n))

/-- Whether a sequence holds the slot (R121): the spare slot of a port whose octet runs one, or a receive slot a peer's
sequence holds. -/
def Dev.seqHolds (d : Dev) (n s : Nat) (add : Bool) : Bool :=
  if add then d.flag .h_peer_seq n && (d.rxSpare n == s || d.get .h_peer_slot n == s)
  else d.seqRuns (n / 8) && d.txSpare n == s

/-- The status of R127 for a SETUP of circuit `c`: the first check that fails, 0 when none does. -/
def Dev.setupStatus (d : Dev) (c : Nat) : Nat :=
  let drops := d.circDrops c
  let nd := d.get .xpr_circ_cfg_n_drop c
  let ports := d.circPorts c
  let halves := ports.zip (true :: drops.map (fun _ => false))
  let eng := d.circAdd c / 64
  if d.circState c ≠ 0 then 1
  else if nd = 0 ∨ nd > 4 ∨ !decide drops.Nodup ∨ drops.contains (d.circAdd c) then 2
  else if d.weightBad c then 3
  else if ports.any (fun n => d.role n == roleANALYSIS || (d.boundSvc n).isSome) then 4
  else if ports.any (fun n => d.upRole n && !d.bitOf .port_status_agreed_features n 6) then 5
  else if halves.any (fun h => d.slotBusy c h.1 h.2) then 6
  else if halves.any (fun h => d.seqHolds h.1 (d.circSlot c) h.2) then 7
  else if !d.domainOn 19 ∨ ports.any (fun n => !d.domainOn (11 + n / 64)) then 8
  else if countBelow 64 (fun c' => d.circBusy c' && d.circAdd c' / 64 == eng) ≥ 8 then 9
  else if (d.freeGuide c (d.circSegments c)).isNone then 10
  else if d.slotOma (d.circAdd c) (d.circSlot c) = 0x8000 then 11
  else if !d.powerOk c (d.slotOma (d.circAdd c) (d.circSlot c)) then 12
  else 0

/-- A refusal at a check of R127: status and record (R132). -/
def Dev.xprRefuse (d : Dev) (c st : Nat) : Dev :=
  (d.set .xpr_circ_status_status c st).raise .XPR_REFUSED (d.pathPort (d.circAdd c)) [.h st]

/-- The express coupler of circuit `c` in a state of R74, at a setting above its parked place (R125). -/
def Dev.coupler (d : Dev) (c st ghz : Nat) : Dev :=
  let k := 5 * d.circAdd c + d.circSlot c
  d.setMany [(.h_cpl_state, k, st), (.h_cpl_ghz, k, ghz)]

/-- The weight-bank rings of circuit `c`, one at each drop, in a state of R74 (R125). -/
def Dev.weightRings (d : Dev) (c st ghz : Nat) : Dev :=
  (d.circDrops c).foldl (fun d n => d.setMany [(.h_wtr_state, 5 * n + d.circSlot c, st), (.h_wtr_ghz, 5 * n + d.circSlot c, ghz)]) d

/-- The port rings that circuit `c` uses brought in line: the receive ring of its slot at the add port, the transmit rings at the
drops (R74). -/
def Dev.circRings (d : Dev) (c : Nat) : Dev :=
  (d.circDrops c).foldl (fun d n => d.ringFollow n (d.circSlot c)) (d.ringFollow (d.circAdd c) (5 + d.circSlot c))

/-- SETUP of circuit `c`, and the status of its refusal (R127, R129): the coupler starts its move onto the slot (step 3). -/
def Dev.xprSetup (d : Dev) (c : Nat) : Dev × Option Nat :=
  let st := d.setupStatus c
  if st ≠ 0 then (d.xprRefuse c st, some st)
  else
    let segs := d.circSegments c
    let d := d.setMany [(.xpr_circ_status_status, c, 0), (.xpr_circ_status_waveguide, c, (d.freeGuide c segs).getD 0),
      (.xpr_circ_status_segments, c, segs), (.xpr_circ_status_input_oma, c, d.slotOma (d.circAdd c) (d.circSlot c)),
      (.xpr_circ_status_state, c, 1)]
    ((d.coupler c rsRELOCK 0).circRings c, none)

/-- The ports of a circuit that carry its declaration (R129). -/
def Dev.declPorts (d : Dev) (c : Nat) : List (Nat × Nat) :=
  ((d.circAdd c, 0) :: (d.circDrops c).map (fun n => (n, 1))).filter (fun e => d.upRole e.1)

/-- Teardown of circuit `c` begins with a cause: its record is INFO for COMMAND (R511), its weight rings start to park (R130). -/
def Dev.xprTear (d : Dev) (c cause : Nat) : Dev :=
  if d.circState c = 0 ∨ d.circState c = 4 then d
  else
    let s := d.circSlot c
    let d := d.set .xpr_circ_status_last_cause c cause
    let d := if d.flag .h_xpr_decl c then
        (d.declPorts c).foldl (fun d e => d.sendLc e.1 0x0C [cause * 2 ^ 16 + s * 2 ^ 12 + c]) d
      else d
    let d := d.raiseRaw .XPR_TORN_DOWN (if cause = 1 then 0 else RecCode.XPR_TORN_DOWN.severity) (d.pathPort (d.circAdd c))
      (packItems [.h c, .h cause]) 0
    (d.weightRings c rsRELOCK 0).setMany [(.h_xpr_decl, c, 0), (.h_xpr_rew, c, 0), (.xpr_circ_status_state, c, 4)]

/-- Every circuit that satisfies `p` torn down. -/
def Dev.xprTearAll (d : Dev) (cause : Nat) (p : Dev → Nat → Bool) : Dev :=
  (List.range 64).foldl (fun d c => if d.circBusy c && p d c then d.xprTear c cause else d) d

/-- Circuits with a drop on the spare slot of a port of octet `o` torn down with cause SPARING (R118, R123). -/
def Dev.tearOctetSpares (d : Dev) (o : Nat) : Dev :=
  d.xprTearAll 2 (fun d c => (d.circDrops c).any (fun n => n / 8 == o && d.txSpare n == d.circSlot c))

/-! ### Commands -/

/-- A write of XPR_CIRC_CMD with a command that has its own row. -/
def xprCmd (m : Mark) (c cmd : Nat) (s : State) (f : Dev → Dev) : Host.Outcome State Fault Refusal :=
  s.runX (fun d => d.hostWrite m rowXPR_CIRC_CMD c cmd (fun _ _ _ d => f d))

/-- NOP (R142). -/
def execXprCmdNop (m : Mark) (c : Fin 64) (s : State) : Host.Outcome State Fault Refusal := xprCmd m c 0 s id

/-- SETUP (R127, R129). -/
def execXprCmdSetup (m : Mark) (c : Fin 64) (s : State) : Host.Outcome State Fault Refusal :=
  xprCmd m c 1 s (fun d => (d.xprSetup c).1)

/-- TEARDOWN as the registers and Drivex issue it, and the status of its refusal (R130, R142). -/
def Dev.xprTeardown (d : Dev) (c : Nat) : Dev × Option Nat :=
  if d.circState c = 0 ∨ d.circState c = 4 then (d.set .xpr_circ_status_status c 1, some 1)
  else ((d.set .xpr_circ_status_status c 0).xprTear c 1, none)

/-- TEARDOWN (R130). -/
def execXprCmdTeardown (m : Mark) (c : Fin 64) (s : State) : Host.Outcome State Fault Refusal :=
  xprCmd m c 2 s (fun d => (d.xprTeardown c).1)

/-- REWEIGHT: only in ACTIVE, checked under codes 3 and 12, and the status of its refusal (R131). -/
def Dev.xprReweight (d : Dev) (c : Nat) : Dev × Option Nat :=
  if d.circState c ≠ 3 then (d.set .xpr_circ_status_status c 1, some 1)
  else if d.weightBad c then (d.xprRefuse c 3, some 3)
  else if !d.powerOk c (d.get .xpr_circ_status_input_oma c) then (d.xprRefuse c 12, some 12)
  else (d.setMany [(.xpr_circ_status_status, c, 0), (.h_xpr_rew, c, 1)], none)

/-- REWEIGHT (R131). -/
def execXprCmdReweight (m : Mark) (c : Fin 64) (s : State) : Host.Outcome State Fault Refusal :=
  xprCmd m c 3 s (fun d => (d.xprReweight c).1)

/-- The new weights couple in one step (R131). -/
def execXprReweightDone (c : Fin 64) (s : State) : Host.Outcome State Fault Refusal :=
  s.runX (fun d => if d.flag .h_xpr_rew c then (d.set .h_xpr_rew c 0).opEnd (.xprReweight c) 0 else d)

/-- Weight calibration of a building circuit ends: the coupler is on the slot, the weight rings are calibrated into their monitor
taps (R129, steps 3 to 5). -/
def execXprReady (c : Fin 64) (s : State) : Host.Outcome State Fault Refusal :=
  s.runX (fun d => if d.circState c = 1 then
    ((d.coupler c rsLOCKED 200).weightRings c rsACQUIRE 0).setMany [(.xpr_circ_status_state, c, 2), (.h_xpr_ready_ns, c, d.fabricNs)] else d)

/-- Whether circuit `c` is READY and fabric time has reached its act_time, or had passed it before READY (R129, R412). -/
def Dev.actDue (d : Dev) (c : Nat) : Bool :=
  let act := d.get .xpr_circ_act_time_act_time c
  d.circState c == 2 && (decide (act ≤ d.fabricNs) || decide (act < d.get .h_xpr_ready_ns c))

/-- Feed gates shut, weight rings couple, EXPRESS_DECL goes out, where that is due (R129, step 6). -/
def Dev.xprActivate (d : Dev) (c : Nat) : Dev :=
  if !d.actDue c then d
  else
    let act := d.get .xpr_circ_act_time_act_time c
    let d := (d.declPorts c).foldl (fun d e =>
      d.sendLc e.1 0x0B [d.circSlot c * 2 ^ 12 + e.2 * 2 ^ 8 + c, d.get .sys_fabric_pos_device, d.circAdd c]) d
    let d := (d.weightRings c rsLOCKED 200).setMany [(.h_xpr_decl, c, 1), (.xpr_circ_status_state, c, 3)]
    let d := if act ≠ 0 ∧ act < d.get .h_xpr_ready_ns c then
        (d.set .xpr_circ_status_act_late c 1).raise .XPR_ACT_LATE (d.pathPort (d.circAdd c))
      else d
    d.opEnd (.xprSetup c) 0

/-- The switch of R129 at act_time, or at READY. -/
def execXprActivate (c : Fin 64) (s : State) : Host.Outcome State Fault Refusal := s.runX (fun d => d.xprActivate c)

/-- The amplifier has ramped down: FREE, the coupler and the weight rings parked (R130, steps 2 to 5); rings no longer needed go
to OFF (R74). -/
def Dev.xprFree (d : Dev) (c : Nat) : Dev :=
  if d.circState c ≠ 4 then d
  else
    let d := ((d.coupler c rsOFF 0).weightRings c rsOFF 0).setMany [(.xpr_circ_status_state, c, 0),
      (.xpr_circ_status_segments, c, 0), (.xpr_circ_status_waveguide, c, 0), (.xpr_circ_status_input_lost, c, 0),
      (.h_xpr_lost_ep, c, 0)]
    (d.circRings c).opEnd (.xprTear c) 0

/-- The amplifier has ramped down (R130, step 5). -/
def execXprFree (c : Fin 64) (s : State) : Host.Outcome State Fault Refusal := s.runX (fun d => d.xprFree c)

/-- A measurement of the add slot of an ACTIVE circuit; `held`: 0.5 dB above −8.5 dBm for 1 s (R131). -/
def execXprInputMeasure (c : Fin 64) (v : BitVec 16) (held : Bool) (s : State) : Host.Outcome State Fault Refusal :=
  s.runX (fun d =>
    if d.circState c ≠ 3 then d
    else
      let d := d.set .xpr_circ_status_input_oma c v.toNat
      if oma v.toNat < -850 then
        if d.flag .h_xpr_lost_ep c then d
        else (d.setMany [(.h_xpr_lost_ep, c, 1), (.xpr_circ_status_input_lost, c, 1)]).raise .XPR_INPUT_LOST
          (d.pathPort (d.circAdd c))
      else if held ∧ oma v.toNat ≥ -800 then d.setMany [(.h_xpr_lost_ep, c, 0), (.xpr_circ_status_input_lost, c, 0)]
      else d)

/-- An amplifier fault (R130). -/
def execXprAmpFault (c : Fin 64) (s : State) : Host.Outcome State Fault Refusal := s.runX (fun d => d.xprTear c 6)

/-- A write of XPR_CIRC_CFG: accepted only while FREE (R142). The flag says whether it was taken. -/
def Dev.xprCfgWrite (d : Dev) (c v : Nat) (bad : List Nat) : Dev × Bool :=
  if d.circState c = 0 then (d.writeFields rowXPR_CIRC_CFG c v bad, true)
  else (d.raise .XPR_REFUSED (d.pathPort (d.circAdd c)) [.h 1], false)

/-- A write of XPR_CIRC_WEIGHT: accepted while FREE or ACTIVE (R142). -/
def Dev.xprWeightWrite (d : Dev) (c v : Nat) (bad : List Nat) : Dev × Bool :=
  if d.circState c = 0 ∨ d.circState c = 3 then (d.writeFields rowXPR_CIRC_WEIGHT c v bad, true)
  else (d.raise .XPR_REFUSED (d.pathPort (d.circAdd c)) [.h 1], false)

/-- A write of a circuit's configuration (R142). -/
def execXprCircCfgWrite (m : Mark) (c : Fin 64) (v : Word) (s : State) : Host.Outcome State Fault Refusal :=
  s.run (fun d => d.hostWrite m rowXPR_CIRC_CFG c v.toNat (fun _ v bad d => (d.xprCfgWrite c v bad).1))

/-- A write of a circuit's weights (R142). -/
def execXprCircWeightWrite (m : Mark) (c : Fin 64) (v : Word) (s : State) : Host.Outcome State Fault Refusal :=
  s.run (fun d => d.hostWrite m rowXPR_CIRC_WEIGHT c v.toNat (fun _ v bad d => (d.xprWeightWrite c v bad).1))

/-- A partner's EXPRESS_DECL: it is taken as any link-control frame; the spec gives the device nothing else to do with it
(R153, R161). -/
def execLcExpressDecl (port : Fin 512) (_slot : Fin 5) (_drop : Bool) (_circuit : Fin 64) (_device : BitVec 14)
    (_addPort : Fin 512) (s : State) : Host.Outcome State Fault Refusal :=
  s.runX (fun d => d.lcUnbound port (fun d => d.lcAdmitted port id))

/-- A partner's EXPRESS_WITHDRAW (R153). -/
def execLcExpressWithdraw (port : Fin 512) (_cause : BitVec 4) (_slot : Fin 5) (_circuit : Fin 64) (s : State) :
    Host.Outcome State Fault Refusal :=
  s.runX (fun d => d.lcIn port id)

end Sys2Proof.Machine
end

