-- ==== Sys2Proof/Machine/Rings.lean ====
section
/-! DEFINITION. Optical engines: the ring lock state machine (R74 to R82), feed-forward (R83, R84), lane maps and armed
switches (R70, R71), received power and power requests (R87 to R89). -/

namespace Sys2Proof.Machine

/-! ### Rings -/

/-- The slot a ring serves (R72, R76). -/
def ringSlot (r : Nat) : Nat := if r < 5 then r else r - 5

/-- Whether a heater setting lies in the order window (R73). -/
def inWindow (g : Nat) : Bool := 300 ≤ g && g < 2700

/-- Whether a heater setting lies in a rail (R73). -/
def inRail (g : Nat) : Bool := g < 50 || 2950 < g

/-- A ring enters RELOCK toward `target` (R74, R80): counted; an admitted port is fenced first and retrains, with a record
when the lock was wrong, whose cause is the port's fence cause RING (DESIGN CHOICE, log entry 63: R90 gives the item no codes);
circuits that use the ring are torn down; the fifth within a second is a fault. -/
def Dev.ringRelock (d : Dev) (n r target : Nat) (rail wrong : Bool) : Dev :=
  let k := ringIx n r
  let d := ((d.incrSat .opt_ring_status_relock_count k).count n .RING_RELOCK).rxDark k
  let d := d.xprTearAll 4 (fun d c =>
    (decide (r = 5 + d.circSlot c) && d.circAdd c == n) || (decide (r = d.circSlot c) && (d.circDrops c).contains n))
  let adm := d.admitted n
  let d := if adm then (d.fence n fcRING).count n .RING_FENCE else d
  let d := if adm && wrong then d.raise .OPT_RING_FENCE (d.pathPort n) [.h r, .h fcRING] else d
  let past := ((d.relocks.get k []).filter (fun t => d.localNs - t < 1000000000)) ++ [d.localNs]
  let d := { d with relocks := d.relocks.set k [] past }
  let d := if past.length ≥ 5 then d.ringFault n r 5
    else d.setMany [(.opt_ring_status_state, k, rsRELOCK), (.h_ring_target, k, target), (.h_ring_rail, k, b2n rail)]
  if adm then d.toTrain n else d.refreshLink n

/-- The 600 µs sweep ends with the dips found, ascending (R74). -/
def Dev.ringSweepEnd (d : Dev) (n r : Nat) (dips : List Nat) : Dev :=
  let k := ringIx n r
  if d.ring k = rsSWEEP then
    if dips ≠ [] then (d.ringIdentify k (sortBy (· ≤ ·) dips)).afterRing n
    else if r < 5 then
      if d.get .h_ring_nodip k = 0 then (d.ringSweep k).set .h_ring_nodip k 1
      else ((d.ringFault n r 1).set .h_ring_nodip k 0).afterRing n
    else (d.set .opt_ring_status_state k rsHOLD).afterRing n
  else if d.ring k = rsHOLD ∧ d.flag .h_ring_resweep k then
    if dips ≠ [] then d.ringIdentify k (sortBy (· ≤ ·) dips) else d.set .h_ring_resweep k 0
  else d

/-- A sweep ends (R74). -/
def execRingSweepEnd (port : Fin 512) (ring : Fin 10) (dips : List (Fin 3001)) (s : State) :
    Host.Outcome State Fault Refusal :=
  s.runX (fun d => d.ringSweepEnd port ring (dips.map (·.val)))

/-- The slot identified from the amplitudes of the five glint tones, followed by the monitor noise floor, in 0.01 dB: its tone exceeds
every other by 6 dB and the floor by 10 dB; 7 where no tone does (R76). -/
def seenSlot (t : List Int) : Nat :=
  (firstBelow 5 (fun k => decide (t.getD 5 0 + 1000 ≤ t.getD k 0) &&
    (List.range 5).all (fun j => j == k || decide (t.getD j 0 + 600 ≤ t.getD k 0)))).getD 7

/-- The tones at a candidate dip are demodulated (R74, R76). -/
def Dev.ringTone (d : Dev) (n r sl : Nat) : Dev :=
  let k := ringIx n r
  if d.ring k ≠ rsIDENTIFY then d
  else
    let d := d.set .opt_ring_status_seen_slot k sl
    if sl = ringSlot r then { (d.set .opt_ring_status_state k rsACQUIRE) with dips := d.dips.set k [] [] }
    else
      match (d.dips.get k []).drop 1 with
      | c :: cs => { (d.set .opt_ring_heater_heater_ghz k c) with dips := d.dips.set k [] (c :: cs) }
      | [] =>
        if r < 5 then (d.ringFault n r 2).afterRing n
        else ({ (d.set .opt_ring_status_state k rsHOLD) with dips := d.dips.set k [] [] } : Dev).afterRing n

/-- A tone check ends, with the amplitudes of the tones and the noise floor in 0.01 dB (R76). -/
def execRingToneCheck (port : Fin 512) (ring : Fin 10) (tones : Vector (BitVec 16) 6) (s : State) :
    Host.Outcome State Fault Refusal :=
  s.runX (fun d => d.ringTone port ring (seenSlot (tones.toList.map BitVec.toInt)))

/-- ACQUIRE at a setting with a lock error in MHz: settled while it is within 2 GHz (R74, R78). -/
def Dev.ringSettled (d : Dev) (n r setting err : Nat) : Dev :=
  let k := ringIx n r
  if d.ring k ≠ rsACQUIRE then d
  else
    let d := d.setMany [(.opt_ring_heater_heater_ghz, k, setting), (.opt_ring_heater_lock_error, k, err)]
    if 2000 < (sgn 16 err).natAbs then d
    else if inWindow setting then
      (d.setMany [(.opt_ring_status_state, k, rsLOCKED), (.h_ring_acqto, k, 0), (.h_ring_ever, k, 1), (.h_ring_rail, k, 0),
        (.h_ring_near, k, 0)]).afterRing n
    else
      let d := (d.raise .OPT_WRONG_ORDER (d.pathPort n) [.h r, .h setting]).count n .WRONG_ORDER
      (d.ringRelock n r (if setting ≥ 2700 then setting - 2400 else setting + 2400) false true).afterRing n

/-- The lock error has stayed within 2 GHz for 1 µs (R74). -/
def execRingAcquireSettled (port : Fin 512) (ring : Fin 10) (setting : Fin 3001) (lockError : BitVec 16) (s : State) :
    Host.Outcome State Fault Refusal :=
  s.runX (fun d => d.ringSettled port ring setting lockError.toNat)

/-- ACQUIRE has not settled in 20 µs (R74). -/
def Dev.ringAcqTimeout (d : Dev) (n r : Nat) : Dev :=
  let k := ringIx n r
  if d.ring k ≠ rsACQUIRE then d
  else if d.flag .h_ring_rail k then (d.ringFault n r 4).afterRing n
  else if d.get .h_ring_acqto k ≥ 2 then ((d.ringFault n r 3).set .h_ring_acqto k 3).afterRing n
  else (d.incr .h_ring_acqto k).ringSweep k

/-- An ACQUIRE timeout (R74). -/
def execRingAcquireTimeout (port : Fin 512) (ring : Fin 10) (s : State) : Host.Outcome State Fault Refusal :=
  s.runX (fun d => d.ringAcqTimeout port ring)

/-- A LOCKED ring has had too little light for 10 µs (R74). -/
def execRingLightLost (port : Fin 512) (ring : Fin 10) (s : State) : Host.Outcome State Fault Refusal :=
  s.runX (fun d =>
    if d.ring (ringIx port ring) = rsLOCKED then
      let d := ((d.set .opt_ring_status_state (ringIx port ring) rsHOLD).rxDark (ringIx port ring)).afterRing port
      if d.flag .h_peer_seq port && d.get .h_peer_slot port + 5 == ring.val && d.rxSpare port == d.get .h_peer_slot port
      then d.set .h_peer_dark port 1 else d
    else d)

/-- Light has returned for 100 µs in HOLD: IDENTIFY at the held setting (R74). -/
def execRingLightReturn (port : Fin 512) (ring : Fin 10) (s : State) : Host.Outcome State Fault Refusal :=
  s.runX (fun d => let k := ringIx port ring
    if d.ring k = rsHOLD then d.ringIdentify k [d.get .opt_ring_heater_heater_ghz k] else d)

/-- A receive ring that has never locked sweeps again in HOLD (R74). -/
def execRingHoldResweep (port : Fin 512) (ring : Fin 10) (s : State) : Host.Outcome State Fault Refusal :=
  s.runX (fun d => let k := ringIx port ring
    if d.ring k = rsHOLD ∧ 5 ≤ ring.val ∧ !d.flag .h_ring_ever k then d.set .h_ring_resweep k 1 else d)

/-- A RELOCK move completes (R74). -/
def execRingRelockMoveDone (port : Fin 512) (ring : Fin 10) (s : State) : Host.Outcome State Fault Refusal :=
  s.runX (fun d => let k := ringIx port ring
    if d.ring k = rsRELOCK then
      d.setMany [(.opt_ring_heater_heater_ghz, k, d.get .h_ring_target k), (.opt_ring_status_state, k, rsACQUIRE)]
    else d)

/-- The PIC temperature a rail record carries (R90). -/
def Dev.picTemp (d : Dev) (n : Nat) : Nat := d.get .opt_eng_temp_pic_temp (n / 64)

/-- The first time since a ring locked that its setting leaves the order window (R79). -/
def Dev.ringNear (d : Dev) (n r : Nat) : Dev :=
  let k := ringIx n r
  let g := d.get .opt_ring_heater_heater_ghz k
  if d.ring k = rsLOCKED ∧ !inWindow g ∧ !d.flag .h_ring_near k then
    (d.set .h_ring_near k 1).raise .OPT_RING_RAIL_NEAR (d.pathPort n) [.h r, .h g, .h (d.picTemp n)]
  else d

/-- The setting of a LOCKED ring has moved: outside the order window, or into a rail (R79). -/
def Dev.ringDrift (d : Dev) (n r : Nat) : Dev :=
  let k := ringIx n r
  let g := d.get .opt_ring_heater_heater_ghz k
  if d.ring k ≠ rsLOCKED then d
  else
    let d := d.ringNear n r
    if inRail g then
      let d := d.raise .OPT_RING_RAIL (d.pathPort n) [.h r, .h g, .h (d.picTemp n)]
      (d.ringRelock n r (if g < 50 then g + 2400 else g - 2400) true false).afterRing n
    else d

/-- The tracking loop moves a LOCKED ring to a setting (R74, R79). -/
def Dev.ringRail (d : Dev) (n r g : Nat) : Dev :=
  if d.ring (ringIx n r) ≠ rsLOCKED then d else (d.set .opt_ring_heater_heater_ghz (ringIx n r) g).ringDrift n r

/-- The setting of a LOCKED ring, on its way to a rail or in it (R79). -/
def execRingRailReached (port : Fin 512) (ring : Fin 10) (setting : Fin 3001) (s : State) :
    Host.Outcome State Fault Refusal :=
  s.runX (fun d => d.ringRail port ring setting)

/-- Where a wrong channel relocks to (R77). -/
def wrongTarget (g j k : Nat) : Nat :=
  let t : Int := (g : Int) + 400 * ((j : Int) - k)
  (if t < 0 then t + 2400 else if t > 3000 then t - 2400 else t).toNat

/-- Recalibration visits a ring and identifies a slot, 7 for none (R77, R82). -/
def Dev.recalVisit (d : Dev) (n r sl : Nat) : Dev :=
  let k := ringIx n r
  if d.ring k ≠ rsLOCKED then d
  else
    let d := d.set .opt_ring_status_seen_slot k sl
    if sl = 7 ∨ sl = ringSlot r then d
    else
      let d := d.raise .OPT_WRONG_CHANNEL (d.pathPort n) [.h r, .h (ringSlot r), .h sl]
      let d := d.count n .WRONG_CHANNEL
      (d.ringRelock n r (wrongTarget (d.get .opt_ring_heater_heater_ghz k) (ringSlot r) sl) false true).afterRing n

/-- A recalibration visit, with the amplitudes of the tones and the noise floor in 0.01 dB (R77). -/
def execRecalVisit (port : Fin 512) (ring : Fin 10) (tones : Vector (BitVec 16) 6) (s : State) :
    Host.Outcome State Fault Refusal :=
  s.runX (fun d => d.recalVisit port ring (seenSlot (tones.toList.map BitVec.toInt)))

/-! ### Ring commands (R81) -/

/-- Whether OFF and RESTART are refused on ring `r` of port `n` (R81). -/
def Dev.ringBusy (d : Dev) (n r : Nat) : Bool :=
  (d.admitted n && (if r < 5 then (d.txMap n).contains r else (d.rxMap n).contains (r - 5))) || d.circUses n r

/-- A ring restarted by a command (R81): a ring not needed, or with lock_enable 0, is held in OFF (R74). DEDUCED (log entry 63): a
transmit ring in OFF leaves it only with its laser lit (R75); one in another state sweeps whatever its laser does, as R81 says; a
command does not wait for its octet's turn. -/
def Dev.ringRestart (d : Dev) (n r : Nat) : Dev :=
  let k := ringIx n r
  if !(d.flag .opt_eng_ctrl_lock_enable (n / 64) && d.ringNeeded n r) then d.ringOff k
  else if d.ring k = rsOFF ∧ !d.ringMayStart n r then d
  else d.ringSweep k

/-- A ring command, and whether it was refused with OPT_RING_BUSY (R81). -/
def Dev.ringCmd (d : Dev) (n r cmd : Nat) : Dev × Bool :=
  let k := ringIx n r
  if cmd = 0 then (d, false)
  else if cmd ≠ 3 ∧ d.ringBusy n r then (d.raise .OPT_RING_BUSY (d.pathPort n) [.h r, .h cmd], true)
  else if cmd = 3 then
    (if d.ring k = rsFAULT then ((d.ringRestart n r).set .h_ring_acqto k 0).refreshLink n else d, false)
  else ((if cmd = 1 then (d.ringOff k).ringRestart n r else d.ringRestart n r).refreshLink n, false)

/-- A write of OPT_RING_CMD. -/
def ringCmdWrite (m : Mark) (n r cmd : Nat) (s : State) : Host.Outcome State Fault Refusal :=
  s.runX (fun d => d.hostWrite m rowOPT_RING_CMD (ringIx n r) cmd (fun _ _ _ d => (d.ringCmd n r cmd).1))

/-- NOP (R81). -/
def execRingCmdNop (m : Mark) (port : Fin 512) (ring : Fin 10) (s : State) : Host.Outcome State Fault Refusal :=
  ringCmdWrite m port ring 0 s
/-- OFF (R81). -/
def execRingCmdOff (m : Mark) (port : Fin 512) (ring : Fin 10) (s : State) : Host.Outcome State Fault Refusal :=
  ringCmdWrite m port ring 1 s
/-- RESTART (R81). -/
def execRingCmdRestart (m : Mark) (port : Fin 512) (ring : Fin 10) (s : State) : Host.Outcome State Fault Refusal :=
  ringCmdWrite m port ring 2 s
/-- RETRY (R81). -/
def execRingCmdRetry (m : Mark) (port : Fin 512) (ring : Fin 10) (s : State) : Host.Outcome State Fault Refusal :=
  ringCmdWrite m port ring 3 s

/-- A write of OPT_ENG_CTRL: the rings of the engine follow lock_enable (R74, R92). -/
def Dev.engCtrlWrite (d : Dev) (e v : Nat) (bad : List Nat) : Dev := (d.writeFields rowOPT_ENG_CTRL e v bad).engineRings e

/-- A write of OPT_ENG_CTRL (R92). -/
def execOptEngCtrlWrite (m : Mark) (engine : Fin 8) (v : Word) (s : State) : Host.Outcome State Fault Refusal :=
  s.runX (fun d => d.hostWrite m rowOPT_ENG_CTRL engine v.toNat (fun _ v bad d => d.engCtrlWrite engine v bad))

/-! ### Feed-forward (R83, R84) -/

/-- One filter step, p_f in 2^−16 of 10 mW; the rounding is the device's (R83, log entry 4). -/
def ffStep (p report tau : Nat) : Nat :=
  if tau ≤ 1 then report * 2 ^ 16 else (ratioFree ((p : Int) * (tau - 1) + report * 2 ^ 16) tau).toNat

/-- The weighted sum of the filters of engine `e`, in 10^−5 × 2^−16 GHz (R83). -/
def Dev.ffSum (d : Dev) (e : Nat) : Int :=
  (List.range 12).foldl (fun a n =>
    a + sgn 16 (d.get .opt_ff_coef_coef (12 * e + n)) * (d.get .h_ff_p (12 * e + n) : Int)) 0

/-- A setting moved by a feed-forward change, held within 0 to 3,000 GHz (R73, R83). -/
def ffMove (g : Nat) (delta : Int) : Nat :=
  if delta = 0 then g else (max 0 (min 3000 (ratioFree ((g : Int) * 6553600000 + delta) 6553600000))).toNat

/-- A report of the twelve sources: the filters move, and with ff_enable every ring whose setting is held by the loop or the hold
moves with them, a LOCKED one perhaps to a rail (R79); after a loss the filters restart with no step (R83, R84). DESIGN CHOICE (log
entry 63): the first report after a reset loads the filters whole and moves no heater, as after a loss. -/
def Dev.ffReport (d : Dev) (e : Nat) (rep : List Nat) : Dev :=
  let resumed := !d.flag .opt_eng_status_ff_link_ok e
  let d := (List.range 12).foldl (fun d n =>
    let tau := d.get .opt_ff_coef_tau_us (12 * e + n)
    d.set .h_ff_p (12 * e + n)
      (if resumed then rep.getD n 0 * 2 ^ 16 else ffStep (d.get .h_ff_p (12 * e + n)) (rep.getD n 0) tau)) d
  let sum := d.ffSum e
  let delta := if resumed then 0 else sum - sgn 96 (d.get .h_ff_prev e)
  let d := d.setMany [(.h_ff_prev, e, wrap 96 sum), (.opt_eng_status_ff_link_ok, e, 1), (.h_ff_last, e, d.fabricNs)]
  if d.flag .opt_eng_ctrl_ff_enable e && delta ≠ 0 then
    (List.range 640).foldl (fun d j =>
      let n := 64 * e + j / 10
      let k := ringIx n (j % 10)
      if [rsIDENTIFY, rsACQUIRE, rsLOCKED, rsHOLD, rsRELOCK].contains (d.ring k) then
        (d.set .opt_ring_heater_heater_ghz k (ffMove (d.get .opt_ring_heater_heater_ghz k) delta)).ringDrift n (j % 10)
      else d) d
  else d

/-- An island power report (R83). -/
def execFfReport (engine : Fin 8) (report : Vector (BitVec 16) 12) (s : State) : Host.Outcome State Fault Refusal :=
  s.runX (fun d => d.ffReport engine (report.toList.map (·.toNat)))

/-- No report for 8 µs: once per loss (R84). -/
def execFfLost (engine : Fin 8) (s : State) : Host.Outcome State Fault Refusal :=
  s.runX (fun d =>
    if d.flag .opt_eng_status_ff_link_ok engine then
      ((d.set .opt_eng_status_ff_link_ok engine 0).count (blkEngine engine) .FF_LOST).raise .OPT_FF_LOST
        (d.pathEngine engine) [.d (d.get .h_ff_last engine)]
    else d)

/-! ### Lane maps (R70, R71) -/

/-- The four slots of a half in a word in the layout of OPT_LANE_MAP (R101). -/
def mapWord (v lo : Nat) : List Nat := (List.range 4).map (fun l => slice v (lo + 4 * l) 3)

/-- A write of OPT_LANE_MAP, with its refusal: 0 taken, 4 LANE_MAP_INVALID, 6 LANE_MAP_BUSY (R70). -/
def Dev.laneMapWrite (d : Dev) (n v : Nat) : Dev × Nat :=
  if !(d.fenced n || d.role n == roleDISABLED) then (d.raise .LANE_MAP_BUSY (d.pathPort n) [.d v], 6)
  else if !halfOk (mapWord v 0) || !halfOk (mapWord v 16) then (d.raise .LANE_MAP_INVALID (d.pathPort n) [.d v], 4)
  else ((d.setTxMap n (mapWord v 0)).steerRx n (mapWord v 16), 0)

/-- A write of OPT_LANE_MAP (R70). -/
def execOptLaneMapWrite (m : Mark) (port : Fin 512) (v : Word) (s : State) : Host.Outcome State Fault Refusal :=
  s.runX (fun d => d.hostWrite m rowOPT_LANE_MAP port v.toNat (fun _ v _ d => (d.laneMapWrite port v).1))

/-- Codewords counted since time `t0`: 5 in 64 ns (R68, R103). -/
def cwSince (now t0 : Nat) : Nat := (now - t0) * 5 / 64 % 2 ^ 32

def Dev.txCw (d : Dev) (n : Nat) : Nat := if d.flag .h_cw_run n then cwSince d.localNs (d.get .h_txcw_t0 n) else 0
def Dev.rxCw (d : Dev) (n : Nat) : Nat := if d.flag .h_rxcw_run n then cwSince d.localNs (d.get .h_rxcw_t0 n) else 0

/-- Whether a switch codeword lies in the arming window (R71). -/
def cwAhead (cw now : Nat) : Bool :=
  let a := (cw + 2 ^ 32 - now) % 2 ^ 32
  1024 ≤ a && a ≤ 2 ^ 31

/-- Whether port `n` is a participant of a running sequence (R121). -/
def Dev.seqOwns (d : Dev) (n : Nat) : Bool := d.seqRuns (n / 8) && d.bitOf .las_oct_status_participants (n / 8) (n % 8)

/-- One arm of OPT_LANE_NEXT (R71); the code of a refusal is 5 LANE_SWITCH_LATE. -/
def Dev.arm (d : Dev) (n : Nat) (tx : Bool) : Dev × Nat :=
  let cw := if tx then d.get .opt_lane_switch_cw_tx_switch_cw n else d.get .opt_lane_switch_cw_rx_switch_cw n
  let now := if tx then d.txCw n else d.rxCw n
  if !cwAhead cw now then (d.raise .LANE_SWITCH_LATE (d.pathPort n) [.d cw], 5)
  else (d.set (if tx then .opt_lane_next_tx_arm else .opt_lane_next_rx_arm) n 1, 0)

/-- A write of OPT_LANE_NEXT: the next map is stored, then the arms asked for are set or refused; refused as a whole for a
participant of a sequence, code 3, and for a map that fails the checks of R70, code 4 (R71, R102, R121). -/
def Dev.laneNextWrite (d : Dev) (n v : Nat) : Dev × Nat :=
  if d.seqOwns n then (d.raise .LAS_SEQ_OWNS_PORT (d.pathPort n), 3)
  else if !halfOk (mapWord v 0) || !halfOk (mapWord v 16) then (d.raise .LANE_MAP_INVALID (d.pathPort n) [.d v], 4)
  else
    let d := d.setMany ((List.range 4).map (fun l => (.opt_lane_next_tx_lane, 4 * n + l, slice v (4 * l) 3)) ++
      (List.range 4).map (fun l => (.opt_lane_next_rx_lane, 4 * n + l, slice v (16 + 4 * l) 3)))
    let (d, c1) := if bit v 63 then d.arm n true else (d, 0)
    let (d, c2) := if bit v 62 then d.arm n false else (d, 0)
    (d, if c1 ≠ 0 then c1 else c2)

/-- A write of OPT_LANE_SWITCH_CW (R103, R121). -/
def Dev.laneCwWrite (d : Dev) (n v : Nat) : Dev × Nat :=
  if d.seqOwns n then (d.raise .LAS_SEQ_OWNS_PORT (d.pathPort n), 3)
  else (d.writeFields rowOPT_LANE_SWITCH_CW n v [], 0)

/-- A write of OPT_LANE_NEXT that sets tx_arm (R71). -/
def execLaneTxArm (m : Mark) (port : Fin 512) (v : Word) (s : State) : Host.Outcome State Fault Refusal :=
  s.runX (fun d => d.hostWrite m rowOPT_LANE_NEXT port (setBit v.toNat 63) (fun _ v _ d => (d.laneNextWrite port v).1))

/-- A write of OPT_LANE_NEXT that sets rx_arm (R71). -/
def execLaneRxArm (m : Mark) (port : Fin 512) (v : Word) (s : State) : Host.Outcome State Fault Refusal :=
  s.runX (fun d => d.hostWrite m rowOPT_LANE_NEXT port (setBit v.toNat 62) (fun _ v _ d => (d.laneNextWrite port v).1))

/-- The transmit switch (R71); in a sequence the port has moved out, or back (R118). -/
def Dev.laneTxSwitch (d : Dev) (n : Nat) : Dev :=
  if !d.flag .opt_lane_next_tx_arm n then d
  else
    let d := d.setTxMap n ((List.range 4).map (fun l => d.get .opt_lane_next_tx_lane (4 * n + l)))
    let d := d.set .opt_lane_next_tx_arm n 0
    if d.seqOwns n then
      (if d.flag .h_sq_out n then d.set .h_sq_back n 1 else d.set .h_sq_out n 1).seqProgress (n / 8)
    else d

/-- The transmit codeword count reaches tx_switch_cw (R71). -/
def execLaneTxSwitch (port : Fin 512) (s : State) : Host.Outcome State Fault Refusal := s.runX (fun d => d.laneTxSwitch port)

/-- The receive switch (R71); the BACK switch ends the peer's sequence on this half. -/
def Dev.laneRxSwitch (d : Dev) (n : Nat) : Dev :=
  if !d.flag .opt_lane_next_rx_arm n then d
  else
    let d := d.steerRx n ((List.range 4).map (fun l => d.get .opt_lane_next_rx_lane (4 * n + l)))
    let d := d.set .opt_lane_next_rx_arm n 0
    if d.flag .h_peer_back n then d.setMany [(.h_peer_back, n, 0), (.h_peer_seq, n, 0)] else d

/-- The receive codeword count reaches rx_switch_cw (R71). -/
def execLaneRxSwitch (port : Fin 512) (s : State) : Host.Outcome State Fault Refusal := s.runX (fun d => d.laneRxSwitch port)

/-! ### Received power (R87 to R89) -/

/-- A threshold of OPT_RX_THRESH in 0.01 dBm (R95). -/
def thresh (v : Nat) : Int := 10 * sgn 16 v

/-- The receive ring of lane `l` (4: the spare slot) of port `n` (R72). -/
def Dev.rxRing (d : Dev) (n l : Nat) : Nat :=
  ringIx n (5 + (if l < 4 then d.get .opt_lane_map_rx_lane (4 * n + l) else d.rxSpare n))

/-- The message of readiness to the near end: a receive ring of a peer's sequence has locked and its 1 ms average is known (R118,
step 10). -/
def Dev.spareReadySend (d : Dev) (n avg : Nat) : Dev :=
  if d.flag .h_peer_seq n && !d.flag .h_peer_back n && d.rxSpare n == d.get .h_peer_slot n &&
      d.ring (ringIx n (5 + d.get .h_peer_slot n)) == rsLOCKED && d.flag .h_peer_dark n then
    (d.set .h_peer_dark n 0).sendLc n 0x0A [d.get .h_peer_no n * 2 ^ 16 + d.get .h_peer_slot n, avg]
  else d

/-- A 1 ms average of lane `l` of port `n` (R87). -/
def Dev.rxPower (d : Dev) (n l avg : Nat) : Dev :=
  let ok := d.ring (d.rxRing n l) = rsLOCKED
  let v := if ok then avg else 0x8000
  if l = 4 then (if v = 0x8000 then d.set .opt_rx_spare_spare n v else (d.set .opt_rx_spare_spare n v).spareReadySend n v)
  else
    let d := d.set .opt_rx_power_lane (4 * n + l) v
    if !ok then d
    else
      let low := oma v < thresh (d.get .opt_rx_thresh_warn (n / 64))
      let alarm := oma v < thresh (d.get .opt_rx_thresh_alarm (n / 64))
      let high := oma v > thresh (d.get .opt_rx_thresh_high (n / 64))
      let items := [Item.h v, .h (d.get .h_far_trim (4 * n + l))]
      let d := if low then
          let d := d.putB .opt_margin_status_warn n l true
          if d.bitOf .h_low_ep n l then d else (d.putB .h_low_ep n l true).raise .OPT_MARGIN_LOW (d.pathLane n l) items
        else d
      let d := if alarm then
          let d := d.putB .opt_margin_status_alarm n l true
          if d.bitOf .h_alarm_ep n l then d
          else (d.putB .h_alarm_ep n l true).raise .OPT_MARGIN_ALARM (d.pathLane n l) items
        else d
      if high then d.count n .MARGIN_HIGH else d.putB .h_pwr_blk_dn n l false

/-- A 1 ms average of the received OMA completes; lane 4 is the spare slot (R87). -/
def execRxPowerAverage (port : Fin 512) (lane : Fin 5) (avg : BitVec 16) (s : State) : Host.Outcome State Fault Refusal :=
  s.runX (fun d => d.rxPower port lane avg.toNat)

/-- An episode ends: the average has stayed 0.5 dB above its threshold for 1 s (R87, R88). -/
def execMarginEpisodeEnd (port : Fin 512) (lane : Fin 4) (alarm : Bool) (s : State) : Host.Outcome State Fault Refusal :=
  s.runX (fun d => if alarm then d.putB .h_alarm_ep port lane false
    else (d.putB .h_low_ep port lane false).putB .h_pwr_blk_up port lane false)

/-- A power request goes out (R88). -/
def Dev.pwrReqSend (d : Dev) (n l : Nat) (down : Bool) : Dev :=
  let avg := d.get .opt_rx_power_lane (4 * n + l)
  let low := avg != 0x8000 && decide (oma avg < thresh (d.get .opt_rx_thresh_warn (n / 64)))
  let high := avg != 0x8000 && decide (oma avg > thresh (d.get .opt_rx_thresh_high (n / 64)))
  let wanted := if down then d.flag .opt_eng_ctrl_rx_low_power_en (n / 64) && high && !d.bitOf .h_pwr_blk_dn n l
    else low && !d.bitOf .h_pwr_blk_up n l
  if d.admitted n && !d.fenced n && wanted && !d.bitOf .opt_margin_status_request_pending n l then
    let d := (d.sendLc n 0x06 [b2n down * 2 ^ 8 + l, avg]).count n .PWR_REQ_SENT
    (d.putB .opt_margin_status_request_pending n l true).putB .h_pwr_dir n l down
  else d

/-- A lane has been below warn for 10 ms, or above high for 1 s (R88). -/
def execPwrReqSend (port : Fin 512) (lane : Fin 4) (down : Bool) (s : State) : Host.Outcome State Fault Refusal :=
  s.runX (fun d => d.pwrReqSend port lane down)

/-- Ten milliseconds without an answer (R88). -/
def execPwrReqExpiry (port : Fin 512) (lane : Fin 4) (s : State) : Host.Outcome State Fault Refusal :=
  s.runX (fun d => d.putB .opt_margin_status_request_pending port lane false)

/-- A power request that is acted on: granted by a step, or denied at the end of the range; answered (R89). -/
def Dev.pwrStep (d : Dev) (n l : Nat) (down : Bool) : Dev :=
  let t := d.get .opt_tx_trim_trim (4 * n + l)
  let ok := if down then decide (0 < t) else decide (t < d.get .opt_tx_trim_trim_max n)
  let t' := if ok then (if down then t - 1 else t + 1) else t
  let d := d.setMany [(.opt_tx_trim_trim, 4 * n + l, t'), (.h_pwr_rx, 4 * n + l, d.localNs), (.h_pwr_rx_v, 4 * n + l, 1)]
  let d := if ok then d else d.count n .PWR_REQ_DENIED
  d.sendLc n 0x07 [b2n ok * 2 ^ 16 + t' * 2 ^ 8 + l]

/-- The seconds of the local counter that have ended get the record of their ignored requests, one a lane with their number
(R89, R90). DESIGN CHOICE (log entry 63): the record is written at the first step after its second, since only then is the number
known. -/
def Dev.pwrFlush (d : Dev) : Dev :=
  let gone := fun (x : PwrExcess) => decide (x.sec < d.localNs / 1000000000)
  let due := d.pwrExcess.filter gone
  if due.isEmpty then d
  else due.foldl (fun d x => d.raise .OPT_PWR_REQ_EXCESS (d.pathLane (x.lane / 4) (x.lane % 4)) [.h x.count])
    { d with pwrExcess := d.pwrExcess.filter (fun x => !gone x) }

/-- A request for a lane ignored as excess: counted, and noted for the record of its second (R89). -/
def Dev.pwrIgnore (d : Dev) (n l : Nat) : Dev :=
  let d := d.count n .PWR_REQ_EXCESS
  let sec := d.localNs / 1000000000
  let mine := fun (x : PwrExcess) => x.lane == 4 * n + l && x.sec == sec
  if d.pwrExcess.any mine then
    { d with pwrExcess := d.pwrExcess.map (fun x => if mine x then { x with count := x.count + 1 } else x) }
  else { d with pwrExcess := d.pwrExcess ++ [{ lane := 4 * n + l, sec := sec, count := 1 }] }

/-- A power request arrives (R89): a second one for the lane within 10 ms is ignored as excess. -/
def Dev.pwrReqRx (d : Dev) (n l : Nat) (down : Bool) : Dev :=
  if d.flag .h_pwr_rx_v (4 * n + l) && decide (d.localNs - d.get .h_pwr_rx (4 * n + l) < 10000000) then d.pwrIgnore n l
  else d.pwrStep n l down

/-- A PWR_REQ arrives (R89). -/
def execLcPwrReq (port : Fin 512) (lane : Fin 4) (down : Bool) (_avg : BitVec 16) (s : State) :
    Host.Outcome State Fault Refusal :=
  s.runX (fun d => d.lcUnbound port (fun d => d.lcAdmitted port (fun d => d.pwrReqRx port lane down)))

/-- A PWR_ANS arrives (R88): the request is answered; a refusal blocks its direction until the condition ends. -/
def Dev.pwrAnsRx (d : Dev) (n l : Nat) (granted : Bool) (trim : Nat) : Dev :=
  let d := d.set .h_far_trim (4 * n + l) trim
  if !d.bitOf .opt_margin_status_request_pending n l then d
  else
    let d := d.putB .opt_margin_status_request_pending n l false
    if granted then d.count n .PWR_REQ_GRANTED
    else if d.bitOf .h_pwr_dir n l then d.putB .h_pwr_blk_dn n l true
    else d.putB .h_pwr_blk_up n l true

/-- A PWR_ANS arrives (R88). -/
def execLcPwrAns (port : Fin 512) (lane : Fin 4) (granted : Bool) (trim : Fin 8) (s : State) :
    Host.Outcome State Fault Refusal :=
  s.runX (fun d => d.lcIn port (fun d => d.pwrAnsRx port lane granted trim))

end Sys2Proof.Machine
end

