-- ==== Sys2Proof/Machine/Lasers.lean ====
section
/-! DEFINITION. Lasers: octet lighting and DFB states (R108), the bias loop and wear (R110 to R112), sparing and parking
sequences at both ends of a link (R113 to R124). -/

namespace Sys2Proof.Machine

/-! ### Octets and DFBs -/

/-- A write of LAS_ENG_CTRL: octets that should no longer be lit go dark (R108, R134); the first after a warm reset ends what
that reset held (R522). -/
def Dev.lasCtrlWrite (d : Dev) (e v : Nat) (bad : List Nat) : Dev :=
  let held := d.flag .h_eng_hold e
  let d := (d.writeFields rowLAS_ENG_CTRL e v bad).set .h_eng_hold e 0
  let d := (List.range 8).foldl (fun d j => d.octetCheck (8 * e + j)) d
  if held then d.engineRings e else d

/-- Whether the laser zone of engine `e` reads below 15 °C (R578). -/
def Dev.laserCold (d : Dev) (e : Nat) : Bool :=
  (List.range 2).any (fun i => d.get .h_sens (56 + 2 * e + i) != 128 && decide (sgn 8 (d.get .h_sens (56 + 2 * e + i)) < 15))

/-- A lighting that waits for the laser zone: one record for each wait (R578, R577). -/
def Dev.coldWait (d : Dev) (e : Nat) : Dev :=
  if !d.laserCold e || d.flag .h_cold_hold e then d
  else
    let i := if d.get .h_sens (56 + 2 * e) ≠ 128 ∧ sgn 8 (d.get .h_sens (56 + 2 * e)) < 15 then 0 else 1
    (d.set .h_cold_hold e 1).raise .THERM_COLD_HOLD (d.pathEngine e) [.h 4, .h (2 * e + i), .h (d.get .h_sens (56 + 2 * e + i))]

/-- A write of LAS_ENG_CTRL (R134). -/
def execLasEngCtrlWrite (m : Mark) (engine : Fin 8) (v : Word) (s : State) : Host.Outcome State Fault Refusal :=
  s.runX (fun d => d.hostWrite m rowLAS_ENG_CTRL engine v.toNat (fun _ v bad d => d.lasCtrlWrite engine v bad))

/-- A DFB of a sequence is to be lit: it waits, like an octet, while its laser zone is too cold (R578). -/
def Dev.dfbStart (d : Dev) (k : Nat) : Dev := (d.dfbState k 1).coldWait (k / 80)

/-- The active DFBs of an octet that may be lit start their ramps (R108); a zone below its lower limit holds them (R578). -/
def Dev.octetLight (d : Dev) (o : Nat) : Dev :=
  if !d.octetWanted o || d.flag .h_oct_lit o then d
  else if d.laserCold (o / 8) then d.coldWait (o / 8)
  else (List.range 5).foldl (fun d s =>
    let k := dfbIx o s (d.activeB o s)
    if d.slotParked (8 * o) s || d.dfb k != 0 then d else d.dfbState k 1) (d.set .h_oct_lit o 1)

/-- An octet's lighting conditions hold (R108). -/
def execOctetLight (octet : Fin 64) (s : State) : Host.Outcome State Fault Refusal := s.runX (fun d => d.octetLight octet)

/-- A bias recorded, with its peak (R110, R140). -/
def Dev.setBias (d : Dev) (k v : Nat) : Dev :=
  d.setMany [(.las_dfb_status_bias, k, v), (.las_dfb_trend_peak_bias, k, max v (d.get .las_dfb_trend_peak_bias k))]

/-- The 2 ms bias ramp ends at `bias` (R108). -/
def execDfbRampUpDone (octet : Fin 64) (slot : Fin 5) (b : Fin 2) (bias : BitVec 12) (s : State) :
    Host.Outcome State Fault Refusal :=
  s.runX (fun d => let k := dfbIx octet slot b
    if d.dfb k = 1 ∧ d.laserCold (octet / 8) = false then (d.setBias k (min 2400 bias.toNat)).dfbState k 2 else d)

/-- The steer-back request of a port whose far end is ready (R118, step 11). -/
def Dev.spareReq (d : Dev) (n : Nat) (back : Bool) : Dev :=
  let o := n / 8
  let s := d.get .las_oct_status_slot o
  let c := (d.txCw n + 8192) % 2 ^ 32
  let spare := if back then d.get .h_sq_home n else d.txSpare n
  let d := d.sendLc n 0x08 [d.get .h_seq_no o * 2 ^ 16 + b2n back * 2 ^ 8 + s * 2 ^ 4 + spare, c]
  d.setMany [(.h_sq_c, n, c), (.h_sq_wait, n, if back then 2 else 1)]

/-- Whether participant `n` is to be steered back and no exchange for that runs (R118, steps 10 and 11; R120). -/
def Dev.backDue (d : Dev) (n : Nat) : Bool :=
  let o := n / 8
  let ph := d.seqPhase o
  d.seqOwns n && !d.bitOf .las_oct_status_fenced o (n % 8) &&
    (ph == 5 || ph == 6 || (ph == 7 && d.dfb (dfbIx o (d.get .las_oct_status_slot o) 0) == 3)) && d.get .h_sq_wait n == 0 &&
    d.flag .h_sq_out n && !d.flag .h_sq_back n && !d.flag .opt_lane_next_tx_arm n

/-- SPARE_REQ BACK goes out on port `n` (R118, step 11). -/
def Dev.steerBack (d : Dev) (n : Nat) : Dev :=
  let d := if d.seqPhase (n / 8) = 5 then d.set .las_oct_status_phase (n / 8) 6 else d
  (d.set .h_sq_try n 1).spareReq n true

/-- In a sequence resumed after a warm reset, a port admitted again on its steered map is steered back (R124). -/
def Dev.resumeBack (d : Dev) (n : Nat) : Dev :=
  if d.flag .h_seq_resumed (n / 8) && d.admitted n && d.backDue n then d.steerBack n else d

/-- Every port of octet `o` that may go back does, where its sequence was resumed (R124). -/
def Dev.octetBack (d : Dev) (o : Nat) : Dev := (List.range 8).foldl (fun d p => d.resumeBack (8 * o + p)) d

/-- A DFB enters LIT (R108): its slot's transmit rings leave OFF, or leave HOLD in a sequence; the standby of a sequence
takes the slot over (R118, step 8; R123). -/
def Dev.dfbLit (d : Dev) (o s b power : Nat) : Dev :=
  let k := dfbIx o s b
  if d.dfb k ≠ 2 then d
  else
    let d := (d.set .las_dfb_status_state k 3).setMany [(.las_dfb_status_power, k, power), (.h_dfb_warned, k, 0),
      (.h_dfb_maxed, k, 0)]
    let mine := decide (d.get .las_oct_status_slot o = s)
    let ident := fun (d : Dev) => d.slotRings o s (fun d k =>
      if d.ring k = rsHOLD then d.ringIdentify k [d.get .opt_ring_heater_heater_ghz k] else d)
    if d.seqPhase o = 4 ∧ mine ∧ b = 1 then
      let p := dfbIx o s 0
      let d := if d.dfb p = 6 then d else (d.dfbState p 5).set .las_dfb_status_bias p 0
      let d := (d.putB .las_oct_status_standby_active o s true).putB .p_standby_active o s true
      let d := ident d
      if d.get .h_seq_kind o = 2 then d.seqEnd o 2 (fun d _ => d)
      else ((d.set .las_oct_status_phase o 5).octetBack o).seqProgress o
    else if d.seqPhase o = 7 ∧ mine ∧ b = 0 then ((ident d).octetBack o).seqProgress o
    else d.engineRings (o / 8)

/-- Output and frequency of a DFB have settled (R108). -/
def execDfbLit (octet : Fin 64) (slot : Fin 5) (b : Fin 2) (power : BitVec 16) (s : State) :
    Host.Outcome State Fault Refusal :=
  s.runX (fun d => d.dfbLit octet slot b power.toNat)

/-- The bias loop of a LIT DFB: the bias moves toward the target by `move` units of 0.05 mA, at most 0.5 mA (R110). -/
def execDfbBiasLoop (octet : Fin 64) (slot : Fin 5) (b : Fin 2) (power : BitVec 16) (move : Fin 11) (s : State) :
    Host.Outcome State Fault Refusal :=
  s.runX (fun d =>
    let k := dfbIx octet slot b
    if d.dfb k ≠ 3 then d
    else
      let d := d.set .las_dfb_status_power k power.toNat
      let bias := d.get .las_dfb_status_bias k
      if sgn 16 power.toNat < 0 then d.setBias k (min 2400 (bias + move))
      else if sgn 16 power.toNat > 0 then d.setBias k (bias - move) else d)

/-! ### Requests for a sequence (R113, R122) -/

/-- Whether the standby of a slot may take over (R111, R113). -/
def Dev.standbyUnused (d : Dev) (o s : Nat) : Bool :=
  !d.bitOf .las_oct_status_standby_active o s && d.dfb (dfbIx o s 1) == 0

/-- Whether a sequence of slot `s` of octet `o` waits or runs (R113). -/
def Dev.seqHas (d : Dev) (o s : Nat) : Bool :=
  d.seqQueue.any (fun q => q.octet == o && q.slot == s) || (d.seqRuns o && d.get .las_oct_status_slot o == s)

/-- A request joins the queue (R113). -/
def Dev.seqEnqueue (d : Dev) (o s : Nat) (park : Bool) : Dev :=
  ({ d with seqQueue := d.seqQueue ++ [{ octet := o, slot := s, kind := b2n park }] } : Dev).seqShowQueue o

/-- LAS_NO_STANDBY (R113, R122). -/
def Dev.noStandby (d : Dev) (o s : Nat) : Dev := d.raise .LAS_NO_STANDBY (d.pathDfb o s (d.activeB o s))

/-- A request for a sparing or parking sequence; the flag says it was refused with LAS_NO_STANDBY (R113, R122). -/
def Dev.seqRequest (d : Dev) (o s : Nat) (park : Bool) : Dev × Bool :=
  if d.seqHas o s then (d, false)
  else if d.get .las_oct_status_parked o ≠ 0 ∨ (!park ∧ !d.standbyUnused o s) then (d.noStandby o s, true)
  else (d.seqEnqueue o s park, false)

/-- The 10 µs comparison of a LIT DFB: the warning at 100 mA and the clamp at 120 mA (R111). -/
def Dev.dfbMonitor (d : Dev) (o s b power : Nat) : Dev :=
  let k := dfbIx o s b
  if d.dfb k ≠ 3 then d
  else
    let d := d.set .las_dfb_status_power k power
    let bias := d.get .las_dfb_status_bias k
    let d := if bias ≥ 2000 ∧ !d.flag .h_dfb_warned k then
        let d := (d.set .h_dfb_warned k 1).raise .LAS_BIAS_WARN (d.pathDfb o s b)
        if d.standbyUnused o s then
          (if d.flag .las_eng_ctrl_auto_spare (o / 8) then (d.seqRequest o s false).1 else d)
        else d.noStandby o s
      else d
    if bias ≥ 2400 ∧ !d.flag .h_dfb_maxed k then
      ((d.set .h_dfb_maxed k 1).set .las_dfb_status_bias k 2400).raise .LAS_BIAS_MAX (d.pathDfb o s b)
    else d

/-- The 10 µs comparison of a lit DFB with its target (R111). -/
def execDfbMonitor (octet : Fin 64) (slot : Fin 5) (b : Fin 2) (power : BitVec 16) (s : State) :
    Host.Outcome State Fault Refusal :=
  s.runX (fun d => d.dfbMonitor octet slot b power.toNat)

/-- Wear-out at the clamp: sparing, or parking where there is no standby (R111, R122). -/
def Dev.dfbWearOut (d : Dev) (o s : Nat) : Dev :=
  let k := dfbIx o s (d.activeB o s)
  if d.dfb k ≠ 3 ∨ d.get .las_dfb_status_bias k < 2400 then d
  else
    let d := d.raise .LAS_WEAR_OUT (d.pathEngine (o / 8) ucLASER k)
    (d.seqRequest o s (!d.standbyUnused o s)).1

/-- Wear-out of the active DFB of a slot (R111). -/
def execDfbWearOut (octet : Fin 64) (slot : Fin 5) (s : State) : Host.Outcome State Fault Refusal :=
  s.runX (fun d => d.dfbWearOut octet slot)

/-- The sequence state of octet `o` begins anew for slot `s`: sequence number, start time, masks cleared (R115, R138). -/
def Dev.seqBegin (d : Dev) (o s kind phase : Nat) : Dev :=
  let d := d.incr .h_seq_no o
  let d := d.setMany [(.las_oct_status_phase, o, phase), (.las_oct_status_slot, o, s), (.h_seq_kind, o, kind),
    (.h_seq_armed, o, 0), (.h_seq_resumed, o, 0), (.las_oct_status_participants, o, 0), (.las_oct_status_fenced, o, 0),
    (.las_oct_seq_time_seq_start, o, d.fabricNs)]
  (List.range 8).foldl (fun d p =>
    let n := 8 * o + p
    d.setMany [(.h_sq_wait, n, 0), (.h_sq_try, n, 0), (.h_sq_out, n, 0), (.h_sq_back, n, 0), (.h_sq_home, n, d.txSpare n),
      (.h_sq_c, n, 0)]) d

/-- The ports of octet `o` that a failure on slot `s` fences: those with a lane on it, admitted or fenced for a sequence already,
and the fenced participants of the slot's own sequence, which the failure ends (R123). -/
def Dev.failPorts (d : Dev) (o s : Nat) : List Nat :=
  ((List.range 8).map (8 * o + ·)).filter (fun n =>
    ((d.admitted n || d.bitOf .port_status_fence_mask n fcSPARING) && (d.txMap n).contains s) ||
    (d.seqRuns o && d.get .las_oct_status_slot o == s && d.bitOf .las_oct_status_fenced o (n % 8)))

/-- The failure of the active DFB of slot `s` taken up as a sequence of its octet: its ports fenced, the standby lit or the slot
parked (R123). -/
def Dev.failTake (d : Dev) (o s : Nat) : Dev :=
  let hit := d.failPorts o s
  let d := (d.seqPorts o).foldl (fun d n => d.set .opt_lane_next_tx_arm n 0) d
  let unused := d.standbyUnused o s
  let d := d.seqBegin o s 2 4
  let d := hit.foldl (fun d n =>
    ((d.fenceCore n fcSPARING).putB .las_oct_status_participants o (n % 8) true).putB .las_oct_status_fenced o (n % 8)
      true) d
  if unused then
    (d.dfbStart (dfbIx o s 1)).slotRings o s (fun d k =>
      if d.ring k = rsOFF then d else d.set .opt_ring_status_state k rsHOLD)
  else
    let d := (d.putB .las_oct_status_parked o s true).putB .p_parked o s true
    let d := d.slotRings o s (fun d k => if d.ringNeeded (k / 10) s then d else d.ringOff k)
    let d := d.raise .LAS_PARKED (d.pathDfb o s 0)
    d.seqEnd o 4 (fun d n => d.halfAway n s)

/-- The active DFB of a slot fails (R123). DESIGN CHOICE (log entry 63): while a sequence of another slot runs in the octet its ports
are fenced at once, and the rest waits ahead of the octet's other requests until that sequence has ended (R113). -/
def Dev.dfbFail (d : Dev) (o s : Nat) : Dev :=
  let b := d.activeB o s
  let k := dfbIx o s b
  if d.dfb k ≠ 3 then d
  else
    let d := ((d.dfbState k 6).set .las_dfb_status_bias k 0).tearOctetSpares o
    let d := d.raise .LAS_DFB_FAIL (d.pathDfb o s b)
    if d.seqRuns o ∧ d.get .las_oct_status_slot o ≠ s then
      let d := (d.failPorts o s).foldl (fun d n => d.fence n fcSPARING) d
      { d with seqQueue := { octet := o, slot := s, kind := 2 } :: d.seqQueue }
    else d.failTake o s

/-- A DFB fails (R111, R123). -/
def execDfbFail (octet : Fin 64) (slot : Fin 5) (s : State) : Host.Outcome State Fault Refusal :=
  s.runX (fun d => d.dfbFail octet slot)

/-- The slope of bias in 0.001 mA a day over the samples of one DFB, one a minute, newest first; its rounding is the
device's (R112, log entry 4). -/
def biasSlope (h : List Nat) : Int :=
  match h, h.getLast? with
  | a :: _ :: _, some z => ratioRound (50 * ((a : Int) - z) * 1440) (h.length - 1)
  | _, _ => 0

/-- A minute of wear of one DFB, and its write to the persistent store (R112). -/
def Dev.wearTick (d : Dev) (ok : Bool) (k : Nat) : Dev :=
  let d := if d.dfb k = 3 then
      let b := d.get .las_dfb_status_bias k
      let acc := d.get .h_eq_num k + b * b
      let h := (b :: d.wearHist.get k []).take 10081
      let d : Dev := { d with wearHist := d.wearHist.set k [] h }
      (d.incr .las_dfb_wear_lit_minutes k).setMany [(.las_dfb_wear_eq_hours, k, d.get .las_dfb_wear_eq_hours k + acc / 86400000),
        (.h_eq_num, k, acc % 86400000), (.las_dfb_trend_bias_slope, k, wrap 16 (biasSlope h))]
    else d
  if ok then
    d.setMany [(.p_lit_minutes, k, d.get .las_dfb_wear_lit_minutes k), (.p_eq_hours, k, d.get .las_dfb_wear_eq_hours k),
      (.p_eq_num, k, d.get .h_eq_num k), (.p_peak_bias, k, d.get .las_dfb_trend_peak_bias k),
      (.p_bias_slope, k, d.get .las_dfb_trend_bias_slope k)]
  else d

/-- The wear figures of every DFB whose engine is on, every 60 s; `ok`: the store verified the write (R112, R527). -/
def execWearRecordWrite (ok : Bool) (s : State) : Host.Outcome State Fault Refusal :=
  s.runX (fun d =>
    let d := (List.range 640).foldl (fun d k => if d.domainOn (11 + k / 80) then d.wearTick ok k else d) d
    if ok then d else let x := d.draw; x.2.raise .PSTORE_FAIL x.2.pathDevice [.h x.1])

/-! ### Octet commands (R136) -/

/-- Whether a waiting request is one that a command names: a failure that waits is no request of software. -/
def SeqReq.named (q : SeqReq) (o s : Nat) : Bool := q.octet == o && q.slot == s && q.kind != 2

/-- ABORT in QUEUED: the request ends with outcome ABORTED, whatever else runs in the octet (R121). -/
def Dev.seqUnqueue (d : Dev) (o s : Nat) : Dev :=
  let d : Dev := { d with seqQueue := d.seqQueue.filter (fun q => !q.named o s) }
  let d := if d.seqRuns o then d else d.set .las_oct_status_phase o 0
  (d.set .las_oct_status_outcome o 5).seqShowQueue o

/-- An octet command, with the LANE code of its refusal (R113, R121, R122, R466). DESIGN CHOICE (log entry 63): the
record LAS_ABORT_LATE, of depth PORT, names the octet's first port. -/
def Dev.octCmd (d : Dev) (o s cmd : Nat) : Dev × Nat :=
  match cmd with
  | 1 => let (d, r) := d.seqRequest o s false; (d, b2n r)
  | 2 => let (d, r) := d.seqRequest o s true; (d, b2n r)
  | 3 =>
    if d.seqQueue.any (·.named o s) then (d.seqUnqueue o s, 0)
    else if d.seqPhase o = 2 ∧ !d.flag .h_seq_armed o ∧ d.get .las_oct_status_slot o = s then
      (d.seqEnd o 5 (fun d _ => d), 0)
    else if d.seqRuns o ∧ d.get .las_oct_status_slot o = s then
      (d.raise .LAS_ABORT_LATE (d.pathPort (8 * o)), 2)
    else (d, 0)
  | _ => (d, 0)

/-- A write of LAS_OCT_CMD. -/
def octCmdWrite (m : Mark) (o s cmd : Nat) (st : State) : Host.Outcome State Fault Refusal :=
  st.run (fun d => d.hostWrite m rowLAS_OCT_CMD o (s * 16 + cmd) (fun _ _ _ d => (d.octCmd o s cmd).1))

/-- NOP (R136). -/
def execLasOctCmdNop (m : Mark) (octet : Fin 64) (slot : Fin 8) (s : State) : Host.Outcome State Fault Refusal :=
  octCmdWrite m octet slot 0 s
/-- SPARE (R113). -/
def execLasOctCmdSpare (m : Mark) (octet : Fin 64) (slot : Fin 8) (s : State) : Host.Outcome State Fault Refusal :=
  octCmdWrite m octet slot 1 s
/-- PARK (R122). -/
def execLasOctCmdPark (m : Mark) (octet : Fin 64) (slot : Fin 8) (s : State) : Host.Outcome State Fault Refusal :=
  octCmdWrite m octet slot 2 s
/-- ABORT (R121). -/
def execLasOctCmdAbort (m : Mark) (octet : Fin 64) (slot : Fin 8) (s : State) : Host.Outcome State Fault Refusal :=
  octCmdWrite m octet slot 3 s

/-! ### The sequence, near end (R114 to R120) -/

/-- Sequences of engine `e` in phases after QUEUED (R113, R135). -/
def Dev.octRunning (d : Dev) (e : Nat) : Nat := countBelow 8 (fun j => d.seqRuns (8 * e + j))

/-- PREPARE of slot `s` of octet `o`: circuits on the spare slots come down, participants are found, those without SPARE
are fenced, the others get SPARE_REQ OUT (R114, R118). -/
def Dev.seqPrepare (d : Dev) (o s kind : Nat) : Dev :=
  let d := d.seqBegin o s kind 2
  let d := d.raise .LAS_SPARE_START (d.pathDfb o s 0)
  let d := d.tearOctetSpares o
  let parts := ((List.range 8).map (8 * o + ·)).filter (fun n => d.admitted n && d.upRole n && d.txSpare n != s)
  let d := parts.foldl (fun d n => d.putB .las_oct_status_participants o (n % 8) true) d
  let d := parts.foldl (fun d n =>
    if d.fenced n || !d.bitOf .port_status_agreed_features n 5 then d.seqFence n
    else (d.set .h_sq_try n 1).spareReq n false) d
  d.seqProgress o

/-- The earliest request of an engine that may run (R113). -/
def Dev.seqNext (d : Dev) (e : Nat) : Option SeqReq := d.seqQueue.find? (fun q => q.octet / 8 == e && !d.seqRuns q.octet)

/-- Whether a request may no longer run: a slot of the octet was parked, or its standby has become active or FAILED, while it
waited (R113, R122). -/
def Dev.seqRefused (d : Dev) (q : SeqReq) : Bool :=
  q.kind != 2 && (d.get .las_oct_status_parked q.octet != 0 || (q.kind == 0 && !d.standbyUnused q.octet q.slot))

/-- A queued sequence enters PREPARE: at most two run in an engine, in the order of the requests (R113, R118); one that may no longer
run ends with LAS_NO_STANDBY; a failure that waited is taken up (R123). -/
def Dev.seqStart (d : Dev) (o : Nat) : Dev :=
  match d.seqNext (o / 8) with
  | some q =>
    if q.octet = o ∧ d.octRunning (o / 8) < 2 then
      let d : Dev := { d with seqQueue := d.seqQueue.erase q }
      if d.seqRefused q then ((d.set .las_oct_status_phase o 0).noStandby o q.slot).seqShowQueue o
      else if q.kind = 2 then d.failTake o q.slot
      else d.seqPrepare o q.slot q.kind
    else d
  | none => d

/-- A queued sequence starts (R118). -/
def execSpareSeqStart (octet : Fin 64) (s : State) : Host.Outcome State Fault Refusal := s.runX (fun d => d.seqStart octet)

/-- Whether port `n` awaits the SPARE_ACK of its octet's sequence. -/
def Dev.awaitsAck (d : Dev) (n : Nat) : Bool :=
  d.seqOwns n && !d.bitOf .las_oct_status_fenced (n / 8) (n % 8) && d.get .h_sq_wait n != 0

/-- SPARE_ACK at the near end (R117, R118): acceptance arms the transmit switch, LATE is answered with a new C, another
refusal fences the port for the sequence. -/
def Dev.spareAck (d : Dev) (n sq res : Nat) : Dev :=
  let o := n / 8
  if !d.awaitsAck n || d.get .h_seq_no o != sq then d
  else
    let back := d.get .h_sq_wait n == 2
    let s := d.get .las_oct_status_slot o
    if res = 0 then
      let map := if back then moveLane (d.txMap n) (d.get .h_sq_home n) s else moveLane (d.txMap n) s (d.txSpare n)
      let d := d.setMany ((List.range 4).map (fun l => (.opt_lane_next_tx_lane, 4 * n + l, map.getD l 0)))
      let d := d.setMany [(.opt_lane_switch_cw_tx_switch_cw, n, d.get .h_sq_c n), (.opt_lane_next_tx_arm, n, 1),
        (.h_sq_wait, n, 0), (.h_seq_armed, o, 1)]
      if d.seqPhase o = 2 then d.set .las_oct_status_phase o 3 else d
    else if res = 1 then d.spareReq n back
    else (d.seqFence n).seqProgress o

/-- SPARE_ACK arrives (R117). -/
def execLcSpareAck (port : Fin 512) (seq : BitVec 16) (result : Fin 8) (s : State) : Host.Outcome State Fault Refusal :=
  s.runX (fun d => d.lcIn port (fun d => d.spareAck port seq.toNat result))

/-- No SPARE_ACK within 1 ms: again, or after three attempts fenced for the sequence (R117). -/
def execSpareAckTimeout (port : Fin 512) (s : State) : Host.Outcome State Fault Refusal :=
  s.runX (fun d =>
    if !d.awaitsAck port then d
    else if d.get .h_sq_try port < 3 then (d.incr .h_sq_try port).spareReq port (d.get .h_sq_wait port == 2)
    else (d.seqFence port).seqProgress (port / 8))

/-- The primary has ramped down; the standby starts its ramp (R118, steps 6 and 7). -/
def execPrimaryRampDownDone (octet : Fin 64) (s : State) : Host.Outcome State Fault Refusal :=
  s.runX (fun d =>
    let sl := d.get .las_oct_status_slot octet
    if d.seqPhase octet = 4 ∧ d.dfb (dfbIx octet sl 0) = 4 then
      ((d.dfbState (dfbIx octet sl 0) 0).set .las_dfb_status_bias (dfbIx octet sl 0) 0).dfbStart (dfbIx octet sl 1)
    else d)

/-- Whether a DFB is on its way to LIT. -/
def Dev.dfbRising (d : Dev) (k : Nat) : Bool := d.dfb k == 1 || d.dfb k == 2

/-- The standby has not reached LIT in 30 ms: it fails, and the primary is lit again (R120); with the primary FAILED the
slot is parked (R122, R123); the time does not run while the zone is too cold (R578). -/
def Dev.standbyTimeout (d : Dev) (o : Nat) : Dev :=
  let s := d.get .las_oct_status_slot o
  if d.seqPhase o ≠ 4 ∨ !d.dfbRising (dfbIx o s 1) ∨ d.laserCold (o / 8) then d
  else
    let d := (d.dfbState (dfbIx o s 1) 6).set .las_dfb_status_bias (dfbIx o s 1) 0
    let d := d.raise .LAS_SPARE_FAIL (d.pathDfb o s 0)
    if d.dfb (dfbIx o s 0) = 6 then
      let d := (d.putB .las_oct_status_parked o s true).putB .p_parked o s true
      let d := d.slotRings o s (fun d k => if d.ringNeeded (k / 10) s then d else d.ringOff k)
      let d := d.raise .LAS_PARKED (d.pathDfb o s 0)
      d.seqEnd o 4 (fun d n => d.halfAway n s)
    else (d.dfbState (dfbIx o s 0) 1).set .las_oct_status_phase o 7

/-- The standby fails to light (R120). -/
def execStandbyLitTimeout (octet : Fin 64) (s : State) : Host.Outcome State Fault Refusal :=
  s.runX (fun d => d.standbyTimeout octet)

/-- In REVERT the primary fails to light too: the slot is parked (R120, R122). -/
def execPrimaryLitTimeout (octet : Fin 64) (s : State) : Host.Outcome State Fault Refusal :=
  s.runX (fun d =>
    let sl := d.get .las_oct_status_slot octet
    if d.seqPhase octet = 7 ∧ d.dfbRising (dfbIx octet sl 0) then d.parkSlot octet sl else d)

/-- SPARE_READY at the near end: the lane is steered back with a second codeword (R118, steps 10 and 11). -/
def Dev.spareReady (d : Dev) (n sq s : Nat) : Dev :=
  if d.backDue n && d.get .h_seq_no (n / 8) == sq && d.get .las_oct_status_slot (n / 8) == s then d.steerBack n else d

/-- SPARE_READY arrives (R118). -/
def execLcSpareReady (port : Fin 512) (seq : BitVec 16) (slot : Fin 5) (_avg : BitVec 16) (s : State) :
    Host.Outcome State Fault Refusal :=
  s.runX (fun d => d.lcIn port (fun d => d.spareReady port seq.toNat slot))

/-- No SPARE_READY within 5 ms of the standby entering LIT (R117). -/
def execSpareReadyTimeout (port : Fin 512) (s : State) : Host.Outcome State Fault Refusal :=
  s.runX (fun d =>
    let o := port.val / 8
    if (d.seqPhase o = 5 ∨ d.seqPhase o = 6) ∧ d.backDue port then
      (d.seqFence port).seqProgress o
    else d)

/-! ### The sequence, far end (R116) -/

/-- The answer of R116 to a SPARE_REQ: 0 ACCEPT, 2 MAP, 3 DARK, 1 LATE, 4 BUSY, in the order of the checks. -/
def Dev.spareCheck (d : Dev) (n sq : Nat) (back : Bool) (s spare cw : Nat) : Nat :=
  let src := if back then spare else s
  let dst := if back then s else spare
  if !(d.rxMap n).contains src || d.rxSpare n != dst then 2
  else if !back && (d.ring (ringIx n (5 + d.rxSpare n)) != rsLOCKED || d.get .opt_rx_spare_spare n == 0x8000 ||
      decide (oma (d.get .opt_rx_spare_spare n) < thresh (d.get .opt_rx_thresh_warn (n / 64)))) then 3
  else if !cwAhead cw (d.rxCw n) then 1
  else if d.flag .h_peer_seq n && d.get .h_peer_no n != sq then 4
  else 0

/-- A SPARE_REQ at the far end (R116). -/
def Dev.spareReqRx (d : Dev) (n sq : Nat) (back : Bool) (s spare cw : Nat) : Dev :=
  let res := d.spareCheck n sq back s spare cw
  let d := if res ≠ 0 then d
    else
      let rs := d.rxSpare n
      let d := d.xprTearAll 3 (fun d c => d.circAdd c == n && d.circSlot c == rs)
      let map := if back then moveLane (d.rxMap n) spare s else moveLane (d.rxMap n) s spare
      let d := d.setMany ((List.range 4).map (fun l => (.opt_lane_next_rx_lane, 4 * n + l, map.getD l 0)))
      d.setMany [(.opt_lane_switch_cw_rx_switch_cw, n, cw), (.opt_lane_next_rx_arm, n, 1), (.h_peer_seq, n, 1),
        (.h_peer_slot, n, s), (.h_peer_no, n, sq), (.h_peer_back, n, b2n back)]
  d.sendLc n 0x09 [sq * 2 ^ 16 + res]

/-- SPARE_REQ arrives (R116). -/
def execLcSpareReq (port : Fin 512) (seq : BitVec 16) (back : Bool) (slot : Fin 5) (spare : Fin 5) (cw : BitVec 32)
    (s : State) : Host.Outcome State Fault Refusal :=
  s.runX (fun d => d.lcUnbound port (fun d => d.lcAdmitted port (fun d => d.spareReqRx port seq.toNat back slot spare cw.toNat)))

/-! ### After a warm reset (R124) -/

/-- A sequence resumes by its recorded phase, with LAS_RESUMED carrying that phase (R124); a queued one within the limits of
R113. -/
def Dev.seqResume (d : Dev) (o : Nat) : Dev :=
  let ph := d.seqPhase o
  let s := d.get .las_oct_status_slot o
  if ph = 0 then d
  else
    let d := (d.raise .LAS_RESUMED (d.pathDfb o s 0) [.h ph]).set .h_seq_resumed o 1
    if ph = 1 then d.seqStart o
    else if ph = 2 then d.seqPrepare o s (d.get .h_seq_kind o)
    else if ph = 3 then
      ((d.seqPorts o).foldl (fun d n => if d.flag .h_sq_out n then d
        else (d.halfAway n s).setMany [(.h_sq_out, n, 1), (.opt_lane_next_tx_arm, n, 0), (.h_sq_wait, n, 0)]) d).seqProgress o
    else if ph = 4 then
      let k := dfbIx o s 1
      let d := if d.dfb (dfbIx o s 0) = 6 then d else d.dfbState (dfbIx o s 0) 0
      if d.dfb k = 3 then d else d.dfbStart k
    else d

/-- A port is not admitted within 1 s after a resumed standby lit: its final half is written directly (R124). -/
def execSpareResumeTimeout (port : Fin 512) (s : State) : Host.Outcome State Fault Refusal :=
  s.runX (fun d =>
    let o := port.val / 8
    let sl := d.get .las_oct_status_slot o
    if (d.seqPhase o = 5 ∨ d.seqPhase o = 6) ∧ d.seqOwns port ∧ !d.admitted port ∧ !d.flag .h_sq_back port then
      ((d.halfHome port sl).setMany [(.h_sq_back, port, 1), (.opt_lane_next_tx_arm, port, 0), (.h_sq_wait, port, 0)]).seqProgress o
    else d)

end Sys2Proof.Machine
end

