-- ==== Sys2Proof/Machine/Bringup.lean ====
section
/-! DEFINITION. The link protocol of a port: credits (R156 to R158), the stencil (R57 to R63), revisions (R64 to R66), the
bring-up sequence (R160, R161), loss and restart (R163 to R165), framing (R148), port commands (R172) and PORT_CFG (R44,
R45). -/

namespace Sys2Proof.Machine

/-! ### Identity (R153, R165) -/

/-- The feature mask the device announces on port `n`: bits 0–6 (R65); a bound port announces neither SPARE nor XDECL (R552). -/
def Dev.ownMask (d : Dev) (n : Nat) : Nat := if (d.boundSvc n).isSome then 0x1F else 0x7F

/-- The device's link revision: that of the running image (R64). -/
def Dev.ownRev (d : Dev) : Nat := d.get .sys_boot_status_link_rev

/-- Words 1–6 of the device's ID on port `n` (R153). -/
def Dev.idWords (d : Dev) (n : Nat) : List Nat :=
  let ser := d.get .sys_serial_serial
  [2 * 2 ^ 28 + d.get .sys_fabric_pos_plane * 2 ^ 24 + d.get .sys_fabric_pos_device, n, ser / 2 ^ 32, ser % 2 ^ 32,
   d.get .sys_fabric_coord_coord 0 * 2 ^ 12 + d.get .sys_fabric_coord_coord 1,
   d.get .sys_fabric_size_fabric_mode * 2 ^ 12 + d.get .sys_fabric_coord_coord 2]

def Dev.sendId (d : Dev) (n : Nat) : Dev := d.sendLc n 0x02 (d.idWords n)
def Dev.sendRev (d : Dev) (n : Nat) : Dev := d.sendLc n 0x03 (d.ownRev :: d.ownMask n :: d.idWords n)
def Dev.sendRestart (d : Dev) (n cause : Nat) : Dev := d.sendLc n 0x05 [cause]

/-- The announced identity kept in the neighbour registers (R59, R173). -/
def Dev.storeId (d : Dev) (n : Nat) (b : IdBody) : Dev :=
  d.setMany [(.port_nbr_0_far_port, n, b.port), (.port_nbr_0_nbr_id, n, b.id.toNat), (.port_nbr_0_nbr_plane, n, b.plane),
    (.port_nbr_0_nbr_kind, n, b.kind), (.port_nbr_1_nbr_serial, n, b.serial.toNat), (.port_nbr_ext_grid, n, b2n b.grid),
    (.port_nbr_ext_coord_x, n, b.coordX), (.port_nbr_ext_coord_y, n, b.coordY), (.port_nbr_ext_coord_z, n, b.coordZ),
    (.h_id_known, n, 1), (.h_id_fresh, n, 1)]

/-- Whether an announced identity is the one held (R165). -/
def Dev.sameId (d : Dev) (n : Nat) (b : IdBody) : Bool :=
  d.flag .h_id_known n && d.get .port_nbr_0_far_port n == b.port.val && d.get .port_nbr_0_nbr_id n == b.id.toNat &&
    d.get .port_nbr_0_nbr_plane n == b.plane.val && d.get .port_nbr_0_nbr_kind n == b.kind.val &&
    d.get .port_nbr_1_nbr_serial n == b.serial.toNat && d.flag .port_nbr_ext_grid n == b.grid &&
    d.get .port_nbr_ext_coord_x n == b.coordX.val && d.get .port_nbr_ext_coord_y n == b.coordY.val &&
    d.get .port_nbr_ext_coord_z n == b.coordZ.val

/-! ### The stencil (R57 to R63) -/

/-- Whether the entry of port `e` plans a neighbour: valid, of a kind that is neither NONE nor reserved (R57, R58). -/
def Dev.planned (d : Dev) (e : Nat) : Bool :=
  d.flag .port_stencil_0_valid e && [1, 2, 3, 4, 15].contains (d.get .port_stencil_0_nbr_kind e)

/-- Whether an announced kind fits a role (R59). -/
def kindFits (role kind : Nat) : Bool :=
  if role = roleDOWN then kind == 1 || kind == 4 else if role = roleAXIS then kind == 2
  else if role = roleSERVICE then kind == 3 else false

/-- The announced coordinates: x, y, z. -/
def Dev.nbrCoord (d : Dev) (p k : Nat) : Nat :=
  if k = 0 then d.get .port_nbr_ext_coord_x p else if k = 1 then d.get .port_nbr_ext_coord_y p
  else d.get .port_nbr_ext_coord_z p

/-- Whether the coordinate announced on port `p` is what AXIS port `e` expects (R59). -/
def Dev.coordFits (d : Dev) (p e : Nat) : Bool :=
  (List.range 3).all (fun k => d.nbrCoord p k ==
    (if d.get .port_cfg_axis e = k then d.get .port_cfg_target e else d.get .sys_fabric_coord_coord k))

/-- The first check of R60 that the identity announced on port `p` fails against the entry of port `e`; 0 when all pass. -/
def Dev.firstFail (d : Dev) (p e : Nat) : Nat :=
  let chk := fun k => d.bitOf .port_stencil_0_check e k
  let ek := d.get .port_stencil_0_nbr_kind e
  if !kindFits (d.role e) (d.get .port_nbr_0_nbr_kind p) then 6
  else if d.role e = roleAXIS ∧ !d.coordFits p e then 7
  else if d.role e = roleAXIS ∧ d.get .port_nbr_0_nbr_plane p ≠ d.get .sys_fabric_pos_plane then 8
  else if chk 0 ∧ ek ≠ 15 ∧ d.get .port_nbr_0_nbr_kind p ≠ ek then 1
  else if chk 1 ∧ d.get .port_nbr_0_nbr_plane p ≠ d.get .port_stencil_0_nbr_plane e then 2
  else if chk 2 ∧ d.get .port_nbr_0_nbr_id p ≠ d.get .port_stencil_0_nbr_id e then 3
  else if chk 3 ∧ d.get .port_nbr_0_far_port p ≠ d.get .port_stencil_0_far_port e then 4
  else if chk 4 ∧ d.get .port_nbr_1_nbr_serial p ≠ d.get .port_stencil_1_nbr_serial e then 5
  else 0

/-- Word 0 of PORT_NBR_0, as the records carry the identity. -/
def Dev.nbrWord (d : Dev) (n : Nat) : Nat :=
  d.get .port_nbr_0_far_port n * 2 ^ 48 + d.get .port_nbr_0_nbr_id n * 2 ^ 24 + d.get .port_nbr_0_nbr_plane n * 2 ^ 20
    + d.get .port_nbr_0_nbr_kind n * 2 ^ 16

/-- MISMATCH with its record, naming the closest match where there is one (R60, R61). -/
def Dev.mismatch (d : Dev) (n code : Nat) (closest : Option Nat) : Dev :=
  let d := d.setMany [(.port_status_stencil_status, n, 2), (.h_swap_watch, n, 0)]
  d.raise .STENCIL_MISMATCH (d.pathPort n) ([.h code, .d (d.nbrWord n), .d (d.get .port_nbr_1_nbr_serial n)] ++
    (match closest with | some b => [.d (d.pathPort b)] | none => []))

/-- Whether the identity of port `p` passes every check of the entry of port `e`. -/
def Dev.passes (d : Dev) (p e : Nat) : Bool := d.planned e && d.firstFail p e == 0

/-- The ports other than `n` with its role whose entry its identity passes. -/
def Dev.swapCandidates (d : Dev) (n : Nat) : List Nat :=
  (List.range 512).filter (fun b => b != n && d.role b == d.role n && d.passes n b)

/-- A failed comparison of port `n`: a swap pair, a wait for one, or a mismatch (R61). DESIGN CHOICE (log entry 60): of several
ports whose entry the identity passes, the lowest-numbered is paired, watched or named. -/
def Dev.swapSearch (d : Dev) (n code : Nat) : Dev :=
  let cand := d.swapCandidates n
  let st := fun b => d.get .port_status_stencil_status b
  match cand.find? (fun b => st b != 1 && d.flag .h_id_known b && (st b == 2 || st b == 3) && d.passes b n) with
  | some b =>
    let first := d.get .h_swap_watch b == n + 1
    let d := d.setMany [(.port_status_stencil_status, n, 4), (.port_status_stencil_status, b, 4), (.h_swap_watch, n, 0),
      (.h_swap_watch, b, 0)]
    if first then d.raise .CABLE_SWAP (d.pathPort b) [.d (d.pathPort n)]
    else d.raise .CABLE_SWAP (d.pathPort n) [.d (d.pathPort b)]
  | none =>
    match cand.find? (fun b => st b != 1) with
    | some b => d.setMany [(.port_status_stencil_status, n, 3), (.h_swap_watch, n, b + 1)]
    | none => d.mismatch n code cand.head?

/-- Port `n` carries its own neighbour: a port that watches it watches another whose entry its identity passes, or where all of
those are in MATCH, goes to MISMATCH at once (R61). -/
def Dev.watchersOf (d : Dev) (n : Nat) : Dev :=
  ((List.range 512).filter (fun a => d.get .port_status_stencil_status a == 3 && d.get .h_swap_watch a == n + 1)).foldl
    (fun d a =>
      match (d.swapCandidates a).find? (fun b => d.get .port_status_stencil_status b != 1) with
      | some b => d.set .h_swap_watch a (b + 1)
      | none => d.mismatch a (d.firstFail a a) (some n)) d

/-- The comparison passes: MATCH, the STENCIL fence clears, REV is exchanged (R59, R61, R160, R162). -/
def Dev.stencilMatch (d : Dev) (n : Nat) : Dev :=
  let d := (d.setMany [(.port_status_stencil_status, n, 1), (.h_swap_watch, n, 0)]).watchersOf n
  ((d.unfence n fcSTENCIL).setLink n lsREVISION).sendRev n

/-- The comparison of R59 to R61 on the identity held for port `n` (R160, step 4). -/
def Dev.compare (d : Dev) (n : Nat) : Dev :=
  if !d.planned n then
    let d := (d.setMany [(.port_status_stencil_status, n, 6), (.h_swap_watch, n, 0)]).setLink n lsHELD
    d.raise .STENCIL_UNPLANNED (d.pathPort n) [.h 0, .d (d.nbrWord n), .d (d.get .port_nbr_1_nbr_serial n)]
  else if d.firstFail n n = 0 then d.stencilMatch n
  else (d.setLink n lsHELD).swapSearch n (d.firstFail n n)

/-! ### Revisions (R64 to R66) -/

/-- Entry to CREDIT_INIT: the credit counters of the session begin (R156, R212). -/
def Dev.toCreditInit (d : Dev) (n : Nat) : Dev :=
  let d := (List.range 8).foldl (fun d c => d.setMany [(.port_credit_sent, 8 * n + c, 0), (.port_credit_returned, 8 * n + c, 0)]) d
  (d.setMany [(.h_credit_rcvd, n, 0), (.h_credit_sent, n, 0), (.h_admit_sent, n, 0), (.h_admit_rcvd, n, 0)]).setLink n
    lsCREDIT_INIT

/-- The check of R64 on the partner's revision and mask. -/
def Dev.judgeRev (d : Dev) (n : Nat) (b : RevBody) : Dev :=
  let rev := b.rev.toNat
  let d := d.setMany [(.port_nbr_ext_partner_rev, n, rev), (.h_partner_mask, n, b.mask.toNat), (.h_rev_known, n, 1)]
  let agreed := d.ownMask n &&& b.mask.toNat
  if (rev ≤ d.ownRev + 1 ∧ d.ownRev ≤ rev + 1) ∧ bit agreed 0 then
    (d.set .port_status_agreed_features n agreed).toCreditInit n
  else
    (d.setLink n lsQUARANTINE).raise .LINK_REV_QUARANTINE (d.pathPort n) [.h d.ownRev, .h rev]

/-- A changed identity or revision on an admitted port: fenced, counted, recorded; the exchange is repeated (R66, R165). -/
def Dev.revChange (d : Dev) (n : Nat) : Dev :=
  ((d.fence n fcREV_CHANGE).count n .REV_CHANGE).raise .LINK_REV_CHANGE (d.pathPort n)

/-- A REV that was held is judged once the port is in REVISION (R160). -/
def Dev.heldRevNow (d : Dev) (n : Nat) : Dev :=
  match d.heldRev.getOpt n with
  | some b => if d.linkStatus n = lsREVISION then ({ d with heldRev := d.heldRev.set n none none } : Dev).judgeRev n b else d
  | none => d

/-- A new identity: kept and compared (R59, R160). -/
def Dev.newId (d : Dev) (n : Nat) (b : IdBody) : Dev := ((d.storeId n b).compare n).heldRevNow n

/-- An ID frame (R160, R165). -/
def Dev.idRx (d : Dev) (n : Nat) (b : IdBody) : Dev :=
  let ls := d.linkStatus n
  if !d.upRole n then d
  else if ls = lsIDENTIFY then d.newId n b
  else if d.sameId n b then d.set .h_id_fresh n 1
  else if ls = lsADMITTED then ((d.revChange n).setLink n lsIDENTIFY |>.refreshPort n).newId n b
  else if lsHELD ≤ ls ∧ ls ≤ lsADMIT_WAIT then ((d.count n .REV_CHANGE).setLink n lsIDENTIFY).newId n b
  else d

/-- An ID frame arrives (R165). -/
def execLcId (port : Fin 512) (b : IdBody) (s : State) : Host.Outcome State Fault Refusal :=
  s.runX (fun d => d.lcIn port (fun d => d.idRx port b))

/-- Whether a REV carries the revision and mask held for the port (R165). -/
def Dev.sameRev (d : Dev) (n : Nat) (b : RevBody) : Bool :=
  d.flag .h_rev_known n && d.get .port_nbr_ext_partner_rev n == b.rev.toNat && d.get .h_partner_mask n == b.mask.toNat

/-- A REV frame (R64, R160, R165). -/
def Dev.revRx (d : Dev) (n : Nat) (b : RevBody) : Dev :=
  let ls := d.linkStatus n
  if !d.upRole n then d
  else if ls = lsREVISION then d.judgeRev n b
  else if ls = lsIDENTIFY ∨ ls = lsHELD then { d with heldRev := d.heldRev.set n none (some b) }
  else if ls = lsADMITTED then
    if !d.sameId n b.ident then
      let d : Dev := { d with heldRev := d.heldRev.set n none (some b) }
      ((d.revChange n).setLink n lsIDENTIFY |>.refreshPort n).newId n b.ident
    else if d.sameRev n b then d
    else (((d.revChange n).setLink n lsREVISION |>.refreshPort n).sendRev n).judgeRev n b
  else if (ls = lsCREDIT_INIT ∨ ls = lsADMIT_WAIT ∨ ls = lsQUARANTINE) ∧ !d.sameRev n b then
    (((d.count n .REV_CHANGE).setLink n lsREVISION).sendRev n).judgeRev n b
  else d

/-- A REV frame arrives (R64). -/
def execLcRev (port : Fin 512) (b : RevBody) (s : State) : Host.Outcome State Fault Refusal :=
  s.runX (fun d => d.lcIn port (fun d => d.revRx port b))

/-! ### Admission (R160, R161) -/

/-- The service mode a port enters on admission (R218). TEST is left only by a write. -/
def Dev.admitMode (d : Dev) (n : Nat) : Dev :=
  let m := d.get .xbar_port_mode_svc_mode n
  if m = 2 then d
  else if !d.flag .h_admitted_once n then
    if d.get .xbar_port_mode_startup_ms n ≠ 0 then d.set .xbar_port_mode_svc_mode n 1 else d
  else if d.flag .h_fenced_other n ∧ d.get .xbar_port_mode_recovery_ms n ≠ 0 then d.set .xbar_port_mode_svc_mode n 3
  else d

/-- The port becomes ADMITTED: the causes that end there clear, its bundle gains the link (R51, R160, R162); in a resumed
sequence its lane is steered back (R124). -/
def Dev.becomeAdmitted (d : Dev) (n : Nat) : Dev :=
  let d := d.setLink n lsADMITTED
  let d := [fcLINK_LOSS, fcRING, fcFEC_FAIL, fcREV_CHANGE, fcSILENT].foldl
    (fun d k => d.putB .port_status_fence_mask n k false) d
  let d := (d.admitMode n).setMany [(.h_admitted_once, n, 1), (.h_fenced_other, n, 0)]
  (d.refreshPort n).resumeBack n

/-- ADMITTED once ADMIT has gone both ways (R160, step 6). -/
def Dev.tryAdmit (d : Dev) (n : Nat) : Dev :=
  if d.linkStatus n = lsADMIT_WAIT ∧ d.flag .h_admit_sent n ∧ d.flag .h_admit_rcvd n then d.becomeAdmitted n else d

/-- ADMIT sent: tx_cw counts from here (R160, R161). -/
def Dev.sendAdmit (d : Dev) (n : Nat) : Dev :=
  if d.flag .h_admit_sent n then d
  else
    let d := d.sendLc n 0x04 []
    (d.setMany [(.h_admit_sent, n, 1), (.h_cw_run, n, 1), (.h_txcw_t0, n, d.localNs)]).tryAdmit n

/-- CREDIT_INIT is over once both ends have announced their allotments (R160, step 5). -/
def Dev.tryAdmitWait (d : Dev) (n : Nat) : Dev :=
  if d.linkStatus n = lsCREDIT_INIT ∧ d.flag .h_credit_rcvd n ∧ d.flag .h_credit_sent n then
    let d := d.setLink n lsADMIT_WAIT
    if d.flag .port_cfg_auto_admit n then d.sendAdmit n else d
  else d

/-- ADMIT arrives: rx_cw counts from the first one (R160, R161). -/
def Dev.admitRx (d : Dev) (n : Nat) : Dev :=
  if (d.linkStatus n = lsCREDIT_INIT ∨ d.linkStatus n = lsADMIT_WAIT) ∧ !d.flag .h_admit_rcvd n then
    (d.setMany [(.h_admit_rcvd, n, 1), (.h_rxcw_run, n, 1), (.h_rxcw_t0, n, d.localNs)]).tryAdmit n
  else d

/-- An ADMIT frame arrives (R160). -/
def execLcAdmit (port : Fin 512) (s : State) : Host.Outcome State Fault Refusal :=
  s.runX (fun d => d.lcIn port (fun d => d.admitRx port))

/-! ### Credits (R156 to R158, R212, R213) -/

/-- The words of a CREDIT frame (R153). -/
def Dev.creditWords (d : Dev) (n : Nat) : List Nat := (List.range 8).map (fun c => d.get .h_freed (8 * n + c))

/-- The allotments go out when every cell of the last session has been freed (R156, R212). -/
def Dev.creditInitSend (d : Dev) (n : Nat) : Dev :=
  if d.linkStatus n = lsCREDIT_INIT ∧ !d.flag .h_credit_sent n ∧ d.inputUsed n = 0 then
    let d := (List.range 8).foldl (fun d c =>
      let iq := d.get .xbar_iq_iq (8 * n + c)
      d.setMany [(.port_credit_allotment_rx, 8 * n + c, iq), (.h_freed, 8 * n + c, iq), (.h_unreported, 8 * n + c, 0),
        (.h_withheld, 8 * n + c, 0)]) d
    let d := (d.sendLc n 0x01 (d.creditWords n)).set .h_credit_sent n 1
    d.tryAdmitWait n
  else d

/-- CREDIT_INIT allotments are sent (R212). -/
def execCreditInitSend (port : Fin 512) (s : State) : Host.Outcome State Fault Refusal :=
  s.runX (fun d => d.creditInitSend port)

/-- A CREDIT frame goes out, with the excess of a raised quota (R156, R213). -/
def Dev.creditSend (d : Dev) (n : Nat) : Dev :=
  if d.flag .h_credit_sent n ∧ lsCREDIT_INIT ≤ d.linkStatus n ∧ d.linkStatus n ≤ lsADMITTED then
    let d := (List.range 8).foldl (fun d c =>
      let k := 8 * n + c
      let ex := d.get .h_withheld k - d.deficit n c
      (d.incr .h_freed k ex).setMany [(.h_withheld, k, d.get .h_withheld k - ex), (.h_unreported, k, 0)]) d
    d.sendLc n 0x01 (d.creditWords n)
  else d

/-- A condition of R156 for a CREDIT frame holds. -/
def execCreditSend (port : Fin 512) (s : State) : Host.Outcome State Fault Refusal := s.runX (fun d => d.creditSend port)

/-- One class of a CREDIT frame on an admitted port: stale values are ignored, an overrun is clamped (R157). -/
def Dev.creditClass (d : Dev) (n c v : Nat) : Dev :=
  let k := 8 * n + c
  let ret := d.get .port_credit_returned k
  if (v + 2 ^ 16 - ret) % 2 ^ 16 ≥ 2 ^ 15 then d
  else
    let sent := d.get .port_credit_sent k
    let allot := d.get .port_credit_allotment_tx k
    if (v + 2 ^ 16 - sent) % 2 ^ 16 > allot then
      ((d.set .port_credit_returned k (sent + allot)).count n .CREDIT_OVERRUN).raise .CREDIT_OVERRUN (d.pathPort n)
    else d.set .port_credit_returned k v

/-- A CREDIT frame (R156, R157, R160, R161). -/
def Dev.creditRx (d : Dev) (n : Nat) (counts : List Nat) : Dev :=
  if d.linkStatus n = lsADMITTED then (List.range 8).foldl (fun d c => d.creditClass n c (counts.getD c 0)) d
  else if d.linkStatus n = lsCREDIT_INIT then
    if d.flag .h_credit_rcvd n then d
    else
      let d := (List.range 8).foldl (fun d c =>
        d.setMany [(.port_credit_allotment_tx, 8 * n + c, counts.getD c 0), (.port_credit_returned, 8 * n + c, counts.getD c 0)]) d
      (d.set .h_credit_rcvd n 1).tryAdmitWait n
  else d.count n .NOT_ADMITTED

/-- A CREDIT frame arrives (R156). -/
def execLcCredit (port : Fin 512) (counts : Vector (BitVec 16) 8) (s : State) : Host.Outcome State Fault Refusal :=
  s.runX (fun d => d.lcIn port (fun d => d.creditRx port (counts.toList.map (·.toNat))))

/-- The first frame queued on a port in a class. -/
def Dev.headEq (d : Dev) (out c : Nat) : Option EqEntry := d.egress.find? (fun e => e.out == out && e.cls == c)

/-- A class has stalled (R158): it has a frame waiting for credit. -/
def execCreditStall (port : Fin 512) (cls : Fin 8) (s : State) : Host.Outcome State Fault Refusal :=
  s.runX (fun d =>
    match d.headEq port cls with
    | some e =>
      if d.admitted port ∧ d.credit port cls < e.cells then
        let d := d.count port .CREDIT_STALL 1 { cls := some cls }
        (d.fence port fcCREDIT_STALL).raise .CREDIT_STALL (d.pathPort port) [.h cls]
      else d
    | none => d)

/-! ### Training, loss and restart (R160 to R165) -/

/-- Whether the tags of the five slots name each lane once and at most one spare (R160); 8 stands for a dark slot. -/
def tagsOk (tags : List Nat) : Bool :=
  (List.range 4).all (fun l => tags.count l == 1) && tags.count 7 ≤ 1 && tags.all (fun t => t < 4 || 7 ≤ t)

/-- Codeword lock has held for 1,024 codewords: the receive half is written from the tags and ID goes out (R160). -/
def Dev.trainLock (d : Dev) (n : Nat) (tags : List Nat) (skew : Nat) : Dev :=
  if d.linkStatus n ≠ lsTRAIN ∨ !d.upRole n ∨ (d.boundSvc n).isSome then d
  else if !tagsOk tags ∨ skew > 64 then d.count n .TRAIN_FAIL
  else
    let d := d.steerRx n ((List.range 4).map (fun l => tags.idxOf l))
    (d.setLink n lsIDENTIFY).sendId n

/-- Codeword lock in TRAIN (R160). -/
def execTrainCodewordLock (port : Fin 512) (tags : Vector (Fin 9) 5) (skewNs : Nat) (s : State) :
    Host.Outcome State Fault Refusal :=
  s.runX (fun d => d.trainLock port (tags.toList.map (·.val)) skewNs)

/-- ID or REV sent again (R160). -/
def execLinkIdResend (port : Fin 512) (s : State) : Host.Outcome State Fault Refusal :=
  s.runX (fun d => if d.linkStatus port = lsIDENTIFY then d.sendId port
    else if d.linkStatus port = lsREVISION then d.sendRev port else d)

/-- The link is lost: fenced, recorded, RESTART sent while the transmit side works, back to TRAIN (R163). -/
def Dev.linkLost (d : Dev) (n cause : Nat) : Dev :=
  let d := (d.fence n cause).raise (if cause = fcSILENT then .LINK_SILENT else .LINK_DOWN) (d.pathPort n)
  let d := if (d.boundSvc n).isSome || d.txRingsLocked n then d.sendRestart n cause else d
  d.toTrain n

/-- Codeword or CDR lock lost for 10 µs, in any link_status from TRAIN on (R163). -/
def execLinkLockLoss (port : Fin 512) (s : State) : Host.Outcome State Fault Refusal :=
  s.runX (fun d => if d.upRole port ∧ lsTRAIN ≤ d.linkStatus port then d.linkLost port fcLINK_LOSS else d)

/-- No link-control frame for 100 µs in CREDIT_INIT, ADMIT_WAIT or ADMITTED (R163). -/
def execLinkSilent (port : Fin 512) (s : State) : Host.Outcome State Fault Refusal :=
  s.runX (fun d => if lsCREDIT_INIT ≤ d.linkStatus port ∧ d.linkStatus port ≤ lsADMITTED then d.linkLost port fcSILENT else d)

/-- RESTART arrives (R163). -/
def execLcRestart (port : Fin 512) (_cause : Fin 16) (s : State) : Host.Outcome State Fault Refusal :=
  s.runX (fun d => d.lcIn port (fun d => if d.upRole port then (d.fence port fcLINK_LOSS).toTrain port else d))

/-- A reserved lc_type (R152). -/
def execLcTypeReserved (port : Fin 512) (lcType : BitVec 8) (s : State) : Host.Outcome State Fault Refusal :=
  s.runX (fun d => d.lcIn port (fun d =>
    if 1 ≤ lcType.toNat ∧ lcType.toNat ≤ 0x0C then d else d.count port .LC_UNKNOWN))

/-- No partner identity within bringup_timeout_ms of entering TRAIN (R161). -/
def execBringupTimeout (port : Fin 512) (s : State) : Host.Outcome State Fault Refusal :=
  s.runX (fun d =>
    if d.upRole port && decide (lsTRAIN ≤ d.linkStatus port) && decide (d.linkStatus port ≤ lsIDENTIFY) &&
        !d.flag .h_id_fresh port && d.planned port && d.get .port_status_stencil_status port != 5 then
      (d.set .port_status_stencil_status port 5).raise .LINK_ABSENT (d.pathPort port)
    else d)

/-- A port in SWAP_WAIT has waited 2 s (R61). -/
def execSwapWaitExpiry (port : Fin 512) (s : State) : Host.Outcome State Fault Refusal :=
  s.runX (fun d =>
    if d.get .port_status_stencil_status port = 3 then
      let w := d.get .h_swap_watch port
      d.mismatch port (d.firstFail port port) (if w = 0 then none else some (w - 1))
    else d)

/-- An uncorrectable codeword: frames that span it are bad; more than 16 in 1 ms fence and retrain the port (R164). -/
def Dev.fecUncorr (d : Dev) (n : Nat) : Dev :=
  if !d.admitted n then d
  else
    let d := d.count n .FEC_UNCORR
    let d : Dev := if (d.receiving.getOpt n).isSome then { d with rxSpoilt := d.rxSpoilt.set n false true } else d
    let past := ((d.fecTimes.get n []).filter (fun t => d.localNs - t < 1000000)) ++ [d.localNs]
    if past.length > 16 then
      let d : Dev := { d with fecTimes := d.fecTimes.set n [] [] }
      ((d.fence n fcFEC_FAIL).raise .LINK_FEC_FAIL (d.pathPort n)).toTrain n
    else { d with fecTimes := d.fecTimes.set n [] past }

/-- An uncorrectable codeword (R164). -/
def execFecUncorrCodeword (port : Fin 512) (s : State) : Host.Outcome State Fault Refusal := s.runX (fun d => d.fecUncorr port)

/-- The corrected-symbol rate of the last second, above 1e-4 or not: one record an episode (R164). -/
def execFecDegrade (port : Fin 512) (above : Bool) (s : State) : Host.Outcome State Fault Refusal :=
  s.runX (fun d =>
    if !d.admitted port then d
    else if above then
      if d.flag .h_fec_degraded port then d
      else (d.set .h_fec_degraded port 1).raise .FEC_DEGRADE (d.pathPort port)
    else d.set .h_fec_degraded port 0)

/-- Two idle words in a row while the receiver hunts (R148). -/
def execIdleWordAccept (port : Fin 512) (s : State) : Host.Outcome State Fault Refusal :=
  s.runX (fun d => d.set .h_hunting port 0)

/-- Framing is lost, or a word is passed over in the hunt (R148). -/
def Dev.hunt (d : Dev) (n : Nat) : Dev :=
  if d.flag .h_hunting n then d.count n .HUNT_BYTES 4
  else ((d.count n .HDR_CRC).raise .HDR_INVALID (d.pathPort n)).set .h_hunting n 1

/-- A unit with an invalid ver, or a link-control frame with a bad CRC-32C (R148). -/
def execInvalidUnitRx (port : Fin 512) (s : State) : Host.Outcome State Fault Refusal :=
  s.runX (fun d => if lsIDENTIFY ≤ d.linkStatus port then d.hunt port else d)

/-! ### Indirection (R51) -/

/-- A rebalance: the table as at first fill; an entry that gets another link waits for its earlier ones (R51). -/
def Dev.rebalance (d : Dev) (key : Nat) : Dev :=
  let old := d.indir.get key []
  let new := fillTable (d.eligible key)
  let t := (new.zip (List.range 256)).map (fun e =>
    match old[e.2]? with
    | some o =>
      if o.link = e.1.link then o else d.remapEntry key e.2 o e.1.link
    | none => e.1)
  let moved := countBelow 256 (fun i => match old[i]?, new[i]? with | some a, some b => a.link != b.link | _, _ => false)
  let d : Dev := { d with indir := d.indir.set key [] t }
  if moved = 0 then d else d.count ((d.bundlePorts key).headD 0) .PIN_REMAP moved

/-- The earlier links of a reassigned entry that hold none of its frames any longer are not waited for (R51). -/
def execPinEntryRelease (bundle : Fin 12800) (entry : Fin 256) (s : State) : Host.Outcome State Fault Refusal :=
  s.runX (fun d =>
    let t := d.indir.get bundle []
    match t[entry.val]? with
    | some e => { d with indir := d.indir.set bundle [] (t.set entry { e with old := e.old.filter (d.entryQueued bundle entry) }) }
    | none => d)

/-! ### Port commands (R172) -/

/-- A port command: the device and the result (R172). NOP leaves everything as it is; BUSY and QUARANTINED change the result
alone. RESTART (DEDUCED, log entry 62): an ANALYSIS port trains no link and is back in TX_ONLY while its rings are locked (R161); a
DISABLED or EXPRESS_ONLY port is dark and stays DOWN (R43, R159). -/
def Dev.portCmd (d : Dev) (n cmd : Nat) : Dev × Nat :=
  let ls := d.linkStatus n
  let (d', res) : Dev × Nat :=
    match cmd with
    | 1 => (d.fence n fcFABRIC, 0)
    | 2 =>
      let stall := d.bitOf .port_status_fence_mask n fcCREDIT_STALL
      if d.bitOf .port_status_fence_mask n fcFABRIC || stall then
        let d := (d.putB .port_status_fence_mask n fcFABRIC false).unfence n fcCREDIT_STALL
        (if stall && d.upRole n then (d.sendRestart n 0).toTrain n else d, 0)
      else (d, 1)
    | 3 => if ls = lsADMIT_WAIT then (d.sendAdmit n, 0) else if ls = lsQUARANTINE then (d, 3) else (d, 1)
    | 4 =>
      if ls = lsHELD then
        let d := d.setMany [(.port_stencil_0_nbr_kind, n, d.get .port_nbr_0_nbr_kind n),
          (.port_stencil_0_nbr_plane, n, d.get .port_nbr_0_nbr_plane n), (.port_stencil_0_nbr_id, n, d.get .port_nbr_0_nbr_id n),
          (.port_stencil_0_far_port, n, d.get .port_nbr_0_far_port n),
          (.port_stencil_1_nbr_serial, n, d.get .port_nbr_1_nbr_serial n), (.port_stencil_0_valid, n, 1)]
        if d.firstFail n n = 0 then ((d.stencilMatch n).heldRevNow n, 0) else (d.mismatch n (d.firstFail n n) none, 2)
      else (d, 1)
    | 5 => if ls = lsQUARANTINE then ((d.setLink n lsREVISION).sendRev n, 0) else (d, 1)
    | 6 =>
      if ls = lsADMITTED ∧ !d.fenced n then (d, 1)
      else if d.upRole n then ((d.sendRestart n 0).toTrain n, 0)
      else if d.role n = roleANALYSIS then
        let d := ((d.sendRestart n 0).abortRx n).setLink n lsTRAIN
        (if (d.boundSvc n).isSome then d.setLink n ls else (d.setLink n lsDOWN).refreshLink n, 0)
      else (d, 0)
    | 7 => match d.bundleKey n with
      | some k => (d.rebalance k, 0)
      | none => (d, 1)
    | _ => (d, 0)
  if cmd = 0 then (d, 0)
  else if res = 1 ∨ res = 3 then (d.set .port_cmd_status_result n res, res)
  else (d'.setMany [(.port_cmd_status_last_cmd, n, cmd), (.port_cmd_status_result, n, res)], res)

/-- A write of PORT_CMD. -/
def portCmdWrite (m : Mark) (n cmd : Nat) (s : State) : Host.Outcome State Fault Refusal :=
  s.runX (fun d => d.hostWrite m rowPORT_CMD n cmd (fun _ _ _ d => (d.portCmd n cmd).1))

/-- NOP (R172). -/
def execPortCmdNop (m : Mark) (port : Fin 512) (s : State) : Host.Outcome State Fault Refusal := portCmdWrite m port 0 s
/-- FENCE (R162). -/
def execPortCmdFence (m : Mark) (port : Fin 512) (s : State) : Host.Outcome State Fault Refusal := portCmdWrite m port 1 s
/-- UNFENCE (R172). -/
def execPortCmdUnfence (m : Mark) (port : Fin 512) (s : State) : Host.Outcome State Fault Refusal := portCmdWrite m port 2 s
/-- ADMIT (R172). -/
def execPortCmdAdmit (m : Mark) (port : Fin 512) (s : State) : Host.Outcome State Fault Refusal := portCmdWrite m port 3 s
/-- ACCEPT (R62). -/
def execPortCmdAccept (m : Mark) (port : Fin 512) (s : State) : Host.Outcome State Fault Refusal := portCmdWrite m port 4 s
/-- RETRY (R64). -/
def execPortCmdRetry (m : Mark) (port : Fin 512) (s : State) : Host.Outcome State Fault Refusal := portCmdWrite m port 5 s
/-- RESTART (R163). -/
def execPortCmdRestart (m : Mark) (port : Fin 512) (s : State) : Host.Outcome State Fault Refusal := portCmdWrite m port 6 s
/-- REBALANCE (R51). -/
def execPortCmdRebalance (m : Mark) (port : Fin 512) (s : State) : Host.Outcome State Fault Refusal := portCmdWrite m port 7 s

/-! ### PORT_CFG and the stencil registers (R44, R45, R63) -/

/-- Whether a role is refused on port `n` (R19, R44, R48, R550). -/
def Dev.roleRefused (d : Dev) (n role axis target bundle : Nat) : Bool :=
  let active := role != roleDISABLED && role != roleEXPRESS_ONLY
  let key := if role = roleAXIS then some (512 + 4096 * axis + target)
    else if role = roleDOWN ∨ role = roleSERVICE then some bundle else none
  (active && !(d.quadOn n && d.domainOn 8 && d.domainOn (11 + n / 64))) ||
  ((d.boundSvc n).isSome && !(role == roleDISABLED || role == roleSERVICE || role == roleANALYSIS)) ||
  (role == roleAXIS && (!d.flag .sys_fabric_size_fabric_mode || decide (d.get .sys_fabric_size_size axis ≤ target) ||
    d.get .sys_fabric_coord_coord axis == target)) ||
  (match key with
   | some k => decide (64 ≤ ((d.bundlePorts k).filter (· != n)).length)
   | none => false)

/-- Enabled PORT mirror sessions toward port `n` are disabled when its role changes (R227). -/
def Dev.mirrorDrop (d : Dev) (n : Nat) : Dev :=
  (List.range 16).foldl (fun d s =>
    if d.flag .xbar_mir_cfg_enable s && !d.flag .xbar_mir_cfg_dest_kind s && d.get .xbar_mir_dest_dest_port s == n then
      (d.set .xbar_mir_cfg_enable s 0).raise .MIRROR_CFG_REFUSED d.pathDevice
    else d) d

/-- A write of PORT_CFG with its refusal: 0 taken, 4 ROLE_BUSY, 5 ROLE_REFUSED (R44, R45, R48, R169). A port that waits for
admission when auto_admit is set sends ADMIT then (R160, step 6). -/
def Dev.portCfgWrite (d : Dev) (n v : Nat) (bad : List Nat) : Dev × Nat :=
  let d := d.setMany [(.port_cfg_auto_admit, n, slice v 8 1), (.port_cfg_ctrl_from_down, n, slice v 9 1)]
  let d := if slice v 8 1 = 1 ∧ d.linkStatus n = lsADMIT_WAIT then d.sendAdmit n else d
  let role := if bad.contains 0 then d.role n else slice v 0 3
  let axis := if bad.contains 16 then d.get .port_cfg_axis n else slice v 16 2
  let target := slice v 20 12
  let bundle := slice v 33 9
  if role = d.role n ∧ axis = d.get .port_cfg_axis n ∧ target = d.get .port_cfg_target n ∧ bundle = d.get .port_cfg_bundle n
  then (d, 0)
  else if !(d.fenced n || d.role n == roleDISABLED) then (d.raise .ROLE_BUSY (d.pathPort n), 4)
  else if d.roleRefused n role axis target bundle then (d.raise .ROLE_REFUSED (d.pathPort n), 5)
  else
    let changed := role != d.role n
    let oldKey := d.bundleKey n
    let d := if changed then (d.mirrorDrop n).xprTearAll 5 (fun d c => (d.circPorts c).contains n) else d
    let d := d.setMany [(.port_cfg_role, n, role), (.port_cfg_axis, n, axis), (.port_cfg_target, n, target),
      (.port_cfg_bundle, n, bundle), (.port_status_stencil_status, n, 0), (.port_nbr_0_far_port, n, 0),
      (.port_nbr_0_nbr_id, n, 0), (.port_nbr_0_nbr_plane, n, 0), (.port_nbr_0_nbr_kind, n, 0), (.port_nbr_1_nbr_serial, n, 0),
      (.port_nbr_ext_partner_rev, n, 0), (.port_nbr_ext_grid, n, 0), (.port_nbr_ext_coord_x, n, 0),
      (.port_nbr_ext_coord_y, n, 0), (.port_nbr_ext_coord_z, n, 0), (.h_id_known, n, 0), (.h_id_fresh, n, 0),
      (.h_rev_known, n, 0), (.h_swap_watch, n, 0), (.h_admitted_once, n, 0), (.h_admit_sent, n, 0), (.h_admit_rcvd, n, 0)]
    let d : Dev := { d.setLink n lsDOWN with heldRev := d.heldRev.set n none none }
    let d := match oldKey with | some k => d.refreshBundle k | none => d
    let d := d.refreshPort n
    let d := (d.octetCheck (n / 8)).engineRings (n / 64)
    match d.boundSvc n with
    | some s =>
      (if d.upRole n then d.setLink n lsTRAIN
        else if role = roleANALYSIS ∧ d.flag .kcl_svc_status_block_lock s then d.setLink n lsTX_ONLY else d, 0)
    | none => (d, 0)

/-- A write of PORT_CFG (R45). -/
def execPortCfgWrite (m : Mark) (port : Fin 512) (v : Word) (s : State) : Host.Outcome State Fault Refusal :=
  s.runX (fun d => d.hostWrite m rowPORT_CFG port v.toNat (fun _ v bad d => (d.portCfgWrite port v bad).1))

/-- After a rewrite of the stencil entry of port `n` (R60, R63): an admitted port is compared at once, a held one anew. -/
def Dev.stencilWritten (d : Dev) (n : Nat) : Dev :=
  if d.linkStatus n = lsHELD then (d.compare n).heldRevNow n
  else if d.admitted n ∧ d.flag .h_id_known n then
    if d.passes n n then
      if d.get .port_status_stencil_status n = 1 then d
      else ((d.set .port_status_stencil_status n 1).watchersOf n).unfence n fcSTENCIL
    else (d.fence n fcSTENCIL).mismatch n (if d.planned n then d.firstFail n n else 0) none
  else d

/-- The register row of stencil word `w`. -/
def stencilRow (w : Fin 4) : RegRow :=
  match w with
  | 0 => rowPORT_STENCIL_0 | 1 => rowPORT_STENCIL_1 | 2 => rowPORT_STENCIL_2 | 3 => rowPORT_STENCIL_3

/-- A write of a stencil word (R63). -/
def execPortStencilWrite (m : Mark) (port : Fin 512) (w : Fin 4) (v : Word) (s : State) :
    Host.Outcome State Fault Refusal :=
  s.runX (fun d => d.hostWrite m (stencilRow w) port v.toNat (fun _ v bad d =>
    (d.writeFields (stencilRow w) port v bad).stencilWritten port))

end Sys2Proof.Machine
end

