-- ==== Sys2Proof/Machine/Power.lean ====
section
/-! DEFINITION. Power domains: what a domain holds, requests to switch one, the end of a switch (R26 to R30); fabric position
and shape (R40 to R42); die-to-die links (R16). -/

namespace Sys2Proof.Machine

/-! ### What a domain holds (R26, R30) -/

/-- Whether a copy of a register lies in domain `k`; `core`: what PD2 to PD5 hold alike is meant too (R228). -/
def DomRule.within (r : DomRule) (k : Nat) (core : Bool) (i : Nat) : Bool :=
  match r.domain i with
  | some j => j == k
  | none => core

/-- Every register and internal scalar of domain `k` at its reset value. -/
def Dev.resetFields (d : Dev) (k : Nat) (core : Bool) : Dev :=
  let d := regTable.foldl (fun d r => r.fields.foldl (fun d f => d.clearIdx f.fld (fun j => r.dom.within k core (j / f.nsub))) d) d
  hiddenTable.foldl (fun d h => d.clearIdx h.1 (fun i => h.2.within k core i)) d

/-- The domain that owns a read over the KCL (R586); none: the always-on island. -/
def KPurpose.domain : KPurpose → Nat
  | .collImage _ => 8
  | .wraImage _ => 8
  | .ringHead => 0
  | .sec => 0
  | _ => 1

/-- Frames and queue entries of the ports in `gone` are dropped with their cells. -/
def Dev.dropPorts (d : Dev) (gone : Nat → Bool) : Dev :=
  let mine := (d.frames.filter (fun f => gone f.input)).map (·.id)
  let dead (fid : Nat) : Bool := mine.contains fid
  let d := { d with
    waits := (d.waits.filter (fun (w : Wait) => !dead w.fid)).map (fun (w : Wait) => match w.target with
      | .mcast l => { w with target := .mcast (l.filter (fun p => !gone p)) }
      | _ => w)
    frames := d.frames.filter (fun (f : Frame) => !dead f.id)
    sending := d.sending.keep (fun n => !gone n), lcWait := d.lcWait.keep (fun n => !gone n), receiving := d.receiving.keep (fun n => !gone n) }
  let outs := d.egress.filter (fun (e : EqEntry) => gone e.out || dead e.fid)
  let d := { d with egress := d.egress.filter (fun (e : EqEntry) => !(gone e.out || dead e.fid)) }
  outs.foldl (fun d e => d.releaseRef e.fid) d

/-- What domain `k` holds beside its registers is lost. `last`: no core quadrant is on any longer. -/
def Dev.resetHeld (d : Dev) (k : Nat) (last : Bool) : Dev :=
  let d := { d with reads := d.reads.filter (fun r => r.purpose.domain != k || k == 0),
                    readWaits := d.readWaits.filter (fun r => r.1.purpose.domain != k || k == 0) }
  if k = 1 then
    { d with queues := {}, dma := {}, ops := [], progs := {}, progLoads := {}, dumpRecs := [] }
  else if 2 ≤ k ∧ k ≤ 5 then
    let mine (n : Nat) : Bool := n / 128 + 2 == k
    let d := if last then
        { d with frames := [], waits := [], egress := [], sending := {}, lcWait := {}, receiving := {}, indir := {}, rr := {}, echoes := {} }
      else d.dropPorts mine
    { d with heldRev := d.heldRev.keep (fun n => !mine n), rxSpoilt := d.rxSpoilt.keep (fun n => !mine n),
             gates := d.gates.keep (fun i => !mine (i / 512)), deficits := d.deficits.keep (fun i => !mine (i / 8)) }
  else if k = 6 then { d with shadows := [], collOut := [] }
  else if k = 8 then
    let d := d.collLoads.entries.foldl (fun d e => d.opEnd (.collLoad e.1) 13) d
    let d := d.wraLoads.entries.foldl (fun d e => d.opEnd (.wraLoad e.1) 39) d
    { d with ftab := {}, swSkipped := [], groups := {}, mcWords := [], ctxs := {}, collLoads := {}, descs := {}, wraLoads := {},
             gathers := [], fops := [], fpushes := [], fdirty := {}, fmemOut := [] }
  else if k = 9 then { d with chUncorr := {} }
  else if k = 10 then { d with svcFifo := {} }
  else if 11 ≤ k ∧ k ≤ 18 then
    let e := k - 11
    { d with fecTimes := d.fecTimes.keep (fun n => n / 64 != e), dips := d.dips.keep (fun i => i / 640 != e),
             relocks := d.relocks.keep (fun i => i / 640 != e), seqQueue := d.seqQueue.filter (fun q => q.octet / 8 != e),
             pwrExcess := d.pwrExcess.filter (fun x => x.lane / 256 != e) }
  else d

/-- Domain `k` loses all it holds (R30). -/
def Dev.resetDomain (d : Dev) (k : Nat) : Dev :=
  let quad := decide (2 ≤ k ∧ k ≤ 5)
  let last := quad && (List.range 4).all (fun q => q + 2 == k || !d.bitOf .sys_pd_status_on 0 (q + 2))
  (d.resetFields k last).resetHeld k last

/-- The wear, selection and parked slots of engine `e` read from the persistent store (R112, R122, R527). -/
def Dev.engineStore (d : Dev) (e : Nat) : Dev :=
  let d := (List.range 80).foldl (fun d j =>
    let k := 80 * e + j
    d.setMany [(.las_dfb_wear_lit_minutes, k, d.get .p_lit_minutes k), (.las_dfb_wear_eq_hours, k, d.get .p_eq_hours k),
      (.h_eq_num, k, d.get .p_eq_num k), (.las_dfb_trend_peak_bias, k, d.get .p_peak_bias k),
      (.las_dfb_trend_bias_slope, k, d.get .p_bias_slope k)]) d
  (List.range 8).foldl (fun d j =>
    let o := 8 * e + j
    d.setMany [(.las_oct_status_standby_active, o, d.get .p_standby_active o), (.las_oct_status_parked, o, d.get .p_parked o)]) d

/-- What a domain that has been switched on starts: counters count from here (R488), windows are partial (R495), the wear of an
engine is read (R527), each LPDDR channel has been trained or has failed (R386, R390), rings that are needed go (R74). -/
def Dev.domainStart (d : Dev) (k trained : Nat) : Dev :=
  let d := (List.range 557).foldl (fun d b => if blockDomain b = k then d.set .h_cycle_t0 b d.localNs else d) d
  if 2 ≤ k ∧ k ≤ 5 then
    let d := (List.range 128).foldl (fun d i => d.set .h_win_partial (128 * (k - 2) + i) 1) d
    (List.range 2).foldl (fun d j => if d.domainOn (11 + 2 * (k - 2) + j) then d.engineRings (2 * (k - 2) + j) else d) d
  else if k = 9 then
    (List.range 64).foldl (fun d c =>
      if bit trained c then d.set .memc_ch_status_trained c 1
      else (d.set .memc_ch_status_failed c 1).raise .MEMC_CH_FAIL (d.pathDevice ucLPDDR_CHANNEL c) [.h c]) d
  else if 11 ≤ k ∧ k ≤ 18 then d.engineStore (k - 11)
  else d

/-! ### Requests (R26 to R29, R587) -/

/-- The domains a domain requires (R26). -/
def pdNeeds (k : Nat) : List Nat :=
  if k = 1 ∨ k = 10 then [0] else if 2 ≤ k ∧ k ≤ 6 then [1, 8] else if k = 7 then [6] else if k = 8 then [1]
  else if k = 9 then [8] else if 11 ≤ k ∧ k ≤ 19 then [1] else []

def Dev.pdOn (d : Dev) (k : Nat) : Bool := d.bitOf .sys_pd_status_on 0 k
def Dev.pdBusy (d : Dev) (k : Nat) : Bool := d.bitOf .sys_pd_status_busy 0 k

/-- What blocks a need that domain `r` be on, or off (R28): itself, or its switching. -/
def Dev.pdNeed (d : Dev) (on : Bool) (r : Nat) : Option Nat :=
  if d.pdBusy r then some (0x200 + r) else if d.pdOn r = on then none else some r

/-- Whether a loaded context or descriptor uses the WRA (R29). -/
def Dev.wraInUse (d : Dev) : Bool :=
  d.loadedCtxs.any (fun c => hxWra c.2.hdr) || d.loadedDescs.any (fun x => dxKind x.2.words != dkGATHER_CMB)

/-- The condition of R27 on switching domain `k` off: the first that blocks it. -/
def Dev.pdOffCond (d : Dev) (k : Nat) : Option Nat :=
  let ports (n len : Nat) (ok : Nat → Bool) : Bool := (List.range len).all (fun i => ok (d.role (n + i)))
  if k = 1 then ((List.range 20).filter (fun r => r != 0 && r != 1 && r != 10)).findSome? (d.pdNeed false)
  else if 2 ≤ k ∧ k ≤ 5 then
    if ports (128 * (k - 2)) 128 (fun r => r == roleDISABLED || r == roleEXPRESS_ONLY) then none else some 0x100
  else if k = 6 then (if d.loadedCtxs.isEmpty then d.pdNeed false 7 else some 0x101)
  else if k = 7 then (if d.wraInUse then some 0x102 else none)
  else if k = 8 then [2, 3, 4, 5, 6, 7, 9].findSome? (d.pdNeed false)
  else if k = 9 then (if (List.range 409).any (fun f => d.fstate f != 0) then some 0x103 else none)
  else if 11 ≤ k ∧ k ≤ 18 then
    let e := k - 11
    if !ports (64 * e) 64 (fun r => r == roleDISABLED) then some 0x100
    else if (List.range 64).any (fun c => d.circBusy c && (d.circPorts c).any (fun n => n / 64 == e)) then some 0x104
    else if (List.range 8).any (fun j => d.seqRuns (8 * e + j)) then some 0x105 else none
  else if k = 19 then (if (List.range 64).any (fun c => d.circBusy c) then some 0x104 else none)
  else none

/-- What blocks a request to switch domain `k`, as R587 codes it. -/
def Dev.pdBlocker (d : Dev) (k : Nat) (on : Bool) : Option Nat :=
  if k = 0 ∨ k = 10 then some 0x106
  else if d.pdBusy k then some (0x200 + k)
  else if k = 7 ∧ d.wraInUse = true then some 0x102
  else if d.pdOn k = on then none
  else if on then (pdNeeds k).findSome? (d.pdNeed true)
  else d.pdOffCond k

/-- A request of requester `req` to switch domain `k`; false where it is refused (R28). A request for the state the domain is in
changes nothing (log entry 20). -/
def Dev.pdRequest (d : Dev) (k : Nat) (on : Bool) (req : Nat) : Dev × Bool :=
  match d.pdBlocker k on with
  | some b => (d.raise .PD_DEP_REFUSED d.pathDevice [.h k, .h (if on then 1 else 2), .h b, .h req], false)
  | none =>
    if d.pdOn k = on then (d, true)
    else
      let d := (d.putB .sys_pd_status_busy 0 k true).putB .h_pd_target 0 k on
      (if on then d else d.putB .sys_pd_status_on 0 k false, true)

/-- Domain `k` finishes switching (R28, R30). A quadrant that goes off keeps the EXPRESS_ONLY roles of its ports until it is on
again. -/
def Dev.pdDone (d : Dev) (k trained : Nat) : Dev :=
  if !d.pdBusy k then d
  else
    let on := d.bitOf .h_pd_target 0 k
    let roles := d.flds.get Fld.port_cfg_role.ctorIdx {}
    let d := (d.putB .sys_pd_status_busy 0 k false).resetDomain k
    let d := if on then (d.putB .sys_pd_status_on 0 k true).domainStart k trained
      else if 2 ≤ k ∧ k ≤ 5 then { d with flds := d.flds.set Fld.port_cfg_role.ctorIdx {} roles }
      else d
    d.opEnd (.power k on) 0

/-- A SYS_PD_CMD write. -/
def State.pdCmd (s : State) (m : Mark) (cmd k : Nat) (f : Nat → Dev → Dev) : Host.Outcome State Fault Refusal :=
  s.runX (fun d => d.hostWrite m rowSYS_PD_CMD 0 (cmd * 2 ^ 62 + k) (fun req _ _ d => f req d))

/-- PD_CMD_NOP (R540). -/
def execPdCmdNop (m : Mark) (domain : Fin 32) (s : State) : Host.Outcome State Fault Refusal := s.pdCmd m 0 domain (fun _ d => d)

/-- PD_CMD_ON (R28). -/
def execPdCmdOn (m : Mark) (domain : Fin 32) (s : State) : Host.Outcome State Fault Refusal :=
  s.pdCmd m 1 domain (fun req d => (d.pdRequest domain true req).1)

/-- PD_CMD_OFF (R28). -/
def execPdCmdOff (m : Mark) (domain : Fin 32) (s : State) : Host.Outcome State Fault Refusal :=
  s.pdCmd m 2 domain (fun req d => (d.pdRequest domain false req).1)

/-- PD_SWITCH_DONE; `trained`: the LPDDR channels that passed their training, for PD9 (R386). -/
def execPdSwitchDone (domain : Fin 20) (trained : BitVec 64) (s : State) : Host.Outcome State Fault Refusal :=
  s.runX (fun d => d.pdDone domain trained.toNat)

/-! ### Fabric position and shape (R40 to R42) -/

/-- Whether a port is in use (R42). -/
def Dev.portInUse (d : Dev) (n : Nat) : Bool :=
  d.quadOn n && d.upRole n && d.linkStatus n != lsDOWN && !d.fenced n

/-- The first condition of R42 that the shape in `d` fails, 0 for none. -/
def Dev.shapeFail (d : Dev) : Nat :=
  let grid := d.flag .sys_fabric_size_fabric_mode
  let size (i : Nat) : Nat := d.get .sys_fabric_size_size i
  let coord (i : Nat) : Nat := d.get .sys_fabric_coord_coord i
  let prod := size 0 * size 1 * size 2
  if (List.range 512).any d.portInUse then 1
  else if !grid && (d.loadedCtxs.any (fun c => hxInner c.2.hdr || c.2.map.any (fun e => meKind e == 2)) ||
      (List.range 409).any (fun f => d.fstate f != 0 && d.frole f != 0)) then 2
  else if !((List.range 3).all (fun i => decide (1 ≤ size i) && decide (size i ≤ 4096)) &&
      (!grid || (decide (2 ≤ prod) && decide (prod ≤ 4096) && (List.range 3).all (fun i => decide (coord i < size i))))) then 3
  else 0

/-- A write of a register of the shape: carried out whole or refused (R42, R540). -/
def Dev.shapeWrite (d : Dev) (r : RegRow) (v : Nat) (bad : List Nat) : Dev :=
  let d' := d.writeFields r 0 v bad
  match d'.shapeFail with
  | 0 => d'
  | c => d.raise .SHAPE_REFUSED d.pathDevice [.h c]

/-- SYS_FABRIC_POS_WRITE (R40). -/
def execSysFabricPosWrite (m : Mark) (v : Word) (s : State) : Host.Outcome State Fault Refusal :=
  s.run (fun d => d.hostWrite m rowSYS_FABRIC_POS 0 v.toNat (fun _ v bad d => d.writeFields rowSYS_FABRIC_POS 0 v bad))

/-- SYS_FABRIC_SIZE_WRITE (R42). -/
def execSysFabricSizeWrite (m : Mark) (v : Word) (s : State) : Host.Outcome State Fault Refusal :=
  s.run (fun d => d.hostWrite m rowSYS_FABRIC_SIZE 0 v.toNat (fun _ v bad d => d.shapeWrite rowSYS_FABRIC_SIZE v bad))

/-- SYS_FABRIC_COORD_WRITE (R42). -/
def execSysFabricCoordWrite (m : Mark) (v : Word) (s : State) : Host.Outcome State Fault Refusal :=
  s.run (fun d => d.hostWrite m rowSYS_FABRIC_COORD 0 v.toNat (fun _ v bad d => d.shapeWrite rowSYS_FABRIC_COORD v bad))

/-! ### Die-to-die links (R16) -/

/-- The counter block of die-to-die link `k`: the engine of an SCD–EIC link, the device for SCD–MSD. -/
def d2dBlock (k : Nat) : Nat := if k < 8 then blkEngine k else blkDevice

/-- An event of link `k`: in its engine's block, or in the device block (R489). -/
def Dev.d2dCount (d : Dev) (k : Nat) (eng dev : Ev) : Dev := d.count (d2dBlock k) (if k < 8 then eng else dev)

/-- The fifth attempt has failed: the record, then the fences (R16). -/
def Dev.d2dFail (d : Dev) (k : Nat) : Dev :=
  let d := d.set .h_d2d_replays k 0
  if k < 8 then (List.range 64).foldl (fun d i => d.fence (64 * k + i) fcD2D) (d.raiseRaw .D2D_FAIL 4 (d.pathEngine k) (packItems [.h k]) 0)
  else (List.range 512).foldl (fun d n => d.fence n fcD2D) (d.rootsLost.raiseRaw .D2D_FAIL 6 d.pathDevice (packItems [.h k]) 0)

/-- A replay begins (R16). -/
def Dev.d2dReplay (d : Dev) (k : Nat) : Dev := (d.incr .h_d2d_replays k).d2dCount k .D2D_REPLAY .D2D_REPLAY_DEV

/-- D2D_FLIT_UNCORR: the first replay (R16). DESIGN CHOICE (log entry 60): the spec does not say what a further bad flit does while a
replay of the link runs; it starts none and the one under way goes on. -/
def execD2dFlitUncorr (link : Fin 9) (s : State) : Host.Outcome State Fault Refusal :=
  s.runX (fun d => if d.get .h_d2d_replays link = 0 then d.d2dReplay link else d)

/-- D2D_REPLAY_RESULT: up to four replays, then the link fails. -/
def execD2dReplayResult (link : Fin 9) (good : Bool) (s : State) : Host.Outcome State Fault Refusal :=
  s.runX (fun d =>
    let n := d.get .h_d2d_replays link
    if n = 0 then d else if good then d.set .h_d2d_replays link 0 else if n < 4 then d.d2dReplay link else d.d2dFail link)

/-- D2D_CORR. -/
def execD2dCorr (link : Fin 9) (s : State) : Host.Outcome State Fault Refusal :=
  s.runX (fun d => d.d2dCount link .D2D_CORR .D2D_CORR_DEV)

end Sys2Proof.Machine
end

