-- ==== Sys2Proof/Machine/Ras.lean ====
section
/-! DEFINITION. The record bank (R504 to R510, R516), counter snapshots, dumps and windows (R495 to R500), watched lines of
the two rings, and the commands of chapters 18 and 19. -/

namespace Sys2Proof.Machine

/-! ### Records as words (R504) -/

/-- Word 0 of a record, `extra` being its other flag bits. -/
def Rec.word0 (r : Rec) (extra : Nat := 0) : Nat :=
  r.code.num * 2 ^ 48 + r.sev * 2 ^ 45 + (b2n r.degraded + 2 * b2n r.restored + 4 * b2n r.kept) * 2 ^ 32 + extra + r.seq

/-- The eight words. -/
def Rec.words (r : Rec) (extra : Nat := 0) : List Nat :=
  [r.word0 extra, r.path, r.time, r.job * 2 ^ 48 + min r.occ 65535 * 2 ^ 32, r.d4, r.d5, r.d6, r.d7]

/-! ### The ring copy (R510) -/

/-- Records of the record ring. -/
def Dev.ringSize (d : Dev) : Nat := 2 ^ d.get .ras_ctrl_ring_size_log2

/-- The first waiting copy is written over the KCL at the next place. -/
def Dev.ringIssue (d : Dev) : Dev :=
  match d.ringPend with
  | [] => d
  | r :: _ =>
    let a := d.get .ras_ring_base_ring_base / 64 * 64 + d.get .h_ring_t % d.ringSize * 64
    d.emit (.kclWrite reqRECORD a ((r.words (d.get .ras_ring_status_phase * 2 ^ 39)).map (leBytes 8)).flatten)

/-- A record written to the bank is offered to the ring. -/
def Dev.ringOffer (d : Dev) (r : Rec) : Dev :=
  if !d.flag .ras_ctrl_ring_en || decide (r.sev < d.get .ras_ctrl_ring_min_sev) then d
  else if d.get .h_ring_t + d.ringPend.length ≥ d.get .h_ring_head + d.ringSize then d.incr .ras_ring_status_ring_skipped 0
  else
    let first := d.ringPend.isEmpty
    let d := { d with ringPend := d.ringPend ++ [r] }
    if first then d.ringIssue else d

/-- The KCL write of the first copy is answered (R510). -/
def Dev.ringAnswer (d : Dev) (ok : Bool) : Dev :=
  match d.ringPend with
  | [] => d
  | _ :: rest =>
    let d := { d with ringPend := rest }
    let t := d.get .h_ring_t
    let d := if ok then
        d.setMany [(.h_ring_t, 0, t + 1), (.ras_ring_status_tail, 0, t + 1),
          (.ras_ring_status_phase, 0, (1 + (t + 1) / d.ringSize) % 2)]
      else d.incr .ras_ring_status_ring_skipped 0
    d.ringIssue

/-! ### The bank (R506, R510, R516) -/

/-- The lane or column and the band inputs of a record that carries a signature: lane, temp in 1/8 °C, island load (R315,
R342, R516). CMB_SHADOW_MISMATCH carries several; the delivering computation's, whose unit its path names, is traced (log
entry 40). -/
def Rec.trace (r : Rec) : Option (Nat × Int × Nat) :=
  let cmb (sig : Nat) : Option (Nat × Int × Nat) := some (slice sig 0 5, sgn 11 (slice sig 53 11), slice sig 20 8)
  if r.code = .CMB_RESIDUE then cmb r.d7
  else if r.code = .CMB_SHADOW_MISMATCH then cmb r.d5
  else if r.code = .WRA_RESIDUE ∨ r.code = .WRA_GIVE_UP then some (slice r.d7 0 8, sgn 12 (slice r.d7 52 12), slice r.d7 24 8)
  else none

/-- A record counted in its trace bin (R516). -/
def Dev.traceCount (d : Dev) (r : Rec) : Dev :=
  match r.trace with
  | none => d
  | some (lane, temp, load) =>
    let want := d.get .ras_trace_cfg_lane
    if d.flag .ras_trace_cfg_enable ∧ r.code.num = d.get .ras_trace_cfg_code ∧ slice r.path 12 4 = d.get .ras_trace_cfg_unit_class ∧
        slice r.path 0 12 = d.get .ras_trace_cfg_unit_index ∧ (want = 255 ∨ want = lane) then
      let step : Int := ((max 1 (d.get .ras_trace_cfg_temp_step) * 8 : Nat) : Int)
      let band := (temp - sgn 8 (d.get .ras_trace_cfg_temp_base) * 8) / step
      d.incrSat .ras_trace_bin_bin (4 * (max 0 (min 7 band)).toNat + load / 64)
    else d

/-- Alert bits of I2C_STATUS raised; the pin is low while any is 1 (R572, R574). -/
def Dev.alert (d : Dev) (k : Nat) : Dev :=
  let d := if d.get .i2c_status_alert = 0 then d.emit (.pin "I2C_ALERT_N" 0) else d
  d.putB .i2c_status_alert 0 k true

/-- A record is written to the bank with the next sequence number (R504, R506, R510). -/
def Dev.bankWrite (d : Dev) (r : Rec) : Dev :=
  let seq := d.get .ras_status_next_seq
  let wants := decide (4 ≤ r.sev) || r.code.keepAlways
  let room := decide (d.keep.length < 256)
  let r := { r with seq := seq, kept := wants && room }
  let d := { (d.incr .ras_status_next_seq 0) with bank := d.bank.set (seq % 3840) none (some r) }
  let d := if wants && room then { d with keep := d.keep ++ [r], keepStore := d.keepStore ++ [r] } else d
  let d := if wants && !room && !d.flag .h_keep_full then (d.set .h_keep_full 0 1).raise .RAS_KEEP_FULL d.pathDevice else d
  let d := d.putB .ras_sev_sev_seen 0 r.sev true
  let d := if r.sev = 6 then d.alert 6 else d
  let d := if decide (3 ≤ r.sev) && !d.flag .ras_first_valid then
      d.setMany [(.ras_first_code, 0, r.code.num), (.ras_first_valid, 0, 1), (.ras_first_severity, 0, r.sev), (.ras_first_seq, 0, seq)]
    else d
  (d.traceCount r).ringOffer r

/-- The next event of the FIFO goes to the bank, after a RAS_LOST record where one is due (R509). -/
def Dev.fifoDrain (d : Dev) : Dev :=
  if d.flag .h_ras_lost_due then
    (d.set .h_ras_lost_due 0 0).bankWrite
      { code := .RAS_LOST, sev := RecCode.RAS_LOST.severity, degraded := d.flag .time_status_degraded, path := d.pathDevice,
        time := d.fabricNs, d4 := packItems [.h (d.get .ras_status_lost_count), .h (d.get .ras_status_lost_max_sev)],
        seq := 0 }
  else match d.fifo with
    | [] => d
    | r :: rest => ({ d with fifo := rest } : Dev).bankWrite r

/-- The oldest open rate-limit interval ends: one record carries its folded events and a new interval opens (R38, R507). -/
def Dev.limitEnd (d : Dev) : Dev :=
  match d.limits with
  | [] => d
  | l :: rest =>
    match l.last with
    | some r =>
      ({ d with limits := rest ++ [{ code := l.code, path := l.path }] } : Dev).fifoPush { r with occ := l.folded }
    | none => { d with limits := rest }

/-- A write of RAS_CTRL; keep_clear empties the keep area and its persistent copy, and reads 0 (R518). -/
def Dev.rasCtrlWrite (d : Dev) (v : Nat) (bad : List Nat) : Dev :=
  let d := (d.writeFields rowRAS_CTRL 0 v bad).set .ras_ctrl_keep_clear 0 0
  if bit v 1 then { d.set .h_keep_full 0 0 with keep := [], keepStore := [] } else d

/-- A write of RAS_TRACE_CFG clears every bin (R516). -/
def Dev.traceCfgWrite (d : Dev) (v : Nat) (bad : List Nat) : Dev :=
  (d.writeFields rowRAS_TRACE_CFG 0 v bad).clearIdx .ras_trace_bin_bin (fun _ => true)

/-! ### Snapshots and dumps (R497 to R500) -/

/-- Every index below `n` of a field where `p` holds set from `g`; the others keep their values. -/
def Dev.bulk (d : Dev) (f : Fld) (n : Nat) (p : Nat → Bool) (g : Nat → Nat) : Dev :=
  let l := (List.range n).filterMap (fun i =>
    let v := (if p i then g i else d.get f i) % 2 ^ f.width
    if v = f.reset i then none else some (i, v))
  { d with flds := d.flds.set f.ctorIdx {} ⟨l⟩ }

/-- Counter blocks. -/
def blkCount : Nat := 557

/-- Whether counter block `b` is on. -/
def Dev.blkOn (d : Dev) (b : Nat) : Bool := d.domainOn (blockDomain b)

/-- The cycle counter of block `b` (R488). -/
def Dev.cycleOf (d : Dev) (b : Nat) : Nat := (d.localNs + 2 ^ 64 - d.get .h_cycle_t0 b) % 2 ^ 64

/-- The block record of block `b` (R500). -/
def Dev.blkRecord (d : Dev) (b : Nat) : List Nat :=
  if d.blkOn b then
    let pm := (List.range 8).foldl (fun a i => a + d.get .perf_snap_pmc_count (8 * b + i) * 2 ^ (48 * i)) 0
    (b * 2 ^ 48 + d.get .perf_blk_status_snap_ovf b * 2 ^ 40 + 0x21 * 2 ^ 16) :: d.get .perf_snap_cycle_cycles b ::
      (List.range 6).map (fun k => slice pm (64 * k) 64)
  else (b * 2 ^ 48 + 2 ^ 24 + 0x21 * 2 ^ 16) :: List.replicate 7 0

/-- The window record of port `n` (R500). The bits of window_seq that R500 places where every record holds its kind give way
to the kind (log entry 17). -/
def Dev.winRecord (d : Dev) (n : Nat) : List Nat :=
  let seq := d.get .perf_win_info_window_seq n
  [n * 2 ^ 48 + seq / 256 * 2 ^ 24 + 0x22 * 2 ^ 16,
    d.get .perf_win_bytes_rx_bytes n * 2 ^ 32 + d.get .perf_win_bytes_tx_bytes n,
    d.get .perf_win_slot_a_retired n * 2 ^ 32 + d.get .perf_win_slot_a_wasted n,
    d.get .perf_win_slot_b_front_starved n * 2 ^ 32 + d.get .perf_win_slot_b_back_starved n,
    d.get .h_win_end,
    d.get .perf_win_info_partial n * 2 ^ 7 + d.get .perf_win_info_sat n, 0, 0]

/-- The header record of the dump that begins, with `more` records behind it and the source `src` of its snapshot (R500). -/
def Dev.dumpHeader (d : Dev) (more src : Nat) : List Nat :=
  [more * 2 ^ 48 + d.get .perf_dump_status_dump_seq * 2 ^ 32 + src * 2 ^ 24 + 0x20 * 2 ^ 16, d.get .perf_last_snap_last_snap,
    d.get .h_dump_miss * 2 ^ 48 + d.get .time_status_degraded, d.pathDevice, 0, 0, 0, 0]

/-- A snapshot that is not taken (R498). -/
def Dev.snapMiss (d : Dev) (n : Nat) : Dev :=
  (d.incrSat .perf_dump_status_snaps_missed 0 n).incrSat .h_dump_miss 0 n

/-- BG_OVERRUN of an activity (R35, R512). -/
def Dev.bgOverrun (d : Dev) (k : Nat) : Dev := d.raise .BG_OVERRUN (d.pathDevice ucBG_ACTIVITY k)

/-- The counters of every block that is on are copied (R497). -/
def Dev.snapCopy (d : Dev) : Dev :=
  let now := d.fabricNs
  let d := d.bulk .perf_snap_cycle_cycles blkCount d.blkOn d.cycleOf
  let d := d.bulk .perf_snap_pmc_count (8 * blkCount) (fun k => d.blkOn (k / 8)) (fun k => d.get .perf_pmc_count k)
  let d := d.bulk .perf_blk_status_snap_ovf blkCount d.blkOn (fun b => d.get .perf_blk_status_ovf b)
  d.set .perf_last_snap_last_snap 0 now

/-- The dump of a snapshot begins (R499). -/
def Dev.dumpBegin (d : Dev) (src : Nat) : Dev :=
  let wins := if d.flag .perf_snap_ctrl_dump_win then (List.range 512).map d.winRecord else []
  let body := (List.range blkCount).map d.blkRecord ++ wins
  let d := d.incr .perf_dump_status_dump_seq 0
  let d := { d with dumpRecs := d.dumpHeader body.length src :: body }
  d.setMany [(.perf_dump_status_busy, 0, 1), (.h_dump_miss, 0, 0)]

/-- A snapshot with source 1 TIME, 2 EVENT or 3 COMMAND (R497, R498). -/
def Dev.snapshot (d : Dev) (src : Nat) : Dev :=
  if d.domainOn 1 = false then d
  else if d.flag .perf_dump_status_busy then (d.snapMiss 1).bgOverrun 19
  else
    let d := d.snapCopy
    if d.flag .perf_snap_ctrl_dump_en then d.dumpBegin src else d

/-- The snapshot times that fabric time has reached and that have not fired: the first, and how many there are (R412, R497). -/
def Dev.snapDue (d : Dev) : Nat × Nat :=
  let t := d.get .perf_snap_time_snap_time
  let p := d.get .perf_snap_ctrl_snap_period_us * 1000
  let last := d.get .h_snap_last
  let now := d.fabricNs
  if d.get .perf_snap_ctrl_snap_src ≠ 1 then (t, 0)
  else if p = 0 then (t, if last ≤ t ∧ t ≤ now then 1 else 0)
  else
    let first := if last ≤ t then t else t + cdiv (last - t) p * p
    (first, if first ≤ now then (now - first) / p + 1 else 0)

/-- The first `n` of them fire together: one snapshot is taken, the others are missed (R498). -/
def Dev.snapFire (d : Dev) (n : Nat) : Dev :=
  let p := d.get .perf_snap_ctrl_snap_period_us * 1000
  ((d.set .h_snap_last 0 (d.snapDue.1 + (n - 1) * p + 1)).snapshot 1).snapMiss (n - 1)

/-- SNAPSHOT_TIME: fabric time has reached snap_time or the next period, and up to `more` further periods in the same tick (R497,
R498); where it has reached none that has not fired, nothing happens (R412). -/
def execSnapshotTime (more : BitVec 16) (s : State) : Host.Outcome State Fault Refusal :=
  s.run (fun d => if d.snapDue.2 = 0 then d else d.snapFire (min d.snapDue.2 (more.toNat + 1)))

/-- A write of PERF_SNAP_CTRL (R497, R502); a source that changes starts the schedule anew. -/
def Dev.snapCtrlWrite (d : Dev) (v : Nat) (bad : List Nat) : Dev :=
  let was := d.get .perf_snap_ctrl_snap_src
  let d := (d.writeFields rowPERF_SNAP_CTRL 0 v bad).set .perf_snap_ctrl_snap_now 0 0
  let d := if d.get .perf_snap_ctrl_snap_src = was then d else d.set .h_snap_last 0 0
  if bit v 0 then d.snapshot 3 else d

/-- SNAP_NOW: a write of PERF_SNAP_CTRL with snap_now set. -/
def execSnapNow (m : Mark) (v : Word) (s : State) : Host.Outcome State Fault Refusal :=
  s.run (fun d => d.hostWrite m rowPERF_SNAP_CTRL 0 (setBit v.toNat 0) (fun _ v bad d => d.snapCtrlWrite v bad))

/-- The next record of the dump is written while the ring has room (R499); copies of records that wait go first (R510). -/
def Dev.dumpNext (d : Dev) : Dev :=
  match d.dumpRecs with
  | [] => d
  | r :: rest =>
    let n := 2 ^ d.get .perf_dump_cfg_dump_size_log2
    let t := d.get .h_dump_t
    if t - d.get .h_dump_head ≥ n ∨ 1 < d.ringPend.length then d
    else
      let words := (r.headD 0 + d.get .perf_dump_status_phase) :: r.tail
      let d := { d with dumpRecs := rest }.emit
        (.kclWrite reqDUMP (d.get .perf_dump_base_dump_base / 64 * 64 + t % n * 64) ((words.map (leBytes 8)).flatten))
      d.setMany [(.h_dump_t, 0, t + 1), (.perf_dump_status_tail, 0, t + 1), (.perf_dump_status_phase, 0, (1 + (t + 1) / n) % 2),
        (.perf_dump_status_busy, 0, b2n (!rest.isEmpty))]

/-- DUMP_RECORD_WRITE. -/
def execDumpRecordWrite (s : State) : Host.Outcome State Fault Refusal := s.run Dev.dumpNext

/-! ### Windows (R494, R495) -/

/-- Every port that is on latches its window, which ended at the last multiple of window_us, and starts the next (R495). -/
def Dev.windowLatch (d : Dev) : Dev :=
  let latch (d : Dev) (src dst : Fld) : Dev :=
    (d.bulk dst 512 d.quadOn (fun n => d.get src n)).bulk src 512 d.quadOn (fun _ => 0)
  let d := latch d .h_win_rx_bytes .perf_win_bytes_rx_bytes
  let d := latch d .h_win_tx_bytes .perf_win_bytes_tx_bytes
  let d := latch d .h_win_retired .perf_win_slot_a_retired
  let d := latch d .h_win_wasted .perf_win_slot_a_wasted
  let d := latch d .h_win_front .perf_win_slot_b_front_starved
  let d := latch d .h_win_back .perf_win_slot_b_back_starved
  let d := latch d .h_win_sat .perf_win_info_sat
  let d := d.bulk .perf_win_info_partial 512 d.quadOn (fun n => d.get .h_win_partial n)
  let d := d.bulk .h_win_partial 512 d.quadOn (fun n => b2n (d.linkStatus n != lsADMITTED && d.linkStatus n != lsTX_ONLY))
  let d := d.bulk .perf_win_info_window_seq 512 d.quadOn (fun n => d.get .perf_win_info_window_seq n + 1)
  let w := d.get .perf_win_ctrl_window_us * 1000
  d.set .h_win_end 0 (d.fabricNs / w * w)

/-- WINDOW_LATCH: fabric time has reached the end of a window. -/
def execWindowLatch (s : State) : Host.Outcome State Fault Refusal :=
  s.run (fun d => if d.get .perf_win_ctrl_window_us = 0 then d else d.windowLatch)

/-! ### Record bank and background activities -/

/-- RAS_FIFO_DRAIN (R509). -/
def execRasFifoDrain (s : State) : Host.Outcome State Fault Refusal := s.run Dev.fifoDrain

/-- RATE_LIMIT_INTERVAL_END (R507). -/
def execRateLimitIntervalEnd (s : State) : Host.Outcome State Fault Refusal := s.run Dev.limitEnd

/-- RAS_KEEP_CLEAR: a write of RAS_CTRL with keep_clear set (R518). -/
def execRasKeepClear (m : Mark) (v : Word) (s : State) : Host.Outcome State Fault Refusal :=
  s.run (fun d => d.hostWrite m rowRAS_CTRL 0 (setBit v.toNat 1) (fun _ v bad d => d.rasCtrlWrite v bad))

/-- RAS_TRACE_CFG_WRITE (R516). -/
def execRasTraceCfgWrite (m : Mark) (v : Word) (s : State) : Host.Outcome State Fault Refusal :=
  s.run (fun d => d.hostWrite m rowRAS_TRACE_CFG 0 v.toNat (fun _ v bad d => d.traceCfgWrite v bad))

/-- KCL_WRITE_RESPONSE of a record copy (R510). -/
def execKclWriteResponse (ok : Bool) (s : State) : Host.Outcome State Fault Refusal := s.run (fun d => d.ringAnswer ok)

/-- BG_OVERRUN of the activity with that index (R35, R512). -/
def execBgOverrun (activity : Fin 21) (s : State) : Host.Outcome State Fault Refusal := s.run (fun d => d.bgOverrun activity)

/-- The SRAM scrub has read a word of the cells of frame `fid` (R33, R206). -/
def Dev.scrubCell (d : Dev) (fid : Nat) (cell : Cell) : Dev :=
  match cell with
  | .ok => d
  | .corrected => d.count blkDevice .CELL_CORR
  | .bad a => if (d.frame fid).isSome then d.cellUncorr fid a else d

/-- SRAM_SCRUB_VISIT, of a cell of frame `fid`; a word of another SRAM, or a free cell, is as `ok`, since the spec counts and
records nothing there (R33, R34, R206). -/
def execSramScrubVisit (fid : BitVec 32) (cell : CellRead) (s : State) : Host.Outcome State Fault Refusal :=
  s.runX (fun d => d.scrubCell fid.toNat (cellOf cell))

/-- RESET_RECORD_PERIODIC_UPDATE: the step entries of every running step (R524). -/
def execResetRecordPeriodicUpdate (s : State) : Host.Outcome State Fault Refusal :=
  s.run (fun d => (List.range 16384).foldl (fun d c => d.rrUpdate c) d)

/-! ### The heads of the two rings (R432, R499, R510) -/

/-- The line of ring_head_addr is read while ring_en is 1. -/
def Dev.readRingHead (d : Dev) : Dev :=
  if d.flag .ras_ctrl_ring_en then
    (d.dropReads .ringHead).kread .ringHead reqRECORD (d.get .ras_ring_head_addr_ring_head_addr / 64 * 64) 64
  else d

/-- The line of dump_head_addr is read while dump_en is 1 or a dump runs. -/
def Dev.readDumpHead (d : Dev) : Dev :=
  if d.flag .perf_snap_ctrl_dump_en ∨ d.flag .perf_dump_status_busy then
    (d.dropReads .dumpHead).kread .dumpHead reqDUMP (d.get .perf_dump_head_addr_dump_head_addr / 64 * 64) 64
  else d

end Sys2Proof.Machine
end

