-- ==== Sys2Proof/Machine/Reset.lean ====
section
/-! DEFINITION. Resets (R520 to R526), the boot (R528 to R531), the SEC commands (R532 to R537, R542). -/

namespace Sys2Proof.Machine

/-! ### Fields as a whole -/

/-- The listed fields as they were in `old`. -/
def Dev.keepFlds (d old : Dev) (l : List Fld) : Dev :=
  l.foldl (fun d f => { d with flds := d.flds.set f.ctorIdx {} (old.flds.get f.ctorIdx {}) }) d

/-- The listed fields at their reset values. -/
def Dev.clearFlds (d : Dev) (l : List Fld) : Dev := l.foldl (fun d f => d.clearIdx f (fun _ => true)) d

/-- The fields of a register. -/
def RegRow.flds (r : RegRow) : List Fld := r.fields.map (·.fld)

/-! ### Images (R530, R531) -/

/-- The first check of R531 that an image fails, 0 for none; `body`: the body is checked too. -/
def imageReason (fu : Fuses) (body : Bool) (img : Option ImageInfo) : Nat :=
  match img with
  | none => 9
  | some i =>
    let e := i.ecdsaKey.toNat
    let l := i.lmsKey.toNat
    if !i.magicOk then 1
    else if e > 3 ∨ l > 3 ∨ bit fu.ecdsaKeys e = false ∨ bit fu.lmsKeys l = false then 2
    else if bit fu.ecdsaRevoked e || bit fu.lmsRevoked l then 3
    else if !i.keyHashOk then 4
    else if i.svn.toNat < fu.svn ∨ i.svn.toNat > 128 then 5
    else if !i.ecdsaOk then 6
    else if !i.lmsOk then 7
    else if body && !i.bodyOk then 8
    else 0

/-- The header of an image shown in the status of slot `s` (R542). -/
def Dev.slotHeader (d : Dev) (s : Nat) (i : ImageInfo) : Dev :=
  d.setMany [(.sec_slot_status_link_rev, s, i.linkRev.toNat), (.sec_slot_status_svn, s, i.svn.toNat),
    (.sec_slot_status_image_version, s, i.version.toNat)]

/-- Slot `s` is VALID, or INVALID with a reason of R531. -/
def Dev.slotState (d : Dev) (s reason : Nat) : Dev :=
  d.setMany [(.sec_slot_status_state, s, if reason = 0 then 1 else 2), (.sec_slot_status_reason, s, reason)]

/-- The checks of R531 on slot `s`, the body included (R536). -/
def Dev.verifySlot (d : Dev) (fu : Fuses) (s : Nat) (img : Option ImageInfo) : Dev :=
  let d := match img with | some i => if i.magicOk then d.slotHeader s i else d | none => d
  d.slotState s (imageReason fu true img)

/-! ### What a reset interrupts (R526) -/

/-- A SEC command that runs ends: a slot being written reads INVALID (R536); a burn leaves a value between the old and the
target (R532), which is free. -/
def State.secCut (s : State) : State :=
  let d := s.dev
  if !d.flag .sec_cmd_status_busy then s
  else
    let cmd := d.get .sec_cmd_status_last_cmd
    let a := d.get .h_sec_args
    let slot := slice a 56 1
    let d := d.set .sec_cmd_status_busy 0 0
    if cmd = 1 then { s with dev := if d.get .sec_slot_status_state slot = 3 then d.slotState slot 1 else d }
    else if cmd = 5 then
      let (v, d) := d.draw
      let target := d.get .sys_boot_status_svn
      { s with dev := d, fuses := { s.fuses with svn := s.fuses.svn + v % (target - s.fuses.svn + 1) } }
    else if cmd = 6 then
      let (v, d) := d.draw
      let k := slice a 48 2
      let fu := s.fuses
      { s with dev := d, fuses := if v % 2 = 0 then fu else if bit a 53
          then { fu with lmsRevoked := setBit fu.lmsRevoked k } else { fu with ecdsaRevoked := setBit fu.ecdsaRevoked k } }
    else { s with dev := d }

/-- The boot stage as a reset record holds it (R541). -/
def Dev.stageAt (d : Dev) : Nat := if d.ready then 0xFF else d.get .sys_boot_status_stage

/-! ### A warm reset (R521, R522) -/

/-- Arms outside a sparing sequence are cleared (R522, step 1). -/
def Dev.clearArms (d : Dev) : Dev :=
  (List.range 512).foldl (fun d n =>
    let o := n / 8
    let mine := d.seqRuns o && d.bitOf .las_oct_status_participants o (n % 8)
    let d := if mine then d else d.set .opt_lane_next_tx_arm n 0
    if d.flag .h_peer_seq n then d else d.set .opt_lane_next_rx_arm n 0) d

/-- What the reset record keeps of the queues (R524): their configuration, and where their completion rings stand. -/
def queueRecord : List Fld :=
  RegRow.flds rowCSQ_Q_CFG ++ [.csq_q_cr_base_cr_base, .csq_q_cr_status_cr_tail, .csq_q_cr_status_cr_phase]

/-- PD1 to PD9, PD19 and PD10 are reset; the reset record keeps its parts (R521, R522 step 3, R524). -/
def Dev.warmDomains (d : Dev) : Dev :=
  let old := d
  let eng (x : Nat) : Nat := maskOf 20 (fun k => decide (11 ≤ k ∧ k ≤ 18) && bit x k)
  let on := eng (d.get .sys_pd_status_on) + (if d.flag .h_shut then 1 else 0x403)
  let d := d.setMany [(.sys_pd_status_on, 0, on), (.sys_pd_status_busy, 0, eng (d.get .sys_pd_status_busy))]
  let d := [9, 8, 7, 6, 5, 4, 3, 2, 1, 19, 10].foldl (fun d k => d.resetDomain k) d
  let d := (d.keepFlds old queueRecord).clearFlds [.csq_q_cfg_enable]
  { d with reads := [], readWaits := [], queues := ⟨old.queues.entries.filterMap (fun e =>
      if e.2.crT = 0 then none else some (e.1, ({ crT := e.2.crT } : Queue)))⟩ }

/-- The registers and scalars of PD0 that a warm reset does not keep (R521). -/
def warmLost : List Fld :=
  ([rowSYS_FABRIC_POS, rowSYS_FABRIC_SIZE, rowSYS_FABRIC_COORD, rowSEC_CMD_STATUS, rowSEC_CMD_ADDR, rowSEC_NONCE, rowSEC_KCL_IMG,
    rowRAS_CTRL, rowRAS_RING_BASE, rowRAS_RING_HEAD_ADDR, rowRAS_RING_STATUS, rowRAS_TRACE_CFG, rowRAS_TRACE_BIN].map RegRow.flds).flatten
  ++ [.ras_status_lost_count, .ras_status_lost_max_sev, .h_ring_head, .h_ring_t, .h_ras_lost_due, .i2c_status_alert, .h_d2d_replays,
   .h_boot_slot, .h_boot_fail, .h_boot_stop, .h_board_test, .h_run_valid, .h_run_ecdsa, .h_run_lms, .h_load_img, .h_load_keys,
   .h_sec_args, .h_cold_rom]

/-- A warm reset with a cause (R520 to R526). -/
def Dev.warmReset (d : Dev) (cause : Nat) : Dev :=
  let now := d.fabricNs
  let stage := d.stageAt
  let d := d.loadedCtxs.foldl (fun d c => d.rrUpdate c.1) d
  let d := if d.tstate = tsACQUIRE ∨ d.tstate = tsLOCKED then d.toState tsHOLDOVER else d
  let d := d.clearArms.warmDomains
  let d := (List.range 8).foldl (fun d e => d.set .h_eng_hold e (b2n (d.pdOn (11 + e)))) d
  let d := { d.clearFlds warmLost with ringPend := [], keep := [], measLog := [], svcFifo := {} }
  let d := (d.incrSat .sys_reset_info_warm_count 0).setMany [(.sys_reset_info_last_level, 0, 2), (.sys_reset_info_last_cause, 0, cause),
    (.sys_reset_info_stage_at_reset, 0, stage), (.sys_reset_time_reset_time, 0, now), (.sys_boot_status_stage, 0, 0)]
  (List.range 64).foldl (fun d o => d.seqResume o) d

/-- I2C_ALERT_N rises where the alert bits of `old` are gone (R572). -/
def Dev.alertGone (d old : Dev) : Dev :=
  if old.get .i2c_status_alert ≠ 0 ∧ d.get .i2c_status_alert = 0 then d.emit (.pin "I2C_ALERT_N" 1) else d

/-- A warm reset of the block; nothing while PORST_N is asserted (R520). LPDDR contents are not preserved (R521). -/
def State.warm (s : State) (cause : Nat) : State :=
  if s.dev.flag .h_porst then s
  else
    let s := s.secCut
    { s with dev := (s.dev.warmReset cause).alertGone s.dev, mem := {} }

/-! ### A COLD or POWER reset (R520, R521) -/

/-- What the persistent store, the flash, the fuses and the pins hold through every reset (R527, R521). -/
def coldKept : List Fld :=
  [.p_lit_minutes, .p_eq_hours, .p_eq_num, .p_peak_bias, .p_bias_slope, .p_standby_active, .p_parked, .p_pref, .p_trial, .p_tried,
   .sec_boot_ctrl_preferred, .sys_id_rom_version, .sys_serial_serial, .kcl_svc_status_module_present, .h_sens, .h_rail_out, .h_tap,
   .h_porst, .h_trip] ++ RegRow.flds rowSEC_SLOT_STATUS

/-- A COLD or POWER reset with a cause: level 0 POWER, 1 COLD. -/
def Dev.coldReset (d : Dev) (level cause : Nat) : Dev :=
  let stage := d.stageAt
  let d' : Dev := { keepStore := d.keepStore, wearHist := d.wearHist, sent := d.sent, fresh := d.fresh }
  (d'.keepFlds d coldKept).setMany [(.sys_reset_info_last_level, 0, level), (.sys_reset_info_last_cause, 0, cause),
    (.sys_reset_info_stage_at_reset, 0, stage)]

/-- A COLD or POWER reset of the block. -/
def State.cold (s : State) (level cause : Nat) : State :=
  let s := s.secCut
  { s with dev := (s.dev.coldReset level cause).alertGone s.dev, mem := {} }

/-- The outcome of a command whose effect is on the whole state: its records go on their way. -/
def State.done (s : State) : Host.Outcome State Fault Refusal := .next (s.onDev (fun d => d.settle.flush))

/-! ### Reset sources (R520, R541, R569) -/

/-- PORST_N_ASSERT: the POWER reset lasts while the pin is low. -/
def execPorstNAssert (s : State) : Host.Outcome State Fault Refusal :=
  if s.dev.flag .h_porst then s.done else ((s.cold 0 1).onDev (fun d => d.set .h_porst 0 1)).done

/-- PORST_N_RELEASE. -/
def execPorstNRelease (s : State) : Host.Outcome State Fault Refusal := s.run (fun d => d.set .h_porst 0 0)

/-- WRST_N_ASSERT, for at least 1 µs. -/
def execWrstNAssert (s : State) : Host.Outcome State Fault Refusal := (s.warm 4).done

/-- A SYS_RESET_CMD write; one whose confirm field is not 0xA5A5 is discarded (R541). -/
def State.resetCmd (s : State) (m : Mark) (level confirm : Nat) (f : State → State) : Host.Outcome State Fault Refusal :=
  let d := s.dev.hostWrite m rowSYS_RESET_CMD 0 (level * 2 ^ 62 + confirm) (fun _ _ _ d => d)
  let ok := markPriv m == privFABRIC && d.get .h_kcl_train == 0 && (s.dev.checkPower 0 1 rowSYS_RESET_CMD 0).isNone && confirm == 0xA5A5
  (if ok then f { s with dev := d } else { s with dev := d }).done

/-- SYS_RESET_NOP. -/
def execSysResetNop (m : Mark) (confirm : BitVec 16) (s : State) : Host.Outcome State Fault Refusal :=
  s.resetCmd m 0 confirm.toNat (fun s => s)

/-- SYS_RESET_WARM. -/
def execSysResetWarm (m : Mark) (confirm : BitVec 16) (s : State) : Host.Outcome State Fault Refusal :=
  s.resetCmd m 1 confirm.toNat (fun s => s.warm 5)

/-- SYS_RESET_COLD. -/
def execSysResetCold (m : Mark) (confirm : BitVec 16) (s : State) : Host.Outcome State Fault Refusal :=
  s.resetCmd m 2 confirm.toNat (fun s => if s.dev.flag .h_porst then s else s.cold 1 2)

/-- BOOT_WATCHDOG (R529): stages SELECT to RESTORE have run past boot_watchdog_ms; not while the ROM stays in SELECT for want of
an image. -/
def execBootWatchdog (s : State) : Host.Outcome State Fault Refusal :=
  let st := s.dev.get .sys_boot_status_stage
  if 1 ≤ st ∧ st ≤ 4 ∧ s.dev.flag .h_boot_stop = false then
    ((s.warm 6).onDev (fun d => d.incrSat .h_boot_wd 0)).done
  else s.done

/-- CONFIRM_TIMEOUT (R537). -/
def execConfirmTimeout (s : State) : Host.Outcome State Fault Refusal :=
  if s.dev.ready && s.dev.flag .sys_boot_status_trial && s.dev.get .sec_boot_ctrl_confirm_timeout_s != 0 then (s.warm 7).done
  else s.done

/-! ### The boot (R528, R529, R541) -/

def Dev.stage (d : Dev) : Nat := d.get .sys_boot_status_stage
def Dev.toStage (d : Dev) (k : Nat) : Dev := d.set .sys_boot_status_stage 0 k

/-- BOOT_NO_IMAGE: the ROM stays where it is (R529, R540). -/
def Dev.noImage (d : Dev) : Dev :=
  (d.set .h_boot_stop 0 1).raise .BOOT_NO_IMAGE d.pathDevice
    [.h (d.get .sec_slot_status_reason 0), .h (d.get .sec_slot_status_reason 1)]

/-- Whether a sensor of zones 0 to 3 reads below 0 °C (R578). -/
def Dev.romCold (d : Dev) : Bool := (List.range 56).any (fun i => d.get .h_sens i != 128 && bit (d.get .h_sens i) 7)

/-- The span of AVS rail `i` in mV (R561). -/
def avsLo (i : Nat) : Nat := if i = 0 then 650 else 700
def avsHi (i : Nat) : Nat := if i = 0 then 800 else 850

/-- ROM_START ends: straps latched, the first AVS trim made, PD1 on (R528, R564, R569); boot_src 2 and 3 stop here (R540). -/
def Dev.romStart (d : Dev) (straps : Nat) (mv : List Nat) : Dev :=
  if d.stage ≠ 0 ∨ d.flag .h_porst ∨ d.flag .h_trip ∨ d.get .h_rail_out ≠ 0 ∨ d.flag .h_boot_stop ∨ d.romCold then d
  else
    let d := d.setMany [(.sys_straps_boot_src, 0, slice straps 0 2), (.sys_straps_slot_force_en, 0, slice straps 2 1),
      (.sys_straps_slot_force, 0, slice straps 3 1)]
    let d := (List.range 3).foldl (fun d i => d.set .h_avs_mv i (max (avsLo i) (min (avsHi i) (mv.getD i 0)))) d
    let src := slice straps 0 2
    if 2 ≤ src then d.noImage.set .h_board_test 0 (b2n (src == 3))
    else
      let d := if d.flag .h_shut then d else (d.putB .sys_pd_status_on 0 1 true).domainStart 1 0
      d.toStage 1

/-- BOOT_ROM_START_DONE; `straps` as SYS_STRAPS shows them, `mv` the setpoints of the first trim. -/
def execBootRomStartDone (straps : BitVec 4) (mv : Vector (BitVec 12) 3) (s : State) : Host.Outcome State Fault Refusal :=
  s.run (fun d => d.romStart straps.toNat (mv.toList.map (·.toNat)))

/-- The slot R529 takes next, and whether it is the other slot in place of the preferred one. -/
def Dev.slotChoice (d : Dev) : Option (Nat × Bool) :=
  let failed (s : Nat) : Bool := d.bitOf .h_boot_fail 0 s
  if d.flag .sys_straps_slot_force_en then
    let s := d.get .sys_straps_slot_force
    if failed s then none else some (s, false)
  else
    let p := d.get .p_pref
    let skip := failed p || (if d.flag .p_trial then d.flag .p_tried else decide (3 ≤ d.get .h_boot_wd))
    if !skip then some (p, false) else if failed (1 - p) then none else some (1 - p, true)

/-- SELECT ends: a slot is chosen, or the ROM stays here (R528, R529). A KCL boot waits for go, and reads the image from the
companion (log entry 21). -/
def Dev.bootSelect (d : Dev) : Dev :=
  if d.stage ≠ 1 ∨ d.flag .h_boot_stop ∨ (d.get .sys_straps_boot_src = 1 ∧ d.flag .sec_boot_ctrl_go = false) then d
  else match d.slotChoice with
    | none => d.noImage
    | some (s, other) =>
      let d := if other then d.raise .BOOT_FALLBACK d.pathDevice [.h (1 - s), .h (d.get .sys_reset_info_last_cause)] else d
      let d := if d.flag .p_trial ∧ s = d.get .p_pref ∧ d.flag .sys_straps_slot_force_en = false then d.set .p_tried 0 1 else d
      let d := if d.get .sys_straps_boot_src = 1 then d.emit (.kclRead reqSEC (d.get .sec_kcl_img_img s) 4096) else d
      (d.set .h_boot_slot 0 s).toStage 2

/-- BOOT_SELECT_DONE. -/
def execBootSelectDone (s : State) : Host.Outcome State Fault Refusal := s.run Dev.bootSelect

/-- The slot that is tried fails VERIFY or LOAD (R529, step 3): INVALID, recorded, back to SELECT. -/
def Dev.bootRefuse (d : Dev) (reason : Nat) : Dev :=
  let s := d.get .h_boot_slot
  (((d.slotState s reason).putB .h_boot_fail 0 s true).raise .IMAGE_REFUSED d.pathDevice [.h s, .h reason]).toStage 1

/-- VERIFY ends (R531). -/
def Dev.bootVerify (d : Dev) (fu : Fuses) (img : Option ImageInfo) : Dev :=
  if d.stage ≠ 2 then d
  else
    let s := d.get .h_boot_slot
    let d := match img with | some i => if i.magicOk then d.slotHeader s i else d | none => d
    match img, imageReason fu false img with
    | some i, 0 =>
      (d.setMany [(.h_load_img, 0, i.version.toNat % 2 ^ 24 + i.linkRev.toNat * 2 ^ 24 + i.svn.toNat * 2 ^ 40),
        (.h_load_keys, 0, i.ecdsaKey.toNat % 4 + i.lmsKey.toNat % 4 * 4)]).toStage 3
    | _, r => d.bootRefuse r

/-- BOOT_VERIFY_DONE. -/
def execBootVerifyDone (img : Option ImageInfo) (s : State) : Host.Outcome State Fault Refusal :=
  s.run (fun d => d.bootVerify s.fuses img)

/-- LOAD ends: the image runs, and SYS_BOOT_STATUS shows it (R528, R541). -/
def Dev.bootLoad (d : Dev) (readOk hashOk : Bool) : Dev :=
  if d.stage ≠ 3 then d
  else if !readOk then d.bootRefuse 9
  else if !hashOk then d.bootRefuse 8
  else
    let s := d.get .h_boot_slot
    let img := d.get .h_load_img
    let forced := d.flag .sys_straps_slot_force_en
    let d := (d.slotState s 0).setMany [(.sys_boot_status_running_slot, 0, s),
      (.sys_boot_status_trial, 0, b2n (d.flag .p_trial && s == d.get .p_pref)),
      (.sys_boot_status_fallback, 0, b2n (!forced && s != d.get .p_pref)), (.sys_boot_status_svn, 0, slice img 40 8),
      (.sys_boot_status_link_rev, 0, slice img 24 16), (.sys_boot_status_image_version, 0, slice img 0 24), (.h_run_valid, 0, 1),
      (.h_run_ecdsa, 0, slice (d.get .h_load_keys) 0 2), (.h_run_lms, 0, slice (d.get .h_load_keys) 2 2)]
    d.toStage 4

/-- BOOT_LOAD_DONE. -/
def execBootLoadDone (readOk hashOk : Bool) (s : State) : Host.Outcome State Fault Refusal :=
  s.run (fun d => d.bootLoad readOk hashOk)

/-- The completion record of step `j` behind the running one of context `x`, after a reset (R286, R525, R368). -/
def Dev.abortResetRec (d : Dev) (x : Nat) (e : RRStep) (j : Nat) : CRec :=
  let run := j == 0
  { kind := 0x10, token := e.token,
    words := [x * 2 ^ 50 + (e.step + j) % 2 ^ 18 * 2 ^ 32 + e.job * 2 ^ 16 + b2n e.inner * 2 ^ 7 + 5,
      if run then e.done * 2 ^ 42 + e.released * 2 ^ 21 + e.chunks else 0, 0, if run then e.tOpen else 0,
      d.get .sys_reset_time_reset_time,
      2 * b2n (d.tstate == tsHOLDOVER || d.flag .time_status_upstream_holdover), 0] }

/-- The records of R525, then their entries cleared. -/
def Dev.restoreSteps (d : Dev) : Dev :=
  let d := d.rrSteps.entries.foldl (fun d x => match x.2 with
    | some e => (List.range (e.armed + 1)).foldl (fun d j => d.crWrite e.queue (d.abortResetRec x.1 e j)) d
    | none => d) d
  { d with rrSteps := {} }

/-- RESTORE ends: the keep area is read back (R506), a warm boot restores what the reset record holds unless both its copies fail
(R523, R525), RESET_DONE is written, the measurement log begins (R535), and READY is reached (R528). -/
def Dev.bootRestore (d : Dev) (recordBad : Bool) : Dev :=
  if d.stage ≠ 4 then d
  else
    let kept := d.keepStore.map (fun (r : Rec) => { r with restored := true })
    let d := { d with keep := kept }
    let d := if kept.any (fun r => r.code == .THERM_TRIP) then d.alert 2 else d
    let warm := d.get .sys_reset_info_last_level == 2
    let d := if !warm then d
      else if recordBad then
        ({ d.clearFlds queueRecord with rrSteps := {}, queues := {} } : Dev).raise .RESET_RECORD_BAD d.pathDevice
      else d.restoreSteps
    let d := d.raise .RESET_DONE d.pathDevice [.h (d.get .sys_reset_info_last_level), .h (d.get .sys_reset_info_last_cause),
      .h (d.get .sys_reset_info_stage_at_reset), .h (d.get .sys_reset_info_warm_count)]
    let d := (List.range 4).foldl (fun d _ => let (v, d) := d.draw; { d with measLog := d.measLog ++ [beBytes 48 v] }) d
    (d.set .h_boot_wd 0 0).toStage 5

/-- BOOT_RESTORE_DONE; `recordBad`: both copies of the reset record fail their check. -/
def execBootRestoreDone (recordBad : Bool) (s : State) : Host.Outcome State Fault Refusal := s.run (fun d => d.bootRestore recordBad)

/-- KCL_BOOT_GO: a write of SEC_BOOT_CTRL with go set (R528). -/
def execKclBootGo (m : Mark) (v : Word) (s : State) : Host.Outcome State Fault Refusal :=
  s.run (fun d => d.hostWrite m rowSEC_BOOT_CTRL 0 (setBit v.toNat 0) (fun _ v bad d => d.writeFields rowSEC_BOOT_CTRL 0 v bad))

/-! ### SEC commands (R532 to R537, R542) -/

/-- A SEC command ends with a result (R536, R542). -/
def Dev.secEnd (d : Dev) (cmd res : Nat) : Dev :=
  let d := d.setMany [(.sec_cmd_status_busy, 0, 0), (.sec_cmd_status_last_cmd, 0, cmd), (.sec_cmd_status_result, 0, res)]
  if res = 0 then d else d.raise .SEC_CMD_REFUSED d.pathDevice [.h cmd, .h res]

/-- Whether slot `s` holds the running image. -/
def Dev.slotRuns (d : Dev) (s : Nat) : Bool := d.flag .h_run_valid && d.get .sys_boot_status_running_slot == s

/-- Whether two revisions differ by more than 1. -/
def revGap (a b : Nat) : Bool := decide (a > b + 1 ∨ b > a + 1)

/-- The refusal of a command at its start, 0 for none (R536). -/
def Dev.secRefusal (d : Dev) (cmd a : Nat) : Nat :=
  let s := slice a 56 1
  let run := d.get .sys_boot_status_running_slot
  let other := 1 - run
  if cmd = 1 ∨ cmd = 2 then (if d.slotRuns s then 2 else 0)
  else if cmd = 3 then
    if d.get .sec_slot_status_state s ≠ 1 then 5
    else if revGap (d.get .sec_slot_status_link_rev s) (d.get .sys_boot_status_link_rev) then 6 else 0
  else if cmd = 4 then (if d.flag .sys_boot_status_trial then 0 else 7)
  else if cmd = 5 then
    if d.flag .sys_boot_status_trial then 8
    else if d.get .sec_slot_status_state other = 1 ∧ d.get .sec_slot_status_svn other < d.get .sys_boot_status_svn ∧ bit a 55 = false then 9
    else 0
  else if cmd = 6 then
    let k := slice a 48 2
    if d.flag .h_run_valid ∧ k = d.get (if bit a 53 then .h_run_lms else .h_run_ecdsa) then 10 else 0
  else if cmd = 8 then (if d.measLog.length ≥ 64 then 12 else 0)
  else 0

/-- The report ATTEST writes (R535), or the two certificates; keys and certificates are free functions, the signature a free value,
of what the device does not show (R534). -/
def Dev.attestBytes (d : Dev) (chain : Bool) : Dev × List Nat :=
  let own := d.measLog.take 4
  if chain then
    let cert (c : List Nat) : List Nat := leBytes 4 c.length ++ c.map (· % 256)
    (d, cert Config.identityCert ++ cert (Config.attestCert own))
  else
    let (sig, d) := d.draw
    let nonce := ((List.range 4).map (fun i => leBytes 8 (d.get .sec_nonce_nonce i))).flatten
    (d, [leBytes 4 1, leBytes 4 d.measLog.length, leBytes 8 (d.get .sys_serial_serial), leBytes 8 d.fabricNs, nonce,
      sha384 d.measLog.flatten, beBytes 96 (Config.attestKey own), beBytes 96 sig, d.measLog.flatten].flatten)

/-- A SEC command begins (R536, R542). -/
def Dev.secCmd (d : Dev) (cmd a : Nat) : Dev :=
  if cmd = 0 then d
  else if d.flag .sec_cmd_status_busy then
    d.raise .SEC_CMD_REFUSED d.pathDevice [.h cmd, .h 1] |>.set .sec_cmd_status_result 0 1
  else match d.secRefusal cmd a with
    | 0 =>
      let s := slice a 56 1
      let addr := d.get .sec_cmd_addr_addr / 64 * 64
      let d := d.setMany [(.sec_cmd_status_busy, 0, 1), (.sec_cmd_status_last_cmd, 0, cmd), (.sec_cmd_status_result, 0, 0), (.h_sec_args, 0, a)]
      if cmd = 1 then
        if d.get .sys_straps_boot_src = 1 then d.set .sec_kcl_img_img s addr
        else (d.set .sec_slot_status_state s 3).kread .sec reqSEC addr 4096
      else if cmd = 7 then
        let (d, l) := d.attestBytes (bit a 54)
        d.emit (.kclWrite reqSEC addr l)
      else if cmd = 8 then d.kread .sec reqSEC addr 48
      else d
    | r => d.secEnd cmd r

/-- A SEC_CMD write. -/
def State.secWrite (s : State) (m : Mark) (cmd a : Nat) : Host.Outcome State Fault Refusal :=
  s.run (fun d => d.hostWrite m rowSEC_CMD 0 (cmd * 2 ^ 60 + a) (fun _ _ _ d => d.secCmd cmd a))

/-- SEC_CMD_NOP (R542). -/
def execSecCmdNop (m : Mark) (v : BitVec 60) (s : State) : Host.Outcome State Fault Refusal := s.secWrite m 0 v.toNat
/-- WRITE (R536). -/
def execSecCmdWrite (m : Mark) (v : BitVec 60) (s : State) : Host.Outcome State Fault Refusal := s.secWrite m 1 v.toNat
/-- VERIFY (R536). -/
def execSecCmdVerify (m : Mark) (v : BitVec 60) (s : State) : Host.Outcome State Fault Refusal := s.secWrite m 2 v.toNat
/-- PREFER_TRIAL (R536). -/
def execSecCmdPreferTrial (m : Mark) (v : BitVec 60) (s : State) : Host.Outcome State Fault Refusal := s.secWrite m 3 v.toNat
/-- CONFIRM (R537). -/
def execSecCmdConfirm (m : Mark) (v : BitVec 60) (s : State) : Host.Outcome State Fault Refusal := s.secWrite m 4 v.toNat
/-- SVN_COMMIT (R532). -/
def execSecCmdSvnCommit (m : Mark) (v : BitVec 60) (s : State) : Host.Outcome State Fault Refusal := s.secWrite m 5 v.toNat
/-- REVOKE (R533). -/
def execSecCmdRevoke (m : Mark) (v : BitVec 60) (s : State) : Host.Outcome State Fault Refusal := s.secWrite m 6 v.toNat
/-- ATTEST (R535). -/
def execSecCmdAttest (m : Mark) (v : BitVec 60) (s : State) : Host.Outcome State Fault Refusal := s.secWrite m 7 v.toNat
/-- EXTEND (R535). -/
def execSecCmdExtend (m : Mark) (v : BitVec 60) (s : State) : Host.Outcome State Fault Refusal := s.secWrite m 8 v.toNat

/-- A change of the boot control, written to the persistent store (R527, R537). -/
def Dev.bootControl (d : Dev) (pref : Nat) (trial ok : Bool) : Dev :=
  let d := d.setMany [(.p_pref, 0, pref), (.sec_boot_ctrl_preferred, 0, pref), (.p_trial, 0, b2n trial), (.p_tried, 0, 0)]
  if ok then d
  else
    let (v, d) := d.draw
    d.raise .PSTORE_FAIL d.pathDevice [.h v]

/-- SVN_COMMIT burns `n` bits that verify; one that does not ends it (R532). -/
def State.svnCommit (s : State) (n : Nat) : State :=
  let old := s.fuses.svn
  let target := s.dev.get .sys_boot_status_svn
  let new := max old (min target (old + n))
  let s := { s with fuses := { s.fuses with svn := new } }
  s.onDev (fun d =>
    if target ≤ new then (d.secEnd 5 0).raise .SVN_COMMITTED d.pathDevice [.h old, .h new]
    else (d.secEnd 5 11).raise .FUSE_FAIL d.pathDevice [.h new])

/-- REVOKE burns the bit of a key index, if it verifies (R533). The number of a revoke bit among the fuses is not stated: it is
free. -/
def State.revoke (s : State) (a : Nat) (ok : Bool) : State :=
  let k := slice a 48 2
  let fu := s.fuses
  if ok then
    { s with dev := s.dev.secEnd 6 0,
             fuses := if bit a 53 then { fu with lmsRevoked := setBit fu.lmsRevoked k }
               else { fu with ecdsaRevoked := setBit fu.ecdsaRevoked k } }
  else s.onDev (fun d =>
    let (v, d) := d.draw
    (d.secEnd 6 11).raise .FUSE_FAIL d.pathDevice [.h v])

/-- Whether the read a SEC command waits for was answered well: it must not have timed out (R546). -/
def Dev.secRead (d : Dev) (ok : Bool) : Dev × Bool :=
  match d.takeRead .sec with
  | some d => (d, ok)
  | none => (d, false)

/-- A SEC command that runs finishes (R536). -/
def State.secDone (s : State) (r : SecOutcome) : State :=
  let d := s.dev
  if !d.flag .sec_cmd_status_busy then s
  else
    let cmd := d.get .sec_cmd_status_last_cmd
    let a := d.get .h_sec_args
    let slot := slice a 56 1
    if cmd = 1 then s.onDev (fun d =>
      if d.get .sys_straps_boot_src = 1 then (d.verifySlot s.fuses slot r.img).secEnd 1 0
      else
        let (d, ok) := d.secRead r.kclOk
        if !ok then (d.slotState slot 1).secEnd 1 3
        else if !r.flashOk then (d.slotState slot 1).secEnd 1 4
        else (d.verifySlot s.fuses slot r.img).secEnd 1 0)
    else if cmd = 2 then s.onDev (fun d => (d.verifySlot s.fuses slot r.img).secEnd 2 0)
    else if cmd = 3 then s.onDev (fun d => (d.bootControl slot true r.storeOk).secEnd 3 0)
    else if cmd = 4 then s.onDev (fun d =>
      ((d.bootControl (d.get .sys_boot_status_running_slot) false r.storeOk).set .sys_boot_status_trial 0 0).secEnd 4 0)
    else if cmd = 5 then s.svnCommit r.burned.toNat
    else if cmd = 6 then s.revoke a (r.burned != 0)
    else if cmd = 7 then s.onDev (fun d => d.secEnd 7 (if r.kclOk then 0 else 13))
    else s.onDev (fun d =>
      let (d, ok) := d.secRead r.kclOk
      if ok then ({ d with measLog := d.measLog ++ [r.bytes.toList.map (·.toNat)] } : Dev).secEnd 8 0 else d.secEnd 8 3)

/-- SEC_CMD_DONE. -/
def execSecCmdDone (r : SecOutcome) (s : State) : Host.Outcome State Fault Refusal := (s.secDone r).done

end Sys2Proof.Machine
end

