-- ==== Sys2Proof/Machine/Board.lean ====
section
/-! DEFINITION. Rails and their trim (R560 to R564), REFCLK (R568), thermal sensors (R573, R576 to R578), the management bus
(R572 to R574), the test port (R571). -/

namespace Sys2Proof.Machine

/-! ### Rails (R563) -/

/-- Every domain but PD0, those that need others first. -/
def shutOrder : List Nat := [19, 18, 17, 16, 15, 14, 13, 12, 11, 9, 7, 6, 5, 4, 3, 2, 8, 1, 10]

/-- Every domain but PD0 loses what it holds (R563). -/
def Dev.resetAll (d : Dev) : Dev := shutOrder.foldl (fun d k => d.resetDomain k) d

/-- Every DFB and amplifier is shut and every domain but PD0 switched off, until a POWER or COLD reset (R563, R568). -/
def Dev.shutAll (d : Dev) : Dev :=
  (d.setMany [(.sys_pd_status_on, 0, 1), (.sys_pd_status_busy, 0, 0), (.h_shut, 0, 1)]).resetAll

/-- Whether VDD_AON and VDD_IO are in range (R569, R572). -/
def Dev.aonOk (d : Dev) : Bool := d.get .h_rail_out % 4 == 0

/-- Whether the device runs: no POWER reset and no trip holds it (R520, R577). -/
def Dev.alive (d : Dev) : Bool := !d.flag .h_porst && !d.flag .h_trip && d.aonOk

/-- A rail leaves its range. While it is out the other domains are in reset; out for more than 20 µs while the device runs, it
takes a POWER reset or shuts the device down (R563). The number of a rail in RAIL_FAULT is not stated: it is free. -/
def State.railOut (s : State) (rail mv : Nat) (sustained : Bool) : State :=
  let run := s.dev.alive
  let s := s.onDev (fun d => (d.putB .h_rail_out 0 rail true).resetAll)
  if !sustained || !run then s
  else if rail ≤ 1 then s.cold 0 1
  else s.onDev (fun d =>
    let (v, d) := d.shutAll.draw
    (d.raise .RAIL_FAULT d.pathDevice [.h v, .h mv]).alert 4)

/-- RAIL_OUT_OF_RANGE. -/
def execRailOutOfRange (rail : Fin 12) (mv : BitVec 16) (sustained : Bool) (s : State) : Host.Outcome State Fault Refusal :=
  (s.railOut rail mv.toNat sustained).done

/-- RAIL_RETURN_IN_RANGE: when no rail is out any longer, the domains that are on start; `trained`: the LPDDR channels that
passed their training (R386). -/
def execRailReturnInRange (rail : Fin 12) (trained : BitVec 64) (s : State) : Host.Outcome State Fault Refusal :=
  s.runX (fun d =>
    if d.bitOf .h_rail_out 0 rail then
      let d := d.putB .h_rail_out 0 rail false
      if d.get .h_rail_out = 0 then
        ((List.range 20).filter d.pdOn).foldl (fun d k => d.domainStart k trained.toNat) d
      else d
    else d)

/-- AVS_TRIM of the rail with selector `rail`: toward `mv`, at most 10 mV and within the span; no acknowledgement or a status
alert stops the trim (R564). -/
def execAvsTrim (rail : Fin 3) (mv : BitVec 12) (ack alert : Bool) (s : State) : Host.Outcome State Fault Refusal :=
  s.run (fun d =>
    let last := d.get .h_avs_mv rail
    if !d.alive || d.flag .h_avs_stop rail then d
    else if !ack || alert then
      ((d.set .h_avs_stop rail 1).raise .AVS_FAULT d.pathDevice [.h rail, .h last]).alert 3
    else if d.stage = 0 then d
    else d.set .h_avs_mv rail (max (max (avsLo rail) (last - 10)) (min (min (avsHi rail) (last + 10)) mv.toNat)))

/-- REFCLK_LOSS (R568). -/
def execRefclkLoss (s : State) : Host.Outcome State Fault Refusal :=
  s.runX (fun d =>
    if !d.alive || d.flag .h_refclk then d
    else
      let d := d.shutAll.set .h_refclk 0 1
      (d.raise .REFCLK_LOST d.pathDevice [.h (d.get .time_ctrl_ref_sel)]).alert 5)

/-! ### Thermal sensors (R573, R576 to R578) -/

/-- The zone of sensor `i`, and its number in the zone. -/
def sensZone (i : Nat) : Nat × Nat :=
  if i < 36 then (0, i) else if i < 40 then (1, i - 36) else if i < 48 then (2, i - 40) else if i < 56 then (3, i - 48) else (4, i - 56)

/-- Warning, limit and trip level of a zone (R576). -/
def thermWarn (z : Nat) : Int := [95, 95, 90, 80, 70].getD z 0
def thermLimit (z : Nat) : Int := [100, 100, 95, 85, 75].getD z 0
def thermTrip (z : Nat) : Int := [110, 110, 105, 95, 85].getD z 0

/-- The reading of sensor `i`, if it has one. -/
def Dev.reading (d : Dev) (i : Nat) : Option Int :=
  if d.get .h_sens i = 128 then none else some (sgn 8 (d.get .h_sens i))

/-- A thermal record of sensor `i` (R577, R584). -/
def Dev.thermRec (d : Dev) (c : RecCode) (i : Nat) : Dev :=
  let (z, k) := sensZone i
  let e := if z = 4 then k / 2 else k
  d.raise c (if z ≤ 1 then d.pathDevice else d.pathEngine e) [.h z, .h k, .h (wrap 16 (sgn 8 (d.get .h_sens i)))]

/-- A reading is stored, where OPT_ENG_TEMP shows it too (R94). -/
def Dev.sensStore (d : Dev) (i v : Nat) : Dev :=
  let d := d.set .h_sens i v
  let (z, k) := sensZone i
  if z = 2 then d.set .opt_eng_temp_eic_temp k (wrap 16 (sgn 8 v * 16))
  else if z = 3 then d.set .opt_eng_temp_pic_temp k (wrap 16 (sgn 8 v * 16))
  else d

/-- The warning and limit episodes of sensor `i` (R577). -/
def Dev.thermEpisodes (d : Dev) (i : Nat) (t : Int) : Dev :=
  let z := (sensZone i).1
  let d := if thermWarn z ≤ t then
      (if d.flag .h_sens_warn i then d else ((d.set .h_sens_warn i 1).thermRec .THERM_WARN i).alert 0)
    else if t ≤ thermWarn z - 3 then d.set .h_sens_warn i 0 else d
  if thermLimit z < t then
    (if d.flag .h_sens_over i then d else ((d.set .h_sens_over i 1).thermRec .THERM_OVER i).alert 1)
  else d.set .h_sens_over i 0

/-- What a reading below a zone's lower limit holds, and what one that is not releases (R578). -/
def Dev.thermCold (d : Dev) (i : Nat) (t : Int) : Dev :=
  let (z, k) := sensZone i
  if z = 4 then (if d.laserCold (k / 2) then d else d.set .h_cold_hold (k / 2) 0)
  else if t < 0 ∧ d.stage = 0 ∧ d.flag .h_cold_rom = false then (d.set .h_cold_rom 0 1).thermRec .THERM_COLD_HOLD i
  else d

/-- The FIFO goes to the bank, as far as it holds records. -/
def Dev.drainAll (d : Dev) : Nat → Dev
  | 0 => d
  | n + 1 => if d.fifo.isEmpty then d else d.fifoDrain.drainAll n

/-- A trip: the record reaches the bank and its keep area, then a COLD reset with cause THERMAL (R577). -/
def State.trip (s : State) (i : Nat) : State :=
  let s := s.onDev (fun d => ((d.thermRec .THERM_TRIP i).alert 2).flush.drainAll 82)
  (s.cold 1 3).onDev (fun d => (d.set .h_trip 0 1).emit (.pin "THERMTRIP_N" 0))

/-- Whether every sensor is at least 10 °C below its trip level (R577). -/
def Dev.tripOver (d : Dev) : Bool :=
  (List.range 72).all (fun i => match d.reading i with
    | some t => decide (t ≤ thermTrip (sensZone i).1 - 10)
    | none => true)

/-- A sensor is read: 128 while it has no reading (R573, R577). -/
def State.sample (s : State) (i v : Nat) : State :=
  let s := s.onDev (fun d => d.sensStore i v)
  let d := s.dev
  if d.flag .h_porst || !d.aonOk then s
  else match d.reading i with
    | none => s
    | some t =>
      let s := s.onDev (fun d => (d.thermEpisodes i t).thermCold i t)
      if d.flag .h_trip then
        s.onDev (fun d => if d.tripOver then (d.set .h_trip 0 0).emit (.pin "THERMTRIP_N" 1) else d)
      else if thermTrip (sensZone i).1 ≤ t then s.trip i
      else s

/-- THERM_SAMPLE; `temp` in °C, two's complement. -/
def execThermSample (sensor : Fin 72) (temp : BitVec 8) (s : State) : Host.Outcome State Fault Refusal :=
  (s.sample sensor temp.toNat).done

/-! ### The management bus (R572 to R574) -/

/-- The sensors of a zone. -/
def zoneSens (z : Nat) : List Nat := (List.range 72).filter (fun i => (sensZone i).1 == z)

/-- The readings of a zone. -/
def Dev.zoneReadings (d : Dev) (z : Nat) : List Int := (zoneSens z).filterMap d.reading

/-- The hottest sensor of a zone, 0x80 while none has a reading (R573). -/
def Dev.zoneHot (d : Dev) (z : Nat) : Nat :=
  match d.zoneReadings z with
  | [] => 0x80
  | t :: ts => wrap 8 (ts.foldl max t)

/-- I2C_THERM (R573). -/
def Dev.i2cTherm (d : Dev) : Nat :=
  sumBelow 5 (fun z => d.zoneHot z * 2 ^ (56 - 8 * z))
    + maskOf 5 (fun z => (d.zoneReadings z).any (fun t => decide (thermLimit z < t))) * 2 ^ 8
    + maskOf 5 (fun z => (d.zoneReadings z).any (fun t => decide (thermWarn z ≤ t)))

/-- I2C_STATUS (R574). -/
def Dev.i2cStatus (d : Dev) : Nat :=
  d.stage * 2 ^ 56 + d.get .sys_reset_info_last_cause * 2 ^ 52 + d.get .i2c_status_alert

/-- A transaction is answered while VDD_AON and VDD_IO are in range (R572). -/
def State.i2c (s : State) (f : Dev → Dev) : Host.Outcome State Fault Refusal := s.run (fun d => if d.aonOk then f d else d)

/-- I2C_READ_THERM. -/
def execI2cReadTherm (s : State) : Host.Outcome State Fault Refusal := s.i2c (fun d => d.emit (.i2c (some (leBytes 8 d.i2cTherm))))

/-- I2C_READ_STATUS. -/
def execI2cReadStatus (s : State) : Host.Outcome State Fault Refusal := s.i2c (fun d => d.emit (.i2c (some (leBytes 8 d.i2cStatus))))

/-- Alert bits cleared by writing 1; the pin rises with the last (R572, R574). -/
def Dev.alertClear (d : Dev) (v : Nat) : Dev :=
  (d.set .i2c_status_alert 0 (maskOf 7 (fun k => d.bitOf .i2c_status_alert 0 k && !bit v k))).alertGone d

/-- I2C_WRITE_STATUS. -/
def execI2cWriteStatus (v : Word) (s : State) : Host.Outcome State Fault Refusal := s.i2c (fun d => d.alertClear v.toNat)

/-- I2C_BAD_COMMAND: another command byte, or 0x10 followed by data, is not acknowledged (R572). -/
def execI2cBadCommand (cmd : BitVec 8) (data : List Byte) (s : State) : Host.Outcome State Fault Refusal :=
  s.i2c (fun d =>
    let c := cmd.toNat
    if (c = 0x10 ∧ data.isEmpty = true) ∨ c = 0x11 then d else d.emit (.i2c none))

/-! ### The test port (R571) -/

/-- BYPASS: one bit between TDI and TDO, 0 at first. -/
def bypassBits (tdi : List Bool) : List Bool := (false :: tdi).take tdi.length

/-- An instruction that drives pins: only while the ROM is stopped by the board-test strap; otherwise it acts as BYPASS. -/
def Dev.tapDrive (d : Dev) (mode : Nat) (levels : List Bool) : Dev :=
  let d := d.set .h_tap 0 mode
  if d.flag .h_board_test then d.emit (.boundary mode levels) else d.emit (.tap (bypassBits levels))

/-- TAP_EXTEST. -/
def execTapExtest (levels : List Bool) (s : State) : Host.Outcome State Fault Refusal := s.run (fun d => d.tapDrive 2 levels)

/-- TAP_EXTEST_PULSE. -/
def execTapExtestPulse (levels : List Bool) (s : State) : Host.Outcome State Fault Refusal := s.run (fun d => d.tapDrive 3 levels)

/-- TAP_EXTEST_TRAIN. -/
def execTapExtestTrain (levels : List Bool) (s : State) : Host.Outcome State Fault Refusal := s.run (fun d => d.tapDrive 4 levels)

/-- The identification code. -/
def idcode : Nat := 0xA0000000 + 0x0512 * 2 ^ 12 + Config.jep106 % 2 ^ 11 * 2 + 1

/-- TAP_IDCODE: 32 bits, the least significant first. -/
def execTapIdcode (s : State) : Host.Outcome State Fault Refusal :=
  s.run (fun d => (d.set .h_tap 0 0).emit (.tap ((List.range 32).map (bit idcode))))

/-- TAP_BYPASS. -/
def execTapBypass (tdi : List Bool) (s : State) : Host.Outcome State Fault Refusal :=
  s.run (fun d => (d.set .h_tap 0 1).emit (.tap (bypassBits tdi)))

/-- TRST_N_ASSERT. -/
def execTrstNAssert (s : State) : Host.Outcome State Fault Refusal := s.run (fun d => d.set .h_tap 0 0)

end Sys2Proof.Machine
end

