-- ==== Sys2Proof/Machine/Collective.lean ====
section
/-! DEFINITION. The commands of chapters 9 and 12: contexts, steps and chunks. -/

namespace Sys2Proof.Machine

/-- COLL_LOAD_CMD as a word (R290). -/
def collWord (cmd x : Nat) : Nat := cmd * 2 ^ 62 + x

/-- COLL_CMD_NOP (R290). -/
def execCollCmdNop (m : Mark) (ctx : Fin 16384) (s : State) : Host.Outcome State Fault Refusal :=
  s.run (fun d => d.hostWrite m rowCOLL_LOAD_CMD 0 (collWord 0 ctx) (fun _ _ _ d => d))

/-- COLL_CMD_LOAD: check 1 and the start of the image read (R266). -/
def execCollCmdLoad (m : Mark) (ctx : Fin 16384) (s : State) : Host.Outcome State Fault Refusal :=
  s.run (fun d => d.hostWrite m rowCOLL_LOAD_CMD 0 (collWord 1 ctx)
    (fun _ _ _ d => (d.collLoad 8 ctx (d.get .coll_load_addr_image) 0 []).1))

/-- What COLL_LOAD_STATUS shows after an unload or abort of the control space. -/
def Dev.collAnswer (d : Dev) (x : Nat) (r : Dev × Nat) : Dev :=
  r.1.collStatus x r.2 (d.collLoads.getOpt 8).isSome

/-- COLL_CMD_UNLOAD (R269). -/
def execCollCmdUnload (m : Mark) (ctx : Fin 16384) (s : State) : Host.Outcome State Fault Refusal :=
  s.run (fun d => d.hostWrite m rowCOLL_LOAD_CMD 0 (collWord 2 ctx)
    (fun _ _ _ d => d.collAnswer ctx (d.collUnload ctx)))

/-- COLL_CMD_ABORT (R272). -/
def execCollCmdAbort (m : Mark) (ctx : Fin 16384) (s : State) : Host.Outcome State Fault Refusal :=
  s.runX (fun d => d.hostWrite m rowCOLL_LOAD_CMD 0 (collWord 3 ctx)
    (fun _ _ _ d => d.collAnswer ctx (d.collAbort ctx)))

/-- COLL_LOAD_CHECK: the image of the load that runs on a path, none where its read failed (R266). -/
def execCollLoadCheck (path : Fin 9) (image : Option (List Byte)) (s : State) : Host.Outcome State Fault Refusal :=
  s.runX (fun d => d.collLoadEnd path (image.map (fun l => l.map (fun b => b.toNat))))

/-- COLL_STEP_OPEN: an armed step opens (R271). -/
def execCollStepOpen (ctx : Fin 16384) (s : State) : Host.Outcome State Fault Refusal := s.runX (fun d => d.openArmed ctx)

/-- COLL_CONTRIB_INTAKE: the head of the COLL output is checked and taken (R273). -/
def execCollContribIntake (s : State) : Host.Outcome State Fault Refusal := s.runX Dev.intake

/-- CHUNK_VERDICT: the residue verdict of a chunk of a combining unit (R306 to R308), `ovr` where its unit serves it in the
second tier (R365). -/
def execChunkVerdict (ctx : Fin 16384) (chunk : Fin 1048576) (ovr : Bool) (out : ChunkOut) (s : State) :
    Host.Outcome State Fault Refusal :=
  s.runX (fun d => d.chunkVerdict ctx chunk ovr out)

/-- COLL_RESULT_RELEASE: a result is released on its route (R277). -/
def execCollResultRelease (ctx : Fin 16384) (chunk : Fin 1048576) (s : State) : Host.Outcome State Fault Refusal :=
  s.runX (fun d => d.resultRelease ctx chunk)

/-- COLL_COMMIT_DECIDE: the root sends COMMIT (R280). -/
def execCollCommitDecide (ctx : Fin 16384) (s : State) : Host.Outcome State Fault Refusal := s.runX (fun d => d.commitDecide ctx)

/-- COLL_STEP_END: the copies have left and the step ends (R280, R283). -/
def execCollStepEnd (ctx : Fin 16384) (s : State) : Host.Outcome State Fault Refusal := s.runX (fun d => d.stepFinish ctx)

/-- COLL_STEP_TIMEOUT: the root's timer expires (R352). -/
def execCollStepTimeout (ctx : Fin 16384) (s : State) : Host.Outcome State Fault Refusal := s.runX (fun d => d.rootTimeout ctx)

/-- COLL_STEP_SLOW: half the timeout has passed (R353). -/
def execCollStepSlow (ctx : Fin 16384) (s : State) : Host.Outcome State Fault Refusal := s.runX (fun d => d.stepSlow ctx)

/-- COLL_INNER_TIMEOUT: an inner device's timer expires (R354). -/
def execCollInnerTimeout (ctx : Fin 16384) (s : State) : Host.Outcome State Fault Refusal :=
  s.runX (fun d => d.innerTimeout ctx)

end Sys2Proof.Machine
end

