-- ==== Sys2Proof/Machine/Combine.lean ====
section
/-! DEFINITION. The commands of chapter 10: lanes and units (R310), CMB_CTRL (R318), shadow checks (R312). -/

namespace Sys2Proof.Machine

/-- CMB_UNIT_CMD as a word (R322). -/
def cmbWord (cmd lane : Nat) : Nat := lane * 2 ^ 8 + cmd

/-- A refused or carried out unit command shows its result. -/
def Dev.unitResult (d : Dev) (u res : Nat) : Dev := d.set .cmb_unit_status_cmd_result u res

/-- CMB_UNIT_NOP (R322). -/
def execCmbUnitNop (m : Mark) (unit : Fin 128) (s : State) : Host.Outcome State Fault Refusal :=
  s.run (fun d => d.hostWrite m rowCMB_UNIT_CMD unit (cmbWord 0 0) (fun _ _ _ d => d))

/-- RETIRE_LANE (R310). -/
def Dev.cmbRetire (d : Dev) (u l : Nat) : Dev :=
  if d.get .h_cmb_req u = 31 then (d.retireLane u l 2).unitResult u 0 else d.unitResult u 1

/-- CMB_RETIRE_LANE: refused under R13 for a lane above 15 (R310, R322). -/
def execCmbRetireLane (m : Mark) (unit : Fin 128) (lane : Fin 32) (s : State) : Host.Outcome State Fault Refusal :=
  s.run (fun d => d.hostWrite m rowCMB_UNIT_CMD unit (cmbWord 1 lane) (fun _ _ _ d => d.cmbRetire unit lane))

/-- RESTORE_LANE (R310). -/
def Dev.cmbRestore (d : Dev) (u : Nat) : Dev :=
  if d.get .h_cmb_req u = 31 then d.unitResult u 2 else (d.set .h_cmb_req u 31).unitResult u 0

/-- CMB_RESTORE_LANE (R310). -/
def execCmbRestoreLane (m : Mark) (unit : Fin 128) (s : State) : Host.Outcome State Fault Refusal :=
  s.run (fun d => d.hostWrite m rowCMB_UNIT_CMD unit (cmbWord 2 0) (fun _ _ _ d => d.cmbRestore unit))

/-- FENCE (R309, R310). -/
def Dev.cmbFence (d : Dev) (u : Nat) : Dev :=
  if d.unitsUp.any (· != u) then (d.fenceUnit u 2).unitResult u 0 else d.unitResult u 3

/-- CMB_UNIT_FENCE_CMD (R310). -/
def execCmbUnitFenceCmd (m : Mark) (unit : Fin 128) (s : State) : Host.Outcome State Fault Refusal :=
  s.runX (fun d => d.hostWrite m rowCMB_UNIT_CMD unit (cmbWord 3 0) (fun _ _ _ d => d.cmbFence unit))

/-- UNFENCE (R310): chunks that wait for a unit may get this one. -/
def Dev.cmbUnfence (d : Dev) (u : Nat) : Dev :=
  if d.flag .cmb_unit_status_fenced u then ((d.set .cmb_unit_status_fenced u 0).unitResult u 0).bindWaiting
  else d.unitResult u 4

/-- CMB_UNIT_UNFENCE (R310). -/
def execCmbUnitUnfence (m : Mark) (unit : Fin 128) (s : State) : Host.Outcome State Fault Refusal :=
  s.runX (fun d => d.hostWrite m rowCMB_UNIT_CMD unit (cmbWord 4 0) (fun _ _ _ d => d.cmbUnfence unit))

/-- CLEAR_STRIKES (R310): the strikes counted from here name lanes anew (R314). -/
def Dev.cmbClear (d : Dev) (u : Nat) : Dev :=
  (d.setMany [(.cmb_unit_status_strikes, u, 0), (.h_cmb_strike, u, 30)]).unitResult u 0

/-- CMB_CLEAR_STRIKES (R310). -/
def execCmbClearStrikes (m : Mark) (unit : Fin 128) (s : State) : Host.Outcome State Fault Refusal :=
  s.run (fun d => d.hostWrite m rowCMB_UNIT_CMD unit (cmbWord 5 0) (fun _ _ _ d => d.cmbClear unit))

/-- A write of CMB_CTRL: a lowered shadow_log2n is refused where the reserved intake would exceed the limit (R318). -/
def Dev.cmbCtrlWrite (d : Dev) (v : Nat) (bad : List Nat) : Dev :=
  let n := slice v 0 5
  if !bad.contains 0 && decide (n < d.get .cmb_ctrl_shadow_log2n) &&
      decide (d.rateLimitAt n * 1000000000 < d.intakeSum) then
    (d.writeFields rowCMB_CTRL 0 v (0 :: bad)).raise .CMB_SHADOW_REFUSED d.pathDevice [.h n, .h (d.get .cmb_ctrl_shadow_log2n)]
  else d.writeFields rowCMB_CTRL 0 v bad

/-- CMB_CTRL_WRITE (R318). -/
def execCmbCtrlWrite (m : Mark) (v : Word) (s : State) : Host.Outcome State Fault Refusal :=
  s.run (fun d => d.hostWrite m rowCMB_CTRL 0 v.toNat (fun _ v bad d => d.cmbCtrlWrite v bad))

/-- SHADOW_COMPARE: `err` are the bytes of the shadow computation that an error no check sees changed; the sensors of the
delivering and the shadow unit (R312). -/
def execShadowCompare (ctx : Fin 16384) (step : BitVec 18) (chunk : Fin 1048576) (err : List (Fin 4096 × BitVec 8)) (e1 e2 : Env)
    (s : State) : Host.Outcome State Fault Refusal :=
  s.runX (fun d => d.shadowCompare ctx step.toNat chunk err e1 e2)

/-- SHADOW_THIRD_DONE: `err` as in SHADOW_COMPARE, of the third computation (R312). -/
def execShadowThirdDone (ctx : Fin 16384) (step : BitVec 18) (chunk : Fin 1048576) (err : List (Fin 4096 × BitVec 8)) (e : Env)
    (s : State) : Host.Outcome State Fault Refusal :=
  s.runX (fun d => d.shadowThird ctx step.toNat chunk err e)

end Sys2Proof.Machine
end

