-- ==== Sys2Proof/Machine/Memory.lean ====
section
/-! DEFINITION. The commands of chapter 13: frames and windows, requests, mirror pairs, the LPDDR side. -/

namespace Sys2Proof.Machine

/-- FMEM_MAP_CMD as a word (R394). -/
def fmemWord (cmd f : Nat) : Nat := cmd * 2 ^ 61 + f

/-- FMEM_MAP_STATUS after a command (R394). -/
def Dev.mapStatus (d : Dev) (f res : Nat) : Dev :=
  d.setMany [(.fmem_map_status_frame, 0, f), (.fmem_map_status_result, 0, res)]

/-- The two argument words (R394). -/
def Dev.mapArg0 (d : Dev) : Nat :=
  d.get .fmem_map_arg0_role * 2 ^ 62 + d.get .fmem_map_arg0_writable * 2 ^ 61 + d.get .fmem_map_arg0_atomics * 2 ^ 60
    + d.get .fmem_map_arg0_partner * 2 ^ 46 + d.get .fmem_map_arg0_window * 2 ^ 16 + d.get .fmem_map_arg0_job_tag
def Dev.mapArg1 (d : Dev) : Nat := d.get .fmem_map_arg1_src_limit * 2 ^ 24 + d.get .fmem_map_arg1_src_base

/-- FMEM_CMD_NOP (R394). -/
def execFmemCmdNop (m : Mark) (frame : Fin 512) (s : State) : Host.Outcome State Fault Refusal :=
  s.run (fun d => d.hostWrite m rowFMEM_MAP_CMD 0 (fmemWord 0 frame) (fun _ _ _ d => d))

/-- MAP of frame `f` (R374): the device and the result, which FMEM_MAP_STATUS shows whatever path the command came on. -/
def Dev.memMap (d : Dev) (f a0 a1 : Nat) : Dev × Nat :=
  let r := d.mapResult f a0 a1
  ((if r = 0 then d.mapFrame' f a0 a1 else d.mapRefused f (slice a0 16 26) r (slice a0 0 16)).mapStatus f r, r)

/-- A refused command of a frame that is not MAP. -/
def Dev.frameRefused (d : Dev) (f r : Nat) : Dev :=
  (d.mapRefused f (d.get .fmem_win_cfg_window f) r (d.get .fmem_win_cfg_job_tag f)).mapStatus f r

/-- UNMAP of frame `f` (R375): writes that wait for an acknowledgement, which will not be acted on, are answered. -/
def Dev.memUnmap (d : Dev) (f : Nat) : Dev × Nat :=
  let r := d.frameCmdResult 2 f
  if r ≠ 0 then (d.frameRefused f r, r)
  else
    let waits := d.fops.filter (fun (o : MOp) => o.frame == f && o.phase == 1)
    let d := ((d.set .fmem_win_state_state f fsDRAINING).dropPushes f).mapStatus f 0
    (waits.foldl (fun d o => d.opAnswer o msOK o.data) d, 0)

/-- RESYNC of frame `f` (R384). -/
def Dev.memResync (d : Dev) (f : Nat) : Dev × Nat :=
  let r := d.frameCmdResult 3 f
  if r ≠ 0 then (d.frameRefused f r, r) else (((d.set .fmem_win_state_state f fsRESYNC).resyncDone f).mapStatus f 0, 0)

/-- PROMOTE of frame `f` (R384). -/
def Dev.memPromote (d : Dev) (f : Nat) : Dev × Nat :=
  let r := d.frameCmdResult 4 f
  if r ≠ 0 then (d.frameRefused f r, r)
  else (((d.setMany [(.fmem_win_cfg_role, f, 1), (.fmem_win_state_state, f, fsDEGRADED), (.h_fm_hold, f, 0)]).putDirty f
    [(0, 262144)]).mapStatus f 0, 0)

/-- Fabric memory once a command has changed `d` to `d'`: a frame that a MAP put in ZEROING is zero (R375). -/
def zeroNew (d d' : Dev) (mem : SMap Byte) : SMap Byte :=
  ((List.range 409).filter (fun f => d.fstate f != fsZEROING && d'.fstate f == fsZEROING)).foldl memZero mem

/-- A command that may map a frame. -/
def State.runMap (s : State) (f : Dev → Dev) : Host.Outcome State Fault Refusal :=
  s.runMem (fun d mem => (f d, zeroNew d (f d) mem))

/-- FMEM_CMD_MAP (R374). -/
def execFmemCmdMap (m : Mark) (frame : Fin 512) (s : State) : Host.Outcome State Fault Refusal :=
  s.runMap (fun d => d.hostWrite m rowFMEM_MAP_CMD 0 (fmemWord 1 frame)
    (fun _ _ _ d => (d.memMap frame d.mapArg0 d.mapArg1).1))

/-- FMEM_CMD_UNMAP (R375). -/
def execFmemCmdUnmap (m : Mark) (frame : Fin 512) (s : State) : Host.Outcome State Fault Refusal :=
  s.runX (fun d => d.hostWrite m rowFMEM_MAP_CMD 0 (fmemWord 2 frame)
    (fun _ _ _ d => (d.memUnmap frame).1))

/-- FMEM_CMD_RESYNC (R384). -/
def execFmemCmdResync (m : Mark) (frame : Fin 512) (s : State) : Host.Outcome State Fault Refusal :=
  s.runX (fun d => d.hostWrite m rowFMEM_MAP_CMD 0 (fmemWord 3 frame)
    (fun _ _ _ d => (d.memResync frame).1))

/-- FMEM_CMD_PROMOTE (R384). -/
def execFmemCmdPromote (m : Mark) (frame : Fin 512) (s : State) : Host.Outcome State Fault Refusal :=
  s.run (fun d => d.hostWrite m rowFMEM_MAP_CMD 0 (fmemWord 4 frame)
    (fun _ _ _ d => (d.memPromote frame).1))

/-- A frame has finished zeroing (R375). -/
def Dev.zeroed (d : Dev) (f : Nat) : Dev :=
  match d.frole f with
  | 0 => d.set .fmem_win_state_state f fsACTIVE
  | 1 => (d.set .fmem_win_state_state f fsDEGRADED).putDirty f [(0, 262144)]
  | _ => d.set .fmem_win_state_state f fsRESYNC

/-- FMEM_ZEROING_DONE (R375). -/
def execFmemZeroingDone (frame : Fin 409) (s : State) : Host.Outcome State Fault Refusal :=
  s.run (fun d => if d.fstate frame = fsZEROING then d.zeroed frame else d)

/-- A draining frame without operations in flight becomes FREE (R375). -/
def Dev.drained (d : Dev) (f : Nat) : Dev :=
  if d.fstate f = fsDRAINING ∧ d.frameInflight f = 0 then
    ((d.setMany [(.fmem_win_state_state, f, fsFREE), (.h_fm_hold, f, 0)]).putDirty f []).opEnd (.memUnmap f) 0
  else d

/-- FMEM_FRAME_DRAINED (R375). -/
def execFmemFrameDrained (frame : Fin 409) (s : State) : Host.Outcome State Fault Refusal := s.run (fun d => d.drained frame)

/-- FMEM_REQUEST: the head of the FMEM output (R377, R381). -/
def execFmemRequest (s : State) : Host.Outcome State Fault Refusal := s.runX Dev.fmemTake

/-- FMEM_ACCESS_DONE: the access of an operation, by its number, with the words found corrected and uncorrectable
(R378, R379, R387). -/
def execFmemAccessDone (id : BitVec 32) (corr bad : List (BitVec 39)) (s : State) : Host.Outcome State Fault Refusal :=
  s.runMem (fun d mem => d.accessDone mem id.toNat (corr.map (fun w => w.toNat)) (bad.map (fun w => w.toNat)))

/-! ### Mirror pairs (R382 to R384) -/

/-- An acknowledgement of the mirror frame in `h` (R382). -/
def Dev.mirrorAck (d : Dev) (g : Nat) (h : Hdr) : Dev :=
  d.mirrorSend g 17 h.reqid h.faddr []

/-- The push in a frame is written and acknowledged at the secondary frame `g` (R382, R383). -/
def Dev.pushTaken (d : Dev) (mem : SMap Byte) (g : Nat) (f : Frame) : Dev × SMap Byte :=
  let o := faOffset f.hdr.faddr
  let bs := f.payload.take (2 ^ 30 - o)
  let a := g * 2 ^ 30 + o
  let d := if d.fstate g = fsORPHAN then d.set .fmem_win_state_state g fsRESYNC else d
  if bs.isEmpty then (d.mirrorAck g f.hdr, mem)
  else if d.chanFailed a bs.length then (d, mem)
  else ((d.memBytes .MEM_WR_BYTES a bs.length).mirrorAck g f.hdr, memWrite mem a bs)

/-- MIRROR_PUSH (R382). -/
def execMirrorPush (s : State) : Host.Outcome State Fault Refusal :=
  s.runMem (fun d mem => d.mirrorHead mem 16 2 (fun g f d => d.pushTaken mem g f))

/-- An acknowledgement of push `num` of frame `g` arrives at the primary (R382, R384). -/
def Dev.ackTaken (d : Dev) (g num : Nat) : Dev :=
  match d.fpushes.find? (fun (p : MPush) => p.frame == g && p.num == num) with
  | none => d
  | some p =>
    let d := { d with fpushes := d.fpushes.filter (fun (e : MPush) => !(e.frame == g && e.num == num)) }
    let d := match p.op.bind (fun i => d.fops.find? (fun (o : MOp) => o.id == i && o.phase == 1)) with
      | some o => d.opAnswer o msOK o.data
      | none => d
    let d := match p.gran with
      | some k => (d.putDirty g (ivDel (d.dirty g) k)).resyncDone g
      | none => d
    if p.kind = 19 ∧ d.fstate g = fsRESYNC then
      (d.set .fmem_win_state_state g fsACTIVE).raise .FMEM_RESYNC_DONE (d.pathDevice ucFMEM_FRAME g)
        [.h g, .w (d.get .fmem_win_cfg_window g), .h (d.get .fmem_win_cfg_partner g), .w (ivCount (d.dirty g))]
        (d.get .fmem_win_cfg_job_tag g)
    else d

/-- MIRROR_ACK (R382). -/
def execMirrorAck (s : State) : Host.Outcome State Fault Refusal :=
  s.runMem (fun d mem => d.mirrorHead mem 17 1 (fun g f d => (d.ackTaken g f.hdr.reqid, mem)))

/-- MIRROR_KEEP_SEND: the primary sends MIRROR_KEEP in ACTIVE and RESYNC (R382). -/
def execMirrorKeepSend (frame : Fin 409) (s : State) : Host.Outcome State Fault Refusal :=
  s.runX (fun d =>
    if d.frole frame = 1 ∧ (d.fstate frame = fsACTIVE ∨ d.fstate frame = fsRESYNC) then
      d.mirrorSend frame 18 0 (d.get .fmem_win_cfg_window frame * 2 ^ 30) []
    else d)

/-- MIRROR_KEEP: what it changes is the time since a mirror frame last came (R382, R383). -/
def execMirrorKeep (s : State) : Host.Outcome State Fault Refusal :=
  s.runMem (fun d mem => d.mirrorHead mem 18 2 (fun _ _ d => (d, mem)))

/-- MIRROR_DONE: a secondary in RESYNC enters ACTIVE and acknowledges (R384). -/
def Dev.doneTaken (d : Dev) (g : Nat) (h : Hdr) : Dev :=
  if d.fstate g = fsORPHAN then d
  else (if d.fstate g = fsRESYNC then d.set .fmem_win_state_state g fsACTIVE else d).mirrorAck g h

/-- MIRROR_DONE (R384). -/
def execMirrorDone (s : State) : Host.Outcome State Fault Refusal :=
  s.runMem (fun d mem => d.mirrorHead mem 19 2 (fun g f d => (d.doneTaken g f.hdr, mem)))

/-- MIRROR_ACK_TIMEOUT (R383). -/
def execMirrorAckTimeout (frame : Fin 409) (s : State) : Host.Outcome State Fault Refusal :=
  s.runX (fun d =>
    if d.frole frame = 1 ∧ (d.fstate frame = fsACTIVE ∨ d.fstate frame = fsRESYNC) ∧
        d.fpushes.any (fun (p : MPush) => p.frame == frame.val) = true then d.mirrorLost frame
    else d)

/-- MIRROR_ORPHAN_TIMEOUT (R383). -/
def execMirrorOrphanTimeout (frame : Fin 409) (s : State) : Host.Outcome State Fault Refusal :=
  s.run (fun d =>
    if d.frole frame = 2 ∧ (d.fstate frame = fsACTIVE ∨ d.fstate frame = fsRESYNC) then
      (d.set .fmem_win_state_state frame fsORPHAN).raise .FMEM_ORPHAN (d.pathDevice ucFMEM_FRAME frame)
        [.h frame, .w (d.get .fmem_win_cfg_window frame), .h (d.get .fmem_win_cfg_partner frame), .w (ivCount (d.dirty frame))]
        (d.get .fmem_win_cfg_job_tag frame)
    else d)

/-- FMEM_DEGRADED_ANSWER: the writes a DEGRADED primary holds are answered, and later ones at once (R383). -/
def execFmemDegradedAnswer (frame : Fin 409) (s : State) : Host.Outcome State Fault Refusal :=
  s.runX (fun d =>
    (d.fops.filter (fun (o : MOp) => o.frame == frame.val && o.phase == 2)).foldl (fun d o => d.opAnswer o msOK o.data)
      (d.set .h_fm_hold frame 0))

/-- RESYNC_PUSH (R384). -/
def execResyncPush (frame : Fin 409) (s : State) : Host.Outcome State Fault Refusal :=
  s.runMem (fun d mem => (d.resyncPush mem frame, mem))

/-! ### The LPDDR side (R388, R389) -/

/-- MR4_POLL: the refresh rate read and whether the channel is above its range (R389). -/
def execMr4Poll (chan : Fin 64) (rate : BitVec 4) (hot : Bool) (s : State) : Host.Outcome State Fault Refusal :=
  s.run (fun d =>
    if d.domainOn 9 = false then d
    else
      let was := d.flag .memc_ch_status_hot chan
      let d := d.setMany [(.memc_ch_status_mr4_rate, chan, rate.toNat), (.memc_ch_status_hot, chan, b2n hot)]
      if hot && !was then d.raise .MEMC_HOT (d.pathDevice ucLPDDR_CHANNEL chan) [.h chan] else d)

/-- Stripes of a channel the scrub visits in a pass. -/
def scrubStripes : Nat := 26843545

/-- The patrol scrub has visited a stripe of channel `k`; the pass ends when every channel has ended it (R388, R396). -/
def Dev.scrubNext (d : Dev) (k : Nat) : Dev :=
  let d := d.incr .h_scrub k
  let done := (List.range 64).foldl (fun a c => a + d.get .h_scrub c) 0
  if done = 64 * scrubStripes then
    ((d.clearIdx .h_scrub (fun _ => true)).incr .memc_scrub_passes 0).set .memc_scrub_progress 0 0
  else d.set .memc_scrub_progress 0 (done * 65536 / (64 * scrubStripes))

/-- LPDDR_PATROL_SCRUB: the next stripe of a channel, with the words found corrected and uncorrectable, a bit each (R388). -/
def execLpddrPatrolScrub (chan : Fin 64) (corr bad : BitVec 32) (s : State) : Host.Outcome State Fault Refusal :=
  s.run (fun d =>
    let i := d.get .h_scrub chan
    if d.domainOn 9 = false ∨ d.flag .memc_ctrl_scrub_en = false ∨ scrubStripes ≤ i then d
    else
      let q := i * 64 + (chan.val ^^^ (i % 64))
      let d := (bitsOf 32 corr.toNat).foldl (fun d w => d.memCorr true (q * 256 + w * 8)) d
      let d := (bitsOf 32 bad.toNat).foldl (fun d w => d.memUncorr true (q * 256 + w * 8)) d
      d.scrubNext chan)

end Sys2Proof.Machine
end

