-- ==== Sys2Proof/Machine/Drivex.lean ====
section
/-! DEFINITION. Drivex: the instruction table (R454, R460 to R467), the proof pass (R471, R472), and what every instruction
of a running entry shares: its issue, its objects, its failure, the step to the next instruction (R455 to R457, R461). -/

namespace Sys2Proof.Machine

/-- One row of the instruction tables of R460 to R467. -/
structure DSpec where
  /-- Bits [63:56]. -/
  op : Nat
  useD : Bool := false
  useA : Bool := false
  useB : Bool := false
  /-- Fields below bit 43 and of SET, as low bit and width. -/
  flds : List (Nat × Nat) := []
  /-- Privileges it is open to: bit 0 FABRIC, 1 JOB, 2 OBSERVE (R441). -/
  priv : Nat
  cost : Nat
  /-- The Failure column is not empty. -/
  fails : Bool := false
  /-- It starts an operation (R458). -/
  isOp : Bool := false
  /-- The object b + k: width of k at its low bit, class of R444 (0 none), lowest and highest value, use right. -/
  obj : Option (Nat × Nat × Nat × Nat × Nat × Bool) := none
  deriving DecidableEq, Repr

/-- Open to FABRIC, FABRIC and JOB, all. -/
def pvF : Nat := 1
def pvFJ : Nat := 3
def pvFJO : Nat := 7
def pvFO : Nat := 5

/-- The flow group (R460). -/
def dxFlow : List DSpec := [
  { op := 0x00, priv := pvFJO, cost := 1 },
  { op := 0x01, priv := pvFJO, cost := 1 },
  { op := 0x02, useD := true, flds := [(0, 44)], priv := pvFJO, cost := 1 },
  { op := 0x03, useD := true, flds := [(0, 20)], priv := pvFJO, cost := 1 },
  { op := 0x04, useD := true, useA := true, useB := true, flds := [(0, 32)], priv := pvFJO, cost := 1 },
  { op := 0x05, useD := true, useA := true, useB := true, priv := pvFJO, cost := 1 },
  { op := 0x06, useD := true, useA := true, useB := true, priv := pvFJO, cost := 1 },
  { op := 0x07, useD := true, useA := true, flds := [(6, 1), (0, 6)], priv := pvFJO, cost := 1 },
  { op := 0x08, useA := true, useB := true, flds := [(16, 4), (0, 16)], priv := pvFJO, cost := 1 },
  { op := 0x09, useD := true, flds := [(16, 8), (0, 16)], priv := pvFJO, cost := 2 },
  { op := 0x0A, useD := true, useA := true, useB := true, flds := [(40, 2), (24, 16), (16, 8), (0, 16)], priv := pvFJO,
    cost := 2, fails := true, obj := some (0, 16, ocTOKEN, 0, 65535, true) },
  { op := 0x0B, useB := true, flds := [(16, 8), (0, 16)], priv := pvFJO, cost := 2,
    obj := some (0, 16, ocTOKEN, 0, 65535, true) }]

/-- The TBL group (R463). -/
def dxTbl : List DSpec := [
  { op := 0x10, useD := true, useB := true, flds := [(6, 19), (0, 6)], priv := pvF, cost := 24, fails := true,
    obj := some (6, 19, 0, 0, 266239, true) },
  { op := 0x11, useA := true, useB := true, flds := [(6, 3), (0, 6)], priv := pvF, cost := 2, fails := true,
    obj := some (6, 3, 0, 0, 7, true) },
  { op := 0x12, useD := true, useB := true, flds := [(6, 3), (0, 6)], priv := pvF, cost := 2, fails := true,
    obj := some (6, 3, 0, 0, 7, true) },
  { op := 0x13, useD := true, useA := true, priv := pvF, cost := 48, fails := true },
  { op := 0x14, flds := [(0, 6)], priv := pvF, cost := 4 },
  { op := 0x15, useA := true, useB := true, flds := [(0, 9)], priv := pvF, cost := 4, fails := true,
    obj := some (0, 9, 0, 0, 511, true) },
  { op := 0x16, useA := true, useB := true, flds := [(0, 16)], priv := pvF, cost := 8, fails := true, isOp := true,
    obj := some (0, 16, ocMCAST, 0, 65535, true) }]

/-- The COLL group (R464). -/
def dxColl : List DSpec := [
  { op := 0x20, useA := true, useB := true, flds := [(0, 14)], priv := pvFJ, cost := 8, fails := true, isOp := true,
    obj := some (0, 14, ocCTX, 0, 16383, true) },
  { op := 0x21, useB := true, flds := [(0, 14)], priv := pvFJ, cost := 8, fails := true, isOp := true,
    obj := some (0, 14, ocCTX, 0, 16383, true) },
  { op := 0x22, useB := true, flds := [(14, 16), (0, 14)], priv := pvFJ, cost := 8, fails := true,
    obj := some (0, 14, ocCTX, 0, 16383, true) },
  { op := 0x23, useB := true, flds := [(0, 14)], priv := pvFJ, cost := 8, fails := true,
    obj := some (0, 14, ocCTX, 0, 16383, true) },
  { op := 0x24, useD := true, useB := true, flds := [(0, 14)], priv := pvFJ, cost := 4,
    obj := some (0, 14, ocCTX, 0, 16383, false) },
  { op := 0x25, useA := true, useB := true, flds := [(0, 12)], priv := pvFJ, cost := 8, fails := true, isOp := true,
    obj := some (0, 12, ocWRA_DESC, 1, 4095, true) },
  { op := 0x26, useB := true, flds := [(0, 12)], priv := pvFJ, cost := 8, fails := true, isOp := true,
    obj := some (0, 12, ocWRA_DESC, 1, 4095, true) }]

/-- The PORT group (R465). -/
def dxPort : List DSpec := [
  { op := 0x30, useB := true, flds := [(9, 4), (0, 9)], priv := pvF, cost := 8, fails := true,
    obj := some (0, 9, ocPORT, 0, 511, true) },
  { op := 0x31, useA := true, useB := true, flds := [(0, 9)], priv := pvF, cost := 8, fails := true,
    obj := some (0, 9, ocPORT, 0, 511, true) },
  { op := 0x32, useA := true, useB := true, flds := [(0, 9)], priv := pvF, cost := 8, fails := true, isOp := true,
    obj := some (0, 9, ocPORT, 0, 511, true) },
  { op := 0x33, useD := true, useB := true, flds := [(9, 4), (0, 9)], priv := pvFO, cost := 4,
    obj := some (0, 9, ocPORT, 0, 511, false) }]

/-- The XPR and LANE groups (R466). -/
def dxXpr : List DSpec := [
  { op := 0x40, useA := true, useB := true, flds := [(0, 6)], priv := pvF, cost := 4, fails := true,
    obj := some (0, 6, 0, 0, 63, true) },
  { op := 0x41, useA := true, useB := true, flds := [(0, 6)], priv := pvF, cost := 4, fails := true,
    obj := some (0, 6, 0, 0, 63, true) },
  { op := 0x42, useA := true, useB := true, flds := [(0, 6)], priv := pvF, cost := 8, fails := true, isOp := true,
    obj := some (0, 6, 0, 0, 63, true) },
  { op := 0x43, useB := true, flds := [(0, 6)], priv := pvF, cost := 8, fails := true, isOp := true,
    obj := some (0, 6, 0, 0, 63, true) },
  { op := 0x44, useB := true, flds := [(0, 6)], priv := pvF, cost := 8, fails := true, isOp := true,
    obj := some (0, 6, 0, 0, 63, true) },
  { op := 0x45, useD := true, useB := true, flds := [(0, 6)], priv := pvF, cost := 4, obj := some (0, 6, 0, 0, 63, false) },
  { op := 0x50, useB := true, flds := [(9, 2), (6, 3), (0, 6)], priv := pvF, cost := 8, fails := true,
    obj := some (0, 6, 0, 0, 63, true) },
  { op := 0x51, useA := true, useB := true, flds := [(10, 1), (9, 1), (0, 9)], priv := pvF, cost := 4, fails := true,
    obj := some (0, 9, 0, 0, 511, true) },
  { op := 0x52, useA := true, useB := true, flds := [(0, 9)], priv := pvF, cost := 4, fails := true,
    obj := some (0, 9, 0, 0, 511, true) },
  { op := 0x53, useB := true, flds := [(12, 4), (10, 2), (0, 9)], priv := pvF, cost := 4, fails := true,
    obj := some (0, 9, 0, 0, 511, true) },
  { op := 0x54, useD := true, useB := true, flds := [(9, 4), (0, 9)], priv := pvF, cost := 4,
    obj := some (0, 9, 0, 0, 511, false) }]

/-- The TIME, TRIG, MEM, DMA and PROG groups (R467). -/
def dxRest : List DSpec := [
  { op := 0x60, useD := true, priv := pvFJO, cost := 4 },
  { op := 0x61, useD := true, priv := pvFJO, cost := 4 },
  { op := 0x62, useA := true, priv := pvF, cost := 8 },
  { op := 0x70, useA := true, useB := true, flds := [(0, 2)], priv := pvFJ, cost := 4, obj := some (0, 2, ocTRIG, 0, 3, true) },
  { op := 0x71, useD := true, useA := true, useB := true, flds := [(3, 16), (2, 1), (0, 2)], priv := pvFJ, cost := 8,
    fails := true, obj := some (0, 2, ocTRIG, 0, 3, true) },
  { op := 0x72, useB := true, flds := [(0, 2)], priv := pvFJ, cost := 4, obj := some (0, 2, ocTRIG, 0, 3, true) },
  { op := 0x73, useD := true, useB := true, flds := [(0, 2)], priv := pvF, cost := 4, obj := some (0, 2, 0, 0, 3, true) },
  { op := 0x80, useD := true, useA := true, useB := true, flds := [(0, 9)], priv := pvF, cost := 8, fails := true, isOp := true,
    obj := some (0, 9, ocFMEM_FRAME, 0, 408, true) },
  { op := 0x81, useB := true, flds := [(0, 9)], priv := pvF, cost := 8, fails := true, isOp := true,
    obj := some (0, 9, ocFMEM_FRAME, 0, 408, true) },
  { op := 0x82, useB := true, flds := [(0, 9)], priv := pvF, cost := 8, fails := true, isOp := true,
    obj := some (0, 9, ocFMEM_FRAME, 0, 408, true) },
  { op := 0x83, useB := true, flds := [(0, 9)], priv := pvF, cost := 8, fails := true, isOp := true,
    obj := some (0, 9, ocFMEM_FRAME, 0, 408, true) },
  { op := 0x84, useD := true, useB := true, flds := [(0, 9)], priv := pvF, cost := 4,
    obj := some (0, 9, ocFMEM_FRAME, 0, 408, false) },
  { op := 0x90, useA := true, useB := true, flds := [(0, 5)], priv := pvFJ, cost := 8, fails := true, isOp := true,
    obj := some (0, 5, ocDMA_CHAN, 0, 31, true) },
  { op := 0x91, useB := true, flds := [(0, 5)], priv := pvFJ, cost := 8, obj := some (0, 5, ocDMA_CHAN, 0, 31, true) },
  { op := 0x92, useD := true, useB := true, flds := [(0, 5)], priv := pvFJ, cost := 4,
    obj := some (0, 5, ocDMA_CHAN, 0, 31, false) },
  { op := 0xA0, useA := true, useB := true, flds := [(12, 8), (0, 12)], priv := pvFJ, cost := 8, fails := true, isOp := true,
    obj := some (0, 12, ocHANDLE, 0, 4095, true) },
  { op := 0xA1, useB := true, flds := [(0, 12)], priv := pvFJ, cost := 8, fails := true,
    obj := some (0, 12, ocHANDLE, 0, 4095, true) },
  { op := 0xA2, flds := [(5, 1), (0, 5)], priv := pvF, cost := 8, fails := true, isOp := true }]

/-- Every row (R460 to R467). -/
def dxTable : List DSpec := dxFlow ++ dxTbl ++ dxColl ++ dxPort ++ dxXpr ++ dxRest

/-- Opcode, registers and soft bit of an instruction word (R454). -/
def wOp (w : Nat) : Nat := slice w 56 8
def wD (w : Nat) : Nat := slice w 52 4
def wA (w : Nat) : Nat := slice w 48 4
def wB (w : Nat) : Nat := slice w 44 4
def wSoft (w : Nat) : Bool := bit w 43

/-- The row of an instruction word; none for a reserved group or function. -/
def dspec (w : Nat) : Option DSpec := dxTable.find? (fun s => s.op == wOp w)

/-- Whether an instruction has a soft form: its Failure column is not empty, and it is not MEM.MAP (R454, R456, R471). -/
def DSpec.softForm (s : DSpec) : Bool := s.fails && s.op != 0x80

/-- The bits an instruction may set, in its soft form or not: d is used where the table names it, and in every soft form, which
returns its failure in it (R454 to R456, R471 code 2, log entry 67). -/
def DSpec.mask (s : DSpec) (soft : Bool) : Nat :=
  s.op * 2 ^ 56 + b2n (s.useD || (soft && s.softForm)) * (15 * 2 ^ 52) + b2n s.useA * (15 * 2 ^ 48) + b2n s.useB * (15 * 2 ^ 44)
    + b2n s.softForm * 2 ^ 43 + s.flds.foldl (fun a f => a + (2 ^ f.2 - 1) * 2 ^ f.1) 0

/-- The object a word names as b + k, where it names one: WAIT does in mode TOKEN only, LANE.READ an octet in two of its
selections (R455, R462, R466). -/
def DSpec.objOf (s : DSpec) (w : Nat) : Option (Nat × Nat × Nat × Nat × Nat × Bool) :=
  if s.op = 0x0A ∧ slice w 40 2 ≠ 0 then none
  else if s.op = 0x54 ∧ slice w 9 4 < 2 then some (0, 9, 0, 0, 63, false)
  else s.obj

/-- A reserved cond, mode or sel value, or a launch count of 0, which lies outside 1–65,535 (R460, R462, R464 to R466). -/
def reservedValue (w : Nat) : Bool :=
  (wOp w == 0x08 && decide (slice w 16 4 > 6)) || (wOp w == 0x0A && slice w 40 2 == 3)
    || (wOp w == 0x33 && decide (slice w 9 4 > 5)) || (wOp w == 0x54 && decide (slice w 9 4 > 3))
    || (wOp w == 0x22 && slice w 14 16 == 0)

/-- Codes of the proof pass (R471). -/
def pcOPCODE : Nat := 1
def pcRESERVED : Nat := 2
def pcPRIVILEGE : Nat := 3
def pcOBJECT : Nat := 4
def pcBRANCH : Nat := 5
def pcLOOP : Nat := 6
def pcWAIT : Nat := 7
def pcBUDGET : Nat := 8

/-- Checks 1 to 4 and 7 of R471 on one word: the code in [7:0] and the object class in [11:8]; 0 when they pass. -/
def proofWord (w priv : Nat) (m : List Nat) : Nat :=
  match dspec w with
  | none => pcOPCODE
  | some s =>
    if (w &&& s.mask (wSoft w)) ≠ w ∨ reservedValue w then pcRESERVED
    else if !bit s.priv priv then pcPRIVILEGE
    else
      let objBad := match s.objOf w with
        | some (lo, wd, cls, low, high, use) =>
          if wB w ≠ 0 then none
          else
            let v := slice w lo wd
            if v < low ∨ high < v ∨ (cls ≠ 0 ∧ !objAllowed priv m cls v v use) then some cls else none
        | none => none
      match objBad with
      | some cls => cls * 256 + pcOBJECT
      | none => 0

/-- The worst case of the instructions from `lo` to before `hi` (R472), `fuel` deep in LOOPs. -/
def worst (prog : List Nat) : Nat → Nat → Nat → Nat
  | 0, _, _ => 0
  | fuel + 1, lo, hi =>
    let acc := (List.range (hi - lo)).foldl (fun (acc : List Nat) j =>
      let i := hi - 1 - j
      let w := prog.getD i 0
      let next := acc.getD 0 0
      let v :=
        if wOp w = 0x09 then
          2 + slice w 0 16 * worst prog fuel (i + 1) (i + 1 + slice w 16 8) + acc.getD (slice w 16 8) 0
        else if wOp w = 0x08 then 1 + max next (acc.getD (slice w 0 16 - 1) 0)
        else if wOp w = 0x00 then 1
        else (match dspec w with | some s => s.cost | none => 0) + next
      v :: acc) [0]
    acc.getD 0 0

/-- Checks 1 to 7 of R471 from instruction `i` on; `ends` are the last indexes of the open LOOP bodies, innermost first.
The answer is the first failure as its index and code. -/
def proofFrom (n priv : Nat) (m : List Nat) : List Nat → Nat → List Nat → Option (Nat × Nat)
  | [], _, _ => none
  | w :: rest, i, ends0 =>
    let ends := ends0.filter (fun e => decide (i ≤ e))
    let c := proofWord w priv m
    if c ≠ 0 then some (i, c)
    else if wOp w = 0x08 ∧ (slice w 0 16 = 0 ∨ i + slice w 0 16 > (match ends with | e :: _ => e + 1 | [] => n)) then
      some (i, pcBRANCH)
    else if wOp w = 0x09 ∧ (slice w 0 16 = 0 ∨ slice w 16 8 = 0 ∨ i + slice w 16 8 ≥ n ∨ ends.length ≥ 4 ∨
        (match ends with | e :: _ => decide (i + slice w 16 8 > e) | [] => false) = true) then some (i, pcLOOP)
    else if (wOp w = 0x0A ∧ (slice w 24 16 = 0 ∨ (slice w 40 2 = 0 ∧ slice w 16 8 = 0))) ∨ (wOp w = 0x0B ∧ slice w 16 8 = 0) then
      some (i, pcWAIT)
    else proofFrom n priv m rest (i + 1) (if wOp w = 0x09 then (i + slice w 16 8) :: ends else ends)

/-- The proof pass (R471): the first failure as instruction index and detail, none when the program passes. -/
def proofPass (prog : List Nat) (priv : Nat) (m : List Nat) (budget : Nat) : Option (Nat × Nat) :=
  match proofFrom prog.length priv m prog 0 [] with
  | some r => some r
  | none => if worst prog 6 0 prog.length > budget then some (0, pcBUDGET) else none

/-! ### A running entry -/

/-- Register `r` of an entry; g0 reads as 0 (R455). -/
def Entry.reg (e : Entry) (r : Nat) : Nat := if r = 0 then 0 else e.regs.getD r 0

/-- Register `r` written; a write to g0 is discarded (R455). -/
def Entry.setReg (e : Entry) (r v : Nat) : Entry := if r = 0 then e else { e with regs := e.regs.set r (v % 2 ^ 64) }

/-- The loops once the next index is `npc`: an iteration that ends starts the next with its index in d, or leaves the
loop (R461). The answer is the index, the open loops and the register to set. -/
def loopNext : List LoopSt → Nat → Nat × List LoopSt × Option (Nat × Nat)
  | [], npc => (npc, [], none)
  | l :: rest, npc =>
    if npc ≤ l.last then (npc, l :: rest, none)
    else if l.iter + 1 < l.count then (l.first, { l with iter := l.iter + 1 } :: rest, some (l.d, l.iter + 1))
    else loopNext rest npc

/-- An entry that goes on at index `npc` (R457, R461). -/
def Entry.goto (e : Entry) (npc : Nat) : Entry :=
  let (pc, loops, w) := loopNext e.loops npc
  let e := { e with pc := pc, loops := loops }
  match w with
  | some (r, v) => e.setReg r v
  | none => e

/-- The running entry of queue `q` goes on at index `npc`; past the last instruction it retires OK (R457). -/
def Dev.drvNext (d : Dev) (q npc : Nat) : Dev :=
  let d := d.onRun q (·.goto npc)
  match (d.queue q).run with
  | some e => if e.pc ≥ e.prog.length then d.endRun q { status := stOK } else d
  | none => d

/-- A 32-bit failure code (R456). -/
def failCode (start group code : Nat) : Nat := start % 2 ^ 16 * 2 ^ 16 + group * 2 ^ 8 + code

/-- Codes of the flow group, which serve every group (R456). -/
def fcRANGE : Nat := 1
def fcDOMAIN_OFF : Nat := 2
def fcWAIT_LIMIT : Nat := 3
def fcOP_LIMIT : Nat := 4

/-- The instruction `w` at index `i` fails with the 32-bit value `v`: in d while soft is 1, else the entry ends (R456). -/
def Dev.drvFailVal (d : Dev) (q w i v : Nat) : Dev :=
  if wSoft w then (d.onRun q (fun e => e.setReg (wD w) (2 ^ 63 + v))).drvNext q (i + 1)
  else d.endRun q { status := stINSTR_FAIL, pc := i, detail := v }

/-- The instruction fails with a code of its group. -/
def Dev.drvFail (d : Dev) (q w i code : Nat) : Dev := d.drvFailVal q w i (failCode i (slice w 60 4) code)

/-- The instruction fails with a code of the flow group. -/
def Dev.drvFailFlow (d : Dev) (q w i code : Nat) : Dev := d.drvFailVal q w i (failCode i 0 code)

/-- The instruction succeeds with result `v` in d (R456). -/
def Dev.drvDone (d : Dev) (q w i : Nat) (v : Nat := 0) : Dev := (d.onRun q (fun e => e.setReg (wD w) v)).drvNext q (i + 1)

/-- Success for code 0, else the failure of the group. -/
def Dev.drvResult (d : Dev) (q w i code : Nat) (v : Nat := 0) : Dev :=
  if code = 0 then d.drvDone q w i v else d.drvFail q w i code

/-- The issue of the next instruction of the entry that runs in queue `q`, where its opcode is `op` and `p` holds of its
word: its cost is charged (R435, R457), and `k` is what it does, told the word, its index and the entry. -/
def Dev.drvIssue (d : Dev) (q op : Nat) (k : Nat → Nat → Entry → Dev → Dev) (p : Nat → Bool := fun _ => true) : Dev :=
  match (d.queue q).run with
  | none => d
  | some e =>
    let w := e.prog.getD e.pc 0
    match dspec w with
    | none => d
    | some s =>
      if e.wait.isSome ∨ e.pc ≥ e.prog.length ∨ wOp w ≠ op ∨ !p w then d
      else
        let d := (d.onRun q (fun e => { e with spent := e.spent + s.cost })).qCount q .ISSUE s.cost
        if e.spent + s.cost > e.budget then d.endRun q { status := stBUDGET, pc := e.pc }
        else k w e.pc e d

/-- The object of the instruction `w` at index `i`, checked when it runs (R445, R455); `k` is told its value. RANGE is a code of
the flow group, but for TBL.ACQ, whose own RANGE is a result of R192 (R456, R463). -/
def Dev.drvObj (d : Dev) (q w i : Nat) (e : Entry) (k : Nat → Dev → Dev) : Dev :=
  match dspec w with
  | none => d
  | some s =>
    match s.objOf w with
    | none => k 0 d
    | some (lo, wd, cls, low, high, use) =>
      let v := (e.reg (wB w) + slice w lo wd) % 2 ^ 64
      if (v < low ∨ high < v) ∧ wOp w ≠ 0x10 then d.drvFailFlow q w i fcRANGE
      else if wB w ≠ 0 ∧ cls ≠ 0 ∧ !d.qAllowed q cls v v use then d.endRun q (protEnd cls v i)
      else k v d

/-- Operations of a run that have not ended (R458). -/
def Dev.opsOpen (d : Dev) (q run : Nat) : Nat :=
  (d.ops.filter (fun o => o.queue == q && o.entry == run && o.res.isNone)).length

/-- An operation is started, unless 16 of the entry have not ended (R458); `k` starts it, and the instruction retires. -/
def Dev.drvStart (d : Dev) (q w i : Nat) (e : Entry) (key : OpKey) (k : Dev → Dev) : Dev :=
  if d.opsOpen q e.run ≥ 16 then d.drvFailFlow q w i fcOP_LIMIT
  else
    let op : Op := { queue := q, entry := e.run, start := i, group := slice w 60 4, key := key }
    (k { d with ops := d.ops ++ [op] }).drvDone q w i

/-! ### The flow group (R460 to R462) -/

/-- END (R457). -/
def Dev.dxEnd (d : Dev) (q : Nat) : Dev := d.drvIssue q 0x00 (fun _ _ _ d => d.endRun q { status := stOK })

/-- NOP. -/
def Dev.dxNop (d : Dev) (q : Nat) : Dev := d.drvIssue q 0x01 (fun _ i _ d => d.drvNext q (i + 1))

/-- SET: [43:0] sign-extended. -/
def Dev.dxSet (d : Dev) (q : Nat) : Dev :=
  d.drvIssue q 0x02 (fun w i _ d => d.drvDone q w i (wrap 64 (sgn 44 (slice w 0 44))))

/-- SETHI: d[63:44] := [19:0]. -/
def Dev.dxSethi (d : Dev) (q : Nat) : Dev :=
  d.drvIssue q 0x03 (fun w i e d => d.drvDone q w i (slice w 0 20 * 2 ^ 44 + e.reg (wD w) % 2 ^ 44))

/-- ADD: a + b + signed c. -/
def Dev.dxAdd (d : Dev) (q : Nat) : Dev :=
  d.drvIssue q 0x04 (fun w i e d => d.drvDone q w i (wrap 64 ((e.reg (wA w) : Int) + e.reg (wB w) + sgn 32 (slice w 0 32))))

/-- AND. -/
def Dev.dxAnd (d : Dev) (q : Nat) : Dev :=
  d.drvIssue q 0x05 (fun w i e d => d.drvDone q w i (e.reg (wA w) &&& e.reg (wB w)))

/-- OR. -/
def Dev.dxOr (d : Dev) (q : Nat) : Dev :=
  d.drvIssue q 0x06 (fun w i e d => d.drvDone q w i (e.reg (wA w) ||| e.reg (wB w)))

/-- SHIFT by [5:0], right while [6] is 1. -/
def Dev.dxShift (d : Dev) (q : Nat) : Dev :=
  d.drvIssue q 0x07 (fun w i e d =>
    d.drvDone q w i (if bit w 6 then e.reg (wA w) / 2 ^ slice w 0 6 else e.reg (wA w) * 2 ^ slice w 0 6))

/-- The condition of a BR (R460). -/
def brHolds (cond a b : Nat) : Bool :=
  match cond with
  | 0 => true
  | 1 => a == 0
  | 2 => a != 0
  | 3 => a == b
  | 4 => a != b
  | 5 => decide (a < b)
  | _ => bit a 63

/-- BR. -/
def Dev.dxBr (d : Dev) (q : Nat) : Dev :=
  d.drvIssue q 0x08 (fun w i e d =>
    d.drvNext q (if brHolds (slice w 16 4) (e.reg (wA w)) (e.reg (wB w)) then i + slice w 0 16 else i + 1))

/-- LOOP (R461). -/
def Dev.dxLoop (d : Dev) (q : Nat) : Dev :=
  d.drvIssue q 0x09 (fun w i _ d =>
    let l : LoopSt := { first := i + 1, last := i + slice w 16 8, count := slice w 0 16, iter := 0, d := wD w }
    (d.onRun q (fun e => { (e.setReg (wD w) 0) with loops := l :: e.loops })).drvNext q (i + 1))

/-- SIGNAL. -/
def Dev.dxSignal (d : Dev) (q : Nat) : Dev :=
  d.drvIssue q 0x0B (fun w i e d => d.drvObj q w i e (fun t d => (d.signalTok t (slice w 16 8)).drvNext q (i + 1)))

/-- Whether the condition of a blocked WAIT holds (R462). -/
def Dev.waitHolds (d : Dev) (q : Nat) (e : Entry) (w : WaitSt) : Bool :=
  match w.mode with
  | 0 => decide (w.n ≤ d.get .csq_token_count w.tok) && d.tokTurn w.tok w.since q
  | 1 => decide (w.time ≤ d.fabricNs)
  | _ => d.opsOpen q e.run == 0

/-- A blocked WAIT whose condition holds lets its entry go on: TOKEN takes its count; DONE collects the results, and the
first failure in order of start makes it fail (R462). -/
def Dev.waitDone (d : Dev) (q : Nat) : Dev :=
  match (d.queue q).run with
  | none => d
  | some e =>
    match e.wait with
    | none => d
    | some w =>
      if !d.waitHolds q e w then d
      else
        let word := e.prog.getD e.pc 0
        let d := d.onRun q (fun e => { e with wait := none })
        match w.mode with
        | 0 => (d.takeTok w.tok w.n).drvDone q word e.pc
        | 1 => d.drvDone q word e.pc
        | _ =>
          let mine := d.ops.filter (fun o => o.queue == q && o.entry == e.run)
          let d := { d with ops := d.ops.filter (fun o => !(o.queue == q && o.entry == e.run)) }
          match mine.find? (fun o => o.res != some 0) with
          | some o => d.drvFailVal q word e.pc (failCode o.start o.group (o.res.getD 0))
          | none => d.drvDone q word e.pc

/-- WAIT in mode `mode` (R462): the entry blocks, and goes on at once where the condition holds. -/
def Dev.dxWait (d : Dev) (q mode : Nat) : Dev :=
  d.drvIssue q 0x0A (fun w i e d =>
    d.drvObj q w i e (fun t d =>
      let st : WaitSt := { mode := mode, tok := t, n := slice w 16 8, time := e.reg (wA w), since := d.localNs, limit := slice w 24 16 }
      (d.onRun q (fun e => { e with wait := some st })).waitDone q))
    (fun w => slice w 40 2 == mode)

/-- A blocked WAIT reaches its limit (R462). -/
def Dev.waitLimit (d : Dev) (q : Nat) : Dev :=
  match (d.queue q).run with
  | none => d
  | some e =>
    match e.wait with
    | none => d
    | some w =>
      if d.waitHolds q e w then d.waitDone q
      else (d.onRun q (fun e => { e with wait := none })).drvFailFlow q (e.prog.getD e.pc 0) e.pc fcWAIT_LIMIT

end Sys2Proof.Machine
end

