-- ==== Sys2Proof/Machine/Dmac.lean ====
section
/-! DEFINITION. The DMA engine below its burst accesses: starts (R473), the instruction stream (R474 to R477, R481), the
checks of a MOVE (R478, R479), the shuffles (R480), halts, resumption and aborts (R482 to R484). -/

namespace Sys2Proof.Machine

/-! ### Channels -/

/-- Channel states (R486). -/
def dcIDLE : Nat := 0
def dcRUNNING : Nat := 1
def dcWAITING : Nat := 2
def dcHALTED : Nat := 3
def dcABORTING : Nat := 4

/-- Halt causes (R482). -/
def hcFETCH : Nat := 1
def hcENCODING : Nat := 2
def hcPROTECTION : Nat := 3
def hcRANGE : Nat := 4
def hcREAD_ERROR : Nat := 5
def hcWRITE_ERROR : Nat := 6
def hcFMEM_STATUS : Nat := 7
def hcWAIT_LIMIT : Nat := 8
def hcABORTED : Nat := 9

/-- Address spaces (R478). -/
def spKCL : Nat := 0
def spFMEM : Nat := 1
def spQSRAM : Nat := 2
def spCTRL : Nat := 3

def Dev.chan (d : Dev) (c : Nat) : DmaChan := d.dma.get c {}
def Dev.putChan (d : Dev) (c : Nat) (x : DmaChan) : Dev := { d with dma := d.dma.set c {} x }
def Dev.chanState (d : Dev) (c : Nat) : Nat := d.get .dma_ch_status_state c
def Dev.setChanState (d : Dev) (c v : Nat) : Dev := d.set .dma_ch_status_state c v
def Dev.chanPc (d : Dev) (c : Nat) : Nat := d.get .dma_ch_status_pc c

/-- The job tag of the work of a channel: that of the starting queue (R504). -/
def Dev.chanJob (d : Dev) (c : Nat) : Nat :=
  let o := d.get .dma_ch_status_owner c
  if o = 0xFFFF then 0 else d.qJob o

/-- A discarded command (R473, R484). -/
def Dev.dmaRefuse (d : Dev) (c : Nat) : Dev := d.raise .DMA_CFG_REFUSED (d.pathDevice ucDMA_CHANNEL c)

/-- A program starts on an IDLE channel (R473). -/
def Dev.dmaStart (d : Dev) (c prog priv owner : Nat) (pmap : List Nat) : Dev :=
  let d := d.putChan c { prog := prog, qsram := d.flag .dma_ch_ctrl_prog_qsram c, priv := priv, pmap := pmap }
  d.setMany [(.dma_ch_status_pc, c, 0), (.dma_ch_status_state, c, dcRUNNING), (.dma_ch_status_owner, c, owner),
    (.dma_ch_status_cause, c, 0), (.dma_ch_status_fmem_status, c, 0)]

/-- A program ends with a result, 0 or 16 + cause, and the channel is IDLE (R481, R484). -/
def Dev.dmaEnd (d : Dev) (c res : Nat) : Dev :=
  ((d.putChan c {}).setMany [(.dma_ch_status_state, c, dcIDLE), (.dma_ch_status_last_result, c, res)]).opEnd (.dmaRun c) res

/-- A halt begins: nothing further is issued, and a WAIT takes nothing (R476, R482). -/
def Dev.dmaHalt (d : Dev) (c : Nat) (f : DmaFault) : Dev :=
  let x := d.chan c
  if x.fault.isSome then d else d.putChan c { x with fault := some f, wait := none }

/-- Responses a channel still waits for. -/
def DmaChan.outstanding (x : DmaChan) : Nat :=
  match x.move with
  | some m => (m.bursts.filter (fun b => b.2 != 2)).length
  | none => 0

/-- Bytes of a burst in a space: single 64-bit accesses in the control space (R473, R478). -/
def DmaMove.unit (m : DmaMove) : Nat := if m.srcSp = spCTRL ∨ m.dstSp = spCTRL then 8 else 256
/-- The bytes of burst `k`. -/
def DmaMove.size (m : DmaMove) (k : Nat) : Nat := min m.unit (m.len - k * m.unit)
/-- Bursts a channel may hold outstanding (R473, R478). -/
def DmaMove.limit (m : DmaMove) : Nat := if m.unit = 8 then 1 else 16
/-- The restart point: the lowest burst that is not complete (R483). -/
def DmaMove.restart (m : DmaMove) : Nat := (m.bursts.map (·.1)).foldl min m.next

/-- The outstanding responses have arrived: the fault is latched and recorded, and the channel is HALTED, or aborts at once
(R482). -/
def Dev.dmaSettle (d : Dev) (c : Nat) : Dev :=
  let x := d.chan c
  match x.fault with
  | none => d
  | some f =>
    if !(d.chanState c == dcRUNNING || d.chanState c == dcWAITING) || x.outstanding != 0 then d
    else
      let it (k : Nat) : Nat := match x.loops.reverse[k]? with | some l => l.iter | none => 0
      let done := match x.move with | some m => m.restart * m.unit | none => 0
      let d := d.setMany [(.dma_ch_status_state, c, dcHALTED), (.dma_ch_status_cause, c, f.cause),
        (.dma_ch_status_fmem_status, c, f.status), (.dma_ch_fault_addr_address, c, f.addr), (.dma_ch_fault_info_outer_index, c, it 0),
        (.dma_ch_fault_info_inner_index, c, it 1), (.dma_ch_fault_info_bytes_done, c, done),
        (.dma_ch_fault_info_direction, c, f.dir), (.dma_ch_fault_info_space, c, f.space)]
      let d := (d.count blkDevice .DMA_HALT).raise .DMA_HALT (d.pathDevice ucDMA_CHANNEL c)
        [.h f.cause, .d f.addr, .h f.space, .h f.dir, .h (d.chanPc c)] (d.chanJob c)
      if d.flag .dma_ch_ctrl_halt_mode c then d.dmaEnd c (16 + f.cause) else d

/-- ABORT (R484): accepted in RUNNING, WAITING and HALTED. -/
def Dev.dmaAbort (d : Dev) (c : Nat) : Dev :=
  let st := d.chanState c
  if st = dcRUNNING ∨ st = dcWAITING ∨ st = dcHALTED then
    let d := if st = dcHALTED then d else d.set .dma_ch_status_cause c hcABORTED
    (d.putChan c { d.chan c with wait := none }).setChanState c dcABORTING
  else d.dmaRefuse c

/-- The last response of an aborting channel has come (R484). -/
def Dev.dmaAborted (d : Dev) (c : Nat) : Dev :=
  if d.chanState c = dcABORTING ∧ (d.chan c).outstanding = 0 then d.dmaEnd c (16 + d.get .dma_ch_status_cause c) else d

/-! ### Bursts (R473, R478) -/

/-- The status of R377 that a burst at fabric address `a` meets: `held` when its place in the window is already taken, so
that a frame that drains still serves it (R375, R478). -/
def Dev.dmaMemStatus (d : Dev) (held : Bool) (a : Nat) (wr : Bool) : Nat :=
  match (if held then d.winHolder (faWindow a) else d.windowFrame (faWindow a)) with
  | none => msNOT_MAPPED
  | some f =>
    if d.fstate f = fsZEROING then msNOT_READY
    else if !d.domainOn 9 then msDOMAIN_OFF
    else if d.frole f = 2 ∧ d.fstate f ≠ fsACTIVE ∧ d.fstate f ≠ fsDRAINING then msSTALE
    else if d.frole f = 2 ∧ wr = true then msNOT_PRIMARY
    else msOK

/-- The fault burst `k` meets when it is issued, where it has one: the answer of fabric memory to its read, or to the place
it takes (R478, R482). -/
def Dev.burstFault (d : Dev) (m : DmaMove) (k : Nat) : Option DmaFault :=
  let a := m.src + k * m.unit
  let st := if m.srcSp = spFMEM then d.dmaMemStatus false a false else msOK
  if st ≠ msOK then some { cause := hcFMEM_STATUS, addr := a, space := spFMEM, dir := 0, status := st }
  else if m.dstSp = spFMEM ∧ (d.windowFrame (faWindow m.dst)).isNone = true then
    some { cause := hcFMEM_STATUS, addr := m.dst, space := spFMEM, dir := 1, status := msNOT_MAPPED }
  else none

/-- Whether channel `c` has a burst to issue, and its places and those of its spaces allow it (R381, R473, R546). -/
def Dev.dmaCan (d : Dev) (c : Nat) : Bool :=
  let x := d.chan c
  match x.move with
  | none => false
  | some m =>
    let full := (m.srcSp == spKCL && (d.readsFull || !d.readWaits.isEmpty)) ||
      ((m.srcSp == spFMEM || m.dstSp == spFMEM) && decide (65536 ≤ d.slotsInflight))
    d.chanState c == dcRUNNING && x.fault.isNone && decide (m.next * m.unit < m.len) && decide (x.outstanding < m.limit) && !full

/-- The next burst of channel `c` is issued, or meets its fault (R473, R482). -/
def Dev.dmaBurst (d : Dev) (c : Nat) : Dev :=
  let x := d.chan c
  match x.move with
  | none => d
  | some m =>
    let k := m.next
    match d.burstFault m k with
    | some f => d.dmaHalt c f
    | none =>
      let d := d.putChan c { x with move := some { m with next := k + 1, bursts := m.bursts ++ [(k, 0)] } }
      let d := if m.srcSp = spKCL then d.kread (.dmaBurst c k) (reqDMA c) ((m.src + k * m.unit) % 2 ^ 64) (m.size k) else d
      d.count blkDevice .DMA_BURST

/-- Channels are served round-robin, one burst at a time (R473); `n` bounds the bursts. -/
def Dev.dmaServe (d : Dev) : Nat → Dev
  | 0 => d
  | n + 1 =>
    match ((List.range 32).map (fun i => (d.get .h_dma_next + i) % 32)).find? d.dmaCan with
    | none => d
    | some c => ((d.dmaBurst c).set .h_dma_next 0 ((c + 1) % 32)).dmaServe n

/-- Bursts all channels together may hold outstanding (R473). -/
def dmaRounds : Nat := 512

/-- The channel's next instruction is `npc`; an iteration that ends starts the next, or leaves its loop (R475). -/
def dmaLoops : List DmaLoop → Nat → Nat × List DmaLoop
  | [], npc => (npc, [])
  | l :: rest, npc =>
    if npc ≤ l.last then (npc, l :: rest)
    else if l.iter + 1 < l.count then (l.first, { l with iter := l.iter + 1 } :: rest)
    else dmaLoops rest npc

/-- The channel goes on at index `npc`. -/
def Dev.dmaNext (d : Dev) (c npc : Nat) : Dev :=
  let x := d.chan c
  let r := dmaLoops x.loops npc
  ((d.putChan c { x with loops := r.2, wait := none, hit := false }).set .dma_ch_status_pc c r.1).setChanState c dcRUNNING

/-- A MOVE whose bursts are all complete ends. -/
def Dev.dmaMoveEnd (d : Dev) (c : Nat) : Dev :=
  let x := d.chan c
  match x.move with
  | some m =>
    if m.bursts.isEmpty ∧ m.len ≤ m.next * m.unit ∧ d.chanState c = dcRUNNING then
      (d.putChan c { x with move := none }).dmaNext c (d.chanPc c + 1)
    else d
  | none => d

/-! ### The instruction stream (R474) -/

/-- The address of the channel's next instruction. -/
def Dev.dmaPcAddr (d : Dev) (c : Nat) : Nat := ((d.chan c).prog + 32 * d.chanPc c) % 2 ^ 64

/-- A halt at the instruction itself: its address, and direction fetch. -/
def Dev.dmaHaltAt (d : Dev) (c cause : Nat) : Dev :=
  d.dmaHalt c { cause := cause, addr := d.dmaPcAddr c, space := if (d.chan c).qsram then spQSRAM else spKCL, dir := 2 }

/-- The layout of word 3 of a MOVE for its shuffle (R480). -/
def parOk (shuf par : Nat) : Bool :=
  match shuf with
  | 0 => par == 0
  | 1 => decide (1 ≤ slice par 4 4) && slice par 2 2 == 0 && decide (par < 256)
  | 2 => decide (par ≤ 1)
  | 3 => decide (1 ≤ slice par 16 13 ∧ slice par 16 13 ≤ 4096) && decide (1 ≤ slice par 0 12 ∧ slice par 0 12 ≤ 2048) &&
      slice par 12 4 == 0 && decide (par < 2 ^ 29)
  | 4 => bit par 1 == false && decide (par < 16)
  | _ => false

/-- Whether four words are an instruction in a layout of R474. -/
def dmaEncodes (ws : List Nat) : Bool :=
  let w0 := ws.getD 0 0
  let w1 := ws.getD 1 0
  let w2 := ws.getD 2 0
  let w3 := ws.getD 3 0
  match slice w0 60 4 with
  | 0 => w0 == 0 && w1 == 0 && w2 == 0 && w3 == 0
  | 1 =>
    let sh := slice w0 56 4
    slice w0 0 24 == 0 && bit w0 48 == false && decide (1 ≤ slice w0 24 24) && decide (slice w0 52 3 < 4) &&
      decide (slice w0 49 3 < 4) && parOk sh w3 && !(bit w0 55 && (sh == 0 || sh == 3))
  | 2 => slice w0 48 12 == 0 && slice w0 8 24 == 0 && decide (1 ≤ slice w0 32 16) && decide (1 ≤ slice w0 0 8) && w3 == 0
  | 3 =>
    slice w0 48 10 == 0 && slice w0 0 8 == 0 && decide (1 ≤ slice w0 32 16) && w1 == 0 && w2 == 0 && w3 == 0 &&
      (match slice w0 58 2 with
       | 0 => decide (1 ≤ slice w0 8 8)
       | 1 => slice w0 8 8 == 0 && decide (slice w0 16 16 < 16)
       | _ => false)
  | 4 =>
    slice w0 32 26 == 0 && slice w0 0 8 == 0 && w1 == 0 && w2 == 0 && w3 == 0 &&
      (match slice w0 58 2 with
       | 0 => decide (1 ≤ slice w0 8 8)
       | 1 => slice w0 8 8 == 0 && decide (slice w0 16 16 < 16)
       | _ => false)
  | _ => false

/-- The channel's next instruction, as fetched from companion memory or queue SRAM, where `p` holds of its words; `k` is what
it does. An instruction that cannot be read, or is in no layout, halts the channel whichever command brings it (R474, R482). -/
def Dev.dmaIssue (d : Dev) (c : Nat) (fetch : Option (List Nat)) (p : List Nat → Bool) (k : List Nat → Dev → Dev) : Dev :=
  let x := d.chan c
  if d.chanState c ≠ dcRUNNING ∨ x.fault.isSome ∨ x.move.isSome ∨ x.ended = true then d
  else
    let a := d.dmaPcAddr c
    let ws := if x.qsram then
        (if a + 32 ≤ 2 ^ 20 then some ((List.range 4).map (fun i => leNat (d.qsramBytes (a + 8 * i) 8))) else none)
      else if objAllowed x.priv x.pmap ocKCL_ADDR a (a + 31) false then fetch else none
    let read (d : Dev) : Dev := if x.qsram then d else d.emit (.kclRead (reqDMA c) a 32)
    match ws with
    | none => (if objAllowed x.priv x.pmap ocKCL_ADDR a (a + 31) false then read d else d).dmaHaltAt c hcFETCH
    | some ws => if !dmaEncodes ws then (read d).dmaHaltAt c hcENCODING else if p ws then k ws (read d) else d

/-- END (R481). -/
def Dev.dmaEndOp (d : Dev) (c : Nat) (fetch : Option (List Nat)) : Dev :=
  d.dmaIssue c fetch (fun ws => slice (ws.getD 0 0) 60 4 == 0) (fun _ d => d.putChan c { d.chan c with ended := true })

/-- The program has reached END and every write has its response (R481). -/
def Dev.dmaDone (d : Dev) (c : Nat) : Dev :=
  if d.chanState c = dcRUNNING ∧ (d.chan c).ended = true ∧ (d.chan c).move.isNone = true then d.dmaEnd c 0 else d

/-- LOOP: two deep at most, its body inside the one that encloses it (R475). -/
def Dev.dmaLoopOp (d : Dev) (c : Nat) (fetch : Option (List Nat)) : Dev :=
  d.dmaIssue c fetch (fun ws => slice (ws.getD 0 0) 60 4 == 2) (fun ws d =>
    let x := d.chan c
    let w0 := ws.getD 0 0
    let pc := d.chanPc c
    let l : DmaLoop := { first := pc + 1, last := pc + slice w0 0 8, count := slice w0 32 16, src := sgn 64 (ws.getD 1 0),
                         dst := sgn 64 (ws.getD 2 0) }
    let out := match x.loops with | e :: _ => decide (e.last < l.last) | [] => false
    if x.loops.length ≥ 2 ∨ out = true then d.dmaHaltAt c hcENCODING
    else (d.putChan c { x with loops := l :: x.loops }).dmaNext c (pc + 1))

/-! ### WAIT and SIGNAL (R476, R477) -/

/-- Whether the condition of a channel's WAIT holds. -/
def Dev.dmaWaitHolds (d : Dev) (c : Nat) (w : WaitSt) : Bool :=
  if w.mode = 0 then decide (w.n ≤ d.get .csq_token_count w.tok) && d.tokTurn w.tok w.since (512 + c) else (d.chan c).hit

/-- A blocked WAIT whose condition holds lets the program go on; TOKEN takes its count. -/
def Dev.dmaWaitDone (d : Dev) (c : Nat) : Dev :=
  match (d.chan c).wait with
  | none => d
  | some w =>
    if d.chanState c = dcWAITING ∧ (d.chan c).fault.isNone = true ∧ d.dmaWaitHolds c w = true then
      (if w.mode = 0 then d.takeTok w.tok w.n else d).dmaNext c (d.chanPc c + 1)
    else d

/-- WAIT in mode 0 TOKEN or 1 EVENT. -/
def Dev.dmaWaitOp (d : Dev) (c mode : Nat) (fetch : Option (List Nat)) : Dev :=
  d.dmaIssue c fetch (fun ws => slice (ws.getD 0 0) 58 6 == 12 + mode) (fun ws d =>
    let x := d.chan c
    let w0 := ws.getD 0 0
    let t := slice w0 16 16
    if mode = 0 ∧ !objAllowed x.priv x.pmap ocTOKEN t t true then d.dmaHaltAt c hcPROTECTION
    else
      let w : WaitSt := { mode := mode, tok := t, n := slice w0 8 8, since := d.localNs, limit := slice w0 32 16 }
      ((d.putChan c { x with wait := some w, hit := false }).setChanState c dcWAITING).dmaWaitDone c)

/-- A WAIT reaches its limit (R476). -/
def Dev.dmaWaitLimit (d : Dev) (c : Nat) : Dev :=
  match (d.chan c).wait with
  | none => d
  | some w => if d.dmaWaitHolds c w then d.dmaWaitDone c else d.dmaHaltAt c hcWAIT_LIMIT

/-- A pulse on event line `k` reaches waiting channels, counters and the snapshot logic (R477, R497). -/
def Dev.eventPulse (d : Dev) (k : Nat) : Dev :=
  let d : Dev := { d with dma := ⟨d.dma.entries.map (fun e =>
    (e.1, match e.2.wait with
      | some w => if w.mode = 1 ∧ w.tok = k then { e.2 with hit := true } else e.2
      | none => e.2))⟩ }
  let d := d.countCode blkDevice (0x1C0 + k) 1
  if d.get .perf_snap_ctrl_snap_src = 2 ∧ d.get .perf_snap_ctrl_event_line = k then d.snapshot 2 else d

/-- SIGNAL of kind 0 TOKEN or 1 EVENT, once every earlier write has its response. -/
def Dev.dmaSignalOp (d : Dev) (c kind : Nat) (fetch : Option (List Nat)) : Dev :=
  d.dmaIssue c fetch (fun ws => slice (ws.getD 0 0) 58 6 == 16 + kind) (fun ws d =>
    let x := d.chan c
    let w0 := ws.getD 0 0
    let t := slice w0 16 16
    if kind = 0 ∧ !objAllowed x.priv x.pmap ocTOKEN t t true then d.dmaHaltAt c hcPROTECTION
    else (if kind = 0 then d.signalTok t (slice w0 8 8) else d.eventPulse t).dmaNext c (d.chanPc c + 1))

/-! ### MOVE: checks (R478 to R480) -/

/-- Blocks of SCALE_SPLIT and the bytes of a block's values (R294, R480). -/
def splitVals (par : Nat) : Nat := if bit par 0 then 16 else 32
def splitC (par : Nat) : Nat := 1024 * 2 ^ slice par 2 2
def splitBlocks (par : Nat) : Nat := splitC par / (splitVals par + 1)

/-- Whether the source length is what the shuffle requires (R480). -/
def lenOk (shuf par : Nat) (inv : Bool) (n : Nat) : Bool :=
  match shuf with
  | 0 => true
  | 1 => n % ((slice par 4 4 + 1) * 2 ^ slice par 0 2) == 0
  | 2 => n % (if bit par 0 then 128 else 64) == 0
  | 3 => n == 2 * slice par 0 12 * slice par 16 13
  | _ => n == if inv then splitC par else splitBlocks par * (splitVals par + 1)

/-- The length the destination takes (R480). -/
def dstLen (shuf par : Nat) (inv : Bool) (n : Nat) : Nat :=
  match shuf with
  | 3 => cdiv (slice par 16 13) 128 * (slice par 0 12 + 127) * 256
  | 4 => if inv then splitBlocks par * (splitVals par + 1) else splitC par
  | _ => n

/-- Whether `n` bytes at `a` break a rule of their space (R478, R479): true where they do. -/
def Dev.spaceBad (d : Dev) (priv sp a n : Nat) (wr : Bool) (shuf : Nat) : Bool :=
  match sp with
  | 0 => decide (2 ^ 64 < a + n)
  | 1 => (d.windowFrame (faWindow a)).isNone || decide (2 ^ 56 ≤ a) || decide (2 ^ 30 < faOffset a + n) ||
      (wr && (a % 8 != 0 || n % 8 != 0))
  | 2 => priv != privFABRIC || decide (2 ^ 20 < a + n)
  | _ => priv != privFABRIC || a % 8 != 0 || n % 8 != 0 || decide (0x4000000 < a + n) || shuf != 0

/-- Whether a JOB program's access lies outside its map (R478, R479). -/
def Dev.spaceDenied (d : Dev) (x : DmaChan) (sp a n : Nat) (wr : Bool) : Bool :=
  match sp with
  | 0 => !objAllowed x.priv x.pmap ocKCL_ADDR a (a + n - 1) wr
  | 1 => match d.windowFrame (faWindow a) with
    | some f => !objAllowed x.priv x.pmap ocFMEM_FRAME f f wr
    | none => false
  | _ => false

/-- A MOVE is checked, and its first bursts are issued (R478, R479). -/
def Dev.dmaMoveOp (d : Dev) (c : Nat) (fetch : Option (List Nat)) : Dev :=
  d.dmaIssue c fetch (fun ws => slice (ws.getD 0 0) 60 4 == 1) (fun ws d =>
    let x := d.chan c
    let w0 := ws.getD 0 0
    let par := ws.getD 3 0
    let shuf := slice w0 56 4
    let inv := bit w0 55
    let n := slice w0 24 24
    let src := wrap 64 ((ws.getD 1 0 : Int) + (x.loops.map (fun l => (l.iter : Int) * l.src)).sum)
    let dst := wrap 64 ((ws.getD 2 0 : Int) + (x.loops.map (fun l => (l.iter : Int) * l.dst)).sum)
    let ss := slice w0 52 3
    let ds := slice w0 49 3
    let dn := dstLen shuf par inv n
    let halt (cause : Nat) (wr : Bool) : Dev :=
      d.dmaHalt c { cause := cause, addr := if wr then dst else src, space := if wr then ds else ss, dir := b2n wr }
    if d.spaceBad x.priv ss src n false shuf then halt hcRANGE false
    else if d.spaceBad x.priv ds dst dn true shuf then halt hcRANGE true
    else if ss = ds ∧ src < dst + dn ∧ dst < src + n then halt hcRANGE false
    else if !lenOk shuf par inv n then halt hcRANGE false
    else if d.spaceDenied x ss src n false then halt hcPROTECTION false
    else if d.spaceDenied x ds dst dn true then halt hcPROTECTION true
    else
      let m : DmaMove := { src := src, dst := dst, len := n, shuf := shuf, inv := inv, srcSp := ss, dstSp := ds, par := par }
      (d.putChan c { x with move := some m }).dmaServe dmaRounds)

/-! ### MOVE: where the bytes go (R480) -/

/-- The destination offset of source byte `i`, where one byte goes to one place; none for a pad byte. -/
def DmaMove.place (m : DmaMove) (i : Nat) : Option Nat :=
  match m.shuf with
  | 1 =>
    let ways := slice m.par 4 4 + 1
    let es := 2 ^ slice m.par 0 2
    let p := m.len / ways
    if m.inv then some (i / es % ways * p + i / es / ways * es + i % es)
    else some ((i % p / es * ways + i / p) * es + i % es)
  | 3 =>
    let kk := slice m.par 16 13
    let t := i / 2 / kk
    let k := i / 2 % kk
    some (hatchOffset (slice m.par 0 12) t k + i % 2)
  | 4 =>
    let v := splitVals m.par
    let b := splitBlocks m.par
    if m.inv then
      if i < v * b then some (i / v * (v + 1) + i % v + 1) else if i < v * b + b then some ((i - v * b) * (v + 1)) else none
    else if i % (v + 1) = 0 then some (v * b + i / (v + 1)) else some (i / (v + 1) * v + i % (v + 1) - 1)
  | _ => some i

/-- A block of BITPLANE: 64 elements of `w` bits to `w` words of 64 bits, or back (R480). -/
def bitplane (w : Nat) (inv : Bool) (bs : List Nat) : List Nat :=
  let x := leNat bs
  let (rows, cols) := if inv then (w, 64) else (64, w)
  leBytes (8 * w) ((List.range cols).foldl (fun a j =>
    a + (maskOf rows (fun i => bit x (i * cols + j))) * 2 ^ (j * rows)) 0)

/-- The bytes written for source bytes `bs` from offset `o` on, with their destination offsets. -/
def DmaMove.pairs (m : DmaMove) (o : Nat) (bs : List Nat) : List (Nat × Nat) :=
  if m.shuf = 2 then
    let w := if bit m.par 0 then 16 else 8
    ((List.range (bs.length / (8 * w))).map (fun b =>
      let out := bitplane w m.inv ((bs.drop (8 * w * b)).take (8 * w))
      (List.range (8 * w)).map (fun i => (o + 8 * w * b + i, out.getD i 0)))).flatten
  else (List.range bs.length).filterMap (fun i => (m.place (o + i)).map (fun p => (p, bs.getD i 0)))

/-- The destination bytes that hold no source byte, written 0 with the last burst (R480). -/
def DmaMove.zeros (m : DmaMove) : List (Nat × Nat) :=
  if m.shuf = 3 ∨ (m.shuf = 4 ∧ m.inv = false) then
    let used := (List.range m.len).filterMap m.place
    ((List.range (dstLen m.shuf m.par m.inv m.len)).filter (fun i => !used.contains i)).map (fun i => (i, 0))
  else []

/-- Pairs joined to runs of neighbouring bytes. -/
def joinRuns : List (Nat × Nat) → List (Nat × List Nat)
  | [] => []
  | (a, b) :: rest =>
    match joinRuns rest with
    | (a', bs) :: r => if a' = a + 1 then (a, b :: bs) :: r else (a, [b]) :: (a', bs) :: r
    | [] => [(a, [b])]

/-- What burst `k` writes once its source bytes `bs` are read, as runs of bytes by destination offset. -/
def DmaMove.writes (m : DmaMove) (k : Nat) (bs : List Nat) : List (Nat × List Nat) :=
  let last := decide (m.len ≤ (k + 1) * m.unit)
  joinRuns (m.pairs (k * m.unit) bs) ++ (if last then joinRuns m.zeros else [])

/-! ### Commands of a channel (R473, R483) -/

/-- RUN from the control space (R473). -/
def Dev.dmaRunCmd (d : Dev) (c : Nat) : Dev :=
  if d.chanState c = dcIDLE then d.dmaStart c (d.get .dma_ch_prog_prog c) privFABRIC 0xFFFF [] else d.dmaRefuse c

/-- RESUME: from the restart point of the MOVE, or at the instruction that halted (R483). -/
def Dev.dmaResume (d : Dev) (c : Nat) : Dev :=
  if d.chanState c = dcHALTED then
    let x := d.chan c
    let mv := x.move.map (fun (m : DmaMove) => { m with next := m.restart, bursts := [] })
    ((d.putChan c { x with fault := none, wait := none, move := mv }).setMany
      [(.dma_ch_status_cause, c, 0), (.dma_ch_status_state, c, dcRUNNING)]).dmaServe dmaRounds
  else d.dmaRefuse c

/-- A write of DMA_CH_CMD (R486). -/
def Dev.dmaCmd (d : Dev) (c cmd : Nat) : Dev :=
  match cmd with
  | 1 => d.dmaRunCmd c
  | 2 => d.dmaResume c
  | 3 => d.dmaAbort c
  | _ => d

end Sys2Proof.Machine
end

