-- ==== Sys2Proof/Machine/Queues.lean ====
section
/-! DEFINITION. The commands of chapter 15: watched lines, the start of entries, completion rings, queue commands and
configuration. -/

namespace Sys2Proof.Machine

/-! ### Watched lines (R432, R433, R439) -/

/-- A watched line is read. -/
def Dev.readLine (d : Dev) (l : WatchLine) : Dev :=
  match l with
  | .head q => d.readHead q
  | .crHead q => d.readCrHead q
  | .ringHead => d.readRingHead
  | .dumpHead => d.readDumpHead

/-- QUEUE_LINE_INVALIDATE (R432, R547). -/
def execQueueLineInvalidate (l : WatchLine) (s : State) : Host.Outcome State Fault Refusal := s.run (fun d => d.readLine l)

/-- WATCH_REFRESH: every watched line is read again (R432, R547). -/
def execWatchRefresh (s : State) : Host.Outcome State Fault Refusal :=
  s.run (fun d =>
    ((List.range 512).foldl (fun d q =>
      (d.readHead q).readCrHead q) d).readRingHead.readDumpHead)

/-- A line read at the head of queue `q`: a valid entry is buffered, head advances, and the next line is read (R432, R433). -/
def Dev.headLine (d : Dev) (q : Nat) (ws : List Nat) : Dev :=
  let x := d.queue q
  if !d.qEn q || decide (8 ≤ x.buf.length) || (ws.getD 0 0) % 2 != d.get .csq_q_status_exp_phase q then d
  else
    let h := d.get .csq_q_status_head q
    let next := (h + 1) % 2 ^ d.get .csq_q_cfg_size_log2 q
    let began := if x.buf.isEmpty then d.localNs else x.began
    let d := d.putQueue q { x with buf := x.buf ++ [(h, ws)], began := began }
    let d := d.set .csq_q_status_head q next
    let d := if next = 0 then d.set .csq_q_status_exp_phase q (1 - d.get .csq_q_status_exp_phase q) else d
    d.readHead q

/-- A consumer index read for the completion ring of queue `q` (R439). -/
def Dev.crHeadLine (d : Dev) (q v : Nat) : Dev :=
  (d.putQueue q { d.queue q with crH := v }).set .csq_q_cr_status_cr_head q v

/-- The read of a watched line is answered: with the line, or with an error, on which nothing is taken. A line of queue SRAM
holds what queue SRAM holds (R432). -/
def Dev.lineDone (d : Dev) (l : WatchLine) (line : Option (List Nat)) : Dev :=
  let word (ws : List Nat) (a : Nat) : Nat := ws.getD (a / 8 % 8) 0
  let sram (a : Nat) : List Nat := (List.range 8).map (fun i => d.qsramWord (a / 64 * 8 + i))
  match l with
  | .head q =>
    match d.takeRead (.head q) with
    | none => d
    | some d' =>
      match (if d.flag .csq_q_cfg_loc q then some (sram (d.headAddr q)) else line) with
      | some ws => d'.headLine q ws
      | none => d'
  | .crHead q =>
    let a := d.get .csq_q_cr_head_addr_cr_head_addr q
    match d.takeRead (.crHead q) with
    | none => d
    | some d' =>
      match (if d.flag .csq_q_cfg_cr_loc q then some (sram a) else line) with
      | some ws => d'.crHeadLine q (word ws a)
      | none => d'
  | .ringHead =>
    match d.takeRead .ringHead, line with
    | some d', some ws => d'.set .h_ring_head 0 (word ws (d.get .ras_ring_head_addr_ring_head_addr))
    | some d', none => d'
    | none, _ => d
  | .dumpHead =>
    match d.takeRead .dumpHead, line with
    | some d', some ws => d'.set .h_dump_head 0 (word ws (d.get .perf_dump_head_addr_dump_head_addr))
    | some d', none => d'
    | none, _ => d

/-- QUEUE_LINE_READ_DONE. -/
def execQueueLineReadDone (l : WatchLine) (line : Option (Vector Word 8)) (s : State) : Host.Outcome State Fault Refusal :=
  s.run (fun d => d.lineDone l (line.map (fun v => v.toList.map (fun w => w.toNat))))

/-! ### The start of an entry (R428, R430, R431, R434, R447) -/

/-- Whether an entry fails the checks of R431. -/
def entBad (w0 : Nat) : Bool :=
  let o := entOperand w0
  slice w0 20 4 != 0 || bit w0 16 || bit w0 3 ||
    (match entKind w0 with
     | 1 => false
     | 2 => decide (8 ≤ o) || o % 8 == 0 || o % 8 == 7
     | _ => o != 0)

/-- The first token of an entry outside the map of queue `q` (R434, step 2). -/
def Dev.entTokenBad (d : Dev) (q w0 : Nat) : Option Nat :=
  let ok (t : Nat) : Bool := d.qAllowed q ocTOKEN t t true
  if entSignalEn w0 && !ok (entSignalToken w0) then some (entSignalToken w0)
  else if entWaitCount w0 != 0 && !ok (entWaitToken w0) then some (entWaitToken w0)
  else none

/-- The head of queue `q` leaves the buffer; a buffer that was full has room again and the line at head is read (R432). -/
def Dev.popHead (d : Dev) (q : Nat) : Dev :=
  let x := d.queue q
  let d := d.putQueue q { x with buf := x.buf.drop 1, align := 0, tries := 0 }
  if x.buf.length ≥ 8 then d.readHead q else d

/-- The head of queue `q` fails before it starts (R434): no instruction has run, so R445 counts and records nothing. -/
def Dev.headFails (d : Dev) (q index : Nat) (ws : List Nat) (r : EntryEnd) : Dev :=
  (d.popHead q).retire q index ws none { r with obj := none }

/-- Whether the head of queue `q` is ready and first among the waiters on its token (R434, R436). -/
def Dev.headTurn (d : Dev) (q : Nat) : Bool :=
  let x := d.queue q
  match d.qHead q x with
  | none => false
  | some (_, ws) =>
    let w0 := ws.getD 0 0
    d.headReady q x && (entWaitCount w0 == 0 || d.tokTurn (entWaitToken w0) x.began q)

/-- The queue of sequencer `k` that starts next: the highest prio, then round-robin (R428). -/
def Dev.seqPick (d : Dev) (k : Nat) : Option Nat :=
  if d.seqRunning k ≥ 16 then none
  else
    let ready := (d.queues.entries.map (·.1)).filter (fun q => d.qSeq q == k && d.headTurn q)
    let top := ready.foldl (fun a q => max a (d.get .csq_q_cfg_prio q)) 0
    let best := ready.filter (fun q => d.get .csq_q_cfg_prio q == top)
    let last := d.get .h_csq_rr (4 * k + top)
    match best.find? (fun q => decide (last < q)) with
    | some q => some q
    | none => best.head?

/-- The registers of a CALL: words 2 to 7 in g1 to g6 (R430). -/
def callRegs (ws : List Nat) : List Nat := 0 :: (ws.drop 2).take 6 ++ List.replicate 9 0

/-- The entry that starts takes its place: its token count is taken (R434, step 5). -/
def Dev.entryBegin (d : Dev) (q index : Nat) (ws : List Nat) (regs prog : List Nat) (budget : Nat) : Dev :=
  let w0 := ws.getD 0 0
  let k := d.qSeq q
  let d := d.popHead q
  let d := if entWaitCount w0 = 0 then d else d.takeTok (entWaitToken w0) (entWaitCount w0)
  let e : Entry := { run := d.runs, index := index, words := ws, tStart := d.fabricNs, regs := regs, prog := prog, budget := budget }
  let d := { d with runs := d.runs + 1 }.putQueue q { d.queue q with run := some e }
  (d.set .h_csq_rr (4 * k + d.get .csq_q_cfg_prio q) q).qCount q .ENTRY_START

/-- The proof pass applied to the entry that has just started; its failure ends the entry (R430, R447, R471). -/
def Dev.proveRun (d : Dev) (q : Nat) (prog : List Nat) (budget : Nat) : Dev × Bool :=
  match proofPass prog (d.qPriv q) (d.qMap q) budget with
  | none => (d, true)
  | some (pc, code) => (d.endRun q { status := stPROOF, pc := pc, detail := code }, false)

/-- A CALL starts, or fails for its handle (R434, step 4; R447). -/
def Dev.startCall (d : Dev) (q index : Nat) (ws : List Nat) : Dev :=
  let h := entOperand (ws.getD 0 0)
  if !d.qAllowed q ocHANDLE h h true then d.headFails q index ws (protEnd ocHANDLE h)
  else match d.progs.getOpt h with
    | none => d.headFails q index ws { status := stNO_HANDLE }
    | some p =>
      if !bit p.seqs (d.qSeq q) then d.headFails q index ws { status := stNO_HANDLE }
      else
        let d := d.entryBegin q index ws (callRegs ws) p.words p.budget
        let gen := d.get .csq_q_status_map_gen q
        if p.queue = q ∧ p.gen = gen then d
        else match d.proveRun q p.words p.budget with
          | (d, true) => { d with progs := d.progs.set h none (some { p with queue := q, gen := gen }) }
          | (d, false) => d

/-- An entry that is ready starts (R430, R434). -/
def Dev.startReady (d : Dev) (q index : Nat) (ws : List Nat) : Dev :=
  let w0 := ws.getD 0 0
  let zero := List.replicate 16 0
  match entKind w0 with
  | 1 => d.startCall q index ws
  | 2 =>
    let prog := (ws.drop 2).take (entOperand w0)
    let b := d.get .csq_q_cfg_inline_budget q
    ((d.entryBegin q index ws zero prog b).proveRun q prog b).1
  | 0 => (d.entryBegin q index ws zero [] 0).endRun q { status := stOK }
  | _ => d.entryBegin q index ws zero [] 0

/-- The head of queue `q` goes as far as it can through the steps of R434; while the fallback barrier governs its release,
its barrier is launched first (R416). -/
def Dev.entryStart (d : Dev) (q : Nat) : Dev :=
  let x := d.queue q
  match d.qHead q x with
  | none => d
  | some (index, ws) =>
    let w0 := ws.getD 0 0
    if entBad w0 then d.headFails q index ws { status := stENCODING }
    else match d.entTokenBad q w0 with
      | some t => d.headFails q index ws (protEnd ocTOKEN t)
      | none =>
        if d.fallbackOn ∧ ws.getD 1 0 ≠ 0 ∧ x.align = 0 then d.alignLaunch q
        else if d.seqPick (d.qSeq q) = some q then d.startReady q index ws
        else d

/-- ENTRY_START. -/
def execEntryStart (q : Fin 512) (s : State) : Host.Outcome State Fault Refusal := s.runX (fun d => d.entryStart q)

/-- Whether something that earlier entries of queue `q` started has not ended: operations, steps launched or armed (R430). -/
def Dev.queueBusy (d : Dev) (q : Nat) : Bool :=
  d.ops.any (fun o => o.queue == q && o.res.isNone) ||
    d.loadedCtxs.any (fun c => c.2.launches.any (fun l => l.queue == q && !l.barrier))

/-- FENCE_ENTRY_RETIRE (R430). -/
def execFenceEntryRetire (q : Fin 512) (s : State) : Host.Outcome State Fault Refusal :=
  s.run (fun d => match (d.queue q).run with
    | some e => if entKind (e.words.getD 0 0) = 3 ∧ d.queueBusy q = false then d.endRun q { status := stOK } else d
    | none => d)

/-- CRING_HOLD_FLUSH (R439). -/
def execCringHoldFlush (q : Fin 512) (s : State) : Host.Outcome State Fault Refusal :=
  s.run (fun d => d.flushHeld q (d.queue q).held.length)

/-! ### Queue commands (R446, R449) -/

/-- A queue command refused (R449). -/
def Dev.qRefuse (d : Dev) (q : Nat) : Dev := d.qRecord q .CSQ_CFG_REFUSED

/-- STOP. -/
def Dev.qStop (d : Dev) (q : Nat) : Dev :=
  let st := d.qStateOf q (d.queue q)
  if st = 3 then d.endRun q { status := stSTOPPED }
  else if st = 1 ∨ st = 2 then d.putQueue q { d.queue q with halted := true }
  else d.qRefuse q

/-- RESUME. -/
def Dev.qResume (d : Dev) (q : Nat) : Dev :=
  if d.qStateOf q (d.queue q) = 4 then d.putQueue q { d.queue q with halted := false } else d.qRefuse q

/-- RESET. -/
def Dev.qReset (d : Dev) (q : Nat) : Dev :=
  let st := d.qStateOf q (d.queue q)
  if st = 4 ∨ st = 0 then d.qRestart q else d.qRefuse q

/-- The staged map of queue `q`, 64 words. -/
def Dev.stagedMap (d : Dev) (q : Nat) : List Nat := (List.range 64).map (fun k => d.get .csq_q_pmap_stage_word (64 * q + k))

/-- Whether a map may be committed (R446). -/
def mapValid (m : List Nat) : Bool :=
  (List.range 16).all (fun i =>
    let w0 := m.getD (4 * i) 0
    decide (slice w0 60 4 ≤ 11) && slice w0 0 58 == 0 && m.getD (4 * i + 3) 0 == 0 &&
      decide (m.getD (4 * i + 1) 0 ≤ m.getD (4 * i + 2) 0))

/-- MAP_COMMIT. -/
def Dev.mapCommit (d : Dev) (q : Nat) : Dev :=
  let m := d.stagedMap q
  if mapValid m then (d.putQueue q { d.queue q with pend := some m }).installMap q else d.qRefuse q

/-- A CSQ_Q_CMD write. -/
def State.qCmd (s : State) (m : Mark) (q cmd : Nat) (f : Dev → Dev) : Host.Outcome State Fault Refusal :=
  s.run (fun d => d.hostWrite m rowCSQ_Q_CMD q cmd (fun _ _ _ d => f d))

/-- CSQ_Q_CMD_NOP. -/
def execCsqQCmdNop (m : Mark) (q : Fin 512) (s : State) : Host.Outcome State Fault Refusal := s.qCmd m q 0 (fun d => d)

/-- CSQ_Q_CMD_STOP. -/
def execCsqQCmdStop (m : Mark) (q : Fin 512) (s : State) : Host.Outcome State Fault Refusal := s.qCmd m q 1 (fun d => d.qStop q)

/-- CSQ_Q_CMD_RESUME. -/
def execCsqQCmdResume (m : Mark) (q : Fin 512) (s : State) : Host.Outcome State Fault Refusal :=
  s.qCmd m q 2 (fun d => d.qResume q)

/-- CSQ_Q_CMD_RESET. -/
def execCsqQCmdReset (m : Mark) (q : Fin 512) (s : State) : Host.Outcome State Fault Refusal := s.qCmd m q 3 (fun d => d.qReset q)

/-- CSQ_Q_CMD_MAP_COMMIT. -/
def execCsqQCmdMapCommit (m : Mark) (q : Fin 512) (s : State) : Host.Outcome State Fault Refusal :=
  s.qCmd m q 4 (fun d => d.mapCommit q)

/-! ### Queue configuration (R427, R450) -/

/-- Whether `n` records of 64 B at `a` lie wholly inside queue SRAM or companion memory. -/
def ringInside (sram : Bool) (a n : Nat) : Bool := decide (a / 64 * 64 + 64 * n ≤ (if sram then 2 ^ 20 else 2 ^ 64))

/-- Whether both rings of queue `q` lie where its configuration says (R427). -/
def Dev.ringsInside (d : Dev) (q : Nat) : Bool :=
  ringInside (d.flag .csq_q_cfg_loc q) (d.get .csq_q_base_base q) (2 ^ d.get .csq_q_cfg_size_log2 q) &&
    ringInside (d.flag .csq_q_cfg_cr_loc q) (d.get .csq_q_cr_base_cr_base q) (d.crSize q)

/-- The fields a write may not change while enable is 1, by low bit, width and field (R450). -/
def lockedFields : List (Nat × Nat × Fld) :=
  [(32, 16, .csq_q_cfg_inline_budget), (24, 5, .csq_q_cfg_cr_size_log2), (16, 5, .csq_q_cfg_size_log2), (13, 1, .csq_q_cfg_cr_loc),
   (12, 1, .csq_q_cfg_loc), (4, 3, .csq_q_cfg_seq), (2, 2, .csq_q_cfg_privilege)]

/-- A CSQ_Q_CFG write while enable is 1 (R450). -/
def Dev.qCfgEnabled (d : Dev) (q v : Nat) (bad : List Nat) : Dev :=
  let held := lockedFields.filter (fun f => !bad.contains f.1 && slice v f.1 f.2.1 != d.get f.2.2 q)
  let st := d.qStateOf q (d.queue q)
  let off := !bit v 0
  let stay := off && !(st == 1 || st == 4)
  let keep := bad ++ lockedFields.map (·.1) ++ (if stay then [0] else [])
  let d := d.writeFields rowCSQ_Q_CFG q v keep
  let d := if held.isEmpty && !stay then d else d.qRecord q .CSQ_CFG_BUSY
  let d := if off && !stay then (d.dropReads (.head q)).dropReads (.crHead q) else d
  d.putQueue q (d.queue q)

/-- A CSQ_Q_CFG write (R427, R450). -/
def Dev.qCfgWrite (d : Dev) (q v : Nat) (bad : List Nat) : Dev :=
  if d.qEn q then d.qCfgEnabled q v bad
  else
    let d := d.writeFields rowCSQ_Q_CFG q v (0 :: bad)
    if !bit v 0 then d
    else if d.ringsInside q then (d.set .csq_q_cfg_enable q 1).qRestart q
    else d.qRefuse q

/-- CSQ_Q_CFG_WRITE. -/
def execCsqQCfgWrite (m : Mark) (q : Fin 512) (v : Word) (s : State) : Host.Outcome State Fault Refusal :=
  s.run (fun d => d.hostWrite m rowCSQ_Q_CFG q v.toNat (fun _ v bad d => d.qCfgWrite q v bad))

end Sys2Proof.Machine
end

