-- ==== Sys2Proof/Machine/Ingress.lean ====
section
/-! DEFINITION. A frame that arrives: the checks of R588, policing, the single request (R17) with learning, its wait queue; its
last byte (R150, R151). -/

namespace Sys2Proof.Machine

/-- What the checks of R588 say of a header. -/
inductive Gate where
  /-- Dropped and counted only. -/
  | count (e : Ev)
  /-- Dropped, counted and recorded, its credits returned. -/
  | drop (e : Ev) (c : RecCode)
  | pass
  deriving DecidableEq, Repr

/-- Checks 2 to 7 of R588: role and state of the port, then the rules of the header itself. -/
def Dev.checkLink (d : Dev) (n : Nat) (h : Hdr) : Gate :=
  if d.role n = roleANALYSIS then .count .ANALYSIS_RX
  else if d.linkStatus n ≠ lsADMITTED then .count .NOT_ADMITTED
  else if d.fenced n then .count .FENCED_RX
  else if h.length > 4096 ∨ h.colour = 3 then .drop .HDR_INVALID .HDR_INVALID
  else if !ftypeKnown h.ftype then .drop .FTYPE_INVALID .HDR_INVALID
  else if !classAllowed h.ftype h.cls then .drop .CLASS_MISMATCH .CLASS_MISMATCH
  else .pass

/-- Checks 8 to 16 of R588: features, sources, ranges, plane and hops. -/
def Dev.checkFabric (d : Dev) (n : Nat) (h : Hdr) : Gate :=
  let edge := d.role n == roleDOWN || d.role n == roleSERVICE
  let no := fun c => Gate.drop (dropEv c) c
  if !d.hasFeature n h.ftype then no .FEATURE_MISSING
  else if edge && (isCollDown h.ftype || h.ftype == ftMIRROR) then no .ROLE_FILTERED
  else if h.ftype == ftCTRL && d.role n == roleDOWN && !d.flag .port_cfg_ctrl_from_down n then no .CTRL_FILTERED
  else if edge && (decide (h.src < d.get .port_stencil_2_src_base n) || decide (d.get .port_stencil_2_src_limit n < h.src) ||
      decide (0xFE0000 ≤ h.src)) then no .SRC_RANGE
  else if !(isEndpoint h.src || isSpine h.src) then no .GEID_INVALID
  else if h.dst = 0 ∨ 0xFF4000 ≤ h.dst then no .GEID_INVALID
  else if h.plane ≠ d.plane then no .PLANE_MISMATCH
  else if edge && h.hops == 0xF then no .VALLEY
  else if edge && h.hops != 0 then no .HOP_LIMIT
  else if d.role n = roleAXIS ∧ (h.hops = 0 ∨ d.rank n < h.hops) then no .HOP_LIMIT
  else .pass

/-- A frame that a check drops; its cost is returned once the allotments of the session are announced (R156, R162). -/
def Dev.gateDrop (d : Dev) (n : Nat) (h : Hdr) : Gate → Dev
  | .count e =>
    let d := d.count n e 1 h.attr
    if e = .FENCED_RX ∨ (e = .NOT_ADMITTED ∧ d.flag .h_credit_sent n) then d.dropCredits n h else d
  | .drop e c => ((d.count n e 1 h.attr).raise c (d.pathPort n)).dropCredits n h
  | .pass => d

/-- The frame offered to a mirror session as it stands at ingress (R224). -/
def ingressCapture (point n rid : Nat) (h : Hdr) : Capture := { point := point, hdr := h, arrival := some n, rid := some rid }

/-- The answer of the request carried out: drop, or the wait queue (R175, R197, R210, R283). -/
def Dev.routeFrame (d : Dev) (n rid made : Nat) (h : Hdr) (r : Resolved) : Dev :=
  let d := if r.pruned = 0 then d else d.count n .MC_PRUNED r.pruned h.attr
  let d := if r.flood then d.count n .FLOOD_TX 1 h.attr else d
  let (d, made) := match r.session with
    | some s => d.mirrorOffer s made (ingressCapture 2 n rid h)
    | none => (d, made)
  match r.route with
  | .drop c => (d.dropNote (some n) n c h).dropCredits n h
  | rt =>
    let f : Frame :=
      { id := rid, input := n, hdr := h, mc := (match rt with | .mcast _ => true | _ => false), arrival := some n, mirrored := made,
        stamp := if h.ftype = ftTIME then d.fabric32 / 2 ^ 24 % 2 ^ 64 else 0 }
    let d := d.addWait f (rt.target.getD (.internal 514))
    match rt with
    | .internal _ => d
    | _ => if isCollDown h.ftype then { d with collSeen := d.collSeen ++ [h] } else d

/-- A frame that passed every check: policed, learned from, looked up (R17, R174, R183, R247). -/
def Dev.enterFrame (d : Dev) (n rid made : Nat) (h : Hdr) : Dev :=
  let (d, col, drop) := d.police n h
  let h := { h with colour := col }
  if drop then d.dropCredits n h
  else
    let r := d.resolve (some n) h
    let (d, l) := if h.dst ≠ d.ownGeid ∧ d.learns n h = true then d.learn n h.src h.attr else (d, .pass)
    if l = .drop then d.dropCredits n h else d.routeFrame n rid made h r

/-- A header accepted by the framing, on its way through the checks of R588; a reception begins. -/
def Dev.headerIn (d : Dev) (n : Nat) (h : Hdr) : Dev :=
  let (rid, d) := d.newFid
  let d := { d with receiving := d.receiving.set n none (some { rid := rid, len := h.length }), rxSpoilt := d.rxSpoilt.set n false false }
  match d.checkLink n h with
  | .pass =>
    let len := linkBytes h.length
    let d := (d.count n .RX_FRAMES 1 h.attr).count n .RX_BYTES len h.attr
    let d := d.winAdd .h_win_rx_bytes 5 n len
    let (d, made) := if d.flag .xbar_port_mirror_ing_en n
      then d.mirrorOffer (d.get .xbar_port_mirror_ing_session n) 0 (ingressCapture 0 n rid h) else (d, 0)
    match d.checkFabric n h with
    | .pass => d.enterFrame n rid made h
    | g => d.gateDrop n h g
  | g => d.gateDrop n h g

/-- The header words of a unit on port `n`, whose quadrant is on: framing and header CRC first; while the receiver hunts, the
ftype and class must also be valid (R148, R588 check 1). -/
def Dev.frameHeader (d : Dev) (n : Nat) (ws : List Nat) : Dev :=
  let h := Hdr.ofWords ws
  let sound := h.ver == 1 && hdrCrcOk ws
  if !d.quadOn n ∨ (d.receiving.getOpt n).isSome = true then d
  else if !sound || (d.flag .h_hunting n && !(ftypeKnown h.ftype && classAllowed h.ftype h.cls)) then
    if d.flag .h_hunting n then d.count n .HUNT_BYTES 4
    else ((d.count n .HDR_CRC).raise .HDR_INVALID (d.pathPort n)).set .h_hunting n 1
  else (d.set .h_hunting n 0).headerIn n h

/-- The mirror copies that wait for the bytes of reception `rid` get them (R226). -/
def Dev.fillMirrors (d : Dev) (rid : Nat) (tail : List Nat) : Dev :=
  { d with frames := d.frames.map (fun f =>
      if f.ofRx = some rid then { f with payload := (f.payload ++ tail).take f.hdr.length, complete := true, ofRx := none } else f) }

/-- A bad frame counted, once (R151). -/
def Dev.countBad (d : Dev) (n : Nat) (h : Hdr) (stomped : Bool) : Dev :=
  if stomped then d.count n .STOMPED_RX 1 h.attr
  else (d.count n .FCS_BAD 1 h.attr).raise .FCS_BAD (d.pathPort n)

/-- The last byte of the frame that port `n` receives: its payload, cut or filled to the length of its header, and its CRC
word as received (R150, R151). -/
def Dev.lastByte (d : Dev) (n : Nat) (bytes : List Nat) (crc : Nat) : Dev :=
  match d.receiving.getOpt n with
  | none => d
  | some r =>
    let payload := (bytes ++ List.replicate r.len 0).take r.len
    let spoilt := d.rxSpoilt.get n false
    let d := { d with receiving := d.receiving.set n none none, rxSpoilt := d.rxSpoilt.set n false false }
    let d := d.fillMirrors r.rid (payload ++ List.replicate (padBytes r.len) 0 ++ beBytes 4 crc)
    match d.frame r.rid with
    | none => d
    | some f =>
      let good := frameCrc f.hdr payload
      let d := d.mapFrame r.rid (fun f => { f with payload := payload, complete := true })
      if crc = (good ^^^ 0xFFFFFFFF) then (d.countBad n f.hdr true).spoil r.rid
      else if crc ≠ good ∨ spoilt = true then (d.countBad n f.hdr false).spoil r.rid
      else d.settleInternal

end Sys2Proof.Machine
end

