-- ==== Sys2Proof/Machine/Forward.lean ====
section
/-! DEFINITION. The commands of chapters 6 to 8: frames in and out, the forwarding table, multicast groups, quotas, service
modes, mirror sessions, schedulers, policers and gates. -/

namespace Sys2Proof.Machine

/-! ### Frames -/

/-- The words of a header operand. -/
def hdrList (h : HdrWords) : List Nat :=
  [h.w0.toNat, h.w1.toNat, h.w2.toNat, h.w3.toNat, h.w4.toNat, h.w5.toNat, h.w6.toNat, h.w7.toNat]

/-- The bytes of a payload operand. -/
def byteList (l : List Byte) : List Nat := l.map (·.toNat)

/-- A fabric frame header arrives (R588). -/
def execFabricFrameRx (port : Fin 512) (h : HdrWords) (s : State) : Host.Outcome State Fault Refusal :=
  s.runX (fun d => d.frameHeader port (hdrList h))

/-- The last byte of the frame a port receives (R151). -/
def execFrameLastByte (port : Fin 512) (payload : List Byte) (crc : BitVec 32) (s : State) : Host.Outcome State Fault Refusal :=
  s.runX (fun d => d.lastByte port (byteList payload) crc.toNat)

/-- Whether a target is the one a wait queue is keyed by (R210). -/
def waitIs (t : WaitTarget) : Target → Bool
  | .bundle k => match t with | .bundle key => key.val == k | _ => false
  | .internal o => match t with | .internal out => 512 + out.val == o | _ => false
  | .mcast _ => match t with | .mcast => true | _ => false

/-- A cycle of the head of a wait queue (R210). -/
def execWaitQueueEnqueue (inp : Fin 517) (cls : Fin 8) (t : WaitTarget) (s : State) : Host.Outcome State Fault Refusal :=
  s.runX (fun d => match d.waitHead inp cls (waitIs t) with
    | some w => d.serveWait w
    | none => d)

/-- A unit boundary of a port's transmitter (R235, R237). -/
def execSchedDecision (port : Fin 512) (cell : CellRead) (s : State) : Host.Outcome State Fault Refusal :=
  s.runX (fun d => d.schedule port (cellOf cell))

/-- A frame's last byte leaves a port (R207). -/
def execFrameTxEnd (port : Fin 512) (cell : CellRead) (s : State) : Host.Outcome State Fault Refusal :=
  s.runX (fun d => d.txEnd port (cellOf cell))

/-- A port-island cycle of a fenced port (R222). -/
def execFencedDrain (port : Fin 512) (cls : Fin 8) (s : State) : Host.Outcome State Fault Refusal :=
  s.runX (fun d => d.fencedDrain port cls)

/-! ### The forwarding table -/

/-- Valid entries in both parts (R202). -/
def Dev.entriesValid (d : Dev) : Nat := d.validEntries.length

/-- A write of FWD_CTRL: a refused seed change keeps both seeds, the rest takes effect (R201). -/
def Dev.fwdCtrlWrite (d : Dev) (v : Nat) (bad : List Nat) : Dev :=
  let a := d.get .fwd_ctrl_seed_a
  let b := d.get .fwd_ctrl_seed_b
  let d' := d.writeFields rowFWD_CTRL 0 v bad
  let na := d'.get .fwd_ctrl_seed_a
  let nb := d'.get .fwd_ctrl_seed_b
  let keep := d'.setMany [(.fwd_ctrl_seed_a, 0, a), (.fwd_ctrl_seed_b, 0, b)]
  if na = a ∧ nb = b then d'
  else if d.entriesValid ≠ 0 then keep.raise .FWD_SEED_BUSY d.pathDevice
  else if na = nb then keep.raise .FWD_SEED_INVALID d.pathDevice
  else d'

/-- A write of FWD_CTRL (R201). -/
def execFwdCtrlWrite (m : Mark) (v : Word) (s : State) : Host.Outcome State Fault Refusal :=
  s.run (fun d => d.hostWrite m rowFWD_CTRL 0 v.toNat (fun _ v bad d => d.fwdCtrlWrite v bad))

/-- A write of FWD_AGE_CTRL: 0 stops the sweep, a later period resumes it (R189). -/
def execFwdAgeCtrlWrite (m : Mark) (v : Word) (s : State) : Host.Outcome State Fault Refusal :=
  s.run (fun d => d.hostWrite m rowFWD_AGE_CTRL 0 v.toNat (fun _ v bad d => d.writeFields rowFWD_AGE_CTRL 0 v bad))

/-- A port's limit and excess mode set; learn_blocked may rise (R187). -/
def Dev.learnLimitWrite (d : Dev) (n v : Nat) (bad : List Nat) : Dev := (d.writeFields rowFWD_LEARN n v bad).learnRises d [n]

/-- A write of FWD_LEARN_n (R187, R203). -/
def execFwdLearnWrite (m : Mark) (port : Fin 512) (v : Word) (s : State) : Host.Outcome State Fault Refusal :=
  s.run (fun d => d.hostWrite m rowFWD_LEARN port v.toNat (fun _ v bad d => d.learnLimitWrite port v bad))

/-- The word of FWD_LOCK_REQ for a command and a bucket (R204). -/
def lockWord (cmd b : Nat) : Nat := cmd * 2 ^ 62 + b

/-- A write of FWD_LOCK_REQ (R192, R194, R204). -/
def Dev.lockReqWrite (d : Dev) (k v : Nat) : Dev :=
  match slice v 62 2 with
  | 1 => (d.lockAcquire k (slice v 0 19)).1
  | 2 => d.lockRelease k
  | 3 => (d.lockCommit [k]).1
  | _ => d

/-- Lock-slot command NOP (R204). -/
def execFwdLockNop (m : Mark) (slot : Fin 64) (bucket : BitVec 19) (s : State) : Host.Outcome State Fault Refusal :=
  s.run (fun d => d.hostWrite m rowFWD_LOCK_REQ slot (lockWord 0 bucket.toNat) (fun _ v _ d => d.lockReqWrite slot v))

/-- Lock-slot command ACQUIRE (R192). -/
def execFwdLockAcquire (m : Mark) (slot : Fin 64) (bucket : BitVec 19) (s : State) : Host.Outcome State Fault Refusal :=
  s.run (fun d => d.hostWrite m rowFWD_LOCK_REQ slot (lockWord 1 bucket.toNat) (fun _ v _ d => d.lockReqWrite slot v))

/-- Lock-slot command RELEASE (R192). -/
def execFwdLockRelease (m : Mark) (slot : Fin 64) (bucket : BitVec 19) (s : State) : Host.Outcome State Fault Refusal :=
  s.run (fun d => d.hostWrite m rowFWD_LOCK_REQ slot (lockWord 2 bucket.toNat) (fun _ v _ d => d.lockReqWrite slot v))

/-- Lock-slot command COMMIT (R194). -/
def execFwdLockCommit (m : Mark) (slot : Fin 64) (bucket : BitVec 19) (s : State) : Host.Outcome State Fault Refusal :=
  s.run (fun d => d.hostWrite m rowFWD_LOCK_REQ slot (lockWord 3 bucket.toNat) (fun _ v _ d => d.lockReqWrite slot v))

/-- A write of FWD_COMMIT: every named slot, or none (R194). -/
def execFwdCommitWrite (m : Mark) (v : Word) (s : State) : Host.Outcome State Fault Refusal :=
  s.run (fun d => d.hostWrite m rowFWD_COMMIT 0 v.toNat (fun _ v _ d => (d.lockCommit (bitsOf 64 v)).1))

/-- A slot is held longer than its timeout (R195). -/
def execFwdLockTimeout (slot : Fin 64) (s : State) : Host.Outcome State Fault Refusal := s.runX (fun d => d.lockTimeout slot)

/-- Whether the sweep runs. -/
def Dev.sweepOn (d : Dev) : Bool := d.domainOn 8 && d.get .fwd_age_ctrl_age_period_ms != 0

/-- The sweep visits its next bucket or overflow group (R188 to R190). -/
def Dev.sweepVisit (d : Dev) : Dev :=
  let k := d.get .h_sweep_at
  if !d.sweepOn || decide (nUnits ≤ k) then d
  else
    let d := d.setMany [(.fwd_sweep_sweep_pos, 0, k), (.h_sweep_at, 0, k + 1)]
    (if d.locked k then { d with swSkipped := d.swSkipped ++ [k] } else d.ageUnit k).sweepDone

/-- The sweep visits its next bucket (R188). -/
def execAgeVisit (s : State) : Host.Outcome State Fault Refusal := s.runX Dev.sweepVisit

/-- A skipped bucket is visited again at the end of the sweep (R190). -/
def Dev.sweepRevisit (d : Dev) : Dev :=
  match d.swSkipped with
  | k :: r =>
    if d.sweepOn && d.get .h_sweep_at == nUnits then
      let d := ({ d with swSkipped := r } : Dev).set .fwd_sweep_sweep_pos 0 k
      (if d.locked k then d.count blkDevice .AGE_SKIP_LOCKED else d.ageUnit k).sweepDone
    else d
  | [] => d

/-- A skipped bucket is visited again (R190). -/
def execAgeRevisit (s : State) : Host.Outcome State Fault Refusal := s.runX Dev.sweepRevisit

/-! ### Multicast groups -/

/-- The word of MCAST_CMD (R205). -/
def mcastWord (cmd g : Nat) : Nat := cmd * 2 ^ 62 + g

/-- A write of MCAST_CMD (R198). -/
def Dev.mcastWrite (d : Dev) (v : Nat) : Dev :=
  match slice v 62 2 with
  | 1 => (d.mcIssue 1 (slice v 0 16) []).1
  | 2 => (d.mcIssue 2 (slice v 0 16) d.mcStage).1
  | _ => d

/-- Multicast command NOP (R205). -/
def execMcastCmdNop (m : Mark) (group : Fin 65536) (s : State) : Host.Outcome State Fault Refusal :=
  s.run (fun d => d.hostWrite m rowMCAST_CMD 0 (mcastWord 0 group) (fun _ v _ d => d.mcastWrite v))

/-- Multicast command READ (R198). -/
def execMcastCmdRead (m : Mark) (group : Fin 65536) (s : State) : Host.Outcome State Fault Refusal :=
  s.run (fun d => d.hostWrite m rowMCAST_CMD 0 (mcastWord 1 group) (fun _ v _ d => d.mcastWrite v))

/-- Multicast command WRITE (R198). -/
def execMcastCmdWrite (m : Mark) (group : Fin 65536) (s : State) : Host.Outcome State Fault Refusal :=
  s.run (fun d => d.hostWrite m rowMCAST_CMD 0 (mcastWord 2 group) (fun _ v _ d => d.mcastWrite v))

/-! ### Quotas (R208, R212 to R215) -/

/-- Committed cells (R208). -/
def Dev.committed (d : Dev) : Nat :=
  sumBelow 4096 (fun k => max (d.get .xbar_iq_iq k) (d.get .port_credit_allotment_rx k - d.get .h_withheld k))
    + sumBelow 4 (fun i => d.get .xbar_int_quota_iq_int i) + d.get .xbar_mirror_res_mirror_reserve

/-- A quota write that keeps the sum of R208 within the pool is made by `f`; another is refused whole. -/
def Dev.quotaWrite (d : Dev) (f : Dev → Dev) (after : Dev → Dev) : Dev :=
  if (f d).committed > 786432 then d.raise .XBAR_QUOTA_OVERCOMMIT d.pathDevice else after (f d)

/-- XBAR_QUOTA_CUT of a port's class (R213, R214). -/
def Dev.cutPort (d : Dev) (n c used q : Nat) : Dev := d.raise .XBAR_QUOTA_CUT (d.pathPort n) [.h c, .w used, .h q]

/-- XBAR_QUOTA_CUT of an internal input or output, which takes the place of the class (log entry 14). -/
def Dev.cutInternal (d : Dev) (i used q : Nat) : Dev := d.raise .XBAR_QUOTA_CUT d.pathDevice [.h i, .w used, .h q]

/-- What a change of iq_c from `old` does (R213): a raise reports what is withheld above the deficit, a cut below the charged
cells is recorded. -/
def Dev.iqChanged (d : Dev) (old : Dev) (n c : Nat) : Dev :=
  let k := 8 * n + c
  let q := d.get .xbar_iq_iq k
  let w := d.get .h_withheld k
  let dd := d.deficit n c
  let d := if dd < w then (d.set .h_withheld k dd).reportFreed n c (w - dd) else d
  if q < old.get .xbar_iq_iq k ∧ q < d.inUsed n c then d.cutPort n c (d.inUsed n c) q else d

/-- A write of XBAR_IQ_LO or _HI (R208, R213). -/
def Dev.iqWrite (d : Dev) (n half v : Nat) (bad : List Nat) : Dev :=
  d.quotaWrite (fun d => d.writeFields rowXBAR_IQ (2 * n + half) v bad)
    (fun d' => (List.range 4).foldl (fun x i => x.iqChanged d n (4 * half + i)) d')

/-- A write of ingress quotas (R213). -/
def execXbarIqWrite (m : Mark) (port : Fin 512) (half : Fin 2) (v : Word) (s : State) : Host.Outcome State Fault Refusal :=
  s.run (fun d => d.hostWrite m rowXBAR_IQ (2 * port + half) v.toNat (fun _ v bad d => d.iqWrite port half v bad))

/-- A write of XBAR_EQ_LO or _HI (R214). -/
def Dev.eqWrite (d : Dev) (n half v : Nat) (bad : List Nat) : Dev :=
  (List.range 4).foldl (fun x i =>
    let c := 4 * half + i
    let q := x.get .xbar_eq_eq (8 * n + c)
    if q < d.get .xbar_eq_eq (8 * n + c) ∧ q < x.outUsed n c then x.cutPort n c (x.outUsed n c) q else x)
    (d.writeFields rowXBAR_EQ (2 * n + half) v bad)

/-- A write of egress quotas (R214). -/
def execXbarEqWrite (m : Mark) (port : Fin 512) (half : Fin 2) (v : Word) (s : State) : Host.Outcome State Fault Refusal :=
  s.run (fun d => d.hostWrite m rowXBAR_EQ (2 * port + half) v.toNat (fun _ v bad d => d.eqWrite port half v bad))

/-- The record of an internal input whose quota was cut below the cells charged (R213). -/
def Dev.inputCut (d old : Dev) (inp : Nat) : Dev :=
  let q := fun (x : Dev) => if inp = 516 then x.get .xbar_mirror_res_mirror_reserve else x.get .xbar_int_quota_iq_int (inp - 512)
  if q d < q old ∧ q d < d.inputUsed inp then d.cutInternal inp (d.inputUsed inp) (q d) else d

/-- A write of XBAR_INT_QUOTA (R208). -/
def Dev.intQuotaWrite (d : Dev) (v : Nat) (bad : List Nat) : Dev :=
  d.quotaWrite (fun d => d.writeFields rowXBAR_INT_QUOTA 0 v bad)
    (fun d' => (List.range 4).foldl (fun x i => x.inputCut d (512 + i)) d')

/-- A write of the internal input quotas (R208). -/
def execXbarIntQuotaWrite (m : Mark) (v : Word) (s : State) : Host.Outcome State Fault Refusal :=
  s.run (fun d => d.hostWrite m rowXBAR_INT_QUOTA 0 v.toNat (fun _ v bad d => d.intQuotaWrite v bad))

/-- The record of an internal output whose quota was cut below the cells queued (R214). -/
def Dev.outputCut (d old : Dev) (i : Nat) : Dev :=
  let q := fun (x : Dev) => x.get .xbar_mirror_res_oq_int i * 256
  if q d < q old ∧ q d < d.outputUsed (512 + i) then d.cutInternal (512 + i) (d.outputUsed (512 + i)) (q d) else d

/-- A write of XBAR_MIRROR_RES (R208, R214). -/
def Dev.mirrorResWrite (d : Dev) (v : Nat) (bad : List Nat) : Dev :=
  d.quotaWrite (fun d => d.writeFields rowXBAR_MIRROR_RES 0 v bad)
    (fun d' => (List.range 4).foldl (fun x i => x.outputCut d i) (d'.inputCut d 516))

/-- A write of mirror_reserve and the internal output quotas (R208). -/
def execXbarMirrorResWrite (m : Mark) (v : Word) (s : State) : Host.Outcome State Fault Refusal :=
  s.run (fun d => d.hostWrite m rowXBAR_MIRROR_RES 0 v.toNat (fun _ v bad d => d.mirrorResWrite v bad))

/-! ### Service modes and mirror sessions (R218, R227, R231) -/

/-- A write of XBAR_PORT_MODE (R218, R233). -/
def execXbarPortModeWrite (m : Mark) (port : Fin 512) (v : Word) (s : State) : Host.Outcome State Fault Refusal :=
  s.run (fun d => d.hostWrite m rowXBAR_PORT_MODE port v.toNat (fun _ v bad d => d.writeFields rowXBAR_PORT_MODE port v bad))

/-- STARTUP or RECOVERY has run its time (R218). -/
def execServiceModeEnd (port : Fin 512) (s : State) : Host.Outcome State Fault Refusal :=
  s.runX (fun d =>
    if d.get .xbar_port_mode_svc_mode port = 1 ∨ d.get .xbar_port_mode_svc_mode port = 3 then d.set .xbar_port_mode_svc_mode port 0
    else d)

/-- Whether the destination of a session fits its kind (R227). -/
def Dev.mirrorDestOk (d : Dev) (s : Nat) : Bool :=
  if d.get .xbar_mir_cfg_dest_kind s = 0 then d.role (d.get .xbar_mir_dest_dest_port s) == roleANALYSIS
  else isEndpoint (d.get .xbar_mir_dest_dest_geid s)

/-- A write of XBAR_MIR_CFG (R227, R231); a session that starts has its countdown loaded (R225, log entry 15). -/
def Dev.mirCfgWrite (d : Dev) (s v : Nat) (bad : List Nat) : Dev :=
  if d.flag .xbar_mir_cfg_enable s then d.raise .MIRROR_CFG_REFUSED d.pathDevice
  else
    let d := d.writeFields rowXBAR_MIR_CFG s v bad
    if !d.flag .xbar_mir_cfg_enable s then d
    else if d.mirrorDestOk s then d.set .h_mir_cnt s (d.get .xbar_mir_cfg_sample_n_m1 s)
    else (d.set .xbar_mir_cfg_enable s 0).raise .MIRROR_CFG_REFUSED d.pathDevice

/-- A write of XBAR_MIR_CFG (R231). -/
def execXbarMirCfgWrite (m : Mark) (session : Fin 16) (v : Word) (s : State) : Host.Outcome State Fault Refusal :=
  s.run (fun d => d.hostWrite m rowXBAR_MIR_CFG session v.toNat (fun _ v bad d => d.mirCfgWrite session v bad))

/-- A write of XBAR_MIR_DEST (R231). -/
def Dev.mirDestWrite (d : Dev) (s v : Nat) (bad : List Nat) : Dev :=
  if d.flag .xbar_mir_cfg_enable s then d.raise .MIRROR_CFG_REFUSED d.pathDevice
  else d.writeFields rowXBAR_MIR_DEST s v bad

/-- A write of XBAR_MIR_DEST (R231). -/
def execXbarMirDestWrite (m : Mark) (session : Fin 16) (v : Word) (s : State) : Host.Outcome State Fault Refusal :=
  s.run (fun d => d.hostWrite m rowXBAR_MIR_DEST session v.toNat (fun _ v bad d => d.mirDestWrite session v bad))

/-! ### Scheduler, shapers, policers (R237, R239, R245, R248) -/

/-- A write of SCHED_PORT_CFG: classes that move between STRICT and DWRR start anew (R237). -/
def Dev.schedCfgWrite (d : Dev) (n v : Nat) (bad : List Nat) : Dev :=
  let d' := d.writeFields rowSCHED_PORT_CFG n v bad
  (List.range 8).foldl (fun x c =>
    if d'.strict n c == d.strict n c then x else (x.setDeficit n c 0).putB .h_sch_fresh n c true) d'

/-- A write of SCHED_PORT_CFG (R237). -/
def execSchedPortCfgWrite (m : Mark) (port : Fin 512) (v : Word) (s : State) : Host.Outcome State Fault Refusal :=
  s.run (fun d => d.hostWrite m rowSCHED_PORT_CFG port v.toNat (fun _ v bad d => d.schedCfgWrite port v bad))

/-- A write of SCHED_SHAPER_c: tokens full when burst changes or shaping starts, else kept within the burst (R239). -/
def Dev.shaperWrite (d : Dev) (n c v : Nat) (bad : List Nat) : Dev :=
  let k := 8 * n + c
  let t := d.shaperTokens n c
  let d' := d.writeFields rowSCHED_SHAPER k v bad
  let cap : Int := d'.get .sched_shaper_burst k * 8000
  let full := d'.get .sched_shaper_burst k ≠ d.get .sched_shaper_burst k ∨ d.flag .sched_shaper_shape_en k = false
  d'.putTokens n c (if full then cap else min t cap)

/-- A write of a shaper (R239). -/
def execSchedShaperWrite (m : Mark) (port : Fin 512) (cls : Fin 8) (v : Word) (s : State) : Host.Outcome State Fault Refusal :=
  s.run (fun d => d.hostWrite m rowSCHED_SHAPER (8 * port + cls) v.toNat (fun _ v bad d => d.shaperWrite port cls v bad))

/-- A write of a policer's configuration made by `f`, or refused; both buckets are full after it (R248). -/
def Dev.polWrite (d : Dev) (k : Nat) (f : Dev → Dev) : Dev :=
  let d' := f d
  let cbs := d'.get .sched_pol_burst_cbs k
  let pbs := d'.get .sched_pol_burst_pbs_ebs k
  if d'.get .sched_pol_cfg_mode k = 0 ∧ (d'.get .sched_pol_cfg_pir_mbps k < d'.get .sched_pol_cfg_cir_mbps k ∨ pbs < cbs) then
    d.raise .SCHED_POL_REFUSED d.pathDevice
  else d'.setMany [(.h_pol_p, k, pbs * 8000), (.h_pol_c, k, cbs * 8000), (.h_pol_t, k, d.localNs)]

/-- A write of SCHED_POL_CFG (R248). -/
def execSchedPolCfgWrite (m : Mark) (pol : Fin 4096) (v : Word) (s : State) : Host.Outcome State Fault Refusal :=
  s.run (fun d => d.hostWrite m rowSCHED_POL_CFG pol v.toNat (fun _ v bad d =>
    d.polWrite pol (fun d => d.writeFields rowSCHED_POL_CFG pol v bad)))

/-- A write of SCHED_POL_BURST (R248). -/
def execSchedPolBurstWrite (m : Mark) (pol : Fin 4096) (v : Word) (s : State) : Host.Outcome State Fault Refusal :=
  s.run (fun d => d.hostWrite m rowSCHED_POL_BURST pol v.toNat (fun _ v bad d =>
    d.polWrite pol (fun d => d.writeFields rowSCHED_POL_BURST pol v bad)))

/-- A write of SCHED_POL_MAP_LO or _HI: a field that names a policer of another quadrant keeps its value (R245). -/
def Dev.polMapWrite (d : Dev) (n half v : Nat) (bad : List Nat) : Dev :=
  let d' := d.writeFields rowSCHED_POL_MAP (2 * n + half) v bad
  let out := (List.range 4).filter (fun i => d'.get .sched_pol_map_pol_idx (8 * n + 4 * half + i) / 1024 != n / 128)
  let d' := out.foldl (fun x i => [Fld.sched_pol_map_pol_idx, .sched_pol_map_pol_en].foldl (fun x f =>
    x.set f (8 * n + 4 * half + i) (d.get f (8 * n + 4 * half + i))) x) d'
  if out.isEmpty then d' else d'.raise .SCHED_CFG_REFUSED (d.pathPort n)

/-- A write of a policer map (R245). -/
def execSchedPolMapWrite (m : Mark) (port : Fin 512) (half : Fin 2) (v : Word) (s : State) : Host.Outcome State Fault Refusal :=
  s.run (fun d => d.hostWrite m rowSCHED_POL_MAP (2 * port + half) v.toNat (fun _ v bad d => d.polMapWrite port half v bad))

/-! ### Gates (R240 to R244) -/

/-- The active list moves to the entry that fabric time has reached (R240). -/
def execGateEntryChange (port : Fin 512) (s : State) : Host.Outcome State Fault Refusal :=
  s.runX (fun d => if d.flag .sched_gate_ctrl_gate_en port then d.gateShow port else d)

/-- The result of the checks of R243 on the admin list of port `n`. -/
def Dev.gateCheck (d : Dev) (n : Nat) : Nat :=
  let k := d.get .sched_gate_admin_n_entries n
  let cyc := d.get .sched_gate_admin_cycle_ns n
  let ns := (d.gateList n (1 - d.activeList n) k).map gateNs
  if d.flag .sched_gate_status_pending n then 1
  else if k = 0 ∨ 256 < k then 2
  else if cyc < 1000 ∨ 4000000000 < cyc then 3
  else if ns.any (· < 8) then 4
  else if ns.sum ≠ cyc then 5
  else 0

/-- The activation time of a list (R244). -/
def Dev.gateSwapTime (d : Dev) (n : Nat) : Nat :=
  let base := d.get .sched_gate_base_base_ns n
  let soon := d.fabricNs + 1000
  if soon ≤ base then base
  else base + cdiv (soon - base) (d.get .sched_gate_admin_cycle_ns n) * d.get .sched_gate_admin_cycle_ns n

/-- A gate command refused with a result (R243, R244). -/
def Dev.gateRefuse (d : Dev) (n r : Nat) : Dev :=
  (d.set .sched_gate_status_result n r).raise .SCHED_GCL_REFUSED (d.pathPort n)

/-- The change requested (R243, R244). -/
def Dev.gateChange (d : Dev) (n : Nat) : Dev :=
  let r := d.gateCheck n
  if r ≠ 0 then d.gateRefuse n r
  else d.setMany [(.sched_gate_status_result, n, 0), (.sched_gate_status_pending, n, 1), (.h_gate_swap, n, d.gateSwapTime n)]

/-- A write of SCHED_GATE_CTRL; change reads 0 (R243, R259). -/
def Dev.gateCtrlWrite (d : Dev) (n v : Nat) (bad : List Nat) : Dev :=
  let d := ((d.writeFields rowSCHED_GATE_CTRL n v bad).set .sched_gate_ctrl_change n 0).gateShow n
  if bit v 9 then d.gateChange n else d

/-- A write of SCHED_GATE_CTRL that sets change (R243). -/
def execGateChangeRequest (m : Mark) (port : Fin 512) (v : Word) (s : State) : Host.Outcome State Fault Refusal :=
  s.run (fun d => d.hostWrite m rowSCHED_GATE_CTRL port (setBit v.toNat 9) (fun _ v bad d => d.gateCtrlWrite port v bad))

/-- Whether a list change of port `n` is pending whose activation time fabric time has reached (R244, R412). -/
def Dev.gateDue (d : Dev) (n : Nat) : Bool :=
  d.flag .sched_gate_status_pending n && decide (d.get .h_gate_swap n ≤ d.fabricNs)

/-- The lists of port `n` swap where that is due; cycle, length and base go with their list (R244, log entry 16). -/
def Dev.gateSwap (d : Dev) (n : Nat) : Dev :=
  if !d.gateDue n then d
  else
    let d' := d.setMany [(.sched_gate_status_active_list, n, 1 - d.activeList n), (.sched_gate_status_pending, n, 0),
      (.h_gate_cycle, n, d.get .sched_gate_admin_cycle_ns n), (.h_gate_n, n, d.get .sched_gate_admin_n_entries n),
      (.h_gate_base, n, d.get .sched_gate_base_base_ns n), (.sched_gate_admin_cycle_ns, n, d.get .h_gate_cycle n),
      (.sched_gate_admin_n_entries, n, d.get .h_gate_n n), (.sched_gate_base_base_ns, n, d.get .h_gate_base n),
      (.sched_gate_status_entry, n, 0)]
    if d'.flag .sched_gate_ctrl_gate_en n then d'.set .sched_gate_status_gate_state n (gateByte (d'.gate n (d'.activeList n) 0)) else d'

/-- The activation time of a pending list (R244). -/
def execGateListSwap (port : Fin 512) (s : State) : Host.Outcome State Fault Refusal := s.runX (fun d => d.gateSwap port)

/-- A write of SCHED_GATE_DATA: the admin entry that index names, and index moves on (R244, R259). -/
def Dev.gateDataWrite (d : Dev) (n v : Nat) : Dev :=
  if d.flag .sched_gate_status_pending n then d.gateRefuse n 1
  else
    let i := d.get .sched_gate_index_index n
    (d.setGate n (1 - d.activeList n) i (slice v 56 8 * 2 ^ 32 + slice v 0 32)).set .sched_gate_index_index n (i + 1)

/-- A write of SCHED_GATE_DATA (R259). -/
def execSchedGateDataWrite (m : Mark) (port : Fin 512) (v : Word) (s : State) : Host.Outcome State Fault Refusal :=
  s.run (fun d => d.hostWrite m rowSCHED_GATE_DATA port v.toNat (fun _ v _ d => d.gateDataWrite port v))

end Sys2Proof.Machine
end

