-- ==== Sys2Proof/Machine/Due.lean ====
section
/-! DEFINITION. What a step of fabric time fires: the actions it passes over, in ascending order of their times (R412), and the
window it ends (R495). Queue entries with a not-before time read fabric time where they are released, triggers follow R413. -/

namespace Sys2Proof.Machine

/-- An action of R412 that fabric time has reached. -/
inductive Action where
  /-- The gate lists of a port swap (R244). -/
  | gates (n : Nat)
  /-- An express circuit switches (R129). -/
  | express (c : Nat)
  /-- The snapshots of R497 that are due. -/
  | snapshot
  deriving DecidableEq, Repr

/-- The effect of an action. -/
def Dev.fire (d : Dev) : Action → Dev
  | .gates n => d.gateSwap n
  | .express c => d.xprActivate c
  | .snapshot => d.snapFire d.snapDue.2

/-- An action at time `t` takes its place in a list that ascends in time, behind those of the same time. -/
def putDue (t : Nat) (a : Action) : List (Nat × Action) → List (Nat × Action)
  | [] => [(t, a)]
  | e :: l => if t < e.1 then (t, a) :: e :: l else e :: putDue t a l

/-- The actions that fabric time has reached and that have not fired, in ascending order of their times (R412). -/
def Dev.dueActions (d : Dev) : List (Nat × Action) :=
  let gates := ((List.range 512).filter d.gateDue).map (fun n => (d.get .h_gate_swap n, Action.gates n))
  let circs := ((List.range 64).filter d.actDue).map (fun c => (d.get .xpr_circ_act_time_act_time c, Action.express c))
  let snaps := if d.snapDue.2 = 0 then [] else [(d.snapDue.1, Action.snapshot)]
  (gates ++ circs ++ snaps).foldl (fun l e => putDue e.1 e.2 l) []

/-- They fire (R412). -/
def Dev.fireDue (d : Dev) : Dev := d.dueActions.foldl (fun d e => d.fire e.2) d

/-- What follows in `d'` from fabric time having moved since `d`: a window whose end was passed over is latched, once, and the
next one, which began at no window end, is partial too (R495); then the actions passed over fire (R412). -/
def Dev.afterStep (d d' : Dev) : Dev :=
  let w := d.get .perf_win_ctrl_window_us * 1000
  (if w ≠ 0 ∧ d.fabricNs / w < d'.fabricNs / w then d'.windowLatch.partialAll else d').fireDue

end Sys2Proof.Machine
end

