-- ==== Sys2Proof/Machine/Time.lean ====
section
/-! DEFINITION. The commands of chapter 14: exchanges, the parent, grandmaster and PPS, triggers, captures, and the registers
of fabric time. -/

namespace Sys2Proof.Machine

/-! ### Exchanges and the parent -/

/-- TIME_REQ_SEND, on the parent port or the alternate (R401). -/
def execTimeReqSend (alt : Bool) (s : State) : Host.Outcome State Fault Refusal := s.runX (fun d => d.timeReq (b2n alt))

/-- TIME_REQ_RX (R401). -/
def execTimeReqRx (s : State) : Host.Outcome State Fault Refusal := s.runX Dev.timeAnswer

/-- TIME_RESP_RX (R403). -/
def execTimeRespRx (s : State) : Host.Outcome State Fault Refusal := s.runX (fun d => d.afterStep d.timeResp)

/-- TIME_EXCHANGE_LOST (R403). -/
def execTimeExchangeLost (alt : Bool) (s : State) : Host.Outcome State Fault Refusal := s.runX (fun d => d.timeLost (b2n alt))

/-- Whether no parent is selected, or the one that is is not eligible (R408). -/
def Dev.parentGone (d : Dev) : Bool :=
  d.get .h_parent_sel == 0 || (d.get .h_parent_sel == 1 && !d.tEligible 0)

/-- The wait after the parent's loss is over (R408). -/
def Dev.altSwitch (d : Dev) : Dev :=
  if d.tstate = tsHOLDOVER ∧ d.parentGone ∧ d.tEligible 1 ∧ d.flag .time_ctrl_servo_en then
    ((d.set .h_parent_sel 0 2).raise .TIME_PARENT_SWITCH d.pathDevice [.h (d.tport 1)]).timeCheck
  else d

/-- TIME_ALT_WAIT_EXPIRY (R408). -/
def execTimeAltWaitExpiry (s : State) : Host.Outcome State Fault Refusal := s.runX Dev.altSwitch

/-- What is known of parent port or alternate `k` is forgotten: its port has changed. -/
def Dev.tForget (d : Dev) (k : Nat) : Dev :=
  { d.setMany [(.h_tp_ok, k, 0), (.h_tp_valid, k, 0), (.time_meas_lost_run, k, 0), (.time_meas_eligible, k, 0)]
    with timeDs := d.timeDs.set k [] [] }

/-- A write of TIME_PARENT (R408); a REQ on a port that is taken away counts as lost there (R403). -/
def Dev.parentWrite (d : Dev) (v : Nat) (bad : List Nat) : Dev :=
  let runs := d.tstate == tsACQUIRE || d.tstate == tsLOCKED
  let d' := d.writeFields rowTIME_PARENT 0 v bad
  let moved (k : Nat) : Bool := d.tport k != d'.tport k
  let sel := d.get .h_parent_sel
  let leave := runs && ((sel == 1 && (moved 0 || !d'.tportEn 0)) || (sel == 2 && (moved 1 || !d'.tportEn 1)))
  let d := if leave then (d.set .h_parent_sel 0 0).toState tsHOLDOVER else d
  let d := (List.range 2).foldl (fun d k => if moved k then d.reqDropped k else d) d
  let d := d.writeFields rowTIME_PARENT 0 v bad
  let d := (List.range 2).foldl (fun d k => if moved k then d.tForget k else d) d
  let d :=
    if d.tportEn 0 then
      if d.get .h_parent_sel = 2 then
        (if d.tEligible 0 then (d.toState tsHOLDOVER).set .h_parent_sel 0 1 else d)
      else d.set .h_parent_sel 0 1
    else d
  d.timeCheck

/-- TIME_PARENT_WRITE (R408). -/
def execTimeParentWrite (m : Mark) (v : Word) (s : State) : Host.Outcome State Fault Refusal :=
  s.runX (fun d => d.hostWrite m rowTIME_PARENT 0 v.toNat (fun _ v bad d => d.parentWrite v bad))

/-- A write of TIME_CTRL (R405, R410, R411). -/
def Dev.timeCtrlWrite (d : Dev) (v : Nat) (bad : List Nat) : Dev :=
  let d := d.writeFields rowTIME_CTRL 0 v bad
  let d := d.set .h_ref_ext 0 (d.get .time_ctrl_ref_sel)
  let servo := d.flag .time_ctrl_servo_en
  let gm := d.flag .time_ctrl_gm_en
  let st := d.tstate
  let d :=
    if !servo && !gm && !d.flag .h_ever_lock then d.toState tsFREE
    else if st = tsGRANDMASTER ∧ gm = false then d.toState tsHOLDOVER
    else if (st = tsLOCKED ∨ st = tsACQUIRE) ∧ servo = false then d.toState tsHOLDOVER
    else d
  d.timeCheck

/-- TIME_CTRL_WRITE. -/
def execTimeCtrlWrite (m : Mark) (v : Word) (s : State) : Host.Outcome State Fault Refusal :=
  s.runX (fun d => d.hostWrite m rowTIME_CTRL 0 v.toNat (fun _ v bad d => d.timeCtrlWrite v bad))

/-- HOLDOVER_AGE_TICK (R407). -/
def execHoldoverAgeTick (s : State) : Host.Outcome State Fault Refusal :=
  s.runX (fun d => if d.tstate = tsHOLDOVER then (d.incrSat .time_status_holdover_age 0).refreshDegraded else d)

/-! ### Grandmaster, PPS and the reference (R410, R411) -/

/-- The error of an edge captured `quarter` × 0.25 ns into the current tick, against the nearest whole second, in 2^−32 ns. -/
def Dev.ppsErr (d : Dev) (quarter : Nat) : Int :=
  let sec := 1000000000 * 2 ^ 32
  let r := (d.fabric32 + quarter * 2 ^ 30) % sec
  if 2 * r ≤ sec then (r : Int) else (r : Int) - sec

/-- The first edge: a step where it is due, with the actions it passes over (R412), then GRANDMASTER. -/
def Dev.ppsFirst (d : Dev) (err : Int) : Dev :=
  let d := if d.get .time_servo_step_threshold_ns * 2 ^ 32 < err.natAbs ∧ d.flag .time_ctrl_step_en then d.afterStep (d.timeStep (-err) []) else d
  (d.set .time_status_pps_ok 0 1).toState tsGRANDMASTER

/-- A rising edge of PPS_IN (R405, R410). -/
def Dev.ppsEdge (d : Dev) (quarter : Nat) : Dev :=
  if !d.flag .time_ctrl_gm_en then d
  else
    let err := d.ppsErr quarter
    let d := d.set .time_pps_pps_err 0 (wrap 32 (ratioRound err (2 ^ 24)))
    if d.tstate = tsGRANDMASTER then
      if 1000 * 2 ^ 32 < err.natAbs then d.count blkDevice .TIME_PPS_REJECT
      else (d.set .time_status_pps_ok 0 1).servo (-(ratioFree (err * oUnit) (2 ^ 32))) true []
    else if d.tstate = tsHOLDOVER ∧ d.flag .h_gm_hold = true then
      let now := d.localNs
      let prev := d.get .h_pps_last
      if prev ≠ 0 ∧ prev - 1 + 999999000 ≤ now ∧ now ≤ prev - 1 + 1000001000 then d.ppsFirst err
      else d.set .h_pps_last 0 (now + 1)
    else d.ppsFirst err

/-- PPS_IN_EDGE. -/
def execPpsInEdge (quarter : Fin 4) (s : State) : Host.Outcome State Fault Refusal := s.runX (fun d => d.ppsEdge quarter)

/-- PPS_LOSS: no accepted edge for 2 s (R410). -/
def execPpsLoss (s : State) : Host.Outcome State Fault Refusal :=
  s.runX (fun d =>
    let d := d.set .time_status_pps_ok 0 0
    if d.tstate = tsGRANDMASTER then (d.raise .TIME_PPS_LOST d.pathDevice).toState tsHOLDOVER else d)

/-- PPS_OUT_EDGE: a pulse of pps_width_ms (R410). -/
def execPpsOutEdge (s : State) : Host.Outcome State Fault Refusal :=
  s.run (fun d => if d.flag .time_ctrl_pps_out_en then d.emit (.pin "PPS_OUT" (max 1 (d.get .time_pps_pps_width_ms))) else d)

/-- CLK10M_LOSS (R411). -/
def execClk10mLoss (s : State) : Host.Outcome State Fault Refusal :=
  s.run (fun d =>
    if d.flag .h_ref_ext then
      (d.setMany [(.h_ref_ext, 0, 0), (.time_status_ref_lost, 0, 1)]).raise .TIME_REF_LOST d.pathDevice
    else d)

/-! ### Triggers (R413) -/

/-- The level of trigger output `k`, driven active or idle. -/
def Dev.trigPin (d : Dev) (k : Nat) (on : Bool) : Dev :=
  (d.set .h_trig_on k (b2n on)).emit (.pin ("TRIG_OUT" ++ toString k) (b2n (on != d.flag .time_trig_ctrl_polarity k)))

/-- The index of the first pulse at least 100 ns ahead (R413). -/
def Dev.trigFirst (d : Dev) (k : Nat) : Nat :=
  let t := d.fabricNs + 100
  let st := d.get .time_trig_start_start_ns k
  let per := d.get .time_trig_period_period_ns k
  if t ≤ st ∨ per = 0 then 0 else cdiv (t - st) per

/-- A trigger is armed or refused (R413): false where it is refused. -/
def Dev.trigArm (d : Dev) (k : Nat) : Dev × Bool :=
  let w := d.get .time_trig_period_width_ns k
  let per := d.get .time_trig_period_period_ns k
  if w < 10 ∨ (per ≠ 0 ∧ (per < 100 ∨ per ≤ w)) then
    ((d.set .time_trig_ctrl_enable k 0).raise .TIME_TRIG_REFUSED (d.pathDevice ucTIME_IO k), false)
  else
    let late := decide (d.get .time_trig_start_start_ns k < d.fabricNs + 100)
    let d := d.setMany [(.time_trig_ctrl_enable, k, 1), (.h_trig_next, k, d.trigFirst k),
      (.time_trig_ctrl_remaining, k, d.get .time_trig_ctrl_count k)]
    (if late then d.set .time_trig_ctrl_late k 1 else d, true)

/-- A trigger is disabled: a pulse in progress ends at once (R413). -/
def Dev.trigStop (d : Dev) (k : Nat) : Dev :=
  let d := if d.flag .h_trig_on k then d.trigPin k false else d
  d.set .time_trig_ctrl_enable k 0

/-- A write of TIME_TRIG_CTRL (R413). -/
def Dev.trigCtrlWrite (d : Dev) (k v : Nat) (bad : List Nat) : Dev :=
  let was := d.flag .time_trig_ctrl_enable k
  let d := d.writeFields rowTIME_TRIG_CTRL k v (0 :: bad)
  if bit v 0 then (if was then d else (d.trigArm k).1) else if was then d.trigStop k else d

/-- TRIG_CTRL_WRITE. -/
def execTrigCtrlWrite (m : Mark) (k : Fin 4) (v : Word) (s : State) : Host.Outcome State Fault Refusal :=
  s.run (fun d => d.hostWrite m rowTIME_TRIG_CTRL k v.toNat (fun _ v bad d => d.trigCtrlWrite k v bad))

/-- TRIG_EDGE: a pulse of output `k` ends, or the next one begins; those passed over count and are not sent (R413). -/
def Dev.trigEdge (d : Dev) (k : Nat) : Dev :=
  if !d.flag .time_trig_ctrl_enable k then d
  else if d.flag .h_trig_on k then d.trigPin k false
  else
    let per := d.get .time_trig_period_period_ns k
    let next := d.get .h_trig_next k
    let j := if per = 0 then next else max next ((d.fabricNs - d.get .time_trig_start_start_ns k) / per)
    let used := j - next + 1
    let cnt := d.get .time_trig_ctrl_count k
    let left := d.get .time_trig_ctrl_remaining k
    if per = 0 ∧ 0 < next then d
    else if cnt ≠ 0 ∧ left < used then d.set .time_trig_ctrl_remaining k 0
    else
      let d := if cnt = 0 then d else d.set .time_trig_ctrl_remaining k (left - used)
      (d.set .h_trig_next k (j + 1)).trigPin k true

/-- TRIG_EDGE. -/
def execTrigEdge (k : Fin 4) (s : State) : Host.Outcome State Fault Refusal := s.run (fun d => d.trigEdge k)

/-! ### Captures (R414) -/

/-- The captures an input holds. -/
def Dev.cap (d : Dev) (c : Nat) : List (Nat × Bool) := d.caps.get c []

/-- An edge on capture input `c` (R414). -/
def Dev.capEdge (d : Dev) (c : Nat) (falling : Bool) (quarter : Nat) : Dev :=
  if !d.flag .time_cap_info_enable c || !d.bitOf .time_cap_info_edge_sel c (b2n falling) then d
  else
    let t := d.fabric32 / 2 ^ 30 + quarter
    let last := d.get .h_cap_last c
    if last ≠ 0 ∧ t + 1 < last + 40 ∧ last ≤ t + 1 then d
    else
      let d := d.set .h_cap_last c (t + 1)
      if (d.cap c).length ≥ 16 then
        if d.flag .time_cap_info_overflow c then d
        else (d.set .time_cap_info_overflow c 1).raise .TIME_CAP_OVERFLOW (d.pathDevice ucTIME_IO (4 + c))
      else { d with caps := d.caps.set c [] (d.cap c ++ [(t, falling)]) }

/-- CAP_EDGE. -/
def execCapEdge (c : Fin 4) (falling : Bool) (quarter : Fin 4) (s : State) : Host.Outcome State Fault Refusal :=
  s.run (fun d => d.capEdge c falling quarter)

/-- The head of a capture FIFO is read and removed; 0 from an empty one (R426). -/
def Dev.capPop (d : Dev) (c : Nat) : Dev × Nat :=
  match d.cap c with
  | [] => (d, 0)
  | e :: rest => ({ d with caps := d.caps.set c [] rest }, e.1 / 4 % 2 ^ 64)

/-- CAP_POP_READ (R426). -/
def execCapPopRead (m : Mark) (c : Fin 4) (s : State) : Host.Outcome State Fault Refusal :=
  s.run (fun d => d.hostRead m rowTIME_CAP_NS c (fun d => d.capPop c))

/-! ### Registers of fabric time (R421 to R423) -/

/-- A read of TIME_NOW_NS latches the fraction and the local counter (R421). -/
def Dev.timeNow (d : Dev) : Dev × Nat :=
  (d.setMany [(.time_now_frac_now_frac, 0, d.fabric32 % 2 ^ 32), (.time_local_local, 0, d.localNs)], d.fabricNs)

/-- TIME_NOW_READ. -/
def execTimeNowRead (m : Mark) (s : State) : Host.Outcome State Fault Refusal :=
  s.run (fun d => d.hostRead m rowTIME_NOW_NS 0 Dev.timeNow)

/-- Whether writes of the offset are accepted (R423). -/
def Dev.offsetOpen (d : Dev) : Bool := d.tstate == tsFREE || d.tstate == tsGRANDMASTER

/-- A discarded write (R423). -/
def Dev.setBusy (d : Dev) : Dev := d.raise .TIME_SET_BUSY d.pathDevice

/-- A write of TIME_OFFSET_NS: a step, with the actions it passes over (R412, R423). -/
def Dev.offsetWrite (d : Dev) (v : Nat) : Dev :=
  if !d.offsetOpen then d.setBusy
  else
    let frac := if d.flag .h_frac_valid then d.get .h_frac_stage else d.get .time_offset_frac_offset_frac
    let x := sgn 96 ((v * 2 ^ 32 + frac) + 2 ^ 96 - d.offset32)
    d.afterStep ((d.set .h_frac_valid 0 0).timeStep x [])

/-- TIME_OFFSET_NS_WRITE. -/
def execTimeOffsetNsWrite (m : Mark) (v : Word) (s : State) : Host.Outcome State Fault Refusal :=
  s.run (fun d => d.hostWrite m rowTIME_OFFSET_NS 0 v.toNat (fun _ v _ d => d.offsetWrite v))

/-- A write of TIME_OFFSET_FRAC is staged (R423). -/
def Dev.fracWrite (d : Dev) (v : Nat) : Dev :=
  if d.offsetOpen then d.setMany [(.h_frac_stage, 0, slice v 0 32), (.h_frac_valid, 0, 1)] else d.setBusy

/-- TIME_OFFSET_FRAC_WRITE. -/
def execTimeOffsetFracWrite (m : Mark) (v : Word) (s : State) : Host.Outcome State Fault Refusal :=
  s.run (fun d => d.hostWrite m rowTIME_OFFSET_FRAC 0 v.toNat (fun _ v _ d => d.fracWrite v))

/-- A write of TIME_RATE (R398, R399, R423). -/
def Dev.rateWrite (d : Dev) (v : Nat) : Dev := if d.tstate = tsFREE then d.putRate (sgn 48 v) [] else d.setBusy

/-- TIME_RATE_WRITE. -/
def execTimeRateWrite (m : Mark) (v : Word) (s : State) : Host.Outcome State Fault Refusal :=
  s.run (fun d => d.hostWrite m rowTIME_RATE 0 v.toNat (fun _ v _ d => d.rateWrite v))

end Sys2Proof.Machine
end

