-- ==== Sys2Proof/Machine/Read.lean ====
section
/-! DEFINITION. What a read of a register answers: stored fields, and those computed at each read. -/

namespace Sys2Proof.Machine

/-! ### Fields computed at each read -/

/-- The number of indexes in `[lo, lo + n)` that satisfy `p`. -/
def countFrom (lo n : Nat) (p : Nat → Bool) : Nat := countBelow n (fun i => p (lo + i))

/-- Fields of the always-on block, the time unit, counters, records and DMA (R412, R426, R486, R503, R517, R518, R542). -/
def Dev.liveBase (d : Dev) (fu : Fuses) (f : Fld) (j : Nat) : Option Nat :=
  match f with
  | .sec_fuse_svn_fused => some fu.svn
  | .sec_fuse_lms_revoked => some fu.lmsRevoked
  | .sec_fuse_ecdsa_revoked => some fu.ecdsaRevoked
  | .sec_fuse_lms_keys => some fu.lmsKeys
  | .sec_fuse_ecdsa_keys => some fu.ecdsaKeys
  | .time_now_ns_now_ns => some d.fabricNs
  | .time_status_gm_id => some d.gmId
  | .time_cap_info_level => some (d.cap j).length
  | .time_cap_info_head_edge => some (match (d.cap j).head? with | some e => b2n e.2 | none => 0)
  | .time_cap_info_head_quarter => some (match (d.cap j).head? with | some e => e.1 % 4 | none => 0)
  | .time_cap_ns_cap_ns => some (match (d.cap j).head? with | some e => e.1 / 4 | none => 0)
  | .perf_cycle_cycles => some (d.cycleOf j)
  | .ras_status_keep_used => some d.keep.length
  | .ras_rec_word =>
    let i := j / 8
    let r := if i < 3840 then d.bank.getOpt i else d.keep[i - 3840]?
    some (match r with | some r => r.words.getD (j % 8) 0 | none => 0)
  | .dma_status_halted => some (maskOf 32 (fun c => d.get .dma_ch_status_state c == 3))
  | .dma_status_busy => some (maskOf 32 (fun c => d.get .dma_ch_status_state c != 0))
  | _ => none

/-- Fields of the switch core and the tables (R202, R203, R205, R229, R232, R233, R256, R259). -/
def Dev.liveSwitch (d : Dev) (f : Fld) (j : Nat) : Option Nat :=
  match f with
  | .xbar_pool_status_committed => some d.committed
  | .xbar_pool_status_cells_free => some (786432 - (d.frames.map (·.cells)).sum)
  | .xbar_int_used_used_int => some (d.inputUsed (512 + j))
  | .xbar_umbra_umbra => some (maskOf 64 (fun i => d.fenced (64 * j + i)))
  | .xbar_in_used_in_used => some (d.inUsed (j / 8) (j % 8))
  | .xbar_out_used_out_used => some (d.outUsed (j / 8) (j % 8))
  | .xbar_port_status_withholding => some (maskOf 8 (fun c => decide (d.get .h_withheld (8 * j + c) < d.deficit j c)))
  | .xbar_port_status_over_out => some (maskOf 8 (fun c => decide (d.get .xbar_eq_eq (8 * j + c) < d.outUsed j c)))
  | .xbar_port_status_over_in => some (maskOf 8 (fun c => decide (d.get .xbar_iq_iq (8 * j + c) < d.inUsed j c)))
  | .sched_pol_tokens_tp_te => some ((d.polTokens j).1 / 8000)
  | .sched_pol_tokens_tc => some ((d.polTokens j).2 / 8000)
  | .sched_gate_status_gate_state => some (d.gateView j).2
  | .sched_gate_status_entry => some (d.gateView j).1
  | .sched_gate_data_gates => some (gateByte (d.gate j (1 - d.activeList j) (d.get .sched_gate_index_index j)))
  | .sched_gate_data_interval_ns => some (gateNs (d.gate j (1 - d.activeList j) (d.get .sched_gate_index_index j)))
  | .fwd_status_locks_held => some (countBelow 64 d.slotHeld)
  | .fwd_status_overflow_used => some ((d.validEntries.filter (fun e => decide (4 * nBuckets ≤ e))).length)
  | .fwd_status_entries_valid => some d.entriesValid
  | .fwd_learn_learn_blocked => some (b2n (d.learnBlocked j))
  | .fwd_learn_over_limit => some (b2n (decide (d.get .fwd_learn_limit j < d.learnCount j)))
  | .fwd_learn_count => some (d.learnCount j)
  | .mcast_status_groups_valid => some ((d.groups.entries.filter (fun e => e.1 % 16 == 8 && bit e.2 63)).length)
  | _ => none

/-- Fields of the collective engine and the combining units (R290, R291, R319, R321). -/
def Dev.liveColl (d : Dev) (f : Fld) (j : Nat) : Option Nat :=
  let cs := d.loadedCtxs.map (·.2.hdr)
  let ofCtx (x : Nat) (g : Ctx → Nat) : Option Nat := some (match d.ctx x with | some c => g c | none => 0)
  let ofStep (x : Nat) (g : Ctx → Step → Nat) : Option Nat :=
    some (match d.ctx x with | some c => (match c.run with | some r => g c r | none => 0) | none => 0)
  let sel := d.get .coll_map_sel_ctx
  match f with
  | .coll_admit_0_chunks_reserved => some d.slotSum
  | .coll_admit_0_sram_reserved => some ((d.loadedCtxs.map (fun c => slotsOf c.2.hdr * footprint c.2.hdr c.2.map)).sum)
  | .coll_admit_1_contexts_loaded => some cs.length
  | .coll_admit_1_map_reserved_k => some (cdiv d.mapSum 1024)
  | .coll_admit_1_intake_reserved => some ((cs.map hxIntake).sum)
  | .coll_undeliv_undeliv => ofStep sel (fun _ r => slice r.undeliv (64 * j) 64)
  | .coll_missing_missing => ofStep sel (fun c r => slice (if r.live && r.ending == 0 then c.missingOf r else r.missing) (64 * j) 64)
  | .coll_ctx_state_armed_steps => ofCtx j (·.armed)
  | .coll_ctx_state_step => ofCtx j (·.step)
  | .coll_ctx_state_last_status => ofCtx j (·.last)
  | .coll_ctx_state_state => ofCtx j (·.state)
  | .coll_ctx_progress_window_base => ofStep j (fun _ r => r.base)
  | .coll_ctx_progress_chunks_done => ofStep j (fun _ r => r.done)
  | .coll_ctx_progress_chunks_released => ofStep j (fun _ r => r.released)
  | .coll_ctx_hdr_hdr => ofCtx (j / 4) (fun c => c.hdr.getD (j % 4) 0)
  | .cmb_status_over_reserved => some (b2n (decide (d.rateLimit * 1000000000 < d.intakeSum)))
  | .cmb_status_spares_in_use => some (countBelow 128 (fun u => d.flag .cmb_unit_status_spare_in_use u))
  | .cmb_status_units_fenced => some (countBelow 128 (fun u => d.flag .cmb_unit_status_fenced u))
  | .cmb_status_rate_limit_gbps => some d.rateLimit
  | .cmb_shadow_res_reserve_used => some ((d.shadows.map (·.bytes)).sum)
  | .cmb_unit_status_active_slots => some (d.unitSlots j)
  | _ => none

/-- Fields of the weighted-reduction array and fabric memory (R348 to R350, R393, R395, R396). -/
def Dev.liveMem (d : Dev) (f : Fld) (j : Nat) : Option Nat :=
  let ofDesc (n : Nat) (g : Desc → Nat) : Option Nat := some (match d.desc n with | some x => g x | none => 0)
  match f with
  | .wra_status_over_reserved => some (b2n (decide (d.cycleLimit < d.cycleSum)))
  | .wra_status_spares_in_use => some (countBelow 4 (fun t => d.flag .wra_tile_status_spare_in_use t))
  | .wra_status_tiles_fenced => some (countBelow 4 (fun t => d.flag .wra_tile_status_fenced t))
  | .wra_rate_cycle_limit => some d.cycleLimit
  | .wra_rate_cycle_reserved => some d.cycleSum
  | .wra_tile_status_queued_passes => some (d.tileQueued j)
  | .wra_desc_state_hold_count => some (d.descHolds j)
  | .wra_desc_state_inflight => some (d.descInflight j)
  | .wra_desc_state_kind => ofDesc j (fun x => dxKind x.words)
  | .wra_desc_state_state => ofDesc j (·.state)
  | .fmem_status_inflight => some d.slotsInflight
  | .fmem_map_status_busy => some (b2n d.memBusy)
  | .fmem_status_frames_mapped => some (countBelow 409 (fun g => d.fstate g != 0))
  | .fmem_win_state_inflight => some (d.frameInflight j)
  | .fmem_win_state_dirty => some (ivCount (d.dirty j))
  | .memc_ch_ok_ok => some (maskOf 64 (fun k => d.flag .memc_ch_status_trained k && !d.flag .memc_ch_status_failed k))
  | _ => none

/-- Fields of engines, lasers, express lanes and the host link (R93, R101, R103, R135, R139, R141, R557). -/
def Dev.liveOptic (d : Dev) (f : Fld) (j : Nat) : Option Nat :=
  match f with
  | .opt_eng_status_rings_fault => some (countFrom (640 * j) 640 (fun k => d.get .opt_ring_status_state k == rsFAULT))
  | .opt_eng_status_rings_locked => some (countFrom (640 * j) 640 (fun k => d.get .opt_ring_status_state k == 4))
  | .opt_lane_map_rx_spare => some (d.rxSpare j)
  | .opt_lane_map_tx_spare => some (d.txSpare j)
  | .opt_cw_count_rx_cw => some (d.rxCw j)
  | .opt_cw_count_tx_cw => some (d.txCw j)
  | .las_eng_status_seq_running => some (d.octRunning j)
  | .las_eng_status_octet_lit => some (maskOf 8 (fun i => d.flag .h_oct_lit (8 * j + i)))
  | .las_dfb_status_active => some (b2n (d.activeB (j / 10) (j % 10 / 2) == j % 2))
  | .xpr_status_eng_adds => some (countBelow 64 (fun c => d.circBusy c && d.circAdd c / 64 == j))
  | .xpr_status_active => some (countBelow 64 d.circBusy)
  | .xpr_seg_use_per_slot =>
    some (countBelow 64 (fun c => d.circBusy c && bit (d.get .xpr_circ_status_segments c) (j / 5) && d.circSlot c == j % 5))
  | .kcl_watch_lines_watched =>
    some (countBelow 512 (fun q => d.qEn q && !d.flag .csq_q_cfg_loc q) + countBelow 512 (fun q => d.qEn q && !d.flag .csq_q_cfg_cr_loc q)
      + b2n (d.flag .perf_snap_ctrl_dump_en) + b2n (d.flag .ras_ctrl_ring_en))
  | .kcl_watch_reads_outstanding => some ((d.reads.filter (·.ext)).length)
  | _ => none

/-- A field computed at each read. -/
def Dev.live (d : Dev) (fu : Fuses) (f : Fld) (j : Nat) : Nat :=
  ((((d.liveBase fu f j).or (d.liveSwitch f j)).or (d.liveColl f j)).or (d.liveMem f j)).or (d.liveOptic f j) |>.getD 0

/-- The 64 bits a read of copy `i` of a register answers; fields that are written only, and reserved bits, read 0 (R9, R11). -/
def Dev.readReg (d : Dev) (fu : Fuses) (r : RegRow) (i : Nat) : Nat :=
  r.fields.foldl (fun a f =>
    if f.acc == .wo then a
    else (List.range f.nsub).foldl (fun a k =>
      let j := i * f.nsub + k
      let v := if f.live then d.live fu f.fld j else d.get f.fld j
      a + v % 2 ^ f.w * 2 ^ (f.lo + f.stride * k)) a) 0

/-- A read of copy `i` of a register with what the read itself changes (R421, R426). -/
def Dev.readEff (d : Dev) (fu : Fuses) (r : RegRow) (i : Nat) : Dev × Nat :=
  if r.base = rowTIME_NOW_NS.base then d.timeNow
  else if r.base = rowTIME_CAP_NS.base then d.capPop i
  else (d, d.readReg fu r i)

end Sys2Proof.Machine
end

