-- ==== Sys2Proof/Machine/Programs.lean ====
section
/-! DEFINITION. The commands of chapter 16: one Drivex instruction of the entry that runs in a queue (R454 to R472), and the ends
of the reads and multicast commands that operations wait for (R198, R463, R465, R469). -/

namespace Sys2Proof.Machine

/-! ### What the groups share (R455, R456, R458) -/

/-- The block an instruction reads or writes: a register of it, and the copy the object stands for. -/
structure Target' where
  row : RegRow
  ix : Nat

/-- The instruction goes on while its block is on; else it fails with the group's `code`, or the flow code where that is 0
(R30, R456). -/
def Dev.drvGate (d : Dev) (q w i code : Nat) (wr : Bool) (t : Target') (k : Dev → Dev) : Dev :=
  match d.checkPower (reqQUEUE q) (b2n wr) t.row t.ix with
  | some d' => if code = 0 then d'.drvFailFlow q w i fcDOMAIN_OFF else d'.drvFail q w i code
  | none => k d

/-- An instruction of a group: issued, its object checked, its block on; `k` is told the word, its index, the entry and the
object. -/
def Dev.dxRun (d : Dev) (q op code : Nat) (wr : Bool) (t : Nat → Nat → Target') (k : Nat → Nat → Entry → Nat → Dev → Dev) : Dev :=
  d.drvIssue q op (fun w i e d => d.drvObj q w i e (fun v d => d.drvGate q w i code wr (t w v) (k w i e v)))

/-- A value written to a register under R13; a command register takes nothing where a field is refused (R455). -/
def Dev.drvWrite (d : Dev) (q : Nat) (t : Target') (v : Nat) (f : List Nat → Dev → Dev × Nat) : Dev × Nat :=
  let (d, bad) := d.checkEncoding (reqQUEUE q) t.row t.ix v
  if t.row.isCommand ∧ bad ≠ [] then (d, 0) else f bad d

/-- An instruction that writes a register: what the write does, and the code of its failure. -/
def Dev.dxWrite (d : Dev) (q op code : Nat) (t : Nat → Nat → Target') (val : Nat → Entry → Nat)
    (f : Nat → Nat → List Nat → Dev → Dev × Nat) : Dev :=
  d.dxRun q op code true t (fun w i e v d =>
    let x := val w e
    let r := d.drvWrite q (t w v) x (f v x)
    r.1.drvResult q w i r.2)

/-- An instruction that reads a register into d. -/
def Dev.dxRead (d : Dev) (q op code : Nat) (t : Nat → Nat → Target') : Dev :=
  d.dxRun q op code false t (fun w i _ v d => d.drvDone q w i (d.readReg {} (t w v).row (t w v).ix))

/-- An operation is started, unless 16 of the entry have not ended (R458); `k` answers its result where it ends at once. -/
def Dev.drvOp (d : Dev) (q w i : Nat) (e : Entry) (key : OpKey) (k : Dev → Dev × Option Nat) : Dev :=
  if d.opsOpen q e.run ≥ 16 then d.drvFailFlow q w i fcOP_LIMIT
  else
    let r := k d
    let op : Op := { queue := q, entry := e.run, start := i, group := slice w 60 4, key := key, res := r.2 }
    ({ r.1 with ops := r.1.ops ++ [op] } : Dev).drvDone q w i

/-- A result that ends an operation only where it is a failure. -/
def failOnly (r : Nat) : Option Nat := if r = 0 then none else some r

/-! ### The flow group (R460 to R462) -/

/-- END. -/
def execDxEnd (q : Fin 512) (s : State) : Host.Outcome State Fault Refusal := s.runX (fun d => d.dxEnd q)
/-- NOP. -/
def execDxNop (q : Fin 512) (s : State) : Host.Outcome State Fault Refusal := s.runX (fun d => d.dxNop q)
/-- SET. -/
def execDxSet (q : Fin 512) (s : State) : Host.Outcome State Fault Refusal := s.runX (fun d => d.dxSet q)
/-- SETHI. -/
def execDxSethi (q : Fin 512) (s : State) : Host.Outcome State Fault Refusal := s.runX (fun d => d.dxSethi q)
/-- ADD. -/
def execDxAdd (q : Fin 512) (s : State) : Host.Outcome State Fault Refusal := s.runX (fun d => d.dxAdd q)
/-- AND. -/
def execDxAnd (q : Fin 512) (s : State) : Host.Outcome State Fault Refusal := s.runX (fun d => d.dxAnd q)
/-- OR. -/
def execDxOr (q : Fin 512) (s : State) : Host.Outcome State Fault Refusal := s.runX (fun d => d.dxOr q)
/-- SHIFT. -/
def execDxShift (q : Fin 512) (s : State) : Host.Outcome State Fault Refusal := s.runX (fun d => d.dxShift q)
/-- BR. -/
def execDxBr (q : Fin 512) (s : State) : Host.Outcome State Fault Refusal := s.runX (fun d => d.dxBr q)
/-- LOOP. -/
def execDxLoop (q : Fin 512) (s : State) : Host.Outcome State Fault Refusal := s.runX (fun d => d.dxLoop q)
/-- WAIT in mode TOKEN. -/
def execDxWaitToken (q : Fin 512) (s : State) : Host.Outcome State Fault Refusal := s.runX (fun d => d.dxWait q 0)
/-- WAIT in mode TIME. -/
def execDxWaitTime (q : Fin 512) (s : State) : Host.Outcome State Fault Refusal := s.runX (fun d => d.dxWait q 1)
/-- WAIT in mode DONE. -/
def execDxWaitDone (q : Fin 512) (s : State) : Host.Outcome State Fault Refusal := s.runX (fun d => d.dxWait q 2)
/-- WAIT_SATISFIED. -/
def execDxWaitSatisfied (q : Fin 512) (s : State) : Host.Outcome State Fault Refusal := s.runX (fun d => d.waitDone q)
/-- WAIT_LIMIT_EXPIRY. -/
def execDxWaitLimitExpiry (q : Fin 512) (s : State) : Host.Outcome State Fault Refusal := s.runX (fun d => d.waitLimit q)
/-- SIGNAL. -/
def execDxSignal (q : Fin 512) (s : State) : Host.Outcome State Fault Refusal := s.runX (fun d => d.dxSignal q)

/-! ### TBL (R463) -/

/-- The lock slot of an instruction. -/
def wSlot (w : Nat) : Nat := slice w 0 6

/-- The request register of the slot. -/
def tLock (w _v : Nat) : Target' := { row := rowFWD_LOCK_REQ, ix := wSlot w }

/-- TBL.ACQ. -/
def Dev.dxTblAcq (d : Dev) (q : Nat) : Dev :=
  d.dxRun q 0x10 0 true tLock (fun w i _ v d => let r := d.lockAcquire (wSlot w) v; r.1.drvResult q w i r.2)
def execDxTblAcq (q : Fin 512) (s : State) : Host.Outcome State Fault Refusal := s.runX (fun d => d.dxTblAcq q)

/-- TBL.STAGE. -/
def Dev.dxTblStage (d : Dev) (q : Nat) : Dev :=
  d.dxRun q 0x11 0 true tLock (fun w i e v d =>
    if d.slotHeld (wSlot w) then (d.set .fwd_lock_stage_stage (8 * wSlot w + v) (e.reg (wA w))).drvDone q w i
    else d.drvFail q w i lkLOCK_LOST)
def execDxTblStage (q : Fin 512) (s : State) : Host.Outcome State Fault Refusal := s.runX (fun d => d.dxTblStage q)

/-- TBL.GET. -/
def Dev.dxTblGet (d : Dev) (q : Nat) : Dev :=
  d.dxRun q 0x12 0 false tLock (fun w i _ v d =>
    if d.slotHeld (wSlot w) then d.drvDone q w i (d.staged (wSlot w) v) else d.drvFail q w i lkLOCK_LOST)
def execDxTblGet (q : Fin 512) (s : State) : Host.Outcome State Fault Refusal := s.runX (fun d => d.dxTblGet q)

/-- The result of the first failing slot of a commit, COMMIT_SET where each would do but there are too many (R194). -/
def Dev.commitCode (d : Dev) (ks : List Nat) : Nat := ((ks.map (d.slotFails ks)).find? (· != lkOK)).getD lkCOMMIT_SET

/-- TBL.COMMIT. -/
def Dev.dxTblCommit (d : Dev) (q : Nat) : Dev :=
  d.dxRun q 0x13 0 true (fun _ _ => { row := rowFWD_COMMIT, ix := 0 }) (fun w i e _ d =>
    let ks := bitsOf 64 (e.reg (wA w))
    let r := d.lockCommit ks
    if r.2 then r.1.drvDone q w i else r.1.drvFail q w i (d.commitCode ks))
def execDxTblCommit (q : Fin 512) (s : State) : Host.Outcome State Fault Refusal := s.runX (fun d => d.dxTblCommit q)

/-- TBL.REL. -/
def Dev.dxTblRel (d : Dev) (q : Nat) : Dev :=
  d.dxRun q 0x14 0 true tLock (fun w i _ _ d => (d.lockRelease (wSlot w)).drvDone q w i)
def execDxTblRel (q : Fin 512) (s : State) : Host.Outcome State Fault Refusal := s.runX (fun d => d.dxTblRel q)

/-- TBL.LIMIT. -/
def Dev.dxTblLimit (d : Dev) (q : Nat) : Dev :=
  d.dxWrite q 0x15 0 (fun _ v => { row := rowFWD_LEARN, ix := v }) (fun w e => slice (e.reg (wA w)) 0 17)
    (fun v x bad d => (d.learnLimitWrite v x bad, 0))
def execDxTblLimit (q : Fin 512) (s : State) : Host.Outcome State Fault Refusal := s.runX (fun d => d.dxTblLimit q)

/-- MC.WRITE: the entry is read over the KCL. -/
def Dev.dxMcWrite (d : Dev) (q : Nat) : Dev :=
  d.dxRun q 0x16 0 true (fun _ _ => { row := rowMCAST_CMD, ix := 0 }) (fun w i e v d =>
    d.drvOp q w i e (.mcWrite v) (fun d => (d.kread (.mcEntry q v) (reqLOAD (d.qSeq q)) (e.reg (wA w)) 128, none)))
def execDxMcWrite (q : Fin 512) (s : State) : Host.Outcome State Fault Refusal := s.runX (fun d => d.dxMcWrite q)

/-- The oldest operation of queue `q` that waits for `key` changes. -/
def Dev.opFirst (d : Dev) (q : Nat) (key : OpKey) (f : Op → Op) : Dev :=
  let rec go : List Op → List Op
    | [] => []
    | o :: r => if o.queue = q ∧ o.key = key ∧ o.res = none then f o :: r else o :: go r
  { d with ops := go d.ops }

/-- The read of a group entry is answered: WRITE runs on the group, unless a multicast command runs (R198, R463). -/
def Dev.mcEntryDone (d : Dev) (q g : Nat) (entry : Option (List Nat)) : Dev :=
  match d.takeRead (.mcEntry q g) with
  | none => d
  | some d =>
    match entry with
    | none => d.opFirst q (.mcWrite g) (fun o => { o with res := some 20 })
    | some ws =>
      let r := d.mcIssue 2 g ws
      if r.2 then r.1.opFirst q (.mcWrite g) (fun o => { o with key := .mcRun g })
      else r.1.opFirst q (.mcWrite g) (fun o => { o with res := some 19 })

/-- MC_WRITE_READ_DONE. -/
def execMcWriteReadDone (q : Fin 512) (group : Fin 65536) (entry : Option (Vector Word 16)) (s : State) :
    Host.Outcome State Fault Refusal :=
  s.runX (fun d => d.mcEntryDone q group (entry.map (fun v => v.toList.map (·.toNat))))

/-- The running multicast command completes (R198, R205). -/
def Dev.mcDone (d : Dev) : Dev :=
  if !d.flag .mcast_cmd_status_busy then d
  else
    let g := d.get .h_mc_group
    let fin (d : Dev) (r : Nat) : Dev :=
      (({ d with mcWords := [] } : Dev).setMany [(.mcast_cmd_status_busy, 0, 0), (.mcast_cmd_status_last_group, 0, g),
        (.mcast_cmd_status_result, 0, r)]).opEnd (.mcRun g) (if r = mcOK then 0 else 16 + r)
    if d.get .h_mc_op = 1 then
      fin (d.setMany ((List.range 16).map (fun w => (.mcast_stage_stage, w,
        d.groupWord g w + (if w = 8 then d.groupHolds g else 0))))) mcOK
    else if d.groupHolds g ≠ 0 then fin d mcHELD
    else if !groupEncodes d.mcWords then fin d mcENCODING
    else fin (d.installGroup g d.mcWords) mcOK

/-- MCAST_CMD_DONE. -/
def execMcastCmdDone (s : State) : Host.Outcome State Fault Refusal := s.runX Dev.mcDone

/-! ### COLL (R464) -/

/-- The state register of a context. -/
def tCtx (_w v : Nat) : Target' := { row := rowCOLL_CTX_STATE, ix := v }

/-- COLL.LOAD: the path is the sequencer's (R459). -/
def Dev.dxCollLoad (d : Dev) (q : Nat) : Dev :=
  d.dxRun q 0x20 13 true tCtx (fun w i e v d =>
    d.drvOp q w i e (.collLoad (d.qSeq q)) (fun d =>
      let r := d.collLoad (d.qSeq q) v (e.reg (wA w)) (d.qPriv q) (d.qMap q)
      (r.1, if r.2 then none else some 1)))
def execDxCollLoad (q : Fin 512) (s : State) : Host.Outcome State Fault Refusal := s.runX (fun d => d.dxCollLoad q)

/-- COLL.UNLOAD. -/
def Dev.dxCollUnload (d : Dev) (q : Nat) : Dev :=
  d.dxRun q 0x21 13 true tCtx (fun w i e v d =>
    d.drvOp q w i e (.collUnload v) (fun d => let r := d.collUnload v; (r.1, some r.2)))
def execDxCollUnload (q : Fin 512) (s : State) : Host.Outcome State Fault Refusal := s.runX (fun d => d.dxCollUnload q)

/-- COLL.LAUNCH. -/
def Dev.dxCollLaunch (d : Dev) (q : Nat) : Dev :=
  d.dxRun q 0x22 13 true tCtx (fun w i e v d =>
    let w0 := e.words.getD 0 0
    let l : Launch := { queue := q, token := entSignalToken w0, signal := entSignalEn w0 }
    let r := d.launchSteps v (slice w 14 16) l
    if r.2 = 0 then (r.1.onRun q (fun e => { e with launched := true })).drvDone q w i else r.1.drvFail q w i r.2)
def execDxCollLaunch (q : Fin 512) (s : State) : Host.Outcome State Fault Refusal := s.runX (fun d => d.dxCollLaunch q)

/-- COLL.ABORT. -/
def Dev.dxCollAbort (d : Dev) (q : Nat) : Dev :=
  d.dxRun q 0x23 13 true tCtx (fun w i _ v d => let r := d.collAbort v; r.1.drvResult q w i r.2)
def execDxCollAbort (q : Fin 512) (s : State) : Host.Outcome State Fault Refusal := s.runX (fun d => d.dxCollAbort q)

/-- COLL.STATE. -/
def Dev.dxCollState (d : Dev) (q : Nat) : Dev := d.dxRead q 0x24 13 tCtx
def execDxCollState (q : Fin 512) (s : State) : Host.Outcome State Fault Refusal := s.runX (fun d => d.dxCollState q)

/-- An instruction whose own checks name the domains its object needs (R328, R330). -/
def Dev.dxOpen (d : Dev) (q op : Nat) (k : Nat → Nat → Entry → Nat → Dev → Dev) : Dev :=
  d.drvIssue q op (fun w i e d => d.drvObj q w i e (fun v d => k w i e v d))

/-- WRA.LOAD: a GATHER_CMB descriptor loads while PD7 is off (R328). -/
def Dev.dxWraLoad (d : Dev) (q : Nat) : Dev :=
  d.dxOpen q 0x25 (fun w i e v d =>
    d.drvOp q w i e (.wraLoad (d.qSeq q)) (fun d =>
      let r := d.descLoad (d.qSeq q) v (e.reg (wA w)) (d.qPriv q) (d.qMap q)
      (r.1, if r.2 then none else some 33)))
def execDxWraLoad (q : Fin 512) (s : State) : Host.Outcome State Fault Refusal := s.runX (fun d => d.dxWraLoad q)

/-- WRA.UNLOAD. -/
def Dev.dxWraUnload (d : Dev) (q : Nat) : Dev :=
  d.dxOpen q 0x26 (fun w i e v d =>
    d.drvOp q w i e (.wraUnload v) (fun d =>
      let r := d.descUnload (d.qSeq q) v
      (r.1, r.2.map (fun c => if c = 0 then 0 else 32 + c))))
def execDxWraUnload (q : Fin 512) (s : State) : Host.Outcome State Fault Refusal := s.runX (fun d => d.dxWraUnload q)

/-! ### PORT (R465) -/

/-- PORT.CMD. -/
def Dev.dxPortCmd (d : Dev) (q : Nat) : Dev :=
  d.dxWrite q 0x30 0 (fun _ v => { row := rowPORT_CMD, ix := v }) (fun w _ => slice w 9 4) (fun v x _ d => d.portCmd v x)
def execDxPortCmd (q : Fin 512) (s : State) : Host.Outcome State Fault Refusal := s.runX (fun d => d.dxPortCmd q)

/-- PORT.CFG. -/
def Dev.dxPortCfg (d : Dev) (q : Nat) : Dev :=
  d.dxWrite q 0x31 0 (fun _ v => { row := rowPORT_CFG, ix := v }) (fun w e => e.reg (wA w))
    (fun v x bad d => d.portCfgWrite v x bad)
def execDxPortCfg (q : Fin 512) (s : State) : Host.Outcome State Fault Refusal := s.runX (fun d => d.dxPortCfg q)

/-- PORT.STENCIL: the entry is read over the KCL. -/
def Dev.dxPortStencil (d : Dev) (q : Nat) : Dev :=
  d.dxRun q 0x32 0 true (fun _ v => { row := rowPORT_STENCIL_0, ix := v }) (fun w i e v d =>
    d.drvOp q w i e (.stencil v) (fun d => (d.kread (.stencil q v) (reqLOAD (d.qSeq q)) (e.reg (wA w)) 32, none)))
def execDxPortStencil (q : Fin 512) (s : State) : Host.Outcome State Fault Refusal := s.runX (fun d => d.dxPortStencil q)

/-- The four words of a stencil entry are written in one step (R57, R63, R13). -/
def Dev.stencilInstall (d : Dev) (req n : Nat) (ws : List Nat) : Dev :=
  let d := (List.finRange 4).foldl (fun d k =>
    let v := ws.getD k.val 0
    let (d, bad) := d.checkEncoding req (stencilRow k) n v
    d.writeFields (stencilRow k) n v bad) d
  d.stencilWritten n

/-- The read of a stencil entry is answered. -/
def Dev.stencilDone (d : Dev) (q n : Nat) (entry : Option (List Nat)) : Dev :=
  match d.takeRead (.stencil q n) with
  | none => d
  | some d =>
    match entry with
    | none => d.opFirst q (.stencil n) (fun o => { o with res := some 6 })
    | some ws => (d.stencilInstall (reqQUEUE q) n ws).opFirst q (.stencil n) (fun o => { o with res := some 0 })

/-- PORT_STENCIL_READ_DONE. -/
def execPortStencilReadDone (q : Fin 512) (port : Fin 512) (entry : Option (Vector Word 4)) (s : State) :
    Host.Outcome State Fault Refusal :=
  s.runX (fun d => d.stencilDone q port (entry.map (fun v => v.toList.map (·.toNat))))

/-- The register PORT.READ selects. -/
def portReadRow (w v : Nat) : Target' :=
  { row := match slice w 9 4 with
      | 0 => rowPORT_STATUS | 1 => rowPORT_NBR_0 | 2 => rowPORT_NBR_1 | 3 => rowPORT_NBR_EXT | 4 => rowOPT_MARGIN_STATUS
      | _ => rowOPT_RX_POWER, ix := v }

/-- PORT.READ. -/
def Dev.dxPortRead (d : Dev) (q : Nat) : Dev := d.dxRead q 0x33 0 portReadRow
def execDxPortRead (q : Fin 512) (s : State) : Host.Outcome State Fault Refusal := s.runX (fun d => d.dxPortRead q)

/-! ### XPR and LANE (R466) -/

/-- XPR.CFG. -/
def Dev.dxXprCfg (d : Dev) (q : Nat) : Dev :=
  d.dxWrite q 0x40 8 (fun _ v => { row := rowXPR_CIRC_CFG, ix := v }) (fun w e => e.reg (wA w))
    (fun v x bad d => let r := d.xprCfgWrite v x bad; (r.1, if r.2 then 0 else 1))
def execDxXprCfg (q : Fin 512) (s : State) : Host.Outcome State Fault Refusal := s.runX (fun d => d.dxXprCfg q)

/-- XPR.WT. -/
def Dev.dxXprWt (d : Dev) (q : Nat) : Dev :=
  d.dxWrite q 0x41 8 (fun _ v => { row := rowXPR_CIRC_WEIGHT, ix := v }) (fun w e => e.reg (wA w))
    (fun v x bad d => let r := d.xprWeightWrite v x bad; (r.1, if r.2 then 0 else 1))
def execDxXprWt (q : Fin 512) (s : State) : Host.Outcome State Fault Refusal := s.runX (fun d => d.dxXprWt q)

/-- The command register of a circuit. -/
def tCirc (_w v : Nat) : Target' := { row := rowXPR_CIRC_CMD, ix := v }

/-- XPR.SETUP. -/
def Dev.dxXprSetup (d : Dev) (q : Nat) : Dev :=
  d.dxRun q 0x42 8 true tCirc (fun w i e v d =>
    d.drvOp q w i e (.xprSetup v) (fun d => (d.set .xpr_circ_act_time_act_time v (e.reg (wA w))).xprSetup v))
def execDxXprSetup (q : Fin 512) (s : State) : Host.Outcome State Fault Refusal := s.runX (fun d => d.dxXprSetup q)

/-- XPR.TEAR. -/
def Dev.dxXprTear (d : Dev) (q : Nat) : Dev :=
  d.dxRun q 0x43 8 true tCirc (fun w i e v d => d.drvOp q w i e (.xprTear v) (fun d => d.xprTeardown v))
def execDxXprTear (q : Fin 512) (s : State) : Host.Outcome State Fault Refusal := s.runX (fun d => d.dxXprTear q)

/-- XPR.REWEIGHT. -/
def Dev.dxXprReweight (d : Dev) (q : Nat) : Dev :=
  d.dxRun q 0x44 8 true tCirc (fun w i e v d => d.drvOp q w i e (.xprReweight v) (fun d => d.xprReweight v))
def execDxXprReweight (q : Fin 512) (s : State) : Host.Outcome State Fault Refusal := s.runX (fun d => d.dxXprReweight q)

/-- XPR.READ. -/
def Dev.dxXprRead (d : Dev) (q : Nat) : Dev := d.dxRead q 0x45 8 (fun _ v => { row := rowXPR_CIRC_STATUS, ix := v })
def execDxXprRead (q : Fin 512) (s : State) : Host.Outcome State Fault Refusal := s.runX (fun d => d.dxXprRead q)

/-- LANE.OCT. -/
def Dev.dxLaneOct (d : Dev) (q : Nat) : Dev :=
  d.dxWrite q 0x50 0 (fun _ v => { row := rowLAS_OCT_CMD, ix := v }) (fun w _ => slice w 6 3 * 16 + slice w 9 2)
    (fun v x _ d => d.octCmd v (slice x 4 3) (slice x 0 2))
def execDxLaneOct (q : Fin 512) (s : State) : Host.Outcome State Fault Refusal := s.runX (fun d => d.dxLaneOct q)

/-- LANE.NEXT: the lane fields, then the arms. -/
def Dev.dxLaneNext (d : Dev) (q : Nat) : Dev :=
  d.dxWrite q 0x51 0 (fun _ v => { row := rowOPT_LANE_NEXT, ix := v })
    (fun w e => slice (e.reg (wA w)) 0 31 + b2n (bit w 9) * 2 ^ 63 + b2n (bit w 10) * 2 ^ 62)
    (fun v x _ d => d.laneNextWrite v x)
def execDxLaneNext (q : Fin 512) (s : State) : Host.Outcome State Fault Refusal := s.runX (fun d => d.dxLaneNext q)

/-- LANE.CW. -/
def Dev.dxLaneCw (d : Dev) (q : Nat) : Dev :=
  d.dxWrite q 0x52 0 (fun _ v => { row := rowOPT_LANE_SWITCH_CW, ix := v }) (fun w e => e.reg (wA w))
    (fun v x _ d => d.laneCwWrite v x)
def execDxLaneCw (q : Fin 512) (s : State) : Host.Outcome State Fault Refusal := s.runX (fun d => d.dxLaneCw q)

/-- RING.CMD of a ring that exists. -/
def Dev.dxRing (d : Dev) (q w i v : Nat) : Dev :=
  let r := slice w 12 4
  if 9 < r then d.drvFailFlow q w i fcRANGE
  else
    let t : Target' := { row := rowOPT_RING_CMD, ix := ringIx v r }
    let x := d.drvWrite q t (slice w 10 2) (fun _ d => let y := d.ringCmd v r (slice w 10 2); (y.1, if y.2 then 7 else 0))
    x.1.drvResult q w i x.2

/-- RING.CMD. -/
def Dev.dxRingCmd (d : Dev) (q : Nat) : Dev :=
  d.dxRun q 0x53 0 true (fun _ v => { row := rowOPT_LANE_MAP, ix := v }) (fun w i _ v d => d.dxRing q w i v)
def execDxRingCmd (q : Fin 512) (s : State) : Host.Outcome State Fault Refusal := s.runX (fun d => d.dxRingCmd q)

/-- The register LANE.READ selects. -/
def laneReadRow (w v : Nat) : Target' :=
  { row := match slice w 9 4 with
      | 0 => rowLAS_OCT_STATUS | 1 => rowLAS_OCT_SEQ_TIME | 2 => rowOPT_LANE_MAP | _ => rowOPT_CW_COUNT, ix := v }

/-- LANE.READ. -/
def Dev.dxLaneRead (d : Dev) (q : Nat) : Dev := d.dxRead q 0x54 0 laneReadRow
def execDxLaneRead (q : Fin 512) (s : State) : Host.Outcome State Fault Refusal := s.runX (fun d => d.dxLaneRead q)

/-! ### TIME and TRIG (R467) -/

/-- TIME.NOW. -/
def Dev.dxTimeNow (d : Dev) (q : Nat) : Dev :=
  d.drvIssue q 0x60 (fun w i _ d => let r := d.timeNow; r.1.drvDone q w i r.2)
def execDxTimeNow (q : Fin 512) (s : State) : Host.Outcome State Fault Refusal := s.runX (fun d => d.dxTimeNow q)

/-- TIME.STAT. -/
def Dev.dxTimeStat (d : Dev) (q : Nat) : Dev := d.dxRead q 0x61 0 (fun _ _ => { row := rowTIME_STATUS, ix := 0 })
def execDxTimeStat (q : Fin 512) (s : State) : Host.Outcome State Fault Refusal := s.runX (fun d => d.dxTimeStat q)

/-- TIME.PARENT. -/
def Dev.dxTimeParent (d : Dev) (q : Nat) : Dev :=
  d.dxWrite q 0x62 0 (fun _ _ => { row := rowTIME_PARENT, ix := 0 }) (fun w e => e.reg (wA w))
    (fun _ x bad d => (d.parentWrite x bad, 0))
def execDxTimeParent (q : Fin 512) (s : State) : Host.Outcome State Fault Refusal := s.runX (fun d => d.dxTimeParent q)

/-- The registers of a trigger. -/
def tTrig (_w v : Nat) : Target' := { row := rowTIME_TRIG_CTRL, ix := v }

/-- TRIG.PERIOD. -/
def Dev.dxTrigPeriod (d : Dev) (q : Nat) : Dev :=
  d.dxWrite q 0x70 0 (fun _ v => { row := rowTIME_TRIG_PERIOD, ix := v }) (fun w e => e.reg (wA w))
    (fun v x bad d => (d.writeFields rowTIME_TRIG_PERIOD v x bad, 0))
def execDxTrigPeriod (q : Fin 512) (s : State) : Host.Outcome State Fault Refusal := s.runX (fun d => d.dxTrigPeriod q)

/-- TRIG.ARM: start, count and polarity, then enable; late goes to d. -/
def Dev.dxTrigArm (d : Dev) (q : Nat) : Dev :=
  d.dxRun q 0x71 0 true tTrig (fun w i e v d =>
    let d := d.set .time_trig_start_start_ns v (e.reg (wA w))
    let d := d.trigCtrlWrite v (slice w 3 16 * 2 ^ 48 + b2n (bit w 2) * 2 + 1) []
    if d.flag .time_trig_ctrl_enable v then d.drvDone q w i (d.get .time_trig_ctrl_late v) else d.drvFail q w i 1)
def execDxTrigArm (q : Fin 512) (s : State) : Host.Outcome State Fault Refusal := s.runX (fun d => d.dxTrigArm q)

/-- TRIG.OFF. -/
def Dev.dxTrigOff (d : Dev) (q : Nat) : Dev :=
  d.dxRun q 0x72 0 true tTrig (fun w i _ v d => (if d.flag .time_trig_ctrl_enable v then d.trigStop v else d).drvDone q w i)
def execDxTrigOff (q : Fin 512) (s : State) : Host.Outcome State Fault Refusal := s.runX (fun d => d.dxTrigOff q)

/-- CAP.POP. -/
def Dev.dxCapPop (d : Dev) (q : Nat) : Dev :=
  d.dxRun q 0x73 0 false (fun _ v => { row := rowTIME_CAP_NS, ix := v }) (fun w i _ v d =>
    let r := d.capPop v; r.1.drvDone q w i r.2)
def execDxCapPop (q : Fin 512) (s : State) : Host.Outcome State Fault Refusal := s.runX (fun d => d.dxCapPop q)

/-! ### MEM (R467, R374) -/

/-- The state register of a frame. -/
def tWin (_w v : Nat) : Target' := { row := rowFMEM_WIN_STATE, ix := v }

/-- The result DOMAIN_OFF of R374. -/
def memOFF : Nat := 3

/-- MEM.MAP: ARG0 is a, ARG1 is d, which is never written (R456). -/
def Dev.dxMemMap (d : Dev) (q : Nat) : Dev :=
  d.dxRun q 0x80 memOFF true tWin (fun w i e v d =>
    if d.opsOpen q e.run ≥ 16 then d.drvFailFlow q w i fcOP_LIMIT
    else
      let r := d.memMap v (e.reg (wA w)) (e.reg (wD w))
      let op : Op := { queue := q, entry := e.run, start := i, group := slice w 60 4, key := .memMap v, res := some r.2 }
      ({ r.1 with ops := r.1.ops ++ [op] } : Dev).drvNext q (i + 1))
def execDxMemMap (q : Fin 512) (s : State) : Host.Outcome State Fault Refusal := s.runMap (fun d => d.dxMemMap q)

/-- MEM.UNMAP: it ends at FREE. -/
def Dev.dxMemUnmap (d : Dev) (q : Nat) : Dev :=
  d.dxRun q 0x81 memOFF true tWin (fun w i e v d =>
    d.drvOp q w i e (.memUnmap v) (fun d => let r := d.memUnmap v; (r.1, failOnly r.2)))
def execDxMemUnmap (q : Fin 512) (s : State) : Host.Outcome State Fault Refusal := s.runX (fun d => d.dxMemUnmap q)

/-- MEM.RESYNC. -/
def Dev.dxMemResync (d : Dev) (q : Nat) : Dev :=
  d.dxRun q 0x82 memOFF true tWin (fun w i e v d =>
    d.drvOp q w i e (.memResync v) (fun d => let r := d.memResync v; (r.1, some r.2)))
def execDxMemResync (q : Fin 512) (s : State) : Host.Outcome State Fault Refusal := s.runX (fun d => d.dxMemResync q)

/-- MEM.PROMOTE. -/
def Dev.dxMemPromote (d : Dev) (q : Nat) : Dev :=
  d.dxRun q 0x83 memOFF true tWin (fun w i e v d =>
    d.drvOp q w i e (.memPromote v) (fun d => let r := d.memPromote v; (r.1, some r.2)))
def execDxMemPromote (q : Fin 512) (s : State) : Host.Outcome State Fault Refusal := s.runX (fun d => d.dxMemPromote q)

/-- MEM.READ. -/
def Dev.dxMemRead (d : Dev) (q : Nat) : Dev := d.dxRead q 0x84 memOFF tWin
def execDxMemRead (q : Fin 512) (s : State) : Host.Outcome State Fault Refusal := s.runX (fun d => d.dxMemRead q)

/-! ### DMA (R467, R473) -/

/-- The status register of a channel. -/
def tChan (_w v : Nat) : Target' := { row := rowDMA_CH_STATUS, ix := v }

/-- DMA.RUN. -/
def Dev.dxDmaRun (d : Dev) (q : Nat) : Dev :=
  d.dxRun q 0x90 0 true tChan (fun w i e v d =>
    let a := e.reg (wA w)
    if !d.qAllowed q ocKCL_ADDR a (a + 7) false then d.endRun q (protEnd ocKCL_ADDR a i)
    else d.drvOp q w i e (.dmaRun v) (fun d =>
      if d.chanState v = dcIDLE then (d.dmaStart v a (d.qPriv q) q (d.qMap q), none) else (d, some 1)))
def execDxDmaRun (q : Fin 512) (s : State) : Host.Outcome State Fault Refusal := s.runX (fun d => d.dxDmaRun q)

/-- DMA.ABORT. -/
def Dev.dxDmaAbort (d : Dev) (q : Nat) : Dev :=
  d.dxRun q 0x91 0 true tChan (fun w i _ v d => (d.dmaAbort v).drvDone q w i)
def execDxDmaAbort (q : Fin 512) (s : State) : Host.Outcome State Fault Refusal := s.runX (fun d => d.dxDmaAbort q)

/-- DMA.READ. -/
def Dev.dxDmaRead (d : Dev) (q : Nat) : Dev := d.dxRead q 0x92 0 tChan
def execDxDmaRead (q : Fin 512) (s : State) : Host.Outcome State Fault Refusal := s.runX (fun d => d.dxDmaRead q)

/-! ### PROG (R467 to R470) -/

/-- PROG.LOAD: the image is read over the KCL. -/
def Dev.dxProgLoad (d : Dev) (q : Nat) : Dev :=
  d.drvIssue q 0xA0 (fun w i e d => d.drvObj q w i e (fun v d =>
    d.drvOp q w i e (.progLoad v) (fun d =>
      if (d.progs.getOpt v).isSome then (d, some 2)
      else if (d.progLoads.getOpt v).isSome then (d, some 1)
      else
        let a := e.reg (wA w) / 8 * 8
        let l : ProgLoad := { queue := q, addr := a, mask := slice w 12 8 }
        (({ d with progLoads := d.progLoads.set v none (some l) } : Dev).kread (.progImage v) (reqLOAD (d.qSeq q)) a 16, none))))
def execDxProgLoad (q : Fin 512) (s : State) : Host.Outcome State Fault Refusal := s.runX (fun d => d.dxProgLoad q)

/-- Blocks of 64 instructions a program takes (R468). -/
def progBlocks (n : Nat) : Nat := cdiv n 64

/-- Blocks in use on sequencer `k` (R468). -/
def Dev.blocksUsed (d : Dev) (k : Nat) : Nat :=
  (d.progs.entries.map (fun e => match e.2 with
    | some p => if bit p.seqs k then progBlocks p.words.length else 0
    | none => 0)).sum

/-- The proof pass of a load, under the privilege and installed map of its queue (R469). -/
def Dev.loadProof (d : Dev) (l : ProgLoad) (ws : List Nat) : Option (Nat × Nat) :=
  proofPass ((ws.drop 2).take (slice (ws.getD 0 0) 32 16)) (d.qPriv l.queue) (d.qMap l.queue) (slice (ws.getD 0 0) 0 32)

/-- The result of a program load, its image as words: 0, IMAGE_READ, ENCODING, PROOF or SPACE (R469). -/
def Dev.progCheck (d : Dev) (l : ProgLoad) (img : Option (List Nat)) : Nat :=
  match img with
  | none => 3
  | some ws =>
    let h := ws.getD 0 0
    let n := slice h 32 16
    let prog := (ws.drop 2).take n
    if slice h 48 16 ≠ 0 ∨ ws.getD 1 0 ≠ 0 ∨ n = 0 ∨ n > 32768 ∨ slice h 0 32 = 0 then 4
    else if prog.length < n then 3
    else if (d.loadProof l ws).isSome then 5
    else if (List.range 8).any (fun k => bit l.mask k && decide (512 < d.blocksUsed k + progBlocks n)) then 6
    else 0

/-- A program load ends (R469): the proof code of one refused with PROOF is its operation's detail. -/
def Dev.progLoadEnd (d : Dev) (h : Nat) (img : Option (List Nat)) : Dev :=
  match d.progLoads.getOpt h with
  | none => d
  | some l =>
    let d := { d.dropReads (.progImage h) with progLoads := d.progLoads.set h none none }
    let res := d.progCheck l img
    let ws := img.getD []
    let p : Prog := { words := (ws.drop 2).take (slice (ws.getD 0 0) 32 16), budget := slice (ws.getD 0 0) 0 32, seqs := l.mask,
                      queue := l.queue, gen := d.get .csq_q_status_map_gen l.queue }
    let d := if res = 0 then { d with progs := d.progs.set h none (some p) } else d
    d.opEnd (.progLoad h) res (if res = 5 then ((d.loadProof l ws).map (·.2)).getD 0 else 0)

/-- PROG_LOAD_DONE: the words of the image, header included; none where a read failed. -/
def execDxProgLoadDone (handle : Fin 4096) (image : Option (List Word)) (s : State) : Host.Outcome State Fault Refusal :=
  s.runX (fun d => d.progLoadEnd handle (image.map (fun l => l.map (·.toNat))))

/-- Whether an entry runs handle `h` (R470). -/
def Dev.handleRuns (d : Dev) (h : Nat) : Bool :=
  d.queues.entries.any (fun x => match x.2.run with
    | some e => entKind (e.words.getD 0 0) == 1 && entOperand (e.words.getD 0 0) == h
    | none => false)

/-- PROG.UNLOAD. -/
def Dev.dxProgUnload (d : Dev) (q : Nat) : Dev :=
  d.drvIssue q 0xA1 (fun w i e d => d.drvObj q w i e (fun v d =>
    if (d.progs.getOpt v).isNone then d.drvFail q w i 8
    else if d.handleRuns v then d.drvFail q w i 7
    else ({ d with progs := d.progs.set v none none } : Dev).drvDone q w i))
def execDxProgUnload (q : Fin 512) (s : State) : Host.Outcome State Fault Refusal := s.runX (fun d => d.dxProgUnload q)

/-- PROG.POWER: it ends when the domain reaches the state. -/
def Dev.dxProgPower (d : Dev) (q : Nat) : Dev :=
  d.drvIssue q 0xA2 (fun w i e d =>
    let k := slice w 0 5
    let on := bit w 5
    if 19 < k then d.drvFailFlow q w i fcRANGE
    else d.drvOp q w i e (.power k on) (fun d =>
      let r := d.pdRequest k on (reqQUEUE q)
      (r.1, if !r.2 then some 9 else if r.1.pdBusy k then none else some 0)))
def execDxProgPower (q : Fin 512) (s : State) : Host.Outcome State Fault Refusal := s.runX (fun d => d.dxProgPower q)

end Sys2Proof.Machine
end

