-- ==== Sys2Proof/Machine/Service.lean ====
section
/-! DEFINITION. Training of the companion link (R548), service ports (R549 to R555, R557), the transparent clock (R417). -/

namespace Sys2Proof.Machine

/-! ### Training of the companion link (R548) -/

/-- A lane fails training or replays too often: half width (R548). -/
def Dev.kclDegrade (d : Dev) (failed : Nat) : Dev :=
  if !d.domainOn 10 || failed == 0 then d
  else
    let d := d.setMany [(.kcl_status_lanes_ok, 0, maskOf 8 (fun i => d.bitOf .kcl_status_lanes_ok 0 i && !bit failed i)),
      (.kcl_status_width, 0, 4), (.h_kcl_full, 0, 0)]
    let d := if d.get .h_kcl_train = 0 then d.set .h_kcl_train 0 1 else d
    d.raise .KCL_DEGRADED d.pathDevice [.h failed, .h 4]

/-- KCL_LANE_DEGRADE. -/
def execKclLaneDegrade (failed : BitVec 8) (s : State) : Host.Outcome State Fault Refusal :=
  s.run (fun d => d.kclDegrade failed.toNat)

/-- A write of KCL_CTRL; retrain reads 0 and acts while the width is 4 (R548, R557). -/
def Dev.kclCtrlWrite (d : Dev) (v : Nat) (bad : List Nat) : Dev :=
  let d := (d.writeFields rowKCL_CTRL 0 v bad).set .kcl_ctrl_retrain 0 0
  if bit v 16 ∧ d.get .kcl_status_width = 4 then d.setMany [(.h_kcl_train, 0, 1), (.h_kcl_full, 0, 1)] else d

/-- KCL_RETRAIN_CMD: a write of KCL_CTRL with retrain set. -/
def execKclRetrainCmd (m : Mark) (v : Word) (s : State) : Host.Outcome State Fault Refusal :=
  s.run (fun d => d.hostWrite m rowKCL_CTRL 0 (setBit v.toNat 16) (fun _ v bad d => d.kclCtrlWrite v bad))

/-- Training completes with the lanes of `pass`: full width where it was asked for and all eight pass (R548). -/
def Dev.kclTrained (d : Dev) (pass : Nat) : Dev :=
  if !d.domainOn 10 || d.get .h_kcl_train == 0 then d
  else
    let full := d.flag .h_kcl_full
    let w := if full && pass == 0xFF then 8 else 4
    let lost := d.get .kcl_status_width == 8 && w == 4
    let ok := if full then pass else maskOf 8 (fun i => d.bitOf .kcl_status_lanes_ok 0 i && bit pass i)
    let d := d.setMany [(.kcl_status_width, 0, w), (.kcl_status_lanes_ok, 0, ok), (.h_kcl_train, 0, 0)]
    if lost then d.raise .KCL_DEGRADED d.pathDevice [.h (0xFF - pass), .h 4] else d

/-- KCL_RETRAIN_DONE. -/
def execKclRetrainDone (pass : BitVec 8) (s : State) : Host.Outcome State Fault Refusal := s.run (fun d => d.kclTrained pass.toNat)

/-! ### Binding (R550, R557) -/

/-- Whether service port `i` may be bound to port `n` (R550). -/
def Dev.bindOk (d : Dev) (i n : Nat) : Bool :=
  decide (496 ≤ n ∧ n ≤ 511) && d.role n == roleDISABLED &&
  !(d.flag .kcl_svc_cfg_bind_en (1 - i) && d.get .kcl_svc_cfg_bind_port (1 - i) == n) &&
  (List.range 64).all (fun c => !(d.circBusy c && (d.circPorts c).contains n))

/-- Whether a change of the binding of service port `i` to (`en`, `n`) is accepted (R550, R557). -/
def Dev.bindAccept (d : Dev) (i : Nat) (en : Bool) (n : Nat) : Bool :=
  let was := d.flag .kcl_svc_cfg_bind_en i
  (!was || d.role (d.get .kcl_svc_cfg_bind_port i) == roleDISABLED) &&
  (if en then d.bindOk i n else decide (496 ≤ n ∧ n ≤ 511) || was)

/-- A write of KCL_SVC_CFG: a refused binding keeps both its fields, the rest takes effect (R550, R557). -/
def Dev.svcCfgWrite (d : Dev) (i v : Nat) (bad : List Nat) : Dev :=
  let en := d.get .kcl_svc_cfg_bind_en i
  let n := d.get .kcl_svc_cfg_bind_port i
  let ok := (slice v 0 1 == en && slice v 4 9 == n) || d.bindAccept i (bit v 0) (slice v 4 9)
  let d := d.writeFields rowKCL_SVC_CFG i v bad
  if ok then d
  else (d.setMany [(.kcl_svc_cfg_bind_en, i, en), (.kcl_svc_cfg_bind_port, i, n)]).raise .SVC_BIND_REFUSED d.pathDevice
    [.h i, .h (slice v 4 9)]

/-- SVC_BIND_WRITE. -/
def execSvcBindWrite (m : Mark) (svc : Fin 2) (v : Word) (s : State) : Host.Outcome State Fault Refusal :=
  s.runX (fun d => d.hostWrite m rowKCL_SVC_CFG svc v.toNat (fun _ v bad d => d.svcCfgWrite svc v bad))

/-- The register rows of KCL_SVC_MAC, KCL_SVC_PEER and KCL_SVC_VLAN. -/
def svcAddrRow (r : Fin 3) : RegRow :=
  match r with
  | 0 => rowKCL_SVC_MAC | 1 => rowKCL_SVC_PEER | 2 => rowKCL_SVC_VLAN

/-- A write of the addresses or tags of a service port (R557). -/
def Dev.svcAddrWrite (d : Dev) (r : RegRow) (i v : Nat) (bad : List Nat) : Dev :=
  let n := d.get .kcl_svc_cfg_bind_port i
  if d.flag .kcl_svc_cfg_bind_en i && !(d.fenced n || d.role n == roleDISABLED) then d.raise .ROLE_BUSY (d.pathPort n)
  else d.writeFields r i v bad

/-- KCL_SVC_ADDR_WRITE. -/
def execKclSvcAddrWrite (m : Mark) (svc : Fin 2) (r : Fin 3) (v : Word) (s : State) : Host.Outcome State Fault Refusal :=
  s.run (fun d => d.hostWrite m (svcAddrRow r) svc v.toNat (fun _ v bad d => d.svcAddrWrite (svcAddrRow r) svc v bad))

/-! ### Locks (R552) -/

/-- The port a service port stands in for (R550). -/
def Dev.svcPort (d : Dev) (i : Nat) : Option Nat :=
  if d.flag .kcl_svc_cfg_bind_en i then some (d.get .kcl_svc_cfg_bind_port i) else none

/-- PCS block lock and RS-FEC lock have held for 1 ms. -/
def Dev.svcLock (d : Dev) (i : Nat) : Dev :=
  if !d.domainOn 10 then d
  else
    let d := d.setMany [(.kcl_svc_status_block_lock, i, 1), (.kcl_svc_status_fec_lock, i, 1)]
    match d.svcPort i with
    | none => d
    | some n =>
      if d.role n = roleANALYSIS then (if d.linkStatus n = lsDOWN then d.setLink n lsTX_ONLY else d)
      else if d.upRole n ∧ d.linkStatus n = lsTRAIN then (d.setLink n lsIDENTIFY).sendId n else d

/-- SVC_LOCK_HELD. -/
def execSvcLockHeld (svc : Fin 2) (s : State) : Host.Outcome State Fault Refusal := s.runX (fun d => d.svcLock svc)

/-- Block lock is lost for 10 µs. -/
def Dev.svcUnlock (d : Dev) (i : Nat) : Dev :=
  let d := d.setMany [(.kcl_svc_status_block_lock, i, 0), (.kcl_svc_status_fec_lock, i, 0)]
  match d.svcPort i with
  | none => d
  | some n =>
    if d.upRole n ∧ lsTRAIN ≤ d.linkStatus n then d.linkLost n fcLINK_LOSS
    else if d.linkStatus n = lsTX_ONLY then d.setLink n lsDOWN else d

/-- SVC_LOCK_LOSS. -/
def execSvcLockLoss (svc : Fin 2) (s : State) : Host.Outcome State Fault Refusal := s.runX (fun d => d.svcUnlock svc)

/-! ### PFC (R554) -/

/-- A PFC frame arrives: the enabled priorities of `en` are held for their quanta, or released by 0. -/
def Dev.pfcRx (d : Dev) (i en : Nat) (quanta : List Nat) : Dev :=
  (List.range 8).foldl (fun d p =>
    if bit en p && d.bitOf .kcl_svc_cfg_pfc_en i p then d.putB .kcl_svc_status_paused i p (quanta.getD p 0 != 0) else d) d

/-- PFC_RX. -/
def execPfcRx (svc : Fin 2) (en : BitVec 8) (quanta : Vector (BitVec 16) 8) (s : State) : Host.Outcome State Fault Refusal :=
  s.run (fun d => d.pfcRx svc en.toNat (quanta.toList.map (·.toNat)))

/-- PFC_PAUSE_EXPIRY. -/
def execPfcPauseExpiry (svc : Fin 2) (prio : Fin 8) (s : State) : Host.Outcome State Fault Refusal :=
  s.run (fun d => d.putB .kcl_svc_status_paused svc prio false)

/-- Whether the cells of a class mapped to priority `p` reach iq − pfc_headroom. -/
def Dev.xoffDue (d : Dev) (i n p : Nat) : Bool :=
  (List.range 8).any (fun c => d.pcp i c == p &&
    decide (d.get .xbar_iq_iq (8 * n + c) - d.get .kcl_svc_cfg_pfc_headroom i ≤ d.inUsed n c))

/-- Whether the cells of every class mapped to priority `p` are below iq / 2. -/
def Dev.xonDue (d : Dev) (i n p : Nat) : Bool :=
  (List.range 8).all (fun c => d.pcp i c != p || decide (2 * d.inUsed n c < d.get .xbar_iq_iq (8 * n + c)))

/-- A PFC frame leaves: counted, its positions RETIRED slots (R554, R557). -/
def Dev.pfcSend (d : Dev) (i n p quanta : Nat) : Dev :=
  let d := ((d.emit (.pfc i p quanta)).incrSat .kcl_svc_stats_pfc_tx i).putB .h_pfc_xoff i p (quanta != 0)
  if d.admitted n || d.linkStatus n == lsTX_ONLY then d.slots n 0 (ethSlots 64) else d

/-- A PFC frame of service port `i` that `due` asks for, of the bound port, `last` being whether XOFF was sent last. -/
def Dev.pfcWhen (d : Dev) (i p : Nat) (last : Bool) (quanta : Nat) (due : Nat → Bool) : Dev :=
  match d.svcPort i with
  | some n => if d.bitOf .kcl_svc_cfg_pfc_en i p && d.bitOf .h_pfc_xoff i p == last && due n then d.pfcSend i n p quanta else d
  | none => d

/-- PFC_XOFF_SEND. -/
def execPfcXoffSend (svc : Fin 2) (prio : Fin 8) (s : State) : Host.Outcome State Fault Refusal :=
  s.run (fun d => d.pfcWhen svc prio false 0xFFFF (fun n => d.xoffDue svc n prio))

/-- PFC_XOFF_REPEAT. -/
def execPfcXoffRepeat (svc : Fin 2) (prio : Fin 8) (s : State) : Host.Outcome State Fault Refusal :=
  s.run (fun d => d.pfcWhen svc prio true 0xFFFF (fun n => d.xoffDue svc n prio))

/-- PFC_XON_SEND. -/
def execPfcXonSend (svc : Fin 2) (prio : Fin 8) (s : State) : Host.Outcome State Fault Refusal :=
  s.run (fun d => d.pfcWhen svc prio true 0 (fun n => d.xonDue svc n prio))

/-! ### Received Ethernet frames (R551, R553, R555) -/

/-- The big-endian number of `n` bytes at offset `o`. -/
def beAt (l : List Nat) (o n : Nat) : Nat := beNat ((l.drop o).take n)

/-- The VIDs of up to two tags, outer first, and the offset of the EtherType behind them (R549; the inner TPID is that of
IEEE 802.1Q, log entry 10). -/
def ethTags (l : List Nat) : List Nat × Nat :=
  if beAt l 12 2 = 0x8100 ∨ beAt l 12 2 = 0x88A8 then
    if beAt l 16 2 = 0x8100 then ([beAt l 14 2 % 4096, beAt l 18 2 % 4096], 20) else ([beAt l 14 2 % 4096], 16)
  else ([], 12)

/-- The bytes of the unit that a frame without its FCS holds from offset `o`: a valid first word, exactly one unit, and its
pad of zeros (R551). -/
def ethUnit (body : List Nat) (o : Nat) : Option (List Nat) :=
  let rest := body.drop o
  let ver := rest.getD 0 0 / 16
  let len := if ver = 1 then linkBytes (slice (beAt rest 12 4) 3 13) else 64
  if (ver = 1 ∨ ver = 0xF) ∧ body.length = max 60 (o + len) ∧ (rest.drop len).all (· == 0) = true then some (rest.take len) else none

/-- An ID body from its words (R153). -/
def idOfWords (w : Nat → Nat) : IdBody :=
  { kind := Fin.ofNat 16 (slice (w 0) 28 4), plane := Fin.ofNat 16 (slice (w 0) 24 4), id := BitVec.ofNat 24 (w 0),
    port := Fin.ofNat 512 (w 1), serial := BitVec.ofNat 64 (w 2 % 2 ^ 32 * 2 ^ 32 + w 3 % 2 ^ 32),
    coordX := Fin.ofNat 4096 (slice (w 4) 12 12), coordY := Fin.ofNat 4096 (slice (w 4) 0 12), grid := bit (w 5) 12,
    coordZ := Fin.ofNat 4096 (slice (w 5) 0 12) }

/-- A link-control frame of a bound port, by its type and words (R152, R153, R552). -/
def Dev.lcFrame (d : Dev) (n : Nat) (w : Nat → Nat) : Dev :=
  let seq := slice (w 1) 16 16
  d.lcIn n (fun d => match slice (w 0) 20 8 with
    | 0x01 => d.creditRx n ((List.range 8).map (fun c => slice (w (1 + c)) 0 16))
    | 0x02 => d.idRx n (idOfWords (fun k => w (1 + k)))
    | 0x03 => d.revRx n { rev := BitVec.ofNat 16 (w 1), mask := BitVec.ofNat 32 (w 2), ident := idOfWords (fun k => w (3 + k)) }
    | 0x04 => d.admitRx n
    | 0x05 => if d.upRole n then (d.fence n fcLINK_LOSS).toTrain n else d
    | 0x07 => d.pwrAnsRx n (slice (w 1) 0 2) (bit (w 1) 16) (slice (w 1) 8 3)
    | 0x09 => d.spareAck n seq (slice (w 1) 0 3)
    | 0x0A => d.spareReady n seq (slice (w 1) 0 3)
    | 0x0C => d
    | _ => d.count n .LC_UNKNOWN)

/-- A unit taken from a service port undergoes the checks of R148 onward; a framing error drops only its frame (R551). -/
def Dev.svcUnit (d : Dev) (n : Nat) (u : List Nat) : Dev :=
  let w (k : Nat) : Nat := beAt u (4 * k) 4
  let err (d : Dev) : Dev := (d.count n .HDR_CRC).raise .HDR_INVALID (d.pathPort n)
  if !d.quadOn n then d
  else if u.getD 0 0 / 16 = 1 then
    let ws := (List.range 8).map w
    if !hdrCrcOk ws then err d
    else
      let h := Hdr.ofWords ws
      (d.headerIn n h).lastByte n ((u.drop 32).take h.length) (beAt u (32 + h.length + padBytes h.length) 4)
  else if crc32c (u.take 60) = w 15 then d.lcFrame n w
  else err d

/-- A non-fabric frame received on service port `i` (R555). -/
def Dev.svcPass (d : Dev) (i : Nat) (bytes : List Nat) : Dev :=
  let o := 1 - i
  if !d.flag .kcl_svc_cfg_pass_en i then d.incrSat .kcl_svc_stats_nonfabric i
  else
    let q := d.svcFifo.get o []
    let held := q.foldl (fun a e => a + e.1.length) 0
    if d.get .kcl_svc_status_block_lock o = 0 ∨ held + bytes.length > 65536 then d.incrSat .kcl_svc_stats_pt_drop i
    else { d with svcFifo := d.svcFifo.set o [] (q ++ [(bytes, d.fabric32 / 2 ^ 16)]) }

/-- The destination address and EtherType of MAC control frames, and the opcode of PFC (IEEE 802.1Qbb, log entry 10). -/
def isPfc (body : List Nat) (o : Nat) : Bool :=
  beAt body 0 6 == 0x0180C2000001 && beAt body o 2 == 0x8808 && beAt body (o + 2) 2 == 0x0101

/-- An Ethernet frame, FCS included, arrives on service port `i` (R551, R553, R555). -/
def Dev.svcFrame (d : Dev) (i : Nat) (bytes : List Nat) : Dev :=
  let body := bytes.take (bytes.length - 4)
  let (vids, o) := ethTags body
  let fab := beAt body 0 6 == d.get .kcl_svc_mac_own_mac i && beAt body o 2 == d.get .kcl_svc_cfg_fab_ethertype i &&
    !(d.flag .kcl_svc_cfg_vid_check i && vids.head?.any (fun v => v != d.get .kcl_svc_vlan_rx_vid i))
  if !d.domainOn 10 then d
  else if bytes.length > 4160 ∨ bytes.length < 18 ∨ leNat (bytes.drop (bytes.length - 4)) ≠ ethFcs body then
    d.incrSat .kcl_svc_stats_rx_bad i
  else if isPfc body o then
    d.pfcRx i (beAt body (o + 4) 2) ((List.range 8).map (fun p => beAt body (o + 6 + 2 * p) 2))
  else match d.svcPort i, (if fab then ethUnit body (o + 2) else none) with
    | some n, some u => d.svcUnit n u
    | _, _ => d.svcPass i bytes

/-- SVC_FRAME_RX. -/
def execSvcFrameRx (svc : Fin 2) (bytes : List Byte) (s : State) : Host.Outcome State Fault Refusal :=
  s.runX (fun d => d.svcFrame svc (byteList bytes))

/-! ### The transparent clock (R417, R555) -/

/-- The list with `x` in place of as many elements from offset `o`. -/
def putAt (l : List Nat) (o : Nat) (x : List Nat) : List Nat := l.take o ++ x ++ l.drop (o + x.length)

/-- Where the PTP message of a frame begins, its transport (0 Ethernet, 1 UDP over IPv4, 2 UDP over IPv6) and where the UDP
header is (R417; the layouts are those of the standards it names, log entry 10). -/
def ptpAt (body : List Nat) : Option (Nat × Nat × Nat) :=
  let o := (ethTags body).2
  let p := o + 2
  let udp (u k : Nat) : Option (Nat × Nat × Nat) :=
    if beAt body (u + 2) 2 = 319 ∨ beAt body (u + 2) 2 = 320 then some (u + 8, k, u) else none
  match beAt body o 2 with
  | 0x88F7 => some (p, 0, 0)
  | 0x0800 => if beAt body (p + 9) 1 = 17 ∧ beAt body (p + 6) 2 % 0x2000 = 0 then udp (p + beAt body p 1 % 16 * 4) 1 else none
  | 0x86DD => if beAt body (p + 6) 1 = 17 then udp (p + 40) 2 else none
  | _ => none

/-- The one's complement sum of 16-bit words. -/
def onesSum (l : List Nat) : Nat := l.foldl (fun a x => (a + x) % 0x10000 + (a + x) / 0x10000) 0

/-- A checksum updated for words `old` that become `new` (RFC 1624). -/
def checksumUpdate (hc : Nat) (old new : List Nat) : Nat :=
  0xFFFF - onesSum ((0xFFFF - hc) :: (old.map (0xFFFF - ·)) ++ new)

/-- A message of R417 with the residence time, in 2^−16 ns, added; none for any other frame. -/
def ptpCorrect (bytes : List Nat) (res : Nat) : Option (List Nat) :=
  let body := bytes.take (bytes.length - 4)
  match ptpAt body with
  | none => none
  | some (p, k, u) =>
    if body.length < p + 34 ∨ 3 < beAt body p 1 % 16 ∨ beAt body (p + 1) 1 % 16 ≠ 2 then none
    else
      let old := beAt body (p + 8) 8
      let new := (old + res) % 2 ^ 64
      let words (x : Nat) : List Nat := (List.range 4).map (fun i => slice x (16 * i) 16)
      let b := putAt body (p + 8) (beBytes 8 new)
      let b := if k = 1 then putAt b (u + 6) [0, 0]
        else if k = 2 then putAt b (u + 6) (beBytes 2 (checksumUpdate (beAt body (u + 6) 2) (words old) (words new))) else b
      some (b ++ leBytes 4 (ethFcs b))

/-- A passed frame leaves service port `o` at a frame boundary (R555). -/
def Dev.svcDrain (d : Dev) (o : Nat) : Dev :=
  match d.svcFifo.get o [] with
  | [] => d
  | (bytes, t) :: rest =>
    let port := d.svcPort o
    if (port.map (fun n => (d.sending.getOpt n).isSome)).getD false || d.get .kcl_svc_status_block_lock o == 0 then d
    else
      let d := { d with svcFifo := d.svcFifo.set o [] rest }
      let res := (d.fabric32 / 2 ^ 16 + 2 ^ 80 - t) % 2 ^ 80
      let (d, out) := match (if d.flag .time_ctrl_tc_en then ptpCorrect bytes res else none) with
        | some b => (d.count blkDevice .TC_CORRECTED, b)
        | none => (d, bytes)
      let d := d.emit (.eth o out)
      match port with
      | some n => if d.admitted n || d.linkStatus n == lsTX_ONLY then d.slots n 0 (ethSlots out.length) else d
      | none => d

end Sys2Proof.Machine
end

