-- ==== Sys2Proof/Machine/Weighted.lean ====
section
/-! DEFINITION. The commands of chapter 11: WRA descriptors, passes, tiles and gathers. -/

namespace Sys2Proof.Machine

/-- WRA_DESC_CMD as a word (R349). -/
def descWord (cmd n : Nat) : Nat := cmd * 2 ^ 62 + n

/-- WRA_DESC_CMD_NOP (R349). -/
def execWraDescCmdNop (m : Mark) (desc : Fin 4096) (s : State) : Host.Outcome State Fault Refusal :=
  s.run (fun d => d.hostWrite m rowWRA_DESC_CMD 0 (descWord 0 desc) (fun _ _ _ d => d))

/-- WRA_DESC_CMD_LOAD (R330). -/
def execWraDescCmdLoad (m : Mark) (desc : Fin 4096) (s : State) : Host.Outcome State Fault Refusal :=
  s.run (fun d => d.hostWrite m rowWRA_DESC_CMD 0 (descWord 1 desc)
    (fun _ _ _ d => (d.descLoad 8 desc (d.get .wra_desc_addr_image) 0 []).1))

/-- UNLOAD by the control space (R331); descriptor 0 gives ENCODING (R349). -/
def Dev.descUnloadCmd (d : Dev) (n : Nat) : Dev :=
  if n = 0 then d.descStatus 0 5 (d.descPathBusy 8)
  else match d.descUnload 8 n with
    | (d', some r) => d'.descStatus n r (d'.descPathBusy 8)
    | (d', none) => d'.setMany [(.wra_desc_status_desc, 0, n), (.wra_desc_status_busy, 0, 1)]

/-- WRA_DESC_CMD_UNLOAD (R331). -/
def execWraDescCmdUnload (m : Mark) (desc : Fin 4096) (s : State) : Host.Outcome State Fault Refusal :=
  s.run (fun d => d.hostWrite m rowWRA_DESC_CMD 0 (descWord 2 desc) (fun _ _ _ d => d.descUnloadCmd desc))

/-- WRA_DESC_LOAD_DONE: what the load that runs on a path read, none where a read failed (R330). -/
def execWraDescLoadDone (path : Fin 9) (image : Option (Vector Word 8)) (coefs : Option (List (BitVec 16))) (s : State) :
    Host.Outcome State Fault Refusal :=
  s.run (fun d => d.descLoadEnd path (image.map (fun v => v.toList.map (fun w => w.toNat)))
    (coefs.map (fun l => l.map (fun c => c.toNat))))

/-- WRA_DESC_DRAINED (R331). -/
def execWraDescDrained (desc : Fin 4096) (s : State) : Host.Outcome State Fault Refusal := s.run (fun d => d.descDrained desc)

/-- WRA_PASS_START: a ready pass of column block `col` is granted its tile, `ovr` with leftover cycles (R324, R340). -/
def execWraPassStart (work : WraWork) (col : Fin 32) (ovr : Bool) (s : State) : Host.Outcome State Fault Refusal :=
  s.runX (fun d => d.passStart (Work.of work) col ovr)

/-- WRA_PASS_END: the running pass of a piece of work ends (R324, R325, R343). -/
def execWraPassEnd (work : WraWork) (mm : Option ColMismatch) (s : State) : Host.Outcome State Fault Refusal :=
  s.runX (fun d => d.passEnd (Work.of work) mm)

/-- GATHER_REQ_TAKE (R337 to R339). -/
def execGatherReqTake (s : State) : Host.Outcome State Fault Refusal := s.runX Dev.gatherTake

/-- GATHER_ROWS_DONE: the rows of a gather, by its number, with the words found corrected and uncorrectable (R338, R387). -/
def execGatherRowsDone (id : BitVec 32) (corr bad : List (BitVec 39)) (s : State) : Host.Outcome State Fault Refusal :=
  s.runMem (fun d mem => (d.gatherRows mem id.toNat (corr.map (fun w => w.toNat)) (bad.map (fun w => w.toNat)), mem))

/-! ### Tile commands (R344) -/

/-- WRA_TILE_CMD as a word (R350). -/
def tileWord (cmd col : Nat) : Nat := col * 2 ^ 8 + cmd

/-- The result of a tile command. -/
def Dev.tileResult (d : Dev) (t res : Nat) : Dev := d.set .wra_tile_status_cmd_result t res

/-- WRA_TILE_NOP (R350). -/
def execWraTileNop (m : Mark) (tile : Fin 4) (s : State) : Host.Outcome State Fault Refusal :=
  s.run (fun d => d.hostWrite m rowWRA_TILE_CMD tile (tileWord 0 0) (fun _ _ _ d => d))

/-- RETIRE_COL (R344). -/
def Dev.tileRetire (d : Dev) (t j : Nat) : Dev :=
  if d.get .h_wra_req t = 255 then (d.retireCol t j 2).tileResult t 0 else d.tileResult t 1

/-- WRA_RETIRE_COL (R344). -/
def execWraRetireCol (m : Mark) (tile : Fin 4) (col : Fin 128) (s : State) : Host.Outcome State Fault Refusal :=
  s.run (fun d => d.hostWrite m rowWRA_TILE_CMD tile (tileWord 1 col) (fun _ _ _ d => d.tileRetire tile col))

/-- RESTORE_COL (R344). -/
def Dev.tileRestore (d : Dev) (t : Nat) : Dev :=
  if d.get .h_wra_req t = 255 then d.tileResult t 2 else (d.set .h_wra_req t 255).tileResult t 0

/-- WRA_RESTORE_COL (R344). -/
def execWraRestoreCol (m : Mark) (tile : Fin 4) (s : State) : Host.Outcome State Fault Refusal :=
  s.run (fun d => d.hostWrite m rowWRA_TILE_CMD tile (tileWord 2 0) (fun _ _ _ d => d.tileRestore tile))

/-- FENCE (R344); the record of a fence that no column caused carries a free column (log entry 4). -/
def Dev.tileFence (d : Dev) (t : Nat) : Dev :=
  if d.tilesUp.any (· != t) then
    let (v, d) := d.draw
    (d.fenceTile t (v % 256) 2 0).tileResult t 0
  else d.tileResult t 3

/-- WRA_TILE_FENCE (R344). -/
def execWraTileFence (m : Mark) (tile : Fin 4) (s : State) : Host.Outcome State Fault Refusal :=
  s.runX (fun d => d.hostWrite m rowWRA_TILE_CMD tile (tileWord 3 0) (fun _ _ _ d => d.tileFence tile))

/-- UNFENCE (R344). -/
def Dev.tileUnfence (d : Dev) (t : Nat) : Dev :=
  if d.flag .wra_tile_status_fenced t then (d.set .wra_tile_status_fenced t 0).tileResult t 0 else d.tileResult t 4

/-- WRA_TILE_UNFENCE (R344). -/
def execWraTileUnfence (m : Mark) (tile : Fin 4) (s : State) : Host.Outcome State Fault Refusal :=
  s.runX (fun d => d.hostWrite m rowWRA_TILE_CMD tile (tileWord 4 0) (fun _ _ _ d => d.tileUnfence tile))

end Sys2Proof.Machine
end

