-- ==== Sys2Proof/Machine/Regs.lean ====
section
/-! DEFINITION. What a write of any register does once it has passed the checks of R585, by block; REG_WRITE and
REG_READ_REFUSED. -/

namespace Sys2Proof.Machine

/-! ### Writes, by block: each calls what the row of its own register calls -/

/-- SYS, SEC and TIME (R540, R542, R420 to R426); SYS_RESET_CMD is an effect on the whole state. -/
def Dev.writeBase (d : Dev) (req : Nat) (r : RegRow) (i v : Nat) (bad : List Nat) : Option Dev :=
  if r.base = rowSYS_FABRIC_SIZE.base ∨ r.base = rowSYS_FABRIC_COORD.base then some (d.shapeWrite r v bad)
  else if r.base = rowSYS_PD_CMD.base then
    some (match slice v 62 2 with
      | 1 => (d.pdRequest (slice v 0 5) true req).1
      | 2 => (d.pdRequest (slice v 0 5) false req).1
      | _ => d)
  else if r.base = rowSEC_CMD.base then some (d.secCmd (slice v 60 4) (slice v 0 60))
  else if r.base = rowTIME_CTRL.base then some (d.timeCtrlWrite v bad)
  else if r.base = rowTIME_PARENT.base then some (d.parentWrite v bad)
  else if r.base = rowTIME_ALIGN.base then some (d.writeFields r i v bad).refreshDegraded
  else if r.base = rowTIME_OFFSET_NS.base then some (d.offsetWrite v)
  else if r.base = rowTIME_OFFSET_FRAC.base then some (d.fracWrite v)
  else if r.base = rowTIME_RATE.base then some (d.rateWrite v)
  else if r.base = rowTIME_TRIG_CTRL.base then some (d.trigCtrlWrite i v bad)
  else none

/-- PERF, RAS, CSQ and DMA (R501, R518, R451 to R453, R486). -/
def Dev.writeControl (d : Dev) (r : RegRow) (i v : Nat) (bad : List Nat) : Option Dev :=
  if r.base = rowPERF_SNAP_CTRL.base then some (d.snapCtrlWrite v bad)
  else if r.base = rowPERF_SNAP_TIME.base then some ((d.writeFields r i v bad).set .h_snap_last 0 0)
  else if r.base = rowPERF_WIN_CTRL.base then some ((d.writeFields r i v bad).partialAll)
  else if r.base = rowRAS_CTRL.base then some (d.rasCtrlWrite v bad)
  else if r.base = rowRAS_TRACE_CFG.base then some (d.traceCfgWrite v bad)
  else if r.base = rowCSQ_Q_CFG.base then some (d.qCfgWrite i v bad)
  else if r.base = rowCSQ_Q_CMD.base then
    some (match slice v 0 3 with
      | 1 => d.qStop i
      | 2 => d.qResume i
      | 3 => d.qReset i
      | 4 => d.mapCommit i
      | _ => d)
  else if r.base = rowCSQ_QSRAM.base then some (d.qsramWrite i v)
  else if r.base = rowDMA_CH_CMD.base then some (d.dmaCmd i (slice v 0 2))
  else none

/-- Ports, cell buffer and scheduler (R169 to R172, R229 to R233, R255 to R259); quotas, shapers, maps and gates of a port lie in
several copies. -/
def Dev.writeSwitch (d : Dev) (r : RegRow) (i v : Nat) (bad : List Nat) : Option Dev :=
  if r.base = rowPORT_CFG.base then some (d.portCfgWrite i v bad).1
  else if r.base = rowPORT_CMD.base then some (d.portCmd i (slice v 0 4)).1
  else if r.base = rowPORT_STENCIL_0.base ∨ r.base = rowPORT_STENCIL_1.base ∨ r.base = rowPORT_STENCIL_2.base
      ∨ r.base = rowPORT_STENCIL_3.base then some ((d.writeFields r i v bad).stencilWritten i)
  else if r.base = rowXBAR_IQ.base then some (d.iqWrite (i / 2) (i % 2) v bad)
  else if r.base = rowXBAR_EQ.base then some (d.eqWrite (i / 2) (i % 2) v bad)
  else if r.base = rowXBAR_INT_QUOTA.base then some (d.intQuotaWrite v bad)
  else if r.base = rowXBAR_MIRROR_RES.base then some (d.mirrorResWrite v bad)
  else if r.base = rowXBAR_PORT_MIRROR.base ∧ d.role i = roleANALYSIS then
    some (d.writeFields r i (putBit (putBit v 9 (d.flag .xbar_port_mirror_egr_en i)) 4 (d.flag .xbar_port_mirror_ing_en i)) bad)
  else if r.base = rowXBAR_MIR_CFG.base then some (d.mirCfgWrite i v bad)
  else if r.base = rowXBAR_MIR_DEST.base then some (d.mirDestWrite i v bad)
  else if r.base = rowSCHED_PORT_CFG.base then some (d.schedCfgWrite i v bad)
  else if r.base = rowSCHED_SHAPER.base then some (d.shaperWrite (i / 8) (i % 8) v bad)
  else if r.base = rowSCHED_POL_CFG.base ∨ r.base = rowSCHED_POL_BURST.base then
    some (d.polWrite i (fun d => d.writeFields r i v bad))
  else if r.base = rowSCHED_POL_MAP.base then some (d.polMapWrite (i / 2) (i % 2) v bad)
  else if r.base = rowSCHED_GATE_CTRL.base then some (d.gateCtrlWrite i v bad)
  else if r.base = rowSCHED_GATE_DATA.base then some (d.gateDataWrite i v)
  else if (r.base = rowSCHED_GATE_ADMIN.base ∨ r.base = rowSCHED_GATE_BASE.base) ∧ d.flag .sched_gate_status_pending i then
    some (d.gateRefuse i 1)
  else none

/-- Tables, collectives, combining units, weighted-reduction array and fabric memory (R201 to R205, R290, R318, R322, R349, R350,
R394). -/
def Dev.writeEngine (d : Dev) (r : RegRow) (i v : Nat) (bad : List Nat) : Option Dev :=
  if r.base = rowFWD_CTRL.base then some (d.fwdCtrlWrite v bad)
  else if r.base = rowFWD_LEARN.base then some (d.learnLimitWrite i v bad)
  else if r.base = rowFWD_LOCK_REQ.base then some (d.lockReqWrite i v)
  else if r.base = rowFWD_LOCK_STAGE.base ∧ !d.slotHeld (i / 8) then some d
  else if r.base = rowFWD_COMMIT.base then some (d.lockCommit (bitsOf 64 v)).1
  else if r.base = rowMCAST_CMD.base then some (d.mcastWrite v)
  else if r.base = rowCOLL_LOAD_CMD.base then
    let x := slice v 0 14
    some (match slice v 62 2 with
      | 1 => (d.collLoad 8 x (d.get .coll_load_addr_image) 0 []).1
      | 2 => d.collAnswer x (d.collUnload x)
      | 3 => d.collAnswer x (d.collAbort x)
      | _ => d)
  else if r.base = rowCMB_CTRL.base then some (d.cmbCtrlWrite v bad)
  else if r.base = rowCMB_UNIT_CMD.base then
    some (match slice v 0 3 with
      | 1 => d.cmbRetire i (slice v 8 5)
      | 2 => d.cmbRestore i
      | 3 => d.cmbFence i
      | 4 => d.cmbUnfence i
      | 5 => d.cmbClear i
      | _ => d)
  else if r.base = rowWRA_DESC_CMD.base then
    let x := slice v 0 12
    some (match slice v 62 2 with
      | 1 => (d.descLoad 8 x (d.get .wra_desc_addr_image) 0 []).1
      | 2 => d.descUnloadCmd x
      | _ => d)
  else if r.base = rowWRA_TILE_CMD.base then
    some (match slice v 0 3 with
      | 1 => d.tileRetire i (slice v 8 7)
      | 2 => d.tileRestore i
      | 3 => d.tileFence i
      | 4 => d.tileUnfence i
      | _ => d)
  else if r.base = rowFMEM_MAP_CMD.base then
    let f := slice v 0 9
    some (match slice v 61 3 with
      | 1 => (d.memMap f d.mapArg0 d.mapArg1).1
      | 2 => (d.memUnmap f).1
      | 3 => (d.memResync f).1
      | 4 => (d.memPromote f).1
      | _ => d)
  else none

/-- Engines, lasers, express lanes, companion link and service ports (R92, R81, R101 to R103, R136, R142, R557). -/
def Dev.writeOptic (d : Dev) (r : RegRow) (i v : Nat) (bad : List Nat) : Option Dev :=
  if r.base = rowOPT_ENG_CTRL.base then some (d.engCtrlWrite i v bad)
  else if r.base = rowOPT_RING_CMD.base then some (d.ringCmd (i / 10) (i % 10) (slice v 0 2)).1
  else if r.base = rowOPT_LANE_MAP.base then some (d.laneMapWrite i v).1
  else if r.base = rowOPT_LANE_NEXT.base then some (d.laneNextWrite i v).1
  else if r.base = rowOPT_LANE_SWITCH_CW.base then some (d.laneCwWrite i v).1
  else if r.base = rowLAS_ENG_CTRL.base then some (d.lasCtrlWrite i v bad)
  else if r.base = rowLAS_OCT_CMD.base then some (d.octCmd i (slice v 4 3) (slice v 0 2)).1
  else if r.base = rowXPR_CIRC_CFG.base then some (d.xprCfgWrite i v bad).1
  else if r.base = rowXPR_CIRC_WEIGHT.base then some (d.xprWeightWrite i v bad).1
  else if r.base = rowXPR_CIRC_CMD.base then
    some (match slice v 0 2 with
      | 1 => (d.xprSetup i).1
      | 2 => (d.xprTeardown i).1
      | 3 => (d.xprReweight i).1
      | _ => d)
  else if r.base = rowKCL_CTRL.base then some (d.kclCtrlWrite v bad)
  else if r.base = rowKCL_SVC_CFG.base then some (d.svcCfgWrite i v bad)
  else if r.base = rowKCL_SVC_MAC.base ∨ r.base = rowKCL_SVC_PEER.base ∨ r.base = rowKCL_SVC_VLAN.base then
    some (d.svcAddrWrite r i v bad)
  else none

/-- What a write of `v` to copy `i` of a register does once it has passed the checks, by requester `req`; a register whose
chapter says no more takes its fields (R9). -/
def Dev.regEffect (d : Dev) (req : Nat) (r : RegRow) (i v : Nat) (bad : List Nat) : Dev :=
  ((((d.writeBase req r i v bad).or (d.writeControl r i v bad)).or (d.writeSwitch r i v bad)).or
    (d.writeEngine r i v bad)).or (d.writeOptic r i v bad) |>.getD (d.writeFields r i v bad)

/-- A write that passed checks 1 to 5, through check 6 (R13): a reset command is carried out on the whole state (R541), and a frame
that a MAP takes is zeroed (R375). -/
def State.regWrite (s : State) (req : Nat) (r : RegRow) (i v : Nat) : State :=
  let c := s.dev.checkEncoding req r i v
  let s := { s with dev := c.1 }
  if r.isCommand ∧ c.2 ≠ [] then s
  else if r.base = rowSYS_RESET_CMD.base then
    if slice v 0 16 ≠ 0xA5A5 then s
    else match slice v 62 2 with
      | 1 => s.warm 5
      | 2 => if s.dev.flag .h_porst then s else s.cold 1 2
      | _ => s
  else
    let d := c.1.regEffect req r i v c.2
    { s with dev := d, mem := zeroNew c.1 d s.mem }

/-- The outcome of an access by the companion: what its effect leaves for the engines is taken in, and its records go on
their way. -/
def State.settled (s : State) : Host.Outcome State Fault Refusal := .next (s.onDev (fun d => d.settle.flush))

/-- REG_WRITE: a companion write of `size` bytes at `addr` (R585). -/
def execRegWrite (m : Mark) (size addr : Nat) (v : Word) (s : State) : Host.Outcome State Fault Refusal :=
  if s.dev.get .h_kcl_train ≠ 0 then (s.onDev Dev.notAccepted).settled
  else
    let a := s.dev.access (markReq m) (markPriv m) size addr (some v.toNat)
    let s := { s with dev := a.1 }
    match a.2 with
    | .pass r i => ((s.onDev (fun d => d.emit (.reply false 0))).regWrite (markReq m) r i v.toNat).settled
    | .unmapped => (s.onDev (fun d => d.emit (.reply false 0))).settled
    | _ => (s.onDev (fun d => d.emit (.reply true 0))).settled

/-- REG_READ_REFUSED: a companion read of `size` bytes at `addr`; one that passes the checks is answered with the register's
value (R9, R585). -/
def execRegReadRefused (m : Mark) (size addr : Nat) (s : State) : Host.Outcome State Fault Refusal :=
  if s.dev.get .h_kcl_train ≠ 0 then (s.onDev Dev.notAccepted).settled
  else
    let a := s.dev.access (markReq m) (markPriv m) size addr none
    let s := { s with dev := a.1 }
    match a.2 with
    | .pass r i =>
      let x := s.dev.readEff s.fuses r i
      ({ s with dev := x.1.emit (.reply false x.2) } : State).settled
    | .unmapped => (s.onDev (fun d => d.emit (.reply false 0))).settled
    | _ => (s.onDev (fun d => d.emit (.reply true 0))).settled

end Sys2Proof.Machine
end

