-- ==== Sys2Proof/Machine/Dma.lean ====
section
/-! DEFINITION. The commands of chapter 17: channel commands, the instructions of a DMA program, and the responses of its
bursts (R478 to R484). -/

namespace Sys2Proof.Machine

/-! ### Channel commands (R473, R483, R484, R486) -/

/-- DMA_CMD_NOP. -/
def execDmaCmdNop (m : Mark) (chan : Fin 32) (s : State) : Host.Outcome State Fault Refusal :=
  s.run (fun d => d.hostWrite m rowDMA_CH_CMD chan 0 (fun _ _ _ d => d.dmaCmd chan 0))
/-- DMA_CMD_RUN. -/
def execDmaCmdRun (m : Mark) (chan : Fin 32) (s : State) : Host.Outcome State Fault Refusal :=
  s.run (fun d => d.hostWrite m rowDMA_CH_CMD chan 1 (fun _ _ _ d => d.dmaCmd chan 1))
/-- DMA_CMD_RESUME. -/
def execDmaCmdResume (m : Mark) (chan : Fin 32) (s : State) : Host.Outcome State Fault Refusal :=
  s.run (fun d => d.hostWrite m rowDMA_CH_CMD chan 2 (fun _ _ _ d => d.dmaCmd chan 2))
/-- DMA_CMD_ABORT. -/
def execDmaCmdAbort (m : Mark) (chan : Fin 32) (s : State) : Host.Outcome State Fault Refusal :=
  s.run (fun d => d.hostWrite m rowDMA_CH_CMD chan 3 (fun _ _ _ d => d.dmaCmd chan 3))

/-! ### Instructions (R474 to R481); `fetch` is what a fetch from companion memory answered, none for an error -/

/-- The four words of a fetch. -/
def fetchWords (f : Option (Vector Word 4)) : Option (List Nat) := f.map (fun v => v.toList.map (·.toNat))

/-- DMA_MOVE. -/
def execDmaMove (chan : Fin 32) (fetch : Option (Vector Word 4)) (s : State) : Host.Outcome State Fault Refusal :=
  s.run (fun d => d.dmaMoveOp chan (fetchWords fetch))
/-- DMA_LOOP. -/
def execDmaLoop (chan : Fin 32) (fetch : Option (Vector Word 4)) (s : State) : Host.Outcome State Fault Refusal :=
  s.run (fun d => d.dmaLoopOp chan (fetchWords fetch))
/-- DMA_WAIT_TOKEN. -/
def execDmaWaitToken (chan : Fin 32) (fetch : Option (Vector Word 4)) (s : State) : Host.Outcome State Fault Refusal :=
  s.run (fun d => d.dmaWaitOp chan 0 (fetchWords fetch))
/-- DMA_WAIT_EVENT. -/
def execDmaWaitEvent (chan : Fin 32) (fetch : Option (Vector Word 4)) (s : State) : Host.Outcome State Fault Refusal :=
  s.run (fun d => d.dmaWaitOp chan 1 (fetchWords fetch))
/-- DMA_SIGNAL_TOKEN. -/
def execDmaSignalToken (chan : Fin 32) (fetch : Option (Vector Word 4)) (s : State) : Host.Outcome State Fault Refusal :=
  s.run (fun d => d.dmaSignalOp chan 0 (fetchWords fetch))
/-- DMA_SIGNAL_EVENT. -/
def execDmaSignalEvent (chan : Fin 32) (fetch : Option (Vector Word 4)) (s : State) : Host.Outcome State Fault Refusal :=
  s.run (fun d => d.dmaSignalOp chan 1 (fetchWords fetch))
/-- DMA_END. -/
def execDmaEnd (chan : Fin 32) (fetch : Option (Vector Word 4)) (s : State) : Host.Outcome State Fault Refusal :=
  s.run (fun d => d.dmaEndOp chan (fetchWords fetch))
/-- DMA_WAIT_SATISFIED. -/
def execDmaWaitSatisfied (chan : Fin 32) (s : State) : Host.Outcome State Fault Refusal := s.run (fun d => d.dmaWaitDone chan)
/-- DMA_WAIT_LIMIT. -/
def execDmaWaitLimit (chan : Fin 32) (s : State) : Host.Outcome State Fault Refusal := s.run (fun d => d.dmaWaitLimit chan)
/-- DMA_PROGRAM_DONE. -/
def execDmaProgramDone (chan : Fin 32) (s : State) : Host.Outcome State Fault Refusal := s.run (fun d => d.dmaDone chan)
/-- DMA_HALT_SETTLED. -/
def execDmaHaltSettled (chan : Fin 32) (s : State) : Host.Outcome State Fault Refusal := s.run (fun d => d.dmaSettle chan)
/-- DMA_ABORT_DONE. -/
def execDmaAbortDone (chan : Fin 32) (s : State) : Host.Outcome State Fault Refusal := s.run (fun d => d.dmaAborted chan)

/-! ### Burst responses (R478, R481 to R484) -/

/-- The bursts of channel `c` changed. -/
def Dev.onBursts (d : Dev) (c : Nat) (f : List (Nat × Nat) → List (Nat × Nat)) : Dev :=
  let x := d.chan c
  d.putChan c { x with move := x.move.map (fun (m : DmaMove) => { m with bursts := f m.bursts }) }

/-- Burst `k` of channel `c` is in phase `v`. -/
def Dev.burstPhase (d : Dev) (c k v : Nat) : Dev := d.onBursts c (fun l => l.map (fun (b : Nat × Nat) => if b.1 = k then (k, v) else b))

/-- Burst `k` of channel `c` is complete. -/
def Dev.burstDone (d : Dev) (c k : Nat) : Dev := d.onBursts c (fun l => l.filter (fun (b : Nat × Nat) => b.1 != k))

/-- Burst `k` was answered without being complete, and a halt begins unless one has begun (R482). -/
def Dev.burstFails (d : Dev) (c k : Nat) (f : DmaFault) : Dev := (d.burstPhase c k 2).dmaHalt c f

/-- The code under which the mirror frames of burst `k` of channel `c` wait for their acknowledgement: above every operation
number. -/
def burstOp (c k : Nat) : Nat := 2 ^ 64 + c * 2 ^ 32 + k

/-- What the read of burst `k` answers: its bytes, or the fault (R478, R482). `data` is the companion's answer, `corr` and `bad`
the words of fabric memory found corrected and uncorrectable. -/
def State.burstRead (s : State) (c : Nat) (m : DmaMove) (k : Nat) (data : Option (List Nat)) (corr bad : List Nat) :
    Dev × Except DmaFault (List Nat) :=
  let d := s.dev
  let a := m.src + k * m.unit
  let n := m.size k
  let err : Except DmaFault (List Nat) := .error { cause := hcREAD_ERROR, addr := a, space := m.srcSp, dir := 0 }
  if m.srcSp = spKCL then
    (d.dropReads (.dmaBurst c k), match data with
      | some bs => if bs.length = n then .ok bs else err
      | none => err)
  else if m.srcSp = spFMEM then
    let ua := (d.winHolder (faWindow a)).getD 0 * 2 ^ 30 + faOffset a
    let r := (d.memBytes .MEM_RD_BYTES ua n).memCheck ua n corr bad
    (r.1, if r.2 then err else .ok (memRead s.mem ua n))
  else if m.srcSp = spQSRAM then (d, .ok (d.qsramBytes a n))
  else
    let r := d.access (reqDMA c) (d.chan c).priv 8 a none
    match r.2 with
    | .pass row i => let x := r.1.readEff s.fuses row i; (x.1, .ok (leBytes 8 x.2))
    | .unmapped => (r.1, .ok (leBytes 8 0))
    | _ => (r.1, err)

/-- Runs of bytes written to fabric memory at local frame `f`, counted, mirrored or marked dirty (R382, R383, R478). -/
def Dev.burstMem (d : Dev) (mem : SMap Byte) (c k f base : Nat) : List (Nat × List Nat) → Dev × SMap Byte
  | [] => (d, mem)
  | (o, bs) :: rest =>
    let off := faOffset base + o
    let ua := f * 2 ^ 30 + off
    let d := d.memBytes .MEM_WR_BYTES ua bs.length
    let st := d.fstate f
    let d := if d.frole f = 1 ∧ (st = fsACTIVE ∨ st = fsRESYNC) then d.mirrorPush f 16 (base + o) bs (some (burstOp c k)) none
      else if d.frole f = 1 ∧ st = fsDEGRADED then d.markDirty f off bs.length
      else d
    d.burstMem (memWrite mem ua bs) c k f base rest

/-- What burst `k` writes, once its bytes are read (R478, R480). -/
def State.burstWrite (s : State) (c : Nat) (m : DmaMove) (k : Nat) (runs : List (Nat × List Nat)) : State :=
  let d := s.dev
  let first := match runs with | r :: _ => m.dst + r.1 | [] => m.dst
  let fault (cause st : Nat) : DmaFault := { cause := cause, addr := first, space := m.dstSp, dir := 1, status := st }
  match runs with
  | [] => { s with dev := d.burstDone c k }
  | (o, bs) :: _ =>
    if m.dstSp = spKCL then
      let d := runs.foldl (fun d r => d.emit (.kclWrite (reqDMA c) ((m.dst + r.1) % 2 ^ 64) r.2)) d
      { s with dev := d.burstPhase c k 1 }
    else if m.dstSp = spFMEM then
      let f := (d.winHolder (faWindow m.dst)).getD 0
      let st := d.dmaMemStatus true m.dst true
      let st := if st = msOK ∧ (runs.any (fun r => d.chanFailed (f * 2 ^ 30 + faOffset m.dst + r.1) r.2.length)) = true
        then msUNCORRECTABLE else st
      if st ≠ msOK then { s with dev := d.burstFails c k (fault hcFMEM_STATUS st) }
      else
        let r := d.burstMem s.mem c k f m.dst runs
        { s with dev := r.1.burstPhase c k 1, mem := r.2 }
    else if m.dstSp = spQSRAM then
      let d := runs.foldl (fun d r => (List.range r.2.length).foldl (fun d i => d.qsramByte (m.dst + r.1 + i) (r.2.getD i 0)) d) d
      { s with dev := d.burstDone c k }
    else
      let r := d.access (reqDMA c) (d.chan c).priv 8 (m.dst + o) (some (leNat bs))
      match r.2 with
      | .pass row i => ({ s with dev := r.1.burstDone c k } : State).regWrite (reqDMA c) row i (leNat bs)
      | .unmapped => { s with dev := r.1.burstDone c k }
      | _ => { s with dev := r.1.burstFails c k (fault hcWRITE_ERROR 0) }

/-- The read of burst `k` is answered: what it read is written, unless the program is being aborted (R484). -/
def State.burstData (s : State) (c : Nat) (m : DmaMove) (k : Nat) (data : Option (List Nat)) (corr bad : List Nat) : State :=
  let r := s.burstRead c m k data corr bad
  let s := { s with dev := r.1 }
  if r.1.chanState c = dcABORTING then { s with dev := r.1.burstPhase c k 2 }
  else match r.2 with
    | .error f => { s with dev := r.1.burstFails c k f }
    | .ok bs => s.burstWrite c m k (m.writes k bs)

/-- Whether a write of burst `k` to fabric memory is visible (R380 to R383). -/
def Dev.burstVisible (d : Dev) (c : Nat) (m : DmaMove) (k : Nat) : Bool :=
  !d.fpushes.any (fun (p : MPush) => p.op == some (burstOp c k)) &&
  !(match d.winHolder (faWindow m.dst) with
    | some f => d.frole f == 1 && d.fstate f == fsDEGRADED && d.flag .h_fm_hold f
    | none => false)

/-- The write of burst `k` is answered (R481, R482). -/
def Dev.burstAnswer (d : Dev) (c : Nat) (m : DmaMove) (k : Nat) (ok : Bool) : Dev :=
  if m.dstSp = spFMEM then (if d.burstVisible c m k then d.burstDone c k else d)
  else if ok then d.burstDone c k
  else d.burstFails c k { cause := hcWRITE_ERROR, addr := m.dst + k * m.unit, space := m.dstSp, dir := 1 }

/-- A response of burst `k` of channel `c` arrives; further bursts are issued, and a MOVE whose bursts are complete ends. -/
def State.burstResponse (s : State) (c k : Nat) (data : Option (List Nat)) (corr bad : List Nat) : State :=
  let s := match (s.dev.chan c).move with
    | none => s
    | some m =>
      match m.bursts.find? (fun (b : Nat × Nat) => b.1 == k) with
      | some (_, 0) => s.burstData c m k data corr bad
      | some (_, 1) => { s with dev := s.dev.burstAnswer c m k data.isSome }
      | _ => s
  s.onDev (fun d => (d.dmaServe dmaRounds).dmaMoveEnd c)

/-- DMA_BURST_RESPONSE: the answer of a read, with its bytes, or of a write; none for an error completion. -/
def execDmaBurstResponse (chan : Fin 32) (burst : BitVec 32) (data : Option (List Byte)) (corr bad : List (BitVec 39)) (s : State) :
    Host.Outcome State Fault Refusal :=
  (s.burstResponse chan burst.toNat (data.map (fun l => l.map (·.toNat))) (corr.map (·.toNat)) (bad.map (·.toNat))).settled

/-! ### Reads that end in an error, and link retraining (R546, R548) -/

/-- A read over the KCL ends in an error completion: its requester sees it in its own terms (R546). -/
def State.readFails (s : State) (p : KPurpose) : State :=
  match p with
  | .head q => if h : q < 512 then s.onDev (fun d => d.lineDone (.head ⟨q, h⟩) none) else s
  | .crHead q => if h : q < 512 then s.onDev (fun d => d.lineDone (.crHead ⟨q, h⟩) none) else s
  | .ringHead => s.onDev (fun d => d.lineDone .ringHead none)
  | .dumpHead => s.onDev (fun d => d.lineDone .dumpHead none)
  | .mcEntry q g => s.onDev (fun d => d.mcEntryDone q g none)
  | .stencil q n => s.onDev (fun d => d.stencilDone q n none)
  | .collImage path => s.onDev (fun d => d.collLoadEnd path none)
  | .wraImage path => s.onDev (fun d => d.descLoadEnd path none none)
  | .progImage h => s.onDev (fun d => d.progLoadEnd h none)
  | .dmaBurst c k => s.burstResponse c k none [] []
  | .sec => s.onDev (fun d => d.dropReads p)

/-- KCL_READ_TIMEOUT: the `k`-th outstanding read is not answered in time (R546). -/
def execKclReadTimeout (k : Fin 256) (s : State) : Host.Outcome State Fault Refusal :=
  match (s.dev.reads.filter (fun (r : KRead) => r.ext))[k.val]? with
  | none => s.settled
  | some r => ((s.onDev (fun d => d.raise .KCL_READ_TIMEOUT d.pathDevice [.d r.addr, .h r.req])).readFails r.purpose).settled

/-- The DMA bursts whose companion write has no answer yet: channel and burst. -/
def Dev.kclWrites (d : Dev) : List (Nat × Nat) :=
  (d.dma.entries.map (fun e => match e.2.move with
    | some m => if m.dstSp = spKCL then (m.bursts.filter (fun (b : Nat × Nat) => b.2 == 1)).map (fun (b : Nat × Nat) => (e.1, b.1)) else []
    | none => [])).flatten

/-- The replay of a flit has failed 16 times: the link retrains, and every request in flight ends in an error completion, those
of the record ring and of the DMA engine among them (R548); the record's cause is free. -/
def State.replayFail (s : State) : State :=
  let d := s.dev
  if !d.domainOn 10 then s
  else
    let rs := (d.reads.filter (fun (r : KRead) => r.ext)).map (fun (r : KRead) => r.purpose)
    let ws := d.kclWrites
    let ring := !d.ringPend.isEmpty
    let x := d.draw
    let d := x.2.setMany [(.kcl_status_retrain_count, 0, d.get .kcl_status_retrain_count + 1),
      (.h_kcl_full, 0, b2n (d.get .kcl_status_width == 8)),
      (.h_kcl_train, 0, if d.get .h_kcl_train = 0 then 1 else d.get .h_kcl_train)]
    let d := d.raise .KCL_RETRAIN d.pathDevice [.h x.1, .h (rs.length + ws.length + b2n ring)]
    let d := if ring then d.ringAnswer false else d
    let s := { s with dev := d }
    let s := rs.foldl (fun s p => s.readFails p) s
    ws.foldl (fun s w => s.burstResponse w.1 w.2 none [] []) s

/-- KCL_REPLAY_FAIL. -/
def execKclReplayFail (s : State) : Host.Outcome State Fault Refusal := s.replayFail.settled

end Sys2Proof.Machine
end

