-- ==== Sys2Proof/Machine/Dispatch.lean ====
section
/-! DEFINITION. One arm per command: each calls the meaning of its command. -/

namespace Sys2Proof.Machine

/-- The effect of a command on everything but the queue. -/
def exec (i : Instr) (s : State) : Host.Outcome State Fault Refusal :=
  match i with
  | .regWrite m size addr v => Sys2Proof.Machine.execRegWrite m size addr v s
  | .regReadRefused m size addr => Sys2Proof.Machine.execRegReadRefused m size addr s
  | .d2dFlitUncorr link => Sys2Proof.Machine.execD2dFlitUncorr link s
  | .d2dReplayResult link good => Sys2Proof.Machine.execD2dReplayResult link good s
  | .d2dCorr link => Sys2Proof.Machine.execD2dCorr link s
  | .pdCmdNop m domain => Sys2Proof.Machine.execPdCmdNop m domain s
  | .pdCmdOn m domain => Sys2Proof.Machine.execPdCmdOn m domain s
  | .pdCmdOff m domain => Sys2Proof.Machine.execPdCmdOff m domain s
  | .pdSwitchDone domain trained => Sys2Proof.Machine.execPdSwitchDone domain trained s
  | .lpddrPatrolScrub chan corr bad => Sys2Proof.Machine.execLpddrPatrolScrub chan corr bad s
  | .sramScrubVisit fid cell => Sys2Proof.Machine.execSramScrubVisit fid cell s
  | .bgOverrun activity => Sys2Proof.Machine.execBgOverrun activity s
  | .sysFabricPosWrite m v => Sys2Proof.Machine.execSysFabricPosWrite m v s
  | .sysFabricSizeWrite m v => Sys2Proof.Machine.execSysFabricSizeWrite m v s
  | .sysFabricCoordWrite m v => Sys2Proof.Machine.execSysFabricCoordWrite m v s
  | .portCfgWrite m port v => Sys2Proof.Machine.execPortCfgWrite m port v s
  | .pinEntryRelease bundle entry => Sys2Proof.Machine.execPinEntryRelease bundle entry s
  | .swapWaitExpiry port => Sys2Proof.Machine.execSwapWaitExpiry port s
  | .portStencilWrite m port w v => Sys2Proof.Machine.execPortStencilWrite m port w v s
  | .bringupTimeout port => Sys2Proof.Machine.execBringupTimeout port s
  | .ringSweepEnd port ring dips => Sys2Proof.Machine.execRingSweepEnd port ring dips s
  | .ringToneCheck port ring tones => Sys2Proof.Machine.execRingToneCheck port ring tones s
  | .ringAcquireSettled port ring setting lockError => Sys2Proof.Machine.execRingAcquireSettled port ring setting lockError s
  | .ringAcquireTimeout port ring => Sys2Proof.Machine.execRingAcquireTimeout port ring s
  | .ringLightLost port ring => Sys2Proof.Machine.execRingLightLost port ring s
  | .ringLightReturn port ring => Sys2Proof.Machine.execRingLightReturn port ring s
  | .ringHoldResweep port ring => Sys2Proof.Machine.execRingHoldResweep port ring s
  | .ringRelockMoveDone port ring => Sys2Proof.Machine.execRingRelockMoveDone port ring s
  | .ringRailReached port ring setting => Sys2Proof.Machine.execRingRailReached port ring setting s
  | .recalVisit port ring tones => Sys2Proof.Machine.execRecalVisit port ring tones s
  | .ringCmdNop m port ring => Sys2Proof.Machine.execRingCmdNop m port ring s
  | .ringCmdOff m port ring => Sys2Proof.Machine.execRingCmdOff m port ring s
  | .ringCmdRestart m port ring => Sys2Proof.Machine.execRingCmdRestart m port ring s
  | .ringCmdRetry m port ring => Sys2Proof.Machine.execRingCmdRetry m port ring s
  | .optEngCtrlWrite m engine v => Sys2Proof.Machine.execOptEngCtrlWrite m engine v s
  | .ffReport engine report => Sys2Proof.Machine.execFfReport engine report s
  | .ffLost engine => Sys2Proof.Machine.execFfLost engine s
  | .optLaneMapWrite m port v => Sys2Proof.Machine.execOptLaneMapWrite m port v s
  | .laneTxArm m port v => Sys2Proof.Machine.execLaneTxArm m port v s
  | .laneRxArm m port v => Sys2Proof.Machine.execLaneRxArm m port v s
  | .laneTxSwitch port => Sys2Proof.Machine.execLaneTxSwitch port s
  | .laneRxSwitch port => Sys2Proof.Machine.execLaneRxSwitch port s
  | .rxPowerAverage port lane avg => Sys2Proof.Machine.execRxPowerAverage port lane avg s
  | .marginEpisodeEnd port lane alarm => Sys2Proof.Machine.execMarginEpisodeEnd port lane alarm s
  | .pwrReqSend port lane down => Sys2Proof.Machine.execPwrReqSend port lane down s
  | .pwrReqExpiry port lane => Sys2Proof.Machine.execPwrReqExpiry port lane s
  | .lcPwrReq port lane down avg => Sys2Proof.Machine.execLcPwrReq port lane down avg s
  | .lcPwrAns port lane granted trim => Sys2Proof.Machine.execLcPwrAns port lane granted trim s
  | .lasEngCtrlWrite m engine v => Sys2Proof.Machine.execLasEngCtrlWrite m engine v s
  | .octetLight octet => Sys2Proof.Machine.execOctetLight octet s
  | .dfbLit octet slot b power => Sys2Proof.Machine.execDfbLit octet slot b power s
  | .dfbBiasLoop octet slot b power move => Sys2Proof.Machine.execDfbBiasLoop octet slot b power move s
  | .dfbMonitor octet slot b power => Sys2Proof.Machine.execDfbMonitor octet slot b power s
  | .dfbWearOut octet slot => Sys2Proof.Machine.execDfbWearOut octet slot s
  | .dfbFail octet slot => Sys2Proof.Machine.execDfbFail octet slot s
  | .wearRecordWrite ok => Sys2Proof.Machine.execWearRecordWrite ok s
  | .lasOctCmdNop m octet slot => Sys2Proof.Machine.execLasOctCmdNop m octet slot s
  | .lasOctCmdSpare m octet slot => Sys2Proof.Machine.execLasOctCmdSpare m octet slot s
  | .lasOctCmdPark m octet slot => Sys2Proof.Machine.execLasOctCmdPark m octet slot s
  | .lasOctCmdAbort m octet slot => Sys2Proof.Machine.execLasOctCmdAbort m octet slot s
  | .spareSeqStart octet => Sys2Proof.Machine.execSpareSeqStart octet s
  | .lcSpareReq port seq back slot spare cw => Sys2Proof.Machine.execLcSpareReq port seq back slot spare cw s
  | .lcSpareAck port seq result => Sys2Proof.Machine.execLcSpareAck port seq result s
  | .spareAckTimeout port => Sys2Proof.Machine.execSpareAckTimeout port s
  | .primaryRampDownDone octet => Sys2Proof.Machine.execPrimaryRampDownDone octet s
  | .standbyLitTimeout octet => Sys2Proof.Machine.execStandbyLitTimeout octet s
  | .lcSpareReady port seq slot avg => Sys2Proof.Machine.execLcSpareReady port seq slot avg s
  | .spareReadyTimeout port => Sys2Proof.Machine.execSpareReadyTimeout port s
  | .spareResumeTimeout port => Sys2Proof.Machine.execSpareResumeTimeout port s
  | .xprCmdNop m c => Sys2Proof.Machine.execXprCmdNop m c s
  | .xprCmdSetup m c => Sys2Proof.Machine.execXprCmdSetup m c s
  | .xprCmdTeardown m c => Sys2Proof.Machine.execXprCmdTeardown m c s
  | .xprCmdReweight m c => Sys2Proof.Machine.execXprCmdReweight m c s
  | .xprReady c => Sys2Proof.Machine.execXprReady c s
  | .xprActivate c => Sys2Proof.Machine.execXprActivate c s
  | .xprFree c => Sys2Proof.Machine.execXprFree c s
  | .xprInputMeasure c v held => Sys2Proof.Machine.execXprInputMeasure c v held s
  | .xprAmpFault c => Sys2Proof.Machine.execXprAmpFault c s
  | .xprCircCfgWrite m c v => Sys2Proof.Machine.execXprCircCfgWrite m c v s
  | .xprCircWeightWrite m c v => Sys2Proof.Machine.execXprCircWeightWrite m c v s
  | .lcExpressDecl port slot drop circuit device addPort => Sys2Proof.Machine.execLcExpressDecl port slot drop circuit device addPort s
  | .lcExpressWithdraw port cause slot circuit => Sys2Proof.Machine.execLcExpressWithdraw port cause slot circuit s
  | .fabricFrameRx port h => Sys2Proof.Machine.execFabricFrameRx port h s
  | .frameLastByte port payload crc => Sys2Proof.Machine.execFrameLastByte port payload crc s
  | .lcCredit port counts => Sys2Proof.Machine.execLcCredit port counts s
  | .lcId port b => Sys2Proof.Machine.execLcId port b s
  | .lcRev port b => Sys2Proof.Machine.execLcRev port b s
  | .lcAdmit port => Sys2Proof.Machine.execLcAdmit port s
  | .lcRestart port cause => Sys2Proof.Machine.execLcRestart port cause s
  | .lcTypeReserved port lcType => Sys2Proof.Machine.execLcTypeReserved port lcType s
  | .creditSend port => Sys2Proof.Machine.execCreditSend port s
  | .creditStall port cls => Sys2Proof.Machine.execCreditStall port cls s
  | .trainCodewordLock port tags skewNs => Sys2Proof.Machine.execTrainCodewordLock port tags skewNs s
  | .linkIdResend port => Sys2Proof.Machine.execLinkIdResend port s
  | .linkLockLoss port => Sys2Proof.Machine.execLinkLockLoss port s
  | .linkSilent port => Sys2Proof.Machine.execLinkSilent port s
  | .fecUncorrCodeword port => Sys2Proof.Machine.execFecUncorrCodeword port s
  | .fecDegrade port above => Sys2Proof.Machine.execFecDegrade port above s
  | .portCmdNop m port => Sys2Proof.Machine.execPortCmdNop m port s
  | .portCmdFence m port => Sys2Proof.Machine.execPortCmdFence m port s
  | .portCmdUnfence m port => Sys2Proof.Machine.execPortCmdUnfence m port s
  | .portCmdAdmit m port => Sys2Proof.Machine.execPortCmdAdmit m port s
  | .portCmdAccept m port => Sys2Proof.Machine.execPortCmdAccept m port s
  | .portCmdRetry m port => Sys2Proof.Machine.execPortCmdRetry m port s
  | .portCmdRestart m port => Sys2Proof.Machine.execPortCmdRestart m port s
  | .portCmdRebalance m port => Sys2Proof.Machine.execPortCmdRebalance m port s
  | .fwdCtrlWrite m v => Sys2Proof.Machine.execFwdCtrlWrite m v s
  | .fwdAgeCtrlWrite m v => Sys2Proof.Machine.execFwdAgeCtrlWrite m v s
  | .fwdLearnWrite m port v => Sys2Proof.Machine.execFwdLearnWrite m port v s
  | .fwdLockNop m slot bucket => Sys2Proof.Machine.execFwdLockNop m slot bucket s
  | .fwdLockAcquire m slot bucket => Sys2Proof.Machine.execFwdLockAcquire m slot bucket s
  | .fwdLockRelease m slot bucket => Sys2Proof.Machine.execFwdLockRelease m slot bucket s
  | .fwdLockCommit m slot bucket => Sys2Proof.Machine.execFwdLockCommit m slot bucket s
  | .fwdCommitWrite m v => Sys2Proof.Machine.execFwdCommitWrite m v s
  | .fwdLockTimeout slot => Sys2Proof.Machine.execFwdLockTimeout slot s
  | .ageVisit => Sys2Proof.Machine.execAgeVisit s
  | .ageRevisit => Sys2Proof.Machine.execAgeRevisit s
  | .mcastCmdNop m group => Sys2Proof.Machine.execMcastCmdNop m group s
  | .mcastCmdRead m group => Sys2Proof.Machine.execMcastCmdRead m group s
  | .mcastCmdWrite m group => Sys2Proof.Machine.execMcastCmdWrite m group s
  | .mcastCmdDone => Sys2Proof.Machine.execMcastCmdDone s
  | .waitQueueEnqueue inp cls t => Sys2Proof.Machine.execWaitQueueEnqueue inp cls t s
  | .creditInitSend port => Sys2Proof.Machine.execCreditInitSend port s
  | .schedDecision port cell => Sys2Proof.Machine.execSchedDecision port cell s
  | .frameTxEnd port cell => Sys2Proof.Machine.execFrameTxEnd port cell s
  | .fencedDrain port cls => Sys2Proof.Machine.execFencedDrain port cls s
  | .xbarIqWrite m port half v => Sys2Proof.Machine.execXbarIqWrite m port half v s
  | .xbarEqWrite m port half v => Sys2Proof.Machine.execXbarEqWrite m port half v s
  | .xbarIntQuotaWrite m v => Sys2Proof.Machine.execXbarIntQuotaWrite m v s
  | .xbarMirrorResWrite m v => Sys2Proof.Machine.execXbarMirrorResWrite m v s
  | .xbarPortModeWrite m port v => Sys2Proof.Machine.execXbarPortModeWrite m port v s
  | .serviceModeEnd port => Sys2Proof.Machine.execServiceModeEnd port s
  | .xbarMirCfgWrite m session v => Sys2Proof.Machine.execXbarMirCfgWrite m session v s
  | .xbarMirDestWrite m session v => Sys2Proof.Machine.execXbarMirDestWrite m session v s
  | .schedPortCfgWrite m port v => Sys2Proof.Machine.execSchedPortCfgWrite m port v s
  | .schedShaperWrite m port cls v => Sys2Proof.Machine.execSchedShaperWrite m port cls v s
  | .schedPolCfgWrite m pol v => Sys2Proof.Machine.execSchedPolCfgWrite m pol v s
  | .schedPolBurstWrite m pol v => Sys2Proof.Machine.execSchedPolBurstWrite m pol v s
  | .schedPolMapWrite m port half v => Sys2Proof.Machine.execSchedPolMapWrite m port half v s
  | .gateEntryChange port => Sys2Proof.Machine.execGateEntryChange port s
  | .gateChangeRequest m port v => Sys2Proof.Machine.execGateChangeRequest m port v s
  | .gateListSwap port => Sys2Proof.Machine.execGateListSwap port s
  | .schedGateDataWrite m port v => Sys2Proof.Machine.execSchedGateDataWrite m port v s
  | .collCmdNop m ctx => Sys2Proof.Machine.execCollCmdNop m ctx s
  | .collCmdLoad m ctx => Sys2Proof.Machine.execCollCmdLoad m ctx s
  | .collCmdUnload m ctx => Sys2Proof.Machine.execCollCmdUnload m ctx s
  | .collCmdAbort m ctx => Sys2Proof.Machine.execCollCmdAbort m ctx s
  | .collLoadCheck path image => Sys2Proof.Machine.execCollLoadCheck path image s
  | .collStepOpen ctx => Sys2Proof.Machine.execCollStepOpen ctx s
  | .collContribIntake => Sys2Proof.Machine.execCollContribIntake s
  | .chunkVerdict ctx chunk ovr out => Sys2Proof.Machine.execChunkVerdict ctx chunk ovr out s
  | .collResultRelease ctx chunk => Sys2Proof.Machine.execCollResultRelease ctx chunk s
  | .collCommitDecide ctx => Sys2Proof.Machine.execCollCommitDecide ctx s
  | .collStepEnd ctx => Sys2Proof.Machine.execCollStepEnd ctx s
  | .collStepTimeout ctx => Sys2Proof.Machine.execCollStepTimeout ctx s
  | .collStepSlow ctx => Sys2Proof.Machine.execCollStepSlow ctx s
  | .collInnerTimeout ctx => Sys2Proof.Machine.execCollInnerTimeout ctx s
  | .cmbUnitNop m unit => Sys2Proof.Machine.execCmbUnitNop m unit s
  | .cmbRetireLane m unit lane => Sys2Proof.Machine.execCmbRetireLane m unit lane s
  | .cmbRestoreLane m unit => Sys2Proof.Machine.execCmbRestoreLane m unit s
  | .cmbUnitFenceCmd m unit => Sys2Proof.Machine.execCmbUnitFenceCmd m unit s
  | .cmbUnitUnfence m unit => Sys2Proof.Machine.execCmbUnitUnfence m unit s
  | .cmbClearStrikes m unit => Sys2Proof.Machine.execCmbClearStrikes m unit s
  | .cmbCtrlWrite m v => Sys2Proof.Machine.execCmbCtrlWrite m v s
  | .shadowCompare ctx step chunk err e1 e2 => Sys2Proof.Machine.execShadowCompare ctx step chunk err e1 e2 s
  | .shadowThirdDone ctx step chunk err e => Sys2Proof.Machine.execShadowThirdDone ctx step chunk err e s
  | .wraDescCmdNop m desc => Sys2Proof.Machine.execWraDescCmdNop m desc s
  | .wraDescCmdLoad m desc => Sys2Proof.Machine.execWraDescCmdLoad m desc s
  | .wraDescCmdUnload m desc => Sys2Proof.Machine.execWraDescCmdUnload m desc s
  | .wraDescLoadDone path image coefs => Sys2Proof.Machine.execWraDescLoadDone path image coefs s
  | .wraDescDrained desc => Sys2Proof.Machine.execWraDescDrained desc s
  | .wraPassStart work col ovr => Sys2Proof.Machine.execWraPassStart work col ovr s
  | .wraPassEnd work mm => Sys2Proof.Machine.execWraPassEnd work mm s
  | .gatherReqTake => Sys2Proof.Machine.execGatherReqTake s
  | .gatherRowsDone id corr bad => Sys2Proof.Machine.execGatherRowsDone id corr bad s
  | .wraTileNop m tile => Sys2Proof.Machine.execWraTileNop m tile s
  | .wraRetireCol m tile col => Sys2Proof.Machine.execWraRetireCol m tile col s
  | .wraRestoreCol m tile => Sys2Proof.Machine.execWraRestoreCol m tile s
  | .wraTileFence m tile => Sys2Proof.Machine.execWraTileFence m tile s
  | .wraTileUnfence m tile => Sys2Proof.Machine.execWraTileUnfence m tile s
  | .fmemCmdNop m frame => Sys2Proof.Machine.execFmemCmdNop m frame s
  | .fmemCmdMap m frame => Sys2Proof.Machine.execFmemCmdMap m frame s
  | .fmemCmdUnmap m frame => Sys2Proof.Machine.execFmemCmdUnmap m frame s
  | .fmemCmdResync m frame => Sys2Proof.Machine.execFmemCmdResync m frame s
  | .fmemCmdPromote m frame => Sys2Proof.Machine.execFmemCmdPromote m frame s
  | .fmemZeroingDone frame => Sys2Proof.Machine.execFmemZeroingDone frame s
  | .fmemFrameDrained frame => Sys2Proof.Machine.execFmemFrameDrained frame s
  | .fmemRequest => Sys2Proof.Machine.execFmemRequest s
  | .fmemAccessDone id corr bad => Sys2Proof.Machine.execFmemAccessDone id corr bad s
  | .mirrorPush => Sys2Proof.Machine.execMirrorPush s
  | .mirrorAck => Sys2Proof.Machine.execMirrorAck s
  | .mirrorKeepSend frame => Sys2Proof.Machine.execMirrorKeepSend frame s
  | .mirrorKeep => Sys2Proof.Machine.execMirrorKeep s
  | .mirrorDone => Sys2Proof.Machine.execMirrorDone s
  | .mirrorAckTimeout frame => Sys2Proof.Machine.execMirrorAckTimeout frame s
  | .mirrorOrphanTimeout frame => Sys2Proof.Machine.execMirrorOrphanTimeout frame s
  | .fmemDegradedAnswer frame => Sys2Proof.Machine.execFmemDegradedAnswer frame s
  | .resyncPush frame => Sys2Proof.Machine.execResyncPush frame s
  | .mr4Poll chan rate hot => Sys2Proof.Machine.execMr4Poll chan rate hot s
  | .timeReqSend alt => Sys2Proof.Machine.execTimeReqSend alt s
  | .timeReqRx => Sys2Proof.Machine.execTimeReqRx s
  | .timeRespRx => Sys2Proof.Machine.execTimeRespRx s
  | .timeExchangeLost alt => Sys2Proof.Machine.execTimeExchangeLost alt s
  | .timeAltWaitExpiry => Sys2Proof.Machine.execTimeAltWaitExpiry s
  | .timeParentWrite m v => Sys2Proof.Machine.execTimeParentWrite m v s
  | .timeCtrlWrite m v => Sys2Proof.Machine.execTimeCtrlWrite m v s
  | .holdoverAgeTick => Sys2Proof.Machine.execHoldoverAgeTick s
  | .ppsInEdge quarter => Sys2Proof.Machine.execPpsInEdge quarter s
  | .ppsLoss => Sys2Proof.Machine.execPpsLoss s
  | .ppsOutEdge => Sys2Proof.Machine.execPpsOutEdge s
  | .clk10mLoss => Sys2Proof.Machine.execClk10mLoss s
  | .trigEdge k => Sys2Proof.Machine.execTrigEdge k s
  | .trigCtrlWrite m k v => Sys2Proof.Machine.execTrigCtrlWrite m k v s
  | .capEdge c falling quarter => Sys2Proof.Machine.execCapEdge c falling quarter s
  | .capPopRead m c => Sys2Proof.Machine.execCapPopRead m c s
  | .timeNowRead m => Sys2Proof.Machine.execTimeNowRead m s
  | .timeOffsetNsWrite m v => Sys2Proof.Machine.execTimeOffsetNsWrite m v s
  | .timeOffsetFracWrite m v => Sys2Proof.Machine.execTimeOffsetFracWrite m v s
  | .timeRateWrite m v => Sys2Proof.Machine.execTimeRateWrite m v s
  | .queueLineInvalidate l => Sys2Proof.Machine.execQueueLineInvalidate l s
  | .watchRefresh => Sys2Proof.Machine.execWatchRefresh s
  | .queueLineReadDone l line => Sys2Proof.Machine.execQueueLineReadDone l line s
  | .entryStart q => Sys2Proof.Machine.execEntryStart q s
  | .fenceEntryRetire q => Sys2Proof.Machine.execFenceEntryRetire q s
  | .cringHoldFlush q => Sys2Proof.Machine.execCringHoldFlush q s
  | .csqQCmdNop m q => Sys2Proof.Machine.execCsqQCmdNop m q s
  | .csqQCmdStop m q => Sys2Proof.Machine.execCsqQCmdStop m q s
  | .csqQCmdResume m q => Sys2Proof.Machine.execCsqQCmdResume m q s
  | .csqQCmdReset m q => Sys2Proof.Machine.execCsqQCmdReset m q s
  | .csqQCmdMapCommit m q => Sys2Proof.Machine.execCsqQCmdMapCommit m q s
  | .csqQCfgWrite m q v => Sys2Proof.Machine.execCsqQCfgWrite m q v s
  | .dxEnd q => Sys2Proof.Machine.execDxEnd q s
  | .dxNop q => Sys2Proof.Machine.execDxNop q s
  | .dxSet q => Sys2Proof.Machine.execDxSet q s
  | .dxSethi q => Sys2Proof.Machine.execDxSethi q s
  | .dxAdd q => Sys2Proof.Machine.execDxAdd q s
  | .dxAnd q => Sys2Proof.Machine.execDxAnd q s
  | .dxOr q => Sys2Proof.Machine.execDxOr q s
  | .dxShift q => Sys2Proof.Machine.execDxShift q s
  | .dxBr q => Sys2Proof.Machine.execDxBr q s
  | .dxLoop q => Sys2Proof.Machine.execDxLoop q s
  | .dxWaitToken q => Sys2Proof.Machine.execDxWaitToken q s
  | .dxWaitTime q => Sys2Proof.Machine.execDxWaitTime q s
  | .dxWaitDone q => Sys2Proof.Machine.execDxWaitDone q s
  | .dxWaitSatisfied q => Sys2Proof.Machine.execDxWaitSatisfied q s
  | .dxWaitLimitExpiry q => Sys2Proof.Machine.execDxWaitLimitExpiry q s
  | .dxSignal q => Sys2Proof.Machine.execDxSignal q s
  | .dxTblAcq q => Sys2Proof.Machine.execDxTblAcq q s
  | .dxTblStage q => Sys2Proof.Machine.execDxTblStage q s
  | .dxTblGet q => Sys2Proof.Machine.execDxTblGet q s
  | .dxTblCommit q => Sys2Proof.Machine.execDxTblCommit q s
  | .dxTblRel q => Sys2Proof.Machine.execDxTblRel q s
  | .dxTblLimit q => Sys2Proof.Machine.execDxTblLimit q s
  | .dxMcWrite q => Sys2Proof.Machine.execDxMcWrite q s
  | .dxCollLoad q => Sys2Proof.Machine.execDxCollLoad q s
  | .dxCollUnload q => Sys2Proof.Machine.execDxCollUnload q s
  | .dxCollLaunch q => Sys2Proof.Machine.execDxCollLaunch q s
  | .dxCollAbort q => Sys2Proof.Machine.execDxCollAbort q s
  | .dxCollState q => Sys2Proof.Machine.execDxCollState q s
  | .dxWraLoad q => Sys2Proof.Machine.execDxWraLoad q s
  | .dxWraUnload q => Sys2Proof.Machine.execDxWraUnload q s
  | .dxPortCmd q => Sys2Proof.Machine.execDxPortCmd q s
  | .dxPortCfg q => Sys2Proof.Machine.execDxPortCfg q s
  | .dxPortStencil q => Sys2Proof.Machine.execDxPortStencil q s
  | .dxPortRead q => Sys2Proof.Machine.execDxPortRead q s
  | .dxXprCfg q => Sys2Proof.Machine.execDxXprCfg q s
  | .dxXprWt q => Sys2Proof.Machine.execDxXprWt q s
  | .dxXprSetup q => Sys2Proof.Machine.execDxXprSetup q s
  | .dxXprTear q => Sys2Proof.Machine.execDxXprTear q s
  | .dxXprReweight q => Sys2Proof.Machine.execDxXprReweight q s
  | .dxXprRead q => Sys2Proof.Machine.execDxXprRead q s
  | .dxLaneOct q => Sys2Proof.Machine.execDxLaneOct q s
  | .dxLaneNext q => Sys2Proof.Machine.execDxLaneNext q s
  | .dxLaneCw q => Sys2Proof.Machine.execDxLaneCw q s
  | .dxRingCmd q => Sys2Proof.Machine.execDxRingCmd q s
  | .dxLaneRead q => Sys2Proof.Machine.execDxLaneRead q s
  | .dxTimeNow q => Sys2Proof.Machine.execDxTimeNow q s
  | .dxTimeStat q => Sys2Proof.Machine.execDxTimeStat q s
  | .dxTimeParent q => Sys2Proof.Machine.execDxTimeParent q s
  | .dxTrigPeriod q => Sys2Proof.Machine.execDxTrigPeriod q s
  | .dxTrigArm q => Sys2Proof.Machine.execDxTrigArm q s
  | .dxTrigOff q => Sys2Proof.Machine.execDxTrigOff q s
  | .dxCapPop q => Sys2Proof.Machine.execDxCapPop q s
  | .dxMemMap q => Sys2Proof.Machine.execDxMemMap q s
  | .dxMemUnmap q => Sys2Proof.Machine.execDxMemUnmap q s
  | .dxMemResync q => Sys2Proof.Machine.execDxMemResync q s
  | .dxMemPromote q => Sys2Proof.Machine.execDxMemPromote q s
  | .dxMemRead q => Sys2Proof.Machine.execDxMemRead q s
  | .dxDmaRun q => Sys2Proof.Machine.execDxDmaRun q s
  | .dxDmaAbort q => Sys2Proof.Machine.execDxDmaAbort q s
  | .dxDmaRead q => Sys2Proof.Machine.execDxDmaRead q s
  | .dxProgLoad q => Sys2Proof.Machine.execDxProgLoad q s
  | .dxProgLoadDone handle image => Sys2Proof.Machine.execDxProgLoadDone handle image s
  | .dxProgUnload q => Sys2Proof.Machine.execDxProgUnload q s
  | .dxProgPower q => Sys2Proof.Machine.execDxProgPower q s
  | .dmaCmdNop m chan => Sys2Proof.Machine.execDmaCmdNop m chan s
  | .dmaCmdRun m chan => Sys2Proof.Machine.execDmaCmdRun m chan s
  | .dmaCmdResume m chan => Sys2Proof.Machine.execDmaCmdResume m chan s
  | .dmaCmdAbort m chan => Sys2Proof.Machine.execDmaCmdAbort m chan s
  | .dmaMove chan fetch => Sys2Proof.Machine.execDmaMove chan fetch s
  | .dmaLoop chan fetch => Sys2Proof.Machine.execDmaLoop chan fetch s
  | .dmaWaitToken chan fetch => Sys2Proof.Machine.execDmaWaitToken chan fetch s
  | .dmaWaitEvent chan fetch => Sys2Proof.Machine.execDmaWaitEvent chan fetch s
  | .dmaWaitSatisfied chan => Sys2Proof.Machine.execDmaWaitSatisfied chan s
  | .dmaWaitLimit chan => Sys2Proof.Machine.execDmaWaitLimit chan s
  | .dmaSignalToken chan fetch => Sys2Proof.Machine.execDmaSignalToken chan fetch s
  | .dmaSignalEvent chan fetch => Sys2Proof.Machine.execDmaSignalEvent chan fetch s
  | .dmaEnd chan fetch => Sys2Proof.Machine.execDmaEnd chan fetch s
  | .dmaBurstResponse chan burst data corr bad => Sys2Proof.Machine.execDmaBurstResponse chan burst data corr bad s
  | .dmaProgramDone chan => Sys2Proof.Machine.execDmaProgramDone chan s
  | .dmaHaltSettled chan => Sys2Proof.Machine.execDmaHaltSettled chan s
  | .dmaAbortDone chan => Sys2Proof.Machine.execDmaAbortDone chan s
  | .snapshotTime more => Sys2Proof.Machine.execSnapshotTime more s
  | .snapNow m v => Sys2Proof.Machine.execSnapNow m v s
  | .dumpRecordWrite => Sys2Proof.Machine.execDumpRecordWrite s
  | .windowLatch => Sys2Proof.Machine.execWindowLatch s
  | .rasFifoDrain => Sys2Proof.Machine.execRasFifoDrain s
  | .rateLimitIntervalEnd => Sys2Proof.Machine.execRateLimitIntervalEnd s
  | .rasKeepClear m v => Sys2Proof.Machine.execRasKeepClear m v s
  | .rasTraceCfgWrite m v => Sys2Proof.Machine.execRasTraceCfgWrite m v s
  | .porstNAssert => Sys2Proof.Machine.execPorstNAssert s
  | .porstNRelease => Sys2Proof.Machine.execPorstNRelease s
  | .wrstNAssert => Sys2Proof.Machine.execWrstNAssert s
  | .sysResetNop m confirm => Sys2Proof.Machine.execSysResetNop m confirm s
  | .sysResetWarm m confirm => Sys2Proof.Machine.execSysResetWarm m confirm s
  | .sysResetCold m confirm => Sys2Proof.Machine.execSysResetCold m confirm s
  | .bootWatchdog => Sys2Proof.Machine.execBootWatchdog s
  | .confirmTimeout => Sys2Proof.Machine.execConfirmTimeout s
  | .bootRomStartDone straps mv => Sys2Proof.Machine.execBootRomStartDone straps mv s
  | .bootSelectDone => Sys2Proof.Machine.execBootSelectDone s
  | .bootVerifyDone img => Sys2Proof.Machine.execBootVerifyDone img s
  | .bootLoadDone readOk hashOk => Sys2Proof.Machine.execBootLoadDone readOk hashOk s
  | .bootRestoreDone recordBad => Sys2Proof.Machine.execBootRestoreDone recordBad s
  | .kclBootGo m v => Sys2Proof.Machine.execKclBootGo m v s
  | .secCmdNop m v => Sys2Proof.Machine.execSecCmdNop m v s
  | .secCmdWrite m v => Sys2Proof.Machine.execSecCmdWrite m v s
  | .secCmdVerify m v => Sys2Proof.Machine.execSecCmdVerify m v s
  | .secCmdPreferTrial m v => Sys2Proof.Machine.execSecCmdPreferTrial m v s
  | .secCmdConfirm m v => Sys2Proof.Machine.execSecCmdConfirm m v s
  | .secCmdSvnCommit m v => Sys2Proof.Machine.execSecCmdSvnCommit m v s
  | .secCmdRevoke m v => Sys2Proof.Machine.execSecCmdRevoke m v s
  | .secCmdAttest m v => Sys2Proof.Machine.execSecCmdAttest m v s
  | .secCmdExtend m v => Sys2Proof.Machine.execSecCmdExtend m v s
  | .kclReadTimeout k => Sys2Proof.Machine.execKclReadTimeout k s
  | .kclLaneDegrade failed => Sys2Proof.Machine.execKclLaneDegrade failed s
  | .kclReplayFail => Sys2Proof.Machine.execKclReplayFail s
  | .kclRetrainCmd m v => Sys2Proof.Machine.execKclRetrainCmd m v s
  | .kclRetrainDone pass => Sys2Proof.Machine.execKclRetrainDone pass s
  | .svcBindWrite m svc v => Sys2Proof.Machine.execSvcBindWrite m svc v s
  | .kclSvcAddrWrite m svc r v => Sys2Proof.Machine.execKclSvcAddrWrite m svc r v s
  | .svcLockHeld svc => Sys2Proof.Machine.execSvcLockHeld svc s
  | .svcLockLoss svc => Sys2Proof.Machine.execSvcLockLoss svc s
  | .svcFrameRx svc bytes => Sys2Proof.Machine.execSvcFrameRx svc bytes s
  | .pfcRx svc en quanta => Sys2Proof.Machine.execPfcRx svc en quanta s
  | .pfcPauseExpiry svc prio => Sys2Proof.Machine.execPfcPauseExpiry svc prio s
  | .pfcXoffSend svc prio => Sys2Proof.Machine.execPfcXoffSend svc prio s
  | .pfcXoffRepeat svc prio => Sys2Proof.Machine.execPfcXoffRepeat svc prio s
  | .pfcXonSend svc prio => Sys2Proof.Machine.execPfcXonSend svc prio s
  | .railOutOfRange rail mv sustained => Sys2Proof.Machine.execRailOutOfRange rail mv sustained s
  | .avsTrim rail mv ack alert => Sys2Proof.Machine.execAvsTrim rail mv ack alert s
  | .refclkLoss => Sys2Proof.Machine.execRefclkLoss s
  | .thermSample sensor temp => Sys2Proof.Machine.execThermSample sensor temp s
  | .i2cReadTherm => Sys2Proof.Machine.execI2cReadTherm s
  | .i2cReadStatus => Sys2Proof.Machine.execI2cReadStatus s
  | .i2cWriteStatus v => Sys2Proof.Machine.execI2cWriteStatus v s
  | .i2cBadCommand cmd data => Sys2Proof.Machine.execI2cBadCommand cmd data s
  | .tapExtest levels => Sys2Proof.Machine.execTapExtest levels s
  | .tapExtestPulse levels => Sys2Proof.Machine.execTapExtestPulse levels s
  | .tapExtestTrain levels => Sys2Proof.Machine.execTapExtestTrain levels s
  | .tapIdcode => Sys2Proof.Machine.execTapIdcode s
  | .tapBypass tdi => Sys2Proof.Machine.execTapBypass tdi s
  | .trstNAssert => Sys2Proof.Machine.execTrstNAssert s
  | .idleWordAccept port => Sys2Proof.Machine.execIdleWordAccept port s
  | .invalidUnitRx port => Sys2Proof.Machine.execInvalidUnitRx port s
  | .dfbRampUpDone octet slot b bias => Sys2Proof.Machine.execDfbRampUpDone octet slot b bias s
  | .primaryLitTimeout octet => Sys2Proof.Machine.execPrimaryLitTimeout octet s
  | .xprReweightDone c => Sys2Proof.Machine.execXprReweightDone c s
  | .mcWriteReadDone q group entry => Sys2Proof.Machine.execMcWriteReadDone q group entry s
  | .portStencilReadDone q port entry => Sys2Proof.Machine.execPortStencilReadDone q port entry s
  | .secCmdDone r => Sys2Proof.Machine.execSecCmdDone r s
  | .kclWriteResponse ok => Sys2Proof.Machine.execKclWriteResponse ok s
  | .resetRecordPeriodicUpdate => Sys2Proof.Machine.execResetRecordPeriodicUpdate s
  | .railReturnInRange rail trained => Sys2Proof.Machine.execRailReturnInRange rail trained s

end Sys2Proof.Machine
end

