-- ==== Sys2Proof/Machine/Tick.lean ====
section
/-! DEFINITION. One cycle of the 1.0 GHz time island, which is what a step on an empty queue does (log entry 2): the local counter
(R397), the CYCLES event (R488, R489), stalled crossings (R21), idle slots (R496), passed frames of the service ports (R555), learning requests served (R184), DMA bursts that found no place (R473), and what is due when a second ends (R89). -/

namespace Sys2Proof.Machine

/-- Whether the time island's clock runs: no POWER reset lasts, and its reference is there (R397, R568). -/
def Dev.timeRuns (d : Dev) : Bool := !d.flag .h_porst && (!d.flag .h_refclk || d.flag .h_ref_ext)

/-- Counters that count CYCLES add 1 (R489). -/
def Dev.tickCounters (d : Dev) : Dev := d.countBlocks 1 (fun _ => true)

/-- Whether a crossing out of a port island is stalled, told by bit `o` of a free value; an island whose domain is off has
none (R21, log entry 60). -/
def Dev.portStalled (d : Dev) (v o : Nat) : Bool := bit v o && d.domainOn (2 + o / 16)

/-- Whether a crossing out of an island of kind `k` is stalled, in the order of the events 0x1A8 to 0x1AF (R21, R489): port,
crossbar, combining, WRA, control, time, MSD, LPDDR channel. -/
def Dev.kindStalled (d : Dev) (v k : Nat) : Bool :=
  match k with
  | 0 => (List.range 64).any (d.portStalled v)
  | 1 => (List.range 4).any (fun q => bit v (64 + q) && d.domainOn (2 + q))
  | 2 => bit v 68 && d.domainOn 6
  | 3 => bit v 69 && d.domainOn 7
  | 4 => bit v 70 && d.domainOn 1
  | 5 => bit v 71
  | 6 => bit v 72 && d.domainOn 8
  | _ => bit v 73 && d.domainOn 9

/-- The stalled crossings of one nanosecond (R21). The spec gives the FIFOs between islands no size, so which of them are full
is a free value (DESIGN CHOICE, log entry 60). -/
def Dev.tickCrossings (d : Dev) : Dev :=
  let (v, d) := d.draw
  let d := d.countBlocks Ev.XING_STALL.num (fun b => b < 512 && d.portStalled v (b / 8))
  (List.range 8).foldl (fun d k => d.countBlocks (Ev.XING_STALL_PORT.num + k) (fun b => b == blkDevice && d.kindStalled v k)) d

/-- The class of an idle slot of port `n`: 1 WASTED, 2 FRONT_STARVED, 3 BACK_STARVED (R496). -/
def Dev.idleClass (d : Dev) (n : Nat) : Nat :=
  let held := (List.range 8).map (d.classState n)
  if d.fenced n then 1
  else if held.all (· == .empty) then 2
  else if held.all (fun h => h == .empty || h == .credit) then 3
  else 1

/-- The idle slots of a port for one nanosecond, 12 and 13 in turn (R496). -/
def Dev.tickPort (d : Dev) (n : Nat) : Dev :=
  if (d.sending.getOpt n).isSome then d
  else
    let half := d.get .h_slot_half n
    (d.set .h_slot_half n (1 - half)).slots n (d.idleClass n) (12 + half)

/-- One nanosecond of local time. -/
def Dev.tick (d : Dev) : Dev :=
  if !d.timeRuns then d
  else
    let d := (d.incr .h_local 0).tickCounters.tickCrossings
    let d := (d.holding .port_status_link_status lsADMITTED ++ d.holding .port_status_link_status lsTX_ONLY).foldl Dev.tickPort d
    (((d.svcDrain 0).svcDrain 1).pwrFlush.learnDrain).dmaServe dmaRounds

/-- A step on an empty queue. -/
def State.tick (s : State) : Host.Outcome State Fault Refusal := s.run Dev.tick

end Sys2Proof.Machine
end

