-- ==== Sys2Proof/Safety.lean ====
section
/-! DEFINITION. The terms in which statements about the block are made: what a command answers, what a companion write is and when it
gets through, what a command leaves as it was, and what every step keeps. -/

namespace Sys2Proof.Machine

/-! ### What a command answers -/

/-- Command `c` completes on `s`, in a state with `P`. -/
def Does (c : Instr) (s : State) (P : State → Prop) : Prop := ∃ t, exec c s = .next t ∧ P t

/-- `s` with device `d`, the records that `d` raised on their way (R509): memory, fuses and the queue are as they were. -/
def State.ends (s : State) (d : Dev) : State := { s with dev := d.flush }

/-- As `ends`, once the engines have taken in what `d` leaves for them. -/
def State.endsX (s : State) (d : Dev) : State := { s with dev := d.settle.flush }

/-- Fabric memory, fuses and the queue are as they were. -/
def KeepsStores (s t : State) : Prop := t.mem = s.mem ∧ t.fuses = s.fuses ∧ t.pending = s.pending

/-! ### Companion writes and the checks they meet (R585) -/

/-- The companion write a command is: its mark, the register, the copy, and the word; none for a command that is no write of one
register (REG_WRITE names its register by an address). -/
def writeOf (c : Instr) : Option (Mark × RegRow × Nat × Nat) :=
  match c with
  | .pdCmdNop m domain => some (m, rowSYS_PD_CMD, 0, 0 * 2 ^ 62 + domain)
  | .pdCmdOn m domain => some (m, rowSYS_PD_CMD, 0, 1 * 2 ^ 62 + domain)
  | .pdCmdOff m domain => some (m, rowSYS_PD_CMD, 0, 2 * 2 ^ 62 + domain)
  | .sysFabricPosWrite m v => some (m, rowSYS_FABRIC_POS, 0, v.toNat)
  | .sysFabricSizeWrite m v => some (m, rowSYS_FABRIC_SIZE, 0, v.toNat)
  | .sysFabricCoordWrite m v => some (m, rowSYS_FABRIC_COORD, 0, v.toNat)
  | .portCfgWrite m port v => some (m, rowPORT_CFG, port, v.toNat)
  | .portStencilWrite m port w v => some (m, stencilRow w, port, v.toNat)
  | .ringCmdNop m port ring => some (m, rowOPT_RING_CMD, ringIx port ring, 0)
  | .ringCmdOff m port ring => some (m, rowOPT_RING_CMD, ringIx port ring, 1)
  | .ringCmdRestart m port ring => some (m, rowOPT_RING_CMD, ringIx port ring, 2)
  | .ringCmdRetry m port ring => some (m, rowOPT_RING_CMD, ringIx port ring, 3)
  | .optEngCtrlWrite m engine v => some (m, rowOPT_ENG_CTRL, engine, v.toNat)
  | .optLaneMapWrite m port v => some (m, rowOPT_LANE_MAP, port, v.toNat)
  | .laneTxArm m port v => some (m, rowOPT_LANE_NEXT, port, setBit v.toNat 63)
  | .laneRxArm m port v => some (m, rowOPT_LANE_NEXT, port, setBit v.toNat 62)
  | .lasEngCtrlWrite m engine v => some (m, rowLAS_ENG_CTRL, engine, v.toNat)
  | .lasOctCmdNop m octet slot => some (m, rowLAS_OCT_CMD, octet, slot * 16 + 0)
  | .lasOctCmdSpare m octet slot => some (m, rowLAS_OCT_CMD, octet, slot * 16 + 1)
  | .lasOctCmdPark m octet slot => some (m, rowLAS_OCT_CMD, octet, slot * 16 + 2)
  | .lasOctCmdAbort m octet slot => some (m, rowLAS_OCT_CMD, octet, slot * 16 + 3)
  | .xprCmdNop m c => some (m, rowXPR_CIRC_CMD, c, 0)
  | .xprCmdSetup m c => some (m, rowXPR_CIRC_CMD, c, 1)
  | .xprCmdTeardown m c => some (m, rowXPR_CIRC_CMD, c, 2)
  | .xprCmdReweight m c => some (m, rowXPR_CIRC_CMD, c, 3)
  | .xprCircCfgWrite m c v => some (m, rowXPR_CIRC_CFG, c, v.toNat)
  | .xprCircWeightWrite m c v => some (m, rowXPR_CIRC_WEIGHT, c, v.toNat)
  | .portCmdNop m port => some (m, rowPORT_CMD, port, 0)
  | .portCmdFence m port => some (m, rowPORT_CMD, port, 1)
  | .portCmdUnfence m port => some (m, rowPORT_CMD, port, 2)
  | .portCmdAdmit m port => some (m, rowPORT_CMD, port, 3)
  | .portCmdAccept m port => some (m, rowPORT_CMD, port, 4)
  | .portCmdRetry m port => some (m, rowPORT_CMD, port, 5)
  | .portCmdRestart m port => some (m, rowPORT_CMD, port, 6)
  | .portCmdRebalance m port => some (m, rowPORT_CMD, port, 7)
  | .fwdCtrlWrite m v => some (m, rowFWD_CTRL, 0, v.toNat)
  | .fwdAgeCtrlWrite m v => some (m, rowFWD_AGE_CTRL, 0, v.toNat)
  | .fwdLearnWrite m port v => some (m, rowFWD_LEARN, port, v.toNat)
  | .fwdLockNop m slot bucket => some (m, rowFWD_LOCK_REQ, slot, lockWord 0 bucket.toNat)
  | .fwdLockAcquire m slot bucket => some (m, rowFWD_LOCK_REQ, slot, lockWord 1 bucket.toNat)
  | .fwdLockRelease m slot bucket => some (m, rowFWD_LOCK_REQ, slot, lockWord 2 bucket.toNat)
  | .fwdLockCommit m slot bucket => some (m, rowFWD_LOCK_REQ, slot, lockWord 3 bucket.toNat)
  | .fwdCommitWrite m v => some (m, rowFWD_COMMIT, 0, v.toNat)
  | .mcastCmdNop m group => some (m, rowMCAST_CMD, 0, mcastWord 0 group)
  | .mcastCmdRead m group => some (m, rowMCAST_CMD, 0, mcastWord 1 group)
  | .mcastCmdWrite m group => some (m, rowMCAST_CMD, 0, mcastWord 2 group)
  | .xbarIqWrite m port half v => some (m, rowXBAR_IQ, 2 * port + half, v.toNat)
  | .xbarEqWrite m port half v => some (m, rowXBAR_EQ, 2 * port + half, v.toNat)
  | .xbarIntQuotaWrite m v => some (m, rowXBAR_INT_QUOTA, 0, v.toNat)
  | .xbarMirrorResWrite m v => some (m, rowXBAR_MIRROR_RES, 0, v.toNat)
  | .xbarPortModeWrite m port v => some (m, rowXBAR_PORT_MODE, port, v.toNat)
  | .xbarMirCfgWrite m session v => some (m, rowXBAR_MIR_CFG, session, v.toNat)
  | .xbarMirDestWrite m session v => some (m, rowXBAR_MIR_DEST, session, v.toNat)
  | .schedPortCfgWrite m port v => some (m, rowSCHED_PORT_CFG, port, v.toNat)
  | .schedShaperWrite m port cls v => some (m, rowSCHED_SHAPER, 8 * port + cls, v.toNat)
  | .schedPolCfgWrite m pol v => some (m, rowSCHED_POL_CFG, pol, v.toNat)
  | .schedPolBurstWrite m pol v => some (m, rowSCHED_POL_BURST, pol, v.toNat)
  | .schedPolMapWrite m port half v => some (m, rowSCHED_POL_MAP, 2 * port + half, v.toNat)
  | .gateChangeRequest m port v => some (m, rowSCHED_GATE_CTRL, port, setBit v.toNat 9)
  | .schedGateDataWrite m port v => some (m, rowSCHED_GATE_DATA, port, v.toNat)
  | .collCmdNop m ctx => some (m, rowCOLL_LOAD_CMD, 0, collWord 0 ctx)
  | .collCmdLoad m ctx => some (m, rowCOLL_LOAD_CMD, 0, collWord 1 ctx)
  | .collCmdUnload m ctx => some (m, rowCOLL_LOAD_CMD, 0, collWord 2 ctx)
  | .collCmdAbort m ctx => some (m, rowCOLL_LOAD_CMD, 0, collWord 3 ctx)
  | .cmbUnitNop m unit => some (m, rowCMB_UNIT_CMD, unit, cmbWord 0 0)
  | .cmbRetireLane m unit lane => some (m, rowCMB_UNIT_CMD, unit, cmbWord 1 lane)
  | .cmbRestoreLane m unit => some (m, rowCMB_UNIT_CMD, unit, cmbWord 2 0)
  | .cmbUnitFenceCmd m unit => some (m, rowCMB_UNIT_CMD, unit, cmbWord 3 0)
  | .cmbUnitUnfence m unit => some (m, rowCMB_UNIT_CMD, unit, cmbWord 4 0)
  | .cmbClearStrikes m unit => some (m, rowCMB_UNIT_CMD, unit, cmbWord 5 0)
  | .cmbCtrlWrite m v => some (m, rowCMB_CTRL, 0, v.toNat)
  | .wraDescCmdNop m desc => some (m, rowWRA_DESC_CMD, 0, descWord 0 desc)
  | .wraDescCmdLoad m desc => some (m, rowWRA_DESC_CMD, 0, descWord 1 desc)
  | .wraDescCmdUnload m desc => some (m, rowWRA_DESC_CMD, 0, descWord 2 desc)
  | .wraTileNop m tile => some (m, rowWRA_TILE_CMD, tile, tileWord 0 0)
  | .wraRetireCol m tile col => some (m, rowWRA_TILE_CMD, tile, tileWord 1 col)
  | .wraRestoreCol m tile => some (m, rowWRA_TILE_CMD, tile, tileWord 2 0)
  | .wraTileFence m tile => some (m, rowWRA_TILE_CMD, tile, tileWord 3 0)
  | .wraTileUnfence m tile => some (m, rowWRA_TILE_CMD, tile, tileWord 4 0)
  | .fmemCmdNop m frame => some (m, rowFMEM_MAP_CMD, 0, fmemWord 0 frame)
  | .fmemCmdMap m frame => some (m, rowFMEM_MAP_CMD, 0, fmemWord 1 frame)
  | .fmemCmdUnmap m frame => some (m, rowFMEM_MAP_CMD, 0, fmemWord 2 frame)
  | .fmemCmdResync m frame => some (m, rowFMEM_MAP_CMD, 0, fmemWord 3 frame)
  | .fmemCmdPromote m frame => some (m, rowFMEM_MAP_CMD, 0, fmemWord 4 frame)
  | .timeParentWrite m v => some (m, rowTIME_PARENT, 0, v.toNat)
  | .timeCtrlWrite m v => some (m, rowTIME_CTRL, 0, v.toNat)
  | .trigCtrlWrite m k v => some (m, rowTIME_TRIG_CTRL, k, v.toNat)
  | .timeOffsetNsWrite m v => some (m, rowTIME_OFFSET_NS, 0, v.toNat)
  | .timeOffsetFracWrite m v => some (m, rowTIME_OFFSET_FRAC, 0, v.toNat)
  | .timeRateWrite m v => some (m, rowTIME_RATE, 0, v.toNat)
  | .csqQCmdNop m q => some (m, rowCSQ_Q_CMD, q, 0)
  | .csqQCmdStop m q => some (m, rowCSQ_Q_CMD, q, 1)
  | .csqQCmdResume m q => some (m, rowCSQ_Q_CMD, q, 2)
  | .csqQCmdReset m q => some (m, rowCSQ_Q_CMD, q, 3)
  | .csqQCmdMapCommit m q => some (m, rowCSQ_Q_CMD, q, 4)
  | .csqQCfgWrite m q v => some (m, rowCSQ_Q_CFG, q, v.toNat)
  | .dmaCmdNop m chan => some (m, rowDMA_CH_CMD, chan, 0)
  | .dmaCmdRun m chan => some (m, rowDMA_CH_CMD, chan, 1)
  | .dmaCmdResume m chan => some (m, rowDMA_CH_CMD, chan, 2)
  | .dmaCmdAbort m chan => some (m, rowDMA_CH_CMD, chan, 3)
  | .snapNow m v => some (m, rowPERF_SNAP_CTRL, 0, setBit v.toNat 0)
  | .rasKeepClear m v => some (m, rowRAS_CTRL, 0, setBit v.toNat 1)
  | .rasTraceCfgWrite m v => some (m, rowRAS_TRACE_CFG, 0, v.toNat)
  | .sysResetNop m confirm => some (m, rowSYS_RESET_CMD, 0, 0 * 2 ^ 62 + confirm.toNat)
  | .sysResetWarm m confirm => some (m, rowSYS_RESET_CMD, 0, 1 * 2 ^ 62 + confirm.toNat)
  | .sysResetCold m confirm => some (m, rowSYS_RESET_CMD, 0, 2 * 2 ^ 62 + confirm.toNat)
  | .kclBootGo m v => some (m, rowSEC_BOOT_CTRL, 0, setBit v.toNat 0)
  | .secCmdNop m v => some (m, rowSEC_CMD, 0, 0 * 2 ^ 60 + v.toNat)
  | .secCmdWrite m v => some (m, rowSEC_CMD, 0, 1 * 2 ^ 60 + v.toNat)
  | .secCmdVerify m v => some (m, rowSEC_CMD, 0, 2 * 2 ^ 60 + v.toNat)
  | .secCmdPreferTrial m v => some (m, rowSEC_CMD, 0, 3 * 2 ^ 60 + v.toNat)
  | .secCmdConfirm m v => some (m, rowSEC_CMD, 0, 4 * 2 ^ 60 + v.toNat)
  | .secCmdSvnCommit m v => some (m, rowSEC_CMD, 0, 5 * 2 ^ 60 + v.toNat)
  | .secCmdRevoke m v => some (m, rowSEC_CMD, 0, 6 * 2 ^ 60 + v.toNat)
  | .secCmdAttest m v => some (m, rowSEC_CMD, 0, 7 * 2 ^ 60 + v.toNat)
  | .secCmdExtend m v => some (m, rowSEC_CMD, 0, 8 * 2 ^ 60 + v.toNat)
  | .kclRetrainCmd m v => some (m, rowKCL_CTRL, 0, setBit v.toNat 16)
  | .svcBindWrite m svc v => some (m, rowKCL_SVC_CFG, svc, v.toNat)
  | .kclSvcAddrWrite m svc r v => some (m, svcAddrRow r, svc, v.toNat)
  | _ => none

/-- A companion access to copy `i` of register `r` gets past the link and checks 4 and 5: the link is trained, the boot has reached
READY or the register lies in SYS or SEC, and the domain of the copy is on. -/
abbrev Dev.reaches (d : Dev) (r : RegRow) (i : Nat) : Prop :=
  d.get .h_kcl_train = 0 ∧ (d.ready = true ∨ bootBlock (r.addr i) = true) ∧ d.offDomain r.dom i = none

/-- Whether the write that command `c` is passes all of its checks: it is marked FABRIC, the register is reached, and no field is
refused. -/
def Dev.accepts (d : Dev) (c : Instr) : Bool :=
  match writeOf c with
  | some (m, r, i, v) => m == .fabric && decide (d.reaches r i) && (d.refusedFields r i v).isEmpty
  | none => false

/-- Command `c` answers the next state of `s` with device `d`, its records on their way, and taken in by the engines first where the
command moves frames or steps. -/
def Ends (c : Instr) (s : State) (d : Dev) : Prop := exec c s = .next (s.ends d) ∨ exec c s = .next (s.endsX d)

/-- The registers whose write does more than place its fields, by the address of the first copy. -/
def specialBases : List Nat :=
  [rowSYS_FABRIC_SIZE, rowSYS_FABRIC_COORD, rowSYS_PD_CMD, rowSYS_RESET_CMD, rowSEC_CMD, rowTIME_CTRL, rowTIME_PARENT, rowTIME_OFFSET_NS,
   rowTIME_OFFSET_FRAC, rowTIME_RATE, rowTIME_TRIG_CTRL, rowTIME_ALIGN, rowPERF_SNAP_TIME, rowFWD_LOCK_STAGE, rowXBAR_PORT_MIRROR,
   rowPERF_SNAP_CTRL, rowPERF_WIN_CTRL, rowRAS_CTRL, rowRAS_TRACE_CFG,
   rowCSQ_Q_CFG, rowCSQ_Q_CMD, rowCSQ_QSRAM, rowDMA_CH_CMD, rowPORT_CFG, rowPORT_CMD, rowPORT_STENCIL_0, rowPORT_STENCIL_1,
   rowPORT_STENCIL_2, rowPORT_STENCIL_3, rowXBAR_IQ, rowXBAR_EQ, rowXBAR_INT_QUOTA, rowXBAR_MIRROR_RES, rowXBAR_MIR_CFG,
   rowXBAR_MIR_DEST, rowSCHED_PORT_CFG, rowSCHED_SHAPER, rowSCHED_POL_CFG, rowSCHED_POL_BURST, rowSCHED_POL_MAP, rowSCHED_GATE_CTRL,
   rowSCHED_GATE_DATA, rowSCHED_GATE_ADMIN, rowSCHED_GATE_BASE, rowFWD_CTRL, rowFWD_LEARN, rowFWD_LOCK_REQ, rowFWD_COMMIT,
   rowMCAST_CMD, rowCOLL_LOAD_CMD, rowCMB_CTRL, rowCMB_UNIT_CMD, rowWRA_DESC_CMD, rowWRA_TILE_CMD, rowFMEM_MAP_CMD, rowOPT_ENG_CTRL,
   rowOPT_RING_CMD, rowOPT_LANE_MAP, rowOPT_LANE_NEXT, rowOPT_LANE_SWITCH_CW, rowLAS_ENG_CTRL, rowLAS_OCT_CMD, rowXPR_CIRC_CFG,
   rowXPR_CIRC_WEIGHT, rowXPR_CIRC_CMD, rowKCL_CTRL, rowKCL_SVC_CFG, rowKCL_SVC_MAC, rowKCL_SVC_PEER, rowKCL_SVC_VLAN].map (·.base)

/-- The commands that write fabric memory, or may lead to a reset, which does not preserve it (R521). -/
def writesMemory (c : Instr) : Bool :=
  match c with
  | .fmemCmdMap _ _ | .dxMemMap _ | .fmemAccessDone _ _ _ | .mirrorPush | .dmaBurstResponse _ _ _ _ _ | .kclReadTimeout _ | .kclReplayFail
  | .regWrite _ _ _ _ | .porstNAssert | .wrstNAssert | .sysResetWarm _ _ | .sysResetCold _ _ | .bootWatchdog | .confirmTimeout
  | .thermSample _ _ | .railOutOfRange _ _ _ => true
  | _ => false

/-- The answer to a write that is taken; the device once a write has been answered without an error, and with one. -/
def okReply : List Emit := [.reply false 0]
def Dev.ok (d : Dev) : Dev := d.emit (.reply false 0)
def Dev.err (d : Dev) : Dev := d.emit (.reply true 0)

/-! ### Link-control frames -/

/-- A link-control frame is processed on port `n` now: the link is past TRAIN, and fewer than eight have been processed in this
microsecond (R154). -/
def Dev.lcFits (d : Dev) (n : Nat) : Bool :=
  decide (lsIDENTIFY ≤ d.linkStatus n) && (d.get .h_lc_us n != d.localNs / 1000 || decide (d.get .h_lc_count n < 8))

/-- The device that has counted a link-control frame on port `n`, which ends a hunt (R148, R154). -/
def Dev.lcGot (d : Dev) (n : Nat) : Dev :=
  let used := if d.get .h_lc_us n = d.localNs / 1000 then d.get .h_lc_count n else 0
  (d.set .h_hunting n 0).setMany [(.h_lc_us, n, d.localNs / 1000), (.h_lc_count, n, used + 1)]

/-! ### Instructions of a running entry -/

/-- Entry `e` runs in queue `q`, blocked by no WAIT, and its next instruction is the word `w` at index `i`, of opcode `op`. -/
abbrev Dev.fetches (d : Dev) (q op w i : Nat) (e : Entry) : Prop :=
  (d.queue q).run = some e ∧ e.wait = none ∧ e.pc = i ∧ i < e.prog.length ∧ e.prog.getD i 0 = w ∧ wOp w = op

/-- The cost of an instruction (R460 to R467). -/
def wCost (w : Nat) : Nat := match dspec w with | some s => s.cost | none => 0

/-- The device that has charged the cost of `w` to the entry of queue `q` (R435). -/
def Dev.charged (d : Dev) (q w : Nat) : Dev :=
  (d.onRun q (fun e => { e with spent := e.spent + wCost w })).qCount q .ISSUE (wCost w)

/-- As `fetches`, and the budget covers its cost (R435). -/
abbrev Dev.issues (d : Dev) (q op w i : Nat) (e : Entry) : Prop := d.fetches q op w i e ∧ e.spent + wCost w ≤ e.budget

/-- The object of `w`, b + k, is `v`: in its range and, where b is a register, allowed by the queue's map (R445, R455); 0 of an
instruction without an object. -/
def Dev.mayUse (d : Dev) (q w : Nat) (e : Entry) (v : Nat) : Bool :=
  match dspec w with
  | none => false
  | some s =>
    match s.objOf w with
    | none => v == 0
    | some (lo, wd, cls, low, high, use) =>
      v == (e.reg (wB w) + slice w lo wd) % 2 ^ 64 && decide (low ≤ v) && decide (v ≤ high) &&
        (wB w == 0 || cls == 0 || d.qAllowed q cls v v use)

/-- The instruction issues, may use its object `v`, and the block of the register it names is on (R30, R456). -/
abbrev Dev.executes (d : Dev) (q op w i : Nat) (e : Entry) (v : Nat) (r : RegRow) (ix : Nat) : Prop :=
  d.issues q op w i e ∧ d.mayUse q w e v = true ∧ (d.ready = true ∨ bootBlock (r.addr ix) = true) ∧ d.offDomain r.dom ix = none

/-- An operation of entry `e` has started at index `i`, with result `res` where it has ended (R458); the instruction retires. -/
def Dev.starts (d : Dev) (q w i : Nat) (e : Entry) (key : OpKey) (res : Option Nat) : Dev :=
  let op : Op := { queue := q, entry := e.run, start := i, group := slice w 60 4, key := key, res := res }
  ({ d with ops := d.ops ++ [op] } : Dev).drvDone q w i

/-! ### Instructions of a DMA channel -/

/-- Channel `c` runs, without a halt begun, a MOVE at work or an END reached, and its next instruction comes from companion memory
its map lets it read (R474, R482). -/
abbrev Dev.chanReady (d : Dev) (c : Nat) : Prop :=
  d.chanState c = dcRUNNING ∧ (d.chan c).fault = none ∧ (d.chan c).move = none ∧ (d.chan c).ended = false ∧
    (d.chan c).qsram = false ∧
    objAllowed (d.chan c).priv (d.chan c).pmap ocKCL_ADDR (d.dmaPcAddr c) (d.dmaPcAddr c + 31) false = true

/-- The MOVE that four words are on channel `c`: its addresses with the strides of the open loops (R475, R478, R480). -/
def Dev.moveOf (d : Dev) (c : Nat) (ws : List Nat) : DmaMove :=
  let w0 := ws.getD 0 0
  let x := d.chan c
  { src := wrap 64 ((ws.getD 1 0 : Int) + (x.loops.map (fun l => (l.iter : Int) * l.src)).sum),
    dst := wrap 64 ((ws.getD 2 0 : Int) + (x.loops.map (fun l => (l.iter : Int) * l.dst)).sum),
    len := slice w0 24 24, shuf := slice w0 56 4, inv := bit w0 55, srcSp := slice w0 52 3, dstSp := slice w0 49 3, par := ws.getD 3 0 }

/-- The checks of a MOVE (R478 to R480): neither end breaks a rule of its space, the ends do not overlap, the length suits the
shuffle, and the channel's map allows both. -/
def Dev.moveOk (d : Dev) (c : Nat) (m : DmaMove) : Bool :=
  let x := d.chan c
  let n := dstLen m.shuf m.par m.inv m.len
  !d.spaceBad x.priv m.srcSp m.src m.len false m.shuf && !d.spaceBad x.priv m.dstSp m.dst n true m.shuf &&
    !(m.srcSp == m.dstSp && decide (m.src < m.dst + n) && decide (m.dst < m.src + m.len)) && lenOk m.shuf m.par m.inv m.len &&
    !d.spaceDenied x m.srcSp m.src m.len false && !d.spaceDenied x m.dstSp m.dst n true

/-! ### What a command leaves as it was -/

/-- The fields in which records lost at a full FIFO are counted, at the end of any command that raises records (R509). -/
def lostFlds : List Fld := [.ras_status_lost_count, .ras_status_lost_max_sev, .h_ras_lost_due]

/-- The fields in which events are counted (R493). -/
def countFlds : List Fld := [.perf_pmc_count, .perf_blk_status_ovf]

/-- The fields the time unit may change at the end of a command that moves frames or ports: it looks at its parent ports again
(R404, R405, R409, R415). -/
def timeFlds : List Fld :=
  [.h_tp_ok, .time_meas_lost_run, .h_treq_out, .time_meas_eligible, .h_parent_sel, .time_status_time_state, .h_ever_lock, .h_acq_n,
   .h_acq_sum, .h_acq_freq, .h_lock_n, .h_bad_n, .h_gm_hold, .time_status_holdover_age, .time_status_upstream_holdover, .h_pps_last,
   .time_offset_ns_offset_ns, .time_offset_frac_offset_frac, .time_rate_rate, .h_clamp_sec, .time_status_degraded,
   .time_status_steps_removed, .time_status_gm_id]

/-- The block without what any command may touch by raising a record, counting an event or drawing a free value: register fields,
events, the record FIFO, rate-limit intervals, the counter of draws. -/
def Dev.rest (d : Dev) : Dev := { d with flds := {}, events := [], fifo := [], limits := [], fresh := 0 }

/-- From `d` to `e` no register field and no internal scalar has changed but those of `own`. -/
def Dev.Keeps (d e : Dev) (own : List Fld) : Prop := ∀ (f : Fld) (i : Nat), f ∉ own → e.get f i = d.get f i

/-- Credits a port owes its partner (R156, R213). -/
def creditFlds : List Fld := [.h_freed, .h_unreported, .h_withheld]

/-- The slots of a port's window, in which a link-control frame that is sent counts (R495). -/
def slotFlds : List Fld := [.h_win_back, .h_win_front, .h_win_retired, .h_win_sat, .h_win_wasted]

/-- What a received link-control frame counts (R148, R154). -/
def lcFlds : List Fld := [.h_hunting, .h_lc_us, .h_lc_count]

/-- What the end of an entry, or a record to its ring, may write: states, ring, last failure, tokens, map (R435 to R448). -/
def queueFlds : List Fld :=
  [.csq_token_sat, .csq_token_count, .csq_q_status_map_gen, .csq_q_status_state, .csq_q_status_map_pending,
   .csq_q_status_buffered, .csq_q_cr_status_cr_tail, .csq_q_cr_status_cr_phase, .csq_q_cr_status_held, .csq_q_last_entry,
   .csq_q_last_status, .csq_q_last_detail, .csq_q_pmap_active_word, .csq_qsram_word]

/-- What the fence of a port may write: its link, its rings and lanes, a sparing sequence of its octet (R162, R163, R121). -/
def fenceFlds : List Fld :=
  [.port_status_fence_mask, .port_status_link_status, .opt_ring_status_state, .opt_ring_heater_heater_ghz,
   .opt_lane_map_tx_lane, .opt_lane_next_tx_arm, .opt_lane_next_rx_arm, .opt_margin_status_request_pending,
   .las_oct_status_fenced, .las_oct_status_parked, .las_oct_status_outcome, .las_oct_status_slot, .las_oct_status_phase,
   .las_dfb_status_power, .las_dfb_status_bias, .las_dfb_status_state, .h_admit_sent, .h_admit_rcvd, .h_id_fresh,
   .h_credit_rcvd, .h_credit_sent, .h_hunting, .h_fenced_other, .h_win_partial, .h_ring_resweep, .h_sq_wait, .h_peer_seq,
   .h_peer_back, .p_parked]

/-- Nothing waits for the collective engine, the memory engine or the weighted-reduction array. -/
def Dev.idle (d : Dev) : Prop :=
  d.collSeen = [] ∧ d.collOut = [] ∧ d.undeliv = [] ∧ d.fmemOut = [] ∧ d.works = []

/-! ### What every step keeps -/

/-- The canonical form of fabric memory: addresses rising, no byte listed that reads as an unlisted one. -/
def Memory.wf (m : SMap Byte) : Bool := m.wf (fun _ => memDefault)

/-- Every fuse of `a` is burned in `b`, and no count of `b` is below that of `a` (R532). -/
def Fuses.le (a b : Fuses) : Prop :=
  a.svn ≤ b.svn ∧ (∀ k, bit a.ecdsaRevoked k = true → bit b.ecdsaRevoked k = true) ∧
    (∀ k, bit a.lmsRevoked k = true → bit b.lmsRevoked k = true) ∧ b.ecdsaKeys = a.ecdsaKeys ∧ b.lmsKeys = a.lmsKeys

end Sys2Proof.Machine
end

