-- ==== Sys2Proof/WellFormed.lean ====
section
/-! DEFINITION. Which commands are well formed: those an outside sender can form. The types of the operands bound every number of a
port, ring, context or queue; what is checked here is what no type bounds. -/

namespace Sys2Proof

/-- An access of 1 to 64 bytes at an address of 64 bits (R8, R585). -/
def accessWf (size addr : Nat) : Bool := decide (1 ≤ size) && decide (size ≤ 64) && decide (addr < 2 ^ 64)

/-- Heater settings in the order a sweep meets them (R74). -/
def rising : List (Fin 3001) → Bool
  | [] => true
  | [_] => true
  | a :: b :: r => decide (a < b) && rising (b :: r)

/-- Whether a command is well formed: the size and address of an access, the order of the dips of a sweep (R74), the largest payload
(R146), lists of addresses without repeats, and a byte that is not one of the two I2C commands (R572). -/
def Instr.wf : Instr → Bool
  | .regWrite _ size addr _ => accessWf size addr
  | .regReadRefused _ size addr => accessWf size addr
  | .d2dFlitUncorr _ => true
  | .d2dReplayResult _ _ => true
  | .d2dCorr _ => true
  | .pdCmdNop _ _ => true
  | .pdCmdOn _ _ => true
  | .pdCmdOff _ _ => true
  | .pdSwitchDone _ _ => true
  | .lpddrPatrolScrub _ _ _ => true
  | .sramScrubVisit _ _ => true
  | .bgOverrun _ => true
  | .sysFabricPosWrite _ _ => true
  | .sysFabricSizeWrite _ _ => true
  | .sysFabricCoordWrite _ _ => true
  | .portCfgWrite _ _ _ => true
  | .pinEntryRelease _ _ => true
  | .swapWaitExpiry _ => true
  | .portStencilWrite _ _ _ _ => true
  | .bringupTimeout _ => true
  | .ringSweepEnd _ _ dips => rising dips
  | .ringToneCheck _ _ _ => true
  | .ringAcquireSettled _ _ _ _ => true
  | .ringAcquireTimeout _ _ => true
  | .ringLightLost _ _ => true
  | .ringLightReturn _ _ => true
  | .ringHoldResweep _ _ => true
  | .ringRelockMoveDone _ _ => true
  | .ringRailReached _ _ _ => true
  | .recalVisit _ _ _ => true
  | .ringCmdNop _ _ _ => true
  | .ringCmdOff _ _ _ => true
  | .ringCmdRestart _ _ _ => true
  | .ringCmdRetry _ _ _ => true
  | .optEngCtrlWrite _ _ _ => true
  | .ffReport _ _ => true
  | .ffLost _ => true
  | .optLaneMapWrite _ _ _ => true
  | .laneTxArm _ _ _ => true
  | .laneRxArm _ _ _ => true
  | .laneTxSwitch _ => true
  | .laneRxSwitch _ => true
  | .rxPowerAverage _ _ _ => true
  | .marginEpisodeEnd _ _ _ => true
  | .pwrReqSend _ _ _ => true
  | .pwrReqExpiry _ _ => true
  | .lcPwrReq _ _ _ _ => true
  | .lcPwrAns _ _ _ _ => true
  | .lasEngCtrlWrite _ _ _ => true
  | .octetLight _ => true
  | .dfbLit _ _ _ _ => true
  | .dfbBiasLoop _ _ _ _ _ => true
  | .dfbMonitor _ _ _ _ => true
  | .dfbWearOut _ _ => true
  | .dfbFail _ _ => true
  | .wearRecordWrite _ => true
  | .lasOctCmdNop _ _ _ => true
  | .lasOctCmdSpare _ _ _ => true
  | .lasOctCmdPark _ _ _ => true
  | .lasOctCmdAbort _ _ _ => true
  | .spareSeqStart _ => true
  | .lcSpareReq _ _ _ _ _ _ => true
  | .lcSpareAck _ _ _ => true
  | .spareAckTimeout _ => true
  | .primaryRampDownDone _ => true
  | .standbyLitTimeout _ => true
  | .lcSpareReady _ _ _ _ => true
  | .spareReadyTimeout _ => true
  | .spareResumeTimeout _ => true
  | .xprCmdNop _ _ => true
  | .xprCmdSetup _ _ => true
  | .xprCmdTeardown _ _ => true
  | .xprCmdReweight _ _ => true
  | .xprReady _ => true
  | .xprActivate _ => true
  | .xprFree _ => true
  | .xprInputMeasure _ _ _ => true
  | .xprAmpFault _ => true
  | .xprCircCfgWrite _ _ _ => true
  | .xprCircWeightWrite _ _ _ => true
  | .lcExpressDecl _ _ _ _ _ _ => true
  | .lcExpressWithdraw _ _ _ _ => true
  | .fabricFrameRx _ _ => true
  | .frameLastByte _ payload _ => decide (payload.length ≤ 4096)
  | .lcCredit _ _ => true
  | .lcId _ _ => true
  | .lcRev _ _ => true
  | .lcAdmit _ => true
  | .lcRestart _ _ => true
  | .lcTypeReserved _ _ => true
  | .creditSend _ => true
  | .creditStall _ _ => true
  | .trainCodewordLock _ _ _ => true
  | .linkIdResend _ => true
  | .linkLockLoss _ => true
  | .linkSilent _ => true
  | .fecUncorrCodeword _ => true
  | .fecDegrade _ _ => true
  | .portCmdNop _ _ => true
  | .portCmdFence _ _ => true
  | .portCmdUnfence _ _ => true
  | .portCmdAdmit _ _ => true
  | .portCmdAccept _ _ => true
  | .portCmdRetry _ _ => true
  | .portCmdRestart _ _ => true
  | .portCmdRebalance _ _ => true
  | .fwdCtrlWrite _ _ => true
  | .fwdAgeCtrlWrite _ _ => true
  | .fwdLearnWrite _ _ _ => true
  | .fwdLockNop _ _ _ => true
  | .fwdLockAcquire _ _ _ => true
  | .fwdLockRelease _ _ _ => true
  | .fwdLockCommit _ _ _ => true
  | .fwdCommitWrite _ _ => true
  | .fwdLockTimeout _ => true
  | .ageVisit => true
  | .ageRevisit => true
  | .mcastCmdNop _ _ => true
  | .mcastCmdRead _ _ => true
  | .mcastCmdWrite _ _ => true
  | .mcastCmdDone => true
  | .waitQueueEnqueue _ _ _ => true
  | .creditInitSend _ => true
  | .schedDecision _ _ => true
  | .frameTxEnd _ _ => true
  | .fencedDrain _ _ => true
  | .xbarIqWrite _ _ _ _ => true
  | .xbarEqWrite _ _ _ _ => true
  | .xbarIntQuotaWrite _ _ => true
  | .xbarMirrorResWrite _ _ => true
  | .xbarPortModeWrite _ _ _ => true
  | .serviceModeEnd _ => true
  | .xbarMirCfgWrite _ _ _ => true
  | .xbarMirDestWrite _ _ _ => true
  | .schedPortCfgWrite _ _ _ => true
  | .schedShaperWrite _ _ _ _ => true
  | .schedPolCfgWrite _ _ _ => true
  | .schedPolBurstWrite _ _ _ => true
  | .schedPolMapWrite _ _ _ _ => true
  | .gateEntryChange _ => true
  | .gateChangeRequest _ _ _ => true
  | .gateListSwap _ => true
  | .schedGateDataWrite _ _ _ => true
  | .collCmdNop _ _ => true
  | .collCmdLoad _ _ => true
  | .collCmdUnload _ _ => true
  | .collCmdAbort _ _ => true
  | .collLoadCheck _ _ => true
  | .collStepOpen _ => true
  | .collContribIntake => true
  | .chunkVerdict _ _ _ _ => true
  | .collResultRelease _ _ => true
  | .collCommitDecide _ => true
  | .collStepEnd _ => true
  | .collStepTimeout _ => true
  | .collStepSlow _ => true
  | .collInnerTimeout _ => true
  | .cmbUnitNop _ _ => true
  | .cmbRetireLane _ _ _ => true
  | .cmbRestoreLane _ _ => true
  | .cmbUnitFenceCmd _ _ => true
  | .cmbUnitUnfence _ _ => true
  | .cmbClearStrikes _ _ => true
  | .cmbCtrlWrite _ _ => true
  | .shadowCompare _ _ _ _ _ _ => true
  | .shadowThirdDone _ _ _ _ _ => true
  | .wraDescCmdNop _ _ => true
  | .wraDescCmdLoad _ _ => true
  | .wraDescCmdUnload _ _ => true
  | .wraDescLoadDone _ _ _ => true
  | .wraDescDrained _ => true
  | .wraPassStart _ _ _ => true
  | .wraPassEnd _ _ => true
  | .gatherReqTake => true
  | .gatherRowsDone _ corr bad => decide corr.Nodup && decide bad.Nodup
  | .wraTileNop _ _ => true
  | .wraRetireCol _ _ _ => true
  | .wraRestoreCol _ _ => true
  | .wraTileFence _ _ => true
  | .wraTileUnfence _ _ => true
  | .fmemCmdNop _ _ => true
  | .fmemCmdMap _ _ => true
  | .fmemCmdUnmap _ _ => true
  | .fmemCmdResync _ _ => true
  | .fmemCmdPromote _ _ => true
  | .fmemZeroingDone _ => true
  | .fmemFrameDrained _ => true
  | .fmemRequest => true
  | .fmemAccessDone _ corr bad => decide corr.Nodup && decide bad.Nodup
  | .mirrorPush => true
  | .mirrorAck => true
  | .mirrorKeepSend _ => true
  | .mirrorKeep => true
  | .mirrorDone => true
  | .mirrorAckTimeout _ => true
  | .mirrorOrphanTimeout _ => true
  | .fmemDegradedAnswer _ => true
  | .resyncPush _ => true
  | .mr4Poll _ _ _ => true
  | .timeReqSend _ => true
  | .timeReqRx => true
  | .timeRespRx => true
  | .timeExchangeLost _ => true
  | .timeAltWaitExpiry => true
  | .timeParentWrite _ _ => true
  | .timeCtrlWrite _ _ => true
  | .holdoverAgeTick => true
  | .ppsInEdge _ => true
  | .ppsLoss => true
  | .ppsOutEdge => true
  | .clk10mLoss => true
  | .trigEdge _ => true
  | .trigCtrlWrite _ _ _ => true
  | .capEdge _ _ _ => true
  | .capPopRead _ _ => true
  | .timeNowRead _ => true
  | .timeOffsetNsWrite _ _ => true
  | .timeOffsetFracWrite _ _ => true
  | .timeRateWrite _ _ => true
  | .queueLineInvalidate _ => true
  | .watchRefresh => true
  | .queueLineReadDone _ _ => true
  | .entryStart _ => true
  | .fenceEntryRetire _ => true
  | .cringHoldFlush _ => true
  | .csqQCmdNop _ _ => true
  | .csqQCmdStop _ _ => true
  | .csqQCmdResume _ _ => true
  | .csqQCmdReset _ _ => true
  | .csqQCmdMapCommit _ _ => true
  | .csqQCfgWrite _ _ _ => true
  | .dxEnd _ => true
  | .dxNop _ => true
  | .dxSet _ => true
  | .dxSethi _ => true
  | .dxAdd _ => true
  | .dxAnd _ => true
  | .dxOr _ => true
  | .dxShift _ => true
  | .dxBr _ => true
  | .dxLoop _ => true
  | .dxWaitToken _ => true
  | .dxWaitTime _ => true
  | .dxWaitDone _ => true
  | .dxWaitSatisfied _ => true
  | .dxWaitLimitExpiry _ => true
  | .dxSignal _ => true
  | .dxTblAcq _ => true
  | .dxTblStage _ => true
  | .dxTblGet _ => true
  | .dxTblCommit _ => true
  | .dxTblRel _ => true
  | .dxTblLimit _ => true
  | .dxMcWrite _ => true
  | .dxCollLoad _ => true
  | .dxCollUnload _ => true
  | .dxCollLaunch _ => true
  | .dxCollAbort _ => true
  | .dxCollState _ => true
  | .dxWraLoad _ => true
  | .dxWraUnload _ => true
  | .dxPortCmd _ => true
  | .dxPortCfg _ => true
  | .dxPortStencil _ => true
  | .dxPortRead _ => true
  | .dxXprCfg _ => true
  | .dxXprWt _ => true
  | .dxXprSetup _ => true
  | .dxXprTear _ => true
  | .dxXprReweight _ => true
  | .dxXprRead _ => true
  | .dxLaneOct _ => true
  | .dxLaneNext _ => true
  | .dxLaneCw _ => true
  | .dxRingCmd _ => true
  | .dxLaneRead _ => true
  | .dxTimeNow _ => true
  | .dxTimeStat _ => true
  | .dxTimeParent _ => true
  | .dxTrigPeriod _ => true
  | .dxTrigArm _ => true
  | .dxTrigOff _ => true
  | .dxCapPop _ => true
  | .dxMemMap _ => true
  | .dxMemUnmap _ => true
  | .dxMemResync _ => true
  | .dxMemPromote _ => true
  | .dxMemRead _ => true
  | .dxDmaRun _ => true
  | .dxDmaAbort _ => true
  | .dxDmaRead _ => true
  | .dxProgLoad _ => true
  | .dxProgLoadDone _ _ => true
  | .dxProgUnload _ => true
  | .dxProgPower _ => true
  | .dmaCmdNop _ _ => true
  | .dmaCmdRun _ _ => true
  | .dmaCmdResume _ _ => true
  | .dmaCmdAbort _ _ => true
  | .dmaMove _ _ => true
  | .dmaLoop _ _ => true
  | .dmaWaitToken _ _ => true
  | .dmaWaitEvent _ _ => true
  | .dmaWaitSatisfied _ => true
  | .dmaWaitLimit _ => true
  | .dmaSignalToken _ _ => true
  | .dmaSignalEvent _ _ => true
  | .dmaEnd _ _ => true
  | .dmaBurstResponse _ _ _ corr bad => decide corr.Nodup && decide bad.Nodup
  | .dmaProgramDone _ => true
  | .dmaHaltSettled _ => true
  | .dmaAbortDone _ => true
  | .snapshotTime _ => true
  | .snapNow _ _ => true
  | .dumpRecordWrite => true
  | .windowLatch => true
  | .rasFifoDrain => true
  | .rateLimitIntervalEnd => true
  | .rasKeepClear _ _ => true
  | .rasTraceCfgWrite _ _ => true
  | .porstNAssert => true
  | .porstNRelease => true
  | .wrstNAssert => true
  | .sysResetNop _ _ => true
  | .sysResetWarm _ _ => true
  | .sysResetCold _ _ => true
  | .bootWatchdog => true
  | .confirmTimeout => true
  | .bootRomStartDone _ _ => true
  | .bootSelectDone => true
  | .bootVerifyDone _ => true
  | .bootLoadDone _ _ => true
  | .bootRestoreDone _ => true
  | .kclBootGo _ _ => true
  | .secCmdNop _ _ => true
  | .secCmdWrite _ _ => true
  | .secCmdVerify _ _ => true
  | .secCmdPreferTrial _ _ => true
  | .secCmdConfirm _ _ => true
  | .secCmdSvnCommit _ _ => true
  | .secCmdRevoke _ _ => true
  | .secCmdAttest _ _ => true
  | .secCmdExtend _ _ => true
  | .kclReadTimeout _ => true
  | .kclLaneDegrade _ => true
  | .kclReplayFail => true
  | .kclRetrainCmd _ _ => true
  | .kclRetrainDone _ => true
  | .svcBindWrite _ _ _ => true
  | .kclSvcAddrWrite _ _ _ _ => true
  | .svcLockHeld _ => true
  | .svcLockLoss _ => true
  | .svcFrameRx _ _ => true
  | .pfcRx _ _ _ => true
  | .pfcPauseExpiry _ _ => true
  | .pfcXoffSend _ _ => true
  | .pfcXoffRepeat _ _ => true
  | .pfcXonSend _ _ => true
  | .railOutOfRange _ _ _ => true
  | .avsTrim _ _ _ _ => true
  | .refclkLoss => true
  | .thermSample _ _ => true
  | .i2cReadTherm => true
  | .i2cReadStatus => true
  | .i2cWriteStatus _ => true
  | .i2cBadCommand cmd data => !(cmd == 0x11) && !(cmd == 0x10 && data.isEmpty)
  | .tapExtest _ => true
  | .tapExtestPulse _ => true
  | .tapExtestTrain _ => true
  | .tapIdcode => true
  | .tapBypass _ => true
  | .trstNAssert => true
  | .idleWordAccept _ => true
  | .invalidUnitRx _ => true
  | .dfbRampUpDone _ _ _ _ => true
  | .primaryLitTimeout _ => true
  | .xprReweightDone _ => true
  | .mcWriteReadDone _ _ _ => true
  | .portStencilReadDone _ _ _ => true
  | .secCmdDone _ => true
  | .kclWriteResponse _ => true
  | .resetRecordPeriodicUpdate => true
  | .railReturnInRange _ _ => true

end Sys2Proof
end

