-- ==== Sys2Proof/Certificates/Slice0/Obligations.lean ====
section
/-! DEFINITION. The statements for the provers. -/

open Sys2Proof Sys2Proof.Machine

/-- A step carries out the command at the front of the queue. For every command c and state s, a step of s with c at the front of its
queue answers what exec answers for c on s with the rest of the queue. The queue is the model's (log entry 1). (R585, log 1) -/
def Obligations.StepRunsFront : Prop :=
  ∀ (c : Instr) (s : State), step { s with pending := c :: s.pending } = exec c s

/-- A step on an empty queue is one nanosecond of local time. On an empty queue the step answers a next state whose local counter is
one higher, modulo 2^64, while the time island runs, and is the same otherwise; memory, fuses and the queue stay. That an idle
step is a tick is the model's choice (log entry 2); the counter is that of R397. (R397, R568, log 2) -/
def Obligations.StepWithoutCommandCountsTime : Prop :=
  ∀ s : State, s.pending = [] →
    ∃ t, step s = .next t ∧ KeepsStores s t ∧
      (s.dev.timeRuns = true → t.dev.localNs = (s.dev.localNs + 1) % 2 ^ 64) ∧
      (s.dev.timeRuns = false → s.dev.events = [] → t = s)

/-- Every command completes, keeps the queue, and leaves no record behind. For every command and state, exec answers a next state,
with the same queue and no event left waiting for the record FIFO: no command stops on a fault or a refusal. (R585, R509, log 1) -/
def Obligations.EveryCommandCompletes : Prop :=
  ∀ (c : Instr) (s : State), Does c s (fun t => t.pending = s.pending ∧ t.dev.events = [])

/-- Every step keeps fabric memory in its canonical form. From every state whose fabric memory is in canonical form (addresses rising,
no byte listed that reads as an unlisted one), every step that answers a next state leaves it so, whatever command is in front, or
none. That unlisted bytes read as 0 is the model's choice (log entry 6). (R371, R375, R521, log 6) -/
def Obligations.StepKeepsMemoryForm : Prop :=
  ∀ s t : State, Memory.wf s.mem = true → step s = .next t → Memory.wf t.mem = true

/-- No step unburns a fuse. Every step that answers a next state leaves every fuse that was burned burned: the svn count never falls,
no revoke bit is cleared, and the key fuses stay as they were, whatever command is in front, or none. (R532, R533) -/
def Obligations.StepKeepsFuses : Prop :=
  ∀ s t : State, step s = .next t → Fuses.le s.fuses t.fuses

/-- Fuses change only at a SEC command's end and where a reset cuts one short. If a command answers a state with other fuses, a SEC
command was running, and it was SVN_COMMIT or REVOKE. (KCL_REPLAY_FAIL, which may end several transfers, is left to
StepKeepsFuses.) (R532, R533, R536, R526) -/
def Obligations.FusesChangeOnlyBySecurity : Prop :=
  ∀ (c : Instr) (s t : State), c ≠ .kclReplayFail → exec c s = .next t → t.fuses ≠ s.fuses →
    s.dev.flag .sec_cmd_status_busy = true ∧
      (s.dev.get .sec_cmd_status_last_cmd = 5 ∨ s.dev.get .sec_cmd_status_last_cmd = 6)

/-- Fabric memory changes only by the commands that write it. A command other than a memory access done, a push, a MAP by FMEM_MAP_CMD
or MEM.MAP, a register write, a DMA burst response, a read timeout, a replay failure or a reset source leaves every byte of fabric
memory, read one by one, as it was. (R371, R375, R379, R382, R481, R521, R388) -/
def Obligations.MemoryChangesOnlyByItsWriters : Prop :=
  ∀ (c : Instr) (s t : State), writesMemory c = false → exec c s = .next t → ∀ a : Nat, memByte t.mem a = memByte s.mem a

/-- The state after reset. After reset the queue is empty, memory lists nothing in canonical form, no event waits, the boot stage is 0
(ROM start), the KCL link is in training, no record is held, and no frame, queue entry, context or operation is held. Values for
which the spec gives none are those of log entry 3. (R521, R522, R528, R548, R397, log 3) -/
def Obligations.ResetState : Prop :=
  State.reset.pending = [] ∧ Memory.wf State.reset.mem = true ∧ (∀ a, memByte State.reset.mem a = 0) ∧
    State.reset.dev.events = [] ∧ State.reset.dev.fifo = [] ∧ State.reset.dev.get .sys_boot_status_stage = 0 ∧
    State.reset.dev.ready = false ∧ State.reset.dev.get .h_kcl_train ≠ 0 ∧ State.reset.dev.localNs = 0 ∧
    State.reset.dev.frames = [] ∧ State.reset.dev.ops = [] ∧ State.reset.dev.ctxs.entries = [] ∧
    (∀ n : Fin 512, State.reset.dev.get .port_cfg_role n = 0)

/-- A companion write marked OBSERVE is not performed. For every command that is a companion write, marked OBSERVE and met by a
trained link: nothing is performed; the record REG_PRIVILEGE is written (requester 1, the address and the value), and the answer
is an error completion. (R440, R585) -/
def Obligations.WritesNeedFabricPrivilege : Prop :=
  ∀ (c : Instr) (r : RegRow) (i v : Nat) (s : State), writeOf c = some (.observe, r, i, v) → s.dev.get .h_kcl_train = 0 →
    Ends c s ((s.dev.recPrivilege 1 (r.addr i) v).err)

/-- A companion write before READY, or into a domain that is off, is not performed. For every FABRIC companion write on a trained
link: before READY, outside SYS and SEC, nothing is performed but the record REG_DOMAIN_OFF with domain 0xFF and an error
completion; otherwise, where domain k holds the copy and is off, the same with k. (R585, R528, R30) -/
def Obligations.WritesNeedReadyAndPower : Prop :=
  ∀ (c : Instr) (r : RegRow) (i v : Nat) (s : State), writeOf c = some (.fabric, r, i, v) → s.dev.get .h_kcl_train = 0 →
    (s.dev.ready = false → bootBlock (r.addr i) = false → Ends c s ((s.dev.recDomainOff 0 (r.addr i) 1 0xFF).err)) ∧
    (s.dev.ready = true ∨ bootBlock (r.addr i) = true → ∀ k, s.dev.offDomain r.dom i = some k →
      Ends c s ((s.dev.recDomainOff 0 (r.addr i) 1 k).err))

/-- A reserved encoding written to a command register does nothing but its record. For every FABRIC companion write to a command
register (every field write-only) that is reached and has a refused field: the one record REG_RSVD_ENC with the address, the
value, the refused fields and the requester is written, nothing else is performed, and the completion is normal. (A reset command
has no field that can be refused at levels 0 to 2.) (R13, R585) -/
def Obligations.ReservedCommandsDoNothing : Prop :=
  ∀ (c : Instr) (r : RegRow) (i v : Nat) (s : State), writeOf c = some (.fabric, r, i, v) → s.dev.reaches r i →
    r.isCommand = true → s.dev.refusedFields r i v ≠ [] →
    Ends c s ((s.dev.raise .REG_RSVD_ENC s.dev.pathDevice
      [.w (r.addr i), .d v, .d (maskOf 64 (fun k => (s.dev.refusedFields r i v).contains k)), .h 0]).ok)

/-- While the companion link trains, no companion write is performed. For every companion write, and for REG_WRITE at any address,
while h_kcl_train is not 0: the device is unchanged, but for an error completion after a reset (value 2). What not accepted means
is the reading of log entry 18. (R548, R522, log 18) -/
def Obligations.WritesWhileLinkTrainsAreNotAccepted : Prop :=
  ∀ (c : Instr) (s : State), ((writeOf c).isSome = true ∨ ∃ m size a v, c = .regWrite m size a v) → s.dev.get .h_kcl_train ≠ 0 →
    Ends c s (if s.dev.get .h_kcl_train = 2 then s.dev.err else s.dev)

/-- REG_WRITE: the six checks in order, then the write. REG_WRITE on a trained link. Form: not an aligned 64-bit access within the
space gives an error completion and nothing else. Then privilege, decode, boot stage, domain: the record of the first that fails,
with an error completion (a normal one for decode). Then the encoding: a command register does nothing but REG_RSVD_ENC. A
register whose chapter says no more than R9 takes the fields of the value that are not refused, and the completion is normal.
(R585, R8, R12, R13, R30, R440, R528) -/
def Obligations.RegWriteChecksInOrder : Prop :=
  ∀ (m : Mark) (size a : Nat) (v : Word) (s : State), s.dev.get .h_kcl_train = 0 →
    let c : Instr := .regWrite m size a v
    let form := size = 8 ∧ a % 8 = 0 ∧ a ≤ 0x03FFFFFF
    (¬ form → exec c s = .next (s.endsX s.dev.err)) ∧
    (form → m = .observe → exec c s = .next (s.endsX (s.dev.recPrivilege 1 a v.toNat).err)) ∧
    (form → m = .fabric → decodeAddr a = none → exec c s = .next (s.endsX (s.dev.recUnmapped 0 a 1).ok)) ∧
    (form → m = .fabric → ∀ r i, decodeAddr a = some (r, i) →
      (s.dev.ready = false → bootBlock (r.addr i) = false → exec c s = .next (s.endsX (s.dev.recDomainOff 0 (r.addr i) 1 0xFF).err)) ∧
      (s.dev.ready = true ∨ bootBlock (r.addr i) = true → ∀ k, s.dev.offDomain r.dom i = some k →
        exec c s = .next (s.endsX (s.dev.recDomainOff 0 (r.addr i) 1 k).err)) ∧
      (s.dev.reaches r i → r.isCommand = true → s.dev.refusedFields r i v.toNat ≠ [] →
        exec c s = .next (s.endsX (s.dev.ok.raise .REG_RSVD_ENC s.dev.pathDevice
          [.w (r.addr i), .d v.toNat, .d (maskOf 64 (fun k => (s.dev.refusedFields r i v.toNat).contains k)), .h 0]))) ∧
      (s.dev.reaches r i → s.dev.refusedFields r i v.toNat = [] → specialBases.contains r.base = false →
        exec c s = .next (s.endsX (s.dev.ok.writeFields r i v.toNat []))))

/-- REG_READ_REFUSED: a read that fails a check returns 0 and writes its record. A read of either mark on a trained link: a badly
formed one is answered with an error and no record; an unassigned address reads 0 with a normal completion and REG_UNMAPPED;
before READY, or into a domain that is off, the answer is an error with REG_DOMAIN_OFF. The requester in the record is 0 for
FABRIC, 1 for OBSERVE. No register changes. (R585, R8, R12, R30, R528) -/
def Obligations.RegReadRefused : Prop :=
  ∀ (m : Mark) (size a : Nat) (s : State), s.dev.get .h_kcl_train = 0 →
    let c : Instr := .regReadRefused m size a
    let form := size = 8 ∧ a % 8 = 0 ∧ a ≤ 0x03FFFFFF
    (¬ form → exec c s = .next (s.endsX s.dev.err)) ∧
    (form → decodeAddr a = none → exec c s = .next (s.endsX (s.dev.recUnmapped (markReq m) a 0).ok)) ∧
    (form → ∀ r i, decodeAddr a = some (r, i) →
      (s.dev.ready = false → bootBlock (r.addr i) = false →
        exec c s = .next (s.endsX (s.dev.recDomainOff (markReq m) (r.addr i) 0 0xFF).err)) ∧
      (s.dev.ready = true ∨ bootBlock (r.addr i) = true → ∀ k, s.dev.offDomain r.dom i = some k →
        exec c s = .next (s.endsX (s.dev.recDomainOff (markReq m) (r.addr i) 0 k).err)))

/-- A write changes the fields of its register by their access codes and no other field. For every register of the map, every copy i
and value v with no field refused: an RW field takes its bits of v, W1C bits that v has are cleared, W1S bits are set, RO and WO
fields keep their value, and every field of another register, and of another copy, keeps its value. (R9, R11, R13) -/
def Obligations.FieldsFollowTheirAccessCodes : Prop :=
  ∀ (r : RegRow) (d : Dev) (i v : Nat), r ∈ regTable →
    (∀ f ∈ r.fields, f.live = false → ∀ k < f.nsub,
      let x := slice v (f.lo + f.stride * k) f.w
      let j := i * f.nsub + k
      (d.writeFields r i v []).get f.fld j = match f.acc with
        | .rw => x
        | .w1c => maskOf f.w (fun b => bit (d.get f.fld j) b && !bit x b)
        | .w1s => maskOf f.w (fun b => bit (d.get f.fld j) b || bit x b)
        | _ => d.get f.fld j) ∧
    (∀ (g : Fld) (j : Nat), (∀ f ∈ r.fields, f.fld = g → j / f.nsub ≠ i) → (d.writeFields r i v []).get g j = d.get g j) ∧
    (d.writeFields r i v []).rest = d.rest

/-- The address of every copy of every register decodes to that register and copy. For every register of the control-space map and
every copy of it that exists, decoding the address of the copy gives that register and that copy: no two registers overlap, and no
address bit is dropped. (R32, R12) -/
def Obligations.EveryAddressOfACopyDecodesToIt : Prop :=
  ∀ (r : RegRow) (i : Nat), r ∈ regTable → i < copies r.dims → (r.holes.any (fun h => decide (h.1 ≤ i ∧ i ≤ h.2))) = false →
    decodeAddr (r.addr i) = some (r, i)

/-- SYS_PD_CMD and the end of a switch. NOP does nothing. ON to a domain other than PD0 and PD10 that is off and not switching, all of
whose needs are on and none switching (for PD7, with no work of the WRA loaded), starts the switch: the busy bit and the target.
OFF, where nothing of R27 stands against it, starts one too and clears the on bit. A request that something blocks changes
nothing, and PD_DEP_REFUSED names the domain, the direction and the blocker. At the end of a switch the busy bit is clear, the on
bit is the target, and no other domain changed its bits. A request for the state the domain is in changes nothing (log entry 20).
(R26, R27, R28, R30, R540, R587, log 20) -/
def Obligations.DomainSwitching : Prop :=
  ∀ s : State,
    (∀ (m : Mark) (domain : Fin 32), s.dev.accepts (.pdCmdNop m domain) = true → exec (.pdCmdNop m domain) s = .next (s.endsX
        (s.dev).ok)) ∧
    (∀ (m : Mark) (domain : Fin 32), s.dev.accepts (.pdCmdOn m domain) = true → domain.val ≠ 0 ∧ domain.val ≠ 10 → s.dev.pdBusy
        domain = false ∧ s.dev.pdOn domain = false → (domain.val = 7 → s.dev.wraInUse = false) → (∀ r ∈ pdNeeds domain,
        s.dev.pdOn r = true ∧ s.dev.pdBusy r = false) → exec (.pdCmdOn m domain) s = .next (s.endsX ((s.dev.putB
        .sys_pd_status_busy 0 domain true).putB .h_pd_target 0 domain true).ok)) ∧
    (∀ (m : Mark) (domain : Fin 32), s.dev.accepts (.pdCmdOff m domain) = true → s.dev.pdBlocker domain false = none →
        s.dev.pdOn domain = true → exec (.pdCmdOff m domain) s = .next (s.endsX (((s.dev.putB .sys_pd_status_busy 0 domain
        true).putB .h_pd_target 0 domain false).putB .sys_pd_status_on 0 domain false).ok)) ∧
    (∀ (m : Mark) (domain : Fin 32), s.dev.accepts (.pdCmdOn m domain) = true → s.dev.pdBlocker domain true = none → s.dev.pdOn
        domain = true → exec (.pdCmdOn m domain) s = .next (s.endsX (s.dev).ok)) ∧
    (∀ (m : Mark) (domain : Fin 32) (b : Nat), s.dev.accepts (.pdCmdOn m domain) = true → s.dev.pdBlocker domain true = some b →
        exec (.pdCmdOn m domain) s = .next (s.endsX (s.dev.raise .PD_DEP_REFUSED s.dev.pathDevice [.h domain, .h 1, .h b, .h
        0]).ok)) ∧
    (∀ (m : Mark) (domain : Fin 32) (b : Nat), s.dev.accepts (.pdCmdOff m domain) = true → s.dev.pdBlocker domain false = some b
        → exec (.pdCmdOff m domain) s = .next (s.endsX (s.dev.raise .PD_DEP_REFUSED s.dev.pathDevice [.h domain, .h 2, .h b, .h
        0]).ok)) ∧
    (∀ (domain : Fin 20) (trained : BitVec 64), domain.val ≠ 0 → s.dev.pdBusy domain = true → ∃ e, exec (.pdSwitchDone domain
        trained) s = .next (s.endsX e) ∧ (∀ j : Fin 20, e.pdBusy j = if j = domain then false else s.dev.pdBusy j) ∧ (∀ j : Fin
        20, e.pdOn j = if j = domain then s.dev.bitOf .h_pd_target 0 domain else s.dev.pdOn j))

/-- Writes of the fabric position and shape. A position write takes the fields of the value. A size or coordinate write takes them
where no port is in use, nothing loaded uses the inner ring, and the values that result are a legal shape; otherwise nothing
changes and SHAPE_REFUSED names the first condition that fails. (R40, R42, R540) -/
def Obligations.FabricShape : Prop :=
  ∀ s : State,
    (∀ (m : Mark) (v : Word), s.dev.accepts (.sysFabricPosWrite m v) = true → exec (.sysFabricPosWrite m v) s = .next (s.ends
        (s.dev.writeFields rowSYS_FABRIC_POS 0 v.toNat []).ok)) ∧
    (∀ (m : Mark) (v : Word), s.dev.accepts (.sysFabricSizeWrite m v) = true → (s.dev.writeFields rowSYS_FABRIC_SIZE 0 v.toNat
        []).shapeFail = 0 → exec (.sysFabricSizeWrite m v) s = .next (s.ends (s.dev.writeFields rowSYS_FABRIC_SIZE 0 v.toNat
        []).ok)) ∧
    (∀ (m : Mark) (v : Word), s.dev.accepts (.sysFabricCoordWrite m v) = true → (s.dev.writeFields rowSYS_FABRIC_COORD 0 v.toNat
        []).shapeFail = 0 → exec (.sysFabricCoordWrite m v) s = .next (s.ends (s.dev.writeFields rowSYS_FABRIC_COORD 0 v.toNat
        []).ok)) ∧
    (∀ (m : Mark) (v : Word), s.dev.accepts (.sysFabricSizeWrite m v) = true → (s.dev.writeFields rowSYS_FABRIC_SIZE 0 v.toNat
        []).shapeFail ≠ 0 → exec (.sysFabricSizeWrite m v) s = .next (s.ends (s.dev.raise .SHAPE_REFUSED s.dev.pathDevice [.h
        (s.dev.writeFields rowSYS_FABRIC_SIZE 0 v.toNat []).shapeFail]).ok))

/-- Replays of a die-to-die link. An uncorrectable flit on a link without a replay under way starts the first replay: the count of
replays is 1 and D2D_REPLAY counts. A good replay ends it. A bad one starts the next, up to four; when the last has failed the
record D2D_FAIL is written (SCD to EIC: the path of the engine) and the count is 0. A corrected flit counts only. (R16, R489) -/
def Obligations.DieToDieLinks : Prop :=
  ∀ s : State,
    (∀ (link : Fin 9), s.dev.get .h_d2d_replays link = 0 → exec (.d2dFlitUncorr link) s = .next (s.endsX ((s.dev.set
        .h_d2d_replays link 1).d2dCount link .D2D_REPLAY .D2D_REPLAY_DEV))) ∧
    (∀ (link : Fin 9) (good : Bool), s.dev.get .h_d2d_replays link ≠ 0 → good = true → exec (.d2dReplayResult link good) s =
        .next (s.endsX (s.dev.set .h_d2d_replays link 0))) ∧
    (∀ (link : Fin 9) (good : Bool), s.dev.get .h_d2d_replays link ≠ 0 ∧ s.dev.get .h_d2d_replays link < 4 → good = false → exec
        (.d2dReplayResult link good) s = .next (s.endsX ((s.dev.set .h_d2d_replays link (s.dev.get .h_d2d_replays link +
        1)).d2dCount link .D2D_REPLAY .D2D_REPLAY_DEV))) ∧
    (∀ (link : Fin 9) (good : Bool), s.dev.get .h_d2d_replays link = 4 → good = false → ∃ e, exec (.d2dReplayResult link good) s
        = .next (s.endsX e) ∧ e.get .h_d2d_replays link = 0 ∧ ∃ r ∈ e.events, r.code = .D2D_FAIL ∧ r.path = if link.val < 8 then
        s.dev.pathEngine link else s.dev.pathDevice) ∧
    (∀ (link : Fin 9), exec (.d2dCorr link) s = .next (s.endsX (s.dev.d2dCount link .D2D_CORR .D2D_CORR_DEV)))

/-- The bring-up of a link: lock, identity, revision, credits, admission. Codeword lock with good tags writes the receive half and
sends ID. In IDENTIFY and REVISION the resend sends ID, and REV. An ID in IDENTIFY is kept and compared. A REV in REVISION with a
revision within one of the own and the common feature gives CREDIT_INIT with the agreed features; another gives QUARANTINE with
its record. The first CREDIT in CREDIT_INIT announces the allotments of the partner. The own allotments go out once no cell of the
port is held. The first ADMIT received in CREDIT_INIT is noted with its codeword origin, and in ADMIT_WAIT the port is ADMITTED
where its own ADMIT has gone. (R57, R59, R64, R153, R156, R160, R161, R212) -/
def Obligations.LinkBringUp : Prop :=
  ∀ s : State,
    (∀ (port : Fin 512) (tags : Vector (Fin 9) 5) (skewNs : Nat), s.dev.linkStatus port = lsTRAIN ∧ s.dev.upRole port = true ∧
        s.dev.boundSvc port = none → tagsOk (tags.toList.map (fun (x : Fin 9) => x.val)) = true ∧ skewNs ≤ 64 → exec
        (.trainCodewordLock port tags skewNs) s = .next (s.endsX (((s.dev.steerRx port ((List.range 4).map (fun l =>
        (tags.toList.map (fun (x : Fin 9) => x.val)).idxOf l))).setLink port lsIDENTIFY).sendId port))) ∧
    (∀ (port : Fin 512), s.dev.linkStatus port = lsIDENTIFY → exec (.linkIdResend port) s = .next (s.endsX (s.dev.sendId port))) ∧
    (∀ (port : Fin 512), s.dev.linkStatus port = lsREVISION → exec (.linkIdResend port) s = .next (s.endsX (s.dev.sendRev
        port))) ∧
    (∀ (port : Fin 512) (b : IdBody), s.dev.lcFits port = true ∧ s.dev.upRole port = true → s.dev.linkStatus port = lsIDENTIFY →
        s.dev.heldRev.getOpt port = none → exec (.lcId port b) s = .next (s.endsX (((s.dev.lcGot port).storeId port b).compare
        port))) ∧
    (∀ (port : Fin 512) (b : RevBody), s.dev.lcFits port = true ∧ s.dev.upRole port = true → s.dev.linkStatus port = lsREVISION
        → b.rev.toNat ≤ s.dev.ownRev + 1 ∧ s.dev.ownRev ≤ b.rev.toNat + 1 ∧ bit b.mask.toNat 0 = true → exec (.lcRev port b) s =
        .next (s.endsX ((((s.dev.lcGot port).setMany [(.port_nbr_ext_partner_rev, port, b.rev.toNat), (.h_partner_mask, port,
        b.mask.toNat), (.h_rev_known, port, 1)]).set .port_status_agreed_features port (s.dev.ownMask port &&&
        b.mask.toNat)).toCreditInit port))) ∧
    (∀ (port : Fin 512) (b : RevBody), s.dev.lcFits port = true ∧ s.dev.upRole port = true → s.dev.linkStatus port = lsREVISION
        → s.dev.ownRev + 1 < b.rev.toNat → exec (.lcRev port b) s = .next (s.endsX ((((s.dev.lcGot port).setMany
        [(.port_nbr_ext_partner_rev, port, b.rev.toNat), (.h_partner_mask, port, b.mask.toNat), (.h_rev_known, port,
        1)]).setLink port lsQUARANTINE).raise .LINK_REV_QUARANTINE (s.dev.pathPort port) [.h s.dev.ownRev, .h b.rev.toNat]))) ∧
    (∀ (port : Fin 512), s.dev.linkStatus port = lsCREDIT_INIT ∧ s.dev.flag .h_credit_sent port = false ∧ s.dev.inputUsed port =
        0 → ∃ e, exec (.creditInitSend port) s = .next (s.endsX e) ∧ (e.get .h_credit_sent port = 1 ∧ ∀ c : Fin 8, e.get
        .port_credit_allotment_rx (8 * port + c) = s.dev.get .xbar_iq_iq (8 * port + c) % 2 ^ 16 ∧ e.get .h_freed (8 * port + c)
        = s.dev.get .xbar_iq_iq (8 * port + c) % 2 ^ 16) ∧ s.dev.Keeps e (slotFlds ++ creditFlds ++ countFlds ++
        ([.port_status_fence_mask, .port_status_link_status, .port_credit_allotment_rx, .xbar_port_mode_svc_mode,
        .opt_margin_status_request_pending, .las_oct_status_phase, .h_admit_sent, .h_credit_sent, .h_admitted_once,
        .h_fenced_other, .h_cw_run, .h_txcw_t0, .h_win_partial, .h_sq_wait, .h_sq_try, .h_sq_c] : List Fld)) ∧ e.rest =
        ({ s.dev with lcWait := e.lcWait, indir := e.indir, sent := e.sent } : Dev).rest) ∧
    (∀ (port : Fin 512) (counts : Vector (BitVec 16) 8), s.dev.lcFits port = true → s.dev.linkStatus port = lsCREDIT_INIT ∧
        s.dev.flag .h_credit_rcvd port = false → ∃ e, exec (.lcCredit port counts) s = .next (s.endsX e) ∧ (e.get .h_credit_rcvd
        port = 1 ∧ ∀ c : Fin 8, e.get .port_credit_allotment_tx (8 * port + c) = counts[c].toNat ∧ e.get .port_credit_returned
        (8 * port + c) = counts[c].toNat) ∧ s.dev.Keeps e (slotFlds ++ lcFlds ++ countFlds ++ ([.port_status_fence_mask,
        .port_status_link_status, .port_credit_allotment_tx, .port_credit_returned, .xbar_port_mode_svc_mode,
        .opt_margin_status_request_pending, .las_oct_status_phase, .h_admit_sent, .h_credit_rcvd, .h_admitted_once,
        .h_fenced_other, .h_cw_run, .h_txcw_t0, .h_win_partial, .h_sq_wait, .h_sq_try, .h_sq_c] : List Fld)) ∧ e.rest =
        ({ s.dev with lcWait := e.lcWait, indir := e.indir, sent := e.sent } : Dev).rest) ∧
    (∀ (port : Fin 512), s.dev.lcFits port = true → s.dev.linkStatus port = lsCREDIT_INIT ∧ s.dev.flag .h_admit_rcvd port =
        false → exec (.lcAdmit port) s = .next (s.endsX ((s.dev.lcGot port).setMany [(.h_admit_rcvd, port, 1), (.h_rxcw_run,
        port, 1), (.h_rxcw_t0, port, s.dev.localNs)]))) ∧
    (∀ (port : Fin 512), s.dev.lcFits port = true → s.dev.linkStatus port = lsADMIT_WAIT ∧ s.dev.flag .h_admit_sent port = true
        ∧ s.dev.flag .h_admit_rcvd port = false → ∃ e, exec (.lcAdmit port) s = .next (s.endsX e) ∧ e.linkStatus port =
        lsADMITTED ∧ e.get .h_admit_rcvd port = 1 ∧ e.get .h_rxcw_t0 port = s.dev.localNs)

/-- Loss of a link, its restart, and lost framing. Loss of lock in any status from TRAIN on fences with cause LINK_LOSS, writes
LINK_DOWN, sends RESTART where the transmit side works, and returns to TRAIN; silence the same with cause SILENT and LINK_SILENT.
A RESTART fences and returns to TRAIN without an answer. A reserved lc_type counts. A class whose head lacks credit fences the
port. An uncorrectable codeword, up to sixteen within 1 ms, counts and is remembered; the rate above 1e-4 writes FEC_DEGRADE once
an episode. The first idle words end a hunt; a lost framing starts one with HDR_INVALID. No ID in time makes the port ABSENT.
(R148, R152, R158, R161, R163, R164) -/
def Obligations.LinkLossAndFraming : Prop :=
  ∀ s : State,
    (∀ (port : Fin 512), s.dev.upRole port = true ∧ lsTRAIN ≤ s.dev.linkStatus port → exec (.linkLockLoss port) s = .next
        (s.endsX (s.dev.linkLost port fcLINK_LOSS))) ∧
    (∀ (port : Fin 512), lsCREDIT_INIT ≤ s.dev.linkStatus port ∧ s.dev.linkStatus port ≤ lsADMITTED → exec (.linkSilent port) s
        = .next (s.endsX (s.dev.linkLost port fcSILENT))) ∧
    (∀ (port : Fin 512) (cause : Fin 16), s.dev.lcFits port = true ∧ s.dev.upRole port = true → exec (.lcRestart port cause) s =
        .next (s.endsX (((s.dev.lcGot port).fence port fcLINK_LOSS).toTrain port))) ∧
    (∀ (port : Fin 512) (lcType : BitVec 8), s.dev.lcFits port = true → (lcType.toNat = 0 ∨ 0x0C < lcType.toNat) → exec
        (.lcTypeReserved port lcType) s = .next (s.endsX ((s.dev.lcGot port).count port .LC_UNKNOWN))) ∧
    (∀ (port : Fin 512) (cls : Fin 8) (q : EqEntry), s.dev.headEq port cls = some q → s.dev.admitted port = true ∧ s.dev.credit
        port cls < q.cells → exec (.creditStall port cls) s = .next (s.endsX (((s.dev.count port .CREDIT_STALL 1
        { cls := some cls }).fence port fcCREDIT_STALL).raise .CREDIT_STALL (s.dev.pathPort port) [.h cls]))) ∧
    (∀ (port : Fin 512), s.dev.admitted port = true ∧ s.dev.receiving.getOpt port = none → ((s.dev.fecTimes.get port []).filter
        (fun t => s.dev.localNs - t < 1000000)).length < 16 → exec (.fecUncorrCodeword port) s = .next (s.endsX
        ({ s.dev.count port .FEC_UNCORR with fecTimes := s.dev.fecTimes.set port [] (((s.dev.fecTimes.get port []).filter (fun t => s.dev.localNs - t < 1000000)) ++ [s.dev.localNs]) }))) ∧
    (∀ (port : Fin 512) (above : Bool), s.dev.admitted port = true ∧ above = true ∧ s.dev.flag .h_fec_degraded port = false →
        exec (.fecDegrade port above) s = .next (s.endsX ((s.dev.set .h_fec_degraded port 1).raise .FEC_DEGRADE (s.dev.pathPort
        port)))) ∧
    (∀ (port : Fin 512) (above : Bool), s.dev.admitted port = true ∧ above = false → exec (.fecDegrade port above) s = .next
        (s.endsX (s.dev.set .h_fec_degraded port 0))) ∧
    (∀ (port : Fin 512), exec (.idleWordAccept port) s = .next (s.endsX (s.dev.set .h_hunting port 0))) ∧
    (∀ (port : Fin 512), lsIDENTIFY ≤ s.dev.linkStatus port ∧ s.dev.flag .h_hunting port = false → exec (.invalidUnitRx port) s
        = .next (s.endsX (((s.dev.count port .HDR_CRC).raise .HDR_INVALID (s.dev.pathPort port)).set .h_hunting port 1))) ∧
    (∀ (port : Fin 512), s.dev.upRole port = true ∧ lsTRAIN ≤ s.dev.linkStatus port ∧ s.dev.linkStatus port ≤ lsIDENTIFY →
        s.dev.flag .h_id_fresh port = false ∧ s.dev.planned port = true ∧ s.dev.get .port_status_stencil_status port ≠ 5 → exec
        (.bringupTimeout port) s = .next (s.endsX ((s.dev.set .port_status_stencil_status port 5).raise .LINK_ABSENT
        (s.dev.pathPort port))))

/-- The commands of PORT_CMD. NOP does nothing, not even to PORT_CMD_STATUS. A command that is carried out shows itself and its result
there. FENCE fences with cause FABRIC. UNFENCE clears that cause, and a credit stall. ADMIT in ADMIT_WAIT sends ADMIT, in
QUARANTINE changes the result alone, to 3. ACCEPT in HELD takes the announced identity for the stencil and compares. RETRY in
QUARANTINE sends REV again. RESTART of a link that is up but not admitted, or fenced, sends RESTART and trains. REBALANCE fills
the indirection table of the bundle anew. (R51, R62, R64, R162, R163, R172) -/
def Obligations.PortCommands : Prop :=
  ∀ s : State,
    (∀ (m : Mark) (port : Fin 512), s.dev.accepts (.portCmdNop m port) = true → exec (.portCmdNop m port) s = .next (s.endsX
        (s.dev).ok)) ∧
    (∀ (m : Mark) (port : Fin 512), s.dev.accepts (.portCmdFence m port) = true → exec (.portCmdFence m port) s = .next (s.endsX
        ((s.dev.fence port fcFABRIC).setMany [(.port_cmd_status_last_cmd, port, 1), (.port_cmd_status_result, port, 0)]).ok)) ∧
    (∀ (m : Mark) (port : Fin 512), s.dev.accepts (.portCmdUnfence m port) = true → s.dev.bitOf .port_status_fence_mask port
        fcFABRIC = true → s.dev.bitOf .port_status_fence_mask port fcCREDIT_STALL = false → exec (.portCmdUnfence m port) s =
        .next (s.endsX (((s.dev.putB .port_status_fence_mask port fcFABRIC false).unfence port fcCREDIT_STALL).setMany
        [(.port_cmd_status_last_cmd, port, 2), (.port_cmd_status_result, port, 0)]).ok)) ∧
    (∀ (m : Mark) (port : Fin 512), s.dev.accepts (.portCmdAdmit m port) = true → s.dev.linkStatus port = lsADMIT_WAIT → exec
        (.portCmdAdmit m port) s = .next (s.endsX ((s.dev.sendAdmit port).setMany [(.port_cmd_status_last_cmd, port, 3),
        (.port_cmd_status_result, port, 0)]).ok)) ∧
    (∀ (m : Mark) (port : Fin 512), s.dev.accepts (.portCmdAdmit m port) = true → s.dev.linkStatus port = lsQUARANTINE → exec
        (.portCmdAdmit m port) s = .next (s.endsX (s.dev.set .port_cmd_status_result port 3).ok)) ∧
    (∀ (m : Mark) (port : Fin 512), s.dev.accepts (.portCmdAccept m port) = true → s.dev.linkStatus port = lsHELD → ∃ e, exec
        (.portCmdAccept m port) s = .next (s.endsX e) ∧ (e.get .port_stencil_0_valid port = 1 ∧ e.get .port_stencil_0_nbr_id
        port = s.dev.get .port_nbr_0_nbr_id port % 2 ^ 24 ∧ e.get .port_stencil_0_far_port port = s.dev.get .port_nbr_0_far_port
        port % 2 ^ 16 ∧ e.get .port_stencil_1_nbr_serial port = s.dev.get .port_nbr_1_nbr_serial port % 2 ^ 64 ∧ e.get
        .port_cmd_status_last_cmd port = 4) ∧ s.dev.Keeps e (fenceFlds ++ slotFlds ++ creditFlds ++ countFlds ++
        ([.port_status_agreed_features, .port_status_stencil_status, .port_cmd_status_last_cmd, .port_cmd_status_result,
        .port_stencil_0_far_port, .port_stencil_0_nbr_id, .port_stencil_0_nbr_plane, .port_stencil_0_nbr_kind,
        .port_stencil_0_valid, .port_stencil_1_nbr_serial, .port_nbr_ext_partner_rev, .port_credit_returned, .port_credit_sent,
        .xbar_port_mode_svc_mode, .h_rev_known, .h_partner_mask, .h_admitted_once, .h_cw_run, .h_txcw_t0, .h_swap_watch,
        .h_sq_try, .h_sq_c] : List Fld)) ∧ e.rest =
        ({ s.dev with frames := e.frames, waits := e.waits, egress := e.egress, lcWait := e.lcWait, sending := e.sending, receiving := e.receiving, rxSpoilt := e.rxSpoilt, undeliv := e.undeliv, indir := e.indir, heldRev := e.heldRev, dips := e.dips, sent := e.sent }
        : Dev).rest) ∧
    (∀ (m : Mark) (port : Fin 512), s.dev.accepts (.portCmdRetry m port) = true → s.dev.linkStatus port = lsQUARANTINE → exec
        (.portCmdRetry m port) s = .next (s.endsX (((s.dev.setLink port lsREVISION).sendRev port).setMany
        [(.port_cmd_status_last_cmd, port, 5), (.port_cmd_status_result, port, 0)]).ok)) ∧
    (∀ (m : Mark) (port : Fin 512), s.dev.accepts (.portCmdRestart m port) = true → s.dev.upRole port = true ∧ s.dev.linkStatus
        port ≠ lsDOWN → (s.dev.linkStatus port ≠ lsADMITTED ∨ s.dev.fenced port = true) → exec (.portCmdRestart m port) s =
        .next (s.endsX (((s.dev.sendRestart port 0).toTrain port).setMany [(.port_cmd_status_last_cmd, port, 6),
        (.port_cmd_status_result, port, 0)]).ok)) ∧
    (∀ (m : Mark) (port : Fin 512) (k : Nat), s.dev.accepts (.portCmdRebalance m port) = true → s.dev.bundleKey port = some k →
        exec (.portCmdRebalance m port) s = .next (s.endsX ((s.dev.rebalance k).setMany [(.port_cmd_status_last_cmd, port, 7),
        (.port_cmd_status_result, port, 0)]).ok))

/-- PORT_CFG, the stencil, the swap wait and the indirection table. A PORT_CFG write that changes nothing but auto_admit and
ctrl_from_down, and admits no port that waits for it, takes those. One that changes the role of a port that is neither fenced nor
DISABLED is refused with ROLE_BUSY, changing no more. One on a DISABLED port that none of the checks refuses sets role, axis,
target and bundle. A stencil write on a port that is neither HELD nor ADMITTED stores its fields. The end of a swap wait is a
mismatch that names the closest match. An indirection entry waits no longer for the earlier links that hold none of its frames. A
CREDIT frame reports the freed cells of the eight classes. (R44, R45, R51, R60, R61, R63, R156, R169, R213) -/
def Obligations.PortConfiguration : Prop :=
  ∀ s : State,
    (∀ (m : Mark) (port : Fin 512) (v : Word), s.dev.accepts (.portCfgWrite m port v) = true → (slice v.toNat 8 1 = 0 ∨
        s.dev.linkStatus port ≠ lsADMIT_WAIT) → slice v.toNat 0 3 = s.dev.role port ∧ slice v.toNat 16 2 = s.dev.get
        .port_cfg_axis port ∧ slice v.toNat 20 12 = s.dev.get .port_cfg_target port ∧ slice v.toNat 33 9 = s.dev.get
        .port_cfg_bundle port → exec (.portCfgWrite m port v) s = .next (s.endsX (s.dev.setMany [(.port_cfg_auto_admit, port,
        slice v.toNat 8 1), (.port_cfg_ctrl_from_down, port, slice v.toNat 9 1)]).ok)) ∧
    (∀ (m : Mark) (port : Fin 512) (v : Word), s.dev.accepts (.portCfgWrite m port v) = true → (slice v.toNat 8 1 = 0 ∨
        s.dev.linkStatus port ≠ lsADMIT_WAIT) → slice v.toNat 0 3 ≠ s.dev.role port → s.dev.fenced port = false ∧ s.dev.role
        port ≠ roleDISABLED → exec (.portCfgWrite m port v) s = .next (s.endsX ((s.dev.setMany [(.port_cfg_auto_admit, port,
        slice v.toNat 8 1), (.port_cfg_ctrl_from_down, port, slice v.toNat 9 1)]).raise .ROLE_BUSY (s.dev.pathPort port)).ok)) ∧
    (∀ (m : Mark) (port : Fin 512) (v : Word), s.dev.accepts (.portCfgWrite m port v) = true → (slice v.toNat 8 1 = 0 ∨
        s.dev.linkStatus port ≠ lsADMIT_WAIT) → s.dev.role port = roleDISABLED ∧ slice v.toNat 0 3 ≠ roleDISABLED →
        s.dev.roleRefused port (slice v.toNat 0 3) (slice v.toNat 16 2) (slice v.toNat 20 12) (slice v.toNat 33 9) = false → ∃
        e, exec (.portCfgWrite m port v) s = .next (s.endsX e) ∧ e.role port = slice v.toNat 0 3 ∧ e.get .port_cfg_axis port =
        slice v.toNat 16 2 ∧ e.get .port_cfg_target port = slice v.toNat 20 12 ∧ e.get .port_cfg_bundle port = slice v.toNat 33
        9 ∧ ∀ n : Fin 512, n ≠ port → e.role n = s.dev.role n) ∧
    (∀ (m : Mark) (port : Fin 512) (w : Fin 4) (v : Word), s.dev.accepts (.portStencilWrite m port w v) = true →
        s.dev.linkStatus port ≠ lsHELD ∧ s.dev.admitted port = false → exec (.portStencilWrite m port w v) s = .next (s.endsX
        (s.dev.writeFields (stencilRow w) port v.toNat []).ok)) ∧
    (∀ (port : Fin 512), s.dev.get .port_status_stencil_status port = 3 → exec (.swapWaitExpiry port) s = .next (s.endsX
        (s.dev.mismatch port (s.dev.firstFail port port) (if s.dev.get .h_swap_watch port = 0 then none else some (s.dev.get
        .h_swap_watch port - 1))))) ∧
    (∀ (bundle : Fin 12800) (entry : Fin 256) (q : IndEntry), (s.dev.indir.get bundle [])[entry.val]? = some q → exec
        (.pinEntryRelease bundle entry) s = .next (s.endsX
        ({ s.dev with indir := s.dev.indir.set bundle [] ((s.dev.indir.get bundle []).set entry { q with old := q.old.filter (s.dev.entryQueued bundle entry) }) }))) ∧
    (∀ (port : Fin 512), s.dev.flag .h_credit_sent port = true ∧ s.dev.boundSvc port = none → lsCREDIT_INIT ≤ s.dev.linkStatus
        port ∧ s.dev.linkStatus port ≤ lsADMITTED → (∀ c : Fin 8, s.dev.get .h_withheld (8 * port + c) = 0) → ∃ e, exec
        (.creditSend port) s = .next (s.endsX e) ∧ (e.sent.head? = some (Emit.lc port 1 (s.dev.creditWords port)) ∧ ∀ c : Fin 8,
        e.get .h_unreported (8 * port + c) = 0) ∧ s.dev.Keeps e (slotFlds ++ creditFlds ++ countFlds) ∧ e.rest =
        ({ s.dev with lcWait := e.lcWait, sent := e.sent } : Dev).rest)

/-- The ring lock state machine. A sweep that finds dips goes to IDENTIFY at the first; a receive ring that finds none goes to HOLD.
The own slot identified from the tones goes to ACQUIRE. A setting within the order window, its lock error within 2 GHz, locks. The
first two timeouts of ACQUIRE, outside a rail recovery, sweep again. A LOCKED ring without light, of a port without a peer
sequence, holds, and its received power reads dark; light in HOLD identifies at the held setting; a receive ring that never locked
may sweep in HOLD. A finished relock move goes to ACQUIRE. A LOCKED ring in a rail is recorded and relocked an order away.
Recalibration shows the slot it saw where it is the own one or none. After these changes, as written, the octet of the ring and
the link of its port follow. (R73, R74, R76, R77, R78, R79, R80) -/
def Obligations.RingLockStates : Prop :=
  ∀ s : State,
    (∀ (port : Fin 512) (ring : Fin 10) (dips : List (Fin 3001)), s.dev.ring (ringIx port ring) = rsSWEEP → dips ≠ [] → exec
        (.ringSweepEnd port ring dips) s = .next (s.endsX ((s.dev.ringIdentify (ringIx port ring) (sortBy (· ≤ ·) (dips.map (fun
        (x : Fin 3001) => x.val)))).afterRing port))) ∧
    (∀ (port : Fin 512) (ring : Fin 10) (dips : List (Fin 3001)), s.dev.ring (ringIx port ring) = rsSWEEP ∧ 5 ≤ ring.val → dips
        = [] → exec (.ringSweepEnd port ring dips) s = .next (s.endsX ((s.dev.set .opt_ring_status_state (ringIx port ring)
        rsHOLD).afterRing port))) ∧
    (∀ (port : Fin 512) (ring : Fin 10) (tones : Vector (BitVec 16) 6), s.dev.ring (ringIx port ring) = rsIDENTIFY → seenSlot
        (tones.toList.map BitVec.toInt) = ringSlot ring → exec (.ringToneCheck port ring tones) s = .next (s.endsX
        ({ s.dev.setMany [(.opt_ring_status_seen_slot, (ringIx port ring), ringSlot ring), (.opt_ring_status_state, (ringIx port ring), rsACQUIRE)] with dips := s.dev.dips.set (ringIx port ring) [] [] }))) ∧
    (∀ (port : Fin 512) (ring : Fin 10) (setting : Fin 3001) (lockError : BitVec 16), s.dev.ring (ringIx port ring) = rsACQUIRE
        → 300 ≤ setting.val ∧ setting.val < 2700 ∧ (sgn 16 lockError.toNat).natAbs ≤ 2000 → exec (.ringAcquireSettled port ring
        setting lockError) s = .next (s.endsX ((s.dev.setMany [(.opt_ring_heater_heater_ghz, (ringIx port ring), setting),
        (.opt_ring_heater_lock_error, (ringIx port ring), lockError.toNat), (.opt_ring_status_state, (ringIx port ring),
        rsLOCKED), (.h_ring_acqto, (ringIx port ring), 0), (.h_ring_ever, (ringIx port ring), 1), (.h_ring_rail, (ringIx port
        ring), 0), (.h_ring_near, (ringIx port ring), 0)]).afterRing port))) ∧
    (∀ (port : Fin 512) (ring : Fin 10), s.dev.ring (ringIx port ring) = rsACQUIRE ∧ s.dev.flag .h_ring_rail (ringIx port ring)
        = false ∧ s.dev.get .h_ring_acqto (ringIx port ring) < 2 → exec (.ringAcquireTimeout port ring) s = .next (s.endsX
        ((s.dev.set .h_ring_acqto (ringIx port ring) (s.dev.get .h_ring_acqto (ringIx port ring) + 1)).ringSweep (ringIx port
        ring)))) ∧
    (∀ (port : Fin 512) (ring : Fin 10), s.dev.ring (ringIx port ring) = rsLOCKED → s.dev.flag .h_peer_seq port = false ∧
        (((s.dev.set .opt_ring_status_state (ringIx port ring) rsHOLD).rxDark (ringIx port ring)).afterRing port).flag
        .h_peer_seq port = false → exec (.ringLightLost port ring) s = .next (s.endsX (((s.dev.set .opt_ring_status_state
        (ringIx port ring) rsHOLD).rxDark (ringIx port ring)).afterRing port))) ∧
    (∀ (port : Fin 512) (ring : Fin 10), s.dev.ring (ringIx port ring) = rsHOLD → exec (.ringLightReturn port ring) s = .next
        (s.endsX (s.dev.ringIdentify (ringIx port ring) [s.dev.get .opt_ring_heater_heater_ghz (ringIx port ring)]))) ∧
    (∀ (port : Fin 512) (ring : Fin 10), s.dev.ring (ringIx port ring) = rsHOLD ∧ 5 ≤ ring.val ∧ s.dev.flag .h_ring_ever (ringIx
        port ring) = false → exec (.ringHoldResweep port ring) s = .next (s.endsX (s.dev.set .h_ring_resweep (ringIx port ring)
        1))) ∧
    (∀ (port : Fin 512) (ring : Fin 10), s.dev.ring (ringIx port ring) = rsRELOCK → exec (.ringRelockMoveDone port ring) s =
        .next (s.endsX (s.dev.setMany [(.opt_ring_heater_heater_ghz, (ringIx port ring), s.dev.get .h_ring_target (ringIx port
        ring)), (.opt_ring_status_state, (ringIx port ring), rsACQUIRE)]))) ∧
    (∀ (port : Fin 512) (ring : Fin 10) (setting : Fin 3001), s.dev.ring (ringIx port ring) = rsLOCKED → (setting.val < 50 ∨
        2950 < setting.val) → exec (.ringRailReached port ring setting) s = .next (s.endsX (((((s.dev.set
        .opt_ring_heater_heater_ghz (ringIx port ring) setting).ringNear port ring).raise .OPT_RING_RAIL (s.dev.pathPort port)
        [.h ring, .h setting, .h (s.dev.picTemp port)]).ringRelock port ring (if setting.val < 50 then setting + 2400 else
        setting - 2400) true false).afterRing port))) ∧
    (∀ (port : Fin 512) (ring : Fin 10) (tones : Vector (BitVec 16) 6), s.dev.ring (ringIx port ring) = rsLOCKED → seenSlot
        (tones.toList.map BitVec.toInt) = 7 → exec (.recalVisit port ring tones) s = .next (s.endsX (s.dev.set
        .opt_ring_status_seen_slot (ringIx port ring) 7))) ∧
    (∀ (port : Fin 512) (ring : Fin 10) (tones : Vector (BitVec 16) 6), s.dev.ring (ringIx port ring) = rsLOCKED → seenSlot
        (tones.toList.map BitVec.toInt) = ringSlot ring → exec (.recalVisit port ring tones) s = .next (s.endsX (s.dev.set
        .opt_ring_status_seen_slot (ringIx port ring) (ringSlot ring))))

/-- Ring commands, engine control and feed-forward. NOP does nothing. RESTART of a ring that carries no lane of an admitted port and
no circuit restarts it (Dev.ringRestart: OFF where it is not needed or lock_enable is 0, SWEEP otherwise, a transmit ring in OFF
only once it may start); OFF puts it in OFF first; OFF of a busy ring is refused with OPT_RING_BUSY. RETRY restarts a ring in
FAULT and forgets its timeouts. A write of OPT_ENG_CTRL takes its fields and brings the rings of the engine in line. The first
report after a loss restarts the twelve filters at the report, without a step of any heater. A loss is recorded once, with the
time of the last report. (R74, R81, R83, R84, R92) -/
def Obligations.RingCommandsAndEngines : Prop :=
  ∀ s : State,
    (∀ (m : Mark) (port : Fin 512) (ring : Fin 10), s.dev.accepts (.ringCmdNop m port ring) = true → exec (.ringCmdNop m port
        ring) s = .next (s.endsX (s.dev).ok)) ∧
    (∀ (m : Mark) (port : Fin 512) (ring : Fin 10), s.dev.accepts (.ringCmdOff m port ring) = true → s.dev.ringBusy port ring =
        false → exec (.ringCmdOff m port ring) s = .next (s.endsX (((s.dev.ringOff (ringIx port ring)).ringRestart port
        ring).refreshLink port).ok)) ∧
    (∀ (m : Mark) (port : Fin 512) (ring : Fin 10), s.dev.accepts (.ringCmdRestart m port ring) = true → s.dev.ringBusy port
        ring = false → exec (.ringCmdRestart m port ring) s = .next (s.endsX ((s.dev.ringRestart port ring).refreshLink
        port).ok)) ∧
    (∀ (m : Mark) (port : Fin 512) (ring : Fin 10), s.dev.accepts (.ringCmdOff m port ring) = true → s.dev.ringBusy port ring =
        true → exec (.ringCmdOff m port ring) s = .next (s.endsX (s.dev.raise .OPT_RING_BUSY (s.dev.pathPort port) [.h ring, .h
        1]).ok)) ∧
    (∀ (m : Mark) (port : Fin 512) (ring : Fin 10), s.dev.accepts (.ringCmdRetry m port ring) = true → s.dev.ring (ringIx port
        ring) = rsFAULT → exec (.ringCmdRetry m port ring) s = .next (s.endsX (((s.dev.ringRestart port ring).set .h_ring_acqto
        (ringIx port ring) 0).refreshLink port).ok)) ∧
    (∀ (m : Mark) (engine : Fin 8) (v : Word), s.dev.accepts (.optEngCtrlWrite m engine v) = true → exec (.optEngCtrlWrite m
        engine v) s = .next (s.endsX ((s.dev.writeFields rowOPT_ENG_CTRL engine v.toNat []).engineRings engine).ok)) ∧
    (∀ (engine : Fin 8) (report : Vector (BitVec 16) 12), s.dev.flag .opt_eng_status_ff_link_ok engine = false → ∃ e, exec
        (.ffReport engine report) s = .next (s.endsX e) ∧ (e.flag .opt_eng_status_ff_link_ok engine = true ∧ (∀ n : Fin 12,
        e.get .h_ff_p (12 * engine + n) = report[n].toNat * 2 ^ 16) ∧ e.get .h_ff_last engine = s.dev.fabricNs ∧ ∀ k : Fin 5120,
        e.get .opt_ring_heater_heater_ghz k = s.dev.get .opt_ring_heater_heater_ghz k) ∧ s.dev.Keeps e (fenceFlds ++ slotFlds ++
        creditFlds ++ countFlds ++ ([.opt_eng_status_ff_link_ok, .opt_eng_status_octet_done, .opt_ring_status_relock_count,
        .opt_ring_status_fault_cause, .xpr_circ_status_last_cause, .xpr_circ_status_state, .h_ring_rail, .h_ring_near,
        .h_ring_target, .h_ff_p, .h_ff_prev, .h_ff_last, .h_xpr_decl, .h_xpr_rew, .h_wtr_state, .h_wtr_ghz] : List Fld)) ∧
        e.rest =
        ({ s.dev with frames := e.frames, waits := e.waits, egress := e.egress, lcWait := e.lcWait, sending := e.sending, receiving := e.receiving, rxSpoilt := e.rxSpoilt, undeliv := e.undeliv, indir := e.indir, heldRev := e.heldRev, dips := e.dips, relocks := e.relocks, sent := e.sent }
        : Dev).rest) ∧
    (∀ (engine : Fin 8), s.dev.flag .opt_eng_status_ff_link_ok engine = true → exec (.ffLost engine) s = .next (s.endsX
        (((s.dev.set .opt_eng_status_ff_link_ok engine 0).count (blkEngine engine) .FF_LOST).raise .OPT_FF_LOST
        (s.dev.pathEngine engine) [.d (s.dev.get .h_ff_last engine)])))

/-- Lane maps, armed switches, received power and power requests. A map of four distinct slots a half is taken on a port that is
fenced or DISABLED; otherwise LANE_MAP_BUSY. An arm within its window is set with the next map; the switch takes the next map and
clears the arm. A 1 ms average of a lane whose ring is locked, within the thresholds, is stored. The end of an episode ends its
blocking. A wanted request goes out once; its expiry ends the wait. A request for more power within the trim range is granted with
a step and answered, one at its end is denied; a grant ends the wait. (R70, R71, R87, R88, R89, R101, R102) -/
def Obligations.LaneMapsAndPower : Prop :=
  ∀ s : State,
    (∀ (m : Mark) (port : Fin 512) (v : Word), s.dev.accepts (.optLaneMapWrite m port v) = true → (s.dev.fenced port = true ∨
        s.dev.role port = roleDISABLED) → halfOk (mapWord v.toNat 0) = true ∧ halfOk (mapWord v.toNat 16) = true → exec
        (.optLaneMapWrite m port v) s = .next (s.endsX ((s.dev.setTxMap port (mapWord v.toNat 0)).steerRx port (mapWord v.toNat
        16)).ok)) ∧
    (∀ (m : Mark) (port : Fin 512) (v : Word), s.dev.accepts (.optLaneMapWrite m port v) = true → s.dev.fenced port = false ∧
        s.dev.role port ≠ roleDISABLED → exec (.optLaneMapWrite m port v) s = .next (s.endsX (s.dev.raise .LANE_MAP_BUSY
        (s.dev.pathPort port) [.d v.toNat]).ok)) ∧
    (∀ (m : Mark) (port : Fin 512) (v : Word), s.dev.accepts (.laneTxArm m port v) = true → s.dev.seqOwns port = false ∧ bit
        v.toNat 62 = false → halfOk (mapWord v.toNat 0) = true ∧ halfOk (mapWord v.toNat 16) = true → cwAhead (s.dev.get
        .opt_lane_switch_cw_tx_switch_cw port) (s.dev.txCw port) = true → ∃ e, exec (.laneTxArm m port v) s = .next (s.endsX e)
        ∧ (e.get .opt_lane_next_tx_arm port = 1 ∧ (∀ l : Fin 4, e.get .opt_lane_next_tx_lane (4 * port + l) = slice v.toNat (4 *
        l) 3 ∧ e.get .opt_lane_next_rx_lane (4 * port + l) = slice v.toNat (16 + 4 * l) 3) ∧ e.sent = okReply ++ s.dev.sent) ∧
        s.dev.Keeps e (([.opt_lane_next_tx_arm, .opt_lane_next_rx_arm, .opt_lane_next_rx_lane, .opt_lane_next_tx_lane] : List
        Fld)) ∧ e.rest = ({ s.dev with sent := e.sent } : Dev).rest) ∧
    (∀ (m : Mark) (port : Fin 512) (v : Word), s.dev.accepts (.laneRxArm m port v) = true → s.dev.seqOwns port = false ∧ bit
        v.toNat 63 = false → halfOk (mapWord v.toNat 0) = true ∧ halfOk (mapWord v.toNat 16) = true → cwAhead (s.dev.get
        .opt_lane_switch_cw_rx_switch_cw port) (s.dev.rxCw port) = true → ∃ e, exec (.laneRxArm m port v) s = .next (s.endsX e)
        ∧ (e.get .opt_lane_next_rx_arm port = 1 ∧ (∀ l : Fin 4, e.get .opt_lane_next_tx_lane (4 * port + l) = slice v.toNat (4 *
        l) 3 ∧ e.get .opt_lane_next_rx_lane (4 * port + l) = slice v.toNat (16 + 4 * l) 3) ∧ e.sent = okReply ++ s.dev.sent) ∧
        s.dev.Keeps e (([.opt_lane_next_tx_arm, .opt_lane_next_rx_arm, .opt_lane_next_rx_lane, .opt_lane_next_tx_lane] : List
        Fld)) ∧ e.rest = ({ s.dev with sent := e.sent } : Dev).rest) ∧
    (∀ (port : Fin 512), s.dev.flag .opt_lane_next_tx_arm port = true ∧ s.dev.seqOwns port = false → exec (.laneTxSwitch port) s
        = .next (s.endsX ((s.dev.setTxMap port ((List.range 4).map (fun l => s.dev.get .opt_lane_next_tx_lane (4 * port +
        l)))).set .opt_lane_next_tx_arm port 0))) ∧
    (∀ (port : Fin 512), s.dev.flag .opt_lane_next_rx_arm port = true ∧ s.dev.flag .h_peer_back port = false → exec
        (.laneRxSwitch port) s = .next (s.endsX ((s.dev.steerRx port ((List.range 4).map (fun l => s.dev.get
        .opt_lane_next_rx_lane (4 * port + l)))).set .opt_lane_next_rx_arm port 0))) ∧
    (∀ (port : Fin 512) (lane : Fin 5) (avg : BitVec 16), lane.val < 4 ∧ s.dev.ring (s.dev.rxRing port lane) = rsLOCKED → thresh
        (s.dev.get .opt_rx_thresh_warn (port / 64)) ≤ oma avg.toNat ∧ thresh (s.dev.get .opt_rx_thresh_alarm (port / 64)) ≤ oma
        avg.toNat ∧ oma avg.toNat ≤ thresh (s.dev.get .opt_rx_thresh_high (port / 64)) → exec (.rxPowerAverage port lane avg) s
        = .next (s.endsX ((s.dev.set .opt_rx_power_lane (4 * port + lane) avg.toNat).putB .h_pwr_blk_dn port lane false))) ∧
    (∀ (port : Fin 512) (lane : Fin 4) (alarm : Bool), alarm = true → exec (.marginEpisodeEnd port lane alarm) s = .next
        (s.endsX (s.dev.putB .h_alarm_ep port lane false))) ∧
    (∀ (port : Fin 512) (lane : Fin 4) (alarm : Bool), alarm = false → exec (.marginEpisodeEnd port lane alarm) s = .next
        (s.endsX ((s.dev.putB .h_low_ep port lane false).putB .h_pwr_blk_up port lane false))) ∧
    (∀ (port : Fin 512) (lane : Fin 4) (down : Bool), s.dev.admitted port = true ∧ s.dev.fenced port = false → down = false ∧
        s.dev.get .opt_rx_power_lane (4 * port + lane) ≠ 0x8000 ∧ oma (s.dev.get .opt_rx_power_lane (4 * port + lane)) < thresh
        (s.dev.get .opt_rx_thresh_warn (port / 64)) → s.dev.bitOf .h_pwr_blk_up port lane = false ∧ s.dev.bitOf
        .opt_margin_status_request_pending port lane = false → exec (.pwrReqSend port lane down) s = .next (s.endsX
        ((((s.dev.sendLc port 0x06 [lane, s.dev.get .opt_rx_power_lane (4 * port + lane)]).count port .PWR_REQ_SENT).putB
        .opt_margin_status_request_pending port lane true).putB .h_pwr_dir port lane false))) ∧
    (∀ (port : Fin 512) (lane : Fin 4), exec (.pwrReqExpiry port lane) s = .next (s.endsX (s.dev.putB
        .opt_margin_status_request_pending port lane false))) ∧
    (∀ (port : Fin 512) (lane : Fin 4) (down : Bool) (avg : BitVec 16), s.dev.boundSvc port = none ∧ s.dev.lcFits port = true ∧
        s.dev.admitted port = true → s.dev.flag .h_pwr_rx_v (4 * port + lane) = false → down = false ∧ s.dev.get
        .opt_tx_trim_trim (4 * port + lane) < s.dev.get .opt_tx_trim_trim_max port → exec (.lcPwrReq port lane down avg) s =
        .next (s.endsX (((s.dev.lcGot port).setMany [(.opt_tx_trim_trim, 4 * port + lane, s.dev.get .opt_tx_trim_trim (4 * port
        + lane) + 1), (.h_pwr_rx, 4 * port + lane, s.dev.localNs), (.h_pwr_rx_v, 4 * port + lane, 1)]).sendLc port 0x07 [2 ^ 16
        + (s.dev.get .opt_tx_trim_trim (4 * port + lane) + 1) * 2 ^ 8 + lane]))) ∧
    (∀ (port : Fin 512) (lane : Fin 4) (granted : Bool) (trim : Fin 8), s.dev.lcFits port = true → granted = true ∧ s.dev.bitOf
        .opt_margin_status_request_pending port lane = true → exec (.lcPwrAns port lane granted trim) s = .next (s.endsX
        ((((s.dev.lcGot port).set .h_far_trim (4 * port + lane) trim).putB .opt_margin_status_request_pending port lane
        false).count port .PWR_REQ_GRANTED)))

/-- Octets, DFB states, the bias loop and wear. A write of LAS_ENG_CTRL takes its fields, and its octets that should be dark go dark.
An octet that may be lit in a warm zone is marked lit, and the active DFBs that are OFF and not parked start their ramps. The ramp
ends in SETTLE with its bias, at most 120 mA. A settled DFB outside a sequence is LIT with its power, and the rings of the engine
follow. A LIT DFB below its target gets more bias. A reading below 100 mA changes the power only. Wear-out at the clamp is
recorded and asks for a sequence; a failed DFB is FAILED. Each minute the wear of a LIT DFB of an engine that is on counts, and a
verified write stores it. (R108, R110, R111, R112, R123, R134, R139, R527, R578) -/
def Obligations.LaserLightingAndWear : Prop :=
  ∀ s : State,
    (∀ (m : Mark) (engine : Fin 8) (v : Word), s.dev.accepts (.lasEngCtrlWrite m engine v) = true → s.dev.flag .h_eng_hold
        engine = false → exec (.lasEngCtrlWrite m engine v) s = .next (s.endsX ((List.range 8).foldl (fun (d : Dev) (j : Nat) =>
        d.octetCheck (8 * engine + j)) ((s.dev.writeFields rowLAS_ENG_CTRL engine v.toNat []).set .h_eng_hold engine 0)).ok)) ∧
    (∀ (octet : Fin 64), s.dev.octetWanted octet = true ∧ s.dev.flag .h_oct_lit octet = false ∧ s.dev.laserCold (octet / 8) =
        false → ∃ e, exec (.octetLight octet) s = .next (s.endsX e) ∧ (e.flag .h_oct_lit octet = true ∧ ∀ sl : Fin 5, e.dfb
        (dfbIx octet sl (s.dev.activeB octet sl)) = if s.dev.slotParked (8 * octet) sl = false ∧ s.dev.dfb (dfbIx octet sl
        (s.dev.activeB octet sl)) = 0 then 1 else s.dev.dfb (dfbIx octet sl (s.dev.activeB octet sl))) ∧ s.dev.Keeps e
        (([.las_dfb_status_power, .las_dfb_status_state, .h_oct_lit, .h_cold_hold] : List Fld)) ∧ e.rest =
        ({ s.dev with sent := e.sent } : Dev).rest) ∧
    (∀ (octet : Fin 64) (slot : Fin 5) (b : Fin 2) (bias : BitVec 12), s.dev.dfb (dfbIx octet slot b) = 1 ∧ s.dev.laserCold
        (octet / 8) = false → exec (.dfbRampUpDone octet slot b bias) s = .next (s.endsX (((s.dev.setBias (dfbIx octet slot b)
        (min 2400 bias.toNat)).set .las_dfb_status_state (dfbIx octet slot b) 2).set .las_dfb_status_power (dfbIx octet slot b)
        0x8000))) ∧
    (∀ (octet : Fin 64) (slot : Fin 5) (b : Fin 2) (power : BitVec 16), s.dev.dfb (dfbIx octet slot b) = 2 → s.dev.seqPhase
        octet ≠ 4 ∧ s.dev.seqPhase octet ≠ 7 → exec (.dfbLit octet slot b power) s = .next (s.endsX ((s.dev.setMany
        [(.las_dfb_status_state, (dfbIx octet slot b), 3), (.las_dfb_status_power, (dfbIx octet slot b), power.toNat),
        (.h_dfb_warned, (dfbIx octet slot b), 0), (.h_dfb_maxed, (dfbIx octet slot b), 0)]).engineRings (octet / 8)))) ∧
    (∀ (octet : Fin 64) (slot : Fin 5) (b : Fin 2) (power : BitVec 16) (move : Fin 11), s.dev.dfb (dfbIx octet slot b) = 3 → sgn
        16 power.toNat < 0 → exec (.dfbBiasLoop octet slot b power move) s = .next (s.endsX ((s.dev.set .las_dfb_status_power
        (dfbIx octet slot b) power.toNat).setBias (dfbIx octet slot b) (min 2400 (s.dev.get .las_dfb_status_bias (dfbIx octet
        slot b) + move))))) ∧
    (∀ (octet : Fin 64) (slot : Fin 5) (b : Fin 2) (power : BitVec 16), s.dev.dfb (dfbIx octet slot b) = 3 ∧ s.dev.get
        .las_dfb_status_bias (dfbIx octet slot b) < 2000 → exec (.dfbMonitor octet slot b power) s = .next (s.endsX (s.dev.set
        .las_dfb_status_power (dfbIx octet slot b) power.toNat))) ∧
    (∀ (octet : Fin 64) (slot : Fin 5) (b : Fin 2) (power : BitVec 16), s.dev.dfb (dfbIx octet slot b) = 3 ∧ 2000 ≤ s.dev.get
        .las_dfb_status_bias (dfbIx octet slot b) ∧ s.dev.get .las_dfb_status_bias (dfbIx octet slot b) < 2400 → s.dev.flag
        .h_dfb_warned (dfbIx octet slot b) = false ∧ s.dev.standbyUnused octet slot = true ∧ s.dev.flag .las_eng_ctrl_auto_spare
        (octet / 8) = false → exec (.dfbMonitor octet slot b power) s = .next (s.endsX (((s.dev.set .las_dfb_status_power (dfbIx
        octet slot b) power.toNat).set .h_dfb_warned (dfbIx octet slot b) 1).raise .LAS_BIAS_WARN (s.dev.pathDfb octet slot
        b)))) ∧
    (∀ (octet : Fin 64) (slot : Fin 5), s.dev.dfb (dfbIx octet slot (s.dev.activeB octet slot)) = 3 ∧ 2400 ≤ s.dev.get
        .las_dfb_status_bias (dfbIx octet slot (s.dev.activeB octet slot)) → exec (.dfbWearOut octet slot) s = .next (s.endsX
        (((s.dev.raise .LAS_WEAR_OUT (s.dev.pathEngine (octet / 8) ucLASER (dfbIx octet slot (s.dev.activeB octet
        slot)))).seqRequest octet slot (!s.dev.standbyUnused octet slot)).1))) ∧
    (∀ (octet : Fin 64) (slot : Fin 5), s.dev.dfb (dfbIx octet slot (s.dev.activeB octet slot)) = 3 → ∃ e, exec (.dfbFail octet
        slot) s = .next (s.endsX e) ∧ (e.dfb (dfbIx octet slot (s.dev.activeB octet slot)) = 6 ∧ e.get .las_dfb_status_bias
        (dfbIx octet slot (s.dev.activeB octet slot)) = 0) ∧ s.dev.Keeps e (fenceFlds ++ slotFlds ++ creditFlds ++ countFlds ++
        ([.las_oct_status_participants, .las_oct_seq_time_seq_start, .xpr_circ_status_last_cause, .xpr_circ_status_state,
        .h_seq_kind, .h_seq_no, .h_seq_resumed, .h_seq_armed, .h_sq_try, .h_sq_c, .h_sq_home, .h_sq_out, .h_sq_back,
        .h_xpr_decl, .h_xpr_rew, .h_wtr_state, .h_wtr_ghz, .h_cold_hold] : List Fld)) ∧ e.rest =
        ({ s.dev with frames := e.frames, waits := e.waits, egress := e.egress, lcWait := e.lcWait, sending := e.sending, receiving := e.receiving, rxSpoilt := e.rxSpoilt, undeliv := e.undeliv, indir := e.indir, heldRev := e.heldRev, dips := e.dips, seqQueue := e.seqQueue, sent := e.sent }
        : Dev).rest) ∧
    (∀ (ok : Bool), ok = true → ∃ e, exec (.wearRecordWrite ok) s = .next (s.endsX e) ∧ (∀ k : Fin 640, s.dev.domainOn (11 + k /
        80) = true → e.get .p_lit_minutes k = e.get .las_dfb_wear_lit_minutes k ∧ e.get .las_dfb_wear_lit_minutes k = if
        s.dev.dfb k = 3 then (s.dev.get .las_dfb_wear_lit_minutes k + 1) % 2 ^ 32 else s.dev.get .las_dfb_wear_lit_minutes k) ∧
        s.dev.Keeps e (([.las_dfb_wear_eq_hours, .las_dfb_wear_lit_minutes, .las_dfb_trend_bias_slope, .h_eq_num,
        .p_lit_minutes, .p_eq_hours, .p_eq_num, .p_peak_bias, .p_bias_slope] : List Fld)) ∧ e.rest =
        ({ s.dev with wearHist := e.wearHist, sent := e.sent } : Dev).rest)

/-- Requests for a sparing sequence and its steps at both ends. NOP does nothing. SPARE with an unused standby, and PARK, on an octet
without a parked slot queue a request; ABORT of a queued one takes it out (Dev.seqUnqueue: outcome 5). The earliest request of an
engine that runs fewer than two, not refused meanwhile, enters PREPARE. The far end accepts a request by arming its receive
switch. Acceptance arms the transmit switch of the near end; LATE, readiness and a timeout up to the third attempt send the
request again. The primary, ramped down, is OFF and the standby starts. A standby that fails brings the primary back; a primary
that fails too parks the slot. A port without SPARE_READY becomes a fenced participant; one not admitted after a resumed standby
gets its final half at once. (R113, R116, R117, R118, R120, R121, R122, R124, R136) -/
def Obligations.SparingSequences : Prop :=
  ∀ s : State,
    (∀ (m : Mark) (octet : Fin 64) (slot : Fin 8), s.dev.accepts (.lasOctCmdNop m octet slot) = true → exec (.lasOctCmdNop m
        octet slot) s = .next (s.ends (s.dev).ok)) ∧
    (∀ (m : Mark) (octet : Fin 64) (slot : Fin 8), s.dev.accepts (.lasOctCmdSpare m octet slot) = true → s.dev.seqHas octet slot
        = false ∧ s.dev.get .las_oct_status_parked octet = 0 ∧ s.dev.standbyUnused octet slot = true → exec (.lasOctCmdSpare m
        octet slot) s = .next (s.ends (({ s.dev with seqQueue := s.dev.seqQueue ++ [(⟨octet, slot, 0⟩ : SeqReq)] } :
        Dev).seqShowQueue octet).ok)) ∧
    (∀ (m : Mark) (octet : Fin 64) (slot : Fin 8), s.dev.accepts (.lasOctCmdPark m octet slot) = true → s.dev.seqHas octet slot
        = false ∧ s.dev.get .las_oct_status_parked octet = 0 → exec (.lasOctCmdPark m octet slot) s = .next (s.ends
        (({ s.dev with seqQueue := s.dev.seqQueue ++ [(⟨octet, slot, 1⟩ : SeqReq)] } : Dev).seqShowQueue octet).ok)) ∧
    (∀ (m : Mark) (octet : Fin 64) (slot : Fin 8), s.dev.accepts (.lasOctCmdSpare m octet slot) = true → s.dev.seqHas octet slot
        = false → (s.dev.get .las_oct_status_parked octet ≠ 0 ∨ s.dev.standbyUnused octet slot = false) → exec (.lasOctCmdSpare
        m octet slot) s = .next (s.ends (s.dev.noStandby octet slot).ok)) ∧
    (∀ (m : Mark) (octet : Fin 64) (slot : Fin 8), s.dev.accepts (.lasOctCmdAbort m octet slot) = true → s.dev.seqQueue.any (fun
        q => q.named octet slot) = true → exec (.lasOctCmdAbort m octet slot) s = .next (s.ends (s.dev.seqUnqueue octet
        slot).ok)) ∧
    (∀ (octet : Fin 64) (q : SeqReq), s.dev.seqNext (octet / 8) = some q ∧ q.octet = octet → s.dev.octRunning (octet / 8) < 2 →
        s.dev.seqRefused q = false ∧ q.kind ≠ 2 → exec (.spareSeqStart octet) s = .next (s.endsX
        (({ s.dev with seqQueue := s.dev.seqQueue.erase q } : Dev).seqPrepare octet q.slot q.kind))) ∧
    (∀ (port : Fin 512) (seq : BitVec 16) (back : Bool) (slot : Fin 5) (spare : Fin 5) (cw : BitVec 32), s.dev.boundSvc port =
        none ∧ s.dev.lcFits port = true ∧ s.dev.admitted port = true → (s.dev.lcGot port).spareCheck port seq.toNat back slot
        spare cw.toNat = 0 → ∃ e, exec (.lcSpareReq port seq back slot spare cw) s = .next (s.endsX e) ∧ (e.get
        .opt_lane_next_rx_arm port = 1 ∧ e.get .h_peer_seq port = 1 ∧ e.get .h_peer_slot port = slot ∧ e.get .h_peer_no port =
        seq.toNat ∧ e.get .opt_lane_switch_cw_rx_switch_cw port = cw.toNat) ∧ s.dev.Keeps e (slotFlds ++ lcFlds ++ countFlds ++
        ([.opt_lane_next_rx_arm, .opt_lane_next_rx_lane, .opt_lane_switch_cw_rx_switch_cw, .xpr_circ_status_last_cause,
        .xpr_circ_status_state, .h_peer_seq, .h_peer_slot, .h_peer_back, .h_peer_no, .h_xpr_decl, .h_xpr_rew, .h_wtr_state,
        .h_wtr_ghz] : List Fld)) ∧ e.rest = ({ s.dev with lcWait := e.lcWait, sent := e.sent } : Dev).rest) ∧
    (∀ (port : Fin 512) (seq : BitVec 16) (result : Fin 8), s.dev.lcFits port = true ∧ s.dev.awaitsAck port = true → s.dev.get
        .h_seq_no (port / 8) = seq.toNat ∧ result.val = 0 → ∃ e, exec (.lcSpareAck port seq result) s = .next (s.endsX e) ∧
        (e.get .opt_lane_next_tx_arm port = 1 ∧ e.get .h_sq_wait port = 0 ∧ e.get .opt_lane_switch_cw_tx_switch_cw port =
        s.dev.get .h_sq_c port % 2 ^ 32 ∧ e.seqPhase (port / 8) = if s.dev.seqPhase (port / 8) = 2 then 3 else s.dev.seqPhase
        (port / 8)) ∧ s.dev.Keeps e (fenceFlds ++ slotFlds ++ creditFlds ++ countFlds ++ ([.opt_lane_next_tx_lane,
        .opt_lane_switch_cw_tx_switch_cw, .h_lc_us, .h_lc_count, .h_seq_armed, .h_sq_c] : List Fld)) ∧ e.rest =
        ({ s.dev with frames := e.frames, waits := e.waits, egress := e.egress, lcWait := e.lcWait, sending := e.sending, receiving := e.receiving, rxSpoilt := e.rxSpoilt, undeliv := e.undeliv, indir := e.indir, heldRev := e.heldRev, dips := e.dips, sent := e.sent }
        : Dev).rest) ∧
    (∀ (port : Fin 512), s.dev.awaitsAck port = true ∧ s.dev.get .h_sq_try port < 3 → exec (.spareAckTimeout port) s = .next
        (s.endsX ((s.dev.set .h_sq_try port (s.dev.get .h_sq_try port + 1)).spareReq port (s.dev.get .h_sq_wait port == 2)))) ∧
    (∀ (port : Fin 512), s.dev.awaitsAck port = true ∧ 3 ≤ s.dev.get .h_sq_try port → exec (.spareAckTimeout port) s = .next
        (s.endsX ((s.dev.seqFence port).seqProgress (port / 8)))) ∧
    (∀ (octet : Fin 64), s.dev.seqPhase octet = 4 → s.dev.dfb (dfbIx octet (s.dev.get .las_oct_status_slot octet) 0) = 4 → exec
        (.primaryRampDownDone octet) s = .next (s.endsX (((s.dev.dfbState (dfbIx octet (s.dev.get .las_oct_status_slot octet) 0)
        0).set .las_dfb_status_bias (dfbIx octet (s.dev.get .las_oct_status_slot octet) 0) 0).dfbStart (dfbIx octet (s.dev.get
        .las_oct_status_slot octet) 1)))) ∧
    (∀ (octet : Fin 64), s.dev.seqPhase octet = 4 ∧ s.dev.laserCold (octet / 8) = false → s.dev.dfbRising (dfbIx octet
        (s.dev.get .las_oct_status_slot octet) 1) = true ∧ s.dev.dfb (dfbIx octet (s.dev.get .las_oct_status_slot octet) 0) ≠ 6
        → exec (.standbyLitTimeout octet) s = .next (s.endsX (((((s.dev.dfbState (dfbIx octet (s.dev.get .las_oct_status_slot
        octet) 1) 6).set .las_dfb_status_bias (dfbIx octet (s.dev.get .las_oct_status_slot octet) 1) 0).raise .LAS_SPARE_FAIL
        (s.dev.pathDfb octet (s.dev.get .las_oct_status_slot octet) 0)).dfbState (dfbIx octet (s.dev.get .las_oct_status_slot
        octet) 0) 1).set .las_oct_status_phase octet 7))) ∧
    (∀ (octet : Fin 64), s.dev.seqPhase octet = 7 → s.dev.dfbRising (dfbIx octet (s.dev.get .las_oct_status_slot octet) 0) =
        true → exec (.primaryLitTimeout octet) s = .next (s.endsX (s.dev.parkSlot octet (s.dev.get .las_oct_status_slot
        octet)))) ∧
    (∀ (port : Fin 512) (seq : BitVec 16) (slot : Fin 5) (avg : BitVec 16), s.dev.lcFits port = true ∧ (s.dev.lcGot
        port).backDue port = true → s.dev.get .h_seq_no (port / 8) = seq.toNat ∧ s.dev.get .las_oct_status_slot (port / 8) =
        slot.val → exec (.lcSpareReady port seq slot avg) s = .next (s.endsX ((s.dev.lcGot port).steerBack port))) ∧
    (∀ (port : Fin 512), (s.dev.seqPhase (port / 8) = 5 ∨ s.dev.seqPhase (port / 8) = 6) → s.dev.backDue port = true → exec
        (.spareReadyTimeout port) s = .next (s.endsX ((s.dev.seqFence port).seqProgress (port / 8)))) ∧
    (∀ (port : Fin 512), (s.dev.seqPhase (port / 8) = 5 ∨ s.dev.seqPhase (port / 8) = 6) → s.dev.seqOwns port = true ∧
        s.dev.admitted port = false ∧ s.dev.flag .h_sq_back port = false → exec (.spareResumeTimeout port) s = .next (s.endsX
        (((s.dev.halfHome port (s.dev.get .las_oct_status_slot (port / 8))).setMany [(.h_sq_back, port, 1),
        (.opt_lane_next_tx_arm, port, 0), (.h_sq_wait, port, 0)]).seqProgress (port / 8))))

/-- Express circuits. NOP does nothing. SETUP that passes the twelve checks shows status 0, its waveguide, segments and input power,
and builds: its coupler moves and its port rings follow; the first check that fails is the status, with XPR_REFUSED. READY holds
the coupler and calibrates the weight rings; activation, once due, leads to ACTIVE. TEARDOWN and an amplifier fault tear down with
their causes; a circuit torn down becomes FREE with its resources. REWEIGHT of an ACTIVE circuit that passes its checks waits for
the step in which its weights couple. An input below -8.5 dBm is lost, once an episode. Configuration is taken while FREE, weights
while FREE or ACTIVE. A declaration or withdrawal of the partner is processed as any link-control frame. (R127, R129, R130, R131,
R142, R153) -/
def Obligations.ExpressCircuits : Prop :=
  ∀ s : State,
    (∀ (m : Mark) (c : Fin 64), s.dev.accepts (.xprCmdNop m c) = true → exec (.xprCmdNop m c) s = .next (s.endsX (s.dev).ok)) ∧
    (∀ (m : Mark) (c : Fin 64), s.dev.accepts (.xprCmdSetup m c) = true → s.dev.setupStatus c = 0 → exec (.xprCmdSetup m c) s =
        .next (s.endsX (((s.dev.setMany [(.xpr_circ_status_status, c, 0), (.xpr_circ_status_waveguide, c, (s.dev.freeGuide c
        (s.dev.circSegments c)).getD 0), (.xpr_circ_status_segments, c, s.dev.circSegments c), (.xpr_circ_status_input_oma, c,
        s.dev.slotOma (s.dev.circAdd c) (s.dev.circSlot c)), (.xpr_circ_status_state, c, 1)]).coupler c rsRELOCK 0).circRings
        c).ok)) ∧
    (∀ (m : Mark) (c : Fin 64), s.dev.accepts (.xprCmdSetup m c) = true → s.dev.setupStatus c ≠ 0 → exec (.xprCmdSetup m c) s =
        .next (s.endsX ((s.dev.set .xpr_circ_status_status c (s.dev.setupStatus c)).raise .XPR_REFUSED (s.dev.pathPort
        (s.dev.circAdd c)) [.h (s.dev.setupStatus c)]).ok)) ∧
    (∀ (m : Mark) (c : Fin 64), s.dev.accepts (.xprCmdTeardown m c) = true → s.dev.circState c ≠ 0 ∧ s.dev.circState c ≠ 4 →
        exec (.xprCmdTeardown m c) s = .next (s.endsX ((s.dev.set .xpr_circ_status_status c 0).xprTear c 1).ok)) ∧
    (∀ (m : Mark) (c : Fin 64), s.dev.accepts (.xprCmdReweight m c) = true → s.dev.circState c = 3 ∧ s.dev.weightBad c = false →
        s.dev.powerOk c (s.dev.get .xpr_circ_status_input_oma c) = true → exec (.xprCmdReweight m c) s = .next (s.endsX
        (s.dev.setMany [(.xpr_circ_status_status, c, 0), (.h_xpr_rew, c, 1)]).ok)) ∧
    (∀ (c : Fin 64), s.dev.flag .h_xpr_rew c = true → exec (.xprReweightDone c) s = .next (s.endsX ((s.dev.set .h_xpr_rew c
        0).opEnd (.xprReweight c) 0))) ∧
    (∀ (c : Fin 64), s.dev.circState c = 1 → exec (.xprReady c) s = .next (s.endsX (((s.dev.coupler c rsLOCKED 200).weightRings
        c rsACQUIRE 0).setMany [(.xpr_circ_status_state, c, 2), (.h_xpr_ready_ns, c, s.dev.fabricNs)]))) ∧
    (∀ (c : Fin 64), s.dev.actDue c = true → ∃ e, exec (.xprActivate c) s = .next (s.endsX e) ∧ (e.circState c = 3 ∧ e.flag
        .h_xpr_decl c = true ∧ ∀ o ∈ e.ops, o.key = OpKey.xprSetup c → o.res ≠ none) ∧ s.dev.Keeps e (slotFlds ++ creditFlds ++
        countFlds ++ ([.port_status_link_status, .opt_eng_status_octet_done, .opt_ring_status_state,
        .opt_ring_heater_heater_ghz, .opt_lane_map_tx_lane, .opt_rx_power_lane, .opt_rx_spare_spare,
        .opt_margin_status_request_pending, .xpr_circ_status_input_oma, .xpr_circ_status_waveguide, .xpr_circ_status_segments,
        .xpr_circ_status_act_late, .xpr_circ_status_status, .xpr_circ_status_state, .h_id_fresh, .h_win_partial, .h_ring_rail,
        .h_ring_resweep, .h_xpr_decl, .h_cpl_state, .h_cpl_ghz, .h_wtr_state, .h_wtr_ghz] : List Fld)) ∧ e.rest =
        ({ s.dev with frames := e.frames, waits := e.waits, egress := e.egress, lcWait := e.lcWait, sending := e.sending, receiving := e.receiving, rxSpoilt := e.rxSpoilt, undeliv := e.undeliv, indir := e.indir, heldRev := e.heldRev, dips := e.dips, ops := e.ops, sent := e.sent }
        : Dev).rest) ∧
    (∀ (c : Fin 64), s.dev.circState c = 4 → exec (.xprFree c) s = .next (s.endsX (((((s.dev.coupler c rsOFF 0).weightRings c
        rsOFF 0).setMany [(.xpr_circ_status_state, c, 0), (.xpr_circ_status_segments, c, 0), (.xpr_circ_status_waveguide, c, 0),
        (.xpr_circ_status_input_lost, c, 0), (.h_xpr_lost_ep, c, 0)]).circRings c).opEnd (.xprTear c) 0))) ∧
    (∀ (c : Fin 64) (v : BitVec 16) (held : Bool), s.dev.circState c = 3 ∧ oma v.toNat < -850 ∧ s.dev.flag .h_xpr_lost_ep c =
        false → exec (.xprInputMeasure c v held) s = .next (s.endsX (((s.dev.set .xpr_circ_status_input_oma c v.toNat).setMany
        [(.h_xpr_lost_ep, c, 1), (.xpr_circ_status_input_lost, c, 1)]).raise .XPR_INPUT_LOST (s.dev.pathPort (s.dev.circAdd
        c))))) ∧
    (∀ (c : Fin 64) (v : BitVec 16) (held : Bool), s.dev.circState c = 3 ∧ -850 ≤ oma v.toNat ∧ held = false → exec
        (.xprInputMeasure c v held) s = .next (s.endsX (s.dev.set .xpr_circ_status_input_oma c v.toNat))) ∧
    (∀ (c : Fin 64), s.dev.circState c ≠ 0 ∧ s.dev.circState c ≠ 4 → ∃ e, exec (.xprAmpFault c) s = .next (s.endsX e) ∧
        (e.circState c = 4 ∧ e.get .xpr_circ_status_last_cause c = 6 ∧ e.flag .h_xpr_decl c = false) ∧ s.dev.Keeps e (slotFlds
        ++ countFlds ++ ([.xpr_circ_status_last_cause, .xpr_circ_status_state, .h_xpr_decl, .h_xpr_rew, .h_wtr_state,
        .h_wtr_ghz] : List Fld)) ∧ e.rest = ({ s.dev with lcWait := e.lcWait, sent := e.sent } : Dev).rest) ∧
    (∀ (m : Mark) (c : Fin 64) (v : Word), s.dev.accepts (.xprCircCfgWrite m c v) = true → s.dev.circState c = 0 → exec
        (.xprCircCfgWrite m c v) s = .next (s.ends (s.dev.writeFields rowXPR_CIRC_CFG c v.toNat []).ok)) ∧
    (∀ (m : Mark) (c : Fin 64) (v : Word), s.dev.accepts (.xprCircWeightWrite m c v) = true → (s.dev.circState c = 0 ∨
        s.dev.circState c = 3) → exec (.xprCircWeightWrite m c v) s = .next (s.ends (s.dev.writeFields rowXPR_CIRC_WEIGHT c
        v.toNat []).ok)) ∧
    (∀ (m : Mark) (c : Fin 64) (v : Word), s.dev.accepts (.xprCircCfgWrite m c v) = true → s.dev.circState c ≠ 0 → exec
        (.xprCircCfgWrite m c v) s = .next (s.ends (s.dev.raise .XPR_REFUSED (s.dev.pathPort (s.dev.circAdd c)) [.h 1]).ok)) ∧
    (∀ (port : Fin 512) (slot : Fin 5) (drop : Bool) (circuit : Fin 64) (device : BitVec 14) (addPort : Fin 512), s.dev.boundSvc
        port = none ∧ s.dev.lcFits port = true ∧ s.dev.admitted port = true → exec (.lcExpressDecl port slot drop circuit device
        addPort) s = .next (s.endsX (s.dev.lcGot port))) ∧
    (∀ (port : Fin 512) (cause : BitVec 4) (slot : Fin 5) (circuit : Fin 64), s.dev.lcFits port = true → exec
        (.lcExpressWithdraw port cause slot circuit) s = .next (s.endsX (s.dev.lcGot port)))

/-- A frame arrives: its header, its last byte, a scrub visit to its cells. On a port whose quadrant is on and that receives no frame:
a header with a wrong CRC counts HDR_CRC, raises HDR_INVALID and starts a hunt; while the port hunts it counts HUNT_BYTES. A sound
header of version 1 begins a reception under the next frame number, of its length, and then: where checks 2 to 7 of R588
(checkLink) give an answer other than a pass, that answer takes effect (gateDrop) and nothing else does; where checks 2 to 16 pass
at a port without ingress mirroring, RX_FRAMES and RX_BYTES count and the frame enters (enterFrame: policing, lookup, learning);
unpoliced, on an AXIS port, with a bundle as its route, it stands in the wait queue of that bundle, incomplete, with its own
number, header and port. The last byte of a held frame ends the reception and completes the frame with its payload: with the CRC
of its bytes on an unspoilt reception it is delivered on; with the inverted CRC it counts STOMPED_RX, with another one or on a
spoilt reception FCS_BAD with its record, and the frame is spoilt. A scrub visit that finds a corrected cell counts CELL_CORR; an
uncorrectable one counts and records CELL_UNCORR and spoils the frame. (R17, R148, R149, R150, R151, R206, R588) -/
def Obligations.FramesIn : Prop :=
  ∀ s : State,
    (∀ (port : Fin 512) (h : HdrWords), s.dev.quadOn port = true ∧ s.dev.receiving.getOpt port = none ∧ s.dev.flag .h_hunting
        port = false → hdrCrcOk (hdrList h) = false → exec (.fabricFrameRx port h) s = .next (s.endsX (((s.dev.count port
        .HDR_CRC).raise .HDR_INVALID (s.dev.pathPort port)).set .h_hunting port 1))) ∧
    (∀ (port : Fin 512) (h : HdrWords), s.dev.quadOn port = true ∧ s.dev.receiving.getOpt port = none → s.dev.flag .h_hunting
        port = true ∧ hdrCrcOk (hdrList h) = false → exec (.fabricFrameRx port h) s = .next (s.endsX (s.dev.count port
        .HUNT_BYTES 4))) ∧
    (∀ (port : Fin 512) (h : HdrWords), s.dev.quadOn port = true ∧ s.dev.receiving.getOpt port = none ∧ s.dev.flag .h_hunting
        port = false → hdrCrcOk (hdrList h) = true ∧ (Hdr.ofWords (hdrList h)).ver = 1 → s.dev.checkLink port (Hdr.ofWords
        (hdrList h)) ≠ .pass → exec (.fabricFrameRx port h) s = .next (s.endsX
        (({ s.dev.set .h_hunting port 0 with nextFid := s.dev.nextFid + 1, receiving := s.dev.receiving.set port none (some { rid := s.dev.nextFid, len := (Hdr.ofWords (hdrList h)).length }), rxSpoilt := s.dev.rxSpoilt.set port false false }
        : Dev).gateDrop port (Hdr.ofWords (hdrList h)) (s.dev.checkLink port (Hdr.ofWords (hdrList h)))))) ∧
    (∀ (port : Fin 512) (h : HdrWords), s.dev.quadOn port = true ∧ s.dev.receiving.getOpt port = none ∧ s.dev.flag .h_hunting
        port = false → hdrCrcOk (hdrList h) = true ∧ (Hdr.ofWords (hdrList h)).ver = 1 → s.dev.checkLink port (Hdr.ofWords
        (hdrList h)) = .pass ∧ s.dev.checkFabric port (Hdr.ofWords (hdrList h)) = .pass ∧ s.dev.flag .xbar_port_mirror_ing_en
        port = false → exec (.fabricFrameRx port h) s = .next (s.endsX
        ((((({ s.dev.set .h_hunting port 0 with nextFid := s.dev.nextFid + 1, receiving := s.dev.receiving.set port none (some { rid := s.dev.nextFid, len := (Hdr.ofWords (hdrList h)).length }), rxSpoilt := s.dev.rxSpoilt.set port false false }
        : Dev).count port .RX_FRAMES 1 (Hdr.ofWords (hdrList h)).attr).count port .RX_BYTES (linkBytes (Hdr.ofWords (hdrList
        h)).length) (Hdr.ofWords (hdrList h)).attr).winAdd .h_win_rx_bytes 5 port (linkBytes (Hdr.ofWords (hdrList
        h)).length)).enterFrame port s.dev.nextFid 0 (Hdr.ofWords (hdrList h))))) ∧
    (∀ (port : Fin 512) (h : HdrWords) (key : Nat), s.dev.quadOn port = true ∧ s.dev.receiving.getOpt port = none ∧ s.dev.flag
        .h_hunting port = false → hdrCrcOk (hdrList h) = true ∧ (Hdr.ofWords (hdrList h)).ver = 1 → s.dev.checkLink port
        (Hdr.ofWords (hdrList h)) = .pass ∧ s.dev.checkFabric port (Hdr.ofWords (hdrList h)) = .pass → s.dev.role port =
        roleAXIS ∧ s.dev.flag .xbar_port_mirror_ing_en port = false ∧ s.dev.policer port (Hdr.ofWords (hdrList h)).cls = none →
        s.dev.resolve (some port.val) (Hdr.ofWords (hdrList h)) = { route := .bundle key } → ∃ e, exec (.fabricFrameRx port h) s
        = .next (s.endsX e) ∧ (e.waits = s.dev.waits ++
        [{ fid := s.dev.nextFid, input := port, cls := (Hdr.ofWords (hdrList h)).cls, target := .bundle key }] ∧ e.nextFid =
        s.dev.nextFid + 1 ∧ (∃ f, e.frames = s.dev.frames ++ [f] ∧ f.id = s.dev.nextFid ∧ f.hdr = Hdr.ofWords (hdrList h) ∧
        f.input = port.val ∧ f.complete = false)) ∧ s.dev.Keeps e (countFlds ++ ([.xbar_mir_stats_dropped, .xbar_mir_stats_sent,
        .sched_pol_stats_red, .sched_pol_stats_yellow, .h_freed, .h_unreported, .h_hunting, .h_win_rx_bytes, .h_win_sat,
        .h_full_sec, .h_learn_q, .h_pol_p, .h_pol_c, .h_pol_t, .h_mir_cnt] : List Fld)) ∧ e.rest =
        ({ s.dev with frames := e.frames, nextFid := e.nextFid, waits := e.waits, egress := e.egress, receiving := e.receiving, ftab := e.ftab, collSeen := e.collSeen, rxSpoilt := e.rxSpoilt, sent := e.sent }
        : Dev).rest) ∧
    (∀ (port : Fin 512) (payload : List Byte) (crc : BitVec 32) (r : Rx) (f : Frame), s.dev.receiving.getOpt port = some r ∧
        r.len = payload.length ∧ s.dev.frame r.rid = some f → s.dev.rxSpoilt.get port false = false ∧ crc.toNat = frameCrc f.hdr
        (byteList payload) → exec (.frameLastByte port payload crc) s = .next (s.endsX
        (((({ s.dev with receiving := s.dev.receiving.set port none none, rxSpoilt := s.dev.rxSpoilt.set port false false } :
        Dev).fillMirrors r.rid (byteList payload ++ List.replicate (padBytes r.len) 0 ++ beBytes 4 crc.toNat)).mapFrame r.rid
        (fun (g : Frame) => { g with payload := byteList payload, complete := true })).settleInternal))) ∧
    (∀ (port : Fin 512) (payload : List Byte) (crc : BitVec 32) (r : Rx) (f : Frame), s.dev.receiving.getOpt port = some r ∧
        r.len = payload.length ∧ s.dev.frame r.rid = some f → crc.toNat = frameCrc f.hdr (byteList payload) ^^^ 0xFFFFFFFF →
        exec (.frameLastByte port payload crc) s = .next (s.endsX
        ((((({ s.dev with receiving := s.dev.receiving.set port none none, rxSpoilt := s.dev.rxSpoilt.set port false false } :
        Dev).fillMirrors r.rid (byteList payload ++ List.replicate (padBytes r.len) 0 ++ beBytes 4 crc.toNat)).mapFrame r.rid
        (fun (g : Frame) => { g with payload := byteList payload, complete := true })).count port .STOMPED_RX 1
        f.hdr.attr).spoil r.rid))) ∧
    (∀ (port : Fin 512) (payload : List Byte) (crc : BitVec 32) (r : Rx) (f : Frame), s.dev.receiving.getOpt port = some r ∧
        r.len = payload.length ∧ s.dev.frame r.rid = some f → (crc.toNat ≠ frameCrc f.hdr (byteList payload) ^^^ 0xFFFFFFFF ∧
        (crc.toNat ≠ frameCrc f.hdr (byteList payload) ∨ s.dev.rxSpoilt.get port false = true)) → exec (.frameLastByte port
        payload crc) s = .next (s.endsX
        (((((({ s.dev with receiving := s.dev.receiving.set port none none, rxSpoilt := s.dev.rxSpoilt.set port false false } :
        Dev).fillMirrors r.rid (byteList payload ++ List.replicate (padBytes r.len) 0 ++ beBytes 4 crc.toNat)).mapFrame r.rid
        (fun (g : Frame) => { g with payload := byteList payload, complete := true })).count port .FCS_BAD 1 f.hdr.attr).raise
        .FCS_BAD (s.dev.pathPort port)).spoil r.rid))) ∧
    (∀ (fid : BitVec 32) (cell : CellRead), cell = .corrected → exec (.sramScrubVisit fid cell) s = .next (s.endsX (s.dev.count
        blkDevice .CELL_CORR))) ∧
    (∀ (fid : BitVec 32) (cell : CellRead) (a : Fin 786432), cell = .uncorrectable a ∧ (s.dev.frame fid.toNat).isSome = true →
        exec (.sramScrubVisit fid cell) s = .next (s.endsX (((s.dev.count blkDevice .CELL_UNCORR).raise .CELL_UNCORR
        s.dev.pathDevice [.w a.val]).spoil fid.toNat)))

/-- Wait queues, the scheduling decision, the end of a frame, the drain of a fenced port. The head of a wait queue of internal output
514 or 515 moves there, unmarked, when int_oq has room, else it stays and EQ_HOLD_DEV counts. A unicast head whose chosen link, in
mode NORMAL and with no marking of its class, has room for its class moves to that link with its place of pinning; where it has
none the head stays and EQ_HOLD counts. A decision of a port that is up, sends nothing, is not fenced and has no passed frame to
send starts the head of the class that the procedure (pickClass) chooses: it is as startHead gives, and without egress mirroring
its entry has left the queue and its header goes out as outHdr gives it. The end of a complete frame on a port that stands for no
service port, on which no link-control frame waits and which is no ANALYSIS port with a dark slot, emits it, counts TX_FRAMES and
TX_BYTES, ends the sending and lets its cells go. A fenced port drops one entry of a class, counted FENCED_DISCARD, for a
replicated copy UMBRA_DISCARD. The end of STARTUP or RECOVERY is NORMAL. A write of XBAR_PORT_MODE takes its fields. (R54, R145,
R206, R207, R210, R218, R222, R235, R237) -/
def Obligations.FramesOut : Prop :=
  ∀ s : State,
    (∀ (inp : Fin 517) (cls : Fin 8) (t : WaitTarget) (w : Wait) (f : Frame) (out : Nat), s.dev.waitHead inp cls (waitIs t) =
        some w ∧ s.dev.frame w.fid = some f ∧ w.target = .internal out → 514 ≤ out ∧ s.dev.outputUsed out < s.dev.get
        .xbar_mirror_res_oq_int (out - 512) * 256 → exec (.waitQueueEnqueue inp cls t) s = .next (s.endsX (((s.dev.pushEgress
        { out := out, cls := f.hdr.cls, fid := f.id, cells := f.cells }).leaveWait f.id).settleInternal))) ∧
    (∀ (inp : Fin 517) (cls : Fin 8) (t : WaitTarget) (w : Wait) (f : Frame) (out : Nat), s.dev.waitHead inp cls (waitIs t) =
        some w ∧ s.dev.frame w.fid = some f ∧ w.target = .internal out → 514 ≤ out ∧ s.dev.get .xbar_mirror_res_oq_int (out -
        512) * 256 ≤ s.dev.outputUsed out → exec (.waitQueueEnqueue inp cls t) s = .next (s.endsX (s.dev.count blkDevice
        .EQ_HOLD_DEV 1 { cls := some f.hdr.cls }))) ∧
    (∀ (inp : Fin 517) (cls : Fin 8) (t : WaitTarget) (w : Wait) (f : Frame) (key p : Nat) (pin : Option (Nat × Nat)),
        s.dev.waitHead inp cls (waitIs t) = some w ∧ s.dev.frame w.fid = some f ∧ w.target = .bundle key → (s.dev.pickLink key
        f).2 = .link p pin ∧ p < 512 → s.dev.outUsed p f.hdr.cls < s.dev.get .xbar_eq_eq (8 * p + f.hdr.cls) ∧ s.dev.get
        .xbar_port_mode_svc_mode p = 0 ∧ s.dev.bitOf .sched_port_cfg_mark_mask p f.hdr.cls = false → exec (.waitQueueEnqueue inp
        cls t) s = .next (s.endsX (((s.dev.pickLink key f).1.pushEgress
        { out := p, cls := f.hdr.cls, fid := f.id, cells := f.cells, pin := pin }).leaveWait f.id))) ∧
    (∀ (inp : Fin 517) (cls : Fin 8) (t : WaitTarget) (w : Wait) (f : Frame) (key p : Nat) (pin : Option (Nat × Nat)),
        s.dev.waitHead inp cls (waitIs t) = some w ∧ s.dev.frame w.fid = some f ∧ w.target = .bundle key → (s.dev.pickLink key
        f).2 = .link p pin ∧ p < 512 → s.dev.get .xbar_eq_eq (8 * p + f.hdr.cls) ≤ s.dev.outUsed p f.hdr.cls → exec
        (.waitQueueEnqueue inp cls t) s = .next (s.endsX ((s.dev.pickLink key f).1.count p .EQ_HOLD 1 f.hdr.attr))) ∧
    (∀ (port : Fin 512) (cell : CellRead) (c : Nat), (s.dev.sending.getOpt port = none ∧ s.dev.fenced port = false ∧
        s.dev.passWaits port = false ∧ (s.dev.linkStatus port = lsADMITTED ∨ s.dev.linkStatus port = lsTX_ONLY)) →
        (s.dev.pickClass port).2 = some c → exec (.schedDecision port cell) s = .next (s.endsX ((s.dev.pickClass
        port).1.startHead port c (cellOf cell)))) ∧
    (∀ (port : Fin 512) (cell : CellRead) (c : Nat) (q : EqEntry) (f : Frame), (s.dev.sending.getOpt port = none ∧ s.dev.fenced
        port = false ∧ s.dev.passWaits port = false ∧ (s.dev.linkStatus port = lsADMITTED ∨ s.dev.linkStatus port = lsTX_ONLY))
        → (s.dev.pickClass port).2 = some c ∧ s.dev.portHead port c = some (q, f) → cell = .ok ∧ s.dev.flag
        .xbar_port_mirror_egr_en port = false → ∃ e, exec (.schedDecision port cell) s = .next (s.endsX e) ∧ (e.sending.getOpt
        port = some ({ fid := f.id, cls := c, hdr := s.dev.outHdr port f.hdr q.mark } : Sending) ∧ e.egress = removeEntry q
        s.dev.egress) ∧ s.dev.Keeps e (creditFlds ++ countFlds ++ ([.port_credit_sent, .xbar_mir_stats_dropped,
        .xbar_mir_stats_sent, .h_sch_ptr, .h_sch_fresh, .h_shp_tok, .h_shp_t, .h_mir_cnt, .h_treq_t1] : List Fld)) ∧ e.rest =
        ({ s.dev with frames := e.frames, nextFid := e.nextFid, waits := e.waits, egress := e.egress, sending := e.sending, deficits := e.deficits, undeliv := e.undeliv, sent := e.sent }
        : Dev).rest) ∧
    (∀ (port : Fin 512) (cell : CellRead) (x : Sending) (f : Frame), s.dev.sending.getOpt port = some x ∧ s.dev.frame x.fid =
        some f ∧ f.complete = true → cell = .ok ∧ s.dev.boundSvc port = none ∧ s.dev.lcWait.get port [] = [] ∧
        s.dev.analysisDark port = false → exec (.frameTxEnd port cell) s = .next (s.endsX
        (({ (((((s.dev.emit (.frame port x.hdr.words f.payload x.stomp)).count port .TX_FRAMES 1 x.hdr.attr).count port .TX_BYTES (linkBytes x.hdr.length) x.hdr.attr).winAdd .h_win_tx_bytes 4 port (linkBytes x.hdr.length)).slots port (b2n x.stomp) (linkBytes x.hdr.length / 4)) with sending := s.dev.sending.set port none none, lcWait := s.dev.lcWait.set port [] [] }
        : Dev).releaseRef x.fid))) ∧
    (∀ (port : Fin 512) (cls : Fin 8) (q : EqEntry) (f : Frame), s.dev.fenced port = true ∧ s.dev.portHead port cls = some (q,
        f) → exec (.fencedDrain port cls) s = .next (s.endsX
        ((({ s.dev.count port (if f.mc then .UMBRA_DISCARD else .FENCED_DISCARD) 1 f.hdr.attr with egress := removeEntry q s.dev.egress }
        : Dev).undelivered port f.hdr).releaseRef f.id))) ∧
    (∀ (port : Fin 512), (s.dev.get .xbar_port_mode_svc_mode port = 1 ∨ s.dev.get .xbar_port_mode_svc_mode port = 3) → exec
        (.serviceModeEnd port) s = .next (s.endsX (s.dev.set .xbar_port_mode_svc_mode port 0))) ∧
    (∀ (m : Mark) (port : Fin 512) (v : Word), s.dev.accepts (.xbarPortModeWrite m port v) = true → exec (.xbarPortModeWrite m
        port v) s = .next (s.ends (s.dev.writeFields rowXBAR_PORT_MODE port v.toNat []).ok))

/-- The forwarding table: seeds, lock slots, commit, sweep. A write of FWD_CTRL that changes a seed: while entries are valid it keeps
both seeds and raises FWD_SEED_BUSY; with none valid it is taken when the two seeds differ, else it keeps both and raises
FWD_SEED_INVALID; its other fields are taken. FWD_AGE_CTRL takes its fields, and FWD_LEARN those of a port that was learn-blocked
before. Lock command NOP changes nothing. ACQUIRE on a slot that holds a bucket is SLOT_BUSY; of a free bucket it copies the eight
words of the bucket to the stage, holds it, loads the timeout and is OK; of one held by another slot it is BUSY; beyond the last
it is RANGE. RELEASE frees the slot. COMMIT of one slot without a fault installs its four staged entries (word 0 with the age
marks that keepAge gives), frees it and is OK; with a fault only its result changes. FWD_COMMIT of at most eight slots without a
fault frees each with OK; otherwise only the results change: of each faulty slot its fault, of each other COMMIT_SET. A hold that
outlasts its timeout is freed with LOCK_LOST, counted and recorded. The sweep puts a locked bucket aside; another is aged
(ageUnit), and the end of the sweep is looked for (sweepDone). At the end of a round a bucket put aside that is free now is aged.
(R187, R188, R189, R190, R192, R194, R195, R201, R203, R204) -/
def Obligations.ForwardingTable : Prop :=
  ∀ s : State,
    (∀ (m : Mark) (v : Word), s.dev.accepts (.fwdCtrlWrite m v) = true → s.dev.entriesValid = 0 → (s.dev.writeFields rowFWD_CTRL
        0 v.toNat []).get .fwd_ctrl_seed_a ≠ (s.dev.writeFields rowFWD_CTRL 0 v.toNat []).get .fwd_ctrl_seed_b → exec
        (.fwdCtrlWrite m v) s = .next (s.ends ((s.dev.writeFields rowFWD_CTRL 0 v.toNat [])).ok)) ∧
    (∀ (m : Mark) (v : Word), s.dev.accepts (.fwdCtrlWrite m v) = true → s.dev.entriesValid ≠ 0 → ¬((s.dev.writeFields
        rowFWD_CTRL 0 v.toNat []).get .fwd_ctrl_seed_a = s.dev.get .fwd_ctrl_seed_a ∧ (s.dev.writeFields rowFWD_CTRL 0 v.toNat
        []).get .fwd_ctrl_seed_b = s.dev.get .fwd_ctrl_seed_b) → exec (.fwdCtrlWrite m v) s = .next (s.ends (((s.dev.writeFields
        rowFWD_CTRL 0 v.toNat []).setMany [(.fwd_ctrl_seed_a, 0, s.dev.get .fwd_ctrl_seed_a), (.fwd_ctrl_seed_b, 0, s.dev.get
        .fwd_ctrl_seed_b)]).raise .FWD_SEED_BUSY s.dev.pathDevice).ok)) ∧
    (∀ (m : Mark) (v : Word), s.dev.accepts (.fwdCtrlWrite m v) = true → s.dev.entriesValid = 0 → ¬((s.dev.writeFields
        rowFWD_CTRL 0 v.toNat []).get .fwd_ctrl_seed_a = s.dev.get .fwd_ctrl_seed_a ∧ (s.dev.writeFields rowFWD_CTRL 0 v.toNat
        []).get .fwd_ctrl_seed_b = s.dev.get .fwd_ctrl_seed_b) → (s.dev.writeFields rowFWD_CTRL 0 v.toNat []).get
        .fwd_ctrl_seed_a = (s.dev.writeFields rowFWD_CTRL 0 v.toNat []).get .fwd_ctrl_seed_b → exec (.fwdCtrlWrite m v) s =
        .next (s.ends (((s.dev.writeFields rowFWD_CTRL 0 v.toNat []).setMany [(.fwd_ctrl_seed_a, 0, s.dev.get .fwd_ctrl_seed_a),
        (.fwd_ctrl_seed_b, 0, s.dev.get .fwd_ctrl_seed_b)]).raise .FWD_SEED_INVALID s.dev.pathDevice).ok)) ∧
    (∀ (m : Mark) (v : Word), s.dev.accepts (.fwdAgeCtrlWrite m v) = true → exec (.fwdAgeCtrlWrite m v) s = .next (s.ends
        (s.dev.writeFields rowFWD_AGE_CTRL 0 v.toNat []).ok)) ∧
    (∀ (m : Mark) (port : Fin 512) (v : Word), s.dev.accepts (.fwdLearnWrite m port v) = true → s.dev.learnBlocked port = true →
        exec (.fwdLearnWrite m port v) s = .next (s.ends (s.dev.writeFields rowFWD_LEARN port v.toNat []).ok)) ∧
    (∀ (m : Mark) (slot : Fin 64) (bucket : BitVec 19), s.dev.accepts (.fwdLockNop m slot bucket) = true → exec (.fwdLockNop m
        slot bucket) s = .next (s.ends (s.dev).ok)) ∧
    (∀ (m : Mark) (slot : Fin 64) (bucket : BitVec 19), s.dev.accepts (.fwdLockAcquire m slot bucket) = true → s.dev.slotHeld
        slot = false ∧ bucket.toNat < nUnits ∧ s.dev.locked bucket.toNat = false → exec (.fwdLockAcquire m slot bucket) s =
        .next (s.ends ((((s.dev.set .fwd_lock_status_bucket slot bucket.toNat).setMany ((List.range 8).map (fun (j : Nat) =>
        (.fwd_lock_stage_stage, 8 * slot.val + j, s.dev.ftab.get (8 * bucket.toNat + j) 0)))).setMany [(.fwd_lock_status_held,
        slot, 1), (.h_lock_us, slot, max 1 (s.dev.get .fwd_lock_ctrl_lock_timeout_us))]).set .fwd_lock_status_result slot
        lkOK).ok)) ∧
    (∀ (m : Mark) (slot : Fin 64) (bucket : BitVec 19), s.dev.accepts (.fwdLockAcquire m slot bucket) = true → s.dev.slotHeld
        slot = true → exec (.fwdLockAcquire m slot bucket) s = .next (s.ends (s.dev.set .fwd_lock_status_result slot
        lkSLOT_BUSY).ok)) ∧
    (∀ (m : Mark) (slot : Fin 64) (bucket : BitVec 19), s.dev.accepts (.fwdLockAcquire m slot bucket) = true → s.dev.slotHeld
        slot = false ∧ bucket.toNat < nUnits ∧ s.dev.locked bucket.toNat = true → exec (.fwdLockAcquire m slot bucket) s = .next
        (s.ends ((s.dev.set .fwd_lock_status_bucket slot bucket.toNat).set .fwd_lock_status_result slot lkBUSY).ok)) ∧
    (∀ (m : Mark) (slot : Fin 64) (bucket : BitVec 19), s.dev.accepts (.fwdLockAcquire m slot bucket) = true → s.dev.slotHeld
        slot = false ∧ nUnits ≤ bucket.toNat → exec (.fwdLockAcquire m slot bucket) s = .next (s.ends ((s.dev.set
        .fwd_lock_status_bucket slot bucket.toNat).set .fwd_lock_status_result slot lkRANGE).ok)) ∧
    (∀ (m : Mark) (slot : Fin 64) (bucket : BitVec 19), s.dev.accepts (.fwdLockRelease m slot bucket) = true → exec
        (.fwdLockRelease m slot bucket) s = .next (s.ends (s.dev.set .fwd_lock_status_held slot 0).ok)) ∧
    (∀ (m : Mark) (slot : Fin 64) (bucket : BitVec 19), s.dev.accepts (.fwdLockCommit m slot bucket) = true → s.dev.slotFails
        [slot.val] slot = lkOK → ∃ e, exec (.fwdLockCommit m slot bucket) s = .next (s.ends e) ∧ (e.slotHeld slot = false ∧
        e.get .fwd_lock_status_result slot = lkOK ∧ ∀ i : Fin 4, e.fw (4 * s.dev.get .fwd_lock_status_bucket slot + i) 0 =
        s.dev.keepAge [slot.val] (s.dev.staged slot (2 * i)) ∧ e.fw (4 * s.dev.get .fwd_lock_status_bucket slot + i) 1 =
        s.dev.staged slot (2 * i + 1)) ∧ s.dev.Keeps e (([.fwd_lock_status_bucket, .fwd_lock_status_result,
        .fwd_lock_status_held, .fwd_lock_stage_stage, .h_lock_us] : List Fld)) ∧ e.rest =
        ({ s.dev with ftab := e.ftab, sent := e.sent } : Dev).rest) ∧
    (∀ (m : Mark) (slot : Fin 64) (bucket : BitVec 19), s.dev.accepts (.fwdLockCommit m slot bucket) = true → s.dev.slotFails
        [slot.val] slot ≠ lkOK → exec (.fwdLockCommit m slot bucket) s = .next (s.ends (s.dev.set .fwd_lock_status_result slot
        (s.dev.slotFails [slot.val] slot)).ok)) ∧
    (∀ (m : Mark) (v : Word), s.dev.accepts (.fwdCommitWrite m v) = true → (bitsOf 64 v.toNat).length ≤ 8 → (∀ k ∈ bitsOf 64
        v.toNat, s.dev.slotFails (bitsOf 64 v.toNat) k = lkOK) → ∃ e, exec (.fwdCommitWrite m v) s = .next (s.ends e) ∧ (∀ k ∈
        bitsOf 64 v.toNat, e.slotHeld k = false ∧ e.get .fwd_lock_status_result k = lkOK) ∧ s.dev.Keeps e
        (([.fwd_lock_status_result, .fwd_lock_status_held] : List Fld)) ∧ e.rest =
        ({ s.dev with ftab := e.ftab, sent := e.sent } : Dev).rest) ∧
    (∀ (m : Mark) (v : Word), s.dev.accepts (.fwdCommitWrite m v) = true → (8 < (bitsOf 64 v.toNat).length ∨ ∃ k ∈ bitsOf 64
        v.toNat, s.dev.slotFails (bitsOf 64 v.toNat) k ≠ lkOK) → exec (.fwdCommitWrite m v) s = .next (s.ends ((bitsOf 64
        v.toNat).foldl (fun (x : Dev) (k : Nat) => x.set .fwd_lock_status_result k (if s.dev.slotFails (bitsOf 64 v.toNat) k =
        lkOK then lkCOMMIT_SET else s.dev.slotFails (bitsOf 64 v.toNat) k)) s.dev).ok)) ∧
    (∀ (slot : Fin 64), s.dev.slotHeld slot = true → exec (.fwdLockTimeout slot) s = .next (s.endsX (((s.dev.setMany
        [(.fwd_lock_status_held, slot, 0), (.fwd_lock_status_result, slot, lkLOCK_LOST)]).count blkDevice
        .FWD_LOCK_TIMEOUT).raise .FWD_LOCK_TIMEOUT (s.dev.pathDevice ucLOCK_SLOT slot) [.h slot.val, .w (s.dev.get
        .fwd_lock_status_bucket slot)]))) ∧
    (s.dev.sweepOn = true ∧ s.dev.get .h_sweep_at < nUnits → s.dev.locked (s.dev.get .h_sweep_at) = true → exec (.ageVisit) s =
        .next (s.endsX
        ({ s.dev.setMany [(.fwd_sweep_sweep_pos, 0, s.dev.get .h_sweep_at), (.h_sweep_at, 0, s.dev.get .h_sweep_at + 1)] with swSkipped := s.dev.swSkipped ++ [s.dev.get .h_sweep_at] }))) ∧
    (s.dev.sweepOn = true ∧ s.dev.get .h_sweep_at < nUnits → s.dev.locked (s.dev.get .h_sweep_at) = false → exec (.ageVisit) s =
        .next (s.endsX (((s.dev.setMany [(.fwd_sweep_sweep_pos, 0, s.dev.get .h_sweep_at), (.h_sweep_at, 0, s.dev.get
        .h_sweep_at + 1)]).ageUnit (s.dev.get .h_sweep_at)).sweepDone))) ∧
    (∀ (k : Nat) (r : List Nat), s.dev.sweepOn = true ∧ s.dev.get .h_sweep_at = nUnits ∧ s.dev.swSkipped = k :: r → s.dev.locked
        k = false → exec (.ageRevisit) s = .next (s.endsX (((({ s.dev with swSkipped := r } : Dev).set .fwd_sweep_sweep_pos 0
        k).ageUnit k).sweepDone)))

/-- Multicast commands, quotas and mirror sessions. Multicast NOP changes nothing. READ and WRITE start when no command runs, WRITE
with the words of the stage; while one runs the result is BUSY. A READ done shows the sixteen words of the group in the stage, its
hold count added in word 8, with OK. A WRITE done, while nothing holds the group and the words encode, installs them
(installGroup) with OK; while something holds it the result is HELD; else, where they do not encode, ENCODING; the words leave,
last_group is the group, and the operation of a program that waits for it ends with 0 for success, 17 for HELD, 18 for ENCODING.
The entry read of an MC.WRITE starts the WRITE where none runs, and its operation waits for it. A write of XBAR_IQ, XBAR_INT_QUOTA
or XBAR_MIRROR_RES whose committed sum would exceed 786,432 cells raises XBAR_QUOTA_OVERCOMMIT and changes nothing else. One that
fits takes its fields; XBAR_IQ then does for each of its four classes what iqChanged says; with no cells charged or queued to what
it sets, a write of the others and of XBAR_EQ takes its fields and nothing else. A write of XBAR_MIR_CFG or XBAR_MIR_DEST of an
enabled session raises MIRROR_CFG_REFUSED and changes nothing else. Of a session not enabled they take their fields; one that
becomes enabled with a destination of its kind loads its countdown, with another it stays disabled, with MIRROR_CFG_REFUSED.
(R198, R205, R208, R213, R214, R227, R231, R463) -/
def Obligations.GroupsQuotasAndMirrors : Prop :=
  ∀ s : State,
    (∀ (m : Mark) (group : Fin 65536), s.dev.accepts (.mcastCmdNop m group) = true → exec (.mcastCmdNop m group) s = .next
        (s.ends (s.dev).ok)) ∧
    (∀ (m : Mark) (group : Fin 65536), s.dev.accepts (.mcastCmdRead m group) = true → s.dev.flag .mcast_cmd_status_busy = false
        → exec (.mcastCmdRead m group) s = .next (s.ends
        ({ s.dev.setMany [(.mcast_cmd_status_busy, 0, 1), (.h_mc_op, 0, 1), (.h_mc_group, 0, group)] with mcWords := [] }).ok)) ∧
    (∀ (m : Mark) (group : Fin 65536), s.dev.accepts (.mcastCmdRead m group) = true → s.dev.flag .mcast_cmd_status_busy = true →
        exec (.mcastCmdRead m group) s = .next (s.ends (s.dev.set .mcast_cmd_status_result 0 mcBUSY).ok)) ∧
    (∀ (m : Mark) (group : Fin 65536), s.dev.accepts (.mcastCmdWrite m group) = true → s.dev.flag .mcast_cmd_status_busy = false
        → exec (.mcastCmdWrite m group) s = .next (s.ends
        ({ s.dev.setMany [(.mcast_cmd_status_busy, 0, 1), (.h_mc_op, 0, 2), (.h_mc_group, 0, group)] with mcWords := s.dev.mcStage }).ok)) ∧
    (∀ (m : Mark) (group : Fin 65536), s.dev.accepts (.mcastCmdWrite m group) = true → s.dev.flag .mcast_cmd_status_busy = true
        → exec (.mcastCmdWrite m group) s = .next (s.ends (s.dev.set .mcast_cmd_status_result 0 mcBUSY).ok)) ∧
    (s.dev.flag .mcast_cmd_status_busy = true ∧ s.dev.get .h_mc_op = 1 → exec (.mcastCmdDone) s = .next (s.endsX
        ((({ s.dev.setMany ((List.range 16).map (fun (w : Nat) => (.mcast_stage_stage, w, s.dev.groupWord (s.dev.get .h_mc_group) w + (if w = 8 then s.dev.groupHolds (s.dev.get .h_mc_group) else 0)))) with mcWords := [] }
        : Dev).setMany [(.mcast_cmd_status_busy, 0, 0), (.mcast_cmd_status_last_group, 0, s.dev.get .h_mc_group),
        (.mcast_cmd_status_result, 0, mcOK)]).opEnd (.mcRun (s.dev.get .h_mc_group)) 0))) ∧
    (s.dev.flag .mcast_cmd_status_busy = true ∧ s.dev.get .h_mc_op = 2 → s.dev.groupHolds (s.dev.get .h_mc_group) = 0 ∧
        groupEncodes s.dev.mcWords = true → exec (.mcastCmdDone) s = .next (s.endsX
        ((({ s.dev.installGroup (s.dev.get .h_mc_group) s.dev.mcWords with mcWords := [] } : Dev).setMany
        [(.mcast_cmd_status_busy, 0, 0), (.mcast_cmd_status_last_group, 0, s.dev.get .h_mc_group), (.mcast_cmd_status_result, 0,
        mcOK)]).opEnd (.mcRun (s.dev.get .h_mc_group)) 0))) ∧
    (s.dev.flag .mcast_cmd_status_busy = true ∧ s.dev.get .h_mc_op = 2 → s.dev.groupHolds (s.dev.get .h_mc_group) ≠ 0 → exec
        (.mcastCmdDone) s = .next (s.endsX ((({ s.dev with mcWords := [] } : Dev).setMany [(.mcast_cmd_status_busy, 0, 0),
        (.mcast_cmd_status_last_group, 0, s.dev.get .h_mc_group), (.mcast_cmd_status_result, 0, mcHELD)]).opEnd (.mcRun
        (s.dev.get .h_mc_group)) 17))) ∧
    (s.dev.flag .mcast_cmd_status_busy = true ∧ s.dev.get .h_mc_op = 2 → s.dev.groupHolds (s.dev.get .h_mc_group) = 0 ∧
        groupEncodes s.dev.mcWords = false → exec (.mcastCmdDone) s = .next (s.endsX ((({ s.dev with mcWords := [] } :
        Dev).setMany [(.mcast_cmd_status_busy, 0, 0), (.mcast_cmd_status_last_group, 0, s.dev.get .h_mc_group),
        (.mcast_cmd_status_result, 0, mcENCODING)]).opEnd (.mcRun (s.dev.get .h_mc_group)) 18))) ∧
    (∀ (q : Fin 512) (group : Fin 65536) (entry : Option (Vector Word 16)) (ws : Vector Word 16), (s.dev.takeRead (.mcEntry q
        group)).isSome = true ∧ entry = some ws → s.dev.flag .mcast_cmd_status_busy = false → exec (.mcWriteReadDone q group
        entry) s = .next (s.endsX ((((s.dev.takeRead (.mcEntry q group)).getD s.dev).mcIssue 2 group (ws.toList.map (fun (w :
        Word) => w.toNat))).1.opFirst q (.mcWrite group) (fun (o : Op) => { o with key := .mcRun group })))) ∧
    (∀ (m : Mark) (port : Fin 512) (half : Fin 2) (v : Word), s.dev.accepts (.xbarIqWrite m port half v) = true → exec
        (.xbarIqWrite m port half v) s = .next (s.ends (if (s.dev.writeFields rowXBAR_IQ (2 * port + half) v.toNat []).committed
        > 786432 then s.dev.raise .XBAR_QUOTA_OVERCOMMIT s.dev.pathDevice else (List.range 4).foldl (fun (x : Dev) (i : Nat) =>
        x.iqChanged s.dev port (4 * half + i)) (s.dev.writeFields rowXBAR_IQ (2 * port + half) v.toNat [])).ok)) ∧
    (∀ (m : Mark) (port : Fin 512) (half : Fin 2) (v : Word), s.dev.accepts (.xbarEqWrite m port half v) = true → (∀ i : Fin 4,
        s.dev.outUsed port (4 * half + i) = 0) → exec (.xbarEqWrite m port half v) s = .next (s.ends (s.dev.writeFields
        rowXBAR_EQ (2 * port + half) v.toNat []).ok)) ∧
    (∀ (m : Mark) (v : Word), s.dev.accepts (.xbarIntQuotaWrite m v) = true → (∀ i : Fin 4, s.dev.inputUsed (512 + i) = 0) →
        exec (.xbarIntQuotaWrite m v) s = .next (s.ends (if (s.dev.writeFields rowXBAR_INT_QUOTA 0 v.toNat []).committed >
        786432 then s.dev.raise .XBAR_QUOTA_OVERCOMMIT s.dev.pathDevice else s.dev.writeFields rowXBAR_INT_QUOTA 0 v.toNat
        []).ok)) ∧
    (∀ (m : Mark) (v : Word), s.dev.accepts (.xbarMirrorResWrite m v) = true → s.dev.inputUsed 516 = 0 ∧ ∀ i : Fin 4,
        s.dev.outputUsed (512 + i) = 0 → exec (.xbarMirrorResWrite m v) s = .next (s.ends (if (s.dev.writeFields
        rowXBAR_MIRROR_RES 0 v.toNat []).committed > 786432 then s.dev.raise .XBAR_QUOTA_OVERCOMMIT s.dev.pathDevice else
        s.dev.writeFields rowXBAR_MIRROR_RES 0 v.toNat []).ok)) ∧
    (∀ (m : Mark) (session : Fin 16) (v : Word), s.dev.accepts (.xbarMirCfgWrite m session v) = true → s.dev.flag
        .xbar_mir_cfg_enable session = true → exec (.xbarMirCfgWrite m session v) s = .next (s.ends (s.dev.raise
        .MIRROR_CFG_REFUSED s.dev.pathDevice).ok)) ∧
    (∀ (m : Mark) (session : Fin 16) (v : Word), s.dev.accepts (.xbarMirCfgWrite m session v) = true → s.dev.flag
        .xbar_mir_cfg_enable session = false → (s.dev.writeFields rowXBAR_MIR_CFG session v.toNat []).flag .xbar_mir_cfg_enable
        session = false → exec (.xbarMirCfgWrite m session v) s = .next (s.ends ((s.dev.writeFields rowXBAR_MIR_CFG session
        v.toNat [])).ok)) ∧
    (∀ (m : Mark) (session : Fin 16) (v : Word), s.dev.accepts (.xbarMirCfgWrite m session v) = true → s.dev.flag
        .xbar_mir_cfg_enable session = false → (s.dev.writeFields rowXBAR_MIR_CFG session v.toNat []).flag .xbar_mir_cfg_enable
        session = true ∧ (s.dev.writeFields rowXBAR_MIR_CFG session v.toNat []).mirrorDestOk session = true → exec
        (.xbarMirCfgWrite m session v) s = .next (s.ends ((s.dev.writeFields rowXBAR_MIR_CFG session v.toNat []).set .h_mir_cnt
        session ((s.dev.writeFields rowXBAR_MIR_CFG session v.toNat []).get .xbar_mir_cfg_sample_n_m1 session)).ok)) ∧
    (∀ (m : Mark) (session : Fin 16) (v : Word), s.dev.accepts (.xbarMirCfgWrite m session v) = true → s.dev.flag
        .xbar_mir_cfg_enable session = false → (s.dev.writeFields rowXBAR_MIR_CFG session v.toNat []).flag .xbar_mir_cfg_enable
        session = true ∧ (s.dev.writeFields rowXBAR_MIR_CFG session v.toNat []).mirrorDestOk session = false → exec
        (.xbarMirCfgWrite m session v) s = .next (s.ends (((s.dev.writeFields rowXBAR_MIR_CFG session v.toNat []).set
        .xbar_mir_cfg_enable session 0).raise .MIRROR_CFG_REFUSED s.dev.pathDevice).ok)) ∧
    (∀ (m : Mark) (session : Fin 16) (v : Word), s.dev.accepts (.xbarMirDestWrite m session v) = true → s.dev.flag
        .xbar_mir_cfg_enable session = false → exec (.xbarMirDestWrite m session v) s = .next (s.ends (s.dev.writeFields
        rowXBAR_MIR_DEST session v.toNat []).ok)) ∧
    (∀ (m : Mark) (session : Fin 16) (v : Word), s.dev.accepts (.xbarMirDestWrite m session v) = true → s.dev.flag
        .xbar_mir_cfg_enable session = true → exec (.xbarMirDestWrite m session v) s = .next (s.ends (s.dev.raise
        .MIRROR_CFG_REFUSED s.dev.pathDevice).ok))

/-- Scheduler, shaper, policer and gate configuration, and the swap of gate lists. A write of SCHED_PORT_CFG that moves no class
between STRICT and DWRR takes its fields and nothing else. A write of a shaper that changes the burst, or finds shaping off, takes
its fields and fills the tokens to the burst; another takes its fields and keeps the tokens within the burst. A write of
SCHED_POL_CFG or SCHED_POL_BURST after which, in mode 0, pir would lie below cir or pbs below cbs raises SCHED_POL_REFUSED and
changes nothing else; any other takes its fields and fills both buckets as of now. A write of SCHED_POL_MAP whose four fields name
policers of the quadrant of the port takes its fields. A change of gate entry on a port with gates on shows the entry now in force
and its gate byte (gateShow). A write of SCHED_GATE_CTRL with change set takes its other fields, change reading 0; a good admin
list (gateCheck) is pending with result 0 until its swap time; for a bad one, or while a change is pending, the result is what
gateCheck gives, with SCHED_GCL_REFUSED. Once its time has come and gates are off, a swap exchanges active and admin list, with
length, cycle and base, and clears pending. SCHED_GATE_DATA writes the admin entry at index and moves the index on; while a change
is pending its result is 1, with SCHED_GCL_REFUSED, and it writes nothing. (R237, R239, R240, R242, R243, R244, R245, R248, R259) -/
def Obligations.SchedulersAndGates : Prop :=
  ∀ s : State,
    (∀ (m : Mark) (port : Fin 512) (v : Word), s.dev.accepts (.schedPortCfgWrite m port v) = true → (∀ c : Fin 8,
        (s.dev.writeFields rowSCHED_PORT_CFG port v.toNat []).strict port c = s.dev.strict port c) → exec (.schedPortCfgWrite m
        port v) s = .next (s.ends (s.dev.writeFields rowSCHED_PORT_CFG port v.toNat []).ok)) ∧
    (∀ (m : Mark) (port : Fin 512) (cls : Fin 8) (v : Word), s.dev.accepts (.schedShaperWrite m port cls v) = true →
        ((s.dev.writeFields rowSCHED_SHAPER (8 * port + cls) v.toNat []).get .sched_shaper_burst (8 * port + cls) ≠ s.dev.get
        .sched_shaper_burst (8 * port + cls) ∨ s.dev.flag .sched_shaper_shape_en (8 * port + cls) = false) → exec
        (.schedShaperWrite m port cls v) s = .next (s.ends ((s.dev.writeFields rowSCHED_SHAPER (8 * port + cls) v.toNat
        []).putTokens port cls ((s.dev.writeFields rowSCHED_SHAPER (8 * port + cls) v.toNat []).get .sched_shaper_burst (8 *
        port + cls) * 8000)).ok)) ∧
    (∀ (m : Mark) (port : Fin 512) (cls : Fin 8) (v : Word), s.dev.accepts (.schedShaperWrite m port cls v) = true →
        (s.dev.writeFields rowSCHED_SHAPER (8 * port + cls) v.toNat []).get .sched_shaper_burst (8 * port + cls) = s.dev.get
        .sched_shaper_burst (8 * port + cls) ∧ s.dev.flag .sched_shaper_shape_en (8 * port + cls) = true → exec
        (.schedShaperWrite m port cls v) s = .next (s.ends ((s.dev.writeFields rowSCHED_SHAPER (8 * port + cls) v.toNat
        []).putTokens port cls (min (s.dev.shaperTokens port cls) ((s.dev.writeFields rowSCHED_SHAPER (8 * port + cls) v.toNat
        []).get .sched_shaper_burst (8 * port + cls) * 8000))).ok)) ∧
    (∀ (m : Mark) (pol : Fin 4096) (v : Word), s.dev.accepts (.schedPolCfgWrite m pol v) = true → (¬((s.dev.writeFields
        rowSCHED_POL_CFG pol v.toNat []).get .sched_pol_cfg_mode pol = 0 ∧ ((s.dev.writeFields rowSCHED_POL_CFG pol v.toNat
        []).get .sched_pol_cfg_pir_mbps pol < (s.dev.writeFields rowSCHED_POL_CFG pol v.toNat []).get .sched_pol_cfg_cir_mbps
        pol ∨ (s.dev.writeFields rowSCHED_POL_CFG pol v.toNat []).get .sched_pol_burst_pbs_ebs pol < (s.dev.writeFields
        rowSCHED_POL_CFG pol v.toNat []).get .sched_pol_burst_cbs pol))) → exec (.schedPolCfgWrite m pol v) s = .next (s.ends
        ((s.dev.writeFields rowSCHED_POL_CFG pol v.toNat []).setMany [(.h_pol_p, pol, (s.dev.writeFields rowSCHED_POL_CFG pol
        v.toNat []).get .sched_pol_burst_pbs_ebs pol * 8000), (.h_pol_c, pol, (s.dev.writeFields rowSCHED_POL_CFG pol v.toNat
        []).get .sched_pol_burst_cbs pol * 8000), (.h_pol_t, pol, s.dev.localNs)]).ok)) ∧
    (∀ (m : Mark) (pol : Fin 4096) (v : Word), s.dev.accepts (.schedPolCfgWrite m pol v) = true → ((s.dev.writeFields
        rowSCHED_POL_CFG pol v.toNat []).get .sched_pol_cfg_mode pol = 0 ∧ ((s.dev.writeFields rowSCHED_POL_CFG pol v.toNat
        []).get .sched_pol_cfg_pir_mbps pol < (s.dev.writeFields rowSCHED_POL_CFG pol v.toNat []).get .sched_pol_cfg_cir_mbps
        pol ∨ (s.dev.writeFields rowSCHED_POL_CFG pol v.toNat []).get .sched_pol_burst_pbs_ebs pol < (s.dev.writeFields
        rowSCHED_POL_CFG pol v.toNat []).get .sched_pol_burst_cbs pol)) → exec (.schedPolCfgWrite m pol v) s = .next (s.ends
        (s.dev.raise .SCHED_POL_REFUSED s.dev.pathDevice).ok)) ∧
    (∀ (m : Mark) (pol : Fin 4096) (v : Word), s.dev.accepts (.schedPolBurstWrite m pol v) = true → (¬((s.dev.writeFields
        rowSCHED_POL_BURST pol v.toNat []).get .sched_pol_cfg_mode pol = 0 ∧ ((s.dev.writeFields rowSCHED_POL_BURST pol v.toNat
        []).get .sched_pol_cfg_pir_mbps pol < (s.dev.writeFields rowSCHED_POL_BURST pol v.toNat []).get .sched_pol_cfg_cir_mbps
        pol ∨ (s.dev.writeFields rowSCHED_POL_BURST pol v.toNat []).get .sched_pol_burst_pbs_ebs pol < (s.dev.writeFields
        rowSCHED_POL_BURST pol v.toNat []).get .sched_pol_burst_cbs pol))) → exec (.schedPolBurstWrite m pol v) s = .next
        (s.ends ((s.dev.writeFields rowSCHED_POL_BURST pol v.toNat []).setMany [(.h_pol_p, pol, (s.dev.writeFields
        rowSCHED_POL_BURST pol v.toNat []).get .sched_pol_burst_pbs_ebs pol * 8000), (.h_pol_c, pol, (s.dev.writeFields
        rowSCHED_POL_BURST pol v.toNat []).get .sched_pol_burst_cbs pol * 8000), (.h_pol_t, pol, s.dev.localNs)]).ok)) ∧
    (∀ (m : Mark) (pol : Fin 4096) (v : Word), s.dev.accepts (.schedPolBurstWrite m pol v) = true → ((s.dev.writeFields
        rowSCHED_POL_BURST pol v.toNat []).get .sched_pol_cfg_mode pol = 0 ∧ ((s.dev.writeFields rowSCHED_POL_BURST pol v.toNat
        []).get .sched_pol_cfg_pir_mbps pol < (s.dev.writeFields rowSCHED_POL_BURST pol v.toNat []).get .sched_pol_cfg_cir_mbps
        pol ∨ (s.dev.writeFields rowSCHED_POL_BURST pol v.toNat []).get .sched_pol_burst_pbs_ebs pol < (s.dev.writeFields
        rowSCHED_POL_BURST pol v.toNat []).get .sched_pol_burst_cbs pol)) → exec (.schedPolBurstWrite m pol v) s = .next (s.ends
        (s.dev.raise .SCHED_POL_REFUSED s.dev.pathDevice).ok)) ∧
    (∀ (m : Mark) (port : Fin 512) (half : Fin 2) (v : Word), s.dev.accepts (.schedPolMapWrite m port half v) = true → (∀ i :
        Fin 4, (s.dev.writeFields rowSCHED_POL_MAP (2 * port + half) v.toNat []).get .sched_pol_map_pol_idx (8 * port + 4 * half
        + i) / 1024 = port.val / 128) → exec (.schedPolMapWrite m port half v) s = .next (s.ends ((s.dev.writeFields
        rowSCHED_POL_MAP (2 * port + half) v.toNat [])).ok)) ∧
    (∀ (port : Fin 512), s.dev.flag .sched_gate_ctrl_gate_en port = true → exec (.gateEntryChange port) s = .next (s.endsX
        (s.dev.setMany [(.sched_gate_status_entry, port, (s.dev.gateNow port).1), (.sched_gate_status_gate_state, port, gateByte
        (s.dev.gate port (s.dev.activeList port) (s.dev.gateNow port).1))]))) ∧
    (∀ (m : Mark) (port : Fin 512) (v : Word), s.dev.accepts (.gateChangeRequest m port v) = true → s.dev.gateCheck port ≠ 0 →
        exec (.gateChangeRequest m port v) s = .next (s.ends (((((s.dev.writeFields rowSCHED_GATE_CTRL port (setBit v.toNat 9)
        []).set .sched_gate_ctrl_change port 0).gateShow port).set .sched_gate_status_result port (s.dev.gateCheck port)).raise
        .SCHED_GCL_REFUSED (s.dev.pathPort port)).ok)) ∧
    (∀ (m : Mark) (port : Fin 512) (v : Word), s.dev.accepts (.gateChangeRequest m port v) = true → s.dev.gateCheck port = 0 →
        exec (.gateChangeRequest m port v) s = .next (s.ends ((((s.dev.writeFields rowSCHED_GATE_CTRL port (setBit v.toNat 9)
        []).set .sched_gate_ctrl_change port 0).gateShow port).setMany [(.sched_gate_status_result, port, 0),
        (.sched_gate_status_pending, port, 1), (.h_gate_swap, port, s.dev.gateSwapTime port)]).ok)) ∧
    (∀ (port : Fin 512), s.dev.flag .sched_gate_status_pending port = true ∧ s.dev.get .h_gate_swap port ≤ s.dev.fabricNs ∧
        s.dev.flag .sched_gate_ctrl_gate_en port = false → exec (.gateListSwap port) s = .next (s.endsX ((s.dev.setMany
        [(.sched_gate_status_active_list, port, 1 - s.dev.activeList port), (.sched_gate_status_pending, port, 0),
        (.h_gate_cycle, port, s.dev.get .sched_gate_admin_cycle_ns port), (.h_gate_n, port, s.dev.get
        .sched_gate_admin_n_entries port), (.h_gate_base, port, s.dev.get .sched_gate_base_base_ns port),
        (.sched_gate_admin_cycle_ns, port, s.dev.get .h_gate_cycle port), (.sched_gate_admin_n_entries, port, s.dev.get
        .h_gate_n port), (.sched_gate_base_base_ns, port, s.dev.get .h_gate_base port), (.sched_gate_status_entry, port, 0)])))) ∧
    (∀ (m : Mark) (port : Fin 512) (v : Word), s.dev.accepts (.schedGateDataWrite m port v) = true → s.dev.flag
        .sched_gate_status_pending port = true → exec (.schedGateDataWrite m port v) s = .next (s.ends ((s.dev.set
        .sched_gate_status_result port 1).raise .SCHED_GCL_REFUSED (s.dev.pathPort port)).ok)) ∧
    (∀ (m : Mark) (port : Fin 512) (v : Word), s.dev.accepts (.schedGateDataWrite m port v) = true → s.dev.flag
        .sched_gate_status_pending port = false → exec (.schedGateDataWrite m port v) s = .next (s.ends ((s.dev.setGate port (1
        - s.dev.activeList port) (s.dev.get .sched_gate_index_index port) (slice v.toNat 56 8 * 2 ^ 32 + slice v.toNat 0
        32)).set .sched_gate_index_index port (s.dev.get .sched_gate_index_index port + 1)).ok))

/-- Loads, unloads and aborts of collective contexts, and the opening of an armed step. COLL NOP changes nothing. LOAD with no load of
the control space under way starts the read of the 32 bytes at its aligned address and shows BUSY; with one under way it is
refused with 1 and its record. The image of a load that passes every check (ctxCheck) loads the context with its header, map and
time; one that fails check 14 leaves the source, number and reason in WRA_LAST_REFUSAL and is refused with 14; one that fails
another check is refused with its number and its record; each ends the load and its operation with that result, and the path of
the control space shows it. UNLOAD of an idle context with nothing armed frees it with result 0; of one that runs or is armed the
result is 19, of one not loaded 20, and nothing else changes. ABORT of a context that runs an open step and whose launches are no
barriers answers 0, leaves nothing armed and no open step; of one not loaded it answers 20, of one idle with nothing armed 21, of
one whose step ends already 22, and nothing else changes. An armed step of an idle context opens once its last record has a place:
one fewer is armed, the context runs an open step, and the step number follows. (R266, R268, R269, R270, R271, R272, R290) -/
def Obligations.ContextsLoadAndUnload : Prop :=
  ∀ s : State,
    (∀ (m : Mark) (ctx : Fin 16384), s.dev.accepts (.collCmdNop m ctx) = true → exec (.collCmdNop m ctx) s = .next (s.ends
        (s.dev).ok)) ∧
    (∀ (m : Mark) (ctx : Fin 16384), s.dev.accepts (.collCmdLoad m ctx) = true → s.dev.collLoads.getOpt 8 = none → exec
        (.collCmdLoad m ctx) s = .next (s.ends
        (((({ s.dev with collLoads := s.dev.collLoads.set 8 none (some { num := ctx, addr := (s.dev.get .coll_load_addr_image / 32 * 32) }) }
        : Dev).kread (.collImage 8) (reqLOAD 8) (s.dev.get .coll_load_addr_image / 32 * 32) 32).setMany [(.coll_load_status_ctx,
        0, ctx), (.coll_load_status_busy, 0, 1)])).ok)) ∧
    (∀ (m : Mark) (ctx : Fin 16384), s.dev.accepts (.collCmdLoad m ctx) = true → (s.dev.collLoads.getOpt 8).isSome = true → exec
        (.collCmdLoad m ctx) s = .next (s.ends ((s.dev.collRefused ctx 1 0).collStatus ctx 1 true).ok)) ∧
    (∀ (m : Mark) (ctx : Fin 16384) (c : Ctx), s.dev.accepts (.collCmdUnload m ctx) = true → s.dev.ctx ctx = some c ∧ c.state =
        1 ∧ c.armed = 0 → exec (.collCmdUnload m ctx) s = .next (s.ends ((s.dev.putCtx ctx none).collStatus ctx 0
        (s.dev.collLoads.getOpt 8).isSome).ok)) ∧
    (∀ (m : Mark) (ctx : Fin 16384) (c : Ctx), s.dev.accepts (.collCmdUnload m ctx) = true → (s.dev.ctx ctx = some c ∧ (c.state
        ≠ 1 ∨ c.armed ≠ 0)) → exec (.collCmdUnload m ctx) s = .next (s.ends (s.dev.collStatus ctx 19 (s.dev.collLoads.getOpt
        8).isSome).ok)) ∧
    (∀ (m : Mark) (ctx : Fin 16384), s.dev.accepts (.collCmdUnload m ctx) = true → s.dev.ctx ctx = none → exec (.collCmdUnload m
        ctx) s = .next (s.ends (s.dev.collStatus ctx 20 (s.dev.collLoads.getOpt 8).isSome).ok)) ∧
    (∀ (m : Mark) (ctx : Fin 16384) (c : Ctx) (r : Step), s.dev.accepts (.collCmdAbort m ctx) = true → s.dev.openStep? ctx =
        some (c, r) → c.state ≠ 1 ∧ ∀ l ∈ c.launches, l.barrier = false → ∃ e, exec (.collCmdAbort m ctx) s = .next (s.endsX e)
        ∧ (e.get .coll_load_status_result = 0 ∧ (e.ctx ctx).map (fun (x : Ctx) => x.armed) = some 0 ∧ e.openStep? ctx = none) ∧
        s.dev.Keeps e (countFlds ++ ([.csq_token_sat, .csq_token_count, .csq_q_cfg_enable, .csq_q_status_state,
        .csq_q_status_map_pending, .csq_q_status_buffered, .csq_q_cr_status_cr_tail, .csq_q_cr_status_cr_phase,
        .csq_q_cr_status_held, .csq_qsram_word, .coll_load_status_ctx, .coll_load_status_busy, .coll_load_status_result,
        .cmb_last_loc_ctx, .cmb_last_loc_step, .cmb_last_loc_chunk, .cmb_last_loc_kind, .cmb_last_loc_unit] : List Fld)) ∧
        e.rest =
        ({ s.dev with reads := e.reads, readWaits := e.readWaits, queues := e.queues, ctxs := e.ctxs, rrSteps := e.rrSteps, collOut := e.collOut, shadows := e.shadows, sent := e.sent }
        : Dev).rest) ∧
    (∀ (m : Mark) (ctx : Fin 16384), s.dev.accepts (.collCmdAbort m ctx) = true → s.dev.ctx ctx = none → exec (.collCmdAbort m
        ctx) s = .next (s.endsX (s.dev.collStatus ctx 20 (s.dev.collLoads.getOpt 8).isSome).ok)) ∧
    (∀ (m : Mark) (ctx : Fin 16384) (c : Ctx), s.dev.accepts (.collCmdAbort m ctx) = true → s.dev.ctx ctx = some c ∧ c.state = 1
        ∧ c.armed = 0 → exec (.collCmdAbort m ctx) s = .next (s.endsX (s.dev.collStatus ctx 21 (s.dev.collLoads.getOpt
        8).isSome).ok)) ∧
    (∀ (m : Mark) (ctx : Fin 16384) (c : Ctx), s.dev.accepts (.collCmdAbort m ctx) = true → (s.dev.ctx ctx = some c ∧ (c.state ≠
        1 ∨ c.armed ≠ 0)) → (s.dev.liveStep ctx).isSome = true ∧ s.dev.openStep? ctx = none → exec (.collCmdAbort m ctx) s =
        .next (s.endsX (s.dev.collStatus ctx 22 (s.dev.collLoads.getOpt 8).isSome).ok)) ∧
    (∀ (path : Fin 9) (image : Option (List Byte)) (l : Load) (bs : List Byte), s.dev.collLoads.getOpt path = some l ∧ image =
        some bs → s.dev.ctxCheck l.priv l.pmap l.num l.addr (some (imageOf (byteList bs))) = 0 → exec (.collLoadCheck path
        image) s = .next (s.endsX ((if path.val = 8 then
        (({ s.dev.dropReads (.collImage path) with collLoads := s.dev.collLoads.set path none none } : Dev).putCtx l.num (some
        { hdr := (imageOf (byteList bs)).1, map := (imageOf (byteList bs)).2, since := s.dev.localNs })).collStatus l.num 0
        false else (({ s.dev.dropReads (.collImage path) with collLoads := s.dev.collLoads.set path none none } : Dev).putCtx
        l.num (some { hdr := (imageOf (byteList bs)).1, map := (imageOf (byteList bs)).2, since := s.dev.localNs }))).opEnd
        (.collLoad path) 0))) ∧
    (∀ (path : Fin 9) (image : Option (List Byte)) (l : Load) (res : Nat), s.dev.collLoads.getOpt path = some l → s.dev.ctxCheck
        l.priv l.pmap l.num l.addr (image.map (fun (b : List Byte) => imageOf (byteList b))) = res ∧ res ≠ 0 ∧ res ≠ 14 → exec
        (.collLoadCheck path image) s = .next (s.endsX ((if path.val = 8 then
        (({ s.dev.dropReads (.collImage path) with collLoads := s.dev.collLoads.set path none none } : Dev).collRefused l.num
        res (hxJob (((image.map (fun (b : List Byte) => imageOf (byteList b))).map (fun (x : List Nat × List Nat) => x.1)).getD
        []))).collStatus l.num res false else
        (({ s.dev.dropReads (.collImage path) with collLoads := s.dev.collLoads.set path none none } : Dev).collRefused l.num
        res (hxJob (((image.map (fun (b : List Byte) => imageOf (byteList b))).map (fun (x : List Nat × List Nat) => x.1)).getD
        [])))).opEnd (.collLoad path) res))) ∧
    (∀ (path : Fin 9) (image : Option (List Byte)) (l : Load), s.dev.collLoads.getOpt path = some l → s.dev.ctxCheck l.priv
        l.pmap l.num l.addr (image.map (fun (b : List Byte) => imageOf (byteList b))) = 14 → exec (.collLoadCheck path image) s
        = .next (s.endsX ((if path.val = 8 then
        ((({ s.dev.dropReads (.collImage path) with collLoads := s.dev.collLoads.set path none none } : Dev).setMany
        [(.wra_last_refusal_source, 0, 2), (.wra_last_refusal_number, 0, l.num), (.wra_last_refusal_code, 0, s.dev.wraReason
        (((image.map (fun (b : List Byte) => imageOf (byteList b))).map (fun (x : List Nat × List Nat) => x.1)).getD [])
        (((image.map (fun (b : List Byte) => imageOf (byteList b))).map (fun (x : List Nat × List Nat) => x.2)).getD
        []))]).collRefused l.num 14 (hxJob (((image.map (fun (b : List Byte) => imageOf (byteList b))).map (fun (x : List Nat ×
        List Nat) => x.1)).getD []))).collStatus l.num 14 false else
        ((({ s.dev.dropReads (.collImage path) with collLoads := s.dev.collLoads.set path none none } : Dev).setMany
        [(.wra_last_refusal_source, 0, 2), (.wra_last_refusal_number, 0, l.num), (.wra_last_refusal_code, 0, s.dev.wraReason
        (((image.map (fun (b : List Byte) => imageOf (byteList b))).map (fun (x : List Nat × List Nat) => x.1)).getD [])
        (((image.map (fun (b : List Byte) => imageOf (byteList b))).map (fun (x : List Nat × List Nat) => x.2)).getD
        []))]).collRefused l.num 14 (hxJob (((image.map (fun (b : List Byte) => imageOf (byteList b))).map (fun (x : List Nat ×
        List Nat) => x.1)).getD [])))).opEnd (.collLoad path) 14))) ∧
    (∀ (ctx : Fin 16384) (c : Ctx), s.dev.ctx ctx = some c ∧ c.state = 1 ∧ 0 < c.armed ∧ s.dev.recordPlaced ctx c = true → ∃ e,
        exec (.collStepOpen ctx) s = .next (s.endsX e) ∧ ((e.ctx ctx).map (fun (x : Ctx) => (x.state, x.armed, x.step)) = some
        (2, c.armed - 1, if c.run = none then c.step else (c.step + 1) % 2 ^ 18) ∧ (e.openStep? ctx).isSome = true) ∧
        s.dev.Keeps e (([] : List Fld)) ∧ e.rest = ({ s.dev with ctxs := e.ctxs, rrSteps := e.rrSteps, sent := e.sent } :
        Dev).rest)

/-- Contributions, verdicts, releases and the ends of a step. A complete contribution at the head of the COLL output that passes every
check (intakeFails) is taken into its chunk (intakeAccept); one that arrived on a port and fails a check counts the event of that
check there, with its record; either leaves its output. The passed verdict of a full chunk of a REDUCE, REDUCE_SCATTER or
BROADCAST context, at the turn of its unit, which has not been released early, leaves at a root its result, formed from its inputs
(formChunk), waiting in the chunk; a lane report of a lane in use that fails its check, the first of a chunk not released early,
counts a retry of the step and a mismatch of the chunk and marks the chunk to be formed again. At a root a result that waits is
sent on its route, and its chunk is complete, released, in the digest, and gone. COMMIT is decided, and sent to every destination,
once every chunk of a root is verified and complete and no result is held; a decided step stays open no more. A decided step no
copy of whose COMMIT is held ends COMMITTED, or UNDELIVERED where a slot is marked, and its context is idle with the first launch
gone. The timer of a root aborts its open step with TIMEOUT. The timer of an inner device does so when chunks are incomplete or it
has restarted before; else it restarts. A step with every chunk complete is marked slow once, counted and recorded with no slot
named; a step marked slow is left alone. Launches that are barriers are left out of the ends and timeouts. (R273, R274, R277,
R280, R283, R306, R307, R352, R353, R354, R365) -/
def Obligations.StepsOfAContext : Prop :=
  ∀ s : State,
    (∀ (f : Frame) (mark : Bool), s.dev.internalHead 512 1 = some (f, mark) ∧ f.complete = true ∧ f.hdr.ftype = ftCOLL_CONTRIB ∧
        s.dev.flag .sched_echo_ctrl_echo_enable = false → s.dev.intakeFails f.hdr = none → exec (.collContribIntake) s = .next
        (s.endsX ((s.dev.intakeAccept f.hdr f.payload).takeInternal 512 f))) ∧
    (∀ (f : Frame) (mark : Bool) (v : Ev) (k : RecCode) (n : Nat), s.dev.internalHead 512 1 = some (f, mark) ∧ f.complete = true
        ∧ f.hdr.ftype = ftCOLL_CONTRIB ∧ s.dev.flag .sched_echo_ctrl_echo_enable = false → s.dev.intakeFails f.hdr = some (v, k)
        ∧ f.arrival = some n → exec (.collContribIntake) s = .next (s.endsX (((s.dev.count n v 1
        { src := some f.hdr.src }).raise k (s.dev.pathPort n)).takeInternal 512 f))) ∧
    (∀ (ctx : Fin 16384) (chunk : Fin 1048576) (ovr : Bool) (out : ChunkOut) (c : Ctx) (r : Step) (ch : Chunk) (u : Nat),
        s.dev.openStep? ctx = some (c, r) → r.chunk? chunk = some ch ∧ ch.unit = some u ∧ c.full ch = true ∧ ch.result = none ∧
        ch.early = false ∧ ch.retracted = false → c.kind ≤ tyBROADCAST ∧ s.dev.unitTurn c ch u = some ovr ∧ c.inner = false ∧
        outMismatch out = none → ∃ e, exec (.chunkVerdict ctx chunk ovr out) s = .next (s.endsX e) ∧ (((e.liveStep ctx).bind
        (fun (p : Ctx × Step) => p.2.chunk? chunk)).bind (fun (x : Chunk) => x.result) = some (spoilt (c.formChunk ch).1 (outErr
        out))) ∧ s.dev.Keeps e (countFlds ++ ([.csq_token_sat, .csq_token_count, .csq_q_cfg_enable, .csq_q_status_state,
        .csq_q_status_map_pending, .csq_q_status_buffered, .csq_q_cr_status_cr_tail, .csq_q_cr_status_cr_phase,
        .csq_q_cr_status_held, .csq_qsram_word, .cmb_shadow_stats_deferred, .cmb_last_sig_signature, .cmb_last_loc_ctx,
        .cmb_last_loc_step, .cmb_last_loc_chunk, .cmb_last_loc_kind, .cmb_last_loc_unit, .cmb_unit_status_retired_lane,
        .cmb_unit_status_fenced, .cmb_unit_status_spare_in_use, .cmb_unit_count_mismatches, .cmb_unit_count_recomputes,
        .cmb_unit_count_chunks_formed, .h_cmb_req, .h_cmb_verdicts, .h_cmb_n] : List Fld)) ∧ e.rest =
        ({ s.dev with reads := e.reads, readWaits := e.readWaits, queues := e.queues, ctxs := e.ctxs, rrSteps := e.rrSteps, collOut := e.collOut, shadows := e.shadows, sent := e.sent }
        : Dev).rest) ∧
    (∀ (ctx : Fin 16384) (chunk : Fin 1048576) (ovr : Bool) (out : ChunkOut) (c : Ctx) (r : Step) (ch : Chunk) (u : Nat) (w :
        Mismatch), s.dev.openStep? ctx = some (c, r) → r.chunk? chunk = some ch ∧ ch.unit = some u ∧ c.full ch = true ∧
        ch.result = none ∧ ch.early = false ∧ ch.retracted = false → c.kind ≤ tyBROADCAST ∧ s.dev.unitTurn c ch u = some ovr ∧
        outMismatch out = some w ∧ c.reports ch w = true ∧ ch.failed = [] ∧ ch.mism < 4 → ∃ e, exec (.chunkVerdict ctx chunk ovr
        out) s = .next (s.endsX e) ∧ ((e.liveStep ctx).map (fun (p : Ctx × Step) => p.2.retries) = some (r.retries + 1) ∧
        (((e.liveStep ctx).bind (fun (p : Ctx × Step) => p.2.chunk? chunk)).map (fun (x : Chunk) => (x.mism, x.again))) = some
        (ch.mism + 1, true)) ∧ s.dev.Keeps e (countFlds ++ ([.csq_token_sat, .csq_token_count, .csq_q_cfg_enable,
        .csq_q_status_state, .csq_q_status_map_pending, .csq_q_status_buffered, .csq_q_cr_status_cr_tail,
        .csq_q_cr_status_cr_phase, .csq_q_cr_status_held, .csq_qsram_word, .cmb_shadow_stats_deferred, .cmb_last_sig_signature,
        .cmb_last_loc_ctx, .cmb_last_loc_step, .cmb_last_loc_chunk, .cmb_last_loc_kind, .cmb_last_loc_unit,
        .cmb_unit_status_retired_lane, .cmb_unit_status_fenced, .cmb_unit_status_spare_in_use, .cmb_unit_count_mismatches,
        .cmb_unit_count_recomputes, .cmb_unit_count_chunks_formed, .h_cmb_req, .h_cmb_verdicts, .h_cmb_n] : List Fld)) ∧ e.rest
        =
        ({ s.dev with reads := e.reads, readWaits := e.readWaits, queues := e.queues, ctxs := e.ctxs, rrSteps := e.rrSteps, collOut := e.collOut, shadows := e.shadows, sent := e.sent }
        : Dev).rest) ∧
    (∀ (ctx : Fin 16384) (chunk : Fin 1048576) (c : Ctx) (r : Step) (ch : Chunk) (b : List Nat), s.dev.openStep? ctx = some (c,
        r) → r.chunk? chunk = some ch ∧ ch.result = some b ∧ c.inner = false → exec (.collResultRelease ctx chunk) s = .next
        (s.endsX ((s.dev.sendResult ctx c r.step chunk 0 b).onStep ctx (fun (x : Step) =>
        ({ (x.completes chunk).dropChunk chunk with released := x.released + 1, digest := x.digest ^^^ chunkDigest chunk b } :
        Step))))) ∧
    (∀ (ctx : Fin 16384) (c : Ctx) (r : Step), s.dev.openStep? ctx = some (c, r) → c.inner = false ∧ c.n ≤ r.verBase ∧ c.n ≤
        r.base ∧ s.dev.collHeld ctx r.step (fun h => h.ftype == ftCOLL_RESULT) = false → exec (.collCommitDecide ctx) s = .next
        (s.endsX ((c.endDests.foldl (fun (d : Dev) (t : Nat × Nat) => d.collSend ctx r.step ftCOMMIT 2 t.1 0 t.2 0 0
        (s.dev.commitPayload c r)) s.dev).onStep ctx (fun (x : Step) => ({ x with decided := true } : Step))))) ∧
    (∀ (ctx : Fin 16384) (c : Ctx) (r : Step), s.dev.liveStep ctx = some (c, r) ∧ r.decided = true ∧ s.dev.collHeld ctx r.step
        (fun h => h.ftype == ftCOMMIT) = false → (∀ l ∈ c.launches, l.barrier = false) → ∃ e, exec (.collStepEnd ctx) s = .next
        (s.endsX e) ∧ ((e.ctx ctx).map (fun (x : Ctx) => (x.state, x.last, x.launches)) = some (1, if r.undeliv = 0 then 1 else
        2, c.launches.drop 1) ∧ e.liveStep ctx = none) ∧ s.dev.Keeps e (countFlds ++ ([.csq_token_sat, .csq_token_count,
        .csq_q_cfg_enable, .csq_q_status_state, .csq_q_status_map_pending, .csq_q_status_buffered, .csq_q_cr_status_cr_tail,
        .csq_q_cr_status_cr_phase, .csq_q_cr_status_held, .csq_qsram_word, .cmb_last_loc_ctx, .cmb_last_loc_step,
        .cmb_last_loc_chunk, .cmb_last_loc_kind, .cmb_last_loc_unit] : List Fld)) ∧ e.rest =
        ({ s.dev with reads := e.reads, readWaits := e.readWaits, queues := e.queues, ctxs := e.ctxs, rrSteps := e.rrSteps, shadows := e.shadows, sent := e.sent }
        : Dev).rest) ∧
    (∀ (ctx : Fin 16384) (c : Ctx) (r : Step), s.dev.openStep? ctx = some (c, r) → c.inner = false ∧ ∀ l ∈ c.launches, l.barrier
        = false → ∃ e, exec (.collStepTimeout ctx) s = .next (s.endsX e) ∧ ((e.ctx ctx).map (fun (x : Ctx) => (x.state, x.last))
        = some (1, 3) ∧ e.liveStep ctx = none) ∧ s.dev.Keeps e (countFlds ++ ([.csq_token_sat, .csq_token_count,
        .csq_q_cfg_enable, .csq_q_status_state, .csq_q_status_map_pending, .csq_q_status_buffered, .csq_q_cr_status_cr_tail,
        .csq_q_cr_status_cr_phase, .csq_q_cr_status_held, .csq_qsram_word, .cmb_last_loc_ctx, .cmb_last_loc_step,
        .cmb_last_loc_chunk, .cmb_last_loc_kind, .cmb_last_loc_unit] : List Fld)) ∧ e.rest =
        ({ s.dev with reads := e.reads, readWaits := e.readWaits, queues := e.queues, ctxs := e.ctxs, rrSteps := e.rrSteps, collOut := e.collOut, shadows := e.shadows, sent := e.sent }
        : Dev).rest) ∧
    (∀ (ctx : Fin 16384) (c : Ctx) (r : Step), s.dev.liveStep ctx = some (c, r) ∧ r.slow = false ∧ c.n ≤ r.base → exec
        (.collStepSlow ctx) s = .next (s.endsX (((s.dev.onStep ctx (fun (x : Step) => ({ x with slow := true } : Step))).count
        blkDevice .COLL_STEP_SLOW).raise .COLL_STEP_SLOW s.dev.pathDevice [.h ctx, .w r.step, .w r.base, .h 0] c.job))) ∧
    (∀ (ctx : Fin 16384) (c : Ctx) (r : Step), s.dev.liveStep ctx = some (c, r) ∧ r.slow = true → exec (.collStepSlow ctx) s =
        .next (s.endsX (s.dev))) ∧
    (∀ (ctx : Fin 16384) (c : Ctx) (r : Step), s.dev.openStep? ctx = some (c, r) → (c.inner = true ∧ (r.base < c.n ∨ r.restarted
        = true) ∧ ∀ l ∈ c.launches, l.barrier = false) → ∃ e, exec (.collInnerTimeout ctx) s = .next (s.endsX e) ∧ ((e.ctx
        ctx).map (fun (x : Ctx) => (x.state, x.last)) = some (1, 3) ∧ e.liveStep ctx = none) ∧ s.dev.Keeps e (countFlds ++
        ([.csq_token_sat, .csq_token_count, .csq_q_cfg_enable, .csq_q_status_state, .csq_q_status_map_pending,
        .csq_q_status_buffered, .csq_q_cr_status_cr_tail, .csq_q_cr_status_cr_phase, .csq_q_cr_status_held, .csq_qsram_word,
        .cmb_last_loc_ctx, .cmb_last_loc_step, .cmb_last_loc_chunk, .cmb_last_loc_kind, .cmb_last_loc_unit] : List Fld)) ∧
        e.rest =
        ({ s.dev with reads := e.reads, readWaits := e.readWaits, queues := e.queues, ctxs := e.ctxs, rrSteps := e.rrSteps, collOut := e.collOut, shadows := e.shadows, sent := e.sent }
        : Dev).rest) ∧
    (∀ (ctx : Fin 16384) (c : Ctx) (r : Step), s.dev.openStep? ctx = some (c, r) → c.inner = true ∧ c.n ≤ r.base ∧ r.restarted =
        false → exec (.collInnerTimeout ctx) s = .next (s.endsX (s.dev.onStep ctx (fun (x : Step) =>
        ({ x with restarted := true } : Step)))))

/-- Combining units: lanes, fences, strikes, shadow checks. Unit command NOP changes nothing. RETIRE_LANE retires a logical lane
(retireLane, cause 2) with result 0, and answers 1 while one is retired; RESTORE_LANE asks for none retired with result 0, and
answers 2 when none is. FENCE fences the unit (fenceUnit, cause 2) with result 0 while another is left, else answers 3; UNFENCE of
a fenced unit returns it to the chunks that wait (bindWaiting) with result 0; of one not fenced it answers 4. CLEAR_STRIKES sets
the strikes to 0, with no lane named yet, result 0. A write of CMB_CTRL that does not lower shadow_log2n, or leaves the limit at
or above the reserved intake, takes its fields; one that lowers it so that the limit falls below keeps shadow_log2n, takes the
other fields and raises CMB_SHADOW_REFUSED with both values. A shadow computation whose lane CRCs equal the stored ones ends the
check, counted SHADOW_RUN; where some differ and a third unit is up, the check keeps what was found and waits for the third
computation. That computation, on a unit not fenced, ends the check: agreeing with the shadow it is outcome 1, DELIVERED_BAD; else
with the delivered result 2, SHADOW_BAD; else 3, UNRESOLVED (shadowOutcome); where its unit is fenced it does not run, and the
outcome is 3. (R307, R309, R310, R312, R313, R314, R318, R322) -/
def Obligations.CombiningUnits : Prop :=
  ∀ s : State,
    (∀ (m : Mark) (unit : Fin 128), s.dev.accepts (.cmbUnitNop m unit) = true → exec (.cmbUnitNop m unit) s = .next (s.ends
        (s.dev).ok)) ∧
    (∀ (m : Mark) (unit : Fin 128) (lane : Fin 32), s.dev.accepts (.cmbRetireLane m unit lane) = true → s.dev.get .h_cmb_req
        unit = 31 → exec (.cmbRetireLane m unit lane) s = .next (s.ends ((s.dev.retireLane unit lane 2).unitResult unit 0).ok)) ∧
    (∀ (m : Mark) (unit : Fin 128) (lane : Fin 32), s.dev.accepts (.cmbRetireLane m unit lane) = true → s.dev.get .h_cmb_req
        unit ≠ 31 → exec (.cmbRetireLane m unit lane) s = .next (s.ends (s.dev.unitResult unit 1).ok)) ∧
    (∀ (m : Mark) (unit : Fin 128), s.dev.accepts (.cmbRestoreLane m unit) = true → s.dev.get .h_cmb_req unit ≠ 31 → exec
        (.cmbRestoreLane m unit) s = .next (s.ends ((s.dev.set .h_cmb_req unit 31).unitResult unit 0).ok)) ∧
    (∀ (m : Mark) (unit : Fin 128), s.dev.accepts (.cmbRestoreLane m unit) = true → s.dev.get .h_cmb_req unit = 31 → exec
        (.cmbRestoreLane m unit) s = .next (s.ends (s.dev.unitResult unit 2).ok)) ∧
    (∀ (m : Mark) (unit : Fin 128), s.dev.accepts (.cmbUnitFenceCmd m unit) = true → s.dev.unitsUp.any (fun u => u != unit.val)
        = true → exec (.cmbUnitFenceCmd m unit) s = .next (s.endsX ((s.dev.fenceUnit unit 2).unitResult unit 0).ok)) ∧
    (∀ (m : Mark) (unit : Fin 128), s.dev.accepts (.cmbUnitFenceCmd m unit) = true → s.dev.unitsUp.any (fun u => u != unit.val)
        = false → exec (.cmbUnitFenceCmd m unit) s = .next (s.endsX (s.dev.unitResult unit 3).ok)) ∧
    (∀ (m : Mark) (unit : Fin 128), s.dev.accepts (.cmbUnitUnfence m unit) = true → s.dev.flag .cmb_unit_status_fenced unit =
        true → exec (.cmbUnitUnfence m unit) s = .next (s.endsX (((s.dev.set .cmb_unit_status_fenced unit 0).unitResult unit
        0).bindWaiting).ok)) ∧
    (∀ (m : Mark) (unit : Fin 128), s.dev.accepts (.cmbUnitUnfence m unit) = true → s.dev.flag .cmb_unit_status_fenced unit =
        false → exec (.cmbUnitUnfence m unit) s = .next (s.endsX (s.dev.unitResult unit 4).ok)) ∧
    (∀ (m : Mark) (unit : Fin 128), s.dev.accepts (.cmbClearStrikes m unit) = true → exec (.cmbClearStrikes m unit) s = .next
        (s.ends ((s.dev.setMany [(.cmb_unit_status_strikes, unit, 0), (.h_cmb_strike, unit, 30)]).unitResult unit 0).ok)) ∧
    (∀ (m : Mark) (v : Word), s.dev.accepts (.cmbCtrlWrite m v) = true → (s.dev.get .cmb_ctrl_shadow_log2n ≤ (slice v.toNat 0 5)
        ∨ s.dev.intakeSum ≤ s.dev.rateLimitAt (slice v.toNat 0 5) * 1000000000) → exec (.cmbCtrlWrite m v) s = .next (s.ends
        (s.dev.writeFields rowCMB_CTRL 0 v.toNat []).ok)) ∧
    (∀ (m : Mark) (v : Word), s.dev.accepts (.cmbCtrlWrite m v) = true → (slice v.toNat 0 5) < s.dev.get .cmb_ctrl_shadow_log2n
        ∧ s.dev.rateLimitAt (slice v.toNat 0 5) * 1000000000 < s.dev.intakeSum → exec (.cmbCtrlWrite m v) s = .next (s.ends
        ((s.dev.writeFields rowCMB_CTRL 0 v.toNat [0]).raise .CMB_SHADOW_REFUSED s.dev.pathDevice [.h (slice v.toNat 0 5), .h
        (s.dev.get .cmb_ctrl_shadow_log2n)]).ok)) ∧
    (∀ (ctx : Fin 16384) (step : BitVec 18) (chunk : Fin 1048576) (err : List (Fin 4096 × BitVec 8)) (e1 e2 : Env) (w : Shadow)
        (su : Nat), s.dev.shadows.find? (fun (x : Shadow) => x.ctx == ctx.val && x.step == step.toNat && x.chunk == chunk.val &&
        x.third.isNone) = some w → w.shadow = some su ∧ (lanesDiffer (w.form err) w.crcs) = 0 → exec (.shadowCompare ctx step
        chunk err e1 e2) s = .next (s.endsX ((((s.dev.shadowRun su).dropShadow w).count (blkCluster su)
        .SHADOW_RUN).placeShadows))) ∧
    (∀ (ctx : Fin 16384) (step : BitVec 18) (chunk : Fin 1048576) (err : List (Fin 4096 × BitVec 8)) (e1 e2 : Env) (w : Shadow)
        (su u : Nat), s.dev.shadows.find? (fun (x : Shadow) => x.ctx == ctx.val && x.step == step.toNat && x.chunk == chunk.val
        && x.third.isNone) = some w → w.shadow = some su ∧ (lanesDiffer (w.form err) w.crcs) ≠ 0 ∧ (s.dev.shadowRun
        su).thirdUnit w.unit su = some u → exec (.shadowCompare ctx step chunk err e1 e2) s = .next (s.endsX
        ({ (s.dev.shadowRun su) with shadows := s.dev.shadows.map (fun (x : Shadow) => if x = w then { w with found := w.form err, diff := (lanesDiffer (w.form err) w.crcs), sigs := ((s.dev.shadowRun su).cmbSig w.unit w.format w.op (physLane (lanesDiffer (w.form err) w.crcs) w.lane) e1, (s.dev.shadowRun su).cmbSig su w.format w.op (physLane (lanesDiffer (w.form err) w.crcs) ((s.dev.shadowRun su).get .cmb_unit_status_retired_lane su)) e2), third := some u } else x) }))) ∧
    (∀ (ctx : Fin 16384) (step : BitVec 18) (chunk : Fin 1048576) (err : List (Fin 4096 × BitVec 8)) (e : Env) (w : Shadow) (u
        su : Nat), s.dev.shadows.find? (fun (x : Shadow) => x.ctx == ctx.val && x.step == step.toNat && x.chunk == chunk.val &&
        x.third.isSome) = some w → w.third = some u ∧ w.shadow = some su ∧ s.dev.flag .cmb_unit_status_fenced u = false → exec
        (.shadowThirdDone ctx step chunk err e) s = .next (s.endsX (((s.dev.dropShadow w).shadowRun u).shadowOutcome w (if
        w.form err = w.found then 1 else if w.form err = w.crcs then 2 else 3) (((s.dev.dropShadow w).shadowRun u).cmbSig u
        w.format w.op (physLane w.diff (((s.dev.dropShadow w).shadowRun u).get .cmb_unit_status_retired_lane u)) e) (if w.form
        err ≠ w.found ∧ w.form err = w.crcs then physLane w.diff (((s.dev.dropShadow w).shadowRun u).get
        .cmb_unit_status_retired_lane su) else physLane w.diff w.lane)))) ∧
    (∀ (ctx : Fin 16384) (step : BitVec 18) (chunk : Fin 1048576) (err : List (Fin 4096 × BitVec 8)) (e : Env) (w : Shadow) (u :
        Nat), s.dev.shadows.find? (fun (x : Shadow) => x.ctx == ctx.val && x.step == step.toNat && x.chunk == chunk.val &&
        x.third.isSome) = some w → w.third = some u ∧ s.dev.flag .cmb_unit_status_fenced u = true → exec (.shadowThirdDone ctx
        step chunk err e) s = .next (s.endsX ((s.dev.dropShadow w).shadowOutcome { w with third := none } 3 0 (physLane w.diff
        w.lane))))

/-- Descriptors, passes, gathers and tiles of the weighted-reduction array. Descriptor NOP changes nothing. LOAD with no load or
unload of the control space under way starts the read of the 64 bytes at its aligned address and shows BUSY. A load whose image
and coefficients pass every check (descCheck) reads coef_src (coefRead) and holds the descriptor with its words, its region and
its time; one that fails is refused with its number (descRefused), coef_src read where check 4 was reached; each ends with its
operation, the path of the control space showing the result. UNLOAD of a descriptor that nothing holds and no request uses frees
it with result 0; one a context holds gives 11, a gather descriptor in use drains first, one not loaded gives 12, descriptor 0
gives 5. A draining descriptor with no request in flight is freed and its unloads end. A ready pass of work bound to a tile that
is free, at its turn, runs there under the requested column map, charged to its holder in the first tier, counted WRA_OVER_RATE in
the second. A pass that ends with no failing column report counts, and the last one of its work leaves the result (workDone). A
GATHER_REQ that has room and passes its checks is in flight under the next number. Its rows, read without error for a descriptor
of the array, with no older overlapping operation, are held. RETIRE_COL, RESTORE_COL, FENCE and UNFENCE act on a tile with result
0, and where they do not apply answer 1, 2, 3 and 4 and change nothing else. The column in the record of a fence by command is a
free value (log entry 4). (R324, R328, R330, R331, R337, R338, R340, R343, R344, R349) -/
def Obligations.WeightedReduction : Prop :=
  ∀ s : State,
    (∀ (m : Mark) (desc : Fin 4096), s.dev.accepts (.wraDescCmdNop m desc) = true → exec (.wraDescCmdNop m desc) s = .next
        (s.ends (s.dev).ok)) ∧
    (∀ (m : Mark) (desc : Fin 4096), s.dev.accepts (.wraDescCmdLoad m desc) = true → s.dev.descPathBusy 8 = false → exec
        (.wraDescCmdLoad m desc) s = .next (s.ends
        ((({ s.dev with wraLoads := s.dev.wraLoads.set 8 none (some { num := desc, addr := (s.dev.get .wra_desc_addr_image / 64 * 64) }) }
        : Dev).kread (.wraImage 8) (reqLOAD 8) (s.dev.get .wra_desc_addr_image / 64 * 64) 64).setMany [(.wra_desc_status_desc,
        0, desc), (.wra_desc_status_busy, 0, 1)]).ok)) ∧
    (∀ (m : Mark) (desc : Fin 4096) (x : Desc), s.dev.accepts (.wraDescCmdUnload m desc) = true → s.dev.desc desc = some x ∧
        s.dev.descHolds desc = 0 ∧ s.dev.descInflight desc = 0 ∧ desc.val ≠ 0 → ∃ e, exec (.wraDescCmdUnload m desc) s = .next
        (s.ends e) ∧ (e.desc desc = none ∧ e.get .wra_desc_status_result = 0 ∧ e.get .wra_desc_status_desc = desc) ∧ s.dev.Keeps
        e (([.wra_desc_status_desc, .wra_desc_status_busy, .wra_desc_status_result] : List Fld)) ∧ e.rest =
        ({ s.dev with ops := e.ops, descs := e.descs, sent := e.sent } : Dev).rest) ∧
    (∀ (m : Mark) (desc : Fin 4096) (x : Desc), s.dev.accepts (.wraDescCmdUnload m desc) = true → s.dev.desc desc = some x ∧
        s.dev.descHolds desc ≠ 0 ∧ desc.val ≠ 0 → exec (.wraDescCmdUnload m desc) s = .next (s.ends (s.dev.descStatus desc 11
        (s.dev.descPathBusy 8)).ok)) ∧
    (∀ (m : Mark) (desc : Fin 4096) (x : Desc), s.dev.accepts (.wraDescCmdUnload m desc) = true → s.dev.desc desc = some x ∧
        s.dev.descHolds desc = 0 ∧ dxGather x.words = true ∧ s.dev.descInflight desc ≠ 0 ∧ desc.val ≠ 0 → exec
        (.wraDescCmdUnload m desc) s = .next (s.ends ((s.dev.putDesc desc (some
        { x with state := 2, unloads := x.unloads ++ [8] })).setMany [(.wra_desc_status_desc, 0, desc), (.wra_desc_status_busy,
        0, 1)]).ok)) ∧
    (∀ (m : Mark) (desc : Fin 4096), s.dev.accepts (.wraDescCmdUnload m desc) = true → s.dev.desc desc = none ∧ desc.val ≠ 0 →
        exec (.wraDescCmdUnload m desc) s = .next (s.ends (s.dev.descStatus desc 12 (s.dev.descPathBusy 8)).ok)) ∧
    (∀ (m : Mark) (desc : Fin 4096), s.dev.accepts (.wraDescCmdUnload m desc) = true → desc.val = 0 → exec (.wraDescCmdUnload m
        desc) s = .next (s.ends (s.dev.descStatus 0 5 (s.dev.descPathBusy 8)).ok)) ∧
    (∀ (path : Fin 9) (image : Option (Vector Word 8)) (coefs : Option (List (BitVec 16))) (l : Load) (ws : List Nat),
        s.dev.wraLoads.getOpt path = some l ∧ (image.map (fun (x : Vector Word 8) => x.toList.map (fun (w : Word) => w.toNat)))
        = some ws → s.dev.descCheck l.priv l.pmap l.num l.addr (image.map (fun (x : Vector Word 8) => x.toList.map (fun (w :
        Word) => w.toNat))) coefs.isSome = 0 → exec (.wraDescLoadDone path image coefs) s = .next (s.ends ((if path.val = 8 then
        ((({ s.dev.dropReads (.wraImage path) with wraLoads := s.dev.wraLoads.set path none none } : Dev).coefRead path
        ws).putDesc l.num (some
        ({ words := ws, region := coefRegion ws ((coefs.map (fun (x : List (BitVec 16)) => x.map (fun (k : BitVec 16) => k.toNat))).getD []), since := s.dev.localNs }
        : Desc))).descStatus l.num 0 (((({ s.dev.dropReads (.wraImage path) with wraLoads := s.dev.wraLoads.set path none none }
        : Dev).coefRead path ws).putDesc l.num (some
        ({ words := ws, region := coefRegion ws ((coefs.map (fun (x : List (BitVec 16)) => x.map (fun (k : BitVec 16) => k.toNat))).getD []), since := s.dev.localNs }
        : Desc))).descPathBusy 8) else
        ((({ s.dev.dropReads (.wraImage path) with wraLoads := s.dev.wraLoads.set path none none } : Dev).coefRead path
        ws).putDesc l.num (some
        ({ words := ws, region := coefRegion ws ((coefs.map (fun (x : List (BitVec 16)) => x.map (fun (k : BitVec 16) => k.toNat))).getD []), since := s.dev.localNs }
        : Desc)))).opEnd (.wraLoad path) 0))) ∧
    (∀ (path : Fin 9) (image : Option (Vector Word 8)) (coefs : Option (List (BitVec 16))) (l : Load) (res : Nat),
        s.dev.wraLoads.getOpt path = some l → s.dev.descCheck l.priv l.pmap l.num l.addr (image.map (fun (x : Vector Word 8) =>
        x.toList.map (fun (w : Word) => w.toNat))) coefs.isSome = res ∧ res ≠ 0 → exec (.wraDescLoadDone path image coefs) s =
        .next (s.ends ((if path.val = 8 then ((if res = 2 ∨ res = 3 then
        ({ s.dev.dropReads (.wraImage path) with wraLoads := s.dev.wraLoads.set path none none } : Dev) else
        ({ s.dev.dropReads (.wraImage path) with wraLoads := s.dev.wraLoads.set path none none } : Dev).coefRead path
        ((image.map (fun (x : Vector Word 8) => x.toList.map (fun (w : Word) => w.toNat))).getD [])).descRefused l.num res
        (dxJob ((image.map (fun (x : Vector Word 8) => x.toList.map (fun (w : Word) => w.toNat))).getD []))).descStatus l.num
        res (((if res = 2 ∨ res = 3 then
        ({ s.dev.dropReads (.wraImage path) with wraLoads := s.dev.wraLoads.set path none none } : Dev) else
        ({ s.dev.dropReads (.wraImage path) with wraLoads := s.dev.wraLoads.set path none none } : Dev).coefRead path
        ((image.map (fun (x : Vector Word 8) => x.toList.map (fun (w : Word) => w.toNat))).getD [])).descRefused l.num res
        (dxJob ((image.map (fun (x : Vector Word 8) => x.toList.map (fun (w : Word) => w.toNat))).getD []))).descPathBusy 8)
        else ((if res = 2 ∨ res = 3 then
        ({ s.dev.dropReads (.wraImage path) with wraLoads := s.dev.wraLoads.set path none none } : Dev) else
        ({ s.dev.dropReads (.wraImage path) with wraLoads := s.dev.wraLoads.set path none none } : Dev).coefRead path
        ((image.map (fun (x : Vector Word 8) => x.toList.map (fun (w : Word) => w.toNat))).getD [])).descRefused l.num res
        (dxJob ((image.map (fun (x : Vector Word 8) => x.toList.map (fun (w : Word) => w.toNat))).getD [])))).opEnd (.wraLoad
        path) (32 + res)))) ∧
    (∀ (desc : Fin 4096) (x : Desc), s.dev.desc desc = some x ∧ x.state = 2 ∧ s.dev.descInflight desc = 0 → exec
        (.wraDescDrained desc) s = .next (s.ends ((if x.unloads.contains 8 = true then (s.dev.putDesc desc none).descStatus desc
        0 ((s.dev.putDesc desc none).descPathBusy 8) else s.dev.putDesc desc none).opEnd (.wraUnload desc) 0))) ∧
    (∀ (work : WraWork) (col : Fin 32) (ovr : Bool) (sh : Shape) (p : Passes) (t : Nat), s.dev.workOf (Work.of work) = some (sh,
        p) ∧ p.tile = some t → col.val < sh.colBlocks ∧ p.next col < sh.kBlocks ∧ s.dev.tileBusy t = false ∧ s.dev.workHeld
        (Work.of work) (p.next col) = true → s.dev.tileTurn (Work.of work) t = some ovr → exec (.wraPassStart work col ovr) s =
        .next (s.endsX (if ovr then ((s.dev.setMany [(.wra_tile_status_retired_col, t, s.dev.get .h_wra_req t),
        (.wra_tile_status_spare_in_use, t, b2n (s.dev.get .h_wra_req t != 255))]).setPasses (Work.of work)
        ({ p with run := some col.val } : Passes)).count (blkTile t) .WRA_OVER_RATE else ((s.dev.setMany
        [(.wra_tile_status_retired_col, t, s.dev.get .h_wra_req t), (.wra_tile_status_spare_in_use, t, b2n (s.dev.get .h_wra_req
        t != 255))]).setPasses (Work.of work) ({ p with run := some col.val } : Passes)).chargeCycles (Work.of work) (passCycles
        (elemBytes sh.fmt) sh.k sh.m (p.next col) sh.tr)))) ∧
    (∀ (work : WraWork) (mm : Option ColMismatch) (sh : Shape) (p : Passes) (t j : Nat), s.dev.workOf (Work.of work) = some (sh,
        p) ∧ p.tile = some t ∧ p.run = some j ∧ mm.filter (fun (x : ColMismatch) => laneFails x.op) = none → (p.ended
        sh.colBlocks j).cols.sum ≠ sh.colBlocks * sh.kBlocks → exec (.wraPassEnd work mm) s = .next (s.endsX (((((s.dev.incr
        .wra_tile_count_passes t).count (blkTile t) .WRA_PASS).count (blkTile t) .WRA_BUSY (passCycles (elemBytes sh.fmt) sh.k
        sh.m (p.next j) sh.tr)).setPasses (Work.of work)
        ({ p.ended sh.colBlocks j with spare := p.spare || s.dev.flag .wra_tile_status_spare_in_use t } : Passes))))) ∧
    (∀ (work : WraWork) (mm : Option ColMismatch) (sh : Shape) (p : Passes) (t j : Nat), s.dev.workOf (Work.of work) = some (sh,
        p) ∧ p.tile = some t ∧ p.run = some j ∧ mm.filter (fun (x : ColMismatch) => laneFails x.op) = none → (p.ended
        sh.colBlocks j).cols.sum = sh.colBlocks * sh.kBlocks → exec (.wraPassEnd work mm) s = .next (s.endsX (((((s.dev.incr
        .wra_tile_count_passes t).count (blkTile t) .WRA_PASS).count (blkTile t) .WRA_BUSY (passCycles (elemBytes sh.fmt) sh.k
        sh.m (p.next j) sh.tr)).setPasses (Work.of work)
        ({ p.ended sh.colBlocks j with spare := p.spare || s.dev.flag .wra_tile_status_spare_in_use t } : Passes)).workDone
        (Work.of work) t))) ∧
    (∀ (f : Frame) (mark : Bool) (y : Desc) (g : Nat) (ps : List (Nat × Nat)), s.dev.internalHead 513 3 = some (f, mark) ∧
        f.complete = true ∧ f.hdr.ftype = ftGATHER_REQ ∧ s.dev.flag .sched_echo_ctrl_echo_enable = false → s.dev.desc (beNat
        (f.payload.take 4) / 2 ^ 20) = some y ∧ s.dev.descInflight (beNat (f.payload.take 4) / 2 ^ 20) < dxInflight y.words ∧
        s.dev.slotsInflight < 65536 → s.dev.gatherStatus f.hdr f.payload = (msOK, g, ps) → exec (.gatherReqTake) s = .next
        (s.endsX
        ({ ((s.dev.takeInternal 513 f).incr .h_gather_id 0).incr .h_work_age 0 with gathers := s.dev.gathers ++ [({ id := s.dev.get .h_gather_id, age := s.dev.get .h_work_age, hdr := f.hdr, desc := (beNat (f.payload.take 4) / 2 ^ 20), frame := g, positions := ps } : Gather)] }))) ∧
    (∀ (id : BitVec 32) (corr bad : List (BitVec 39)) (g : Gather) (y : Desc), s.dev.gathers.find? (fun (x : Gather) => x.id ==
        id.toNat && !x.answered && x.rows.isNone) = some g ∧ s.dev.desc g.desc = some y ∧ dxKind y.words = dkGATHER_WRA →
        s.dev.mustWait g.id g.hdr (g.spans (rowBytes y.words)) = false → corr = [] ∧ bad = [] ∧ ∀ k : Fin 64, s.dev.flag
        .memc_ch_status_failed k = false → ∃ e, exec (.gatherRowsDone id corr bad) s = .next (s.endsX e) ∧ (e.gathers =
        s.dev.gathers.map (fun (x : Gather) => if x.id = id.toNat then
        { g with rows := some (g.positions.map (fun (q : Nat × Nat) => if slice q.2 0 15 = 0 then [] else memRead s.mem q.1 (rowBytes y.words))) }
        else x)) ∧ s.dev.Keeps e (countFlds ++ ([.memc_last_uncorr_channel, .memc_last_uncorr_address, .memc_ch_status_failed,
        .memc_ch_ecc_corrected, .memc_ch_ecc_uncorrectable] : List Fld)) ∧ e.rest =
        ({ s.dev with gathers := e.gathers, fmemOut := e.fmemOut, chUncorr := e.chUncorr, sent := e.sent } : Dev).rest) ∧
    (∀ (m : Mark) (tile : Fin 4), s.dev.accepts (.wraTileNop m tile) = true → exec (.wraTileNop m tile) s = .next (s.ends
        (s.dev).ok)) ∧
    (∀ (m : Mark) (tile : Fin 4) (col : Fin 128), s.dev.accepts (.wraRetireCol m tile col) = true → s.dev.get .h_wra_req tile =
        255 → exec (.wraRetireCol m tile col) s = .next (s.ends ((s.dev.retireCol tile col 2).tileResult tile 0).ok)) ∧
    (∀ (m : Mark) (tile : Fin 4) (col : Fin 128), s.dev.accepts (.wraRetireCol m tile col) = true → s.dev.get .h_wra_req tile ≠
        255 → exec (.wraRetireCol m tile col) s = .next (s.ends (s.dev.tileResult tile 1).ok)) ∧
    (∀ (m : Mark) (tile : Fin 4), s.dev.accepts (.wraRestoreCol m tile) = true → s.dev.get .h_wra_req tile ≠ 255 → exec
        (.wraRestoreCol m tile) s = .next (s.ends ((s.dev.set .h_wra_req tile 255).tileResult tile 0).ok)) ∧
    (∀ (m : Mark) (tile : Fin 4), s.dev.accepts (.wraRestoreCol m tile) = true → s.dev.get .h_wra_req tile = 255 → exec
        (.wraRestoreCol m tile) s = .next (s.ends (s.dev.tileResult tile 2).ok)) ∧
    (∀ (m : Mark) (tile : Fin 4), s.dev.accepts (.wraTileFence m tile) = true → s.dev.tilesUp.any (fun u => u != tile.val) =
        true → exec (.wraTileFence m tile) s = .next (s.endsX ((s.dev.draw.2.fenceTile tile (s.dev.draw.1 % 256) 2 0).tileResult
        tile 0).ok)) ∧
    (∀ (m : Mark) (tile : Fin 4), s.dev.accepts (.wraTileFence m tile) = true → s.dev.tilesUp.any (fun u => u != tile.val) =
        false → exec (.wraTileFence m tile) s = .next (s.endsX (s.dev.tileResult tile 3).ok)) ∧
    (∀ (m : Mark) (tile : Fin 4), s.dev.accepts (.wraTileUnfence m tile) = true → s.dev.flag .wra_tile_status_fenced tile = true
        → exec (.wraTileUnfence m tile) s = .next (s.endsX ((s.dev.set .wra_tile_status_fenced tile 0).tileResult tile 0).ok)) ∧
    (∀ (m : Mark) (tile : Fin 4), s.dev.accepts (.wraTileUnfence m tile) = true → s.dev.flag .wra_tile_status_fenced tile =
        false → exec (.wraTileUnfence m tile) s = .next (s.endsX (s.dev.tileResult tile 4).ok))

/-- Frames of fabric memory: map commands, zeroing, requests and their accesses. FMEM NOP changes nothing. A MAP without a fault
(mapResult) gives the frame the fields of the two argument words, in ZEROING, its bytes zero, with result 0; UNMAP without a fault
makes it DRAINING, discards its mirror frames and answers the writes that wait for one; RESYNC makes it RESYNC, with MIRROR_DONE
at once where nothing is dirty; PROMOTE makes it a DEGRADED primary, every granule dirty; each shows result 0, and with a fault
nothing else than that result and its record. Zeroing done makes an unpaired frame ACTIVE, a primary DEGRADED with every granule
dirty, a secondary RESYNC (zeroed). A draining frame with nothing in flight is FREE, clean, and its UNMAP ends. A complete request
at the head of the FMEM output with room leaves it and holds a slot under the next number; one that fails its checks (memStatus)
is answered with its status. With no older overlapping operation and no failed channel: the access of a read, without errors,
answers OK with the bytes at its frame and offset; that of a write stores its payload there, that of an atomic without errors the
new word (atomNew), and goes on as writeDone says with the old word as data. (R371, R374, R375, R376, R377, R378, R379, R381,
R384, R387, R394) -/
def Obligations.FabricMemoryFrames : Prop :=
  ∀ s : State,
    (∀ (m : Mark) (frame : Fin 512), s.dev.accepts (.fmemCmdNop m frame) = true → exec (.fmemCmdNop m frame) s = .next (s.ends
        (s.dev).ok)) ∧
    (∀ (m : Mark) (frame : Fin 512), s.dev.accepts (.fmemCmdMap m frame) = true → (s.dev.mapResult frame s.dev.mapArg0
        s.dev.mapArg1) = 0 → exec (.fmemCmdMap m frame) s = .next
        { s.endsX (((s.dev.mapFrame' frame s.dev.mapArg0 s.dev.mapArg1).mapStatus frame 0).ok) with mem := memZero s.mem frame }) ∧
    (∀ (m : Mark) (frame : Fin 512), s.dev.accepts (.fmemCmdMap m frame) = true → (s.dev.mapResult frame s.dev.mapArg0
        s.dev.mapArg1) ≠ 0 → exec (.fmemCmdMap m frame) s = .next (s.endsX ((s.dev.mapRefused frame (slice s.dev.mapArg0 16 26)
        (s.dev.mapResult frame s.dev.mapArg0 s.dev.mapArg1) (slice s.dev.mapArg0 0 16)).mapStatus frame (s.dev.mapResult frame
        s.dev.mapArg0 s.dev.mapArg1)).ok)) ∧
    (∀ (m : Mark) (frame : Fin 512), s.dev.accepts (.fmemCmdUnmap m frame) = true → s.dev.frameCmdResult 2 frame = 0 → exec
        (.fmemCmdUnmap m frame) s = .next (s.endsX ((s.dev.fops.filter (fun (o : MOp) => o.frame == frame.val && o.phase ==
        1)).foldl (fun (d : Dev) (o : MOp) => d.opAnswer o msOK o.data) (((s.dev.set .fmem_win_state_state frame
        fsDRAINING).dropPushes frame).mapStatus frame 0)).ok)) ∧
    (∀ (m : Mark) (frame : Fin 512), s.dev.accepts (.fmemCmdUnmap m frame) = true → s.dev.frameCmdResult 2 frame ≠ 0 → exec
        (.fmemCmdUnmap m frame) s = .next (s.endsX (s.dev.frameRefused frame (s.dev.frameCmdResult 2 frame)).ok)) ∧
    (∀ (m : Mark) (frame : Fin 512), s.dev.accepts (.fmemCmdResync m frame) = true → s.dev.frameCmdResult 3 frame = 0 → exec
        (.fmemCmdResync m frame) s = .next (s.endsX (((s.dev.set .fmem_win_state_state frame fsRESYNC).resyncDone
        frame).mapStatus frame 0).ok)) ∧
    (∀ (m : Mark) (frame : Fin 512), s.dev.accepts (.fmemCmdResync m frame) = true → s.dev.frameCmdResult 3 frame ≠ 0 → exec
        (.fmemCmdResync m frame) s = .next (s.endsX (s.dev.frameRefused frame (s.dev.frameCmdResult 3 frame)).ok)) ∧
    (∀ (m : Mark) (frame : Fin 512), s.dev.accepts (.fmemCmdPromote m frame) = true → s.dev.frameCmdResult 4 frame = 0 → exec
        (.fmemCmdPromote m frame) s = .next (s.ends (((s.dev.setMany [(.fmem_win_cfg_role, frame, 1), (.fmem_win_state_state,
        frame, fsDEGRADED), (.h_fm_hold, frame, 0)]).putDirty frame [(0, 262144)]).mapStatus frame 0).ok)) ∧
    (∀ (m : Mark) (frame : Fin 512), s.dev.accepts (.fmemCmdPromote m frame) = true → s.dev.frameCmdResult 4 frame ≠ 0 → exec
        (.fmemCmdPromote m frame) s = .next (s.ends (s.dev.frameRefused frame (s.dev.frameCmdResult 4 frame)).ok)) ∧
    (∀ (frame : Fin 409), s.dev.fstate frame = fsZEROING → exec (.fmemZeroingDone frame) s = .next (s.ends (s.dev.zeroed
        frame))) ∧
    (∀ (frame : Fin 409), s.dev.fstate frame = fsDRAINING ∧ s.dev.frameInflight frame = 0 → exec (.fmemFrameDrained frame) s =
        .next (s.ends (((s.dev.setMany [(.fmem_win_state_state, frame, fsFREE), (.h_fm_hold, frame, 0)]).putDirty frame
        []).opEnd (.memUnmap frame) 0))) ∧
    (∀ (f : Frame) (mark : Bool) (g : Nat), s.dev.internalHead 513 3 = some (f, mark) ∧ f.complete = true ∧ [ftMEM_RD, ftMEM_WR,
        ftMEM_ATOM].contains f.hdr.ftype = true ∧ s.dev.flag .sched_echo_ctrl_echo_enable = false ∧ s.dev.slotsInflight < 65536
        → s.dev.memStatus f.hdr = (msOK, g) → exec (.fmemRequest) s = .next (s.endsX
        ({ (s.dev.takeInternal 513 f).incr .h_gather_id 0 with fops := s.dev.fops ++ [({ id := s.dev.get .h_gather_id, hdr := f.hdr, payload := f.payload, frame := g } : MOp)] }))) ∧
    (∀ (f : Frame) (mark : Bool) (st g : Nat), s.dev.internalHead 513 3 = some (f, mark) ∧ f.complete = true ∧ [ftMEM_RD,
        ftMEM_WR, ftMEM_ATOM].contains f.hdr.ftype = true ∧ s.dev.flag .sched_echo_ctrl_echo_enable = false ∧
        s.dev.slotsInflight < 65536 → s.dev.memStatus f.hdr = (st, g) ∧ st ≠ msOK → exec (.fmemRequest) s = .next (s.endsX
        (({ (s.dev.takeInternal 513 f).incr .h_gather_id 0 with fops := (s.dev.fops ++ [({ id := s.dev.get .h_gather_id, hdr := f.hdr, payload := f.payload, frame := g } : MOp)]).map (fun (o : MOp) => if o.id = s.dev.get .h_gather_id then { o with frame := 409 } else o) }
        : Dev).opAnswer ({ id := s.dev.get .h_gather_id, hdr := f.hdr, payload := f.payload, frame := g } : MOp) st []))) ∧
    (∀ (id : BitVec 32) (corr bad : List (BitVec 39)) (o : MOp), s.dev.fops.find? (fun (x : MOp) => x.id == id.toNat && x.phase
        == 0) = some o ∧ s.dev.mustWait o.id o.hdr o.spans = false → o.hdr.ftype = ftMEM_RD ∧ corr = [] ∧ bad = [] ∧ ∀ k : Fin
        64, s.dev.flag .memc_ch_status_failed k = false → exec (.fmemAccessDone id corr bad) s = .next (s.endsX (((s.dev.count
        (blkLpddr (chanOf (o.frame * 2 ^ 30 + faOffset o.hdr.faddr))) .FMEM_RD 1
        { src := some ((o.frame * 2 ^ 30 + faOffset o.hdr.faddr) / 256) }).memBytes .MEM_RD_BYTES (o.frame * 2 ^ 30 + faOffset
        o.hdr.faddr) o.len).opAnswer o msOK (memRead s.mem (o.frame * 2 ^ 30 + faOffset o.hdr.faddr) o.len)))) ∧
    (∀ (id : BitVec 32) (corr bad : List (BitVec 39)) (o : MOp), s.dev.fops.find? (fun (x : MOp) => x.id == id.toNat && x.phase
        == 0) = some o ∧ s.dev.mustWait o.id o.hdr o.spans = false → o.hdr.ftype = ftMEM_WR ∧ ∀ k : Fin 64, s.dev.flag
        .memc_ch_status_failed k = false → exec (.fmemAccessDone id corr bad) s = .next
        { s.endsX (((s.dev.count (blkLpddr (chanOf (o.frame * 2 ^ 30 + faOffset o.hdr.faddr))) .FMEM_WR 1 { src := some ((o.frame * 2 ^ 30 + faOffset o.hdr.faddr) / 256) }).memBytes .MEM_WR_BYTES (o.frame * 2 ^ 30 + faOffset o.hdr.faddr) o.len).writeDone o [] o.payload) with mem := memWrite s.mem (o.frame * 2 ^ 30 + faOffset o.hdr.faddr) o.payload }) ∧
    (∀ (id : BitVec 32) (corr bad : List (BitVec 39)) (o : MOp), s.dev.fops.find? (fun (x : MOp) => x.id == id.toNat && x.phase
        == 0) = some o ∧ s.dev.mustWait o.id o.hdr o.spans = false → o.hdr.ftype = ftMEM_ATOM ∧ corr = [] ∧ bad = [] ∧ ∀ k : Fin
        64, s.dev.flag .memc_ch_status_failed k = false → exec (.fmemAccessDone id corr bad) s = .next
        { s.endsX ((((s.dev.count (blkLpddr (chanOf (o.frame * 2 ^ 30 + faOffset o.hdr.faddr))) .FMEM_ATOM 1 { src := some ((o.frame * 2 ^ 30 + faOffset o.hdr.faddr) / 256) }).memBytes .MEM_RD_BYTES (o.frame * 2 ^ 30 + faOffset o.hdr.faddr) 8).memBytes .MEM_WR_BYTES (o.frame * 2 ^ 30 + faOffset o.hdr.faddr) 8).writeDone o (beBytes 8 (leNat (memRead s.mem (o.frame * 2 ^ 30 + faOffset o.hdr.faddr) 8))) (leBytes 8 (atomNew o.hdr.opcode (leNat (memRead s.mem (o.frame * 2 ^ 30 + faOffset o.hdr.faddr) 8)) (beNat (o.payload.take 8)) (beNat ((o.payload.drop 8).take 8))))) with mem := memWrite s.mem (o.frame * 2 ^ 30 + faOffset o.hdr.faddr) (leBytes 8 (atomNew o.hdr.opcode (leNat (memRead s.mem (o.frame * 2 ^ 30 + faOffset o.hdr.faddr) 8)) (beNat (o.payload.take 8)) (beNat ((o.payload.drop 8).take 8)))) })

/-- Mirror pairs, resynchronisation, the patrol scrub and the refresh rate. A complete mirror frame that arrived on no port, at the
head of the FMEM output, for a frame that is mapped in the role it needs, not draining, whose partner sent it, leaves the output;
then a push is written and acknowledged as pushTaken says, an acknowledgement frees its push and answers what waits for it as
ackTaken says, a keep changes nothing else, and a done makes the secondary ACTIVE and is acknowledged as doneTaken says. A primary
in ACTIVE or RESYNC sends a keep for its window; without an acknowledgement of a push in time it loses its partner (mirrorLost:
DEGRADED, what was in flight dirty, answers held). A secondary in ACTIVE or RESYNC without its primary is ORPHAN, with its record.
The answers a DEGRADED primary held are given, and later ones at once. A resynchronisation pushes the first dirty granule that is
not in flight, 4,096 bytes of the frame. A poll shows the rate and whether the channel is hot, and records MEMC_HOT when it
becomes so. A scrub visit counts and records each word found corrected or uncorrectable of the stripe of its channel and advances
(scrubNext). (R382, R383, R384, R388, R389, R396) -/
def Obligations.MirrorPairs : Prop :=
  ∀ s : State,
    (∀ (f : Frame) (mark : Bool) (g : Nat), s.dev.internalHead 513 4 = some (f, mark) ∧ f.complete = true ∧ f.hdr.ftype =
        ftMEM_RSP ∧ f.hdr.size = 16 ∧ f.arrival = none → s.dev.winHolder (faWindow f.hdr.faddr) = some g ∧ f.hdr.src = 0xFF0000
        + s.dev.get .fmem_win_cfg_partner g ∧ s.dev.frole g = 2 ∧ s.dev.fstate g ≠ fsDRAINING → exec (.mirrorPush) s = .next
        { s.endsX (((s.dev.takeInternal 513 f).pushTaken s.mem g f).1) with mem := ((s.dev.takeInternal 513 f).pushTaken s.mem g f).2 }) ∧
    (∀ (f : Frame) (mark : Bool) (g : Nat), s.dev.internalHead 513 4 = some (f, mark) ∧ f.complete = true ∧ f.hdr.ftype =
        ftMEM_RSP ∧ f.hdr.size = 17 ∧ f.arrival = none → s.dev.winHolder (faWindow f.hdr.faddr) = some g ∧ f.hdr.src = 0xFF0000
        + s.dev.get .fmem_win_cfg_partner g ∧ s.dev.frole g = 1 ∧ s.dev.fstate g ≠ fsDRAINING → exec (.mirrorAck) s = .next
        (s.endsX ((s.dev.takeInternal 513 f).ackTaken g f.hdr.reqid))) ∧
    (∀ (f : Frame) (mark : Bool) (g : Nat), s.dev.internalHead 513 4 = some (f, mark) ∧ f.complete = true ∧ f.hdr.ftype =
        ftMEM_RSP ∧ f.hdr.size = 18 ∧ f.arrival = none → s.dev.winHolder (faWindow f.hdr.faddr) = some g ∧ f.hdr.src = 0xFF0000
        + s.dev.get .fmem_win_cfg_partner g ∧ s.dev.frole g = 2 ∧ s.dev.fstate g ≠ fsDRAINING → exec (.mirrorKeep) s = .next
        (s.endsX (s.dev.takeInternal 513 f))) ∧
    (∀ (f : Frame) (mark : Bool) (g : Nat), s.dev.internalHead 513 4 = some (f, mark) ∧ f.complete = true ∧ f.hdr.ftype =
        ftMEM_RSP ∧ f.hdr.size = 19 ∧ f.arrival = none → s.dev.winHolder (faWindow f.hdr.faddr) = some g ∧ f.hdr.src = 0xFF0000
        + s.dev.get .fmem_win_cfg_partner g ∧ s.dev.frole g = 2 ∧ s.dev.fstate g ≠ fsDRAINING → exec (.mirrorDone) s = .next
        (s.endsX ((s.dev.takeInternal 513 f).doneTaken g f.hdr))) ∧
    (∀ (frame : Fin 409), (s.dev.frole frame = 1 ∧ (s.dev.fstate frame = fsACTIVE ∨ s.dev.fstate frame = fsRESYNC)) → exec
        (.mirrorKeepSend frame) s = .next (s.endsX (s.dev.mirrorSend frame 18 0 (s.dev.get .fmem_win_cfg_window frame * 2 ^ 30)
        []))) ∧
    (∀ (frame : Fin 409), (s.dev.frole frame = 1 ∧ (s.dev.fstate frame = fsACTIVE ∨ s.dev.fstate frame = fsRESYNC)) →
        s.dev.fpushes.any (fun (p : MPush) => p.frame == frame.val) = true → exec (.mirrorAckTimeout frame) s = .next (s.endsX
        (s.dev.mirrorLost frame))) ∧
    (∀ (frame : Fin 409), (s.dev.frole frame = 1 ∧ (s.dev.fstate frame = fsACTIVE ∨ s.dev.fstate frame = fsRESYNC)) →
        s.dev.fpushes.any (fun (p : MPush) => p.frame == frame.val) = true → ∃ e, exec (.mirrorAckTimeout frame) s = .next
        (s.endsX e) ∧ (e.fstate frame = fsDEGRADED ∧ e.get .h_fm_hold frame = 1 ∧ (∀ p ∈ e.fpushes, p.frame ≠ frame.val) ∧ ∀ o ∈
        e.fops, o.frame = frame.val → o.phase ≠ 1) ∧ s.dev.Keeps e (([.fmem_win_state_state, .h_fm_hold] : List Fld)) ∧ e.rest =
        ({ s.dev with fops := e.fops, fpushes := e.fpushes, fdirty := e.fdirty, fmemOut := e.fmemOut, sent := e.sent } :
        Dev).rest) ∧
    (∀ (frame : Fin 409), (s.dev.frole frame = 2 ∧ (s.dev.fstate frame = fsACTIVE ∨ s.dev.fstate frame = fsRESYNC)) → exec
        (.mirrorOrphanTimeout frame) s = .next (s.ends ((s.dev.set .fmem_win_state_state frame fsORPHAN).raise .FMEM_ORPHAN
        (s.dev.pathDevice ucFMEM_FRAME frame) [.h frame, .w (s.dev.get .fmem_win_cfg_window frame), .h (s.dev.get
        .fmem_win_cfg_partner frame), .w (ivCount (s.dev.dirty frame))] (s.dev.get .fmem_win_cfg_job_tag frame)))) ∧
    (∀ (frame : Fin 409), exec (.fmemDegradedAnswer frame) s = .next (s.endsX ((s.dev.fops.filter (fun (o : MOp) => o.frame ==
        frame.val && o.phase == 2)).foldl (fun (d : Dev) (o : MOp) => d.opAnswer o msOK o.data) (s.dev.set .h_fm_hold frame
        0)))) ∧
    (∀ (frame : Fin 409) (g : Nat), s.dev.fstate frame = fsRESYNC ∧ s.dev.frole frame = 1 → ivFirst (s.dev.dirty frame)
        (s.dev.fpushes.filterMap (fun (p : MPush) => if p.frame = frame.val then p.gran else none)) = some g → exec (.resyncPush
        frame) s = .next (s.endsX (s.dev.mirrorPush frame 16 (s.dev.get .fmem_win_cfg_window frame * 2 ^ 30 + g * 4096) (memRead
        s.mem (frame.val * 2 ^ 30 + g * 4096) 4096) none (some g)))) ∧
    (∀ (chan : Fin 64) (rate : BitVec 4) (hot : Bool), (s.dev.domainOn 9 = true ∧ (hot = false ∨ s.dev.flag .memc_ch_status_hot
        chan = true)) → exec (.mr4Poll chan rate hot) s = .next (s.ends (s.dev.setMany [(.memc_ch_status_mr4_rate, chan,
        rate.toNat), (.memc_ch_status_hot, chan, b2n hot)]))) ∧
    (∀ (chan : Fin 64) (rate : BitVec 4) (hot : Bool), s.dev.domainOn 9 = true ∧ hot = true ∧ s.dev.flag .memc_ch_status_hot
        chan = false → exec (.mr4Poll chan rate hot) s = .next (s.ends ((s.dev.setMany [(.memc_ch_status_mr4_rate, chan,
        rate.toNat), (.memc_ch_status_hot, chan, 1)]).raise .MEMC_HOT (s.dev.pathDevice ucLPDDR_CHANNEL chan) [.h chan]))) ∧
    (∀ (chan : Fin 64) (corr bad : BitVec 32), s.dev.domainOn 9 = true ∧ s.dev.flag .memc_ctrl_scrub_en = true ∧ s.dev.get
        .h_scrub chan < scrubStripes → exec (.lpddrPatrolScrub chan corr bad) s = .next (s.ends (((bitsOf 32 bad.toNat).foldl
        (fun (d : Dev) (w : Nat) => d.memUncorr true ((s.dev.get .h_scrub chan * 64 + (chan.val ^^^ (s.dev.get .h_scrub chan %
        64))) * 256 + w * 8)) ((bitsOf 32 corr.toNat).foldl (fun (d : Dev) (w : Nat) => d.memCorr true ((s.dev.get .h_scrub chan
        * 64 + (chan.val ^^^ (s.dev.get .h_scrub chan % 64))) * 256 + w * 8)) s.dev)).scrubNext chan)))

/-- Bytes written to fabric memory read back, and no other byte changes. After a write of bytes from an address up, each address of
the range reads its byte and every other address reads as before; after a frame is zeroed its 2^30 addresses read 0 and every
other address reads as before. (R371, R372, R375, R378, log 6) -/
def Obligations.FabricMemoryBytes : Prop :=
  (∀ (m : SMap Byte) (a : Nat) (l : List Nat) (x : Nat),
    memByte (memWrite m a l) x = if a ≤ x ∧ x < a + l.length then l.getD (x - a) 0 % 256 else memByte m x) ∧
  ∀ (m : SMap Byte) (f x : Nat),
    memByte (memZero m f) x = if f * 2 ^ 30 ≤ x ∧ x < (f + 1) * 2 ^ 30 then 0 else memByte m x

/-- Exchanges of time, parents, the states of the time unit, PPS and the reference. With servo_en and exchanges running on the port
(tportUp), and room at input 515, a REQ with the next number is placed on the queue of that port (originateAt) and awaited. A REQ
at the head of output 515 leaves it; in the second counted so far, of 2,048 taken already it counts TIME_REQ_EXCESS; else it is
counted, and on a DOWN, AXIS or SERVICE port with TIME agreed it is answered with a RESP of its number and payload. A RESP that
matches the REQ awaited on its port leaves the output and is an accepted exchange (respTaken); one that matches none only leaves
it; then what fabric time has passed fires (afterStep). A REQ without its RESP in time counts TIME_EX_LOST and a lost exchange,
and the time unit is checked (timeCheck). In HOLDOVER without a usable parent, an eligible alternate becomes the parent, with its
record. A write of TIME_PARENT or TIME_CTRL leaves its fields in force. The holdover age counts in HOLDOVER. A GRANDMASTER shows
the error of an edge of PPS_IN, counts TIME_PPS_REJECT for one more than 1 us off and follows another (servo); outside
GRANDMASTER, and outside a HOLDOVER entered from there, an edge is the first (ppsFirst). Without edges pps_ok falls, and a
GRANDMASTER goes to HOLDOVER with TIME_PPS_LOST. Loss of the external reference in use falls back with TIME_REF_LOST. Roundings
and the cause of TIME_STATE are free values (log entry 4). (R401, R402, R403, R405, R407, R408, R409, R410, R411, log 4, log 67) -/
def Obligations.TimeExchangesAndStates : Prop :=
  ∀ s : State,
    (∀ (alt : Bool), s.dev.flag .time_ctrl_servo_en = true ∧ s.dev.tportUp (b2n alt) = true ∧ s.dev.inputFits 515 (cellCost 32)
        = true → exec (.timeReqSend alt) s = .next (s.endsX (((s.dev.originateAt 515 (s.dev.tport (b2n alt)) (s.dev.timeHdr
        (s.dev.tport (b2n alt)) ((s.dev.get .h_treq_seq (b2n alt) + 1) % 2 ^ 20) 1) (List.replicate 24 0 ++
        s.dev.timeTail)).getD s.dev).setMany [(.h_treq_seq, (b2n alt), (s.dev.get .h_treq_seq (b2n alt) + 1) % 2 ^ 20),
        (.h_treq_out, (b2n alt), 1)]))) ∧
    (∀ (f : Frame) (n : Nat), s.dev.timeHead 1 = some (f, n) ∧ s.dev.get .h_treq_sec n = s.dev.localNs / 1000000000 ∧ s.dev.get
        .h_treq_n n < 2048 → ((s.dev.role n = roleDOWN ∨ s.dev.role n = roleAXIS ∨ s.dev.role n = roleSERVICE) ∧
        s.dev.hasFeature n ftTIME = true ∧ (s.dev.takeInternal 515 f).inputFits 515 (cellCost 32) = true) → exec (.timeReqRx) s
        = .next (s.endsX ((((s.dev.takeInternal 515 f).incr .h_treq_n n).originateAt 515 n (s.dev.timeHdr n f.hdr.reqid 2)
        (f.payload.take 8 ++ beBytes 8 f.stamp ++ List.replicate 8 0 ++ s.dev.timeTail)).getD s.dev))) ∧
    (∀ (f : Frame) (n : Nat), s.dev.timeHead 1 = some (f, n) ∧ s.dev.get .h_treq_sec n = s.dev.localNs / 1000000000 ∧ 2048 ≤
        s.dev.get .h_treq_n n → exec (.timeReqRx) s = .next (s.endsX ((s.dev.takeInternal 515 f).count n .TIME_REQ_EXCESS 1
        { src := some f.hdr.src }))) ∧
    (∀ (f : Frame) (n k : Nat), s.dev.timeHead 2 = some (f, n) → firstBelow 2 (fun j => s.dev.tport j == n && s.dev.tportUp j &&
        s.dev.flag .h_treq_out j && s.dev.get .h_treq_seq j == f.hdr.reqid) = some k → exec (.timeRespRx) s = .next (s.endsX
        (s.dev.afterStep ((s.dev.takeInternal 515 f).respTaken k n f)))) ∧
    (∀ (f : Frame) (n : Nat), s.dev.timeHead 2 = some (f, n) → firstBelow 2 (fun j => s.dev.tport j == n && s.dev.tportUp j &&
        s.dev.flag .h_treq_out j && s.dev.get .h_treq_seq j == f.hdr.reqid) = none → exec (.timeRespRx) s = .next (s.endsX
        (s.dev.afterStep (s.dev.takeInternal 515 f)))) ∧
    (∀ (alt : Bool), s.dev.flag .h_treq_out (b2n alt) = true → exec (.timeExchangeLost alt) s = .next (s.endsX ((((s.dev.set
        .h_treq_out (b2n alt) 0).count (s.dev.tport (b2n alt)) .TIME_EX_LOST).incrSat .time_meas_lost_run (b2n alt)).timeCheck
        [.h (s.dev.tport (b2n alt))]))) ∧
    (s.dev.tstate = tsHOLDOVER ∧ s.dev.parentGone = true ∧ s.dev.tEligible 1 = true ∧ s.dev.flag .time_ctrl_servo_en = true →
        exec (.timeAltWaitExpiry) s = .next (s.endsX (((s.dev.set .h_parent_sel 0 2).raise .TIME_PARENT_SWITCH s.dev.pathDevice
        [.h (s.dev.tport 1)]).timeCheck))) ∧
    (∀ (m : Mark) (v : Word), s.dev.accepts (.timeParentWrite m v) = true → ∃ e, exec (.timeParentWrite m v) s = .next (s.endsX
        e) ∧ (e.get .time_parent_parent_port = slice v.toNat 0 9 ∧ e.get .time_parent_parent_en = slice v.toNat 9 1 ∧ e.get
        .time_parent_alt_port = slice v.toNat 16 9 ∧ e.get .time_parent_alt_en = slice v.toNat 25 1 ∧ e.get
        .time_parent_alt_wait_ms = slice v.toNat 32 16) ∧ s.dev.Keeps e (countFlds ++ ([.time_status_holdover_age,
        .time_status_steps_removed, .time_status_gm_id, .time_status_degraded, .time_status_upstream_holdover,
        .time_status_time_state, .time_offset_ns_offset_ns, .time_offset_frac_offset_frac, .time_rate_rate,
        .time_parent_alt_wait_ms, .time_parent_alt_en, .time_parent_alt_port, .time_parent_parent_en, .time_parent_parent_port,
        .time_meas_lost_run, .time_meas_eligible, .h_parent_sel, .h_gm_hold, .h_ever_lock, .h_acq_n, .h_acq_freq, .h_acq_sum,
        .h_lock_n, .h_bad_n, .h_treq_out, .h_tp_ok, .h_tp_valid, .h_clamp_sec, .h_pps_last] : List Fld)) ∧ e.rest =
        ({ s.dev with timeDs := e.timeDs, runs := e.runs, sent := e.sent } : Dev).rest) ∧
    (∀ (m : Mark) (v : Word), s.dev.accepts (.timeCtrlWrite m v) = true → ∃ e, exec (.timeCtrlWrite m v) s = .next (s.endsX e) ∧
        (e.get .time_ctrl_servo_en = slice v.toNat 0 1 ∧ e.get .time_ctrl_gm_en = slice v.toNat 1 1 ∧ e.get .time_ctrl_step_en =
        slice v.toNat 2 1 ∧ e.get .h_ref_ext = slice v.toNat 3 1 ∧ e.get .time_ctrl_pps_out_en = slice v.toNat 4 1) ∧
        s.dev.Keeps e (countFlds ++ ([.time_ctrl_tc_en, .time_ctrl_pps_out_en, .time_ctrl_ref_sel, .time_ctrl_step_en,
        .time_ctrl_gm_en, .time_ctrl_servo_en, .time_status_holdover_age, .time_status_steps_removed, .time_status_gm_id,
        .time_status_degraded, .time_status_upstream_holdover, .time_status_time_state, .time_offset_ns_offset_ns,
        .time_offset_frac_offset_frac, .time_rate_rate, .time_meas_lost_run, .time_meas_eligible, .h_parent_sel, .h_gm_hold,
        .h_ever_lock, .h_acq_n, .h_acq_freq, .h_acq_sum, .h_lock_n, .h_bad_n, .h_treq_out, .h_tp_ok, .h_clamp_sec, .h_pps_last,
        .h_ref_ext] : List Fld)) ∧ e.rest = ({ s.dev with sent := e.sent } : Dev).rest) ∧
    (s.dev.tstate = tsHOLDOVER → exec (.holdoverAgeTick) s = .next (s.endsX ((s.dev.incrSat .time_status_holdover_age
        0).refreshDegraded))) ∧
    (∀ (quarter : Fin 4), s.dev.flag .time_ctrl_gm_en = true ∧ s.dev.tstate = tsGRANDMASTER ∧ 1000 * 2 ^ 32 < (s.dev.ppsErr
        quarter).natAbs → exec (.ppsInEdge quarter) s = .next (s.endsX ((s.dev.set .time_pps_pps_err 0 (wrap 32 (ratioRound
        (s.dev.ppsErr quarter) (2 ^ 24)))).count blkDevice .TIME_PPS_REJECT))) ∧
    (∀ (quarter : Fin 4), s.dev.flag .time_ctrl_gm_en = true ∧ s.dev.tstate = tsGRANDMASTER ∧ (s.dev.ppsErr quarter).natAbs ≤
        1000 * 2 ^ 32 → exec (.ppsInEdge quarter) s = .next (s.endsX (((s.dev.set .time_pps_pps_err 0 (wrap 32 (ratioRound
        (s.dev.ppsErr quarter) (2 ^ 24)))).set .time_status_pps_ok 0 1).servo (-(ratioFree (s.dev.ppsErr quarter * oUnit) (2 ^
        32))) true []))) ∧
    (∀ (quarter : Fin 4), s.dev.flag .time_ctrl_gm_en = true ∧ s.dev.tstate ≠ tsGRANDMASTER ∧ ¬(s.dev.tstate = tsHOLDOVER ∧
        s.dev.flag .h_gm_hold = true) → exec (.ppsInEdge quarter) s = .next (s.endsX ((s.dev.set .time_pps_pps_err 0 (wrap 32
        (ratioRound (s.dev.ppsErr quarter) (2 ^ 24)))).ppsFirst (s.dev.ppsErr quarter)))) ∧
    (s.dev.tstate = tsGRANDMASTER → exec (.ppsLoss) s = .next (s.endsX (((s.dev.set .time_status_pps_ok 0 0).raise
        .TIME_PPS_LOST s.dev.pathDevice).toState tsHOLDOVER))) ∧
    (s.dev.tstate ≠ tsGRANDMASTER → exec (.ppsLoss) s = .next (s.endsX (s.dev.set .time_status_pps_ok 0 0))) ∧
    (s.dev.flag .h_ref_ext = true → exec (.clk10mLoss) s = .next (s.ends ((s.dev.setMany [(.h_ref_ext, 0, 0),
        (.time_status_ref_lost, 0, 1)]).raise .TIME_REF_LOST s.dev.pathDevice)))

/-- Reads and writes of fabric time, triggers, captures and PPS_OUT. A read of TIME_NOW_NS answers fabric time and latches the
fraction and the local counter. A write of TIME_OFFSET_NS in FREE or GRANDMASTER steps the offset to the value with the staged
fraction, or with the present one (timeStep), and what fabric time has passed fires (afterStep); without a staged fraction the
offset reads the value written, with the fraction it had. A write of TIME_OFFSET_FRAC there stages the fraction. A write of
TIME_RATE in FREE asks for that rate (putRate). Elsewhere each is discarded with TIME_SET_BUSY. While pps_out_en is 1 an edge of
PPS_OUT emits its pulse, of at least 1 ms. A write of TIME_TRIG_CTRL that enables a trigger with a legal pulse arms it with its
count remaining, one with another pulse leaves it disabled with TIME_TRIG_REFUSED; one that clears enable stops it (trigStop). An
edge ends a pulse that runs, and begins the single pulse of an enabled trigger with period 0 and no count. An edge of an enabled,
selected kind, the first of its input, is captured with its time while the FIFO holds fewer than 16; a read of TIME_CAP_NS answers
and takes the oldest. (R397, R398, R399, R410, R412, R413, R414, R421, R422, R423, R426) -/
def Obligations.TimeRegistersAndPins : Prop :=
  ∀ s : State,
    (∀ (m : Mark), s.dev.reaches rowTIME_NOW_NS 0 → exec (.timeNowRead m) s = .next (s.ends ((s.dev.setMany
        [(.time_now_frac_now_frac, 0, s.dev.fabric32 % 2 ^ 32), (.time_local_local, 0, s.dev.localNs)]).emit (.reply false
        s.dev.fabricNs)))) ∧
    (∀ (m : Mark) (v : Word), s.dev.accepts (.timeOffsetNsWrite m v) = true → s.dev.offsetOpen = true → exec (.timeOffsetNsWrite
        m v) s = .next (s.ends (s.dev.afterStep ((s.dev.set .h_frac_valid 0 0).timeStep (sgn 96 ((v.toNat * 2 ^ 32 + (if
        s.dev.flag .h_frac_valid = true then s.dev.get .h_frac_stage else s.dev.get .time_offset_frac_offset_frac)) + 2 ^ 96 -
        s.dev.offset32)) [])).ok)) ∧
    (∀ (m : Mark) (v : Word), s.dev.accepts (.timeOffsetNsWrite m v) = true → s.dev.offsetOpen = true ∧ s.dev.flag .h_frac_valid
        = false ∧ s.dev.offset32 < 2 ^ 96 ∧ s.dev.get .time_offset_frac_offset_frac < 2 ^ 32 → ∃ e, exec (.timeOffsetNsWrite m
        v) s = .next (s.ends e) ∧ e.get .time_offset_ns_offset_ns = v.toNat ∧ e.get .time_offset_frac_offset_frac = s.dev.get
        .time_offset_frac_offset_frac) ∧
    (∀ (m : Mark) (v : Word), s.dev.accepts (.timeOffsetNsWrite m v) = true → s.dev.offsetOpen = false → exec
        (.timeOffsetNsWrite m v) s = .next (s.ends (s.dev.raise .TIME_SET_BUSY s.dev.pathDevice).ok)) ∧
    (∀ (m : Mark) (v : Word), s.dev.accepts (.timeOffsetFracWrite m v) = true → s.dev.offsetOpen = true → exec
        (.timeOffsetFracWrite m v) s = .next (s.ends (s.dev.setMany [(.h_frac_stage, 0, slice v.toNat 0 32), (.h_frac_valid, 0,
        1)]).ok)) ∧
    (∀ (m : Mark) (v : Word), s.dev.accepts (.timeOffsetFracWrite m v) = true → s.dev.offsetOpen = false → exec
        (.timeOffsetFracWrite m v) s = .next (s.ends (s.dev.raise .TIME_SET_BUSY s.dev.pathDevice).ok)) ∧
    (∀ (m : Mark) (v : Word), s.dev.accepts (.timeRateWrite m v) = true → s.dev.tstate = tsFREE → exec (.timeRateWrite m v) s =
        .next (s.ends (s.dev.putRate (sgn 48 v.toNat) []).ok)) ∧
    (∀ (m : Mark) (v : Word), s.dev.accepts (.timeRateWrite m v) = true → s.dev.tstate ≠ tsFREE → exec (.timeRateWrite m v) s =
        .next (s.ends (s.dev.raise .TIME_SET_BUSY s.dev.pathDevice).ok)) ∧
    (s.dev.flag .time_ctrl_pps_out_en = true → exec (.ppsOutEdge) s = .next (s.ends (s.dev.emit (.pin "PPS_OUT" (max 1
        (s.dev.get .time_pps_pps_width_ms)))))) ∧
    (∀ (m : Mark) (k : Fin 4) (v : Word), s.dev.accepts (.trigCtrlWrite m k v) = true → (s.dev.flag .time_trig_ctrl_enable k =
        false ∧ bit v.toNat 0 = true ∧ ¬(s.dev.get .time_trig_period_width_ns k < 10 ∨ (s.dev.get .time_trig_period_period_ns k
        ≠ 0 ∧ (s.dev.get .time_trig_period_period_ns k < 100 ∨ s.dev.get .time_trig_period_period_ns k ≤ s.dev.get
        .time_trig_period_width_ns k)))) → ∃ e, exec (.trigCtrlWrite m k v) s = .next (s.ends e) ∧ (e.get .time_trig_ctrl_enable
        k = 1 ∧ e.get .time_trig_ctrl_count k = slice v.toNat 48 16 ∧ e.get .time_trig_ctrl_remaining k = slice v.toNat 48 16 ∧
        e.get .h_trig_next k = s.dev.trigFirst k % 2 ^ 64) ∧ s.dev.Keeps e (([.time_trig_ctrl_count, .time_trig_ctrl_remaining,
        .time_trig_ctrl_late, .time_trig_ctrl_polarity, .time_trig_ctrl_enable, .h_trig_on, .h_trig_next] : List Fld)) ∧ e.rest
        = ({ s.dev with sent := e.sent } : Dev).rest) ∧
    (∀ (m : Mark) (k : Fin 4) (v : Word), s.dev.accepts (.trigCtrlWrite m k v) = true → (s.dev.flag .time_trig_ctrl_enable k =
        false ∧ bit v.toNat 0 = true ∧ (s.dev.get .time_trig_period_width_ns k < 10 ∨ (s.dev.get .time_trig_period_period_ns k ≠
        0 ∧ (s.dev.get .time_trig_period_period_ns k < 100 ∨ s.dev.get .time_trig_period_period_ns k ≤ s.dev.get
        .time_trig_period_width_ns k)))) → exec (.trigCtrlWrite m k v) s = .next (s.ends (((s.dev.writeFields rowTIME_TRIG_CTRL
        k v.toNat [0]).set .time_trig_ctrl_enable k 0).raise .TIME_TRIG_REFUSED (s.dev.pathDevice ucTIME_IO k)).ok)) ∧
    (∀ (m : Mark) (k : Fin 4) (v : Word), s.dev.accepts (.trigCtrlWrite m k v) = true → s.dev.flag .time_trig_ctrl_enable k =
        true ∧ bit v.toNat 0 = false → exec (.trigCtrlWrite m k v) s = .next (s.ends ((s.dev.writeFields rowTIME_TRIG_CTRL k
        v.toNat [0]).trigStop k).ok)) ∧
    (∀ (k : Fin 4), s.dev.flag .time_trig_ctrl_enable k = true ∧ s.dev.flag .h_trig_on k = true → exec (.trigEdge k) s = .next
        (s.ends (s.dev.trigPin k false))) ∧
    (∀ (k : Fin 4), s.dev.flag .time_trig_ctrl_enable k = true ∧ s.dev.flag .h_trig_on k = false ∧ s.dev.get
        .time_trig_period_period_ns k = 0 ∧ s.dev.get .h_trig_next k = 0 ∧ s.dev.get .time_trig_ctrl_count k = 0 → exec
        (.trigEdge k) s = .next (s.ends ((s.dev.set .h_trig_next k 1).trigPin k true))) ∧
    (∀ (c : Fin 4) (falling : Bool) (quarter : Fin 4), s.dev.flag .time_cap_info_enable c = true ∧ s.dev.bitOf
        .time_cap_info_edge_sel c (b2n falling) = true ∧ s.dev.get .h_cap_last c = 0 ∧ (s.dev.cap c).length < 16 → exec
        (.capEdge c falling quarter) s = .next (s.ends
        ({ s.dev.set .h_cap_last c ((s.dev.fabric32 / 2 ^ 30 + quarter) + 1) with caps := s.dev.caps.set c [] (s.dev.cap c ++ [((s.dev.fabric32 / 2 ^ 30 + quarter), falling)]) }))) ∧
    (∀ (m : Mark) (c : Fin 4) (x : Nat × Bool) (r : List (Nat × Bool)), s.dev.reaches rowTIME_CAP_NS c → s.dev.cap c = x :: r →
        exec (.capPopRead m c) s = .next (s.ends (({ s.dev with caps := s.dev.caps.set c [] r } : Dev).emit (.reply false (x.1 /
        4 % 2 ^ 64)))))

/-- The flow group: what each instruction does, and how a running entry goes on or ends. Each clause is about the next instruction of
the entry that runs in a queue, blocked by no WAIT, whose budget covers its cost: the cost is charged (Dev.charged). END retires
the entry OK. NOP goes on (drvNext): without an open LOOP and before the last instruction at the next index, and from the last
instruction the entry no longer runs; at the last of a LOOP body with iterations left the next begins at its first instruction
with its index in d. A NOP past the budget ends the entry with BUDGET. SET writes its value, sign-extended, SETHI the upper 20
bits, ADD a + b + signed c modulo 2^64, AND, OR and SHIFT their results, each into d, and go on. BR with cond 0 to 6 goes to i +
offset where its condition holds, else to i + 1. LOOP opens its body with d at 0 and goes on. WAIT in modes 0, 1 and 2 on a token
it may use is noted in the entry with its operands and the time, and Dev.waitDone looks whether it holds at once. A blocked WAIT
in mode 0 whose token has its count, its turn come, takes it, in mode 1 whose time has come goes on, and each gives 0; in mode 2
with every operation ended the results are dropped and the first failure in order of start is its failure, else it gives 0. One
that does not hold when its limit expires fails with WAIT_LIMIT. SIGNAL on a token it may use signals n and goes on; a token above
65,535 fails with RANGE, and one named through a register and not allowed ends the entry with PROTECTION. (R435, R445, R455, R456,
R457, R460, R461, R462) -/
def Obligations.FlowInstructions : Prop :=
  ∀ s : State,
    (∀ (q : Fin 512) (w i : Nat) (n : Entry), s.dev.issues q 0x00 w i n → exec (.dxEnd q) s = .next (s.endsX ((s.dev.charged q
        w).endRun q { status := stOK }))) ∧
    (∀ (q : Fin 512) (w i : Nat) (n : Entry), s.dev.issues q 0x01 w i n → exec (.dxNop q) s = .next (s.endsX ((s.dev.charged q
        w).drvNext q (i + 1)))) ∧
    (∀ (q : Fin 512) (w i : Nat) (n : Entry), s.dev.issues q 0x01 w i n → n.loops = [] ∧ i + 1 < n.prog.length → ∃ e, exec
        (.dxNop q) s = .next (s.endsX e) ∧ ((e.queue q).run = some ({ n with pc := i + 1, spent := n.spent + 1 } : Entry)) ∧
        s.dev.Keeps e (queueFlds ++ countFlds) ∧ e.rest =
        ({ s.dev with ops := e.ops, reads := e.reads, readWaits := e.readWaits, queues := e.queues, sent := e.sent } :
        Dev).rest) ∧
    (∀ (q : Fin 512) (w i : Nat) (n : Entry), s.dev.issues q 0x01 w i n → n.loops = [] ∧ i + 1 = n.prog.length → ∃ e, exec
        (.dxNop q) s = .next (s.endsX e) ∧ ((e.queue q).run = none) ∧ s.dev.Keeps e (queueFlds ++ countFlds) ∧ e.rest =
        ({ s.dev with ops := e.ops, reads := e.reads, readWaits := e.readWaits, queues := e.queues, sent := e.sent } :
        Dev).rest) ∧
    (∀ (q : Fin 512) (w i : Nat) (n : Entry) (l : LoopSt), s.dev.issues q 0x01 w i n → n.loops = [l] ∧ l.last = i ∧ l.iter + 1 <
        l.count ∧ l.first < n.prog.length → ∃ e, exec (.dxNop q) s = .next (s.endsX e) ∧ ((e.queue q).run = some
        (({ n with pc := l.first, spent := n.spent + 1, loops := [({ l with iter := l.iter + 1 } : LoopSt)] } : Entry).setReg
        l.d (l.iter + 1))) ∧ s.dev.Keeps e (queueFlds ++ countFlds) ∧ e.rest =
        ({ s.dev with ops := e.ops, reads := e.reads, readWaits := e.readWaits, queues := e.queues, sent := e.sent } :
        Dev).rest) ∧
    (∀ (q : Fin 512) (w i : Nat) (n : Entry), s.dev.fetches q 0x01 w i n → n.budget < n.spent + wCost w → exec (.dxNop q) s =
        .next (s.endsX ((s.dev.charged q w).endRun q { status := stBUDGET, pc := i }))) ∧
    (∀ (q : Fin 512) (w i : Nat) (n : Entry), s.dev.issues q 0x02 w i n → exec (.dxSet q) s = .next (s.endsX ((s.dev.charged q
        w).drvDone q w i (if bit w 43 then 2 ^ 64 - 2 ^ 44 + slice w 0 44 else slice w 0 44)))) ∧
    (∀ (q : Fin 512) (w i : Nat) (n : Entry), s.dev.issues q 0x03 w i n → exec (.dxSethi q) s = .next (s.endsX ((s.dev.charged q
        w).drvDone q w i (slice w 0 20 * 2 ^ 44 + n.reg (wD w) % 2 ^ 44)))) ∧
    (∀ (q : Fin 512) (w i : Nat) (n : Entry), s.dev.issues q 0x04 w i n → exec (.dxAdd q) s = .next (s.endsX ((s.dev.charged q
        w).drvDone q w i ((n.reg (wA w) + n.reg (wB w) + slice w 0 32 + (if bit w 31 then 2 ^ 64 - 2 ^ 32 else 0)) % 2 ^ 64)))) ∧
    (∀ (q : Fin 512) (w i : Nat) (n : Entry), s.dev.issues q 0x05 w i n → exec (.dxAnd q) s = .next (s.endsX ((s.dev.charged q
        w).drvDone q w i (n.reg (wA w) &&& n.reg (wB w))))) ∧
    (∀ (q : Fin 512) (w i : Nat) (n : Entry), s.dev.issues q 0x06 w i n → exec (.dxOr q) s = .next (s.endsX ((s.dev.charged q
        w).drvDone q w i (n.reg (wA w) ||| n.reg (wB w))))) ∧
    (∀ (q : Fin 512) (w i : Nat) (n : Entry), s.dev.issues q 0x07 w i n → exec (.dxShift q) s = .next (s.endsX ((s.dev.charged q
        w).drvDone q w i (if bit w 6 then n.reg (wA w) / 2 ^ slice w 0 6 else n.reg (wA w) * 2 ^ slice w 0 6)))) ∧
    (∀ (q : Fin 512) (w i : Nat) (n : Entry), s.dev.issues q 0x08 w i n → slice w 16 4 ≤ 6 → exec (.dxBr q) s = .next (s.endsX
        ((s.dev.charged q w).drvNext q (i + if slice w 16 4 = 0 ∨ (slice w 16 4 = 1 ∧ n.reg (wA w) = 0) ∨ (slice w 16 4 = 2 ∧
        n.reg (wA w) ≠ 0) ∨ (slice w 16 4 = 3 ∧ n.reg (wA w) = n.reg (wB w)) ∨ (slice w 16 4 = 4 ∧ n.reg (wA w) ≠ n.reg (wB w))
        ∨ (slice w 16 4 = 5 ∧ n.reg (wA w) < n.reg (wB w)) ∨ (slice w 16 4 = 6 ∧ bit (n.reg (wA w)) 63 = true) then slice w 0 16
        else 1)))) ∧
    (∀ (q : Fin 512) (w i : Nat) (n : Entry), s.dev.issues q 0x09 w i n → exec (.dxLoop q) s = .next (s.endsX (((s.dev.charged q
        w).onRun q (fun (y : Entry) =>
        ({ (y.setReg (wD w) 0) with loops := ({ first := i + 1, last := i + slice w 16 8, count := slice w 0 16, iter := 0, d := wD w } : LoopSt) :: y.loops }
        : Entry))).drvNext q (i + 1)))) ∧
    (∀ (q : Fin 512) (w i : Nat) (n : Entry) (v : Nat), s.dev.issues q 0x0A w i n → slice w 40 2 = 0 ∧ s.dev.mayUse q w n v =
        true → exec (.dxWaitToken q) s = .next (s.endsX (((s.dev.charged q w).onRun q (fun (y : Entry) =>
        ({ y with wait := some ({ mode := 0, tok := v, n := slice w 16 8, time := n.reg (wA w), since := (s.dev.charged q w).localNs, limit := slice w 24 16 } : WaitSt) }
        : Entry))).waitDone q))) ∧
    (∀ (q : Fin 512) (w i : Nat) (n : Entry) (v : Nat), s.dev.issues q 0x0A w i n → slice w 40 2 = 1 ∧ s.dev.mayUse q w n v =
        true → exec (.dxWaitTime q) s = .next (s.endsX (((s.dev.charged q w).onRun q (fun (y : Entry) =>
        ({ y with wait := some ({ mode := 1, tok := v, n := slice w 16 8, time := n.reg (wA w), since := (s.dev.charged q w).localNs, limit := slice w 24 16 } : WaitSt) }
        : Entry))).waitDone q))) ∧
    (∀ (q : Fin 512) (w i : Nat) (n : Entry) (v : Nat), s.dev.issues q 0x0A w i n → slice w 40 2 = 2 ∧ s.dev.mayUse q w n v =
        true → exec (.dxWaitDone q) s = .next (s.endsX (((s.dev.charged q w).onRun q (fun (y : Entry) =>
        ({ y with wait := some ({ mode := 2, tok := v, n := slice w 16 8, time := n.reg (wA w), since := (s.dev.charged q w).localNs, limit := slice w 24 16 } : WaitSt) }
        : Entry))).waitDone q))) ∧
    (∀ (q : Fin 512) (n : Entry) (x : WaitSt), (s.dev.queue q).run = some n ∧ n.wait = some x → x.mode = 0 ∧ x.n ≤ s.dev.get
        .csq_token_count x.tok ∧ s.dev.tokTurn x.tok x.since q = true → exec (.dxWaitSatisfied q) s = .next (s.endsX
        (((s.dev.onRun q (fun (y : Entry) => ({ y with wait := none } : Entry))).takeTok x.tok x.n).drvDone q (n.prog.getD n.pc
        0) n.pc))) ∧
    (∀ (q : Fin 512) (n : Entry) (x : WaitSt), (s.dev.queue q).run = some n ∧ n.wait = some x → x.mode = 1 ∧ x.time ≤
        s.dev.fabricNs → exec (.dxWaitSatisfied q) s = .next (s.endsX ((s.dev.onRun q (fun (y : Entry) =>
        ({ y with wait := none } : Entry))).drvDone q (n.prog.getD n.pc 0) n.pc))) ∧
    (∀ (q : Fin 512) (n : Entry) (x : WaitSt), (s.dev.queue q).run = some n ∧ n.wait = some x → s.dev.waitHolds q n x = false →
        exec (.dxWaitLimitExpiry q) s = .next (s.endsX ((s.dev.onRun q (fun (y : Entry) => ({ y with wait := none } :
        Entry))).drvFailFlow q (n.prog.getD n.pc 0) n.pc fcWAIT_LIMIT))) ∧
    (∀ (q : Fin 512) (n : Entry) (x : WaitSt) (o : Op), (s.dev.queue q).run = some n ∧ n.wait = some x → x.mode = 2 ∧
        s.dev.opsOpen q n.run = 0 ∧ (s.dev.ops.filter (fun (y : Op) => y.queue == q && y.entry == n.run)).find? (fun (y : Op) =>
        y.res != some 0) = some o → exec (.dxWaitSatisfied q) s = .next (s.endsX
        (({ (s.dev.onRun q (fun (y : Entry) => ({ y with wait := none } : Entry))) with ops := s.dev.ops.filter (fun (y : Op) => !(y.queue == q && y.entry == n.run)) }
        : Dev).drvFailVal q (n.prog.getD n.pc 0) n.pc (failCode o.start o.group (o.res.getD 0))))) ∧
    (∀ (q : Fin 512) (n : Entry) (x : WaitSt), (s.dev.queue q).run = some n ∧ n.wait = some x → x.mode = 2 ∧ s.dev.opsOpen q
        n.run = 0 ∧ (s.dev.ops.filter (fun (y : Op) => y.queue == q && y.entry == n.run)).find? (fun (y : Op) => y.res != some
        0) = none → exec (.dxWaitSatisfied q) s = .next (s.endsX
        (({ (s.dev.onRun q (fun (y : Entry) => ({ y with wait := none } : Entry))) with ops := s.dev.ops.filter (fun (y : Op) => !(y.queue == q && y.entry == n.run)) }
        : Dev).drvDone q (n.prog.getD n.pc 0) n.pc))) ∧
    (∀ (q : Fin 512) (w i : Nat) (n : Entry) (v : Nat), s.dev.issues q 0x0B w i n → s.dev.mayUse q w n v = true → exec
        (.dxSignal q) s = .next (s.endsX (((s.dev.charged q w).signalTok v (slice w 16 8)).drvNext q (i + 1)))) ∧
    (∀ (q : Fin 512) (w i : Nat) (n : Entry), s.dev.issues q 0x0B w i n → 65535 < (n.reg (wB w) + slice w 0 16) % 2 ^ 64 → exec
        (.dxSignal q) s = .next (s.endsX ((s.dev.charged q w).drvFailFlow q w i fcRANGE))) ∧
    (∀ (q : Fin 512) (w i : Nat) (n : Entry), s.dev.issues q 0x0B w i n → n.reg (wB w) + slice w 0 16 ≤ 65535 ∧ wB w ≠ 0 ∧
        s.dev.qAllowed q ocTOKEN (n.reg (wB w) + slice w 0 16) (n.reg (wB w) + slice w 0 16) true = false → exec (.dxSignal q) s
        = .next (s.endsX ((s.dev.charged q w).endRun q (protEnd ocTOKEN (n.reg (wB w) + slice w 0 16) i))))

/-- The TBL and COLL groups: the effect of each instruction on tables, groups, contexts and descriptors. Each clause is about the next
instruction of the running entry of a queue, its budget and object allowed and the block it names on; its cost is charged
(Dev.charged). ACQ of a bucket not locked on a slot not held runs ACQUIRE (lockAcquire) and gives 0; of a locked bucket it fails
with BUSY, shown in FWD_LOCK_STATUS with the bucket. On a slot held STAGE sets its staged word to a and GET gives its staged word;
on one not held each fails with LOCK_LOST. COMMIT of at most eight slots that all pass runs the commit (lockCommit) and gives 0;
another fails with the first failing slot’s result (commitCode). REL clears held of its slot. LIMIT writes the two fields of
FWD_LEARN. An operation of an entry with fewer than 16 unended ones starts (Dev.starts), and a 17th MC.WRITE fails with OP_LIMIT.
MC.WRITE reads 128 bytes at a; that read answered, WRITE of the group begins with its words where no multicast command runs, else
the operation ends with BUSY, and without an answer with IMAGE_READ. COLL.LOAD begins the load of its sequencer’s path (collLoad).
COLL.UNLOAD takes out an idle context without armed launches; of one not loaded the operation ends with NOT_LOADED. COLL.LAUNCH
adds its launches (launchSteps) and leaves the signal to them; it fails with NOT_LOADED or, above 65,535, LAUNCH_COUNT. COLL.ABORT
of an open step runs the abort (collAbort) and gives 0; with no context it fails with NOT_LOADED, with no step NO_STEP. COLL.STATE
reads the state. WRA.LOAD begins the load of its path (descLoad). WRA.UNLOAD of a descriptor that nothing holds or has in flight
frees it. (R192, R194, R198, R266, R269, R270, R272, R331, R456, R458, R463, R464) -/
def Obligations.TableAndCollectiveInstructions : Prop :=
  ∀ s : State,
    (∀ (q : Fin 512) (w i : Nat) (n : Entry) (v : Nat), s.dev.executes q 0x10 w i n v rowFWD_LOCK_REQ (wSlot w) → s.dev.slotHeld
        (wSlot w) = false ∧ s.dev.locked v = false → exec (.dxTblAcq q) s = .next (s.endsX (((s.dev.charged q w).lockAcquire
        (wSlot w) v).1.drvDone q w i 0))) ∧
    (∀ (q : Fin 512) (w i : Nat) (n : Entry) (v : Nat), s.dev.executes q 0x10 w i n v rowFWD_LOCK_REQ (wSlot w) → s.dev.slotHeld
        (wSlot w) = false ∧ s.dev.locked v = true → exec (.dxTblAcq q) s = .next (s.endsX ((((s.dev.charged q w).set
        .fwd_lock_status_bucket (wSlot w) v).set .fwd_lock_status_result (wSlot w) lkBUSY).drvFail q w i lkBUSY))) ∧
    (∀ (q : Fin 512) (w i : Nat) (n : Entry) (v : Nat), s.dev.executes q 0x11 w i n v rowFWD_LOCK_REQ (wSlot w) → s.dev.slotHeld
        (wSlot w) = true → exec (.dxTblStage q) s = .next (s.endsX (((s.dev.charged q w).set .fwd_lock_stage_stage (8 * wSlot w
        + v) (n.reg (wA w))).drvDone q w i 0))) ∧
    (∀ (q : Fin 512) (w i : Nat) (n : Entry) (v : Nat), s.dev.executes q 0x12 w i n v rowFWD_LOCK_REQ (wSlot w) → s.dev.slotHeld
        (wSlot w) = true → exec (.dxTblGet q) s = .next (s.endsX ((s.dev.charged q w).drvDone q w i (s.dev.staged (wSlot w)
        v)))) ∧
    (∀ (q : Fin 512) (w i : Nat) (n : Entry) (v : Nat), s.dev.executes q 0x12 w i n v rowFWD_LOCK_REQ (wSlot w) → s.dev.slotHeld
        (wSlot w) = false → exec (.dxTblGet q) s = .next (s.endsX ((s.dev.charged q w).drvFail q w i lkLOCK_LOST))) ∧
    (∀ (q : Fin 512) (w i : Nat) (n : Entry) (v : Nat), s.dev.executes q 0x13 w i n v rowFWD_COMMIT 0 → (bitsOf 64 (n.reg (wA
        w))).length ≤ 8 ∧ ∀ k ∈ bitsOf 64 (n.reg (wA w)), s.dev.slotFails (bitsOf 64 (n.reg (wA w))) k = lkOK → exec
        (.dxTblCommit q) s = .next (s.endsX (((s.dev.charged q w).lockCommit (bitsOf 64 (n.reg (wA w)))).1.drvDone q w i 0))) ∧
    (∀ (q : Fin 512) (w i : Nat) (n : Entry) (v : Nat), s.dev.executes q 0x11 w i n v rowFWD_LOCK_REQ (wSlot w) → s.dev.slotHeld
        (wSlot w) = false → exec (.dxTblStage q) s = .next (s.endsX ((s.dev.charged q w).drvFail q w i lkLOCK_LOST))) ∧
    (∀ (q : Fin 512) (w i : Nat) (n : Entry) (v : Nat), s.dev.executes q 0x13 w i n v rowFWD_COMMIT 0 → ∃ k ∈ bitsOf 64 (n.reg
        (wA w)), s.dev.slotFails (bitsOf 64 (n.reg (wA w))) k ≠ lkOK → exec (.dxTblCommit q) s = .next (s.endsX (((s.dev.charged
        q w).lockCommit (bitsOf 64 (n.reg (wA w)))).1.drvFail q w i ((s.dev.charged q w).commitCode (bitsOf 64 (n.reg (wA
        w))))))) ∧
    (∀ (q : Fin 512) (w i : Nat) (n : Entry) (v : Nat), s.dev.executes q 0x14 w i n v rowFWD_LOCK_REQ (wSlot w) → exec
        (.dxTblRel q) s = .next (s.endsX (((s.dev.charged q w).set .fwd_lock_status_held (wSlot w) 0).drvDone q w i 0))) ∧
    (∀ (q : Fin 512) (w i : Nat) (n : Entry) (v : Nat), s.dev.executes q 0x15 w i n v rowFWD_LEARN v → s.dev.refusedFields
        rowFWD_LEARN v (slice (n.reg (wA w)) 0 17) = [] → exec (.dxTblLimit q) s = .next (s.endsX (((s.dev.charged q
        w).learnLimitWrite v (slice (n.reg (wA w)) 0 17) []).drvDone q w i 0))) ∧
    (∀ (q : Fin 512) (w i : Nat) (n : Entry) (v : Nat), s.dev.executes q 0x16 w i n v rowMCAST_CMD 0 → s.dev.opsOpen q n.run <
        16 → exec (.dxMcWrite q) s = .next (s.endsX (((s.dev.charged q w).kread (.mcEntry q v) (reqLOAD (s.dev.qSeq q)) (n.reg
        (wA w)) 128).starts q w i n (.mcWrite v) none))) ∧
    (∀ (q : Fin 512) (w i : Nat) (n : Entry) (v : Nat), s.dev.executes q 0x16 w i n v rowMCAST_CMD 0 → 16 ≤ s.dev.opsOpen q
        n.run → exec (.dxMcWrite q) s = .next (s.endsX ((s.dev.charged q w).drvFailFlow q w i fcOP_LIMIT))) ∧
    (∀ (q : Fin 512) (group : Fin 65536) (entry : Option (Vector Word 16)) (ws : Vector Word 16) (d : Dev), s.dev.takeRead
        (.mcEntry q group) = some d ∧ d.flag .mcast_cmd_status_busy = false → entry = some ws → exec (.mcWriteReadDone q group
        entry) s = .next (s.endsX
        (({ d.setMany [(.mcast_cmd_status_busy, 0, 1), (.h_mc_op, 0, 2), (.h_mc_group, 0, group)] with mcWords := ws.toList.map (fun (y : Word) => y.toNat) }
        : Dev).opFirst q (.mcWrite group) (fun (o : Op) => { o with key := .mcRun group })))) ∧
    (∀ (q : Fin 512) (group : Fin 65536) (entry : Option (Vector Word 16)) (ws : Vector Word 16) (d : Dev), s.dev.takeRead
        (.mcEntry q group) = some d ∧ d.flag .mcast_cmd_status_busy = true → entry = some ws → exec (.mcWriteReadDone q group
        entry) s = .next (s.endsX ((d.set .mcast_cmd_status_result 0 mcBUSY).opFirst q (.mcWrite group) (fun (o : Op) =>
        { o with res := some 19 })))) ∧
    (∀ (q : Fin 512) (group : Fin 65536) (entry : Option (Vector Word 16)) (d : Dev), s.dev.takeRead (.mcEntry q group) = some d
        → entry = none → exec (.mcWriteReadDone q group entry) s = .next (s.endsX (d.opFirst q (.mcWrite group) (fun (o : Op) =>
        { o with res := some 20 })))) ∧
    (∀ (q : Fin 512) (w i : Nat) (n : Entry) (v : Nat), s.dev.executes q 0x20 w i n v rowCOLL_CTX_STATE v → s.dev.opsOpen q
        n.run < 16 → s.dev.collLoads.getOpt (s.dev.qSeq q) = none → exec (.dxCollLoad q) s = .next (s.endsX (((s.dev.charged q
        w).collLoad (s.dev.qSeq q) v (n.reg (wA w)) (s.dev.qPriv q) (s.dev.qMap q)).1.starts q w i n (.collLoad (s.dev.qSeq q))
        none))) ∧
    (∀ (q : Fin 512) (w i : Nat) (n : Entry) (v : Nat) (c : Ctx), s.dev.executes q 0x21 w i n v rowCOLL_CTX_STATE v →
        s.dev.opsOpen q n.run < 16 → s.dev.ctx v = some c ∧ c.state = 1 ∧ c.armed = 0 → exec (.dxCollUnload q) s = .next
        (s.endsX (((s.dev.charged q w).putCtx v none).starts q w i n (.collUnload v) (some 0)))) ∧
    (∀ (q : Fin 512) (w i : Nat) (n : Entry) (v : Nat), s.dev.executes q 0x21 w i n v rowCOLL_CTX_STATE v → s.dev.opsOpen q
        n.run < 16 → s.dev.ctx v = none → exec (.dxCollUnload q) s = .next (s.endsX ((s.dev.charged q w).starts q w i n
        (.collUnload v) (some 20)))) ∧
    (∀ (q : Fin 512) (w i : Nat) (n : Entry) (v : Nat) (c : Ctx), s.dev.executes q 0x22 w i n v rowCOLL_CTX_STATE v → s.dev.ctx
        v = some c ∧ c.armed + slice w 14 16 ≤ 65535 → exec (.dxCollLaunch q) s = .next (s.endsX ((((s.dev.charged q
        w).launchSteps v (slice w 14 16)
        ({ queue := q, token := entSignalToken (n.words.getD 0 0), signal := entSignalEn (n.words.getD 0 0) } : Launch)).1.onRun
        q (fun (y : Entry) => ({ y with launched := true } : Entry))).drvDone q w i 0))) ∧
    (∀ (q : Fin 512) (w i : Nat) (n : Entry) (v : Nat), s.dev.executes q 0x22 w i n v rowCOLL_CTX_STATE v → s.dev.ctx v = none →
        exec (.dxCollLaunch q) s = .next (s.endsX ((s.dev.charged q w).drvFail q w i 20))) ∧
    (∀ (q : Fin 512) (w i : Nat) (n : Entry) (v : Nat) (c : Ctx), s.dev.executes q 0x22 w i n v rowCOLL_CTX_STATE v → s.dev.ctx
        v = some c ∧ 65535 < c.armed + slice w 14 16 - b2n (c.state == 1 && c.armed == 0) → exec (.dxCollLaunch q) s = .next
        (s.endsX ((s.dev.charged q w).drvFail q w i 23))) ∧
    (∀ (q : Fin 512) (w i : Nat) (n : Entry) (v : Nat) (c : Ctx) (r : Step), s.dev.executes q 0x23 w i n v rowCOLL_CTX_STATE v →
        s.dev.openStep? v = some (c, r) → exec (.dxCollAbort q) s = .next (s.endsX (((s.dev.charged q w).collAbort v).1.drvDone
        q w i 0))) ∧
    (∀ (q : Fin 512) (w i : Nat) (n : Entry) (v : Nat), s.dev.executes q 0x23 w i n v rowCOLL_CTX_STATE v → s.dev.ctx v = none →
        exec (.dxCollAbort q) s = .next (s.endsX ((s.dev.charged q w).drvFail q w i 20))) ∧
    (∀ (q : Fin 512) (w i : Nat) (n : Entry) (v : Nat) (c : Ctx), s.dev.executes q 0x23 w i n v rowCOLL_CTX_STATE v → s.dev.ctx
        v = some c ∧ c.state = 1 ∧ c.armed = 0 → exec (.dxCollAbort q) s = .next (s.endsX ((s.dev.charged q w).drvFail q w i
        21))) ∧
    (∀ (q : Fin 512) (w i : Nat) (n : Entry) (v : Nat), s.dev.executes q 0x24 w i n v rowCOLL_CTX_STATE v → exec (.dxCollState
        q) s = .next (s.endsX ((s.dev.charged q w).drvDone q w i ((s.dev.charged q w).readReg {} rowCOLL_CTX_STATE v)))) ∧
    (∀ (q : Fin 512) (w i : Nat) (n : Entry) (v : Nat), s.dev.executes q 0x25 w i n v rowWRA_DESC_STATE v → s.dev.opsOpen q
        n.run < 16 → s.dev.descPathBusy (s.dev.qSeq q) = false → exec (.dxWraLoad q) s = .next (s.endsX (((s.dev.charged q
        w).descLoad (s.dev.qSeq q) v (n.reg (wA w)) (s.dev.qPriv q) (s.dev.qMap q)).1.starts q w i n (.wraLoad (s.dev.qSeq q))
        none))) ∧
    (∀ (q : Fin 512) (w i : Nat) (n : Entry) (v : Nat) (x : Desc), s.dev.executes q 0x26 w i n v rowWRA_DESC_STATE v →
        s.dev.opsOpen q n.run < 16 → s.dev.desc v = some x ∧ s.dev.descHolds v = 0 ∧ s.dev.descInflight v = 0 → exec
        (.dxWraUnload q) s = .next (s.endsX
        ((({ (s.dev.charged q w) with descs := s.dev.descs.set v none (some ({ x with state := 2 } : Desc)) } : Dev).descDrained
        v).starts q w i n (.wraUnload v) (some 0))))

/-- The PORT, XPR and LANE groups: the effect of each instruction on ports, circuits and lanes. Each clause is about the next
instruction of the running entry of a queue, its budget and object allowed, the block it names on and no field it writes refused;
its cost is charged (Dev.charged). PORT.CMD 3 on a port in ADMIT_WAIT does what that command does (portCmd) and goes on; in
QUARANTINE it fails with QUARANTINED. PORT.CFG, where portCfgWrite answers 0, does that write; else it fails with its code.
PORT.STENCIL, with fewer than 16 operations open, reads 32 bytes at a; answered, the four words are written (stencilInstall) and
the operation ends; without an answer it ends with IMAGE_READ. PORT.READ of 0 to 5, XPR.READ and LANE.READ of 0 to 3 give the
register selected in d. XPR.CFG of a FREE circuit does its write (xprCfgWrite), and XPR.WT one that xprWeightWrite accepts; each
fails with CIRCUIT_BUSY else. XPR.SETUP, XPR.TEAR and XPR.REWEIGHT start an operation with the effect and result of xprSetup,
after act_time := a, xprTeardown and xprReweight. LANE.OCT 1 on a slot that is not queued or running, in an octet without a parked
slot, queues its request; refused by octCmd it fails with that code. LANE.NEXT does the write (laneNextWrite) and goes on, or
fails with its code; LANE.CW of a port no sequence owns does its write (laneCwWrite), else it fails with SEQ_OWNS_PORT. RING.CMD 2
on a ring that is not busy restarts it and refreshes its port; 1 puts it in OFF first; on a busy one each fails with RING_BUSY,
and for a ring above 9 with RANGE. (R57, R63, R71, R81, R113, R127, R142, R172, R455, R458, R465, R466) -/
def Obligations.PortAndLaneInstructions : Prop :=
  ∀ s : State,
    (∀ (q : Fin 512) (w i : Nat) (n : Entry) (v : Nat), s.dev.executes q 0x30 w i n v rowPORT_CMD v → s.dev.refusedFields
        rowPORT_CMD v (slice w 9 4) = [] → slice w 9 4 = 3 ∧ s.dev.linkStatus v = lsADMIT_WAIT → exec (.dxPortCmd q) s = .next
        (s.endsX (((s.dev.charged q w).portCmd v (slice w 9 4)).1.drvDone q w i 0))) ∧
    (∀ (q : Fin 512) (w i : Nat) (n : Entry) (v : Nat), s.dev.executes q 0x30 w i n v rowPORT_CMD v → slice w 9 4 = 3 ∧
        s.dev.linkStatus v = lsQUARANTINE → exec (.dxPortCmd q) s = .next (s.endsX (((s.dev.charged q w).portCmd v 3).1.drvFail
        q w i 3))) ∧
    (∀ (q : Fin 512) (w i : Nat) (n : Entry) (v : Nat), s.dev.executes q 0x31 w i n v rowPORT_CFG v → s.dev.refusedFields
        rowPORT_CFG v (n.reg (wA w)) = [] → ((s.dev.charged q w).portCfgWrite v (n.reg (wA w)) []).2 = 0 → exec (.dxPortCfg q) s
        = .next (s.endsX (((s.dev.charged q w).portCfgWrite v (n.reg (wA w)) []).1.drvDone q w i 0))) ∧
    (∀ (q : Fin 512) (w i : Nat) (n : Entry) (v : Nat), s.dev.executes q 0x31 w i n v rowPORT_CFG v → s.dev.refusedFields
        rowPORT_CFG v (n.reg (wA w)) = [] → ((s.dev.charged q w).portCfgWrite v (n.reg (wA w)) []).2 ≠ 0 → exec (.dxPortCfg q) s
        = .next (s.endsX (((s.dev.charged q w).portCfgWrite v (n.reg (wA w)) []).1.drvFail q w i ((s.dev.charged q
        w).portCfgWrite v (n.reg (wA w)) []).2))) ∧
    (∀ (q : Fin 512) (w i : Nat) (n : Entry) (v : Nat), s.dev.executes q 0x32 w i n v rowPORT_STENCIL_0 v → s.dev.opsOpen q
        n.run < 16 → exec (.dxPortStencil q) s = .next (s.endsX (((s.dev.charged q w).kread (.stencil q v) (reqLOAD (s.dev.qSeq
        q)) (n.reg (wA w)) 32).starts q w i n (.stencil v) none))) ∧
    (∀ (q : Fin 512) (port : Fin 512) (entry : Option (Vector Word 4)) (ws : Vector Word 4) (d : Dev), s.dev.takeRead (.stencil
        q port) = some d → entry = some ws → exec (.portStencilReadDone q port entry) s = .next (s.endsX ((d.stencilInstall
        (reqQUEUE q) port (ws.toList.map (fun (y : Word) => y.toNat))).opFirst q (.stencil port) (fun (o : Op) =>
        ({ o with res := some 0 } : Op))))) ∧
    (∀ (q : Fin 512) (port : Fin 512) (entry : Option (Vector Word 4)) (d : Dev), s.dev.takeRead (.stencil q port) = some d →
        entry = none → exec (.portStencilReadDone q port entry) s = .next (s.endsX (d.opFirst q (.stencil port) (fun (o : Op) =>
        ({ o with res := some 6 } : Op))))) ∧
    (∀ (q : Fin 512) (w i : Nat) (n : Entry) (v : Nat), s.dev.executes q 0x33 w i n v rowPORT_STATUS v → slice w 9 4 = 0 → exec
        (.dxPortRead q) s = .next (s.endsX ((s.dev.charged q w).drvDone q w i ((s.dev.charged q w).readReg {} rowPORT_STATUS
        v)))) ∧
    (∀ (q : Fin 512) (w i : Nat) (n : Entry) (v : Nat), s.dev.executes q 0x33 w i n v rowPORT_NBR_0 v → slice w 9 4 = 1 → exec
        (.dxPortRead q) s = .next (s.endsX ((s.dev.charged q w).drvDone q w i ((s.dev.charged q w).readReg {} rowPORT_NBR_0
        v)))) ∧
    (∀ (q : Fin 512) (w i : Nat) (n : Entry) (v : Nat), s.dev.executes q 0x33 w i n v rowPORT_NBR_1 v → slice w 9 4 = 2 → exec
        (.dxPortRead q) s = .next (s.endsX ((s.dev.charged q w).drvDone q w i ((s.dev.charged q w).readReg {} rowPORT_NBR_1
        v)))) ∧
    (∀ (q : Fin 512) (w i : Nat) (n : Entry) (v : Nat), s.dev.executes q 0x33 w i n v rowPORT_NBR_EXT v → slice w 9 4 = 3 → exec
        (.dxPortRead q) s = .next (s.endsX ((s.dev.charged q w).drvDone q w i ((s.dev.charged q w).readReg {} rowPORT_NBR_EXT
        v)))) ∧
    (∀ (q : Fin 512) (w i : Nat) (n : Entry) (v : Nat), s.dev.executes q 0x33 w i n v rowOPT_MARGIN_STATUS v → slice w 9 4 = 4 →
        exec (.dxPortRead q) s = .next (s.endsX ((s.dev.charged q w).drvDone q w i ((s.dev.charged q w).readReg {}
        rowOPT_MARGIN_STATUS v)))) ∧
    (∀ (q : Fin 512) (w i : Nat) (n : Entry) (v : Nat), s.dev.executes q 0x33 w i n v rowOPT_RX_POWER v → slice w 9 4 = 5 → exec
        (.dxPortRead q) s = .next (s.endsX ((s.dev.charged q w).drvDone q w i ((s.dev.charged q w).readReg {} rowOPT_RX_POWER
        v)))) ∧
    (∀ (q : Fin 512) (w i : Nat) (n : Entry) (v : Nat), s.dev.executes q 0x40 w i n v rowXPR_CIRC_CFG v → s.dev.refusedFields
        rowXPR_CIRC_CFG v (n.reg (wA w)) = [] → s.dev.circState v = 0 → exec (.dxXprCfg q) s = .next (s.endsX (((s.dev.charged q
        w).xprCfgWrite v (n.reg (wA w)) []).1.drvDone q w i 0))) ∧
    (∀ (q : Fin 512) (w i : Nat) (n : Entry) (v : Nat), s.dev.executes q 0x40 w i n v rowXPR_CIRC_CFG v → s.dev.refusedFields
        rowXPR_CIRC_CFG v (n.reg (wA w)) = [] → s.dev.circState v ≠ 0 → exec (.dxXprCfg q) s = .next (s.endsX (((s.dev.charged q
        w).xprCfgWrite v (n.reg (wA w)) []).1.drvFail q w i 1))) ∧
    (∀ (q : Fin 512) (w i : Nat) (n : Entry) (v : Nat), s.dev.executes q 0x41 w i n v rowXPR_CIRC_WEIGHT v → s.dev.refusedFields
        rowXPR_CIRC_WEIGHT v (n.reg (wA w)) = [] → ((s.dev.charged q w).xprWeightWrite v (n.reg (wA w)) []).2 = true → exec
        (.dxXprWt q) s = .next (s.endsX (((s.dev.charged q w).xprWeightWrite v (n.reg (wA w)) []).1.drvDone q w i 0))) ∧
    (∀ (q : Fin 512) (w i : Nat) (n : Entry) (v : Nat), s.dev.executes q 0x41 w i n v rowXPR_CIRC_WEIGHT v → s.dev.refusedFields
        rowXPR_CIRC_WEIGHT v (n.reg (wA w)) = [] → ((s.dev.charged q w).xprWeightWrite v (n.reg (wA w)) []).2 = false → exec
        (.dxXprWt q) s = .next (s.endsX (((s.dev.charged q w).xprWeightWrite v (n.reg (wA w)) []).1.drvFail q w i 1))) ∧
    (∀ (q : Fin 512) (w i : Nat) (n : Entry) (v : Nat), s.dev.executes q 0x42 w i n v rowXPR_CIRC_CMD v → s.dev.opsOpen q n.run
        < 16 → exec (.dxXprSetup q) s = .next (s.endsX ((((s.dev.charged q w).set .xpr_circ_act_time_act_time v (n.reg (wA
        w))).xprSetup v).1.starts q w i n (.xprSetup v) (((s.dev.charged q w).set .xpr_circ_act_time_act_time v (n.reg (wA
        w))).xprSetup v).2))) ∧
    (∀ (q : Fin 512) (w i : Nat) (n : Entry) (v : Nat), s.dev.executes q 0x43 w i n v rowXPR_CIRC_CMD v → s.dev.opsOpen q n.run
        < 16 → exec (.dxXprTear q) s = .next (s.endsX (((s.dev.charged q w).xprTeardown v).1.starts q w i n (.xprTear v)
        ((s.dev.charged q w).xprTeardown v).2))) ∧
    (∀ (q : Fin 512) (w i : Nat) (n : Entry) (v : Nat), s.dev.executes q 0x44 w i n v rowXPR_CIRC_CMD v → s.dev.opsOpen q n.run
        < 16 → exec (.dxXprReweight q) s = .next (s.endsX (((s.dev.charged q w).xprReweight v).1.starts q w i n (.xprReweight v)
        ((s.dev.charged q w).xprReweight v).2))) ∧
    (∀ (q : Fin 512) (w i : Nat) (n : Entry) (v : Nat), s.dev.executes q 0x45 w i n v rowXPR_CIRC_STATUS v → exec (.dxXprRead q)
        s = .next (s.endsX ((s.dev.charged q w).drvDone q w i ((s.dev.charged q w).readReg {} rowXPR_CIRC_STATUS v)))) ∧
    (∀ (q : Fin 512) (w i : Nat) (n : Entry) (v : Nat), s.dev.executes q 0x50 w i n v rowLAS_OCT_CMD v → s.dev.refusedFields
        rowLAS_OCT_CMD v (slice w 6 3 * 16 + slice w 9 2) = [] → slice w 9 2 = 1 ∧ s.dev.seqHas v (slice w 6 3) = false ∧
        s.dev.get .las_oct_status_parked v = 0 ∧ s.dev.standbyUnused v (slice w 6 3) = true → exec (.dxLaneOct q) s = .next
        (s.endsX ((({ (s.dev.charged q w) with seqQueue := s.dev.seqQueue ++ [(⟨v, slice w 6 3, 0⟩ : SeqReq)] } :
        Dev).seqShowQueue v).drvDone q w i 0))) ∧
    (∀ (q : Fin 512) (w i : Nat) (n : Entry) (v : Nat), s.dev.executes q 0x50 w i n v rowLAS_OCT_CMD v → s.dev.refusedFields
        rowLAS_OCT_CMD v (slice w 6 3 * 16 + slice w 9 2) = [] → ((s.dev.charged q w).octCmd v (slice w 6 3) (slice w 9 2)).2 ≠
        0 → exec (.dxLaneOct q) s = .next (s.endsX (((s.dev.charged q w).octCmd v (slice w 6 3) (slice w 9 2)).1.drvFail q w i
        ((s.dev.charged q w).octCmd v (slice w 6 3) (slice w 9 2)).2))) ∧
    (∀ (q : Fin 512) (w i : Nat) (n : Entry) (v : Nat), s.dev.executes q 0x51 w i n v rowOPT_LANE_NEXT v → s.dev.refusedFields
        rowOPT_LANE_NEXT v (slice (n.reg (wA w)) 0 31 + b2n (bit w 9) * 2 ^ 63 + b2n (bit w 10) * 2 ^ 62) = [] → ((s.dev.charged
        q w).laneNextWrite v (slice (n.reg (wA w)) 0 31 + b2n (bit w 9) * 2 ^ 63 + b2n (bit w 10) * 2 ^ 62)).2 = 0 → exec
        (.dxLaneNext q) s = .next (s.endsX (((s.dev.charged q w).laneNextWrite v (slice (n.reg (wA w)) 0 31 + b2n (bit w 9) * 2
        ^ 63 + b2n (bit w 10) * 2 ^ 62)).1.drvDone q w i 0))) ∧
    (∀ (q : Fin 512) (w i : Nat) (n : Entry) (v : Nat), s.dev.executes q 0x51 w i n v rowOPT_LANE_NEXT v → s.dev.refusedFields
        rowOPT_LANE_NEXT v (slice (n.reg (wA w)) 0 31 + b2n (bit w 9) * 2 ^ 63 + b2n (bit w 10) * 2 ^ 62) = [] → ((s.dev.charged
        q w).laneNextWrite v (slice (n.reg (wA w)) 0 31 + b2n (bit w 9) * 2 ^ 63 + b2n (bit w 10) * 2 ^ 62)).2 ≠ 0 → exec
        (.dxLaneNext q) s = .next (s.endsX (((s.dev.charged q w).laneNextWrite v (slice (n.reg (wA w)) 0 31 + b2n (bit w 9) * 2
        ^ 63 + b2n (bit w 10) * 2 ^ 62)).1.drvFail q w i ((s.dev.charged q w).laneNextWrite v (slice (n.reg (wA w)) 0 31 + b2n
        (bit w 9) * 2 ^ 63 + b2n (bit w 10) * 2 ^ 62)).2))) ∧
    (∀ (q : Fin 512) (w i : Nat) (n : Entry) (v : Nat), s.dev.executes q 0x52 w i n v rowOPT_LANE_SWITCH_CW v →
        s.dev.refusedFields rowOPT_LANE_SWITCH_CW v (n.reg (wA w)) = [] → s.dev.seqOwns v = false → exec (.dxLaneCw q) s = .next
        (s.endsX (((s.dev.charged q w).laneCwWrite v (n.reg (wA w))).1.drvDone q w i 0))) ∧
    (∀ (q : Fin 512) (w i : Nat) (n : Entry) (v : Nat), s.dev.executes q 0x52 w i n v rowOPT_LANE_SWITCH_CW v →
        s.dev.refusedFields rowOPT_LANE_SWITCH_CW v (n.reg (wA w)) = [] → s.dev.seqOwns v = true → exec (.dxLaneCw q) s = .next
        (s.endsX (((s.dev.charged q w).raise .LAS_SEQ_OWNS_PORT (s.dev.pathPort v)).drvFail q w i 3))) ∧
    (∀ (q : Fin 512) (w i : Nat) (n : Entry) (v : Nat), s.dev.executes q 0x53 w i n v rowOPT_LANE_MAP v → slice w 12 4 ≤ 9 ∧
        slice w 10 2 = 2 ∧ s.dev.ringBusy v (slice w 12 4) = false → exec (.dxRingCmd q) s = .next (s.endsX ((((s.dev.charged q
        w).ringRestart v (slice w 12 4)).refreshLink v).drvDone q w i 0))) ∧
    (∀ (q : Fin 512) (w i : Nat) (n : Entry) (v : Nat), s.dev.executes q 0x53 w i n v rowOPT_LANE_MAP v → slice w 12 4 ≤ 9 ∧
        slice w 10 2 = 1 ∧ s.dev.ringBusy v (slice w 12 4) = false → exec (.dxRingCmd q) s = .next (s.endsX (((((s.dev.charged q
        w).ringOff (ringIx v (slice w 12 4))).ringRestart v (slice w 12 4)).refreshLink v).drvDone q w i 0))) ∧
    (∀ (q : Fin 512) (w i : Nat) (n : Entry) (v : Nat), s.dev.executes q 0x53 w i n v rowOPT_LANE_MAP v → (slice w 12 4 ≤ 9 ∧
        (slice w 10 2 = 1 ∨ slice w 10 2 = 2) ∧ s.dev.ringBusy v (slice w 12 4) = true) → exec (.dxRingCmd q) s = .next (s.endsX
        (((s.dev.charged q w).raise .OPT_RING_BUSY (s.dev.pathPort v) [.h (slice w 12 4), .h (slice w 10 2)]).drvFail q w i 7))) ∧
    (∀ (q : Fin 512) (w i : Nat) (n : Entry) (v : Nat), s.dev.executes q 0x53 w i n v rowOPT_LANE_MAP v → 9 < slice w 12 4 →
        exec (.dxRingCmd q) s = .next (s.endsX ((s.dev.charged q w).drvFailFlow q w i fcRANGE))) ∧
    (∀ (q : Fin 512) (w i : Nat) (n : Entry) (v : Nat), s.dev.executes q 0x54 w i n v rowOPT_LANE_MAP v → slice w 9 4 = 2 → exec
        (.dxLaneRead q) s = .next (s.endsX ((s.dev.charged q w).drvDone q w i ((s.dev.charged q w).readReg {} rowOPT_LANE_MAP
        v)))) ∧
    (∀ (q : Fin 512) (w i : Nat) (n : Entry) (v : Nat), s.dev.executes q 0x54 w i n v rowLAS_OCT_STATUS v → slice w 9 4 = 0 →
        exec (.dxLaneRead q) s = .next (s.endsX ((s.dev.charged q w).drvDone q w i ((s.dev.charged q w).readReg {}
        rowLAS_OCT_STATUS v)))) ∧
    (∀ (q : Fin 512) (w i : Nat) (n : Entry) (v : Nat), s.dev.executes q 0x54 w i n v rowLAS_OCT_SEQ_TIME v → slice w 9 4 = 1 →
        exec (.dxLaneRead q) s = .next (s.endsX ((s.dev.charged q w).drvDone q w i ((s.dev.charged q w).readReg {}
        rowLAS_OCT_SEQ_TIME v)))) ∧
    (∀ (q : Fin 512) (w i : Nat) (n : Entry) (v : Nat), s.dev.executes q 0x54 w i n v rowOPT_CW_COUNT v → slice w 9 4 = 3 → exec
        (.dxLaneRead q) s = .next (s.endsX ((s.dev.charged q w).drvDone q w i ((s.dev.charged q w).readReg {} rowOPT_CW_COUNT
        v))))

/-- The TIME, TRIG, MEM, DMA and PROG groups: the effect of each instruction. Each clause is about the next instruction of the running
entry of a queue, its budget and object allowed and the block it names on; its cost is charged (Dev.charged), and an operation
needs fewer than 16 open. NOW latches the fraction and the local counter and gives fabric time in d. STAT, MEM.READ and DMA.READ
give the register in d. PARENT does its write (parentWrite), PERIOD stores its fields. ARM of a disabled trigger with a lawful
pulse sets its start, does the write (trigCtrlWrite) and gives late in d, and with another pulse fails with TRIG_REFUSED; OFF
stops an enabled one (trigStop). CAP.POP gives and takes the oldest capture, and gives 0 of an empty buffer. MAP accepted maps the
frame (mapFrame), shows the result, ends its operation with 0, leaves d, and the frame’s memory reads as zeros; refused it ends
with its result (mapRefused). UNMAP, RESYNC and PROMOTE of a frame that can take them start or end operations with their effect
and show the result; refused, each ends with its result. DMA.RUN of an address it may read starts an idle channel, whose operation
stays open; of another channel it ends with CHAN_BUSY. ABORT of a RUNNING channel makes it ABORTING with its cause. LOAD of a free
handle begins its read; a loaded one ends with HANDLE_BUSY. An image that passes (progCheck) is held with its words, budget and
sequencers; another is not. UNLOAD of a handle no entry runs frees it; it fails with HANDLE_RUNNING or NO_HANDLE else. POWER
requests the state of a domain that is off and not blocked; a blocked one ends with PD_DEP_REFUSED. (R374, R408, R413, R414, R455,
R456, R458, R467, R468, R469, R470, R473) -/
def Obligations.TimeMemoryAndProgramInstructions : Prop :=
  ∀ s : State,
    (∀ (q : Fin 512) (w i : Nat) (n : Entry), s.dev.issues q 0x60 w i n → exec (.dxTimeNow q) s = .next (s.endsX
        (((s.dev.charged q w).setMany [(.time_now_frac_now_frac, 0, s.dev.fabric32 % 2 ^ 32), (.time_local_local, 0,
        s.dev.localNs)]).drvDone q w i s.dev.fabricNs))) ∧
    (∀ (q : Fin 512) (w i : Nat) (n : Entry) (v : Nat), s.dev.executes q 0x61 w i n v rowTIME_STATUS 0 → exec (.dxTimeStat q) s
        = .next (s.endsX ((s.dev.charged q w).drvDone q w i ((s.dev.charged q w).readReg {} rowTIME_STATUS 0)))) ∧
    (∀ (q : Fin 512) (w i : Nat) (n : Entry) (v : Nat), s.dev.executes q 0x62 w i n v rowTIME_PARENT 0 → s.dev.refusedFields
        rowTIME_PARENT 0 (n.reg (wA w)) = [] → exec (.dxTimeParent q) s = .next (s.endsX (((s.dev.charged q w).parentWrite
        (n.reg (wA w)) []).drvDone q w i 0))) ∧
    (∀ (q : Fin 512) (w i : Nat) (n : Entry) (v : Nat), s.dev.executes q 0x70 w i n v rowTIME_TRIG_PERIOD v → exec
        (.dxTrigPeriod q) s = .next (s.endsX (((s.dev.charged q w).writeFields rowTIME_TRIG_PERIOD v (n.reg (wA w)) []).drvDone
        q w i 0))) ∧
    (∀ (q : Fin 512) (w i : Nat) (n : Entry) (v : Nat), s.dev.executes q 0x71 w i n v rowTIME_TRIG_CTRL v → (s.dev.flag
        .time_trig_ctrl_enable v = false ∧ ¬(s.dev.get .time_trig_period_width_ns v < 10 ∨ (s.dev.get
        .time_trig_period_period_ns v ≠ 0 ∧ (s.dev.get .time_trig_period_period_ns v < 100 ∨ s.dev.get
        .time_trig_period_period_ns v ≤ s.dev.get .time_trig_period_width_ns v)))) → exec (.dxTrigArm q) s = .next (s.endsX
        ((((s.dev.charged q w).set .time_trig_start_start_ns v (n.reg (wA w))).trigCtrlWrite v (slice w 3 16 * 2 ^ 48 + b2n (bit
        w 2) * 2 + 1) []).drvDone q w i ((((s.dev.charged q w).set .time_trig_start_start_ns v (n.reg (wA w))).trigCtrlWrite v
        (slice w 3 16 * 2 ^ 48 + b2n (bit w 2) * 2 + 1) []).get .time_trig_ctrl_late v)))) ∧
    (∀ (q : Fin 512) (w i : Nat) (n : Entry) (v : Nat), s.dev.executes q 0x71 w i n v rowTIME_TRIG_CTRL v → (s.dev.flag
        .time_trig_ctrl_enable v = false ∧ (s.dev.get .time_trig_period_width_ns v < 10 ∨ (s.dev.get .time_trig_period_period_ns
        v ≠ 0 ∧ (s.dev.get .time_trig_period_period_ns v < 100 ∨ s.dev.get .time_trig_period_period_ns v ≤ s.dev.get
        .time_trig_period_width_ns v)))) → exec (.dxTrigArm q) s = .next (s.endsX ((((s.dev.charged q w).set
        .time_trig_start_start_ns v (n.reg (wA w))).trigCtrlWrite v (slice w 3 16 * 2 ^ 48 + b2n (bit w 2) * 2 + 1) []).drvFail
        q w i 1))) ∧
    (∀ (q : Fin 512) (w i : Nat) (n : Entry) (v : Nat), s.dev.executes q 0x72 w i n v rowTIME_TRIG_CTRL v → s.dev.flag
        .time_trig_ctrl_enable v = true → exec (.dxTrigOff q) s = .next (s.endsX (((s.dev.charged q w).trigStop v).drvDone q w i
        0))) ∧
    (∀ (q : Fin 512) (w i : Nat) (n : Entry) (v : Nat) (x : Nat × Bool) (r : List (Nat × Bool)), s.dev.executes q 0x73 w i n v
        rowTIME_CAP_NS v → s.dev.cap v = x :: r → exec (.dxCapPop q) s = .next (s.endsX
        (({ (s.dev.charged q w) with caps := s.dev.caps.set v [] r } : Dev).drvDone q w i (x.1 / 4 % 2 ^ 64)))) ∧
    (∀ (q : Fin 512) (w i : Nat) (n : Entry) (v : Nat), s.dev.executes q 0x73 w i n v rowTIME_CAP_NS v → s.dev.cap v = [] → exec
        (.dxCapPop q) s = .next (s.endsX ((s.dev.charged q w).drvDone q w i 0))) ∧
    (∀ (q : Fin 512) (w i : Nat) (n : Entry) (v : Nat), s.dev.executes q 0x80 w i n v rowFMEM_WIN_STATE v → s.dev.opsOpen q
        n.run < 16 → s.dev.mapResult v (n.reg (wA w)) (n.reg (wD w)) = 0 → exec (.dxMemMap q) s = .next
        { s.endsX (((({ ((s.dev.charged q w).mapFrame' v (n.reg (wA w)) (n.reg (wD w))).mapStatus v 0 with ops := s.dev.ops ++ [({ queue := q, entry := n.run, start := i, group := slice w 60 4, key := .memMap v, res := some 0 } : Op)] } : Dev).drvNext q (i + 1)))) with mem := memZero s.mem v }) ∧
    (∀ (q : Fin 512) (w i : Nat) (n : Entry) (v : Nat), s.dev.executes q 0x80 w i n v rowFMEM_WIN_STATE v → s.dev.opsOpen q
        n.run < 16 → (s.dev.mapResult v (n.reg (wA w)) (n.reg (wD w))) ≠ 0 → exec (.dxMemMap q) s = .next (s.endsX
        (({ (((s.dev.charged q w).mapRefused v (slice (n.reg (wA w)) 16 26) (s.dev.mapResult v (n.reg (wA w)) (n.reg (wD w))) (slice (n.reg (wA w)) 0 16)).mapStatus v (s.dev.mapResult v (n.reg (wA w)) (n.reg (wD w)))) with ops := s.dev.ops ++ [({ queue := q, entry := n.run, start := i, group := slice w 60 4, key := .memMap v, res := some (s.dev.mapResult v (n.reg (wA w)) (n.reg (wD w))) } : Op)] }
        : Dev).drvNext q (i + 1)))) ∧
    (∀ (q : Fin 512) (w i : Nat) (n : Entry) (v : Nat), s.dev.executes q 0x81 w i n v rowFMEM_WIN_STATE v → s.dev.opsOpen q
        n.run < 16 → s.dev.frameCmdResult 2 v = 0 → exec (.dxMemUnmap q) s = .next (s.endsX (((s.dev.charged q w).memUnmap
        v).1.starts q w i n (.memUnmap v) none))) ∧
    (∀ (q : Fin 512) (w i : Nat) (n : Entry) (v : Nat), s.dev.executes q 0x82 w i n v rowFMEM_WIN_STATE v → s.dev.opsOpen q
        n.run < 16 → s.dev.frameCmdResult 3 v = 0 → exec (.dxMemResync q) s = .next (s.endsX (((((s.dev.charged q w).set
        .fmem_win_state_state v fsRESYNC).resyncDone v).mapStatus v 0).starts q w i n (.memResync v) (some 0)))) ∧
    (∀ (q : Fin 512) (w i : Nat) (n : Entry) (v : Nat), s.dev.executes q 0x83 w i n v rowFMEM_WIN_STATE v → s.dev.opsOpen q
        n.run < 16 → s.dev.frameCmdResult 4 v = 0 → exec (.dxMemPromote q) s = .next (s.endsX ((((s.dev.charged q w).setMany
        [(.fmem_win_cfg_role, v, 1), (.fmem_win_state_state, v, fsDEGRADED), (.h_fm_hold, v, 0)]).putDirty v [(0, 262144)]
        |>.mapStatus v 0).starts q w i n (.memPromote v) (some 0)))) ∧
    (∀ (q : Fin 512) (w i : Nat) (n : Entry) (v : Nat), s.dev.executes q 0x81 w i n v rowFMEM_WIN_STATE v → s.dev.opsOpen q
        n.run < 16 → s.dev.frameCmdResult 2 v ≠ 0 → exec (.dxMemUnmap q) s = .next (s.endsX (((s.dev.charged q w).memUnmap
        v).1.starts q w i n (.memUnmap v) (some (s.dev.frameCmdResult 2 v))))) ∧
    (∀ (q : Fin 512) (w i : Nat) (n : Entry) (v : Nat), s.dev.executes q 0x82 w i n v rowFMEM_WIN_STATE v → s.dev.opsOpen q
        n.run < 16 → s.dev.frameCmdResult 3 v ≠ 0 → exec (.dxMemResync q) s = .next (s.endsX (((s.dev.charged q w).memResync
        v).1.starts q w i n (.memResync v) (some (s.dev.frameCmdResult 3 v))))) ∧
    (∀ (q : Fin 512) (w i : Nat) (n : Entry) (v : Nat), s.dev.executes q 0x83 w i n v rowFMEM_WIN_STATE v → s.dev.opsOpen q
        n.run < 16 → s.dev.frameCmdResult 4 v ≠ 0 → exec (.dxMemPromote q) s = .next (s.endsX (((s.dev.charged q w).memPromote
        v).1.starts q w i n (.memPromote v) (some (s.dev.frameCmdResult 4 v))))) ∧
    (∀ (q : Fin 512) (w i : Nat) (n : Entry) (v : Nat), s.dev.executes q 0x84 w i n v rowFMEM_WIN_STATE v → exec (.dxMemRead q)
        s = .next (s.endsX ((s.dev.charged q w).drvDone q w i ((s.dev.charged q w).readReg {} rowFMEM_WIN_STATE v)))) ∧
    (∀ (q : Fin 512) (w i : Nat) (n : Entry) (v : Nat), s.dev.executes q 0x90 w i n v rowDMA_CH_STATUS v → s.dev.opsOpen q n.run
        < 16 → s.dev.qAllowed q ocKCL_ADDR (n.reg (wA w)) ((n.reg (wA w)) + 7) false = true ∧ s.dev.chanState v = dcIDLE → exec
        (.dxDmaRun q) s = .next (s.endsX (((s.dev.charged q w).dmaStart v (n.reg (wA w)) (s.dev.qPriv q) q (s.dev.qMap
        q)).starts q w i n (.dmaRun v) none))) ∧
    (∀ (q : Fin 512) (w i : Nat) (n : Entry) (v : Nat), s.dev.executes q 0x90 w i n v rowDMA_CH_STATUS v → s.dev.opsOpen q n.run
        < 16 → s.dev.qAllowed q ocKCL_ADDR (n.reg (wA w)) ((n.reg (wA w)) + 7) false = true ∧ s.dev.chanState v ≠ dcIDLE → exec
        (.dxDmaRun q) s = .next (s.endsX ((s.dev.charged q w).starts q w i n (.dmaRun v) (some 1)))) ∧
    (∀ (q : Fin 512) (w i : Nat) (n : Entry) (v : Nat), s.dev.executes q 0x91 w i n v rowDMA_CH_STATUS v → s.dev.chanState v =
        dcRUNNING → exec (.dxDmaAbort q) s = .next (s.endsX ((((s.dev.charged q w).set .dma_ch_status_cause v hcABORTED).putChan
        v ({ s.dev.chan v with wait := none })).setChanState v dcABORTING |>.drvDone q w i 0))) ∧
    (∀ (q : Fin 512) (w i : Nat) (n : Entry) (v : Nat), s.dev.executes q 0x92 w i n v rowDMA_CH_STATUS v → exec (.dxDmaRead q) s
        = .next (s.endsX ((s.dev.charged q w).drvDone q w i ((s.dev.charged q w).readReg {} rowDMA_CH_STATUS v)))) ∧
    (∀ (q : Fin 512) (w i : Nat) (n : Entry) (v : Nat), s.dev.issues q 0xA0 w i n → s.dev.mayUse q w n v = true → s.dev.opsOpen
        q n.run < 16 → s.dev.progs.getOpt v = none ∧ s.dev.progLoads.getOpt v = none → exec (.dxProgLoad q) s = .next (s.endsX
        ((({ (s.dev.charged q w) with progLoads := s.dev.progLoads.set v none (some ({ queue := q, addr := (n.reg (wA w)) / 8 * 8, mask := slice w 12 8 } : ProgLoad)) }
        : Dev).kread (.progImage v) (reqLOAD (s.dev.qSeq q)) ((n.reg (wA w)) / 8 * 8) 16).starts q w i n (.progLoad v) none))) ∧
    (∀ (q : Fin 512) (w i : Nat) (n : Entry) (v : Nat), s.dev.issues q 0xA0 w i n → s.dev.mayUse q w n v = true → s.dev.opsOpen
        q n.run < 16 → (s.dev.progs.getOpt v).isSome = true → exec (.dxProgLoad q) s = .next (s.endsX ((s.dev.charged q
        w).starts q w i n (.progLoad v) (some 2)))) ∧
    (∀ (handle : Fin 4096) (image : Option (List Word)) (l : ProgLoad) (ws : List Word), s.dev.progLoads.getOpt handle = some l
        ∧ image = some ws → s.dev.progCheck l (some (ws.map (fun (y : Word) => y.toNat))) = 0 → ∃ e, exec (.dxProgLoadDone
        handle image) s = .next (s.endsX e) ∧ ((e.progs.getOpt handle).map (fun (p : Prog) => (p.words, p.budget, p.seqs)) =
        some (((ws.map (fun (y : Word) => y.toNat)).drop 2).take (slice ((ws.map (fun (y : Word) => y.toNat)).getD 0 0) 32 16),
        slice ((ws.map (fun (y : Word) => y.toNat)).getD 0 0) 0 32, l.mask) ∧ e.progLoads.getOpt handle = none) ∧ s.dev.Keeps e
        (([] : List Fld)) ∧ e.rest =
        ({ s.dev with ops := e.ops, reads := e.reads, readWaits := e.readWaits, progs := e.progs, progLoads := e.progLoads, sent := e.sent }
        : Dev).rest) ∧
    (∀ (handle : Fin 4096) (image : Option (List Word)) (l : ProgLoad), s.dev.progLoads.getOpt handle = some l → s.dev.progCheck
        l (image.map (fun (y : List Word) => y.map (fun (z : Word) => z.toNat))) ≠ 0 → ∃ e, exec (.dxProgLoadDone handle image)
        s = .next (s.endsX e) ∧ (e.progs = s.dev.progs ∧ e.progLoads.getOpt handle = none) ∧ s.dev.Keeps e (([] : List Fld)) ∧
        e.rest =
        ({ s.dev with ops := e.ops, reads := e.reads, readWaits := e.readWaits, progs := e.progs, progLoads := e.progLoads, sent := e.sent }
        : Dev).rest) ∧
    (∀ (q : Fin 512) (w i : Nat) (n : Entry) (v : Nat), s.dev.issues q 0xA1 w i n → s.dev.mayUse q w n v = true →
        (s.dev.progs.getOpt v).isSome = true ∧ (s.dev.charged q w).handleRuns v = false → exec (.dxProgUnload q) s = .next
        (s.endsX (({ (s.dev.charged q w) with progs := s.dev.progs.set v none none } : Dev).drvDone q w i 0))) ∧
    (∀ (q : Fin 512) (w i : Nat) (n : Entry) (v : Nat), s.dev.issues q 0xA1 w i n → s.dev.mayUse q w n v = true →
        s.dev.progs.getOpt v = none → exec (.dxProgUnload q) s = .next (s.endsX ((s.dev.charged q w).drvFail q w i 8))) ∧
    (∀ (q : Fin 512) (w i : Nat) (n : Entry) (v : Nat), s.dev.issues q 0xA1 w i n → s.dev.mayUse q w n v = true →
        (s.dev.progs.getOpt v).isSome = true ∧ (s.dev.charged q w).handleRuns v = true → exec (.dxProgUnload q) s = .next
        (s.endsX ((s.dev.charged q w).drvFail q w i 7))) ∧
    (∀ (q : Fin 512) (w i : Nat) (n : Entry), s.dev.issues q 0xA2 w i n → slice w 0 5 ≤ 19 ∧ bit w 5 = true → s.dev.opsOpen q
        n.run < 16 → s.dev.pdBlocker (slice w 0 5) true = none ∧ s.dev.pdOn (slice w 0 5) = false → exec (.dxProgPower q) s =
        .next (s.endsX ((((s.dev.charged q w).putB .sys_pd_status_busy 0 (slice w 0 5) true).putB .h_pd_target 0 (slice w 0 5)
        true).starts q w i n (.power (slice w 0 5) true) none))) ∧
    (∀ (q : Fin 512) (w i : Nat) (n : Entry) (b : Nat), s.dev.issues q 0xA2 w i n → slice w 0 5 ≤ 19 ∧ bit w 5 = true →
        s.dev.opsOpen q n.run < 16 → s.dev.pdBlocker (slice w 0 5) true = some b → exec (.dxProgPower q) s = .next (s.endsX
        (((s.dev.charged q w).raise .PD_DEP_REFUSED s.dev.pathDevice [.h (slice w 0 5), .h 1, .h b, .h (reqQUEUE q)]).starts q w
        i n (.power (slice w 0 5) true) (some 9))))

/-- Control queues: watched lines, starts of entries, completion rings, queue commands. An invalidated head line of an enabled queue
with room, or its consumer line, is read again. After a refresh every head line of an enabled queue with room is among the reads,
those that wait for a place among them. A head line in companion memory read with a valid entry is buffered, head advances (the
phase turns as it wraps) and the next is read; one of another phase, or an error, changes nothing more. A consumer index read is
taken. The head that the sequencer picks starts (Dev.entryBegin): NOP retires OK, INLINE runs its program where the proof pass
accepts it and else ends with PROOF, CALL its handle’s program, proved before for this queue and map, FENCE waits. A malformed
head fails with ENCODING, one whose token is not allowed with PROTECTION, a CALL of a free handle with NO_HANDLE. FENCE retires OK
once nothing its queue started is left. A held record is written while the ring has room, else nothing changes. STOP halts an idle
queue and ends a running entry with STOPPED, RESUME lets a halted one go on, RESET restarts a halted or disabled one (qRestart);
each is refused in other states. MAP_COMMIT of a lawful map installs it where no entry runs, else it waits; of another it is
refused. A write of CSQ_Q_CFG of a disabled queue takes its fields; with enable it is enabled and restarted where its rings lie
inside, else refused; that of an enabled queue with enable and no locked field changed takes the other fields. (R428, R430, R431,
R432, R433, R434, R439, R446, R447, R449, R450, R471) -/
def Obligations.QueuesAndEntries : Prop :=
  ∀ s : State,
    (∀ (l : WatchLine) (q : Fin 512), l = .head q ∧ s.dev.qEn q = true ∧ (s.dev.queue q).buf.length < 8 → exec
        (.queueLineInvalidate l) s = .next (s.ends ((s.dev.dropReads (.head q)).kread (.head q) (reqQUEUE q) (s.dev.headAddr q)
        64 (!s.dev.flag .csq_q_cfg_loc q)))) ∧
    (∀ (l : WatchLine) (q : Fin 512), l = .crHead q ∧ s.dev.qEn q = true → exec (.queueLineInvalidate l) s = .next (s.ends
        ((s.dev.dropReads (.crHead q)).kread (.crHead q) (reqRING q) (s.dev.get .csq_q_cr_head_addr_cr_head_addr q / 64 * 64) 64
        (!s.dev.flag .csq_q_cfg_cr_loc q)))) ∧
    (∃ e, exec (.watchRefresh) s = .next (s.ends e) ∧ (∀ q : Fin 512, (s.dev.qEn q = true ∧ (s.dev.queue q).buf.length < 8) →
        (e.reads ++ e.readWaits.map (fun (y : KRead × Nat) => y.1)).any (fun (r : KRead) => decide (r.purpose = KPurpose.head q)
        && r.addr == s.dev.headAddr q) = true) ∧ s.dev.Keeps e (([] : List Fld)) ∧ e.rest =
        ({ s.dev with reads := e.reads, readWaits := e.readWaits, sent := e.sent } : Dev).rest) ∧
    (∀ (l : WatchLine) (line : Option (Vector Word 8)) (q : Fin 512) (ws : Vector Word 8) (d : Dev), l = .head q ∧
        s.dev.takeRead (.head q) = some d ∧ s.dev.flag .csq_q_cfg_loc q = false → line = some ws ∧ s.dev.qEn q = true ∧
        (s.dev.queue q).buf.length < 8 → (ws.toList.map (fun (y : Word) => y.toNat)).getD 0 0 % 2 = s.dev.get
        .csq_q_status_exp_phase q → exec (.queueLineReadDone l line) s = .next (s.ends ((if ((s.dev.get .csq_q_status_head q +
        1) % 2 ^ s.dev.get .csq_q_cfg_size_log2 q) = 0 then ((d.putQueue q
        ({ s.dev.queue q with buf := (s.dev.queue q).buf ++ [(s.dev.get .csq_q_status_head q, (ws.toList.map (fun (y : Word) => y.toNat)))], began := if (s.dev.queue q).buf.isEmpty = true then s.dev.localNs else (s.dev.queue q).began }
        : Queue)).set .csq_q_status_head q ((s.dev.get .csq_q_status_head q + 1) % 2 ^ s.dev.get .csq_q_cfg_size_log2 q)).set
        .csq_q_status_exp_phase q (1 - s.dev.get .csq_q_status_exp_phase q) else ((d.putQueue q
        ({ s.dev.queue q with buf := (s.dev.queue q).buf ++ [(s.dev.get .csq_q_status_head q, (ws.toList.map (fun (y : Word) => y.toNat)))], began := if (s.dev.queue q).buf.isEmpty = true then s.dev.localNs else (s.dev.queue q).began }
        : Queue)).set .csq_q_status_head q ((s.dev.get .csq_q_status_head q + 1) % 2 ^ s.dev.get .csq_q_cfg_size_log2
        q))).readHead q))) ∧
    (∀ (l : WatchLine) (line : Option (Vector Word 8)) (q : Fin 512) (ws : Vector Word 8) (d : Dev), l = .head q ∧
        s.dev.takeRead (.head q) = some d ∧ s.dev.flag .csq_q_cfg_loc q = false → line = some ws ∧ (ws.toList.map (fun (y :
        Word) => y.toNat)).getD 0 0 % 2 ≠ s.dev.get .csq_q_status_exp_phase q → exec (.queueLineReadDone l line) s = .next
        (s.ends (d))) ∧
    (∀ (l : WatchLine) (line : Option (Vector Word 8)) (q : Fin 512) (d : Dev), l = .head q ∧ s.dev.takeRead (.head q) = some d
        ∧ s.dev.flag .csq_q_cfg_loc q = false → line = none → exec (.queueLineReadDone l line) s = .next (s.ends (d))) ∧
    (∀ (l : WatchLine) (line : Option (Vector Word 8)) (q : Fin 512) (ws : Vector Word 8) (d : Dev), l = .crHead q ∧
        s.dev.takeRead (.crHead q) = some d ∧ s.dev.flag .csq_q_cfg_cr_loc q = false → line = some ws → exec (.queueLineReadDone
        l line) s = .next (s.ends ((d.putQueue q
        ({ s.dev.queue q with crH := (ws.toList.map (fun (y : Word) => y.toNat)).getD ((s.dev.get .csq_q_cr_head_addr_cr_head_addr q) / 8 % 8) 0 }
        : Queue)).set .csq_q_cr_status_cr_head q ((ws.toList.map (fun (y : Word) => y.toNat)).getD ((s.dev.get
        .csq_q_cr_head_addr_cr_head_addr q) / 8 % 8) 0)))) ∧
    (∀ (q : Fin 512) (j : Nat) (ws : List Nat), s.dev.qHead q (s.dev.queue q) = some (j, ws) → entBad (ws.getD 0 0) = false ∧
        s.dev.entTokenBad q (ws.getD 0 0) = none ∧ s.dev.fallbackOn = false ∧ s.dev.seqPick (s.dev.qSeq q) = some q.val →
        entKind (ws.getD 0 0) = 0 → exec (.entryStart q) s = .next (s.endsX ((s.dev.entryBegin q j ws (List.replicate 16 0) []
        0).endRun q { status := stOK }))) ∧
    (∀ (q : Fin 512) (j : Nat) (ws : List Nat), s.dev.qHead q (s.dev.queue q) = some (j, ws) → entBad (ws.getD 0 0) = false ∧
        s.dev.entTokenBad q (ws.getD 0 0) = none ∧ s.dev.fallbackOn = false ∧ s.dev.seqPick (s.dev.qSeq q) = some q.val →
        entKind (ws.getD 0 0) = 3 → exec (.entryStart q) s = .next (s.endsX (s.dev.entryBegin q j ws (List.replicate 16 0) []
        0))) ∧
    (∀ (q : Fin 512) (j : Nat) (ws : List Nat), s.dev.qHead q (s.dev.queue q) = some (j, ws) → entBad (ws.getD 0 0) = false ∧
        s.dev.entTokenBad q (ws.getD 0 0) = none ∧ s.dev.fallbackOn = false ∧ s.dev.seqPick (s.dev.qSeq q) = some q.val →
        entKind (ws.getD 0 0) = 2 ∧ proofPass ((ws.drop 2).take (entOperand (ws.getD 0 0))) (s.dev.qPriv q) (s.dev.qMap q)
        (s.dev.get .csq_q_cfg_inline_budget q) = none → exec (.entryStart q) s = .next (s.endsX (s.dev.entryBegin q j ws
        (List.replicate 16 0) ((ws.drop 2).take (entOperand (ws.getD 0 0))) (s.dev.get .csq_q_cfg_inline_budget q)))) ∧
    (∀ (q : Fin 512) (j : Nat) (ws : List Nat) (p : Prog), s.dev.qHead q (s.dev.queue q) = some (j, ws) → entBad (ws.getD 0 0) =
        false ∧ s.dev.entTokenBad q (ws.getD 0 0) = none ∧ s.dev.fallbackOn = false ∧ s.dev.seqPick (s.dev.qSeq q) = some q.val
        → entKind (ws.getD 0 0) = 1 ∧ s.dev.qAllowed q ocHANDLE (entOperand (ws.getD 0 0)) (entOperand (ws.getD 0 0)) true =
        true → s.dev.progs.getOpt (entOperand (ws.getD 0 0)) = some p ∧ bit p.seqs (s.dev.qSeq q) = true ∧ p.queue = q ∧ p.gen =
        s.dev.get .csq_q_status_map_gen q → exec (.entryStart q) s = .next (s.endsX (s.dev.entryBegin q j ws (0 :: (ws.drop
        2).take 6 ++ List.replicate 9 0) p.words p.budget))) ∧
    (∀ (q : Fin 512) (j : Nat) (ws : List Nat), s.dev.qHead q (s.dev.queue q) = some (j, ws) → entBad (ws.getD 0 0) = true →
        exec (.entryStart q) s = .next (s.endsX (s.dev.headFails q j ws { status := stENCODING }))) ∧
    (∀ (q : Fin 512) (j : Nat) (ws : List Nat) (pc code : Nat), s.dev.qHead q (s.dev.queue q) = some (j, ws) → entBad (ws.getD 0
        0) = false ∧ s.dev.entTokenBad q (ws.getD 0 0) = none ∧ s.dev.fallbackOn = false ∧ s.dev.seqPick (s.dev.qSeq q) = some
        q.val → entKind (ws.getD 0 0) = 2 ∧ proofPass ((ws.drop 2).take (entOperand (ws.getD 0 0))) (s.dev.qPriv q) (s.dev.qMap
        q) (s.dev.get .csq_q_cfg_inline_budget q) = some (pc, code) → exec (.entryStart q) s = .next (s.endsX ((s.dev.entryBegin
        q j ws (List.replicate 16 0) ((ws.drop 2).take (entOperand (ws.getD 0 0))) (s.dev.get .csq_q_cfg_inline_budget
        q)).endRun q { status := stPROOF, pc := pc, detail := code }))) ∧
    (∀ (q : Fin 512) (j : Nat) (ws : List Nat) (k : Nat), s.dev.qHead q (s.dev.queue q) = some (j, ws) → entBad (ws.getD 0 0) =
        false ∧ s.dev.entTokenBad q (ws.getD 0 0) = some k → exec (.entryStart q) s = .next (s.endsX (s.dev.headFails q j ws
        (protEnd ocTOKEN k)))) ∧
    (∀ (q : Fin 512) (j : Nat) (ws : List Nat), s.dev.qHead q (s.dev.queue q) = some (j, ws) → entBad (ws.getD 0 0) = false ∧
        s.dev.entTokenBad q (ws.getD 0 0) = none ∧ s.dev.fallbackOn = false ∧ s.dev.seqPick (s.dev.qSeq q) = some q.val →
        entKind (ws.getD 0 0) = 1 ∧ s.dev.qAllowed q ocHANDLE (entOperand (ws.getD 0 0)) (entOperand (ws.getD 0 0)) true = true
        → s.dev.progs.getOpt (entOperand (ws.getD 0 0)) = none → exec (.entryStart q) s = .next (s.endsX (s.dev.headFails q j ws
        { status := stNO_HANDLE }))) ∧
    (∀ (q : Fin 512) (y : Entry), (s.dev.queue q).run = some y ∧ entKind (y.words.getD 0 0) = 3 ∧ s.dev.queueBusy q = false →
        exec (.fenceEntryRetire q) s = .next (s.ends (s.dev.endRun q { status := stOK }))) ∧
    (∀ (q : Fin 512) (r : CRec), (s.dev.queue q).held = [r] ∧ s.dev.crFull q = false → exec (.cringHoldFlush q) s = .next
        (s.ends ((s.dev.putQueue q ({ s.dev.queue q with held := [] } : Queue)).crWrite q r))) ∧
    (∀ (q : Fin 512), s.dev.crFull q = true → exec (.cringHoldFlush q) s = .next (s.ends (s.dev))) ∧
    (∀ (m : Mark) (q : Fin 512), s.dev.accepts (.csqQCmdNop m q) = true → exec (.csqQCmdNop m q) s = .next (s.ends (s.dev).ok)) ∧
    (∀ (m : Mark) (q : Fin 512), s.dev.accepts (.csqQCmdStop m q) = true → (s.dev.qStateOf q (s.dev.queue q) = 1 ∨
        s.dev.qStateOf q (s.dev.queue q) = 2) → exec (.csqQCmdStop m q) s = .next (s.ends (s.dev.putQueue q
        ({ s.dev.queue q with halted := true } : Queue)).ok)) ∧
    (∀ (m : Mark) (q : Fin 512), s.dev.accepts (.csqQCmdStop m q) = true → s.dev.qStateOf q (s.dev.queue q) = 3 → exec
        (.csqQCmdStop m q) s = .next (s.ends (s.dev.endRun q { status := stSTOPPED }).ok)) ∧
    (∀ (m : Mark) (q : Fin 512), s.dev.accepts (.csqQCmdStop m q) = true → (s.dev.qStateOf q (s.dev.queue q) = 0 ∨
        s.dev.qStateOf q (s.dev.queue q) = 4) → exec (.csqQCmdStop m q) s = .next (s.ends (s.dev.raise .CSQ_CFG_REFUSED
        (s.dev.pathDevice ucSEQUENCER (s.dev.qSeq q)) [] (s.dev.qJob q)).ok)) ∧
    (∀ (m : Mark) (q : Fin 512), s.dev.accepts (.csqQCmdResume m q) = true → s.dev.qStateOf q (s.dev.queue q) = 4 → exec
        (.csqQCmdResume m q) s = .next (s.ends (s.dev.putQueue q ({ s.dev.queue q with halted := false } : Queue)).ok)) ∧
    (∀ (m : Mark) (q : Fin 512), s.dev.accepts (.csqQCmdResume m q) = true → s.dev.qStateOf q (s.dev.queue q) ≠ 4 → exec
        (.csqQCmdResume m q) s = .next (s.ends (s.dev.raise .CSQ_CFG_REFUSED (s.dev.pathDevice ucSEQUENCER (s.dev.qSeq q)) []
        (s.dev.qJob q)).ok)) ∧
    (∀ (m : Mark) (q : Fin 512), s.dev.accepts (.csqQCmdReset m q) = true → (s.dev.qStateOf q (s.dev.queue q) = 4 ∨
        s.dev.qStateOf q (s.dev.queue q) = 0) → exec (.csqQCmdReset m q) s = .next (s.ends (s.dev.qRestart q).ok)) ∧
    (∀ (m : Mark) (q : Fin 512), s.dev.accepts (.csqQCmdReset m q) = true → s.dev.qStateOf q (s.dev.queue q) ≠ 4 ∧
        s.dev.qStateOf q (s.dev.queue q) ≠ 0 → exec (.csqQCmdReset m q) s = .next (s.ends (s.dev.raise .CSQ_CFG_REFUSED
        (s.dev.pathDevice ucSEQUENCER (s.dev.qSeq q)) [] (s.dev.qJob q)).ok)) ∧
    (∀ (m : Mark) (q : Fin 512), s.dev.accepts (.csqQCmdMapCommit m q) = true → mapValid (s.dev.stagedMap q) = true ∧
        (s.dev.queue q).run ≠ none → exec (.csqQCmdMapCommit m q) s = .next (s.ends (s.dev.putQueue q
        ({ s.dev.queue q with pend := some (s.dev.stagedMap q) } : Queue)).ok)) ∧
    (∀ (m : Mark) (q : Fin 512), s.dev.accepts (.csqQCmdMapCommit m q) = true → mapValid (s.dev.stagedMap q) = true ∧
        (s.dev.queue q).run = none → ∃ e, exec (.csqQCmdMapCommit m q) s = .next (s.ends e) ∧ ((∀ k : Fin 64, e.get
        .csq_q_pmap_active_word (64 * q + k) = s.dev.get .csq_q_pmap_stage_word (64 * q + k) % 2 ^ 64) ∧ e.get
        .csq_q_status_map_pending q = 0) ∧ s.dev.Keeps e (([.csq_q_status_map_gen, .csq_q_status_state,
        .csq_q_status_map_pending, .csq_q_status_buffered, .csq_q_cr_status_held, .csq_q_pmap_active_word] : List Fld)) ∧ e.rest
        = ({ s.dev with queues := e.queues, sent := e.sent } : Dev).rest) ∧
    (∀ (m : Mark) (q : Fin 512), s.dev.accepts (.csqQCmdMapCommit m q) = true → mapValid (s.dev.stagedMap q) = false → exec
        (.csqQCmdMapCommit m q) s = .next (s.ends (s.dev.raise .CSQ_CFG_REFUSED (s.dev.pathDevice ucSEQUENCER (s.dev.qSeq q)) []
        (s.dev.qJob q)).ok)) ∧
    (∀ (m : Mark) (q : Fin 512) (v : Word), s.dev.accepts (.csqQCfgWrite m q v) = true → s.dev.qEn q = false ∧ bit v.toNat 0 =
        true → (s.dev.writeFields rowCSQ_Q_CFG q v.toNat [0]).ringsInside q = true → ∃ e, exec (.csqQCfgWrite m q v) s = .next
        (s.ends e) ∧ (e.get .csq_q_cfg_enable q = 1 ∧ e.get .csq_q_status_head q = 0 ∧ e.get .csq_q_status_exp_phase q = 1 ∧
        (e.queue q).buf = []) ∧ s.dev.Keeps e (([.csq_q_cfg_job_tag, .csq_q_cfg_inline_budget, .csq_q_cfg_cr_size_log2,
        .csq_q_cfg_size_log2, .csq_q_cfg_cr_loc, .csq_q_cfg_loc, .csq_q_cfg_prio, .csq_q_cfg_seq, .csq_q_cfg_privilege,
        .csq_q_cfg_enable, .csq_q_status_head, .csq_q_status_exp_phase, .csq_q_status_state, .csq_q_status_map_pending,
        .csq_q_status_buffered, .csq_q_cr_status_cr_tail, .csq_q_cr_status_cr_head, .csq_q_cr_status_cr_phase,
        .csq_q_cr_status_held] : List Fld)) ∧ e.rest =
        ({ s.dev with keep := e.keep, reads := e.reads, readWaits := e.readWaits, queues := e.queues, sent := e.sent } :
        Dev).rest) ∧
    (∀ (m : Mark) (q : Fin 512) (v : Word), s.dev.accepts (.csqQCfgWrite m q v) = true → s.dev.qEn q = false ∧ bit v.toNat 0 =
        false → exec (.csqQCfgWrite m q v) s = .next (s.ends (s.dev.writeFields rowCSQ_Q_CFG q v.toNat [0]).ok)) ∧
    (∀ (m : Mark) (q : Fin 512) (v : Word), s.dev.accepts (.csqQCfgWrite m q v) = true → s.dev.qEn q = false ∧ bit v.toNat 0 =
        true → (s.dev.writeFields rowCSQ_Q_CFG q v.toNat [0]).ringsInside q = false → exec (.csqQCfgWrite m q v) s = .next
        (s.ends ((s.dev.writeFields rowCSQ_Q_CFG q v.toNat [0]).qRecord q .CSQ_CFG_REFUSED).ok)) ∧
    (∀ (m : Mark) (q : Fin 512) (v : Word), s.dev.accepts (.csqQCfgWrite m q v) = true → s.dev.qEn q = true ∧ bit v.toNat 0 =
        true → (∀ y ∈ lockedFields, slice v.toNat y.1 y.2.1 = s.dev.get y.2.2 q) → exec (.csqQCfgWrite m q v) s = .next (s.ends
        ((s.dev.writeFields rowCSQ_Q_CFG q v.toNat (lockedFields.map (fun (y : Nat × Nat × Fld) => y.1))).putQueue q
        (s.dev.queue q)).ok))

/-- DMA channels: channel commands and the instructions of a program. NOP changes nothing. RUN starts the program at DMA_CH_PROG on an
idle channel (dmaStart) and is refused on another. RESUME of a halted channel clears its cause and goes on at the restart point of
its MOVE or at its instruction, serving bursts (dmaServe); else it is refused. ABORT of a RUNNING or WAITING channel makes it
ABORTING with cause ABORTED, of a HALTED one with its own cause; else it is refused. The other clauses but the last two kinds are
about a running channel without a halt, MOVE or END, whose next instruction may be read over the KCL; the read is sent. A MOVE
that passes its checks (moveOk) is held and bursts of the channels are issued (dmaServe); one whose companion source passes 2^64
halts with RANGE. LOOP inside at most one LOOP whose body holds its own opens its body and goes on; in two it halts with ENCODING.
WAIT is noted with its operands and the time, and Dev.dmaWaitDone looks whether it holds; on a token the map does not allow it
halts with PROTECTION. SIGNAL signals its token or pulses its event line and goes on. END is noted. Words in no layout halt with
ENCODING, a failed fetch with FETCH, whichever command brings them (dmaEnd here). A program in queue SRAM is read there, without a
read over the KCL (here END). A blocked WAIT whose token has its count, its turn come, takes it and goes on, one whose event line
pulsed goes on; one that does not hold when its limit expires halts with WAIT_LIMIT. (R473, R474, R475, R476, R477, R478, R479,
R481, R482, R483, R484, R486) -/
def Obligations.DmaInstructions : Prop :=
  ∀ s : State,
    (∀ (m : Mark) (chan : Fin 32), s.dev.accepts (.dmaCmdNop m chan) = true → exec (.dmaCmdNop m chan) s = .next (s.ends
        (s.dev).ok)) ∧
    (∀ (m : Mark) (chan : Fin 32), s.dev.accepts (.dmaCmdRun m chan) = true → s.dev.chanState chan = dcIDLE → exec (.dmaCmdRun m
        chan) s = .next (s.ends (s.dev.dmaStart chan (s.dev.get .dma_ch_prog_prog chan) privFABRIC 0xFFFF []).ok)) ∧
    (∀ (m : Mark) (chan : Fin 32), s.dev.accepts (.dmaCmdRun m chan) = true → s.dev.chanState chan ≠ dcIDLE → exec (.dmaCmdRun m
        chan) s = .next (s.ends (s.dev.raise .DMA_CFG_REFUSED (s.dev.pathDevice ucDMA_CHANNEL chan)).ok)) ∧
    (∀ (m : Mark) (chan : Fin 32), s.dev.accepts (.dmaCmdResume m chan) = true → s.dev.chanState chan = dcHALTED → exec
        (.dmaCmdResume m chan) s = .next (s.ends (((s.dev.putChan chan
        ({ s.dev.chan chan with fault := none, wait := none, move := (s.dev.chan chan).move.map (fun (y : DmaMove) => { y with next := y.restart, bursts := [] }) }
        : DmaChan)).setMany [(.dma_ch_status_cause, chan, 0), (.dma_ch_status_state, chan, dcRUNNING)]).dmaServe dmaRounds).ok)) ∧
    (∀ (m : Mark) (chan : Fin 32), s.dev.accepts (.dmaCmdResume m chan) = true → s.dev.chanState chan ≠ dcHALTED → exec
        (.dmaCmdResume m chan) s = .next (s.ends (s.dev.raise .DMA_CFG_REFUSED (s.dev.pathDevice ucDMA_CHANNEL chan)).ok)) ∧
    (∀ (m : Mark) (chan : Fin 32), s.dev.accepts (.dmaCmdAbort m chan) = true → (s.dev.chanState chan = dcRUNNING ∨
        s.dev.chanState chan = dcWAITING) → exec (.dmaCmdAbort m chan) s = .next (s.ends (((s.dev.set .dma_ch_status_cause chan
        hcABORTED).putChan chan ({ s.dev.chan chan with wait := none } : DmaChan)).setChanState chan dcABORTING).ok)) ∧
    (∀ (m : Mark) (chan : Fin 32), s.dev.accepts (.dmaCmdAbort m chan) = true → s.dev.chanState chan = dcHALTED → exec
        (.dmaCmdAbort m chan) s = .next (s.ends ((s.dev.putChan chan ({ s.dev.chan chan with wait := none } :
        DmaChan)).setChanState chan dcABORTING).ok)) ∧
    (∀ (m : Mark) (chan : Fin 32), s.dev.accepts (.dmaCmdAbort m chan) = true → (s.dev.chanState chan = dcIDLE ∨ s.dev.chanState
        chan = dcABORTING) → exec (.dmaCmdAbort m chan) s = .next (s.ends (s.dev.raise .DMA_CFG_REFUSED (s.dev.pathDevice
        ucDMA_CHANNEL chan)).ok)) ∧
    (∀ (chan : Fin 32) (fetch : Option (Vector Word 4)) (ws : Vector Word 4), fetch = some ws ∧ s.dev.chanReady chan →
        dmaEncodes (ws.toList.map (fun (y : Word) => y.toNat)) = true ∧ slice ((ws.toList.map (fun (y : Word) => y.toNat)).getD
        0 0) 60 4 = 1 → s.dev.moveOk chan (s.dev.moveOf chan (ws.toList.map (fun (y : Word) => y.toNat))) = true → exec
        (.dmaMove chan fetch) s = .next (s.ends (((s.dev.emit (.kclRead (reqDMA chan) (s.dev.dmaPcAddr chan) 32)).putChan chan
        ({ s.dev.chan chan with move := some (s.dev.moveOf chan (ws.toList.map (fun (y : Word) => y.toNat))) } :
        DmaChan)).dmaServe dmaRounds))) ∧
    (∀ (chan : Fin 32) (fetch : Option (Vector Word 4)) (ws : Vector Word 4), fetch = some ws ∧ s.dev.chanReady chan →
        dmaEncodes (ws.toList.map (fun (y : Word) => y.toNat)) = true ∧ slice ((ws.toList.map (fun (y : Word) => y.toNat)).getD
        0 0) 60 4 = 1 → (s.dev.moveOf chan (ws.toList.map (fun (y : Word) => y.toNat))).srcSp = spKCL ∧ 2 ^ 64 < (s.dev.moveOf
        chan (ws.toList.map (fun (y : Word) => y.toNat))).src + (s.dev.moveOf chan (ws.toList.map (fun (y : Word) =>
        y.toNat))).len → exec (.dmaMove chan fetch) s = .next (s.ends ((s.dev.emit (.kclRead (reqDMA chan) (s.dev.dmaPcAddr
        chan) 32)).dmaHalt chan
        { cause := hcRANGE, addr := (s.dev.moveOf chan (ws.toList.map (fun (y : Word) => y.toNat))).src, space := 0, dir := 0 }))) ∧
    (∀ (chan : Fin 32) (fetch : Option (Vector Word 4)) (ws : Vector Word 4), fetch = some ws ∧ s.dev.chanReady chan →
        dmaEncodes (ws.toList.map (fun (y : Word) => y.toNat)) = true ∧ slice ((ws.toList.map (fun (y : Word) => y.toNat)).getD
        0 0) 60 4 = 2 → (s.dev.chan chan).loops.length < 2 ∧ ∀ y ∈ (s.dev.chan chan).loops, s.dev.chanPc chan + slice
        ((ws.toList.map (fun (y : Word) => y.toNat)).getD 0 0) 0 8 ≤ y.last → exec (.dmaLoop chan fetch) s = .next (s.ends
        (((s.dev.emit (.kclRead (reqDMA chan) (s.dev.dmaPcAddr chan) 32)).putChan chan
        ({ s.dev.chan chan with loops := ({ first := s.dev.chanPc chan + 1, last := s.dev.chanPc chan + slice ((ws.toList.map (fun (y : Word) => y.toNat)).getD 0 0) 0 8, count := slice ((ws.toList.map (fun (y : Word) => y.toNat)).getD 0 0) 32 16, src := sgn 64 ((ws.toList.map (fun (y : Word) => y.toNat)).getD 1 0), dst := sgn 64 ((ws.toList.map (fun (y : Word) => y.toNat)).getD 2 0) } : DmaLoop) :: (s.dev.chan chan).loops }
        : DmaChan)).dmaNext chan (s.dev.chanPc chan + 1)))) ∧
    (∀ (chan : Fin 32) (fetch : Option (Vector Word 4)) (ws : Vector Word 4), fetch = some ws ∧ s.dev.chanReady chan →
        dmaEncodes (ws.toList.map (fun (y : Word) => y.toNat)) = true ∧ slice ((ws.toList.map (fun (y : Word) => y.toNat)).getD
        0 0) 60 4 = 2 → (s.dev.chan chan).loops.length = 2 → exec (.dmaLoop chan fetch) s = .next (s.ends ((s.dev.emit (.kclRead
        (reqDMA chan) (s.dev.dmaPcAddr chan) 32)).dmaHaltAt chan hcENCODING))) ∧
    (∀ (chan : Fin 32) (fetch : Option (Vector Word 4)) (ws : Vector Word 4), fetch = some ws ∧ s.dev.chanReady chan →
        dmaEncodes (ws.toList.map (fun (y : Word) => y.toNat)) = true ∧ slice ((ws.toList.map (fun (y : Word) => y.toNat)).getD
        0 0) 58 6 = 12 → objAllowed (s.dev.chan chan).priv (s.dev.chan chan).pmap ocTOKEN (slice ((ws.toList.map (fun (y : Word)
        => y.toNat)).getD 0 0) 16 16) (slice ((ws.toList.map (fun (y : Word) => y.toNat)).getD 0 0) 16 16) true = false → exec
        (.dmaWaitToken chan fetch) s = .next (s.ends ((s.dev.emit (.kclRead (reqDMA chan) (s.dev.dmaPcAddr chan) 32)).dmaHaltAt
        chan hcPROTECTION))) ∧
    (∀ (chan : Fin 32) (fetch : Option (Vector Word 4)) (ws : Vector Word 4), fetch = some ws ∧ s.dev.chanReady chan →
        dmaEncodes (ws.toList.map (fun (y : Word) => y.toNat)) = true ∧ slice ((ws.toList.map (fun (y : Word) => y.toNat)).getD
        0 0) 58 6 = 12 → objAllowed (s.dev.chan chan).priv (s.dev.chan chan).pmap ocTOKEN (slice ((ws.toList.map (fun (y : Word)
        => y.toNat)).getD 0 0) 16 16) (slice ((ws.toList.map (fun (y : Word) => y.toNat)).getD 0 0) 16 16) true = true → exec
        (.dmaWaitToken chan fetch) s = .next (s.ends ((((s.dev.emit (.kclRead (reqDMA chan) (s.dev.dmaPcAddr chan) 32)).putChan
        chan
        ({ s.dev.chan chan with wait := some ({ mode := 0, tok := slice ((ws.toList.map (fun (y : Word) => y.toNat)).getD 0 0) 16 16, n := slice ((ws.toList.map (fun (y : Word) => y.toNat)).getD 0 0) 8 8, since := s.dev.localNs, limit := slice ((ws.toList.map (fun (y : Word) => y.toNat)).getD 0 0) 32 16 } : WaitSt), hit := false }
        : DmaChan)).setChanState chan dcWAITING).dmaWaitDone chan))) ∧
    (∀ (chan : Fin 32) (fetch : Option (Vector Word 4)) (ws : Vector Word 4), fetch = some ws ∧ s.dev.chanReady chan →
        dmaEncodes (ws.toList.map (fun (y : Word) => y.toNat)) = true ∧ slice ((ws.toList.map (fun (y : Word) => y.toNat)).getD
        0 0) 58 6 = 13 → exec (.dmaWaitEvent chan fetch) s = .next (s.ends ((((s.dev.emit (.kclRead (reqDMA chan)
        (s.dev.dmaPcAddr chan) 32)).putChan chan
        ({ s.dev.chan chan with wait := some ({ mode := 1, tok := slice ((ws.toList.map (fun (y : Word) => y.toNat)).getD 0 0) 16 16, n := slice ((ws.toList.map (fun (y : Word) => y.toNat)).getD 0 0) 8 8, since := s.dev.localNs, limit := slice ((ws.toList.map (fun (y : Word) => y.toNat)).getD 0 0) 32 16 } : WaitSt), hit := false }
        : DmaChan)).setChanState chan dcWAITING).dmaWaitDone chan))) ∧
    (∀ (chan : Fin 32) (y : WaitSt), (s.dev.chan chan).wait = some y ∧ s.dev.chanState chan = dcWAITING ∧ (s.dev.chan
        chan).fault = none → y.mode = 0 ∧ y.n ≤ s.dev.get .csq_token_count y.tok ∧ s.dev.tokTurn y.tok y.since (512 + chan.val)
        = true → exec (.dmaWaitSatisfied chan) s = .next (s.ends ((s.dev.takeTok y.tok y.n).dmaNext chan (s.dev.chanPc chan +
        1)))) ∧
    (∀ (chan : Fin 32) (y : WaitSt), (s.dev.chan chan).wait = some y ∧ s.dev.chanState chan = dcWAITING ∧ (s.dev.chan
        chan).fault = none → y.mode = 1 ∧ (s.dev.chan chan).hit = true → exec (.dmaWaitSatisfied chan) s = .next (s.ends
        (s.dev.dmaNext chan (s.dev.chanPc chan + 1)))) ∧
    (∀ (chan : Fin 32) (y : WaitSt), (s.dev.chan chan).wait = some y ∧ s.dev.dmaWaitHolds chan y = false → exec (.dmaWaitLimit
        chan) s = .next (s.ends (s.dev.dmaHaltAt chan hcWAIT_LIMIT))) ∧
    (∀ (chan : Fin 32) (fetch : Option (Vector Word 4)) (ws : Vector Word 4), fetch = some ws ∧ s.dev.chanReady chan →
        dmaEncodes (ws.toList.map (fun (y : Word) => y.toNat)) = true ∧ slice ((ws.toList.map (fun (y : Word) => y.toNat)).getD
        0 0) 58 6 = 16 → objAllowed (s.dev.chan chan).priv (s.dev.chan chan).pmap ocTOKEN (slice ((ws.toList.map (fun (y : Word)
        => y.toNat)).getD 0 0) 16 16) (slice ((ws.toList.map (fun (y : Word) => y.toNat)).getD 0 0) 16 16) true = true → exec
        (.dmaSignalToken chan fetch) s = .next (s.ends (((s.dev.emit (.kclRead (reqDMA chan) (s.dev.dmaPcAddr chan)
        32)).signalTok (slice ((ws.toList.map (fun (y : Word) => y.toNat)).getD 0 0) 16 16) (slice ((ws.toList.map (fun (y :
        Word) => y.toNat)).getD 0 0) 8 8)).dmaNext chan (s.dev.chanPc chan + 1)))) ∧
    (∀ (chan : Fin 32) (fetch : Option (Vector Word 4)) (ws : Vector Word 4), fetch = some ws ∧ s.dev.chanReady chan →
        dmaEncodes (ws.toList.map (fun (y : Word) => y.toNat)) = true ∧ slice ((ws.toList.map (fun (y : Word) => y.toNat)).getD
        0 0) 58 6 = 17 → exec (.dmaSignalEvent chan fetch) s = .next (s.ends (((s.dev.emit (.kclRead (reqDMA chan)
        (s.dev.dmaPcAddr chan) 32)).eventPulse (slice ((ws.toList.map (fun (y : Word) => y.toNat)).getD 0 0) 16 16)).dmaNext
        chan (s.dev.chanPc chan + 1)))) ∧
    (∀ (chan : Fin 32) (fetch : Option (Vector Word 4)) (ws : Vector Word 4), fetch = some ws ∧ s.dev.chanReady chan →
        dmaEncodes (ws.toList.map (fun (y : Word) => y.toNat)) = true ∧ slice ((ws.toList.map (fun (y : Word) => y.toNat)).getD
        0 0) 60 4 = 0 → exec (.dmaEnd chan fetch) s = .next (s.ends ((s.dev.emit (.kclRead (reqDMA chan) (s.dev.dmaPcAddr chan)
        32)).putChan chan ({ s.dev.chan chan with ended := true } : DmaChan)))) ∧
    (∀ (chan : Fin 32) (fetch : Option (Vector Word 4)) (ws : Vector Word 4), fetch = some ws ∧ s.dev.chanReady chan →
        dmaEncodes (ws.toList.map (fun (y : Word) => y.toNat)) = false → exec (.dmaEnd chan fetch) s = .next (s.ends
        ((s.dev.emit (.kclRead (reqDMA chan) (s.dev.dmaPcAddr chan) 32)).dmaHaltAt chan hcENCODING))) ∧
    (∀ (chan : Fin 32) (fetch : Option (Vector Word 4)), fetch = none ∧ s.dev.chanReady chan → exec (.dmaEnd chan fetch) s =
        .next (s.ends ((s.dev.emit (.kclRead (reqDMA chan) (s.dev.dmaPcAddr chan) 32)).dmaHaltAt chan hcFETCH))) ∧
    (∀ (chan : Fin 32) (fetch : Option (Vector Word 4)), s.dev.chanState chan = dcRUNNING ∧ (s.dev.chan chan).fault = none ∧
        (s.dev.chan chan).move = none ∧ (s.dev.chan chan).ended = false ∧ (s.dev.chan chan).qsram = true → s.dev.dmaPcAddr chan
        + 32 ≤ 2 ^ 20 ∧ dmaEncodes ((List.range 4).map (fun (y : Nat) => leNat (s.dev.qsramBytes (s.dev.dmaPcAddr chan + 8 * y)
        8))) = true ∧ slice (((List.range 4).map (fun (y : Nat) => leNat (s.dev.qsramBytes (s.dev.dmaPcAddr chan + 8 * y)
        8))).getD 0 0) 60 4 = 0 → exec (.dmaEnd chan fetch) s = .next (s.ends (s.dev.putChan chan
        ({ s.dev.chan chan with ended := true } : DmaChan))))

/-- DMA channels: bursts, ends of programs, halts and aborts. After each burst response further bursts of the channels are issued
while their places are free (dmaServe), and a MOVE whose bursts are complete ends (dmaMoveEnd). On a running channel, the data of
a companion read, of the length read, goes out as companion writes of the runs its shuffle gives (DmaMove.writes), each at its
offset from the destination; where they are one run for fabric memory in a frame that can take it and is no half of a pair, that
run is written there, counted, and no other byte of memory changes. The answer of a companion write completes its burst. An error
completion of a companion read halts the channel with READ_ERROR at the source address of the burst, one of a companion write with
WRITE_ERROR at its destination address. A program that reached END, with no MOVE at work, ends with result 0 and the channel is
IDLE. A halt whose last response has come latches its cause and address and leaves the channel HALTED at its pc with halt_mode 0;
with halt_mode 1 the channel is IDLE and empty, its result 16 + cause; while responses are outstanding nothing changes. An
aborting channel without outstanding responses ends its program with 16 + its cause and is IDLE. (R381, R473, R478, R480, R481,
R482, R483, R484) -/
def Obligations.DmaBurstsAndEnds : Prop :=
  ∀ s : State,
    (∀ (chan : Fin 32) (burst : BitVec 32) (data : Option (List Byte)) (corr bad : List (BitVec 39)) (x : DmaMove) (bs : List
        Byte), (s.dev.chan chan).move = some x ∧ x.bursts.find? (fun (b : Nat × Nat) => b.1 == burst.toNat) = some (burst.toNat,
        0) → x.srcSp = spKCL ∧ x.dstSp = spKCL ∧ s.dev.chanState chan = dcRUNNING → data = some bs ∧ bs.length = x.size
        burst.toNat ∧ x.writes burst.toNat (bs.map (fun (y : Byte) => y.toNat)) ≠ [] → exec (.dmaBurstResponse chan burst data
        corr bad) s = .next (s.endsX (((((x.writes burst.toNat (bs.map (fun (y : Byte) => y.toNat))).foldl (fun (d : Dev) (r :
        Nat × List Nat) => d.emit (.kclWrite (reqDMA chan) ((x.dst + r.1) % 2 ^ 64) r.2)) (s.dev.dropReads (.dmaBurst chan
        burst.toNat))).burstPhase chan burst.toNat 1).dmaServe dmaRounds).dmaMoveEnd chan))) ∧
    (∀ (chan : Fin 32) (burst : BitVec 32) (data : Option (List Byte)) (corr bad : List (BitVec 39)) (x : DmaMove) (bs : List
        Byte) (o : Nat) (os : List Nat), (s.dev.chan chan).move = some x ∧ x.bursts.find? (fun (b : Nat × Nat) => b.1 ==
        burst.toNat) = some (burst.toNat, 0) → x.srcSp = spKCL ∧ x.dstSp = spFMEM ∧ s.dev.chanState chan = dcRUNNING → data =
        some bs ∧ bs.length = x.size burst.toNat ∧ x.writes burst.toNat (bs.map (fun (y : Byte) => y.toNat)) = [(o, os)] →
        s.dev.dmaMemStatus true x.dst true = msOK ∧ s.dev.frole ((s.dev.winHolder (faWindow x.dst)).getD 0) = 0 ∧
        s.dev.chanFailed ((s.dev.winHolder (faWindow x.dst)).getD 0 * 2 ^ 30 + faOffset x.dst + o) os.length = false → exec
        (.dmaBurstResponse chan burst data corr bad) s = .next
        { s.endsX (((((s.dev.dropReads (.dmaBurst chan burst.toNat)).memBytes .MEM_WR_BYTES ((s.dev.winHolder (faWindow x.dst)).getD 0 * 2 ^ 30 + (faOffset x.dst + o)) os.length).burstPhase chan burst.toNat 1).dmaServe dmaRounds).dmaMoveEnd chan) with mem := memWrite s.mem ((s.dev.winHolder (faWindow x.dst)).getD 0 * 2 ^ 30 + (faOffset x.dst + o)) os }) ∧
    (∀ (chan : Fin 32) (burst : BitVec 32) (data : Option (List Byte)) (corr bad : List (BitVec 39)) (x : DmaMove), (s.dev.chan
        chan).move = some x ∧ x.bursts.find? (fun (b : Nat × Nat) => b.1 == burst.toNat) = some (burst.toNat, 1) → x.dstSp =
        spKCL ∧ data ≠ none → exec (.dmaBurstResponse chan burst data corr bad) s = .next (s.endsX ((((s.dev.burstDone chan
        burst.toNat)).dmaServe dmaRounds).dmaMoveEnd chan))) ∧
    (∀ (chan : Fin 32) (burst : BitVec 32) (data : Option (List Byte)) (corr bad : List (BitVec 39)) (x : DmaMove), (s.dev.chan
        chan).move = some x ∧ x.bursts.find? (fun (b : Nat × Nat) => b.1 == burst.toNat) = some (burst.toNat, 0) → x.srcSp =
        spKCL ∧ s.dev.chanState chan = dcRUNNING ∧ data = none → exec (.dmaBurstResponse chan burst data corr bad) s = .next
        (s.endsX (((((s.dev.dropReads (.dmaBurst chan burst.toNat)).burstFails chan burst.toNat
        { cause := hcREAD_ERROR, addr := x.src + burst.toNat * x.unit, space := spKCL, dir := 0 })).dmaServe
        dmaRounds).dmaMoveEnd chan))) ∧
    (∀ (chan : Fin 32) (burst : BitVec 32) (data : Option (List Byte)) (corr bad : List (BitVec 39)) (x : DmaMove), (s.dev.chan
        chan).move = some x ∧ x.bursts.find? (fun (b : Nat × Nat) => b.1 == burst.toNat) = some (burst.toNat, 1) → x.dstSp =
        spKCL ∧ data = none → exec (.dmaBurstResponse chan burst data corr bad) s = .next (s.endsX ((((s.dev.burstFails chan
        burst.toNat { cause := hcWRITE_ERROR, addr := x.dst + burst.toNat * x.unit, space := spKCL, dir := 1 })).dmaServe
        dmaRounds).dmaMoveEnd chan))) ∧
    (∀ (chan : Fin 32), s.dev.chanState chan = dcRUNNING ∧ (s.dev.chan chan).ended = true ∧ (s.dev.chan chan).move = none → exec
        (.dmaProgramDone chan) s = .next (s.ends (((s.dev.putChan chan {}).setMany [(.dma_ch_status_state, chan, dcIDLE),
        (.dma_ch_status_last_result, chan, 0)]).opEnd (.dmaRun chan) 0))) ∧
    (∀ (chan : Fin 32) (f : DmaFault), ((s.dev.chan chan).fault = some f ∧ (s.dev.chanState chan = dcRUNNING ∨ s.dev.chanState
        chan = dcWAITING) ∧ (s.dev.chan chan).outstanding = 0 ∧ s.dev.flag .dma_ch_ctrl_halt_mode chan = false) → ∃ e, exec
        (.dmaHaltSettled chan) s = .next (s.ends e) ∧ (e.chanState chan = dcHALTED ∧ e.get .dma_ch_status_cause chan = f.cause %
        2 ^ 4 ∧ e.get .dma_ch_fault_addr_address chan = f.addr % 2 ^ 64 ∧ e.chanPc chan = s.dev.chanPc chan) ∧ s.dev.Keeps e
        (countFlds ++ ([.dma_ch_status_last_result, .dma_ch_status_fmem_status, .dma_ch_status_cause, .dma_ch_status_state,
        .dma_ch_fault_addr_address, .dma_ch_fault_info_outer_index, .dma_ch_fault_info_inner_index,
        .dma_ch_fault_info_bytes_done, .dma_ch_fault_info_direction, .dma_ch_fault_info_space] : List Fld)) ∧ e.rest =
        ({ s.dev with ops := e.ops, dma := e.dma, sent := e.sent } : Dev).rest) ∧
    (∀ (chan : Fin 32) (f : DmaFault), ((s.dev.chan chan).fault = some f ∧ (s.dev.chanState chan = dcRUNNING ∨ s.dev.chanState
        chan = dcWAITING) ∧ (s.dev.chan chan).outstanding = 0 ∧ s.dev.flag .dma_ch_ctrl_halt_mode chan = true) → ∃ e, exec
        (.dmaHaltSettled chan) s = .next (s.ends e) ∧ (e.chanState chan = dcIDLE ∧ e.get .dma_ch_status_last_result chan = 16 +
        f.cause ∧ e.chan chan = ({} : DmaChan)) ∧ s.dev.Keeps e (countFlds ++ ([.dma_ch_status_last_result,
        .dma_ch_status_fmem_status, .dma_ch_status_cause, .dma_ch_status_state, .dma_ch_fault_addr_address,
        .dma_ch_fault_info_outer_index, .dma_ch_fault_info_inner_index, .dma_ch_fault_info_bytes_done,
        .dma_ch_fault_info_direction, .dma_ch_fault_info_space] : List Fld)) ∧ e.rest =
        ({ s.dev with ops := e.ops, dma := e.dma, sent := e.sent } : Dev).rest) ∧
    (∀ (chan : Fin 32) (f : DmaFault), (s.dev.chan chan).fault = some f ∧ (s.dev.chan chan).outstanding ≠ 0 → exec
        (.dmaHaltSettled chan) s = .next (s.ends (s.dev))) ∧
    (∀ (chan : Fin 32), s.dev.chanState chan = dcABORTING ∧ (s.dev.chan chan).outstanding = 0 → exec (.dmaAbortDone chan) s =
        .next (s.ends (((s.dev.putChan chan {}).setMany [(.dma_ch_status_state, chan, dcIDLE), (.dma_ch_status_last_result,
        chan, 16 + s.dev.get .dma_ch_status_cause chan)]).opEnd (.dmaRun chan) (16 + s.dev.get .dma_ch_status_cause chan))))

/-- Snapshots, dumps and windows of the counters; the record bank, its FIFO, its ring and its keep area. A snapshot, at its time or at
once, copies the cycle and event counters of every block that is on and leaves the copies of the others; where no time is due
nothing happens; one during a dump is missed, with BG_OVERRUN. The next record of a dump is written while the ring has room. A
window latches the bytes and slots of every port that is on and starts anew. The oldest event of the FIFO goes to the bank with
the next sequence number, into the keep area from severity 4 on. An interval with folded events carries them in one record.
keep_clear empties the keep area. A write of the trace configuration clears its bins. The reset record takes the steps that run.
The answer of the ring copy moves its tail or counts a skip. (R495, R497, R498, R499, R504, R506, R507, R509, R510, R516, R518,
R524) -/
def Obligations.CountersWindowsAndRecords : Prop :=
  ∀ s : State,
    (∀ (activity : Fin 21), exec (.bgOverrun activity) s = .next (s.ends (s.dev.raise .BG_OVERRUN (s.dev.pathDevice
        ucBG_ACTIVITY activity)))) ∧
    (∀ (more : BitVec 16), s.dev.snapDue.2 ≠ 0 ∧ s.dev.domainOn 1 = true ∧ s.dev.flag .perf_dump_status_busy = false ∧
        s.dev.flag .perf_snap_ctrl_dump_en = false → ∃ e, exec (.snapshotTime more) s = .next (s.ends e) ∧ (∀ b : Fin 557, e.get
        .perf_snap_cycle_cycles b = (if s.dev.blkOn b then s.dev.cycleOf b % 2 ^ 64 else s.dev.get .perf_snap_cycle_cycles b % 2
        ^ 64) ∧ ∀ i : Fin 8, e.get .perf_snap_pmc_count (8 * b + i) = (if s.dev.blkOn b then s.dev.get .perf_pmc_count (8 * b +
        i) else s.dev.get .perf_snap_pmc_count (8 * b + i)) % 2 ^ 48) ∧ e.get .perf_last_snap_last_snap = s.dev.fabricNs % 2 ^
        64) ∧
    (∀ (more : BitVec 16), s.dev.snapDue.2 = 0 → exec (.snapshotTime more) s = .next (s.ends (s.dev))) ∧
    (∀ (m : Mark) (v : Word), s.dev.accepts (.snapNow m v) = true → s.dev.domainOn 1 = true ∧ s.dev.flag .perf_dump_status_busy
        = false ∧ bit v.toNat 1 = false → ∃ e, exec (.snapNow m v) s = .next (s.ends e) ∧ (∀ b : Fin 557, e.get
        .perf_snap_cycle_cycles b = (if s.dev.blkOn b then s.dev.cycleOf b % 2 ^ 64 else s.dev.get .perf_snap_cycle_cycles b % 2
        ^ 64) ∧ ∀ i : Fin 8, e.get .perf_snap_pmc_count (8 * b + i) = (if s.dev.blkOn b then s.dev.get .perf_pmc_count (8 * b +
        i) else s.dev.get .perf_snap_pmc_count (8 * b + i)) % 2 ^ 48) ∧ e.get .perf_last_snap_last_snap = s.dev.fabricNs % 2 ^
        64 ∧ e.get .perf_snap_ctrl_snap_now = 0) ∧
    (∀ (m : Mark) (v : Word), s.dev.accepts (.snapNow m v) = true → s.dev.domainOn 1 = true ∧ s.dev.flag .perf_dump_status_busy
        = true → exec (.snapNow m v) s = .next (s.ends (((((s.dev.writeFields rowPERF_SNAP_CTRL 0 (setBit v.toNat 0) []).set
        .perf_snap_ctrl_snap_now 0 0).incrSat .perf_dump_status_snaps_missed 0 1).incrSat .h_dump_miss 0 1).raise .BG_OVERRUN
        (s.dev.pathDevice ucBG_ACTIVITY 19)).ok)) ∧
    (∀ (r : List Nat) (rest : List (List Nat)), s.dev.dumpRecs = r :: rest ∧ s.dev.get .h_dump_t - s.dev.get .h_dump_head < 2 ^
        s.dev.get .perf_dump_cfg_dump_size_log2 → ∃ e, exec (.dumpRecordWrite) s = .next (s.ends e) ∧ e.dumpRecs = rest ∧ e.get
        .h_dump_t = (s.dev.get .h_dump_t + 1) % 2 ^ 64 ∧ e.get .perf_dump_status_busy = b2n (!rest.isEmpty) ∧ e.sent =
        [Emit.kclWrite reqDUMP (s.dev.get .perf_dump_base_dump_base / 64 * 64 + s.dev.get .h_dump_t % 2 ^ s.dev.get
        .perf_dump_cfg_dump_size_log2 * 64) ((((r.headD 0 + s.dev.get .perf_dump_status_phase) :: r.tail).map (leBytes
        8)).flatten)] ++ s.dev.sent) ∧
    (2 ^ s.dev.get .perf_dump_cfg_dump_size_log2 ≤ s.dev.get .h_dump_t - s.dev.get .h_dump_head → exec (.dumpRecordWrite) s =
        .next (s.ends (s.dev))) ∧
    (s.dev.get .perf_win_ctrl_window_us ≠ 0 → ∃ e, exec (.windowLatch) s = .next (s.ends e) ∧ ((∀ n : Fin 512, if s.dev.quadOn n
        = true then e.get .perf_win_bytes_rx_bytes n = s.dev.get .h_win_rx_bytes n % 2 ^ 32 ∧ e.get .perf_win_bytes_tx_bytes n =
        s.dev.get .h_win_tx_bytes n % 2 ^ 32 ∧ e.get .perf_win_slot_a_wasted n = s.dev.get .h_win_wasted n % 2 ^ 32 ∧ e.get
        .h_win_rx_bytes n = 0 ∧ e.get .perf_win_info_window_seq n = (s.dev.get .perf_win_info_window_seq n + 1) % 2 ^ 32 else
        e.get .perf_win_bytes_rx_bytes n = s.dev.get .perf_win_bytes_rx_bytes n % 2 ^ 32 ∧ e.get .h_win_rx_bytes n = s.dev.get
        .h_win_rx_bytes n % 2 ^ 32) ∧ e.get .h_win_end = s.dev.fabricNs % 2 ^ 64) ∧ s.dev.Keeps e (slotFlds ++
        ([.perf_win_bytes_rx_bytes, .perf_win_bytes_tx_bytes, .perf_win_slot_a_retired, .perf_win_slot_a_wasted,
        .perf_win_slot_b_front_starved, .perf_win_slot_b_back_starved, .perf_win_info_window_seq, .perf_win_info_partial,
        .perf_win_info_sat, .h_win_rx_bytes, .h_win_tx_bytes, .h_win_partial, .h_win_end] : List Fld)) ∧ e.rest =
        ({ s.dev with sent := e.sent } : Dev).rest) ∧
    (∀ (r : Rec) (rest : List Rec), s.dev.flag .h_ras_lost_due = false ∧ s.dev.fifo = r :: rest ∧ 4 ≤ r.sev ∧ s.dev.keep.length
        < 256 → ∃ e, exec (.rasFifoDrain) s = .next (s.ends e) ∧ (e.bank.getOpt (s.dev.get .ras_status_next_seq % 3840)).map
        (fun (y : Rec) => (y.code, y.path, y.time, y.seq, y.kept)) = some (r.code, r.path, r.time, s.dev.get
        .ras_status_next_seq, true) ∧ e.fifo = rest ∧ e.get .ras_status_next_seq = (s.dev.get .ras_status_next_seq + 1) % 2 ^ 32
        ∧ e.keep = s.dev.keep ++ [({ r with seq := s.dev.get .ras_status_next_seq, kept := true } : Rec)]) ∧
    (s.dev.flag .h_ras_lost_due = false ∧ s.dev.fifo = [] → exec (.rasFifoDrain) s = .next (s.ends (s.dev))) ∧
    (∀ (l : RateSlot) (rest : List RateSlot) (r : Rec), s.dev.limits = l :: rest ∧ l.last = some r → exec
        (.rateLimitIntervalEnd) s = .next (s.ends
        (({ s.dev with limits := rest ++ [({ code := l.code, path := l.path } : RateSlot)] } : Dev).fifoPush
        ({ r with occ := l.folded } : Rec)))) ∧
    (∀ (l : RateSlot) (rest : List RateSlot), s.dev.limits = l :: rest ∧ l.last = none → exec (.rateLimitIntervalEnd) s = .next
        (s.ends ({ s.dev with limits := rest }))) ∧
    (∀ (m : Mark) (v : Word), s.dev.accepts (.rasKeepClear m v) = true → ∃ e, exec (.rasKeepClear m v) s = .next (s.ends e) ∧
        (e.keep = [] ∧ e.keepStore = [] ∧ e.get .ras_ctrl_keep_clear = 0 ∧ e.get .h_keep_full = 0 ∧ e.bank = s.dev.bank) ∧
        s.dev.Keeps e (([.ras_ctrl_ring_size_log2, .ras_ctrl_ring_min_sev, .ras_ctrl_keep_clear, .ras_ctrl_ring_en,
        .h_keep_full] : List Fld)) ∧ e.rest = ({ s.dev with keep := e.keep, keepStore := e.keepStore, sent := e.sent } :
        Dev).rest) ∧
    (∀ (m : Mark) (v : Word), s.dev.accepts (.rasTraceCfgWrite m v) = true → ∃ e, exec (.rasTraceCfgWrite m v) s = .next (s.ends
        e) ∧ ((∀ k : Fin 32, e.get .ras_trace_bin_bin k = 0) ∧ e.get .ras_trace_cfg_code = slice v.toNat 32 16 ∧ e.flag
        .ras_trace_cfg_enable = bit v.toNat 63) ∧ s.dev.Keeps e (([.ras_trace_cfg_enable, .ras_trace_cfg_temp_base,
        .ras_trace_cfg_code, .ras_trace_cfg_unit_class, .ras_trace_cfg_unit_index, .ras_trace_cfg_lane,
        .ras_trace_cfg_temp_step, .ras_trace_bin_bin] : List Fld)) ∧ e.rest = ({ s.dev with sent := e.sent } : Dev).rest) ∧
    (∃ e, exec (.resetRecordPeriodicUpdate) s = .next (s.ends e) ∧ (∀ x : Fin 16384, (e.rrSteps.getOpt x).map (fun (y : RRStep)
        => (y.step, y.done, y.armed)) = (s.dev.liveStep x).map (fun (p : Ctx × Step) => (p.2.step, p.2.done, p.1.armed))) ∧
        s.dev.Keeps e (([] : List Fld)) ∧ e.rest = ({ s.dev with rrSteps := e.rrSteps, sent := e.sent } : Dev).rest) ∧
    (∀ (ok : Bool) (r : Rec) (rest : List Rec), s.dev.ringPend = r :: rest ∧ ok = true → ∃ e, exec (.kclWriteResponse ok) s =
        .next (s.ends e) ∧ (e.ringPend = rest ∧ e.get .h_ring_t = (s.dev.get .h_ring_t + 1) % 2 ^ 64 ∧ e.get
        .ras_ring_status_ring_skipped = s.dev.get .ras_ring_status_ring_skipped) ∧ s.dev.Keeps e
        (([.ras_ring_status_ring_skipped, .ras_ring_status_tail, .ras_ring_status_phase, .h_ring_t] : List Fld)) ∧ e.rest =
        ({ s.dev with ringPend := e.ringPend, sent := e.sent } : Dev).rest) ∧
    (∀ (ok : Bool) (r : Rec) (rest : List Rec), s.dev.ringPend = r :: rest ∧ ok = false → ∃ e, exec (.kclWriteResponse ok) s =
        .next (s.ends e) ∧ (e.ringPend = rest ∧ e.get .h_ring_t = s.dev.get .h_ring_t ∧ e.get .ras_ring_status_ring_skipped =
        (s.dev.get .ras_ring_status_ring_skipped + 1) % 2 ^ 32) ∧ s.dev.Keeps e (([.ras_ring_status_ring_skipped,
        .ras_ring_status_tail, .ras_ring_status_phase, .h_ring_t] : List Fld)) ∧ e.rest =
        ({ s.dev with ringPend := e.ringPend, sent := e.sent } : Dev).rest)

/-- Resets: what each level leaves, and the stages of the boot after it. PORST_N asserted, and a COLD command with confirm 0xA5A5,
leave fabric memory empty, the waiting commands, and every register field and scalar at its reset value but those of coldKept and
the reset information, with level and cause; PORST_N asserted again changes nothing, its release clears only its note. WRST_N, a
WARM command with that confirm, the watchdog in stages SELECT to RESTORE and a trial unconfirmed at its timeout, not under
PORST_N, reset warmly with their cause: fabric memory, frames, egress queues, contexts, descriptors, programs, operations and
reads are empty, the stage is ROM_START, every queue is disabled, the reset time is noted; the record bank, the persistent store,
wear histories, the local counter, the sensors and pins listed stay. A reset command with another confirm, or NOP, does nothing.
ROM_START with the rails, the trip and the sensors right latches the straps and goes to SELECT from flash or the companion; a boot
source 2 or 3 stops there. SELECT takes the preferred slot where it is no trial, has not failed and the watchdog has not fired
thrice; from the companion only once go is set, here the forced slot, whose image it reads; with no slot left it stops with
BOOT_NO_IMAGE. An image that passes the checks of R531 goes to LOAD and shows its header; one refused makes its slot INVALID with
the reason and failed, back in SELECT. A loaded image makes its slot VALID and is shown; an unreadable one ends with reason 9, one
with a bad hash with 8. RESTORE after no warm reset brings the keep area back, adds four entries to the measurement log and
reaches READY. A write with go sets go and its other fields, the preferred slot stays. (R520, R521, R522, R526, R527, R528, R529,
R531, R537, R540, R541) -/
def Obligations.ResetsAndTheBoot : Prop :=
  ∀ s : State,
    (s.dev.flag .h_porst = false → Does (.porstNAssert) s (fun t => t.mem.entries = [] ∧ t.pending = s.pending ∧ t.dev.get
        .sys_reset_info_last_level = 0 ∧ t.dev.get .sys_reset_info_last_cause = 1 ∧ t.dev.rest =
        { ({} : Dev) with keepStore := s.dev.keepStore, wearHist := s.dev.wearHist, sent := t.dev.sent }.rest ∧ (∀ (f : Fld) (i
        : Nat), f ∉ coldKept → f ∉ [.sys_reset_info_last_level, .sys_reset_info_last_cause, .sys_reset_info_stage_at_reset] →
        t.dev.get f i = State.reset.dev.get f i) ∧ t.dev.get .h_porst = 1)) ∧
    (s.dev.flag .h_porst = true → exec (.porstNAssert) s = .next (s.endsX (s.dev))) ∧
    (exec (.porstNRelease) s = .next (s.ends (s.dev.set .h_porst 0 0))) ∧
    (s.dev.flag .h_porst = false → Does (.wrstNAssert) s (fun t => t.mem.entries = [] ∧ t.pending = s.pending ∧ t.dev.get
        .sys_reset_info_last_level = 2 ∧ t.dev.get .sys_reset_info_last_cause = 4 ∧ t.dev.get .sys_boot_status_stage = 0 ∧
        t.dev.get .sys_reset_time_reset_time = s.dev.fabricNs % 2 ^ 64 ∧ t.dev.bank = s.dev.bank ∧ t.dev.frames = [] ∧
        t.dev.ctxs.entries = [] ∧ t.dev.reads = [] ∧ t.dev.waits = [] ∧ t.dev.egress = [] ∧ t.dev.descs.entries = [] ∧
        t.dev.progs.entries = [] ∧ t.dev.ops = [] ∧ t.dev.keepStore = s.dev.keepStore ∧ t.dev.wearHist = s.dev.wearHist ∧ (∀ q :
        Fin 512, t.dev.get .csq_q_cfg_enable q = 0) ∧ ∀ f ∈ ([.p_lit_minutes, .p_eq_hours, .p_eq_num, .p_peak_bias,
        .p_bias_slope, .p_standby_active, .p_pref, .p_trial, .p_tried, .sys_id_rom_version, .sys_serial_serial,
        .kcl_svc_status_module_present, .h_sens, .h_rail_out, .h_tap, .h_local, .sec_boot_ctrl_preferred] : List Fld), ∀ i : Fin
        640, t.dev.get f i = s.dev.get f i)) ∧
    (∀ (m : Mark) (confirm : BitVec 16), s.dev.accepts (.sysResetNop m confirm) = true → exec (.sysResetNop m confirm) s = .next
        (s.endsX (s.dev).ok)) ∧
    (∀ (m : Mark) (confirm : BitVec 16), s.dev.accepts (.sysResetWarm m confirm) = true → confirm = 0xA5A5 ∧ s.dev.flag .h_porst
        = false → Does (.sysResetWarm m confirm) s (fun t => t.mem.entries = [] ∧ t.pending = s.pending ∧ t.dev.get
        .sys_reset_info_last_level = 2 ∧ t.dev.get .sys_reset_info_last_cause = 5 ∧ t.dev.get .sys_boot_status_stage = 0 ∧
        t.dev.get .sys_reset_time_reset_time = s.dev.fabricNs % 2 ^ 64 ∧ t.dev.bank = s.dev.bank ∧ t.dev.frames = [] ∧
        t.dev.ctxs.entries = [] ∧ t.dev.reads = [] ∧ t.dev.waits = [] ∧ t.dev.egress = [] ∧ t.dev.descs.entries = [] ∧
        t.dev.progs.entries = [] ∧ t.dev.ops = [] ∧ t.dev.keepStore = s.dev.keepStore ∧ t.dev.wearHist = s.dev.wearHist ∧ (∀ q :
        Fin 512, t.dev.get .csq_q_cfg_enable q = 0) ∧ ∀ f ∈ ([.p_lit_minutes, .p_eq_hours, .p_eq_num, .p_peak_bias,
        .p_bias_slope, .p_standby_active, .p_pref, .p_trial, .p_tried, .sys_id_rom_version, .sys_serial_serial,
        .kcl_svc_status_module_present, .h_sens, .h_rail_out, .h_tap, .h_local, .sec_boot_ctrl_preferred] : List Fld), ∀ i : Fin
        640, t.dev.get f i = s.dev.get f i)) ∧
    (∀ (m : Mark) (confirm : BitVec 16), s.dev.accepts (.sysResetWarm m confirm) = true → confirm ≠ 0xA5A5 → exec (.sysResetWarm
        m confirm) s = .next (s.endsX (s.dev).ok)) ∧
    (∀ (m : Mark) (confirm : BitVec 16), s.dev.accepts (.sysResetCold m confirm) = true → confirm = 0xA5A5 ∧ s.dev.flag .h_porst
        = false → Does (.sysResetCold m confirm) s (fun t => t.mem.entries = [] ∧ t.pending = s.pending ∧ t.dev.get
        .sys_reset_info_last_level = 1 ∧ t.dev.get .sys_reset_info_last_cause = 2 ∧ t.dev.rest =
        { ({} : Dev) with keepStore := s.dev.keepStore, wearHist := s.dev.wearHist, sent := t.dev.sent }.rest ∧ (∀ (f : Fld) (i
        : Nat), f ∉ coldKept → f ∉ [.sys_reset_info_last_level, .sys_reset_info_last_cause, .sys_reset_info_stage_at_reset] →
        t.dev.get f i = State.reset.dev.get f i))) ∧
    (∀ (m : Mark) (confirm : BitVec 16), s.dev.accepts (.sysResetCold m confirm) = true → confirm ≠ 0xA5A5 → exec (.sysResetCold
        m confirm) s = .next (s.endsX (s.dev).ok)) ∧
    (1 ≤ s.dev.stage ∧ s.dev.stage ≤ 4 ∧ s.dev.flag .h_boot_stop = false ∧ s.dev.flag .h_porst = false → Does (.bootWatchdog) s
        (fun t => t.mem.entries = [] ∧ t.pending = s.pending ∧ t.dev.get .sys_reset_info_last_level = 2 ∧ t.dev.get
        .sys_reset_info_last_cause = 6 ∧ t.dev.get .sys_boot_status_stage = 0 ∧ t.dev.get .sys_reset_time_reset_time =
        s.dev.fabricNs % 2 ^ 64 ∧ t.dev.bank = s.dev.bank ∧ t.dev.frames = [] ∧ t.dev.ctxs.entries = [] ∧ t.dev.reads = [] ∧
        t.dev.waits = [] ∧ t.dev.egress = [] ∧ t.dev.descs.entries = [] ∧ t.dev.progs.entries = [] ∧ t.dev.ops = [] ∧
        t.dev.keepStore = s.dev.keepStore ∧ t.dev.wearHist = s.dev.wearHist ∧ (∀ q : Fin 512, t.dev.get .csq_q_cfg_enable q = 0)
        ∧ ∀ f ∈ ([.p_lit_minutes, .p_eq_hours, .p_eq_num, .p_peak_bias, .p_bias_slope, .p_standby_active, .p_pref, .p_trial,
        .p_tried, .sys_id_rom_version, .sys_serial_serial, .kcl_svc_status_module_present, .h_sens, .h_rail_out, .h_tap,
        .h_local, .sec_boot_ctrl_preferred] : List Fld), ∀ i : Fin 640, t.dev.get f i = s.dev.get f i)) ∧
    (s.dev.ready = true ∧ s.dev.flag .sys_boot_status_trial = true ∧ s.dev.get .sec_boot_ctrl_confirm_timeout_s ≠ 0 ∧ s.dev.flag
        .h_porst = false → Does (.confirmTimeout) s (fun t => t.mem.entries = [] ∧ t.pending = s.pending ∧ t.dev.get
        .sys_reset_info_last_level = 2 ∧ t.dev.get .sys_reset_info_last_cause = 7 ∧ t.dev.get .sys_boot_status_stage = 0 ∧
        t.dev.get .sys_reset_time_reset_time = s.dev.fabricNs % 2 ^ 64 ∧ t.dev.bank = s.dev.bank ∧ t.dev.frames = [] ∧
        t.dev.ctxs.entries = [] ∧ t.dev.reads = [] ∧ t.dev.waits = [] ∧ t.dev.egress = [] ∧ t.dev.descs.entries = [] ∧
        t.dev.progs.entries = [] ∧ t.dev.ops = [] ∧ t.dev.keepStore = s.dev.keepStore ∧ t.dev.wearHist = s.dev.wearHist ∧ (∀ q :
        Fin 512, t.dev.get .csq_q_cfg_enable q = 0) ∧ ∀ f ∈ ([.p_lit_minutes, .p_eq_hours, .p_eq_num, .p_peak_bias,
        .p_bias_slope, .p_standby_active, .p_pref, .p_trial, .p_tried, .sys_id_rom_version, .sys_serial_serial,
        .kcl_svc_status_module_present, .h_sens, .h_rail_out, .h_tap, .h_local, .sec_boot_ctrl_preferred] : List Fld), ∀ i : Fin
        640, t.dev.get f i = s.dev.get f i)) ∧
    (∀ (straps : BitVec 4) (mv : Vector (BitVec 12) 3), s.dev.stage = 0 ∧ s.dev.flag .h_porst = false ∧ s.dev.flag .h_trip =
        false ∧ s.dev.get .h_rail_out = 0 ∧ s.dev.flag .h_boot_stop = false ∧ s.dev.romCold = false → slice straps.toNat 0 2 < 2
        → ∃ e, exec (.bootRomStartDone straps mv) s = .next (s.ends e) ∧ (e.stage = 1 ∧ e.get .sys_straps_boot_src = slice
        straps.toNat 0 2 ∧ e.get .sys_straps_slot_force_en = slice straps.toNat 2 1 ∧ e.get .sys_straps_slot_force = slice
        straps.toNat 3 1) ∧ s.dev.Keeps e (creditFlds ++ countFlds ++ ([.sys_straps_slot_force, .sys_straps_slot_force_en,
        .sys_straps_boot_src, .sys_pd_status_on, .sys_boot_status_stage, .port_status_link_status, .memc_ch_status_failed,
        .memc_ch_status_trained, .opt_ring_status_state, .opt_ring_heater_heater_ghz, .opt_lane_map_tx_lane, .opt_rx_power_lane,
        .opt_rx_spare_spare, .opt_margin_status_request_pending, .las_oct_status_parked, .las_oct_status_standby_active,
        .las_dfb_wear_eq_hours, .las_dfb_wear_lit_minutes, .las_dfb_trend_peak_bias, .las_dfb_trend_bias_slope, .h_id_fresh,
        .h_cycle_t0, .h_win_partial, .h_ring_rail, .h_ring_resweep, .h_eq_num, .h_avs_mv, .h_board_test, .h_boot_stop] : List
        Fld)) ∧ e.rest =
        ({ s.dev with frames := e.frames, waits := e.waits, egress := e.egress, sending := e.sending, receiving := e.receiving, rxSpoilt := e.rxSpoilt, undeliv := e.undeliv, indir := e.indir, heldRev := e.heldRev, dips := e.dips, sent := e.sent }
        : Dev).rest) ∧
    (∀ (straps : BitVec 4) (mv : Vector (BitVec 12) 3), s.dev.stage = 0 ∧ s.dev.flag .h_porst = false ∧ s.dev.flag .h_trip =
        false ∧ s.dev.get .h_rail_out = 0 ∧ s.dev.flag .h_boot_stop = false ∧ s.dev.romCold = false → 2 ≤ slice straps.toNat 0 2
        → ∃ e, exec (.bootRomStartDone straps mv) s = .next (s.ends e) ∧ (e.stage = 0 ∧ e.get .h_boot_stop = 1) ∧ s.dev.Keeps e
        (creditFlds ++ countFlds ++ ([.sys_straps_slot_force, .sys_straps_slot_force_en, .sys_straps_boot_src,
        .sys_pd_status_on, .sys_boot_status_stage, .port_status_link_status, .memc_ch_status_failed, .memc_ch_status_trained,
        .opt_ring_status_state, .opt_ring_heater_heater_ghz, .opt_lane_map_tx_lane, .opt_rx_power_lane, .opt_rx_spare_spare,
        .opt_margin_status_request_pending, .las_oct_status_parked, .las_oct_status_standby_active, .las_dfb_wear_eq_hours,
        .las_dfb_wear_lit_minutes, .las_dfb_trend_peak_bias, .las_dfb_trend_bias_slope, .h_id_fresh, .h_cycle_t0,
        .h_win_partial, .h_ring_rail, .h_ring_resweep, .h_eq_num, .h_avs_mv, .h_board_test, .h_boot_stop] : List Fld)) ∧ e.rest
        =
        ({ s.dev with frames := e.frames, waits := e.waits, egress := e.egress, sending := e.sending, receiving := e.receiving, rxSpoilt := e.rxSpoilt, undeliv := e.undeliv, indir := e.indir, heldRev := e.heldRev, dips := e.dips, sent := e.sent }
        : Dev).rest) ∧
    (s.dev.stage = 1 ∧ s.dev.flag .h_boot_stop = false ∧ s.dev.get .sys_straps_boot_src ≠ 1 ∧ s.dev.flag
        .sys_straps_slot_force_en = false ∧ s.dev.flag .p_trial = false → s.dev.bitOf .h_boot_fail 0 (s.dev.get .p_pref) = false
        ∧ s.dev.get .h_boot_wd < 3 → exec (.bootSelectDone) s = .next (s.ends ((s.dev.set .h_boot_slot 0 (s.dev.get
        .p_pref)).toStage 2))) ∧
    (s.dev.stage = 1 ∧ s.dev.flag .h_boot_stop = false ∧ s.dev.get .sys_straps_boot_src ≠ 1 ∧ s.dev.slotChoice = none → exec
        (.bootSelectDone) s = .next (s.ends ((s.dev.set .h_boot_stop 0 1).raise .BOOT_NO_IMAGE s.dev.pathDevice [.h (s.dev.get
        .sec_slot_status_reason 0), .h (s.dev.get .sec_slot_status_reason 1)]))) ∧
    (s.dev.stage = 1 ∧ s.dev.flag .h_boot_stop = false ∧ s.dev.get .sys_straps_boot_src = 1 ∧ s.dev.flag .sec_boot_ctrl_go =
        false → exec (.bootSelectDone) s = .next (s.ends (s.dev))) ∧
    (s.dev.stage = 1 ∧ s.dev.flag .h_boot_stop = false ∧ s.dev.get .sys_straps_boot_src = 1 ∧ s.dev.flag .sec_boot_ctrl_go =
        true ∧ s.dev.flag .sys_straps_slot_force_en = true → s.dev.bitOf .h_boot_fail 0 (s.dev.get .sys_straps_slot_force) =
        false → exec (.bootSelectDone) s = .next (s.ends (((s.dev.emit (.kclRead reqSEC (s.dev.get .sec_kcl_img_img (s.dev.get
        .sys_straps_slot_force)) 4096)).set .h_boot_slot 0 (s.dev.get .sys_straps_slot_force)).toStage 2))) ∧
    (∀ (img : Option ImageInfo) (i : ImageInfo), s.dev.stage = 2 ∧ img = some i → i.magicOk = true ∧ i.ecdsaKey.toNat ≤ 3 ∧
        i.lmsKey.toNat ≤ 3 ∧ bit s.fuses.ecdsaKeys i.ecdsaKey.toNat = true ∧ bit s.fuses.lmsKeys i.lmsKey.toNat = true ∧ bit
        s.fuses.ecdsaRevoked i.ecdsaKey.toNat = false ∧ bit s.fuses.lmsRevoked i.lmsKey.toNat = false ∧ i.keyHashOk = true ∧
        s.fuses.svn ≤ i.svn.toNat ∧ i.svn.toNat ≤ 128 ∧ i.ecdsaOk = true ∧ i.lmsOk = true → ∃ e, exec (.bootVerifyDone img) s =
        .next (s.ends e) ∧ (e.stage = 3 ∧ e.get .sec_slot_status_svn (s.dev.get .h_boot_slot) = i.svn.toNat ∧ e.get
        .sec_slot_status_link_rev (s.dev.get .h_boot_slot) = i.linkRev.toNat ∧ e.get .sec_slot_status_state (s.dev.get
        .h_boot_slot) = s.dev.get .sec_slot_status_state (s.dev.get .h_boot_slot)) ∧ s.dev.Keeps e (([.sys_boot_status_stage,
        .sec_slot_status_link_rev, .sec_slot_status_svn, .sec_slot_status_image_version, .sec_slot_status_reason,
        .sec_slot_status_state, .h_boot_fail, .h_load_img, .h_load_keys] : List Fld)) ∧ e.rest = ({ s.dev with sent := e.sent }
        : Dev).rest) ∧
    (∀ (img : Option ImageInfo), s.dev.stage = 2 ∧ imageReason s.fuses false img ≠ 0 → ∃ e, exec (.bootVerifyDone img) s = .next
        (s.ends e) ∧ (e.stage = 1 ∧ e.get .sec_slot_status_state (s.dev.get .h_boot_slot) = 2 ∧ e.get .sec_slot_status_reason
        (s.dev.get .h_boot_slot) = imageReason s.fuses false img ∧ e.bitOf .h_boot_fail 0 (s.dev.get .h_boot_slot) = true) ∧
        s.dev.Keeps e (([.sys_boot_status_stage, .sec_slot_status_link_rev, .sec_slot_status_svn,
        .sec_slot_status_image_version, .sec_slot_status_reason, .sec_slot_status_state, .h_boot_fail, .h_load_img,
        .h_load_keys] : List Fld)) ∧ e.rest = ({ s.dev with sent := e.sent } : Dev).rest) ∧
    (∀ (readOk hashOk : Bool), s.dev.stage = 3 ∧ readOk = true ∧ hashOk = true → ∃ e, exec (.bootLoadDone readOk hashOk) s =
        .next (s.ends e) ∧ (e.stage = 4 ∧ e.get .sec_slot_status_state (s.dev.get .h_boot_slot) = 1 ∧ e.get
        .sys_boot_status_running_slot = s.dev.get .h_boot_slot ∧ e.get .sys_boot_status_image_version = slice (s.dev.get
        .h_load_img) 0 24 ∧ e.get .sys_boot_status_svn = slice (s.dev.get .h_load_img) 40 8) ∧ s.dev.Keeps e
        (([.sys_boot_status_stage, .sys_boot_status_running_slot, .sys_boot_status_trial, .sys_boot_status_fallback,
        .sys_boot_status_svn, .sys_boot_status_link_rev, .sys_boot_status_image_version, .sec_slot_status_reason,
        .sec_slot_status_state, .h_boot_fail, .h_run_valid, .h_run_ecdsa, .h_run_lms] : List Fld)) ∧ e.rest =
        ({ s.dev with sent := e.sent } : Dev).rest) ∧
    (∀ (readOk hashOk : Bool), s.dev.stage = 3 ∧ readOk = true ∧ hashOk = false → ∃ e, exec (.bootLoadDone readOk hashOk) s =
        .next (s.ends e) ∧ (e.stage = 1 ∧ e.get .sec_slot_status_state (s.dev.get .h_boot_slot) = 2 ∧ e.get
        .sec_slot_status_reason (s.dev.get .h_boot_slot) = 8) ∧ s.dev.Keeps e (([.sys_boot_status_stage,
        .sys_boot_status_running_slot, .sys_boot_status_trial, .sys_boot_status_fallback, .sys_boot_status_svn,
        .sys_boot_status_link_rev, .sys_boot_status_image_version, .sec_slot_status_reason, .sec_slot_status_state,
        .h_boot_fail, .h_run_valid, .h_run_ecdsa, .h_run_lms] : List Fld)) ∧ e.rest = ({ s.dev with sent := e.sent } :
        Dev).rest) ∧
    (∀ (readOk hashOk : Bool), s.dev.stage = 3 ∧ readOk = false → ∃ e, exec (.bootLoadDone readOk hashOk) s = .next (s.ends e) ∧
        (e.stage = 1 ∧ e.get .sec_slot_status_state (s.dev.get .h_boot_slot) = 2 ∧ e.get .sec_slot_status_reason (s.dev.get
        .h_boot_slot) = 9) ∧ s.dev.Keeps e (([.sys_boot_status_stage, .sys_boot_status_running_slot, .sys_boot_status_trial,
        .sys_boot_status_fallback, .sys_boot_status_svn, .sys_boot_status_link_rev, .sys_boot_status_image_version,
        .sec_slot_status_reason, .sec_slot_status_state, .h_boot_fail, .h_run_valid, .h_run_ecdsa, .h_run_lms] : List Fld)) ∧
        e.rest = ({ s.dev with sent := e.sent } : Dev).rest) ∧
    (∀ (recordBad : Bool), s.dev.stage = 4 ∧ s.dev.get .sys_reset_info_last_level ≠ 2 → ∃ e, exec (.bootRestoreDone recordBad) s
        = .next (s.ends e) ∧ (e.stage = 5 ∧ e.keep = s.dev.keepStore.map (fun (y : Rec) => ({ y with restored := true } : Rec))
        ∧ e.measLog.length = s.dev.measLog.length + 4) ∧ s.dev.Keeps e (([.sys_boot_status_stage, .csq_q_cfg_enable,
        .csq_q_cr_base_cr_base, .csq_q_status_state, .csq_q_status_map_pending, .csq_q_status_buffered,
        .csq_q_cr_status_cr_tail, .csq_q_cr_status_cr_phase, .csq_q_cr_status_held, .csq_qsram_word, .i2c_status_alert,
        .h_boot_wd] : List Fld)) ∧ e.rest =
        ({ s.dev with keep := e.keep, reads := e.reads, readWaits := e.readWaits, queues := e.queues, rrSteps := e.rrSteps, measLog := e.measLog, sent := e.sent }
        : Dev).rest) ∧
    (∀ (m : Mark) (v : Word), s.dev.accepts (.kclBootGo m v) = true → ∃ e, exec (.kclBootGo m v) s = .next (s.ends e) ∧ (e.get
        .sec_boot_ctrl_go = 1 ∧ e.get .sec_boot_ctrl_boot_watchdog_ms = slice v.toNat 48 16 ∧ e.get
        .sec_boot_ctrl_confirm_timeout_s = slice v.toNat 32 16 ∧ e.get .sec_boot_ctrl_preferred = s.dev.get
        .sec_boot_ctrl_preferred) ∧ s.dev.Keeps e (([.sec_boot_ctrl_boot_watchdog_ms, .sec_boot_ctrl_confirm_timeout_s,
        .sec_boot_ctrl_preferred, .sec_boot_ctrl_go] : List Fld)) ∧ e.rest = ({ s.dev with sent := e.sent } : Dev).rest)

/-- The SEC commands: how each starts, and what its end leaves in slots, boot control and fuses. With no other command running: WRITE
of a slot that does not run reads the image at SEC_CMD_ADDR, the slot reading WRITING, or with the companion as boot source notes
the address; VERIFY of such a slot begins; PREFER_TRIAL of a VALID slot whose link revision is within 1 of the running one;
CONFIRM in a trial; SVN_COMMIT outside a trial with bit 55 set; REVOKE of a key index that is not the running image’s; ATTEST
writes its report (attestBytes); EXTEND with fewer than 64 log entries reads 48 bytes: each is busy with its arguments and result
0. Refused with their result are WRITE of the running slot (2), PREFER_TRIAL of a slot not VALID (5) or more than 1 apart (6),
CONFIRM outside a trial (7), SVN_COMMIT in a trial (8) or that would strand the other valid slot, bit 55 clear (9), EXTEND of a
full log (12), and VERIFY while another runs (1). NOP changes nothing. At its end, result 0: a read and stored WRITE, and VERIFY,
judge the slot (verifySlot); PREFER_TRIAL stores the slot as preferred and on trial, CONFIRM the running slot as preferred and no
trial; SVN_COMMIT whose bits verify burns up to the running image’s SVN, recorded; REVOKE burns its bit; ATTEST ends; EXTEND
appends its bytes to the log. Else a failed read ends WRITE with 3, a failed flash with 4, the slot INVALID; EXTEND ends with 3;
an SVN burn that stops short keeps what it burned, and with a REVOKE that does not verify ends with 11 and FUSE_FAIL. (R531, R532,
R533, R535, R536, R537, R542) -/
def Obligations.SecurityCommands : Prop :=
  ∀ s : State,
    (∀ (m : Mark) (v : BitVec 60), s.dev.accepts (.secCmdNop m v) = true → exec (.secCmdNop m v) s = .next (s.ends (s.dev).ok)) ∧
    (∀ (m : Mark) (v : BitVec 60), s.dev.accepts (.secCmdWrite m v) = true → s.dev.flag .sec_cmd_status_busy = false ∧
        s.dev.slotRuns (slice v.toNat 56 1) = false ∧ s.dev.get .sys_straps_boot_src ≠ 1 → exec (.secCmdWrite m v) s = .next
        (s.ends (((s.dev.setMany [(.sec_cmd_status_busy, 0, 1), (.sec_cmd_status_last_cmd, 0, 1), (.sec_cmd_status_result, 0,
        0), (.h_sec_args, 0, v.toNat)]).set .sec_slot_status_state (slice v.toNat 56 1) 3).kread .sec reqSEC (s.dev.get
        .sec_cmd_addr_addr / 64 * 64) 4096).ok)) ∧
    (∀ (m : Mark) (v : BitVec 60), s.dev.accepts (.secCmdWrite m v) = true → s.dev.flag .sec_cmd_status_busy = false ∧
        s.dev.slotRuns (slice v.toNat 56 1) = false ∧ s.dev.get .sys_straps_boot_src = 1 → exec (.secCmdWrite m v) s = .next
        (s.ends ((s.dev.setMany [(.sec_cmd_status_busy, 0, 1), (.sec_cmd_status_last_cmd, 0, 1), (.sec_cmd_status_result, 0, 0),
        (.h_sec_args, 0, v.toNat)]).set .sec_kcl_img_img (slice v.toNat 56 1) (s.dev.get .sec_cmd_addr_addr / 64 * 64)).ok)) ∧
    (∀ (m : Mark) (v : BitVec 60), s.dev.accepts (.secCmdWrite m v) = true → s.dev.flag .sec_cmd_status_busy = false ∧
        s.dev.slotRuns (slice v.toNat 56 1) = true → exec (.secCmdWrite m v) s = .next (s.ends ((s.dev.setMany
        [(.sec_cmd_status_busy, 0, 0), (.sec_cmd_status_last_cmd, 0, 1), (.sec_cmd_status_result, 0, 2)]).raise .SEC_CMD_REFUSED
        s.dev.pathDevice [.h 1, .h 2]).ok)) ∧
    (∀ (m : Mark) (v : BitVec 60), s.dev.accepts (.secCmdVerify m v) = true → s.dev.flag .sec_cmd_status_busy = false ∧
        s.dev.slotRuns (slice v.toNat 56 1) = false → exec (.secCmdVerify m v) s = .next (s.ends ((s.dev.setMany
        [(.sec_cmd_status_busy, 0, 1), (.sec_cmd_status_last_cmd, 0, 2), (.sec_cmd_status_result, 0, 0), (.h_sec_args, 0,
        v.toNat)])).ok)) ∧
    (∀ (m : Mark) (v : BitVec 60), s.dev.accepts (.secCmdVerify m v) = true → s.dev.flag .sec_cmd_status_busy = true → exec
        (.secCmdVerify m v) s = .next (s.ends ((s.dev.raise .SEC_CMD_REFUSED s.dev.pathDevice [.h 2, .h 1]).set
        .sec_cmd_status_result 0 1).ok)) ∧
    (∀ (m : Mark) (v : BitVec 60), s.dev.accepts (.secCmdPreferTrial m v) = true → s.dev.flag .sec_cmd_status_busy = false ∧
        s.dev.get .sec_slot_status_state (slice v.toNat 56 1) = 1 ∧ s.dev.get .sec_slot_status_link_rev (slice v.toNat 56 1) ≤
        s.dev.get .sys_boot_status_link_rev + 1 ∧ s.dev.get .sys_boot_status_link_rev ≤ s.dev.get .sec_slot_status_link_rev
        (slice v.toNat 56 1) + 1 → exec (.secCmdPreferTrial m v) s = .next (s.ends ((s.dev.setMany [(.sec_cmd_status_busy, 0,
        1), (.sec_cmd_status_last_cmd, 0, 3), (.sec_cmd_status_result, 0, 0), (.h_sec_args, 0, v.toNat)])).ok)) ∧
    (∀ (m : Mark) (v : BitVec 60), s.dev.accepts (.secCmdPreferTrial m v) = true → s.dev.flag .sec_cmd_status_busy = false ∧
        s.dev.get .sec_slot_status_state (slice v.toNat 56 1) ≠ 1 → exec (.secCmdPreferTrial m v) s = .next (s.ends
        ((s.dev.setMany [(.sec_cmd_status_busy, 0, 0), (.sec_cmd_status_last_cmd, 0, 3), (.sec_cmd_status_result, 0, 5)]).raise
        .SEC_CMD_REFUSED s.dev.pathDevice [.h 3, .h 5]).ok)) ∧
    (∀ (m : Mark) (v : BitVec 60), s.dev.accepts (.secCmdPreferTrial m v) = true → (s.dev.flag .sec_cmd_status_busy = false ∧
        s.dev.get .sec_slot_status_state (slice v.toNat 56 1) = 1 ∧ (s.dev.get .sys_boot_status_link_rev + 1 < s.dev.get
        .sec_slot_status_link_rev (slice v.toNat 56 1) ∨ s.dev.get .sec_slot_status_link_rev (slice v.toNat 56 1) + 1 <
        s.dev.get .sys_boot_status_link_rev)) → exec (.secCmdPreferTrial m v) s = .next (s.ends ((s.dev.setMany
        [(.sec_cmd_status_busy, 0, 0), (.sec_cmd_status_last_cmd, 0, 3), (.sec_cmd_status_result, 0, 6)]).raise .SEC_CMD_REFUSED
        s.dev.pathDevice [.h 3, .h 6]).ok)) ∧
    (∀ (m : Mark) (v : BitVec 60), s.dev.accepts (.secCmdConfirm m v) = true → s.dev.flag .sec_cmd_status_busy = false ∧
        s.dev.flag .sys_boot_status_trial = false → exec (.secCmdConfirm m v) s = .next (s.ends ((s.dev.setMany
        [(.sec_cmd_status_busy, 0, 0), (.sec_cmd_status_last_cmd, 0, 4), (.sec_cmd_status_result, 0, 7)]).raise .SEC_CMD_REFUSED
        s.dev.pathDevice [.h 4, .h 7]).ok)) ∧
    (∀ (m : Mark) (v : BitVec 60), s.dev.accepts (.secCmdConfirm m v) = true → s.dev.flag .sec_cmd_status_busy = false ∧
        s.dev.flag .sys_boot_status_trial = true → exec (.secCmdConfirm m v) s = .next (s.ends ((s.dev.setMany
        [(.sec_cmd_status_busy, 0, 1), (.sec_cmd_status_last_cmd, 0, 4), (.sec_cmd_status_result, 0, 0), (.h_sec_args, 0,
        v.toNat)])).ok)) ∧
    (∀ (m : Mark) (v : BitVec 60), s.dev.accepts (.secCmdSvnCommit m v) = true → s.dev.flag .sec_cmd_status_busy = false ∧
        s.dev.flag .sys_boot_status_trial = false ∧ bit v.toNat 55 = true → exec (.secCmdSvnCommit m v) s = .next (s.ends
        ((s.dev.setMany [(.sec_cmd_status_busy, 0, 1), (.sec_cmd_status_last_cmd, 0, 5), (.sec_cmd_status_result, 0, 0),
        (.h_sec_args, 0, v.toNat)])).ok)) ∧
    (∀ (m : Mark) (v : BitVec 60), s.dev.accepts (.secCmdSvnCommit m v) = true → s.dev.flag .sec_cmd_status_busy = false ∧
        s.dev.flag .sys_boot_status_trial = true → exec (.secCmdSvnCommit m v) s = .next (s.ends ((s.dev.setMany
        [(.sec_cmd_status_busy, 0, 0), (.sec_cmd_status_last_cmd, 0, 5), (.sec_cmd_status_result, 0, 8)]).raise .SEC_CMD_REFUSED
        s.dev.pathDevice [.h 5, .h 8]).ok)) ∧
    (∀ (m : Mark) (v : BitVec 60), s.dev.accepts (.secCmdSvnCommit m v) = true → s.dev.flag .sec_cmd_status_busy = false ∧
        s.dev.flag .sys_boot_status_trial = false ∧ bit v.toNat 55 = false ∧ s.dev.get .sec_slot_status_state (1 - s.dev.get
        .sys_boot_status_running_slot) = 1 ∧ s.dev.get .sec_slot_status_svn (1 - s.dev.get .sys_boot_status_running_slot) <
        s.dev.get .sys_boot_status_svn → exec (.secCmdSvnCommit m v) s = .next (s.ends ((s.dev.setMany [(.sec_cmd_status_busy,
        0, 0), (.sec_cmd_status_last_cmd, 0, 5), (.sec_cmd_status_result, 0, 9)]).raise .SEC_CMD_REFUSED s.dev.pathDevice [.h 5,
        .h 9]).ok)) ∧
    (∀ (m : Mark) (v : BitVec 60), s.dev.accepts (.secCmdRevoke m v) = true → s.dev.flag .sec_cmd_status_busy = false ∧ bit
        v.toNat 53 = false ∧ slice v.toNat 48 2 ≠ s.dev.get .h_run_ecdsa → exec (.secCmdRevoke m v) s = .next (s.ends
        ((s.dev.setMany [(.sec_cmd_status_busy, 0, 1), (.sec_cmd_status_last_cmd, 0, 6), (.sec_cmd_status_result, 0, 0),
        (.h_sec_args, 0, v.toNat)])).ok)) ∧
    (∀ (m : Mark) (v : BitVec 60), s.dev.accepts (.secCmdRevoke m v) = true → s.dev.flag .sec_cmd_status_busy = false ∧ bit
        v.toNat 53 = true ∧ slice v.toNat 48 2 ≠ s.dev.get .h_run_lms → exec (.secCmdRevoke m v) s = .next (s.ends
        ((s.dev.setMany [(.sec_cmd_status_busy, 0, 1), (.sec_cmd_status_last_cmd, 0, 6), (.sec_cmd_status_result, 0, 0),
        (.h_sec_args, 0, v.toNat)])).ok)) ∧
    (∀ (m : Mark) (v : BitVec 60), s.dev.accepts (.secCmdAttest m v) = true → s.dev.flag .sec_cmd_status_busy = false → exec
        (.secCmdAttest m v) s = .next (s.ends ((((s.dev.setMany [(.sec_cmd_status_busy, 0, 1), (.sec_cmd_status_last_cmd, 0, 7),
        (.sec_cmd_status_result, 0, 0), (.h_sec_args, 0, v.toNat)])).attestBytes (bit v.toNat 54)).1.emit (.kclWrite reqSEC
        (s.dev.get .sec_cmd_addr_addr / 64 * 64) (((s.dev.setMany [(.sec_cmd_status_busy, 0, 1), (.sec_cmd_status_last_cmd, 0,
        7), (.sec_cmd_status_result, 0, 0), (.h_sec_args, 0, v.toNat)])).attestBytes (bit v.toNat 54)).2)).ok)) ∧
    (∀ (m : Mark) (v : BitVec 60), s.dev.accepts (.secCmdExtend m v) = true → s.dev.flag .sec_cmd_status_busy = false ∧
        s.dev.measLog.length < 64 → exec (.secCmdExtend m v) s = .next (s.ends (((s.dev.setMany [(.sec_cmd_status_busy, 0, 1),
        (.sec_cmd_status_last_cmd, 0, 8), (.sec_cmd_status_result, 0, 0), (.h_sec_args, 0, v.toNat)])).kread .sec reqSEC
        (s.dev.get .sec_cmd_addr_addr / 64 * 64) 48).ok)) ∧
    (∀ (m : Mark) (v : BitVec 60), s.dev.accepts (.secCmdExtend m v) = true → s.dev.flag .sec_cmd_status_busy = false ∧ 64 ≤
        s.dev.measLog.length → exec (.secCmdExtend m v) s = .next (s.ends ((s.dev.setMany [(.sec_cmd_status_busy, 0, 0),
        (.sec_cmd_status_last_cmd, 0, 8), (.sec_cmd_status_result, 0, 12)]).raise .SEC_CMD_REFUSED s.dev.pathDevice [.h 8, .h
        12]).ok)) ∧
    (∀ (r : SecOutcome) (d : Dev), s.dev.flag .sec_cmd_status_busy = true ∧ s.dev.get .sec_cmd_status_last_cmd = 1 ∧ s.dev.get
        .sys_straps_boot_src ≠ 1 ∧ s.dev.takeRead .sec = some d ∧ r.kclOk = true ∧ r.flashOk = true → exec (.secCmdDone r) s =
        .next (s.endsX ((d.verifySlot s.fuses (slice (s.dev.get .h_sec_args) 56 1) r.img).secEnd 1 0))) ∧
    (∀ (r : SecOutcome) (d : Dev), s.dev.flag .sec_cmd_status_busy = true ∧ s.dev.get .sec_cmd_status_last_cmd = 1 ∧ s.dev.get
        .sys_straps_boot_src ≠ 1 ∧ s.dev.takeRead .sec = some d ∧ r.kclOk = true ∧ r.flashOk = false → exec (.secCmdDone r) s =
        .next (s.endsX ((d.slotState (slice (s.dev.get .h_sec_args) 56 1) 1).secEnd 1 4))) ∧
    (∀ (r : SecOutcome) (d : Dev), s.dev.flag .sec_cmd_status_busy = true ∧ s.dev.get .sec_cmd_status_last_cmd = 1 ∧ s.dev.get
        .sys_straps_boot_src ≠ 1 ∧ s.dev.takeRead .sec = some d ∧ r.kclOk = false → exec (.secCmdDone r) s = .next (s.endsX
        ((d.slotState (slice (s.dev.get .h_sec_args) 56 1) 1).secEnd 1 3))) ∧
    (∀ (r : SecOutcome), s.dev.flag .sec_cmd_status_busy = true ∧ s.dev.get .sec_cmd_status_last_cmd = 2 → exec (.secCmdDone r)
        s = .next (s.endsX ((s.dev.verifySlot s.fuses (slice (s.dev.get .h_sec_args) 56 1) r.img).secEnd 2 0))) ∧
    (∀ (r : SecOutcome), s.dev.flag .sec_cmd_status_busy = true ∧ s.dev.get .sec_cmd_status_last_cmd = 3 ∧ r.storeOk = true →
        exec (.secCmdDone r) s = .next (s.endsX ((s.dev.setMany [(.p_pref, 0, slice (s.dev.get .h_sec_args) 56 1),
        (.sec_boot_ctrl_preferred, 0, slice (s.dev.get .h_sec_args) 56 1), (.p_trial, 0, 1), (.p_tried, 0, 0)]).secEnd 3 0))) ∧
    (∀ (r : SecOutcome), s.dev.flag .sec_cmd_status_busy = true ∧ s.dev.get .sec_cmd_status_last_cmd = 4 ∧ r.storeOk = true →
        exec (.secCmdDone r) s = .next (s.endsX ((s.dev.setMany [(.p_pref, 0, s.dev.get .sys_boot_status_running_slot),
        (.sec_boot_ctrl_preferred, 0, s.dev.get .sys_boot_status_running_slot), (.p_trial, 0, 0), (.p_tried, 0, 0),
        (.sys_boot_status_trial, 0, 0)]).secEnd 4 0))) ∧
    (∀ (r : SecOutcome), s.dev.flag .sec_cmd_status_busy = true ∧ s.dev.get .sec_cmd_status_last_cmd = 5 ∧ s.fuses.svn ≤
        s.dev.get .sys_boot_status_svn ∧ s.dev.get .sys_boot_status_svn ≤ s.fuses.svn + r.burned.toNat → exec (.secCmdDone r) s
        = .next
        { s.endsX ((s.dev.secEnd 5 0).raise .SVN_COMMITTED s.dev.pathDevice [.h s.fuses.svn, .h (s.dev.get .sys_boot_status_svn)]) with fuses := { s.fuses with svn := s.dev.get .sys_boot_status_svn } }) ∧
    (∀ (r : SecOutcome), s.dev.flag .sec_cmd_status_busy = true ∧ s.dev.get .sec_cmd_status_last_cmd = 5 ∧ s.fuses.svn +
        r.burned.toNat < s.dev.get .sys_boot_status_svn → exec (.secCmdDone r) s = .next
        { s.endsX ((s.dev.secEnd 5 11).raise .FUSE_FAIL s.dev.pathDevice [.h (s.fuses.svn + r.burned.toNat)]) with fuses := { s.fuses with svn := s.fuses.svn + r.burned.toNat } }) ∧
    (∀ (r : SecOutcome), s.dev.flag .sec_cmd_status_busy = true ∧ s.dev.get .sec_cmd_status_last_cmd = 6 ∧ bit (s.dev.get
        .h_sec_args) 53 = false ∧ r.burned ≠ 0 → exec (.secCmdDone r) s = .next
        { s.endsX (s.dev.secEnd 6 0) with fuses := { s.fuses with ecdsaRevoked := setBit s.fuses.ecdsaRevoked (slice (s.dev.get .h_sec_args) 48 2) } }) ∧
    (∀ (r : SecOutcome), s.dev.flag .sec_cmd_status_busy = true ∧ s.dev.get .sec_cmd_status_last_cmd = 6 ∧ bit (s.dev.get
        .h_sec_args) 53 = true ∧ r.burned ≠ 0 → exec (.secCmdDone r) s = .next
        { s.endsX (s.dev.secEnd 6 0) with fuses := { s.fuses with lmsRevoked := setBit s.fuses.lmsRevoked (slice (s.dev.get .h_sec_args) 48 2) } }) ∧
    (∀ (r : SecOutcome), s.dev.flag .sec_cmd_status_busy = true ∧ s.dev.get .sec_cmd_status_last_cmd = 6 ∧ r.burned = 0 → exec
        (.secCmdDone r) s = .next (s.endsX ((s.dev.draw.2.secEnd 6 11).raise .FUSE_FAIL s.dev.pathDevice [.h s.dev.draw.1]))) ∧
    (∀ (r : SecOutcome), s.dev.flag .sec_cmd_status_busy = true ∧ s.dev.get .sec_cmd_status_last_cmd = 7 ∧ r.kclOk = true → exec
        (.secCmdDone r) s = .next (s.endsX (s.dev.secEnd 7 0))) ∧
    (∀ (r : SecOutcome) (d : Dev), s.dev.flag .sec_cmd_status_busy = true ∧ s.dev.get .sec_cmd_status_last_cmd = 8 ∧
        s.dev.takeRead .sec = some d ∧ r.kclOk = true → exec (.secCmdDone r) s = .next (s.endsX
        (({ d with measLog := d.measLog ++ [r.bytes.toList.map (fun (y : Byte) => y.toNat)] } : Dev).secEnd 8 0))) ∧
    (∀ (r : SecOutcome) (d : Dev), s.dev.flag .sec_cmd_status_busy = true ∧ s.dev.get .sec_cmd_status_last_cmd = 8 ∧
        s.dev.takeRead .sec = some d ∧ r.kclOk = false → exec (.secCmdDone r) s = .next (s.endsX (d.secEnd 8 3)))

/-- The companion link and the service ports: training, timeouts, binding, locks, frames, PFC. The k-th outstanding companion read,
not answered in time, is recorded, and a SEC read or a program image ends in its requester’s terms; with no such read nothing
changes. With PD10 on, failed lanes leave the link at half width, those lanes not OK, in training; a replay that fails, with no
ring copy or DMA write at work, counts a retraining, records it with a free cause and ends an outstanding SEC read; a retraining
asked for at half width asks for full width, and training ends at full width where that was asked and all eight lanes pass, else
at half. A binding to a port that may be bound (bindOk), of a service port not bound, is taken; one not accepted to another port
keeps the old one and is recorded. Addresses change while the service port is not bound; of a bound port in use they do not, with
ROLE_BUSY. A held lock reads locked and takes a bound port in TRAIN to IDENTIFY; block lock lost on a bound port past it loses the
link (linkLost). Of frames with a good length and check sequence, a PFC frame acts as PFC_RX, one for the fabric holding one unit
goes to its bound port (svcUnit), another waits for the other service port with its arrival time while it is locked and has room,
or is counted as passing nothing; one with a bad check sequence is counted. PFC holds each enabled priority with quanta and
releases it with 0; a pause that expires ends. XOFF is sent for a priority of a bound port whose level is reached (xoffDue), again
while it stays so, XON once it is low (xonDue). (R543, R546, R548, R550, R551, R552, R554, R555, R557) -/
def Obligations.CompanionLinkAndServicePorts : Prop :=
  ∀ s : State,
    (∀ (k : Fin 256) (x : KRead), (s.dev.reads.filter (fun (y : KRead) => y.ext))[k.val]? = some x → x.purpose = .sec → exec
        (.kclReadTimeout k) s = .next (s.endsX ((s.dev.raise .KCL_READ_TIMEOUT s.dev.pathDevice [.d x.addr, .h x.req]).dropReads
        .sec))) ∧
    (∀ (k : Fin 256) (x : KRead) (h : Nat), (s.dev.reads.filter (fun (y : KRead) => y.ext))[k.val]? = some x → x.purpose =
        .progImage h → exec (.kclReadTimeout k) s = .next (s.endsX ((s.dev.raise .KCL_READ_TIMEOUT s.dev.pathDevice [.d x.addr,
        .h x.req]).progLoadEnd h none))) ∧
    (∀ (k : Fin 256), (s.dev.reads.filter (fun (y : KRead) => y.ext))[k.val]? = none → exec (.kclReadTimeout k) s = .next
        (s.endsX (s.dev))) ∧
    (∀ (failed : BitVec 8), s.dev.domainOn 10 = true ∧ failed ≠ 0 → ∃ e, exec (.kclLaneDegrade failed) s = .next (s.ends e) ∧
        (e.get .kcl_status_width = 4 ∧ (∀ i : Fin 8, e.bitOf .kcl_status_lanes_ok 0 i = (s.dev.bitOf .kcl_status_lanes_ok 0 i &&
        !bit failed.toNat i)) ∧ e.get .h_kcl_train ≠ 0) ∧ s.dev.Keeps e (([.kcl_status_lanes_ok, .kcl_status_width,
        .h_kcl_train, .h_kcl_full] : List Fld)) ∧ e.rest = ({ s.dev with sent := e.sent } : Dev).rest) ∧
    (s.dev.domainOn 10 = true ∧ s.dev.reads = [] ∧ s.dev.kclWrites = [] ∧ s.dev.ringPend = [] → exec (.kclReplayFail) s = .next
        (s.endsX (((s.dev.draw.2.setMany [(.kcl_status_retrain_count, 0, s.dev.get .kcl_status_retrain_count + 1), (.h_kcl_full,
        0, b2n (s.dev.get .kcl_status_width == 8)), (.h_kcl_train, 0, if s.dev.get .h_kcl_train = 0 then 1 else s.dev.get
        .h_kcl_train)]).raise .KCL_RETRAIN s.dev.pathDevice [.h s.dev.draw.1, .h 0])))) ∧
    (∀ (x : KRead), s.dev.domainOn 10 = true ∧ s.dev.reads = [x] ∧ x.ext = true ∧ x.purpose = .sec ∧ s.dev.kclWrites = [] ∧
        s.dev.ringPend = [] → exec (.kclReplayFail) s = .next (s.endsX (((s.dev.draw.2.setMany [(.kcl_status_retrain_count, 0,
        s.dev.get .kcl_status_retrain_count + 1), (.h_kcl_full, 0, b2n (s.dev.get .kcl_status_width == 8)), (.h_kcl_train, 0, if
        s.dev.get .h_kcl_train = 0 then 1 else s.dev.get .h_kcl_train)]).raise .KCL_RETRAIN s.dev.pathDevice [.h s.dev.draw.1,
        .h 1]).dropReads .sec))) ∧
    (∀ (m : Mark) (v : Word), s.dev.accepts (.kclRetrainCmd m v) = true → s.dev.get .kcl_status_width = 4 → ∃ e, exec
        (.kclRetrainCmd m v) s = .next (s.ends e) ∧ (e.get .h_kcl_train = 1 ∧ e.get .h_kcl_full = 1 ∧ e.get .kcl_ctrl_retrain =
        0) ∧ s.dev.Keeps e (([.kcl_ctrl_retrain, .kcl_ctrl_read_timeout_us, .h_kcl_train, .h_kcl_full] : List Fld)) ∧ e.rest =
        ({ s.dev with sent := e.sent } : Dev).rest) ∧
    (∀ (pass : BitVec 8), s.dev.domainOn 10 = true ∧ s.dev.get .h_kcl_train ≠ 0 ∧ s.dev.flag .h_kcl_full = true ∧ pass = 0xFF →
        ∃ e, exec (.kclRetrainDone pass) s = .next (s.ends e) ∧ (e.get .kcl_status_width = 8 ∧ e.get .kcl_status_lanes_ok = 0xFF
        ∧ e.get .h_kcl_train = 0) ∧ s.dev.Keeps e (([.kcl_status_lanes_ok, .kcl_status_width, .h_kcl_train] : List Fld)) ∧
        e.rest = ({ s.dev with sent := e.sent } : Dev).rest) ∧
    (∀ (pass : BitVec 8), (s.dev.domainOn 10 = true ∧ s.dev.get .h_kcl_train ≠ 0 ∧ (s.dev.flag .h_kcl_full = false ∨ pass ≠
        0xFF)) → ∃ e, exec (.kclRetrainDone pass) s = .next (s.ends e) ∧ (e.get .kcl_status_width = 4 ∧ e.get .h_kcl_train = 0)
        ∧ s.dev.Keeps e (([.kcl_status_lanes_ok, .kcl_status_width, .h_kcl_train] : List Fld)) ∧ e.rest =
        ({ s.dev with sent := e.sent } : Dev).rest) ∧
    (∀ (m : Mark) (svc : Fin 2) (v : Word), s.dev.accepts (.svcBindWrite m svc v) = true → bit v.toNat 0 = true ∧ s.dev.flag
        .kcl_svc_cfg_bind_en svc = false ∧ s.dev.bindOk svc (slice v.toNat 4 9) = true → exec (.svcBindWrite m svc v) s = .next
        (s.endsX (s.dev.writeFields rowKCL_SVC_CFG svc v.toNat []).ok)) ∧
    (∀ (m : Mark) (svc : Fin 2) (v : Word), s.dev.accepts (.svcBindWrite m svc v) = true → s.dev.bindAccept svc (bit v.toNat 0)
        (slice v.toNat 4 9) = false ∧ slice v.toNat 4 9 ≠ s.dev.get .kcl_svc_cfg_bind_port svc → exec (.svcBindWrite m svc v) s
        = .next (s.endsX (((s.dev.writeFields rowKCL_SVC_CFG svc v.toNat []).setMany [(.kcl_svc_cfg_bind_en, svc, s.dev.get
        .kcl_svc_cfg_bind_en svc), (.kcl_svc_cfg_bind_port, svc, s.dev.get .kcl_svc_cfg_bind_port svc)]).raise .SVC_BIND_REFUSED
        s.dev.pathDevice [.h svc, .h (slice v.toNat 4 9)]).ok)) ∧
    (∀ (m : Mark) (svc : Fin 2) (r : Fin 3) (v : Word), s.dev.accepts (.kclSvcAddrWrite m svc r v) = true → s.dev.flag
        .kcl_svc_cfg_bind_en svc = false → exec (.kclSvcAddrWrite m svc r v) s = .next (s.ends (s.dev.writeFields (svcAddrRow r)
        svc v.toNat []).ok)) ∧
    (∀ (m : Mark) (svc : Fin 2) (r : Fin 3) (v : Word), s.dev.accepts (.kclSvcAddrWrite m svc r v) = true → s.dev.flag
        .kcl_svc_cfg_bind_en svc = true ∧ s.dev.fenced (s.dev.get .kcl_svc_cfg_bind_port svc) = false ∧ s.dev.role (s.dev.get
        .kcl_svc_cfg_bind_port svc) ≠ roleDISABLED → exec (.kclSvcAddrWrite m svc r v) s = .next (s.ends (s.dev.raise .ROLE_BUSY
        (s.dev.pathPort (s.dev.get .kcl_svc_cfg_bind_port svc))).ok)) ∧
    (∀ (svc : Fin 2), s.dev.domainOn 10 = true ∧ s.dev.flag .kcl_svc_cfg_bind_en svc = true ∧ s.dev.upRole (s.dev.get
        .kcl_svc_cfg_bind_port svc) = true ∧ s.dev.role (s.dev.get .kcl_svc_cfg_bind_port svc) ≠ roleANALYSIS ∧ s.dev.linkStatus
        (s.dev.get .kcl_svc_cfg_bind_port svc) = lsTRAIN → ∃ e, exec (.svcLockHeld svc) s = .next (s.endsX e) ∧ (e.get
        .kcl_svc_status_block_lock svc = 1 ∧ e.get .kcl_svc_status_fec_lock svc = 1 ∧ e.linkStatus (s.dev.get
        .kcl_svc_cfg_bind_port svc) = lsIDENTIFY) ∧ s.dev.Keeps e (slotFlds ++ countFlds ++ ([.port_status_link_status,
        .opt_margin_status_request_pending, .kcl_svc_status_fec_lock, .kcl_svc_status_block_lock, .h_win_partial] : List Fld)) ∧
        e.rest = ({ s.dev with lcWait := e.lcWait, sent := e.sent } : Dev).rest) ∧
    (∀ (svc : Fin 2), s.dev.domainOn 10 = true ∧ s.dev.flag .kcl_svc_cfg_bind_en svc = false → exec (.svcLockHeld svc) s = .next
        (s.endsX (s.dev.setMany [(.kcl_svc_status_block_lock, svc, 1), (.kcl_svc_status_fec_lock, svc, 1)]))) ∧
    (∀ (svc : Fin 2), s.dev.flag .kcl_svc_cfg_bind_en svc = true ∧ s.dev.upRole (s.dev.get .kcl_svc_cfg_bind_port svc) = true ∧
        lsTRAIN ≤ s.dev.linkStatus (s.dev.get .kcl_svc_cfg_bind_port svc) → exec (.svcLockLoss svc) s = .next (s.endsX
        ((s.dev.setMany [(.kcl_svc_status_block_lock, svc, 0), (.kcl_svc_status_fec_lock, svc, 0)]).linkLost (s.dev.get
        .kcl_svc_cfg_bind_port svc) fcLINK_LOSS))) ∧
    (∀ (svc : Fin 2) (bytes : List Byte), s.dev.domainOn 10 = true ∧ 18 ≤ (byteList bytes).length ∧ (byteList bytes).length ≤
        4160 ∧ leNat ((byteList bytes).drop ((byteList bytes).length - 4)) = ethFcs ((byteList bytes).take ((byteList
        bytes).length - 4)) ∧ isPfc ((byteList bytes).take ((byteList bytes).length - 4)) (ethTags ((byteList bytes).take
        ((byteList bytes).length - 4))).2 = false → ((s.dev.svcPort svc = none ∨ beAt ((byteList bytes).take ((byteList
        bytes).length - 4)) 0 6 ≠ s.dev.get .kcl_svc_mac_own_mac svc ∨ beAt ((byteList bytes).take ((byteList bytes).length -
        4)) (ethTags ((byteList bytes).take ((byteList bytes).length - 4))).2 2 ≠ s.dev.get .kcl_svc_cfg_fab_ethertype svc) ∧
        s.dev.flag .kcl_svc_cfg_pass_en svc = true ∧ ((s.dev.svcFifo.get (1 - svc.val) []).foldl (fun (y : Nat) (z : List Nat ×
        Nat) => y + z.1.length) 0) + (byteList bytes).length ≤ 65536 ∧ s.dev.get .kcl_svc_status_block_lock (1 - svc.val) ≠ 0) →
        exec (.svcFrameRx svc bytes) s = .next (s.endsX
        ({ s.dev with svcFifo := s.dev.svcFifo.set (1 - svc.val) [] (s.dev.svcFifo.get (1 - svc.val) [] ++ [((byteList bytes), s.dev.fabric32 / 2 ^ 16)]) }))) ∧
    (∀ (svc : Fin 2) (bytes : List Byte) (n : Nat) (u : List Nat), s.dev.domainOn 10 = true ∧ 18 ≤ (byteList bytes).length ∧
        (byteList bytes).length ≤ 4160 ∧ leNat ((byteList bytes).drop ((byteList bytes).length - 4)) = ethFcs ((byteList
        bytes).take ((byteList bytes).length - 4)) ∧ isPfc ((byteList bytes).take ((byteList bytes).length - 4)) (ethTags
        ((byteList bytes).take ((byteList bytes).length - 4))).2 = false → beAt ((byteList bytes).take ((byteList bytes).length
        - 4)) 0 6 = s.dev.get .kcl_svc_mac_own_mac svc ∧ beAt ((byteList bytes).take ((byteList bytes).length - 4)) (ethTags
        ((byteList bytes).take ((byteList bytes).length - 4))).2 2 = s.dev.get .kcl_svc_cfg_fab_ethertype svc ∧ s.dev.flag
        .kcl_svc_cfg_vid_check svc = false → s.dev.svcPort svc = some n ∧ ethUnit ((byteList bytes).take ((byteList
        bytes).length - 4)) ((ethTags ((byteList bytes).take ((byteList bytes).length - 4))).2 + 2) = some u → exec (.svcFrameRx
        svc bytes) s = .next (s.endsX (s.dev.svcUnit n u))) ∧
    (∀ (svc : Fin 2) (bytes : List Byte), s.dev.domainOn 10 = true ∧ leNat ((byteList bytes).drop ((byteList bytes).length - 4))
        ≠ ethFcs ((byteList bytes).take ((byteList bytes).length - 4)) → exec (.svcFrameRx svc bytes) s = .next (s.endsX
        (s.dev.incrSat .kcl_svc_stats_rx_bad svc))) ∧
    (∀ (svc : Fin 2) (bytes : List Byte), s.dev.domainOn 10 = true ∧ 18 ≤ (byteList bytes).length ∧ (byteList bytes).length ≤
        4160 ∧ leNat ((byteList bytes).drop ((byteList bytes).length - 4)) = ethFcs ((byteList bytes).take ((byteList
        bytes).length - 4)) ∧ isPfc ((byteList bytes).take ((byteList bytes).length - 4)) (ethTags ((byteList bytes).take
        ((byteList bytes).length - 4))).2 = false → ((s.dev.svcPort svc = none ∨ beAt ((byteList bytes).take ((byteList
        bytes).length - 4)) 0 6 ≠ s.dev.get .kcl_svc_mac_own_mac svc ∨ beAt ((byteList bytes).take ((byteList bytes).length -
        4)) (ethTags ((byteList bytes).take ((byteList bytes).length - 4))).2 2 ≠ s.dev.get .kcl_svc_cfg_fab_ethertype svc) ∧
        s.dev.flag .kcl_svc_cfg_pass_en svc = false) → exec (.svcFrameRx svc bytes) s = .next (s.endsX (s.dev.incrSat
        .kcl_svc_stats_nonfabric svc))) ∧
    (∀ (svc : Fin 2) (bytes : List Byte), s.dev.domainOn 10 = true ∧ 18 ≤ (byteList bytes).length ∧ (byteList bytes).length ≤
        4160 ∧ leNat ((byteList bytes).drop ((byteList bytes).length - 4)) = ethFcs ((byteList bytes).take ((byteList
        bytes).length - 4)) ∧ isPfc ((byteList bytes).take ((byteList bytes).length - 4)) (ethTags ((byteList bytes).take
        ((byteList bytes).length - 4))).2 = true → exec (.svcFrameRx svc bytes) s = .next (s.endsX (s.dev.pfcRx svc (beAt
        ((byteList bytes).take ((byteList bytes).length - 4)) ((ethTags ((byteList bytes).take ((byteList bytes).length - 4))).2
        + 4) 2) ((List.range 8).map (fun (y : Nat) => beAt ((byteList bytes).take ((byteList bytes).length - 4)) ((ethTags
        ((byteList bytes).take ((byteList bytes).length - 4))).2 + 6 + 2 * y) 2))))) ∧
    (∀ (svc : Fin 2) (en : BitVec 8) (quanta : Vector (BitVec 16) 8), ∃ e, exec (.pfcRx svc en quanta) s = .next (s.ends e) ∧ (∀
        p : Fin 8, e.bitOf .kcl_svc_status_paused svc p = if bit en.toNat p = true ∧ s.dev.bitOf .kcl_svc_cfg_pfc_en svc p =
        true then quanta[p.val] != 0 else s.dev.bitOf .kcl_svc_status_paused svc p) ∧ s.dev.Keeps e (([.kcl_svc_status_paused] :
        List Fld)) ∧ e.rest = ({ s.dev with sent := e.sent } : Dev).rest) ∧
    (∀ (svc : Fin 2) (prio : Fin 8), exec (.pfcPauseExpiry svc prio) s = .next (s.ends (s.dev.putB .kcl_svc_status_paused svc
        prio false))) ∧
    (∀ (svc : Fin 2) (prio : Fin 8) (n : Nat), s.dev.svcPort svc = some n ∧ s.dev.bitOf .kcl_svc_cfg_pfc_en svc prio = true →
        s.dev.bitOf .h_pfc_xoff svc prio = false ∧ s.dev.xoffDue svc n prio = true → ∃ e, exec (.pfcXoffSend svc prio) s = .next
        (s.ends e) ∧ (e.bitOf .h_pfc_xoff svc prio = true ∧ e.sent = Emit.pfc svc prio 0xFFFF :: s.dev.sent) ∧ s.dev.Keeps e
        (slotFlds ++ countFlds ++ ([.kcl_svc_stats_pfc_tx, .h_pfc_xoff] : List Fld)) ∧ e.rest = ({ s.dev with sent := e.sent } :
        Dev).rest) ∧
    (∀ (svc : Fin 2) (prio : Fin 8), s.dev.bitOf .kcl_svc_cfg_pfc_en svc prio = false → exec (.pfcXoffSend svc prio) s = .next
        (s.ends (s.dev))) ∧
    (∀ (svc : Fin 2) (prio : Fin 8) (n : Nat), s.dev.svcPort svc = some n ∧ s.dev.bitOf .kcl_svc_cfg_pfc_en svc prio = true →
        s.dev.bitOf .h_pfc_xoff svc prio = true ∧ s.dev.xoffDue svc n prio = true → ∃ e, exec (.pfcXoffRepeat svc prio) s =
        .next (s.ends e) ∧ (e.bitOf .h_pfc_xoff svc prio = true ∧ e.sent = Emit.pfc svc prio 0xFFFF :: s.dev.sent) ∧ s.dev.Keeps
        e (slotFlds ++ countFlds ++ ([.kcl_svc_stats_pfc_tx, .h_pfc_xoff] : List Fld)) ∧ e.rest = ({ s.dev with sent := e.sent }
        : Dev).rest) ∧
    (∀ (svc : Fin 2) (prio : Fin 8) (n : Nat), s.dev.svcPort svc = some n ∧ s.dev.bitOf .kcl_svc_cfg_pfc_en svc prio = true →
        s.dev.bitOf .h_pfc_xoff svc prio = true ∧ s.dev.xonDue svc n prio = true → ∃ e, exec (.pfcXonSend svc prio) s = .next
        (s.ends e) ∧ (e.bitOf .h_pfc_xoff svc prio = false ∧ e.sent = Emit.pfc svc prio 0 :: s.dev.sent) ∧ s.dev.Keeps e
        (slotFlds ++ countFlds ++ ([.kcl_svc_stats_pfc_tx, .h_pfc_xoff] : List Fld)) ∧ e.rest = ({ s.dev with sent := e.sent } :
        Dev).rest)

/-- Rails, REFCLK, sensors, the management bus and the test port. A rail out of its range resets every domain but PD0 (resetAll); for
longer than 20 us while the device runs, one of the first two takes a POWER reset, which leaves what ResetsAndTheBoot says,
another shuts the device down (shutAll) with RAIL_FAULT, its rail number a free value, and alert 4. The last rail back in range
starts the domains that are on; one of several is only noted, and one that is not out changes nothing. A trim moves a rail at most
10 mV and within its span once the boot is past ROM_START; one not acknowledged, or with a status alert, stops it with AVS_FAULT
and alert 3. A REFCLK lost while the device runs shuts it down with REFCLK_LOST and alert 5; lost again, nothing. A sample is
stored (sensStore). While VDD_AON and VDD_IO are in range and PORST_N is not asserted, its warning, limit and cold-hold episodes
follow; without a trip, below the trip level nothing more, and at it a COLD reset with cause THERMAL follows and the trip holds;
in a trip, it ends once every sensor is 10 degrees below its level. The reading 0x80 is only stored. The bus answers the sensors
and the status, clears alerts by writing 1, and does not acknowledge other commands; it answers nothing while those rails are out.
An EXTEST instruction of the test port drives its levels only in board test and acts as BYPASS else; IDCODE gives the
identification code, BYPASS a delay of one bit; TRST_N selects IDCODE. (R563, R564, R568, R571, R572, R573, R574, R576, R577,
R578) -/
def Obligations.BoardPins : Prop :=
  ∀ s : State,
    (∀ (rail : Fin 12) (mv : BitVec 16) (sustained : Bool), sustained = false → exec (.railOutOfRange rail mv sustained) s =
        .next (s.endsX ((s.dev.putB .h_rail_out 0 rail true).resetAll))) ∧
    (∀ (rail : Fin 12) (mv : BitVec 16) (sustained : Bool), sustained = true ∧ 2 ≤ rail.val ∧ s.dev.alive = true → exec
        (.railOutOfRange rail mv sustained) s = .next (s.endsX (((((s.dev.putB .h_rail_out 0 rail
        true).resetAll).shutAll.draw.2).raise .RAIL_FAULT s.dev.pathDevice [.h ((s.dev.putB .h_rail_out 0 rail
        true).resetAll).shutAll.draw.1, .h mv.toNat]).alert 4))) ∧
    (∀ (rail : Fin 12) (mv : BitVec 16) (sustained : Bool), sustained = true ∧ rail.val ≤ 1 ∧ s.dev.alive = true → Does
        (.railOutOfRange rail mv sustained) s (fun t => t.mem.entries = [] ∧ t.pending = s.pending ∧ t.dev.get
        .sys_reset_info_last_level = 0 ∧ t.dev.get .sys_reset_info_last_cause = 1 ∧ t.dev.rest =
        { ({} : Dev) with keepStore := s.dev.keepStore, wearHist := s.dev.wearHist, sent := t.dev.sent }.rest ∧ (∀ (f : Fld) (i
        : Nat), f ∉ coldKept → f ∉ [.sys_reset_info_last_level, .sys_reset_info_last_cause, .sys_reset_info_stage_at_reset] →
        t.dev.get f i = State.reset.dev.get f i))) ∧
    (∀ (rail : Fin 12) (trained : BitVec 64), s.dev.bitOf .h_rail_out 0 rail = true ∧ (s.dev.putB .h_rail_out 0 rail false).get
        .h_rail_out = 0 → exec (.railReturnInRange rail trained) s = .next (s.endsX (((List.range 20).filter (s.dev.putB
        .h_rail_out 0 rail false).pdOn).foldl (fun (d : Dev) k => d.domainStart k trained.toNat) (s.dev.putB .h_rail_out 0 rail
        false)))) ∧
    (∀ (rail : Fin 12) (trained : BitVec 64), s.dev.bitOf .h_rail_out 0 rail = false → exec (.railReturnInRange rail trained) s
        = .next (s.endsX (s.dev))) ∧
    (∀ (rail : Fin 12) (trained : BitVec 64), s.dev.bitOf .h_rail_out 0 rail = true ∧ (s.dev.putB .h_rail_out 0 rail false).get
        .h_rail_out ≠ 0 → exec (.railReturnInRange rail trained) s = .next (s.endsX (s.dev.putB .h_rail_out 0 rail false))) ∧
    (∀ (rail : Fin 3) (mv : BitVec 12) (ack alert : Bool), s.dev.alive = true ∧ s.dev.flag .h_avs_stop rail = false ∧ ack = true
        ∧ alert = false ∧ s.dev.stage ≠ 0 → exec (.avsTrim rail mv ack alert) s = .next (s.ends (s.dev.set .h_avs_mv rail (max
        (max (avsLo rail) (s.dev.get .h_avs_mv rail - 10)) (min (min (avsHi rail) (s.dev.get .h_avs_mv rail + 10)) mv.toNat))))) ∧
    (∀ (rail : Fin 3) (mv : BitVec 12) (ack alert : Bool), (s.dev.alive = true ∧ s.dev.flag .h_avs_stop rail = false ∧ (ack =
        false ∨ alert = true)) → exec (.avsTrim rail mv ack alert) s = .next (s.ends (((s.dev.set .h_avs_stop rail 1).raise
        .AVS_FAULT s.dev.pathDevice [.h rail, .h (s.dev.get .h_avs_mv rail)]).alert 3))) ∧
    (s.dev.alive = true ∧ s.dev.flag .h_refclk = false → exec (.refclkLoss) s = .next (s.endsX ((((s.dev.shutAll).set .h_refclk
        0 1).raise .REFCLK_LOST s.dev.pathDevice [.h (((s.dev.shutAll).set .h_refclk 0 1).get .time_ctrl_ref_sel)]).alert 5))) ∧
    ((s.dev.alive = false ∨ s.dev.flag .h_refclk = true) → exec (.refclkLoss) s = .next (s.endsX (s.dev))) ∧
    (∀ (sensor : Fin 72) (temp : BitVec 8), temp = 0x80 → exec (.thermSample sensor temp) s = .next (s.endsX ((s.dev.sensStore
        sensor temp.toNat)))) ∧
    (∀ (sensor : Fin 72) (temp : BitVec 8), s.dev.flag .h_porst = false ∧ s.dev.aonOk = true ∧ s.dev.flag .h_trip = true ∧ temp
        ≠ 0x80 ∧ (((s.dev.sensStore sensor temp.toNat).thermEpisodes sensor (sgn 8 temp.toNat)).thermCold sensor (sgn 8
        temp.toNat)).tripOver = true → exec (.thermSample sensor temp) s = .next (s.endsX (((((s.dev.sensStore sensor
        temp.toNat).thermEpisodes sensor (sgn 8 temp.toNat)).thermCold sensor (sgn 8 temp.toNat)).set .h_trip 0 0).emit (.pin
        "THERMTRIP_N" 1)))) ∧
    (∀ (sensor : Fin 72) (temp : BitVec 8), s.dev.flag .h_porst = false ∧ s.dev.flag .h_trip = false ∧ s.dev.aonOk = true → temp
        ≠ 0x80 ∧ sgn 8 temp.toNat < thermTrip (sensZone sensor).1 → exec (.thermSample sensor temp) s = .next (s.endsX
        (((s.dev.sensStore sensor temp.toNat).thermEpisodes sensor (sgn 8 temp.toNat)).thermCold sensor (sgn 8 temp.toNat)))) ∧
    (∀ (sensor : Fin 72) (temp : BitVec 8), s.dev.flag .h_porst = false ∧ s.dev.flag .h_trip = false ∧ s.dev.aonOk = true → temp
        ≠ 0x80 ∧ thermTrip (sensZone sensor).1 ≤ sgn 8 temp.toNat → Does (.thermSample sensor temp) s (fun t => t.mem.entries =
        [] ∧ t.pending = s.pending ∧ t.dev.get .sys_reset_info_last_level = 1 ∧ t.dev.get .sys_reset_info_last_cause = 3 ∧
        t.dev.rest = { ({} : Dev) with keepStore := t.dev.keepStore, wearHist := s.dev.wearHist, sent := t.dev.sent }.rest ∧ (∀
        (f : Fld) (i : Nat), f ∉ coldKept → f ∉ [.sys_reset_info_last_level, .sys_reset_info_last_cause,
        .sys_reset_info_stage_at_reset] → t.dev.get f i = State.reset.dev.get f i) ∧ t.dev.get .h_trip = 1 ∧ t.dev.get .h_sens
        sensor = temp.toNat)) ∧
    (s.dev.aonOk = true → exec (.i2cReadTherm) s = .next (s.ends (s.dev.emit (.i2c (some (leBytes 8 s.dev.i2cTherm)))))) ∧
    (s.dev.aonOk = false → exec (.i2cReadTherm) s = .next (s.ends (s.dev))) ∧
    (s.dev.aonOk = false → exec (.i2cReadStatus) s = .next (s.ends (s.dev))) ∧
    (∀ (v : Word), s.dev.aonOk = false → exec (.i2cWriteStatus v) s = .next (s.ends (s.dev))) ∧
    (∀ (cmd : BitVec 8) (data : List Byte), s.dev.aonOk = false → exec (.i2cBadCommand cmd data) s = .next (s.ends (s.dev))) ∧
    (s.dev.aonOk = true → exec (.i2cReadStatus) s = .next (s.ends (s.dev.emit (.i2c (some (leBytes 8 (s.dev.get
        .sys_boot_status_stage * 2 ^ 56 + s.dev.get .sys_reset_info_last_cause * 2 ^ 52 + s.dev.get .i2c_status_alert))))))) ∧
    (∀ (v : Word), s.dev.aonOk = true → ∃ e, exec (.i2cWriteStatus v) s = .next (s.ends e) ∧ (∀ k : Fin 7, e.bitOf
        .i2c_status_alert 0 k = (s.dev.bitOf .i2c_status_alert 0 k && !bit v.toNat k)) ∧ s.dev.Keeps e (([.i2c_status_alert] :
        List Fld)) ∧ e.rest = ({ s.dev with sent := e.sent } : Dev).rest) ∧
    (∀ (cmd : BitVec 8) (data : List Byte), (s.dev.aonOk = true ∧ cmd ≠ 0x11 ∧ (cmd ≠ 0x10 ∨ data ≠ [])) → exec (.i2cBadCommand
        cmd data) s = .next (s.ends (s.dev.emit (.i2c none)))) ∧
    (∀ (levels : List Bool), s.dev.flag .h_board_test = true → exec (.tapExtest levels) s = .next (s.ends ((s.dev.set .h_tap 0
        2).emit (.boundary 2 levels)))) ∧
    (∀ (levels : List Bool), s.dev.flag .h_board_test = false → exec (.tapExtest levels) s = .next (s.ends ((s.dev.set .h_tap 0
        2).emit (.tap ((false :: levels).take levels.length))))) ∧
    (∀ (levels : List Bool), s.dev.flag .h_board_test = false → exec (.tapExtestPulse levels) s = .next (s.ends ((s.dev.set
        .h_tap 0 3).emit (.tap ((false :: levels).take levels.length))))) ∧
    (∀ (levels : List Bool), s.dev.flag .h_board_test = false → exec (.tapExtestTrain levels) s = .next (s.ends ((s.dev.set
        .h_tap 0 4).emit (.tap ((false :: levels).take levels.length))))) ∧
    (∀ (levels : List Bool), s.dev.flag .h_board_test = true → exec (.tapExtestPulse levels) s = .next (s.ends ((s.dev.set
        .h_tap 0 3).emit (.boundary 3 levels)))) ∧
    (∀ (levels : List Bool), s.dev.flag .h_board_test = true → exec (.tapExtestTrain levels) s = .next (s.ends ((s.dev.set
        .h_tap 0 4).emit (.boundary 4 levels)))) ∧
    (exec (.tapIdcode) s = .next (s.ends ((s.dev.set .h_tap 0 0).emit (.tap ((List.range 32).map (bit (0xA0000000 + 0x0512 * 2 ^
        12 + Config.jep106 % 2 ^ 11 * 2 + 1))))))) ∧
    (∀ (tdi : List Bool), exec (.tapBypass tdi) s = .next (s.ends ((s.dev.set .h_tap 0 1).emit (.tap ((false :: tdi).take
        tdi.length))))) ∧
    (exec (.trstNAssert) s = .next (s.ends (s.dev.set .h_tap 0 0)))

/-- An entry with a reserved bit set, or an operand out of range, is not run and fails with ENCODING. For every queue whose head is
taken up, where a reserved bit ([23:20], [16] or [3]) of its first word is not 0, the operand of a NOP or FENCE is not 0, or that
of an INLINE has a count outside 1 to 6 or bits above it: ENTRY_START leaves no entry running, none has begun, the head has left
the buffer, and the queue's last failure is its index with status 1, ENCODING. (kind has two bits and no reserved value; every
operand of a CALL lies in 0 to 4,095.) (R431) -/
def Obligations.MalformedEntriesFailWithEncoding : Prop :=
  ∀ s : State,
    (∀ (q : Fin 512) (j : Nat) (ws : List Nat), s.dev.qHead q (s.dev.queue q) = some (j, ws) → (slice (ws.getD 0 0) 20 4 ≠ 0 ∨
        bit (ws.getD 0 0) 16 = true ∨ bit (ws.getD 0 0) 3 = true ∨ ((slice (ws.getD 0 0) 1 2 = 0 ∨ slice (ws.getD 0 0) 1 2 = 3)
        ∧ slice (ws.getD 0 0) 4 12 ≠ 0) ∨ (slice (ws.getD 0 0) 1 2 = 2 ∧ (slice (ws.getD 0 0) 4 3 = 0 ∨ slice (ws.getD 0 0) 4 3
        = 7 ∨ slice (ws.getD 0 0) 7 9 ≠ 0))) → ∃ e, exec (.entryStart q) s = .next (s.endsX e) ∧ (e.runs = s.dev.runs ∧ (e.queue
        q).run = none ∧ (e.queue q).buf = (s.dev.queue q).buf.drop 1 ∧ e.get .csq_q_last_entry q = j ∧ e.get .csq_q_last_status
        q = 1) ∧ s.dev.Keeps e (queueFlds ++ countFlds ++ ([.h_csq_rr] : List Fld)) ∧ e.rest =
        ({ s.dev with ops := e.ops, reads := e.reads, readWaits := e.readWaits, queues := e.queues, ctxs := e.ctxs, rrSteps := e.rrSteps, runs := e.runs, progs := e.progs, sent := e.sent }
        : Dev).rest) ∧
    (∀ w : Nat, entKind w < 4 ∧ entOperand w < 4096)

/-- A request that concerns PD7 while a context or descriptor that uses the WRA is loaded is refused. While a loaded context has its
wra bit, or a descriptor is loaded whose kind uses the WRA, every request for domain 7, on or off, changes nothing but its record
PD_DEP_REFUSED, which names domain 7, the command, the blocker WRA_IN_USE (SWITCHING while the domain switches) and the requester:
for PD_CMD_ON and PD_CMD_OFF, taken as FABRIC writes, and for PROG.POWER, whose operation ends with code 9. Without such a use no
request for domain 7 is blocked by WRA_IN_USE. (R29) -/
def Obligations.WraDomainSwitchesOnlyAtConfiguration : Prop :=
  ∀ s : State,
    (∀ (m : Mark) (domain : Fin 32), s.dev.accepts (.pdCmdOn m domain) = true → domain.val = 7 → ((∃ c ∈ s.dev.loadedCtxs, hxWra
        c.2.hdr = true) ∨ (∃ x ∈ s.dev.loadedDescs, dxKind x.2.words ≠ dkGATHER_CMB)) → exec (.pdCmdOn m domain) s = .next
        (s.endsX (s.dev.raise .PD_DEP_REFUSED s.dev.pathDevice [.h 7, .h 1, .h (if s.dev.bitOf .sys_pd_status_busy 0 7 then
        0x207 else 0x102), .h 0]).ok)) ∧
    (∀ (m : Mark) (domain : Fin 32), s.dev.accepts (.pdCmdOff m domain) = true → domain.val = 7 → ((∃ c ∈ s.dev.loadedCtxs,
        hxWra c.2.hdr = true) ∨ (∃ x ∈ s.dev.loadedDescs, dxKind x.2.words ≠ dkGATHER_CMB)) → exec (.pdCmdOff m domain) s =
        .next (s.endsX (s.dev.raise .PD_DEP_REFUSED s.dev.pathDevice [.h 7, .h 2, .h (if s.dev.bitOf .sys_pd_status_busy 0 7
        then 0x207 else 0x102), .h 0]).ok)) ∧
    (∀ (q : Fin 512) (w i : Nat) (n : Entry), s.dev.issues q 0xA2 w i n → slice w 0 5 = 7 ∧ bit w 5 = true → s.dev.opsOpen q
        n.run < 16 → ((∃ c ∈ s.dev.loadedCtxs, hxWra c.2.hdr = true) ∨ (∃ x ∈ s.dev.loadedDescs, dxKind x.2.words ≠
        dkGATHER_CMB)) → exec (.dxProgPower q) s = .next (s.endsX (((s.dev.charged q w).raise .PD_DEP_REFUSED s.dev.pathDevice
        [.h 7, .h 1, .h (if s.dev.bitOf .sys_pd_status_busy 0 7 then 0x207 else 0x102), .h (reqQUEUE q)]).starts q w i n (.power
        7 true) (some 9)))) ∧
    (∀ (q : Fin 512) (w i : Nat) (n : Entry), s.dev.issues q 0xA2 w i n → slice w 0 5 = 7 ∧ bit w 5 = false → s.dev.opsOpen q
        n.run < 16 → ((∃ c ∈ s.dev.loadedCtxs, hxWra c.2.hdr = true) ∨ (∃ x ∈ s.dev.loadedDescs, dxKind x.2.words ≠
        dkGATHER_CMB)) → exec (.dxProgPower q) s = .next (s.endsX (((s.dev.charged q w).raise .PD_DEP_REFUSED s.dev.pathDevice
        [.h 7, .h 2, .h (if s.dev.bitOf .sys_pd_status_busy 0 7 then 0x207 else 0x102), .h (reqQUEUE q)]).starts q w i n (.power
        7 false) (some 9)))) ∧
    (¬ ((∃ c ∈ s.dev.loadedCtxs, hxWra c.2.hdr = true) ∨ (∃ x ∈ s.dev.loadedDescs, dxKind x.2.words ≠ dkGATHER_CMB)) → ∀ on :
        Bool, s.dev.pdBlocker 7 on ≠ some 0x102)

/-- REVOKE burns the revoke bit of the key index named, and is refused for the key of the running image. A REVOKE of an ECDSA key (bit
53 of SEC_CMD 0) or an LMS key (1), index in [49:48], that no other command precedes: the index with which the running image was
verified is refused with result 10, KEY_IN_USE; any other begins, and its end, where the burn verifies, sets that index's bit
among the revoke bits of its kind and no other fuse. SEC_FUSE shows four indices of each kind, one revoke bit each. (R533) -/
def Obligations.RevokeBurnsTheBitOfItsKey : Prop :=
  ∀ s : State,
    (∀ (m : Mark) (v : BitVec 60), s.dev.accepts (.secCmdRevoke m v) = true → s.dev.flag .sec_cmd_status_busy = false ∧
        s.dev.flag .h_run_valid = true ∧ bit v.toNat 53 = false ∧ slice v.toNat 48 2 = s.dev.get .h_run_ecdsa → exec
        (.secCmdRevoke m v) s = .next (s.ends ((s.dev.setMany [(.sec_cmd_status_busy, 0, 0), (.sec_cmd_status_last_cmd, 0, 6),
        (.sec_cmd_status_result, 0, 10)]).raise .SEC_CMD_REFUSED s.dev.pathDevice [.h 6, .h 10]).ok)) ∧
    (∀ (m : Mark) (v : BitVec 60), s.dev.accepts (.secCmdRevoke m v) = true → s.dev.flag .sec_cmd_status_busy = false ∧
        s.dev.flag .h_run_valid = true ∧ bit v.toNat 53 = true ∧ slice v.toNat 48 2 = s.dev.get .h_run_lms → exec (.secCmdRevoke
        m v) s = .next (s.ends ((s.dev.setMany [(.sec_cmd_status_busy, 0, 0), (.sec_cmd_status_last_cmd, 0, 6),
        (.sec_cmd_status_result, 0, 10)]).raise .SEC_CMD_REFUSED s.dev.pathDevice [.h 6, .h 10]).ok)) ∧
    (∀ (m : Mark) (v : BitVec 60), s.dev.accepts (.secCmdRevoke m v) = true → (s.dev.flag .sec_cmd_status_busy = false ∧
        (s.dev.flag .h_run_valid = true → slice v.toNat 48 2 ≠ s.dev.get .h_run_ecdsa) ∧ bit v.toNat 53 = false) → exec
        (.secCmdRevoke m v) s = .next (s.ends ((s.dev.setMany [(.sec_cmd_status_busy, 0, 1), (.sec_cmd_status_last_cmd, 0, 6),
        (.sec_cmd_status_result, 0, 0), (.h_sec_args, 0, v.toNat)])).ok)) ∧
    (∀ (m : Mark) (v : BitVec 60), s.dev.accepts (.secCmdRevoke m v) = true → (s.dev.flag .sec_cmd_status_busy = false ∧
        (s.dev.flag .h_run_valid = true → slice v.toNat 48 2 ≠ s.dev.get .h_run_lms) ∧ bit v.toNat 53 = true) → exec
        (.secCmdRevoke m v) s = .next (s.ends ((s.dev.setMany [(.sec_cmd_status_busy, 0, 1), (.sec_cmd_status_last_cmd, 0, 6),
        (.sec_cmd_status_result, 0, 0), (.h_sec_args, 0, v.toNat)])).ok)) ∧
    (∀ (r : SecOutcome), s.dev.flag .sec_cmd_status_busy = true ∧ s.dev.get .sec_cmd_status_last_cmd = 6 ∧ bit (s.dev.get
        .h_sec_args) 53 = false ∧ r.burned ≠ 0 → Does (.secCmdDone r) s (fun t => t.fuses =
        { s.fuses with ecdsaRevoked := setBit s.fuses.ecdsaRevoked (slice (s.dev.get .h_sec_args) 48 2) } ∧ t.dev.get
        .sec_cmd_status_result = 0)) ∧
    (∀ (r : SecOutcome), s.dev.flag .sec_cmd_status_busy = true ∧ s.dev.get .sec_cmd_status_last_cmd = 6 ∧ bit (s.dev.get
        .h_sec_args) 53 = true ∧ r.burned ≠ 0 → Does (.secCmdDone r) s (fun t => t.fuses =
        { s.fuses with lmsRevoked := setBit s.fuses.lmsRevoked (slice (s.dev.get .h_sec_args) 48 2) } ∧ t.dev.get
        .sec_cmd_status_result = 0)) ∧
    (∀ k : Fin 4, bit (s.dev.readReg s.fuses rowSEC_FUSE 0) (8 + k) = bit s.fuses.ecdsaRevoked k ∧ bit (s.dev.readReg s.fuses
        rowSEC_FUSE 0) (12 + k) = bit s.fuses.lmsRevoked k) ∧
    (∀ x : Nat, slice x 48 2 < 4)

/-- A snapshot during the dump of the one before is not taken; of several in one tick one is taken. While a dump runs: SNAP_NOW,
SNAPSHOT_TIME and a snapshot of any source leave every shadow and the time of the last snapshot as they were, add 1 to
snaps_missed (below its top, where it sticks), and write BG_OVERRUN of activity 19. Of 1 + more snapshot times that are due
together (Dev.snapDue), one is taken where no dump runs, its PMC shadows the counts of blocks that are on, and more are added to
snaps_missed; while a dump runs, all 1 + more. (R498) -/
def Obligations.SnapshotDuringADumpIsMissed : Prop :=
  ∀ s : State,
    (∀ (m : Mark) (v : Word), s.dev.accepts (.snapNow m v) = true → s.dev.domainOn 1 = true ∧ s.dev.flag .perf_dump_status_busy
        = true ∧ s.dev.get .perf_dump_status_snaps_missed < 65535 → ∃ e, exec (.snapNow m v) s = .next (s.ends e) ∧ (∀ i : Nat,
        e.get .perf_snap_cycle_cycles i = s.dev.get .perf_snap_cycle_cycles i ∧ e.get .perf_snap_pmc_count i = s.dev.get
        .perf_snap_pmc_count i ∧ e.get .perf_blk_status_snap_ovf i = s.dev.get .perf_blk_status_snap_ovf i) ∧ e.get
        .perf_last_snap_last_snap 0 = s.dev.get .perf_last_snap_last_snap 0 ∧ e.get .perf_dump_status_snaps_missed = s.dev.get
        .perf_dump_status_snaps_missed + 1 ∧ e.events = (s.dev.raise .BG_OVERRUN (s.dev.pathDevice ucBG_ACTIVITY 19)).events) ∧
    (∀ (more : BitVec 16), more.toNat < s.dev.snapDue.2 ∧ s.dev.domainOn 1 = true ∧ s.dev.flag .perf_dump_status_busy = true ∧
        s.dev.get .perf_dump_status_snaps_missed + more.toNat < 65535 → ∃ e, exec (.snapshotTime more) s = .next (s.ends e) ∧ (∀
        i : Nat, e.get .perf_snap_cycle_cycles i = s.dev.get .perf_snap_cycle_cycles i ∧ e.get .perf_snap_pmc_count i =
        s.dev.get .perf_snap_pmc_count i ∧ e.get .perf_blk_status_snap_ovf i = s.dev.get .perf_blk_status_snap_ovf i) ∧ e.get
        .perf_last_snap_last_snap 0 = s.dev.get .perf_last_snap_last_snap 0 ∧ e.get .perf_dump_status_snaps_missed = s.dev.get
        .perf_dump_status_snaps_missed + 1 + more.toNat ∧ e.events = (s.dev.raise .BG_OVERRUN (s.dev.pathDevice ucBG_ACTIVITY
        19)).events) ∧
    (∀ (more : BitVec 16), more.toNat < s.dev.snapDue.2 ∧ s.dev.domainOn 1 = true ∧ s.dev.flag .perf_dump_status_busy = false ∧
        s.dev.get .perf_dump_status_snaps_missed + more.toNat < 65536 → ∃ e, exec (.snapshotTime more) s = .next (s.ends e) ∧ (∀
        k : Fin 4456, s.dev.blkOn (k / 8) = true → e.get .perf_snap_pmc_count k = s.dev.get .perf_pmc_count k % 2 ^ 48) ∧ e.get
        .perf_last_snap_last_snap = s.dev.fabricNs % 2 ^ 64 ∧ e.get .perf_dump_status_snaps_missed = s.dev.get
        .perf_dump_status_snaps_missed + more.toNat) ∧
    (∀ src : Nat, s.dev.domainOn 1 = true → s.dev.flag .perf_dump_status_busy = true → s.dev.snapshot src = ((s.dev.incrSat
        .perf_dump_status_snaps_missed 0 1).incrSat .h_dump_miss 0 1).raise .BG_OVERRUN (s.dev.pathDevice ucBG_ACTIVITY 19))

/-- Where nothing waits for the engines, the end of a command touches the time unit only. For every device in which no frame, no
undelivered destination and no work waits for the collective engine, the memory engine or the array: what the engines do at the
end of a command leaves everything but register fields, events and draws as it was, and of the fields only those of the time unit,
which looks at its parent ports again, and counters of events may differ. (R404, R405, R409, R415) -/
def Obligations.SettlingAnIdleBlockTouchesTimeOnly : Prop :=
  ∀ d : Dev, d.idle → d.settle.rest = d.rest ∧
    ∀ (f : Fld) (i : Nat), f ∉ timeFlds → f ∉ countFlds → d.settle.get f i = d.get f i
end

