-- ==== Sys2Proof/Laws/State.lean ====
section
/-! SUPPORT. What a reader of State sees after each update of it: tables by number, register fields, the parts of the block that a
register write leaves alone, and the ways a command's effect reaches the state. -/

namespace Sys2Proof.Machine

/-! ### Tables by number -/

theorem lookupKey_eraseKey {α : Type} (j k : Nat) (l : List (Nat × α)) :
    lookupKey j (eraseKey k l) = if j = k then none else lookupKey j l := by
  induction l with
  | nil => simp [eraseKey, lookupKey]
  | cons e r ih =>
    obtain ⟨a, v⟩ := e
    by_cases hak : a = k <;> by_cases hjk : j = k <;> by_cases haj : a = j <;> simp_all [eraseKey, lookupKey]

theorem lookupKey_insertKey {α : Type} (j k : Nat) (v : α) (l : List (Nat × α)) (h : lookupKey k l = none) :
    lookupKey j (insertKey k v l) = if j = k then some v else lookupKey j l := by
  induction l with
  | nil =>
    by_cases hj : j = k
    · simp [insertKey, lookupKey, hj]
    · simp [insertKey, lookupKey, hj, Ne.symm hj]
  | cons e r ih =>
    obtain ⟨a, u⟩ := e
    by_cases hak : a = k
    · simp [lookupKey, hak] at h
    · have hr : lookupKey k r = none := by simpa [lookupKey, hak] using h
      have ih := ih hr
      by_cases hlt : k < a
      · by_cases hj : j = k
        · simp [insertKey, lookupKey, hlt, hj]
        · simp [insertKey, lookupKey, hlt, hj, Ne.symm hj]
      · by_cases hj : j = k
        · simp [insertKey, lookupKey, hlt, hj, hak]; simpa [hj] using ih
        · by_cases haj : a = j
          · subst haj; simp [insertKey, lookupKey, hlt, hj]
          · simp [insertKey, lookupKey, hlt, hj, haj]; simpa [hj] using ih

/-- A table read after a write, where both take the same default. -/
theorem SMap.get_set {α : Type} [DecidableEq α] (m : SMap α) (j k : Nat) (d v : α) :
    (m.set k d v).get j d = if j = k then v else m.get j d := by
  unfold SMap.set SMap.get
  by_cases hv : v = d
  · by_cases hj : j = k <;> simp [hv, hj, lookupKey_eraseKey]
  · have h : lookupKey k (eraseKey k m.entries) = none := by simp [lookupKey_eraseKey]
    by_cases hj : j = k <;> simp [hv, hj, lookupKey_insertKey _ _ _ _ h, lookupKey_eraseKey]

@[simp] theorem SMap.get_set_same {α : Type} [DecidableEq α] (m : SMap α) (k : Nat) (d v : α) : (m.set k d v).get k d = v := by
  simp [SMap.get_set]

/-- A write of one key leaves every other as it was. -/
theorem SMap.get_set_other {α : Type} [DecidableEq α] (m : SMap α) {j k : Nat} (h : j ≠ k) (d e v : α) :
    (m.set k d v).get j e = m.get j e := by
  unfold SMap.set SMap.get
  by_cases hv : v = d
  · simp [hv, h, lookupKey_eraseKey]
  · have hn : lookupKey k (eraseKey k m.entries) = none := by simp [lookupKey_eraseKey]
    simp [hv, h, lookupKey_insertKey _ _ _ _ hn, lookupKey_eraseKey]

@[simp] theorem SMap.getOpt_set_same {α : Type} [DecidableEq α] (m : SMap (Option α)) (k : Nat) (v : Option α) :
    (m.set k none v).getOpt k = v := SMap.get_set_same m k none v

theorem SMap.getOpt_set_other {α : Type} [DecidableEq α] (m : SMap (Option α)) {j k : Nat} (h : j ≠ k) (v : Option α) :
    (m.set k none v).getOpt j = m.getOpt j := SMap.get_set_other m h none none v

/-! ### Register fields -/

theorem Fld.ctorIdx_inj {f g : Fld} (h : f.ctorIdx = g.ctorIdx) : f = g := by
  rw [← Fld.ofNat_ctorIdx f, ← Fld.ofNat_ctorIdx g, h]

/-- A field read after a field write. -/
theorem Dev.get_set (d : Dev) (f g : Fld) (i j v : Nat) :
    (d.set f i v).get g j = if g.ctorIdx = f.ctorIdx ∧ j = i then v % 2 ^ f.width else d.get g j := by
  by_cases hf : g.ctorIdx = f.ctorIdx
  · have e := Fld.ctorIdx_inj hf
    subst e
    by_cases hj : j = i
    · subst hj; simp [Dev.get, Dev.set]
    · simp [Dev.get, Dev.set, hj, SMap.get_set_other]
  · simp [Dev.get, Dev.set, hf, SMap.get_set_other]

@[simp] theorem Dev.get_set_same (d : Dev) (f : Fld) (i v : Nat) : (d.set f i v).get f i = v % 2 ^ f.width := by
  simp [Dev.get_set]

theorem Dev.get_set_fld (d : Dev) {f g : Fld} (h : g.ctorIdx ≠ f.ctorIdx) (i j v : Nat) : (d.set f i v).get g j = d.get g j := by
  simp [Dev.get_set, h]

theorem Dev.get_set_idx (d : Dev) (f : Fld) {i j : Nat} (h : j ≠ i) (v : Nat) : (d.set f i v).get f j = d.get f j := by
  simp [Dev.get_set, h]

@[simp] theorem Dev.flag_set_same (d : Dev) (f : Fld) (i v : Nat) : (d.set f i v).flag f i = (v % 2 ^ f.width != 0) := by
  simp [Dev.flag]

/-! ### A register write leaves the rest of the block alone -/

@[simp] theorem Dev.set_events (d : Dev) (f : Fld) (i v : Nat) : (d.set f i v).events = d.events := rfl
@[simp] theorem Dev.set_fifo (d : Dev) (f : Fld) (i v : Nat) : (d.set f i v).fifo = d.fifo := rfl
@[simp] theorem Dev.set_limits (d : Dev) (f : Fld) (i v : Nat) : (d.set f i v).limits = d.limits := rfl
@[simp] theorem Dev.set_bank (d : Dev) (f : Fld) (i v : Nat) : (d.set f i v).bank = d.bank := rfl
@[simp] theorem Dev.set_keep (d : Dev) (f : Fld) (i v : Nat) : (d.set f i v).keep = d.keep := rfl
@[simp] theorem Dev.set_ringPend (d : Dev) (f : Fld) (i v : Nat) : (d.set f i v).ringPend = d.ringPend := rfl
@[simp] theorem Dev.set_frames (d : Dev) (f : Fld) (i v : Nat) : (d.set f i v).frames = d.frames := rfl
@[simp] theorem Dev.set_nextFid (d : Dev) (f : Fld) (i v : Nat) : (d.set f i v).nextFid = d.nextFid := rfl
@[simp] theorem Dev.set_waits (d : Dev) (f : Fld) (i v : Nat) : (d.set f i v).waits = d.waits := rfl
@[simp] theorem Dev.set_egress (d : Dev) (f : Fld) (i v : Nat) : (d.set f i v).egress = d.egress := rfl
@[simp] theorem Dev.set_lcWait (d : Dev) (f : Fld) (i v : Nat) : (d.set f i v).lcWait = d.lcWait := rfl
@[simp] theorem Dev.set_sending (d : Dev) (f : Fld) (i v : Nat) : (d.set f i v).sending = d.sending := rfl
@[simp] theorem Dev.set_receiving (d : Dev) (f : Fld) (i v : Nat) : (d.set f i v).receiving = d.receiving := rfl
@[simp] theorem Dev.set_ftab (d : Dev) (f : Fld) (i v : Nat) : (d.set f i v).ftab = d.ftab := rfl
@[simp] theorem Dev.set_swSkipped (d : Dev) (f : Fld) (i v : Nat) : (d.set f i v).swSkipped = d.swSkipped := rfl
@[simp] theorem Dev.set_groups (d : Dev) (f : Fld) (i v : Nat) : (d.set f i v).groups = d.groups := rfl
@[simp] theorem Dev.set_mcWords (d : Dev) (f : Fld) (i v : Nat) : (d.set f i v).mcWords = d.mcWords := rfl
@[simp] theorem Dev.set_gates (d : Dev) (f : Fld) (i v : Nat) : (d.set f i v).gates = d.gates := rfl
@[simp] theorem Dev.set_deficits (d : Dev) (f : Fld) (i v : Nat) : (d.set f i v).deficits = d.deficits := rfl
@[simp] theorem Dev.set_echoes (d : Dev) (f : Fld) (i v : Nat) : (d.set f i v).echoes = d.echoes := rfl
@[simp] theorem Dev.set_collSeen (d : Dev) (f : Fld) (i v : Nat) : (d.set f i v).collSeen = d.collSeen := rfl
@[simp] theorem Dev.set_rxSpoilt (d : Dev) (f : Fld) (i v : Nat) : (d.set f i v).rxSpoilt = d.rxSpoilt := rfl
@[simp] theorem Dev.set_undeliv (d : Dev) (f : Fld) (i v : Nat) : (d.set f i v).undeliv = d.undeliv := rfl
@[simp] theorem Dev.set_indir (d : Dev) (f : Fld) (i v : Nat) : (d.set f i v).indir = d.indir := rfl
@[simp] theorem Dev.set_rr (d : Dev) (f : Fld) (i v : Nat) : (d.set f i v).rr = d.rr := rfl
@[simp] theorem Dev.set_heldRev (d : Dev) (f : Fld) (i v : Nat) : (d.set f i v).heldRev = d.heldRev := rfl
@[simp] theorem Dev.set_fecTimes (d : Dev) (f : Fld) (i v : Nat) : (d.set f i v).fecTimes = d.fecTimes := rfl
@[simp] theorem Dev.set_dips (d : Dev) (f : Fld) (i v : Nat) : (d.set f i v).dips = d.dips := rfl
@[simp] theorem Dev.set_relocks (d : Dev) (f : Fld) (i v : Nat) : (d.set f i v).relocks = d.relocks := rfl
@[simp] theorem Dev.set_seqQueue (d : Dev) (f : Fld) (i v : Nat) : (d.set f i v).seqQueue = d.seqQueue := rfl
@[simp] theorem Dev.set_pwrExcess (d : Dev) (f : Fld) (i v : Nat) : (d.set f i v).pwrExcess = d.pwrExcess := rfl
@[simp] theorem Dev.set_wearHist (d : Dev) (f : Fld) (i v : Nat) : (d.set f i v).wearHist = d.wearHist := rfl
@[simp] theorem Dev.set_ops (d : Dev) (f : Fld) (i v : Nat) : (d.set f i v).ops = d.ops := rfl
@[simp] theorem Dev.set_reads (d : Dev) (f : Fld) (i v : Nat) : (d.set f i v).reads = d.reads := rfl
@[simp] theorem Dev.set_readWaits (d : Dev) (f : Fld) (i v : Nat) : (d.set f i v).readWaits = d.readWaits := rfl
@[simp] theorem Dev.set_queues (d : Dev) (f : Fld) (i v : Nat) : (d.set f i v).queues = d.queues := rfl
@[simp] theorem Dev.set_dma (d : Dev) (f : Fld) (i v : Nat) : (d.set f i v).dma = d.dma := rfl
@[simp] theorem Dev.set_ctxs (d : Dev) (f : Fld) (i v : Nat) : (d.set f i v).ctxs = d.ctxs := rfl
@[simp] theorem Dev.set_rrSteps (d : Dev) (f : Fld) (i v : Nat) : (d.set f i v).rrSteps = d.rrSteps := rfl
@[simp] theorem Dev.set_collLoads (d : Dev) (f : Fld) (i v : Nat) : (d.set f i v).collLoads = d.collLoads := rfl
@[simp] theorem Dev.set_collOut (d : Dev) (f : Fld) (i v : Nat) : (d.set f i v).collOut = d.collOut := rfl
@[simp] theorem Dev.set_shadows (d : Dev) (f : Fld) (i v : Nat) : (d.set f i v).shadows = d.shadows := rfl
@[simp] theorem Dev.set_descs (d : Dev) (f : Fld) (i v : Nat) : (d.set f i v).descs = d.descs := rfl
@[simp] theorem Dev.set_wraLoads (d : Dev) (f : Fld) (i v : Nat) : (d.set f i v).wraLoads = d.wraLoads := rfl
@[simp] theorem Dev.set_gathers (d : Dev) (f : Fld) (i v : Nat) : (d.set f i v).gathers = d.gathers := rfl
@[simp] theorem Dev.set_fops (d : Dev) (f : Fld) (i v : Nat) : (d.set f i v).fops = d.fops := rfl
@[simp] theorem Dev.set_fpushes (d : Dev) (f : Fld) (i v : Nat) : (d.set f i v).fpushes = d.fpushes := rfl
@[simp] theorem Dev.set_fdirty (d : Dev) (f : Fld) (i v : Nat) : (d.set f i v).fdirty = d.fdirty := rfl
@[simp] theorem Dev.set_fmemOut (d : Dev) (f : Fld) (i v : Nat) : (d.set f i v).fmemOut = d.fmemOut := rfl
@[simp] theorem Dev.set_chUncorr (d : Dev) (f : Fld) (i v : Nat) : (d.set f i v).chUncorr = d.chUncorr := rfl
@[simp] theorem Dev.set_caps (d : Dev) (f : Fld) (i v : Nat) : (d.set f i v).caps = d.caps := rfl
@[simp] theorem Dev.set_timeDs (d : Dev) (f : Fld) (i v : Nat) : (d.set f i v).timeDs = d.timeDs := rfl
@[simp] theorem Dev.set_dumpRecs (d : Dev) (f : Fld) (i v : Nat) : (d.set f i v).dumpRecs = d.dumpRecs := rfl
@[simp] theorem Dev.set_keepStore (d : Dev) (f : Fld) (i v : Nat) : (d.set f i v).keepStore = d.keepStore := rfl
@[simp] theorem Dev.set_svcFifo (d : Dev) (f : Fld) (i v : Nat) : (d.set f i v).svcFifo = d.svcFifo := rfl
@[simp] theorem Dev.set_measLog (d : Dev) (f : Fld) (i v : Nat) : (d.set f i v).measLog = d.measLog := rfl
@[simp] theorem Dev.set_runs (d : Dev) (f : Fld) (i v : Nat) : (d.set f i v).runs = d.runs := rfl
@[simp] theorem Dev.set_progs (d : Dev) (f : Fld) (i v : Nat) : (d.set f i v).progs = d.progs := rfl
@[simp] theorem Dev.set_progLoads (d : Dev) (f : Fld) (i v : Nat) : (d.set f i v).progLoads = d.progLoads := rfl
@[simp] theorem Dev.set_sent (d : Dev) (f : Fld) (i v : Nat) : (d.set f i v).sent = d.sent := rfl
@[simp] theorem Dev.set_fresh (d : Dev) (f : Fld) (i v : Nat) : (d.set f i v).fresh = d.fresh := rfl

/-! ### A message out leaves the rest of the block alone -/

@[simp] theorem Dev.emit_get (d : Dev) (e : Emit) (f : Fld) (i : Nat) : (d.emit e).get f i = d.get f i := rfl
@[simp] theorem Dev.emit_sent (d : Dev) (e : Emit) : (d.emit e).sent = e :: d.sent := rfl
@[simp] theorem Dev.emit_flds (d : Dev) (e : Emit) : (d.emit e).flds = d.flds := rfl
@[simp] theorem Dev.emit_events (d : Dev) (e : Emit) : (d.emit e).events = d.events := rfl
@[simp] theorem Dev.emit_fifo (d : Dev) (e : Emit) : (d.emit e).fifo = d.fifo := rfl
@[simp] theorem Dev.emit_limits (d : Dev) (e : Emit) : (d.emit e).limits = d.limits := rfl
@[simp] theorem Dev.emit_bank (d : Dev) (e : Emit) : (d.emit e).bank = d.bank := rfl
@[simp] theorem Dev.emit_keep (d : Dev) (e : Emit) : (d.emit e).keep = d.keep := rfl
@[simp] theorem Dev.emit_ringPend (d : Dev) (e : Emit) : (d.emit e).ringPend = d.ringPend := rfl
@[simp] theorem Dev.emit_frames (d : Dev) (e : Emit) : (d.emit e).frames = d.frames := rfl
@[simp] theorem Dev.emit_nextFid (d : Dev) (e : Emit) : (d.emit e).nextFid = d.nextFid := rfl
@[simp] theorem Dev.emit_waits (d : Dev) (e : Emit) : (d.emit e).waits = d.waits := rfl
@[simp] theorem Dev.emit_egress (d : Dev) (e : Emit) : (d.emit e).egress = d.egress := rfl
@[simp] theorem Dev.emit_lcWait (d : Dev) (e : Emit) : (d.emit e).lcWait = d.lcWait := rfl
@[simp] theorem Dev.emit_sending (d : Dev) (e : Emit) : (d.emit e).sending = d.sending := rfl
@[simp] theorem Dev.emit_receiving (d : Dev) (e : Emit) : (d.emit e).receiving = d.receiving := rfl
@[simp] theorem Dev.emit_ftab (d : Dev) (e : Emit) : (d.emit e).ftab = d.ftab := rfl
@[simp] theorem Dev.emit_swSkipped (d : Dev) (e : Emit) : (d.emit e).swSkipped = d.swSkipped := rfl
@[simp] theorem Dev.emit_groups (d : Dev) (e : Emit) : (d.emit e).groups = d.groups := rfl
@[simp] theorem Dev.emit_mcWords (d : Dev) (e : Emit) : (d.emit e).mcWords = d.mcWords := rfl
@[simp] theorem Dev.emit_gates (d : Dev) (e : Emit) : (d.emit e).gates = d.gates := rfl
@[simp] theorem Dev.emit_deficits (d : Dev) (e : Emit) : (d.emit e).deficits = d.deficits := rfl
@[simp] theorem Dev.emit_echoes (d : Dev) (e : Emit) : (d.emit e).echoes = d.echoes := rfl
@[simp] theorem Dev.emit_collSeen (d : Dev) (e : Emit) : (d.emit e).collSeen = d.collSeen := rfl
@[simp] theorem Dev.emit_rxSpoilt (d : Dev) (e : Emit) : (d.emit e).rxSpoilt = d.rxSpoilt := rfl
@[simp] theorem Dev.emit_undeliv (d : Dev) (e : Emit) : (d.emit e).undeliv = d.undeliv := rfl
@[simp] theorem Dev.emit_indir (d : Dev) (e : Emit) : (d.emit e).indir = d.indir := rfl
@[simp] theorem Dev.emit_rr (d : Dev) (e : Emit) : (d.emit e).rr = d.rr := rfl
@[simp] theorem Dev.emit_heldRev (d : Dev) (e : Emit) : (d.emit e).heldRev = d.heldRev := rfl
@[simp] theorem Dev.emit_fecTimes (d : Dev) (e : Emit) : (d.emit e).fecTimes = d.fecTimes := rfl
@[simp] theorem Dev.emit_dips (d : Dev) (e : Emit) : (d.emit e).dips = d.dips := rfl
@[simp] theorem Dev.emit_relocks (d : Dev) (e : Emit) : (d.emit e).relocks = d.relocks := rfl
@[simp] theorem Dev.emit_seqQueue (d : Dev) (e : Emit) : (d.emit e).seqQueue = d.seqQueue := rfl
@[simp] theorem Dev.emit_pwrExcess (d : Dev) (e : Emit) : (d.emit e).pwrExcess = d.pwrExcess := rfl
@[simp] theorem Dev.emit_wearHist (d : Dev) (e : Emit) : (d.emit e).wearHist = d.wearHist := rfl
@[simp] theorem Dev.emit_ops (d : Dev) (e : Emit) : (d.emit e).ops = d.ops := rfl
@[simp] theorem Dev.emit_reads (d : Dev) (e : Emit) : (d.emit e).reads = d.reads := rfl
@[simp] theorem Dev.emit_readWaits (d : Dev) (e : Emit) : (d.emit e).readWaits = d.readWaits := rfl
@[simp] theorem Dev.emit_queues (d : Dev) (e : Emit) : (d.emit e).queues = d.queues := rfl
@[simp] theorem Dev.emit_dma (d : Dev) (e : Emit) : (d.emit e).dma = d.dma := rfl
@[simp] theorem Dev.emit_ctxs (d : Dev) (e : Emit) : (d.emit e).ctxs = d.ctxs := rfl
@[simp] theorem Dev.emit_rrSteps (d : Dev) (e : Emit) : (d.emit e).rrSteps = d.rrSteps := rfl
@[simp] theorem Dev.emit_collLoads (d : Dev) (e : Emit) : (d.emit e).collLoads = d.collLoads := rfl
@[simp] theorem Dev.emit_collOut (d : Dev) (e : Emit) : (d.emit e).collOut = d.collOut := rfl
@[simp] theorem Dev.emit_shadows (d : Dev) (e : Emit) : (d.emit e).shadows = d.shadows := rfl
@[simp] theorem Dev.emit_descs (d : Dev) (e : Emit) : (d.emit e).descs = d.descs := rfl
@[simp] theorem Dev.emit_wraLoads (d : Dev) (e : Emit) : (d.emit e).wraLoads = d.wraLoads := rfl
@[simp] theorem Dev.emit_gathers (d : Dev) (e : Emit) : (d.emit e).gathers = d.gathers := rfl
@[simp] theorem Dev.emit_fops (d : Dev) (e : Emit) : (d.emit e).fops = d.fops := rfl
@[simp] theorem Dev.emit_fpushes (d : Dev) (e : Emit) : (d.emit e).fpushes = d.fpushes := rfl
@[simp] theorem Dev.emit_fdirty (d : Dev) (e : Emit) : (d.emit e).fdirty = d.fdirty := rfl
@[simp] theorem Dev.emit_fmemOut (d : Dev) (e : Emit) : (d.emit e).fmemOut = d.fmemOut := rfl
@[simp] theorem Dev.emit_chUncorr (d : Dev) (e : Emit) : (d.emit e).chUncorr = d.chUncorr := rfl
@[simp] theorem Dev.emit_caps (d : Dev) (e : Emit) : (d.emit e).caps = d.caps := rfl
@[simp] theorem Dev.emit_timeDs (d : Dev) (e : Emit) : (d.emit e).timeDs = d.timeDs := rfl
@[simp] theorem Dev.emit_dumpRecs (d : Dev) (e : Emit) : (d.emit e).dumpRecs = d.dumpRecs := rfl
@[simp] theorem Dev.emit_keepStore (d : Dev) (e : Emit) : (d.emit e).keepStore = d.keepStore := rfl
@[simp] theorem Dev.emit_svcFifo (d : Dev) (e : Emit) : (d.emit e).svcFifo = d.svcFifo := rfl
@[simp] theorem Dev.emit_measLog (d : Dev) (e : Emit) : (d.emit e).measLog = d.measLog := rfl
@[simp] theorem Dev.emit_runs (d : Dev) (e : Emit) : (d.emit e).runs = d.runs := rfl
@[simp] theorem Dev.emit_progs (d : Dev) (e : Emit) : (d.emit e).progs = d.progs := rfl
@[simp] theorem Dev.emit_progLoads (d : Dev) (e : Emit) : (d.emit e).progLoads = d.progLoads := rfl
@[simp] theorem Dev.emit_fresh (d : Dev) (e : Emit) : (d.emit e).fresh = d.fresh := rfl

/-! ### How a command's effect reaches the state -/

@[simp] theorem State.onDev_dev (s : State) (f : Dev → Dev) : (s.onDev f).dev = f s.dev := rfl
@[simp] theorem State.onDev_mem (s : State) (f : Dev → Dev) : (s.onDev f).mem = s.mem := rfl
@[simp] theorem State.onDev_fuses (s : State) (f : Dev → Dev) : (s.onDev f).fuses = s.fuses := rfl
@[simp] theorem State.onDev_pending (s : State) (f : Dev → Dev) : (s.onDev f).pending = s.pending := rfl

/-- What a command that runs on the device answers. -/
theorem State.run_next (s : State) (f : Dev → Dev) : s.run f = .next { s with dev := (f s.dev).flush } := rfl
/-- As `run_next`, for a command that moves frames or steps. -/
theorem State.runX_next (s : State) (f : Dev → Dev) : s.runX f = .next { s with dev := (f s.dev).settle.flush } := rfl
/-- As `run_next`, for a command that reaches fabric memory. -/
theorem State.runMem_next (s : State) (f : Dev → SMap Byte → Dev × SMap Byte) :
    s.runMem f = .next { s with dev := (f s.dev s.mem).1.settle.flush, mem := (f s.dev s.mem).2 } := rfl

end Sys2Proof.Machine
end

