-- ==== Sys2Proof/Laws/Memory.lean ====
section
/-! SUPPORT. Fabric memory keeps its canonical form: every operation on it, and the memory after reset. -/

namespace Sys2Proof.Machine

/-! ### Rising keys -/

/-- Keys rise strictly where each lies below all that follow it. -/
theorem keysRising_iff {α : Type} (l : List (Nat × α)) : keysRising l = true ↔ l.Pairwise (fun a b => a.1 < b.1) := by
  induction l with
  | nil => simp [keysRising]
  | cons a r ih =>
    cases r with
    | nil => simp [keysRising]
    | cons b r =>
      simp only [keysRising, Bool.and_eq_true, decide_eq_true_eq, ih, List.pairwise_cons]
      constructor
      · rintro ⟨hab, hb, hr⟩
        refine ⟨fun c hc => ?_, hb, hr⟩
        rcases List.mem_cons.mp hc with rfl | hc
        · exact hab
        · exact Nat.lt_trans hab (hb c hc)
      · rintro ⟨ha, hb, hr⟩
        exact ⟨ha b (List.mem_cons_self ..), hb, hr⟩

theorem eraseKey_eq_filter {α : Type} (k : Nat) (l : List (Nat × α)) : eraseKey k l = l.filter (fun e => decide (e.1 ≠ k)) := by
  induction l with
  | nil => rfl
  | cons e r ih =>
    obtain ⟨j, v⟩ := e
    by_cases h : j = k <;> simp [eraseKey, h, ih]

theorem mem_insertKey {α : Type} (k : Nat) (v : α) (l : List (Nat × α)) (e : Nat × α) :
    e ∈ insertKey k v l ↔ e = (k, v) ∨ e ∈ l := by
  induction l with
  | nil => simp [insertKey]
  | cons a r ih =>
    obtain ⟨j, u⟩ := a
    unfold insertKey
    split
    · simp
    · simp only [List.mem_cons, ih]
      tauto

/-- A key put in its place among rising keys leaves them rising. -/
theorem insertKey_rising {α : Type} (k : Nat) (v : α) (l : List (Nat × α)) (hk : ∀ e ∈ l, e.1 ≠ k)
    (h : l.Pairwise (fun a b => a.1 < b.1)) : (insertKey k v l).Pairwise (fun a b => a.1 < b.1) := by
  induction l with
  | nil => simp [insertKey]
  | cons a r ih =>
    obtain ⟨j, u⟩ := a
    obtain ⟨ha, hr⟩ := List.pairwise_cons.mp h
    have hj : j ≠ k := hk (j, u) (List.mem_cons_self ..)
    unfold insertKey
    split
    · rename_i hlt
      refine List.pairwise_cons.mpr ⟨fun b hb => ?_, h⟩
      rcases List.mem_cons.mp hb with rfl | hb
      · exact hlt
      · exact Nat.lt_trans hlt (ha b hb)
    · refine List.pairwise_cons.mpr ⟨fun b hb => ?_, ih (fun e he => hk e (List.mem_cons_of_mem _ he)) hr⟩
      rcases (mem_insertKey k v r b).mp hb with rfl | hb
      · simp only []; omega
      · exact ha b hb

/-! ### Tables -/

/-- A table written with the value of an unlisted key in mind stays canonical. -/
theorem SMap.set_wf {α : Type} [DecidableEq α] (m : SMap α) (k : Nat) (v : α) (d : Nat → α) (h : m.wf d = true) :
    (m.set k (d k) v).wf d = true := by
  simp only [SMap.wf, Bool.and_eq_true, keysRising_iff, List.all_eq_true, decide_eq_true_eq] at h ⊢
  obtain ⟨hr, hd⟩ := h
  have he : (eraseKey k m.entries).Pairwise (fun a b => a.1 < b.1) := by
    rw [eraseKey_eq_filter]
    exact hr.filter _
  have hm : ∀ e ∈ eraseKey k m.entries, e.1 ≠ k ∧ e.2 ≠ d e.1 := by
    intro e h
    rw [eraseKey_eq_filter, List.mem_filter] at h
    exact ⟨by simpa using h.2, hd e h.1⟩
  unfold SMap.set
  split
  · exact ⟨he, fun e h => (hm e h).2⟩
  · rename_i hv
    refine ⟨insertKey_rising k v _ (fun e h => (hm e h).1) he, fun e h => ?_⟩
    rcases (mem_insertKey k v _ e).mp h with rfl | h
    · exact hv
    · exact (hm e h).2

/-- Part of a canonical table is canonical. -/
theorem SMap.keep_wf {α : Type} [DecidableEq α] (m : SMap α) (p : Nat → Bool) (d : Nat → α) (h : m.wf d = true) :
    (m.keep p).wf d = true := by
  simp only [SMap.wf, Bool.and_eq_true, keysRising_iff, List.all_eq_true, decide_eq_true_eq] at h ⊢
  exact ⟨h.1.filter _, fun e he => h.2 e (List.mem_filter.mp he).1⟩

/-! ### Fabric memory -/

/-- A byte written keeps the form. -/
theorem memPut_wf (m : SMap Byte) (a v : Nat) (h : Memory.wf m = true) : Memory.wf (memPut m a v) = true :=
  SMap.set_wf m a _ (fun _ => memDefault) h

/-- Bytes written keep the form. -/
theorem memWrite_wf (m : SMap Byte) (a : Nat) (l : List Nat) (h : Memory.wf m = true) : Memory.wf (memWrite m a l) = true := by
  induction l generalizing m a with
  | nil => exact h
  | cons b l ih => exact ih _ _ (memPut_wf m a b h)

/-- A frame zeroed keeps the form. -/
theorem memZero_wf (m : SMap Byte) (f : Nat) (h : Memory.wf m = true) : Memory.wf (memZero m f) = true :=
  SMap.keep_wf m _ _ h

/-- The frames that a command puts in ZEROING are zeroed in the form. -/
theorem zeroNew_wf (d d' : Dev) (m : SMap Byte) (h : Memory.wf m = true) : Memory.wf (zeroNew d d' m) = true :=
  List.foldlRecOn ((List.range 409).filter (fun f => d.fstate f != fsZEROING && d'.fstate f == fsZEROING)) memZero h
    (fun m hm f _ => memZero_wf m f hm)

/-- A command after which no frame is ZEROING that was not so before leaves fabric memory alone (R375). -/
theorem zeroNew_same (d d' : Dev) (m : SMap Byte) (h : ∀ f < 409, d'.fstate f = fsZEROING → d.fstate f = fsZEROING) :
    zeroNew d d' m = m := by
  have : (List.range 409).filter (fun f => d.fstate f != fsZEROING && d'.fstate f == fsZEROING) = [] := by
    rw [List.filter_eq_nil_iff]
    intro f hf
    have hf := List.mem_range.mp hf
    by_cases hz : d'.fstate f = fsZEROING
    · simp [h f hf hz]
    · simp [hz]
  simp [zeroNew, this]

/-- Memory after reset has the form. -/
theorem reset_mem_wf : Memory.wf State.reset.mem = true := rfl

end Sys2Proof.Machine
end

