-- ==== Sys2Proof/Laws/Ops.lean ====
section
/-! SUPPORT. What the shared operations can do: records on their way, counters, the checks of an access. -/

namespace Sys2Proof.Machine

/-! ### Several fields -/

@[simp] theorem Dev.setMany_nil (d : Dev) : d.setMany [] = d := rfl
@[simp] theorem Dev.setMany_cons (d : Dev) (f : Fld) (i v : Nat) (l : List (Fld × Nat × Nat)) :
    d.setMany ((f, i, v) :: l) = (d.set f i v).setMany l := rfl

/-- Several writes leave a field that none of them names as it was. -/
theorem Dev.setMany_get (d : Dev) (l : List (Fld × Nat × Nat)) (g : Fld) (j : Nat) (h : ∀ e ∈ l, g.ctorIdx ≠ e.1.ctorIdx ∨ j ≠ e.2.1) :
    (d.setMany l).get g j = d.get g j := by
  induction l generalizing d with
  | nil => rfl
  | cons e r ih =>
    obtain ⟨f, i, v⟩ := e
    rw [Dev.setMany_cons, ih _ (fun e he => h e (List.mem_cons_of_mem _ he)), Dev.get_set]
    rcases h (f, i, v) (List.mem_cons_self ..) with h | h <;> simp [h]

/-- Several writes touch nothing but register fields. -/
theorem Dev.setMany_flds (d : Dev) (l : List (Fld × Nat × Nat)) : d.setMany l = { d with flds := (d.setMany l).flds } := by
  induction l generalizing d with
  | nil => rfl
  | cons e r ih =>
    obtain ⟨f, i, v⟩ := e
    rw [Dev.setMany_cons, ih]; rfl

/-! ### Records -/

@[simp] theorem Dev.raiseRaw_get (d : Dev) (c : RecCode) (s p t j : Nat) (f : Fld) (i : Nat) :
    (d.raiseRaw c s p t j).get f i = d.get f i := rfl
@[simp] theorem Dev.raise_get (d : Dev) (c : RecCode) (p : Nat) (l : List Item) (j : Nat) (f : Fld) (i : Nat) :
    (d.raise c p l j).get f i = d.get f i := rfl
@[simp] theorem Dev.raiseSig_get (d : Dev) (c : RecCode) (p : Nat) (l : List Item) (g : List Nat) (j : Nat) (f : Fld) (i : Nat) :
    (d.raiseSig c p l g j).get f i = d.get f i := rfl

/-- A record raised touches nothing but the events of the command. -/
theorem Dev.raise_eq (d : Dev) (c : RecCode) (p : Nat) (l : List Item) (j : Nat) :
    d.raise c p l j = { d with events := (d.raise c p l j).events } := rfl

/-- A record raised is the last of the command's events, with the code and path given. -/
theorem Dev.raise_events (d : Dev) (c : RecCode) (p : Nat) (l : List Item) (j : Nat) :
    ∃ r : Rec, (d.raise c p l j).events = d.events ++ [r] ∧ r.code = c ∧ r.path = p ∧ r.sev = c.severity ∧ r.job = j ∧ r.time = d.fabricNs :=
  ⟨_, rfl, rfl, rfl, rfl, rfl, rfl⟩

/-- What a field is not when it is none of those in which lost records are counted. -/
theorem not_lost {f : Fld} (h : f ∉ lostFlds) : f.ctorIdx ≠ Fld.ras_status_lost_count.ctorIdx ∧
    f.ctorIdx ≠ Fld.ras_status_lost_max_sev.ctorIdx ∧ f.ctorIdx ≠ Fld.h_ras_lost_due.ctorIdx := by
  refine ⟨fun e => h ?_, fun e => h ?_, fun e => h ?_⟩ <;> rw [Fld.ctorIdx_inj e] <;> simp [lostFlds]

theorem Dev.fifoPush_get (d : Dev) (r : Rec) (f : Fld) (i : Nat) (h : f ∉ lostFlds) : (d.fifoPush r).get f i = d.get f i := by
  obtain ⟨h1, h2, h3⟩ := not_lost h
  unfold Dev.fifoPush
  split
  · simp [Dev.incrSat, Dev.get_set, h1, h2, h3]
  · rfl

@[simp] theorem Dev.set_rest (d : Dev) (f : Fld) (i v : Nat) : (d.set f i v).rest = d.rest := rfl
@[simp] theorem Dev.incrSat_rest (d : Dev) (f : Fld) (i n : Nat) : (d.incrSat f i n).rest = d.rest := rfl
@[simp] theorem Dev.fifo_rest (d : Dev) (l : List Rec) : ({ d with fifo := l } : Dev).rest = d.rest := rfl
@[simp] theorem Dev.limits_rest (d : Dev) (l : List RateSlot) : ({ d with limits := l } : Dev).rest = d.rest := rfl
@[simp] theorem Dev.fresh_rest (d : Dev) (n : Nat) : ({ d with fresh := n } : Dev).rest = d.rest := rfl
@[simp] theorem Dev.events_rest (d : Dev) (l : List Rec) : ({ d with events := l } : Dev).rest = d.rest := rfl

/-- An event offered to the FIFO touches the FIFO and the count of lost records only. -/
@[simp] theorem Dev.fifoPush_rest (d : Dev) (r : Rec) : (d.fifoPush r).rest = d.rest := by
  unfold Dev.fifoPush
  split <;> simp

theorem Dev.admitEvent_get (d : Dev) (r : Rec) (f : Fld) (i : Nat) (h : f ∉ lostFlds) : (d.admitEvent r).get f i = d.get f i := by
  unfold Dev.admitEvent
  split
  · split
    · rfl
    · exact Dev.fifoPush_get _ r f i h
  · exact Dev.fifoPush_get d r f i h

/-- An event through the rate limit touches the intervals, the FIFO and the count of lost records only. -/
@[simp] theorem Dev.admitEvent_rest (d : Dev) (r : Rec) : (d.admitEvent r).rest = d.rest := by
  unfold Dev.admitEvent
  split
  · split <;> simp
  · simp

@[simp] theorem Dev.fifoPush_events (d : Dev) (r : Rec) : (d.fifoPush r).events = d.events := by
  unfold Dev.fifoPush
  split <;> simp [Dev.incrSat]

@[simp] theorem Dev.admitEvent_events (d : Dev) (r : Rec) : (d.admitEvent r).events = d.events := by
  unfold Dev.admitEvent
  split
  · split <;> simp
  · simp

theorem Dev.admitAll_get (d : Dev) (l : List Rec) (f : Fld) (i : Nat) (h : f ∉ lostFlds) :
    (l.foldl Dev.admitEvent d).get f i = d.get f i := by
  induction l generalizing d with
  | nil => rfl
  | cons r l ih => rw [List.foldl_cons, ih, Dev.admitEvent_get d r f i h]

theorem Dev.admitAll_rest (d : Dev) (l : List Rec) : (l.foldl Dev.admitEvent d).rest = d.rest := by
  induction l generalizing d with
  | nil => rfl
  | cons r l ih => rw [List.foldl_cons, ih, Dev.admitEvent_rest]

theorem Dev.admitAll_events (d : Dev) (l : List Rec) : (l.foldl Dev.admitEvent d).events = d.events := by
  induction l generalizing d with
  | nil => rfl
  | cons r l ih => rw [List.foldl_cons, ih, Dev.admitEvent_events]

/-- The end of a command changes no register field but the count of lost records. -/
theorem Dev.flush_get (d : Dev) (f : Fld) (i : Nat) (h : f ∉ lostFlds) : d.flush.get f i = d.get f i :=
  Dev.admitAll_get _ _ f i h

/-- The end of a command touches nothing else but events, the record FIFO and rate-limit intervals. -/
@[simp] theorem Dev.flush_rest (d : Dev) : d.flush.rest = d.rest := by
  unfold Dev.flush
  rw [Dev.admitAll_rest, Dev.events_rest]

/-- No event is left once a command has ended. -/
@[simp] theorem Dev.flush_events (d : Dev) : d.flush.events = [] := by
  unfold Dev.flush
  rw [Dev.admitAll_events]

/-- A command that raised no record leaves the device as its effect made it. -/
theorem Dev.flush_quiet (d : Dev) (h : d.events = []) : d.flush = d := by
  obtain ⟨⟩ := d
  simp only at h
  subst h
  rfl

/-! ### Counters -/

theorem not_count {f : Fld} (h : f ∉ countFlds) :
    f.ctorIdx ≠ Fld.perf_pmc_count.ctorIdx ∧ f.ctorIdx ≠ Fld.perf_blk_status_ovf.ctorIdx := by
  refine ⟨fun e => h ?_, fun e => h ?_⟩ <;> rw [Fld.ctorIdx_inj e] <;> simp [countFlds]

theorem Dev.pmcAdd_get (d : Dev) (b i n : Nat) (f : Fld) (j : Nat) (h : f ∉ countFlds) : (d.pmcAdd b i n).get f j = d.get f j := by
  obtain ⟨h1, h2⟩ := not_count h
  unfold Dev.pmcAdd
  simp only []
  split <;> simp [Dev.putB, Dev.get_set, h1, h2]

theorem Dev.countAll_get (b e n : Nat) (a : Attr) (f : Fld) (j : Nat) (h : f ∉ countFlds) (l : List Nat) (d : Dev) :
    (l.foldl (fun d i =>
      if d.get .perf_evsel_event (8 * b + i) = e ∧ d.flag .perf_evsel_enable (8 * b + i) ∧ d.filterPass b i a
      then d.pmcAdd b i n else d) d).get f j = d.get f j := by
  induction l generalizing d with
  | nil => rfl
  | cons i l ih =>
    rw [List.foldl_cons, ih]
    split
    · exact Dev.pmcAdd_get d b i n f j h
    · rfl

/-- Counting an event changes counters only. -/
theorem Dev.countCode_get (d : Dev) (b e n : Nat) (a : Attr) (f : Fld) (j : Nat) (h : f ∉ countFlds) :
    (d.countCode b e n a).get f j = d.get f j := by
  unfold Dev.countCode
  split
  · exact Dev.countAll_get b e n a f j h _ d
  · rfl

theorem Dev.count_get (d : Dev) (b : Nat) (e : Ev) (n : Nat) (a : Attr) (f : Fld) (j : Nat) (h : f ∉ countFlds) :
    (d.count b e n a).get f j = d.get f j := Dev.countCode_get d b e.num n a f j h

/-! ### Accesses (R585) -/

@[simp] theorem Dev.checkEncoding_get (d : Dev) (req : Nat) (r : RegRow) (i v : Nat) (f : Fld) (j : Nat) :
    (d.checkEncoding req r i v).1.get f j = d.get f j := by
  unfold Dev.checkEncoding
  simp only []
  split <;> rfl

/-- A FABRIC write that passes every check takes its effect, and is answered without an error. -/
theorem Dev.hostWrite_pass (d : Dev) (r : RegRow) (i v : Nat) (eff : Nat → Nat → List Nat → Dev → Dev)
    (ht : d.get .h_kcl_train = 0) (hp : d.checkPower 0 1 r i = none) (he : d.refusedFields r i v = []) :
    d.hostWrite .fabric r i v eff = (eff 0 v [] d).emit (.reply false 0) := by
  simp [Dev.hostWrite, markReq, markPriv, privFABRIC, ht, hp, Dev.checkEncoding, he]

/-- An OBSERVE write is refused at the privilege check, and does nothing else. -/
theorem Dev.hostWrite_observe (d : Dev) (r : RegRow) (i v : Nat) (eff : Nat → Nat → List Nat → Dev → Dev)
    (ht : d.get .h_kcl_train = 0) :
    d.hostWrite .observe r i v eff = (d.recPrivilege 1 (r.addr i) v).emit (.reply true 0) := by
  simp [Dev.hostWrite, markReq, markPriv, privFABRIC, ht]

/-- Checks 4 and 5 pass at READY where no domain that is off holds the copy. -/
theorem Dev.checkPower_none (d : Dev) (req dir : Nat) (r : RegRow) (i : Nat) (hr : d.ready = true) (ho : d.offDomain r.dom i = none) :
    d.checkPower req dir r i = none := by
  simp [Dev.checkPower, hr, ho]

/-! ### The ways a command's effect reaches the state -/

/-- What an effect on the device answers: a next state in which all but the device is as it was, with no event left. -/
theorem State.run_out (s : State) (f : Dev → Dev) :
    ∃ t, s.run f = .next t ∧ t.dev = (f s.dev).flush ∧ t.dev.events = [] ∧ KeepsStores s t :=
  ⟨_, rfl, rfl, Dev.flush_events _, rfl, rfl, rfl⟩

/-- As `run_out`, for a command that moves frames or steps. -/
theorem State.runX_out (s : State) (f : Dev → Dev) :
    ∃ t, s.runX f = .next t ∧ t.dev = (f s.dev).settle.flush ∧ t.dev.events = [] ∧ KeepsStores s t :=
  State.run_out s (fun d => (f d).settle)

/-- As `run_out`, for a command that reaches fabric memory: the memory is the one the effect answers. -/
theorem State.runMem_out (s : State) (f : Dev → SMap Byte → Dev × SMap Byte) :
    ∃ t, s.runMem f = .next t ∧ t.dev = (f s.dev s.mem).1.settle.flush ∧ t.dev.events = [] ∧ t.mem = (f s.dev s.mem).2 ∧
      t.fuses = s.fuses ∧ t.pending = s.pending := by
  rw [State.runMem_next]
  generalize (f s.dev s.mem).1.settle = d
  exact ⟨_, rfl, rfl, Dev.flush_events d, rfl, rfl, rfl⟩

end Sys2Proof.Machine
end

