-- ==== Sys2Proof/Tests/Slice0.lean ====
section
/-! SUPPORT. Tests: ill-formed commands are refused, single steps give what the spec gives, and the premises of the statements can be
met. -/

namespace Sys2Proof.Tests

open Sys2Proof Sys2Proof.Machine

set_option Elab.async false

/-- The block at READY with the companion link trained and every domain on, and the fields given. -/
def upState (l : List (Fld × Nat × Nat)) : State :=
  let base := [(.h_kcl_train, 0, 0), (.sys_boot_status_stage, 0, 5), (.sys_pd_status_on, 0, 0xFFFFF)]
  { State.reset with dev := State.reset.dev.setMany (base ++ l) }

/-- States and operands that meet the premises of `Obligations.DomainSwitching`, clause by clause. -/
theorem witness_DomainSwitching :
    (((upState [])).dev.accepts (.pdCmdNop (.fabric : Mark) (19 : Fin 32)) = true) ∧
    (((upState [(.sys_pd_status_on, 0, 0xFFFFB)])).dev.accepts (.pdCmdOn (.fabric : Mark) (2 : Fin 32)) = true) ∧
    ((2 : Fin 32).val ≠ 0 ∧ (2 : Fin 32).val ≠ 10) ∧
    (((upState [(.sys_pd_status_on, 0, 0xFFFFB)])).dev.pdBusy (2 : Fin 32) = false ∧ ((upState [(.sys_pd_status_on, 0,
        0xFFFFB)])).dev.pdOn (2 : Fin 32) = false) ∧
    ((2 : Fin 32).val = 7 → ((upState [(.sys_pd_status_on, 0, 0xFFFFB)])).dev.wraInUse = false) ∧
    (∀ r ∈ pdNeeds (2 : Fin 32), ((upState [(.sys_pd_status_on, 0, 0xFFFFB)])).dev.pdOn r = true ∧ ((upState
        [(.sys_pd_status_on, 0, 0xFFFFB)])).dev.pdBusy r = false) ∧
    (((upState [])).dev.accepts (.pdCmdOff (.fabric : Mark) (2 : Fin 32)) = true) ∧
    (((upState [])).dev.pdBlocker (2 : Fin 32) false = none) ∧
    (((upState [])).dev.pdOn (2 : Fin 32) = true) ∧
    (((upState [])).dev.accepts (.pdCmdOn (.fabric : Mark) (19 : Fin 32)) = true) ∧
    (((upState [])).dev.pdBlocker (19 : Fin 32) true = none) ∧
    (((upState [])).dev.pdOn (19 : Fin 32) = true) ∧
    (((upState [])).dev.accepts (.pdCmdOn (.fabric : Mark) (0 : Fin 32)) = true) ∧
    (((upState [])).dev.pdBlocker (0 : Fin 32) true = some (0x106 : Nat)) ∧
    (((upState [])).dev.accepts (.pdCmdOff (.fabric : Mark) (1 : Fin 32)) = true) ∧
    (((upState [])).dev.pdBlocker (1 : Fin 32) false = some (2 : Nat)) ∧
    ((7 : Fin 20).val ≠ 0) ∧
    (((upState [(.sys_pd_status_busy, 0, 0x80), (.sys_pd_status_on, 0, 0xFFF7F), (.h_pd_target, 0, 0x80)])).dev.pdBusy (7 : Fin
        20) = true) := by
  refine ⟨?_, ?_, ?_, ?_, ?_, ?_, ?_, ?_, ?_, ?_, ?_, ?_, ?_, ?_, ?_, ?_, ?_, ?_⟩ <;>
    decide +kernel

/-- States and operands that meet the premises of `Obligations.FabricShape`, clause by clause. -/
theorem witness_FabricShape :
    (((upState [])).dev.accepts (.sysFabricPosWrite (.fabric : Mark) (0x0123000000000000 : Word)) = true) ∧
    (((upState [])).dev.accepts (.sysFabricSizeWrite (.fabric : Mark) (0x0000000100010001 : Word)) = true) ∧
    ((((upState [])).dev.writeFields rowSYS_FABRIC_SIZE 0 (0x0000000100010001 : Word).toNat []).shapeFail = 0) ∧
    (((upState [])).dev.accepts (.sysFabricCoordWrite (.fabric : Mark) (0 : Word)) = true) ∧
    ((((upState [])).dev.writeFields rowSYS_FABRIC_COORD 0 (0 : Word).toNat []).shapeFail = 0) ∧
    (((upState [(.port_cfg_role, 0, 2), (.port_status_link_status, 0, 8)])).dev.accepts (.sysFabricSizeWrite (.fabric : Mark)
        (0x0000000100010001 : Word)) = true) ∧
    ((((upState [(.port_cfg_role, 0, 2), (.port_status_link_status, 0, 8)])).dev.writeFields rowSYS_FABRIC_SIZE 0
        (0x0000000100010001 : Word).toNat []).shapeFail ≠ 0) := by
  refine ⟨?_, ?_, ?_, ?_, ?_, ?_, ?_⟩ <;>
    decide +kernel

/-- States and operands that meet the premises of `Obligations.DieToDieLinks`, clause by clause. -/
theorem witness_DieToDieLinks :
    (((upState [])).dev.get .h_d2d_replays (8 : Fin 9) = 0) ∧
    (((upState [(.h_d2d_replays, 0, 4)])).dev.get .h_d2d_replays (0 : Fin 9) ≠ 0) ∧
    ((true : Bool) = true) ∧
    (((upState [(.h_d2d_replays, 8, 3)])).dev.get .h_d2d_replays (8 : Fin 9) ≠ 0 ∧ ((upState [(.h_d2d_replays, 8, 3)])).dev.get
        .h_d2d_replays (8 : Fin 9) < 4) ∧
    ((false : Bool) = false) ∧
    (((upState [(.h_d2d_replays, 8, 4)])).dev.get .h_d2d_replays (8 : Fin 9) = 4) := by
  refine ⟨?_, ?_, ?_, ?_, ?_, ?_⟩ <;>
    decide +kernel

/-- States and operands that meet the premises of `Obligations.LinkBringUp`, clause by clause. -/
theorem witness_LinkBringUp :
    (((upState [(.port_cfg_role, 5, 1), (.port_status_link_status, 5, 1)])).dev.linkStatus (5 : Fin 512) = lsTRAIN ∧ ((upState
        [(.port_cfg_role, 5, 1), (.port_status_link_status, 5, 1)])).dev.upRole (5 : Fin 512) = true ∧ ((upState
        [(.port_cfg_role, 5, 1), (.port_status_link_status, 5, 1)])).dev.boundSvc (5 : Fin 512) = none) ∧
    (tagsOk ((#v[1, 0, 2, 3, 7] : Vector (Fin 9) 5).toList.map (fun (x : Fin 9) => x.val)) = true ∧ (64 : Nat) ≤ 64) ∧
    (((upState [(.port_cfg_role, 5, 1), (.port_status_link_status, 5, 2)])).dev.linkStatus (5 : Fin 512) = lsIDENTIFY) ∧
    (((upState [(.port_cfg_role, 5, 1), (.port_status_link_status, 5, 4)])).dev.linkStatus (5 : Fin 512) = lsREVISION) ∧
    (((upState [(.port_cfg_role, 5, 1), (.port_status_link_status, 5, 2)])).dev.lcFits (5 : Fin 512) = true ∧ ((upState
        [(.port_cfg_role, 5, 1), (.port_status_link_status, 5, 2)])).dev.upRole (5 : Fin 512) = true) ∧
    (((upState [(.port_cfg_role, 5, 1), (.port_status_link_status, 5, 2)])).dev.heldRev.getOpt (5 : Fin 512) = none) ∧
    (((upState [(.port_cfg_role, 5, 1), (.port_status_link_status, 5, 4)])).dev.lcFits (5 : Fin 512) = true ∧ ((upState
        [(.port_cfg_role, 5, 1), (.port_status_link_status, 5, 4)])).dev.upRole (5 : Fin 512) = true) ∧
    (({ rev := 0, mask := 1, ident := { kind := 1, plane := 0, id := 3, port := 7, serial := 9, coordX := 0, coordY := 0, grid := false, coordZ := 0 } }
        : RevBody).rev.toNat ≤ ((upState [(.port_cfg_role, 5, 1), (.port_status_link_status, 5, 4)])).dev.ownRev + 1 ∧ ((upState
        [(.port_cfg_role, 5, 1), (.port_status_link_status, 5, 4)])).dev.ownRev ≤
        ({ rev := 0, mask := 1, ident := { kind := 1, plane := 0, id := 3, port := 7, serial := 9, coordX := 0, coordY := 0, grid := false, coordZ := 0 } }
        : RevBody).rev.toNat + 1 ∧ bit
        ({ rev := 0, mask := 1, ident := { kind := 1, plane := 0, id := 3, port := 7, serial := 9, coordX := 0, coordY := 0, grid := false, coordZ := 0 } }
        : RevBody).mask.toNat 0 = true) ∧
    (((upState [(.port_cfg_role, 5, 1), (.port_status_link_status, 5, 4)])).dev.ownRev + 1 <
        ({ rev := 2, mask := 1, ident := { kind := 1, plane := 0, id := 3, port := 7, serial := 9, coordX := 0, coordY := 0, grid := false, coordZ := 0 } }
        : RevBody).rev.toNat) ∧
    (((upState [(.port_cfg_role, 5, 1), (.port_status_link_status, 5, 6)])).dev.linkStatus (5 : Fin 512) = lsCREDIT_INIT ∧
        ((upState [(.port_cfg_role, 5, 1), (.port_status_link_status, 5, 6)])).dev.flag .h_credit_sent (5 : Fin 512) = false ∧
        ((upState [(.port_cfg_role, 5, 1), (.port_status_link_status, 5, 6)])).dev.inputUsed (5 : Fin 512) = 0) ∧
    (((upState [(.port_cfg_role, 5, 1), (.port_status_link_status, 5, 6)])).dev.lcFits (5 : Fin 512) = true) ∧
    (((upState [(.port_cfg_role, 5, 1), (.port_status_link_status, 5, 6)])).dev.linkStatus (5 : Fin 512) = lsCREDIT_INIT ∧
        ((upState [(.port_cfg_role, 5, 1), (.port_status_link_status, 5, 6)])).dev.flag .h_credit_rcvd (5 : Fin 512) = false) ∧
    (((upState [(.port_cfg_role, 5, 1), (.port_status_link_status, 5, 6)])).dev.linkStatus (5 : Fin 512) = lsCREDIT_INIT ∧
        ((upState [(.port_cfg_role, 5, 1), (.port_status_link_status, 5, 6)])).dev.flag .h_admit_rcvd (5 : Fin 512) = false) ∧
    (((upState [(.port_cfg_role, 5, 1), (.port_status_link_status, 5, 7), (.h_admit_sent, 5, 1)])).dev.lcFits (5 : Fin 512) =
        true) ∧
    (((upState [(.port_cfg_role, 5, 1), (.port_status_link_status, 5, 7), (.h_admit_sent, 5, 1)])).dev.linkStatus (5 : Fin 512)
        = lsADMIT_WAIT ∧ ((upState [(.port_cfg_role, 5, 1), (.port_status_link_status, 5, 7), (.h_admit_sent, 5, 1)])).dev.flag
        .h_admit_sent (5 : Fin 512) = true ∧ ((upState [(.port_cfg_role, 5, 1), (.port_status_link_status, 5, 7),
        (.h_admit_sent, 5, 1)])).dev.flag .h_admit_rcvd (5 : Fin 512) = false) := by
  refine ⟨?_, ?_, ?_, ?_, ?_, ?_, ?_, ?_, ?_, ?_, ?_, ?_, ?_, ?_, ?_⟩ <;>
    decide +kernel

/-- States and operands that meet the premises of `Obligations.LinkLossAndFraming`, clause by clause. -/
theorem witness_LinkLossAndFraming :
    (((upState [(.port_cfg_role, 5, 1), (.port_status_link_status, 5, 1)])).dev.upRole (5 : Fin 512) = true ∧ lsTRAIN ≤
        ((upState [(.port_cfg_role, 5, 1), (.port_status_link_status, 5, 1)])).dev.linkStatus (5 : Fin 512)) ∧
    (lsCREDIT_INIT ≤ ((upState [(.port_cfg_role, 5, 1), (.port_status_link_status, 5, 8)])).dev.linkStatus (5 : Fin 512) ∧
        ((upState [(.port_cfg_role, 5, 1), (.port_status_link_status, 5, 8)])).dev.linkStatus (5 : Fin 512) ≤ lsADMITTED) ∧
    (((upState [(.port_cfg_role, 5, 1), (.port_status_link_status, 5, 8)])).dev.lcFits (5 : Fin 512) = true ∧ ((upState
        [(.port_cfg_role, 5, 1), (.port_status_link_status, 5, 8)])).dev.upRole (5 : Fin 512) = true) ∧
    (((upState [(.port_cfg_role, 5, 1), (.port_status_link_status, 5, 2)])).dev.lcFits (5 : Fin 512) = true) ∧
    ((13 : BitVec 8).toNat = 0 ∨ 0x0C < (13 : BitVec 8).toNat) ∧
    (({ upState [(.port_cfg_role, 5, 1), (.port_status_link_status, 5, 8)] with dev := { (upState [(.port_cfg_role, 5, 1), (.port_status_link_status, 5, 8)]).dev with egress := [⟨5, 2, 0, 3, none, false⟩] } }).dev.headEq
        (5 : Fin 512) (2 : Fin 8) = some (⟨5, 2, 0, 3, none, false⟩ : EqEntry)) ∧
    (({ upState [(.port_cfg_role, 5, 1), (.port_status_link_status, 5, 8)] with dev := { (upState [(.port_cfg_role, 5, 1), (.port_status_link_status, 5, 8)]).dev with egress := [⟨5, 2, 0, 3, none, false⟩] } }).dev.admitted
        (5 : Fin 512) = true ∧
        ({ upState [(.port_cfg_role, 5, 1), (.port_status_link_status, 5, 8)] with dev := { (upState [(.port_cfg_role, 5, 1), (.port_status_link_status, 5, 8)]).dev with egress := [⟨5, 2, 0, 3, none, false⟩] } }).dev.credit
        (5 : Fin 512) (2 : Fin 8) < (⟨5, 2, 0, 3, none, false⟩ : EqEntry).cells) ∧
    (((upState [(.port_cfg_role, 5, 1), (.port_status_link_status, 5, 8)])).dev.admitted (5 : Fin 512) = true ∧ ((upState
        [(.port_cfg_role, 5, 1), (.port_status_link_status, 5, 8)])).dev.receiving.getOpt (5 : Fin 512) = none) ∧
    (((((upState [(.port_cfg_role, 5, 1), (.port_status_link_status, 5, 8)])).dev.fecTimes.get (5 : Fin 512) []).filter (fun t
        => ((upState [(.port_cfg_role, 5, 1), (.port_status_link_status, 5, 8)])).dev.localNs - t < 1000000)).length < 16) ∧
    (((upState [(.port_cfg_role, 5, 1), (.port_status_link_status, 5, 8)])).dev.admitted (5 : Fin 512) = true ∧ (true : Bool) =
        true ∧ ((upState [(.port_cfg_role, 5, 1), (.port_status_link_status, 5, 8)])).dev.flag .h_fec_degraded (5 : Fin 512) =
        false) ∧
    (((upState [(.port_cfg_role, 5, 1), (.port_status_link_status, 5, 8)])).dev.admitted (5 : Fin 512) = true ∧ (false : Bool) =
        false) ∧
    (lsIDENTIFY ≤ ((upState [(.port_cfg_role, 5, 1), (.port_status_link_status, 5, 2)])).dev.linkStatus (5 : Fin 512) ∧
        ((upState [(.port_cfg_role, 5, 1), (.port_status_link_status, 5, 2)])).dev.flag .h_hunting (5 : Fin 512) = false) ∧
    (((upState [(.port_cfg_role, 5, 1), (.port_status_link_status, 5, 1), (.port_stencil_0_valid, 5, 1),
        (.port_stencil_0_nbr_kind, 5, 1)])).dev.upRole (5 : Fin 512) = true ∧ lsTRAIN ≤ ((upState [(.port_cfg_role, 5, 1),
        (.port_status_link_status, 5, 1), (.port_stencil_0_valid, 5, 1), (.port_stencil_0_nbr_kind, 5, 1)])).dev.linkStatus (5 :
        Fin 512) ∧ ((upState [(.port_cfg_role, 5, 1), (.port_status_link_status, 5, 1), (.port_stencil_0_valid, 5, 1),
        (.port_stencil_0_nbr_kind, 5, 1)])).dev.linkStatus (5 : Fin 512) ≤ lsIDENTIFY) ∧
    (((upState [(.port_cfg_role, 5, 1), (.port_status_link_status, 5, 1), (.port_stencil_0_valid, 5, 1),
        (.port_stencil_0_nbr_kind, 5, 1)])).dev.flag .h_id_fresh (5 : Fin 512) = false ∧ ((upState [(.port_cfg_role, 5, 1),
        (.port_status_link_status, 5, 1), (.port_stencil_0_valid, 5, 1), (.port_stencil_0_nbr_kind, 5, 1)])).dev.planned (5 :
        Fin 512) = true ∧ ((upState [(.port_cfg_role, 5, 1), (.port_status_link_status, 5, 1), (.port_stencil_0_valid, 5, 1),
        (.port_stencil_0_nbr_kind, 5, 1)])).dev.get .port_status_stencil_status (5 : Fin 512) ≠ 5) := by
  refine ⟨?_, ?_, ?_, ?_, ?_, ?_, ?_, ?_, ?_, ?_, ?_, ?_, ?_, ?_⟩ <;>
    decide +kernel

/-- States and operands that meet the premises of `Obligations.PortCommands`, clause by clause. -/
theorem witness_PortCommands :
    (((upState [])).dev.accepts (.portCmdNop (.fabric : Mark) (511 : Fin 512)) = true) ∧
    (((upState [(.port_cfg_role, 5, 1), (.port_status_link_status, 5, 8)])).dev.accepts (.portCmdFence (.fabric : Mark) (5 : Fin
        512)) = true) ∧
    (((upState [(.port_status_fence_mask, 5, 2)])).dev.accepts (.portCmdUnfence (.fabric : Mark) (5 : Fin 512)) = true) ∧
    (((upState [(.port_status_fence_mask, 5, 2)])).dev.bitOf .port_status_fence_mask (5 : Fin 512) fcFABRIC = true) ∧
    (((upState [(.port_status_fence_mask, 5, 2)])).dev.bitOf .port_status_fence_mask (5 : Fin 512) fcCREDIT_STALL = false) ∧
    (((upState [(.port_cfg_role, 5, 1), (.port_status_link_status, 5, 7)])).dev.accepts (.portCmdAdmit (.fabric : Mark) (5 : Fin
        512)) = true) ∧
    (((upState [(.port_cfg_role, 5, 1), (.port_status_link_status, 5, 7)])).dev.linkStatus (5 : Fin 512) = lsADMIT_WAIT) ∧
    (((upState [(.port_cfg_role, 5, 1), (.port_status_link_status, 5, 5)])).dev.accepts (.portCmdAdmit (.fabric : Mark) (5 : Fin
        512)) = true) ∧
    (((upState [(.port_cfg_role, 5, 1), (.port_status_link_status, 5, 5)])).dev.linkStatus (5 : Fin 512) = lsQUARANTINE) ∧
    (((upState [(.port_cfg_role, 5, 1), (.port_status_link_status, 5, 3), (.port_nbr_0_nbr_kind, 5, 1), (.port_nbr_0_nbr_id, 5,
        77)])).dev.accepts (.portCmdAccept (.fabric : Mark) (5 : Fin 512)) = true) ∧
    (((upState [(.port_cfg_role, 5, 1), (.port_status_link_status, 5, 3), (.port_nbr_0_nbr_kind, 5, 1), (.port_nbr_0_nbr_id, 5,
        77)])).dev.linkStatus (5 : Fin 512) = lsHELD) ∧
    (((upState [(.port_cfg_role, 5, 1), (.port_status_link_status, 5, 5)])).dev.accepts (.portCmdRetry (.fabric : Mark) (5 : Fin
        512)) = true) ∧
    (((upState [(.port_cfg_role, 5, 1), (.port_status_link_status, 5, 4)])).dev.accepts (.portCmdRestart (.fabric : Mark) (5 :
        Fin 512)) = true) ∧
    (((upState [(.port_cfg_role, 5, 1), (.port_status_link_status, 5, 4)])).dev.upRole (5 : Fin 512) = true ∧ ((upState
        [(.port_cfg_role, 5, 1), (.port_status_link_status, 5, 4)])).dev.linkStatus (5 : Fin 512) ≠ lsDOWN) ∧
    (((upState [(.port_cfg_role, 5, 1), (.port_status_link_status, 5, 4)])).dev.linkStatus (5 : Fin 512) ≠ lsADMITTED ∨
        ((upState [(.port_cfg_role, 5, 1), (.port_status_link_status, 5, 4)])).dev.fenced (5 : Fin 512) = true) ∧
    (((upState [(.port_cfg_role, 5, 1), (.port_status_link_status, 5, 8)])).dev.accepts (.portCmdRebalance (.fabric : Mark) (5 :
        Fin 512)) = true) ∧
    (((upState [(.port_cfg_role, 5, 1), (.port_status_link_status, 5, 8)])).dev.bundleKey (5 : Fin 512) = some (0 : Nat)) := by
  refine ⟨?_, ?_, ?_, ?_, ?_, ?_, ?_, ?_, ?_, ?_, ?_, ?_, ?_, ?_, ?_, ?_, ?_⟩ <;>
    decide +kernel

/-- States and operands that meet the premises of `Obligations.PortConfiguration`, clause by clause. -/
theorem witness_PortConfiguration :
    (((upState [(.port_cfg_role, 5, 1), (.port_status_link_status, 5, 8)])).dev.accepts (.portCfgWrite (.fabric : Mark) (5 : Fin
        512) (0x101 : Word)) = true) ∧
    (slice (0x101 : Word).toNat 8 1 = 0 ∨ ((upState [(.port_cfg_role, 5, 1), (.port_status_link_status, 5, 8)])).dev.linkStatus
        (5 : Fin 512) ≠ lsADMIT_WAIT) ∧
    (slice (0x101 : Word).toNat 0 3 = ((upState [(.port_cfg_role, 5, 1), (.port_status_link_status, 5, 8)])).dev.role (5 : Fin
        512) ∧ slice (0x101 : Word).toNat 16 2 = ((upState [(.port_cfg_role, 5, 1), (.port_status_link_status, 5, 8)])).dev.get
        .port_cfg_axis (5 : Fin 512) ∧ slice (0x101 : Word).toNat 20 12 = ((upState [(.port_cfg_role, 5, 1),
        (.port_status_link_status, 5, 8)])).dev.get .port_cfg_target (5 : Fin 512) ∧ slice (0x101 : Word).toNat 33 9 = ((upState
        [(.port_cfg_role, 5, 1), (.port_status_link_status, 5, 8)])).dev.get .port_cfg_bundle (5 : Fin 512)) ∧
    (((upState [(.port_cfg_role, 5, 1), (.port_status_link_status, 5, 8)])).dev.accepts (.portCfgWrite (.fabric : Mark) (5 : Fin
        512) (0x2 : Word)) = true) ∧
    (slice (0x2 : Word).toNat 8 1 = 0 ∨ ((upState [(.port_cfg_role, 5, 1), (.port_status_link_status, 5, 8)])).dev.linkStatus (5
        : Fin 512) ≠ lsADMIT_WAIT) ∧
    (slice (0x2 : Word).toNat 0 3 ≠ ((upState [(.port_cfg_role, 5, 1), (.port_status_link_status, 5, 8)])).dev.role (5 : Fin
        512)) ∧
    (((upState [(.port_cfg_role, 5, 1), (.port_status_link_status, 5, 8)])).dev.fenced (5 : Fin 512) = false ∧ ((upState
        [(.port_cfg_role, 5, 1), (.port_status_link_status, 5, 8)])).dev.role (5 : Fin 512) ≠ roleDISABLED) ∧
    (((upState [])).dev.accepts (.portCfgWrite (.fabric : Mark) (5 : Fin 512) (0x1 : Word)) = true) ∧
    (slice (0x1 : Word).toNat 8 1 = 0 ∨ ((upState [])).dev.linkStatus (5 : Fin 512) ≠ lsADMIT_WAIT) ∧
    (((upState [])).dev.role (5 : Fin 512) = roleDISABLED ∧ slice (0x1 : Word).toNat 0 3 ≠ roleDISABLED) ∧
    (((upState [])).dev.roleRefused (5 : Fin 512) (slice (0x1 : Word).toNat 0 3) (slice (0x1 : Word).toNat 16 2) (slice (0x1 :
        Word).toNat 20 12) (slice (0x1 : Word).toNat 33 9) = false) ∧
    (((upState [])).dev.accepts (.portStencilWrite (.fabric : Mark) (5 : Fin 512) (1 : Fin 4) (77 : Word)) = true) ∧
    (((upState [])).dev.linkStatus (5 : Fin 512) ≠ lsHELD ∧ ((upState [])).dev.admitted (5 : Fin 512) = false) ∧
    (((upState [(.port_cfg_role, 5, 1), (.port_status_link_status, 5, 3), (.port_status_stencil_status, 5, 3)])).dev.get
        .port_status_stencil_status (5 : Fin 512) = 3) ∧
    ((({ upState [] with dev := { (upState []).dev with indir := ⟨[(0, [{ link := 3, old := [5] }])]⟩ } }).dev.indir.get (0 :
        Fin 12800) [])[(0 : Fin 256).val]? = some ({ link := 3, old := [5] } : IndEntry)) ∧
    (((upState [(.port_cfg_role, 5, 1), (.port_status_link_status, 5, 7), (.h_credit_sent, 5, 1)])).dev.flag .h_credit_sent (5 :
        Fin 512) = true ∧ ((upState [(.port_cfg_role, 5, 1), (.port_status_link_status, 5, 7), (.h_credit_sent, 5,
        1)])).dev.boundSvc (5 : Fin 512) = none) ∧
    (lsCREDIT_INIT ≤ ((upState [(.port_cfg_role, 5, 1), (.port_status_link_status, 5, 7), (.h_credit_sent, 5,
        1)])).dev.linkStatus (5 : Fin 512) ∧ ((upState [(.port_cfg_role, 5, 1), (.port_status_link_status, 5, 7),
        (.h_credit_sent, 5, 1)])).dev.linkStatus (5 : Fin 512) ≤ lsADMITTED) ∧
    (∀ c : Fin 8, ((upState [(.port_cfg_role, 5, 1), (.port_status_link_status, 5, 7), (.h_credit_sent, 5, 1)])).dev.get
        .h_withheld (8 * (5 : Fin 512) + c) = 0) := by
  refine ⟨?_, ?_, ?_, ?_, ?_, ?_, ?_, ?_, ?_, ?_, ?_, ?_, ?_, ?_, ?_, ?_, ?_, ?_⟩ <;>
    decide +kernel

/-- States and operands that meet the premises of `Obligations.RingLockStates`, clause by clause. -/
theorem witness_RingLockStates :
    (((upState [(.port_cfg_role, 5, 1), (.opt_eng_ctrl_lock_enable, 0, 1), (.opt_ring_status_state, 57, 1)])).dev.ring (ringIx
        (5 : Fin 512) (7 : Fin 10)) = rsSWEEP) ∧
    (([400, 800] : List (Fin 3001)) ≠ []) ∧
    (((upState [(.port_cfg_role, 5, 1), (.opt_eng_ctrl_lock_enable, 0, 1), (.opt_ring_status_state, 57, 1)])).dev.ring (ringIx
        (5 : Fin 512) (7 : Fin 10)) = rsSWEEP ∧ 5 ≤ (7 : Fin 10).val) ∧
    (([] : List (Fin 3001)) = []) ∧
    (((upState [(.port_cfg_role, 5, 1), (.opt_eng_ctrl_lock_enable, 0, 1), (.opt_ring_status_state, 57, 2)])).dev.ring (ringIx
        (5 : Fin 512) (7 : Fin 10)) = rsIDENTIFY) ∧
    (seenSlot ((#v[0, 0, 3000, 0, 0, 0] : Vector (BitVec 16) 6).toList.map BitVec.toInt) = ringSlot (7 : Fin 10)) ∧
    (((upState [(.port_cfg_role, 5, 1), (.opt_eng_ctrl_lock_enable, 0, 1), (.opt_ring_status_state, 57, 3)])).dev.ring (ringIx
        (5 : Fin 512) (7 : Fin 10)) = rsACQUIRE) ∧
    (300 ≤ (300 : Fin 3001).val ∧ (300 : Fin 3001).val < 2700 ∧ (sgn 16 (1 : BitVec 16).toNat).natAbs ≤ 2000) ∧
    (((upState [(.port_cfg_role, 5, 1), (.opt_eng_ctrl_lock_enable, 0, 1), (.opt_ring_status_state, 57, 3), (.h_ring_acqto, 57,
        1)])).dev.ring (ringIx (5 : Fin 512) (7 : Fin 10)) = rsACQUIRE ∧ ((upState [(.port_cfg_role, 5, 1),
        (.opt_eng_ctrl_lock_enable, 0, 1), (.opt_ring_status_state, 57, 3), (.h_ring_acqto, 57, 1)])).dev.flag .h_ring_rail
        (ringIx (5 : Fin 512) (7 : Fin 10)) = false ∧ ((upState [(.port_cfg_role, 5, 1), (.opt_eng_ctrl_lock_enable, 0, 1),
        (.opt_ring_status_state, 57, 3), (.h_ring_acqto, 57, 1)])).dev.get .h_ring_acqto (ringIx (5 : Fin 512) (7 : Fin 10)) <
        2) ∧
    (((upState [(.port_cfg_role, 5, 1), (.opt_eng_ctrl_lock_enable, 0, 1), (.opt_ring_status_state, 57, 4)])).dev.ring (ringIx
        (5 : Fin 512) (7 : Fin 10)) = rsLOCKED) ∧
    (((upState [(.port_cfg_role, 5, 1), (.opt_eng_ctrl_lock_enable, 0, 1), (.opt_ring_status_state, 57, 4)])).dev.flag
        .h_peer_seq (5 : Fin 512) = false ∧ (((((upState [(.port_cfg_role, 5, 1), (.opt_eng_ctrl_lock_enable, 0, 1),
        (.opt_ring_status_state, 57, 4)])).dev.set .opt_ring_status_state (ringIx (5 : Fin 512) (7 : Fin 10)) rsHOLD).rxDark
        (ringIx (5 : Fin 512) (7 : Fin 10))).afterRing (5 : Fin 512)).flag .h_peer_seq (5 : Fin 512) = false) ∧
    (((upState [(.port_cfg_role, 5, 1), (.opt_eng_ctrl_lock_enable, 0, 1), (.opt_ring_status_state, 57, 5)])).dev.ring (ringIx
        (5 : Fin 512) (7 : Fin 10)) = rsHOLD) ∧
    (((upState [(.port_cfg_role, 5, 1), (.opt_eng_ctrl_lock_enable, 0, 1), (.opt_ring_status_state, 57, 5)])).dev.ring (ringIx
        (5 : Fin 512) (7 : Fin 10)) = rsHOLD ∧ 5 ≤ (7 : Fin 10).val ∧ ((upState [(.port_cfg_role, 5, 1),
        (.opt_eng_ctrl_lock_enable, 0, 1), (.opt_ring_status_state, 57, 5)])).dev.flag .h_ring_ever (ringIx (5 : Fin 512) (7 :
        Fin 10)) = false) ∧
    (((upState [(.port_cfg_role, 5, 1), (.opt_eng_ctrl_lock_enable, 0, 1), (.opt_ring_status_state, 57, 6)])).dev.ring (ringIx
        (5 : Fin 512) (7 : Fin 10)) = rsRELOCK) ∧
    ((2951 : Fin 3001).val < 50 ∨ 2950 < (2951 : Fin 3001).val) ∧
    (seenSlot ((#v[0, 0, 0, 0, 0, 0] : Vector (BitVec 16) 6).toList.map BitVec.toInt) = 7) := by
  refine ⟨?_, ?_, ?_, ?_, ?_, ?_, ?_, ?_, ?_, ?_, ?_, ?_, ?_, ?_, ?_, ?_⟩ <;>
    decide +kernel

/-- States and operands that meet the premises of `Obligations.RingCommandsAndEngines`, clause by clause. -/
theorem witness_RingCommandsAndEngines :
    (((upState [])).dev.accepts (.ringCmdNop (.fabric : Mark) (5 : Fin 512) (7 : Fin 10)) = true) ∧
    (((upState [(.port_cfg_role, 5, 1), (.opt_eng_ctrl_lock_enable, 0, 1), (.opt_ring_status_state, 57, 4)])).dev.accepts
        (.ringCmdOff (.fabric : Mark) (5 : Fin 512) (7 : Fin 10)) = true) ∧
    (((upState [(.port_cfg_role, 5, 1), (.opt_eng_ctrl_lock_enable, 0, 1), (.opt_ring_status_state, 57, 4)])).dev.ringBusy (5 :
        Fin 512) (7 : Fin 10) = false) ∧
    (((upState [(.port_cfg_role, 5, 1), (.opt_eng_ctrl_lock_enable, 0, 1), (.opt_ring_status_state, 57, 4)])).dev.accepts
        (.ringCmdRestart (.fabric : Mark) (5 : Fin 512) (7 : Fin 10)) = true) ∧
    (((upState [(.port_cfg_role, 5, 1), (.opt_eng_ctrl_lock_enable, 0, 1), (.opt_ring_status_state, 57, 4),
        (.port_status_link_status, 5, 8), (.opt_lane_map_rx_lane, 20, 2)])).dev.accepts (.ringCmdOff (.fabric : Mark) (5 : Fin
        512) (7 : Fin 10)) = true) ∧
    (((upState [(.port_cfg_role, 5, 1), (.opt_eng_ctrl_lock_enable, 0, 1), (.opt_ring_status_state, 57, 4),
        (.port_status_link_status, 5, 8), (.opt_lane_map_rx_lane, 20, 2)])).dev.ringBusy (5 : Fin 512) (7 : Fin 10) = true) ∧
    (((upState [(.port_cfg_role, 5, 1), (.opt_eng_ctrl_lock_enable, 0, 1), (.opt_ring_status_state, 57, 7)])).dev.accepts
        (.ringCmdRetry (.fabric : Mark) (5 : Fin 512) (7 : Fin 10)) = true) ∧
    (((upState [(.port_cfg_role, 5, 1), (.opt_eng_ctrl_lock_enable, 0, 1), (.opt_ring_status_state, 57, 7)])).dev.ring (ringIx
        (5 : Fin 512) (7 : Fin 10)) = rsFAULT) ∧
    (((upState [])).dev.accepts (.optEngCtrlWrite (.fabric : Mark) (7 : Fin 8) (0x0A01 : Word)) = true) ∧
    (((upState [])).dev.flag .opt_eng_status_ff_link_ok (7 : Fin 8) = false) ∧
    (((upState [(.opt_eng_status_ff_link_ok, 7, 1)])).dev.flag .opt_eng_status_ff_link_ok (7 : Fin 8) = true) := by
  refine ⟨?_, ?_, ?_, ?_, ?_, ?_, ?_, ?_, ?_, ?_, ?_⟩ <;>
    decide +kernel

/-- States and operands that meet the premises of `Obligations.LaneMapsAndPower`, clause by clause. -/
theorem witness_LaneMapsAndPower :
    (((upState [])).dev.accepts (.optLaneMapWrite (.fabric : Mark) (5 : Fin 512) (0x32103214 : Word)) = true) ∧
    (((upState [])).dev.fenced (5 : Fin 512) = true ∨ ((upState [])).dev.role (5 : Fin 512) = roleDISABLED) ∧
    (halfOk (mapWord (0x32103214 : Word).toNat 0) = true ∧ halfOk (mapWord (0x32103214 : Word).toNat 16) = true) ∧
    (((upState [(.port_cfg_role, 5, 1), (.port_status_link_status, 5, 8)])).dev.accepts (.optLaneMapWrite (.fabric : Mark) (5 :
        Fin 512) (0x32103214 : Word)) = true) ∧
    (((upState [(.port_cfg_role, 5, 1), (.port_status_link_status, 5, 8)])).dev.fenced (5 : Fin 512) = false ∧ ((upState
        [(.port_cfg_role, 5, 1), (.port_status_link_status, 5, 8)])).dev.role (5 : Fin 512) ≠ roleDISABLED) ∧
    (((upState [(.opt_lane_switch_cw_tx_switch_cw, 5, 2000)])).dev.accepts (.laneTxArm (.fabric : Mark) (5 : Fin 512)
        (0x32103214 : Word)) = true) ∧
    (((upState [(.opt_lane_switch_cw_tx_switch_cw, 5, 2000)])).dev.seqOwns (5 : Fin 512) = false ∧ bit (0x32103214 : Word).toNat
        62 = false) ∧
    (cwAhead (((upState [(.opt_lane_switch_cw_tx_switch_cw, 5, 2000)])).dev.get .opt_lane_switch_cw_tx_switch_cw (5 : Fin 512))
        (((upState [(.opt_lane_switch_cw_tx_switch_cw, 5, 2000)])).dev.txCw (5 : Fin 512)) = true) ∧
    (((upState [(.opt_lane_switch_cw_rx_switch_cw, 5, 2000)])).dev.accepts (.laneRxArm (.fabric : Mark) (5 : Fin 512)
        (0x32103214 : Word)) = true) ∧
    (((upState [(.opt_lane_switch_cw_rx_switch_cw, 5, 2000)])).dev.seqOwns (5 : Fin 512) = false ∧ bit (0x32103214 : Word).toNat
        63 = false) ∧
    (cwAhead (((upState [(.opt_lane_switch_cw_rx_switch_cw, 5, 2000)])).dev.get .opt_lane_switch_cw_rx_switch_cw (5 : Fin 512))
        (((upState [(.opt_lane_switch_cw_rx_switch_cw, 5, 2000)])).dev.rxCw (5 : Fin 512)) = true) ∧
    (((upState [(.opt_lane_next_tx_arm, 5, 1)])).dev.flag .opt_lane_next_tx_arm (5 : Fin 512) = true ∧ ((upState
        [(.opt_lane_next_tx_arm, 5, 1)])).dev.seqOwns (5 : Fin 512) = false) ∧
    (((upState [(.opt_lane_next_rx_arm, 5, 1)])).dev.flag .opt_lane_next_rx_arm (5 : Fin 512) = true ∧ ((upState
        [(.opt_lane_next_rx_arm, 5, 1)])).dev.flag .h_peer_back (5 : Fin 512) = false) ∧
    ((3 : Fin 5).val < 4 ∧ ((upState [(.opt_lane_map_rx_lane, 23, 3), (.opt_ring_status_state, 58, 4), (.opt_rx_thresh_high, 0,
        10)])).dev.ring (((upState [(.opt_lane_map_rx_lane, 23, 3), (.opt_ring_status_state, 58, 4), (.opt_rx_thresh_high, 0,
        10)])).dev.rxRing (5 : Fin 512) (3 : Fin 5)) = rsLOCKED) ∧
    (thresh (((upState [(.opt_lane_map_rx_lane, 23, 3), (.opt_ring_status_state, 58, 4), (.opt_rx_thresh_high, 0, 10)])).dev.get
        .opt_rx_thresh_warn ((5 : Fin 512) / 64)) ≤ oma (0 : BitVec 16).toNat ∧ thresh (((upState [(.opt_lane_map_rx_lane, 23,
        3), (.opt_ring_status_state, 58, 4), (.opt_rx_thresh_high, 0, 10)])).dev.get .opt_rx_thresh_alarm ((5 : Fin 512) / 64))
        ≤ oma (0 : BitVec 16).toNat ∧ oma (0 : BitVec 16).toNat ≤ thresh (((upState [(.opt_lane_map_rx_lane, 23, 3),
        (.opt_ring_status_state, 58, 4), (.opt_rx_thresh_high, 0, 10)])).dev.get .opt_rx_thresh_high ((5 : Fin 512) / 64))) ∧
    ((true : Bool) = true) ∧
    ((false : Bool) = false) ∧
    (((upState [(.port_cfg_role, 5, 1), (.port_status_link_status, 5, 8), (.opt_rx_power_lane, 23, 0xFF00),
        (.opt_rx_thresh_warn, 0, 0)])).dev.admitted (5 : Fin 512) = true ∧ ((upState [(.port_cfg_role, 5, 1),
        (.port_status_link_status, 5, 8), (.opt_rx_power_lane, 23, 0xFF00), (.opt_rx_thresh_warn, 0, 0)])).dev.fenced (5 : Fin
        512) = false) ∧
    ((false : Bool) = false ∧ ((upState [(.port_cfg_role, 5, 1), (.port_status_link_status, 5, 8), (.opt_rx_power_lane, 23,
        0xFF00), (.opt_rx_thresh_warn, 0, 0)])).dev.get .opt_rx_power_lane (4 * (5 : Fin 512) + (3 : Fin 4)) ≠ 0x8000 ∧ oma
        (((upState [(.port_cfg_role, 5, 1), (.port_status_link_status, 5, 8), (.opt_rx_power_lane, 23, 0xFF00),
        (.opt_rx_thresh_warn, 0, 0)])).dev.get .opt_rx_power_lane (4 * (5 : Fin 512) + (3 : Fin 4))) < thresh (((upState
        [(.port_cfg_role, 5, 1), (.port_status_link_status, 5, 8), (.opt_rx_power_lane, 23, 0xFF00), (.opt_rx_thresh_warn, 0,
        0)])).dev.get .opt_rx_thresh_warn ((5 : Fin 512) / 64))) ∧
    (((upState [(.port_cfg_role, 5, 1), (.port_status_link_status, 5, 8), (.opt_rx_power_lane, 23, 0xFF00),
        (.opt_rx_thresh_warn, 0, 0)])).dev.bitOf .h_pwr_blk_up (5 : Fin 512) (3 : Fin 4) = false ∧ ((upState [(.port_cfg_role,
        5, 1), (.port_status_link_status, 5, 8), (.opt_rx_power_lane, 23, 0xFF00), (.opt_rx_thresh_warn, 0, 0)])).dev.bitOf
        .opt_margin_status_request_pending (5 : Fin 512) (3 : Fin 4) = false) ∧
    (((upState [(.port_cfg_role, 5, 1), (.port_status_link_status, 5, 8), (.opt_tx_trim_trim, 23, 0), (.opt_tx_trim_trim_max, 5,
        3)])).dev.boundSvc (5 : Fin 512) = none ∧ ((upState [(.port_cfg_role, 5, 1), (.port_status_link_status, 5, 8),
        (.opt_tx_trim_trim, 23, 0), (.opt_tx_trim_trim_max, 5, 3)])).dev.lcFits (5 : Fin 512) = true ∧ ((upState
        [(.port_cfg_role, 5, 1), (.port_status_link_status, 5, 8), (.opt_tx_trim_trim, 23, 0), (.opt_tx_trim_trim_max, 5,
        3)])).dev.admitted (5 : Fin 512) = true) ∧
    (((upState [(.port_cfg_role, 5, 1), (.port_status_link_status, 5, 8), (.opt_tx_trim_trim, 23, 0), (.opt_tx_trim_trim_max, 5,
        3)])).dev.flag .h_pwr_rx_v (4 * (5 : Fin 512) + (3 : Fin 4)) = false) ∧
    ((false : Bool) = false ∧ ((upState [(.port_cfg_role, 5, 1), (.port_status_link_status, 5, 8), (.opt_tx_trim_trim, 23, 0),
        (.opt_tx_trim_trim_max, 5, 3)])).dev.get .opt_tx_trim_trim (4 * (5 : Fin 512) + (3 : Fin 4)) < ((upState
        [(.port_cfg_role, 5, 1), (.port_status_link_status, 5, 8), (.opt_tx_trim_trim, 23, 0), (.opt_tx_trim_trim_max, 5,
        3)])).dev.get .opt_tx_trim_trim_max (5 : Fin 512)) ∧
    (((upState [(.port_cfg_role, 5, 1), (.port_status_link_status, 5, 8), (.opt_margin_status_request_pending, 5,
        8)])).dev.lcFits (5 : Fin 512) = true) ∧
    ((true : Bool) = true ∧ ((upState [(.port_cfg_role, 5, 1), (.port_status_link_status, 5, 8),
        (.opt_margin_status_request_pending, 5, 8)])).dev.bitOf .opt_margin_status_request_pending (5 : Fin 512) (3 : Fin 4) =
        true) := by
  refine ⟨?_, ?_, ?_, ?_, ?_, ?_, ?_, ?_, ?_, ?_, ?_, ?_, ?_, ?_, ?_, ?_, ?_, ?_, ?_, ?_, ?_, ?_, ?_, ?_, ?_⟩ <;>
    decide +kernel

/-- States and operands that meet the premises of `Obligations.LaserLightingAndWear`, clause by clause. -/
theorem witness_LaserLightingAndWear :
    (((upState [])).dev.accepts (.lasEngCtrlWrite (.fabric : Mark) (1 : Fin 8) (1 : Word)) = true) ∧
    (((upState [])).dev.flag .h_eng_hold (1 : Fin 8) = false) ∧
    (((upState [(.las_eng_ctrl_laser_enable, 1, 1), (.port_cfg_role, 72, 1)])).dev.octetWanted (9 : Fin 64) = true ∧ ((upState
        [(.las_eng_ctrl_laser_enable, 1, 1), (.port_cfg_role, 72, 1)])).dev.flag .h_oct_lit (9 : Fin 64) = false ∧ ((upState
        [(.las_eng_ctrl_laser_enable, 1, 1), (.port_cfg_role, 72, 1)])).dev.laserCold ((9 : Fin 64) / 8) = false) ∧
    (((upState [(.las_dfb_status_state, 99, 1)])).dev.dfb (dfbIx (9 : Fin 64) (4 : Fin 5) (1 : Fin 2)) = 1 ∧ ((upState
        [(.las_dfb_status_state, 99, 1)])).dev.laserCold ((9 : Fin 64) / 8) = false) ∧
    (((upState [(.las_dfb_status_state, 99, 2)])).dev.dfb (dfbIx (9 : Fin 64) (4 : Fin 5) (1 : Fin 2)) = 2) ∧
    (((upState [(.las_dfb_status_state, 99, 2)])).dev.seqPhase (9 : Fin 64) ≠ 4 ∧ ((upState [(.las_dfb_status_state, 99,
        2)])).dev.seqPhase (9 : Fin 64) ≠ 7) ∧
    (((upState [(.las_dfb_status_state, 99, 3)])).dev.dfb (dfbIx (9 : Fin 64) (4 : Fin 5) (1 : Fin 2)) = 3) ∧
    (sgn 16 (0xFFFF : BitVec 16).toNat < 0) ∧
    (((upState [(.las_dfb_status_state, 99, 3), (.las_dfb_status_bias, 99, 1999)])).dev.dfb (dfbIx (9 : Fin 64) (4 : Fin 5) (1 :
        Fin 2)) = 3 ∧ ((upState [(.las_dfb_status_state, 99, 3), (.las_dfb_status_bias, 99, 1999)])).dev.get
        .las_dfb_status_bias (dfbIx (9 : Fin 64) (4 : Fin 5) (1 : Fin 2)) < 2000) ∧
    (((upState [(.las_dfb_status_state, 98, 3), (.las_dfb_status_bias, 98, 2000), (.las_eng_ctrl_auto_spare, 1, 0)])).dev.dfb
        (dfbIx (9 : Fin 64) (4 : Fin 5) (0 : Fin 2)) = 3 ∧ 2000 ≤ ((upState [(.las_dfb_status_state, 98, 3),
        (.las_dfb_status_bias, 98, 2000), (.las_eng_ctrl_auto_spare, 1, 0)])).dev.get .las_dfb_status_bias (dfbIx (9 : Fin 64)
        (4 : Fin 5) (0 : Fin 2)) ∧ ((upState [(.las_dfb_status_state, 98, 3), (.las_dfb_status_bias, 98, 2000),
        (.las_eng_ctrl_auto_spare, 1, 0)])).dev.get .las_dfb_status_bias (dfbIx (9 : Fin 64) (4 : Fin 5) (0 : Fin 2)) < 2400) ∧
    (((upState [(.las_dfb_status_state, 98, 3), (.las_dfb_status_bias, 98, 2000), (.las_eng_ctrl_auto_spare, 1, 0)])).dev.flag
        .h_dfb_warned (dfbIx (9 : Fin 64) (4 : Fin 5) (0 : Fin 2)) = false ∧ ((upState [(.las_dfb_status_state, 98, 3),
        (.las_dfb_status_bias, 98, 2000), (.las_eng_ctrl_auto_spare, 1, 0)])).dev.standbyUnused (9 : Fin 64) (4 : Fin 5) = true
        ∧ ((upState [(.las_dfb_status_state, 98, 3), (.las_dfb_status_bias, 98, 2000), (.las_eng_ctrl_auto_spare, 1,
        0)])).dev.flag .las_eng_ctrl_auto_spare ((9 : Fin 64) / 8) = false) ∧
    (((upState [(.las_dfb_status_state, 98, 3), (.las_dfb_status_bias, 98, 2400)])).dev.dfb (dfbIx (9 : Fin 64) (4 : Fin 5)
        (((upState [(.las_dfb_status_state, 98, 3), (.las_dfb_status_bias, 98, 2400)])).dev.activeB (9 : Fin 64) (4 : Fin 5))) =
        3 ∧ 2400 ≤ ((upState [(.las_dfb_status_state, 98, 3), (.las_dfb_status_bias, 98, 2400)])).dev.get .las_dfb_status_bias
        (dfbIx (9 : Fin 64) (4 : Fin 5) (((upState [(.las_dfb_status_state, 98, 3), (.las_dfb_status_bias, 98,
        2400)])).dev.activeB (9 : Fin 64) (4 : Fin 5)))) ∧
    (((upState [(.las_dfb_status_state, 98, 3), (.las_dfb_status_bias, 98, 2400)])).dev.dfb (dfbIx (9 : Fin 64) (4 : Fin 5)
        (((upState [(.las_dfb_status_state, 98, 3), (.las_dfb_status_bias, 98, 2400)])).dev.activeB (9 : Fin 64) (4 : Fin 5))) =
        3) ∧
    ((true : Bool) = true) := by
  refine ⟨?_, ?_, ?_, ?_, ?_, ?_, ?_, ?_, ?_, ?_, ?_, ?_, ?_, ?_⟩ <;>
    decide +kernel

/-- States and operands that meet the premises of `Obligations.SparingSequences`, clause by clause. -/
theorem witness_SparingSequences :
    (((upState [])).dev.accepts (.lasOctCmdNop (.fabric : Mark) (63 : Fin 64) (4 : Fin 8)) = true) ∧
    (((upState [])).dev.accepts (.lasOctCmdSpare (.fabric : Mark) (63 : Fin 64) (4 : Fin 8)) = true) ∧
    (((upState [])).dev.seqHas (63 : Fin 64) (4 : Fin 8) = false ∧ ((upState [])).dev.get .las_oct_status_parked (63 : Fin 64) =
        0 ∧ ((upState [])).dev.standbyUnused (63 : Fin 64) (4 : Fin 8) = true) ∧
    (((upState [])).dev.accepts (.lasOctCmdPark (.fabric : Mark) (63 : Fin 64) (0 : Fin 8)) = true) ∧
    (((upState [])).dev.seqHas (63 : Fin 64) (0 : Fin 8) = false ∧ ((upState [])).dev.get .las_oct_status_parked (63 : Fin 64) =
        0) ∧
    (((upState [(.las_oct_status_parked, 9, 1)])).dev.accepts (.lasOctCmdSpare (.fabric : Mark) (9 : Fin 64) (0 : Fin 8)) =
        true) ∧
    (((upState [(.las_oct_status_parked, 9, 1)])).dev.seqHas (9 : Fin 64) (0 : Fin 8) = false) ∧
    (((upState [(.las_oct_status_parked, 9, 1)])).dev.get .las_oct_status_parked (9 : Fin 64) ≠ 0 ∨ ((upState
        [(.las_oct_status_parked, 9, 1)])).dev.standbyUnused (9 : Fin 64) (0 : Fin 8) = false) ∧
    (({ upState [(.las_oct_status_phase, 9, 1)] with dev := { (upState [(.las_oct_status_phase, 9, 1)]).dev with seqQueue := [⟨9, 4, 0⟩] } }).dev.accepts
        (.lasOctCmdAbort (.fabric : Mark) (9 : Fin 64) (4 : Fin 8)) = true) ∧
    (({ upState [(.las_oct_status_phase, 9, 1)] with dev := { (upState [(.las_oct_status_phase, 9, 1)]).dev with seqQueue := [⟨9, 4, 0⟩] } }).dev.seqQueue.any
        (fun q => q.named (9 : Fin 64) (4 : Fin 8)) = true) ∧
    (({ upState [(.las_oct_status_phase, 9, 1)] with dev := { (upState [(.las_oct_status_phase, 9, 1)]).dev with seqQueue := [⟨9, 4, 0⟩] } }).dev.seqNext
        ((9 : Fin 64) / 8) = some (⟨9, 4, 0⟩ : SeqReq) ∧ (⟨9, 4, 0⟩ : SeqReq).octet = (9 : Fin 64)) ∧
    (({ upState [(.las_oct_status_phase, 9, 1)] with dev := { (upState [(.las_oct_status_phase, 9, 1)]).dev with seqQueue := [⟨9, 4, 0⟩] } }).dev.octRunning
        ((9 : Fin 64) / 8) < 2) ∧
    (({ upState [(.las_oct_status_phase, 9, 1)] with dev := { (upState [(.las_oct_status_phase, 9, 1)]).dev with seqQueue := [⟨9, 4, 0⟩] } }).dev.seqRefused
        (⟨9, 4, 0⟩ : SeqReq) = false ∧ (⟨9, 4, 0⟩ : SeqReq).kind ≠ 2) ∧
    (((upState [(.port_cfg_role, 5, 1), (.port_status_link_status, 5, 8), (.opt_lane_map_rx_lane, 20, 0),
        (.opt_lane_map_rx_lane, 21, 1), (.opt_lane_map_rx_lane, 22, 2), (.opt_lane_map_rx_lane, 23, 3), (.opt_ring_status_state,
        59, 4), (.opt_rx_spare_spare, 5, 0), (.opt_rx_thresh_warn, 0, 0xFF00)])).dev.boundSvc (5 : Fin 512) = none ∧ ((upState
        [(.port_cfg_role, 5, 1), (.port_status_link_status, 5, 8), (.opt_lane_map_rx_lane, 20, 0), (.opt_lane_map_rx_lane, 21,
        1), (.opt_lane_map_rx_lane, 22, 2), (.opt_lane_map_rx_lane, 23, 3), (.opt_ring_status_state, 59, 4),
        (.opt_rx_spare_spare, 5, 0), (.opt_rx_thresh_warn, 0, 0xFF00)])).dev.lcFits (5 : Fin 512) = true ∧ ((upState
        [(.port_cfg_role, 5, 1), (.port_status_link_status, 5, 8), (.opt_lane_map_rx_lane, 20, 0), (.opt_lane_map_rx_lane, 21,
        1), (.opt_lane_map_rx_lane, 22, 2), (.opt_lane_map_rx_lane, 23, 3), (.opt_ring_status_state, 59, 4),
        (.opt_rx_spare_spare, 5, 0), (.opt_rx_thresh_warn, 0, 0xFF00)])).dev.admitted (5 : Fin 512) = true) ∧
    ((((upState [(.port_cfg_role, 5, 1), (.port_status_link_status, 5, 8), (.opt_lane_map_rx_lane, 20, 0),
        (.opt_lane_map_rx_lane, 21, 1), (.opt_lane_map_rx_lane, 22, 2), (.opt_lane_map_rx_lane, 23, 3), (.opt_ring_status_state,
        59, 4), (.opt_rx_spare_spare, 5, 0), (.opt_rx_thresh_warn, 0, 0xFF00)])).dev.lcGot (5 : Fin 512)).spareCheck (5 : Fin
        512) (3 : BitVec 16).toNat (false : Bool) (0 : Fin 5) (4 : Fin 5) (2000 : BitVec 32).toNat = 0) ∧
    (((upState [(.las_oct_status_phase, 9, 2), (.las_oct_status_slot, 9, 4), (.las_oct_status_participants, 9, 2),
        (.port_cfg_role, 73, 1), (.port_status_link_status, 73, 8), (.h_seq_no, 9, 3), (.h_sq_wait, 73, 1)])).dev.lcFits (73 :
        Fin 512) = true ∧ ((upState [(.las_oct_status_phase, 9, 2), (.las_oct_status_slot, 9, 4), (.las_oct_status_participants,
        9, 2), (.port_cfg_role, 73, 1), (.port_status_link_status, 73, 8), (.h_seq_no, 9, 3), (.h_sq_wait, 73,
        1)])).dev.awaitsAck (73 : Fin 512) = true) ∧
    (((upState [(.las_oct_status_phase, 9, 2), (.las_oct_status_slot, 9, 4), (.las_oct_status_participants, 9, 2),
        (.port_cfg_role, 73, 1), (.port_status_link_status, 73, 8), (.h_seq_no, 9, 3), (.h_sq_wait, 73, 1)])).dev.get .h_seq_no
        ((73 : Fin 512) / 8) = (3 : BitVec 16).toNat ∧ (0 : Fin 8).val = 0) ∧
    (((upState [(.las_oct_status_phase, 9, 2), (.las_oct_status_slot, 9, 4), (.las_oct_status_participants, 9, 2), (.h_sq_wait,
        73, 1), (.h_sq_try, 73, 2)])).dev.awaitsAck (73 : Fin 512) = true ∧ ((upState [(.las_oct_status_phase, 9, 2),
        (.las_oct_status_slot, 9, 4), (.las_oct_status_participants, 9, 2), (.h_sq_wait, 73, 1), (.h_sq_try, 73, 2)])).dev.get
        .h_sq_try (73 : Fin 512) < 3) ∧
    (((upState [(.las_oct_status_phase, 9, 2), (.las_oct_status_slot, 9, 4), (.las_oct_status_participants, 9, 2), (.h_sq_wait,
        73, 1), (.h_sq_try, 73, 3)])).dev.awaitsAck (73 : Fin 512) = true ∧ 3 ≤ ((upState [(.las_oct_status_phase, 9, 2),
        (.las_oct_status_slot, 9, 4), (.las_oct_status_participants, 9, 2), (.h_sq_wait, 73, 1), (.h_sq_try, 73, 3)])).dev.get
        .h_sq_try (73 : Fin 512)) ∧
    (((upState [(.las_oct_status_phase, 9, 4), (.las_oct_status_slot, 9, 4), (.las_oct_status_participants, 9, 2),
        (.las_dfb_status_state, 98, 4)])).dev.seqPhase (9 : Fin 64) = 4) ∧
    (((upState [(.las_oct_status_phase, 9, 4), (.las_oct_status_slot, 9, 4), (.las_oct_status_participants, 9, 2),
        (.las_dfb_status_state, 98, 4)])).dev.dfb (dfbIx (9 : Fin 64) (((upState [(.las_oct_status_phase, 9, 4),
        (.las_oct_status_slot, 9, 4), (.las_oct_status_participants, 9, 2), (.las_dfb_status_state, 98, 4)])).dev.get
        .las_oct_status_slot (9 : Fin 64)) 0) = 4) ∧
    (((upState [(.las_oct_status_phase, 9, 4), (.las_oct_status_slot, 9, 4), (.las_oct_status_participants, 9, 2),
        (.las_dfb_status_state, 99, 2)])).dev.seqPhase (9 : Fin 64) = 4 ∧ ((upState [(.las_oct_status_phase, 9, 4),
        (.las_oct_status_slot, 9, 4), (.las_oct_status_participants, 9, 2), (.las_dfb_status_state, 99, 2)])).dev.laserCold ((9
        : Fin 64) / 8) = false) ∧
    (((upState [(.las_oct_status_phase, 9, 4), (.las_oct_status_slot, 9, 4), (.las_oct_status_participants, 9, 2),
        (.las_dfb_status_state, 99, 2)])).dev.dfbRising (dfbIx (9 : Fin 64) (((upState [(.las_oct_status_phase, 9, 4),
        (.las_oct_status_slot, 9, 4), (.las_oct_status_participants, 9, 2), (.las_dfb_status_state, 99, 2)])).dev.get
        .las_oct_status_slot (9 : Fin 64)) 1) = true ∧ ((upState [(.las_oct_status_phase, 9, 4), (.las_oct_status_slot, 9, 4),
        (.las_oct_status_participants, 9, 2), (.las_dfb_status_state, 99, 2)])).dev.dfb (dfbIx (9 : Fin 64) (((upState
        [(.las_oct_status_phase, 9, 4), (.las_oct_status_slot, 9, 4), (.las_oct_status_participants, 9, 2),
        (.las_dfb_status_state, 99, 2)])).dev.get .las_oct_status_slot (9 : Fin 64)) 0) ≠ 6) ∧
    (((upState [(.las_oct_status_phase, 9, 7), (.las_oct_status_slot, 9, 4), (.las_oct_status_participants, 9, 2),
        (.las_dfb_status_state, 98, 2)])).dev.seqPhase (9 : Fin 64) = 7) ∧
    (((upState [(.las_oct_status_phase, 9, 7), (.las_oct_status_slot, 9, 4), (.las_oct_status_participants, 9, 2),
        (.las_dfb_status_state, 98, 2)])).dev.dfbRising (dfbIx (9 : Fin 64) (((upState [(.las_oct_status_phase, 9, 7),
        (.las_oct_status_slot, 9, 4), (.las_oct_status_participants, 9, 2), (.las_dfb_status_state, 98, 2)])).dev.get
        .las_oct_status_slot (9 : Fin 64)) 0) = true) ∧
    (((upState [(.las_oct_status_phase, 9, 6), (.las_oct_status_slot, 9, 4), (.las_oct_status_participants, 9, 2),
        (.port_cfg_role, 73, 1), (.port_status_link_status, 73, 8), (.h_seq_no, 9, 3), (.h_sq_out, 73, 1)])).dev.lcFits (73 :
        Fin 512) = true ∧ (((upState [(.las_oct_status_phase, 9, 6), (.las_oct_status_slot, 9, 4),
        (.las_oct_status_participants, 9, 2), (.port_cfg_role, 73, 1), (.port_status_link_status, 73, 8), (.h_seq_no, 9, 3),
        (.h_sq_out, 73, 1)])).dev.lcGot (73 : Fin 512)).backDue (73 : Fin 512) = true) ∧
    (((upState [(.las_oct_status_phase, 9, 6), (.las_oct_status_slot, 9, 4), (.las_oct_status_participants, 9, 2),
        (.port_cfg_role, 73, 1), (.port_status_link_status, 73, 8), (.h_seq_no, 9, 3), (.h_sq_out, 73, 1)])).dev.get .h_seq_no
        ((73 : Fin 512) / 8) = (3 : BitVec 16).toNat ∧ ((upState [(.las_oct_status_phase, 9, 6), (.las_oct_status_slot, 9, 4),
        (.las_oct_status_participants, 9, 2), (.port_cfg_role, 73, 1), (.port_status_link_status, 73, 8), (.h_seq_no, 9, 3),
        (.h_sq_out, 73, 1)])).dev.get .las_oct_status_slot ((73 : Fin 512) / 8) = (4 : Fin 5).val) ∧
    (((upState [(.las_oct_status_phase, 9, 5), (.las_oct_status_slot, 9, 4), (.las_oct_status_participants, 9, 2), (.h_sq_out,
        73, 1)])).dev.seqPhase ((73 : Fin 512) / 8) = 5 ∨ ((upState [(.las_oct_status_phase, 9, 5), (.las_oct_status_slot, 9,
        4), (.las_oct_status_participants, 9, 2), (.h_sq_out, 73, 1)])).dev.seqPhase ((73 : Fin 512) / 8) = 6) ∧
    (((upState [(.las_oct_status_phase, 9, 5), (.las_oct_status_slot, 9, 4), (.las_oct_status_participants, 9, 2), (.h_sq_out,
        73, 1)])).dev.backDue (73 : Fin 512) = true) ∧
    (((upState [(.las_oct_status_phase, 9, 6), (.las_oct_status_slot, 9, 4), (.las_oct_status_participants, 9,
        2)])).dev.seqPhase ((73 : Fin 512) / 8) = 5 ∨ ((upState [(.las_oct_status_phase, 9, 6), (.las_oct_status_slot, 9, 4),
        (.las_oct_status_participants, 9, 2)])).dev.seqPhase ((73 : Fin 512) / 8) = 6) ∧
    (((upState [(.las_oct_status_phase, 9, 6), (.las_oct_status_slot, 9, 4), (.las_oct_status_participants, 9, 2)])).dev.seqOwns
        (73 : Fin 512) = true ∧ ((upState [(.las_oct_status_phase, 9, 6), (.las_oct_status_slot, 9, 4),
        (.las_oct_status_participants, 9, 2)])).dev.admitted (73 : Fin 512) = false ∧ ((upState [(.las_oct_status_phase, 9, 6),
        (.las_oct_status_slot, 9, 4), (.las_oct_status_participants, 9, 2)])).dev.flag .h_sq_back (73 : Fin 512) = false) := by
  refine ⟨?_, ?_, ?_, ?_, ?_, ?_, ?_, ?_, ?_, ?_, ?_, ?_, ?_, ?_, ?_, ?_, ?_, ?_, ?_, ?_, ?_, ?_, ?_, ?_, ?_, ?_, ?_, ?_, ?_,
      ?_, ?_⟩ <;>
    decide +kernel

/-- States and operands that meet the premises of `Obligations.ExpressCircuits`, clause by clause. -/
theorem witness_ExpressCircuits :
    (((upState [])).dev.accepts (.xprCmdNop (.fabric : Mark) (63 : Fin 64)) = true) ∧
    (((upState [(.xpr_circ_cfg_n_drop, 63, 1), (.xpr_circ_cfg_add_port, 63, 5), (.xpr_circ_cfg_drop, 252, 70),
        (.xpr_circ_cfg_slot, 63, 4), (.xpr_circ_weight_w, 252, 1024), (.opt_rx_spare_spare, 5, 0), (.port_cfg_role, 5, 5),
        (.port_cfg_role, 70, 5), (.opt_lane_map_rx_lane, 20, 0), (.opt_lane_map_rx_lane, 21, 1), (.opt_lane_map_rx_lane, 22, 2),
        (.opt_lane_map_rx_lane, 23, 3)])).dev.accepts (.xprCmdSetup (.fabric : Mark) (63 : Fin 64)) = true) ∧
    (((upState [(.xpr_circ_cfg_n_drop, 63, 1), (.xpr_circ_cfg_add_port, 63, 5), (.xpr_circ_cfg_drop, 252, 70),
        (.xpr_circ_cfg_slot, 63, 4), (.xpr_circ_weight_w, 252, 1024), (.opt_rx_spare_spare, 5, 0), (.port_cfg_role, 5, 5),
        (.port_cfg_role, 70, 5), (.opt_lane_map_rx_lane, 20, 0), (.opt_lane_map_rx_lane, 21, 1), (.opt_lane_map_rx_lane, 22, 2),
        (.opt_lane_map_rx_lane, 23, 3)])).dev.setupStatus (63 : Fin 64) = 0) ∧
    (((upState [])).dev.accepts (.xprCmdSetup (.fabric : Mark) (63 : Fin 64)) = true) ∧
    (((upState [])).dev.setupStatus (63 : Fin 64) ≠ 0) ∧
    (((upState [(.xpr_circ_status_state, 63, 3)])).dev.accepts (.xprCmdTeardown (.fabric : Mark) (63 : Fin 64)) = true) ∧
    (((upState [(.xpr_circ_status_state, 63, 3)])).dev.circState (63 : Fin 64) ≠ 0 ∧ ((upState [(.xpr_circ_status_state, 63,
        3)])).dev.circState (63 : Fin 64) ≠ 4) ∧
    (((upState [(.xpr_circ_status_state, 63, 3)])).dev.accepts (.xprCmdReweight (.fabric : Mark) (63 : Fin 64)) = true) ∧
    (((upState [(.xpr_circ_status_state, 63, 3)])).dev.circState (63 : Fin 64) = 3 ∧ ((upState [(.xpr_circ_status_state, 63,
        3)])).dev.weightBad (63 : Fin 64) = false) ∧
    (((upState [(.xpr_circ_status_state, 63, 3)])).dev.powerOk (63 : Fin 64) (((upState [(.xpr_circ_status_state, 63,
        3)])).dev.get .xpr_circ_status_input_oma (63 : Fin 64)) = true) ∧
    (((upState [(.xpr_circ_status_state, 63, 3), (.h_xpr_rew, 63, 1)])).dev.flag .h_xpr_rew (63 : Fin 64) = true) ∧
    (((upState [(.xpr_circ_status_state, 63, 1)])).dev.circState (63 : Fin 64) = 1) ∧
    (((upState [(.xpr_circ_status_state, 63, 2)])).dev.actDue (63 : Fin 64) = true) ∧
    (((upState [(.xpr_circ_status_state, 63, 4)])).dev.circState (63 : Fin 64) = 4) ∧
    (((upState [(.xpr_circ_status_state, 63, 3)])).dev.circState (63 : Fin 64) = 3 ∧ oma (0xFC00 : BitVec 16).toNat < -850 ∧
        ((upState [(.xpr_circ_status_state, 63, 3)])).dev.flag .h_xpr_lost_ep (63 : Fin 64) = false) ∧
    (((upState [(.xpr_circ_status_state, 63, 3)])).dev.circState (63 : Fin 64) = 3 ∧ -850 ≤ oma (0 : BitVec 16).toNat ∧ (false :
        Bool) = false) ∧
    (((upState [])).dev.accepts (.xprCircCfgWrite (.fabric : Mark) (63 : Fin 64) (0 : Word)) = true) ∧
    (((upState [])).dev.circState (63 : Fin 64) = 0) ∧
    (((upState [(.xpr_circ_status_state, 63, 3)])).dev.accepts (.xprCircWeightWrite (.fabric : Mark) (63 : Fin 64) (0x400 :
        Word)) = true) ∧
    (((upState [(.xpr_circ_status_state, 63, 3)])).dev.circState (63 : Fin 64) = 0 ∨ ((upState [(.xpr_circ_status_state, 63,
        3)])).dev.circState (63 : Fin 64) = 3) ∧
    (((upState [(.xpr_circ_status_state, 63, 3)])).dev.accepts (.xprCircCfgWrite (.fabric : Mark) (63 : Fin 64) (0 : Word)) =
        true) ∧
    (((upState [(.xpr_circ_status_state, 63, 3)])).dev.circState (63 : Fin 64) ≠ 0) ∧
    (((upState [(.port_cfg_role, 5, 1), (.port_status_link_status, 5, 8)])).dev.boundSvc (5 : Fin 512) = none ∧ ((upState
        [(.port_cfg_role, 5, 1), (.port_status_link_status, 5, 8)])).dev.lcFits (5 : Fin 512) = true ∧ ((upState
        [(.port_cfg_role, 5, 1), (.port_status_link_status, 5, 8)])).dev.admitted (5 : Fin 512) = true) ∧
    (((upState [(.port_cfg_role, 5, 1), (.port_status_link_status, 5, 8)])).dev.lcFits (5 : Fin 512) = true) := by
  refine ⟨?_, ?_, ?_, ?_, ?_, ?_, ?_, ?_, ?_, ?_, ?_, ?_, ?_, ?_, ?_, ?_, ?_, ?_, ?_, ?_, ?_, ?_, ?_, ?_⟩ <;>
    decide +kernel

/-- States and operands that meet the premises of `Obligations.FramesIn`, clause by clause. -/
theorem witness_FramesIn :
    (((upState [(.port_cfg_role, 5, 2), (.port_status_link_status, 5, 8), (.port_status_agreed_features, 5, 1)])).dev.quadOn (5
        : Fin 512) = true ∧ ((upState [(.port_cfg_role, 5, 2), (.port_status_link_status, 5, 8), (.port_status_agreed_features,
        5, 1)])).dev.receiving.getOpt (5 : Fin 512) = none ∧ ((upState [(.port_cfg_role, 5, 2), (.port_status_link_status, 5,
        8), (.port_status_agreed_features, 5, 1)])).dev.flag .h_hunting (5 : Fin 512) = false) ∧
    (hdrCrcOk (hdrList (⟨275284096#32, 65537#32, 131072#32, 458776#32, 0#32, 0#32, 0#32, 1884422144#32⟩ : HdrWords)) = false) ∧
    (((upState [(.port_cfg_role, 5, 2), (.port_status_link_status, 5, 8), (.port_status_agreed_features, 5, 1), (.h_hunting, 5,
        1)])).dev.quadOn (5 : Fin 512) = true ∧ ((upState [(.port_cfg_role, 5, 2), (.port_status_link_status, 5, 8),
        (.port_status_agreed_features, 5, 1), (.h_hunting, 5, 1)])).dev.receiving.getOpt (5 : Fin 512) = none) ∧
    (((upState [(.port_cfg_role, 5, 2), (.port_status_link_status, 5, 8), (.port_status_agreed_features, 5, 1), (.h_hunting, 5,
        1)])).dev.flag .h_hunting (5 : Fin 512) = true ∧ hdrCrcOk (hdrList (⟨275284096#32, 65537#32, 131072#32, 458776#32, 0#32,
        0#32, 0#32, 1884422144#32⟩ : HdrWords)) = false) ∧
    (((upState [(.port_cfg_role, 5, 2), (.port_status_link_status, 5, 7)])).dev.quadOn (5 : Fin 512) = true ∧ ((upState
        [(.port_cfg_role, 5, 2), (.port_status_link_status, 5, 7)])).dev.receiving.getOpt (5 : Fin 512) = none ∧ ((upState
        [(.port_cfg_role, 5, 2), (.port_status_link_status, 5, 7)])).dev.flag .h_hunting (5 : Fin 512) = false) ∧
    (hdrCrcOk (hdrList (⟨275284096#32, 65536#32, 131072#32, 458776#32, 0#32, 0#32, 0#32, 1884422144#32⟩ : HdrWords)) = true ∧
        (Hdr.ofWords (hdrList (⟨275284096#32, 65536#32, 131072#32, 458776#32, 0#32, 0#32, 0#32, 1884422144#32⟩ : HdrWords))).ver
        = 1) ∧
    (((upState [(.port_cfg_role, 5, 2), (.port_status_link_status, 5, 7)])).dev.checkLink (5 : Fin 512) (Hdr.ofWords (hdrList
        (⟨275284096#32, 65536#32, 131072#32, 458776#32, 0#32, 0#32, 0#32, 1884422144#32⟩ : HdrWords))) ≠ .pass) ∧
    (({ upState [(.port_cfg_role, 5, 2), (.port_status_link_status, 5, 8), (.port_status_agreed_features, 5, 1)] with dev := { (upState [(.port_cfg_role, 5, 2), (.port_status_link_status, 5, 8), (.port_status_agreed_features, 5, 1)]).dev with ftab := ⟨[(2097152, 2 ^ 63 + 0x100), (2097153, 2 ^ 60 + 7 * 2 ^ 46)]⟩ } }).dev.quadOn
        (5 : Fin 512) = true ∧
        ({ upState [(.port_cfg_role, 5, 2), (.port_status_link_status, 5, 8), (.port_status_agreed_features, 5, 1)] with dev := { (upState [(.port_cfg_role, 5, 2), (.port_status_link_status, 5, 8), (.port_status_agreed_features, 5, 1)]).dev with ftab := ⟨[(2097152, 2 ^ 63 + 0x100), (2097153, 2 ^ 60 + 7 * 2 ^ 46)]⟩ } }).dev.receiving.getOpt
        (5 : Fin 512) = none ∧
        ({ upState [(.port_cfg_role, 5, 2), (.port_status_link_status, 5, 8), (.port_status_agreed_features, 5, 1)] with dev := { (upState [(.port_cfg_role, 5, 2), (.port_status_link_status, 5, 8), (.port_status_agreed_features, 5, 1)]).dev with ftab := ⟨[(2097152, 2 ^ 63 + 0x100), (2097153, 2 ^ 60 + 7 * 2 ^ 46)]⟩ } }).dev.flag
        .h_hunting (5 : Fin 512) = false) ∧
    (({ upState [(.port_cfg_role, 5, 2), (.port_status_link_status, 5, 8), (.port_status_agreed_features, 5, 1)] with dev := { (upState [(.port_cfg_role, 5, 2), (.port_status_link_status, 5, 8), (.port_status_agreed_features, 5, 1)]).dev with ftab := ⟨[(2097152, 2 ^ 63 + 0x100), (2097153, 2 ^ 60 + 7 * 2 ^ 46)]⟩ } }).dev.checkLink
        (5 : Fin 512) (Hdr.ofWords (hdrList (⟨275284096#32, 65536#32, 131072#32, 458776#32, 0#32, 0#32, 0#32, 1884422144#32⟩ :
        HdrWords))) = .pass ∧
        ({ upState [(.port_cfg_role, 5, 2), (.port_status_link_status, 5, 8), (.port_status_agreed_features, 5, 1)] with dev := { (upState [(.port_cfg_role, 5, 2), (.port_status_link_status, 5, 8), (.port_status_agreed_features, 5, 1)]).dev with ftab := ⟨[(2097152, 2 ^ 63 + 0x100), (2097153, 2 ^ 60 + 7 * 2 ^ 46)]⟩ } }).dev.checkFabric
        (5 : Fin 512) (Hdr.ofWords (hdrList (⟨275284096#32, 65536#32, 131072#32, 458776#32, 0#32, 0#32, 0#32, 1884422144#32⟩ :
        HdrWords))) = .pass ∧
        ({ upState [(.port_cfg_role, 5, 2), (.port_status_link_status, 5, 8), (.port_status_agreed_features, 5, 1)] with dev := { (upState [(.port_cfg_role, 5, 2), (.port_status_link_status, 5, 8), (.port_status_agreed_features, 5, 1)]).dev with ftab := ⟨[(2097152, 2 ^ 63 + 0x100), (2097153, 2 ^ 60 + 7 * 2 ^ 46)]⟩ } }).dev.flag
        .xbar_port_mirror_ing_en (5 : Fin 512) = false) ∧
    (({ upState [(.port_cfg_role, 5, 2), (.port_status_link_status, 5, 8), (.port_status_agreed_features, 5, 1)] with dev := { (upState [(.port_cfg_role, 5, 2), (.port_status_link_status, 5, 8), (.port_status_agreed_features, 5, 1)]).dev with ftab := ⟨[(2097152, 2 ^ 63 + 0x100), (2097153, 2 ^ 60 + 7 * 2 ^ 46)]⟩ } }).dev.checkLink
        (5 : Fin 512) (Hdr.ofWords (hdrList (⟨275284096#32, 65536#32, 131072#32, 458776#32, 0#32, 0#32, 0#32, 1884422144#32⟩ :
        HdrWords))) = .pass ∧
        ({ upState [(.port_cfg_role, 5, 2), (.port_status_link_status, 5, 8), (.port_status_agreed_features, 5, 1)] with dev := { (upState [(.port_cfg_role, 5, 2), (.port_status_link_status, 5, 8), (.port_status_agreed_features, 5, 1)]).dev with ftab := ⟨[(2097152, 2 ^ 63 + 0x100), (2097153, 2 ^ 60 + 7 * 2 ^ 46)]⟩ } }).dev.checkFabric
        (5 : Fin 512) (Hdr.ofWords (hdrList (⟨275284096#32, 65536#32, 131072#32, 458776#32, 0#32, 0#32, 0#32, 1884422144#32⟩ :
        HdrWords))) = .pass) ∧
    (({ upState [(.port_cfg_role, 5, 2), (.port_status_link_status, 5, 8), (.port_status_agreed_features, 5, 1)] with dev := { (upState [(.port_cfg_role, 5, 2), (.port_status_link_status, 5, 8), (.port_status_agreed_features, 5, 1)]).dev with ftab := ⟨[(2097152, 2 ^ 63 + 0x100), (2097153, 2 ^ 60 + 7 * 2 ^ 46)]⟩ } }).dev.role
        (5 : Fin 512) = roleAXIS ∧
        ({ upState [(.port_cfg_role, 5, 2), (.port_status_link_status, 5, 8), (.port_status_agreed_features, 5, 1)] with dev := { (upState [(.port_cfg_role, 5, 2), (.port_status_link_status, 5, 8), (.port_status_agreed_features, 5, 1)]).dev with ftab := ⟨[(2097152, 2 ^ 63 + 0x100), (2097153, 2 ^ 60 + 7 * 2 ^ 46)]⟩ } }).dev.flag
        .xbar_port_mirror_ing_en (5 : Fin 512) = false ∧
        ({ upState [(.port_cfg_role, 5, 2), (.port_status_link_status, 5, 8), (.port_status_agreed_features, 5, 1)] with dev := { (upState [(.port_cfg_role, 5, 2), (.port_status_link_status, 5, 8), (.port_status_agreed_features, 5, 1)]).dev with ftab := ⟨[(2097152, 2 ^ 63 + 0x100), (2097153, 2 ^ 60 + 7 * 2 ^ 46)]⟩ } }).dev.policer
        (5 : Fin 512) (Hdr.ofWords (hdrList (⟨275284096#32, 65536#32, 131072#32, 458776#32, 0#32, 0#32, 0#32, 1884422144#32⟩ :
        HdrWords))).cls = none) ∧
    (({ upState [(.port_cfg_role, 5, 2), (.port_status_link_status, 5, 8), (.port_status_agreed_features, 5, 1)] with dev := { (upState [(.port_cfg_role, 5, 2), (.port_status_link_status, 5, 8), (.port_status_agreed_features, 5, 1)]).dev with ftab := ⟨[(2097152, 2 ^ 63 + 0x100), (2097153, 2 ^ 60 + 7 * 2 ^ 46)]⟩ } }).dev.resolve
        (some (5 : Fin 512).val) (Hdr.ofWords (hdrList (⟨275284096#32, 65536#32, 131072#32, 458776#32, 0#32, 0#32, 0#32,
        1884422144#32⟩ : HdrWords))) = { route := .bundle (7 : Nat) }) ∧
    (({ upState [(.port_cfg_role, 5, 2), (.port_status_link_status, 5, 8), (.port_status_agreed_features, 5, 1)] with dev := { (upState [(.port_cfg_role, 5, 2), (.port_status_link_status, 5, 8), (.port_status_agreed_features, 5, 1)]).dev with frames := [{ id := 9, input := 3, hdr := { ftype := 1, cls := 5, order := 1, hops := 1, dst := 0x100, src := 0x200, entropy := 7, length := 3 }, payload := [1, 2, 3], complete := false, arrival := some 3 }], receiving := ⟨[(3, some ⟨9, 3⟩)]⟩ } }).dev.receiving.getOpt
        (3 : Fin 512) = some (⟨9, 3⟩ : Rx) ∧ (⟨9, 3⟩ : Rx).len = ([1, 2, 3] : List Byte).length ∧
        ({ upState [(.port_cfg_role, 5, 2), (.port_status_link_status, 5, 8), (.port_status_agreed_features, 5, 1)] with dev := { (upState [(.port_cfg_role, 5, 2), (.port_status_link_status, 5, 8), (.port_status_agreed_features, 5, 1)]).dev with frames := [{ id := 9, input := 3, hdr := { ftype := 1, cls := 5, order := 1, hops := 1, dst := 0x100, src := 0x200, entropy := 7, length := 3 }, payload := [1, 2, 3], complete := false, arrival := some 3 }], receiving := ⟨[(3, some ⟨9, 3⟩)]⟩ } }).dev.frame
        (⟨9, 3⟩ : Rx).rid = some
        ({ id := 9, input := 3, hdr := { ftype := 1, cls := 5, order := 1, hops := 1, dst := 0x100, src := 0x200, entropy := 7, length := 3 }, payload := [1, 2, 3], complete := false, arrival := some 3 }
        : Frame)) ∧
    (({ upState [(.port_cfg_role, 5, 2), (.port_status_link_status, 5, 8), (.port_status_agreed_features, 5, 1)] with dev := { (upState [(.port_cfg_role, 5, 2), (.port_status_link_status, 5, 8), (.port_status_agreed_features, 5, 1)]).dev with frames := [{ id := 9, input := 3, hdr := { ftype := 1, cls := 5, order := 1, hops := 1, dst := 0x100, src := 0x200, entropy := 7, length := 3 }, payload := [1, 2, 3], complete := false, arrival := some 3 }], receiving := ⟨[(3, some ⟨9, 3⟩)]⟩ } }).dev.rxSpoilt.get
        (3 : Fin 512) false = false ∧ (552465180 : BitVec 32).toNat = frameCrc
        ({ id := 9, input := 3, hdr := { ftype := 1, cls := 5, order := 1, hops := 1, dst := 0x100, src := 0x200, entropy := 7, length := 3 }, payload := [1, 2, 3], complete := false, arrival := some 3 }
        : Frame).hdr (byteList ([1, 2, 3] : List Byte))) ∧
    ((3742502115 : BitVec 32).toNat = frameCrc
        ({ id := 9, input := 3, hdr := { ftype := 1, cls := 5, order := 1, hops := 1, dst := 0x100, src := 0x200, entropy := 7, length := 3 }, payload := [1, 2, 3], complete := false, arrival := some 3 }
        : Frame).hdr (byteList ([1, 2, 3] : List Byte)) ^^^ 0xFFFFFFFF) ∧
    (({ upState [(.port_cfg_role, 5, 2), (.port_status_link_status, 5, 8), (.port_status_agreed_features, 5, 1)] with dev := { (upState [(.port_cfg_role, 5, 2), (.port_status_link_status, 5, 8), (.port_status_agreed_features, 5, 1)]).dev with waits := [{ fid := 9, input := 3, cls := 5, target := .internal 514 }], frames := [{ id := 9, input := 3, hdr := { ftype := 1, cls := 5, order := 1, hops := 1, dst := 0x100, src := 0x200, entropy := 7, length := 3 }, payload := [1, 2, 3], complete := false, arrival := some 3 }], receiving := ⟨[(3, some ⟨9, 3⟩)]⟩ } }).dev.receiving.getOpt
        (3 : Fin 512) = some (⟨9, 3⟩ : Rx) ∧ (⟨9, 3⟩ : Rx).len = ([1, 2, 3] : List Byte).length ∧
        ({ upState [(.port_cfg_role, 5, 2), (.port_status_link_status, 5, 8), (.port_status_agreed_features, 5, 1)] with dev := { (upState [(.port_cfg_role, 5, 2), (.port_status_link_status, 5, 8), (.port_status_agreed_features, 5, 1)]).dev with waits := [{ fid := 9, input := 3, cls := 5, target := .internal 514 }], frames := [{ id := 9, input := 3, hdr := { ftype := 1, cls := 5, order := 1, hops := 1, dst := 0x100, src := 0x200, entropy := 7, length := 3 }, payload := [1, 2, 3], complete := false, arrival := some 3 }], receiving := ⟨[(3, some ⟨9, 3⟩)]⟩ } }).dev.frame
        (⟨9, 3⟩ : Rx).rid = some
        ({ id := 9, input := 3, hdr := { ftype := 1, cls := 5, order := 1, hops := 1, dst := 0x100, src := 0x200, entropy := 7, length := 3 }, payload := [1, 2, 3], complete := false, arrival := some 3 }
        : Frame)) ∧
    ((5 : BitVec 32).toNat ≠ frameCrc
        ({ id := 9, input := 3, hdr := { ftype := 1, cls := 5, order := 1, hops := 1, dst := 0x100, src := 0x200, entropy := 7, length := 3 }, payload := [1, 2, 3], complete := false, arrival := some 3 }
        : Frame).hdr (byteList ([1, 2, 3] : List Byte)) ^^^ 0xFFFFFFFF ∧ ((5 : BitVec 32).toNat ≠ frameCrc
        ({ id := 9, input := 3, hdr := { ftype := 1, cls := 5, order := 1, hops := 1, dst := 0x100, src := 0x200, entropy := 7, length := 3 }, payload := [1, 2, 3], complete := false, arrival := some 3 }
        : Frame).hdr (byteList ([1, 2, 3] : List Byte)) ∨
        ({ upState [(.port_cfg_role, 5, 2), (.port_status_link_status, 5, 8), (.port_status_agreed_features, 5, 1)] with dev := { (upState [(.port_cfg_role, 5, 2), (.port_status_link_status, 5, 8), (.port_status_agreed_features, 5, 1)]).dev with waits := [{ fid := 9, input := 3, cls := 5, target := .internal 514 }], frames := [{ id := 9, input := 3, hdr := { ftype := 1, cls := 5, order := 1, hops := 1, dst := 0x100, src := 0x200, entropy := 7, length := 3 }, payload := [1, 2, 3], complete := false, arrival := some 3 }], receiving := ⟨[(3, some ⟨9, 3⟩)]⟩ } }).dev.rxSpoilt.get
        (3 : Fin 512) false = true)) ∧
    ((.corrected : CellRead) = .corrected) ∧
    ((.uncorrectable 5 : CellRead) = .uncorrectable (5 : Fin 786432) ∧
        (({ upState [] with dev := { (upState []).dev with frames := [{ id := 9, input := 3, hdr := { ftype := 1, cls := 5, order := 1, hops := 1, dst := 0x100, src := 0x200, entropy := 7, length := 3 }, payload := [1, 2, 3], complete := true, arrival := some 3 }] } }).dev.frame
        (9 : BitVec 32).toNat).isSome = true) := by
  refine ⟨?_, ?_, ?_, ?_, ?_, ?_, ?_, ?_, ?_, ?_, ?_, ?_, ?_, ?_, ?_, ?_, ?_, ?_, ?_⟩ <;>
    decide +kernel

/-- States and operands that meet the premises of `Obligations.FramesOut`, clause by clause. -/
theorem witness_FramesOut :
    (({ upState [(.xbar_mirror_res_oq_int, 2, 4)] with dev := { (upState [(.xbar_mirror_res_oq_int, 2, 4)]).dev with frames := [{ id := 9, input := 3, hdr := { ftype := 1, cls := 5, order := 1, hops := 1, dst := 0x100, src := 0x200, entropy := 7, length := 3 }, payload := [1, 2, 3], complete := true, arrival := some 3 }], waits := [{ fid := 9, input := 3, cls := 5, target := .internal 514 }] } }).dev.waitHead
        (3 : Fin 517) (5 : Fin 8) (waitIs (.internal 2 : WaitTarget)) = some
        ({ fid := 9, input := 3, cls := 5, target := .internal 514 } : Wait) ∧
        ({ upState [(.xbar_mirror_res_oq_int, 2, 4)] with dev := { (upState [(.xbar_mirror_res_oq_int, 2, 4)]).dev with frames := [{ id := 9, input := 3, hdr := { ftype := 1, cls := 5, order := 1, hops := 1, dst := 0x100, src := 0x200, entropy := 7, length := 3 }, payload := [1, 2, 3], complete := true, arrival := some 3 }], waits := [{ fid := 9, input := 3, cls := 5, target := .internal 514 }] } }).dev.frame
        ({ fid := 9, input := 3, cls := 5, target := .internal 514 } : Wait).fid = some
        ({ id := 9, input := 3, hdr := { ftype := 1, cls := 5, order := 1, hops := 1, dst := 0x100, src := 0x200, entropy := 7, length := 3 }, payload := [1, 2, 3], complete := true, arrival := some 3 }
        : Frame) ∧ ({ fid := 9, input := 3, cls := 5, target := .internal 514 } : Wait).target = .internal (514 : Nat)) ∧
    (514 ≤ (514 : Nat) ∧
        ({ upState [(.xbar_mirror_res_oq_int, 2, 4)] with dev := { (upState [(.xbar_mirror_res_oq_int, 2, 4)]).dev with frames := [{ id := 9, input := 3, hdr := { ftype := 1, cls := 5, order := 1, hops := 1, dst := 0x100, src := 0x200, entropy := 7, length := 3 }, payload := [1, 2, 3], complete := true, arrival := some 3 }], waits := [{ fid := 9, input := 3, cls := 5, target := .internal 514 }] } }).dev.outputUsed
        (514 : Nat) <
        ({ upState [(.xbar_mirror_res_oq_int, 2, 4)] with dev := { (upState [(.xbar_mirror_res_oq_int, 2, 4)]).dev with frames := [{ id := 9, input := 3, hdr := { ftype := 1, cls := 5, order := 1, hops := 1, dst := 0x100, src := 0x200, entropy := 7, length := 3 }, payload := [1, 2, 3], complete := true, arrival := some 3 }], waits := [{ fid := 9, input := 3, cls := 5, target := .internal 514 }] } }).dev.get
        .xbar_mirror_res_oq_int ((514 : Nat) - 512) * 256) ∧
    (({ upState [(.xbar_mirror_res_oq_int, 2, 0)] with dev := { (upState [(.xbar_mirror_res_oq_int, 2, 0)]).dev with frames := [{ id := 9, input := 3, hdr := { ftype := 1, cls := 5, order := 1, hops := 1, dst := 0x100, src := 0x200, entropy := 7, length := 3 }, payload := [1, 2, 3], complete := true, arrival := some 3 }], waits := [{ fid := 9, input := 3, cls := 5, target := .internal 514 }] } }).dev.waitHead
        (3 : Fin 517) (5 : Fin 8) (waitIs (.internal 2 : WaitTarget)) = some
        ({ fid := 9, input := 3, cls := 5, target := .internal 514 } : Wait) ∧
        ({ upState [(.xbar_mirror_res_oq_int, 2, 0)] with dev := { (upState [(.xbar_mirror_res_oq_int, 2, 0)]).dev with frames := [{ id := 9, input := 3, hdr := { ftype := 1, cls := 5, order := 1, hops := 1, dst := 0x100, src := 0x200, entropy := 7, length := 3 }, payload := [1, 2, 3], complete := true, arrival := some 3 }], waits := [{ fid := 9, input := 3, cls := 5, target := .internal 514 }] } }).dev.frame
        ({ fid := 9, input := 3, cls := 5, target := .internal 514 } : Wait).fid = some
        ({ id := 9, input := 3, hdr := { ftype := 1, cls := 5, order := 1, hops := 1, dst := 0x100, src := 0x200, entropy := 7, length := 3 }, payload := [1, 2, 3], complete := true, arrival := some 3 }
        : Frame) ∧ ({ fid := 9, input := 3, cls := 5, target := .internal 514 } : Wait).target = .internal (514 : Nat)) ∧
    (514 ≤ (514 : Nat) ∧
        ({ upState [(.xbar_mirror_res_oq_int, 2, 0)] with dev := { (upState [(.xbar_mirror_res_oq_int, 2, 0)]).dev with frames := [{ id := 9, input := 3, hdr := { ftype := 1, cls := 5, order := 1, hops := 1, dst := 0x100, src := 0x200, entropy := 7, length := 3 }, payload := [1, 2, 3], complete := true, arrival := some 3 }], waits := [{ fid := 9, input := 3, cls := 5, target := .internal 514 }] } }).dev.get
        .xbar_mirror_res_oq_int ((514 : Nat) - 512) * 256 ≤
        ({ upState [(.xbar_mirror_res_oq_int, 2, 0)] with dev := { (upState [(.xbar_mirror_res_oq_int, 2, 0)]).dev with frames := [{ id := 9, input := 3, hdr := { ftype := 1, cls := 5, order := 1, hops := 1, dst := 0x100, src := 0x200, entropy := 7, length := 3 }, payload := [1, 2, 3], complete := true, arrival := some 3 }], waits := [{ fid := 9, input := 3, cls := 5, target := .internal 514 }] } }).dev.outputUsed
        (514 : Nat)) ∧
    (({ upState [(.port_cfg_role, 5, 1), (.port_status_link_status, 5, 8), (.port_status_agreed_features, 5, 1), (.port_cfg_bundle, 5, 7), (.xbar_port_mode_svc_mode, 5, 0), (.xbar_eq_eq, 45, 100), (.sched_port_cfg_mark_mask, 5, 0)] with dev := { (upState [(.port_cfg_role, 5, 1), (.port_status_link_status, 5, 8), (.port_status_agreed_features, 5, 1), (.port_cfg_bundle, 5, 7), (.xbar_port_mode_svc_mode, 5, 0), (.xbar_eq_eq, 45, 100), (.sched_port_cfg_mark_mask, 5, 0)]).dev with frames := [{ id := 9, input := 3, hdr := { ftype := 1, cls := 5, order := 1, hops := 1, dst := 0x100, src := 0x200, entropy := 7, length := 3 }, payload := [1, 2, 3], complete := true, arrival := some 3 }], waits := [{ fid := 9, input := 3, cls := 5, target := .bundle 7 }] } }).dev.waitHead
        (3 : Fin 517) (5 : Fin 8) (waitIs (.bundle 7 : WaitTarget)) = some
        ({ fid := 9, input := 3, cls := 5, target := .bundle 7 } : Wait) ∧
        ({ upState [(.port_cfg_role, 5, 1), (.port_status_link_status, 5, 8), (.port_status_agreed_features, 5, 1), (.port_cfg_bundle, 5, 7), (.xbar_port_mode_svc_mode, 5, 0), (.xbar_eq_eq, 45, 100), (.sched_port_cfg_mark_mask, 5, 0)] with dev := { (upState [(.port_cfg_role, 5, 1), (.port_status_link_status, 5, 8), (.port_status_agreed_features, 5, 1), (.port_cfg_bundle, 5, 7), (.xbar_port_mode_svc_mode, 5, 0), (.xbar_eq_eq, 45, 100), (.sched_port_cfg_mark_mask, 5, 0)]).dev with frames := [{ id := 9, input := 3, hdr := { ftype := 1, cls := 5, order := 1, hops := 1, dst := 0x100, src := 0x200, entropy := 7, length := 3 }, payload := [1, 2, 3], complete := true, arrival := some 3 }], waits := [{ fid := 9, input := 3, cls := 5, target := .bundle 7 }] } }).dev.frame
        ({ fid := 9, input := 3, cls := 5, target := .bundle 7 } : Wait).fid = some
        ({ id := 9, input := 3, hdr := { ftype := 1, cls := 5, order := 1, hops := 1, dst := 0x100, src := 0x200, entropy := 7, length := 3 }, payload := [1, 2, 3], complete := true, arrival := some 3 }
        : Frame) ∧ ({ fid := 9, input := 3, cls := 5, target := .bundle 7 } : Wait).target = .bundle (7 : Nat)) ∧
    ((({ upState [(.port_cfg_role, 5, 1), (.port_status_link_status, 5, 8), (.port_status_agreed_features, 5, 1), (.port_cfg_bundle, 5, 7), (.xbar_port_mode_svc_mode, 5, 0), (.xbar_eq_eq, 45, 100), (.sched_port_cfg_mark_mask, 5, 0)] with dev := { (upState [(.port_cfg_role, 5, 1), (.port_status_link_status, 5, 8), (.port_status_agreed_features, 5, 1), (.port_cfg_bundle, 5, 7), (.xbar_port_mode_svc_mode, 5, 0), (.xbar_eq_eq, 45, 100), (.sched_port_cfg_mark_mask, 5, 0)]).dev with frames := [{ id := 9, input := 3, hdr := { ftype := 1, cls := 5, order := 1, hops := 1, dst := 0x100, src := 0x200, entropy := 7, length := 3 }, payload := [1, 2, 3], complete := true, arrival := some 3 }], waits := [{ fid := 9, input := 3, cls := 5, target := .bundle 7 }] } }).dev.pickLink
        (7 : Nat)
        ({ id := 9, input := 3, hdr := { ftype := 1, cls := 5, order := 1, hops := 1, dst := 0x100, src := 0x200, entropy := 7, length := 3 }, payload := [1, 2, 3], complete := true, arrival := some 3 }
        : Frame)).2 = .link (5 : Nat) (some (7, pinIndex
        { ftype := 1, cls := 5, order := 1, hops := 1, dst := 0x100, src := 0x200, entropy := 7, length := 3 }) : Option (Nat ×
        Nat)) ∧ (5 : Nat) < 512) ∧
    (({ upState [(.port_cfg_role, 5, 1), (.port_status_link_status, 5, 8), (.port_status_agreed_features, 5, 1), (.port_cfg_bundle, 5, 7), (.xbar_port_mode_svc_mode, 5, 0), (.xbar_eq_eq, 45, 100), (.sched_port_cfg_mark_mask, 5, 0)] with dev := { (upState [(.port_cfg_role, 5, 1), (.port_status_link_status, 5, 8), (.port_status_agreed_features, 5, 1), (.port_cfg_bundle, 5, 7), (.xbar_port_mode_svc_mode, 5, 0), (.xbar_eq_eq, 45, 100), (.sched_port_cfg_mark_mask, 5, 0)]).dev with frames := [{ id := 9, input := 3, hdr := { ftype := 1, cls := 5, order := 1, hops := 1, dst := 0x100, src := 0x200, entropy := 7, length := 3 }, payload := [1, 2, 3], complete := true, arrival := some 3 }], waits := [{ fid := 9, input := 3, cls := 5, target := .bundle 7 }] } }).dev.outUsed
        (5 : Nat)
        ({ id := 9, input := 3, hdr := { ftype := 1, cls := 5, order := 1, hops := 1, dst := 0x100, src := 0x200, entropy := 7, length := 3 }, payload := [1, 2, 3], complete := true, arrival := some 3 }
        : Frame).hdr.cls <
        ({ upState [(.port_cfg_role, 5, 1), (.port_status_link_status, 5, 8), (.port_status_agreed_features, 5, 1), (.port_cfg_bundle, 5, 7), (.xbar_port_mode_svc_mode, 5, 0), (.xbar_eq_eq, 45, 100), (.sched_port_cfg_mark_mask, 5, 0)] with dev := { (upState [(.port_cfg_role, 5, 1), (.port_status_link_status, 5, 8), (.port_status_agreed_features, 5, 1), (.port_cfg_bundle, 5, 7), (.xbar_port_mode_svc_mode, 5, 0), (.xbar_eq_eq, 45, 100), (.sched_port_cfg_mark_mask, 5, 0)]).dev with frames := [{ id := 9, input := 3, hdr := { ftype := 1, cls := 5, order := 1, hops := 1, dst := 0x100, src := 0x200, entropy := 7, length := 3 }, payload := [1, 2, 3], complete := true, arrival := some 3 }], waits := [{ fid := 9, input := 3, cls := 5, target := .bundle 7 }] } }).dev.get
        .xbar_eq_eq (8 * (5 : Nat) +
        ({ id := 9, input := 3, hdr := { ftype := 1, cls := 5, order := 1, hops := 1, dst := 0x100, src := 0x200, entropy := 7, length := 3 }, payload := [1, 2, 3], complete := true, arrival := some 3 }
        : Frame).hdr.cls) ∧
        ({ upState [(.port_cfg_role, 5, 1), (.port_status_link_status, 5, 8), (.port_status_agreed_features, 5, 1), (.port_cfg_bundle, 5, 7), (.xbar_port_mode_svc_mode, 5, 0), (.xbar_eq_eq, 45, 100), (.sched_port_cfg_mark_mask, 5, 0)] with dev := { (upState [(.port_cfg_role, 5, 1), (.port_status_link_status, 5, 8), (.port_status_agreed_features, 5, 1), (.port_cfg_bundle, 5, 7), (.xbar_port_mode_svc_mode, 5, 0), (.xbar_eq_eq, 45, 100), (.sched_port_cfg_mark_mask, 5, 0)]).dev with frames := [{ id := 9, input := 3, hdr := { ftype := 1, cls := 5, order := 1, hops := 1, dst := 0x100, src := 0x200, entropy := 7, length := 3 }, payload := [1, 2, 3], complete := true, arrival := some 3 }], waits := [{ fid := 9, input := 3, cls := 5, target := .bundle 7 }] } }).dev.get
        .xbar_port_mode_svc_mode (5 : Nat) = 0 ∧
        ({ upState [(.port_cfg_role, 5, 1), (.port_status_link_status, 5, 8), (.port_status_agreed_features, 5, 1), (.port_cfg_bundle, 5, 7), (.xbar_port_mode_svc_mode, 5, 0), (.xbar_eq_eq, 45, 100), (.sched_port_cfg_mark_mask, 5, 0)] with dev := { (upState [(.port_cfg_role, 5, 1), (.port_status_link_status, 5, 8), (.port_status_agreed_features, 5, 1), (.port_cfg_bundle, 5, 7), (.xbar_port_mode_svc_mode, 5, 0), (.xbar_eq_eq, 45, 100), (.sched_port_cfg_mark_mask, 5, 0)]).dev with frames := [{ id := 9, input := 3, hdr := { ftype := 1, cls := 5, order := 1, hops := 1, dst := 0x100, src := 0x200, entropy := 7, length := 3 }, payload := [1, 2, 3], complete := true, arrival := some 3 }], waits := [{ fid := 9, input := 3, cls := 5, target := .bundle 7 }] } }).dev.bitOf
        .sched_port_cfg_mark_mask (5 : Nat)
        ({ id := 9, input := 3, hdr := { ftype := 1, cls := 5, order := 1, hops := 1, dst := 0x100, src := 0x200, entropy := 7, length := 3 }, payload := [1, 2, 3], complete := true, arrival := some 3 }
        : Frame).hdr.cls = false) ∧
    (({ upState [(.port_cfg_role, 5, 1), (.port_status_link_status, 5, 8), (.port_status_agreed_features, 5, 1), (.port_cfg_bundle, 5, 7), (.xbar_port_mode_svc_mode, 5, 0), (.xbar_eq_eq, 45, 0)] with dev := { (upState [(.port_cfg_role, 5, 1), (.port_status_link_status, 5, 8), (.port_status_agreed_features, 5, 1), (.port_cfg_bundle, 5, 7), (.xbar_port_mode_svc_mode, 5, 0), (.xbar_eq_eq, 45, 0)]).dev with frames := [{ id := 9, input := 3, hdr := { ftype := 1, cls := 5, order := 1, hops := 1, dst := 0x100, src := 0x200, entropy := 7, length := 3 }, payload := [1, 2, 3], complete := true, arrival := some 3 }], waits := [{ fid := 9, input := 3, cls := 5, target := .bundle 7 }] } }).dev.waitHead
        (3 : Fin 517) (5 : Fin 8) (waitIs (.bundle 7 : WaitTarget)) = some
        ({ fid := 9, input := 3, cls := 5, target := .bundle 7 } : Wait) ∧
        ({ upState [(.port_cfg_role, 5, 1), (.port_status_link_status, 5, 8), (.port_status_agreed_features, 5, 1), (.port_cfg_bundle, 5, 7), (.xbar_port_mode_svc_mode, 5, 0), (.xbar_eq_eq, 45, 0)] with dev := { (upState [(.port_cfg_role, 5, 1), (.port_status_link_status, 5, 8), (.port_status_agreed_features, 5, 1), (.port_cfg_bundle, 5, 7), (.xbar_port_mode_svc_mode, 5, 0), (.xbar_eq_eq, 45, 0)]).dev with frames := [{ id := 9, input := 3, hdr := { ftype := 1, cls := 5, order := 1, hops := 1, dst := 0x100, src := 0x200, entropy := 7, length := 3 }, payload := [1, 2, 3], complete := true, arrival := some 3 }], waits := [{ fid := 9, input := 3, cls := 5, target := .bundle 7 }] } }).dev.frame
        ({ fid := 9, input := 3, cls := 5, target := .bundle 7 } : Wait).fid = some
        ({ id := 9, input := 3, hdr := { ftype := 1, cls := 5, order := 1, hops := 1, dst := 0x100, src := 0x200, entropy := 7, length := 3 }, payload := [1, 2, 3], complete := true, arrival := some 3 }
        : Frame) ∧ ({ fid := 9, input := 3, cls := 5, target := .bundle 7 } : Wait).target = .bundle (7 : Nat)) ∧
    ((({ upState [(.port_cfg_role, 5, 1), (.port_status_link_status, 5, 8), (.port_status_agreed_features, 5, 1), (.port_cfg_bundle, 5, 7), (.xbar_port_mode_svc_mode, 5, 0), (.xbar_eq_eq, 45, 0)] with dev := { (upState [(.port_cfg_role, 5, 1), (.port_status_link_status, 5, 8), (.port_status_agreed_features, 5, 1), (.port_cfg_bundle, 5, 7), (.xbar_port_mode_svc_mode, 5, 0), (.xbar_eq_eq, 45, 0)]).dev with frames := [{ id := 9, input := 3, hdr := { ftype := 1, cls := 5, order := 1, hops := 1, dst := 0x100, src := 0x200, entropy := 7, length := 3 }, payload := [1, 2, 3], complete := true, arrival := some 3 }], waits := [{ fid := 9, input := 3, cls := 5, target := .bundle 7 }] } }).dev.pickLink
        (7 : Nat)
        ({ id := 9, input := 3, hdr := { ftype := 1, cls := 5, order := 1, hops := 1, dst := 0x100, src := 0x200, entropy := 7, length := 3 }, payload := [1, 2, 3], complete := true, arrival := some 3 }
        : Frame)).2 = .link (5 : Nat) (some (7, pinIndex
        { ftype := 1, cls := 5, order := 1, hops := 1, dst := 0x100, src := 0x200, entropy := 7, length := 3 }) : Option (Nat ×
        Nat)) ∧ (5 : Nat) < 512) ∧
    (({ upState [(.port_cfg_role, 5, 1), (.port_status_link_status, 5, 8), (.port_status_agreed_features, 5, 1), (.port_cfg_bundle, 5, 7), (.xbar_port_mode_svc_mode, 5, 0), (.xbar_eq_eq, 45, 0)] with dev := { (upState [(.port_cfg_role, 5, 1), (.port_status_link_status, 5, 8), (.port_status_agreed_features, 5, 1), (.port_cfg_bundle, 5, 7), (.xbar_port_mode_svc_mode, 5, 0), (.xbar_eq_eq, 45, 0)]).dev with frames := [{ id := 9, input := 3, hdr := { ftype := 1, cls := 5, order := 1, hops := 1, dst := 0x100, src := 0x200, entropy := 7, length := 3 }, payload := [1, 2, 3], complete := true, arrival := some 3 }], waits := [{ fid := 9, input := 3, cls := 5, target := .bundle 7 }] } }).dev.get
        .xbar_eq_eq (8 * (5 : Nat) +
        ({ id := 9, input := 3, hdr := { ftype := 1, cls := 5, order := 1, hops := 1, dst := 0x100, src := 0x200, entropy := 7, length := 3 }, payload := [1, 2, 3], complete := true, arrival := some 3 }
        : Frame).hdr.cls) ≤
        ({ upState [(.port_cfg_role, 5, 1), (.port_status_link_status, 5, 8), (.port_status_agreed_features, 5, 1), (.port_cfg_bundle, 5, 7), (.xbar_port_mode_svc_mode, 5, 0), (.xbar_eq_eq, 45, 0)] with dev := { (upState [(.port_cfg_role, 5, 1), (.port_status_link_status, 5, 8), (.port_status_agreed_features, 5, 1), (.port_cfg_bundle, 5, 7), (.xbar_port_mode_svc_mode, 5, 0), (.xbar_eq_eq, 45, 0)]).dev with frames := [{ id := 9, input := 3, hdr := { ftype := 1, cls := 5, order := 1, hops := 1, dst := 0x100, src := 0x200, entropy := 7, length := 3 }, payload := [1, 2, 3], complete := true, arrival := some 3 }], waits := [{ fid := 9, input := 3, cls := 5, target := .bundle 7 }] } }).dev.outUsed
        (5 : Nat)
        ({ id := 9, input := 3, hdr := { ftype := 1, cls := 5, order := 1, hops := 1, dst := 0x100, src := 0x200, entropy := 7, length := 3 }, payload := [1, 2, 3], complete := true, arrival := some 3 }
        : Frame).hdr.cls) ∧
    (({ upState [(.port_cfg_role, 5, 2), (.port_status_link_status, 5, 8), (.port_status_agreed_features, 5, 1), (.port_credit_returned, 45, 10)] with dev := { (upState [(.port_cfg_role, 5, 2), (.port_status_link_status, 5, 8), (.port_status_agreed_features, 5, 1), (.port_credit_returned, 45, 10)]).dev with frames := [{ id := 9, input := 3, hdr := { ftype := 1, cls := 5, order := 1, hops := 1, dst := 0x100, src := 0x200, entropy := 7, length := 3 }, payload := [1, 2, 3], complete := true, arrival := some 3 }], egress := [⟨5, 5, 9, 1, none, false⟩] } }).dev.sending.getOpt
        (5 : Fin 512) = none ∧
        ({ upState [(.port_cfg_role, 5, 2), (.port_status_link_status, 5, 8), (.port_status_agreed_features, 5, 1), (.port_credit_returned, 45, 10)] with dev := { (upState [(.port_cfg_role, 5, 2), (.port_status_link_status, 5, 8), (.port_status_agreed_features, 5, 1), (.port_credit_returned, 45, 10)]).dev with frames := [{ id := 9, input := 3, hdr := { ftype := 1, cls := 5, order := 1, hops := 1, dst := 0x100, src := 0x200, entropy := 7, length := 3 }, payload := [1, 2, 3], complete := true, arrival := some 3 }], egress := [⟨5, 5, 9, 1, none, false⟩] } }).dev.fenced
        (5 : Fin 512) = false ∧
        ({ upState [(.port_cfg_role, 5, 2), (.port_status_link_status, 5, 8), (.port_status_agreed_features, 5, 1), (.port_credit_returned, 45, 10)] with dev := { (upState [(.port_cfg_role, 5, 2), (.port_status_link_status, 5, 8), (.port_status_agreed_features, 5, 1), (.port_credit_returned, 45, 10)]).dev with frames := [{ id := 9, input := 3, hdr := { ftype := 1, cls := 5, order := 1, hops := 1, dst := 0x100, src := 0x200, entropy := 7, length := 3 }, payload := [1, 2, 3], complete := true, arrival := some 3 }], egress := [⟨5, 5, 9, 1, none, false⟩] } }).dev.passWaits
        (5 : Fin 512) = false ∧
        (({ upState [(.port_cfg_role, 5, 2), (.port_status_link_status, 5, 8), (.port_status_agreed_features, 5, 1), (.port_credit_returned, 45, 10)] with dev := { (upState [(.port_cfg_role, 5, 2), (.port_status_link_status, 5, 8), (.port_status_agreed_features, 5, 1), (.port_credit_returned, 45, 10)]).dev with frames := [{ id := 9, input := 3, hdr := { ftype := 1, cls := 5, order := 1, hops := 1, dst := 0x100, src := 0x200, entropy := 7, length := 3 }, payload := [1, 2, 3], complete := true, arrival := some 3 }], egress := [⟨5, 5, 9, 1, none, false⟩] } }).dev.linkStatus
        (5 : Fin 512) = lsADMITTED ∨
        ({ upState [(.port_cfg_role, 5, 2), (.port_status_link_status, 5, 8), (.port_status_agreed_features, 5, 1), (.port_credit_returned, 45, 10)] with dev := { (upState [(.port_cfg_role, 5, 2), (.port_status_link_status, 5, 8), (.port_status_agreed_features, 5, 1), (.port_credit_returned, 45, 10)]).dev with frames := [{ id := 9, input := 3, hdr := { ftype := 1, cls := 5, order := 1, hops := 1, dst := 0x100, src := 0x200, entropy := 7, length := 3 }, payload := [1, 2, 3], complete := true, arrival := some 3 }], egress := [⟨5, 5, 9, 1, none, false⟩] } }).dev.linkStatus
        (5 : Fin 512) = lsTX_ONLY)) ∧
    ((({ upState [(.port_cfg_role, 5, 2), (.port_status_link_status, 5, 8), (.port_status_agreed_features, 5, 1), (.port_credit_returned, 45, 10)] with dev := { (upState [(.port_cfg_role, 5, 2), (.port_status_link_status, 5, 8), (.port_status_agreed_features, 5, 1), (.port_credit_returned, 45, 10)]).dev with frames := [{ id := 9, input := 3, hdr := { ftype := 1, cls := 5, order := 1, hops := 1, dst := 0x100, src := 0x200, entropy := 7, length := 3 }, payload := [1, 2, 3], complete := true, arrival := some 3 }], egress := [⟨5, 5, 9, 1, none, false⟩] } }).dev.pickClass
        (5 : Fin 512)).2 = some (5 : Nat)) ∧
    ((({ upState [(.port_cfg_role, 5, 2), (.port_status_link_status, 5, 8), (.port_status_agreed_features, 5, 1), (.port_credit_returned, 45, 10)] with dev := { (upState [(.port_cfg_role, 5, 2), (.port_status_link_status, 5, 8), (.port_status_agreed_features, 5, 1), (.port_credit_returned, 45, 10)]).dev with frames := [{ id := 9, input := 3, hdr := { ftype := 1, cls := 5, order := 1, hops := 1, dst := 0x100, src := 0x200, entropy := 7, length := 3 }, payload := [1, 2, 3], complete := true, arrival := some 3 }], egress := [⟨5, 5, 9, 1, none, false⟩] } }).dev.pickClass
        (5 : Fin 512)).2 = some (5 : Nat) ∧
        ({ upState [(.port_cfg_role, 5, 2), (.port_status_link_status, 5, 8), (.port_status_agreed_features, 5, 1), (.port_credit_returned, 45, 10)] with dev := { (upState [(.port_cfg_role, 5, 2), (.port_status_link_status, 5, 8), (.port_status_agreed_features, 5, 1), (.port_credit_returned, 45, 10)]).dev with frames := [{ id := 9, input := 3, hdr := { ftype := 1, cls := 5, order := 1, hops := 1, dst := 0x100, src := 0x200, entropy := 7, length := 3 }, payload := [1, 2, 3], complete := true, arrival := some 3 }], egress := [⟨5, 5, 9, 1, none, false⟩] } }).dev.portHead
        (5 : Fin 512) (5 : Nat) = some ((⟨5, 5, 9, 1, none, false⟩ : EqEntry),
        ({ id := 9, input := 3, hdr := { ftype := 1, cls := 5, order := 1, hops := 1, dst := 0x100, src := 0x200, entropy := 7, length := 3 }, payload := [1, 2, 3], complete := true, arrival := some 3 }
        : Frame))) ∧
    ((.ok : CellRead) = .ok ∧
        ({ upState [(.port_cfg_role, 5, 2), (.port_status_link_status, 5, 8), (.port_status_agreed_features, 5, 1), (.port_credit_returned, 45, 10)] with dev := { (upState [(.port_cfg_role, 5, 2), (.port_status_link_status, 5, 8), (.port_status_agreed_features, 5, 1), (.port_credit_returned, 45, 10)]).dev with frames := [{ id := 9, input := 3, hdr := { ftype := 1, cls := 5, order := 1, hops := 1, dst := 0x100, src := 0x200, entropy := 7, length := 3 }, payload := [1, 2, 3], complete := true, arrival := some 3 }], egress := [⟨5, 5, 9, 1, none, false⟩] } }).dev.flag
        .xbar_port_mirror_egr_en (5 : Fin 512) = false) ∧
    (({ upState [(.port_cfg_role, 5, 2), (.port_status_link_status, 5, 8), (.port_status_agreed_features, 5, 1)] with dev := { (upState [(.port_cfg_role, 5, 2), (.port_status_link_status, 5, 8), (.port_status_agreed_features, 5, 1)]).dev with frames := [{ id := 9, input := 3, hdr := { ftype := 1, cls := 5, order := 1, hops := 1, dst := 0x100, src := 0x200, entropy := 7, length := 3 }, payload := [1, 2, 3], complete := true, arrival := some 3 }], sending := ⟨[(5, some ⟨9, 5, { ftype := 1, cls := 5, order := 1, hops := 1, dst := 0x100, src := 0x200, entropy := 7, length := 3 }, false⟩)]⟩ } }).dev.sending.getOpt
        (5 : Fin 512) = some (⟨9, 5,
        { ftype := 1, cls := 5, order := 1, hops := 1, dst := 0x100, src := 0x200, entropy := 7, length := 3 }, false⟩ :
        Sending) ∧
        ({ upState [(.port_cfg_role, 5, 2), (.port_status_link_status, 5, 8), (.port_status_agreed_features, 5, 1)] with dev := { (upState [(.port_cfg_role, 5, 2), (.port_status_link_status, 5, 8), (.port_status_agreed_features, 5, 1)]).dev with frames := [{ id := 9, input := 3, hdr := { ftype := 1, cls := 5, order := 1, hops := 1, dst := 0x100, src := 0x200, entropy := 7, length := 3 }, payload := [1, 2, 3], complete := true, arrival := some 3 }], sending := ⟨[(5, some ⟨9, 5, { ftype := 1, cls := 5, order := 1, hops := 1, dst := 0x100, src := 0x200, entropy := 7, length := 3 }, false⟩)]⟩ } }).dev.frame
        (⟨9, 5, { ftype := 1, cls := 5, order := 1, hops := 1, dst := 0x100, src := 0x200, entropy := 7, length := 3 }, false⟩ :
        Sending).fid = some
        ({ id := 9, input := 3, hdr := { ftype := 1, cls := 5, order := 1, hops := 1, dst := 0x100, src := 0x200, entropy := 7, length := 3 }, payload := [1, 2, 3], complete := true, arrival := some 3 }
        : Frame) ∧
        ({ id := 9, input := 3, hdr := { ftype := 1, cls := 5, order := 1, hops := 1, dst := 0x100, src := 0x200, entropy := 7, length := 3 }, payload := [1, 2, 3], complete := true, arrival := some 3 }
        : Frame).complete = true) ∧
    ((.ok : CellRead) = .ok ∧
        ({ upState [(.port_cfg_role, 5, 2), (.port_status_link_status, 5, 8), (.port_status_agreed_features, 5, 1)] with dev := { (upState [(.port_cfg_role, 5, 2), (.port_status_link_status, 5, 8), (.port_status_agreed_features, 5, 1)]).dev with frames := [{ id := 9, input := 3, hdr := { ftype := 1, cls := 5, order := 1, hops := 1, dst := 0x100, src := 0x200, entropy := 7, length := 3 }, payload := [1, 2, 3], complete := true, arrival := some 3 }], sending := ⟨[(5, some ⟨9, 5, { ftype := 1, cls := 5, order := 1, hops := 1, dst := 0x100, src := 0x200, entropy := 7, length := 3 }, false⟩)]⟩ } }).dev.boundSvc
        (5 : Fin 512) = none ∧
        ({ upState [(.port_cfg_role, 5, 2), (.port_status_link_status, 5, 8), (.port_status_agreed_features, 5, 1)] with dev := { (upState [(.port_cfg_role, 5, 2), (.port_status_link_status, 5, 8), (.port_status_agreed_features, 5, 1)]).dev with frames := [{ id := 9, input := 3, hdr := { ftype := 1, cls := 5, order := 1, hops := 1, dst := 0x100, src := 0x200, entropy := 7, length := 3 }, payload := [1, 2, 3], complete := true, arrival := some 3 }], sending := ⟨[(5, some ⟨9, 5, { ftype := 1, cls := 5, order := 1, hops := 1, dst := 0x100, src := 0x200, entropy := 7, length := 3 }, false⟩)]⟩ } }).dev.lcWait.get
        (5 : Fin 512) [] = [] ∧
        ({ upState [(.port_cfg_role, 5, 2), (.port_status_link_status, 5, 8), (.port_status_agreed_features, 5, 1)] with dev := { (upState [(.port_cfg_role, 5, 2), (.port_status_link_status, 5, 8), (.port_status_agreed_features, 5, 1)]).dev with frames := [{ id := 9, input := 3, hdr := { ftype := 1, cls := 5, order := 1, hops := 1, dst := 0x100, src := 0x200, entropy := 7, length := 3 }, payload := [1, 2, 3], complete := true, arrival := some 3 }], sending := ⟨[(5, some ⟨9, 5, { ftype := 1, cls := 5, order := 1, hops := 1, dst := 0x100, src := 0x200, entropy := 7, length := 3 }, false⟩)]⟩ } }).dev.analysisDark
        (5 : Fin 512) = false) ∧
    (({ upState [(.port_cfg_role, 5, 2), (.port_status_link_status, 5, 8), (.port_status_agreed_features, 5, 1), (.port_status_fence_mask, 5, 1)] with dev := { (upState [(.port_cfg_role, 5, 2), (.port_status_link_status, 5, 8), (.port_status_agreed_features, 5, 1), (.port_status_fence_mask, 5, 1)]).dev with frames := [{ id := 9, input := 3, hdr := { ftype := 1, cls := 5, order := 1, hops := 1, dst := 0x100, src := 0x200, entropy := 7, length := 3 }, payload := [1, 2, 3], complete := true, arrival := some 3 }], egress := [⟨5, 5, 9, 1, none, false⟩] } }).dev.fenced
        (5 : Fin 512) = true ∧
        ({ upState [(.port_cfg_role, 5, 2), (.port_status_link_status, 5, 8), (.port_status_agreed_features, 5, 1), (.port_status_fence_mask, 5, 1)] with dev := { (upState [(.port_cfg_role, 5, 2), (.port_status_link_status, 5, 8), (.port_status_agreed_features, 5, 1), (.port_status_fence_mask, 5, 1)]).dev with frames := [{ id := 9, input := 3, hdr := { ftype := 1, cls := 5, order := 1, hops := 1, dst := 0x100, src := 0x200, entropy := 7, length := 3 }, payload := [1, 2, 3], complete := true, arrival := some 3 }], egress := [⟨5, 5, 9, 1, none, false⟩] } }).dev.portHead
        (5 : Fin 512) (5 : Fin 8) = some ((⟨5, 5, 9, 1, none, false⟩ : EqEntry),
        ({ id := 9, input := 3, hdr := { ftype := 1, cls := 5, order := 1, hops := 1, dst := 0x100, src := 0x200, entropy := 7, length := 3 }, payload := [1, 2, 3], complete := true, arrival := some 3 }
        : Frame))) ∧
    (((upState [(.xbar_port_mode_svc_mode, 5, 1)])).dev.get .xbar_port_mode_svc_mode (5 : Fin 512) = 1 ∨ ((upState
        [(.xbar_port_mode_svc_mode, 5, 1)])).dev.get .xbar_port_mode_svc_mode (5 : Fin 512) = 3) ∧
    (((upState [])).dev.accepts (.xbarPortModeWrite (.fabric : Mark) (5 : Fin 512) (1 : Word)) = true) := by
  refine ⟨?_, ?_, ?_, ?_, ?_, ?_, ?_, ?_, ?_, ?_, ?_, ?_, ?_, ?_, ?_, ?_, ?_, ?_, ?_⟩ <;>
    decide +kernel

/-- States and operands that meet the premises of `Obligations.ForwardingTable`, clause by clause. -/
theorem witness_ForwardingTable :
    (((upState [])).dev.accepts (.fwdCtrlWrite (.fabric : Mark) (0x0201 : Word)) = true) ∧
    (((upState [])).dev.entriesValid = 0) ∧
    ((((upState [])).dev.writeFields rowFWD_CTRL 0 (0x0201 : Word).toNat []).get .fwd_ctrl_seed_a ≠ (((upState
        [])).dev.writeFields rowFWD_CTRL 0 (0x0201 : Word).toNat []).get .fwd_ctrl_seed_b) ∧
    (({ upState [(.fwd_ctrl_seed_a, 0, 3)] with dev := { (upState [(.fwd_ctrl_seed_a, 0, 3)]).dev with ftab := ⟨[(2097152, 2 ^ 63 + 0x100), (2097153, 2 ^ 60 + 7 * 2 ^ 46)]⟩ } }).dev.accepts
        (.fwdCtrlWrite (.fabric : Mark) (0x0201 : Word)) = true) ∧
    (({ upState [(.fwd_ctrl_seed_a, 0, 3)] with dev := { (upState [(.fwd_ctrl_seed_a, 0, 3)]).dev with ftab := ⟨[(2097152, 2 ^ 63 + 0x100), (2097153, 2 ^ 60 + 7 * 2 ^ 46)]⟩ } }).dev.entriesValid
        ≠ 0) ∧
    (¬((({ upState [(.fwd_ctrl_seed_a, 0, 3)] with dev := { (upState [(.fwd_ctrl_seed_a, 0, 3)]).dev with ftab := ⟨[(2097152, 2 ^ 63 + 0x100), (2097153, 2 ^ 60 + 7 * 2 ^ 46)]⟩ } }).dev.writeFields
        rowFWD_CTRL 0 (0x0201 : Word).toNat []).get .fwd_ctrl_seed_a =
        ({ upState [(.fwd_ctrl_seed_a, 0, 3)] with dev := { (upState [(.fwd_ctrl_seed_a, 0, 3)]).dev with ftab := ⟨[(2097152, 2 ^ 63 + 0x100), (2097153, 2 ^ 60 + 7 * 2 ^ 46)]⟩ } }).dev.get
        .fwd_ctrl_seed_a ∧
        (({ upState [(.fwd_ctrl_seed_a, 0, 3)] with dev := { (upState [(.fwd_ctrl_seed_a, 0, 3)]).dev with ftab := ⟨[(2097152, 2 ^ 63 + 0x100), (2097153, 2 ^ 60 + 7 * 2 ^ 46)]⟩ } }).dev.writeFields
        rowFWD_CTRL 0 (0x0201 : Word).toNat []).get .fwd_ctrl_seed_b =
        ({ upState [(.fwd_ctrl_seed_a, 0, 3)] with dev := { (upState [(.fwd_ctrl_seed_a, 0, 3)]).dev with ftab := ⟨[(2097152, 2 ^ 63 + 0x100), (2097153, 2 ^ 60 + 7 * 2 ^ 46)]⟩ } }).dev.get
        .fwd_ctrl_seed_b)) ∧
    (((upState [(.fwd_ctrl_seed_a, 0, 3)])).dev.accepts (.fwdCtrlWrite (.fabric : Mark) (0x0202 : Word)) = true) ∧
    (((upState [(.fwd_ctrl_seed_a, 0, 3)])).dev.entriesValid = 0) ∧
    (¬((((upState [(.fwd_ctrl_seed_a, 0, 3)])).dev.writeFields rowFWD_CTRL 0 (0x0202 : Word).toNat []).get .fwd_ctrl_seed_a =
        ((upState [(.fwd_ctrl_seed_a, 0, 3)])).dev.get .fwd_ctrl_seed_a ∧ (((upState [(.fwd_ctrl_seed_a, 0,
        3)])).dev.writeFields rowFWD_CTRL 0 (0x0202 : Word).toNat []).get .fwd_ctrl_seed_b = ((upState [(.fwd_ctrl_seed_a, 0,
        3)])).dev.get .fwd_ctrl_seed_b)) ∧
    ((((upState [(.fwd_ctrl_seed_a, 0, 3)])).dev.writeFields rowFWD_CTRL 0 (0x0202 : Word).toNat []).get .fwd_ctrl_seed_a =
        (((upState [(.fwd_ctrl_seed_a, 0, 3)])).dev.writeFields rowFWD_CTRL 0 (0x0202 : Word).toNat []).get .fwd_ctrl_seed_b) ∧
    (((upState [])).dev.accepts (.fwdAgeCtrlWrite (.fabric : Mark) (5 : Word)) = true) ∧
    (((upState [(.fwd_learn_limit, 5, 0)])).dev.accepts (.fwdLearnWrite (.fabric : Mark) (5 : Fin 512) (9 : Word)) = true) ∧
    (((upState [(.fwd_learn_limit, 5, 0)])).dev.learnBlocked (5 : Fin 512) = true) ∧
    (((upState [])).dev.accepts (.fwdLockNop (.fabric : Mark) (3 : Fin 64) (7 : BitVec 19)) = true) ∧
    (((upState [])).dev.accepts (.fwdLockAcquire (.fabric : Mark) (3 : Fin 64) (7 : BitVec 19)) = true) ∧
    (((upState [])).dev.slotHeld (3 : Fin 64) = false ∧ (7 : BitVec 19).toNat < nUnits ∧ ((upState [])).dev.locked (7 : BitVec
        19).toNat = false) ∧
    (((upState [(.fwd_lock_status_held, 3, 1)])).dev.accepts (.fwdLockAcquire (.fabric : Mark) (3 : Fin 64) (7 : BitVec 19)) =
        true) ∧
    (((upState [(.fwd_lock_status_held, 3, 1)])).dev.slotHeld (3 : Fin 64) = true) ∧
    (((upState [(.fwd_lock_status_held, 4, 1), (.fwd_lock_status_bucket, 4, 7)])).dev.accepts (.fwdLockAcquire (.fabric : Mark)
        (3 : Fin 64) (7 : BitVec 19)) = true) ∧
    (((upState [(.fwd_lock_status_held, 4, 1), (.fwd_lock_status_bucket, 4, 7)])).dev.slotHeld (3 : Fin 64) = false ∧ (7 :
        BitVec 19).toNat < nUnits ∧ ((upState [(.fwd_lock_status_held, 4, 1), (.fwd_lock_status_bucket, 4, 7)])).dev.locked (7 :
        BitVec 19).toNat = true) ∧
    (((upState [])).dev.accepts (.fwdLockAcquire (.fabric : Mark) (3 : Fin 64) (266240 : BitVec 19)) = true) ∧
    (((upState [])).dev.slotHeld (3 : Fin 64) = false ∧ nUnits ≤ (266240 : BitVec 19).toNat) ∧
    (((upState [(.fwd_lock_status_held, 3, 1)])).dev.accepts (.fwdLockRelease (.fabric : Mark) (3 : Fin 64) (0 : BitVec 19)) =
        true) ∧
    (((upState [(.fwd_lock_status_held, 3, 1), (.fwd_lock_status_bucket, 3, 9)])).dev.accepts (.fwdLockCommit (.fabric : Mark)
        (3 : Fin 64) (0 : BitVec 19)) = true) ∧
    (((upState [(.fwd_lock_status_held, 3, 1), (.fwd_lock_status_bucket, 3, 9)])).dev.slotFails [(3 : Fin 64).val] (3 : Fin 64)
        = lkOK) ∧
    (((upState [])).dev.accepts (.fwdLockCommit (.fabric : Mark) (3 : Fin 64) (0 : BitVec 19)) = true) ∧
    (((upState [])).dev.slotFails [(3 : Fin 64).val] (3 : Fin 64) ≠ lkOK) ∧
    (((upState [(.fwd_lock_status_held, 3, 1), (.fwd_lock_status_bucket, 3, 9)])).dev.accepts (.fwdCommitWrite (.fabric : Mark)
        (8 : Word)) = true) ∧
    ((bitsOf 64 (8 : Word).toNat).length ≤ 8) ∧
    (∀ k ∈ bitsOf 64 (8 : Word).toNat, ((upState [(.fwd_lock_status_held, 3, 1), (.fwd_lock_status_bucket, 3,
        9)])).dev.slotFails (bitsOf 64 (8 : Word).toNat) k = lkOK) ∧
    (((upState [])).dev.accepts (.fwdCommitWrite (.fabric : Mark) (8 : Word)) = true) ∧
    (8 < (bitsOf 64 (8 : Word).toNat).length ∨ ∃ k ∈ bitsOf 64 (8 : Word).toNat, ((upState [])).dev.slotFails (bitsOf 64 (8 :
        Word).toNat) k ≠ lkOK) ∧
    (((upState [(.fwd_lock_status_held, 3, 1), (.fwd_lock_status_bucket, 3, 9)])).dev.slotHeld (3 : Fin 64) = true) ∧
    (((upState [(.fwd_age_ctrl_age_period_ms, 0, 1), (.fwd_lock_status_held, 4, 1), (.fwd_lock_status_bucket, 4,
        0)])).dev.sweepOn = true ∧ ((upState [(.fwd_age_ctrl_age_period_ms, 0, 1), (.fwd_lock_status_held, 4, 1),
        (.fwd_lock_status_bucket, 4, 0)])).dev.get .h_sweep_at < nUnits) ∧
    (((upState [(.fwd_age_ctrl_age_period_ms, 0, 1), (.fwd_lock_status_held, 4, 1), (.fwd_lock_status_bucket, 4,
        0)])).dev.locked (((upState [(.fwd_age_ctrl_age_period_ms, 0, 1), (.fwd_lock_status_held, 4, 1),
        (.fwd_lock_status_bucket, 4, 0)])).dev.get .h_sweep_at) = true) ∧
    (((upState [(.fwd_age_ctrl_age_period_ms, 0, 1)])).dev.sweepOn = true ∧ ((upState [(.fwd_age_ctrl_age_period_ms, 0,
        1)])).dev.get .h_sweep_at < nUnits) ∧
    (((upState [(.fwd_age_ctrl_age_period_ms, 0, 1)])).dev.locked (((upState [(.fwd_age_ctrl_age_period_ms, 0, 1)])).dev.get
        .h_sweep_at) = false) ∧
    (({ upState [(.fwd_age_ctrl_age_period_ms, 0, 1), (.h_sweep_at, 0, 266240)] with dev := { (upState [(.fwd_age_ctrl_age_period_ms, 0, 1), (.h_sweep_at, 0, 266240)]).dev with swSkipped := [7, 9] } }).dev.sweepOn
        = true ∧
        ({ upState [(.fwd_age_ctrl_age_period_ms, 0, 1), (.h_sweep_at, 0, 266240)] with dev := { (upState [(.fwd_age_ctrl_age_period_ms, 0, 1), (.h_sweep_at, 0, 266240)]).dev with swSkipped := [7, 9] } }).dev.get
        .h_sweep_at = nUnits ∧
        ({ upState [(.fwd_age_ctrl_age_period_ms, 0, 1), (.h_sweep_at, 0, 266240)] with dev := { (upState [(.fwd_age_ctrl_age_period_ms, 0, 1), (.h_sweep_at, 0, 266240)]).dev with swSkipped := [7, 9] } }).dev.swSkipped
        = (7 : Nat) :: ([9] : List Nat)) ∧
    (({ upState [(.fwd_age_ctrl_age_period_ms, 0, 1), (.h_sweep_at, 0, 266240)] with dev := { (upState [(.fwd_age_ctrl_age_period_ms, 0, 1), (.h_sweep_at, 0, 266240)]).dev with swSkipped := [7, 9] } }).dev.locked
        (7 : Nat) = false) := by
  refine ⟨?_, ?_, ?_, ?_, ?_, ?_, ?_, ?_, ?_, ?_, ?_, ?_, ?_, ?_, ?_, ?_, ?_, ?_, ?_, ?_, ?_, ?_, ?_, ?_, ?_, ?_, ?_, ?_, ?_,
      ?_, ?_, ?_, ?_, ?_, ?_, ?_, ?_, ?_, ?_⟩ <;>
    decide +kernel

/-- States and operands that meet the premises of `Obligations.GroupsQuotasAndMirrors`, clause by clause. -/
theorem witness_GroupsQuotasAndMirrors :
    (((upState [])).dev.accepts (.mcastCmdNop (.fabric : Mark) (9 : Fin 65536)) = true) ∧
    (((upState [])).dev.accepts (.mcastCmdRead (.fabric : Mark) (9 : Fin 65536)) = true) ∧
    (((upState [])).dev.flag .mcast_cmd_status_busy = false) ∧
    (((upState [(.mcast_cmd_status_busy, 0, 1)])).dev.accepts (.mcastCmdRead (.fabric : Mark) (9 : Fin 65536)) = true) ∧
    (((upState [(.mcast_cmd_status_busy, 0, 1)])).dev.flag .mcast_cmd_status_busy = true) ∧
    (((upState [])).dev.accepts (.mcastCmdWrite (.fabric : Mark) (9 : Fin 65536)) = true) ∧
    (((upState [(.mcast_cmd_status_busy, 0, 1)])).dev.accepts (.mcastCmdWrite (.fabric : Mark) (9 : Fin 65536)) = true) ∧
    (((upState [(.mcast_cmd_status_busy, 0, 1), (.h_mc_op, 0, 1), (.h_mc_group, 0, 9)])).dev.flag .mcast_cmd_status_busy = true
        ∧ ((upState [(.mcast_cmd_status_busy, 0, 1), (.h_mc_op, 0, 1), (.h_mc_group, 0, 9)])).dev.get .h_mc_op = 1) ∧
    (({ upState [(.mcast_cmd_status_busy, 0, 1), (.h_mc_op, 0, 2), (.h_mc_group, 0, 9)] with dev := { (upState [(.mcast_cmd_status_busy, 0, 1), (.h_mc_op, 0, 2), (.h_mc_group, 0, 9)]).dev with mcWords := [5, 0, 0, 0, 0, 0, 0, 0, 2 ^ 63, 0, 0, 0, 0, 0, 0, 0] } }).dev.flag
        .mcast_cmd_status_busy = true ∧
        ({ upState [(.mcast_cmd_status_busy, 0, 1), (.h_mc_op, 0, 2), (.h_mc_group, 0, 9)] with dev := { (upState [(.mcast_cmd_status_busy, 0, 1), (.h_mc_op, 0, 2), (.h_mc_group, 0, 9)]).dev with mcWords := [5, 0, 0, 0, 0, 0, 0, 0, 2 ^ 63, 0, 0, 0, 0, 0, 0, 0] } }).dev.get
        .h_mc_op = 2) ∧
    (({ upState [(.mcast_cmd_status_busy, 0, 1), (.h_mc_op, 0, 2), (.h_mc_group, 0, 9)] with dev := { (upState [(.mcast_cmd_status_busy, 0, 1), (.h_mc_op, 0, 2), (.h_mc_group, 0, 9)]).dev with mcWords := [5, 0, 0, 0, 0, 0, 0, 0, 2 ^ 63, 0, 0, 0, 0, 0, 0, 0] } }).dev.groupHolds
        (({ upState [(.mcast_cmd_status_busy, 0, 1), (.h_mc_op, 0, 2), (.h_mc_group, 0, 9)] with dev := { (upState [(.mcast_cmd_status_busy, 0, 1), (.h_mc_op, 0, 2), (.h_mc_group, 0, 9)]).dev with mcWords := [5, 0, 0, 0, 0, 0, 0, 0, 2 ^ 63, 0, 0, 0, 0, 0, 0, 0] } }).dev.get
        .h_mc_group) = 0 ∧ groupEncodes
        ({ upState [(.mcast_cmd_status_busy, 0, 1), (.h_mc_op, 0, 2), (.h_mc_group, 0, 9)] with dev := { (upState [(.mcast_cmd_status_busy, 0, 1), (.h_mc_op, 0, 2), (.h_mc_group, 0, 9)]).dev with mcWords := [5, 0, 0, 0, 0, 0, 0, 0, 2 ^ 63, 0, 0, 0, 0, 0, 0, 0] } }).dev.mcWords
        = true) ∧
    (((upState [(.mcast_cmd_status_busy, 0, 1), (.h_mc_op, 0, 2), (.h_mc_group, 0, 9), (.fwd_ctrl_flood_enable, 0, 1),
        (.fwd_ctrl_flood_group, 0, 9)])).dev.flag .mcast_cmd_status_busy = true ∧ ((upState [(.mcast_cmd_status_busy, 0, 1),
        (.h_mc_op, 0, 2), (.h_mc_group, 0, 9), (.fwd_ctrl_flood_enable, 0, 1), (.fwd_ctrl_flood_group, 0, 9)])).dev.get .h_mc_op
        = 2) ∧
    (((upState [(.mcast_cmd_status_busy, 0, 1), (.h_mc_op, 0, 2), (.h_mc_group, 0, 9), (.fwd_ctrl_flood_enable, 0, 1),
        (.fwd_ctrl_flood_group, 0, 9)])).dev.groupHolds (((upState [(.mcast_cmd_status_busy, 0, 1), (.h_mc_op, 0, 2),
        (.h_mc_group, 0, 9), (.fwd_ctrl_flood_enable, 0, 1), (.fwd_ctrl_flood_group, 0, 9)])).dev.get .h_mc_group) ≠ 0) ∧
    (({ upState [(.mcast_cmd_status_busy, 0, 1), (.h_mc_op, 0, 2), (.h_mc_group, 0, 9)] with dev := { (upState [(.mcast_cmd_status_busy, 0, 1), (.h_mc_op, 0, 2), (.h_mc_group, 0, 9)]).dev with mcWords := [5, 0, 0, 0, 0, 0, 0, 0, 2 ^ 63, 1, 0, 0, 0, 0, 0, 0] } }).dev.flag
        .mcast_cmd_status_busy = true ∧
        ({ upState [(.mcast_cmd_status_busy, 0, 1), (.h_mc_op, 0, 2), (.h_mc_group, 0, 9)] with dev := { (upState [(.mcast_cmd_status_busy, 0, 1), (.h_mc_op, 0, 2), (.h_mc_group, 0, 9)]).dev with mcWords := [5, 0, 0, 0, 0, 0, 0, 0, 2 ^ 63, 1, 0, 0, 0, 0, 0, 0] } }).dev.get
        .h_mc_op = 2) ∧
    (({ upState [(.mcast_cmd_status_busy, 0, 1), (.h_mc_op, 0, 2), (.h_mc_group, 0, 9)] with dev := { (upState [(.mcast_cmd_status_busy, 0, 1), (.h_mc_op, 0, 2), (.h_mc_group, 0, 9)]).dev with mcWords := [5, 0, 0, 0, 0, 0, 0, 0, 2 ^ 63, 1, 0, 0, 0, 0, 0, 0] } }).dev.groupHolds
        (({ upState [(.mcast_cmd_status_busy, 0, 1), (.h_mc_op, 0, 2), (.h_mc_group, 0, 9)] with dev := { (upState [(.mcast_cmd_status_busy, 0, 1), (.h_mc_op, 0, 2), (.h_mc_group, 0, 9)]).dev with mcWords := [5, 0, 0, 0, 0, 0, 0, 0, 2 ^ 63, 1, 0, 0, 0, 0, 0, 0] } }).dev.get
        .h_mc_group) = 0 ∧ groupEncodes
        ({ upState [(.mcast_cmd_status_busy, 0, 1), (.h_mc_op, 0, 2), (.h_mc_group, 0, 9)] with dev := { (upState [(.mcast_cmd_status_busy, 0, 1), (.h_mc_op, 0, 2), (.h_mc_group, 0, 9)]).dev with mcWords := [5, 0, 0, 0, 0, 0, 0, 0, 2 ^ 63, 1, 0, 0, 0, 0, 0, 0] } }).dev.mcWords
        = false) ∧
    ((({ upState [] with dev := { (upState []).dev with reads := [{ purpose := .mcEntry 3 9, req := 2, addr := 0 }] } }).dev.takeRead
        (.mcEntry (3 : Fin 512) (9 : Fin 65536))).isSome = true ∧ (some (.replicate 16 1) : Option (Vector Word 16)) = some
        (.replicate 16 1 : Vector Word 16)) ∧
    (({ upState [] with dev := { (upState []).dev with reads := [{ purpose := .mcEntry 3 9, req := 2, addr := 0 }] } }).dev.flag
        .mcast_cmd_status_busy = false) ∧
    (((upState [])).dev.accepts (.xbarIqWrite (.fabric : Mark) (5 : Fin 512) (0 : Fin 2) (1 : Word)) = true) ∧
    (((upState [])).dev.accepts (.xbarEqWrite (.fabric : Mark) (5 : Fin 512) (0 : Fin 2) (1 : Word)) = true) ∧
    (∀ i : Fin 4, ((upState [])).dev.outUsed (5 : Fin 512) (4 * (0 : Fin 2) + i) = 0) ∧
    (((upState [])).dev.accepts (.xbarIntQuotaWrite (.fabric : Mark) (1 : Word)) = true) ∧
    (∀ i : Fin 4, ((upState [])).dev.inputUsed (512 + i) = 0) ∧
    (((upState [])).dev.accepts (.xbarMirrorResWrite (.fabric : Mark) (1 : Word)) = true) ∧
    (((upState [])).dev.inputUsed 516 = 0 ∧ ∀ i : Fin 4, ((upState [])).dev.outputUsed (512 + i) = 0) ∧
    (((upState [(.xbar_mir_cfg_enable, 3, 1)])).dev.accepts (.xbarMirCfgWrite (.fabric : Mark) (3 : Fin 16) (0x100000000 :
        Word)) = true) ∧
    (((upState [(.xbar_mir_cfg_enable, 3, 1)])).dev.flag .xbar_mir_cfg_enable (3 : Fin 16) = true) ∧
    (((upState [])).dev.accepts (.xbarMirCfgWrite (.fabric : Mark) (3 : Fin 16) (0x100000000 : Word)) = true) ∧
    (((upState [])).dev.flag .xbar_mir_cfg_enable (3 : Fin 16) = false) ∧
    ((((upState [])).dev.writeFields rowXBAR_MIR_CFG (3 : Fin 16) (0x100000000 : Word).toNat []).flag .xbar_mir_cfg_enable (3 :
        Fin 16) = false) ∧
    (((upState [(.port_cfg_role, 0, 4)])).dev.accepts (.xbarMirCfgWrite (.fabric : Mark) (3 : Fin 16) (0x8000000040000000 :
        Word)) = true) ∧
    (((upState [(.port_cfg_role, 0, 4)])).dev.flag .xbar_mir_cfg_enable (3 : Fin 16) = false) ∧
    ((((upState [(.port_cfg_role, 0, 4)])).dev.writeFields rowXBAR_MIR_CFG (3 : Fin 16) (0x8000000040000000 : Word).toNat
        []).flag .xbar_mir_cfg_enable (3 : Fin 16) = true ∧ (((upState [(.port_cfg_role, 0, 4)])).dev.writeFields
        rowXBAR_MIR_CFG (3 : Fin 16) (0x8000000040000000 : Word).toNat []).mirrorDestOk (3 : Fin 16) = true) ∧
    (((upState [])).dev.accepts (.xbarMirCfgWrite (.fabric : Mark) (3 : Fin 16) (0x8000000040000000 : Word)) = true) ∧
    ((((upState [])).dev.writeFields rowXBAR_MIR_CFG (3 : Fin 16) (0x8000000040000000 : Word).toNat []).flag
        .xbar_mir_cfg_enable (3 : Fin 16) = true ∧ (((upState [])).dev.writeFields rowXBAR_MIR_CFG (3 : Fin 16)
        (0x8000000040000000 : Word).toNat []).mirrorDestOk (3 : Fin 16) = false) ∧
    (((upState [])).dev.accepts (.xbarMirDestWrite (.fabric : Mark) (3 : Fin 16) (7 : Word)) = true) ∧
    (((upState [(.xbar_mir_cfg_enable, 3, 1)])).dev.accepts (.xbarMirDestWrite (.fabric : Mark) (3 : Fin 16) (7 : Word)) = true) := by
  refine ⟨?_, ?_, ?_, ?_, ?_, ?_, ?_, ?_, ?_, ?_, ?_, ?_, ?_, ?_, ?_, ?_, ?_, ?_, ?_, ?_, ?_, ?_, ?_, ?_, ?_, ?_, ?_, ?_, ?_,
      ?_, ?_, ?_, ?_, ?_, ?_⟩ <;>
    decide +kernel

/-- States and operands that meet the premises of `Obligations.SchedulersAndGates`, clause by clause. -/
theorem witness_SchedulersAndGates :
    (((upState [])).dev.accepts (.schedPortCfgWrite (.fabric : Mark) (5 : Fin 512) (0x7E0081 : Word)) = true) ∧
    (∀ c : Fin 8, (((upState [])).dev.writeFields rowSCHED_PORT_CFG (5 : Fin 512) (0x7E0081 : Word).toNat []).strict (5 : Fin
        512) c = ((upState [])).dev.strict (5 : Fin 512) c) ∧
    (((upState [])).dev.accepts (.schedShaperWrite (.fabric : Mark) (5 : Fin 512) (2 : Fin 8) (0xFFFFFFFF00 : Word)) = true) ∧
    ((((upState [])).dev.writeFields rowSCHED_SHAPER (8 * (5 : Fin 512) + (2 : Fin 8)) (0xFFFFFFFF00 : Word).toNat []).get
        .sched_shaper_burst (8 * (5 : Fin 512) + (2 : Fin 8)) ≠ ((upState [])).dev.get .sched_shaper_burst (8 * (5 : Fin 512) +
        (2 : Fin 8)) ∨ ((upState [])).dev.flag .sched_shaper_shape_en (8 * (5 : Fin 512) + (2 : Fin 8)) = false) ∧
    (((upState [(.sched_shaper_shape_en, 42, 1), (.sched_shaper_burst, 42, 0)])).dev.accepts (.schedShaperWrite (.fabric : Mark)
        (5 : Fin 512) (2 : Fin 8) (0 : Word)) = true) ∧
    ((((upState [(.sched_shaper_shape_en, 42, 1), (.sched_shaper_burst, 42, 0)])).dev.writeFields rowSCHED_SHAPER (8 * (5 : Fin
        512) + (2 : Fin 8)) (0 : Word).toNat []).get .sched_shaper_burst (8 * (5 : Fin 512) + (2 : Fin 8)) = ((upState
        [(.sched_shaper_shape_en, 42, 1), (.sched_shaper_burst, 42, 0)])).dev.get .sched_shaper_burst (8 * (5 : Fin 512) + (2 :
        Fin 8)) ∧ ((upState [(.sched_shaper_shape_en, 42, 1), (.sched_shaper_burst, 42, 0)])).dev.flag .sched_shaper_shape_en (8
        * (5 : Fin 512) + (2 : Fin 8)) = true) ∧
    (((upState [])).dev.accepts (.schedPolCfgWrite (.fabric : Mark) (5 : Fin 4096) (0x8000000000000000 : Word)) = true) ∧
    (¬((((upState [])).dev.writeFields rowSCHED_POL_CFG (5 : Fin 4096) (0x8000000000000000 : Word).toNat []).get
        .sched_pol_cfg_mode (5 : Fin 4096) = 0 ∧ ((((upState [])).dev.writeFields rowSCHED_POL_CFG (5 : Fin 4096)
        (0x8000000000000000 : Word).toNat []).get .sched_pol_cfg_pir_mbps (5 : Fin 4096) < (((upState [])).dev.writeFields
        rowSCHED_POL_CFG (5 : Fin 4096) (0x8000000000000000 : Word).toNat []).get .sched_pol_cfg_cir_mbps (5 : Fin 4096) ∨
        (((upState [])).dev.writeFields rowSCHED_POL_CFG (5 : Fin 4096) (0x8000000000000000 : Word).toNat []).get
        .sched_pol_burst_pbs_ebs (5 : Fin 4096) < (((upState [])).dev.writeFields rowSCHED_POL_CFG (5 : Fin 4096)
        (0x8000000000000000 : Word).toNat []).get .sched_pol_burst_cbs (5 : Fin 4096)))) ∧
    (((upState [])).dev.accepts (.schedPolCfgWrite (.fabric : Mark) (5 : Fin 4096) (9 : Word)) = true) ∧
    ((((upState [])).dev.writeFields rowSCHED_POL_CFG (5 : Fin 4096) (9 : Word).toNat []).get .sched_pol_cfg_mode (5 : Fin 4096)
        = 0 ∧ ((((upState [])).dev.writeFields rowSCHED_POL_CFG (5 : Fin 4096) (9 : Word).toNat []).get .sched_pol_cfg_pir_mbps
        (5 : Fin 4096) < (((upState [])).dev.writeFields rowSCHED_POL_CFG (5 : Fin 4096) (9 : Word).toNat []).get
        .sched_pol_cfg_cir_mbps (5 : Fin 4096) ∨ (((upState [])).dev.writeFields rowSCHED_POL_CFG (5 : Fin 4096) (9 :
        Word).toNat []).get .sched_pol_burst_pbs_ebs (5 : Fin 4096) < (((upState [])).dev.writeFields rowSCHED_POL_CFG (5 : Fin
        4096) (9 : Word).toNat []).get .sched_pol_burst_cbs (5 : Fin 4096))) ∧
    (((upState [(.sched_pol_cfg_mode, 5, 1)])).dev.accepts (.schedPolBurstWrite (.fabric : Mark) (5 : Fin 4096) (9 : Word)) =
        true) ∧
    (¬((((upState [(.sched_pol_cfg_mode, 5, 1)])).dev.writeFields rowSCHED_POL_BURST (5 : Fin 4096) (9 : Word).toNat []).get
        .sched_pol_cfg_mode (5 : Fin 4096) = 0 ∧ ((((upState [(.sched_pol_cfg_mode, 5, 1)])).dev.writeFields rowSCHED_POL_BURST
        (5 : Fin 4096) (9 : Word).toNat []).get .sched_pol_cfg_pir_mbps (5 : Fin 4096) < (((upState [(.sched_pol_cfg_mode, 5,
        1)])).dev.writeFields rowSCHED_POL_BURST (5 : Fin 4096) (9 : Word).toNat []).get .sched_pol_cfg_cir_mbps (5 : Fin 4096)
        ∨ (((upState [(.sched_pol_cfg_mode, 5, 1)])).dev.writeFields rowSCHED_POL_BURST (5 : Fin 4096) (9 : Word).toNat []).get
        .sched_pol_burst_pbs_ebs (5 : Fin 4096) < (((upState [(.sched_pol_cfg_mode, 5, 1)])).dev.writeFields rowSCHED_POL_BURST
        (5 : Fin 4096) (9 : Word).toNat []).get .sched_pol_burst_cbs (5 : Fin 4096)))) ∧
    (((upState [])).dev.accepts (.schedPolBurstWrite (.fabric : Mark) (5 : Fin 4096) (9 : Word)) = true) ∧
    ((((upState [])).dev.writeFields rowSCHED_POL_BURST (5 : Fin 4096) (9 : Word).toNat []).get .sched_pol_cfg_mode (5 : Fin
        4096) = 0 ∧ ((((upState [])).dev.writeFields rowSCHED_POL_BURST (5 : Fin 4096) (9 : Word).toNat []).get
        .sched_pol_cfg_pir_mbps (5 : Fin 4096) < (((upState [])).dev.writeFields rowSCHED_POL_BURST (5 : Fin 4096) (9 :
        Word).toNat []).get .sched_pol_cfg_cir_mbps (5 : Fin 4096) ∨ (((upState [])).dev.writeFields rowSCHED_POL_BURST (5 : Fin
        4096) (9 : Word).toNat []).get .sched_pol_burst_pbs_ebs (5 : Fin 4096) < (((upState [])).dev.writeFields
        rowSCHED_POL_BURST (5 : Fin 4096) (9 : Word).toNat []).get .sched_pol_burst_cbs (5 : Fin 4096))) ∧
    (((upState [])).dev.accepts (.schedPolMapWrite (.fabric : Mark) (5 : Fin 512) (0 : Fin 2) (0 : Word)) = true) ∧
    (∀ i : Fin 4, (((upState [])).dev.writeFields rowSCHED_POL_MAP (2 * (5 : Fin 512) + (0 : Fin 2)) (0 : Word).toNat []).get
        .sched_pol_map_pol_idx (8 * (5 : Fin 512) + 4 * (0 : Fin 2) + i) / 1024 = (5 : Fin 512).val / 128) ∧
    (((upState [(.sched_gate_ctrl_gate_en, 5, 1)])).dev.flag .sched_gate_ctrl_gate_en (5 : Fin 512) = true) ∧
    (((upState [(.sched_gate_status_pending, 5, 1)])).dev.accepts (.gateChangeRequest (.fabric : Mark) (5 : Fin 512) (0 : Word))
        = true) ∧
    (((upState [(.sched_gate_status_pending, 5, 1)])).dev.gateCheck (5 : Fin 512) ≠ 0) ∧
    (((upState [(.sched_gate_admin_n_entries, 5, 1), (.sched_gate_admin_cycle_ns, 5, 1000000)])).dev.accepts (.gateChangeRequest
        (.fabric : Mark) (5 : Fin 512) (0 : Word)) = true) ∧
    (((upState [(.sched_gate_admin_n_entries, 5, 1), (.sched_gate_admin_cycle_ns, 5, 1000000)])).dev.gateCheck (5 : Fin 512) =
        0) ∧
    (((upState [(.sched_gate_status_pending, 5, 1)])).dev.flag .sched_gate_status_pending (5 : Fin 512) = true ∧ ((upState
        [(.sched_gate_status_pending, 5, 1)])).dev.get .h_gate_swap (5 : Fin 512) ≤ ((upState [(.sched_gate_status_pending, 5,
        1)])).dev.fabricNs ∧ ((upState [(.sched_gate_status_pending, 5, 1)])).dev.flag .sched_gate_ctrl_gate_en (5 : Fin 512) =
        false) ∧
    (((upState [(.sched_gate_status_pending, 5, 1)])).dev.accepts (.schedGateDataWrite (.fabric : Mark) (5 : Fin 512) (9 :
        Word)) = true) ∧
    (((upState [(.sched_gate_status_pending, 5, 1)])).dev.flag .sched_gate_status_pending (5 : Fin 512) = true) ∧
    (((upState [])).dev.accepts (.schedGateDataWrite (.fabric : Mark) (5 : Fin 512) (9 : Word)) = true) ∧
    (((upState [])).dev.flag .sched_gate_status_pending (5 : Fin 512) = false) := by
  refine ⟨?_, ?_, ?_, ?_, ?_, ?_, ?_, ?_, ?_, ?_, ?_, ?_, ?_, ?_, ?_, ?_, ?_, ?_, ?_, ?_, ?_, ?_, ?_, ?_, ?_, ?_⟩ <;>
    decide +kernel

/-- States and operands that meet the premises of `Obligations.ContextsLoadAndUnload`, clause by clause. -/
theorem witness_ContextsLoadAndUnload :
    (((upState [])).dev.accepts (.collCmdNop (.fabric : Mark) (4 : Fin 16384)) = true) ∧
    (((upState [(.coll_load_addr_image, 0, 4100)])).dev.accepts (.collCmdLoad (.fabric : Mark) (4 : Fin 16384)) = true) ∧
    (((upState [(.coll_load_addr_image, 0, 4100)])).dev.collLoads.getOpt 8 = none) ∧
    (({ upState [] with dev := { (upState []).dev with collLoads := ⟨[(8, some { num := 3, addr := 0 })]⟩ } }).dev.accepts
        (.collCmdLoad (.fabric : Mark) (4 : Fin 16384)) = true) ∧
    ((({ upState [] with dev := { (upState []).dev with collLoads := ⟨[(8, some { num := 3, addr := 0 })]⟩ } }).dev.collLoads.getOpt
        8).isSome = true) ∧
    (({ upState [] with dev := { (upState []).dev with ctxs := ⟨[(4, some { hdr := [1152991873351024647, 8797166768128, 327680, 0], map := [1610613248], state := 1 })]⟩ } }).dev.accepts
        (.collCmdUnload (.fabric : Mark) (4 : Fin 16384)) = true) ∧
    (({ upState [] with dev := { (upState []).dev with ctxs := ⟨[(4, some { hdr := [1152991873351024647, 8797166768128, 327680, 0], map := [1610613248], state := 1 })]⟩ } }).dev.ctx
        (4 : Fin 16384) = some ({ hdr := [1152991873351024647, 8797166768128, 327680, 0], map := [1610613248], state := 1 } :
        Ctx) ∧ ({ hdr := [1152991873351024647, 8797166768128, 327680, 0], map := [1610613248], state := 1 } : Ctx).state = 1 ∧
        ({ hdr := [1152991873351024647, 8797166768128, 327680, 0], map := [1610613248], state := 1 } : Ctx).armed = 0) ∧
    (({ upState [] with dev := { (upState []).dev with ctxs := ⟨[(4, some { hdr := [1152991873351024647, 8797166768128, 327680, 0], map := [1610613248], state := 1, armed := 2 })]⟩ } }).dev.accepts
        (.collCmdUnload (.fabric : Mark) (4 : Fin 16384)) = true) ∧
    (({ upState [] with dev := { (upState []).dev with ctxs := ⟨[(4, some { hdr := [1152991873351024647, 8797166768128, 327680, 0], map := [1610613248], state := 1, armed := 2 })]⟩ } }).dev.ctx
        (4 : Fin 16384) = some
        ({ hdr := [1152991873351024647, 8797166768128, 327680, 0], map := [1610613248], state := 1, armed := 2 } : Ctx) ∧
        (({ hdr := [1152991873351024647, 8797166768128, 327680, 0], map := [1610613248], state := 1, armed := 2 } : Ctx).state ≠
        1 ∨ ({ hdr := [1152991873351024647, 8797166768128, 327680, 0], map := [1610613248], state := 1, armed := 2 } :
        Ctx).armed ≠ 0)) ∧
    (((upState [])).dev.accepts (.collCmdUnload (.fabric : Mark) (4 : Fin 16384)) = true) ∧
    (((upState [])).dev.ctx (4 : Fin 16384) = none) ∧
    (({ upState [] with dev := { (upState []).dev with ctxs := ⟨[(4, some { hdr := [1152991873351024647, 8797166768128, 327680, 0], map := [1610613248], state := 2, launches := [⟨3, 9, true, false⟩], run := some { step := 0, tOpen := 0, t0 := 0, base := 0 } })]⟩ } }).dev.accepts
        (.collCmdAbort (.fabric : Mark) (4 : Fin 16384)) = true) ∧
    (({ upState [] with dev := { (upState []).dev with ctxs := ⟨[(4, some { hdr := [1152991873351024647, 8797166768128, 327680, 0], map := [1610613248], state := 2, launches := [⟨3, 9, true, false⟩], run := some { step := 0, tOpen := 0, t0 := 0, base := 0 } })]⟩ } }).dev.openStep?
        (4 : Fin 16384) = some
        (({ hdr := [1152991873351024647, 8797166768128, 327680, 0], map := [1610613248], state := 2, launches := [⟨3, 9, true, false⟩], run := some { step := 0, tOpen := 0, t0 := 0, base := 0 } }
        : Ctx), ({ step := 0, tOpen := 0, t0 := 0, base := 0 } : Step))) ∧
    (({ hdr := [1152991873351024647, 8797166768128, 327680, 0], map := [1610613248], state := 2, launches := [⟨3, 9, true, false⟩], run := some { step := 0, tOpen := 0, t0 := 0, base := 0 } }
        : Ctx).state ≠ 1 ∧ ∀ l ∈
        ({ hdr := [1152991873351024647, 8797166768128, 327680, 0], map := [1610613248], state := 2, launches := [⟨3, 9, true, false⟩], run := some { step := 0, tOpen := 0, t0 := 0, base := 0 } }
        : Ctx).launches, l.barrier = false) ∧
    (((upState [])).dev.accepts (.collCmdAbort (.fabric : Mark) (4 : Fin 16384)) = true) ∧
    (({ upState [] with dev := { (upState []).dev with ctxs := ⟨[(4, some { hdr := [1152991873351024647, 8797166768128, 327680, 0], map := [1610613248], state := 1 })]⟩ } }).dev.accepts
        (.collCmdAbort (.fabric : Mark) (4 : Fin 16384)) = true) ∧
    (({ upState [] with dev := { (upState []).dev with ctxs := ⟨[(4, some { hdr := [1152991873351024647, 8797166768128, 327680, 0], map := [1610613248], state := 2, launches := [⟨3, 9, true, false⟩], run := some { step := 0, tOpen := 0, t0 := 0, decided := true } })]⟩ } }).dev.accepts
        (.collCmdAbort (.fabric : Mark) (4 : Fin 16384)) = true) ∧
    (({ upState [] with dev := { (upState []).dev with ctxs := ⟨[(4, some { hdr := [1152991873351024647, 8797166768128, 327680, 0], map := [1610613248], state := 2, launches := [⟨3, 9, true, false⟩], run := some { step := 0, tOpen := 0, t0 := 0, decided := true } })]⟩ } }).dev.ctx
        (4 : Fin 16384) = some
        ({ hdr := [1152991873351024647, 8797166768128, 327680, 0], map := [1610613248], state := 2, launches := [⟨3, 9, true, false⟩], run := some { step := 0, tOpen := 0, t0 := 0, decided := true } }
        : Ctx) ∧
        (({ hdr := [1152991873351024647, 8797166768128, 327680, 0], map := [1610613248], state := 2, launches := [⟨3, 9, true, false⟩], run := some { step := 0, tOpen := 0, t0 := 0, decided := true } }
        : Ctx).state ≠ 1 ∨
        ({ hdr := [1152991873351024647, 8797166768128, 327680, 0], map := [1610613248], state := 2, launches := [⟨3, 9, true, false⟩], run := some { step := 0, tOpen := 0, t0 := 0, decided := true } }
        : Ctx).armed ≠ 0)) ∧
    ((({ upState [] with dev := { (upState []).dev with ctxs := ⟨[(4, some { hdr := [1152991873351024647, 8797166768128, 327680, 0], map := [1610613248], state := 2, launches := [⟨3, 9, true, false⟩], run := some { step := 0, tOpen := 0, t0 := 0, decided := true } })]⟩ } }).dev.liveStep
        (4 : Fin 16384)).isSome = true ∧
        ({ upState [] with dev := { (upState []).dev with ctxs := ⟨[(4, some { hdr := [1152991873351024647, 8797166768128, 327680, 0], map := [1610613248], state := 2, launches := [⟨3, 9, true, false⟩], run := some { step := 0, tOpen := 0, t0 := 0, decided := true } })]⟩ } }).dev.openStep?
        (4 : Fin 16384) = none) ∧
    (({ upState [] with dev := { (upState []).dev with collLoads := ⟨[(8, some { num := 4, addr := 0 })]⟩ } }).dev.collLoads.getOpt
        (8 : Fin 9) = some ({ num := 4, addr := 0 } : Load) ∧ (some [7, 0, 0, 0, 0, 64, 0, 16, 0, 16, 0, 64, 0, 8, 0, 0, 0, 0,
        5, 0, 0, 0, 0, 0, 0, 0, 0, 0, 0, 0, 0, 0, 0, 2, 0, 96] : Option (List Byte)) = some ([7, 0, 0, 0, 0, 64, 0, 16, 0, 16,
        0, 64, 0, 8, 0, 0, 0, 0, 5, 0, 0, 0, 0, 0, 0, 0, 0, 0, 0, 0, 0, 0, 0, 2, 0, 96] : List Byte)) ∧
    (({ upState [] with dev := { (upState []).dev with collLoads := ⟨[(8, some { num := 4, addr := 0 })]⟩ } }).dev.ctxCheck
        ({ num := 4, addr := 0 } : Load).priv ({ num := 4, addr := 0 } : Load).pmap ({ num := 4, addr := 0 } : Load).num
        ({ num := 4, addr := 0 } : Load).addr (some (imageOf (byteList ([7, 0, 0, 0, 0, 64, 0, 16, 0, 16, 0, 64, 0, 8, 0, 0, 0,
        0, 5, 0, 0, 0, 0, 0, 0, 0, 0, 0, 0, 0, 0, 0, 0, 2, 0, 96] : List Byte)))) = 0) ∧
    (({ upState [] with dev := { (upState []).dev with collLoads := ⟨[(3, some { num := 4, addr := 0 })]⟩ } }).dev.collLoads.getOpt
        (3 : Fin 9) = some ({ num := 4, addr := 0 } : Load)) ∧
    (({ upState [] with dev := { (upState []).dev with collLoads := ⟨[(3, some { num := 4, addr := 0 })]⟩ } }).dev.ctxCheck
        ({ num := 4, addr := 0 } : Load).priv ({ num := 4, addr := 0 } : Load).pmap ({ num := 4, addr := 0 } : Load).num
        ({ num := 4, addr := 0 } : Load).addr ((none : Option (List Byte)).map (fun (b : List Byte) => imageOf (byteList b))) =
        (4 : Nat) ∧ (4 : Nat) ≠ 0 ∧ (4 : Nat) ≠ 14) ∧
    (({ upState [] with dev := { (upState []).dev with collLoads := ⟨[(3, some { num := 4, addr := 0 })]⟩ } }).dev.ctxCheck
        ({ num := 4, addr := 0 } : Load).priv ({ num := 4, addr := 0 } : Load).pmap ({ num := 4, addr := 0 } : Load).num
        ({ num := 4, addr := 0 } : Load).addr ((some [7, 0, 0, 0, 0, 64, 0, 80, 0, 16, 0, 64, 0, 8, 0, 0, 0, 0, 5, 0, 0, 0, 0,
        0, 0, 0, 0, 0, 0, 0, 0, 0, 0, 2, 0, 96] : Option (List Byte)).map (fun (b : List Byte) => imageOf (byteList b))) = 14) ∧
    (({ upState [] with dev := { (upState []).dev with ctxs := ⟨[(4, some { hdr := [1152991873351024647, 8797166768128, 327680, 0], map := [1610613248], state := 1, armed := 2 })]⟩ } }).dev.ctx
        (4 : Fin 16384) = some
        ({ hdr := [1152991873351024647, 8797166768128, 327680, 0], map := [1610613248], state := 1, armed := 2 } : Ctx) ∧
        ({ hdr := [1152991873351024647, 8797166768128, 327680, 0], map := [1610613248], state := 1, armed := 2 } : Ctx).state =
        1 ∧ 0 < ({ hdr := [1152991873351024647, 8797166768128, 327680, 0], map := [1610613248], state := 1, armed := 2 } :
        Ctx).armed ∧
        ({ upState [] with dev := { (upState []).dev with ctxs := ⟨[(4, some { hdr := [1152991873351024647, 8797166768128, 327680, 0], map := [1610613248], state := 1, armed := 2 })]⟩ } }).dev.recordPlaced
        (4 : Fin 16384) ({ hdr := [1152991873351024647, 8797166768128, 327680, 0], map := [1610613248], state := 1, armed := 2 }
        : Ctx) = true) := by
  refine ⟨?_, ?_, ?_, ?_, ?_, ?_, ?_, ?_, ?_, ?_, ?_, ?_, ?_, ?_, ?_, ?_, ?_, ?_, ?_, ?_, ?_, ?_, ?_, ?_, ?_⟩ <;>
    decide +kernel

/-- States and operands that meet the premises of `Obligations.StepsOfAContext`, clause by clause. -/
theorem witness_StepsOfAContext :
    (({ upState [(.sched_echo_ctrl_echo_enable, 0, 0)] with dev := { (upState [(.sched_echo_ctrl_echo_enable, 0, 0)]).dev with ctxs := ⟨[(4, some { hdr := [4611756387171565575, 8797166768128, 327680, 0], map := [1610613248], state := 2, launches := [⟨3, 9, true, false⟩], run := some { step := 0, tOpen := 0, t0 := 0, base := 0 } })]⟩, frames := [{ id := 9, input := 3, hdr := { ftype := 0x10, cls := 1, order := 1, dst := 0xFF0000, src := 0x200, length := 0, w4 := 4 * 2 ^ 18 }, payload := [], complete := true, arrival := some 3 }], egress := [⟨512, 1, 9, 1, none, false⟩] } }).dev.internalHead
        512 1 = some
        (({ id := 9, input := 3, hdr := { ftype := 0x10, cls := 1, order := 1, dst := 0xFF0000, src := 0x200, length := 0, w4 := 4 * 2 ^ 18 }, payload := [], complete := true, arrival := some 3 }
        : Frame), (false : Bool)) ∧
        ({ id := 9, input := 3, hdr := { ftype := 0x10, cls := 1, order := 1, dst := 0xFF0000, src := 0x200, length := 0, w4 := 4 * 2 ^ 18 }, payload := [], complete := true, arrival := some 3 }
        : Frame).complete = true ∧
        ({ id := 9, input := 3, hdr := { ftype := 0x10, cls := 1, order := 1, dst := 0xFF0000, src := 0x200, length := 0, w4 := 4 * 2 ^ 18 }, payload := [], complete := true, arrival := some 3 }
        : Frame).hdr.ftype = ftCOLL_CONTRIB ∧
        ({ upState [(.sched_echo_ctrl_echo_enable, 0, 0)] with dev := { (upState [(.sched_echo_ctrl_echo_enable, 0, 0)]).dev with ctxs := ⟨[(4, some { hdr := [4611756387171565575, 8797166768128, 327680, 0], map := [1610613248], state := 2, launches := [⟨3, 9, true, false⟩], run := some { step := 0, tOpen := 0, t0 := 0, base := 0 } })]⟩, frames := [{ id := 9, input := 3, hdr := { ftype := 0x10, cls := 1, order := 1, dst := 0xFF0000, src := 0x200, length := 0, w4 := 4 * 2 ^ 18 }, payload := [], complete := true, arrival := some 3 }], egress := [⟨512, 1, 9, 1, none, false⟩] } }).dev.flag
        .sched_echo_ctrl_echo_enable = false) ∧
    (({ upState [(.sched_echo_ctrl_echo_enable, 0, 0)] with dev := { (upState [(.sched_echo_ctrl_echo_enable, 0, 0)]).dev with ctxs := ⟨[(4, some { hdr := [4611756387171565575, 8797166768128, 327680, 0], map := [1610613248], state := 2, launches := [⟨3, 9, true, false⟩], run := some { step := 0, tOpen := 0, t0 := 0, base := 0 } })]⟩, frames := [{ id := 9, input := 3, hdr := { ftype := 0x10, cls := 1, order := 1, dst := 0xFF0000, src := 0x200, length := 0, w4 := 4 * 2 ^ 18 }, payload := [], complete := true, arrival := some 3 }], egress := [⟨512, 1, 9, 1, none, false⟩] } }).dev.intakeFails
        ({ id := 9, input := 3, hdr := { ftype := 0x10, cls := 1, order := 1, dst := 0xFF0000, src := 0x200, length := 0, w4 := 4 * 2 ^ 18 }, payload := [], complete := true, arrival := some 3 }
        : Frame).hdr = none) ∧
    (({ upState [(.sched_echo_ctrl_echo_enable, 0, 0)] with dev := { (upState [(.sched_echo_ctrl_echo_enable, 0, 0)]).dev with frames := [{ id := 9, input := 3, hdr := { ftype := 0x10, cls := 1, order := 1, dst := 0xFF0000, src := 0x200, length := 0, w4 := 4 * 2 ^ 18 }, payload := [], complete := true, arrival := some 3 }], egress := [⟨512, 1, 9, 1, none, false⟩] } }).dev.internalHead
        512 1 = some
        (({ id := 9, input := 3, hdr := { ftype := 0x10, cls := 1, order := 1, dst := 0xFF0000, src := 0x200, length := 0, w4 := 4 * 2 ^ 18 }, payload := [], complete := true, arrival := some 3 }
        : Frame), (false : Bool)) ∧
        ({ id := 9, input := 3, hdr := { ftype := 0x10, cls := 1, order := 1, dst := 0xFF0000, src := 0x200, length := 0, w4 := 4 * 2 ^ 18 }, payload := [], complete := true, arrival := some 3 }
        : Frame).complete = true ∧
        ({ id := 9, input := 3, hdr := { ftype := 0x10, cls := 1, order := 1, dst := 0xFF0000, src := 0x200, length := 0, w4 := 4 * 2 ^ 18 }, payload := [], complete := true, arrival := some 3 }
        : Frame).hdr.ftype = ftCOLL_CONTRIB ∧
        ({ upState [(.sched_echo_ctrl_echo_enable, 0, 0)] with dev := { (upState [(.sched_echo_ctrl_echo_enable, 0, 0)]).dev with frames := [{ id := 9, input := 3, hdr := { ftype := 0x10, cls := 1, order := 1, dst := 0xFF0000, src := 0x200, length := 0, w4 := 4 * 2 ^ 18 }, payload := [], complete := true, arrival := some 3 }], egress := [⟨512, 1, 9, 1, none, false⟩] } }).dev.flag
        .sched_echo_ctrl_echo_enable = false) ∧
    (({ upState [(.sched_echo_ctrl_echo_enable, 0, 0)] with dev := { (upState [(.sched_echo_ctrl_echo_enable, 0, 0)]).dev with frames := [{ id := 9, input := 3, hdr := { ftype := 0x10, cls := 1, order := 1, dst := 0xFF0000, src := 0x200, length := 0, w4 := 4 * 2 ^ 18 }, payload := [], complete := true, arrival := some 3 }], egress := [⟨512, 1, 9, 1, none, false⟩] } }).dev.intakeFails
        ({ id := 9, input := 3, hdr := { ftype := 0x10, cls := 1, order := 1, dst := 0xFF0000, src := 0x200, length := 0, w4 := 4 * 2 ^ 18 }, payload := [], complete := true, arrival := some 3 }
        : Frame).hdr = some ((.COLL_NO_CTX : Ev), (.COLL_NO_CTX : RecCode)) ∧
        ({ id := 9, input := 3, hdr := { ftype := 0x10, cls := 1, order := 1, dst := 0xFF0000, src := 0x200, length := 0, w4 := 4 * 2 ^ 18 }, payload := [], complete := true, arrival := some 3 }
        : Frame).arrival = some (3 : Nat)) ∧
    (({ upState [] with dev := { (upState []).dev with ctxs := ⟨[(4, some { hdr := [1152991873351024647, 8797166768128, 327680, 0], map := [1610613248], state := 2, launches := [⟨3, 9, true, false⟩], run := some { step := 0, tOpen := 0, t0 := 0, chunks := [{ idx := 0, unit := some 3, inputs := [(0, [1, 2])] }] } })]⟩ } }).dev.openStep?
        (4 : Fin 16384) = some
        (({ hdr := [1152991873351024647, 8797166768128, 327680, 0], map := [1610613248], state := 2, launches := [⟨3, 9, true, false⟩], run := some { step := 0, tOpen := 0, t0 := 0, chunks := [{ idx := 0, unit := some 3, inputs := [(0, [1, 2])] }] } }
        : Ctx), ({ step := 0, tOpen := 0, t0 := 0, chunks := [{ idx := 0, unit := some 3, inputs := [(0, [1, 2])] }] } : Step))) ∧
    (({ step := 0, tOpen := 0, t0 := 0, chunks := [{ idx := 0, unit := some 3, inputs := [(0, [1, 2])] }] } : Step).chunk? (0 :
        Fin 1048576) = some ({ idx := 0, unit := some 3, inputs := [(0, [1, 2])] } : Chunk) ∧
        ({ idx := 0, unit := some 3, inputs := [(0, [1, 2])] } : Chunk).unit = some (3 : Nat) ∧
        ({ hdr := [1152991873351024647, 8797166768128, 327680, 0], map := [1610613248], state := 2, launches := [⟨3, 9, true, false⟩], run := some { step := 0, tOpen := 0, t0 := 0, chunks := [{ idx := 0, unit := some 3, inputs := [(0, [1, 2])] }] } }
        : Ctx).full ({ idx := 0, unit := some 3, inputs := [(0, [1, 2])] } : Chunk) = true ∧
        ({ idx := 0, unit := some 3, inputs := [(0, [1, 2])] } : Chunk).result = none ∧
        ({ idx := 0, unit := some 3, inputs := [(0, [1, 2])] } : Chunk).early = false ∧
        ({ idx := 0, unit := some 3, inputs := [(0, [1, 2])] } : Chunk).retracted = false) ∧
    (({ hdr := [1152991873351024647, 8797166768128, 327680, 0], map := [1610613248], state := 2, launches := [⟨3, 9, true, false⟩], run := some { step := 0, tOpen := 0, t0 := 0, chunks := [{ idx := 0, unit := some 3, inputs := [(0, [1, 2])] }] } }
        : Ctx).kind ≤ tyBROADCAST ∧
        ({ upState [] with dev := { (upState []).dev with ctxs := ⟨[(4, some { hdr := [1152991873351024647, 8797166768128, 327680, 0], map := [1610613248], state := 2, launches := [⟨3, 9, true, false⟩], run := some { step := 0, tOpen := 0, t0 := 0, chunks := [{ idx := 0, unit := some 3, inputs := [(0, [1, 2])] }] } })]⟩ } }).dev.unitTurn
        ({ hdr := [1152991873351024647, 8797166768128, 327680, 0], map := [1610613248], state := 2, launches := [⟨3, 9, true, false⟩], run := some { step := 0, tOpen := 0, t0 := 0, chunks := [{ idx := 0, unit := some 3, inputs := [(0, [1, 2])] }] } }
        : Ctx) ({ idx := 0, unit := some 3, inputs := [(0, [1, 2])] } : Chunk) (3 : Nat) = some (true : Bool) ∧
        ({ hdr := [1152991873351024647, 8797166768128, 327680, 0], map := [1610613248], state := 2, launches := [⟨3, 9, true, false⟩], run := some { step := 0, tOpen := 0, t0 := 0, chunks := [{ idx := 0, unit := some 3, inputs := [(0, [1, 2])] }] } }
        : Ctx).inner = false ∧ outMismatch (.formed [] : ChunkOut) = none) ∧
    (({ hdr := [1152991873351024647, 8797166768128, 327680, 0], map := [1610613248], state := 2, launches := [⟨3, 9, true, false⟩], run := some { step := 0, tOpen := 0, t0 := 0, chunks := [{ idx := 0, unit := some 3, inputs := [(0, [1, 2])] }] } }
        : Ctx).kind ≤ tyBROADCAST ∧
        ({ upState [] with dev := { (upState []).dev with ctxs := ⟨[(4, some { hdr := [1152991873351024647, 8797166768128, 327680, 0], map := [1610613248], state := 2, launches := [⟨3, 9, true, false⟩], run := some { step := 0, tOpen := 0, t0 := 0, chunks := [{ idx := 0, unit := some 3, inputs := [(0, [1, 2])] }] } })]⟩ } }).dev.unitTurn
        ({ hdr := [1152991873351024647, 8797166768128, 327680, 0], map := [1610613248], state := 2, launches := [⟨3, 9, true, false⟩], run := some { step := 0, tOpen := 0, t0 := 0, chunks := [{ idx := 0, unit := some 3, inputs := [(0, [1, 2])] }] } }
        : Ctx) ({ idx := 0, unit := some 3, inputs := [(0, [1, 2])] } : Chunk) (3 : Nat) = some (true : Bool) ∧ outMismatch
        (.report { lane := 3, node := 0, op := .add 1 1 3 false, env := ⟨0, 0, 0, 0⟩ } : ChunkOut) = some
        ({ lane := 3, node := 0, op := .add 1 1 3 false, env := ⟨0, 0, 0, 0⟩ } : Mismatch) ∧
        ({ hdr := [1152991873351024647, 8797166768128, 327680, 0], map := [1610613248], state := 2, launches := [⟨3, 9, true, false⟩], run := some { step := 0, tOpen := 0, t0 := 0, chunks := [{ idx := 0, unit := some 3, inputs := [(0, [1, 2])] }] } }
        : Ctx).reports ({ idx := 0, unit := some 3, inputs := [(0, [1, 2])] } : Chunk)
        ({ lane := 3, node := 0, op := .add 1 1 3 false, env := ⟨0, 0, 0, 0⟩ } : Mismatch) = true ∧
        ({ idx := 0, unit := some 3, inputs := [(0, [1, 2])] } : Chunk).failed = [] ∧
        ({ idx := 0, unit := some 3, inputs := [(0, [1, 2])] } : Chunk).mism < 4) ∧
    (({ upState [] with dev := { (upState []).dev with ctxs := ⟨[(4, some { hdr := [1152991873351024647, 8797166768128, 327680, 0], map := [1610613248], state := 2, launches := [⟨3, 9, true, false⟩], run := some { step := 0, tOpen := 0, t0 := 0, chunks := [{ idx := 0, unit := some 3, result := some ([1, 2]) }] } })]⟩ } }).dev.openStep?
        (4 : Fin 16384) = some
        (({ hdr := [1152991873351024647, 8797166768128, 327680, 0], map := [1610613248], state := 2, launches := [⟨3, 9, true, false⟩], run := some { step := 0, tOpen := 0, t0 := 0, chunks := [{ idx := 0, unit := some 3, result := some ([1, 2]) }] } }
        : Ctx), ({ step := 0, tOpen := 0, t0 := 0, chunks := [{ idx := 0, unit := some 3, result := some ([1, 2]) }] } : Step))) ∧
    (({ step := 0, tOpen := 0, t0 := 0, chunks := [{ idx := 0, unit := some 3, result := some ([1, 2]) }] } : Step).chunk? (0 :
        Fin 1048576) = some ({ idx := 0, unit := some 3, result := some ([1, 2]) } : Chunk) ∧
        ({ idx := 0, unit := some 3, result := some ([1, 2]) } : Chunk).result = some ([1, 2] : List Nat) ∧
        ({ hdr := [1152991873351024647, 8797166768128, 327680, 0], map := [1610613248], state := 2, launches := [⟨3, 9, true, false⟩], run := some { step := 0, tOpen := 0, t0 := 0, chunks := [{ idx := 0, unit := some 3, result := some ([1, 2]) }] } }
        : Ctx).inner = false) ∧
    (({ upState [] with dev := { (upState []).dev with ctxs := ⟨[(4, some { hdr := [1152991873351024647, 8797166768128, 327680, 0], map := [1610613248], state := 2, launches := [⟨3, 9, true, false⟩], run := some { step := 0, tOpen := 0, t0 := 0, base := 1, verBase := 1 } })]⟩ } }).dev.openStep?
        (4 : Fin 16384) = some
        (({ hdr := [1152991873351024647, 8797166768128, 327680, 0], map := [1610613248], state := 2, launches := [⟨3, 9, true, false⟩], run := some { step := 0, tOpen := 0, t0 := 0, base := 1, verBase := 1 } }
        : Ctx), ({ step := 0, tOpen := 0, t0 := 0, base := 1, verBase := 1 } : Step))) ∧
    (({ hdr := [1152991873351024647, 8797166768128, 327680, 0], map := [1610613248], state := 2, launches := [⟨3, 9, true, false⟩], run := some { step := 0, tOpen := 0, t0 := 0, base := 1, verBase := 1 } }
        : Ctx).inner = false ∧
        ({ hdr := [1152991873351024647, 8797166768128, 327680, 0], map := [1610613248], state := 2, launches := [⟨3, 9, true, false⟩], run := some { step := 0, tOpen := 0, t0 := 0, base := 1, verBase := 1 } }
        : Ctx).n ≤ ({ step := 0, tOpen := 0, t0 := 0, base := 1, verBase := 1 } : Step).verBase ∧
        ({ hdr := [1152991873351024647, 8797166768128, 327680, 0], map := [1610613248], state := 2, launches := [⟨3, 9, true, false⟩], run := some { step := 0, tOpen := 0, t0 := 0, base := 1, verBase := 1 } }
        : Ctx).n ≤ ({ step := 0, tOpen := 0, t0 := 0, base := 1, verBase := 1 } : Step).base ∧
        ({ upState [] with dev := { (upState []).dev with ctxs := ⟨[(4, some { hdr := [1152991873351024647, 8797166768128, 327680, 0], map := [1610613248], state := 2, launches := [⟨3, 9, true, false⟩], run := some { step := 0, tOpen := 0, t0 := 0, base := 1, verBase := 1 } })]⟩ } }).dev.collHeld
        (4 : Fin 16384) ({ step := 0, tOpen := 0, t0 := 0, base := 1, verBase := 1 } : Step).step (fun h => h.ftype ==
        ftCOLL_RESULT) = false) ∧
    (({ upState [] with dev := { (upState []).dev with ctxs := ⟨[(4, some { hdr := [1152991873351024647, 8797166768128, 327680, 0], map := [1610613248], state := 2, launches := [⟨3, 9, true, false⟩], run := some { step := 0, tOpen := 0, t0 := 0, decided := true } })]⟩ } }).dev.liveStep
        (4 : Fin 16384) = some
        (({ hdr := [1152991873351024647, 8797166768128, 327680, 0], map := [1610613248], state := 2, launches := [⟨3, 9, true, false⟩], run := some { step := 0, tOpen := 0, t0 := 0, decided := true } }
        : Ctx), ({ step := 0, tOpen := 0, t0 := 0, decided := true } : Step)) ∧
        ({ step := 0, tOpen := 0, t0 := 0, decided := true } : Step).decided = true ∧
        ({ upState [] with dev := { (upState []).dev with ctxs := ⟨[(4, some { hdr := [1152991873351024647, 8797166768128, 327680, 0], map := [1610613248], state := 2, launches := [⟨3, 9, true, false⟩], run := some { step := 0, tOpen := 0, t0 := 0, decided := true } })]⟩ } }).dev.collHeld
        (4 : Fin 16384) ({ step := 0, tOpen := 0, t0 := 0, decided := true } : Step).step (fun h => h.ftype == ftCOMMIT) =
        false) ∧
    (∀ l ∈
        ({ hdr := [1152991873351024647, 8797166768128, 327680, 0], map := [1610613248], state := 2, launches := [⟨3, 9, true, false⟩], run := some { step := 0, tOpen := 0, t0 := 0, decided := true } }
        : Ctx).launches, l.barrier = false) ∧
    (({ upState [] with dev := { (upState []).dev with ctxs := ⟨[(4, some { hdr := [1152991873351024647, 8797166768128, 327680, 0], map := [1610613248], state := 2, launches := [⟨3, 9, true, false⟩], run := some { step := 0, tOpen := 0, t0 := 0, base := 0 } })]⟩ } }).dev.openStep?
        (4 : Fin 16384) = some
        (({ hdr := [1152991873351024647, 8797166768128, 327680, 0], map := [1610613248], state := 2, launches := [⟨3, 9, true, false⟩], run := some { step := 0, tOpen := 0, t0 := 0, base := 0 } }
        : Ctx), ({ step := 0, tOpen := 0, t0 := 0, base := 0 } : Step))) ∧
    (({ hdr := [1152991873351024647, 8797166768128, 327680, 0], map := [1610613248], state := 2, launches := [⟨3, 9, true, false⟩], run := some { step := 0, tOpen := 0, t0 := 0, base := 0 } }
        : Ctx).inner = false ∧ ∀ l ∈
        ({ hdr := [1152991873351024647, 8797166768128, 327680, 0], map := [1610613248], state := 2, launches := [⟨3, 9, true, false⟩], run := some { step := 0, tOpen := 0, t0 := 0, base := 0 } }
        : Ctx).launches, l.barrier = false) ∧
    (({ upState [] with dev := { (upState []).dev with ctxs := ⟨[(4, some { hdr := [1152991873351024647, 8797166768128, 327680, 0], map := [1610613248], state := 2, launches := [⟨3, 9, true, false⟩], run := some { step := 0, tOpen := 0, t0 := 0, base := 1 } })]⟩ } }).dev.liveStep
        (4 : Fin 16384) = some
        (({ hdr := [1152991873351024647, 8797166768128, 327680, 0], map := [1610613248], state := 2, launches := [⟨3, 9, true, false⟩], run := some { step := 0, tOpen := 0, t0 := 0, base := 1 } }
        : Ctx), ({ step := 0, tOpen := 0, t0 := 0, base := 1 } : Step)) ∧ ({ step := 0, tOpen := 0, t0 := 0, base := 1 } :
        Step).slow = false ∧
        ({ hdr := [1152991873351024647, 8797166768128, 327680, 0], map := [1610613248], state := 2, launches := [⟨3, 9, true, false⟩], run := some { step := 0, tOpen := 0, t0 := 0, base := 1 } }
        : Ctx).n ≤ ({ step := 0, tOpen := 0, t0 := 0, base := 1 } : Step).base) ∧
    (({ upState [] with dev := { (upState []).dev with ctxs := ⟨[(4, some { hdr := [1152991873351024647, 8797166768128, 327680, 0], map := [1610613248], state := 2, launches := [⟨3, 9, true, false⟩], run := some { step := 0, tOpen := 0, t0 := 0, slow := true } })]⟩ } }).dev.liveStep
        (4 : Fin 16384) = some
        (({ hdr := [1152991873351024647, 8797166768128, 327680, 0], map := [1610613248], state := 2, launches := [⟨3, 9, true, false⟩], run := some { step := 0, tOpen := 0, t0 := 0, slow := true } }
        : Ctx), ({ step := 0, tOpen := 0, t0 := 0, slow := true } : Step)) ∧ ({ step := 0, tOpen := 0, t0 := 0, slow := true } :
        Step).slow = true) ∧
    (({ upState [] with dev := { (upState []).dev with ctxs := ⟨[(4, some { hdr := [1153273348327735303, 8797166768128, 327680, 0], map := [1610613248], state := 2, launches := [⟨3, 9, true, false⟩], run := some { step := 0, tOpen := 0, t0 := 0, base := 0 } })]⟩ } }).dev.openStep?
        (4 : Fin 16384) = some
        (({ hdr := [1153273348327735303, 8797166768128, 327680, 0], map := [1610613248], state := 2, launches := [⟨3, 9, true, false⟩], run := some { step := 0, tOpen := 0, t0 := 0, base := 0 } }
        : Ctx), ({ step := 0, tOpen := 0, t0 := 0, base := 0 } : Step))) ∧
    (({ hdr := [1153273348327735303, 8797166768128, 327680, 0], map := [1610613248], state := 2, launches := [⟨3, 9, true, false⟩], run := some { step := 0, tOpen := 0, t0 := 0, base := 0 } }
        : Ctx).inner = true ∧ (({ step := 0, tOpen := 0, t0 := 0, base := 0 } : Step).base <
        ({ hdr := [1153273348327735303, 8797166768128, 327680, 0], map := [1610613248], state := 2, launches := [⟨3, 9, true, false⟩], run := some { step := 0, tOpen := 0, t0 := 0, base := 0 } }
        : Ctx).n ∨ ({ step := 0, tOpen := 0, t0 := 0, base := 0 } : Step).restarted = true) ∧ ∀ l ∈
        ({ hdr := [1153273348327735303, 8797166768128, 327680, 0], map := [1610613248], state := 2, launches := [⟨3, 9, true, false⟩], run := some { step := 0, tOpen := 0, t0 := 0, base := 0 } }
        : Ctx).launches, l.barrier = false) ∧
    (({ upState [] with dev := { (upState []).dev with ctxs := ⟨[(4, some { hdr := [1153273348327735303, 8797166768128, 327680, 0], map := [1610613248], state := 2, launches := [⟨3, 9, true, false⟩], run := some { step := 0, tOpen := 0, t0 := 0, base := 1 } })]⟩ } }).dev.openStep?
        (4 : Fin 16384) = some
        (({ hdr := [1153273348327735303, 8797166768128, 327680, 0], map := [1610613248], state := 2, launches := [⟨3, 9, true, false⟩], run := some { step := 0, tOpen := 0, t0 := 0, base := 1 } }
        : Ctx), ({ step := 0, tOpen := 0, t0 := 0, base := 1 } : Step))) ∧
    (({ hdr := [1153273348327735303, 8797166768128, 327680, 0], map := [1610613248], state := 2, launches := [⟨3, 9, true, false⟩], run := some { step := 0, tOpen := 0, t0 := 0, base := 1 } }
        : Ctx).inner = true ∧
        ({ hdr := [1153273348327735303, 8797166768128, 327680, 0], map := [1610613248], state := 2, launches := [⟨3, 9, true, false⟩], run := some { step := 0, tOpen := 0, t0 := 0, base := 1 } }
        : Ctx).n ≤ ({ step := 0, tOpen := 0, t0 := 0, base := 1 } : Step).base ∧ ({ step := 0, tOpen := 0, t0 := 0, base := 1 }
        : Step).restarted = false) := by
  refine ⟨?_, ?_, ?_, ?_, ?_, ?_, ?_, ?_, ?_, ?_, ?_, ?_, ?_, ?_, ?_, ?_, ?_, ?_, ?_, ?_, ?_, ?_⟩ <;>
    decide +kernel

/-- States and operands that meet the premises of `Obligations.CombiningUnits`, clause by clause. -/
theorem witness_CombiningUnits :
    (((upState [])).dev.accepts (.cmbUnitNop (.fabric : Mark) (3 : Fin 128)) = true) ∧
    (((upState [])).dev.accepts (.cmbRetireLane (.fabric : Mark) (3 : Fin 128) (5 : Fin 32)) = true) ∧
    (((upState [])).dev.get .h_cmb_req (3 : Fin 128) = 31) ∧
    (((upState [(.h_cmb_req, 3, 5)])).dev.accepts (.cmbRetireLane (.fabric : Mark) (3 : Fin 128) (5 : Fin 32)) = true) ∧
    (((upState [(.h_cmb_req, 3, 5)])).dev.get .h_cmb_req (3 : Fin 128) ≠ 31) ∧
    (((upState [(.h_cmb_req, 3, 5)])).dev.accepts (.cmbRestoreLane (.fabric : Mark) (3 : Fin 128)) = true) ∧
    (((upState [])).dev.accepts (.cmbRestoreLane (.fabric : Mark) (3 : Fin 128)) = true) ∧
    (((upState [])).dev.accepts (.cmbUnitFenceCmd (.fabric : Mark) (3 : Fin 128)) = true) ∧
    (((upState [])).dev.unitsUp.any (fun u => u != (3 : Fin 128).val) = true) ∧
    (((upState ((List.range 128).map (fun u => (Fld.cmb_unit_status_fenced, u, 1))))).dev.accepts (.cmbUnitFenceCmd (.fabric :
        Mark) (3 : Fin 128)) = true) ∧
    (((upState ((List.range 128).map (fun u => (Fld.cmb_unit_status_fenced, u, 1))))).dev.unitsUp.any (fun u => u != (3 : Fin
        128).val) = false) ∧
    (((upState [(.cmb_unit_status_fenced, 3, 1)])).dev.accepts (.cmbUnitUnfence (.fabric : Mark) (3 : Fin 128)) = true) ∧
    (((upState [(.cmb_unit_status_fenced, 3, 1)])).dev.flag .cmb_unit_status_fenced (3 : Fin 128) = true) ∧
    (((upState [])).dev.accepts (.cmbUnitUnfence (.fabric : Mark) (3 : Fin 128)) = true) ∧
    (((upState [])).dev.flag .cmb_unit_status_fenced (3 : Fin 128) = false) ∧
    (((upState [])).dev.accepts (.cmbClearStrikes (.fabric : Mark) (3 : Fin 128)) = true) ∧
    (((upState [])).dev.accepts (.cmbCtrlWrite (.fabric : Mark) (0x20010D : Word)) = true) ∧
    (((upState [])).dev.get .cmb_ctrl_shadow_log2n ≤ (slice (0x20010D : Word).toNat 0 5) ∨ ((upState [])).dev.intakeSum ≤
        ((upState [])).dev.rateLimitAt (slice (0x20010D : Word).toNat 0 5) * 1000000000) ∧
    (({ upState ((List.range 128).map (fun u => (Fld.cmb_unit_status_fenced, u, 1)) ++ [(Fld.cmb_ctrl_shadow_log2n, 0, 20)]) with dev := { (upState ((List.range 128).map (fun u => (Fld.cmb_unit_status_fenced, u, 1)) ++ [(Fld.cmb_ctrl_shadow_log2n, 0, 20)])).dev with ctxs := ⟨[(4, some { hdr := [1152991873351024647, 8797166768128, 327680, 0], map := [1610613248], state := 1 })]⟩ } }).dev.accepts
        (.cmbCtrlWrite (.fabric : Mark) (0x20010D : Word)) = true) ∧
    ((slice (0x20010D : Word).toNat 0 5) <
        ({ upState ((List.range 128).map (fun u => (Fld.cmb_unit_status_fenced, u, 1)) ++ [(Fld.cmb_ctrl_shadow_log2n, 0, 20)]) with dev := { (upState ((List.range 128).map (fun u => (Fld.cmb_unit_status_fenced, u, 1)) ++ [(Fld.cmb_ctrl_shadow_log2n, 0, 20)])).dev with ctxs := ⟨[(4, some { hdr := [1152991873351024647, 8797166768128, 327680, 0], map := [1610613248], state := 1 })]⟩ } }).dev.get
        .cmb_ctrl_shadow_log2n ∧
        ({ upState ((List.range 128).map (fun u => (Fld.cmb_unit_status_fenced, u, 1)) ++ [(Fld.cmb_ctrl_shadow_log2n, 0, 20)]) with dev := { (upState ((List.range 128).map (fun u => (Fld.cmb_unit_status_fenced, u, 1)) ++ [(Fld.cmb_ctrl_shadow_log2n, 0, 20)])).dev with ctxs := ⟨[(4, some { hdr := [1152991873351024647, 8797166768128, 327680, 0], map := [1610613248], state := 1 })]⟩ } }).dev.rateLimitAt
        (slice (0x20010D : Word).toNat 0 5) * 1000000000 <
        ({ upState ((List.range 128).map (fun u => (Fld.cmb_unit_status_fenced, u, 1)) ++ [(Fld.cmb_ctrl_shadow_log2n, 0, 20)]) with dev := { (upState ((List.range 128).map (fun u => (Fld.cmb_unit_status_fenced, u, 1)) ++ [(Fld.cmb_ctrl_shadow_log2n, 0, 20)])).dev with ctxs := ⟨[(4, some { hdr := [1152991873351024647, 8797166768128, 327680, 0], map := [1610613248], state := 1 })]⟩ } }).dev.intakeSum) ∧
    (({ upState [] with dev := { (upState []).dev with shadows := [{ ctx := 4, step := 0, chunk := 0, job := 7, bytes := 0, unit := 3, lane := 31, format := 0, op := 0, hdr := [1152991873351024647, 8797166768128, 327680, 0], map := [1610613248], shadow := some 9 }] } }).dev.shadows.find?
        (fun (x : Shadow) => x.ctx == (4 : Fin 16384).val && x.step == (0 : BitVec 18).toNat && x.chunk == (0 : Fin 1048576).val
        && x.third.isNone) = some
        ({ ctx := 4, step := 0, chunk := 0, job := 7, bytes := 0, unit := 3, lane := 31, format := 0, op := 0, hdr := [1152991873351024647, 8797166768128, 327680, 0], map := [1610613248], shadow := some 9 }
        : Shadow)) ∧
    (({ ctx := 4, step := 0, chunk := 0, job := 7, bytes := 0, unit := 3, lane := 31, format := 0, op := 0, hdr := [1152991873351024647, 8797166768128, 327680, 0], map := [1610613248], shadow := some 9 }
        : Shadow).shadow = some (9 : Nat) ∧ (lanesDiffer
        (({ ctx := 4, step := 0, chunk := 0, job := 7, bytes := 0, unit := 3, lane := 31, format := 0, op := 0, hdr := [1152991873351024647, 8797166768128, 327680, 0], map := [1610613248], shadow := some 9 }
        : Shadow).form ([] : List (Fin 4096 × BitVec 8)))
        ({ ctx := 4, step := 0, chunk := 0, job := 7, bytes := 0, unit := 3, lane := 31, format := 0, op := 0, hdr := [1152991873351024647, 8797166768128, 327680, 0], map := [1610613248], shadow := some 9 }
        : Shadow).crcs) = 0) ∧
    (({ upState [] with dev := { (upState []).dev with shadows := [{ ctx := 4, step := 0, chunk := 0, job := 7, bytes := 0, unit := 3, lane := 31, format := 0, op := 0, hdr := [1152991873351024647, 8797166768128, 327680, 0], map := [1610613248], crcs := [1], shadow := some 9 }] } }).dev.shadows.find?
        (fun (x : Shadow) => x.ctx == (4 : Fin 16384).val && x.step == (0 : BitVec 18).toNat && x.chunk == (0 : Fin 1048576).val
        && x.third.isNone) = some
        ({ ctx := 4, step := 0, chunk := 0, job := 7, bytes := 0, unit := 3, lane := 31, format := 0, op := 0, hdr := [1152991873351024647, 8797166768128, 327680, 0], map := [1610613248], crcs := [1], shadow := some 9 }
        : Shadow)) ∧
    (({ ctx := 4, step := 0, chunk := 0, job := 7, bytes := 0, unit := 3, lane := 31, format := 0, op := 0, hdr := [1152991873351024647, 8797166768128, 327680, 0], map := [1610613248], crcs := [1], shadow := some 9 }
        : Shadow).shadow = some (9 : Nat) ∧ (lanesDiffer
        (({ ctx := 4, step := 0, chunk := 0, job := 7, bytes := 0, unit := 3, lane := 31, format := 0, op := 0, hdr := [1152991873351024647, 8797166768128, 327680, 0], map := [1610613248], crcs := [1], shadow := some 9 }
        : Shadow).form ([] : List (Fin 4096 × BitVec 8)))
        ({ ctx := 4, step := 0, chunk := 0, job := 7, bytes := 0, unit := 3, lane := 31, format := 0, op := 0, hdr := [1152991873351024647, 8797166768128, 327680, 0], map := [1610613248], crcs := [1], shadow := some 9 }
        : Shadow).crcs) ≠ 0 ∧
        (({ upState [] with dev := { (upState []).dev with shadows := [{ ctx := 4, step := 0, chunk := 0, job := 7, bytes := 0, unit := 3, lane := 31, format := 0, op := 0, hdr := [1152991873351024647, 8797166768128, 327680, 0], map := [1610613248], crcs := [1], shadow := some 9 }] } }).dev.shadowRun
        (9 : Nat)).thirdUnit
        ({ ctx := 4, step := 0, chunk := 0, job := 7, bytes := 0, unit := 3, lane := 31, format := 0, op := 0, hdr := [1152991873351024647, 8797166768128, 327680, 0], map := [1610613248], crcs := [1], shadow := some 9 }
        : Shadow).unit (9 : Nat) = some (0 : Nat)) ∧
    (({ upState [] with dev := { (upState []).dev with shadows := [{ ctx := 4, step := 0, chunk := 0, job := 7, bytes := 0, unit := 3, lane := 31, format := 0, op := 0, hdr := [1152991873351024647, 8797166768128, 327680, 0], map := [1610613248], crcs := [1], shadow := some 9, third := some 17, found := List.replicate 16 0, diff := 1 }] } }).dev.shadows.find?
        (fun (x : Shadow) => x.ctx == (4 : Fin 16384).val && x.step == (0 : BitVec 18).toNat && x.chunk == (0 : Fin 1048576).val
        && x.third.isSome) = some
        ({ ctx := 4, step := 0, chunk := 0, job := 7, bytes := 0, unit := 3, lane := 31, format := 0, op := 0, hdr := [1152991873351024647, 8797166768128, 327680, 0], map := [1610613248], crcs := [1], shadow := some 9, third := some 17, found := List.replicate 16 0, diff := 1 }
        : Shadow)) ∧
    (({ ctx := 4, step := 0, chunk := 0, job := 7, bytes := 0, unit := 3, lane := 31, format := 0, op := 0, hdr := [1152991873351024647, 8797166768128, 327680, 0], map := [1610613248], crcs := [1], shadow := some 9, third := some 17, found := List.replicate 16 0, diff := 1 }
        : Shadow).third = some (17 : Nat) ∧
        ({ ctx := 4, step := 0, chunk := 0, job := 7, bytes := 0, unit := 3, lane := 31, format := 0, op := 0, hdr := [1152991873351024647, 8797166768128, 327680, 0], map := [1610613248], crcs := [1], shadow := some 9, third := some 17, found := List.replicate 16 0, diff := 1 }
        : Shadow).shadow = some (9 : Nat) ∧
        ({ upState [] with dev := { (upState []).dev with shadows := [{ ctx := 4, step := 0, chunk := 0, job := 7, bytes := 0, unit := 3, lane := 31, format := 0, op := 0, hdr := [1152991873351024647, 8797166768128, 327680, 0], map := [1610613248], crcs := [1], shadow := some 9, third := some 17, found := List.replicate 16 0, diff := 1 }] } }).dev.flag
        .cmb_unit_status_fenced (17 : Nat) = false) ∧
    (({ upState [(.cmb_unit_status_fenced, 17, 1)] with dev := { (upState [(.cmb_unit_status_fenced, 17, 1)]).dev with shadows := [{ ctx := 4, step := 0, chunk := 0, job := 7, bytes := 0, unit := 3, lane := 31, format := 0, op := 0, hdr := [1152991873351024647, 8797166768128, 327680, 0], map := [1610613248], crcs := [1], shadow := some 9, third := some 17, found := List.replicate 16 0, diff := 1 }] } }).dev.shadows.find?
        (fun (x : Shadow) => x.ctx == (4 : Fin 16384).val && x.step == (0 : BitVec 18).toNat && x.chunk == (0 : Fin 1048576).val
        && x.third.isSome) = some
        ({ ctx := 4, step := 0, chunk := 0, job := 7, bytes := 0, unit := 3, lane := 31, format := 0, op := 0, hdr := [1152991873351024647, 8797166768128, 327680, 0], map := [1610613248], crcs := [1], shadow := some 9, third := some 17, found := List.replicate 16 0, diff := 1 }
        : Shadow)) ∧
    (({ ctx := 4, step := 0, chunk := 0, job := 7, bytes := 0, unit := 3, lane := 31, format := 0, op := 0, hdr := [1152991873351024647, 8797166768128, 327680, 0], map := [1610613248], crcs := [1], shadow := some 9, third := some 17, found := List.replicate 16 0, diff := 1 }
        : Shadow).third = some (17 : Nat) ∧
        ({ upState [(.cmb_unit_status_fenced, 17, 1)] with dev := { (upState [(.cmb_unit_status_fenced, 17, 1)]).dev with shadows := [{ ctx := 4, step := 0, chunk := 0, job := 7, bytes := 0, unit := 3, lane := 31, format := 0, op := 0, hdr := [1152991873351024647, 8797166768128, 327680, 0], map := [1610613248], crcs := [1], shadow := some 9, third := some 17, found := List.replicate 16 0, diff := 1 }] } }).dev.flag
        .cmb_unit_status_fenced (17 : Nat) = true) := by
  refine ⟨?_, ?_, ?_, ?_, ?_, ?_, ?_, ?_, ?_, ?_, ?_, ?_, ?_, ?_, ?_, ?_, ?_, ?_, ?_, ?_, ?_, ?_, ?_, ?_, ?_, ?_, ?_, ?_⟩ <;>
    decide +kernel

/-- States and operands that meet the premises of `Obligations.WeightedReduction`, clause by clause. -/
theorem witness_WeightedReduction :
    (((upState [])).dev.accepts (.wraDescCmdNop (.fabric : Mark) (6 : Fin 4096)) = true) ∧
    (((upState [])).dev.accepts (.wraDescCmdLoad (.fabric : Mark) (6 : Fin 4096)) = true) ∧
    (((upState [])).dev.descPathBusy 8 = false) ∧
    (({ upState [] with dev := { (upState []).dev with descs := ⟨[(6, some { words := [3 * 2 ^ 60 + 3 * 2 ^ 56 + 2 * 2 ^ 52 + 2 * 2 ^ 35 + 7, 2 ^ 56 + 2 ^ 32 + 1, 64, 0, 0, 0, 0, 0] })]⟩ } }).dev.accepts
        (.wraDescCmdUnload (.fabric : Mark) (6 : Fin 4096)) = true) ∧
    (({ upState [] with dev := { (upState []).dev with descs := ⟨[(6, some { words := [3 * 2 ^ 60 + 3 * 2 ^ 56 + 2 * 2 ^ 52 + 2 * 2 ^ 35 + 7, 2 ^ 56 + 2 ^ 32 + 1, 64, 0, 0, 0, 0, 0] })]⟩ } }).dev.desc
        (6 : Fin 4096) = some
        ({ words := [3 * 2 ^ 60 + 3 * 2 ^ 56 + 2 * 2 ^ 52 + 2 * 2 ^ 35 + 7, 2 ^ 56 + 2 ^ 32 + 1, 64, 0, 0, 0, 0, 0] } : Desc) ∧
        ({ upState [] with dev := { (upState []).dev with descs := ⟨[(6, some { words := [3 * 2 ^ 60 + 3 * 2 ^ 56 + 2 * 2 ^ 52 + 2 * 2 ^ 35 + 7, 2 ^ 56 + 2 ^ 32 + 1, 64, 0, 0, 0, 0, 0] })]⟩ } }).dev.descHolds
        (6 : Fin 4096) = 0 ∧
        ({ upState [] with dev := { (upState []).dev with descs := ⟨[(6, some { words := [3 * 2 ^ 60 + 3 * 2 ^ 56 + 2 * 2 ^ 52 + 2 * 2 ^ 35 + 7, 2 ^ 56 + 2 ^ 32 + 1, 64, 0, 0, 0, 0, 0] })]⟩ } }).dev.descInflight
        (6 : Fin 4096) = 0 ∧ (6 : Fin 4096).val ≠ 0) ∧
    (({ upState [] with dev := { (upState []).dev with descs := ⟨[(6, some { words := [3 * 2 ^ 60 + 3 * 2 ^ 56 + 2 * 2 ^ 52 + 2 * 2 ^ 35 + 7, 2 ^ 56 + 2 ^ 32 + 1, 64, 0, 0, 0, 0, 0] })]⟩, ctxs := ⟨[(4, some { hdr := [5764677891778412551, 8797166768128, 327686, 0], map := [] })]⟩ } }).dev.accepts
        (.wraDescCmdUnload (.fabric : Mark) (6 : Fin 4096)) = true) ∧
    (({ upState [] with dev := { (upState []).dev with descs := ⟨[(6, some { words := [3 * 2 ^ 60 + 3 * 2 ^ 56 + 2 * 2 ^ 52 + 2 * 2 ^ 35 + 7, 2 ^ 56 + 2 ^ 32 + 1, 64, 0, 0, 0, 0, 0] })]⟩, ctxs := ⟨[(4, some { hdr := [5764677891778412551, 8797166768128, 327686, 0], map := [] })]⟩ } }).dev.desc
        (6 : Fin 4096) = some
        ({ words := [3 * 2 ^ 60 + 3 * 2 ^ 56 + 2 * 2 ^ 52 + 2 * 2 ^ 35 + 7, 2 ^ 56 + 2 ^ 32 + 1, 64, 0, 0, 0, 0, 0] } : Desc) ∧
        ({ upState [] with dev := { (upState []).dev with descs := ⟨[(6, some { words := [3 * 2 ^ 60 + 3 * 2 ^ 56 + 2 * 2 ^ 52 + 2 * 2 ^ 35 + 7, 2 ^ 56 + 2 ^ 32 + 1, 64, 0, 0, 0, 0, 0] })]⟩, ctxs := ⟨[(4, some { hdr := [5764677891778412551, 8797166768128, 327686, 0], map := [] })]⟩ } }).dev.descHolds
        (6 : Fin 4096) ≠ 0 ∧ (6 : Fin 4096).val ≠ 0) ∧
    (({ upState [] with dev := { (upState []).dev with descs := ⟨[(6, some { words := [3 * 2 ^ 60 + 3 * 2 ^ 56 + 2 * 2 ^ 52 + 2 * 2 ^ 35 + 7, 2 ^ 56 + 2 ^ 32 + 1, 64, 0, 0, 0, 0, 0] })]⟩, gathers := [{ id := 5, hdr := { ftype := 0x0C, cls := 3, order := 1, dst := 0xFF0000, src := 0x200, length := 16, w5 := 3 * 2 ^ 30 }, desc := 6, frame := 2, positions := [(2 * 2 ^ 30, 0x3F80)] }] } }).dev.accepts
        (.wraDescCmdUnload (.fabric : Mark) (6 : Fin 4096)) = true) ∧
    (({ upState [] with dev := { (upState []).dev with descs := ⟨[(6, some { words := [3 * 2 ^ 60 + 3 * 2 ^ 56 + 2 * 2 ^ 52 + 2 * 2 ^ 35 + 7, 2 ^ 56 + 2 ^ 32 + 1, 64, 0, 0, 0, 0, 0] })]⟩, gathers := [{ id := 5, hdr := { ftype := 0x0C, cls := 3, order := 1, dst := 0xFF0000, src := 0x200, length := 16, w5 := 3 * 2 ^ 30 }, desc := 6, frame := 2, positions := [(2 * 2 ^ 30, 0x3F80)] }] } }).dev.desc
        (6 : Fin 4096) = some
        ({ words := [3 * 2 ^ 60 + 3 * 2 ^ 56 + 2 * 2 ^ 52 + 2 * 2 ^ 35 + 7, 2 ^ 56 + 2 ^ 32 + 1, 64, 0, 0, 0, 0, 0] } : Desc) ∧
        ({ upState [] with dev := { (upState []).dev with descs := ⟨[(6, some { words := [3 * 2 ^ 60 + 3 * 2 ^ 56 + 2 * 2 ^ 52 + 2 * 2 ^ 35 + 7, 2 ^ 56 + 2 ^ 32 + 1, 64, 0, 0, 0, 0, 0] })]⟩, gathers := [{ id := 5, hdr := { ftype := 0x0C, cls := 3, order := 1, dst := 0xFF0000, src := 0x200, length := 16, w5 := 3 * 2 ^ 30 }, desc := 6, frame := 2, positions := [(2 * 2 ^ 30, 0x3F80)] }] } }).dev.descHolds
        (6 : Fin 4096) = 0 ∧ dxGather
        ({ words := [3 * 2 ^ 60 + 3 * 2 ^ 56 + 2 * 2 ^ 52 + 2 * 2 ^ 35 + 7, 2 ^ 56 + 2 ^ 32 + 1, 64, 0, 0, 0, 0, 0] } :
        Desc).words = true ∧
        ({ upState [] with dev := { (upState []).dev with descs := ⟨[(6, some { words := [3 * 2 ^ 60 + 3 * 2 ^ 56 + 2 * 2 ^ 52 + 2 * 2 ^ 35 + 7, 2 ^ 56 + 2 ^ 32 + 1, 64, 0, 0, 0, 0, 0] })]⟩, gathers := [{ id := 5, hdr := { ftype := 0x0C, cls := 3, order := 1, dst := 0xFF0000, src := 0x200, length := 16, w5 := 3 * 2 ^ 30 }, desc := 6, frame := 2, positions := [(2 * 2 ^ 30, 0x3F80)] }] } }).dev.descInflight
        (6 : Fin 4096) ≠ 0 ∧ (6 : Fin 4096).val ≠ 0) ∧
    (((upState [])).dev.accepts (.wraDescCmdUnload (.fabric : Mark) (6 : Fin 4096)) = true) ∧
    (((upState [])).dev.desc (6 : Fin 4096) = none ∧ (6 : Fin 4096).val ≠ 0) ∧
    (((upState [])).dev.accepts (.wraDescCmdUnload (.fabric : Mark) (0 : Fin 4096)) = true) ∧
    ((0 : Fin 4096).val = 0) ∧
    (({ upState [] with dev := { (upState []).dev with wraLoads := ⟨[(3, some { num := 6, addr := 64 })]⟩ } }).dev.wraLoads.getOpt
        (3 : Fin 9) = some ({ num := 6, addr := 64 } : Load) ∧ ((some #v[3683944563908542471, 72057598332895233, 64, 0, 0, 0, 0,
        0] : Option (Vector Word 8)).map (fun (x : Vector Word 8) => x.toList.map (fun (w : Word) => w.toNat))) = some ([3 * 2 ^
        60 + 3 * 2 ^ 56 + 2 * 2 ^ 52 + 2 * 2 ^ 35 + 7, 2 ^ 56 + 2 ^ 32 + 1, 64, 0, 0, 0, 0, 0] : List Nat)) ∧
    (({ upState [] with dev := { (upState []).dev with wraLoads := ⟨[(3, some { num := 6, addr := 64 })]⟩ } }).dev.descCheck
        ({ num := 6, addr := 64 } : Load).priv ({ num := 6, addr := 64 } : Load).pmap ({ num := 6, addr := 64 } : Load).num
        ({ num := 6, addr := 64 } : Load).addr ((some #v[3683944563908542471, 72057598332895233, 64, 0, 0, 0, 0, 0] : Option
        (Vector Word 8)).map (fun (x : Vector Word 8) => x.toList.map (fun (w : Word) => w.toNat))) (none : Option (List (BitVec
        16))).isSome = 0) ∧
    (({ upState [] with dev := { (upState []).dev with wraLoads := ⟨[(3, some { num := 6, addr := 64 })]⟩ } }).dev.wraLoads.getOpt
        (3 : Fin 9) = some ({ num := 6, addr := 64 } : Load)) ∧
    (({ upState [] with dev := { (upState []).dev with wraLoads := ⟨[(3, some { num := 6, addr := 64 })]⟩ } }).dev.descCheck
        ({ num := 6, addr := 64 } : Load).priv ({ num := 6, addr := 64 } : Load).pmap ({ num := 6, addr := 64 } : Load).num
        ({ num := 6, addr := 64 } : Load).addr ((none : Option (Vector Word 8)).map (fun (x : Vector Word 8) => x.toList.map
        (fun (w : Word) => w.toNat))) (none : Option (List (BitVec 16))).isSome = (4 : Nat) ∧ (4 : Nat) ≠ 0) ∧
    (({ upState [] with dev := { (upState []).dev with descs := ⟨[(6, some { words := [3 * 2 ^ 60 + 3 * 2 ^ 56 + 2 * 2 ^ 52 + 2 * 2 ^ 35 + 7, 2 ^ 56 + 2 ^ 32 + 1, 64, 0, 0, 0, 0, 0], state := 2 })]⟩ } }).dev.desc
        (6 : Fin 4096) = some
        ({ words := [3 * 2 ^ 60 + 3 * 2 ^ 56 + 2 * 2 ^ 52 + 2 * 2 ^ 35 + 7, 2 ^ 56 + 2 ^ 32 + 1, 64, 0, 0, 0, 0, 0], state := 2 }
        : Desc) ∧
        ({ words := [3 * 2 ^ 60 + 3 * 2 ^ 56 + 2 * 2 ^ 52 + 2 * 2 ^ 35 + 7, 2 ^ 56 + 2 ^ 32 + 1, 64, 0, 0, 0, 0, 0], state := 2 }
        : Desc).state = 2 ∧
        ({ upState [] with dev := { (upState []).dev with descs := ⟨[(6, some { words := [3 * 2 ^ 60 + 3 * 2 ^ 56 + 2 * 2 ^ 52 + 2 * 2 ^ 35 + 7, 2 ^ 56 + 2 ^ 32 + 1, 64, 0, 0, 0, 0, 0], state := 2 })]⟩ } }).dev.descInflight
        (6 : Fin 4096) = 0) ∧
    (({ upState [] with dev := { (upState []).dev with descs := ⟨[(6, some { words := [3 * 2 ^ 60 + 3 * 2 ^ 56 + 2 * 2 ^ 52 + 2 * 2 ^ 35 + 7, 2 ^ 56 + 2 ^ 32 + 1, 64, 0, 0, 0, 0, 0] })]⟩, gathers := [{ id := 5, hdr := { ftype := 0x0C, cls := 3, order := 1, dst := 0xFF0000, src := 0x200, length := 16, w5 := 3 * 2 ^ 30 }, desc := 6, frame := 2, positions := [(2 * 2 ^ 30, 0x3F80)], rows := some [[0x3F, 0x80, 0x40, 0]], passes := { tile := some 1 } }] } }).dev.workOf
        (Work.of (.gather 5 : WraWork)) = some
        (({ fmt := 3, v := 2, k := 1, m := 1, tr := false, kind := 3, num := 6, step := 0, sub := 0, job := 7 } : Shape),
        ({ tile := some 1 } : Passes)) ∧ ({ tile := some 1 } : Passes).tile = some (1 : Nat)) ∧
    ((0 : Fin 32).val < ({ fmt := 3, v := 2, k := 1, m := 1, tr := false, kind := 3, num := 6, step := 0, sub := 0, job := 7 } :
        Shape).colBlocks ∧ ({ tile := some 1 } : Passes).next (0 : Fin 32) <
        ({ fmt := 3, v := 2, k := 1, m := 1, tr := false, kind := 3, num := 6, step := 0, sub := 0, job := 7 } : Shape).kBlocks
        ∧
        ({ upState [] with dev := { (upState []).dev with descs := ⟨[(6, some { words := [3 * 2 ^ 60 + 3 * 2 ^ 56 + 2 * 2 ^ 52 + 2 * 2 ^ 35 + 7, 2 ^ 56 + 2 ^ 32 + 1, 64, 0, 0, 0, 0, 0] })]⟩, gathers := [{ id := 5, hdr := { ftype := 0x0C, cls := 3, order := 1, dst := 0xFF0000, src := 0x200, length := 16, w5 := 3 * 2 ^ 30 }, desc := 6, frame := 2, positions := [(2 * 2 ^ 30, 0x3F80)], rows := some [[0x3F, 0x80, 0x40, 0]], passes := { tile := some 1 } }] } }).dev.tileBusy
        (1 : Nat) = false ∧
        ({ upState [] with dev := { (upState []).dev with descs := ⟨[(6, some { words := [3 * 2 ^ 60 + 3 * 2 ^ 56 + 2 * 2 ^ 52 + 2 * 2 ^ 35 + 7, 2 ^ 56 + 2 ^ 32 + 1, 64, 0, 0, 0, 0, 0] })]⟩, gathers := [{ id := 5, hdr := { ftype := 0x0C, cls := 3, order := 1, dst := 0xFF0000, src := 0x200, length := 16, w5 := 3 * 2 ^ 30 }, desc := 6, frame := 2, positions := [(2 * 2 ^ 30, 0x3F80)], rows := some [[0x3F, 0x80, 0x40, 0]], passes := { tile := some 1 } }] } }).dev.workHeld
        (Work.of (.gather 5 : WraWork)) (({ tile := some 1 } : Passes).next (0 : Fin 32)) = true) ∧
    (({ upState [] with dev := { (upState []).dev with descs := ⟨[(6, some { words := [3 * 2 ^ 60 + 3 * 2 ^ 56 + 2 * 2 ^ 52 + 2 * 2 ^ 35 + 7, 2 ^ 56 + 2 ^ 32 + 1, 64, 0, 0, 0, 0, 0] })]⟩, gathers := [{ id := 5, hdr := { ftype := 0x0C, cls := 3, order := 1, dst := 0xFF0000, src := 0x200, length := 16, w5 := 3 * 2 ^ 30 }, desc := 6, frame := 2, positions := [(2 * 2 ^ 30, 0x3F80)], rows := some [[0x3F, 0x80, 0x40, 0]], passes := { tile := some 1 } }] } }).dev.tileTurn
        (Work.of (.gather 5 : WraWork)) (1 : Nat) = some (true : Bool)) ∧
    (({ upState [] with dev := { (upState []).dev with descs := ⟨[(6, some { words := [3 * 2 ^ 60 + 3 * 2 ^ 56 + 2 * 2 ^ 52 + 200 * 2 ^ 35 + 7, 2 ^ 56 + 2 ^ 32 + 1, 64, 0, 0, 0, 0, 0] })]⟩, gathers := [{ id := 5, hdr := { ftype := 0x0C, cls := 3, order := 1, dst := 0xFF0000, src := 0x200, length := 16, w5 := 3 * 2 ^ 30 }, desc := 6, frame := 2, positions := [(2 * 2 ^ 30, 0x3F80)], rows := some [[0x3F, 0x80, 0x40, 0]], passes := { tile := some 1, run := some 0 } }] } }).dev.workOf
        (Work.of (.gather 5 : WraWork)) = some
        (({ fmt := 3, v := 200, k := 1, m := 1, tr := false, kind := 3, num := 6, step := 0, sub := 0, job := 7 } : Shape),
        ({ tile := some 1, run := some 0 } : Passes)) ∧ ({ tile := some 1, run := some 0 } : Passes).tile = some (1 : Nat) ∧
        ({ tile := some 1, run := some 0 } : Passes).run = some (0 : Nat) ∧ (none : Option ColMismatch).filter (fun (x :
        ColMismatch) => laneFails x.op) = none) ∧
    ((({ tile := some 1, run := some 0 } : Passes).ended
        ({ fmt := 3, v := 200, k := 1, m := 1, tr := false, kind := 3, num := 6, step := 0, sub := 0, job := 7 } :
        Shape).colBlocks (0 : Nat)).cols.sum ≠
        ({ fmt := 3, v := 200, k := 1, m := 1, tr := false, kind := 3, num := 6, step := 0, sub := 0, job := 7 } :
        Shape).colBlocks *
        ({ fmt := 3, v := 200, k := 1, m := 1, tr := false, kind := 3, num := 6, step := 0, sub := 0, job := 7 } :
        Shape).kBlocks) ∧
    (({ upState [] with dev := { (upState []).dev with descs := ⟨[(6, some { words := [3 * 2 ^ 60 + 3 * 2 ^ 56 + 2 * 2 ^ 52 + 2 * 2 ^ 35 + 7, 2 ^ 56 + 2 ^ 32 + 1, 64, 0, 0, 0, 0, 0] })]⟩, gathers := [{ id := 5, hdr := { ftype := 0x0C, cls := 3, order := 1, dst := 0xFF0000, src := 0x200, length := 16, w5 := 3 * 2 ^ 30 }, desc := 6, frame := 2, positions := [(2 * 2 ^ 30, 0x3F80)], rows := some [[0x3F, 0x80, 0x40, 0]], passes := { tile := some 1, run := some 0 } }] } }).dev.workOf
        (Work.of (.gather 5 : WraWork)) = some
        (({ fmt := 3, v := 2, k := 1, m := 1, tr := false, kind := 3, num := 6, step := 0, sub := 0, job := 7 } : Shape),
        ({ tile := some 1, run := some 0 } : Passes)) ∧ ({ tile := some 1, run := some 0 } : Passes).tile = some (1 : Nat) ∧
        ({ tile := some 1, run := some 0 } : Passes).run = some (0 : Nat) ∧ (none : Option ColMismatch).filter (fun (x :
        ColMismatch) => laneFails x.op) = none) ∧
    ((({ tile := some 1, run := some 0 } : Passes).ended
        ({ fmt := 3, v := 2, k := 1, m := 1, tr := false, kind := 3, num := 6, step := 0, sub := 0, job := 7 } :
        Shape).colBlocks (0 : Nat)).cols.sum =
        ({ fmt := 3, v := 2, k := 1, m := 1, tr := false, kind := 3, num := 6, step := 0, sub := 0, job := 7 } :
        Shape).colBlocks *
        ({ fmt := 3, v := 2, k := 1, m := 1, tr := false, kind := 3, num := 6, step := 0, sub := 0, job := 7 } : Shape).kBlocks) ∧
    (({ upState [(.fmem_win_state_state, 2, 2), (.fmem_win_cfg_window, 2, 3), (.fmem_win_cfg_role, 2, 0), (.fmem_win_cfg_writable, 2, 1), (.fmem_win_src_src_limit, 2, 0xFFFFFF), (.sched_echo_ctrl_echo_enable, 0, 0)] with dev := { (upState [(.fmem_win_state_state, 2, 2), (.fmem_win_cfg_window, 2, 3), (.fmem_win_cfg_role, 2, 0), (.fmem_win_cfg_writable, 2, 1), (.fmem_win_src_src_limit, 2, 0xFFFFFF), (.sched_echo_ctrl_echo_enable, 0, 0)]).dev with descs := ⟨[(6, some { words := [3 * 2 ^ 60 + 3 * 2 ^ 56 + 2 * 2 ^ 52 + 2 * 2 ^ 35 + 7, 2 ^ 56 + 2 ^ 32 + 1, 64, 0, 0, 0, 0, 0] })]⟩, frames := [{ id := 9, input := 3, hdr := { ftype := 0x0C, cls := 3, order := 1, dst := 0xFF0000, src := 0x200, length := 16, w5 := 3 * 2 ^ 30 }, payload := [0, 0x60, 0, 0, 0, 0, 0, 0, 0, 0, 0, 0, 0x3F, 0x80, 0, 0], complete := true, arrival := some 3 }], egress := [⟨513, 3, 9, 1, none, false⟩] } }).dev.internalHead
        513 3 = some
        (({ id := 9, input := 3, hdr := { ftype := 0x0C, cls := 3, order := 1, dst := 0xFF0000, src := 0x200, length := 16, w5 := 3 * 2 ^ 30 }, payload := [0, 0x60, 0, 0, 0, 0, 0, 0, 0, 0, 0, 0, 0x3F, 0x80, 0, 0], complete := true, arrival := some 3 }
        : Frame), (false : Bool)) ∧
        ({ id := 9, input := 3, hdr := { ftype := 0x0C, cls := 3, order := 1, dst := 0xFF0000, src := 0x200, length := 16, w5 := 3 * 2 ^ 30 }, payload := [0, 0x60, 0, 0, 0, 0, 0, 0, 0, 0, 0, 0, 0x3F, 0x80, 0, 0], complete := true, arrival := some 3 }
        : Frame).complete = true ∧
        ({ id := 9, input := 3, hdr := { ftype := 0x0C, cls := 3, order := 1, dst := 0xFF0000, src := 0x200, length := 16, w5 := 3 * 2 ^ 30 }, payload := [0, 0x60, 0, 0, 0, 0, 0, 0, 0, 0, 0, 0, 0x3F, 0x80, 0, 0], complete := true, arrival := some 3 }
        : Frame).hdr.ftype = ftGATHER_REQ ∧
        ({ upState [(.fmem_win_state_state, 2, 2), (.fmem_win_cfg_window, 2, 3), (.fmem_win_cfg_role, 2, 0), (.fmem_win_cfg_writable, 2, 1), (.fmem_win_src_src_limit, 2, 0xFFFFFF), (.sched_echo_ctrl_echo_enable, 0, 0)] with dev := { (upState [(.fmem_win_state_state, 2, 2), (.fmem_win_cfg_window, 2, 3), (.fmem_win_cfg_role, 2, 0), (.fmem_win_cfg_writable, 2, 1), (.fmem_win_src_src_limit, 2, 0xFFFFFF), (.sched_echo_ctrl_echo_enable, 0, 0)]).dev with descs := ⟨[(6, some { words := [3 * 2 ^ 60 + 3 * 2 ^ 56 + 2 * 2 ^ 52 + 2 * 2 ^ 35 + 7, 2 ^ 56 + 2 ^ 32 + 1, 64, 0, 0, 0, 0, 0] })]⟩, frames := [{ id := 9, input := 3, hdr := { ftype := 0x0C, cls := 3, order := 1, dst := 0xFF0000, src := 0x200, length := 16, w5 := 3 * 2 ^ 30 }, payload := [0, 0x60, 0, 0, 0, 0, 0, 0, 0, 0, 0, 0, 0x3F, 0x80, 0, 0], complete := true, arrival := some 3 }], egress := [⟨513, 3, 9, 1, none, false⟩] } }).dev.flag
        .sched_echo_ctrl_echo_enable = false) ∧
    (({ upState [(.fmem_win_state_state, 2, 2), (.fmem_win_cfg_window, 2, 3), (.fmem_win_cfg_role, 2, 0), (.fmem_win_cfg_writable, 2, 1), (.fmem_win_src_src_limit, 2, 0xFFFFFF), (.sched_echo_ctrl_echo_enable, 0, 0)] with dev := { (upState [(.fmem_win_state_state, 2, 2), (.fmem_win_cfg_window, 2, 3), (.fmem_win_cfg_role, 2, 0), (.fmem_win_cfg_writable, 2, 1), (.fmem_win_src_src_limit, 2, 0xFFFFFF), (.sched_echo_ctrl_echo_enable, 0, 0)]).dev with descs := ⟨[(6, some { words := [3 * 2 ^ 60 + 3 * 2 ^ 56 + 2 * 2 ^ 52 + 2 * 2 ^ 35 + 7, 2 ^ 56 + 2 ^ 32 + 1, 64, 0, 0, 0, 0, 0] })]⟩, frames := [{ id := 9, input := 3, hdr := { ftype := 0x0C, cls := 3, order := 1, dst := 0xFF0000, src := 0x200, length := 16, w5 := 3 * 2 ^ 30 }, payload := [0, 0x60, 0, 0, 0, 0, 0, 0, 0, 0, 0, 0, 0x3F, 0x80, 0, 0], complete := true, arrival := some 3 }], egress := [⟨513, 3, 9, 1, none, false⟩] } }).dev.desc
        (beNat
        (({ id := 9, input := 3, hdr := { ftype := 0x0C, cls := 3, order := 1, dst := 0xFF0000, src := 0x200, length := 16, w5 := 3 * 2 ^ 30 }, payload := [0, 0x60, 0, 0, 0, 0, 0, 0, 0, 0, 0, 0, 0x3F, 0x80, 0, 0], complete := true, arrival := some 3 }
        : Frame).payload.take 4) / 2 ^ 20) = some
        ({ words := [3 * 2 ^ 60 + 3 * 2 ^ 56 + 2 * 2 ^ 52 + 2 * 2 ^ 35 + 7, 2 ^ 56 + 2 ^ 32 + 1, 64, 0, 0, 0, 0, 0] } : Desc) ∧
        ({ upState [(.fmem_win_state_state, 2, 2), (.fmem_win_cfg_window, 2, 3), (.fmem_win_cfg_role, 2, 0), (.fmem_win_cfg_writable, 2, 1), (.fmem_win_src_src_limit, 2, 0xFFFFFF), (.sched_echo_ctrl_echo_enable, 0, 0)] with dev := { (upState [(.fmem_win_state_state, 2, 2), (.fmem_win_cfg_window, 2, 3), (.fmem_win_cfg_role, 2, 0), (.fmem_win_cfg_writable, 2, 1), (.fmem_win_src_src_limit, 2, 0xFFFFFF), (.sched_echo_ctrl_echo_enable, 0, 0)]).dev with descs := ⟨[(6, some { words := [3 * 2 ^ 60 + 3 * 2 ^ 56 + 2 * 2 ^ 52 + 2 * 2 ^ 35 + 7, 2 ^ 56 + 2 ^ 32 + 1, 64, 0, 0, 0, 0, 0] })]⟩, frames := [{ id := 9, input := 3, hdr := { ftype := 0x0C, cls := 3, order := 1, dst := 0xFF0000, src := 0x200, length := 16, w5 := 3 * 2 ^ 30 }, payload := [0, 0x60, 0, 0, 0, 0, 0, 0, 0, 0, 0, 0, 0x3F, 0x80, 0, 0], complete := true, arrival := some 3 }], egress := [⟨513, 3, 9, 1, none, false⟩] } }).dev.descInflight
        (beNat
        (({ id := 9, input := 3, hdr := { ftype := 0x0C, cls := 3, order := 1, dst := 0xFF0000, src := 0x200, length := 16, w5 := 3 * 2 ^ 30 }, payload := [0, 0x60, 0, 0, 0, 0, 0, 0, 0, 0, 0, 0, 0x3F, 0x80, 0, 0], complete := true, arrival := some 3 }
        : Frame).payload.take 4) / 2 ^ 20) < dxInflight
        ({ words := [3 * 2 ^ 60 + 3 * 2 ^ 56 + 2 * 2 ^ 52 + 2 * 2 ^ 35 + 7, 2 ^ 56 + 2 ^ 32 + 1, 64, 0, 0, 0, 0, 0] } :
        Desc).words ∧
        ({ upState [(.fmem_win_state_state, 2, 2), (.fmem_win_cfg_window, 2, 3), (.fmem_win_cfg_role, 2, 0), (.fmem_win_cfg_writable, 2, 1), (.fmem_win_src_src_limit, 2, 0xFFFFFF), (.sched_echo_ctrl_echo_enable, 0, 0)] with dev := { (upState [(.fmem_win_state_state, 2, 2), (.fmem_win_cfg_window, 2, 3), (.fmem_win_cfg_role, 2, 0), (.fmem_win_cfg_writable, 2, 1), (.fmem_win_src_src_limit, 2, 0xFFFFFF), (.sched_echo_ctrl_echo_enable, 0, 0)]).dev with descs := ⟨[(6, some { words := [3 * 2 ^ 60 + 3 * 2 ^ 56 + 2 * 2 ^ 52 + 2 * 2 ^ 35 + 7, 2 ^ 56 + 2 ^ 32 + 1, 64, 0, 0, 0, 0, 0] })]⟩, frames := [{ id := 9, input := 3, hdr := { ftype := 0x0C, cls := 3, order := 1, dst := 0xFF0000, src := 0x200, length := 16, w5 := 3 * 2 ^ 30 }, payload := [0, 0x60, 0, 0, 0, 0, 0, 0, 0, 0, 0, 0, 0x3F, 0x80, 0, 0], complete := true, arrival := some 3 }], egress := [⟨513, 3, 9, 1, none, false⟩] } }).dev.slotsInflight
        < 65536) ∧
    (({ upState [(.fmem_win_state_state, 2, 2), (.fmem_win_cfg_window, 2, 3), (.fmem_win_cfg_role, 2, 0), (.fmem_win_cfg_writable, 2, 1), (.fmem_win_src_src_limit, 2, 0xFFFFFF), (.sched_echo_ctrl_echo_enable, 0, 0)] with dev := { (upState [(.fmem_win_state_state, 2, 2), (.fmem_win_cfg_window, 2, 3), (.fmem_win_cfg_role, 2, 0), (.fmem_win_cfg_writable, 2, 1), (.fmem_win_src_src_limit, 2, 0xFFFFFF), (.sched_echo_ctrl_echo_enable, 0, 0)]).dev with descs := ⟨[(6, some { words := [3 * 2 ^ 60 + 3 * 2 ^ 56 + 2 * 2 ^ 52 + 2 * 2 ^ 35 + 7, 2 ^ 56 + 2 ^ 32 + 1, 64, 0, 0, 0, 0, 0] })]⟩, frames := [{ id := 9, input := 3, hdr := { ftype := 0x0C, cls := 3, order := 1, dst := 0xFF0000, src := 0x200, length := 16, w5 := 3 * 2 ^ 30 }, payload := [0, 0x60, 0, 0, 0, 0, 0, 0, 0, 0, 0, 0, 0x3F, 0x80, 0, 0], complete := true, arrival := some 3 }], egress := [⟨513, 3, 9, 1, none, false⟩] } }).dev.gatherStatus
        ({ id := 9, input := 3, hdr := { ftype := 0x0C, cls := 3, order := 1, dst := 0xFF0000, src := 0x200, length := 16, w5 := 3 * 2 ^ 30 }, payload := [0, 0x60, 0, 0, 0, 0, 0, 0, 0, 0, 0, 0, 0x3F, 0x80, 0, 0], complete := true, arrival := some 3 }
        : Frame).hdr
        ({ id := 9, input := 3, hdr := { ftype := 0x0C, cls := 3, order := 1, dst := 0xFF0000, src := 0x200, length := 16, w5 := 3 * 2 ^ 30 }, payload := [0, 0x60, 0, 0, 0, 0, 0, 0, 0, 0, 0, 0, 0x3F, 0x80, 0, 0], complete := true, arrival := some 3 }
        : Frame).payload = (msOK, (2 : Nat), ([(2 * 2 ^ 30, 0x3F80)] : List (Nat × Nat)))) ∧
    (({ upState [(.fmem_win_state_state, 2, 2), (.fmem_win_cfg_window, 2, 3), (.fmem_win_cfg_role, 2, 0), (.fmem_win_cfg_writable, 2, 1), (.fmem_win_src_src_limit, 2, 0xFFFFFF), (.sched_echo_ctrl_echo_enable, 0, 0)] with dev := { (upState [(.fmem_win_state_state, 2, 2), (.fmem_win_cfg_window, 2, 3), (.fmem_win_cfg_role, 2, 0), (.fmem_win_cfg_writable, 2, 1), (.fmem_win_src_src_limit, 2, 0xFFFFFF), (.sched_echo_ctrl_echo_enable, 0, 0)]).dev with descs := ⟨[(6, some { words := [3 * 2 ^ 60 + 3 * 2 ^ 56 + 2 * 2 ^ 52 + 2 * 2 ^ 35 + 7, 2 ^ 56 + 2 ^ 32 + 1, 64, 0, 0, 0, 0, 0] })]⟩, gathers := [{ id := 5, hdr := { ftype := 0x0C, cls := 3, order := 1, dst := 0xFF0000, src := 0x200, length := 16, w5 := 3 * 2 ^ 30 }, desc := 6, frame := 2, positions := [(2 * 2 ^ 30, 0x3F80)] }] } }).dev.gathers.find?
        (fun (x : Gather) => x.id == (5 : BitVec 32).toNat && !x.answered && x.rows.isNone) = some
        ({ id := 5, hdr := { ftype := 0x0C, cls := 3, order := 1, dst := 0xFF0000, src := 0x200, length := 16, w5 := 3 * 2 ^ 30 }, desc := 6, frame := 2, positions := [(2 * 2 ^ 30, 0x3F80)] }
        : Gather) ∧
        ({ upState [(.fmem_win_state_state, 2, 2), (.fmem_win_cfg_window, 2, 3), (.fmem_win_cfg_role, 2, 0), (.fmem_win_cfg_writable, 2, 1), (.fmem_win_src_src_limit, 2, 0xFFFFFF), (.sched_echo_ctrl_echo_enable, 0, 0)] with dev := { (upState [(.fmem_win_state_state, 2, 2), (.fmem_win_cfg_window, 2, 3), (.fmem_win_cfg_role, 2, 0), (.fmem_win_cfg_writable, 2, 1), (.fmem_win_src_src_limit, 2, 0xFFFFFF), (.sched_echo_ctrl_echo_enable, 0, 0)]).dev with descs := ⟨[(6, some { words := [3 * 2 ^ 60 + 3 * 2 ^ 56 + 2 * 2 ^ 52 + 2 * 2 ^ 35 + 7, 2 ^ 56 + 2 ^ 32 + 1, 64, 0, 0, 0, 0, 0] })]⟩, gathers := [{ id := 5, hdr := { ftype := 0x0C, cls := 3, order := 1, dst := 0xFF0000, src := 0x200, length := 16, w5 := 3 * 2 ^ 30 }, desc := 6, frame := 2, positions := [(2 * 2 ^ 30, 0x3F80)] }] } }).dev.desc
        ({ id := 5, hdr := { ftype := 0x0C, cls := 3, order := 1, dst := 0xFF0000, src := 0x200, length := 16, w5 := 3 * 2 ^ 30 }, desc := 6, frame := 2, positions := [(2 * 2 ^ 30, 0x3F80)] }
        : Gather).desc = some
        ({ words := [3 * 2 ^ 60 + 3 * 2 ^ 56 + 2 * 2 ^ 52 + 2 * 2 ^ 35 + 7, 2 ^ 56 + 2 ^ 32 + 1, 64, 0, 0, 0, 0, 0] } : Desc) ∧
        dxKind ({ words := [3 * 2 ^ 60 + 3 * 2 ^ 56 + 2 * 2 ^ 52 + 2 * 2 ^ 35 + 7, 2 ^ 56 + 2 ^ 32 + 1, 64, 0, 0, 0, 0, 0] } :
        Desc).words = dkGATHER_WRA) ∧
    (({ upState [(.fmem_win_state_state, 2, 2), (.fmem_win_cfg_window, 2, 3), (.fmem_win_cfg_role, 2, 0), (.fmem_win_cfg_writable, 2, 1), (.fmem_win_src_src_limit, 2, 0xFFFFFF), (.sched_echo_ctrl_echo_enable, 0, 0)] with dev := { (upState [(.fmem_win_state_state, 2, 2), (.fmem_win_cfg_window, 2, 3), (.fmem_win_cfg_role, 2, 0), (.fmem_win_cfg_writable, 2, 1), (.fmem_win_src_src_limit, 2, 0xFFFFFF), (.sched_echo_ctrl_echo_enable, 0, 0)]).dev with descs := ⟨[(6, some { words := [3 * 2 ^ 60 + 3 * 2 ^ 56 + 2 * 2 ^ 52 + 2 * 2 ^ 35 + 7, 2 ^ 56 + 2 ^ 32 + 1, 64, 0, 0, 0, 0, 0] })]⟩, gathers := [{ id := 5, hdr := { ftype := 0x0C, cls := 3, order := 1, dst := 0xFF0000, src := 0x200, length := 16, w5 := 3 * 2 ^ 30 }, desc := 6, frame := 2, positions := [(2 * 2 ^ 30, 0x3F80)] }] } }).dev.mustWait
        ({ id := 5, hdr := { ftype := 0x0C, cls := 3, order := 1, dst := 0xFF0000, src := 0x200, length := 16, w5 := 3 * 2 ^ 30 }, desc := 6, frame := 2, positions := [(2 * 2 ^ 30, 0x3F80)] }
        : Gather).id
        ({ id := 5, hdr := { ftype := 0x0C, cls := 3, order := 1, dst := 0xFF0000, src := 0x200, length := 16, w5 := 3 * 2 ^ 30 }, desc := 6, frame := 2, positions := [(2 * 2 ^ 30, 0x3F80)] }
        : Gather).hdr
        (({ id := 5, hdr := { ftype := 0x0C, cls := 3, order := 1, dst := 0xFF0000, src := 0x200, length := 16, w5 := 3 * 2 ^ 30 }, desc := 6, frame := 2, positions := [(2 * 2 ^ 30, 0x3F80)] }
        : Gather).spans (rowBytes
        ({ words := [3 * 2 ^ 60 + 3 * 2 ^ 56 + 2 * 2 ^ 52 + 2 * 2 ^ 35 + 7, 2 ^ 56 + 2 ^ 32 + 1, 64, 0, 0, 0, 0, 0] } :
        Desc).words)) = false) ∧
    (([] : List (BitVec 39)) = [] ∧ ([] : List (BitVec 39)) = [] ∧ ∀ k : Fin 64,
        ({ upState [(.fmem_win_state_state, 2, 2), (.fmem_win_cfg_window, 2, 3), (.fmem_win_cfg_role, 2, 0), (.fmem_win_cfg_writable, 2, 1), (.fmem_win_src_src_limit, 2, 0xFFFFFF), (.sched_echo_ctrl_echo_enable, 0, 0)] with dev := { (upState [(.fmem_win_state_state, 2, 2), (.fmem_win_cfg_window, 2, 3), (.fmem_win_cfg_role, 2, 0), (.fmem_win_cfg_writable, 2, 1), (.fmem_win_src_src_limit, 2, 0xFFFFFF), (.sched_echo_ctrl_echo_enable, 0, 0)]).dev with descs := ⟨[(6, some { words := [3 * 2 ^ 60 + 3 * 2 ^ 56 + 2 * 2 ^ 52 + 2 * 2 ^ 35 + 7, 2 ^ 56 + 2 ^ 32 + 1, 64, 0, 0, 0, 0, 0] })]⟩, gathers := [{ id := 5, hdr := { ftype := 0x0C, cls := 3, order := 1, dst := 0xFF0000, src := 0x200, length := 16, w5 := 3 * 2 ^ 30 }, desc := 6, frame := 2, positions := [(2 * 2 ^ 30, 0x3F80)] }] } }).dev.flag
        .memc_ch_status_failed k = false) ∧
    (((upState [])).dev.accepts (.wraTileNop (.fabric : Mark) (1 : Fin 4)) = true) ∧
    (((upState [])).dev.accepts (.wraRetireCol (.fabric : Mark) (1 : Fin 4) (5 : Fin 128)) = true) ∧
    (((upState [])).dev.get .h_wra_req (1 : Fin 4) = 255) ∧
    (((upState [(.h_wra_req, 1, 5)])).dev.accepts (.wraRetireCol (.fabric : Mark) (1 : Fin 4) (5 : Fin 128)) = true) ∧
    (((upState [(.h_wra_req, 1, 5)])).dev.get .h_wra_req (1 : Fin 4) ≠ 255) ∧
    (((upState [(.h_wra_req, 1, 5)])).dev.accepts (.wraRestoreCol (.fabric : Mark) (1 : Fin 4)) = true) ∧
    (((upState [])).dev.accepts (.wraRestoreCol (.fabric : Mark) (1 : Fin 4)) = true) ∧
    (((upState [])).dev.accepts (.wraTileFence (.fabric : Mark) (1 : Fin 4)) = true) ∧
    (((upState [])).dev.tilesUp.any (fun u => u != (1 : Fin 4).val) = true) ∧
    (((upState ((List.range 4).map (fun u => (.wra_tile_status_fenced, u, 1))))).dev.accepts (.wraTileFence (.fabric : Mark) (1
        : Fin 4)) = true) ∧
    (((upState ((List.range 4).map (fun u => (.wra_tile_status_fenced, u, 1))))).dev.tilesUp.any (fun u => u != (1 : Fin 4).val)
        = false) ∧
    (((upState [(.wra_tile_status_fenced, 1, 1)])).dev.accepts (.wraTileUnfence (.fabric : Mark) (1 : Fin 4)) = true) ∧
    (((upState [(.wra_tile_status_fenced, 1, 1)])).dev.flag .wra_tile_status_fenced (1 : Fin 4) = true) ∧
    (((upState [])).dev.accepts (.wraTileUnfence (.fabric : Mark) (1 : Fin 4)) = true) ∧
    (((upState [])).dev.flag .wra_tile_status_fenced (1 : Fin 4) = false) := by
  refine ⟨?_, ?_, ?_, ?_, ?_, ?_, ?_, ?_, ?_, ?_, ?_, ?_, ?_, ?_, ?_, ?_, ?_, ?_, ?_, ?_, ?_, ?_, ?_, ?_, ?_, ?_, ?_, ?_, ?_,
      ?_, ?_, ?_, ?_, ?_, ?_, ?_, ?_, ?_, ?_, ?_, ?_, ?_, ?_, ?_, ?_, ?_⟩ <;>
    decide +kernel

/-- States and operands that meet the premises of `Obligations.FabricMemoryFrames`, clause by clause. -/
theorem witness_FabricMemoryFrames :
    (((upState [])).dev.accepts (.fmemCmdNop (.fabric : Mark) (2 : Fin 512)) = true) ∧
    (((upState [(.fmem_map_arg0_window, 0, 3)])).dev.accepts (.fmemCmdMap (.fabric : Mark) (2 : Fin 512)) = true) ∧
    ((((upState [(.fmem_map_arg0_window, 0, 3)])).dev.mapResult (2 : Fin 512) ((upState [(.fmem_map_arg0_window, 0,
        3)])).dev.mapArg0 ((upState [(.fmem_map_arg0_window, 0, 3)])).dev.mapArg1) = 0) ∧
    (((upState [(.fmem_win_state_state, 2, 2), (.fmem_win_cfg_window, 2, 3), (.fmem_win_cfg_role, 2, 0),
        (.fmem_win_cfg_writable, 2, 1), (.fmem_win_src_src_limit, 2, 0xFFFFFF), (.sched_echo_ctrl_echo_enable, 0,
        0)])).dev.accepts (.fmemCmdMap (.fabric : Mark) (2 : Fin 512)) = true) ∧
    ((((upState [(.fmem_win_state_state, 2, 2), (.fmem_win_cfg_window, 2, 3), (.fmem_win_cfg_role, 2, 0),
        (.fmem_win_cfg_writable, 2, 1), (.fmem_win_src_src_limit, 2, 0xFFFFFF), (.sched_echo_ctrl_echo_enable, 0,
        0)])).dev.mapResult (2 : Fin 512) ((upState [(.fmem_win_state_state, 2, 2), (.fmem_win_cfg_window, 2, 3),
        (.fmem_win_cfg_role, 2, 0), (.fmem_win_cfg_writable, 2, 1), (.fmem_win_src_src_limit, 2, 0xFFFFFF),
        (.sched_echo_ctrl_echo_enable, 0, 0)])).dev.mapArg0 ((upState [(.fmem_win_state_state, 2, 2), (.fmem_win_cfg_window, 2,
        3), (.fmem_win_cfg_role, 2, 0), (.fmem_win_cfg_writable, 2, 1), (.fmem_win_src_src_limit, 2, 0xFFFFFF),
        (.sched_echo_ctrl_echo_enable, 0, 0)])).dev.mapArg1) ≠ 0) ∧
    (((upState [(.fmem_win_state_state, 2, 2), (.fmem_win_cfg_window, 2, 3), (.fmem_win_cfg_role, 2, 0),
        (.fmem_win_cfg_writable, 2, 1), (.fmem_win_src_src_limit, 2, 0xFFFFFF), (.sched_echo_ctrl_echo_enable, 0,
        0)])).dev.accepts (.fmemCmdUnmap (.fabric : Mark) (2 : Fin 512)) = true) ∧
    (((upState [(.fmem_win_state_state, 2, 2), (.fmem_win_cfg_window, 2, 3), (.fmem_win_cfg_role, 2, 0),
        (.fmem_win_cfg_writable, 2, 1), (.fmem_win_src_src_limit, 2, 0xFFFFFF), (.sched_echo_ctrl_echo_enable, 0,
        0)])).dev.frameCmdResult 2 (2 : Fin 512) = 0) ∧
    (((upState [])).dev.accepts (.fmemCmdUnmap (.fabric : Mark) (2 : Fin 512)) = true) ∧
    (((upState [])).dev.frameCmdResult 2 (2 : Fin 512) ≠ 0) ∧
    (((upState [(.fmem_win_state_state, 2, 3), (.fmem_win_cfg_window, 2, 3), (.fmem_win_cfg_role, 2, 1),
        (.fmem_win_cfg_writable, 2, 1), (.fmem_win_src_src_limit, 2, 0xFFFFFF), (.sched_echo_ctrl_echo_enable, 0,
        0)])).dev.accepts (.fmemCmdResync (.fabric : Mark) (2 : Fin 512)) = true) ∧
    (((upState [(.fmem_win_state_state, 2, 3), (.fmem_win_cfg_window, 2, 3), (.fmem_win_cfg_role, 2, 1),
        (.fmem_win_cfg_writable, 2, 1), (.fmem_win_src_src_limit, 2, 0xFFFFFF), (.sched_echo_ctrl_echo_enable, 0,
        0)])).dev.frameCmdResult 3 (2 : Fin 512) = 0) ∧
    (((upState [])).dev.accepts (.fmemCmdResync (.fabric : Mark) (2 : Fin 512)) = true) ∧
    (((upState [])).dev.frameCmdResult 3 (2 : Fin 512) ≠ 0) ∧
    (((upState [(.fmem_win_state_state, 2, 4), (.fmem_win_cfg_window, 2, 3), (.fmem_win_cfg_role, 2, 2),
        (.fmem_win_cfg_writable, 2, 1), (.fmem_win_src_src_limit, 2, 0xFFFFFF), (.sched_echo_ctrl_echo_enable, 0,
        0)])).dev.accepts (.fmemCmdPromote (.fabric : Mark) (2 : Fin 512)) = true) ∧
    (((upState [(.fmem_win_state_state, 2, 4), (.fmem_win_cfg_window, 2, 3), (.fmem_win_cfg_role, 2, 2),
        (.fmem_win_cfg_writable, 2, 1), (.fmem_win_src_src_limit, 2, 0xFFFFFF), (.sched_echo_ctrl_echo_enable, 0,
        0)])).dev.frameCmdResult 4 (2 : Fin 512) = 0) ∧
    (((upState [])).dev.accepts (.fmemCmdPromote (.fabric : Mark) (2 : Fin 512)) = true) ∧
    (((upState [])).dev.frameCmdResult 4 (2 : Fin 512) ≠ 0) ∧
    (((upState [(.fmem_win_state_state, 2, 1), (.fmem_win_cfg_window, 2, 3), (.fmem_win_cfg_role, 2, 0),
        (.fmem_win_cfg_writable, 2, 1), (.fmem_win_src_src_limit, 2, 0xFFFFFF), (.sched_echo_ctrl_echo_enable, 0,
        0)])).dev.fstate (2 : Fin 409) = fsZEROING) ∧
    (((upState [(.fmem_win_state_state, 2, 6), (.fmem_win_cfg_window, 2, 3), (.fmem_win_cfg_role, 2, 0),
        (.fmem_win_cfg_writable, 2, 1), (.fmem_win_src_src_limit, 2, 0xFFFFFF), (.sched_echo_ctrl_echo_enable, 0,
        0)])).dev.fstate (2 : Fin 409) = fsDRAINING ∧ ((upState [(.fmem_win_state_state, 2, 6), (.fmem_win_cfg_window, 2, 3),
        (.fmem_win_cfg_role, 2, 0), (.fmem_win_cfg_writable, 2, 1), (.fmem_win_src_src_limit, 2, 0xFFFFFF),
        (.sched_echo_ctrl_echo_enable, 0, 0)])).dev.frameInflight (2 : Fin 409) = 0) ∧
    (({ upState [(.fmem_win_state_state, 2, 2), (.fmem_win_cfg_window, 2, 3), (.fmem_win_cfg_role, 2, 0), (.fmem_win_cfg_writable, 2, 1), (.fmem_win_src_src_limit, 2, 0xFFFFFF), (.sched_echo_ctrl_echo_enable, 0, 0)] with dev := { (upState [(.fmem_win_state_state, 2, 2), (.fmem_win_cfg_window, 2, 3), (.fmem_win_cfg_role, 2, 0), (.fmem_win_cfg_writable, 2, 1), (.fmem_win_src_src_limit, 2, 0xFFFFFF), (.sched_echo_ctrl_echo_enable, 0, 0)]).dev with frames := [{ id := 9, input := 3, hdr := { ftype := 0x09, cls := 3, order := 1, dst := 0xFF0000, src := 0x200, length := 8, w5 := 3 * 2 ^ 30 }, payload := [1, 2, 3, 4, 5, 6, 7, 8], complete := true, arrival := some 3 }], egress := [⟨513, 3, 9, 1, none, false⟩] } }).dev.internalHead
        513 3 = some
        (({ id := 9, input := 3, hdr := { ftype := 0x09, cls := 3, order := 1, dst := 0xFF0000, src := 0x200, length := 8, w5 := 3 * 2 ^ 30 }, payload := [1, 2, 3, 4, 5, 6, 7, 8], complete := true, arrival := some 3 }
        : Frame), (false : Bool)) ∧
        ({ id := 9, input := 3, hdr := { ftype := 0x09, cls := 3, order := 1, dst := 0xFF0000, src := 0x200, length := 8, w5 := 3 * 2 ^ 30 }, payload := [1, 2, 3, 4, 5, 6, 7, 8], complete := true, arrival := some 3 }
        : Frame).complete = true ∧ [ftMEM_RD, ftMEM_WR, ftMEM_ATOM].contains
        ({ id := 9, input := 3, hdr := { ftype := 0x09, cls := 3, order := 1, dst := 0xFF0000, src := 0x200, length := 8, w5 := 3 * 2 ^ 30 }, payload := [1, 2, 3, 4, 5, 6, 7, 8], complete := true, arrival := some 3 }
        : Frame).hdr.ftype = true ∧
        ({ upState [(.fmem_win_state_state, 2, 2), (.fmem_win_cfg_window, 2, 3), (.fmem_win_cfg_role, 2, 0), (.fmem_win_cfg_writable, 2, 1), (.fmem_win_src_src_limit, 2, 0xFFFFFF), (.sched_echo_ctrl_echo_enable, 0, 0)] with dev := { (upState [(.fmem_win_state_state, 2, 2), (.fmem_win_cfg_window, 2, 3), (.fmem_win_cfg_role, 2, 0), (.fmem_win_cfg_writable, 2, 1), (.fmem_win_src_src_limit, 2, 0xFFFFFF), (.sched_echo_ctrl_echo_enable, 0, 0)]).dev with frames := [{ id := 9, input := 3, hdr := { ftype := 0x09, cls := 3, order := 1, dst := 0xFF0000, src := 0x200, length := 8, w5 := 3 * 2 ^ 30 }, payload := [1, 2, 3, 4, 5, 6, 7, 8], complete := true, arrival := some 3 }], egress := [⟨513, 3, 9, 1, none, false⟩] } }).dev.flag
        .sched_echo_ctrl_echo_enable = false ∧
        ({ upState [(.fmem_win_state_state, 2, 2), (.fmem_win_cfg_window, 2, 3), (.fmem_win_cfg_role, 2, 0), (.fmem_win_cfg_writable, 2, 1), (.fmem_win_src_src_limit, 2, 0xFFFFFF), (.sched_echo_ctrl_echo_enable, 0, 0)] with dev := { (upState [(.fmem_win_state_state, 2, 2), (.fmem_win_cfg_window, 2, 3), (.fmem_win_cfg_role, 2, 0), (.fmem_win_cfg_writable, 2, 1), (.fmem_win_src_src_limit, 2, 0xFFFFFF), (.sched_echo_ctrl_echo_enable, 0, 0)]).dev with frames := [{ id := 9, input := 3, hdr := { ftype := 0x09, cls := 3, order := 1, dst := 0xFF0000, src := 0x200, length := 8, w5 := 3 * 2 ^ 30 }, payload := [1, 2, 3, 4, 5, 6, 7, 8], complete := true, arrival := some 3 }], egress := [⟨513, 3, 9, 1, none, false⟩] } }).dev.slotsInflight
        < 65536) ∧
    (({ upState [(.fmem_win_state_state, 2, 2), (.fmem_win_cfg_window, 2, 3), (.fmem_win_cfg_role, 2, 0), (.fmem_win_cfg_writable, 2, 1), (.fmem_win_src_src_limit, 2, 0xFFFFFF), (.sched_echo_ctrl_echo_enable, 0, 0)] with dev := { (upState [(.fmem_win_state_state, 2, 2), (.fmem_win_cfg_window, 2, 3), (.fmem_win_cfg_role, 2, 0), (.fmem_win_cfg_writable, 2, 1), (.fmem_win_src_src_limit, 2, 0xFFFFFF), (.sched_echo_ctrl_echo_enable, 0, 0)]).dev with frames := [{ id := 9, input := 3, hdr := { ftype := 0x09, cls := 3, order := 1, dst := 0xFF0000, src := 0x200, length := 8, w5 := 3 * 2 ^ 30 }, payload := [1, 2, 3, 4, 5, 6, 7, 8], complete := true, arrival := some 3 }], egress := [⟨513, 3, 9, 1, none, false⟩] } }).dev.memStatus
        ({ id := 9, input := 3, hdr := { ftype := 0x09, cls := 3, order := 1, dst := 0xFF0000, src := 0x200, length := 8, w5 := 3 * 2 ^ 30 }, payload := [1, 2, 3, 4, 5, 6, 7, 8], complete := true, arrival := some 3 }
        : Frame).hdr = (msOK, (2 : Nat))) ∧
    (({ upState [(.sched_echo_ctrl_echo_enable, 0, 0)] with dev := { (upState [(.sched_echo_ctrl_echo_enable, 0, 0)]).dev with frames := [{ id := 9, input := 3, hdr := { ftype := 0x09, cls := 3, order := 1, dst := 0xFF0000, src := 0x200, length := 8, w5 := 3 * 2 ^ 30 }, payload := [1, 2, 3, 4, 5, 6, 7, 8], complete := true, arrival := some 3 }], egress := [⟨513, 3, 9, 1, none, false⟩] } }).dev.internalHead
        513 3 = some
        (({ id := 9, input := 3, hdr := { ftype := 0x09, cls := 3, order := 1, dst := 0xFF0000, src := 0x200, length := 8, w5 := 3 * 2 ^ 30 }, payload := [1, 2, 3, 4, 5, 6, 7, 8], complete := true, arrival := some 3 }
        : Frame), (false : Bool)) ∧
        ({ id := 9, input := 3, hdr := { ftype := 0x09, cls := 3, order := 1, dst := 0xFF0000, src := 0x200, length := 8, w5 := 3 * 2 ^ 30 }, payload := [1, 2, 3, 4, 5, 6, 7, 8], complete := true, arrival := some 3 }
        : Frame).complete = true ∧ [ftMEM_RD, ftMEM_WR, ftMEM_ATOM].contains
        ({ id := 9, input := 3, hdr := { ftype := 0x09, cls := 3, order := 1, dst := 0xFF0000, src := 0x200, length := 8, w5 := 3 * 2 ^ 30 }, payload := [1, 2, 3, 4, 5, 6, 7, 8], complete := true, arrival := some 3 }
        : Frame).hdr.ftype = true ∧
        ({ upState [(.sched_echo_ctrl_echo_enable, 0, 0)] with dev := { (upState [(.sched_echo_ctrl_echo_enable, 0, 0)]).dev with frames := [{ id := 9, input := 3, hdr := { ftype := 0x09, cls := 3, order := 1, dst := 0xFF0000, src := 0x200, length := 8, w5 := 3 * 2 ^ 30 }, payload := [1, 2, 3, 4, 5, 6, 7, 8], complete := true, arrival := some 3 }], egress := [⟨513, 3, 9, 1, none, false⟩] } }).dev.flag
        .sched_echo_ctrl_echo_enable = false ∧
        ({ upState [(.sched_echo_ctrl_echo_enable, 0, 0)] with dev := { (upState [(.sched_echo_ctrl_echo_enable, 0, 0)]).dev with frames := [{ id := 9, input := 3, hdr := { ftype := 0x09, cls := 3, order := 1, dst := 0xFF0000, src := 0x200, length := 8, w5 := 3 * 2 ^ 30 }, payload := [1, 2, 3, 4, 5, 6, 7, 8], complete := true, arrival := some 3 }], egress := [⟨513, 3, 9, 1, none, false⟩] } }).dev.slotsInflight
        < 65536) ∧
    (({ upState [(.sched_echo_ctrl_echo_enable, 0, 0)] with dev := { (upState [(.sched_echo_ctrl_echo_enable, 0, 0)]).dev with frames := [{ id := 9, input := 3, hdr := { ftype := 0x09, cls := 3, order := 1, dst := 0xFF0000, src := 0x200, length := 8, w5 := 3 * 2 ^ 30 }, payload := [1, 2, 3, 4, 5, 6, 7, 8], complete := true, arrival := some 3 }], egress := [⟨513, 3, 9, 1, none, false⟩] } }).dev.memStatus
        ({ id := 9, input := 3, hdr := { ftype := 0x09, cls := 3, order := 1, dst := 0xFF0000, src := 0x200, length := 8, w5 := 3 * 2 ^ 30 }, payload := [1, 2, 3, 4, 5, 6, 7, 8], complete := true, arrival := some 3 }
        : Frame).hdr = ((msNOT_MAPPED : Nat), (0 : Nat)) ∧ (msNOT_MAPPED : Nat) ≠ msOK) ∧
    (({ upState [(.fmem_win_state_state, 2, 2), (.fmem_win_cfg_window, 2, 3), (.fmem_win_cfg_role, 2, 0), (.fmem_win_cfg_writable, 2, 1), (.fmem_win_src_src_limit, 2, 0xFFFFFF), (.sched_echo_ctrl_echo_enable, 0, 0)] with dev := { (upState [(.fmem_win_state_state, 2, 2), (.fmem_win_cfg_window, 2, 3), (.fmem_win_cfg_role, 2, 0), (.fmem_win_cfg_writable, 2, 1), (.fmem_win_src_src_limit, 2, 0xFFFFFF), (.sched_echo_ctrl_echo_enable, 0, 0)]).dev with fops := [{ id := 5, hdr := { ftype := 0x08, cls := 3, order := 1, dst := 0xFF0000, src := 0x200, length := 0, w5 := 3 * 2 ^ 30 }, payload := [], frame := 2 }] } }).dev.fops.find?
        (fun (x : MOp) => x.id == (5 : BitVec 32).toNat && x.phase == 0) = some
        ({ id := 5, hdr := { ftype := 0x08, cls := 3, order := 1, dst := 0xFF0000, src := 0x200, length := 0, w5 := 3 * 2 ^ 30 }, payload := [], frame := 2 }
        : MOp) ∧
        ({ upState [(.fmem_win_state_state, 2, 2), (.fmem_win_cfg_window, 2, 3), (.fmem_win_cfg_role, 2, 0), (.fmem_win_cfg_writable, 2, 1), (.fmem_win_src_src_limit, 2, 0xFFFFFF), (.sched_echo_ctrl_echo_enable, 0, 0)] with dev := { (upState [(.fmem_win_state_state, 2, 2), (.fmem_win_cfg_window, 2, 3), (.fmem_win_cfg_role, 2, 0), (.fmem_win_cfg_writable, 2, 1), (.fmem_win_src_src_limit, 2, 0xFFFFFF), (.sched_echo_ctrl_echo_enable, 0, 0)]).dev with fops := [{ id := 5, hdr := { ftype := 0x08, cls := 3, order := 1, dst := 0xFF0000, src := 0x200, length := 0, w5 := 3 * 2 ^ 30 }, payload := [], frame := 2 }] } }).dev.mustWait
        ({ id := 5, hdr := { ftype := 0x08, cls := 3, order := 1, dst := 0xFF0000, src := 0x200, length := 0, w5 := 3 * 2 ^ 30 }, payload := [], frame := 2 }
        : MOp).id
        ({ id := 5, hdr := { ftype := 0x08, cls := 3, order := 1, dst := 0xFF0000, src := 0x200, length := 0, w5 := 3 * 2 ^ 30 }, payload := [], frame := 2 }
        : MOp).hdr
        ({ id := 5, hdr := { ftype := 0x08, cls := 3, order := 1, dst := 0xFF0000, src := 0x200, length := 0, w5 := 3 * 2 ^ 30 }, payload := [], frame := 2 }
        : MOp).spans = false) ∧
    (({ id := 5, hdr := { ftype := 0x08, cls := 3, order := 1, dst := 0xFF0000, src := 0x200, length := 0, w5 := 3 * 2 ^ 30 }, payload := [], frame := 2 }
        : MOp).hdr.ftype = ftMEM_RD ∧ ([] : List (BitVec 39)) = [] ∧ ([] : List (BitVec 39)) = [] ∧ ∀ k : Fin 64,
        ({ upState [(.fmem_win_state_state, 2, 2), (.fmem_win_cfg_window, 2, 3), (.fmem_win_cfg_role, 2, 0), (.fmem_win_cfg_writable, 2, 1), (.fmem_win_src_src_limit, 2, 0xFFFFFF), (.sched_echo_ctrl_echo_enable, 0, 0)] with dev := { (upState [(.fmem_win_state_state, 2, 2), (.fmem_win_cfg_window, 2, 3), (.fmem_win_cfg_role, 2, 0), (.fmem_win_cfg_writable, 2, 1), (.fmem_win_src_src_limit, 2, 0xFFFFFF), (.sched_echo_ctrl_echo_enable, 0, 0)]).dev with fops := [{ id := 5, hdr := { ftype := 0x08, cls := 3, order := 1, dst := 0xFF0000, src := 0x200, length := 0, w5 := 3 * 2 ^ 30 }, payload := [], frame := 2 }] } }).dev.flag
        .memc_ch_status_failed k = false) ∧
    (({ upState [(.fmem_win_state_state, 2, 2), (.fmem_win_cfg_window, 2, 3), (.fmem_win_cfg_role, 2, 0), (.fmem_win_cfg_writable, 2, 1), (.fmem_win_src_src_limit, 2, 0xFFFFFF), (.sched_echo_ctrl_echo_enable, 0, 0)] with dev := { (upState [(.fmem_win_state_state, 2, 2), (.fmem_win_cfg_window, 2, 3), (.fmem_win_cfg_role, 2, 0), (.fmem_win_cfg_writable, 2, 1), (.fmem_win_src_src_limit, 2, 0xFFFFFF), (.sched_echo_ctrl_echo_enable, 0, 0)]).dev with fops := [{ id := 5, hdr := { ftype := 0x09, cls := 3, order := 1, dst := 0xFF0000, src := 0x200, length := 8, w5 := 3 * 2 ^ 30 }, payload := [1, 2, 3, 4, 5, 6, 7, 8], frame := 2 }] } }).dev.fops.find?
        (fun (x : MOp) => x.id == (5 : BitVec 32).toNat && x.phase == 0) = some
        ({ id := 5, hdr := { ftype := 0x09, cls := 3, order := 1, dst := 0xFF0000, src := 0x200, length := 8, w5 := 3 * 2 ^ 30 }, payload := [1, 2, 3, 4, 5, 6, 7, 8], frame := 2 }
        : MOp) ∧
        ({ upState [(.fmem_win_state_state, 2, 2), (.fmem_win_cfg_window, 2, 3), (.fmem_win_cfg_role, 2, 0), (.fmem_win_cfg_writable, 2, 1), (.fmem_win_src_src_limit, 2, 0xFFFFFF), (.sched_echo_ctrl_echo_enable, 0, 0)] with dev := { (upState [(.fmem_win_state_state, 2, 2), (.fmem_win_cfg_window, 2, 3), (.fmem_win_cfg_role, 2, 0), (.fmem_win_cfg_writable, 2, 1), (.fmem_win_src_src_limit, 2, 0xFFFFFF), (.sched_echo_ctrl_echo_enable, 0, 0)]).dev with fops := [{ id := 5, hdr := { ftype := 0x09, cls := 3, order := 1, dst := 0xFF0000, src := 0x200, length := 8, w5 := 3 * 2 ^ 30 }, payload := [1, 2, 3, 4, 5, 6, 7, 8], frame := 2 }] } }).dev.mustWait
        ({ id := 5, hdr := { ftype := 0x09, cls := 3, order := 1, dst := 0xFF0000, src := 0x200, length := 8, w5 := 3 * 2 ^ 30 }, payload := [1, 2, 3, 4, 5, 6, 7, 8], frame := 2 }
        : MOp).id
        ({ id := 5, hdr := { ftype := 0x09, cls := 3, order := 1, dst := 0xFF0000, src := 0x200, length := 8, w5 := 3 * 2 ^ 30 }, payload := [1, 2, 3, 4, 5, 6, 7, 8], frame := 2 }
        : MOp).hdr
        ({ id := 5, hdr := { ftype := 0x09, cls := 3, order := 1, dst := 0xFF0000, src := 0x200, length := 8, w5 := 3 * 2 ^ 30 }, payload := [1, 2, 3, 4, 5, 6, 7, 8], frame := 2 }
        : MOp).spans = false) ∧
    (({ id := 5, hdr := { ftype := 0x09, cls := 3, order := 1, dst := 0xFF0000, src := 0x200, length := 8, w5 := 3 * 2 ^ 30 }, payload := [1, 2, 3, 4, 5, 6, 7, 8], frame := 2 }
        : MOp).hdr.ftype = ftMEM_WR ∧ ∀ k : Fin 64,
        ({ upState [(.fmem_win_state_state, 2, 2), (.fmem_win_cfg_window, 2, 3), (.fmem_win_cfg_role, 2, 0), (.fmem_win_cfg_writable, 2, 1), (.fmem_win_src_src_limit, 2, 0xFFFFFF), (.sched_echo_ctrl_echo_enable, 0, 0)] with dev := { (upState [(.fmem_win_state_state, 2, 2), (.fmem_win_cfg_window, 2, 3), (.fmem_win_cfg_role, 2, 0), (.fmem_win_cfg_writable, 2, 1), (.fmem_win_src_src_limit, 2, 0xFFFFFF), (.sched_echo_ctrl_echo_enable, 0, 0)]).dev with fops := [{ id := 5, hdr := { ftype := 0x09, cls := 3, order := 1, dst := 0xFF0000, src := 0x200, length := 8, w5 := 3 * 2 ^ 30 }, payload := [1, 2, 3, 4, 5, 6, 7, 8], frame := 2 }] } }).dev.flag
        .memc_ch_status_failed k = false) ∧
    (({ upState [(.fmem_win_state_state, 2, 2), (.fmem_win_cfg_window, 2, 3), (.fmem_win_cfg_role, 2, 0), (.fmem_win_cfg_writable, 2, 1), (.fmem_win_src_src_limit, 2, 0xFFFFFF), (.sched_echo_ctrl_echo_enable, 0, 0)] with dev := { (upState [(.fmem_win_state_state, 2, 2), (.fmem_win_cfg_window, 2, 3), (.fmem_win_cfg_role, 2, 0), (.fmem_win_cfg_writable, 2, 1), (.fmem_win_src_src_limit, 2, 0xFFFFFF), (.sched_echo_ctrl_echo_enable, 0, 0)]).dev with fops := [{ id := 5, hdr := { ftype := 0x0A, cls := 3, order := 1, dst := 0xFF0000, src := 0x200, length := 8, w5 := 3 * 2 ^ 30 }, payload := [1, 2, 3, 4, 5, 6, 7, 8], frame := 2 }] } }).dev.fops.find?
        (fun (x : MOp) => x.id == (5 : BitVec 32).toNat && x.phase == 0) = some
        ({ id := 5, hdr := { ftype := 0x0A, cls := 3, order := 1, dst := 0xFF0000, src := 0x200, length := 8, w5 := 3 * 2 ^ 30 }, payload := [1, 2, 3, 4, 5, 6, 7, 8], frame := 2 }
        : MOp) ∧
        ({ upState [(.fmem_win_state_state, 2, 2), (.fmem_win_cfg_window, 2, 3), (.fmem_win_cfg_role, 2, 0), (.fmem_win_cfg_writable, 2, 1), (.fmem_win_src_src_limit, 2, 0xFFFFFF), (.sched_echo_ctrl_echo_enable, 0, 0)] with dev := { (upState [(.fmem_win_state_state, 2, 2), (.fmem_win_cfg_window, 2, 3), (.fmem_win_cfg_role, 2, 0), (.fmem_win_cfg_writable, 2, 1), (.fmem_win_src_src_limit, 2, 0xFFFFFF), (.sched_echo_ctrl_echo_enable, 0, 0)]).dev with fops := [{ id := 5, hdr := { ftype := 0x0A, cls := 3, order := 1, dst := 0xFF0000, src := 0x200, length := 8, w5 := 3 * 2 ^ 30 }, payload := [1, 2, 3, 4, 5, 6, 7, 8], frame := 2 }] } }).dev.mustWait
        ({ id := 5, hdr := { ftype := 0x0A, cls := 3, order := 1, dst := 0xFF0000, src := 0x200, length := 8, w5 := 3 * 2 ^ 30 }, payload := [1, 2, 3, 4, 5, 6, 7, 8], frame := 2 }
        : MOp).id
        ({ id := 5, hdr := { ftype := 0x0A, cls := 3, order := 1, dst := 0xFF0000, src := 0x200, length := 8, w5 := 3 * 2 ^ 30 }, payload := [1, 2, 3, 4, 5, 6, 7, 8], frame := 2 }
        : MOp).hdr
        ({ id := 5, hdr := { ftype := 0x0A, cls := 3, order := 1, dst := 0xFF0000, src := 0x200, length := 8, w5 := 3 * 2 ^ 30 }, payload := [1, 2, 3, 4, 5, 6, 7, 8], frame := 2 }
        : MOp).spans = false) ∧
    (({ id := 5, hdr := { ftype := 0x0A, cls := 3, order := 1, dst := 0xFF0000, src := 0x200, length := 8, w5 := 3 * 2 ^ 30 }, payload := [1, 2, 3, 4, 5, 6, 7, 8], frame := 2 }
        : MOp).hdr.ftype = ftMEM_ATOM ∧ ([] : List (BitVec 39)) = [] ∧ ([] : List (BitVec 39)) = [] ∧ ∀ k : Fin 64,
        ({ upState [(.fmem_win_state_state, 2, 2), (.fmem_win_cfg_window, 2, 3), (.fmem_win_cfg_role, 2, 0), (.fmem_win_cfg_writable, 2, 1), (.fmem_win_src_src_limit, 2, 0xFFFFFF), (.sched_echo_ctrl_echo_enable, 0, 0)] with dev := { (upState [(.fmem_win_state_state, 2, 2), (.fmem_win_cfg_window, 2, 3), (.fmem_win_cfg_role, 2, 0), (.fmem_win_cfg_writable, 2, 1), (.fmem_win_src_src_limit, 2, 0xFFFFFF), (.sched_echo_ctrl_echo_enable, 0, 0)]).dev with fops := [{ id := 5, hdr := { ftype := 0x0A, cls := 3, order := 1, dst := 0xFF0000, src := 0x200, length := 8, w5 := 3 * 2 ^ 30 }, payload := [1, 2, 3, 4, 5, 6, 7, 8], frame := 2 }] } }).dev.flag
        .memc_ch_status_failed k = false) := by
  refine ⟨?_, ?_, ?_, ?_, ?_, ?_, ?_, ?_, ?_, ?_, ?_, ?_, ?_, ?_, ?_, ?_, ?_, ?_, ?_, ?_, ?_, ?_, ?_, ?_, ?_, ?_, ?_, ?_, ?_⟩
      <;>
    decide +kernel

/-- States and operands that meet the premises of `Obligations.MirrorPairs`, clause by clause. -/
theorem witness_MirrorPairs :
    (({ upState [(.fmem_win_state_state, 2, 2), (.fmem_win_cfg_window, 2, 3), (.fmem_win_cfg_role, 2, 2), (.fmem_win_cfg_writable, 2, 1), (.fmem_win_src_src_limit, 2, 0xFFFFFF), (.sched_echo_ctrl_echo_enable, 0, 0)] with dev := { (upState [(.fmem_win_state_state, 2, 2), (.fmem_win_cfg_window, 2, 3), (.fmem_win_cfg_role, 2, 2), (.fmem_win_cfg_writable, 2, 1), (.fmem_win_src_src_limit, 2, 0xFFFFFF), (.sched_echo_ctrl_echo_enable, 0, 0)]).dev with frames := [{ id := 9, input := 3, hdr := { ftype := 0x0B, cls := 4, order := 1, dst := 0xFF0000, src := 0xFF0000, length := 8, w5 := 3 * 2 ^ 30, w6 := 7 * 2 ^ 12 + 16 }, payload := [1, 2, 3, 4, 5, 6, 7, 8], complete := true }], egress := [⟨513, 4, 9, 1, none, false⟩] } }).dev.internalHead
        513 4 = some
        (({ id := 9, input := 3, hdr := { ftype := 0x0B, cls := 4, order := 1, dst := 0xFF0000, src := 0xFF0000, length := 8, w5 := 3 * 2 ^ 30, w6 := 7 * 2 ^ 12 + 16 }, payload := [1, 2, 3, 4, 5, 6, 7, 8], complete := true }
        : Frame), (false : Bool)) ∧
        ({ id := 9, input := 3, hdr := { ftype := 0x0B, cls := 4, order := 1, dst := 0xFF0000, src := 0xFF0000, length := 8, w5 := 3 * 2 ^ 30, w6 := 7 * 2 ^ 12 + 16 }, payload := [1, 2, 3, 4, 5, 6, 7, 8], complete := true }
        : Frame).complete = true ∧
        ({ id := 9, input := 3, hdr := { ftype := 0x0B, cls := 4, order := 1, dst := 0xFF0000, src := 0xFF0000, length := 8, w5 := 3 * 2 ^ 30, w6 := 7 * 2 ^ 12 + 16 }, payload := [1, 2, 3, 4, 5, 6, 7, 8], complete := true }
        : Frame).hdr.ftype = ftMEM_RSP ∧
        ({ id := 9, input := 3, hdr := { ftype := 0x0B, cls := 4, order := 1, dst := 0xFF0000, src := 0xFF0000, length := 8, w5 := 3 * 2 ^ 30, w6 := 7 * 2 ^ 12 + 16 }, payload := [1, 2, 3, 4, 5, 6, 7, 8], complete := true }
        : Frame).hdr.size = 16 ∧
        ({ id := 9, input := 3, hdr := { ftype := 0x0B, cls := 4, order := 1, dst := 0xFF0000, src := 0xFF0000, length := 8, w5 := 3 * 2 ^ 30, w6 := 7 * 2 ^ 12 + 16 }, payload := [1, 2, 3, 4, 5, 6, 7, 8], complete := true }
        : Frame).arrival = none) ∧
    (({ upState [(.fmem_win_state_state, 2, 2), (.fmem_win_cfg_window, 2, 3), (.fmem_win_cfg_role, 2, 2), (.fmem_win_cfg_writable, 2, 1), (.fmem_win_src_src_limit, 2, 0xFFFFFF), (.sched_echo_ctrl_echo_enable, 0, 0)] with dev := { (upState [(.fmem_win_state_state, 2, 2), (.fmem_win_cfg_window, 2, 3), (.fmem_win_cfg_role, 2, 2), (.fmem_win_cfg_writable, 2, 1), (.fmem_win_src_src_limit, 2, 0xFFFFFF), (.sched_echo_ctrl_echo_enable, 0, 0)]).dev with frames := [{ id := 9, input := 3, hdr := { ftype := 0x0B, cls := 4, order := 1, dst := 0xFF0000, src := 0xFF0000, length := 8, w5 := 3 * 2 ^ 30, w6 := 7 * 2 ^ 12 + 16 }, payload := [1, 2, 3, 4, 5, 6, 7, 8], complete := true }], egress := [⟨513, 4, 9, 1, none, false⟩] } }).dev.winHolder
        (faWindow
        ({ id := 9, input := 3, hdr := { ftype := 0x0B, cls := 4, order := 1, dst := 0xFF0000, src := 0xFF0000, length := 8, w5 := 3 * 2 ^ 30, w6 := 7 * 2 ^ 12 + 16 }, payload := [1, 2, 3, 4, 5, 6, 7, 8], complete := true }
        : Frame).hdr.faddr) = some (2 : Nat) ∧
        ({ id := 9, input := 3, hdr := { ftype := 0x0B, cls := 4, order := 1, dst := 0xFF0000, src := 0xFF0000, length := 8, w5 := 3 * 2 ^ 30, w6 := 7 * 2 ^ 12 + 16 }, payload := [1, 2, 3, 4, 5, 6, 7, 8], complete := true }
        : Frame).hdr.src = 0xFF0000 +
        ({ upState [(.fmem_win_state_state, 2, 2), (.fmem_win_cfg_window, 2, 3), (.fmem_win_cfg_role, 2, 2), (.fmem_win_cfg_writable, 2, 1), (.fmem_win_src_src_limit, 2, 0xFFFFFF), (.sched_echo_ctrl_echo_enable, 0, 0)] with dev := { (upState [(.fmem_win_state_state, 2, 2), (.fmem_win_cfg_window, 2, 3), (.fmem_win_cfg_role, 2, 2), (.fmem_win_cfg_writable, 2, 1), (.fmem_win_src_src_limit, 2, 0xFFFFFF), (.sched_echo_ctrl_echo_enable, 0, 0)]).dev with frames := [{ id := 9, input := 3, hdr := { ftype := 0x0B, cls := 4, order := 1, dst := 0xFF0000, src := 0xFF0000, length := 8, w5 := 3 * 2 ^ 30, w6 := 7 * 2 ^ 12 + 16 }, payload := [1, 2, 3, 4, 5, 6, 7, 8], complete := true }], egress := [⟨513, 4, 9, 1, none, false⟩] } }).dev.get
        .fmem_win_cfg_partner (2 : Nat) ∧
        ({ upState [(.fmem_win_state_state, 2, 2), (.fmem_win_cfg_window, 2, 3), (.fmem_win_cfg_role, 2, 2), (.fmem_win_cfg_writable, 2, 1), (.fmem_win_src_src_limit, 2, 0xFFFFFF), (.sched_echo_ctrl_echo_enable, 0, 0)] with dev := { (upState [(.fmem_win_state_state, 2, 2), (.fmem_win_cfg_window, 2, 3), (.fmem_win_cfg_role, 2, 2), (.fmem_win_cfg_writable, 2, 1), (.fmem_win_src_src_limit, 2, 0xFFFFFF), (.sched_echo_ctrl_echo_enable, 0, 0)]).dev with frames := [{ id := 9, input := 3, hdr := { ftype := 0x0B, cls := 4, order := 1, dst := 0xFF0000, src := 0xFF0000, length := 8, w5 := 3 * 2 ^ 30, w6 := 7 * 2 ^ 12 + 16 }, payload := [1, 2, 3, 4, 5, 6, 7, 8], complete := true }], egress := [⟨513, 4, 9, 1, none, false⟩] } }).dev.frole
        (2 : Nat) = 2 ∧
        ({ upState [(.fmem_win_state_state, 2, 2), (.fmem_win_cfg_window, 2, 3), (.fmem_win_cfg_role, 2, 2), (.fmem_win_cfg_writable, 2, 1), (.fmem_win_src_src_limit, 2, 0xFFFFFF), (.sched_echo_ctrl_echo_enable, 0, 0)] with dev := { (upState [(.fmem_win_state_state, 2, 2), (.fmem_win_cfg_window, 2, 3), (.fmem_win_cfg_role, 2, 2), (.fmem_win_cfg_writable, 2, 1), (.fmem_win_src_src_limit, 2, 0xFFFFFF), (.sched_echo_ctrl_echo_enable, 0, 0)]).dev with frames := [{ id := 9, input := 3, hdr := { ftype := 0x0B, cls := 4, order := 1, dst := 0xFF0000, src := 0xFF0000, length := 8, w5 := 3 * 2 ^ 30, w6 := 7 * 2 ^ 12 + 16 }, payload := [1, 2, 3, 4, 5, 6, 7, 8], complete := true }], egress := [⟨513, 4, 9, 1, none, false⟩] } }).dev.fstate
        (2 : Nat) ≠ fsDRAINING) ∧
    (({ upState [(.fmem_win_state_state, 2, 2), (.fmem_win_cfg_window, 2, 3), (.fmem_win_cfg_role, 2, 1), (.fmem_win_cfg_writable, 2, 1), (.fmem_win_src_src_limit, 2, 0xFFFFFF), (.sched_echo_ctrl_echo_enable, 0, 0)] with dev := { (upState [(.fmem_win_state_state, 2, 2), (.fmem_win_cfg_window, 2, 3), (.fmem_win_cfg_role, 2, 1), (.fmem_win_cfg_writable, 2, 1), (.fmem_win_src_src_limit, 2, 0xFFFFFF), (.sched_echo_ctrl_echo_enable, 0, 0)]).dev with frames := [{ id := 9, input := 3, hdr := { ftype := 0x0B, cls := 4, order := 1, dst := 0xFF0000, src := 0xFF0000, length := 0, w5 := 3 * 2 ^ 30, w6 := 7 * 2 ^ 12 + 17 }, payload := [], complete := true }], egress := [⟨513, 4, 9, 1, none, false⟩] } }).dev.internalHead
        513 4 = some
        (({ id := 9, input := 3, hdr := { ftype := 0x0B, cls := 4, order := 1, dst := 0xFF0000, src := 0xFF0000, length := 0, w5 := 3 * 2 ^ 30, w6 := 7 * 2 ^ 12 + 17 }, payload := [], complete := true }
        : Frame), (false : Bool)) ∧
        ({ id := 9, input := 3, hdr := { ftype := 0x0B, cls := 4, order := 1, dst := 0xFF0000, src := 0xFF0000, length := 0, w5 := 3 * 2 ^ 30, w6 := 7 * 2 ^ 12 + 17 }, payload := [], complete := true }
        : Frame).complete = true ∧
        ({ id := 9, input := 3, hdr := { ftype := 0x0B, cls := 4, order := 1, dst := 0xFF0000, src := 0xFF0000, length := 0, w5 := 3 * 2 ^ 30, w6 := 7 * 2 ^ 12 + 17 }, payload := [], complete := true }
        : Frame).hdr.ftype = ftMEM_RSP ∧
        ({ id := 9, input := 3, hdr := { ftype := 0x0B, cls := 4, order := 1, dst := 0xFF0000, src := 0xFF0000, length := 0, w5 := 3 * 2 ^ 30, w6 := 7 * 2 ^ 12 + 17 }, payload := [], complete := true }
        : Frame).hdr.size = 17 ∧
        ({ id := 9, input := 3, hdr := { ftype := 0x0B, cls := 4, order := 1, dst := 0xFF0000, src := 0xFF0000, length := 0, w5 := 3 * 2 ^ 30, w6 := 7 * 2 ^ 12 + 17 }, payload := [], complete := true }
        : Frame).arrival = none) ∧
    (({ upState [(.fmem_win_state_state, 2, 2), (.fmem_win_cfg_window, 2, 3), (.fmem_win_cfg_role, 2, 1), (.fmem_win_cfg_writable, 2, 1), (.fmem_win_src_src_limit, 2, 0xFFFFFF), (.sched_echo_ctrl_echo_enable, 0, 0)] with dev := { (upState [(.fmem_win_state_state, 2, 2), (.fmem_win_cfg_window, 2, 3), (.fmem_win_cfg_role, 2, 1), (.fmem_win_cfg_writable, 2, 1), (.fmem_win_src_src_limit, 2, 0xFFFFFF), (.sched_echo_ctrl_echo_enable, 0, 0)]).dev with frames := [{ id := 9, input := 3, hdr := { ftype := 0x0B, cls := 4, order := 1, dst := 0xFF0000, src := 0xFF0000, length := 0, w5 := 3 * 2 ^ 30, w6 := 7 * 2 ^ 12 + 17 }, payload := [], complete := true }], egress := [⟨513, 4, 9, 1, none, false⟩] } }).dev.winHolder
        (faWindow
        ({ id := 9, input := 3, hdr := { ftype := 0x0B, cls := 4, order := 1, dst := 0xFF0000, src := 0xFF0000, length := 0, w5 := 3 * 2 ^ 30, w6 := 7 * 2 ^ 12 + 17 }, payload := [], complete := true }
        : Frame).hdr.faddr) = some (2 : Nat) ∧
        ({ id := 9, input := 3, hdr := { ftype := 0x0B, cls := 4, order := 1, dst := 0xFF0000, src := 0xFF0000, length := 0, w5 := 3 * 2 ^ 30, w6 := 7 * 2 ^ 12 + 17 }, payload := [], complete := true }
        : Frame).hdr.src = 0xFF0000 +
        ({ upState [(.fmem_win_state_state, 2, 2), (.fmem_win_cfg_window, 2, 3), (.fmem_win_cfg_role, 2, 1), (.fmem_win_cfg_writable, 2, 1), (.fmem_win_src_src_limit, 2, 0xFFFFFF), (.sched_echo_ctrl_echo_enable, 0, 0)] with dev := { (upState [(.fmem_win_state_state, 2, 2), (.fmem_win_cfg_window, 2, 3), (.fmem_win_cfg_role, 2, 1), (.fmem_win_cfg_writable, 2, 1), (.fmem_win_src_src_limit, 2, 0xFFFFFF), (.sched_echo_ctrl_echo_enable, 0, 0)]).dev with frames := [{ id := 9, input := 3, hdr := { ftype := 0x0B, cls := 4, order := 1, dst := 0xFF0000, src := 0xFF0000, length := 0, w5 := 3 * 2 ^ 30, w6 := 7 * 2 ^ 12 + 17 }, payload := [], complete := true }], egress := [⟨513, 4, 9, 1, none, false⟩] } }).dev.get
        .fmem_win_cfg_partner (2 : Nat) ∧
        ({ upState [(.fmem_win_state_state, 2, 2), (.fmem_win_cfg_window, 2, 3), (.fmem_win_cfg_role, 2, 1), (.fmem_win_cfg_writable, 2, 1), (.fmem_win_src_src_limit, 2, 0xFFFFFF), (.sched_echo_ctrl_echo_enable, 0, 0)] with dev := { (upState [(.fmem_win_state_state, 2, 2), (.fmem_win_cfg_window, 2, 3), (.fmem_win_cfg_role, 2, 1), (.fmem_win_cfg_writable, 2, 1), (.fmem_win_src_src_limit, 2, 0xFFFFFF), (.sched_echo_ctrl_echo_enable, 0, 0)]).dev with frames := [{ id := 9, input := 3, hdr := { ftype := 0x0B, cls := 4, order := 1, dst := 0xFF0000, src := 0xFF0000, length := 0, w5 := 3 * 2 ^ 30, w6 := 7 * 2 ^ 12 + 17 }, payload := [], complete := true }], egress := [⟨513, 4, 9, 1, none, false⟩] } }).dev.frole
        (2 : Nat) = 1 ∧
        ({ upState [(.fmem_win_state_state, 2, 2), (.fmem_win_cfg_window, 2, 3), (.fmem_win_cfg_role, 2, 1), (.fmem_win_cfg_writable, 2, 1), (.fmem_win_src_src_limit, 2, 0xFFFFFF), (.sched_echo_ctrl_echo_enable, 0, 0)] with dev := { (upState [(.fmem_win_state_state, 2, 2), (.fmem_win_cfg_window, 2, 3), (.fmem_win_cfg_role, 2, 1), (.fmem_win_cfg_writable, 2, 1), (.fmem_win_src_src_limit, 2, 0xFFFFFF), (.sched_echo_ctrl_echo_enable, 0, 0)]).dev with frames := [{ id := 9, input := 3, hdr := { ftype := 0x0B, cls := 4, order := 1, dst := 0xFF0000, src := 0xFF0000, length := 0, w5 := 3 * 2 ^ 30, w6 := 7 * 2 ^ 12 + 17 }, payload := [], complete := true }], egress := [⟨513, 4, 9, 1, none, false⟩] } }).dev.fstate
        (2 : Nat) ≠ fsDRAINING) ∧
    (({ upState [(.fmem_win_state_state, 2, 2), (.fmem_win_cfg_window, 2, 3), (.fmem_win_cfg_role, 2, 2), (.fmem_win_cfg_writable, 2, 1), (.fmem_win_src_src_limit, 2, 0xFFFFFF), (.sched_echo_ctrl_echo_enable, 0, 0)] with dev := { (upState [(.fmem_win_state_state, 2, 2), (.fmem_win_cfg_window, 2, 3), (.fmem_win_cfg_role, 2, 2), (.fmem_win_cfg_writable, 2, 1), (.fmem_win_src_src_limit, 2, 0xFFFFFF), (.sched_echo_ctrl_echo_enable, 0, 0)]).dev with frames := [{ id := 9, input := 3, hdr := { ftype := 0x0B, cls := 4, order := 1, dst := 0xFF0000, src := 0xFF0000, length := 0, w5 := 3 * 2 ^ 30, w6 := 7 * 2 ^ 12 + 18 }, payload := [], complete := true }], egress := [⟨513, 4, 9, 1, none, false⟩] } }).dev.internalHead
        513 4 = some
        (({ id := 9, input := 3, hdr := { ftype := 0x0B, cls := 4, order := 1, dst := 0xFF0000, src := 0xFF0000, length := 0, w5 := 3 * 2 ^ 30, w6 := 7 * 2 ^ 12 + 18 }, payload := [], complete := true }
        : Frame), (false : Bool)) ∧
        ({ id := 9, input := 3, hdr := { ftype := 0x0B, cls := 4, order := 1, dst := 0xFF0000, src := 0xFF0000, length := 0, w5 := 3 * 2 ^ 30, w6 := 7 * 2 ^ 12 + 18 }, payload := [], complete := true }
        : Frame).complete = true ∧
        ({ id := 9, input := 3, hdr := { ftype := 0x0B, cls := 4, order := 1, dst := 0xFF0000, src := 0xFF0000, length := 0, w5 := 3 * 2 ^ 30, w6 := 7 * 2 ^ 12 + 18 }, payload := [], complete := true }
        : Frame).hdr.ftype = ftMEM_RSP ∧
        ({ id := 9, input := 3, hdr := { ftype := 0x0B, cls := 4, order := 1, dst := 0xFF0000, src := 0xFF0000, length := 0, w5 := 3 * 2 ^ 30, w6 := 7 * 2 ^ 12 + 18 }, payload := [], complete := true }
        : Frame).hdr.size = 18 ∧
        ({ id := 9, input := 3, hdr := { ftype := 0x0B, cls := 4, order := 1, dst := 0xFF0000, src := 0xFF0000, length := 0, w5 := 3 * 2 ^ 30, w6 := 7 * 2 ^ 12 + 18 }, payload := [], complete := true }
        : Frame).arrival = none) ∧
    (({ upState [(.fmem_win_state_state, 2, 2), (.fmem_win_cfg_window, 2, 3), (.fmem_win_cfg_role, 2, 2), (.fmem_win_cfg_writable, 2, 1), (.fmem_win_src_src_limit, 2, 0xFFFFFF), (.sched_echo_ctrl_echo_enable, 0, 0)] with dev := { (upState [(.fmem_win_state_state, 2, 2), (.fmem_win_cfg_window, 2, 3), (.fmem_win_cfg_role, 2, 2), (.fmem_win_cfg_writable, 2, 1), (.fmem_win_src_src_limit, 2, 0xFFFFFF), (.sched_echo_ctrl_echo_enable, 0, 0)]).dev with frames := [{ id := 9, input := 3, hdr := { ftype := 0x0B, cls := 4, order := 1, dst := 0xFF0000, src := 0xFF0000, length := 0, w5 := 3 * 2 ^ 30, w6 := 7 * 2 ^ 12 + 18 }, payload := [], complete := true }], egress := [⟨513, 4, 9, 1, none, false⟩] } }).dev.winHolder
        (faWindow
        ({ id := 9, input := 3, hdr := { ftype := 0x0B, cls := 4, order := 1, dst := 0xFF0000, src := 0xFF0000, length := 0, w5 := 3 * 2 ^ 30, w6 := 7 * 2 ^ 12 + 18 }, payload := [], complete := true }
        : Frame).hdr.faddr) = some (2 : Nat) ∧
        ({ id := 9, input := 3, hdr := { ftype := 0x0B, cls := 4, order := 1, dst := 0xFF0000, src := 0xFF0000, length := 0, w5 := 3 * 2 ^ 30, w6 := 7 * 2 ^ 12 + 18 }, payload := [], complete := true }
        : Frame).hdr.src = 0xFF0000 +
        ({ upState [(.fmem_win_state_state, 2, 2), (.fmem_win_cfg_window, 2, 3), (.fmem_win_cfg_role, 2, 2), (.fmem_win_cfg_writable, 2, 1), (.fmem_win_src_src_limit, 2, 0xFFFFFF), (.sched_echo_ctrl_echo_enable, 0, 0)] with dev := { (upState [(.fmem_win_state_state, 2, 2), (.fmem_win_cfg_window, 2, 3), (.fmem_win_cfg_role, 2, 2), (.fmem_win_cfg_writable, 2, 1), (.fmem_win_src_src_limit, 2, 0xFFFFFF), (.sched_echo_ctrl_echo_enable, 0, 0)]).dev with frames := [{ id := 9, input := 3, hdr := { ftype := 0x0B, cls := 4, order := 1, dst := 0xFF0000, src := 0xFF0000, length := 0, w5 := 3 * 2 ^ 30, w6 := 7 * 2 ^ 12 + 18 }, payload := [], complete := true }], egress := [⟨513, 4, 9, 1, none, false⟩] } }).dev.get
        .fmem_win_cfg_partner (2 : Nat) ∧
        ({ upState [(.fmem_win_state_state, 2, 2), (.fmem_win_cfg_window, 2, 3), (.fmem_win_cfg_role, 2, 2), (.fmem_win_cfg_writable, 2, 1), (.fmem_win_src_src_limit, 2, 0xFFFFFF), (.sched_echo_ctrl_echo_enable, 0, 0)] with dev := { (upState [(.fmem_win_state_state, 2, 2), (.fmem_win_cfg_window, 2, 3), (.fmem_win_cfg_role, 2, 2), (.fmem_win_cfg_writable, 2, 1), (.fmem_win_src_src_limit, 2, 0xFFFFFF), (.sched_echo_ctrl_echo_enable, 0, 0)]).dev with frames := [{ id := 9, input := 3, hdr := { ftype := 0x0B, cls := 4, order := 1, dst := 0xFF0000, src := 0xFF0000, length := 0, w5 := 3 * 2 ^ 30, w6 := 7 * 2 ^ 12 + 18 }, payload := [], complete := true }], egress := [⟨513, 4, 9, 1, none, false⟩] } }).dev.frole
        (2 : Nat) = 2 ∧
        ({ upState [(.fmem_win_state_state, 2, 2), (.fmem_win_cfg_window, 2, 3), (.fmem_win_cfg_role, 2, 2), (.fmem_win_cfg_writable, 2, 1), (.fmem_win_src_src_limit, 2, 0xFFFFFF), (.sched_echo_ctrl_echo_enable, 0, 0)] with dev := { (upState [(.fmem_win_state_state, 2, 2), (.fmem_win_cfg_window, 2, 3), (.fmem_win_cfg_role, 2, 2), (.fmem_win_cfg_writable, 2, 1), (.fmem_win_src_src_limit, 2, 0xFFFFFF), (.sched_echo_ctrl_echo_enable, 0, 0)]).dev with frames := [{ id := 9, input := 3, hdr := { ftype := 0x0B, cls := 4, order := 1, dst := 0xFF0000, src := 0xFF0000, length := 0, w5 := 3 * 2 ^ 30, w6 := 7 * 2 ^ 12 + 18 }, payload := [], complete := true }], egress := [⟨513, 4, 9, 1, none, false⟩] } }).dev.fstate
        (2 : Nat) ≠ fsDRAINING) ∧
    (({ upState [(.fmem_win_state_state, 2, 5), (.fmem_win_cfg_window, 2, 3), (.fmem_win_cfg_role, 2, 2), (.fmem_win_cfg_writable, 2, 1), (.fmem_win_src_src_limit, 2, 0xFFFFFF), (.sched_echo_ctrl_echo_enable, 0, 0)] with dev := { (upState [(.fmem_win_state_state, 2, 5), (.fmem_win_cfg_window, 2, 3), (.fmem_win_cfg_role, 2, 2), (.fmem_win_cfg_writable, 2, 1), (.fmem_win_src_src_limit, 2, 0xFFFFFF), (.sched_echo_ctrl_echo_enable, 0, 0)]).dev with frames := [{ id := 9, input := 3, hdr := { ftype := 0x0B, cls := 4, order := 1, dst := 0xFF0000, src := 0xFF0000, length := 0, w5 := 3 * 2 ^ 30, w6 := 7 * 2 ^ 12 + 19 }, payload := [], complete := true }], egress := [⟨513, 4, 9, 1, none, false⟩] } }).dev.internalHead
        513 4 = some
        (({ id := 9, input := 3, hdr := { ftype := 0x0B, cls := 4, order := 1, dst := 0xFF0000, src := 0xFF0000, length := 0, w5 := 3 * 2 ^ 30, w6 := 7 * 2 ^ 12 + 19 }, payload := [], complete := true }
        : Frame), (false : Bool)) ∧
        ({ id := 9, input := 3, hdr := { ftype := 0x0B, cls := 4, order := 1, dst := 0xFF0000, src := 0xFF0000, length := 0, w5 := 3 * 2 ^ 30, w6 := 7 * 2 ^ 12 + 19 }, payload := [], complete := true }
        : Frame).complete = true ∧
        ({ id := 9, input := 3, hdr := { ftype := 0x0B, cls := 4, order := 1, dst := 0xFF0000, src := 0xFF0000, length := 0, w5 := 3 * 2 ^ 30, w6 := 7 * 2 ^ 12 + 19 }, payload := [], complete := true }
        : Frame).hdr.ftype = ftMEM_RSP ∧
        ({ id := 9, input := 3, hdr := { ftype := 0x0B, cls := 4, order := 1, dst := 0xFF0000, src := 0xFF0000, length := 0, w5 := 3 * 2 ^ 30, w6 := 7 * 2 ^ 12 + 19 }, payload := [], complete := true }
        : Frame).hdr.size = 19 ∧
        ({ id := 9, input := 3, hdr := { ftype := 0x0B, cls := 4, order := 1, dst := 0xFF0000, src := 0xFF0000, length := 0, w5 := 3 * 2 ^ 30, w6 := 7 * 2 ^ 12 + 19 }, payload := [], complete := true }
        : Frame).arrival = none) ∧
    (({ upState [(.fmem_win_state_state, 2, 5), (.fmem_win_cfg_window, 2, 3), (.fmem_win_cfg_role, 2, 2), (.fmem_win_cfg_writable, 2, 1), (.fmem_win_src_src_limit, 2, 0xFFFFFF), (.sched_echo_ctrl_echo_enable, 0, 0)] with dev := { (upState [(.fmem_win_state_state, 2, 5), (.fmem_win_cfg_window, 2, 3), (.fmem_win_cfg_role, 2, 2), (.fmem_win_cfg_writable, 2, 1), (.fmem_win_src_src_limit, 2, 0xFFFFFF), (.sched_echo_ctrl_echo_enable, 0, 0)]).dev with frames := [{ id := 9, input := 3, hdr := { ftype := 0x0B, cls := 4, order := 1, dst := 0xFF0000, src := 0xFF0000, length := 0, w5 := 3 * 2 ^ 30, w6 := 7 * 2 ^ 12 + 19 }, payload := [], complete := true }], egress := [⟨513, 4, 9, 1, none, false⟩] } }).dev.winHolder
        (faWindow
        ({ id := 9, input := 3, hdr := { ftype := 0x0B, cls := 4, order := 1, dst := 0xFF0000, src := 0xFF0000, length := 0, w5 := 3 * 2 ^ 30, w6 := 7 * 2 ^ 12 + 19 }, payload := [], complete := true }
        : Frame).hdr.faddr) = some (2 : Nat) ∧
        ({ id := 9, input := 3, hdr := { ftype := 0x0B, cls := 4, order := 1, dst := 0xFF0000, src := 0xFF0000, length := 0, w5 := 3 * 2 ^ 30, w6 := 7 * 2 ^ 12 + 19 }, payload := [], complete := true }
        : Frame).hdr.src = 0xFF0000 +
        ({ upState [(.fmem_win_state_state, 2, 5), (.fmem_win_cfg_window, 2, 3), (.fmem_win_cfg_role, 2, 2), (.fmem_win_cfg_writable, 2, 1), (.fmem_win_src_src_limit, 2, 0xFFFFFF), (.sched_echo_ctrl_echo_enable, 0, 0)] with dev := { (upState [(.fmem_win_state_state, 2, 5), (.fmem_win_cfg_window, 2, 3), (.fmem_win_cfg_role, 2, 2), (.fmem_win_cfg_writable, 2, 1), (.fmem_win_src_src_limit, 2, 0xFFFFFF), (.sched_echo_ctrl_echo_enable, 0, 0)]).dev with frames := [{ id := 9, input := 3, hdr := { ftype := 0x0B, cls := 4, order := 1, dst := 0xFF0000, src := 0xFF0000, length := 0, w5 := 3 * 2 ^ 30, w6 := 7 * 2 ^ 12 + 19 }, payload := [], complete := true }], egress := [⟨513, 4, 9, 1, none, false⟩] } }).dev.get
        .fmem_win_cfg_partner (2 : Nat) ∧
        ({ upState [(.fmem_win_state_state, 2, 5), (.fmem_win_cfg_window, 2, 3), (.fmem_win_cfg_role, 2, 2), (.fmem_win_cfg_writable, 2, 1), (.fmem_win_src_src_limit, 2, 0xFFFFFF), (.sched_echo_ctrl_echo_enable, 0, 0)] with dev := { (upState [(.fmem_win_state_state, 2, 5), (.fmem_win_cfg_window, 2, 3), (.fmem_win_cfg_role, 2, 2), (.fmem_win_cfg_writable, 2, 1), (.fmem_win_src_src_limit, 2, 0xFFFFFF), (.sched_echo_ctrl_echo_enable, 0, 0)]).dev with frames := [{ id := 9, input := 3, hdr := { ftype := 0x0B, cls := 4, order := 1, dst := 0xFF0000, src := 0xFF0000, length := 0, w5 := 3 * 2 ^ 30, w6 := 7 * 2 ^ 12 + 19 }, payload := [], complete := true }], egress := [⟨513, 4, 9, 1, none, false⟩] } }).dev.frole
        (2 : Nat) = 2 ∧
        ({ upState [(.fmem_win_state_state, 2, 5), (.fmem_win_cfg_window, 2, 3), (.fmem_win_cfg_role, 2, 2), (.fmem_win_cfg_writable, 2, 1), (.fmem_win_src_src_limit, 2, 0xFFFFFF), (.sched_echo_ctrl_echo_enable, 0, 0)] with dev := { (upState [(.fmem_win_state_state, 2, 5), (.fmem_win_cfg_window, 2, 3), (.fmem_win_cfg_role, 2, 2), (.fmem_win_cfg_writable, 2, 1), (.fmem_win_src_src_limit, 2, 0xFFFFFF), (.sched_echo_ctrl_echo_enable, 0, 0)]).dev with frames := [{ id := 9, input := 3, hdr := { ftype := 0x0B, cls := 4, order := 1, dst := 0xFF0000, src := 0xFF0000, length := 0, w5 := 3 * 2 ^ 30, w6 := 7 * 2 ^ 12 + 19 }, payload := [], complete := true }], egress := [⟨513, 4, 9, 1, none, false⟩] } }).dev.fstate
        (2 : Nat) ≠ fsDRAINING) ∧
    (((upState [(.fmem_win_state_state, 2, 2), (.fmem_win_cfg_window, 2, 3), (.fmem_win_cfg_role, 2, 1),
        (.fmem_win_cfg_writable, 2, 1), (.fmem_win_src_src_limit, 2, 0xFFFFFF), (.sched_echo_ctrl_echo_enable, 0,
        0)])).dev.frole (2 : Fin 409) = 1 ∧ (((upState [(.fmem_win_state_state, 2, 2), (.fmem_win_cfg_window, 2, 3),
        (.fmem_win_cfg_role, 2, 1), (.fmem_win_cfg_writable, 2, 1), (.fmem_win_src_src_limit, 2, 0xFFFFFF),
        (.sched_echo_ctrl_echo_enable, 0, 0)])).dev.fstate (2 : Fin 409) = fsACTIVE ∨ ((upState [(.fmem_win_state_state, 2, 2),
        (.fmem_win_cfg_window, 2, 3), (.fmem_win_cfg_role, 2, 1), (.fmem_win_cfg_writable, 2, 1), (.fmem_win_src_src_limit, 2,
        0xFFFFFF), (.sched_echo_ctrl_echo_enable, 0, 0)])).dev.fstate (2 : Fin 409) = fsRESYNC)) ∧
    (({ upState [(.fmem_win_state_state, 2, 2), (.fmem_win_cfg_window, 2, 3), (.fmem_win_cfg_role, 2, 1), (.fmem_win_cfg_writable, 2, 1), (.fmem_win_src_src_limit, 2, 0xFFFFFF), (.sched_echo_ctrl_echo_enable, 0, 0)] with dev := { (upState [(.fmem_win_state_state, 2, 2), (.fmem_win_cfg_window, 2, 3), (.fmem_win_cfg_role, 2, 1), (.fmem_win_cfg_writable, 2, 1), (.fmem_win_src_src_limit, 2, 0xFFFFFF), (.sched_echo_ctrl_echo_enable, 0, 0)]).dev with fpushes := [{ num := 7, frame := 2 }] } }).dev.frole
        (2 : Fin 409) = 1 ∧
        (({ upState [(.fmem_win_state_state, 2, 2), (.fmem_win_cfg_window, 2, 3), (.fmem_win_cfg_role, 2, 1), (.fmem_win_cfg_writable, 2, 1), (.fmem_win_src_src_limit, 2, 0xFFFFFF), (.sched_echo_ctrl_echo_enable, 0, 0)] with dev := { (upState [(.fmem_win_state_state, 2, 2), (.fmem_win_cfg_window, 2, 3), (.fmem_win_cfg_role, 2, 1), (.fmem_win_cfg_writable, 2, 1), (.fmem_win_src_src_limit, 2, 0xFFFFFF), (.sched_echo_ctrl_echo_enable, 0, 0)]).dev with fpushes := [{ num := 7, frame := 2 }] } }).dev.fstate
        (2 : Fin 409) = fsACTIVE ∨
        ({ upState [(.fmem_win_state_state, 2, 2), (.fmem_win_cfg_window, 2, 3), (.fmem_win_cfg_role, 2, 1), (.fmem_win_cfg_writable, 2, 1), (.fmem_win_src_src_limit, 2, 0xFFFFFF), (.sched_echo_ctrl_echo_enable, 0, 0)] with dev := { (upState [(.fmem_win_state_state, 2, 2), (.fmem_win_cfg_window, 2, 3), (.fmem_win_cfg_role, 2, 1), (.fmem_win_cfg_writable, 2, 1), (.fmem_win_src_src_limit, 2, 0xFFFFFF), (.sched_echo_ctrl_echo_enable, 0, 0)]).dev with fpushes := [{ num := 7, frame := 2 }] } }).dev.fstate
        (2 : Fin 409) = fsRESYNC)) ∧
    (({ upState [(.fmem_win_state_state, 2, 2), (.fmem_win_cfg_window, 2, 3), (.fmem_win_cfg_role, 2, 1), (.fmem_win_cfg_writable, 2, 1), (.fmem_win_src_src_limit, 2, 0xFFFFFF), (.sched_echo_ctrl_echo_enable, 0, 0)] with dev := { (upState [(.fmem_win_state_state, 2, 2), (.fmem_win_cfg_window, 2, 3), (.fmem_win_cfg_role, 2, 1), (.fmem_win_cfg_writable, 2, 1), (.fmem_win_src_src_limit, 2, 0xFFFFFF), (.sched_echo_ctrl_echo_enable, 0, 0)]).dev with fpushes := [{ num := 7, frame := 2 }] } }).dev.fpushes.any
        (fun (p : MPush) => p.frame == (2 : Fin 409).val) = true) ∧
    (((upState [(.fmem_win_state_state, 2, 2), (.fmem_win_cfg_window, 2, 3), (.fmem_win_cfg_role, 2, 2),
        (.fmem_win_cfg_writable, 2, 1), (.fmem_win_src_src_limit, 2, 0xFFFFFF), (.sched_echo_ctrl_echo_enable, 0,
        0)])).dev.frole (2 : Fin 409) = 2 ∧ (((upState [(.fmem_win_state_state, 2, 2), (.fmem_win_cfg_window, 2, 3),
        (.fmem_win_cfg_role, 2, 2), (.fmem_win_cfg_writable, 2, 1), (.fmem_win_src_src_limit, 2, 0xFFFFFF),
        (.sched_echo_ctrl_echo_enable, 0, 0)])).dev.fstate (2 : Fin 409) = fsACTIVE ∨ ((upState [(.fmem_win_state_state, 2, 2),
        (.fmem_win_cfg_window, 2, 3), (.fmem_win_cfg_role, 2, 2), (.fmem_win_cfg_writable, 2, 1), (.fmem_win_src_src_limit, 2,
        0xFFFFFF), (.sched_echo_ctrl_echo_enable, 0, 0)])).dev.fstate (2 : Fin 409) = fsRESYNC)) ∧
    (({ upState [(.fmem_win_state_state, 2, 5), (.fmem_win_cfg_window, 2, 3), (.fmem_win_cfg_role, 2, 1), (.fmem_win_cfg_writable, 2, 1), (.fmem_win_src_src_limit, 2, 0xFFFFFF), (.sched_echo_ctrl_echo_enable, 0, 0)] with dev := { (upState [(.fmem_win_state_state, 2, 5), (.fmem_win_cfg_window, 2, 3), (.fmem_win_cfg_role, 2, 1), (.fmem_win_cfg_writable, 2, 1), (.fmem_win_src_src_limit, 2, 0xFFFFFF), (.sched_echo_ctrl_echo_enable, 0, 0)]).dev with fdirty := ⟨[(2, [(5, 9)])]⟩ } }).dev.fstate
        (2 : Fin 409) = fsRESYNC ∧
        ({ upState [(.fmem_win_state_state, 2, 5), (.fmem_win_cfg_window, 2, 3), (.fmem_win_cfg_role, 2, 1), (.fmem_win_cfg_writable, 2, 1), (.fmem_win_src_src_limit, 2, 0xFFFFFF), (.sched_echo_ctrl_echo_enable, 0, 0)] with dev := { (upState [(.fmem_win_state_state, 2, 5), (.fmem_win_cfg_window, 2, 3), (.fmem_win_cfg_role, 2, 1), (.fmem_win_cfg_writable, 2, 1), (.fmem_win_src_src_limit, 2, 0xFFFFFF), (.sched_echo_ctrl_echo_enable, 0, 0)]).dev with fdirty := ⟨[(2, [(5, 9)])]⟩ } }).dev.frole
        (2 : Fin 409) = 1) ∧
    (ivFirst
        (({ upState [(.fmem_win_state_state, 2, 5), (.fmem_win_cfg_window, 2, 3), (.fmem_win_cfg_role, 2, 1), (.fmem_win_cfg_writable, 2, 1), (.fmem_win_src_src_limit, 2, 0xFFFFFF), (.sched_echo_ctrl_echo_enable, 0, 0)] with dev := { (upState [(.fmem_win_state_state, 2, 5), (.fmem_win_cfg_window, 2, 3), (.fmem_win_cfg_role, 2, 1), (.fmem_win_cfg_writable, 2, 1), (.fmem_win_src_src_limit, 2, 0xFFFFFF), (.sched_echo_ctrl_echo_enable, 0, 0)]).dev with fdirty := ⟨[(2, [(5, 9)])]⟩ } }).dev.dirty
        (2 : Fin 409))
        (({ upState [(.fmem_win_state_state, 2, 5), (.fmem_win_cfg_window, 2, 3), (.fmem_win_cfg_role, 2, 1), (.fmem_win_cfg_writable, 2, 1), (.fmem_win_src_src_limit, 2, 0xFFFFFF), (.sched_echo_ctrl_echo_enable, 0, 0)] with dev := { (upState [(.fmem_win_state_state, 2, 5), (.fmem_win_cfg_window, 2, 3), (.fmem_win_cfg_role, 2, 1), (.fmem_win_cfg_writable, 2, 1), (.fmem_win_src_src_limit, 2, 0xFFFFFF), (.sched_echo_ctrl_echo_enable, 0, 0)]).dev with fdirty := ⟨[(2, [(5, 9)])]⟩ } }).dev.fpushes.filterMap
        (fun (p : MPush) => if p.frame = (2 : Fin 409).val then p.gran else none)) = some (5 : Nat)) ∧
    (((upState [])).dev.domainOn 9 = true ∧ ((false : Bool) = false ∨ ((upState [])).dev.flag .memc_ch_status_hot (5 : Fin 64) =
        true)) ∧
    (((upState [])).dev.domainOn 9 = true ∧ (true : Bool) = true ∧ ((upState [])).dev.flag .memc_ch_status_hot (5 : Fin 64) =
        false) ∧
    (((upState [])).dev.domainOn 9 = true ∧ ((upState [])).dev.flag .memc_ctrl_scrub_en = true ∧ ((upState [])).dev.get .h_scrub
        (5 : Fin 64) < scrubStripes) := by
  refine ⟨?_, ?_, ?_, ?_, ?_, ?_, ?_, ?_, ?_, ?_, ?_, ?_, ?_, ?_, ?_, ?_, ?_⟩ <;>
    decide +kernel

/-- States and operands that meet the premises of `Obligations.TimeExchangesAndStates`, clause by clause. -/
theorem witness_TimeExchangesAndStates :
    (((upState [(.port_cfg_role, 5, 2), (.port_status_link_status, 5, 8), (.port_status_agreed_features, 5, 0xFF),
        (.time_parent_parent_port, 0, 5), (.time_parent_parent_en, 0, 1), (.time_ctrl_servo_en, 0, 1), (.xbar_int_quota_iq_int,
        3, 100)])).dev.flag .time_ctrl_servo_en = true ∧ ((upState [(.port_cfg_role, 5, 2), (.port_status_link_status, 5, 8),
        (.port_status_agreed_features, 5, 0xFF), (.time_parent_parent_port, 0, 5), (.time_parent_parent_en, 0, 1),
        (.time_ctrl_servo_en, 0, 1), (.xbar_int_quota_iq_int, 3, 100)])).dev.tportUp (b2n (false : Bool)) = true ∧ ((upState
        [(.port_cfg_role, 5, 2), (.port_status_link_status, 5, 8), (.port_status_agreed_features, 5, 0xFF),
        (.time_parent_parent_port, 0, 5), (.time_parent_parent_en, 0, 1), (.time_ctrl_servo_en, 0, 1), (.xbar_int_quota_iq_int,
        3, 100)])).dev.inputFits 515 (cellCost 32) = true) ∧
    (({ upState [(.port_cfg_role, 5, 2), (.port_status_link_status, 5, 8), (.port_status_agreed_features, 5, 0xFF), (.time_parent_parent_port, 0, 5), (.time_parent_parent_en, 0, 1), (.time_ctrl_servo_en, 0, 1), (.xbar_int_quota_iq_int, 3, 100)] with dev := { (upState [(.port_cfg_role, 5, 2), (.port_status_link_status, 5, 8), (.port_status_agreed_features, 5, 0xFF), (.time_parent_parent_port, 0, 5), (.time_parent_parent_en, 0, 1), (.time_ctrl_servo_en, 0, 1), (.xbar_int_quota_iq_int, 3, 100)]).dev with frames := [{ id := 9, input := 5, hdr := { ftype := 3, cls := 7, order := 1, dst := 0xFF0000, src := 0x200, length := 32, w6 := 7 * 2 ^ 12 + 1 * 2 ^ 6 }, payload := List.replicate 32 0, complete := true, arrival := some 5 }], egress := [⟨515, 7, 9, 1, none, false⟩] } }).dev.timeHead
        1 = some
        (({ id := 9, input := 5, hdr := { ftype := 3, cls := 7, order := 1, dst := 0xFF0000, src := 0x200, length := 32, w6 := 7 * 2 ^ 12 + 1 * 2 ^ 6 }, payload := List.replicate 32 0, complete := true, arrival := some 5 }
        : Frame), (5 : Nat)) ∧
        ({ upState [(.port_cfg_role, 5, 2), (.port_status_link_status, 5, 8), (.port_status_agreed_features, 5, 0xFF), (.time_parent_parent_port, 0, 5), (.time_parent_parent_en, 0, 1), (.time_ctrl_servo_en, 0, 1), (.xbar_int_quota_iq_int, 3, 100)] with dev := { (upState [(.port_cfg_role, 5, 2), (.port_status_link_status, 5, 8), (.port_status_agreed_features, 5, 0xFF), (.time_parent_parent_port, 0, 5), (.time_parent_parent_en, 0, 1), (.time_ctrl_servo_en, 0, 1), (.xbar_int_quota_iq_int, 3, 100)]).dev with frames := [{ id := 9, input := 5, hdr := { ftype := 3, cls := 7, order := 1, dst := 0xFF0000, src := 0x200, length := 32, w6 := 7 * 2 ^ 12 + 1 * 2 ^ 6 }, payload := List.replicate 32 0, complete := true, arrival := some 5 }], egress := [⟨515, 7, 9, 1, none, false⟩] } }).dev.get
        .h_treq_sec (5 : Nat) =
        ({ upState [(.port_cfg_role, 5, 2), (.port_status_link_status, 5, 8), (.port_status_agreed_features, 5, 0xFF), (.time_parent_parent_port, 0, 5), (.time_parent_parent_en, 0, 1), (.time_ctrl_servo_en, 0, 1), (.xbar_int_quota_iq_int, 3, 100)] with dev := { (upState [(.port_cfg_role, 5, 2), (.port_status_link_status, 5, 8), (.port_status_agreed_features, 5, 0xFF), (.time_parent_parent_port, 0, 5), (.time_parent_parent_en, 0, 1), (.time_ctrl_servo_en, 0, 1), (.xbar_int_quota_iq_int, 3, 100)]).dev with frames := [{ id := 9, input := 5, hdr := { ftype := 3, cls := 7, order := 1, dst := 0xFF0000, src := 0x200, length := 32, w6 := 7 * 2 ^ 12 + 1 * 2 ^ 6 }, payload := List.replicate 32 0, complete := true, arrival := some 5 }], egress := [⟨515, 7, 9, 1, none, false⟩] } }).dev.localNs
        / 1000000000 ∧
        ({ upState [(.port_cfg_role, 5, 2), (.port_status_link_status, 5, 8), (.port_status_agreed_features, 5, 0xFF), (.time_parent_parent_port, 0, 5), (.time_parent_parent_en, 0, 1), (.time_ctrl_servo_en, 0, 1), (.xbar_int_quota_iq_int, 3, 100)] with dev := { (upState [(.port_cfg_role, 5, 2), (.port_status_link_status, 5, 8), (.port_status_agreed_features, 5, 0xFF), (.time_parent_parent_port, 0, 5), (.time_parent_parent_en, 0, 1), (.time_ctrl_servo_en, 0, 1), (.xbar_int_quota_iq_int, 3, 100)]).dev with frames := [{ id := 9, input := 5, hdr := { ftype := 3, cls := 7, order := 1, dst := 0xFF0000, src := 0x200, length := 32, w6 := 7 * 2 ^ 12 + 1 * 2 ^ 6 }, payload := List.replicate 32 0, complete := true, arrival := some 5 }], egress := [⟨515, 7, 9, 1, none, false⟩] } }).dev.get
        .h_treq_n (5 : Nat) < 2048) ∧
    ((({ upState [(.port_cfg_role, 5, 2), (.port_status_link_status, 5, 8), (.port_status_agreed_features, 5, 0xFF), (.time_parent_parent_port, 0, 5), (.time_parent_parent_en, 0, 1), (.time_ctrl_servo_en, 0, 1), (.xbar_int_quota_iq_int, 3, 100)] with dev := { (upState [(.port_cfg_role, 5, 2), (.port_status_link_status, 5, 8), (.port_status_agreed_features, 5, 0xFF), (.time_parent_parent_port, 0, 5), (.time_parent_parent_en, 0, 1), (.time_ctrl_servo_en, 0, 1), (.xbar_int_quota_iq_int, 3, 100)]).dev with frames := [{ id := 9, input := 5, hdr := { ftype := 3, cls := 7, order := 1, dst := 0xFF0000, src := 0x200, length := 32, w6 := 7 * 2 ^ 12 + 1 * 2 ^ 6 }, payload := List.replicate 32 0, complete := true, arrival := some 5 }], egress := [⟨515, 7, 9, 1, none, false⟩] } }).dev.role
        (5 : Nat) = roleDOWN ∨
        ({ upState [(.port_cfg_role, 5, 2), (.port_status_link_status, 5, 8), (.port_status_agreed_features, 5, 0xFF), (.time_parent_parent_port, 0, 5), (.time_parent_parent_en, 0, 1), (.time_ctrl_servo_en, 0, 1), (.xbar_int_quota_iq_int, 3, 100)] with dev := { (upState [(.port_cfg_role, 5, 2), (.port_status_link_status, 5, 8), (.port_status_agreed_features, 5, 0xFF), (.time_parent_parent_port, 0, 5), (.time_parent_parent_en, 0, 1), (.time_ctrl_servo_en, 0, 1), (.xbar_int_quota_iq_int, 3, 100)]).dev with frames := [{ id := 9, input := 5, hdr := { ftype := 3, cls := 7, order := 1, dst := 0xFF0000, src := 0x200, length := 32, w6 := 7 * 2 ^ 12 + 1 * 2 ^ 6 }, payload := List.replicate 32 0, complete := true, arrival := some 5 }], egress := [⟨515, 7, 9, 1, none, false⟩] } }).dev.role
        (5 : Nat) = roleAXIS ∨
        ({ upState [(.port_cfg_role, 5, 2), (.port_status_link_status, 5, 8), (.port_status_agreed_features, 5, 0xFF), (.time_parent_parent_port, 0, 5), (.time_parent_parent_en, 0, 1), (.time_ctrl_servo_en, 0, 1), (.xbar_int_quota_iq_int, 3, 100)] with dev := { (upState [(.port_cfg_role, 5, 2), (.port_status_link_status, 5, 8), (.port_status_agreed_features, 5, 0xFF), (.time_parent_parent_port, 0, 5), (.time_parent_parent_en, 0, 1), (.time_ctrl_servo_en, 0, 1), (.xbar_int_quota_iq_int, 3, 100)]).dev with frames := [{ id := 9, input := 5, hdr := { ftype := 3, cls := 7, order := 1, dst := 0xFF0000, src := 0x200, length := 32, w6 := 7 * 2 ^ 12 + 1 * 2 ^ 6 }, payload := List.replicate 32 0, complete := true, arrival := some 5 }], egress := [⟨515, 7, 9, 1, none, false⟩] } }).dev.role
        (5 : Nat) = roleSERVICE) ∧
        ({ upState [(.port_cfg_role, 5, 2), (.port_status_link_status, 5, 8), (.port_status_agreed_features, 5, 0xFF), (.time_parent_parent_port, 0, 5), (.time_parent_parent_en, 0, 1), (.time_ctrl_servo_en, 0, 1), (.xbar_int_quota_iq_int, 3, 100)] with dev := { (upState [(.port_cfg_role, 5, 2), (.port_status_link_status, 5, 8), (.port_status_agreed_features, 5, 0xFF), (.time_parent_parent_port, 0, 5), (.time_parent_parent_en, 0, 1), (.time_ctrl_servo_en, 0, 1), (.xbar_int_quota_iq_int, 3, 100)]).dev with frames := [{ id := 9, input := 5, hdr := { ftype := 3, cls := 7, order := 1, dst := 0xFF0000, src := 0x200, length := 32, w6 := 7 * 2 ^ 12 + 1 * 2 ^ 6 }, payload := List.replicate 32 0, complete := true, arrival := some 5 }], egress := [⟨515, 7, 9, 1, none, false⟩] } }).dev.hasFeature
        (5 : Nat) ftTIME = true ∧
        (({ upState [(.port_cfg_role, 5, 2), (.port_status_link_status, 5, 8), (.port_status_agreed_features, 5, 0xFF), (.time_parent_parent_port, 0, 5), (.time_parent_parent_en, 0, 1), (.time_ctrl_servo_en, 0, 1), (.xbar_int_quota_iq_int, 3, 100)] with dev := { (upState [(.port_cfg_role, 5, 2), (.port_status_link_status, 5, 8), (.port_status_agreed_features, 5, 0xFF), (.time_parent_parent_port, 0, 5), (.time_parent_parent_en, 0, 1), (.time_ctrl_servo_en, 0, 1), (.xbar_int_quota_iq_int, 3, 100)]).dev with frames := [{ id := 9, input := 5, hdr := { ftype := 3, cls := 7, order := 1, dst := 0xFF0000, src := 0x200, length := 32, w6 := 7 * 2 ^ 12 + 1 * 2 ^ 6 }, payload := List.replicate 32 0, complete := true, arrival := some 5 }], egress := [⟨515, 7, 9, 1, none, false⟩] } }).dev.takeInternal
        515
        ({ id := 9, input := 5, hdr := { ftype := 3, cls := 7, order := 1, dst := 0xFF0000, src := 0x200, length := 32, w6 := 7 * 2 ^ 12 + 1 * 2 ^ 6 }, payload := List.replicate 32 0, complete := true, arrival := some 5 }
        : Frame)).inputFits 515 (cellCost 32) = true) ∧
    (({ upState [(.port_cfg_role, 5, 2), (.port_status_link_status, 5, 8), (.port_status_agreed_features, 5, 0xFF), (.time_parent_parent_port, 0, 5), (.time_parent_parent_en, 0, 1), (.time_ctrl_servo_en, 0, 1), (.xbar_int_quota_iq_int, 3, 100), (.h_treq_n, 5, 2048)] with dev := { (upState [(.port_cfg_role, 5, 2), (.port_status_link_status, 5, 8), (.port_status_agreed_features, 5, 0xFF), (.time_parent_parent_port, 0, 5), (.time_parent_parent_en, 0, 1), (.time_ctrl_servo_en, 0, 1), (.xbar_int_quota_iq_int, 3, 100), (.h_treq_n, 5, 2048)]).dev with frames := [{ id := 9, input := 5, hdr := { ftype := 3, cls := 7, order := 1, dst := 0xFF0000, src := 0x200, length := 32, w6 := 7 * 2 ^ 12 + 1 * 2 ^ 6 }, payload := List.replicate 32 0, complete := true, arrival := some 5 }], egress := [⟨515, 7, 9, 1, none, false⟩] } }).dev.timeHead
        1 = some
        (({ id := 9, input := 5, hdr := { ftype := 3, cls := 7, order := 1, dst := 0xFF0000, src := 0x200, length := 32, w6 := 7 * 2 ^ 12 + 1 * 2 ^ 6 }, payload := List.replicate 32 0, complete := true, arrival := some 5 }
        : Frame), (5 : Nat)) ∧
        ({ upState [(.port_cfg_role, 5, 2), (.port_status_link_status, 5, 8), (.port_status_agreed_features, 5, 0xFF), (.time_parent_parent_port, 0, 5), (.time_parent_parent_en, 0, 1), (.time_ctrl_servo_en, 0, 1), (.xbar_int_quota_iq_int, 3, 100), (.h_treq_n, 5, 2048)] with dev := { (upState [(.port_cfg_role, 5, 2), (.port_status_link_status, 5, 8), (.port_status_agreed_features, 5, 0xFF), (.time_parent_parent_port, 0, 5), (.time_parent_parent_en, 0, 1), (.time_ctrl_servo_en, 0, 1), (.xbar_int_quota_iq_int, 3, 100), (.h_treq_n, 5, 2048)]).dev with frames := [{ id := 9, input := 5, hdr := { ftype := 3, cls := 7, order := 1, dst := 0xFF0000, src := 0x200, length := 32, w6 := 7 * 2 ^ 12 + 1 * 2 ^ 6 }, payload := List.replicate 32 0, complete := true, arrival := some 5 }], egress := [⟨515, 7, 9, 1, none, false⟩] } }).dev.get
        .h_treq_sec (5 : Nat) =
        ({ upState [(.port_cfg_role, 5, 2), (.port_status_link_status, 5, 8), (.port_status_agreed_features, 5, 0xFF), (.time_parent_parent_port, 0, 5), (.time_parent_parent_en, 0, 1), (.time_ctrl_servo_en, 0, 1), (.xbar_int_quota_iq_int, 3, 100), (.h_treq_n, 5, 2048)] with dev := { (upState [(.port_cfg_role, 5, 2), (.port_status_link_status, 5, 8), (.port_status_agreed_features, 5, 0xFF), (.time_parent_parent_port, 0, 5), (.time_parent_parent_en, 0, 1), (.time_ctrl_servo_en, 0, 1), (.xbar_int_quota_iq_int, 3, 100), (.h_treq_n, 5, 2048)]).dev with frames := [{ id := 9, input := 5, hdr := { ftype := 3, cls := 7, order := 1, dst := 0xFF0000, src := 0x200, length := 32, w6 := 7 * 2 ^ 12 + 1 * 2 ^ 6 }, payload := List.replicate 32 0, complete := true, arrival := some 5 }], egress := [⟨515, 7, 9, 1, none, false⟩] } }).dev.localNs
        / 1000000000 ∧ 2048 ≤
        ({ upState [(.port_cfg_role, 5, 2), (.port_status_link_status, 5, 8), (.port_status_agreed_features, 5, 0xFF), (.time_parent_parent_port, 0, 5), (.time_parent_parent_en, 0, 1), (.time_ctrl_servo_en, 0, 1), (.xbar_int_quota_iq_int, 3, 100), (.h_treq_n, 5, 2048)] with dev := { (upState [(.port_cfg_role, 5, 2), (.port_status_link_status, 5, 8), (.port_status_agreed_features, 5, 0xFF), (.time_parent_parent_port, 0, 5), (.time_parent_parent_en, 0, 1), (.time_ctrl_servo_en, 0, 1), (.xbar_int_quota_iq_int, 3, 100), (.h_treq_n, 5, 2048)]).dev with frames := [{ id := 9, input := 5, hdr := { ftype := 3, cls := 7, order := 1, dst := 0xFF0000, src := 0x200, length := 32, w6 := 7 * 2 ^ 12 + 1 * 2 ^ 6 }, payload := List.replicate 32 0, complete := true, arrival := some 5 }], egress := [⟨515, 7, 9, 1, none, false⟩] } }).dev.get
        .h_treq_n (5 : Nat)) ∧
    (({ upState [(.port_cfg_role, 5, 2), (.port_status_link_status, 5, 8), (.port_status_agreed_features, 5, 0xFF), (.time_parent_parent_port, 0, 5), (.time_parent_parent_en, 0, 1), (.time_ctrl_servo_en, 0, 1), (.xbar_int_quota_iq_int, 3, 100), (.h_treq_out, 0, 1), (.h_treq_seq, 0, 7)] with dev := { (upState [(.port_cfg_role, 5, 2), (.port_status_link_status, 5, 8), (.port_status_agreed_features, 5, 0xFF), (.time_parent_parent_port, 0, 5), (.time_parent_parent_en, 0, 1), (.time_ctrl_servo_en, 0, 1), (.xbar_int_quota_iq_int, 3, 100), (.h_treq_out, 0, 1), (.h_treq_seq, 0, 7)]).dev with frames := [{ id := 9, input := 5, hdr := { ftype := 3, cls := 7, order := 1, dst := 0xFF0000, src := 0x200, length := 32, w6 := 7 * 2 ^ 12 + 2 * 2 ^ 6 }, payload := List.replicate 32 0, complete := true, arrival := some 5 }], egress := [⟨515, 7, 9, 1, none, false⟩] } }).dev.timeHead
        2 = some
        (({ id := 9, input := 5, hdr := { ftype := 3, cls := 7, order := 1, dst := 0xFF0000, src := 0x200, length := 32, w6 := 7 * 2 ^ 12 + 2 * 2 ^ 6 }, payload := List.replicate 32 0, complete := true, arrival := some 5 }
        : Frame), (5 : Nat))) ∧
    (firstBelow 2 (fun j =>
        ({ upState [(.port_cfg_role, 5, 2), (.port_status_link_status, 5, 8), (.port_status_agreed_features, 5, 0xFF), (.time_parent_parent_port, 0, 5), (.time_parent_parent_en, 0, 1), (.time_ctrl_servo_en, 0, 1), (.xbar_int_quota_iq_int, 3, 100), (.h_treq_out, 0, 1), (.h_treq_seq, 0, 7)] with dev := { (upState [(.port_cfg_role, 5, 2), (.port_status_link_status, 5, 8), (.port_status_agreed_features, 5, 0xFF), (.time_parent_parent_port, 0, 5), (.time_parent_parent_en, 0, 1), (.time_ctrl_servo_en, 0, 1), (.xbar_int_quota_iq_int, 3, 100), (.h_treq_out, 0, 1), (.h_treq_seq, 0, 7)]).dev with frames := [{ id := 9, input := 5, hdr := { ftype := 3, cls := 7, order := 1, dst := 0xFF0000, src := 0x200, length := 32, w6 := 7 * 2 ^ 12 + 2 * 2 ^ 6 }, payload := List.replicate 32 0, complete := true, arrival := some 5 }], egress := [⟨515, 7, 9, 1, none, false⟩] } }).dev.tport
        j == (5 : Nat) &&
        ({ upState [(.port_cfg_role, 5, 2), (.port_status_link_status, 5, 8), (.port_status_agreed_features, 5, 0xFF), (.time_parent_parent_port, 0, 5), (.time_parent_parent_en, 0, 1), (.time_ctrl_servo_en, 0, 1), (.xbar_int_quota_iq_int, 3, 100), (.h_treq_out, 0, 1), (.h_treq_seq, 0, 7)] with dev := { (upState [(.port_cfg_role, 5, 2), (.port_status_link_status, 5, 8), (.port_status_agreed_features, 5, 0xFF), (.time_parent_parent_port, 0, 5), (.time_parent_parent_en, 0, 1), (.time_ctrl_servo_en, 0, 1), (.xbar_int_quota_iq_int, 3, 100), (.h_treq_out, 0, 1), (.h_treq_seq, 0, 7)]).dev with frames := [{ id := 9, input := 5, hdr := { ftype := 3, cls := 7, order := 1, dst := 0xFF0000, src := 0x200, length := 32, w6 := 7 * 2 ^ 12 + 2 * 2 ^ 6 }, payload := List.replicate 32 0, complete := true, arrival := some 5 }], egress := [⟨515, 7, 9, 1, none, false⟩] } }).dev.tportUp
        j &&
        ({ upState [(.port_cfg_role, 5, 2), (.port_status_link_status, 5, 8), (.port_status_agreed_features, 5, 0xFF), (.time_parent_parent_port, 0, 5), (.time_parent_parent_en, 0, 1), (.time_ctrl_servo_en, 0, 1), (.xbar_int_quota_iq_int, 3, 100), (.h_treq_out, 0, 1), (.h_treq_seq, 0, 7)] with dev := { (upState [(.port_cfg_role, 5, 2), (.port_status_link_status, 5, 8), (.port_status_agreed_features, 5, 0xFF), (.time_parent_parent_port, 0, 5), (.time_parent_parent_en, 0, 1), (.time_ctrl_servo_en, 0, 1), (.xbar_int_quota_iq_int, 3, 100), (.h_treq_out, 0, 1), (.h_treq_seq, 0, 7)]).dev with frames := [{ id := 9, input := 5, hdr := { ftype := 3, cls := 7, order := 1, dst := 0xFF0000, src := 0x200, length := 32, w6 := 7 * 2 ^ 12 + 2 * 2 ^ 6 }, payload := List.replicate 32 0, complete := true, arrival := some 5 }], egress := [⟨515, 7, 9, 1, none, false⟩] } }).dev.flag
        .h_treq_out j &&
        ({ upState [(.port_cfg_role, 5, 2), (.port_status_link_status, 5, 8), (.port_status_agreed_features, 5, 0xFF), (.time_parent_parent_port, 0, 5), (.time_parent_parent_en, 0, 1), (.time_ctrl_servo_en, 0, 1), (.xbar_int_quota_iq_int, 3, 100), (.h_treq_out, 0, 1), (.h_treq_seq, 0, 7)] with dev := { (upState [(.port_cfg_role, 5, 2), (.port_status_link_status, 5, 8), (.port_status_agreed_features, 5, 0xFF), (.time_parent_parent_port, 0, 5), (.time_parent_parent_en, 0, 1), (.time_ctrl_servo_en, 0, 1), (.xbar_int_quota_iq_int, 3, 100), (.h_treq_out, 0, 1), (.h_treq_seq, 0, 7)]).dev with frames := [{ id := 9, input := 5, hdr := { ftype := 3, cls := 7, order := 1, dst := 0xFF0000, src := 0x200, length := 32, w6 := 7 * 2 ^ 12 + 2 * 2 ^ 6 }, payload := List.replicate 32 0, complete := true, arrival := some 5 }], egress := [⟨515, 7, 9, 1, none, false⟩] } }).dev.get
        .h_treq_seq j ==
        ({ id := 9, input := 5, hdr := { ftype := 3, cls := 7, order := 1, dst := 0xFF0000, src := 0x200, length := 32, w6 := 7 * 2 ^ 12 + 2 * 2 ^ 6 }, payload := List.replicate 32 0, complete := true, arrival := some 5 }
        : Frame).hdr.reqid) = some (0 : Nat)) ∧
    (({ upState [(.port_cfg_role, 5, 2), (.port_status_link_status, 5, 8), (.port_status_agreed_features, 5, 0xFF), (.time_parent_parent_port, 0, 5), (.time_parent_parent_en, 0, 1), (.time_ctrl_servo_en, 0, 1), (.xbar_int_quota_iq_int, 3, 100)] with dev := { (upState [(.port_cfg_role, 5, 2), (.port_status_link_status, 5, 8), (.port_status_agreed_features, 5, 0xFF), (.time_parent_parent_port, 0, 5), (.time_parent_parent_en, 0, 1), (.time_ctrl_servo_en, 0, 1), (.xbar_int_quota_iq_int, 3, 100)]).dev with frames := [{ id := 9, input := 5, hdr := { ftype := 3, cls := 7, order := 1, dst := 0xFF0000, src := 0x200, length := 32, w6 := 7 * 2 ^ 12 + 2 * 2 ^ 6 }, payload := List.replicate 32 0, complete := true, arrival := some 5 }], egress := [⟨515, 7, 9, 1, none, false⟩] } }).dev.timeHead
        2 = some
        (({ id := 9, input := 5, hdr := { ftype := 3, cls := 7, order := 1, dst := 0xFF0000, src := 0x200, length := 32, w6 := 7 * 2 ^ 12 + 2 * 2 ^ 6 }, payload := List.replicate 32 0, complete := true, arrival := some 5 }
        : Frame), (5 : Nat))) ∧
    (firstBelow 2 (fun j =>
        ({ upState [(.port_cfg_role, 5, 2), (.port_status_link_status, 5, 8), (.port_status_agreed_features, 5, 0xFF), (.time_parent_parent_port, 0, 5), (.time_parent_parent_en, 0, 1), (.time_ctrl_servo_en, 0, 1), (.xbar_int_quota_iq_int, 3, 100)] with dev := { (upState [(.port_cfg_role, 5, 2), (.port_status_link_status, 5, 8), (.port_status_agreed_features, 5, 0xFF), (.time_parent_parent_port, 0, 5), (.time_parent_parent_en, 0, 1), (.time_ctrl_servo_en, 0, 1), (.xbar_int_quota_iq_int, 3, 100)]).dev with frames := [{ id := 9, input := 5, hdr := { ftype := 3, cls := 7, order := 1, dst := 0xFF0000, src := 0x200, length := 32, w6 := 7 * 2 ^ 12 + 2 * 2 ^ 6 }, payload := List.replicate 32 0, complete := true, arrival := some 5 }], egress := [⟨515, 7, 9, 1, none, false⟩] } }).dev.tport
        j == (5 : Nat) &&
        ({ upState [(.port_cfg_role, 5, 2), (.port_status_link_status, 5, 8), (.port_status_agreed_features, 5, 0xFF), (.time_parent_parent_port, 0, 5), (.time_parent_parent_en, 0, 1), (.time_ctrl_servo_en, 0, 1), (.xbar_int_quota_iq_int, 3, 100)] with dev := { (upState [(.port_cfg_role, 5, 2), (.port_status_link_status, 5, 8), (.port_status_agreed_features, 5, 0xFF), (.time_parent_parent_port, 0, 5), (.time_parent_parent_en, 0, 1), (.time_ctrl_servo_en, 0, 1), (.xbar_int_quota_iq_int, 3, 100)]).dev with frames := [{ id := 9, input := 5, hdr := { ftype := 3, cls := 7, order := 1, dst := 0xFF0000, src := 0x200, length := 32, w6 := 7 * 2 ^ 12 + 2 * 2 ^ 6 }, payload := List.replicate 32 0, complete := true, arrival := some 5 }], egress := [⟨515, 7, 9, 1, none, false⟩] } }).dev.tportUp
        j &&
        ({ upState [(.port_cfg_role, 5, 2), (.port_status_link_status, 5, 8), (.port_status_agreed_features, 5, 0xFF), (.time_parent_parent_port, 0, 5), (.time_parent_parent_en, 0, 1), (.time_ctrl_servo_en, 0, 1), (.xbar_int_quota_iq_int, 3, 100)] with dev := { (upState [(.port_cfg_role, 5, 2), (.port_status_link_status, 5, 8), (.port_status_agreed_features, 5, 0xFF), (.time_parent_parent_port, 0, 5), (.time_parent_parent_en, 0, 1), (.time_ctrl_servo_en, 0, 1), (.xbar_int_quota_iq_int, 3, 100)]).dev with frames := [{ id := 9, input := 5, hdr := { ftype := 3, cls := 7, order := 1, dst := 0xFF0000, src := 0x200, length := 32, w6 := 7 * 2 ^ 12 + 2 * 2 ^ 6 }, payload := List.replicate 32 0, complete := true, arrival := some 5 }], egress := [⟨515, 7, 9, 1, none, false⟩] } }).dev.flag
        .h_treq_out j &&
        ({ upState [(.port_cfg_role, 5, 2), (.port_status_link_status, 5, 8), (.port_status_agreed_features, 5, 0xFF), (.time_parent_parent_port, 0, 5), (.time_parent_parent_en, 0, 1), (.time_ctrl_servo_en, 0, 1), (.xbar_int_quota_iq_int, 3, 100)] with dev := { (upState [(.port_cfg_role, 5, 2), (.port_status_link_status, 5, 8), (.port_status_agreed_features, 5, 0xFF), (.time_parent_parent_port, 0, 5), (.time_parent_parent_en, 0, 1), (.time_ctrl_servo_en, 0, 1), (.xbar_int_quota_iq_int, 3, 100)]).dev with frames := [{ id := 9, input := 5, hdr := { ftype := 3, cls := 7, order := 1, dst := 0xFF0000, src := 0x200, length := 32, w6 := 7 * 2 ^ 12 + 2 * 2 ^ 6 }, payload := List.replicate 32 0, complete := true, arrival := some 5 }], egress := [⟨515, 7, 9, 1, none, false⟩] } }).dev.get
        .h_treq_seq j ==
        ({ id := 9, input := 5, hdr := { ftype := 3, cls := 7, order := 1, dst := 0xFF0000, src := 0x200, length := 32, w6 := 7 * 2 ^ 12 + 2 * 2 ^ 6 }, payload := List.replicate 32 0, complete := true, arrival := some 5 }
        : Frame).hdr.reqid) = none) ∧
    (((upState [(.port_cfg_role, 5, 2), (.port_status_link_status, 5, 8), (.port_status_agreed_features, 5, 0xFF),
        (.time_parent_parent_port, 0, 5), (.time_parent_parent_en, 0, 1), (.time_ctrl_servo_en, 0, 1), (.xbar_int_quota_iq_int,
        3, 100), (.h_treq_out, 0, 1)])).dev.flag .h_treq_out (b2n (false : Bool)) = true) ∧
    (((upState [(.port_cfg_role, 5, 2), (.port_status_link_status, 5, 8), (.port_status_agreed_features, 5, 0xFF),
        (.time_parent_parent_port, 0, 5), (.time_parent_parent_en, 0, 1), (.time_ctrl_servo_en, 0, 1), (.xbar_int_quota_iq_int,
        3, 100), (.time_status_time_state, 0, 3), (.time_parent_alt_port, 0, 5), (.time_parent_alt_en, 0, 1), (.h_tp_valid, 1,
        1), (.h_tp_state, 1, 2)])).dev.tstate = tsHOLDOVER ∧ ((upState [(.port_cfg_role, 5, 2), (.port_status_link_status, 5,
        8), (.port_status_agreed_features, 5, 0xFF), (.time_parent_parent_port, 0, 5), (.time_parent_parent_en, 0, 1),
        (.time_ctrl_servo_en, 0, 1), (.xbar_int_quota_iq_int, 3, 100), (.time_status_time_state, 0, 3), (.time_parent_alt_port,
        0, 5), (.time_parent_alt_en, 0, 1), (.h_tp_valid, 1, 1), (.h_tp_state, 1, 2)])).dev.parentGone = true ∧ ((upState
        [(.port_cfg_role, 5, 2), (.port_status_link_status, 5, 8), (.port_status_agreed_features, 5, 0xFF),
        (.time_parent_parent_port, 0, 5), (.time_parent_parent_en, 0, 1), (.time_ctrl_servo_en, 0, 1), (.xbar_int_quota_iq_int,
        3, 100), (.time_status_time_state, 0, 3), (.time_parent_alt_port, 0, 5), (.time_parent_alt_en, 0, 1), (.h_tp_valid, 1,
        1), (.h_tp_state, 1, 2)])).dev.tEligible 1 = true ∧ ((upState [(.port_cfg_role, 5, 2), (.port_status_link_status, 5, 8),
        (.port_status_agreed_features, 5, 0xFF), (.time_parent_parent_port, 0, 5), (.time_parent_parent_en, 0, 1),
        (.time_ctrl_servo_en, 0, 1), (.xbar_int_quota_iq_int, 3, 100), (.time_status_time_state, 0, 3), (.time_parent_alt_port,
        0, 5), (.time_parent_alt_en, 0, 1), (.h_tp_valid, 1, 1), (.h_tp_state, 1, 2)])).dev.flag .time_ctrl_servo_en = true) ∧
    (((upState [])).dev.accepts (.timeParentWrite (.fabric : Mark) (0x6402060205 : Word)) = true) ∧
    (((upState [])).dev.accepts (.timeCtrlWrite (.fabric : Mark) (0x1D : Word)) = true) ∧
    (((upState [(.time_status_time_state, 0, 3)])).dev.tstate = tsHOLDOVER) ∧
    (((upState [(.time_ctrl_gm_en, 0, 1), (.time_status_time_state, 0, 4), (.h_local, 0, 5000)])).dev.flag .time_ctrl_gm_en =
        true ∧ ((upState [(.time_ctrl_gm_en, 0, 1), (.time_status_time_state, 0, 4), (.h_local, 0, 5000)])).dev.tstate =
        tsGRANDMASTER ∧ 1000 * 2 ^ 32 < (((upState [(.time_ctrl_gm_en, 0, 1), (.time_status_time_state, 0, 4), (.h_local, 0,
        5000)])).dev.ppsErr (1 : Fin 4)).natAbs) ∧
    (((upState [(.time_ctrl_gm_en, 0, 1), (.time_status_time_state, 0, 4)])).dev.flag .time_ctrl_gm_en = true ∧ ((upState
        [(.time_ctrl_gm_en, 0, 1), (.time_status_time_state, 0, 4)])).dev.tstate = tsGRANDMASTER ∧ (((upState
        [(.time_ctrl_gm_en, 0, 1), (.time_status_time_state, 0, 4)])).dev.ppsErr (1 : Fin 4)).natAbs ≤ 1000 * 2 ^ 32) ∧
    (((upState [(.time_ctrl_gm_en, 0, 1)])).dev.flag .time_ctrl_gm_en = true ∧ ((upState [(.time_ctrl_gm_en, 0, 1)])).dev.tstate
        ≠ tsGRANDMASTER ∧ ¬(((upState [(.time_ctrl_gm_en, 0, 1)])).dev.tstate = tsHOLDOVER ∧ ((upState [(.time_ctrl_gm_en, 0,
        1)])).dev.flag .h_gm_hold = true)) ∧
    (((upState [(.time_status_time_state, 0, 4)])).dev.tstate = tsGRANDMASTER) ∧
    (((upState [])).dev.tstate ≠ tsGRANDMASTER) ∧
    (((upState [(.h_ref_ext, 0, 1)])).dev.flag .h_ref_ext = true) := by
  refine ⟨?_, ?_, ?_, ?_, ?_, ?_, ?_, ?_, ?_, ?_, ?_, ?_, ?_, ?_, ?_, ?_, ?_, ?_, ?_⟩ <;>
    decide +kernel

/-- States and operands that meet the premises of `Obligations.TimeRegistersAndPins`, clause by clause. -/
theorem witness_TimeRegistersAndPins :
    (((upState [(.h_local, 0, 77)])).dev.reaches rowTIME_NOW_NS 0) ∧
    (((upState [(.time_offset_frac_offset_frac, 0, 9)])).dev.accepts (.timeOffsetNsWrite (.fabric : Mark) (123456 : Word)) =
        true) ∧
    (((upState [(.time_offset_frac_offset_frac, 0, 9)])).dev.offsetOpen = true) ∧
    (((upState [(.time_offset_frac_offset_frac, 0, 9)])).dev.offsetOpen = true ∧ ((upState [(.time_offset_frac_offset_frac, 0,
        9)])).dev.flag .h_frac_valid = false ∧ ((upState [(.time_offset_frac_offset_frac, 0, 9)])).dev.offset32 < 2 ^ 96 ∧
        ((upState [(.time_offset_frac_offset_frac, 0, 9)])).dev.get .time_offset_frac_offset_frac < 2 ^ 32) ∧
    (((upState [(.time_status_time_state, 0, 2)])).dev.accepts (.timeOffsetNsWrite (.fabric : Mark) (5 : Word)) = true) ∧
    (((upState [(.time_status_time_state, 0, 2)])).dev.offsetOpen = false) ∧
    (((upState [])).dev.accepts (.timeOffsetFracWrite (.fabric : Mark) (5 : Word)) = true) ∧
    (((upState [])).dev.offsetOpen = true) ∧
    (((upState [(.time_status_time_state, 0, 2)])).dev.accepts (.timeOffsetFracWrite (.fabric : Mark) (5 : Word)) = true) ∧
    (((upState [])).dev.accepts (.timeRateWrite (.fabric : Mark) (65536 : Word)) = true) ∧
    (((upState [])).dev.tstate = tsFREE) ∧
    (((upState [(.time_status_time_state, 0, 4)])).dev.accepts (.timeRateWrite (.fabric : Mark) (65536 : Word)) = true) ∧
    (((upState [(.time_status_time_state, 0, 4)])).dev.tstate ≠ tsFREE) ∧
    (((upState [(.time_ctrl_pps_out_en, 0, 1)])).dev.flag .time_ctrl_pps_out_en = true) ∧
    (((upState [(.time_trig_period_width_ns, 2, 10)])).dev.accepts (.trigCtrlWrite (.fabric : Mark) (2 : Fin 4) (0x5000000000001
        : Word)) = true) ∧
    (((upState [(.time_trig_period_width_ns, 2, 10)])).dev.flag .time_trig_ctrl_enable (2 : Fin 4) = false ∧ bit
        (0x5000000000001 : Word).toNat 0 = true ∧ ¬(((upState [(.time_trig_period_width_ns, 2, 10)])).dev.get
        .time_trig_period_width_ns (2 : Fin 4) < 10 ∨ (((upState [(.time_trig_period_width_ns, 2, 10)])).dev.get
        .time_trig_period_period_ns (2 : Fin 4) ≠ 0 ∧ (((upState [(.time_trig_period_width_ns, 2, 10)])).dev.get
        .time_trig_period_period_ns (2 : Fin 4) < 100 ∨ ((upState [(.time_trig_period_width_ns, 2, 10)])).dev.get
        .time_trig_period_period_ns (2 : Fin 4) ≤ ((upState [(.time_trig_period_width_ns, 2, 10)])).dev.get
        .time_trig_period_width_ns (2 : Fin 4))))) ∧
    (((upState [(.time_trig_period_width_ns, 2, 5)])).dev.accepts (.trigCtrlWrite (.fabric : Mark) (2 : Fin 4) (1 : Word)) =
        true) ∧
    (((upState [(.time_trig_period_width_ns, 2, 5)])).dev.flag .time_trig_ctrl_enable (2 : Fin 4) = false ∧ bit (1 : Word).toNat
        0 = true ∧ (((upState [(.time_trig_period_width_ns, 2, 5)])).dev.get .time_trig_period_width_ns (2 : Fin 4) < 10 ∨
        (((upState [(.time_trig_period_width_ns, 2, 5)])).dev.get .time_trig_period_period_ns (2 : Fin 4) ≠ 0 ∧ (((upState
        [(.time_trig_period_width_ns, 2, 5)])).dev.get .time_trig_period_period_ns (2 : Fin 4) < 100 ∨ ((upState
        [(.time_trig_period_width_ns, 2, 5)])).dev.get .time_trig_period_period_ns (2 : Fin 4) ≤ ((upState
        [(.time_trig_period_width_ns, 2, 5)])).dev.get .time_trig_period_width_ns (2 : Fin 4))))) ∧
    (((upState [(.time_trig_ctrl_enable, 2, 1)])).dev.accepts (.trigCtrlWrite (.fabric : Mark) (2 : Fin 4) (0 : Word)) = true) ∧
    (((upState [(.time_trig_ctrl_enable, 2, 1)])).dev.flag .time_trig_ctrl_enable (2 : Fin 4) = true ∧ bit (0 : Word).toNat 0 =
        false) ∧
    (((upState [(.time_trig_ctrl_enable, 2, 1), (.h_trig_on, 2, 1)])).dev.flag .time_trig_ctrl_enable (2 : Fin 4) = true ∧
        ((upState [(.time_trig_ctrl_enable, 2, 1), (.h_trig_on, 2, 1)])).dev.flag .h_trig_on (2 : Fin 4) = true) ∧
    (((upState [(.time_trig_ctrl_enable, 2, 1)])).dev.flag .time_trig_ctrl_enable (2 : Fin 4) = true ∧ ((upState
        [(.time_trig_ctrl_enable, 2, 1)])).dev.flag .h_trig_on (2 : Fin 4) = false ∧ ((upState [(.time_trig_ctrl_enable, 2,
        1)])).dev.get .time_trig_period_period_ns (2 : Fin 4) = 0 ∧ ((upState [(.time_trig_ctrl_enable, 2, 1)])).dev.get
        .h_trig_next (2 : Fin 4) = 0 ∧ ((upState [(.time_trig_ctrl_enable, 2, 1)])).dev.get .time_trig_ctrl_count (2 : Fin 4) =
        0) ∧
    (((upState [(.time_cap_info_enable, 2, 1)])).dev.flag .time_cap_info_enable (2 : Fin 4) = true ∧ ((upState
        [(.time_cap_info_enable, 2, 1)])).dev.bitOf .time_cap_info_edge_sel (2 : Fin 4) (b2n (false : Bool)) = true ∧ ((upState
        [(.time_cap_info_enable, 2, 1)])).dev.get .h_cap_last (2 : Fin 4) = 0 ∧ (((upState [(.time_cap_info_enable, 2,
        1)])).dev.cap (2 : Fin 4)).length < 16) ∧
    (({ upState [] with dev := { (upState []).dev with caps := ⟨[(2, [(400, false), (500, true)])]⟩ } }).dev.reaches
        rowTIME_CAP_NS (2 : Fin 4)) ∧
    (({ upState [] with dev := { (upState []).dev with caps := ⟨[(2, [(400, false), (500, true)])]⟩ } }).dev.cap (2 : Fin 4) =
        ((400, false) : Nat × Bool) :: ([(500, true)] : List (Nat × Bool))) := by
  refine ⟨?_, ?_, ?_, ?_, ?_, ?_, ?_, ?_, ?_, ?_, ?_, ?_, ?_, ?_, ?_, ?_, ?_, ?_, ?_, ?_, ?_, ?_, ?_, ?_, ?_⟩ <;>
    decide +kernel

/-- States and operands that meet the premises of `Obligations.FlowInstructions`, clause by clause. -/
theorem witness_FlowInstructions :
    (({ upState [(.csq_q_cfg_privilege, 3, 0)] with dev := { (upState [(.csq_q_cfg_privilege, 3, 0)]).dev with queues := ⟨[(3, { run := some ({ run := 5, index := 0, words := [2533274790789122, 0], tStart := 0, pc := 0, regs := [0, 1, 2, 3, 4, 5, 6, 7], prog := [0, 72057594037927936, 72057594037927936], budget := 1000 }) })]⟩ } }).dev.issues
        (3 : Fin 512) 0x00 (0 : Nat) (0 : Nat)
        ({ run := 5, index := 0, words := [2533274790789122, 0], tStart := 0, pc := 0, regs := [0, 1, 2, 3, 4, 5, 6, 7], prog := [0, 72057594037927936, 72057594037927936], budget := 1000 }
        : Entry)) ∧
    (({ upState [(.csq_q_cfg_privilege, 3, 0)] with dev := { (upState [(.csq_q_cfg_privilege, 3, 0)]).dev with queues := ⟨[(3, { run := some ({ run := 5, index := 0, words := [2533274790789122, 0], tStart := 0, pc := 0, regs := [0, 1, 2, 3, 4, 5, 6, 7], prog := [72057594037927936, 72057594037927936, 72057594037927936], budget := 1000 }) })]⟩ } }).dev.issues
        (3 : Fin 512) 0x01 (72057594037927936 : Nat) (0 : Nat)
        ({ run := 5, index := 0, words := [2533274790789122, 0], tStart := 0, pc := 0, regs := [0, 1, 2, 3, 4, 5, 6, 7], prog := [72057594037927936, 72057594037927936, 72057594037927936], budget := 1000 }
        : Entry)) ∧
    (({ run := 5, index := 0, words := [2533274790789122, 0], tStart := 0, pc := 0, regs := [0, 1, 2, 3, 4, 5, 6, 7], prog := [72057594037927936, 72057594037927936, 72057594037927936], budget := 1000 }
        : Entry).loops = [] ∧ (0 : Nat) + 1 <
        ({ run := 5, index := 0, words := [2533274790789122, 0], tStart := 0, pc := 0, regs := [0, 1, 2, 3, 4, 5, 6, 7], prog := [72057594037927936, 72057594037927936, 72057594037927936], budget := 1000 }
        : Entry).prog.length) ∧
    (({ upState [(.csq_q_cfg_privilege, 3, 0)] with dev := { (upState [(.csq_q_cfg_privilege, 3, 0)]).dev with queues := ⟨[(3, { run := some ({ run := 5, index := 0, words := [2533274790789122, 0], tStart := 0, pc := 0, regs := [0, 1, 2, 3, 4, 5, 6, 7], prog := [72057594037927936], budget := 1000 }) })]⟩ } }).dev.issues
        (3 : Fin 512) 0x01 (72057594037927936 : Nat) (0 : Nat)
        ({ run := 5, index := 0, words := [2533274790789122, 0], tStart := 0, pc := 0, regs := [0, 1, 2, 3, 4, 5, 6, 7], prog := [72057594037927936], budget := 1000 }
        : Entry)) ∧
    (({ run := 5, index := 0, words := [2533274790789122, 0], tStart := 0, pc := 0, regs := [0, 1, 2, 3, 4, 5, 6, 7], prog := [72057594037927936], budget := 1000 }
        : Entry).loops = [] ∧ (0 : Nat) + 1 =
        ({ run := 5, index := 0, words := [2533274790789122, 0], tStart := 0, pc := 0, regs := [0, 1, 2, 3, 4, 5, 6, 7], prog := [72057594037927936], budget := 1000 }
        : Entry).prog.length) ∧
    (({ upState [(.csq_q_cfg_privilege, 3, 0)] with dev := { (upState [(.csq_q_cfg_privilege, 3, 0)]).dev with queues := ⟨[(3, { run := some ({ run := 5, index := 0, words := [2533274790789122, 0], tStart := 0, pc := 1, regs := [0, 1, 2, 3, 4, 5, 6, 7], prog := [72057594037927936, 72057594037927936, 72057594037927936], budget := 1000, loops := [({ first := 1, last := 1, count := 4, iter := 2, d := 6 } : LoopSt)] }) })]⟩ } }).dev.issues
        (3 : Fin 512) 0x01 (72057594037927936 : Nat) (1 : Nat)
        ({ run := 5, index := 0, words := [2533274790789122, 0], tStart := 0, pc := 1, regs := [0, 1, 2, 3, 4, 5, 6, 7], prog := [72057594037927936, 72057594037927936, 72057594037927936], budget := 1000, loops := [({ first := 1, last := 1, count := 4, iter := 2, d := 6 } : LoopSt)] }
        : Entry)) ∧
    (({ run := 5, index := 0, words := [2533274790789122, 0], tStart := 0, pc := 1, regs := [0, 1, 2, 3, 4, 5, 6, 7], prog := [72057594037927936, 72057594037927936, 72057594037927936], budget := 1000, loops := [({ first := 1, last := 1, count := 4, iter := 2, d := 6 } : LoopSt)] }
        : Entry).loops = [({ first := 1, last := 1, count := 4, iter := 2, d := 6 } : LoopSt)] ∧
        ({ first := 1, last := 1, count := 4, iter := 2, d := 6 } : LoopSt).last = (1 : Nat) ∧
        ({ first := 1, last := 1, count := 4, iter := 2, d := 6 } : LoopSt).iter + 1 <
        ({ first := 1, last := 1, count := 4, iter := 2, d := 6 } : LoopSt).count ∧
        ({ first := 1, last := 1, count := 4, iter := 2, d := 6 } : LoopSt).first <
        ({ run := 5, index := 0, words := [2533274790789122, 0], tStart := 0, pc := 1, regs := [0, 1, 2, 3, 4, 5, 6, 7], prog := [72057594037927936, 72057594037927936, 72057594037927936], budget := 1000, loops := [({ first := 1, last := 1, count := 4, iter := 2, d := 6 } : LoopSt)] }
        : Entry).prog.length) ∧
    (({ upState [(.csq_q_cfg_privilege, 3, 0)] with dev := { (upState [(.csq_q_cfg_privilege, 3, 0)]).dev with queues := ⟨[(3, { run := some ({ run := 5, index := 0, words := [2533274790789122, 0], tStart := 0, pc := 0, regs := [0, 1, 2, 3, 4, 5, 6, 7], prog := [72057594037927936, 72057594037927936, 72057594037927936], budget := 1000, spent := 1000 }) })]⟩ } }).dev.fetches
        (3 : Fin 512) 0x01 (72057594037927936 : Nat) (0 : Nat)
        ({ run := 5, index := 0, words := [2533274790789122, 0], tStart := 0, pc := 0, regs := [0, 1, 2, 3, 4, 5, 6, 7], prog := [72057594037927936, 72057594037927936, 72057594037927936], budget := 1000, spent := 1000 }
        : Entry)) ∧
    (({ run := 5, index := 0, words := [2533274790789122, 0], tStart := 0, pc := 0, regs := [0, 1, 2, 3, 4, 5, 6, 7], prog := [72057594037927936, 72057594037927936, 72057594037927936], budget := 1000, spent := 1000 }
        : Entry).budget <
        ({ run := 5, index := 0, words := [2533274790789122, 0], tStart := 0, pc := 0, regs := [0, 1, 2, 3, 4, 5, 6, 7], prog := [72057594037927936, 72057594037927936, 72057594037927936], budget := 1000, spent := 1000 }
        : Entry).spent + wCost (72057594037927936 : Nat)) ∧
    (({ upState [(.csq_q_cfg_privilege, 3, 0)] with dev := { (upState [(.csq_q_cfg_privilege, 3, 0)]).dev with queues := ⟨[(3, { run := some ({ run := 5, index := 0, words := [2533274790789122, 0], tStart := 0, pc := 0, regs := [0, 1, 2, 3, 4, 5, 6, 7], prog := [166641982305730563, 72057594037927936, 72057594037927936], budget := 1000 }) })]⟩ } }).dev.issues
        (3 : Fin 512) 0x02 (166641982305730563 : Nat) (0 : Nat)
        ({ run := 5, index := 0, words := [2533274790789122, 0], tStart := 0, pc := 0, regs := [0, 1, 2, 3, 4, 5, 6, 7], prog := [166641982305730563, 72057594037927936, 72057594037927936], budget := 1000 }
        : Entry)) ∧
    (({ upState [(.csq_q_cfg_privilege, 3, 0)] with dev := { (upState [(.csq_q_cfg_privilege, 3, 0)]).dev with queues := ⟨[(3, { run := some ({ run := 5, index := 0, words := [2533274790789122, 0], tStart := 0, pc := 0, regs := [0, 1, 2, 3, 4, 5, 6, 7], prog := [238690780251339998, 72057594037927936, 72057594037927936], budget := 1000 }) })]⟩ } }).dev.issues
        (3 : Fin 512) 0x03 (238690780251339998 : Nat) (0 : Nat)
        ({ run := 5, index := 0, words := [2533274790789122, 0], tStart := 0, pc := 0, regs := [0, 1, 2, 3, 4, 5, 6, 7], prog := [238690780251339998, 72057594037927936, 72057594037927936], budget := 1000 }
        : Entry)) ∧
    (({ upState [(.csq_q_cfg_privilege, 3, 0)] with dev := { (upState [(.csq_q_cfg_privilege, 3, 0)]).dev with queues := ⟨[(3, { run := some ({ run := 5, index := 0, words := [2533274790789122, 0], tStart := 0, pc := 0, regs := [0, 1, 2, 3, 4, 5, 6, 7], prog := [311364105095086064, 72057594037927936, 72057594037927936], budget := 1000 }) })]⟩ } }).dev.issues
        (3 : Fin 512) 0x04 (311364105095086064 : Nat) (0 : Nat)
        ({ run := 5, index := 0, words := [2533274790789122, 0], tStart := 0, pc := 0, regs := [0, 1, 2, 3, 4, 5, 6, 7], prog := [311364105095086064, 72057594037927936, 72057594037927936], budget := 1000 }
        : Entry)) ∧
    (({ upState [(.csq_q_cfg_privilege, 3, 0)] with dev := { (upState [(.csq_q_cfg_privilege, 3, 0)]).dev with queues := ⟨[(3, { run := some ({ run := 5, index := 0, words := [2533274790789122, 0], tStart := 0, pc := 0, regs := [0, 1, 2, 3, 4, 5, 6, 7], prog := [384547594744889344, 72057594037927936, 72057594037927936], budget := 1000 }) })]⟩ } }).dev.issues
        (3 : Fin 512) 0x05 (384547594744889344 : Nat) (0 : Nat)
        ({ run := 5, index := 0, words := [2533274790789122, 0], tStart := 0, pc := 0, regs := [0, 1, 2, 3, 4, 5, 6, 7], prog := [384547594744889344, 72057594037927936, 72057594037927936], budget := 1000 }
        : Entry)) ∧
    (({ upState [(.csq_q_cfg_privilege, 3, 0)] with dev := { (upState [(.csq_q_cfg_privilege, 3, 0)]).dev with queues := ⟨[(3, { run := some ({ run := 5, index := 0, words := [2533274790789122, 0], tStart := 0, pc := 0, regs := [0, 1, 2, 3, 4, 5, 6, 7], prog := [456605188782817280, 72057594037927936, 72057594037927936], budget := 1000 }) })]⟩ } }).dev.issues
        (3 : Fin 512) 0x06 (456605188782817280 : Nat) (0 : Nat)
        ({ run := 5, index := 0, words := [2533274790789122, 0], tStart := 0, pc := 0, regs := [0, 1, 2, 3, 4, 5, 6, 7], prog := [456605188782817280, 72057594037927936, 72057594037927936], budget := 1000 }
        : Entry)) ∧
    (({ upState [(.csq_q_cfg_privilege, 3, 0)] with dev := { (upState [(.csq_q_cfg_privilege, 3, 0)]).dev with queues := ⟨[(3, { run := some ({ run := 5, index := 0, words := [2533274790789122, 0], tStart := 0, pc := 0, regs := [0, 1, 2, 3, 4, 5, 6, 7], prog := [528610006262612033, 72057594037927936, 72057594037927936], budget := 1000 }) })]⟩ } }).dev.issues
        (3 : Fin 512) 0x07 (528610006262612033 : Nat) (0 : Nat)
        ({ run := 5, index := 0, words := [2533274790789122, 0], tStart := 0, pc := 0, regs := [0, 1, 2, 3, 4, 5, 6, 7], prog := [528610006262612033, 72057594037927936, 72057594037927936], budget := 1000 }
        : Entry)) ∧
    (({ upState [(.csq_q_cfg_privilege, 3, 0)] with dev := { (upState [(.csq_q_cfg_privilege, 3, 0)]).dev with queues := ⟨[(3, { run := some ({ run := 5, index := 0, words := [2533274790789122, 0], tStart := 0, pc := 0, regs := [0, 1, 2, 3, 4, 5, 6, 7], prog := [577076478815305730, 72057594037927936, 72057594037927936], budget := 1000 }) })]⟩ } }).dev.issues
        (3 : Fin 512) 0x08 (577076478815305730 : Nat) (0 : Nat)
        ({ run := 5, index := 0, words := [2533274790789122, 0], tStart := 0, pc := 0, regs := [0, 1, 2, 3, 4, 5, 6, 7], prog := [577076478815305730, 72057594037927936, 72057594037927936], budget := 1000 }
        : Entry)) ∧
    (slice (577076478815305730 : Nat) 16 4 ≤ 6) ∧
    (({ upState [(.csq_q_cfg_privilege, 3, 0)] with dev := { (upState [(.csq_q_cfg_privilege, 3, 0)]).dev with queues := ⟨[(3, { run := some ({ run := 5, index := 0, words := [2533274790789122, 0], tStart := 0, pc := 0, regs := [0, 1, 2, 3, 4, 5, 6, 7], prog := [671036344478269444, 72057594037927936, 72057594037927936], budget := 1000 }) })]⟩ } }).dev.issues
        (3 : Fin 512) 0x09 (671036344478269444 : Nat) (0 : Nat)
        ({ run := 5, index := 0, words := [2533274790789122, 0], tStart := 0, pc := 0, regs := [0, 1, 2, 3, 4, 5, 6, 7], prog := [671036344478269444, 72057594037927936, 72057594037927936], budget := 1000 }
        : Entry)) ∧
    (({ upState [(.csq_q_cfg_privilege, 3, 0)] with dev := { (upState [(.csq_q_cfg_privilege, 3, 0)]).dev with queues := ⟨[(3, { run := some ({ run := 5, index := 0, words := [2533274790789122, 0], tStart := 0, pc := 0, regs := [0, 1, 2, 3, 4, 5, 6, 7], prog := [743093938667257863, 72057594037927936, 72057594037927936], budget := 1000 }) })]⟩ } }).dev.issues
        (3 : Fin 512) 0x0A (743093938667257863 : Nat) (0 : Nat)
        ({ run := 5, index := 0, words := [2533274790789122, 0], tStart := 0, pc := 0, regs := [0, 1, 2, 3, 4, 5, 6, 7], prog := [743093938667257863, 72057594037927936, 72057594037927936], budget := 1000 }
        : Entry)) ∧
    (slice (743093938667257863 : Nat) 40 2 = 0 ∧
        ({ upState [(.csq_q_cfg_privilege, 3, 0)] with dev := { (upState [(.csq_q_cfg_privilege, 3, 0)]).dev with queues := ⟨[(3, { run := some ({ run := 5, index := 0, words := [2533274790789122, 0], tStart := 0, pc := 0, regs := [0, 1, 2, 3, 4, 5, 6, 7], prog := [743093938667257863, 72057594037927936, 72057594037927936], budget := 1000 }) })]⟩ } }).dev.mayUse
        (3 : Fin 512) (743093938667257863 : Nat)
        ({ run := 5, index := 0, words := [2533274790789122, 0], tStart := 0, pc := 0, regs := [0, 1, 2, 3, 4, 5, 6, 7], prog := [743093938667257863, 72057594037927936, 72057594037927936], budget := 1000 }
        : Entry) (7 : Nat) = true) ∧
    (({ upState [(.csq_q_cfg_privilege, 3, 0)] with dev := { (upState [(.csq_q_cfg_privilege, 3, 0)]).dev with queues := ⟨[(3, { run := some ({ run := 5, index := 0, words := [2533274790789122, 0], tStart := 0, pc := 0, regs := [0, 1, 2, 3, 4, 5, 6, 7], prog := [743376513155465216, 72057594037927936, 72057594037927936], budget := 1000 }) })]⟩ } }).dev.issues
        (3 : Fin 512) 0x0A (743376513155465216 : Nat) (0 : Nat)
        ({ run := 5, index := 0, words := [2533274790789122, 0], tStart := 0, pc := 0, regs := [0, 1, 2, 3, 4, 5, 6, 7], prog := [743376513155465216, 72057594037927936, 72057594037927936], budget := 1000 }
        : Entry)) ∧
    (slice (743376513155465216 : Nat) 40 2 = 1 ∧
        ({ upState [(.csq_q_cfg_privilege, 3, 0)] with dev := { (upState [(.csq_q_cfg_privilege, 3, 0)]).dev with queues := ⟨[(3, { run := some ({ run := 5, index := 0, words := [2533274790789122, 0], tStart := 0, pc := 0, regs := [0, 1, 2, 3, 4, 5, 6, 7], prog := [743376513155465216, 72057594037927936, 72057594037927936], budget := 1000 }) })]⟩ } }).dev.mayUse
        (3 : Fin 512) (743376513155465216 : Nat)
        ({ run := 5, index := 0, words := [2533274790789122, 0], tStart := 0, pc := 0, regs := [0, 1, 2, 3, 4, 5, 6, 7], prog := [743376513155465216, 72057594037927936, 72057594037927936], budget := 1000 }
        : Entry) (0 : Nat) = true) ∧
    (({ upState [(.csq_q_cfg_privilege, 3, 0)] with dev := { (upState [(.csq_q_cfg_privilege, 3, 0)]).dev with queues := ⟨[(3, { run := some ({ run := 5, index := 0, words := [2533274790789122, 0], tStart := 0, pc := 0, regs := [0, 1, 2, 3, 4, 5, 6, 7], prog := [743096137690382336, 72057594037927936, 72057594037927936], budget := 1000 }) })]⟩ } }).dev.issues
        (3 : Fin 512) 0x0A (743096137690382336 : Nat) (0 : Nat)
        ({ run := 5, index := 0, words := [2533274790789122, 0], tStart := 0, pc := 0, regs := [0, 1, 2, 3, 4, 5, 6, 7], prog := [743096137690382336, 72057594037927936, 72057594037927936], budget := 1000 }
        : Entry)) ∧
    (slice (743096137690382336 : Nat) 40 2 = 2 ∧
        ({ upState [(.csq_q_cfg_privilege, 3, 0)] with dev := { (upState [(.csq_q_cfg_privilege, 3, 0)]).dev with queues := ⟨[(3, { run := some ({ run := 5, index := 0, words := [2533274790789122, 0], tStart := 0, pc := 0, regs := [0, 1, 2, 3, 4, 5, 6, 7], prog := [743096137690382336, 72057594037927936, 72057594037927936], budget := 1000 }) })]⟩ } }).dev.mayUse
        (3 : Fin 512) (743096137690382336 : Nat)
        ({ run := 5, index := 0, words := [2533274790789122, 0], tStart := 0, pc := 0, regs := [0, 1, 2, 3, 4, 5, 6, 7], prog := [743096137690382336, 72057594037927936, 72057594037927936], budget := 1000 }
        : Entry) (0 : Nat) = true) ∧
    ((({ upState [(.csq_token_count, 7, 2)] with dev := { (upState [(.csq_token_count, 7, 2)]).dev with queues := ⟨[(3, { run := some ({ run := 5, index := 0, words := [2533274790789122, 0], tStart := 0, pc := 0, regs := [0, 1, 2, 3, 4, 5, 6, 7], prog := [725079540023558151, 72057594037927936], budget := 1000, wait := some ({ mode := 0, tok := 7, n := 2, time := 0, since := 0, limit := 1 } : WaitSt) }) })]⟩ } }).dev.queue
        (3 : Fin 512)).run = some
        ({ run := 5, index := 0, words := [2533274790789122, 0], tStart := 0, pc := 0, regs := [0, 1, 2, 3, 4, 5, 6, 7], prog := [725079540023558151, 72057594037927936], budget := 1000, wait := some ({ mode := 0, tok := 7, n := 2, time := 0, since := 0, limit := 1 } : WaitSt) }
        : Entry) ∧
        ({ run := 5, index := 0, words := [2533274790789122, 0], tStart := 0, pc := 0, regs := [0, 1, 2, 3, 4, 5, 6, 7], prog := [725079540023558151, 72057594037927936], budget := 1000, wait := some ({ mode := 0, tok := 7, n := 2, time := 0, since := 0, limit := 1 } : WaitSt) }
        : Entry).wait = some ({ mode := 0, tok := 7, n := 2, time := 0, since := 0, limit := 1 } : WaitSt)) ∧
    (({ mode := 0, tok := 7, n := 2, time := 0, since := 0, limit := 1 } : WaitSt).mode = 0 ∧
        ({ mode := 0, tok := 7, n := 2, time := 0, since := 0, limit := 1 } : WaitSt).n ≤
        ({ upState [(.csq_token_count, 7, 2)] with dev := { (upState [(.csq_token_count, 7, 2)]).dev with queues := ⟨[(3, { run := some ({ run := 5, index := 0, words := [2533274790789122, 0], tStart := 0, pc := 0, regs := [0, 1, 2, 3, 4, 5, 6, 7], prog := [725079540023558151, 72057594037927936], budget := 1000, wait := some ({ mode := 0, tok := 7, n := 2, time := 0, since := 0, limit := 1 } : WaitSt) }) })]⟩ } }).dev.get
        .csq_token_count ({ mode := 0, tok := 7, n := 2, time := 0, since := 0, limit := 1 } : WaitSt).tok ∧
        ({ upState [(.csq_token_count, 7, 2)] with dev := { (upState [(.csq_token_count, 7, 2)]).dev with queues := ⟨[(3, { run := some ({ run := 5, index := 0, words := [2533274790789122, 0], tStart := 0, pc := 0, regs := [0, 1, 2, 3, 4, 5, 6, 7], prog := [725079540023558151, 72057594037927936], budget := 1000, wait := some ({ mode := 0, tok := 7, n := 2, time := 0, since := 0, limit := 1 } : WaitSt) }) })]⟩ } }).dev.tokTurn
        ({ mode := 0, tok := 7, n := 2, time := 0, since := 0, limit := 1 } : WaitSt).tok
        ({ mode := 0, tok := 7, n := 2, time := 0, since := 0, limit := 1 } : WaitSt).since (3 : Fin 512) = true) ∧
    ((({ upState [] with dev := { (upState []).dev with queues := ⟨[(3, { run := some ({ run := 5, index := 0, words := [2533274790789122, 0], tStart := 0, pc := 0, regs := [0, 1, 2, 3, 4, 5, 6, 7], prog := [725080639535185927, 72057594037927936], budget := 1000, wait := some ({ mode := 1, tok := 7, n := 2, time := 0, since := 0, limit := 1 } : WaitSt) }) })]⟩ } }).dev.queue
        (3 : Fin 512)).run = some
        ({ run := 5, index := 0, words := [2533274790789122, 0], tStart := 0, pc := 0, regs := [0, 1, 2, 3, 4, 5, 6, 7], prog := [725080639535185927, 72057594037927936], budget := 1000, wait := some ({ mode := 1, tok := 7, n := 2, time := 0, since := 0, limit := 1 } : WaitSt) }
        : Entry) ∧
        ({ run := 5, index := 0, words := [2533274790789122, 0], tStart := 0, pc := 0, regs := [0, 1, 2, 3, 4, 5, 6, 7], prog := [725080639535185927, 72057594037927936], budget := 1000, wait := some ({ mode := 1, tok := 7, n := 2, time := 0, since := 0, limit := 1 } : WaitSt) }
        : Entry).wait = some ({ mode := 1, tok := 7, n := 2, time := 0, since := 0, limit := 1 } : WaitSt)) ∧
    (({ mode := 1, tok := 7, n := 2, time := 0, since := 0, limit := 1 } : WaitSt).mode = 1 ∧
        ({ mode := 1, tok := 7, n := 2, time := 0, since := 0, limit := 1 } : WaitSt).time ≤
        ({ upState [] with dev := { (upState []).dev with queues := ⟨[(3, { run := some ({ run := 5, index := 0, words := [2533274790789122, 0], tStart := 0, pc := 0, regs := [0, 1, 2, 3, 4, 5, 6, 7], prog := [725080639535185927, 72057594037927936], budget := 1000, wait := some ({ mode := 1, tok := 7, n := 2, time := 0, since := 0, limit := 1 } : WaitSt) }) })]⟩ } }).dev.fabricNs) ∧
    ((({ upState [] with dev := { (upState []).dev with queues := ⟨[(3, { run := some ({ run := 5, index := 0, words := [2533274790789122, 0], tStart := 0, pc := 0, regs := [0, 1, 2, 3, 4, 5, 6, 7], prog := [725079540023558151, 72057594037927936], budget := 1000, wait := some ({ mode := 0, tok := 7, n := 2, time := 0, since := 0, limit := 1 } : WaitSt) }) })]⟩ } }).dev.queue
        (3 : Fin 512)).run = some
        ({ run := 5, index := 0, words := [2533274790789122, 0], tStart := 0, pc := 0, regs := [0, 1, 2, 3, 4, 5, 6, 7], prog := [725079540023558151, 72057594037927936], budget := 1000, wait := some ({ mode := 0, tok := 7, n := 2, time := 0, since := 0, limit := 1 } : WaitSt) }
        : Entry) ∧
        ({ run := 5, index := 0, words := [2533274790789122, 0], tStart := 0, pc := 0, regs := [0, 1, 2, 3, 4, 5, 6, 7], prog := [725079540023558151, 72057594037927936], budget := 1000, wait := some ({ mode := 0, tok := 7, n := 2, time := 0, since := 0, limit := 1 } : WaitSt) }
        : Entry).wait = some ({ mode := 0, tok := 7, n := 2, time := 0, since := 0, limit := 1 } : WaitSt)) ∧
    (({ upState [] with dev := { (upState []).dev with queues := ⟨[(3, { run := some ({ run := 5, index := 0, words := [2533274790789122, 0], tStart := 0, pc := 0, regs := [0, 1, 2, 3, 4, 5, 6, 7], prog := [725079540023558151, 72057594037927936], budget := 1000, wait := some ({ mode := 0, tok := 7, n := 2, time := 0, since := 0, limit := 1 } : WaitSt) }) })]⟩ } }).dev.waitHolds
        (3 : Fin 512)
        ({ run := 5, index := 0, words := [2533274790789122, 0], tStart := 0, pc := 0, regs := [0, 1, 2, 3, 4, 5, 6, 7], prog := [725079540023558151, 72057594037927936], budget := 1000, wait := some ({ mode := 0, tok := 7, n := 2, time := 0, since := 0, limit := 1 } : WaitSt) }
        : Entry) ({ mode := 0, tok := 7, n := 2, time := 0, since := 0, limit := 1 } : WaitSt) = false) ∧
    ((({ upState [] with dev := { (upState []).dev with queues := ⟨[(3, { run := some ({ run := 5, index := 0, words := [2533274790789122, 0], tStart := 0, pc := 0, regs := [0, 1, 2, 3, 4, 5, 6, 7], prog := [725081739046813703, 72057594037927936], budget := 1000, wait := some ({ mode := 2, tok := 7, n := 2, time := 0, since := 0, limit := 1 } : WaitSt) }) })]⟩, ops := [{ queue := 3, entry := 5, start := 2, group := 1, key := .mcWrite 9, res := some 0 }, { queue := 3, entry := 5, start := 2, group := 1, key := .mcWrite 9, res := some 6 }] } }).dev.queue
        (3 : Fin 512)).run = some
        ({ run := 5, index := 0, words := [2533274790789122, 0], tStart := 0, pc := 0, regs := [0, 1, 2, 3, 4, 5, 6, 7], prog := [725081739046813703, 72057594037927936], budget := 1000, wait := some ({ mode := 2, tok := 7, n := 2, time := 0, since := 0, limit := 1 } : WaitSt) }
        : Entry) ∧
        ({ run := 5, index := 0, words := [2533274790789122, 0], tStart := 0, pc := 0, regs := [0, 1, 2, 3, 4, 5, 6, 7], prog := [725081739046813703, 72057594037927936], budget := 1000, wait := some ({ mode := 2, tok := 7, n := 2, time := 0, since := 0, limit := 1 } : WaitSt) }
        : Entry).wait = some ({ mode := 2, tok := 7, n := 2, time := 0, since := 0, limit := 1 } : WaitSt)) ∧
    (({ mode := 2, tok := 7, n := 2, time := 0, since := 0, limit := 1 } : WaitSt).mode = 2 ∧
        ({ upState [] with dev := { (upState []).dev with queues := ⟨[(3, { run := some ({ run := 5, index := 0, words := [2533274790789122, 0], tStart := 0, pc := 0, regs := [0, 1, 2, 3, 4, 5, 6, 7], prog := [725081739046813703, 72057594037927936], budget := 1000, wait := some ({ mode := 2, tok := 7, n := 2, time := 0, since := 0, limit := 1 } : WaitSt) }) })]⟩, ops := [{ queue := 3, entry := 5, start := 2, group := 1, key := .mcWrite 9, res := some 0 }, { queue := 3, entry := 5, start := 2, group := 1, key := .mcWrite 9, res := some 6 }] } }).dev.opsOpen
        (3 : Fin 512)
        ({ run := 5, index := 0, words := [2533274790789122, 0], tStart := 0, pc := 0, regs := [0, 1, 2, 3, 4, 5, 6, 7], prog := [725081739046813703, 72057594037927936], budget := 1000, wait := some ({ mode := 2, tok := 7, n := 2, time := 0, since := 0, limit := 1 } : WaitSt) }
        : Entry).run = 0 ∧
        (({ upState [] with dev := { (upState []).dev with queues := ⟨[(3, { run := some ({ run := 5, index := 0, words := [2533274790789122, 0], tStart := 0, pc := 0, regs := [0, 1, 2, 3, 4, 5, 6, 7], prog := [725081739046813703, 72057594037927936], budget := 1000, wait := some ({ mode := 2, tok := 7, n := 2, time := 0, since := 0, limit := 1 } : WaitSt) }) })]⟩, ops := [{ queue := 3, entry := 5, start := 2, group := 1, key := .mcWrite 9, res := some 0 }, { queue := 3, entry := 5, start := 2, group := 1, key := .mcWrite 9, res := some 6 }] } }).dev.ops.filter
        (fun (y : Op) => y.queue == (3 : Fin 512) && y.entry ==
        ({ run := 5, index := 0, words := [2533274790789122, 0], tStart := 0, pc := 0, regs := [0, 1, 2, 3, 4, 5, 6, 7], prog := [725081739046813703, 72057594037927936], budget := 1000, wait := some ({ mode := 2, tok := 7, n := 2, time := 0, since := 0, limit := 1 } : WaitSt) }
        : Entry).run)).find? (fun (y : Op) => y.res != some 0) = some
        ({ queue := 3, entry := 5, start := 2, group := 1, key := .mcWrite 9, res := some 6 } : Op)) ∧
    ((({ upState [] with dev := { (upState []).dev with queues := ⟨[(3, { run := some ({ run := 5, index := 0, words := [2533274790789122, 0], tStart := 0, pc := 0, regs := [0, 1, 2, 3, 4, 5, 6, 7], prog := [725081739046813703, 72057594037927936], budget := 1000, wait := some ({ mode := 2, tok := 7, n := 2, time := 0, since := 0, limit := 1 } : WaitSt) }) })]⟩, ops := [{ queue := 3, entry := 5, start := 2, group := 1, key := .mcWrite 9, res := some 0 }] } }).dev.queue
        (3 : Fin 512)).run = some
        ({ run := 5, index := 0, words := [2533274790789122, 0], tStart := 0, pc := 0, regs := [0, 1, 2, 3, 4, 5, 6, 7], prog := [725081739046813703, 72057594037927936], budget := 1000, wait := some ({ mode := 2, tok := 7, n := 2, time := 0, since := 0, limit := 1 } : WaitSt) }
        : Entry) ∧
        ({ run := 5, index := 0, words := [2533274790789122, 0], tStart := 0, pc := 0, regs := [0, 1, 2, 3, 4, 5, 6, 7], prog := [725081739046813703, 72057594037927936], budget := 1000, wait := some ({ mode := 2, tok := 7, n := 2, time := 0, since := 0, limit := 1 } : WaitSt) }
        : Entry).wait = some ({ mode := 2, tok := 7, n := 2, time := 0, since := 0, limit := 1 } : WaitSt)) ∧
    (({ mode := 2, tok := 7, n := 2, time := 0, since := 0, limit := 1 } : WaitSt).mode = 2 ∧
        ({ upState [] with dev := { (upState []).dev with queues := ⟨[(3, { run := some ({ run := 5, index := 0, words := [2533274790789122, 0], tStart := 0, pc := 0, regs := [0, 1, 2, 3, 4, 5, 6, 7], prog := [725081739046813703, 72057594037927936], budget := 1000, wait := some ({ mode := 2, tok := 7, n := 2, time := 0, since := 0, limit := 1 } : WaitSt) }) })]⟩, ops := [{ queue := 3, entry := 5, start := 2, group := 1, key := .mcWrite 9, res := some 0 }] } }).dev.opsOpen
        (3 : Fin 512)
        ({ run := 5, index := 0, words := [2533274790789122, 0], tStart := 0, pc := 0, regs := [0, 1, 2, 3, 4, 5, 6, 7], prog := [725081739046813703, 72057594037927936], budget := 1000, wait := some ({ mode := 2, tok := 7, n := 2, time := 0, since := 0, limit := 1 } : WaitSt) }
        : Entry).run = 0 ∧
        (({ upState [] with dev := { (upState []).dev with queues := ⟨[(3, { run := some ({ run := 5, index := 0, words := [2533274790789122, 0], tStart := 0, pc := 0, regs := [0, 1, 2, 3, 4, 5, 6, 7], prog := [725081739046813703, 72057594037927936], budget := 1000, wait := some ({ mode := 2, tok := 7, n := 2, time := 0, since := 0, limit := 1 } : WaitSt) }) })]⟩, ops := [{ queue := 3, entry := 5, start := 2, group := 1, key := .mcWrite 9, res := some 0 }] } }).dev.ops.filter
        (fun (y : Op) => y.queue == (3 : Fin 512) && y.entry ==
        ({ run := 5, index := 0, words := [2533274790789122, 0], tStart := 0, pc := 0, regs := [0, 1, 2, 3, 4, 5, 6, 7], prog := [725081739046813703, 72057594037927936], budget := 1000, wait := some ({ mode := 2, tok := 7, n := 2, time := 0, since := 0, limit := 1 } : WaitSt) }
        : Entry).run)).find? (fun (y : Op) => y.res != some 0) = none) ∧
    (({ upState [(.csq_q_cfg_privilege, 3, 0)] with dev := { (upState [(.csq_q_cfg_privilege, 3, 0)]).dev with queues := ⟨[(3, { run := some ({ run := 5, index := 0, words := [2533274790789122, 0], tStart := 0, pc := 0, regs := [0, 1, 2, 3, 4, 5, 6, 7], prog := [792668718789492743, 72057594037927936, 72057594037927936], budget := 1000 }) })]⟩ } }).dev.issues
        (3 : Fin 512) 0x0B (792668718789492743 : Nat) (0 : Nat)
        ({ run := 5, index := 0, words := [2533274790789122, 0], tStart := 0, pc := 0, regs := [0, 1, 2, 3, 4, 5, 6, 7], prog := [792668718789492743, 72057594037927936, 72057594037927936], budget := 1000 }
        : Entry)) ∧
    (({ upState [(.csq_q_cfg_privilege, 3, 0)] with dev := { (upState [(.csq_q_cfg_privilege, 3, 0)]).dev with queues := ⟨[(3, { run := some ({ run := 5, index := 0, words := [2533274790789122, 0], tStart := 0, pc := 0, regs := [0, 1, 2, 3, 4, 5, 6, 7], prog := [792668718789492743, 72057594037927936, 72057594037927936], budget := 1000 }) })]⟩ } }).dev.mayUse
        (3 : Fin 512) (792668718789492743 : Nat)
        ({ run := 5, index := 0, words := [2533274790789122, 0], tStart := 0, pc := 0, regs := [0, 1, 2, 3, 4, 5, 6, 7], prog := [792668718789492743, 72057594037927936, 72057594037927936], budget := 1000 }
        : Entry) (9 : Nat) = true) ∧
    (({ upState [(.csq_q_cfg_privilege, 3, 0)] with dev := { (upState [(.csq_q_cfg_privilege, 3, 0)]).dev with queues := ⟨[(3, { run := some ({ run := 5, index := 0, words := [2533274790789122, 0], tStart := 0, pc := 0, regs := [0, 1, 2, 3, 4, 5, 6, 7], prog := [792756679719780351, 72057594037927936, 72057594037927936], budget := 1000 }) })]⟩ } }).dev.issues
        (3 : Fin 512) 0x0B (792756679719780351 : Nat) (0 : Nat)
        ({ run := 5, index := 0, words := [2533274790789122, 0], tStart := 0, pc := 0, regs := [0, 1, 2, 3, 4, 5, 6, 7], prog := [792756679719780351, 72057594037927936, 72057594037927936], budget := 1000 }
        : Entry)) ∧
    (65535 <
        (({ run := 5, index := 0, words := [2533274790789122, 0], tStart := 0, pc := 0, regs := [0, 1, 2, 3, 4, 5, 6, 7], prog := [792756679719780351, 72057594037927936, 72057594037927936], budget := 1000 }
        : Entry).reg (wB (792756679719780351 : Nat)) + slice (792756679719780351 : Nat) 0 16) % 2 ^ 64) ∧
    (({ upState [(.csq_q_cfg_privilege, 3, 1)] with dev := { (upState [(.csq_q_cfg_privilege, 3, 1)]).dev with queues := ⟨[(3, { run := some ({ run := 5, index := 0, words := [2533274790789122, 0], tStart := 0, pc := 0, regs := [0, 1, 2, 3, 4, 5, 6, 7], prog := [792668718789492743, 72057594037927936, 72057594037927936], budget := 1000 }) })]⟩ } }).dev.issues
        (3 : Fin 512) 0x0B (792668718789492743 : Nat) (0 : Nat)
        ({ run := 5, index := 0, words := [2533274790789122, 0], tStart := 0, pc := 0, regs := [0, 1, 2, 3, 4, 5, 6, 7], prog := [792668718789492743, 72057594037927936, 72057594037927936], budget := 1000 }
        : Entry)) ∧
    (({ run := 5, index := 0, words := [2533274790789122, 0], tStart := 0, pc := 0, regs := [0, 1, 2, 3, 4, 5, 6, 7], prog := [792668718789492743, 72057594037927936, 72057594037927936], budget := 1000 }
        : Entry).reg (wB (792668718789492743 : Nat)) + slice (792668718789492743 : Nat) 0 16 ≤ 65535 ∧ wB (792668718789492743 :
        Nat) ≠ 0 ∧
        ({ upState [(.csq_q_cfg_privilege, 3, 1)] with dev := { (upState [(.csq_q_cfg_privilege, 3, 1)]).dev with queues := ⟨[(3, { run := some ({ run := 5, index := 0, words := [2533274790789122, 0], tStart := 0, pc := 0, regs := [0, 1, 2, 3, 4, 5, 6, 7], prog := [792668718789492743, 72057594037927936, 72057594037927936], budget := 1000 }) })]⟩ } }).dev.qAllowed
        (3 : Fin 512) ocTOKEN
        (({ run := 5, index := 0, words := [2533274790789122, 0], tStart := 0, pc := 0, regs := [0, 1, 2, 3, 4, 5, 6, 7], prog := [792668718789492743, 72057594037927936, 72057594037927936], budget := 1000 }
        : Entry).reg (wB (792668718789492743 : Nat)) + slice (792668718789492743 : Nat) 0 16)
        (({ run := 5, index := 0, words := [2533274790789122, 0], tStart := 0, pc := 0, regs := [0, 1, 2, 3, 4, 5, 6, 7], prog := [792668718789492743, 72057594037927936, 72057594037927936], budget := 1000 }
        : Entry).reg (wB (792668718789492743 : Nat)) + slice (792668718789492743 : Nat) 0 16) true = false) := by
  refine ⟨?_, ?_, ?_, ?_, ?_, ?_, ?_, ?_, ?_, ?_, ?_, ?_, ?_, ?_, ?_, ?_, ?_, ?_, ?_, ?_, ?_, ?_, ?_, ?_, ?_, ?_, ?_, ?_, ?_,
      ?_, ?_, ?_, ?_, ?_, ?_, ?_, ?_, ?_, ?_, ?_⟩ <;>
    decide +kernel

/-- States and operands that meet the premises of `Obligations.TableAndCollectiveInstructions`, clause by clause. -/
theorem witness_TableAndCollectiveInstructions :
    (({ upState [(.csq_q_cfg_privilege, 3, 0)] with dev := { (upState [(.csq_q_cfg_privilege, 3, 0)]).dev with queues := ⟨[(3, { run := some ({ run := 5, index := 0, words := [2533274790789122, 0], tStart := 0, pc := 0, regs := [0, 1, 2, 3, 4, 5, 6, 7], prog := [1157425104234218053, 72057594037927936, 72057594037927936], budget := 1000 }) })]⟩ } }).dev.executes
        (3 : Fin 512) 0x10 (1157425104234218053 : Nat) (0 : Nat)
        ({ run := 5, index := 0, words := [2533274790789122, 0], tStart := 0, pc := 0, regs := [0, 1, 2, 3, 4, 5, 6, 7], prog := [1157425104234218053, 72057594037927936, 72057594037927936], budget := 1000 }
        : Entry) (9 : Nat) rowFWD_LOCK_REQ (wSlot (1157425104234218053 : Nat))) ∧
    (({ upState [(.csq_q_cfg_privilege, 3, 0)] with dev := { (upState [(.csq_q_cfg_privilege, 3, 0)]).dev with queues := ⟨[(3, { run := some ({ run := 5, index := 0, words := [2533274790789122, 0], tStart := 0, pc := 0, regs := [0, 1, 2, 3, 4, 5, 6, 7], prog := [1157425104234218053, 72057594037927936, 72057594037927936], budget := 1000 }) })]⟩ } }).dev.slotHeld
        (wSlot (1157425104234218053 : Nat)) = false ∧
        ({ upState [(.csq_q_cfg_privilege, 3, 0)] with dev := { (upState [(.csq_q_cfg_privilege, 3, 0)]).dev with queues := ⟨[(3, { run := some ({ run := 5, index := 0, words := [2533274790789122, 0], tStart := 0, pc := 0, regs := [0, 1, 2, 3, 4, 5, 6, 7], prog := [1157425104234218053, 72057594037927936, 72057594037927936], budget := 1000 }) })]⟩ } }).dev.locked
        (9 : Nat) = false) ∧
    (({ upState [(.csq_q_cfg_privilege, 3, 0), (.fwd_lock_status_held, 5, 1), (.fwd_lock_status_bucket, 5, 9), (.fwd_lock_stage_stage, 42, 77)] with dev := { (upState [(.csq_q_cfg_privilege, 3, 0), (.fwd_lock_status_held, 5, 1), (.fwd_lock_status_bucket, 5, 9), (.fwd_lock_stage_stage, 42, 77)]).dev with queues := ⟨[(3, { run := some ({ run := 5, index := 0, words := [2533274790789122, 0], tStart := 0, pc := 0, regs := [0, 1, 2, 3, 4, 5, 6, 7], prog := [1157425104234218052, 72057594037927936, 72057594037927936], budget := 1000 }) })]⟩ } }).dev.executes
        (3 : Fin 512) 0x10 (1157425104234218052 : Nat) (0 : Nat)
        ({ run := 5, index := 0, words := [2533274790789122, 0], tStart := 0, pc := 0, regs := [0, 1, 2, 3, 4, 5, 6, 7], prog := [1157425104234218052, 72057594037927936, 72057594037927936], budget := 1000 }
        : Entry) (9 : Nat) rowFWD_LOCK_REQ (wSlot (1157425104234218052 : Nat))) ∧
    (({ upState [(.csq_q_cfg_privilege, 3, 0), (.fwd_lock_status_held, 5, 1), (.fwd_lock_status_bucket, 5, 9), (.fwd_lock_stage_stage, 42, 77)] with dev := { (upState [(.csq_q_cfg_privilege, 3, 0), (.fwd_lock_status_held, 5, 1), (.fwd_lock_status_bucket, 5, 9), (.fwd_lock_stage_stage, 42, 77)]).dev with queues := ⟨[(3, { run := some ({ run := 5, index := 0, words := [2533274790789122, 0], tStart := 0, pc := 0, regs := [0, 1, 2, 3, 4, 5, 6, 7], prog := [1157425104234218052, 72057594037927936, 72057594037927936], budget := 1000 }) })]⟩ } }).dev.slotHeld
        (wSlot (1157425104234218052 : Nat)) = false ∧
        ({ upState [(.csq_q_cfg_privilege, 3, 0), (.fwd_lock_status_held, 5, 1), (.fwd_lock_status_bucket, 5, 9), (.fwd_lock_stage_stage, 42, 77)] with dev := { (upState [(.csq_q_cfg_privilege, 3, 0), (.fwd_lock_status_held, 5, 1), (.fwd_lock_status_bucket, 5, 9), (.fwd_lock_stage_stage, 42, 77)]).dev with queues := ⟨[(3, { run := some ({ run := 5, index := 0, words := [2533274790789122, 0], tStart := 0, pc := 0, regs := [0, 1, 2, 3, 4, 5, 6, 7], prog := [1157425104234218052, 72057594037927936, 72057594037927936], budget := 1000 }) })]⟩ } }).dev.locked
        (9 : Nat) = true) ∧
    (({ upState [(.csq_q_cfg_privilege, 3, 0), (.fwd_lock_status_held, 5, 1), (.fwd_lock_status_bucket, 5, 9), (.fwd_lock_stage_stage, 42, 77)] with dev := { (upState [(.csq_q_cfg_privilege, 3, 0), (.fwd_lock_status_held, 5, 1), (.fwd_lock_status_bucket, 5, 9), (.fwd_lock_stage_stage, 42, 77)]).dev with queues := ⟨[(3, { run := some ({ run := 5, index := 0, words := [2533274790789122, 0], tStart := 0, pc := 0, regs := [0, 1, 2, 3, 4, 5, 6, 7], prog := [1225542048598196357, 72057594037927936, 72057594037927936], budget := 1000 }) })]⟩ } }).dev.executes
        (3 : Fin 512) 0x11 (1225542048598196357 : Nat) (0 : Nat)
        ({ run := 5, index := 0, words := [2533274790789122, 0], tStart := 0, pc := 0, regs := [0, 1, 2, 3, 4, 5, 6, 7], prog := [1225542048598196357, 72057594037927936, 72057594037927936], budget := 1000 }
        : Entry) (2 : Nat) rowFWD_LOCK_REQ (wSlot (1225542048598196357 : Nat))) ∧
    (({ upState [(.csq_q_cfg_privilege, 3, 0), (.fwd_lock_status_held, 5, 1), (.fwd_lock_status_bucket, 5, 9), (.fwd_lock_stage_stage, 42, 77)] with dev := { (upState [(.csq_q_cfg_privilege, 3, 0), (.fwd_lock_status_held, 5, 1), (.fwd_lock_status_bucket, 5, 9), (.fwd_lock_stage_stage, 42, 77)]).dev with queues := ⟨[(3, { run := some ({ run := 5, index := 0, words := [2533274790789122, 0], tStart := 0, pc := 0, regs := [0, 1, 2, 3, 4, 5, 6, 7], prog := [1225542048598196357, 72057594037927936, 72057594037927936], budget := 1000 }) })]⟩ } }).dev.slotHeld
        (wSlot (1225542048598196357 : Nat)) = true) ∧
    (({ upState [(.csq_q_cfg_privilege, 3, 0), (.fwd_lock_status_held, 5, 1), (.fwd_lock_status_bucket, 5, 9), (.fwd_lock_stage_stage, 42, 77)] with dev := { (upState [(.csq_q_cfg_privilege, 3, 0), (.fwd_lock_status_held, 5, 1), (.fwd_lock_status_bucket, 5, 9), (.fwd_lock_stage_stage, 42, 77)]).dev with queues := ⟨[(3, { run := some ({ run := 5, index := 0, words := [2533274790789122, 0], tStart := 0, pc := 0, regs := [0, 1, 2, 3, 4, 5, 6, 7], prog := [1301540292310073477, 72057594037927936, 72057594037927936], budget := 1000 }) })]⟩ } }).dev.executes
        (3 : Fin 512) 0x12 (1301540292310073477 : Nat) (0 : Nat)
        ({ run := 5, index := 0, words := [2533274790789122, 0], tStart := 0, pc := 0, regs := [0, 1, 2, 3, 4, 5, 6, 7], prog := [1301540292310073477, 72057594037927936, 72057594037927936], budget := 1000 }
        : Entry) (2 : Nat) rowFWD_LOCK_REQ (wSlot (1301540292310073477 : Nat))) ∧
    (({ upState [(.csq_q_cfg_privilege, 3, 0), (.fwd_lock_status_held, 5, 1), (.fwd_lock_status_bucket, 5, 9), (.fwd_lock_stage_stage, 42, 77)] with dev := { (upState [(.csq_q_cfg_privilege, 3, 0), (.fwd_lock_status_held, 5, 1), (.fwd_lock_status_bucket, 5, 9), (.fwd_lock_stage_stage, 42, 77)]).dev with queues := ⟨[(3, { run := some ({ run := 5, index := 0, words := [2533274790789122, 0], tStart := 0, pc := 0, regs := [0, 1, 2, 3, 4, 5, 6, 7], prog := [1301540292310073477, 72057594037927936, 72057594037927936], budget := 1000 }) })]⟩ } }).dev.slotHeld
        (wSlot (1301540292310073477 : Nat)) = true) ∧
    (({ upState [(.csq_q_cfg_privilege, 3, 0), (.fwd_lock_status_held, 5, 1), (.fwd_lock_status_bucket, 5, 9), (.fwd_lock_stage_stage, 42, 77)] with dev := { (upState [(.csq_q_cfg_privilege, 3, 0), (.fwd_lock_status_held, 5, 1), (.fwd_lock_status_bucket, 5, 9), (.fwd_lock_stage_stage, 42, 77)]).dev with queues := ⟨[(3, { run := some ({ run := 5, index := 0, words := [2533274790789122, 0], tStart := 0, pc := 0, regs := [0, 1, 2, 3, 4, 5, 6, 7], prog := [1301540292310073476, 72057594037927936, 72057594037927936], budget := 1000 }) })]⟩ } }).dev.executes
        (3 : Fin 512) 0x12 (1301540292310073476 : Nat) (0 : Nat)
        ({ run := 5, index := 0, words := [2533274790789122, 0], tStart := 0, pc := 0, regs := [0, 1, 2, 3, 4, 5, 6, 7], prog := [1301540292310073476, 72057594037927936, 72057594037927936], budget := 1000 }
        : Entry) (2 : Nat) rowFWD_LOCK_REQ (wSlot (1301540292310073476 : Nat))) ∧
    (({ upState [(.csq_q_cfg_privilege, 3, 0), (.fwd_lock_status_held, 5, 1), (.fwd_lock_status_bucket, 5, 9), (.fwd_lock_stage_stage, 42, 77)] with dev := { (upState [(.csq_q_cfg_privilege, 3, 0), (.fwd_lock_status_held, 5, 1), (.fwd_lock_status_bucket, 5, 9), (.fwd_lock_stage_stage, 42, 77)]).dev with queues := ⟨[(3, { run := some ({ run := 5, index := 0, words := [2533274790789122, 0], tStart := 0, pc := 0, regs := [0, 1, 2, 3, 4, 5, 6, 7], prog := [1301540292310073476, 72057594037927936, 72057594037927936], budget := 1000 }) })]⟩ } }).dev.slotHeld
        (wSlot (1301540292310073476 : Nat)) = false) ∧
    (({ upState [(.csq_q_cfg_privilege, 3, 0), (.fwd_lock_status_held, 5, 1), (.fwd_lock_status_bucket, 5, 9)] with dev := { (upState [(.csq_q_cfg_privilege, 3, 0), (.fwd_lock_status_held, 5, 1), (.fwd_lock_status_bucket, 5, 9)]).dev with queues := ⟨[(3, { run := some ({ run := 5, index := 0, words := [2533274790789122, 0], tStart := 0, pc := 0, regs := [0, 1, 2, 32], prog := [1374442311278133248, 72057594037927936, 72057594037927936], budget := 1000 }) })]⟩ } }).dev.executes
        (3 : Fin 512) 0x13 (1374442311278133248 : Nat) (0 : Nat)
        ({ run := 5, index := 0, words := [2533274790789122, 0], tStart := 0, pc := 0, regs := [0, 1, 2, 32], prog := [1374442311278133248, 72057594037927936, 72057594037927936], budget := 1000 }
        : Entry) (0 : Nat) rowFWD_COMMIT 0) ∧
    ((bitsOf 64
        (({ run := 5, index := 0, words := [2533274790789122, 0], tStart := 0, pc := 0, regs := [0, 1, 2, 32], prog := [1374442311278133248, 72057594037927936, 72057594037927936], budget := 1000 }
        : Entry).reg (wA (1374442311278133248 : Nat)))).length ≤ 8 ∧ ∀ k ∈ bitsOf 64
        (({ run := 5, index := 0, words := [2533274790789122, 0], tStart := 0, pc := 0, regs := [0, 1, 2, 32], prog := [1374442311278133248, 72057594037927936, 72057594037927936], budget := 1000 }
        : Entry).reg (wA (1374442311278133248 : Nat))),
        ({ upState [(.csq_q_cfg_privilege, 3, 0), (.fwd_lock_status_held, 5, 1), (.fwd_lock_status_bucket, 5, 9)] with dev := { (upState [(.csq_q_cfg_privilege, 3, 0), (.fwd_lock_status_held, 5, 1), (.fwd_lock_status_bucket, 5, 9)]).dev with queues := ⟨[(3, { run := some ({ run := 5, index := 0, words := [2533274790789122, 0], tStart := 0, pc := 0, regs := [0, 1, 2, 32], prog := [1374442311278133248, 72057594037927936, 72057594037927936], budget := 1000 }) })]⟩ } }).dev.slotFails
        (bitsOf 64
        (({ run := 5, index := 0, words := [2533274790789122, 0], tStart := 0, pc := 0, regs := [0, 1, 2, 32], prog := [1374442311278133248, 72057594037927936, 72057594037927936], budget := 1000 }
        : Entry).reg (wA (1374442311278133248 : Nat)))) k = lkOK) ∧
    (({ upState [(.csq_q_cfg_privilege, 3, 0), (.fwd_lock_status_held, 5, 1), (.fwd_lock_status_bucket, 5, 9), (.fwd_lock_stage_stage, 42, 77)] with dev := { (upState [(.csq_q_cfg_privilege, 3, 0), (.fwd_lock_status_held, 5, 1), (.fwd_lock_status_bucket, 5, 9), (.fwd_lock_stage_stage, 42, 77)]).dev with queues := ⟨[(3, { run := some ({ run := 5, index := 0, words := [2533274790789122, 0], tStart := 0, pc := 0, regs := [0, 1, 2, 3, 4, 5, 6, 7], prog := [1225542048598196356, 72057594037927936, 72057594037927936], budget := 1000 }) })]⟩ } }).dev.executes
        (3 : Fin 512) 0x11 (1225542048598196356 : Nat) (0 : Nat)
        ({ run := 5, index := 0, words := [2533274790789122, 0], tStart := 0, pc := 0, regs := [0, 1, 2, 3, 4, 5, 6, 7], prog := [1225542048598196356, 72057594037927936, 72057594037927936], budget := 1000 }
        : Entry) (2 : Nat) rowFWD_LOCK_REQ (wSlot (1225542048598196356 : Nat))) ∧
    (({ upState [(.csq_q_cfg_privilege, 3, 0), (.fwd_lock_status_held, 5, 1), (.fwd_lock_status_bucket, 5, 9), (.fwd_lock_stage_stage, 42, 77)] with dev := { (upState [(.csq_q_cfg_privilege, 3, 0), (.fwd_lock_status_held, 5, 1), (.fwd_lock_status_bucket, 5, 9), (.fwd_lock_stage_stage, 42, 77)]).dev with queues := ⟨[(3, { run := some ({ run := 5, index := 0, words := [2533274790789122, 0], tStart := 0, pc := 0, regs := [0, 1, 2, 3, 4, 5, 6, 7], prog := [1225542048598196356, 72057594037927936, 72057594037927936], budget := 1000 }) })]⟩ } }).dev.slotHeld
        (wSlot (1225542048598196356 : Nat)) = false) ∧
    (({ upState [(.csq_q_cfg_privilege, 3, 0), (.fwd_lock_status_held, 5, 1), (.fwd_lock_status_bucket, 5, 9)] with dev := { (upState [(.csq_q_cfg_privilege, 3, 0), (.fwd_lock_status_held, 5, 1), (.fwd_lock_status_bucket, 5, 9)]).dev with queues := ⟨[(3, { run := some ({ run := 5, index := 0, words := [2533274790789122, 0], tStart := 0, pc := 0, regs := [0, 1, 2, 48], prog := [1374442311278133248, 72057594037927936, 72057594037927936], budget := 1000 }) })]⟩ } }).dev.executes
        (3 : Fin 512) 0x13 (1374442311278133248 : Nat) (0 : Nat)
        ({ run := 5, index := 0, words := [2533274790789122, 0], tStart := 0, pc := 0, regs := [0, 1, 2, 48], prog := [1374442311278133248, 72057594037927936, 72057594037927936], budget := 1000 }
        : Entry) (0 : Nat) rowFWD_COMMIT 0) ∧
    (∃ k ∈ bitsOf 64
        (({ run := 5, index := 0, words := [2533274790789122, 0], tStart := 0, pc := 0, regs := [0, 1, 2, 48], prog := [1374442311278133248, 72057594037927936, 72057594037927936], budget := 1000 }
        : Entry).reg (wA (1374442311278133248 : Nat))),
        ({ upState [(.csq_q_cfg_privilege, 3, 0), (.fwd_lock_status_held, 5, 1), (.fwd_lock_status_bucket, 5, 9)] with dev := { (upState [(.csq_q_cfg_privilege, 3, 0), (.fwd_lock_status_held, 5, 1), (.fwd_lock_status_bucket, 5, 9)]).dev with queues := ⟨[(3, { run := some ({ run := 5, index := 0, words := [2533274790789122, 0], tStart := 0, pc := 0, regs := [0, 1, 2, 48], prog := [1374442311278133248, 72057594037927936, 72057594037927936], budget := 1000 }) })]⟩ } }).dev.slotFails
        (bitsOf 64
        (({ run := 5, index := 0, words := [2533274790789122, 0], tStart := 0, pc := 0, regs := [0, 1, 2, 48], prog := [1374442311278133248, 72057594037927936, 72057594037927936], budget := 1000 }
        : Entry).reg (wA (1374442311278133248 : Nat)))) k ≠ lkOK) ∧
    (({ upState [(.csq_q_cfg_privilege, 3, 0), (.fwd_lock_status_held, 5, 1), (.fwd_lock_status_bucket, 5, 9), (.fwd_lock_stage_stage, 42, 77)] with dev := { (upState [(.csq_q_cfg_privilege, 3, 0), (.fwd_lock_status_held, 5, 1), (.fwd_lock_status_bucket, 5, 9), (.fwd_lock_stage_stage, 42, 77)]).dev with queues := ⟨[(3, { run := some ({ run := 5, index := 0, words := [2533274790789122, 0], tStart := 0, pc := 0, regs := [0, 1, 2, 3, 4, 5, 6, 7], prog := [1441151880758558725, 72057594037927936, 72057594037927936], budget := 1000 }) })]⟩ } }).dev.executes
        (3 : Fin 512) 0x14 (1441151880758558725 : Nat) (0 : Nat)
        ({ run := 5, index := 0, words := [2533274790789122, 0], tStart := 0, pc := 0, regs := [0, 1, 2, 3, 4, 5, 6, 7], prog := [1441151880758558725, 72057594037927936, 72057594037927936], budget := 1000 }
        : Entry) (0 : Nat) rowFWD_LOCK_REQ (wSlot (1441151880758558725 : Nat))) ∧
    (({ upState [(.csq_q_cfg_privilege, 3, 0)] with dev := { (upState [(.csq_q_cfg_privilege, 3, 0)]).dev with queues := ⟨[(3, { run := some ({ run := 5, index := 0, words := [2533274790789122, 0], tStart := 0, pc := 0, regs := [0, 1, 2, 3, 4, 5, 6, 7], prog := [1514053899726618629, 72057594037927936, 72057594037927936], budget := 1000 }) })]⟩ } }).dev.executes
        (3 : Fin 512) 0x15 (1514053899726618629 : Nat) (0 : Nat)
        ({ run := 5, index := 0, words := [2533274790789122, 0], tStart := 0, pc := 0, regs := [0, 1, 2, 3, 4, 5, 6, 7], prog := [1514053899726618629, 72057594037927936, 72057594037927936], budget := 1000 }
        : Entry) (5 : Nat) rowFWD_LEARN (5 : Nat)) ∧
    (({ upState [(.csq_q_cfg_privilege, 3, 0)] with dev := { (upState [(.csq_q_cfg_privilege, 3, 0)]).dev with queues := ⟨[(3, { run := some ({ run := 5, index := 0, words := [2533274790789122, 0], tStart := 0, pc := 0, regs := [0, 1, 2, 3, 4, 5, 6, 7], prog := [1514053899726618629, 72057594037927936, 72057594037927936], budget := 1000 }) })]⟩ } }).dev.refusedFields
        rowFWD_LEARN (5 : Nat) (slice
        (({ run := 5, index := 0, words := [2533274790789122, 0], tStart := 0, pc := 0, regs := [0, 1, 2, 3, 4, 5, 6, 7], prog := [1514053899726618629, 72057594037927936, 72057594037927936], budget := 1000 }
        : Entry).reg (wA (1514053899726618629 : Nat))) 0 17) = []) ∧
    (({ upState [(.csq_q_cfg_privilege, 3, 0)] with dev := { (upState [(.csq_q_cfg_privilege, 3, 0)]).dev with queues := ⟨[(3, { run := some ({ run := 5, index := 0, words := [2533274790789122, 0], tStart := 0, pc := 0, regs := [0, 1, 2, 3, 4, 5, 6, 7], prog := [1586111493764546569, 72057594037927936, 72057594037927936], budget := 1000 }) })]⟩ } }).dev.executes
        (3 : Fin 512) 0x16 (1586111493764546569 : Nat) (0 : Nat)
        ({ run := 5, index := 0, words := [2533274790789122, 0], tStart := 0, pc := 0, regs := [0, 1, 2, 3, 4, 5, 6, 7], prog := [1586111493764546569, 72057594037927936, 72057594037927936], budget := 1000 }
        : Entry) (9 : Nat) rowMCAST_CMD 0) ∧
    (({ upState [(.csq_q_cfg_privilege, 3, 0)] with dev := { (upState [(.csq_q_cfg_privilege, 3, 0)]).dev with queues := ⟨[(3, { run := some ({ run := 5, index := 0, words := [2533274790789122, 0], tStart := 0, pc := 0, regs := [0, 1, 2, 3, 4, 5, 6, 7], prog := [1586111493764546569, 72057594037927936, 72057594037927936], budget := 1000 }) })]⟩ } }).dev.opsOpen
        (3 : Fin 512)
        ({ run := 5, index := 0, words := [2533274790789122, 0], tStart := 0, pc := 0, regs := [0, 1, 2, 3, 4, 5, 6, 7], prog := [1586111493764546569, 72057594037927936, 72057594037927936], budget := 1000 }
        : Entry).run < 16) ∧
    (({ upState [(.csq_q_cfg_privilege, 3, 0)] with dev := { (upState [(.csq_q_cfg_privilege, 3, 0)]).dev with queues := ⟨[(3, { run := some ({ run := 5, index := 0, words := [2533274790789122, 0], tStart := 0, pc := 0, regs := [0, 1, 2, 3, 4, 5, 6, 7], prog := [1586111493764546569, 72057594037927936, 72057594037927936], budget := 1000 }) })]⟩, ops := List.replicate 16 { queue := 3, entry := 5, start := 0, group := 1, key := .mcRun 9 } } }).dev.executes
        (3 : Fin 512) 0x16 (1586111493764546569 : Nat) (0 : Nat)
        ({ run := 5, index := 0, words := [2533274790789122, 0], tStart := 0, pc := 0, regs := [0, 1, 2, 3, 4, 5, 6, 7], prog := [1586111493764546569, 72057594037927936, 72057594037927936], budget := 1000 }
        : Entry) (9 : Nat) rowMCAST_CMD 0) ∧
    (16 ≤
        ({ upState [(.csq_q_cfg_privilege, 3, 0)] with dev := { (upState [(.csq_q_cfg_privilege, 3, 0)]).dev with queues := ⟨[(3, { run := some ({ run := 5, index := 0, words := [2533274790789122, 0], tStart := 0, pc := 0, regs := [0, 1, 2, 3, 4, 5, 6, 7], prog := [1586111493764546569, 72057594037927936, 72057594037927936], budget := 1000 }) })]⟩, ops := List.replicate 16 { queue := 3, entry := 5, start := 0, group := 1, key := .mcRun 9 } } }).dev.opsOpen
        (3 : Fin 512)
        ({ run := 5, index := 0, words := [2533274790789122, 0], tStart := 0, pc := 0, regs := [0, 1, 2, 3, 4, 5, 6, 7], prog := [1586111493764546569, 72057594037927936, 72057594037927936], budget := 1000 }
        : Entry).run) ∧
    (({ upState [] with dev := { (upState []).dev with reads := [{ purpose := .mcEntry 3 9, req := 0x4000, addr := 0, ext := true }], ops := [{ queue := 3, entry := 5, start := 0, group := 1, key := .mcWrite 9 }] } }).dev.takeRead
        (.mcEntry (3 : Fin 512) (9 : Fin 65536)) = some
        ({ (upState []).dev with reads := [], ops := [{ queue := 3, entry := 5, start := 0, group := 1, key := .mcWrite 9 }] } :
        Dev) ∧
        ({ (upState []).dev with reads := [], ops := [{ queue := 3, entry := 5, start := 0, group := 1, key := .mcWrite 9 }] } :
        Dev).flag .mcast_cmd_status_busy = false) ∧
    ((some #v[0,0,0,0,0,0,0,0,0,0,0,0,0,0,0,7] : Option (Vector Word 16)) = some (#v[0,0,0,0,0,0,0,0,0,0,0,0,0,0,0,7] : Vector
        Word 16)) ∧
    (({ upState [(.mcast_cmd_status_busy, 0, 1)] with dev := { (upState [(.mcast_cmd_status_busy, 0, 1)]).dev with reads := [{ purpose := .mcEntry 3 9, req := 0x4000, addr := 0, ext := true }], ops := [{ queue := 3, entry := 5, start := 0, group := 1, key := .mcWrite 9 }] } }).dev.takeRead
        (.mcEntry (3 : Fin 512) (9 : Fin 65536)) = some
        ({ (upState [(.mcast_cmd_status_busy, 0, 1)]).dev with reads := [], ops := [{ queue := 3, entry := 5, start := 0, group := 1, key := .mcWrite 9 }] }
        : Dev) ∧
        ({ (upState [(.mcast_cmd_status_busy, 0, 1)]).dev with reads := [], ops := [{ queue := 3, entry := 5, start := 0, group := 1, key := .mcWrite 9 }] }
        : Dev).flag .mcast_cmd_status_busy = true) ∧
    (({ upState [] with dev := { (upState []).dev with reads := [{ purpose := .mcEntry 3 9, req := 0x4000, addr := 0, ext := true }], ops := [{ queue := 3, entry := 5, start := 0, group := 1, key := .mcWrite 9 }] } }).dev.takeRead
        (.mcEntry (3 : Fin 512) (9 : Fin 65536)) = some
        ({ (upState []).dev with reads := [], ops := [{ queue := 3, entry := 5, start := 0, group := 1, key := .mcWrite 9 }] } :
        Dev)) ∧
    ((none : Option (Vector Word 16)) = none) ∧
    (({ upState [(.csq_q_cfg_privilege, 3, 0)] with dev := { (upState [(.csq_q_cfg_privilege, 3, 0)]).dev with queues := ⟨[(3, { run := some ({ run := 5, index := 0, words := [2533274790789122, 0], tStart := 0, pc := 0, regs := [0, 1, 2, 3, 4, 5, 6, 7], prog := [2306687434143825924, 72057594037927936, 72057594037927936], budget := 1000 }) })]⟩ } }).dev.executes
        (3 : Fin 512) 0x20 (2306687434143825924 : Nat) (0 : Nat)
        ({ run := 5, index := 0, words := [2533274790789122, 0], tStart := 0, pc := 0, regs := [0, 1, 2, 3, 4, 5, 6, 7], prog := [2306687434143825924, 72057594037927936, 72057594037927936], budget := 1000 }
        : Entry) (4 : Nat) rowCOLL_CTX_STATE (4 : Nat)) ∧
    (({ upState [(.csq_q_cfg_privilege, 3, 0)] with dev := { (upState [(.csq_q_cfg_privilege, 3, 0)]).dev with queues := ⟨[(3, { run := some ({ run := 5, index := 0, words := [2533274790789122, 0], tStart := 0, pc := 0, regs := [0, 1, 2, 3, 4, 5, 6, 7], prog := [2306687434143825924, 72057594037927936, 72057594037927936], budget := 1000 }) })]⟩ } }).dev.opsOpen
        (3 : Fin 512)
        ({ run := 5, index := 0, words := [2533274790789122, 0], tStart := 0, pc := 0, regs := [0, 1, 2, 3, 4, 5, 6, 7], prog := [2306687434143825924, 72057594037927936, 72057594037927936], budget := 1000 }
        : Entry).run < 16) ∧
    (({ upState [(.csq_q_cfg_privilege, 3, 0)] with dev := { (upState [(.csq_q_cfg_privilege, 3, 0)]).dev with queues := ⟨[(3, { run := some ({ run := 5, index := 0, words := [2533274790789122, 0], tStart := 0, pc := 0, regs := [0, 1, 2, 3, 4, 5, 6, 7], prog := [2306687434143825924, 72057594037927936, 72057594037927936], budget := 1000 }) })]⟩ } }).dev.collLoads.getOpt
        (({ upState [(.csq_q_cfg_privilege, 3, 0)] with dev := { (upState [(.csq_q_cfg_privilege, 3, 0)]).dev with queues := ⟨[(3, { run := some ({ run := 5, index := 0, words := [2533274790789122, 0], tStart := 0, pc := 0, regs := [0, 1, 2, 3, 4, 5, 6, 7], prog := [2306687434143825924, 72057594037927936, 72057594037927936], budget := 1000 }) })]⟩ } }).dev.qSeq
        (3 : Fin 512)) = none) ∧
    (({ upState [(.csq_q_cfg_privilege, 3, 0)] with dev := { (upState [(.csq_q_cfg_privilege, 3, 0)]).dev with queues := ⟨[(3, { run := some ({ run := 5, index := 0, words := [2533274790789122, 0], tStart := 0, pc := 0, regs := [0, 1, 2, 3, 4, 5, 6, 7], prog := [2377900603251621892, 72057594037927936, 72057594037927936], budget := 1000 }) })]⟩, ctxs := ⟨[(4, some { hdr := [1152991873351024647, 8797166768128, 327680, 0], map := [1610613248], state := 1 })]⟩ } }).dev.executes
        (3 : Fin 512) 0x21 (2377900603251621892 : Nat) (0 : Nat)
        ({ run := 5, index := 0, words := [2533274790789122, 0], tStart := 0, pc := 0, regs := [0, 1, 2, 3, 4, 5, 6, 7], prog := [2377900603251621892, 72057594037927936, 72057594037927936], budget := 1000 }
        : Entry) (4 : Nat) rowCOLL_CTX_STATE (4 : Nat)) ∧
    (({ upState [(.csq_q_cfg_privilege, 3, 0)] with dev := { (upState [(.csq_q_cfg_privilege, 3, 0)]).dev with queues := ⟨[(3, { run := some ({ run := 5, index := 0, words := [2533274790789122, 0], tStart := 0, pc := 0, regs := [0, 1, 2, 3, 4, 5, 6, 7], prog := [2377900603251621892, 72057594037927936, 72057594037927936], budget := 1000 }) })]⟩, ctxs := ⟨[(4, some { hdr := [1152991873351024647, 8797166768128, 327680, 0], map := [1610613248], state := 1 })]⟩ } }).dev.opsOpen
        (3 : Fin 512)
        ({ run := 5, index := 0, words := [2533274790789122, 0], tStart := 0, pc := 0, regs := [0, 1, 2, 3, 4, 5, 6, 7], prog := [2377900603251621892, 72057594037927936, 72057594037927936], budget := 1000 }
        : Entry).run < 16) ∧
    (({ upState [(.csq_q_cfg_privilege, 3, 0)] with dev := { (upState [(.csq_q_cfg_privilege, 3, 0)]).dev with queues := ⟨[(3, { run := some ({ run := 5, index := 0, words := [2533274790789122, 0], tStart := 0, pc := 0, regs := [0, 1, 2, 3, 4, 5, 6, 7], prog := [2377900603251621892, 72057594037927936, 72057594037927936], budget := 1000 }) })]⟩, ctxs := ⟨[(4, some { hdr := [1152991873351024647, 8797166768128, 327680, 0], map := [1610613248], state := 1 })]⟩ } }).dev.ctx
        (4 : Nat) = some ({ hdr := [1152991873351024647, 8797166768128, 327680, 0], map := [1610613248], state := 1 } : Ctx) ∧
        ({ hdr := [1152991873351024647, 8797166768128, 327680, 0], map := [1610613248], state := 1 } : Ctx).state = 1 ∧
        ({ hdr := [1152991873351024647, 8797166768128, 327680, 0], map := [1610613248], state := 1 } : Ctx).armed = 0) ∧
    (({ upState [(.csq_q_cfg_privilege, 3, 0)] with dev := { (upState [(.csq_q_cfg_privilege, 3, 0)]).dev with queues := ⟨[(3, { run := some ({ run := 5, index := 0, words := [2533274790789122, 0], tStart := 0, pc := 0, regs := [0, 1, 2, 3, 4, 5, 6, 7], prog := [2377900603251621892, 72057594037927936, 72057594037927936], budget := 1000 }) })]⟩ } }).dev.executes
        (3 : Fin 512) 0x21 (2377900603251621892 : Nat) (0 : Nat)
        ({ run := 5, index := 0, words := [2533274790789122, 0], tStart := 0, pc := 0, regs := [0, 1, 2, 3, 4, 5, 6, 7], prog := [2377900603251621892, 72057594037927936, 72057594037927936], budget := 1000 }
        : Entry) (4 : Nat) rowCOLL_CTX_STATE (4 : Nat)) ∧
    (({ upState [(.csq_q_cfg_privilege, 3, 0)] with dev := { (upState [(.csq_q_cfg_privilege, 3, 0)]).dev with queues := ⟨[(3, { run := some ({ run := 5, index := 0, words := [2533274790789122, 0], tStart := 0, pc := 0, regs := [0, 1, 2, 3, 4, 5, 6, 7], prog := [2377900603251621892, 72057594037927936, 72057594037927936], budget := 1000 }) })]⟩ } }).dev.opsOpen
        (3 : Fin 512)
        ({ run := 5, index := 0, words := [2533274790789122, 0], tStart := 0, pc := 0, regs := [0, 1, 2, 3, 4, 5, 6, 7], prog := [2377900603251621892, 72057594037927936, 72057594037927936], budget := 1000 }
        : Entry).run < 16) ∧
    (({ upState [(.csq_q_cfg_privilege, 3, 0)] with dev := { (upState [(.csq_q_cfg_privilege, 3, 0)]).dev with queues := ⟨[(3, { run := some ({ run := 5, index := 0, words := [2533274790789122, 0], tStart := 0, pc := 0, regs := [0, 1, 2, 3, 4, 5, 6, 7], prog := [2377900603251621892, 72057594037927936, 72057594037927936], budget := 1000 }) })]⟩ } }).dev.ctx
        (4 : Nat) = none) ∧
    (({ upState [(.csq_q_cfg_privilege, 3, 0)] with dev := { (upState [(.csq_q_cfg_privilege, 3, 0)]).dev with queues := ⟨[(3, { run := some ({ run := 5, index := 0, words := [2533274790789122, 0], tStart := 0, pc := 0, regs := [0, 1, 2, 3, 4, 5, 6, 7], prog := [2449958197289598980, 72057594037927936, 72057594037927936], budget := 1000 }) })]⟩, ctxs := ⟨[(4, some { hdr := [1152991873351024647, 8797166768128, 327680, 0], map := [1610613248], state := 1 })]⟩ } }).dev.executes
        (3 : Fin 512) 0x22 (2449958197289598980 : Nat) (0 : Nat)
        ({ run := 5, index := 0, words := [2533274790789122, 0], tStart := 0, pc := 0, regs := [0, 1, 2, 3, 4, 5, 6, 7], prog := [2449958197289598980, 72057594037927936, 72057594037927936], budget := 1000 }
        : Entry) (4 : Nat) rowCOLL_CTX_STATE (4 : Nat)) ∧
    (({ upState [(.csq_q_cfg_privilege, 3, 0)] with dev := { (upState [(.csq_q_cfg_privilege, 3, 0)]).dev with queues := ⟨[(3, { run := some ({ run := 5, index := 0, words := [2533274790789122, 0], tStart := 0, pc := 0, regs := [0, 1, 2, 3, 4, 5, 6, 7], prog := [2449958197289598980, 72057594037927936, 72057594037927936], budget := 1000 }) })]⟩, ctxs := ⟨[(4, some { hdr := [1152991873351024647, 8797166768128, 327680, 0], map := [1610613248], state := 1 })]⟩ } }).dev.ctx
        (4 : Nat) = some ({ hdr := [1152991873351024647, 8797166768128, 327680, 0], map := [1610613248], state := 1 } : Ctx) ∧
        ({ hdr := [1152991873351024647, 8797166768128, 327680, 0], map := [1610613248], state := 1 } : Ctx).armed + slice
        (2449958197289598980 : Nat) 14 16 ≤ 65535) ∧
    (({ upState [(.csq_q_cfg_privilege, 3, 0)] with dev := { (upState [(.csq_q_cfg_privilege, 3, 0)]).dev with queues := ⟨[(3, { run := some ({ run := 5, index := 0, words := [2533274790789122, 0], tStart := 0, pc := 0, regs := [0, 1, 2, 3, 4, 5, 6, 7], prog := [2449958197289598980, 72057594037927936, 72057594037927936], budget := 1000 }) })]⟩ } }).dev.executes
        (3 : Fin 512) 0x22 (2449958197289598980 : Nat) (0 : Nat)
        ({ run := 5, index := 0, words := [2533274790789122, 0], tStart := 0, pc := 0, regs := [0, 1, 2, 3, 4, 5, 6, 7], prog := [2449958197289598980, 72057594037927936, 72057594037927936], budget := 1000 }
        : Entry) (4 : Nat) rowCOLL_CTX_STATE (4 : Nat)) ∧
    (({ upState [(.csq_q_cfg_privilege, 3, 0)] with dev := { (upState [(.csq_q_cfg_privilege, 3, 0)]).dev with queues := ⟨[(3, { run := some ({ run := 5, index := 0, words := [2533274790789122, 0], tStart := 0, pc := 0, regs := [0, 1, 2, 3, 4, 5, 6, 7], prog := [2449958197289598980, 72057594037927936, 72057594037927936], budget := 1000 }) })]⟩ } }).dev.ctx
        (4 : Nat) = none) ∧
    (({ upState [(.csq_q_cfg_privilege, 3, 0)] with dev := { (upState [(.csq_q_cfg_privilege, 3, 0)]).dev with queues := ⟨[(3, { run := some ({ run := 5, index := 0, words := [2533274790789122, 0], tStart := 0, pc := 0, regs := [0, 1, 2, 3, 4, 5, 6, 7], prog := [2449958197289598980, 72057594037927936, 72057594037927936], budget := 1000 }) })]⟩, ctxs := ⟨[(4, some { hdr := [1152991873351024647, 8797166768128, 327680, 0], map := [1610613248], state := 1, armed := 65533 })]⟩ } }).dev.executes
        (3 : Fin 512) 0x22 (2449958197289598980 : Nat) (0 : Nat)
        ({ run := 5, index := 0, words := [2533274790789122, 0], tStart := 0, pc := 0, regs := [0, 1, 2, 3, 4, 5, 6, 7], prog := [2449958197289598980, 72057594037927936, 72057594037927936], budget := 1000 }
        : Entry) (4 : Nat) rowCOLL_CTX_STATE (4 : Nat)) ∧
    (({ upState [(.csq_q_cfg_privilege, 3, 0)] with dev := { (upState [(.csq_q_cfg_privilege, 3, 0)]).dev with queues := ⟨[(3, { run := some ({ run := 5, index := 0, words := [2533274790789122, 0], tStart := 0, pc := 0, regs := [0, 1, 2, 3, 4, 5, 6, 7], prog := [2449958197289598980, 72057594037927936, 72057594037927936], budget := 1000 }) })]⟩, ctxs := ⟨[(4, some { hdr := [1152991873351024647, 8797166768128, 327680, 0], map := [1610613248], state := 1, armed := 65533 })]⟩ } }).dev.ctx
        (4 : Nat) = some
        ({ hdr := [1152991873351024647, 8797166768128, 327680, 0], map := [1610613248], state := 1, armed := 65533 } : Ctx) ∧
        65535 < ({ hdr := [1152991873351024647, 8797166768128, 327680, 0], map := [1610613248], state := 1, armed := 65533 } :
        Ctx).armed + slice (2449958197289598980 : Nat) 14 16 - b2n
        (({ hdr := [1152991873351024647, 8797166768128, 327680, 0], map := [1610613248], state := 1, armed := 65533 } :
        Ctx).state == 1 &&
        ({ hdr := [1152991873351024647, 8797166768128, 327680, 0], map := [1610613248], state := 1, armed := 65533 } :
        Ctx).armed == 0)) ∧
    (({ upState [(.csq_q_cfg_privilege, 3, 0)] with dev := { (upState [(.csq_q_cfg_privilege, 3, 0)]).dev with queues := ⟨[(3, { run := some ({ run := 5, index := 0, words := [2533274790789122, 0], tStart := 0, pc := 0, regs := [0, 1, 2, 3, 4, 5, 6, 7], prog := [2522015791327477764, 72057594037927936, 72057594037927936], budget := 1000 }) })]⟩, ctxs := ⟨[(4, some { hdr := [1152991873351024647, 8797166768128, 327680, 0], map := [1610613248], state := 2, launches := [⟨3, 9, true, false⟩], run := some { step := 0, tOpen := 0, t0 := 0, base := 0 } })]⟩ } }).dev.executes
        (3 : Fin 512) 0x23 (2522015791327477764 : Nat) (0 : Nat)
        ({ run := 5, index := 0, words := [2533274790789122, 0], tStart := 0, pc := 0, regs := [0, 1, 2, 3, 4, 5, 6, 7], prog := [2522015791327477764, 72057594037927936, 72057594037927936], budget := 1000 }
        : Entry) (4 : Nat) rowCOLL_CTX_STATE (4 : Nat)) ∧
    (({ upState [(.csq_q_cfg_privilege, 3, 0)] with dev := { (upState [(.csq_q_cfg_privilege, 3, 0)]).dev with queues := ⟨[(3, { run := some ({ run := 5, index := 0, words := [2533274790789122, 0], tStart := 0, pc := 0, regs := [0, 1, 2, 3, 4, 5, 6, 7], prog := [2522015791327477764, 72057594037927936, 72057594037927936], budget := 1000 }) })]⟩, ctxs := ⟨[(4, some { hdr := [1152991873351024647, 8797166768128, 327680, 0], map := [1610613248], state := 2, launches := [⟨3, 9, true, false⟩], run := some { step := 0, tOpen := 0, t0 := 0, base := 0 } })]⟩ } }).dev.openStep?
        (4 : Nat) = some
        (({ hdr := [1152991873351024647, 8797166768128, 327680, 0], map := [1610613248], state := 2, launches := [⟨3, 9, true, false⟩], run := some { step := 0, tOpen := 0, t0 := 0, base := 0 } }
        : Ctx), ({ step := 0, tOpen := 0, t0 := 0, base := 0 } : Step))) ∧
    (({ upState [(.csq_q_cfg_privilege, 3, 0)] with dev := { (upState [(.csq_q_cfg_privilege, 3, 0)]).dev with queues := ⟨[(3, { run := some ({ run := 5, index := 0, words := [2533274790789122, 0], tStart := 0, pc := 0, regs := [0, 1, 2, 3, 4, 5, 6, 7], prog := [2522015791327477764, 72057594037927936, 72057594037927936], budget := 1000 }) })]⟩ } }).dev.executes
        (3 : Fin 512) 0x23 (2522015791327477764 : Nat) (0 : Nat)
        ({ run := 5, index := 0, words := [2533274790789122, 0], tStart := 0, pc := 0, regs := [0, 1, 2, 3, 4, 5, 6, 7], prog := [2522015791327477764, 72057594037927936, 72057594037927936], budget := 1000 }
        : Entry) (4 : Nat) rowCOLL_CTX_STATE (4 : Nat)) ∧
    (({ upState [(.csq_q_cfg_privilege, 3, 0)] with dev := { (upState [(.csq_q_cfg_privilege, 3, 0)]).dev with queues := ⟨[(3, { run := some ({ run := 5, index := 0, words := [2533274790789122, 0], tStart := 0, pc := 0, regs := [0, 1, 2, 3, 4, 5, 6, 7], prog := [2522015791327477764, 72057594037927936, 72057594037927936], budget := 1000 }) })]⟩ } }).dev.ctx
        (4 : Nat) = none) ∧
    (({ upState [(.csq_q_cfg_privilege, 3, 0)] with dev := { (upState [(.csq_q_cfg_privilege, 3, 0)]).dev with queues := ⟨[(3, { run := some ({ run := 5, index := 0, words := [2533274790789122, 0], tStart := 0, pc := 0, regs := [0, 1, 2, 3, 4, 5, 6, 7], prog := [2522015791327477764, 72057594037927936, 72057594037927936], budget := 1000 }) })]⟩, ctxs := ⟨[(4, some { hdr := [1152991873351024647, 8797166768128, 327680, 0], map := [1610613248], state := 1 })]⟩ } }).dev.executes
        (3 : Fin 512) 0x23 (2522015791327477764 : Nat) (0 : Nat)
        ({ run := 5, index := 0, words := [2533274790789122, 0], tStart := 0, pc := 0, regs := [0, 1, 2, 3, 4, 5, 6, 7], prog := [2522015791327477764, 72057594037927936, 72057594037927936], budget := 1000 }
        : Entry) (4 : Nat) rowCOLL_CTX_STATE (4 : Nat)) ∧
    (({ upState [(.csq_q_cfg_privilege, 3, 0)] with dev := { (upState [(.csq_q_cfg_privilege, 3, 0)]).dev with queues := ⟨[(3, { run := some ({ run := 5, index := 0, words := [2533274790789122, 0], tStart := 0, pc := 0, regs := [0, 1, 2, 3, 4, 5, 6, 7], prog := [2522015791327477764, 72057594037927936, 72057594037927936], budget := 1000 }) })]⟩, ctxs := ⟨[(4, some { hdr := [1152991873351024647, 8797166768128, 327680, 0], map := [1610613248], state := 1 })]⟩ } }).dev.ctx
        (4 : Nat) = some ({ hdr := [1152991873351024647, 8797166768128, 327680, 0], map := [1610613248], state := 1 } : Ctx) ∧
        ({ hdr := [1152991873351024647, 8797166768128, 327680, 0], map := [1610613248], state := 1 } : Ctx).state = 1 ∧
        ({ hdr := [1152991873351024647, 8797166768128, 327680, 0], map := [1610613248], state := 1 } : Ctx).armed = 0) ∧
    (({ upState [(.csq_q_cfg_privilege, 3, 0)] with dev := { (upState [(.csq_q_cfg_privilege, 3, 0)]).dev with queues := ⟨[(3, { run := some ({ run := 5, index := 0, words := [2533274790789122, 0], tStart := 0, pc := 0, regs := [0, 1, 2, 3, 4, 5, 6, 7], prog := [2598576984992776196, 72057594037927936, 72057594037927936], budget := 1000 }) })]⟩, ctxs := ⟨[(4, some { hdr := [1152991873351024647, 8797166768128, 327680, 0], map := [1610613248], state := 1, last := 2 })]⟩ } }).dev.executes
        (3 : Fin 512) 0x24 (2598576984992776196 : Nat) (0 : Nat)
        ({ run := 5, index := 0, words := [2533274790789122, 0], tStart := 0, pc := 0, regs := [0, 1, 2, 3, 4, 5, 6, 7], prog := [2598576984992776196, 72057594037927936, 72057594037927936], budget := 1000 }
        : Entry) (4 : Nat) rowCOLL_CTX_STATE (4 : Nat)) ∧
    (({ upState [(.csq_q_cfg_privilege, 3, 0)] with dev := { (upState [(.csq_q_cfg_privilege, 3, 0)]).dev with queues := ⟨[(3, { run := some ({ run := 5, index := 0, words := [2533274790789122, 0], tStart := 0, pc := 0, regs := [0, 1, 2, 3, 4, 5, 6, 7], prog := [2666975404333465606, 72057594037927936, 72057594037927936], budget := 1000 }) })]⟩ } }).dev.executes
        (3 : Fin 512) 0x25 (2666975404333465606 : Nat) (0 : Nat)
        ({ run := 5, index := 0, words := [2533274790789122, 0], tStart := 0, pc := 0, regs := [0, 1, 2, 3, 4, 5, 6, 7], prog := [2666975404333465606, 72057594037927936, 72057594037927936], budget := 1000 }
        : Entry) (6 : Nat) rowWRA_DESC_STATE (6 : Nat)) ∧
    (({ upState [(.csq_q_cfg_privilege, 3, 0)] with dev := { (upState [(.csq_q_cfg_privilege, 3, 0)]).dev with queues := ⟨[(3, { run := some ({ run := 5, index := 0, words := [2533274790789122, 0], tStart := 0, pc := 0, regs := [0, 1, 2, 3, 4, 5, 6, 7], prog := [2666975404333465606, 72057594037927936, 72057594037927936], budget := 1000 }) })]⟩ } }).dev.opsOpen
        (3 : Fin 512)
        ({ run := 5, index := 0, words := [2533274790789122, 0], tStart := 0, pc := 0, regs := [0, 1, 2, 3, 4, 5, 6, 7], prog := [2666975404333465606, 72057594037927936, 72057594037927936], budget := 1000 }
        : Entry).run < 16) ∧
    (({ upState [(.csq_q_cfg_privilege, 3, 0)] with dev := { (upState [(.csq_q_cfg_privilege, 3, 0)]).dev with queues := ⟨[(3, { run := some ({ run := 5, index := 0, words := [2533274790789122, 0], tStart := 0, pc := 0, regs := [0, 1, 2, 3, 4, 5, 6, 7], prog := [2666975404333465606, 72057594037927936, 72057594037927936], budget := 1000 }) })]⟩ } }).dev.descPathBusy
        (({ upState [(.csq_q_cfg_privilege, 3, 0)] with dev := { (upState [(.csq_q_cfg_privilege, 3, 0)]).dev with queues := ⟨[(3, { run := some ({ run := 5, index := 0, words := [2533274790789122, 0], tStart := 0, pc := 0, regs := [0, 1, 2, 3, 4, 5, 6, 7], prog := [2666975404333465606, 72057594037927936, 72057594037927936], budget := 1000 }) })]⟩ } }).dev.qSeq
        (3 : Fin 512)) = false) ∧
    (({ upState [(.csq_q_cfg_privilege, 3, 0)] with dev := { (upState [(.csq_q_cfg_privilege, 3, 0)]).dev with queues := ⟨[(3, { run := some ({ run := 5, index := 0, words := [2533274790789122, 0], tStart := 0, pc := 0, regs := [0, 1, 2, 3, 4, 5, 6, 7], prog := [2738188573441261574, 72057594037927936, 72057594037927936], budget := 1000 }) })]⟩, descs := ⟨[(6, some { words := [3 * 2 ^ 60 + 3 * 2 ^ 56 + 2 * 2 ^ 52 + 2 * 2 ^ 35 + 7, 2 ^ 56 + 2 ^ 32 + 1, 64, 0, 0, 0, 0, 0] })]⟩ } }).dev.executes
        (3 : Fin 512) 0x26 (2738188573441261574 : Nat) (0 : Nat)
        ({ run := 5, index := 0, words := [2533274790789122, 0], tStart := 0, pc := 0, regs := [0, 1, 2, 3, 4, 5, 6, 7], prog := [2738188573441261574, 72057594037927936, 72057594037927936], budget := 1000 }
        : Entry) (6 : Nat) rowWRA_DESC_STATE (6 : Nat)) ∧
    (({ upState [(.csq_q_cfg_privilege, 3, 0)] with dev := { (upState [(.csq_q_cfg_privilege, 3, 0)]).dev with queues := ⟨[(3, { run := some ({ run := 5, index := 0, words := [2533274790789122, 0], tStart := 0, pc := 0, regs := [0, 1, 2, 3, 4, 5, 6, 7], prog := [2738188573441261574, 72057594037927936, 72057594037927936], budget := 1000 }) })]⟩, descs := ⟨[(6, some { words := [3 * 2 ^ 60 + 3 * 2 ^ 56 + 2 * 2 ^ 52 + 2 * 2 ^ 35 + 7, 2 ^ 56 + 2 ^ 32 + 1, 64, 0, 0, 0, 0, 0] })]⟩ } }).dev.opsOpen
        (3 : Fin 512)
        ({ run := 5, index := 0, words := [2533274790789122, 0], tStart := 0, pc := 0, regs := [0, 1, 2, 3, 4, 5, 6, 7], prog := [2738188573441261574, 72057594037927936, 72057594037927936], budget := 1000 }
        : Entry).run < 16) ∧
    (({ upState [(.csq_q_cfg_privilege, 3, 0)] with dev := { (upState [(.csq_q_cfg_privilege, 3, 0)]).dev with queues := ⟨[(3, { run := some ({ run := 5, index := 0, words := [2533274790789122, 0], tStart := 0, pc := 0, regs := [0, 1, 2, 3, 4, 5, 6, 7], prog := [2738188573441261574, 72057594037927936, 72057594037927936], budget := 1000 }) })]⟩, descs := ⟨[(6, some { words := [3 * 2 ^ 60 + 3 * 2 ^ 56 + 2 * 2 ^ 52 + 2 * 2 ^ 35 + 7, 2 ^ 56 + 2 ^ 32 + 1, 64, 0, 0, 0, 0, 0] })]⟩ } }).dev.desc
        (6 : Nat) = some
        ({ words := [3 * 2 ^ 60 + 3 * 2 ^ 56 + 2 * 2 ^ 52 + 2 * 2 ^ 35 + 7, 2 ^ 56 + 2 ^ 32 + 1, 64, 0, 0, 0, 0, 0] } : Desc) ∧
        ({ upState [(.csq_q_cfg_privilege, 3, 0)] with dev := { (upState [(.csq_q_cfg_privilege, 3, 0)]).dev with queues := ⟨[(3, { run := some ({ run := 5, index := 0, words := [2533274790789122, 0], tStart := 0, pc := 0, regs := [0, 1, 2, 3, 4, 5, 6, 7], prog := [2738188573441261574, 72057594037927936, 72057594037927936], budget := 1000 }) })]⟩, descs := ⟨[(6, some { words := [3 * 2 ^ 60 + 3 * 2 ^ 56 + 2 * 2 ^ 52 + 2 * 2 ^ 35 + 7, 2 ^ 56 + 2 ^ 32 + 1, 64, 0, 0, 0, 0, 0] })]⟩ } }).dev.descHolds
        (6 : Nat) = 0 ∧
        ({ upState [(.csq_q_cfg_privilege, 3, 0)] with dev := { (upState [(.csq_q_cfg_privilege, 3, 0)]).dev with queues := ⟨[(3, { run := some ({ run := 5, index := 0, words := [2533274790789122, 0], tStart := 0, pc := 0, regs := [0, 1, 2, 3, 4, 5, 6, 7], prog := [2738188573441261574, 72057594037927936, 72057594037927936], budget := 1000 }) })]⟩, descs := ⟨[(6, some { words := [3 * 2 ^ 60 + 3 * 2 ^ 56 + 2 * 2 ^ 52 + 2 * 2 ^ 35 + 7, 2 ^ 56 + 2 ^ 32 + 1, 64, 0, 0, 0, 0, 0] })]⟩ } }).dev.descInflight
        (6 : Nat) = 0) := by
  refine ⟨?_, ?_, ?_, ?_, ?_, ?_, ?_, ?_, ?_, ?_, ?_, ?_, ?_, ?_, ?_, ?_, ?_, ?_, ?_, ?_, ?_, ?_, ?_, ?_, ?_, ?_, ?_, ?_, ?_,
      ?_, ?_, ?_, ?_, ?_, ?_, ?_, ?_, ?_, ?_, ?_, ?_, ?_, ?_, ?_, ?_, ?_, ?_, ?_, ?_, ?_, ?_, ?_, ?_, ?_, ?_, ?_⟩ <;>
    decide +kernel

/-- States and operands that meet the premises of `Obligations.PortAndLaneInstructions`, clause by clause. -/
theorem witness_PortAndLaneInstructions :
    (({ upState [(.csq_q_cfg_privilege, 3, 0), (.port_cfg_role, 5, 1), (.port_status_link_status, 5, 7)] with dev := { (upState [(.csq_q_cfg_privilege, 3, 0), (.port_cfg_role, 5, 1), (.port_status_link_status, 5, 7)]).dev with queues := ⟨[(3, { run := some ({ run := 5, index := 0, words := [2533274790789122, 0], tStart := 0, pc := 0, regs := [0, 1, 2, 3, 4, 5, 6, 7], prog := [3458764513820542469, 72057594037927936, 72057594037927936], budget := 1000 }) })]⟩ } }).dev.executes
        (3 : Fin 512) 0x30 (3458764513820542469 : Nat) (0 : Nat)
        ({ run := 5, index := 0, words := [2533274790789122, 0], tStart := 0, pc := 0, regs := [0, 1, 2, 3, 4, 5, 6, 7], prog := [3458764513820542469, 72057594037927936, 72057594037927936], budget := 1000 }
        : Entry) (5 : Nat) rowPORT_CMD (5 : Nat)) ∧
    (({ upState [(.csq_q_cfg_privilege, 3, 0), (.port_cfg_role, 5, 1), (.port_status_link_status, 5, 7)] with dev := { (upState [(.csq_q_cfg_privilege, 3, 0), (.port_cfg_role, 5, 1), (.port_status_link_status, 5, 7)]).dev with queues := ⟨[(3, { run := some ({ run := 5, index := 0, words := [2533274790789122, 0], tStart := 0, pc := 0, regs := [0, 1, 2, 3, 4, 5, 6, 7], prog := [3458764513820542469, 72057594037927936, 72057594037927936], budget := 1000 }) })]⟩ } }).dev.refusedFields
        rowPORT_CMD (5 : Nat) (slice (3458764513820542469 : Nat) 9 4) = []) ∧
    (slice (3458764513820542469 : Nat) 9 4 = 3 ∧
        ({ upState [(.csq_q_cfg_privilege, 3, 0), (.port_cfg_role, 5, 1), (.port_status_link_status, 5, 7)] with dev := { (upState [(.csq_q_cfg_privilege, 3, 0), (.port_cfg_role, 5, 1), (.port_status_link_status, 5, 7)]).dev with queues := ⟨[(3, { run := some ({ run := 5, index := 0, words := [2533274790789122, 0], tStart := 0, pc := 0, regs := [0, 1, 2, 3, 4, 5, 6, 7], prog := [3458764513820542469, 72057594037927936, 72057594037927936], budget := 1000 }) })]⟩ } }).dev.linkStatus
        (5 : Nat) = lsADMIT_WAIT) ∧
    (({ upState [(.csq_q_cfg_privilege, 3, 0), (.port_cfg_role, 5, 1), (.port_status_link_status, 5, 5)] with dev := { (upState [(.csq_q_cfg_privilege, 3, 0), (.port_cfg_role, 5, 1), (.port_status_link_status, 5, 5)]).dev with queues := ⟨[(3, { run := some ({ run := 5, index := 0, words := [2533274790789122, 0], tStart := 0, pc := 0, regs := [0, 1, 2, 3, 4, 5, 6, 7], prog := [3458764513820542469, 72057594037927936, 72057594037927936], budget := 1000 }) })]⟩ } }).dev.executes
        (3 : Fin 512) 0x30 (3458764513820542469 : Nat) (0 : Nat)
        ({ run := 5, index := 0, words := [2533274790789122, 0], tStart := 0, pc := 0, regs := [0, 1, 2, 3, 4, 5, 6, 7], prog := [3458764513820542469, 72057594037927936, 72057594037927936], budget := 1000 }
        : Entry) (5 : Nat) rowPORT_CMD (5 : Nat)) ∧
    (slice (3458764513820542469 : Nat) 9 4 = 3 ∧
        ({ upState [(.csq_q_cfg_privilege, 3, 0), (.port_cfg_role, 5, 1), (.port_status_link_status, 5, 5)] with dev := { (upState [(.csq_q_cfg_privilege, 3, 0), (.port_cfg_role, 5, 1), (.port_status_link_status, 5, 5)]).dev with queues := ⟨[(3, { run := some ({ run := 5, index := 0, words := [2533274790789122, 0], tStart := 0, pc := 0, regs := [0, 1, 2, 3, 4, 5, 6, 7], prog := [3458764513820542469, 72057594037927936, 72057594037927936], budget := 1000 }) })]⟩ } }).dev.linkStatus
        (5 : Nat) = lsQUARANTINE) ∧
    (({ upState [(.csq_q_cfg_privilege, 3, 0), (.port_cfg_role, 5, 0)] with dev := { (upState [(.csq_q_cfg_privilege, 3, 0), (.port_cfg_role, 5, 0)]).dev with queues := ⟨[(3, { run := some ({ run := 5, index := 0, words := [2533274790789122, 0], tStart := 0, pc := 0, regs := [0, 1, 2, 256], prog := [3531666532788600837, 72057594037927936, 72057594037927936], budget := 1000 }) })]⟩ } }).dev.executes
        (3 : Fin 512) 0x31 (3531666532788600837 : Nat) (0 : Nat)
        ({ run := 5, index := 0, words := [2533274790789122, 0], tStart := 0, pc := 0, regs := [0, 1, 2, 256], prog := [3531666532788600837, 72057594037927936, 72057594037927936], budget := 1000 }
        : Entry) (5 : Nat) rowPORT_CFG (5 : Nat)) ∧
    (({ upState [(.csq_q_cfg_privilege, 3, 0), (.port_cfg_role, 5, 0)] with dev := { (upState [(.csq_q_cfg_privilege, 3, 0), (.port_cfg_role, 5, 0)]).dev with queues := ⟨[(3, { run := some ({ run := 5, index := 0, words := [2533274790789122, 0], tStart := 0, pc := 0, regs := [0, 1, 2, 256], prog := [3531666532788600837, 72057594037927936, 72057594037927936], budget := 1000 }) })]⟩ } }).dev.refusedFields
        rowPORT_CFG (5 : Nat)
        (({ run := 5, index := 0, words := [2533274790789122, 0], tStart := 0, pc := 0, regs := [0, 1, 2, 256], prog := [3531666532788600837, 72057594037927936, 72057594037927936], budget := 1000 }
        : Entry).reg (wA (3531666532788600837 : Nat))) = []) ∧
    (((({ upState [(.csq_q_cfg_privilege, 3, 0), (.port_cfg_role, 5, 0)] with dev := { (upState [(.csq_q_cfg_privilege, 3, 0), (.port_cfg_role, 5, 0)]).dev with queues := ⟨[(3, { run := some ({ run := 5, index := 0, words := [2533274790789122, 0], tStart := 0, pc := 0, regs := [0, 1, 2, 256], prog := [3531666532788600837, 72057594037927936, 72057594037927936], budget := 1000 }) })]⟩ } }).dev.charged
        (3 : Fin 512) (3531666532788600837 : Nat)).portCfgWrite (5 : Nat)
        (({ run := 5, index := 0, words := [2533274790789122, 0], tStart := 0, pc := 0, regs := [0, 1, 2, 256], prog := [3531666532788600837, 72057594037927936, 72057594037927936], budget := 1000 }
        : Entry).reg (wA (3531666532788600837 : Nat))) []).2 = 0) ∧
    (({ upState [(.csq_q_cfg_privilege, 3, 0), (.port_cfg_role, 5, 2), (.port_status_link_status, 5, 8)] with dev := { (upState [(.csq_q_cfg_privilege, 3, 0), (.port_cfg_role, 5, 2), (.port_status_link_status, 5, 8)]).dev with queues := ⟨[(3, { run := some ({ run := 5, index := 0, words := [2533274790789122, 0], tStart := 0, pc := 0, regs := [0, 1, 2, 1], prog := [3531666532788600837, 72057594037927936, 72057594037927936], budget := 1000 }) })]⟩ } }).dev.executes
        (3 : Fin 512) 0x31 (3531666532788600837 : Nat) (0 : Nat)
        ({ run := 5, index := 0, words := [2533274790789122, 0], tStart := 0, pc := 0, regs := [0, 1, 2, 1], prog := [3531666532788600837, 72057594037927936, 72057594037927936], budget := 1000 }
        : Entry) (5 : Nat) rowPORT_CFG (5 : Nat)) ∧
    (({ upState [(.csq_q_cfg_privilege, 3, 0), (.port_cfg_role, 5, 2), (.port_status_link_status, 5, 8)] with dev := { (upState [(.csq_q_cfg_privilege, 3, 0), (.port_cfg_role, 5, 2), (.port_status_link_status, 5, 8)]).dev with queues := ⟨[(3, { run := some ({ run := 5, index := 0, words := [2533274790789122, 0], tStart := 0, pc := 0, regs := [0, 1, 2, 1], prog := [3531666532788600837, 72057594037927936, 72057594037927936], budget := 1000 }) })]⟩ } }).dev.refusedFields
        rowPORT_CFG (5 : Nat)
        (({ run := 5, index := 0, words := [2533274790789122, 0], tStart := 0, pc := 0, regs := [0, 1, 2, 1], prog := [3531666532788600837, 72057594037927936, 72057594037927936], budget := 1000 }
        : Entry).reg (wA (3531666532788600837 : Nat))) = []) ∧
    (((({ upState [(.csq_q_cfg_privilege, 3, 0), (.port_cfg_role, 5, 2), (.port_status_link_status, 5, 8)] with dev := { (upState [(.csq_q_cfg_privilege, 3, 0), (.port_cfg_role, 5, 2), (.port_status_link_status, 5, 8)]).dev with queues := ⟨[(3, { run := some ({ run := 5, index := 0, words := [2533274790789122, 0], tStart := 0, pc := 0, regs := [0, 1, 2, 1], prog := [3531666532788600837, 72057594037927936, 72057594037927936], budget := 1000 }) })]⟩ } }).dev.charged
        (3 : Fin 512) (3531666532788600837 : Nat)).portCfgWrite (5 : Nat)
        (({ run := 5, index := 0, words := [2533274790789122, 0], tStart := 0, pc := 0, regs := [0, 1, 2, 1], prog := [3531666532788600837, 72057594037927936, 72057594037927936], budget := 1000 }
        : Entry).reg (wA (3531666532788600837 : Nat))) []).2 ≠ 0) ∧
    (({ upState [(.csq_q_cfg_privilege, 3, 0)] with dev := { (upState [(.csq_q_cfg_privilege, 3, 0)]).dev with queues := ⟨[(3, { run := some ({ run := 5, index := 0, words := [2533274790789122, 0], tStart := 0, pc := 0, regs := [0, 1, 2, 3, 4, 5, 6, 7], prog := [3603724126826528773, 72057594037927936, 72057594037927936], budget := 1000 }) })]⟩ } }).dev.executes
        (3 : Fin 512) 0x32 (3603724126826528773 : Nat) (0 : Nat)
        ({ run := 5, index := 0, words := [2533274790789122, 0], tStart := 0, pc := 0, regs := [0, 1, 2, 3, 4, 5, 6, 7], prog := [3603724126826528773, 72057594037927936, 72057594037927936], budget := 1000 }
        : Entry) (5 : Nat) rowPORT_STENCIL_0 (5 : Nat)) ∧
    (({ upState [(.csq_q_cfg_privilege, 3, 0)] with dev := { (upState [(.csq_q_cfg_privilege, 3, 0)]).dev with queues := ⟨[(3, { run := some ({ run := 5, index := 0, words := [2533274790789122, 0], tStart := 0, pc := 0, regs := [0, 1, 2, 3, 4, 5, 6, 7], prog := [3603724126826528773, 72057594037927936, 72057594037927936], budget := 1000 }) })]⟩ } }).dev.opsOpen
        (3 : Fin 512)
        ({ run := 5, index := 0, words := [2533274790789122, 0], tStart := 0, pc := 0, regs := [0, 1, 2, 3, 4, 5, 6, 7], prog := [3603724126826528773, 72057594037927936, 72057594037927936], budget := 1000 }
        : Entry).run < 16) ∧
    (({ upState [] with dev := { (upState []).dev with reads := [{ purpose := .stencil 3 5, req := 0x4000, addr := 0, ext := true }], ops := [{ queue := 3, entry := 5, start := 0, group := 3, key := .stencil 5 }] } }).dev.takeRead
        (.stencil (3 : Fin 512) (5 : Fin 512)) = some
        ({ (upState []).dev with reads := [], ops := [{ queue := 3, entry := 5, start := 0, group := 3, key := .stencil 5 }] } :
        Dev)) ∧
    ((some #v[0,0,0,0] : Option (Vector Word 4)) = some (#v[0,0,0,0] : Vector Word 4)) ∧
    ((none : Option (Vector Word 4)) = none) ∧
    (({ upState [(.csq_q_cfg_privilege, 3, 0)] with dev := { (upState [(.csq_q_cfg_privilege, 3, 0)]).dev with queues := ⟨[(3, { run := some ({ run := 5, index := 0, words := [2533274790789122, 0], tStart := 0, pc := 0, regs := [0, 1, 2, 3, 4, 5, 6, 7], prog := [3679440895561695237, 72057594037927936, 72057594037927936], budget := 1000 }) })]⟩ } }).dev.executes
        (3 : Fin 512) 0x33 (3679440895561695237 : Nat) (0 : Nat)
        ({ run := 5, index := 0, words := [2533274790789122, 0], tStart := 0, pc := 0, regs := [0, 1, 2, 3, 4, 5, 6, 7], prog := [3679440895561695237, 72057594037927936, 72057594037927936], budget := 1000 }
        : Entry) (5 : Nat) rowPORT_STATUS (5 : Nat)) ∧
    (slice (3679440895561695237 : Nat) 9 4 = 0) ∧
    (({ upState [(.csq_q_cfg_privilege, 3, 0)] with dev := { (upState [(.csq_q_cfg_privilege, 3, 0)]).dev with queues := ⟨[(3, { run := some ({ run := 5, index := 0, words := [2533274790789122, 0], tStart := 0, pc := 0, regs := [0, 1, 2, 3, 4, 5, 6, 7], prog := [3679440895561695749, 72057594037927936, 72057594037927936], budget := 1000 }) })]⟩ } }).dev.executes
        (3 : Fin 512) 0x33 (3679440895561695749 : Nat) (0 : Nat)
        ({ run := 5, index := 0, words := [2533274790789122, 0], tStart := 0, pc := 0, regs := [0, 1, 2, 3, 4, 5, 6, 7], prog := [3679440895561695749, 72057594037927936, 72057594037927936], budget := 1000 }
        : Entry) (5 : Nat) rowPORT_NBR_0 (5 : Nat)) ∧
    (slice (3679440895561695749 : Nat) 9 4 = 1) ∧
    (({ upState [(.csq_q_cfg_privilege, 3, 0)] with dev := { (upState [(.csq_q_cfg_privilege, 3, 0)]).dev with queues := ⟨[(3, { run := some ({ run := 5, index := 0, words := [2533274790789122, 0], tStart := 0, pc := 0, regs := [0, 1, 2, 3, 4, 5, 6, 7], prog := [3679440895561696261, 72057594037927936, 72057594037927936], budget := 1000 }) })]⟩ } }).dev.executes
        (3 : Fin 512) 0x33 (3679440895561696261 : Nat) (0 : Nat)
        ({ run := 5, index := 0, words := [2533274790789122, 0], tStart := 0, pc := 0, regs := [0, 1, 2, 3, 4, 5, 6, 7], prog := [3679440895561696261, 72057594037927936, 72057594037927936], budget := 1000 }
        : Entry) (5 : Nat) rowPORT_NBR_1 (5 : Nat)) ∧
    (slice (3679440895561696261 : Nat) 9 4 = 2) ∧
    (({ upState [(.csq_q_cfg_privilege, 3, 0)] with dev := { (upState [(.csq_q_cfg_privilege, 3, 0)]).dev with queues := ⟨[(3, { run := some ({ run := 5, index := 0, words := [2533274790789122, 0], tStart := 0, pc := 0, regs := [0, 1, 2, 3, 4, 5, 6, 7], prog := [3679440895561696773, 72057594037927936, 72057594037927936], budget := 1000 }) })]⟩ } }).dev.executes
        (3 : Fin 512) 0x33 (3679440895561696773 : Nat) (0 : Nat)
        ({ run := 5, index := 0, words := [2533274790789122, 0], tStart := 0, pc := 0, regs := [0, 1, 2, 3, 4, 5, 6, 7], prog := [3679440895561696773, 72057594037927936, 72057594037927936], budget := 1000 }
        : Entry) (5 : Nat) rowPORT_NBR_EXT (5 : Nat)) ∧
    (slice (3679440895561696773 : Nat) 9 4 = 3) ∧
    (({ upState [(.csq_q_cfg_privilege, 3, 0)] with dev := { (upState [(.csq_q_cfg_privilege, 3, 0)]).dev with queues := ⟨[(3, { run := some ({ run := 5, index := 0, words := [2533274790789122, 0], tStart := 0, pc := 0, regs := [0, 1, 2, 3, 4, 5, 6, 7], prog := [3679440895561697285, 72057594037927936, 72057594037927936], budget := 1000 }) })]⟩ } }).dev.executes
        (3 : Fin 512) 0x33 (3679440895561697285 : Nat) (0 : Nat)
        ({ run := 5, index := 0, words := [2533274790789122, 0], tStart := 0, pc := 0, regs := [0, 1, 2, 3, 4, 5, 6, 7], prog := [3679440895561697285, 72057594037927936, 72057594037927936], budget := 1000 }
        : Entry) (5 : Nat) rowOPT_MARGIN_STATUS (5 : Nat)) ∧
    (slice (3679440895561697285 : Nat) 9 4 = 4) ∧
    (({ upState [(.csq_q_cfg_privilege, 3, 0)] with dev := { (upState [(.csq_q_cfg_privilege, 3, 0)]).dev with queues := ⟨[(3, { run := some ({ run := 5, index := 0, words := [2533274790789122, 0], tStart := 0, pc := 0, regs := [0, 1, 2, 3, 4, 5, 6, 7], prog := [3679440895561697797, 72057594037927936, 72057594037927936], budget := 1000 }) })]⟩ } }).dev.executes
        (3 : Fin 512) 0x33 (3679440895561697797 : Nat) (0 : Nat)
        ({ run := 5, index := 0, words := [2533274790789122, 0], tStart := 0, pc := 0, regs := [0, 1, 2, 3, 4, 5, 6, 7], prog := [3679440895561697797, 72057594037927936, 72057594037927936], budget := 1000 }
        : Entry) (5 : Nat) rowOPT_RX_POWER (5 : Nat)) ∧
    (slice (3679440895561697797 : Nat) 9 4 = 5) ∧
    (({ upState [(.csq_q_cfg_privilege, 3, 0)] with dev := { (upState [(.csq_q_cfg_privilege, 3, 0)]).dev with queues := ⟨[(3, { run := some ({ run := 5, index := 0, words := [2533274790789122, 0], tStart := 0, pc := 0, regs := [0, 1, 2, 3, 4, 5, 6, 7], prog := [4612530443357519877, 72057594037927936, 72057594037927936], budget := 1000 }) })]⟩ } }).dev.executes
        (3 : Fin 512) 0x40 (4612530443357519877 : Nat) (0 : Nat)
        ({ run := 5, index := 0, words := [2533274790789122, 0], tStart := 0, pc := 0, regs := [0, 1, 2, 3, 4, 5, 6, 7], prog := [4612530443357519877, 72057594037927936, 72057594037927936], budget := 1000 }
        : Entry) (5 : Nat) rowXPR_CIRC_CFG (5 : Nat)) ∧
    (({ upState [(.csq_q_cfg_privilege, 3, 0)] with dev := { (upState [(.csq_q_cfg_privilege, 3, 0)]).dev with queues := ⟨[(3, { run := some ({ run := 5, index := 0, words := [2533274790789122, 0], tStart := 0, pc := 0, regs := [0, 1, 2, 3, 4, 5, 6, 7], prog := [4612530443357519877, 72057594037927936, 72057594037927936], budget := 1000 }) })]⟩ } }).dev.refusedFields
        rowXPR_CIRC_CFG (5 : Nat)
        (({ run := 5, index := 0, words := [2533274790789122, 0], tStart := 0, pc := 0, regs := [0, 1, 2, 3, 4, 5, 6, 7], prog := [4612530443357519877, 72057594037927936, 72057594037927936], budget := 1000 }
        : Entry).reg (wA (4612530443357519877 : Nat))) = []) ∧
    (({ upState [(.csq_q_cfg_privilege, 3, 0)] with dev := { (upState [(.csq_q_cfg_privilege, 3, 0)]).dev with queues := ⟨[(3, { run := some ({ run := 5, index := 0, words := [2533274790789122, 0], tStart := 0, pc := 0, regs := [0, 1, 2, 3, 4, 5, 6, 7], prog := [4612530443357519877, 72057594037927936, 72057594037927936], budget := 1000 }) })]⟩ } }).dev.circState
        (5 : Nat) = 0) ∧
    (({ upState [(.csq_q_cfg_privilege, 3, 0), (.xpr_circ_status_state, 5, 2)] with dev := { (upState [(.csq_q_cfg_privilege, 3, 0), (.xpr_circ_status_state, 5, 2)]).dev with queues := ⟨[(3, { run := some ({ run := 5, index := 0, words := [2533274790789122, 0], tStart := 0, pc := 0, regs := [0, 1, 2, 3, 4, 5, 6, 7], prog := [4612530443357519877, 72057594037927936, 72057594037927936], budget := 1000 }) })]⟩ } }).dev.executes
        (3 : Fin 512) 0x40 (4612530443357519877 : Nat) (0 : Nat)
        ({ run := 5, index := 0, words := [2533274790789122, 0], tStart := 0, pc := 0, regs := [0, 1, 2, 3, 4, 5, 6, 7], prog := [4612530443357519877, 72057594037927936, 72057594037927936], budget := 1000 }
        : Entry) (5 : Nat) rowXPR_CIRC_CFG (5 : Nat)) ∧
    (({ upState [(.csq_q_cfg_privilege, 3, 0), (.xpr_circ_status_state, 5, 2)] with dev := { (upState [(.csq_q_cfg_privilege, 3, 0), (.xpr_circ_status_state, 5, 2)]).dev with queues := ⟨[(3, { run := some ({ run := 5, index := 0, words := [2533274790789122, 0], tStart := 0, pc := 0, regs := [0, 1, 2, 3, 4, 5, 6, 7], prog := [4612530443357519877, 72057594037927936, 72057594037927936], budget := 1000 }) })]⟩ } }).dev.refusedFields
        rowXPR_CIRC_CFG (5 : Nat)
        (({ run := 5, index := 0, words := [2533274790789122, 0], tStart := 0, pc := 0, regs := [0, 1, 2, 3, 4, 5, 6, 7], prog := [4612530443357519877, 72057594037927936, 72057594037927936], budget := 1000 }
        : Entry).reg (wA (4612530443357519877 : Nat))) = []) ∧
    (({ upState [(.csq_q_cfg_privilege, 3, 0), (.xpr_circ_status_state, 5, 2)] with dev := { (upState [(.csq_q_cfg_privilege, 3, 0), (.xpr_circ_status_state, 5, 2)]).dev with queues := ⟨[(3, { run := some ({ run := 5, index := 0, words := [2533274790789122, 0], tStart := 0, pc := 0, regs := [0, 1, 2, 3, 4, 5, 6, 7], prog := [4612530443357519877, 72057594037927936, 72057594037927936], budget := 1000 }) })]⟩ } }).dev.circState
        (5 : Nat) ≠ 0) ∧
    (({ upState [(.csq_q_cfg_privilege, 3, 0)] with dev := { (upState [(.csq_q_cfg_privilege, 3, 0)]).dev with queues := ⟨[(3, { run := some ({ run := 5, index := 0, words := [2533274790789122, 0], tStart := 0, pc := 0, regs := [0, 1, 2, 3, 4, 5, 6, 7], prog := [4684588037395447813, 72057594037927936, 72057594037927936], budget := 1000 }) })]⟩ } }).dev.executes
        (3 : Fin 512) 0x41 (4684588037395447813 : Nat) (0 : Nat)
        ({ run := 5, index := 0, words := [2533274790789122, 0], tStart := 0, pc := 0, regs := [0, 1, 2, 3, 4, 5, 6, 7], prog := [4684588037395447813, 72057594037927936, 72057594037927936], budget := 1000 }
        : Entry) (5 : Nat) rowXPR_CIRC_WEIGHT (5 : Nat)) ∧
    (({ upState [(.csq_q_cfg_privilege, 3, 0)] with dev := { (upState [(.csq_q_cfg_privilege, 3, 0)]).dev with queues := ⟨[(3, { run := some ({ run := 5, index := 0, words := [2533274790789122, 0], tStart := 0, pc := 0, regs := [0, 1, 2, 3, 4, 5, 6, 7], prog := [4684588037395447813, 72057594037927936, 72057594037927936], budget := 1000 }) })]⟩ } }).dev.refusedFields
        rowXPR_CIRC_WEIGHT (5 : Nat)
        (({ run := 5, index := 0, words := [2533274790789122, 0], tStart := 0, pc := 0, regs := [0, 1, 2, 3, 4, 5, 6, 7], prog := [4684588037395447813, 72057594037927936, 72057594037927936], budget := 1000 }
        : Entry).reg (wA (4684588037395447813 : Nat))) = []) ∧
    (((({ upState [(.csq_q_cfg_privilege, 3, 0)] with dev := { (upState [(.csq_q_cfg_privilege, 3, 0)]).dev with queues := ⟨[(3, { run := some ({ run := 5, index := 0, words := [2533274790789122, 0], tStart := 0, pc := 0, regs := [0, 1, 2, 3, 4, 5, 6, 7], prog := [4684588037395447813, 72057594037927936, 72057594037927936], budget := 1000 }) })]⟩ } }).dev.charged
        (3 : Fin 512) (4684588037395447813 : Nat)).xprWeightWrite (5 : Nat)
        (({ run := 5, index := 0, words := [2533274790789122, 0], tStart := 0, pc := 0, regs := [0, 1, 2, 3, 4, 5, 6, 7], prog := [4684588037395447813, 72057594037927936, 72057594037927936], budget := 1000 }
        : Entry).reg (wA (4684588037395447813 : Nat))) []).2 = true) ∧
    (({ upState [(.csq_q_cfg_privilege, 3, 0), (.xpr_circ_status_state, 5, 2)] with dev := { (upState [(.csq_q_cfg_privilege, 3, 0), (.xpr_circ_status_state, 5, 2)]).dev with queues := ⟨[(3, { run := some ({ run := 5, index := 0, words := [2533274790789122, 0], tStart := 0, pc := 0, regs := [0, 1, 2, 3, 4, 5, 6, 7], prog := [4684588037395447813, 72057594037927936, 72057594037927936], budget := 1000 }) })]⟩ } }).dev.executes
        (3 : Fin 512) 0x41 (4684588037395447813 : Nat) (0 : Nat)
        ({ run := 5, index := 0, words := [2533274790789122, 0], tStart := 0, pc := 0, regs := [0, 1, 2, 3, 4, 5, 6, 7], prog := [4684588037395447813, 72057594037927936, 72057594037927936], budget := 1000 }
        : Entry) (5 : Nat) rowXPR_CIRC_WEIGHT (5 : Nat)) ∧
    (({ upState [(.csq_q_cfg_privilege, 3, 0), (.xpr_circ_status_state, 5, 2)] with dev := { (upState [(.csq_q_cfg_privilege, 3, 0), (.xpr_circ_status_state, 5, 2)]).dev with queues := ⟨[(3, { run := some ({ run := 5, index := 0, words := [2533274790789122, 0], tStart := 0, pc := 0, regs := [0, 1, 2, 3, 4, 5, 6, 7], prog := [4684588037395447813, 72057594037927936, 72057594037927936], budget := 1000 }) })]⟩ } }).dev.refusedFields
        rowXPR_CIRC_WEIGHT (5 : Nat)
        (({ run := 5, index := 0, words := [2533274790789122, 0], tStart := 0, pc := 0, regs := [0, 1, 2, 3, 4, 5, 6, 7], prog := [4684588037395447813, 72057594037927936, 72057594037927936], budget := 1000 }
        : Entry).reg (wA (4684588037395447813 : Nat))) = []) ∧
    (((({ upState [(.csq_q_cfg_privilege, 3, 0), (.xpr_circ_status_state, 5, 2)] with dev := { (upState [(.csq_q_cfg_privilege, 3, 0), (.xpr_circ_status_state, 5, 2)]).dev with queues := ⟨[(3, { run := some ({ run := 5, index := 0, words := [2533274790789122, 0], tStart := 0, pc := 0, regs := [0, 1, 2, 3, 4, 5, 6, 7], prog := [4684588037395447813, 72057594037927936, 72057594037927936], budget := 1000 }) })]⟩ } }).dev.charged
        (3 : Fin 512) (4684588037395447813 : Nat)).xprWeightWrite (5 : Nat)
        (({ run := 5, index := 0, words := [2533274790789122, 0], tStart := 0, pc := 0, regs := [0, 1, 2, 3, 4, 5, 6, 7], prog := [4684588037395447813, 72057594037927936, 72057594037927936], budget := 1000 }
        : Entry).reg (wA (4684588037395447813 : Nat))) []).2 = false) ∧
    (({ upState [(.csq_q_cfg_privilege, 3, 0)] with dev := { (upState [(.csq_q_cfg_privilege, 3, 0)]).dev with queues := ⟨[(3, { run := some ({ run := 5, index := 0, words := [2533274790789122, 0], tStart := 0, pc := 0, regs := [0, 1, 2, 3, 4, 5, 6, 7], prog := [4756645631433375749, 72057594037927936, 72057594037927936], budget := 1000 }) })]⟩ } }).dev.executes
        (3 : Fin 512) 0x42 (4756645631433375749 : Nat) (0 : Nat)
        ({ run := 5, index := 0, words := [2533274790789122, 0], tStart := 0, pc := 0, regs := [0, 1, 2, 3, 4, 5, 6, 7], prog := [4756645631433375749, 72057594037927936, 72057594037927936], budget := 1000 }
        : Entry) (5 : Nat) rowXPR_CIRC_CMD (5 : Nat)) ∧
    (({ upState [(.csq_q_cfg_privilege, 3, 0)] with dev := { (upState [(.csq_q_cfg_privilege, 3, 0)]).dev with queues := ⟨[(3, { run := some ({ run := 5, index := 0, words := [2533274790789122, 0], tStart := 0, pc := 0, regs := [0, 1, 2, 3, 4, 5, 6, 7], prog := [4756645631433375749, 72057594037927936, 72057594037927936], budget := 1000 }) })]⟩ } }).dev.opsOpen
        (3 : Fin 512)
        ({ run := 5, index := 0, words := [2533274790789122, 0], tStart := 0, pc := 0, regs := [0, 1, 2, 3, 4, 5, 6, 7], prog := [4756645631433375749, 72057594037927936, 72057594037927936], budget := 1000 }
        : Entry).run < 16) ∧
    (({ upState [(.csq_q_cfg_privilege, 3, 0)] with dev := { (upState [(.csq_q_cfg_privilege, 3, 0)]).dev with queues := ⟨[(3, { run := some ({ run := 5, index := 0, words := [2533274790789122, 0], tStart := 0, pc := 0, regs := [0, 1, 2, 3, 4, 5, 6, 7], prog := [4827858800541171717, 72057594037927936, 72057594037927936], budget := 1000 }) })]⟩ } }).dev.executes
        (3 : Fin 512) 0x43 (4827858800541171717 : Nat) (0 : Nat)
        ({ run := 5, index := 0, words := [2533274790789122, 0], tStart := 0, pc := 0, regs := [0, 1, 2, 3, 4, 5, 6, 7], prog := [4827858800541171717, 72057594037927936, 72057594037927936], budget := 1000 }
        : Entry) (5 : Nat) rowXPR_CIRC_CMD (5 : Nat)) ∧
    (({ upState [(.csq_q_cfg_privilege, 3, 0)] with dev := { (upState [(.csq_q_cfg_privilege, 3, 0)]).dev with queues := ⟨[(3, { run := some ({ run := 5, index := 0, words := [2533274790789122, 0], tStart := 0, pc := 0, regs := [0, 1, 2, 3, 4, 5, 6, 7], prog := [4827858800541171717, 72057594037927936, 72057594037927936], budget := 1000 }) })]⟩ } }).dev.opsOpen
        (3 : Fin 512)
        ({ run := 5, index := 0, words := [2533274790789122, 0], tStart := 0, pc := 0, regs := [0, 1, 2, 3, 4, 5, 6, 7], prog := [4827858800541171717, 72057594037927936, 72057594037927936], budget := 1000 }
        : Entry).run < 16) ∧
    (({ upState [(.csq_q_cfg_privilege, 3, 0)] with dev := { (upState [(.csq_q_cfg_privilege, 3, 0)]).dev with queues := ⟨[(3, { run := some ({ run := 5, index := 0, words := [2533274790789122, 0], tStart := 0, pc := 0, regs := [0, 1, 2, 3, 4, 5, 6, 7], prog := [4899916394579099653, 72057594037927936, 72057594037927936], budget := 1000 }) })]⟩ } }).dev.executes
        (3 : Fin 512) 0x44 (4899916394579099653 : Nat) (0 : Nat)
        ({ run := 5, index := 0, words := [2533274790789122, 0], tStart := 0, pc := 0, regs := [0, 1, 2, 3, 4, 5, 6, 7], prog := [4899916394579099653, 72057594037927936, 72057594037927936], budget := 1000 }
        : Entry) (5 : Nat) rowXPR_CIRC_CMD (5 : Nat)) ∧
    (({ upState [(.csq_q_cfg_privilege, 3, 0)] with dev := { (upState [(.csq_q_cfg_privilege, 3, 0)]).dev with queues := ⟨[(3, { run := some ({ run := 5, index := 0, words := [2533274790789122, 0], tStart := 0, pc := 0, regs := [0, 1, 2, 3, 4, 5, 6, 7], prog := [4899916394579099653, 72057594037927936, 72057594037927936], budget := 1000 }) })]⟩ } }).dev.opsOpen
        (3 : Fin 512)
        ({ run := 5, index := 0, words := [2533274790789122, 0], tStart := 0, pc := 0, regs := [0, 1, 2, 3, 4, 5, 6, 7], prog := [4899916394579099653, 72057594037927936, 72057594037927936], budget := 1000 }
        : Entry).run < 16) ∧
    (({ upState [(.csq_q_cfg_privilege, 3, 0)] with dev := { (upState [(.csq_q_cfg_privilege, 3, 0)]).dev with queues := ⟨[(3, { run := some ({ run := 5, index := 0, words := [2533274790789122, 0], tStart := 0, pc := 0, regs := [0, 1, 2, 3, 4, 5, 6, 7], prog := [4976477588244398085, 72057594037927936, 72057594037927936], budget := 1000 }) })]⟩ } }).dev.executes
        (3 : Fin 512) 0x45 (4976477588244398085 : Nat) (0 : Nat)
        ({ run := 5, index := 0, words := [2533274790789122, 0], tStart := 0, pc := 0, regs := [0, 1, 2, 3, 4, 5, 6, 7], prog := [4976477588244398085, 72057594037927936, 72057594037927936], budget := 1000 }
        : Entry) (5 : Nat) rowXPR_CIRC_STATUS (5 : Nat)) ∧
    (({ upState [(.csq_q_cfg_privilege, 3, 0)] with dev := { (upState [(.csq_q_cfg_privilege, 3, 0)]).dev with queues := ⟨[(3, { run := some ({ run := 5, index := 0, words := [2533274790789122, 0], tStart := 0, pc := 0, regs := [0, 1, 2, 3, 4, 5, 6, 7], prog := [5764607523034235653, 72057594037927936, 72057594037927936], budget := 1000 }) })]⟩ } }).dev.executes
        (3 : Fin 512) 0x50 (5764607523034235653 : Nat) (0 : Nat)
        ({ run := 5, index := 0, words := [2533274790789122, 0], tStart := 0, pc := 0, regs := [0, 1, 2, 3, 4, 5, 6, 7], prog := [5764607523034235653, 72057594037927936, 72057594037927936], budget := 1000 }
        : Entry) (5 : Nat) rowLAS_OCT_CMD (5 : Nat)) ∧
    (({ upState [(.csq_q_cfg_privilege, 3, 0)] with dev := { (upState [(.csq_q_cfg_privilege, 3, 0)]).dev with queues := ⟨[(3, { run := some ({ run := 5, index := 0, words := [2533274790789122, 0], tStart := 0, pc := 0, regs := [0, 1, 2, 3, 4, 5, 6, 7], prog := [5764607523034235653, 72057594037927936, 72057594037927936], budget := 1000 }) })]⟩ } }).dev.refusedFields
        rowLAS_OCT_CMD (5 : Nat) (slice (5764607523034235653 : Nat) 6 3 * 16 + slice (5764607523034235653 : Nat) 9 2) = []) ∧
    (slice (5764607523034235653 : Nat) 9 2 = 1 ∧
        ({ upState [(.csq_q_cfg_privilege, 3, 0)] with dev := { (upState [(.csq_q_cfg_privilege, 3, 0)]).dev with queues := ⟨[(3, { run := some ({ run := 5, index := 0, words := [2533274790789122, 0], tStart := 0, pc := 0, regs := [0, 1, 2, 3, 4, 5, 6, 7], prog := [5764607523034235653, 72057594037927936, 72057594037927936], budget := 1000 }) })]⟩ } }).dev.seqHas
        (5 : Nat) (slice (5764607523034235653 : Nat) 6 3) = false ∧
        ({ upState [(.csq_q_cfg_privilege, 3, 0)] with dev := { (upState [(.csq_q_cfg_privilege, 3, 0)]).dev with queues := ⟨[(3, { run := some ({ run := 5, index := 0, words := [2533274790789122, 0], tStart := 0, pc := 0, regs := [0, 1, 2, 3, 4, 5, 6, 7], prog := [5764607523034235653, 72057594037927936, 72057594037927936], budget := 1000 }) })]⟩ } }).dev.get
        .las_oct_status_parked (5 : Nat) = 0 ∧
        ({ upState [(.csq_q_cfg_privilege, 3, 0)] with dev := { (upState [(.csq_q_cfg_privilege, 3, 0)]).dev with queues := ⟨[(3, { run := some ({ run := 5, index := 0, words := [2533274790789122, 0], tStart := 0, pc := 0, regs := [0, 1, 2, 3, 4, 5, 6, 7], prog := [5764607523034235653, 72057594037927936, 72057594037927936], budget := 1000 }) })]⟩ } }).dev.standbyUnused
        (5 : Nat) (slice (5764607523034235653 : Nat) 6 3) = true) ∧
    (({ upState [(.csq_q_cfg_privilege, 3, 0), (.las_oct_status_parked, 5, 1)] with dev := { (upState [(.csq_q_cfg_privilege, 3, 0), (.las_oct_status_parked, 5, 1)]).dev with queues := ⟨[(3, { run := some ({ run := 5, index := 0, words := [2533274790789122, 0], tStart := 0, pc := 0, regs := [0, 1, 2, 3, 4, 5, 6, 7], prog := [5764607523034235653, 72057594037927936, 72057594037927936], budget := 1000 }) })]⟩ } }).dev.executes
        (3 : Fin 512) 0x50 (5764607523034235653 : Nat) (0 : Nat)
        ({ run := 5, index := 0, words := [2533274790789122, 0], tStart := 0, pc := 0, regs := [0, 1, 2, 3, 4, 5, 6, 7], prog := [5764607523034235653, 72057594037927936, 72057594037927936], budget := 1000 }
        : Entry) (5 : Nat) rowLAS_OCT_CMD (5 : Nat)) ∧
    (({ upState [(.csq_q_cfg_privilege, 3, 0), (.las_oct_status_parked, 5, 1)] with dev := { (upState [(.csq_q_cfg_privilege, 3, 0), (.las_oct_status_parked, 5, 1)]).dev with queues := ⟨[(3, { run := some ({ run := 5, index := 0, words := [2533274790789122, 0], tStart := 0, pc := 0, regs := [0, 1, 2, 3, 4, 5, 6, 7], prog := [5764607523034235653, 72057594037927936, 72057594037927936], budget := 1000 }) })]⟩ } }).dev.refusedFields
        rowLAS_OCT_CMD (5 : Nat) (slice (5764607523034235653 : Nat) 6 3 * 16 + slice (5764607523034235653 : Nat) 9 2) = []) ∧
    (((({ upState [(.csq_q_cfg_privilege, 3, 0), (.las_oct_status_parked, 5, 1)] with dev := { (upState [(.csq_q_cfg_privilege, 3, 0), (.las_oct_status_parked, 5, 1)]).dev with queues := ⟨[(3, { run := some ({ run := 5, index := 0, words := [2533274790789122, 0], tStart := 0, pc := 0, regs := [0, 1, 2, 3, 4, 5, 6, 7], prog := [5764607523034235653, 72057594037927936, 72057594037927936], budget := 1000 }) })]⟩ } }).dev.charged
        (3 : Fin 512) (5764607523034235653 : Nat)).octCmd (5 : Nat) (slice (5764607523034235653 : Nat) 6 3) (slice
        (5764607523034235653 : Nat) 9 2)).2 ≠ 0) ∧
    (({ upState [(.csq_q_cfg_privilege, 3, 0)] with dev := { (upState [(.csq_q_cfg_privilege, 3, 0)]).dev with queues := ⟨[(3, { run := some ({ run := 5, index := 0, words := [2533274790789122, 0], tStart := 0, pc := 0, regs := [0, 1, 2, 839922192], prog := [5837509542002294789, 72057594037927936, 72057594037927936], budget := 1000 }) })]⟩ } }).dev.executes
        (3 : Fin 512) 0x51 (5837509542002294789 : Nat) (0 : Nat)
        ({ run := 5, index := 0, words := [2533274790789122, 0], tStart := 0, pc := 0, regs := [0, 1, 2, 839922192], prog := [5837509542002294789, 72057594037927936, 72057594037927936], budget := 1000 }
        : Entry) (5 : Nat) rowOPT_LANE_NEXT (5 : Nat)) ∧
    (({ upState [(.csq_q_cfg_privilege, 3, 0)] with dev := { (upState [(.csq_q_cfg_privilege, 3, 0)]).dev with queues := ⟨[(3, { run := some ({ run := 5, index := 0, words := [2533274790789122, 0], tStart := 0, pc := 0, regs := [0, 1, 2, 839922192], prog := [5837509542002294789, 72057594037927936, 72057594037927936], budget := 1000 }) })]⟩ } }).dev.refusedFields
        rowOPT_LANE_NEXT (5 : Nat) (slice
        (({ run := 5, index := 0, words := [2533274790789122, 0], tStart := 0, pc := 0, regs := [0, 1, 2, 839922192], prog := [5837509542002294789, 72057594037927936, 72057594037927936], budget := 1000 }
        : Entry).reg (wA (5837509542002294789 : Nat))) 0 31 + b2n (bit (5837509542002294789 : Nat) 9) * 2 ^ 63 + b2n (bit
        (5837509542002294789 : Nat) 10) * 2 ^ 62) = []) ∧
    (((({ upState [(.csq_q_cfg_privilege, 3, 0)] with dev := { (upState [(.csq_q_cfg_privilege, 3, 0)]).dev with queues := ⟨[(3, { run := some ({ run := 5, index := 0, words := [2533274790789122, 0], tStart := 0, pc := 0, regs := [0, 1, 2, 839922192], prog := [5837509542002294789, 72057594037927936, 72057594037927936], budget := 1000 }) })]⟩ } }).dev.charged
        (3 : Fin 512) (5837509542002294789 : Nat)).laneNextWrite (5 : Nat) (slice
        (({ run := 5, index := 0, words := [2533274790789122, 0], tStart := 0, pc := 0, regs := [0, 1, 2, 839922192], prog := [5837509542002294789, 72057594037927936, 72057594037927936], budget := 1000 }
        : Entry).reg (wA (5837509542002294789 : Nat))) 0 31 + b2n (bit (5837509542002294789 : Nat) 9) * 2 ^ 63 + b2n (bit
        (5837509542002294789 : Nat) 10) * 2 ^ 62)).2 = 0) ∧
    (({ upState [(.csq_q_cfg_privilege, 3, 0)] with dev := { (upState [(.csq_q_cfg_privilege, 3, 0)]).dev with queues := ⟨[(3, { run := some ({ run := 5, index := 0, words := [2533274790789122, 0], tStart := 0, pc := 0, regs := [0, 1, 2, 3, 4, 5, 6, 7], prog := [5837509542002295301, 72057594037927936, 72057594037927936], budget := 1000 }) })]⟩ } }).dev.executes
        (3 : Fin 512) 0x51 (5837509542002295301 : Nat) (0 : Nat)
        ({ run := 5, index := 0, words := [2533274790789122, 0], tStart := 0, pc := 0, regs := [0, 1, 2, 3, 4, 5, 6, 7], prog := [5837509542002295301, 72057594037927936, 72057594037927936], budget := 1000 }
        : Entry) (5 : Nat) rowOPT_LANE_NEXT (5 : Nat)) ∧
    (({ upState [(.csq_q_cfg_privilege, 3, 0)] with dev := { (upState [(.csq_q_cfg_privilege, 3, 0)]).dev with queues := ⟨[(3, { run := some ({ run := 5, index := 0, words := [2533274790789122, 0], tStart := 0, pc := 0, regs := [0, 1, 2, 3, 4, 5, 6, 7], prog := [5837509542002295301, 72057594037927936, 72057594037927936], budget := 1000 }) })]⟩ } }).dev.refusedFields
        rowOPT_LANE_NEXT (5 : Nat) (slice
        (({ run := 5, index := 0, words := [2533274790789122, 0], tStart := 0, pc := 0, regs := [0, 1, 2, 3, 4, 5, 6, 7], prog := [5837509542002295301, 72057594037927936, 72057594037927936], budget := 1000 }
        : Entry).reg (wA (5837509542002295301 : Nat))) 0 31 + b2n (bit (5837509542002295301 : Nat) 9) * 2 ^ 63 + b2n (bit
        (5837509542002295301 : Nat) 10) * 2 ^ 62) = []) ∧
    (((({ upState [(.csq_q_cfg_privilege, 3, 0)] with dev := { (upState [(.csq_q_cfg_privilege, 3, 0)]).dev with queues := ⟨[(3, { run := some ({ run := 5, index := 0, words := [2533274790789122, 0], tStart := 0, pc := 0, regs := [0, 1, 2, 3, 4, 5, 6, 7], prog := [5837509542002295301, 72057594037927936, 72057594037927936], budget := 1000 }) })]⟩ } }).dev.charged
        (3 : Fin 512) (5837509542002295301 : Nat)).laneNextWrite (5 : Nat) (slice
        (({ run := 5, index := 0, words := [2533274790789122, 0], tStart := 0, pc := 0, regs := [0, 1, 2, 3, 4, 5, 6, 7], prog := [5837509542002295301, 72057594037927936, 72057594037927936], budget := 1000 }
        : Entry).reg (wA (5837509542002295301 : Nat))) 0 31 + b2n (bit (5837509542002295301 : Nat) 9) * 2 ^ 63 + b2n (bit
        (5837509542002295301 : Nat) 10) * 2 ^ 62)).2 ≠ 0) ∧
    (({ upState [(.csq_q_cfg_privilege, 3, 0)] with dev := { (upState [(.csq_q_cfg_privilege, 3, 0)]).dev with queues := ⟨[(3, { run := some ({ run := 5, index := 0, words := [2533274790789122, 0], tStart := 0, pc := 0, regs := [0, 1, 2, 3, 4, 5, 6, 7], prog := [5909567136040222725, 72057594037927936, 72057594037927936], budget := 1000 }) })]⟩ } }).dev.executes
        (3 : Fin 512) 0x52 (5909567136040222725 : Nat) (0 : Nat)
        ({ run := 5, index := 0, words := [2533274790789122, 0], tStart := 0, pc := 0, regs := [0, 1, 2, 3, 4, 5, 6, 7], prog := [5909567136040222725, 72057594037927936, 72057594037927936], budget := 1000 }
        : Entry) (5 : Nat) rowOPT_LANE_SWITCH_CW (5 : Nat)) ∧
    (({ upState [(.csq_q_cfg_privilege, 3, 0)] with dev := { (upState [(.csq_q_cfg_privilege, 3, 0)]).dev with queues := ⟨[(3, { run := some ({ run := 5, index := 0, words := [2533274790789122, 0], tStart := 0, pc := 0, regs := [0, 1, 2, 3, 4, 5, 6, 7], prog := [5909567136040222725, 72057594037927936, 72057594037927936], budget := 1000 }) })]⟩ } }).dev.refusedFields
        rowOPT_LANE_SWITCH_CW (5 : Nat)
        (({ run := 5, index := 0, words := [2533274790789122, 0], tStart := 0, pc := 0, regs := [0, 1, 2, 3, 4, 5, 6, 7], prog := [5909567136040222725, 72057594037927936, 72057594037927936], budget := 1000 }
        : Entry).reg (wA (5909567136040222725 : Nat))) = []) ∧
    (({ upState [(.csq_q_cfg_privilege, 3, 0)] with dev := { (upState [(.csq_q_cfg_privilege, 3, 0)]).dev with queues := ⟨[(3, { run := some ({ run := 5, index := 0, words := [2533274790789122, 0], tStart := 0, pc := 0, regs := [0, 1, 2, 3, 4, 5, 6, 7], prog := [5909567136040222725, 72057594037927936, 72057594037927936], budget := 1000 }) })]⟩ } }).dev.seqOwns
        (5 : Nat) = false) ∧
    (({ upState [(.csq_q_cfg_privilege, 3, 0), (.las_oct_status_phase, 0, 5), (.las_oct_status_participants, 0, 32)] with dev := { (upState [(.csq_q_cfg_privilege, 3, 0), (.las_oct_status_phase, 0, 5), (.las_oct_status_participants, 0, 32)]).dev with queues := ⟨[(3, { run := some ({ run := 5, index := 0, words := [2533274790789122, 0], tStart := 0, pc := 0, regs := [0, 1, 2, 3, 4, 5, 6, 7], prog := [5909567136040222725, 72057594037927936, 72057594037927936], budget := 1000 }) })]⟩ } }).dev.executes
        (3 : Fin 512) 0x52 (5909567136040222725 : Nat) (0 : Nat)
        ({ run := 5, index := 0, words := [2533274790789122, 0], tStart := 0, pc := 0, regs := [0, 1, 2, 3, 4, 5, 6, 7], prog := [5909567136040222725, 72057594037927936, 72057594037927936], budget := 1000 }
        : Entry) (5 : Nat) rowOPT_LANE_SWITCH_CW (5 : Nat)) ∧
    (({ upState [(.csq_q_cfg_privilege, 3, 0), (.las_oct_status_phase, 0, 5), (.las_oct_status_participants, 0, 32)] with dev := { (upState [(.csq_q_cfg_privilege, 3, 0), (.las_oct_status_phase, 0, 5), (.las_oct_status_participants, 0, 32)]).dev with queues := ⟨[(3, { run := some ({ run := 5, index := 0, words := [2533274790789122, 0], tStart := 0, pc := 0, regs := [0, 1, 2, 3, 4, 5, 6, 7], prog := [5909567136040222725, 72057594037927936, 72057594037927936], budget := 1000 }) })]⟩ } }).dev.refusedFields
        rowOPT_LANE_SWITCH_CW (5 : Nat)
        (({ run := 5, index := 0, words := [2533274790789122, 0], tStart := 0, pc := 0, regs := [0, 1, 2, 3, 4, 5, 6, 7], prog := [5909567136040222725, 72057594037927936, 72057594037927936], budget := 1000 }
        : Entry).reg (wA (5909567136040222725 : Nat))) = []) ∧
    (({ upState [(.csq_q_cfg_privilege, 3, 0), (.las_oct_status_phase, 0, 5), (.las_oct_status_participants, 0, 32)] with dev := { (upState [(.csq_q_cfg_privilege, 3, 0), (.las_oct_status_phase, 0, 5), (.las_oct_status_participants, 0, 32)]).dev with queues := ⟨[(3, { run := some ({ run := 5, index := 0, words := [2533274790789122, 0], tStart := 0, pc := 0, regs := [0, 1, 2, 3, 4, 5, 6, 7], prog := [5909567136040222725, 72057594037927936, 72057594037927936], budget := 1000 }) })]⟩ } }).dev.seqOwns
        (5 : Nat) = true) ∧
    (({ upState [(.csq_q_cfg_privilege, 3, 0), (.port_cfg_role, 5, 1), (.opt_eng_ctrl_lock_enable, 0, 1), (.opt_ring_status_state, 57, 4)] with dev := { (upState [(.csq_q_cfg_privilege, 3, 0), (.port_cfg_role, 5, 1), (.opt_eng_ctrl_lock_enable, 0, 1), (.opt_ring_status_state, 57, 4)]).dev with queues := ⟨[(3, { run := some ({ run := 5, index := 0, words := [2533274790789122, 0], tStart := 0, pc := 0, regs := [0, 1, 2, 3, 4, 5, 6, 7], prog := [5980780305148049413, 72057594037927936, 72057594037927936], budget := 1000 }) })]⟩ } }).dev.executes
        (3 : Fin 512) 0x53 (5980780305148049413 : Nat) (0 : Nat)
        ({ run := 5, index := 0, words := [2533274790789122, 0], tStart := 0, pc := 0, regs := [0, 1, 2, 3, 4, 5, 6, 7], prog := [5980780305148049413, 72057594037927936, 72057594037927936], budget := 1000 }
        : Entry) (5 : Nat) rowOPT_LANE_MAP (5 : Nat)) ∧
    (slice (5980780305148049413 : Nat) 12 4 ≤ 9 ∧ slice (5980780305148049413 : Nat) 10 2 = 2 ∧
        ({ upState [(.csq_q_cfg_privilege, 3, 0), (.port_cfg_role, 5, 1), (.opt_eng_ctrl_lock_enable, 0, 1), (.opt_ring_status_state, 57, 4)] with dev := { (upState [(.csq_q_cfg_privilege, 3, 0), (.port_cfg_role, 5, 1), (.opt_eng_ctrl_lock_enable, 0, 1), (.opt_ring_status_state, 57, 4)]).dev with queues := ⟨[(3, { run := some ({ run := 5, index := 0, words := [2533274790789122, 0], tStart := 0, pc := 0, regs := [0, 1, 2, 3, 4, 5, 6, 7], prog := [5980780305148049413, 72057594037927936, 72057594037927936], budget := 1000 }) })]⟩ } }).dev.ringBusy
        (5 : Nat) (slice (5980780305148049413 : Nat) 12 4) = false) ∧
    (({ upState [(.csq_q_cfg_privilege, 3, 0), (.port_cfg_role, 5, 1), (.opt_eng_ctrl_lock_enable, 0, 1), (.opt_ring_status_state, 57, 4)] with dev := { (upState [(.csq_q_cfg_privilege, 3, 0), (.port_cfg_role, 5, 1), (.opt_eng_ctrl_lock_enable, 0, 1), (.opt_ring_status_state, 57, 4)]).dev with queues := ⟨[(3, { run := some ({ run := 5, index := 0, words := [2533274790789122, 0], tStart := 0, pc := 0, regs := [0, 1, 2, 3, 4, 5, 6, 7], prog := [5980780305148048389, 72057594037927936, 72057594037927936], budget := 1000 }) })]⟩ } }).dev.executes
        (3 : Fin 512) 0x53 (5980780305148048389 : Nat) (0 : Nat)
        ({ run := 5, index := 0, words := [2533274790789122, 0], tStart := 0, pc := 0, regs := [0, 1, 2, 3, 4, 5, 6, 7], prog := [5980780305148048389, 72057594037927936, 72057594037927936], budget := 1000 }
        : Entry) (5 : Nat) rowOPT_LANE_MAP (5 : Nat)) ∧
    (slice (5980780305148048389 : Nat) 12 4 ≤ 9 ∧ slice (5980780305148048389 : Nat) 10 2 = 1 ∧
        ({ upState [(.csq_q_cfg_privilege, 3, 0), (.port_cfg_role, 5, 1), (.opt_eng_ctrl_lock_enable, 0, 1), (.opt_ring_status_state, 57, 4)] with dev := { (upState [(.csq_q_cfg_privilege, 3, 0), (.port_cfg_role, 5, 1), (.opt_eng_ctrl_lock_enable, 0, 1), (.opt_ring_status_state, 57, 4)]).dev with queues := ⟨[(3, { run := some ({ run := 5, index := 0, words := [2533274790789122, 0], tStart := 0, pc := 0, regs := [0, 1, 2, 3, 4, 5, 6, 7], prog := [5980780305148048389, 72057594037927936, 72057594037927936], budget := 1000 }) })]⟩ } }).dev.ringBusy
        (5 : Nat) (slice (5980780305148048389 : Nat) 12 4) = false) ∧
    (({ upState [(.csq_q_cfg_privilege, 3, 0), (.port_cfg_role, 5, 1), (.opt_eng_ctrl_lock_enable, 0, 1), (.port_status_link_status, 5, 8), (.opt_lane_map_rx_lane, 22, 2)] with dev := { (upState [(.csq_q_cfg_privilege, 3, 0), (.port_cfg_role, 5, 1), (.opt_eng_ctrl_lock_enable, 0, 1), (.port_status_link_status, 5, 8), (.opt_lane_map_rx_lane, 22, 2)]).dev with queues := ⟨[(3, { run := some ({ run := 5, index := 0, words := [2533274790789122, 0], tStart := 0, pc := 0, regs := [0, 1, 2, 3, 4, 5, 6, 7], prog := [5980780305148048389, 72057594037927936, 72057594037927936], budget := 1000 }) })]⟩ } }).dev.executes
        (3 : Fin 512) 0x53 (5980780305148048389 : Nat) (0 : Nat)
        ({ run := 5, index := 0, words := [2533274790789122, 0], tStart := 0, pc := 0, regs := [0, 1, 2, 3, 4, 5, 6, 7], prog := [5980780305148048389, 72057594037927936, 72057594037927936], budget := 1000 }
        : Entry) (5 : Nat) rowOPT_LANE_MAP (5 : Nat)) ∧
    (slice (5980780305148048389 : Nat) 12 4 ≤ 9 ∧ (slice (5980780305148048389 : Nat) 10 2 = 1 ∨ slice (5980780305148048389 :
        Nat) 10 2 = 2) ∧
        ({ upState [(.csq_q_cfg_privilege, 3, 0), (.port_cfg_role, 5, 1), (.opt_eng_ctrl_lock_enable, 0, 1), (.port_status_link_status, 5, 8), (.opt_lane_map_rx_lane, 22, 2)] with dev := { (upState [(.csq_q_cfg_privilege, 3, 0), (.port_cfg_role, 5, 1), (.opt_eng_ctrl_lock_enable, 0, 1), (.port_status_link_status, 5, 8), (.opt_lane_map_rx_lane, 22, 2)]).dev with queues := ⟨[(3, { run := some ({ run := 5, index := 0, words := [2533274790789122, 0], tStart := 0, pc := 0, regs := [0, 1, 2, 3, 4, 5, 6, 7], prog := [5980780305148048389, 72057594037927936, 72057594037927936], budget := 1000 }) })]⟩ } }).dev.ringBusy
        (5 : Nat) (slice (5980780305148048389 : Nat) 12 4) = true) ∧
    (({ upState [(.csq_q_cfg_privilege, 3, 0)] with dev := { (upState [(.csq_q_cfg_privilege, 3, 0)]).dev with queues := ⟨[(3, { run := some ({ run := 5, index := 0, words := [2533274790789122, 0], tStart := 0, pc := 0, regs := [0, 1, 2, 3, 4, 5, 6, 7], prog := [5980780305148065797, 72057594037927936, 72057594037927936], budget := 1000 }) })]⟩ } }).dev.executes
        (3 : Fin 512) 0x53 (5980780305148065797 : Nat) (0 : Nat)
        ({ run := 5, index := 0, words := [2533274790789122, 0], tStart := 0, pc := 0, regs := [0, 1, 2, 3, 4, 5, 6, 7], prog := [5980780305148065797, 72057594037927936, 72057594037927936], budget := 1000 }
        : Entry) (5 : Nat) rowOPT_LANE_MAP (5 : Nat)) ∧
    (9 < slice (5980780305148065797 : Nat) 12 4) ∧
    (({ upState [(.csq_q_cfg_privilege, 3, 0)] with dev := { (upState [(.csq_q_cfg_privilege, 3, 0)]).dev with queues := ⟨[(3, { run := some ({ run := 5, index := 0, words := [2533274790789122, 0], tStart := 0, pc := 0, regs := [0, 1, 2, 3, 4, 5, 6, 7], prog := [6057341498813318149, 72057594037927936, 72057594037927936], budget := 1000 }) })]⟩ } }).dev.executes
        (3 : Fin 512) 0x54 (6057341498813318149 : Nat) (0 : Nat)
        ({ run := 5, index := 0, words := [2533274790789122, 0], tStart := 0, pc := 0, regs := [0, 1, 2, 3, 4, 5, 6, 7], prog := [6057341498813318149, 72057594037927936, 72057594037927936], budget := 1000 }
        : Entry) (5 : Nat) rowOPT_LANE_MAP (5 : Nat)) ∧
    (slice (6057341498813318149 : Nat) 9 4 = 2) ∧
    (({ upState [(.csq_q_cfg_privilege, 3, 0)] with dev := { (upState [(.csq_q_cfg_privilege, 3, 0)]).dev with queues := ⟨[(3, { run := some ({ run := 5, index := 0, words := [2533274790789122, 0], tStart := 0, pc := 0, regs := [0, 1, 2, 3, 4, 5, 6, 7], prog := [6057341498813317125, 72057594037927936, 72057594037927936], budget := 1000 }) })]⟩ } }).dev.executes
        (3 : Fin 512) 0x54 (6057341498813317125 : Nat) (0 : Nat)
        ({ run := 5, index := 0, words := [2533274790789122, 0], tStart := 0, pc := 0, regs := [0, 1, 2, 3, 4, 5, 6, 7], prog := [6057341498813317125, 72057594037927936, 72057594037927936], budget := 1000 }
        : Entry) (5 : Nat) rowLAS_OCT_STATUS (5 : Nat)) ∧
    (slice (6057341498813317125 : Nat) 9 4 = 0) ∧
    (({ upState [(.csq_q_cfg_privilege, 3, 0)] with dev := { (upState [(.csq_q_cfg_privilege, 3, 0)]).dev with queues := ⟨[(3, { run := some ({ run := 5, index := 0, words := [2533274790789122, 0], tStart := 0, pc := 0, regs := [0, 1, 2, 3, 4, 5, 6, 7], prog := [6057341498813317637, 72057594037927936, 72057594037927936], budget := 1000 }) })]⟩ } }).dev.executes
        (3 : Fin 512) 0x54 (6057341498813317637 : Nat) (0 : Nat)
        ({ run := 5, index := 0, words := [2533274790789122, 0], tStart := 0, pc := 0, regs := [0, 1, 2, 3, 4, 5, 6, 7], prog := [6057341498813317637, 72057594037927936, 72057594037927936], budget := 1000 }
        : Entry) (5 : Nat) rowLAS_OCT_SEQ_TIME (5 : Nat)) ∧
    (slice (6057341498813317637 : Nat) 9 4 = 1) ∧
    (({ upState [(.csq_q_cfg_privilege, 3, 0)] with dev := { (upState [(.csq_q_cfg_privilege, 3, 0)]).dev with queues := ⟨[(3, { run := some ({ run := 5, index := 0, words := [2533274790789122, 0], tStart := 0, pc := 0, regs := [0, 1, 2, 3, 4, 5, 6, 7], prog := [6057341498813318661, 72057594037927936, 72057594037927936], budget := 1000 }) })]⟩ } }).dev.executes
        (3 : Fin 512) 0x54 (6057341498813318661 : Nat) (0 : Nat)
        ({ run := 5, index := 0, words := [2533274790789122, 0], tStart := 0, pc := 0, regs := [0, 1, 2, 3, 4, 5, 6, 7], prog := [6057341498813318661, 72057594037927936, 72057594037927936], budget := 1000 }
        : Entry) (5 : Nat) rowOPT_CW_COUNT (5 : Nat)) ∧
    (slice (6057341498813318661 : Nat) 9 4 = 3) := by
  refine ⟨?_, ?_, ?_, ?_, ?_, ?_, ?_, ?_, ?_, ?_, ?_, ?_, ?_, ?_, ?_, ?_, ?_, ?_, ?_, ?_, ?_, ?_, ?_, ?_, ?_, ?_, ?_, ?_, ?_,
      ?_, ?_, ?_, ?_, ?_, ?_, ?_, ?_, ?_, ?_, ?_, ?_, ?_, ?_, ?_, ?_, ?_, ?_, ?_, ?_, ?_, ?_, ?_, ?_, ?_, ?_, ?_, ?_, ?_, ?_,
      ?_, ?_, ?_, ?_, ?_, ?_, ?_, ?_, ?_, ?_, ?_, ?_, ?_, ?_, ?_, ?_, ?_, ?_, ?_, ?_, ?_, ?_⟩ <;>
    decide +kernel

/-- States and operands that meet the premises of `Obligations.TimeMemoryAndProgramInstructions`, clause by clause. -/
theorem witness_TimeMemoryAndProgramInstructions :
    (({ upState [(.csq_q_cfg_privilege, 3, 0)] with dev := { (upState [(.csq_q_cfg_privilege, 3, 0)]).dev with queues := ⟨[(3, { run := some ({ run := 5, index := 0, words := [2533274790789122, 0], tStart := 0, pc := 0, regs := [0, 1, 2, 3, 4, 5, 6, 7], prog := [6922032627268452352, 72057594037927936, 72057594037927936], budget := 1000 }) })]⟩ } }).dev.issues
        (3 : Fin 512) 0x60 (6922032627268452352 : Nat) (0 : Nat)
        ({ run := 5, index := 0, words := [2533274790789122, 0], tStart := 0, pc := 0, regs := [0, 1, 2, 3, 4, 5, 6, 7], prog := [6922032627268452352, 72057594037927936, 72057594037927936], budget := 1000 }
        : Entry)) ∧
    (({ upState [(.csq_q_cfg_privilege, 3, 0)] with dev := { (upState [(.csq_q_cfg_privilege, 3, 0)]).dev with queues := ⟨[(3, { run := some ({ run := 5, index := 0, words := [2533274790789122, 0], tStart := 0, pc := 0, regs := [0, 1, 2, 3, 4, 5, 6, 7], prog := [6994090221306380288, 72057594037927936, 72057594037927936], budget := 1000 }) })]⟩ } }).dev.executes
        (3 : Fin 512) 0x61 (6994090221306380288 : Nat) (0 : Nat)
        ({ run := 5, index := 0, words := [2533274790789122, 0], tStart := 0, pc := 0, regs := [0, 1, 2, 3, 4, 5, 6, 7], prog := [6994090221306380288, 72057594037927936, 72057594037927936], budget := 1000 }
        : Entry) (0 : Nat) rowTIME_STATUS 0) ∧
    (({ upState [(.csq_q_cfg_privilege, 3, 0)] with dev := { (upState [(.csq_q_cfg_privilege, 3, 0)]).dev with queues := ⟨[(3, { run := some ({ run := 5, index := 0, words := [2533274790789122, 0], tStart := 0, pc := 0, regs := [0, 1, 2, 3, 4, 5, 6, 7], prog := [7062488640647069696, 72057594037927936, 72057594037927936], budget := 1000 }) })]⟩ } }).dev.executes
        (3 : Fin 512) 0x62 (7062488640647069696 : Nat) (0 : Nat)
        ({ run := 5, index := 0, words := [2533274790789122, 0], tStart := 0, pc := 0, regs := [0, 1, 2, 3, 4, 5, 6, 7], prog := [7062488640647069696, 72057594037927936, 72057594037927936], budget := 1000 }
        : Entry) (0 : Nat) rowTIME_PARENT 0) ∧
    (({ upState [(.csq_q_cfg_privilege, 3, 0)] with dev := { (upState [(.csq_q_cfg_privilege, 3, 0)]).dev with queues := ⟨[(3, { run := some ({ run := 5, index := 0, words := [2533274790789122, 0], tStart := 0, pc := 0, regs := [0, 1, 2, 3, 4, 5, 6, 7], prog := [7062488640647069696, 72057594037927936, 72057594037927936], budget := 1000 }) })]⟩ } }).dev.refusedFields
        rowTIME_PARENT 0
        (({ run := 5, index := 0, words := [2533274790789122, 0], tStart := 0, pc := 0, regs := [0, 1, 2, 3, 4, 5, 6, 7], prog := [7062488640647069696, 72057594037927936, 72057594037927936], budget := 1000 }
        : Entry).reg (wA (7062488640647069696 : Nat))) = []) ∧
    (({ upState [(.csq_q_cfg_privilege, 3, 0)] with dev := { (upState [(.csq_q_cfg_privilege, 3, 0)]).dev with queues := ⟨[(3, { run := some ({ run := 5, index := 0, words := [2533274790789122, 0], tStart := 0, pc := 0, regs := [0, 1, 2, 3, 4, 5, 6, 7], prog := [8071294957178060802, 72057594037927936, 72057594037927936], budget := 1000 }) })]⟩ } }).dev.executes
        (3 : Fin 512) 0x70 (8071294957178060802 : Nat) (0 : Nat)
        ({ run := 5, index := 0, words := [2533274790789122, 0], tStart := 0, pc := 0, regs := [0, 1, 2, 3, 4, 5, 6, 7], prog := [8071294957178060802, 72057594037927936, 72057594037927936], budget := 1000 }
        : Entry) (2 : Nat) rowTIME_TRIG_PERIOD (2 : Nat)) ∧
    (({ upState [(.csq_q_cfg_privilege, 3, 0), (.time_trig_period_width_ns, 2, 20)] with dev := { (upState [(.csq_q_cfg_privilege, 3, 0), (.time_trig_period_width_ns, 2, 20)]).dev with queues := ⟨[(3, { run := some ({ run := 5, index := 0, words := [2533274790789122, 0], tStart := 0, pc := 0, regs := [0, 1, 2, 3, 4, 5, 6, 7], prog := [8147856150843359234, 72057594037927936, 72057594037927936], budget := 1000 }) })]⟩ } }).dev.executes
        (3 : Fin 512) 0x71 (8147856150843359234 : Nat) (0 : Nat)
        ({ run := 5, index := 0, words := [2533274790789122, 0], tStart := 0, pc := 0, regs := [0, 1, 2, 3, 4, 5, 6, 7], prog := [8147856150843359234, 72057594037927936, 72057594037927936], budget := 1000 }
        : Entry) (2 : Nat) rowTIME_TRIG_CTRL (2 : Nat)) ∧
    (({ upState [(.csq_q_cfg_privilege, 3, 0), (.time_trig_period_width_ns, 2, 20)] with dev := { (upState [(.csq_q_cfg_privilege, 3, 0), (.time_trig_period_width_ns, 2, 20)]).dev with queues := ⟨[(3, { run := some ({ run := 5, index := 0, words := [2533274790789122, 0], tStart := 0, pc := 0, regs := [0, 1, 2, 3, 4, 5, 6, 7], prog := [8147856150843359234, 72057594037927936, 72057594037927936], budget := 1000 }) })]⟩ } }).dev.flag
        .time_trig_ctrl_enable (2 : Nat) = false ∧
        ¬(({ upState [(.csq_q_cfg_privilege, 3, 0), (.time_trig_period_width_ns, 2, 20)] with dev := { (upState [(.csq_q_cfg_privilege, 3, 0), (.time_trig_period_width_ns, 2, 20)]).dev with queues := ⟨[(3, { run := some ({ run := 5, index := 0, words := [2533274790789122, 0], tStart := 0, pc := 0, regs := [0, 1, 2, 3, 4, 5, 6, 7], prog := [8147856150843359234, 72057594037927936, 72057594037927936], budget := 1000 }) })]⟩ } }).dev.get
        .time_trig_period_width_ns (2 : Nat) < 10 ∨
        (({ upState [(.csq_q_cfg_privilege, 3, 0), (.time_trig_period_width_ns, 2, 20)] with dev := { (upState [(.csq_q_cfg_privilege, 3, 0), (.time_trig_period_width_ns, 2, 20)]).dev with queues := ⟨[(3, { run := some ({ run := 5, index := 0, words := [2533274790789122, 0], tStart := 0, pc := 0, regs := [0, 1, 2, 3, 4, 5, 6, 7], prog := [8147856150843359234, 72057594037927936, 72057594037927936], budget := 1000 }) })]⟩ } }).dev.get
        .time_trig_period_period_ns (2 : Nat) ≠ 0 ∧
        (({ upState [(.csq_q_cfg_privilege, 3, 0), (.time_trig_period_width_ns, 2, 20)] with dev := { (upState [(.csq_q_cfg_privilege, 3, 0), (.time_trig_period_width_ns, 2, 20)]).dev with queues := ⟨[(3, { run := some ({ run := 5, index := 0, words := [2533274790789122, 0], tStart := 0, pc := 0, regs := [0, 1, 2, 3, 4, 5, 6, 7], prog := [8147856150843359234, 72057594037927936, 72057594037927936], budget := 1000 }) })]⟩ } }).dev.get
        .time_trig_period_period_ns (2 : Nat) < 100 ∨
        ({ upState [(.csq_q_cfg_privilege, 3, 0), (.time_trig_period_width_ns, 2, 20)] with dev := { (upState [(.csq_q_cfg_privilege, 3, 0), (.time_trig_period_width_ns, 2, 20)]).dev with queues := ⟨[(3, { run := some ({ run := 5, index := 0, words := [2533274790789122, 0], tStart := 0, pc := 0, regs := [0, 1, 2, 3, 4, 5, 6, 7], prog := [8147856150843359234, 72057594037927936, 72057594037927936], budget := 1000 }) })]⟩ } }).dev.get
        .time_trig_period_period_ns (2 : Nat) ≤
        ({ upState [(.csq_q_cfg_privilege, 3, 0), (.time_trig_period_width_ns, 2, 20)] with dev := { (upState [(.csq_q_cfg_privilege, 3, 0), (.time_trig_period_width_ns, 2, 20)]).dev with queues := ⟨[(3, { run := some ({ run := 5, index := 0, words := [2533274790789122, 0], tStart := 0, pc := 0, regs := [0, 1, 2, 3, 4, 5, 6, 7], prog := [8147856150843359234, 72057594037927936, 72057594037927936], budget := 1000 }) })]⟩ } }).dev.get
        .time_trig_period_width_ns (2 : Nat))))) ∧
    (({ upState [(.csq_q_cfg_privilege, 3, 0), (.time_trig_period_width_ns, 2, 5)] with dev := { (upState [(.csq_q_cfg_privilege, 3, 0), (.time_trig_period_width_ns, 2, 5)]).dev with queues := ⟨[(3, { run := some ({ run := 5, index := 0, words := [2533274790789122, 0], tStart := 0, pc := 0, regs := [0, 1, 2, 3, 4, 5, 6, 7], prog := [8147856150843359234, 72057594037927936, 72057594037927936], budget := 1000 }) })]⟩ } }).dev.executes
        (3 : Fin 512) 0x71 (8147856150843359234 : Nat) (0 : Nat)
        ({ run := 5, index := 0, words := [2533274790789122, 0], tStart := 0, pc := 0, regs := [0, 1, 2, 3, 4, 5, 6, 7], prog := [8147856150843359234, 72057594037927936, 72057594037927936], budget := 1000 }
        : Entry) (2 : Nat) rowTIME_TRIG_CTRL (2 : Nat)) ∧
    (({ upState [(.csq_q_cfg_privilege, 3, 0), (.time_trig_period_width_ns, 2, 5)] with dev := { (upState [(.csq_q_cfg_privilege, 3, 0), (.time_trig_period_width_ns, 2, 5)]).dev with queues := ⟨[(3, { run := some ({ run := 5, index := 0, words := [2533274790789122, 0], tStart := 0, pc := 0, regs := [0, 1, 2, 3, 4, 5, 6, 7], prog := [8147856150843359234, 72057594037927936, 72057594037927936], budget := 1000 }) })]⟩ } }).dev.flag
        .time_trig_ctrl_enable (2 : Nat) = false ∧
        (({ upState [(.csq_q_cfg_privilege, 3, 0), (.time_trig_period_width_ns, 2, 5)] with dev := { (upState [(.csq_q_cfg_privilege, 3, 0), (.time_trig_period_width_ns, 2, 5)]).dev with queues := ⟨[(3, { run := some ({ run := 5, index := 0, words := [2533274790789122, 0], tStart := 0, pc := 0, regs := [0, 1, 2, 3, 4, 5, 6, 7], prog := [8147856150843359234, 72057594037927936, 72057594037927936], budget := 1000 }) })]⟩ } }).dev.get
        .time_trig_period_width_ns (2 : Nat) < 10 ∨
        (({ upState [(.csq_q_cfg_privilege, 3, 0), (.time_trig_period_width_ns, 2, 5)] with dev := { (upState [(.csq_q_cfg_privilege, 3, 0), (.time_trig_period_width_ns, 2, 5)]).dev with queues := ⟨[(3, { run := some ({ run := 5, index := 0, words := [2533274790789122, 0], tStart := 0, pc := 0, regs := [0, 1, 2, 3, 4, 5, 6, 7], prog := [8147856150843359234, 72057594037927936, 72057594037927936], budget := 1000 }) })]⟩ } }).dev.get
        .time_trig_period_period_ns (2 : Nat) ≠ 0 ∧
        (({ upState [(.csq_q_cfg_privilege, 3, 0), (.time_trig_period_width_ns, 2, 5)] with dev := { (upState [(.csq_q_cfg_privilege, 3, 0), (.time_trig_period_width_ns, 2, 5)]).dev with queues := ⟨[(3, { run := some ({ run := 5, index := 0, words := [2533274790789122, 0], tStart := 0, pc := 0, regs := [0, 1, 2, 3, 4, 5, 6, 7], prog := [8147856150843359234, 72057594037927936, 72057594037927936], budget := 1000 }) })]⟩ } }).dev.get
        .time_trig_period_period_ns (2 : Nat) < 100 ∨
        ({ upState [(.csq_q_cfg_privilege, 3, 0), (.time_trig_period_width_ns, 2, 5)] with dev := { (upState [(.csq_q_cfg_privilege, 3, 0), (.time_trig_period_width_ns, 2, 5)]).dev with queues := ⟨[(3, { run := some ({ run := 5, index := 0, words := [2533274790789122, 0], tStart := 0, pc := 0, regs := [0, 1, 2, 3, 4, 5, 6, 7], prog := [8147856150843359234, 72057594037927936, 72057594037927936], budget := 1000 }) })]⟩ } }).dev.get
        .time_trig_period_period_ns (2 : Nat) ≤
        ({ upState [(.csq_q_cfg_privilege, 3, 0), (.time_trig_period_width_ns, 2, 5)] with dev := { (upState [(.csq_q_cfg_privilege, 3, 0), (.time_trig_period_width_ns, 2, 5)]).dev with queues := ⟨[(3, { run := some ({ run := 5, index := 0, words := [2533274790789122, 0], tStart := 0, pc := 0, regs := [0, 1, 2, 3, 4, 5, 6, 7], prog := [8147856150843359234, 72057594037927936, 72057594037927936], budget := 1000 }) })]⟩ } }).dev.get
        .time_trig_period_width_ns (2 : Nat))))) ∧
    (({ upState [(.csq_q_cfg_privilege, 3, 0), (.time_trig_ctrl_enable, 2, 1)] with dev := { (upState [(.csq_q_cfg_privilege, 3, 0), (.time_trig_ctrl_enable, 2, 1)]).dev with queues := ⟨[(3, { run := some ({ run := 5, index := 0, words := [2533274790789122, 0], tStart := 0, pc := 0, regs := [0, 1, 2, 3, 4, 5, 6, 7], prog := [8214565720323784706, 72057594037927936, 72057594037927936], budget := 1000 }) })]⟩ } }).dev.executes
        (3 : Fin 512) 0x72 (8214565720323784706 : Nat) (0 : Nat)
        ({ run := 5, index := 0, words := [2533274790789122, 0], tStart := 0, pc := 0, regs := [0, 1, 2, 3, 4, 5, 6, 7], prog := [8214565720323784706, 72057594037927936, 72057594037927936], budget := 1000 }
        : Entry) (2 : Nat) rowTIME_TRIG_CTRL (2 : Nat)) ∧
    (({ upState [(.csq_q_cfg_privilege, 3, 0), (.time_trig_ctrl_enable, 2, 1)] with dev := { (upState [(.csq_q_cfg_privilege, 3, 0), (.time_trig_ctrl_enable, 2, 1)]).dev with queues := ⟨[(3, { run := some ({ run := 5, index := 0, words := [2533274790789122, 0], tStart := 0, pc := 0, regs := [0, 1, 2, 3, 4, 5, 6, 7], prog := [8214565720323784706, 72057594037927936, 72057594037927936], budget := 1000 }) })]⟩ } }).dev.flag
        .time_trig_ctrl_enable (2 : Nat) = true) ∧
    (({ upState [(.csq_q_cfg_privilege, 3, 0)] with dev := { (upState [(.csq_q_cfg_privilege, 3, 0)]).dev with queues := ⟨[(3, { run := some ({ run := 5, index := 0, words := [2533274790789122, 0], tStart := 0, pc := 0, regs := [0, 1, 2, 3, 4, 5, 6, 7], prog := [8291126913989083138, 72057594037927936, 72057594037927936], budget := 1000 }) })]⟩, caps := ⟨[(2, [(400, false), (500, true)])]⟩ } }).dev.executes
        (3 : Fin 512) 0x73 (8291126913989083138 : Nat) (0 : Nat)
        ({ run := 5, index := 0, words := [2533274790789122, 0], tStart := 0, pc := 0, regs := [0, 1, 2, 3, 4, 5, 6, 7], prog := [8291126913989083138, 72057594037927936, 72057594037927936], budget := 1000 }
        : Entry) (2 : Nat) rowTIME_CAP_NS (2 : Nat)) ∧
    (({ upState [(.csq_q_cfg_privilege, 3, 0)] with dev := { (upState [(.csq_q_cfg_privilege, 3, 0)]).dev with queues := ⟨[(3, { run := some ({ run := 5, index := 0, words := [2533274790789122, 0], tStart := 0, pc := 0, regs := [0, 1, 2, 3, 4, 5, 6, 7], prog := [8291126913989083138, 72057594037927936, 72057594037927936], budget := 1000 }) })]⟩, caps := ⟨[(2, [(400, false), (500, true)])]⟩ } }).dev.cap
        (2 : Nat) = ((400, false) : Nat × Bool) :: ([(500, true)] : List (Nat × Bool))) ∧
    (({ upState [(.csq_q_cfg_privilege, 3, 0)] with dev := { (upState [(.csq_q_cfg_privilege, 3, 0)]).dev with queues := ⟨[(3, { run := some ({ run := 5, index := 0, words := [2533274790789122, 0], tStart := 0, pc := 0, regs := [0, 1, 2, 3, 4, 5, 6, 7], prog := [8291126913989083138, 72057594037927936, 72057594037927936], budget := 1000 }) })]⟩ } }).dev.executes
        (3 : Fin 512) 0x73 (8291126913989083138 : Nat) (0 : Nat)
        ({ run := 5, index := 0, words := [2533274790789122, 0], tStart := 0, pc := 0, regs := [0, 1, 2, 3, 4, 5, 6, 7], prog := [8291126913989083138, 72057594037927936, 72057594037927936], budget := 1000 }
        : Entry) (2 : Nat) rowTIME_CAP_NS (2 : Nat)) ∧
    (({ upState [(.csq_q_cfg_privilege, 3, 0)] with dev := { (upState [(.csq_q_cfg_privilege, 3, 0)]).dev with queues := ⟨[(3, { run := some ({ run := 5, index := 0, words := [2533274790789122, 0], tStart := 0, pc := 0, regs := [0, 1, 2, 3, 4, 5, 6, 7], prog := [8291126913989083138, 72057594037927936, 72057594037927936], budget := 1000 }) })]⟩ } }).dev.cap
        (2 : Nat) = []) ∧
    (({ upState [(.csq_q_cfg_privilege, 3, 0), (.fmem_win_state_state, 2, 0), (.fmem_win_cfg_window, 2, 3), (.fmem_win_cfg_role, 2, 0), (.fmem_win_cfg_writable, 2, 1), (.fmem_win_src_src_limit, 2, 0xFFFFFF), (.sched_echo_ctrl_echo_enable, 0, 0)] with dev := { (upState [(.csq_q_cfg_privilege, 3, 0), (.fmem_win_state_state, 2, 0), (.fmem_win_cfg_window, 2, 3), (.fmem_win_cfg_role, 2, 0), (.fmem_win_cfg_writable, 2, 1), (.fmem_win_src_src_limit, 2, 0xFFFFFF), (.sched_echo_ctrl_echo_enable, 0, 0)]).dev with queues := ⟨[(3, { run := some ({ run := 5, index := 0, words := [2533274790789122, 0], tStart := 0, pc := 0, regs := [0, 0, 281474959933440, 2305843009213890560], prog := [9233223661039648770, 72057594037927936, 72057594037927936], budget := 1000 }) })]⟩ } }).dev.executes
        (3 : Fin 512) 0x80 (9233223661039648770 : Nat) (0 : Nat)
        ({ run := 5, index := 0, words := [2533274790789122, 0], tStart := 0, pc := 0, regs := [0, 0, 281474959933440, 2305843009213890560], prog := [9233223661039648770, 72057594037927936, 72057594037927936], budget := 1000 }
        : Entry) (2 : Nat) rowFMEM_WIN_STATE (2 : Nat)) ∧
    (({ upState [(.csq_q_cfg_privilege, 3, 0), (.fmem_win_state_state, 2, 0), (.fmem_win_cfg_window, 2, 3), (.fmem_win_cfg_role, 2, 0), (.fmem_win_cfg_writable, 2, 1), (.fmem_win_src_src_limit, 2, 0xFFFFFF), (.sched_echo_ctrl_echo_enable, 0, 0)] with dev := { (upState [(.csq_q_cfg_privilege, 3, 0), (.fmem_win_state_state, 2, 0), (.fmem_win_cfg_window, 2, 3), (.fmem_win_cfg_role, 2, 0), (.fmem_win_cfg_writable, 2, 1), (.fmem_win_src_src_limit, 2, 0xFFFFFF), (.sched_echo_ctrl_echo_enable, 0, 0)]).dev with queues := ⟨[(3, { run := some ({ run := 5, index := 0, words := [2533274790789122, 0], tStart := 0, pc := 0, regs := [0, 0, 281474959933440, 2305843009213890560], prog := [9233223661039648770, 72057594037927936, 72057594037927936], budget := 1000 }) })]⟩ } }).dev.opsOpen
        (3 : Fin 512)
        ({ run := 5, index := 0, words := [2533274790789122, 0], tStart := 0, pc := 0, regs := [0, 0, 281474959933440, 2305843009213890560], prog := [9233223661039648770, 72057594037927936, 72057594037927936], budget := 1000 }
        : Entry).run < 16) ∧
    (({ upState [(.csq_q_cfg_privilege, 3, 0), (.fmem_win_state_state, 2, 0), (.fmem_win_cfg_window, 2, 3), (.fmem_win_cfg_role, 2, 0), (.fmem_win_cfg_writable, 2, 1), (.fmem_win_src_src_limit, 2, 0xFFFFFF), (.sched_echo_ctrl_echo_enable, 0, 0)] with dev := { (upState [(.csq_q_cfg_privilege, 3, 0), (.fmem_win_state_state, 2, 0), (.fmem_win_cfg_window, 2, 3), (.fmem_win_cfg_role, 2, 0), (.fmem_win_cfg_writable, 2, 1), (.fmem_win_src_src_limit, 2, 0xFFFFFF), (.sched_echo_ctrl_echo_enable, 0, 0)]).dev with queues := ⟨[(3, { run := some ({ run := 5, index := 0, words := [2533274790789122, 0], tStart := 0, pc := 0, regs := [0, 0, 281474959933440, 2305843009213890560], prog := [9233223661039648770, 72057594037927936, 72057594037927936], budget := 1000 }) })]⟩ } }).dev.mapResult
        (2 : Nat)
        (({ run := 5, index := 0, words := [2533274790789122, 0], tStart := 0, pc := 0, regs := [0, 0, 281474959933440, 2305843009213890560], prog := [9233223661039648770, 72057594037927936, 72057594037927936], budget := 1000 }
        : Entry).reg (wA (9233223661039648770 : Nat)))
        (({ run := 5, index := 0, words := [2533274790789122, 0], tStart := 0, pc := 0, regs := [0, 0, 281474959933440, 2305843009213890560], prog := [9233223661039648770, 72057594037927936, 72057594037927936], budget := 1000 }
        : Entry).reg (wD (9233223661039648770 : Nat))) = 0) ∧
    (({ upState [(.csq_q_cfg_privilege, 3, 0), (.fmem_win_state_state, 2, 2), (.fmem_win_cfg_window, 2, 3), (.fmem_win_cfg_role, 2, 0), (.fmem_win_cfg_writable, 2, 1), (.fmem_win_src_src_limit, 2, 0xFFFFFF), (.sched_echo_ctrl_echo_enable, 0, 0)] with dev := { (upState [(.csq_q_cfg_privilege, 3, 0), (.fmem_win_state_state, 2, 2), (.fmem_win_cfg_window, 2, 3), (.fmem_win_cfg_role, 2, 0), (.fmem_win_cfg_writable, 2, 1), (.fmem_win_src_src_limit, 2, 0xFFFFFF), (.sched_echo_ctrl_echo_enable, 0, 0)]).dev with queues := ⟨[(3, { run := some ({ run := 5, index := 0, words := [2533274790789122, 0], tStart := 0, pc := 0, regs := [0, 0, 281474959933440, 2305843009213890560], prog := [9233223661039648770, 72057594037927936, 72057594037927936], budget := 1000 }) })]⟩ } }).dev.executes
        (3 : Fin 512) 0x80 (9233223661039648770 : Nat) (0 : Nat)
        ({ run := 5, index := 0, words := [2533274790789122, 0], tStart := 0, pc := 0, regs := [0, 0, 281474959933440, 2305843009213890560], prog := [9233223661039648770, 72057594037927936, 72057594037927936], budget := 1000 }
        : Entry) (2 : Nat) rowFMEM_WIN_STATE (2 : Nat)) ∧
    (({ upState [(.csq_q_cfg_privilege, 3, 0), (.fmem_win_state_state, 2, 2), (.fmem_win_cfg_window, 2, 3), (.fmem_win_cfg_role, 2, 0), (.fmem_win_cfg_writable, 2, 1), (.fmem_win_src_src_limit, 2, 0xFFFFFF), (.sched_echo_ctrl_echo_enable, 0, 0)] with dev := { (upState [(.csq_q_cfg_privilege, 3, 0), (.fmem_win_state_state, 2, 2), (.fmem_win_cfg_window, 2, 3), (.fmem_win_cfg_role, 2, 0), (.fmem_win_cfg_writable, 2, 1), (.fmem_win_src_src_limit, 2, 0xFFFFFF), (.sched_echo_ctrl_echo_enable, 0, 0)]).dev with queues := ⟨[(3, { run := some ({ run := 5, index := 0, words := [2533274790789122, 0], tStart := 0, pc := 0, regs := [0, 0, 281474959933440, 2305843009213890560], prog := [9233223661039648770, 72057594037927936, 72057594037927936], budget := 1000 }) })]⟩ } }).dev.opsOpen
        (3 : Fin 512)
        ({ run := 5, index := 0, words := [2533274790789122, 0], tStart := 0, pc := 0, regs := [0, 0, 281474959933440, 2305843009213890560], prog := [9233223661039648770, 72057594037927936, 72057594037927936], budget := 1000 }
        : Entry).run < 16) ∧
    ((({ upState [(.csq_q_cfg_privilege, 3, 0), (.fmem_win_state_state, 2, 2), (.fmem_win_cfg_window, 2, 3), (.fmem_win_cfg_role, 2, 0), (.fmem_win_cfg_writable, 2, 1), (.fmem_win_src_src_limit, 2, 0xFFFFFF), (.sched_echo_ctrl_echo_enable, 0, 0)] with dev := { (upState [(.csq_q_cfg_privilege, 3, 0), (.fmem_win_state_state, 2, 2), (.fmem_win_cfg_window, 2, 3), (.fmem_win_cfg_role, 2, 0), (.fmem_win_cfg_writable, 2, 1), (.fmem_win_src_src_limit, 2, 0xFFFFFF), (.sched_echo_ctrl_echo_enable, 0, 0)]).dev with queues := ⟨[(3, { run := some ({ run := 5, index := 0, words := [2533274790789122, 0], tStart := 0, pc := 0, regs := [0, 0, 281474959933440, 2305843009213890560], prog := [9233223661039648770, 72057594037927936, 72057594037927936], budget := 1000 }) })]⟩ } }).dev.mapResult
        (2 : Nat)
        (({ run := 5, index := 0, words := [2533274790789122, 0], tStart := 0, pc := 0, regs := [0, 0, 281474959933440, 2305843009213890560], prog := [9233223661039648770, 72057594037927936, 72057594037927936], budget := 1000 }
        : Entry).reg (wA (9233223661039648770 : Nat)))
        (({ run := 5, index := 0, words := [2533274790789122, 0], tStart := 0, pc := 0, regs := [0, 0, 281474959933440, 2305843009213890560], prog := [9233223661039648770, 72057594037927936, 72057594037927936], budget := 1000 }
        : Entry).reg (wD (9233223661039648770 : Nat)))) ≠ 0) ∧
    (({ upState [(.csq_q_cfg_privilege, 3, 0), (.fmem_win_state_state, 2, 2), (.fmem_win_cfg_window, 2, 3), (.fmem_win_cfg_role, 2, 0), (.fmem_win_cfg_writable, 2, 1), (.fmem_win_src_src_limit, 2, 0xFFFFFF), (.sched_echo_ctrl_echo_enable, 0, 0)] with dev := { (upState [(.csq_q_cfg_privilege, 3, 0), (.fmem_win_state_state, 2, 2), (.fmem_win_cfg_window, 2, 3), (.fmem_win_cfg_role, 2, 0), (.fmem_win_cfg_writable, 2, 1), (.fmem_win_src_src_limit, 2, 0xFFFFFF), (.sched_echo_ctrl_echo_enable, 0, 0)]).dev with queues := ⟨[(3, { run := some ({ run := 5, index := 0, words := [2533274790789122, 0], tStart := 0, pc := 0, regs := [0, 1, 2, 3, 4, 5, 6, 7], prog := [9295429630892703746, 72057594037927936, 72057594037927936], budget := 1000 }) })]⟩ } }).dev.executes
        (3 : Fin 512) 0x81 (9295429630892703746 : Nat) (0 : Nat)
        ({ run := 5, index := 0, words := [2533274790789122, 0], tStart := 0, pc := 0, regs := [0, 1, 2, 3, 4, 5, 6, 7], prog := [9295429630892703746, 72057594037927936, 72057594037927936], budget := 1000 }
        : Entry) (2 : Nat) rowFMEM_WIN_STATE (2 : Nat)) ∧
    (({ upState [(.csq_q_cfg_privilege, 3, 0), (.fmem_win_state_state, 2, 2), (.fmem_win_cfg_window, 2, 3), (.fmem_win_cfg_role, 2, 0), (.fmem_win_cfg_writable, 2, 1), (.fmem_win_src_src_limit, 2, 0xFFFFFF), (.sched_echo_ctrl_echo_enable, 0, 0)] with dev := { (upState [(.csq_q_cfg_privilege, 3, 0), (.fmem_win_state_state, 2, 2), (.fmem_win_cfg_window, 2, 3), (.fmem_win_cfg_role, 2, 0), (.fmem_win_cfg_writable, 2, 1), (.fmem_win_src_src_limit, 2, 0xFFFFFF), (.sched_echo_ctrl_echo_enable, 0, 0)]).dev with queues := ⟨[(3, { run := some ({ run := 5, index := 0, words := [2533274790789122, 0], tStart := 0, pc := 0, regs := [0, 1, 2, 3, 4, 5, 6, 7], prog := [9295429630892703746, 72057594037927936, 72057594037927936], budget := 1000 }) })]⟩ } }).dev.opsOpen
        (3 : Fin 512)
        ({ run := 5, index := 0, words := [2533274790789122, 0], tStart := 0, pc := 0, regs := [0, 1, 2, 3, 4, 5, 6, 7], prog := [9295429630892703746, 72057594037927936, 72057594037927936], budget := 1000 }
        : Entry).run < 16) ∧
    (({ upState [(.csq_q_cfg_privilege, 3, 0), (.fmem_win_state_state, 2, 2), (.fmem_win_cfg_window, 2, 3), (.fmem_win_cfg_role, 2, 0), (.fmem_win_cfg_writable, 2, 1), (.fmem_win_src_src_limit, 2, 0xFFFFFF), (.sched_echo_ctrl_echo_enable, 0, 0)] with dev := { (upState [(.csq_q_cfg_privilege, 3, 0), (.fmem_win_state_state, 2, 2), (.fmem_win_cfg_window, 2, 3), (.fmem_win_cfg_role, 2, 0), (.fmem_win_cfg_writable, 2, 1), (.fmem_win_src_src_limit, 2, 0xFFFFFF), (.sched_echo_ctrl_echo_enable, 0, 0)]).dev with queues := ⟨[(3, { run := some ({ run := 5, index := 0, words := [2533274790789122, 0], tStart := 0, pc := 0, regs := [0, 1, 2, 3, 4, 5, 6, 7], prog := [9295429630892703746, 72057594037927936, 72057594037927936], budget := 1000 }) })]⟩ } }).dev.frameCmdResult
        2 (2 : Nat) = 0) ∧
    (({ upState [(.csq_q_cfg_privilege, 3, 0), (.fmem_win_state_state, 2, 3), (.fmem_win_cfg_window, 2, 3), (.fmem_win_cfg_role, 2, 1), (.fmem_win_cfg_writable, 2, 1), (.fmem_win_src_src_limit, 2, 0xFFFFFF), (.sched_echo_ctrl_echo_enable, 0, 0)] with dev := { (upState [(.csq_q_cfg_privilege, 3, 0), (.fmem_win_state_state, 2, 3), (.fmem_win_cfg_window, 2, 3), (.fmem_win_cfg_role, 2, 1), (.fmem_win_cfg_writable, 2, 1), (.fmem_win_src_src_limit, 2, 0xFFFFFF), (.sched_echo_ctrl_echo_enable, 0, 0)]).dev with queues := ⟨[(3, { run := some ({ run := 5, index := 0, words := [2533274790789122, 0], tStart := 0, pc := 0, regs := [0, 1, 2, 3, 4, 5, 6, 7], prog := [9367487224930631682, 72057594037927936, 72057594037927936], budget := 1000 }) })]⟩ } }).dev.executes
        (3 : Fin 512) 0x82 (9367487224930631682 : Nat) (0 : Nat)
        ({ run := 5, index := 0, words := [2533274790789122, 0], tStart := 0, pc := 0, regs := [0, 1, 2, 3, 4, 5, 6, 7], prog := [9367487224930631682, 72057594037927936, 72057594037927936], budget := 1000 }
        : Entry) (2 : Nat) rowFMEM_WIN_STATE (2 : Nat)) ∧
    (({ upState [(.csq_q_cfg_privilege, 3, 0), (.fmem_win_state_state, 2, 3), (.fmem_win_cfg_window, 2, 3), (.fmem_win_cfg_role, 2, 1), (.fmem_win_cfg_writable, 2, 1), (.fmem_win_src_src_limit, 2, 0xFFFFFF), (.sched_echo_ctrl_echo_enable, 0, 0)] with dev := { (upState [(.csq_q_cfg_privilege, 3, 0), (.fmem_win_state_state, 2, 3), (.fmem_win_cfg_window, 2, 3), (.fmem_win_cfg_role, 2, 1), (.fmem_win_cfg_writable, 2, 1), (.fmem_win_src_src_limit, 2, 0xFFFFFF), (.sched_echo_ctrl_echo_enable, 0, 0)]).dev with queues := ⟨[(3, { run := some ({ run := 5, index := 0, words := [2533274790789122, 0], tStart := 0, pc := 0, regs := [0, 1, 2, 3, 4, 5, 6, 7], prog := [9367487224930631682, 72057594037927936, 72057594037927936], budget := 1000 }) })]⟩ } }).dev.opsOpen
        (3 : Fin 512)
        ({ run := 5, index := 0, words := [2533274790789122, 0], tStart := 0, pc := 0, regs := [0, 1, 2, 3, 4, 5, 6, 7], prog := [9367487224930631682, 72057594037927936, 72057594037927936], budget := 1000 }
        : Entry).run < 16) ∧
    (({ upState [(.csq_q_cfg_privilege, 3, 0), (.fmem_win_state_state, 2, 3), (.fmem_win_cfg_window, 2, 3), (.fmem_win_cfg_role, 2, 1), (.fmem_win_cfg_writable, 2, 1), (.fmem_win_src_src_limit, 2, 0xFFFFFF), (.sched_echo_ctrl_echo_enable, 0, 0)] with dev := { (upState [(.csq_q_cfg_privilege, 3, 0), (.fmem_win_state_state, 2, 3), (.fmem_win_cfg_window, 2, 3), (.fmem_win_cfg_role, 2, 1), (.fmem_win_cfg_writable, 2, 1), (.fmem_win_src_src_limit, 2, 0xFFFFFF), (.sched_echo_ctrl_echo_enable, 0, 0)]).dev with queues := ⟨[(3, { run := some ({ run := 5, index := 0, words := [2533274790789122, 0], tStart := 0, pc := 0, regs := [0, 1, 2, 3, 4, 5, 6, 7], prog := [9367487224930631682, 72057594037927936, 72057594037927936], budget := 1000 }) })]⟩ } }).dev.frameCmdResult
        3 (2 : Nat) = 0) ∧
    (({ upState [(.csq_q_cfg_privilege, 3, 0), (.fmem_win_state_state, 2, 5), (.fmem_win_cfg_window, 2, 3), (.fmem_win_cfg_role, 2, 2), (.fmem_win_cfg_writable, 2, 1), (.fmem_win_src_src_limit, 2, 0xFFFFFF), (.sched_echo_ctrl_echo_enable, 0, 0)] with dev := { (upState [(.csq_q_cfg_privilege, 3, 0), (.fmem_win_state_state, 2, 5), (.fmem_win_cfg_window, 2, 3), (.fmem_win_cfg_role, 2, 2), (.fmem_win_cfg_writable, 2, 1), (.fmem_win_src_src_limit, 2, 0xFFFFFF), (.sched_echo_ctrl_echo_enable, 0, 0)]).dev with queues := ⟨[(3, { run := some ({ run := 5, index := 0, words := [2533274790789122, 0], tStart := 0, pc := 0, regs := [0, 1, 2, 3, 4, 5, 6, 7], prog := [9439544818968559618, 72057594037927936, 72057594037927936], budget := 1000 }) })]⟩ } }).dev.executes
        (3 : Fin 512) 0x83 (9439544818968559618 : Nat) (0 : Nat)
        ({ run := 5, index := 0, words := [2533274790789122, 0], tStart := 0, pc := 0, regs := [0, 1, 2, 3, 4, 5, 6, 7], prog := [9439544818968559618, 72057594037927936, 72057594037927936], budget := 1000 }
        : Entry) (2 : Nat) rowFMEM_WIN_STATE (2 : Nat)) ∧
    (({ upState [(.csq_q_cfg_privilege, 3, 0), (.fmem_win_state_state, 2, 5), (.fmem_win_cfg_window, 2, 3), (.fmem_win_cfg_role, 2, 2), (.fmem_win_cfg_writable, 2, 1), (.fmem_win_src_src_limit, 2, 0xFFFFFF), (.sched_echo_ctrl_echo_enable, 0, 0)] with dev := { (upState [(.csq_q_cfg_privilege, 3, 0), (.fmem_win_state_state, 2, 5), (.fmem_win_cfg_window, 2, 3), (.fmem_win_cfg_role, 2, 2), (.fmem_win_cfg_writable, 2, 1), (.fmem_win_src_src_limit, 2, 0xFFFFFF), (.sched_echo_ctrl_echo_enable, 0, 0)]).dev with queues := ⟨[(3, { run := some ({ run := 5, index := 0, words := [2533274790789122, 0], tStart := 0, pc := 0, regs := [0, 1, 2, 3, 4, 5, 6, 7], prog := [9439544818968559618, 72057594037927936, 72057594037927936], budget := 1000 }) })]⟩ } }).dev.opsOpen
        (3 : Fin 512)
        ({ run := 5, index := 0, words := [2533274790789122, 0], tStart := 0, pc := 0, regs := [0, 1, 2, 3, 4, 5, 6, 7], prog := [9439544818968559618, 72057594037927936, 72057594037927936], budget := 1000 }
        : Entry).run < 16) ∧
    (({ upState [(.csq_q_cfg_privilege, 3, 0), (.fmem_win_state_state, 2, 5), (.fmem_win_cfg_window, 2, 3), (.fmem_win_cfg_role, 2, 2), (.fmem_win_cfg_writable, 2, 1), (.fmem_win_src_src_limit, 2, 0xFFFFFF), (.sched_echo_ctrl_echo_enable, 0, 0)] with dev := { (upState [(.csq_q_cfg_privilege, 3, 0), (.fmem_win_state_state, 2, 5), (.fmem_win_cfg_window, 2, 3), (.fmem_win_cfg_role, 2, 2), (.fmem_win_cfg_writable, 2, 1), (.fmem_win_src_src_limit, 2, 0xFFFFFF), (.sched_echo_ctrl_echo_enable, 0, 0)]).dev with queues := ⟨[(3, { run := some ({ run := 5, index := 0, words := [2533274790789122, 0], tStart := 0, pc := 0, regs := [0, 1, 2, 3, 4, 5, 6, 7], prog := [9439544818968559618, 72057594037927936, 72057594037927936], budget := 1000 }) })]⟩ } }).dev.frameCmdResult
        4 (2 : Nat) = 0) ∧
    (({ upState [(.csq_q_cfg_privilege, 3, 0), (.fmem_win_state_state, 2, 0), (.fmem_win_cfg_window, 2, 3), (.fmem_win_cfg_role, 2, 0), (.fmem_win_cfg_writable, 2, 1), (.fmem_win_src_src_limit, 2, 0xFFFFFF), (.sched_echo_ctrl_echo_enable, 0, 0)] with dev := { (upState [(.csq_q_cfg_privilege, 3, 0), (.fmem_win_state_state, 2, 0), (.fmem_win_cfg_window, 2, 3), (.fmem_win_cfg_role, 2, 0), (.fmem_win_cfg_writable, 2, 1), (.fmem_win_src_src_limit, 2, 0xFFFFFF), (.sched_echo_ctrl_echo_enable, 0, 0)]).dev with queues := ⟨[(3, { run := some ({ run := 5, index := 0, words := [2533274790789122, 0], tStart := 0, pc := 0, regs := [0, 1, 2, 3, 4, 5, 6, 7], prog := [9295429630892703746, 72057594037927936, 72057594037927936], budget := 1000 }) })]⟩ } }).dev.executes
        (3 : Fin 512) 0x81 (9295429630892703746 : Nat) (0 : Nat)
        ({ run := 5, index := 0, words := [2533274790789122, 0], tStart := 0, pc := 0, regs := [0, 1, 2, 3, 4, 5, 6, 7], prog := [9295429630892703746, 72057594037927936, 72057594037927936], budget := 1000 }
        : Entry) (2 : Nat) rowFMEM_WIN_STATE (2 : Nat)) ∧
    (({ upState [(.csq_q_cfg_privilege, 3, 0), (.fmem_win_state_state, 2, 0), (.fmem_win_cfg_window, 2, 3), (.fmem_win_cfg_role, 2, 0), (.fmem_win_cfg_writable, 2, 1), (.fmem_win_src_src_limit, 2, 0xFFFFFF), (.sched_echo_ctrl_echo_enable, 0, 0)] with dev := { (upState [(.csq_q_cfg_privilege, 3, 0), (.fmem_win_state_state, 2, 0), (.fmem_win_cfg_window, 2, 3), (.fmem_win_cfg_role, 2, 0), (.fmem_win_cfg_writable, 2, 1), (.fmem_win_src_src_limit, 2, 0xFFFFFF), (.sched_echo_ctrl_echo_enable, 0, 0)]).dev with queues := ⟨[(3, { run := some ({ run := 5, index := 0, words := [2533274790789122, 0], tStart := 0, pc := 0, regs := [0, 1, 2, 3, 4, 5, 6, 7], prog := [9295429630892703746, 72057594037927936, 72057594037927936], budget := 1000 }) })]⟩ } }).dev.opsOpen
        (3 : Fin 512)
        ({ run := 5, index := 0, words := [2533274790789122, 0], tStart := 0, pc := 0, regs := [0, 1, 2, 3, 4, 5, 6, 7], prog := [9295429630892703746, 72057594037927936, 72057594037927936], budget := 1000 }
        : Entry).run < 16) ∧
    (({ upState [(.csq_q_cfg_privilege, 3, 0), (.fmem_win_state_state, 2, 0), (.fmem_win_cfg_window, 2, 3), (.fmem_win_cfg_role, 2, 0), (.fmem_win_cfg_writable, 2, 1), (.fmem_win_src_src_limit, 2, 0xFFFFFF), (.sched_echo_ctrl_echo_enable, 0, 0)] with dev := { (upState [(.csq_q_cfg_privilege, 3, 0), (.fmem_win_state_state, 2, 0), (.fmem_win_cfg_window, 2, 3), (.fmem_win_cfg_role, 2, 0), (.fmem_win_cfg_writable, 2, 1), (.fmem_win_src_src_limit, 2, 0xFFFFFF), (.sched_echo_ctrl_echo_enable, 0, 0)]).dev with queues := ⟨[(3, { run := some ({ run := 5, index := 0, words := [2533274790789122, 0], tStart := 0, pc := 0, regs := [0, 1, 2, 3, 4, 5, 6, 7], prog := [9295429630892703746, 72057594037927936, 72057594037927936], budget := 1000 }) })]⟩ } }).dev.frameCmdResult
        2 (2 : Nat) ≠ 0) ∧
    (({ upState [(.csq_q_cfg_privilege, 3, 0), (.fmem_win_state_state, 2, 0), (.fmem_win_cfg_window, 2, 3), (.fmem_win_cfg_role, 2, 0), (.fmem_win_cfg_writable, 2, 1), (.fmem_win_src_src_limit, 2, 0xFFFFFF), (.sched_echo_ctrl_echo_enable, 0, 0)] with dev := { (upState [(.csq_q_cfg_privilege, 3, 0), (.fmem_win_state_state, 2, 0), (.fmem_win_cfg_window, 2, 3), (.fmem_win_cfg_role, 2, 0), (.fmem_win_cfg_writable, 2, 1), (.fmem_win_src_src_limit, 2, 0xFFFFFF), (.sched_echo_ctrl_echo_enable, 0, 0)]).dev with queues := ⟨[(3, { run := some ({ run := 5, index := 0, words := [2533274790789122, 0], tStart := 0, pc := 0, regs := [0, 1, 2, 3, 4, 5, 6, 7], prog := [9367487224930631682, 72057594037927936, 72057594037927936], budget := 1000 }) })]⟩ } }).dev.executes
        (3 : Fin 512) 0x82 (9367487224930631682 : Nat) (0 : Nat)
        ({ run := 5, index := 0, words := [2533274790789122, 0], tStart := 0, pc := 0, regs := [0, 1, 2, 3, 4, 5, 6, 7], prog := [9367487224930631682, 72057594037927936, 72057594037927936], budget := 1000 }
        : Entry) (2 : Nat) rowFMEM_WIN_STATE (2 : Nat)) ∧
    (({ upState [(.csq_q_cfg_privilege, 3, 0), (.fmem_win_state_state, 2, 0), (.fmem_win_cfg_window, 2, 3), (.fmem_win_cfg_role, 2, 0), (.fmem_win_cfg_writable, 2, 1), (.fmem_win_src_src_limit, 2, 0xFFFFFF), (.sched_echo_ctrl_echo_enable, 0, 0)] with dev := { (upState [(.csq_q_cfg_privilege, 3, 0), (.fmem_win_state_state, 2, 0), (.fmem_win_cfg_window, 2, 3), (.fmem_win_cfg_role, 2, 0), (.fmem_win_cfg_writable, 2, 1), (.fmem_win_src_src_limit, 2, 0xFFFFFF), (.sched_echo_ctrl_echo_enable, 0, 0)]).dev with queues := ⟨[(3, { run := some ({ run := 5, index := 0, words := [2533274790789122, 0], tStart := 0, pc := 0, regs := [0, 1, 2, 3, 4, 5, 6, 7], prog := [9367487224930631682, 72057594037927936, 72057594037927936], budget := 1000 }) })]⟩ } }).dev.opsOpen
        (3 : Fin 512)
        ({ run := 5, index := 0, words := [2533274790789122, 0], tStart := 0, pc := 0, regs := [0, 1, 2, 3, 4, 5, 6, 7], prog := [9367487224930631682, 72057594037927936, 72057594037927936], budget := 1000 }
        : Entry).run < 16) ∧
    (({ upState [(.csq_q_cfg_privilege, 3, 0), (.fmem_win_state_state, 2, 0), (.fmem_win_cfg_window, 2, 3), (.fmem_win_cfg_role, 2, 0), (.fmem_win_cfg_writable, 2, 1), (.fmem_win_src_src_limit, 2, 0xFFFFFF), (.sched_echo_ctrl_echo_enable, 0, 0)] with dev := { (upState [(.csq_q_cfg_privilege, 3, 0), (.fmem_win_state_state, 2, 0), (.fmem_win_cfg_window, 2, 3), (.fmem_win_cfg_role, 2, 0), (.fmem_win_cfg_writable, 2, 1), (.fmem_win_src_src_limit, 2, 0xFFFFFF), (.sched_echo_ctrl_echo_enable, 0, 0)]).dev with queues := ⟨[(3, { run := some ({ run := 5, index := 0, words := [2533274790789122, 0], tStart := 0, pc := 0, regs := [0, 1, 2, 3, 4, 5, 6, 7], prog := [9367487224930631682, 72057594037927936, 72057594037927936], budget := 1000 }) })]⟩ } }).dev.frameCmdResult
        3 (2 : Nat) ≠ 0) ∧
    (({ upState [(.csq_q_cfg_privilege, 3, 0), (.fmem_win_state_state, 2, 0), (.fmem_win_cfg_window, 2, 3), (.fmem_win_cfg_role, 2, 0), (.fmem_win_cfg_writable, 2, 1), (.fmem_win_src_src_limit, 2, 0xFFFFFF), (.sched_echo_ctrl_echo_enable, 0, 0)] with dev := { (upState [(.csq_q_cfg_privilege, 3, 0), (.fmem_win_state_state, 2, 0), (.fmem_win_cfg_window, 2, 3), (.fmem_win_cfg_role, 2, 0), (.fmem_win_cfg_writable, 2, 1), (.fmem_win_src_src_limit, 2, 0xFFFFFF), (.sched_echo_ctrl_echo_enable, 0, 0)]).dev with queues := ⟨[(3, { run := some ({ run := 5, index := 0, words := [2533274790789122, 0], tStart := 0, pc := 0, regs := [0, 1, 2, 3, 4, 5, 6, 7], prog := [9439544818968559618, 72057594037927936, 72057594037927936], budget := 1000 }) })]⟩ } }).dev.executes
        (3 : Fin 512) 0x83 (9439544818968559618 : Nat) (0 : Nat)
        ({ run := 5, index := 0, words := [2533274790789122, 0], tStart := 0, pc := 0, regs := [0, 1, 2, 3, 4, 5, 6, 7], prog := [9439544818968559618, 72057594037927936, 72057594037927936], budget := 1000 }
        : Entry) (2 : Nat) rowFMEM_WIN_STATE (2 : Nat)) ∧
    (({ upState [(.csq_q_cfg_privilege, 3, 0), (.fmem_win_state_state, 2, 0), (.fmem_win_cfg_window, 2, 3), (.fmem_win_cfg_role, 2, 0), (.fmem_win_cfg_writable, 2, 1), (.fmem_win_src_src_limit, 2, 0xFFFFFF), (.sched_echo_ctrl_echo_enable, 0, 0)] with dev := { (upState [(.csq_q_cfg_privilege, 3, 0), (.fmem_win_state_state, 2, 0), (.fmem_win_cfg_window, 2, 3), (.fmem_win_cfg_role, 2, 0), (.fmem_win_cfg_writable, 2, 1), (.fmem_win_src_src_limit, 2, 0xFFFFFF), (.sched_echo_ctrl_echo_enable, 0, 0)]).dev with queues := ⟨[(3, { run := some ({ run := 5, index := 0, words := [2533274790789122, 0], tStart := 0, pc := 0, regs := [0, 1, 2, 3, 4, 5, 6, 7], prog := [9439544818968559618, 72057594037927936, 72057594037927936], budget := 1000 }) })]⟩ } }).dev.opsOpen
        (3 : Fin 512)
        ({ run := 5, index := 0, words := [2533274790789122, 0], tStart := 0, pc := 0, regs := [0, 1, 2, 3, 4, 5, 6, 7], prog := [9439544818968559618, 72057594037927936, 72057594037927936], budget := 1000 }
        : Entry).run < 16) ∧
    (({ upState [(.csq_q_cfg_privilege, 3, 0), (.fmem_win_state_state, 2, 0), (.fmem_win_cfg_window, 2, 3), (.fmem_win_cfg_role, 2, 0), (.fmem_win_cfg_writable, 2, 1), (.fmem_win_src_src_limit, 2, 0xFFFFFF), (.sched_echo_ctrl_echo_enable, 0, 0)] with dev := { (upState [(.csq_q_cfg_privilege, 3, 0), (.fmem_win_state_state, 2, 0), (.fmem_win_cfg_window, 2, 3), (.fmem_win_cfg_role, 2, 0), (.fmem_win_cfg_writable, 2, 1), (.fmem_win_src_src_limit, 2, 0xFFFFFF), (.sched_echo_ctrl_echo_enable, 0, 0)]).dev with queues := ⟨[(3, { run := some ({ run := 5, index := 0, words := [2533274790789122, 0], tStart := 0, pc := 0, regs := [0, 1, 2, 3, 4, 5, 6, 7], prog := [9439544818968559618, 72057594037927936, 72057594037927936], budget := 1000 }) })]⟩ } }).dev.frameCmdResult
        4 (2 : Nat) ≠ 0) ∧
    (({ upState [(.csq_q_cfg_privilege, 3, 0)] with dev := { (upState [(.csq_q_cfg_privilege, 3, 0)]).dev with queues := ⟨[(3, { run := some ({ run := 5, index := 0, words := [2533274790789122, 0], tStart := 0, pc := 0, regs := [0, 1, 2, 3, 4, 5, 6, 7], prog := [9516106012633858050, 72057594037927936, 72057594037927936], budget := 1000 }) })]⟩ } }).dev.executes
        (3 : Fin 512) 0x84 (9516106012633858050 : Nat) (0 : Nat)
        ({ run := 5, index := 0, words := [2533274790789122, 0], tStart := 0, pc := 0, regs := [0, 1, 2, 3, 4, 5, 6, 7], prog := [9516106012633858050, 72057594037927936, 72057594037927936], budget := 1000 }
        : Entry) (2 : Nat) rowFMEM_WIN_STATE (2 : Nat)) ∧
    (({ upState [(.csq_q_cfg_privilege, 3, 0)] with dev := { (upState [(.csq_q_cfg_privilege, 3, 0)]).dev with queues := ⟨[(3, { run := some ({ run := 5, index := 0, words := [2533274790789122, 0], tStart := 0, pc := 0, regs := [0, 1, 2, 3, 4, 5, 6, 7], prog := [10377137966391754754, 72057594037927936, 72057594037927936], budget := 1000 }) })]⟩ } }).dev.executes
        (3 : Fin 512) 0x90 (10377137966391754754 : Nat) (0 : Nat)
        ({ run := 5, index := 0, words := [2533274790789122, 0], tStart := 0, pc := 0, regs := [0, 1, 2, 3, 4, 5, 6, 7], prog := [10377137966391754754, 72057594037927936, 72057594037927936], budget := 1000 }
        : Entry) (2 : Nat) rowDMA_CH_STATUS (2 : Nat)) ∧
    (({ upState [(.csq_q_cfg_privilege, 3, 0)] with dev := { (upState [(.csq_q_cfg_privilege, 3, 0)]).dev with queues := ⟨[(3, { run := some ({ run := 5, index := 0, words := [2533274790789122, 0], tStart := 0, pc := 0, regs := [0, 1, 2, 3, 4, 5, 6, 7], prog := [10377137966391754754, 72057594037927936, 72057594037927936], budget := 1000 }) })]⟩ } }).dev.opsOpen
        (3 : Fin 512)
        ({ run := 5, index := 0, words := [2533274790789122, 0], tStart := 0, pc := 0, regs := [0, 1, 2, 3, 4, 5, 6, 7], prog := [10377137966391754754, 72057594037927936, 72057594037927936], budget := 1000 }
        : Entry).run < 16) ∧
    (({ upState [(.csq_q_cfg_privilege, 3, 0)] with dev := { (upState [(.csq_q_cfg_privilege, 3, 0)]).dev with queues := ⟨[(3, { run := some ({ run := 5, index := 0, words := [2533274790789122, 0], tStart := 0, pc := 0, regs := [0, 1, 2, 3, 4, 5, 6, 7], prog := [10377137966391754754, 72057594037927936, 72057594037927936], budget := 1000 }) })]⟩ } }).dev.qAllowed
        (3 : Fin 512) ocKCL_ADDR
        (({ run := 5, index := 0, words := [2533274790789122, 0], tStart := 0, pc := 0, regs := [0, 1, 2, 3, 4, 5, 6, 7], prog := [10377137966391754754, 72057594037927936, 72057594037927936], budget := 1000 }
        : Entry).reg (wA (10377137966391754754 : Nat)))
        ((({ run := 5, index := 0, words := [2533274790789122, 0], tStart := 0, pc := 0, regs := [0, 1, 2, 3, 4, 5, 6, 7], prog := [10377137966391754754, 72057594037927936, 72057594037927936], budget := 1000 }
        : Entry).reg (wA (10377137966391754754 : Nat))) + 7) false = true ∧
        ({ upState [(.csq_q_cfg_privilege, 3, 0)] with dev := { (upState [(.csq_q_cfg_privilege, 3, 0)]).dev with queues := ⟨[(3, { run := some ({ run := 5, index := 0, words := [2533274790789122, 0], tStart := 0, pc := 0, regs := [0, 1, 2, 3, 4, 5, 6, 7], prog := [10377137966391754754, 72057594037927936, 72057594037927936], budget := 1000 }) })]⟩ } }).dev.chanState
        (2 : Nat) = dcIDLE) ∧
    (({ upState [(.csq_q_cfg_privilege, 3, 0), (.dma_ch_status_state, 2, 1)] with dev := { (upState [(.csq_q_cfg_privilege, 3, 0), (.dma_ch_status_state, 2, 1)]).dev with queues := ⟨[(3, { run := some ({ run := 5, index := 0, words := [2533274790789122, 0], tStart := 0, pc := 0, regs := [0, 1, 2, 3, 4, 5, 6, 7], prog := [10377137966391754754, 72057594037927936, 72057594037927936], budget := 1000 }) })]⟩ } }).dev.executes
        (3 : Fin 512) 0x90 (10377137966391754754 : Nat) (0 : Nat)
        ({ run := 5, index := 0, words := [2533274790789122, 0], tStart := 0, pc := 0, regs := [0, 1, 2, 3, 4, 5, 6, 7], prog := [10377137966391754754, 72057594037927936, 72057594037927936], budget := 1000 }
        : Entry) (2 : Nat) rowDMA_CH_STATUS (2 : Nat)) ∧
    (({ upState [(.csq_q_cfg_privilege, 3, 0), (.dma_ch_status_state, 2, 1)] with dev := { (upState [(.csq_q_cfg_privilege, 3, 0), (.dma_ch_status_state, 2, 1)]).dev with queues := ⟨[(3, { run := some ({ run := 5, index := 0, words := [2533274790789122, 0], tStart := 0, pc := 0, regs := [0, 1, 2, 3, 4, 5, 6, 7], prog := [10377137966391754754, 72057594037927936, 72057594037927936], budget := 1000 }) })]⟩ } }).dev.opsOpen
        (3 : Fin 512)
        ({ run := 5, index := 0, words := [2533274790789122, 0], tStart := 0, pc := 0, regs := [0, 1, 2, 3, 4, 5, 6, 7], prog := [10377137966391754754, 72057594037927936, 72057594037927936], budget := 1000 }
        : Entry).run < 16) ∧
    (({ upState [(.csq_q_cfg_privilege, 3, 0), (.dma_ch_status_state, 2, 1)] with dev := { (upState [(.csq_q_cfg_privilege, 3, 0), (.dma_ch_status_state, 2, 1)]).dev with queues := ⟨[(3, { run := some ({ run := 5, index := 0, words := [2533274790789122, 0], tStart := 0, pc := 0, regs := [0, 1, 2, 3, 4, 5, 6, 7], prog := [10377137966391754754, 72057594037927936, 72057594037927936], budget := 1000 }) })]⟩ } }).dev.qAllowed
        (3 : Fin 512) ocKCL_ADDR
        (({ run := 5, index := 0, words := [2533274790789122, 0], tStart := 0, pc := 0, regs := [0, 1, 2, 3, 4, 5, 6, 7], prog := [10377137966391754754, 72057594037927936, 72057594037927936], budget := 1000 }
        : Entry).reg (wA (10377137966391754754 : Nat)))
        ((({ run := 5, index := 0, words := [2533274790789122, 0], tStart := 0, pc := 0, regs := [0, 1, 2, 3, 4, 5, 6, 7], prog := [10377137966391754754, 72057594037927936, 72057594037927936], budget := 1000 }
        : Entry).reg (wA (10377137966391754754 : Nat))) + 7) false = true ∧
        ({ upState [(.csq_q_cfg_privilege, 3, 0), (.dma_ch_status_state, 2, 1)] with dev := { (upState [(.csq_q_cfg_privilege, 3, 0), (.dma_ch_status_state, 2, 1)]).dev with queues := ⟨[(3, { run := some ({ run := 5, index := 0, words := [2533274790789122, 0], tStart := 0, pc := 0, regs := [0, 1, 2, 3, 4, 5, 6, 7], prog := [10377137966391754754, 72057594037927936, 72057594037927936], budget := 1000 }) })]⟩ } }).dev.chanState
        (2 : Nat) ≠ dcIDLE) ∧
    (({ upState [(.csq_q_cfg_privilege, 3, 0), (.dma_ch_status_state, 2, 1)] with dev := { (upState [(.csq_q_cfg_privilege, 3, 0), (.dma_ch_status_state, 2, 1)]).dev with queues := ⟨[(3, { run := some ({ run := 5, index := 0, words := [2533274790789122, 0], tStart := 0, pc := 0, regs := [0, 1, 2, 3, 4, 5, 6, 7], prog := [10448351135499550722, 72057594037927936, 72057594037927936], budget := 1000 }) })]⟩ } }).dev.executes
        (3 : Fin 512) 0x91 (10448351135499550722 : Nat) (0 : Nat)
        ({ run := 5, index := 0, words := [2533274790789122, 0], tStart := 0, pc := 0, regs := [0, 1, 2, 3, 4, 5, 6, 7], prog := [10448351135499550722, 72057594037927936, 72057594037927936], budget := 1000 }
        : Entry) (2 : Nat) rowDMA_CH_STATUS (2 : Nat)) ∧
    (({ upState [(.csq_q_cfg_privilege, 3, 0), (.dma_ch_status_state, 2, 1)] with dev := { (upState [(.csq_q_cfg_privilege, 3, 0), (.dma_ch_status_state, 2, 1)]).dev with queues := ⟨[(3, { run := some ({ run := 5, index := 0, words := [2533274790789122, 0], tStart := 0, pc := 0, regs := [0, 1, 2, 3, 4, 5, 6, 7], prog := [10448351135499550722, 72057594037927936, 72057594037927936], budget := 1000 }) })]⟩ } }).dev.chanState
        (2 : Nat) = dcRUNNING) ∧
    (({ upState [(.csq_q_cfg_privilege, 3, 0)] with dev := { (upState [(.csq_q_cfg_privilege, 3, 0)]).dev with queues := ⟨[(3, { run := some ({ run := 5, index := 0, words := [2533274790789122, 0], tStart := 0, pc := 0, regs := [0, 1, 2, 3, 4, 5, 6, 7], prog := [10524912329164849154, 72057594037927936, 72057594037927936], budget := 1000 }) })]⟩ } }).dev.executes
        (3 : Fin 512) 0x92 (10524912329164849154 : Nat) (0 : Nat)
        ({ run := 5, index := 0, words := [2533274790789122, 0], tStart := 0, pc := 0, regs := [0, 1, 2, 3, 4, 5, 6, 7], prog := [10524912329164849154, 72057594037927936, 72057594037927936], budget := 1000 }
        : Entry) (2 : Nat) rowDMA_CH_STATUS (2 : Nat)) ∧
    (({ upState [(.csq_q_cfg_privilege, 3, 0)] with dev := { (upState [(.csq_q_cfg_privilege, 3, 0)]).dev with queues := ⟨[(3, { run := some ({ run := 5, index := 0, words := [2533274790789122, 0], tStart := 0, pc := 0, regs := [0, 1, 2, 3, 4, 5, 6, 7], prog := [11530059470998605833, 72057594037927936, 72057594037927936], budget := 1000 }) })]⟩ } }).dev.issues
        (3 : Fin 512) 0xA0 (11530059470998605833 : Nat) (0 : Nat)
        ({ run := 5, index := 0, words := [2533274790789122, 0], tStart := 0, pc := 0, regs := [0, 1, 2, 3, 4, 5, 6, 7], prog := [11530059470998605833, 72057594037927936, 72057594037927936], budget := 1000 }
        : Entry)) ∧
    (({ upState [(.csq_q_cfg_privilege, 3, 0)] with dev := { (upState [(.csq_q_cfg_privilege, 3, 0)]).dev with queues := ⟨[(3, { run := some ({ run := 5, index := 0, words := [2533274790789122, 0], tStart := 0, pc := 0, regs := [0, 1, 2, 3, 4, 5, 6, 7], prog := [11530059470998605833, 72057594037927936, 72057594037927936], budget := 1000 }) })]⟩ } }).dev.mayUse
        (3 : Fin 512) (11530059470998605833 : Nat)
        ({ run := 5, index := 0, words := [2533274790789122, 0], tStart := 0, pc := 0, regs := [0, 1, 2, 3, 4, 5, 6, 7], prog := [11530059470998605833, 72057594037927936, 72057594037927936], budget := 1000 }
        : Entry) (9 : Nat) = true) ∧
    (({ upState [(.csq_q_cfg_privilege, 3, 0)] with dev := { (upState [(.csq_q_cfg_privilege, 3, 0)]).dev with queues := ⟨[(3, { run := some ({ run := 5, index := 0, words := [2533274790789122, 0], tStart := 0, pc := 0, regs := [0, 1, 2, 3, 4, 5, 6, 7], prog := [11530059470998605833, 72057594037927936, 72057594037927936], budget := 1000 }) })]⟩ } }).dev.opsOpen
        (3 : Fin 512)
        ({ run := 5, index := 0, words := [2533274790789122, 0], tStart := 0, pc := 0, regs := [0, 1, 2, 3, 4, 5, 6, 7], prog := [11530059470998605833, 72057594037927936, 72057594037927936], budget := 1000 }
        : Entry).run < 16) ∧
    (({ upState [(.csq_q_cfg_privilege, 3, 0)] with dev := { (upState [(.csq_q_cfg_privilege, 3, 0)]).dev with queues := ⟨[(3, { run := some ({ run := 5, index := 0, words := [2533274790789122, 0], tStart := 0, pc := 0, regs := [0, 1, 2, 3, 4, 5, 6, 7], prog := [11530059470998605833, 72057594037927936, 72057594037927936], budget := 1000 }) })]⟩ } }).dev.progs.getOpt
        (9 : Nat) = none ∧
        ({ upState [(.csq_q_cfg_privilege, 3, 0)] with dev := { (upState [(.csq_q_cfg_privilege, 3, 0)]).dev with queues := ⟨[(3, { run := some ({ run := 5, index := 0, words := [2533274790789122, 0], tStart := 0, pc := 0, regs := [0, 1, 2, 3, 4, 5, 6, 7], prog := [11530059470998605833, 72057594037927936, 72057594037927936], budget := 1000 }) })]⟩ } }).dev.progLoads.getOpt
        (9 : Nat) = none) ∧
    (({ upState [(.csq_q_cfg_privilege, 3, 0)] with dev := { (upState [(.csq_q_cfg_privilege, 3, 0)]).dev with queues := ⟨[(3, { run := some ({ run := 5, index := 0, words := [2533274790789122, 0], tStart := 0, pc := 0, regs := [0, 1, 2, 3, 4, 5, 6, 7], prog := [11530059470998605833, 72057594037927936, 72057594037927936], budget := 1000 }) })]⟩, progs := ⟨[(9, some ({ words := [0], budget := 100, seqs := 1, queue := 3, gen := 0 } : Prog))]⟩ } }).dev.issues
        (3 : Fin 512) 0xA0 (11530059470998605833 : Nat) (0 : Nat)
        ({ run := 5, index := 0, words := [2533274790789122, 0], tStart := 0, pc := 0, regs := [0, 1, 2, 3, 4, 5, 6, 7], prog := [11530059470998605833, 72057594037927936, 72057594037927936], budget := 1000 }
        : Entry)) ∧
    (({ upState [(.csq_q_cfg_privilege, 3, 0)] with dev := { (upState [(.csq_q_cfg_privilege, 3, 0)]).dev with queues := ⟨[(3, { run := some ({ run := 5, index := 0, words := [2533274790789122, 0], tStart := 0, pc := 0, regs := [0, 1, 2, 3, 4, 5, 6, 7], prog := [11530059470998605833, 72057594037927936, 72057594037927936], budget := 1000 }) })]⟩, progs := ⟨[(9, some ({ words := [0], budget := 100, seqs := 1, queue := 3, gen := 0 } : Prog))]⟩ } }).dev.mayUse
        (3 : Fin 512) (11530059470998605833 : Nat)
        ({ run := 5, index := 0, words := [2533274790789122, 0], tStart := 0, pc := 0, regs := [0, 1, 2, 3, 4, 5, 6, 7], prog := [11530059470998605833, 72057594037927936, 72057594037927936], budget := 1000 }
        : Entry) (9 : Nat) = true) ∧
    (({ upState [(.csq_q_cfg_privilege, 3, 0)] with dev := { (upState [(.csq_q_cfg_privilege, 3, 0)]).dev with queues := ⟨[(3, { run := some ({ run := 5, index := 0, words := [2533274790789122, 0], tStart := 0, pc := 0, regs := [0, 1, 2, 3, 4, 5, 6, 7], prog := [11530059470998605833, 72057594037927936, 72057594037927936], budget := 1000 }) })]⟩, progs := ⟨[(9, some ({ words := [0], budget := 100, seqs := 1, queue := 3, gen := 0 } : Prog))]⟩ } }).dev.opsOpen
        (3 : Fin 512)
        ({ run := 5, index := 0, words := [2533274790789122, 0], tStart := 0, pc := 0, regs := [0, 1, 2, 3, 4, 5, 6, 7], prog := [11530059470998605833, 72057594037927936, 72057594037927936], budget := 1000 }
        : Entry).run < 16) ∧
    ((({ upState [(.csq_q_cfg_privilege, 3, 0)] with dev := { (upState [(.csq_q_cfg_privilege, 3, 0)]).dev with queues := ⟨[(3, { run := some ({ run := 5, index := 0, words := [2533274790789122, 0], tStart := 0, pc := 0, regs := [0, 1, 2, 3, 4, 5, 6, 7], prog := [11530059470998605833, 72057594037927936, 72057594037927936], budget := 1000 }) })]⟩, progs := ⟨[(9, some ({ words := [0], budget := 100, seqs := 1, queue := 3, gen := 0 } : Prog))]⟩ } }).dev.progs.getOpt
        (9 : Nat)).isSome = true) ∧
    (({ upState [(.csq_q_cfg_privilege, 3, 0)] with dev := { (upState [(.csq_q_cfg_privilege, 3, 0)]).dev with progLoads := ⟨[(9, some ({ queue := 3, addr := 0, mask := 1 }))]⟩ } }).dev.progLoads.getOpt
        (9 : Fin 4096) = some ({ queue := 3, addr := 0, mask := 1 } : ProgLoad) ∧ (some [4294967396#64, 0#64, 0#64] : Option
        (List Word)) = some ([4294967396#64, 0#64, 0#64] : List Word)) ∧
    (({ upState [(.csq_q_cfg_privilege, 3, 0)] with dev := { (upState [(.csq_q_cfg_privilege, 3, 0)]).dev with progLoads := ⟨[(9, some ({ queue := 3, addr := 0, mask := 1 }))]⟩ } }).dev.progCheck
        ({ queue := 3, addr := 0, mask := 1 } : ProgLoad) (some (([4294967396#64, 0#64, 0#64] : List Word).map (fun (y : Word)
        => y.toNat))) = 0) ∧
    (({ upState [] with dev := { (upState []).dev with progLoads := ⟨[(9, some ({ queue := 3, addr := 0, mask := 1 }))]⟩ } }).dev.progLoads.getOpt
        (9 : Fin 4096) = some ({ queue := 3, addr := 0, mask := 1 } : ProgLoad)) ∧
    (({ upState [] with dev := { (upState []).dev with progLoads := ⟨[(9, some ({ queue := 3, addr := 0, mask := 1 }))]⟩ } }).dev.progCheck
        ({ queue := 3, addr := 0, mask := 1 } : ProgLoad) ((none : Option (List Word)).map (fun (y : List Word) => y.map (fun (z
        : Word) => z.toNat))) ≠ 0) ∧
    (({ upState [(.csq_q_cfg_privilege, 3, 0)] with dev := { (upState [(.csq_q_cfg_privilege, 3, 0)]).dev with queues := ⟨[(3, { run := some ({ run := 5, index := 0, words := [2533274790789122, 0], tStart := 0, pc := 0, regs := [0, 1, 2, 3, 4, 5, 6, 7], prog := [11601272640106397705, 72057594037927936, 72057594037927936], budget := 1000 }) })]⟩, progs := ⟨[(9, some ({ words := [0], budget := 100, seqs := 1, queue := 3, gen := 0 } : Prog))]⟩ } }).dev.issues
        (3 : Fin 512) 0xA1 (11601272640106397705 : Nat) (0 : Nat)
        ({ run := 5, index := 0, words := [2533274790789122, 0], tStart := 0, pc := 0, regs := [0, 1, 2, 3, 4, 5, 6, 7], prog := [11601272640106397705, 72057594037927936, 72057594037927936], budget := 1000 }
        : Entry)) ∧
    (({ upState [(.csq_q_cfg_privilege, 3, 0)] with dev := { (upState [(.csq_q_cfg_privilege, 3, 0)]).dev with queues := ⟨[(3, { run := some ({ run := 5, index := 0, words := [2533274790789122, 0], tStart := 0, pc := 0, regs := [0, 1, 2, 3, 4, 5, 6, 7], prog := [11601272640106397705, 72057594037927936, 72057594037927936], budget := 1000 }) })]⟩, progs := ⟨[(9, some ({ words := [0], budget := 100, seqs := 1, queue := 3, gen := 0 } : Prog))]⟩ } }).dev.mayUse
        (3 : Fin 512) (11601272640106397705 : Nat)
        ({ run := 5, index := 0, words := [2533274790789122, 0], tStart := 0, pc := 0, regs := [0, 1, 2, 3, 4, 5, 6, 7], prog := [11601272640106397705, 72057594037927936, 72057594037927936], budget := 1000 }
        : Entry) (9 : Nat) = true) ∧
    ((({ upState [(.csq_q_cfg_privilege, 3, 0)] with dev := { (upState [(.csq_q_cfg_privilege, 3, 0)]).dev with queues := ⟨[(3, { run := some ({ run := 5, index := 0, words := [2533274790789122, 0], tStart := 0, pc := 0, regs := [0, 1, 2, 3, 4, 5, 6, 7], prog := [11601272640106397705, 72057594037927936, 72057594037927936], budget := 1000 }) })]⟩, progs := ⟨[(9, some ({ words := [0], budget := 100, seqs := 1, queue := 3, gen := 0 } : Prog))]⟩ } }).dev.progs.getOpt
        (9 : Nat)).isSome = true ∧
        (({ upState [(.csq_q_cfg_privilege, 3, 0)] with dev := { (upState [(.csq_q_cfg_privilege, 3, 0)]).dev with queues := ⟨[(3, { run := some ({ run := 5, index := 0, words := [2533274790789122, 0], tStart := 0, pc := 0, regs := [0, 1, 2, 3, 4, 5, 6, 7], prog := [11601272640106397705, 72057594037927936, 72057594037927936], budget := 1000 }) })]⟩, progs := ⟨[(9, some ({ words := [0], budget := 100, seqs := 1, queue := 3, gen := 0 } : Prog))]⟩ } }).dev.charged
        (3 : Fin 512) (11601272640106397705 : Nat)).handleRuns (9 : Nat) = false) ∧
    (({ upState [(.csq_q_cfg_privilege, 3, 0)] with dev := { (upState [(.csq_q_cfg_privilege, 3, 0)]).dev with queues := ⟨[(3, { run := some ({ run := 5, index := 0, words := [2533274790789122, 0], tStart := 0, pc := 0, regs := [0, 1, 2, 3, 4, 5, 6, 7], prog := [11601272640106397705, 72057594037927936, 72057594037927936], budget := 1000 }) })]⟩ } }).dev.issues
        (3 : Fin 512) 0xA1 (11601272640106397705 : Nat) (0 : Nat)
        ({ run := 5, index := 0, words := [2533274790789122, 0], tStart := 0, pc := 0, regs := [0, 1, 2, 3, 4, 5, 6, 7], prog := [11601272640106397705, 72057594037927936, 72057594037927936], budget := 1000 }
        : Entry)) ∧
    (({ upState [(.csq_q_cfg_privilege, 3, 0)] with dev := { (upState [(.csq_q_cfg_privilege, 3, 0)]).dev with queues := ⟨[(3, { run := some ({ run := 5, index := 0, words := [2533274790789122, 0], tStart := 0, pc := 0, regs := [0, 1, 2, 3, 4, 5, 6, 7], prog := [11601272640106397705, 72057594037927936, 72057594037927936], budget := 1000 }) })]⟩ } }).dev.mayUse
        (3 : Fin 512) (11601272640106397705 : Nat)
        ({ run := 5, index := 0, words := [2533274790789122, 0], tStart := 0, pc := 0, regs := [0, 1, 2, 3, 4, 5, 6, 7], prog := [11601272640106397705, 72057594037927936, 72057594037927936], budget := 1000 }
        : Entry) (9 : Nat) = true) ∧
    (({ upState [(.csq_q_cfg_privilege, 3, 0)] with dev := { (upState [(.csq_q_cfg_privilege, 3, 0)]).dev with queues := ⟨[(3, { run := some ({ run := 5, index := 0, words := [2533274790789122, 0], tStart := 0, pc := 0, regs := [0, 1, 2, 3, 4, 5, 6, 7], prog := [11601272640106397705, 72057594037927936, 72057594037927936], budget := 1000 }) })]⟩ } }).dev.progs.getOpt
        (9 : Nat) = none) ∧
    (({ upState [(.csq_q_cfg_privilege, 3, 0)] with dev := { (upState [(.csq_q_cfg_privilege, 3, 0)]).dev with queues := ⟨[(3, { run := some ({ run := 5, index := 0, words := [2533274790789122, 0], tStart := 0, pc := 0, regs := [0, 1, 2, 3, 4, 5, 6, 7], prog := [11601272640106397696, 72057594037927936, 72057594037927936], budget := 1000 }) })]⟩, progs := ⟨[(0, some ({ words := [0], budget := 100, seqs := 1, queue := 3, gen := 0 } : Prog))]⟩ } }).dev.issues
        (3 : Fin 512) 0xA1 (11601272640106397696 : Nat) (0 : Nat)
        ({ run := 5, index := 0, words := [2533274790789122, 0], tStart := 0, pc := 0, regs := [0, 1, 2, 3, 4, 5, 6, 7], prog := [11601272640106397696, 72057594037927936, 72057594037927936], budget := 1000 }
        : Entry)) ∧
    (({ upState [(.csq_q_cfg_privilege, 3, 0)] with dev := { (upState [(.csq_q_cfg_privilege, 3, 0)]).dev with queues := ⟨[(3, { run := some ({ run := 5, index := 0, words := [2533274790789122, 0], tStart := 0, pc := 0, regs := [0, 1, 2, 3, 4, 5, 6, 7], prog := [11601272640106397696, 72057594037927936, 72057594037927936], budget := 1000 }) })]⟩, progs := ⟨[(0, some ({ words := [0], budget := 100, seqs := 1, queue := 3, gen := 0 } : Prog))]⟩ } }).dev.mayUse
        (3 : Fin 512) (11601272640106397696 : Nat)
        ({ run := 5, index := 0, words := [2533274790789122, 0], tStart := 0, pc := 0, regs := [0, 1, 2, 3, 4, 5, 6, 7], prog := [11601272640106397696, 72057594037927936, 72057594037927936], budget := 1000 }
        : Entry) (0 : Nat) = true) ∧
    ((({ upState [(.csq_q_cfg_privilege, 3, 0)] with dev := { (upState [(.csq_q_cfg_privilege, 3, 0)]).dev with queues := ⟨[(3, { run := some ({ run := 5, index := 0, words := [2533274790789122, 0], tStart := 0, pc := 0, regs := [0, 1, 2, 3, 4, 5, 6, 7], prog := [11601272640106397696, 72057594037927936, 72057594037927936], budget := 1000 }) })]⟩, progs := ⟨[(0, some ({ words := [0], budget := 100, seqs := 1, queue := 3, gen := 0 } : Prog))]⟩ } }).dev.progs.getOpt
        (0 : Nat)).isSome = true ∧
        (({ upState [(.csq_q_cfg_privilege, 3, 0)] with dev := { (upState [(.csq_q_cfg_privilege, 3, 0)]).dev with queues := ⟨[(3, { run := some ({ run := 5, index := 0, words := [2533274790789122, 0], tStart := 0, pc := 0, regs := [0, 1, 2, 3, 4, 5, 6, 7], prog := [11601272640106397696, 72057594037927936, 72057594037927936], budget := 1000 }) })]⟩, progs := ⟨[(0, some ({ words := [0], budget := 100, seqs := 1, queue := 3, gen := 0 } : Prog))]⟩ } }).dev.charged
        (3 : Fin 512) (11601272640106397696 : Nat)).handleRuns (0 : Nat) = true) ∧
    (({ upState [(.csq_q_cfg_privilege, 3, 0), (.sys_pd_status_on, 0, 0xFFFBF)] with dev := { (upState [(.csq_q_cfg_privilege, 3, 0), (.sys_pd_status_on, 0, 0xFFFBF)]).dev with queues := ⟨[(3, { run := some ({ run := 5, index := 0, words := [2533274790789122, 0], tStart := 0, pc := 0, regs := [0, 1, 2, 3, 4, 5, 6, 7], prog := [11673330234144325670, 72057594037927936, 72057594037927936], budget := 1000 }) })]⟩ } }).dev.issues
        (3 : Fin 512) 0xA2 (11673330234144325670 : Nat) (0 : Nat)
        ({ run := 5, index := 0, words := [2533274790789122, 0], tStart := 0, pc := 0, regs := [0, 1, 2, 3, 4, 5, 6, 7], prog := [11673330234144325670, 72057594037927936, 72057594037927936], budget := 1000 }
        : Entry)) ∧
    (slice (11673330234144325670 : Nat) 0 5 ≤ 19 ∧ bit (11673330234144325670 : Nat) 5 = true) ∧
    (({ upState [(.csq_q_cfg_privilege, 3, 0), (.sys_pd_status_on, 0, 0xFFFBF)] with dev := { (upState [(.csq_q_cfg_privilege, 3, 0), (.sys_pd_status_on, 0, 0xFFFBF)]).dev with queues := ⟨[(3, { run := some ({ run := 5, index := 0, words := [2533274790789122, 0], tStart := 0, pc := 0, regs := [0, 1, 2, 3, 4, 5, 6, 7], prog := [11673330234144325670, 72057594037927936, 72057594037927936], budget := 1000 }) })]⟩ } }).dev.opsOpen
        (3 : Fin 512)
        ({ run := 5, index := 0, words := [2533274790789122, 0], tStart := 0, pc := 0, regs := [0, 1, 2, 3, 4, 5, 6, 7], prog := [11673330234144325670, 72057594037927936, 72057594037927936], budget := 1000 }
        : Entry).run < 16) ∧
    (({ upState [(.csq_q_cfg_privilege, 3, 0), (.sys_pd_status_on, 0, 0xFFFBF)] with dev := { (upState [(.csq_q_cfg_privilege, 3, 0), (.sys_pd_status_on, 0, 0xFFFBF)]).dev with queues := ⟨[(3, { run := some ({ run := 5, index := 0, words := [2533274790789122, 0], tStart := 0, pc := 0, regs := [0, 1, 2, 3, 4, 5, 6, 7], prog := [11673330234144325670, 72057594037927936, 72057594037927936], budget := 1000 }) })]⟩ } }).dev.pdBlocker
        (slice (11673330234144325670 : Nat) 0 5) true = none ∧
        ({ upState [(.csq_q_cfg_privilege, 3, 0), (.sys_pd_status_on, 0, 0xFFFBF)] with dev := { (upState [(.csq_q_cfg_privilege, 3, 0), (.sys_pd_status_on, 0, 0xFFFBF)]).dev with queues := ⟨[(3, { run := some ({ run := 5, index := 0, words := [2533274790789122, 0], tStart := 0, pc := 0, regs := [0, 1, 2, 3, 4, 5, 6, 7], prog := [11673330234144325670, 72057594037927936, 72057594037927936], budget := 1000 }) })]⟩ } }).dev.pdOn
        (slice (11673330234144325670 : Nat) 0 5) = false) ∧
    (({ upState [(.csq_q_cfg_privilege, 3, 0)] with dev := { (upState [(.csq_q_cfg_privilege, 3, 0)]).dev with queues := ⟨[(3, { run := some ({ run := 5, index := 0, words := [2533274790789122, 0], tStart := 0, pc := 0, regs := [0, 1, 2, 3, 4, 5, 6, 7], prog := [11673330234144325664, 72057594037927936, 72057594037927936], budget := 1000 }) })]⟩ } }).dev.issues
        (3 : Fin 512) 0xA2 (11673330234144325664 : Nat) (0 : Nat)
        ({ run := 5, index := 0, words := [2533274790789122, 0], tStart := 0, pc := 0, regs := [0, 1, 2, 3, 4, 5, 6, 7], prog := [11673330234144325664, 72057594037927936, 72057594037927936], budget := 1000 }
        : Entry)) ∧
    (slice (11673330234144325664 : Nat) 0 5 ≤ 19 ∧ bit (11673330234144325664 : Nat) 5 = true) ∧
    (({ upState [(.csq_q_cfg_privilege, 3, 0)] with dev := { (upState [(.csq_q_cfg_privilege, 3, 0)]).dev with queues := ⟨[(3, { run := some ({ run := 5, index := 0, words := [2533274790789122, 0], tStart := 0, pc := 0, regs := [0, 1, 2, 3, 4, 5, 6, 7], prog := [11673330234144325664, 72057594037927936, 72057594037927936], budget := 1000 }) })]⟩ } }).dev.opsOpen
        (3 : Fin 512)
        ({ run := 5, index := 0, words := [2533274790789122, 0], tStart := 0, pc := 0, regs := [0, 1, 2, 3, 4, 5, 6, 7], prog := [11673330234144325664, 72057594037927936, 72057594037927936], budget := 1000 }
        : Entry).run < 16) ∧
    (({ upState [(.csq_q_cfg_privilege, 3, 0)] with dev := { (upState [(.csq_q_cfg_privilege, 3, 0)]).dev with queues := ⟨[(3, { run := some ({ run := 5, index := 0, words := [2533274790789122, 0], tStart := 0, pc := 0, regs := [0, 1, 2, 3, 4, 5, 6, 7], prog := [11673330234144325664, 72057594037927936, 72057594037927936], budget := 1000 }) })]⟩ } }).dev.pdBlocker
        (slice (11673330234144325664 : Nat) 0 5) true = some (0x106 : Nat)) := by
  refine ⟨?_, ?_, ?_, ?_, ?_, ?_, ?_, ?_, ?_, ?_, ?_, ?_, ?_, ?_, ?_, ?_, ?_, ?_, ?_, ?_, ?_, ?_, ?_, ?_, ?_, ?_, ?_, ?_, ?_,
      ?_, ?_, ?_, ?_, ?_, ?_, ?_, ?_, ?_, ?_, ?_, ?_, ?_, ?_, ?_, ?_, ?_, ?_, ?_, ?_, ?_, ?_, ?_, ?_, ?_, ?_, ?_, ?_, ?_, ?_,
      ?_, ?_, ?_, ?_, ?_, ?_, ?_, ?_, ?_, ?_, ?_, ?_, ?_, ?_, ?_, ?_, ?_, ?_, ?_⟩ <;>
    decide +kernel

/-- States and operands that meet the premises of `Obligations.QueuesAndEntries`, clause by clause. -/
theorem witness_QueuesAndEntries :
    ((.head 3 : WatchLine) = .head (3 : Fin 512) ∧ ((upState [(.csq_q_cfg_enable, 3, 1), (.csq_q_cfg_privilege, 3, 0)])).dev.qEn
        (3 : Fin 512) = true ∧ (((upState [(.csq_q_cfg_enable, 3, 1), (.csq_q_cfg_privilege, 3, 0)])).dev.queue (3 : Fin
        512)).buf.length < 8) ∧
    ((.crHead 3 : WatchLine) = .crHead (3 : Fin 512) ∧ ((upState [(.csq_q_cfg_enable, 3, 1), (.csq_q_cfg_privilege, 3,
        0)])).dev.qEn (3 : Fin 512) = true) ∧
    ((.head 3 : WatchLine) = .head (3 : Fin 512) ∧
        ({ upState [(.csq_q_cfg_enable, 3, 1), (.csq_q_cfg_privilege, 3, 0), (.csq_q_status_exp_phase, 3, 1), (.csq_q_cfg_size_log2, 3, 6)] with dev := { (upState [(.csq_q_cfg_enable, 3, 1), (.csq_q_cfg_privilege, 3, 0), (.csq_q_status_exp_phase, 3, 1), (.csq_q_cfg_size_log2, 3, 6)]).dev with reads := [{ purpose := .head 3, req := 0x1003, addr := 0, ext := true }] } }).dev.takeRead
        (.head (3 : Fin 512)) = some
        ({ (upState [(.csq_q_cfg_enable, 3, 1), (.csq_q_cfg_privilege, 3, 0), (.csq_q_status_exp_phase, 3, 1), (.csq_q_cfg_size_log2, 3, 6)]).dev with reads := [] }
        : Dev) ∧
        ({ upState [(.csq_q_cfg_enable, 3, 1), (.csq_q_cfg_privilege, 3, 0), (.csq_q_status_exp_phase, 3, 1), (.csq_q_cfg_size_log2, 3, 6)] with dev := { (upState [(.csq_q_cfg_enable, 3, 1), (.csq_q_cfg_privilege, 3, 0), (.csq_q_status_exp_phase, 3, 1), (.csq_q_cfg_size_log2, 3, 6)]).dev with reads := [{ purpose := .head 3, req := 0x1003, addr := 0, ext := true }] } }).dev.flag
        .csq_q_cfg_loc (3 : Fin 512) = false) ∧
    ((some #v[1, 0, 0, 0, 0, 0, 0, 0] : Option (Vector Word 8)) = some (#v[1, 0, 0, 0, 0, 0, 0, 0] : Vector Word 8) ∧
        ({ upState [(.csq_q_cfg_enable, 3, 1), (.csq_q_cfg_privilege, 3, 0), (.csq_q_status_exp_phase, 3, 1), (.csq_q_cfg_size_log2, 3, 6)] with dev := { (upState [(.csq_q_cfg_enable, 3, 1), (.csq_q_cfg_privilege, 3, 0), (.csq_q_status_exp_phase, 3, 1), (.csq_q_cfg_size_log2, 3, 6)]).dev with reads := [{ purpose := .head 3, req := 0x1003, addr := 0, ext := true }] } }).dev.qEn
        (3 : Fin 512) = true ∧
        (({ upState [(.csq_q_cfg_enable, 3, 1), (.csq_q_cfg_privilege, 3, 0), (.csq_q_status_exp_phase, 3, 1), (.csq_q_cfg_size_log2, 3, 6)] with dev := { (upState [(.csq_q_cfg_enable, 3, 1), (.csq_q_cfg_privilege, 3, 0), (.csq_q_status_exp_phase, 3, 1), (.csq_q_cfg_size_log2, 3, 6)]).dev with reads := [{ purpose := .head 3, req := 0x1003, addr := 0, ext := true }] } }).dev.queue
        (3 : Fin 512)).buf.length < 8) ∧
    (((#v[1, 0, 0, 0, 0, 0, 0, 0] : Vector Word 8).toList.map (fun (y : Word) => y.toNat)).getD 0 0 % 2 =
        ({ upState [(.csq_q_cfg_enable, 3, 1), (.csq_q_cfg_privilege, 3, 0), (.csq_q_status_exp_phase, 3, 1), (.csq_q_cfg_size_log2, 3, 6)] with dev := { (upState [(.csq_q_cfg_enable, 3, 1), (.csq_q_cfg_privilege, 3, 0), (.csq_q_status_exp_phase, 3, 1), (.csq_q_cfg_size_log2, 3, 6)]).dev with reads := [{ purpose := .head 3, req := 0x1003, addr := 0, ext := true }] } }).dev.get
        .csq_q_status_exp_phase (3 : Fin 512)) ∧
    ((.head 3 : WatchLine) = .head (3 : Fin 512) ∧
        ({ upState [(.csq_q_cfg_enable, 3, 1), (.csq_q_cfg_privilege, 3, 0), (.csq_q_status_exp_phase, 3, 0)] with dev := { (upState [(.csq_q_cfg_enable, 3, 1), (.csq_q_cfg_privilege, 3, 0), (.csq_q_status_exp_phase, 3, 0)]).dev with reads := [{ purpose := .head 3, req := 0x1003, addr := 0, ext := true }] } }).dev.takeRead
        (.head (3 : Fin 512)) = some
        ({ (upState [(.csq_q_cfg_enable, 3, 1), (.csq_q_cfg_privilege, 3, 0), (.csq_q_status_exp_phase, 3, 0)]).dev with reads := [] }
        : Dev) ∧
        ({ upState [(.csq_q_cfg_enable, 3, 1), (.csq_q_cfg_privilege, 3, 0), (.csq_q_status_exp_phase, 3, 0)] with dev := { (upState [(.csq_q_cfg_enable, 3, 1), (.csq_q_cfg_privilege, 3, 0), (.csq_q_status_exp_phase, 3, 0)]).dev with reads := [{ purpose := .head 3, req := 0x1003, addr := 0, ext := true }] } }).dev.flag
        .csq_q_cfg_loc (3 : Fin 512) = false) ∧
    ((some #v[1, 0, 0, 0, 0, 0, 0, 0] : Option (Vector Word 8)) = some (#v[1, 0, 0, 0, 0, 0, 0, 0] : Vector Word 8) ∧ ((#v[1, 0,
        0, 0, 0, 0, 0, 0] : Vector Word 8).toList.map (fun (y : Word) => y.toNat)).getD 0 0 % 2 ≠
        ({ upState [(.csq_q_cfg_enable, 3, 1), (.csq_q_cfg_privilege, 3, 0), (.csq_q_status_exp_phase, 3, 0)] with dev := { (upState [(.csq_q_cfg_enable, 3, 1), (.csq_q_cfg_privilege, 3, 0), (.csq_q_status_exp_phase, 3, 0)]).dev with reads := [{ purpose := .head 3, req := 0x1003, addr := 0, ext := true }] } }).dev.get
        .csq_q_status_exp_phase (3 : Fin 512)) ∧
    ((.head 3 : WatchLine) = .head (3 : Fin 512) ∧
        ({ upState [(.csq_q_cfg_enable, 3, 1), (.csq_q_cfg_privilege, 3, 0)] with dev := { (upState [(.csq_q_cfg_enable, 3, 1), (.csq_q_cfg_privilege, 3, 0)]).dev with reads := [{ purpose := .head 3, req := 0x1003, addr := 0, ext := true }] } }).dev.takeRead
        (.head (3 : Fin 512)) = some
        ({ (upState [(.csq_q_cfg_enable, 3, 1), (.csq_q_cfg_privilege, 3, 0)]).dev with reads := [] } : Dev) ∧
        ({ upState [(.csq_q_cfg_enable, 3, 1), (.csq_q_cfg_privilege, 3, 0)] with dev := { (upState [(.csq_q_cfg_enable, 3, 1), (.csq_q_cfg_privilege, 3, 0)]).dev with reads := [{ purpose := .head 3, req := 0x1003, addr := 0, ext := true }] } }).dev.flag
        .csq_q_cfg_loc (3 : Fin 512) = false) ∧
    ((none : Option (Vector Word 8)) = none) ∧
    ((.crHead 3 : WatchLine) = .crHead (3 : Fin 512) ∧
        ({ upState [(.csq_q_cfg_enable, 3, 1), (.csq_q_cfg_privilege, 3, 0), (.csq_q_cr_head_addr_cr_head_addr, 3, 8)] with dev := { (upState [(.csq_q_cfg_enable, 3, 1), (.csq_q_cfg_privilege, 3, 0), (.csq_q_cr_head_addr_cr_head_addr, 3, 8)]).dev with reads := [{ purpose := .crHead 3, req := 0x1003, addr := 8, ext := true }] } }).dev.takeRead
        (.crHead (3 : Fin 512)) = some
        ({ (upState [(.csq_q_cfg_enable, 3, 1), (.csq_q_cfg_privilege, 3, 0), (.csq_q_cr_head_addr_cr_head_addr, 3, 8)]).dev with reads := [] }
        : Dev) ∧
        ({ upState [(.csq_q_cfg_enable, 3, 1), (.csq_q_cfg_privilege, 3, 0), (.csq_q_cr_head_addr_cr_head_addr, 3, 8)] with dev := { (upState [(.csq_q_cfg_enable, 3, 1), (.csq_q_cfg_privilege, 3, 0), (.csq_q_cr_head_addr_cr_head_addr, 3, 8)]).dev with reads := [{ purpose := .crHead 3, req := 0x1003, addr := 8, ext := true }] } }).dev.flag
        .csq_q_cfg_cr_loc (3 : Fin 512) = false) ∧
    ((some #v[0, 4, 0, 0, 0, 0, 0, 0] : Option (Vector Word 8)) = some (#v[0, 4, 0, 0, 0, 0, 0, 0] : Vector Word 8)) ∧
    (({ upState [(.csq_q_cfg_enable, 3, 1), (.csq_q_cfg_privilege, 3, 0)] with dev := { (upState [(.csq_q_cfg_enable, 3, 1), (.csq_q_cfg_privilege, 3, 0)]).dev with queues := ⟨[(3, { buf := [(5, [1, 0, 0, 0, 0, 0, 0, 0])] })]⟩ } }).dev.qHead
        (3 : Fin 512)
        (({ upState [(.csq_q_cfg_enable, 3, 1), (.csq_q_cfg_privilege, 3, 0)] with dev := { (upState [(.csq_q_cfg_enable, 3, 1), (.csq_q_cfg_privilege, 3, 0)]).dev with queues := ⟨[(3, { buf := [(5, [1, 0, 0, 0, 0, 0, 0, 0])] })]⟩ } }).dev.queue
        (3 : Fin 512)) = some ((5 : Nat), ([1, 0, 0, 0, 0, 0, 0, 0] : List Nat))) ∧
    (entBad (([1, 0, 0, 0, 0, 0, 0, 0] : List Nat).getD 0 0) = false ∧
        ({ upState [(.csq_q_cfg_enable, 3, 1), (.csq_q_cfg_privilege, 3, 0)] with dev := { (upState [(.csq_q_cfg_enable, 3, 1), (.csq_q_cfg_privilege, 3, 0)]).dev with queues := ⟨[(3, { buf := [(5, [1, 0, 0, 0, 0, 0, 0, 0])] })]⟩ } }).dev.entTokenBad
        (3 : Fin 512) (([1, 0, 0, 0, 0, 0, 0, 0] : List Nat).getD 0 0) = none ∧
        ({ upState [(.csq_q_cfg_enable, 3, 1), (.csq_q_cfg_privilege, 3, 0)] with dev := { (upState [(.csq_q_cfg_enable, 3, 1), (.csq_q_cfg_privilege, 3, 0)]).dev with queues := ⟨[(3, { buf := [(5, [1, 0, 0, 0, 0, 0, 0, 0])] })]⟩ } }).dev.fallbackOn
        = false ∧
        ({ upState [(.csq_q_cfg_enable, 3, 1), (.csq_q_cfg_privilege, 3, 0)] with dev := { (upState [(.csq_q_cfg_enable, 3, 1), (.csq_q_cfg_privilege, 3, 0)]).dev with queues := ⟨[(3, { buf := [(5, [1, 0, 0, 0, 0, 0, 0, 0])] })]⟩ } }).dev.seqPick
        (({ upState [(.csq_q_cfg_enable, 3, 1), (.csq_q_cfg_privilege, 3, 0)] with dev := { (upState [(.csq_q_cfg_enable, 3, 1), (.csq_q_cfg_privilege, 3, 0)]).dev with queues := ⟨[(3, { buf := [(5, [1, 0, 0, 0, 0, 0, 0, 0])] })]⟩ } }).dev.qSeq
        (3 : Fin 512)) = some (3 : Fin 512).val) ∧
    (entKind (([1, 0, 0, 0, 0, 0, 0, 0] : List Nat).getD 0 0) = 0) ∧
    (({ upState [(.csq_q_cfg_enable, 3, 1), (.csq_q_cfg_privilege, 3, 0)] with dev := { (upState [(.csq_q_cfg_enable, 3, 1), (.csq_q_cfg_privilege, 3, 0)]).dev with queues := ⟨[(3, { buf := [(5, [7, 0, 0, 0, 0, 0, 0, 0])] })]⟩ } }).dev.qHead
        (3 : Fin 512)
        (({ upState [(.csq_q_cfg_enable, 3, 1), (.csq_q_cfg_privilege, 3, 0)] with dev := { (upState [(.csq_q_cfg_enable, 3, 1), (.csq_q_cfg_privilege, 3, 0)]).dev with queues := ⟨[(3, { buf := [(5, [7, 0, 0, 0, 0, 0, 0, 0])] })]⟩ } }).dev.queue
        (3 : Fin 512)) = some ((5 : Nat), ([7, 0, 0, 0, 0, 0, 0, 0] : List Nat))) ∧
    (entBad (([7, 0, 0, 0, 0, 0, 0, 0] : List Nat).getD 0 0) = false ∧
        ({ upState [(.csq_q_cfg_enable, 3, 1), (.csq_q_cfg_privilege, 3, 0)] with dev := { (upState [(.csq_q_cfg_enable, 3, 1), (.csq_q_cfg_privilege, 3, 0)]).dev with queues := ⟨[(3, { buf := [(5, [7, 0, 0, 0, 0, 0, 0, 0])] })]⟩ } }).dev.entTokenBad
        (3 : Fin 512) (([7, 0, 0, 0, 0, 0, 0, 0] : List Nat).getD 0 0) = none ∧
        ({ upState [(.csq_q_cfg_enable, 3, 1), (.csq_q_cfg_privilege, 3, 0)] with dev := { (upState [(.csq_q_cfg_enable, 3, 1), (.csq_q_cfg_privilege, 3, 0)]).dev with queues := ⟨[(3, { buf := [(5, [7, 0, 0, 0, 0, 0, 0, 0])] })]⟩ } }).dev.fallbackOn
        = false ∧
        ({ upState [(.csq_q_cfg_enable, 3, 1), (.csq_q_cfg_privilege, 3, 0)] with dev := { (upState [(.csq_q_cfg_enable, 3, 1), (.csq_q_cfg_privilege, 3, 0)]).dev with queues := ⟨[(3, { buf := [(5, [7, 0, 0, 0, 0, 0, 0, 0])] })]⟩ } }).dev.seqPick
        (({ upState [(.csq_q_cfg_enable, 3, 1), (.csq_q_cfg_privilege, 3, 0)] with dev := { (upState [(.csq_q_cfg_enable, 3, 1), (.csq_q_cfg_privilege, 3, 0)]).dev with queues := ⟨[(3, { buf := [(5, [7, 0, 0, 0, 0, 0, 0, 0])] })]⟩ } }).dev.qSeq
        (3 : Fin 512)) = some (3 : Fin 512).val) ∧
    (entKind (([7, 0, 0, 0, 0, 0, 0, 0] : List Nat).getD 0 0) = 3) ∧
    (({ upState [(.csq_q_cfg_enable, 3, 1), (.csq_q_cfg_privilege, 3, 0), (.csq_q_cfg_inline_budget, 3, 100)] with dev := { (upState [(.csq_q_cfg_enable, 3, 1), (.csq_q_cfg_privilege, 3, 0), (.csq_q_cfg_inline_budget, 3, 100)]).dev with queues := ⟨[(3, { buf := [(5, [37, 0, 72057594037927936, 72057594037927936, 0, 0, 0, 0])] })]⟩ } }).dev.qHead
        (3 : Fin 512)
        (({ upState [(.csq_q_cfg_enable, 3, 1), (.csq_q_cfg_privilege, 3, 0), (.csq_q_cfg_inline_budget, 3, 100)] with dev := { (upState [(.csq_q_cfg_enable, 3, 1), (.csq_q_cfg_privilege, 3, 0), (.csq_q_cfg_inline_budget, 3, 100)]).dev with queues := ⟨[(3, { buf := [(5, [37, 0, 72057594037927936, 72057594037927936, 0, 0, 0, 0])] })]⟩ } }).dev.queue
        (3 : Fin 512)) = some ((5 : Nat), ([37, 0, 72057594037927936, 72057594037927936, 0, 0, 0, 0] : List Nat))) ∧
    (entBad (([37, 0, 72057594037927936, 72057594037927936, 0, 0, 0, 0] : List Nat).getD 0 0) = false ∧
        ({ upState [(.csq_q_cfg_enable, 3, 1), (.csq_q_cfg_privilege, 3, 0), (.csq_q_cfg_inline_budget, 3, 100)] with dev := { (upState [(.csq_q_cfg_enable, 3, 1), (.csq_q_cfg_privilege, 3, 0), (.csq_q_cfg_inline_budget, 3, 100)]).dev with queues := ⟨[(3, { buf := [(5, [37, 0, 72057594037927936, 72057594037927936, 0, 0, 0, 0])] })]⟩ } }).dev.entTokenBad
        (3 : Fin 512) (([37, 0, 72057594037927936, 72057594037927936, 0, 0, 0, 0] : List Nat).getD 0 0) = none ∧
        ({ upState [(.csq_q_cfg_enable, 3, 1), (.csq_q_cfg_privilege, 3, 0), (.csq_q_cfg_inline_budget, 3, 100)] with dev := { (upState [(.csq_q_cfg_enable, 3, 1), (.csq_q_cfg_privilege, 3, 0), (.csq_q_cfg_inline_budget, 3, 100)]).dev with queues := ⟨[(3, { buf := [(5, [37, 0, 72057594037927936, 72057594037927936, 0, 0, 0, 0])] })]⟩ } }).dev.fallbackOn
        = false ∧
        ({ upState [(.csq_q_cfg_enable, 3, 1), (.csq_q_cfg_privilege, 3, 0), (.csq_q_cfg_inline_budget, 3, 100)] with dev := { (upState [(.csq_q_cfg_enable, 3, 1), (.csq_q_cfg_privilege, 3, 0), (.csq_q_cfg_inline_budget, 3, 100)]).dev with queues := ⟨[(3, { buf := [(5, [37, 0, 72057594037927936, 72057594037927936, 0, 0, 0, 0])] })]⟩ } }).dev.seqPick
        (({ upState [(.csq_q_cfg_enable, 3, 1), (.csq_q_cfg_privilege, 3, 0), (.csq_q_cfg_inline_budget, 3, 100)] with dev := { (upState [(.csq_q_cfg_enable, 3, 1), (.csq_q_cfg_privilege, 3, 0), (.csq_q_cfg_inline_budget, 3, 100)]).dev with queues := ⟨[(3, { buf := [(5, [37, 0, 72057594037927936, 72057594037927936, 0, 0, 0, 0])] })]⟩ } }).dev.qSeq
        (3 : Fin 512)) = some (3 : Fin 512).val) ∧
    (entKind (([37, 0, 72057594037927936, 72057594037927936, 0, 0, 0, 0] : List Nat).getD 0 0) = 2 ∧ proofPass ((([37, 0,
        72057594037927936, 72057594037927936, 0, 0, 0, 0] : List Nat).drop 2).take (entOperand (([37, 0, 72057594037927936,
        72057594037927936, 0, 0, 0, 0] : List Nat).getD 0 0)))
        (({ upState [(.csq_q_cfg_enable, 3, 1), (.csq_q_cfg_privilege, 3, 0), (.csq_q_cfg_inline_budget, 3, 100)] with dev := { (upState [(.csq_q_cfg_enable, 3, 1), (.csq_q_cfg_privilege, 3, 0), (.csq_q_cfg_inline_budget, 3, 100)]).dev with queues := ⟨[(3, { buf := [(5, [37, 0, 72057594037927936, 72057594037927936, 0, 0, 0, 0])] })]⟩ } }).dev.qPriv
        (3 : Fin 512))
        (({ upState [(.csq_q_cfg_enable, 3, 1), (.csq_q_cfg_privilege, 3, 0), (.csq_q_cfg_inline_budget, 3, 100)] with dev := { (upState [(.csq_q_cfg_enable, 3, 1), (.csq_q_cfg_privilege, 3, 0), (.csq_q_cfg_inline_budget, 3, 100)]).dev with queues := ⟨[(3, { buf := [(5, [37, 0, 72057594037927936, 72057594037927936, 0, 0, 0, 0])] })]⟩ } }).dev.qMap
        (3 : Fin 512))
        (({ upState [(.csq_q_cfg_enable, 3, 1), (.csq_q_cfg_privilege, 3, 0), (.csq_q_cfg_inline_budget, 3, 100)] with dev := { (upState [(.csq_q_cfg_enable, 3, 1), (.csq_q_cfg_privilege, 3, 0), (.csq_q_cfg_inline_budget, 3, 100)]).dev with queues := ⟨[(3, { buf := [(5, [37, 0, 72057594037927936, 72057594037927936, 0, 0, 0, 0])] })]⟩ } }).dev.get
        .csq_q_cfg_inline_budget (3 : Fin 512)) = none) ∧
    (({ upState [(.csq_q_cfg_enable, 3, 1), (.csq_q_cfg_privilege, 3, 0)] with dev := { (upState [(.csq_q_cfg_enable, 3, 1), (.csq_q_cfg_privilege, 3, 0)]).dev with queues := ⟨[(3, { buf := [(5, [147, 0, 0, 0, 0, 0, 0, 0])] })]⟩, progs := ⟨[(9, some ({ words := [0], budget := 100, seqs := 8, queue := 3, gen := 0 } : Prog))]⟩ } }).dev.qHead
        (3 : Fin 512)
        (({ upState [(.csq_q_cfg_enable, 3, 1), (.csq_q_cfg_privilege, 3, 0)] with dev := { (upState [(.csq_q_cfg_enable, 3, 1), (.csq_q_cfg_privilege, 3, 0)]).dev with queues := ⟨[(3, { buf := [(5, [147, 0, 0, 0, 0, 0, 0, 0])] })]⟩, progs := ⟨[(9, some ({ words := [0], budget := 100, seqs := 8, queue := 3, gen := 0 } : Prog))]⟩ } }).dev.queue
        (3 : Fin 512)) = some ((5 : Nat), ([147, 0, 0, 0, 0, 0, 0, 0] : List Nat))) ∧
    (entBad (([147, 0, 0, 0, 0, 0, 0, 0] : List Nat).getD 0 0) = false ∧
        ({ upState [(.csq_q_cfg_enable, 3, 1), (.csq_q_cfg_privilege, 3, 0)] with dev := { (upState [(.csq_q_cfg_enable, 3, 1), (.csq_q_cfg_privilege, 3, 0)]).dev with queues := ⟨[(3, { buf := [(5, [147, 0, 0, 0, 0, 0, 0, 0])] })]⟩, progs := ⟨[(9, some ({ words := [0], budget := 100, seqs := 8, queue := 3, gen := 0 } : Prog))]⟩ } }).dev.entTokenBad
        (3 : Fin 512) (([147, 0, 0, 0, 0, 0, 0, 0] : List Nat).getD 0 0) = none ∧
        ({ upState [(.csq_q_cfg_enable, 3, 1), (.csq_q_cfg_privilege, 3, 0)] with dev := { (upState [(.csq_q_cfg_enable, 3, 1), (.csq_q_cfg_privilege, 3, 0)]).dev with queues := ⟨[(3, { buf := [(5, [147, 0, 0, 0, 0, 0, 0, 0])] })]⟩, progs := ⟨[(9, some ({ words := [0], budget := 100, seqs := 8, queue := 3, gen := 0 } : Prog))]⟩ } }).dev.fallbackOn
        = false ∧
        ({ upState [(.csq_q_cfg_enable, 3, 1), (.csq_q_cfg_privilege, 3, 0)] with dev := { (upState [(.csq_q_cfg_enable, 3, 1), (.csq_q_cfg_privilege, 3, 0)]).dev with queues := ⟨[(3, { buf := [(5, [147, 0, 0, 0, 0, 0, 0, 0])] })]⟩, progs := ⟨[(9, some ({ words := [0], budget := 100, seqs := 8, queue := 3, gen := 0 } : Prog))]⟩ } }).dev.seqPick
        (({ upState [(.csq_q_cfg_enable, 3, 1), (.csq_q_cfg_privilege, 3, 0)] with dev := { (upState [(.csq_q_cfg_enable, 3, 1), (.csq_q_cfg_privilege, 3, 0)]).dev with queues := ⟨[(3, { buf := [(5, [147, 0, 0, 0, 0, 0, 0, 0])] })]⟩, progs := ⟨[(9, some ({ words := [0], budget := 100, seqs := 8, queue := 3, gen := 0 } : Prog))]⟩ } }).dev.qSeq
        (3 : Fin 512)) = some (3 : Fin 512).val) ∧
    (entKind (([147, 0, 0, 0, 0, 0, 0, 0] : List Nat).getD 0 0) = 1 ∧
        ({ upState [(.csq_q_cfg_enable, 3, 1), (.csq_q_cfg_privilege, 3, 0)] with dev := { (upState [(.csq_q_cfg_enable, 3, 1), (.csq_q_cfg_privilege, 3, 0)]).dev with queues := ⟨[(3, { buf := [(5, [147, 0, 0, 0, 0, 0, 0, 0])] })]⟩, progs := ⟨[(9, some ({ words := [0], budget := 100, seqs := 8, queue := 3, gen := 0 } : Prog))]⟩ } }).dev.qAllowed
        (3 : Fin 512) ocHANDLE (entOperand (([147, 0, 0, 0, 0, 0, 0, 0] : List Nat).getD 0 0)) (entOperand (([147, 0, 0, 0, 0,
        0, 0, 0] : List Nat).getD 0 0)) true = true) ∧
    (({ upState [(.csq_q_cfg_enable, 3, 1), (.csq_q_cfg_privilege, 3, 0)] with dev := { (upState [(.csq_q_cfg_enable, 3, 1), (.csq_q_cfg_privilege, 3, 0)]).dev with queues := ⟨[(3, { buf := [(5, [147, 0, 0, 0, 0, 0, 0, 0])] })]⟩, progs := ⟨[(9, some ({ words := [0], budget := 100, seqs := 8, queue := 3, gen := 0 } : Prog))]⟩ } }).dev.progs.getOpt
        (entOperand (([147, 0, 0, 0, 0, 0, 0, 0] : List Nat).getD 0 0)) = some
        (({ words := [0], budget := 100, seqs := 8, queue := 3, gen := 0 } : Prog) : Prog) ∧ bit
        (({ words := [0], budget := 100, seqs := 8, queue := 3, gen := 0 } : Prog) : Prog).seqs
        (({ upState [(.csq_q_cfg_enable, 3, 1), (.csq_q_cfg_privilege, 3, 0)] with dev := { (upState [(.csq_q_cfg_enable, 3, 1), (.csq_q_cfg_privilege, 3, 0)]).dev with queues := ⟨[(3, { buf := [(5, [147, 0, 0, 0, 0, 0, 0, 0])] })]⟩, progs := ⟨[(9, some ({ words := [0], budget := 100, seqs := 8, queue := 3, gen := 0 } : Prog))]⟩ } }).dev.qSeq
        (3 : Fin 512)) = true ∧ (({ words := [0], budget := 100, seqs := 8, queue := 3, gen := 0 } : Prog) : Prog).queue = (3 :
        Fin 512) ∧ (({ words := [0], budget := 100, seqs := 8, queue := 3, gen := 0 } : Prog) : Prog).gen =
        ({ upState [(.csq_q_cfg_enable, 3, 1), (.csq_q_cfg_privilege, 3, 0)] with dev := { (upState [(.csq_q_cfg_enable, 3, 1), (.csq_q_cfg_privilege, 3, 0)]).dev with queues := ⟨[(3, { buf := [(5, [147, 0, 0, 0, 0, 0, 0, 0])] })]⟩, progs := ⟨[(9, some ({ words := [0], budget := 100, seqs := 8, queue := 3, gen := 0 } : Prog))]⟩ } }).dev.get
        .csq_q_status_map_gen (3 : Fin 512)) ∧
    (({ upState [(.csq_q_cfg_enable, 3, 1), (.csq_q_cfg_privilege, 3, 0)] with dev := { (upState [(.csq_q_cfg_enable, 3, 1), (.csq_q_cfg_privilege, 3, 0)]).dev with queues := ⟨[(3, { buf := [(5, [81, 0, 0, 0, 0, 0, 0, 0])] })]⟩ } }).dev.qHead
        (3 : Fin 512)
        (({ upState [(.csq_q_cfg_enable, 3, 1), (.csq_q_cfg_privilege, 3, 0)] with dev := { (upState [(.csq_q_cfg_enable, 3, 1), (.csq_q_cfg_privilege, 3, 0)]).dev with queues := ⟨[(3, { buf := [(5, [81, 0, 0, 0, 0, 0, 0, 0])] })]⟩ } }).dev.queue
        (3 : Fin 512)) = some ((5 : Nat), ([81, 0, 0, 0, 0, 0, 0, 0] : List Nat))) ∧
    (entBad (([81, 0, 0, 0, 0, 0, 0, 0] : List Nat).getD 0 0) = true) ∧
    (({ upState [(.csq_q_cfg_enable, 3, 1), (.csq_q_cfg_privilege, 3, 0), (.csq_q_cfg_inline_budget, 3, 1)] with dev := { (upState [(.csq_q_cfg_enable, 3, 1), (.csq_q_cfg_privilege, 3, 0), (.csq_q_cfg_inline_budget, 3, 1)]).dev with queues := ⟨[(3, { buf := [(5, [37, 0, 72057594037927936, 72057594037927936, 0, 0, 0, 0])] })]⟩ } }).dev.qHead
        (3 : Fin 512)
        (({ upState [(.csq_q_cfg_enable, 3, 1), (.csq_q_cfg_privilege, 3, 0), (.csq_q_cfg_inline_budget, 3, 1)] with dev := { (upState [(.csq_q_cfg_enable, 3, 1), (.csq_q_cfg_privilege, 3, 0), (.csq_q_cfg_inline_budget, 3, 1)]).dev with queues := ⟨[(3, { buf := [(5, [37, 0, 72057594037927936, 72057594037927936, 0, 0, 0, 0])] })]⟩ } }).dev.queue
        (3 : Fin 512)) = some ((5 : Nat), ([37, 0, 72057594037927936, 72057594037927936, 0, 0, 0, 0] : List Nat))) ∧
    (entBad (([37, 0, 72057594037927936, 72057594037927936, 0, 0, 0, 0] : List Nat).getD 0 0) = false ∧
        ({ upState [(.csq_q_cfg_enable, 3, 1), (.csq_q_cfg_privilege, 3, 0), (.csq_q_cfg_inline_budget, 3, 1)] with dev := { (upState [(.csq_q_cfg_enable, 3, 1), (.csq_q_cfg_privilege, 3, 0), (.csq_q_cfg_inline_budget, 3, 1)]).dev with queues := ⟨[(3, { buf := [(5, [37, 0, 72057594037927936, 72057594037927936, 0, 0, 0, 0])] })]⟩ } }).dev.entTokenBad
        (3 : Fin 512) (([37, 0, 72057594037927936, 72057594037927936, 0, 0, 0, 0] : List Nat).getD 0 0) = none ∧
        ({ upState [(.csq_q_cfg_enable, 3, 1), (.csq_q_cfg_privilege, 3, 0), (.csq_q_cfg_inline_budget, 3, 1)] with dev := { (upState [(.csq_q_cfg_enable, 3, 1), (.csq_q_cfg_privilege, 3, 0), (.csq_q_cfg_inline_budget, 3, 1)]).dev with queues := ⟨[(3, { buf := [(5, [37, 0, 72057594037927936, 72057594037927936, 0, 0, 0, 0])] })]⟩ } }).dev.fallbackOn
        = false ∧
        ({ upState [(.csq_q_cfg_enable, 3, 1), (.csq_q_cfg_privilege, 3, 0), (.csq_q_cfg_inline_budget, 3, 1)] with dev := { (upState [(.csq_q_cfg_enable, 3, 1), (.csq_q_cfg_privilege, 3, 0), (.csq_q_cfg_inline_budget, 3, 1)]).dev with queues := ⟨[(3, { buf := [(5, [37, 0, 72057594037927936, 72057594037927936, 0, 0, 0, 0])] })]⟩ } }).dev.seqPick
        (({ upState [(.csq_q_cfg_enable, 3, 1), (.csq_q_cfg_privilege, 3, 0), (.csq_q_cfg_inline_budget, 3, 1)] with dev := { (upState [(.csq_q_cfg_enable, 3, 1), (.csq_q_cfg_privilege, 3, 0), (.csq_q_cfg_inline_budget, 3, 1)]).dev with queues := ⟨[(3, { buf := [(5, [37, 0, 72057594037927936, 72057594037927936, 0, 0, 0, 0])] })]⟩ } }).dev.qSeq
        (3 : Fin 512)) = some (3 : Fin 512).val) ∧
    (entKind (([37, 0, 72057594037927936, 72057594037927936, 0, 0, 0, 0] : List Nat).getD 0 0) = 2 ∧ proofPass ((([37, 0,
        72057594037927936, 72057594037927936, 0, 0, 0, 0] : List Nat).drop 2).take (entOperand (([37, 0, 72057594037927936,
        72057594037927936, 0, 0, 0, 0] : List Nat).getD 0 0)))
        (({ upState [(.csq_q_cfg_enable, 3, 1), (.csq_q_cfg_privilege, 3, 0), (.csq_q_cfg_inline_budget, 3, 1)] with dev := { (upState [(.csq_q_cfg_enable, 3, 1), (.csq_q_cfg_privilege, 3, 0), (.csq_q_cfg_inline_budget, 3, 1)]).dev with queues := ⟨[(3, { buf := [(5, [37, 0, 72057594037927936, 72057594037927936, 0, 0, 0, 0])] })]⟩ } }).dev.qPriv
        (3 : Fin 512))
        (({ upState [(.csq_q_cfg_enable, 3, 1), (.csq_q_cfg_privilege, 3, 0), (.csq_q_cfg_inline_budget, 3, 1)] with dev := { (upState [(.csq_q_cfg_enable, 3, 1), (.csq_q_cfg_privilege, 3, 0), (.csq_q_cfg_inline_budget, 3, 1)]).dev with queues := ⟨[(3, { buf := [(5, [37, 0, 72057594037927936, 72057594037927936, 0, 0, 0, 0])] })]⟩ } }).dev.qMap
        (3 : Fin 512))
        (({ upState [(.csq_q_cfg_enable, 3, 1), (.csq_q_cfg_privilege, 3, 0), (.csq_q_cfg_inline_budget, 3, 1)] with dev := { (upState [(.csq_q_cfg_enable, 3, 1), (.csq_q_cfg_privilege, 3, 0), (.csq_q_cfg_inline_budget, 3, 1)]).dev with queues := ⟨[(3, { buf := [(5, [37, 0, 72057594037927936, 72057594037927936, 0, 0, 0, 0])] })]⟩ } }).dev.get
        .csq_q_cfg_inline_budget (3 : Fin 512)) = some ((0 : Nat), (8 : Nat))) ∧
    (({ upState [(.csq_q_cfg_enable, 3, 1), (.csq_q_cfg_privilege, 3, 1)] with dev := { (upState [(.csq_q_cfg_enable, 3, 1), (.csq_q_cfg_privilege, 3, 1)]).dev with queues := ⟨[(3, { buf := [(5, [1970324837105665, 0, 0, 0, 0, 0, 0, 0])] })]⟩ } }).dev.qHead
        (3 : Fin 512)
        (({ upState [(.csq_q_cfg_enable, 3, 1), (.csq_q_cfg_privilege, 3, 1)] with dev := { (upState [(.csq_q_cfg_enable, 3, 1), (.csq_q_cfg_privilege, 3, 1)]).dev with queues := ⟨[(3, { buf := [(5, [1970324837105665, 0, 0, 0, 0, 0, 0, 0])] })]⟩ } }).dev.queue
        (3 : Fin 512)) = some ((5 : Nat), ([1970324837105665, 0, 0, 0, 0, 0, 0, 0] : List Nat))) ∧
    (entBad (([1970324837105665, 0, 0, 0, 0, 0, 0, 0] : List Nat).getD 0 0) = false ∧
        ({ upState [(.csq_q_cfg_enable, 3, 1), (.csq_q_cfg_privilege, 3, 1)] with dev := { (upState [(.csq_q_cfg_enable, 3, 1), (.csq_q_cfg_privilege, 3, 1)]).dev with queues := ⟨[(3, { buf := [(5, [1970324837105665, 0, 0, 0, 0, 0, 0, 0])] })]⟩ } }).dev.entTokenBad
        (3 : Fin 512) (([1970324837105665, 0, 0, 0, 0, 0, 0, 0] : List Nat).getD 0 0) = some (7 : Nat)) ∧
    (({ upState [(.csq_q_cfg_enable, 3, 1), (.csq_q_cfg_privilege, 3, 0)] with dev := { (upState [(.csq_q_cfg_enable, 3, 1), (.csq_q_cfg_privilege, 3, 0)]).dev with queues := ⟨[(3, { buf := [(5, [147, 0, 0, 0, 0, 0, 0, 0])] })]⟩ } }).dev.qHead
        (3 : Fin 512)
        (({ upState [(.csq_q_cfg_enable, 3, 1), (.csq_q_cfg_privilege, 3, 0)] with dev := { (upState [(.csq_q_cfg_enable, 3, 1), (.csq_q_cfg_privilege, 3, 0)]).dev with queues := ⟨[(3, { buf := [(5, [147, 0, 0, 0, 0, 0, 0, 0])] })]⟩ } }).dev.queue
        (3 : Fin 512)) = some ((5 : Nat), ([147, 0, 0, 0, 0, 0, 0, 0] : List Nat))) ∧
    (entBad (([147, 0, 0, 0, 0, 0, 0, 0] : List Nat).getD 0 0) = false ∧
        ({ upState [(.csq_q_cfg_enable, 3, 1), (.csq_q_cfg_privilege, 3, 0)] with dev := { (upState [(.csq_q_cfg_enable, 3, 1), (.csq_q_cfg_privilege, 3, 0)]).dev with queues := ⟨[(3, { buf := [(5, [147, 0, 0, 0, 0, 0, 0, 0])] })]⟩ } }).dev.entTokenBad
        (3 : Fin 512) (([147, 0, 0, 0, 0, 0, 0, 0] : List Nat).getD 0 0) = none ∧
        ({ upState [(.csq_q_cfg_enable, 3, 1), (.csq_q_cfg_privilege, 3, 0)] with dev := { (upState [(.csq_q_cfg_enable, 3, 1), (.csq_q_cfg_privilege, 3, 0)]).dev with queues := ⟨[(3, { buf := [(5, [147, 0, 0, 0, 0, 0, 0, 0])] })]⟩ } }).dev.fallbackOn
        = false ∧
        ({ upState [(.csq_q_cfg_enable, 3, 1), (.csq_q_cfg_privilege, 3, 0)] with dev := { (upState [(.csq_q_cfg_enable, 3, 1), (.csq_q_cfg_privilege, 3, 0)]).dev with queues := ⟨[(3, { buf := [(5, [147, 0, 0, 0, 0, 0, 0, 0])] })]⟩ } }).dev.seqPick
        (({ upState [(.csq_q_cfg_enable, 3, 1), (.csq_q_cfg_privilege, 3, 0)] with dev := { (upState [(.csq_q_cfg_enable, 3, 1), (.csq_q_cfg_privilege, 3, 0)]).dev with queues := ⟨[(3, { buf := [(5, [147, 0, 0, 0, 0, 0, 0, 0])] })]⟩ } }).dev.qSeq
        (3 : Fin 512)) = some (3 : Fin 512).val) ∧
    (entKind (([147, 0, 0, 0, 0, 0, 0, 0] : List Nat).getD 0 0) = 1 ∧
        ({ upState [(.csq_q_cfg_enable, 3, 1), (.csq_q_cfg_privilege, 3, 0)] with dev := { (upState [(.csq_q_cfg_enable, 3, 1), (.csq_q_cfg_privilege, 3, 0)]).dev with queues := ⟨[(3, { buf := [(5, [147, 0, 0, 0, 0, 0, 0, 0])] })]⟩ } }).dev.qAllowed
        (3 : Fin 512) ocHANDLE (entOperand (([147, 0, 0, 0, 0, 0, 0, 0] : List Nat).getD 0 0)) (entOperand (([147, 0, 0, 0, 0,
        0, 0, 0] : List Nat).getD 0 0)) true = true) ∧
    (({ upState [(.csq_q_cfg_enable, 3, 1), (.csq_q_cfg_privilege, 3, 0)] with dev := { (upState [(.csq_q_cfg_enable, 3, 1), (.csq_q_cfg_privilege, 3, 0)]).dev with queues := ⟨[(3, { buf := [(5, [147, 0, 0, 0, 0, 0, 0, 0])] })]⟩ } }).dev.progs.getOpt
        (entOperand (([147, 0, 0, 0, 0, 0, 0, 0] : List Nat).getD 0 0)) = none) ∧
    ((({ upState [(.csq_q_cfg_enable, 3, 1), (.csq_q_cfg_privilege, 3, 0)] with dev := { (upState [(.csq_q_cfg_enable, 3, 1), (.csq_q_cfg_privilege, 3, 0)]).dev with queues := ⟨[(3, { run := some { run := 5, index := 0, words := [7, 0], tStart := 0 } })]⟩ } }).dev.queue
        (3 : Fin 512)).run = some ({ run := 5, index := 0, words := [7, 0], tStart := 0 } : Entry) ∧ entKind
        (({ run := 5, index := 0, words := [7, 0], tStart := 0 } : Entry).words.getD 0 0) = 3 ∧
        ({ upState [(.csq_q_cfg_enable, 3, 1), (.csq_q_cfg_privilege, 3, 0)] with dev := { (upState [(.csq_q_cfg_enable, 3, 1), (.csq_q_cfg_privilege, 3, 0)]).dev with queues := ⟨[(3, { run := some { run := 5, index := 0, words := [7, 0], tStart := 0 } })]⟩ } }).dev.queueBusy
        (3 : Fin 512) = false) ∧
    ((({ upState [(.csq_q_cfg_enable, 3, 1), (.csq_q_cfg_privilege, 3, 0)] with dev := { (upState [(.csq_q_cfg_enable, 3, 1), (.csq_q_cfg_privilege, 3, 0)]).dev with queues := ⟨[(3, { buf := [], held := [{ kind := 1, token := 9, words := [1, 2, 3, 4, 5, 6, 7] }] })]⟩ } }).dev.queue
        (3 : Fin 512)).held = [({ kind := 1, token := 9, words := [1, 2, 3, 4, 5, 6, 7] } : CRec)] ∧
        ({ upState [(.csq_q_cfg_enable, 3, 1), (.csq_q_cfg_privilege, 3, 0)] with dev := { (upState [(.csq_q_cfg_enable, 3, 1), (.csq_q_cfg_privilege, 3, 0)]).dev with queues := ⟨[(3, { buf := [], held := [{ kind := 1, token := 9, words := [1, 2, 3, 4, 5, 6, 7] }] })]⟩ } }).dev.crFull
        (3 : Fin 512) = false) ∧
    (({ upState [(.csq_q_cfg_enable, 3, 1), (.csq_q_cfg_privilege, 3, 0), (.csq_q_cfg_cr_size_log2, 3, 0)] with dev := { (upState [(.csq_q_cfg_enable, 3, 1), (.csq_q_cfg_privilege, 3, 0), (.csq_q_cfg_cr_size_log2, 3, 0)]).dev with queues := ⟨[(3, { buf := [], crT := 1, held := [{ kind := 1, token := 9, words := [1, 2, 3, 4, 5, 6, 7] }] })]⟩ } }).dev.crFull
        (3 : Fin 512) = true) ∧
    (((upState [])).dev.accepts (.csqQCmdNop (.fabric : Mark) (3 : Fin 512)) = true) ∧
    (((upState [(.csq_q_cfg_enable, 3, 1), (.csq_q_cfg_privilege, 3, 0)])).dev.accepts (.csqQCmdStop (.fabric : Mark) (3 : Fin
        512)) = true) ∧
    (((upState [(.csq_q_cfg_enable, 3, 1), (.csq_q_cfg_privilege, 3, 0)])).dev.qStateOf (3 : Fin 512) (((upState
        [(.csq_q_cfg_enable, 3, 1), (.csq_q_cfg_privilege, 3, 0)])).dev.queue (3 : Fin 512)) = 1 ∨ ((upState
        [(.csq_q_cfg_enable, 3, 1), (.csq_q_cfg_privilege, 3, 0)])).dev.qStateOf (3 : Fin 512) (((upState [(.csq_q_cfg_enable,
        3, 1), (.csq_q_cfg_privilege, 3, 0)])).dev.queue (3 : Fin 512)) = 2) ∧
    (({ upState [(.csq_q_cfg_enable, 3, 1), (.csq_q_cfg_privilege, 3, 0)] with dev := { (upState [(.csq_q_cfg_enable, 3, 1), (.csq_q_cfg_privilege, 3, 0)]).dev with queues := ⟨[(3, { run := some { run := 5, index := 0, words := [7, 0], tStart := 0 } })]⟩ } }).dev.accepts
        (.csqQCmdStop (.fabric : Mark) (3 : Fin 512)) = true) ∧
    (({ upState [(.csq_q_cfg_enable, 3, 1), (.csq_q_cfg_privilege, 3, 0)] with dev := { (upState [(.csq_q_cfg_enable, 3, 1), (.csq_q_cfg_privilege, 3, 0)]).dev with queues := ⟨[(3, { run := some { run := 5, index := 0, words := [7, 0], tStart := 0 } })]⟩ } }).dev.qStateOf
        (3 : Fin 512)
        (({ upState [(.csq_q_cfg_enable, 3, 1), (.csq_q_cfg_privilege, 3, 0)] with dev := { (upState [(.csq_q_cfg_enable, 3, 1), (.csq_q_cfg_privilege, 3, 0)]).dev with queues := ⟨[(3, { run := some { run := 5, index := 0, words := [7, 0], tStart := 0 } })]⟩ } }).dev.queue
        (3 : Fin 512)) = 3) ∧
    (((upState [])).dev.accepts (.csqQCmdStop (.fabric : Mark) (3 : Fin 512)) = true) ∧
    (((upState [])).dev.qStateOf (3 : Fin 512) (((upState [])).dev.queue (3 : Fin 512)) = 0 ∨ ((upState [])).dev.qStateOf (3 :
        Fin 512) (((upState [])).dev.queue (3 : Fin 512)) = 4) ∧
    (({ upState [(.csq_q_cfg_enable, 3, 1), (.csq_q_cfg_privilege, 3, 0)] with dev := { (upState [(.csq_q_cfg_enable, 3, 1), (.csq_q_cfg_privilege, 3, 0)]).dev with queues := ⟨[(3, { buf := [], halted := true })]⟩ } }).dev.accepts
        (.csqQCmdResume (.fabric : Mark) (3 : Fin 512)) = true) ∧
    (({ upState [(.csq_q_cfg_enable, 3, 1), (.csq_q_cfg_privilege, 3, 0)] with dev := { (upState [(.csq_q_cfg_enable, 3, 1), (.csq_q_cfg_privilege, 3, 0)]).dev with queues := ⟨[(3, { buf := [], halted := true })]⟩ } }).dev.qStateOf
        (3 : Fin 512)
        (({ upState [(.csq_q_cfg_enable, 3, 1), (.csq_q_cfg_privilege, 3, 0)] with dev := { (upState [(.csq_q_cfg_enable, 3, 1), (.csq_q_cfg_privilege, 3, 0)]).dev with queues := ⟨[(3, { buf := [], halted := true })]⟩ } }).dev.queue
        (3 : Fin 512)) = 4) ∧
    (((upState [(.csq_q_cfg_enable, 3, 1), (.csq_q_cfg_privilege, 3, 0)])).dev.accepts (.csqQCmdResume (.fabric : Mark) (3 : Fin
        512)) = true) ∧
    (((upState [(.csq_q_cfg_enable, 3, 1), (.csq_q_cfg_privilege, 3, 0)])).dev.qStateOf (3 : Fin 512) (((upState
        [(.csq_q_cfg_enable, 3, 1), (.csq_q_cfg_privilege, 3, 0)])).dev.queue (3 : Fin 512)) ≠ 4) ∧
    (((upState [])).dev.accepts (.csqQCmdReset (.fabric : Mark) (3 : Fin 512)) = true) ∧
    (((upState [])).dev.qStateOf (3 : Fin 512) (((upState [])).dev.queue (3 : Fin 512)) = 4 ∨ ((upState [])).dev.qStateOf (3 :
        Fin 512) (((upState [])).dev.queue (3 : Fin 512)) = 0) ∧
    (((upState [(.csq_q_cfg_enable, 3, 1), (.csq_q_cfg_privilege, 3, 0)])).dev.accepts (.csqQCmdReset (.fabric : Mark) (3 : Fin
        512)) = true) ∧
    (((upState [(.csq_q_cfg_enable, 3, 1), (.csq_q_cfg_privilege, 3, 0)])).dev.qStateOf (3 : Fin 512) (((upState
        [(.csq_q_cfg_enable, 3, 1), (.csq_q_cfg_privilege, 3, 0)])).dev.queue (3 : Fin 512)) ≠ 4 ∧ ((upState
        [(.csq_q_cfg_enable, 3, 1), (.csq_q_cfg_privilege, 3, 0)])).dev.qStateOf (3 : Fin 512) (((upState [(.csq_q_cfg_enable,
        3, 1), (.csq_q_cfg_privilege, 3, 0)])).dev.queue (3 : Fin 512)) ≠ 0) ∧
    (({ upState [(.csq_q_cfg_enable, 3, 1), (.csq_q_cfg_privilege, 3, 0)] with dev := { (upState [(.csq_q_cfg_enable, 3, 1), (.csq_q_cfg_privilege, 3, 0)]).dev with queues := ⟨[(3, { run := some { run := 5, index := 0, words := [7, 0], tStart := 0 } })]⟩ } }).dev.accepts
        (.csqQCmdMapCommit (.fabric : Mark) (3 : Fin 512)) = true) ∧
    (mapValid
        (({ upState [(.csq_q_cfg_enable, 3, 1), (.csq_q_cfg_privilege, 3, 0)] with dev := { (upState [(.csq_q_cfg_enable, 3, 1), (.csq_q_cfg_privilege, 3, 0)]).dev with queues := ⟨[(3, { run := some { run := 5, index := 0, words := [7, 0], tStart := 0 } })]⟩ } }).dev.stagedMap
        (3 : Fin 512)) = true ∧
        (({ upState [(.csq_q_cfg_enable, 3, 1), (.csq_q_cfg_privilege, 3, 0)] with dev := { (upState [(.csq_q_cfg_enable, 3, 1), (.csq_q_cfg_privilege, 3, 0)]).dev with queues := ⟨[(3, { run := some { run := 5, index := 0, words := [7, 0], tStart := 0 } })]⟩ } }).dev.queue
        (3 : Fin 512)).run ≠ none) ∧
    (((upState [(.csq_q_pmap_stage_word, 192, 0x6800000000000000), (.csq_q_pmap_stage_word, 194, 9)])).dev.accepts
        (.csqQCmdMapCommit (.fabric : Mark) (3 : Fin 512)) = true) ∧
    (mapValid (((upState [(.csq_q_pmap_stage_word, 192, 0x6800000000000000), (.csq_q_pmap_stage_word, 194, 9)])).dev.stagedMap
        (3 : Fin 512)) = true ∧ (((upState [(.csq_q_pmap_stage_word, 192, 0x6800000000000000), (.csq_q_pmap_stage_word, 194,
        9)])).dev.queue (3 : Fin 512)).run = none) ∧
    (((upState [(.csq_q_pmap_stage_word, 193, 5)])).dev.accepts (.csqQCmdMapCommit (.fabric : Mark) (3 : Fin 512)) = true) ∧
    (mapValid (((upState [(.csq_q_pmap_stage_word, 193, 5)])).dev.stagedMap (3 : Fin 512)) = false) ∧
    (((upState [])).dev.accepts (.csqQCfgWrite (.fabric : Mark) (3 : Fin 512) (0x06060001 : Word)) = true) ∧
    (((upState [])).dev.qEn (3 : Fin 512) = false ∧ bit (0x06060001 : Word).toNat 0 = true) ∧
    ((((upState [])).dev.writeFields rowCSQ_Q_CFG (3 : Fin 512) (0x06060001 : Word).toNat [0]).ringsInside (3 : Fin 512) = true) ∧
    (((upState [])).dev.accepts (.csqQCfgWrite (.fabric : Mark) (3 : Fin 512) (0x06060000 : Word)) = true) ∧
    (((upState [])).dev.qEn (3 : Fin 512) = false ∧ bit (0x06060000 : Word).toNat 0 = false) ∧
    (((upState [(.csq_q_base_base, 3, 0x100000)])).dev.accepts (.csqQCfgWrite (.fabric : Mark) (3 : Fin 512) (0x06061001 :
        Word)) = true) ∧
    (((upState [(.csq_q_base_base, 3, 0x100000)])).dev.qEn (3 : Fin 512) = false ∧ bit (0x06061001 : Word).toNat 0 = true) ∧
    ((((upState [(.csq_q_base_base, 3, 0x100000)])).dev.writeFields rowCSQ_Q_CFG (3 : Fin 512) (0x06061001 : Word).toNat
        [0]).ringsInside (3 : Fin 512) = false) ∧
    (((upState [(.csq_q_cfg_enable, 3, 1), (.csq_q_cfg_size_log2, 3, 6), (.csq_q_cfg_cr_size_log2, 3, 6), (.csq_q_cfg_privilege,
        3, 0), (.csq_q_cfg_inline_budget, 3, 0)])).dev.accepts (.csqQCfgWrite (.fabric : Mark) (3 : Fin 512) (0x06060331 :
        Word)) = true) ∧
    (((upState [(.csq_q_cfg_enable, 3, 1), (.csq_q_cfg_size_log2, 3, 6), (.csq_q_cfg_cr_size_log2, 3, 6), (.csq_q_cfg_privilege,
        3, 0), (.csq_q_cfg_inline_budget, 3, 0)])).dev.qEn (3 : Fin 512) = true ∧ bit (0x06060331 : Word).toNat 0 = true) ∧
    (∀ y ∈ lockedFields, slice (0x06060331 : Word).toNat y.1 y.2.1 = ((upState [(.csq_q_cfg_enable, 3, 1),
        (.csq_q_cfg_size_log2, 3, 6), (.csq_q_cfg_cr_size_log2, 3, 6), (.csq_q_cfg_privilege, 3, 0), (.csq_q_cfg_inline_budget,
        3, 0)])).dev.get y.2.2 (3 : Fin 512)) := by
  refine ⟨?_, ?_, ?_, ?_, ?_, ?_, ?_, ?_, ?_, ?_, ?_, ?_, ?_, ?_, ?_, ?_, ?_, ?_, ?_, ?_, ?_, ?_, ?_, ?_, ?_, ?_, ?_, ?_, ?_,
      ?_, ?_, ?_, ?_, ?_, ?_, ?_, ?_, ?_, ?_, ?_, ?_, ?_, ?_, ?_, ?_, ?_, ?_, ?_, ?_, ?_, ?_, ?_, ?_, ?_, ?_, ?_, ?_, ?_, ?_,
      ?_, ?_, ?_, ?_, ?_, ?_, ?_, ?_, ?_, ?_, ?_⟩ <;>
    decide +kernel

/-- States and operands that meet the premises of `Obligations.DmaInstructions`, clause by clause. -/
theorem witness_DmaInstructions :
    (((upState [])).dev.accepts (.dmaCmdNop (.fabric : Mark) (2 : Fin 32)) = true) ∧
    (((upState [(.dma_ch_prog_prog, 2, 64)])).dev.accepts (.dmaCmdRun (.fabric : Mark) (2 : Fin 32)) = true) ∧
    (((upState [(.dma_ch_prog_prog, 2, 64)])).dev.chanState (2 : Fin 32) = dcIDLE) ∧
    (((upState [(.dma_ch_status_state, 2, 1)])).dev.accepts (.dmaCmdRun (.fabric : Mark) (2 : Fin 32)) = true) ∧
    (((upState [(.dma_ch_status_state, 2, 1)])).dev.chanState (2 : Fin 32) ≠ dcIDLE) ∧
    (((upState [(.dma_ch_status_state, 2, 3), (.dma_ch_status_cause, 2, 8)])).dev.accepts (.dmaCmdResume (.fabric : Mark) (2 :
        Fin 32)) = true) ∧
    (((upState [(.dma_ch_status_state, 2, 3), (.dma_ch_status_cause, 2, 8)])).dev.chanState (2 : Fin 32) = dcHALTED) ∧
    (((upState [(.dma_ch_status_state, 2, 1)])).dev.accepts (.dmaCmdResume (.fabric : Mark) (2 : Fin 32)) = true) ∧
    (((upState [(.dma_ch_status_state, 2, 1)])).dev.chanState (2 : Fin 32) ≠ dcHALTED) ∧
    (((upState [(.dma_ch_status_state, 2, 1)])).dev.accepts (.dmaCmdAbort (.fabric : Mark) (2 : Fin 32)) = true) ∧
    (((upState [(.dma_ch_status_state, 2, 1)])).dev.chanState (2 : Fin 32) = dcRUNNING ∨ ((upState [(.dma_ch_status_state, 2,
        1)])).dev.chanState (2 : Fin 32) = dcWAITING) ∧
    (((upState [(.dma_ch_status_state, 2, 3)])).dev.accepts (.dmaCmdAbort (.fabric : Mark) (2 : Fin 32)) = true) ∧
    (((upState [(.dma_ch_status_state, 2, 3)])).dev.chanState (2 : Fin 32) = dcHALTED) ∧
    (((upState [])).dev.accepts (.dmaCmdAbort (.fabric : Mark) (2 : Fin 32)) = true) ∧
    (((upState [])).dev.chanState (2 : Fin 32) = dcIDLE ∨ ((upState [])).dev.chanState (2 : Fin 32) = dcABORTING) ∧
    ((some #v[1152921504741064704, 4096, 8192, 0] : Option (Vector Word 4)) = some (#v[1152921504741064704, 4096, 8192, 0] :
        Vector Word 4) ∧
        ({ upState [(.dma_ch_status_state, 2, 1)] with dev := { (upState [(.dma_ch_status_state, 2, 1)]).dev with dma := ⟨[(2, { prog := 64 })]⟩ } }).dev.chanReady
        (2 : Fin 32)) ∧
    (dmaEncodes ((#v[1152921504741064704, 4096, 8192, 0] : Vector Word 4).toList.map (fun (y : Word) => y.toNat)) = true ∧ slice
        (((#v[1152921504741064704, 4096, 8192, 0] : Vector Word 4).toList.map (fun (y : Word) => y.toNat)).getD 0 0) 60 4 = 1) ∧
    (({ upState [(.dma_ch_status_state, 2, 1)] with dev := { (upState [(.dma_ch_status_state, 2, 1)]).dev with dma := ⟨[(2, { prog := 64 })]⟩ } }).dev.moveOk
        (2 : Fin 32)
        (({ upState [(.dma_ch_status_state, 2, 1)] with dev := { (upState [(.dma_ch_status_state, 2, 1)]).dev with dma := ⟨[(2, { prog := 64 })]⟩ } }).dev.moveOf
        (2 : Fin 32) ((#v[1152921504741064704, 4096, 8192, 0] : Vector Word 4).toList.map (fun (y : Word) => y.toNat))) = true) ∧
    ((some #v[1152921504875282432, 18446744073709551608, 8192, 0] : Option (Vector Word 4)) = some (#v[1152921504875282432,
        18446744073709551608, 8192, 0] : Vector Word 4) ∧
        ({ upState [(.dma_ch_status_state, 2, 1)] with dev := { (upState [(.dma_ch_status_state, 2, 1)]).dev with dma := ⟨[(2, { prog := 64 })]⟩ } }).dev.chanReady
        (2 : Fin 32)) ∧
    (dmaEncodes ((#v[1152921504875282432, 18446744073709551608, 8192, 0] : Vector Word 4).toList.map (fun (y : Word) =>
        y.toNat)) = true ∧ slice (((#v[1152921504875282432, 18446744073709551608, 8192, 0] : Vector Word 4).toList.map (fun (y :
        Word) => y.toNat)).getD 0 0) 60 4 = 1) ∧
    ((({ upState [(.dma_ch_status_state, 2, 1)] with dev := { (upState [(.dma_ch_status_state, 2, 1)]).dev with dma := ⟨[(2, { prog := 64 })]⟩ } }).dev.moveOf
        (2 : Fin 32) ((#v[1152921504875282432, 18446744073709551608, 8192, 0] : Vector Word 4).toList.map (fun (y : Word) =>
        y.toNat))).srcSp = spKCL ∧ 2 ^ 64 <
        (({ upState [(.dma_ch_status_state, 2, 1)] with dev := { (upState [(.dma_ch_status_state, 2, 1)]).dev with dma := ⟨[(2, { prog := 64 })]⟩ } }).dev.moveOf
        (2 : Fin 32) ((#v[1152921504875282432, 18446744073709551608, 8192, 0] : Vector Word 4).toList.map (fun (y : Word) =>
        y.toNat))).src +
        (({ upState [(.dma_ch_status_state, 2, 1)] with dev := { (upState [(.dma_ch_status_state, 2, 1)]).dev with dma := ⟨[(2, { prog := 64 })]⟩ } }).dev.moveOf
        (2 : Fin 32) ((#v[1152921504875282432, 18446744073709551608, 8192, 0] : Vector Word 4).toList.map (fun (y : Word) =>
        y.toNat))).len) ∧
    ((some #v[2305843026393563138, 64, 18446744073709551552, 0] : Option (Vector Word 4)) = some (#v[2305843026393563138, 64,
        18446744073709551552, 0] : Vector Word 4) ∧
        ({ upState [(.dma_ch_status_state, 2, 1)] with dev := { (upState [(.dma_ch_status_state, 2, 1)]).dev with dma := ⟨[(2, { prog := 64 })]⟩ } }).dev.chanReady
        (2 : Fin 32)) ∧
    (dmaEncodes ((#v[2305843026393563138, 64, 18446744073709551552, 0] : Vector Word 4).toList.map (fun (y : Word) => y.toNat))
        = true ∧ slice (((#v[2305843026393563138, 64, 18446744073709551552, 0] : Vector Word 4).toList.map (fun (y : Word) =>
        y.toNat)).getD 0 0) 60 4 = 2) ∧
    ((({ upState [(.dma_ch_status_state, 2, 1)] with dev := { (upState [(.dma_ch_status_state, 2, 1)]).dev with dma := ⟨[(2, { prog := 64 })]⟩ } }).dev.chan
        (2 : Fin 32)).loops.length < 2 ∧ ∀ y ∈
        (({ upState [(.dma_ch_status_state, 2, 1)] with dev := { (upState [(.dma_ch_status_state, 2, 1)]).dev with dma := ⟨[(2, { prog := 64 })]⟩ } }).dev.chan
        (2 : Fin 32)).loops,
        ({ upState [(.dma_ch_status_state, 2, 1)] with dev := { (upState [(.dma_ch_status_state, 2, 1)]).dev with dma := ⟨[(2, { prog := 64 })]⟩ } }).dev.chanPc
        (2 : Fin 32) + slice (((#v[2305843026393563138, 64, 18446744073709551552, 0] : Vector Word 4).toList.map (fun (y : Word)
        => y.toNat)).getD 0 0) 0 8 ≤ y.last) ∧
    ((some #v[2305843026393563138, 64, 18446744073709551552, 0] : Option (Vector Word 4)) = some (#v[2305843026393563138, 64,
        18446744073709551552, 0] : Vector Word 4) ∧
        ({ upState [(.dma_ch_status_state, 2, 1)] with dev := { (upState [(.dma_ch_status_state, 2, 1)]).dev with dma := ⟨[(2, { prog := 64, loops := List.replicate 2 { first := 0, last := 9, count := 1, src := 0, dst := 0 } })]⟩ } }).dev.chanReady
        (2 : Fin 32)) ∧
    ((({ upState [(.dma_ch_status_state, 2, 1)] with dev := { (upState [(.dma_ch_status_state, 2, 1)]).dev with dma := ⟨[(2, { prog := 64, loops := List.replicate 2 { first := 0, last := 9, count := 1, src := 0, dst := 0 } })]⟩ } }).dev.chan
        (2 : Fin 32)).loops.length = 2) ∧
    ((some #v[3458764552475705856, 0, 0, 0] : Option (Vector Word 4)) = some (#v[3458764552475705856, 0, 0, 0] : Vector Word 4)
        ∧
        ({ upState [(.dma_ch_status_state, 2, 1)] with dev := { (upState [(.dma_ch_status_state, 2, 1)]).dev with dma := ⟨[(2, { prog := 64, priv := 1, pmap := [10088063165309911040, 0, 4096, 0] })]⟩ } }).dev.chanReady
        (2 : Fin 32)) ∧
    (dmaEncodes ((#v[3458764552475705856, 0, 0, 0] : Vector Word 4).toList.map (fun (y : Word) => y.toNat)) = true ∧ slice
        (((#v[3458764552475705856, 0, 0, 0] : Vector Word 4).toList.map (fun (y : Word) => y.toNat)).getD 0 0) 58 6 = 12) ∧
    (objAllowed
        (({ upState [(.dma_ch_status_state, 2, 1)] with dev := { (upState [(.dma_ch_status_state, 2, 1)]).dev with dma := ⟨[(2, { prog := 64, priv := 1, pmap := [10088063165309911040, 0, 4096, 0] })]⟩ } }).dev.chan
        (2 : Fin 32)).priv
        (({ upState [(.dma_ch_status_state, 2, 1)] with dev := { (upState [(.dma_ch_status_state, 2, 1)]).dev with dma := ⟨[(2, { prog := 64, priv := 1, pmap := [10088063165309911040, 0, 4096, 0] })]⟩ } }).dev.chan
        (2 : Fin 32)).pmap ocTOKEN (slice (((#v[3458764552475705856, 0, 0, 0] : Vector Word 4).toList.map (fun (y : Word) =>
        y.toNat)).getD 0 0) 16 16) (slice (((#v[3458764552475705856, 0, 0, 0] : Vector Word 4).toList.map (fun (y : Word) =>
        y.toNat)).getD 0 0) 16 16) true = false) ∧
    ((some #v[3458764552475705856, 0, 0, 0] : Option (Vector Word 4)) = some (#v[3458764552475705856, 0, 0, 0] : Vector Word 4)
        ∧
        ({ upState [(.dma_ch_status_state, 2, 1)] with dev := { (upState [(.dma_ch_status_state, 2, 1)]).dev with dma := ⟨[(2, { prog := 64 })]⟩ } }).dev.chanReady
        (2 : Fin 32)) ∧
    (objAllowed
        (({ upState [(.dma_ch_status_state, 2, 1)] with dev := { (upState [(.dma_ch_status_state, 2, 1)]).dev with dma := ⟨[(2, { prog := 64 })]⟩ } }).dev.chan
        (2 : Fin 32)).priv
        (({ upState [(.dma_ch_status_state, 2, 1)] with dev := { (upState [(.dma_ch_status_state, 2, 1)]).dev with dma := ⟨[(2, { prog := 64 })]⟩ } }).dev.chan
        (2 : Fin 32)).pmap ocTOKEN (slice (((#v[3458764552475705856, 0, 0, 0] : Vector Word 4).toList.map (fun (y : Word) =>
        y.toNat)).getD 0 0) 16 16) (slice (((#v[3458764552475705856, 0, 0, 0] : Vector Word 4).toList.map (fun (y : Word) =>
        y.toNat)).getD 0 0) 16 16) true = true) ∧
    ((some #v[3746994928627417088, 0, 0, 0] : Option (Vector Word 4)) = some (#v[3746994928627417088, 0, 0, 0] : Vector Word 4)
        ∧
        ({ upState [(.dma_ch_status_state, 2, 1)] with dev := { (upState [(.dma_ch_status_state, 2, 1)]).dev with dma := ⟨[(2, { prog := 64 })]⟩ } }).dev.chanReady
        (2 : Fin 32)) ∧
    (dmaEncodes ((#v[3746994928627417088, 0, 0, 0] : Vector Word 4).toList.map (fun (y : Word) => y.toNat)) = true ∧ slice
        (((#v[3746994928627417088, 0, 0, 0] : Vector Word 4).toList.map (fun (y : Word) => y.toNat)).getD 0 0) 58 6 = 13) ∧
    ((({ upState [(.dma_ch_status_state, 2, 2), (.csq_token_count, 7, 3)] with dev := { (upState [(.dma_ch_status_state, 2, 2), (.csq_token_count, 7, 3)]).dev with dma := ⟨[(2, { prog := 64, wait := some ({ mode := 0, tok := 7, n := 2, since := 0, limit := 9 }) })]⟩ } }).dev.chan
        (2 : Fin 32)).wait = some ({ mode := 0, tok := 7, n := 2, since := 0, limit := 9 } : WaitSt) ∧
        ({ upState [(.dma_ch_status_state, 2, 2), (.csq_token_count, 7, 3)] with dev := { (upState [(.dma_ch_status_state, 2, 2), (.csq_token_count, 7, 3)]).dev with dma := ⟨[(2, { prog := 64, wait := some ({ mode := 0, tok := 7, n := 2, since := 0, limit := 9 }) })]⟩ } }).dev.chanState
        (2 : Fin 32) = dcWAITING ∧
        (({ upState [(.dma_ch_status_state, 2, 2), (.csq_token_count, 7, 3)] with dev := { (upState [(.dma_ch_status_state, 2, 2), (.csq_token_count, 7, 3)]).dev with dma := ⟨[(2, { prog := 64, wait := some ({ mode := 0, tok := 7, n := 2, since := 0, limit := 9 }) })]⟩ } }).dev.chan
        (2 : Fin 32)).fault = none) ∧
    (({ mode := 0, tok := 7, n := 2, since := 0, limit := 9 } : WaitSt).mode = 0 ∧
        ({ mode := 0, tok := 7, n := 2, since := 0, limit := 9 } : WaitSt).n ≤
        ({ upState [(.dma_ch_status_state, 2, 2), (.csq_token_count, 7, 3)] with dev := { (upState [(.dma_ch_status_state, 2, 2), (.csq_token_count, 7, 3)]).dev with dma := ⟨[(2, { prog := 64, wait := some ({ mode := 0, tok := 7, n := 2, since := 0, limit := 9 }) })]⟩ } }).dev.get
        .csq_token_count ({ mode := 0, tok := 7, n := 2, since := 0, limit := 9 } : WaitSt).tok ∧
        ({ upState [(.dma_ch_status_state, 2, 2), (.csq_token_count, 7, 3)] with dev := { (upState [(.dma_ch_status_state, 2, 2), (.csq_token_count, 7, 3)]).dev with dma := ⟨[(2, { prog := 64, wait := some ({ mode := 0, tok := 7, n := 2, since := 0, limit := 9 }) })]⟩ } }).dev.tokTurn
        ({ mode := 0, tok := 7, n := 2, since := 0, limit := 9 } : WaitSt).tok
        ({ mode := 0, tok := 7, n := 2, since := 0, limit := 9 } : WaitSt).since (512 + (2 : Fin 32).val) = true) ∧
    ((({ upState [(.dma_ch_status_state, 2, 2)] with dev := { (upState [(.dma_ch_status_state, 2, 2)]).dev with dma := ⟨[(2, { prog := 64, hit := true, wait := some ({ mode := 1, tok := 7, n := 2, since := 0, limit := 9 }) })]⟩ } }).dev.chan
        (2 : Fin 32)).wait = some ({ mode := 1, tok := 7, n := 2, since := 0, limit := 9 } : WaitSt) ∧
        ({ upState [(.dma_ch_status_state, 2, 2)] with dev := { (upState [(.dma_ch_status_state, 2, 2)]).dev with dma := ⟨[(2, { prog := 64, hit := true, wait := some ({ mode := 1, tok := 7, n := 2, since := 0, limit := 9 }) })]⟩ } }).dev.chanState
        (2 : Fin 32) = dcWAITING ∧
        (({ upState [(.dma_ch_status_state, 2, 2)] with dev := { (upState [(.dma_ch_status_state, 2, 2)]).dev with dma := ⟨[(2, { prog := 64, hit := true, wait := some ({ mode := 1, tok := 7, n := 2, since := 0, limit := 9 }) })]⟩ } }).dev.chan
        (2 : Fin 32)).fault = none) ∧
    (({ mode := 1, tok := 7, n := 2, since := 0, limit := 9 } : WaitSt).mode = 1 ∧
        (({ upState [(.dma_ch_status_state, 2, 2)] with dev := { (upState [(.dma_ch_status_state, 2, 2)]).dev with dma := ⟨[(2, { prog := 64, hit := true, wait := some ({ mode := 1, tok := 7, n := 2, since := 0, limit := 9 }) })]⟩ } }).dev.chan
        (2 : Fin 32)).hit = true) ∧
    ((({ upState [(.dma_ch_status_state, 2, 2)] with dev := { (upState [(.dma_ch_status_state, 2, 2)]).dev with dma := ⟨[(2, { prog := 64, wait := some ({ mode := 0, tok := 7, n := 2, since := 0, limit := 9 }) })]⟩ } }).dev.chan
        (2 : Fin 32)).wait = some ({ mode := 0, tok := 7, n := 2, since := 0, limit := 9 } : WaitSt) ∧
        ({ upState [(.dma_ch_status_state, 2, 2)] with dev := { (upState [(.dma_ch_status_state, 2, 2)]).dev with dma := ⟨[(2, { prog := 64, wait := some ({ mode := 0, tok := 7, n := 2, since := 0, limit := 9 }) })]⟩ } }).dev.dmaWaitHolds
        (2 : Fin 32) ({ mode := 0, tok := 7, n := 2, since := 0, limit := 9 } : WaitSt) = false) ∧
    ((some #v[4611686018427847168, 0, 0, 0] : Option (Vector Word 4)) = some (#v[4611686018427847168, 0, 0, 0] : Vector Word 4)
        ∧
        ({ upState [(.dma_ch_status_state, 2, 1)] with dev := { (upState [(.dma_ch_status_state, 2, 1)]).dev with dma := ⟨[(2, { prog := 64 })]⟩ } }).dev.chanReady
        (2 : Fin 32)) ∧
    (dmaEncodes ((#v[4611686018427847168, 0, 0, 0] : Vector Word 4).toList.map (fun (y : Word) => y.toNat)) = true ∧ slice
        (((#v[4611686018427847168, 0, 0, 0] : Vector Word 4).toList.map (fun (y : Word) => y.toNat)).getD 0 0) 58 6 = 16) ∧
    (objAllowed
        (({ upState [(.dma_ch_status_state, 2, 1)] with dev := { (upState [(.dma_ch_status_state, 2, 1)]).dev with dma := ⟨[(2, { prog := 64 })]⟩ } }).dev.chan
        (2 : Fin 32)).priv
        (({ upState [(.dma_ch_status_state, 2, 1)] with dev := { (upState [(.dma_ch_status_state, 2, 1)]).dev with dma := ⟨[(2, { prog := 64 })]⟩ } }).dev.chan
        (2 : Fin 32)).pmap ocTOKEN (slice (((#v[4611686018427847168, 0, 0, 0] : Vector Word 4).toList.map (fun (y : Word) =>
        y.toNat)).getD 0 0) 16 16) (slice (((#v[4611686018427847168, 0, 0, 0] : Vector Word 4).toList.map (fun (y : Word) =>
        y.toNat)).getD 0 0) 16 16) true = true) ∧
    ((some #v[4899916394579558400, 0, 0, 0] : Option (Vector Word 4)) = some (#v[4899916394579558400, 0, 0, 0] : Vector Word 4)
        ∧
        ({ upState [(.dma_ch_status_state, 2, 1)] with dev := { (upState [(.dma_ch_status_state, 2, 1)]).dev with dma := ⟨[(2, { prog := 64 })]⟩ } }).dev.chanReady
        (2 : Fin 32)) ∧
    (dmaEncodes ((#v[4899916394579558400, 0, 0, 0] : Vector Word 4).toList.map (fun (y : Word) => y.toNat)) = true ∧ slice
        (((#v[4899916394579558400, 0, 0, 0] : Vector Word 4).toList.map (fun (y : Word) => y.toNat)).getD 0 0) 58 6 = 17) ∧
    ((some #v[0, 0, 0, 0] : Option (Vector Word 4)) = some (#v[0, 0, 0, 0] : Vector Word 4) ∧
        ({ upState [(.dma_ch_status_state, 2, 1)] with dev := { (upState [(.dma_ch_status_state, 2, 1)]).dev with dma := ⟨[(2, { prog := 64 })]⟩ } }).dev.chanReady
        (2 : Fin 32)) ∧
    (dmaEncodes ((#v[0, 0, 0, 0] : Vector Word 4).toList.map (fun (y : Word) => y.toNat)) = true ∧ slice (((#v[0, 0, 0, 0] :
        Vector Word 4).toList.map (fun (y : Word) => y.toNat)).getD 0 0) 60 4 = 0) ∧
    ((some #v[5764607523034234880, 0, 0, 0] : Option (Vector Word 4)) = some (#v[5764607523034234880, 0, 0, 0] : Vector Word 4)
        ∧
        ({ upState [(.dma_ch_status_state, 2, 1)] with dev := { (upState [(.dma_ch_status_state, 2, 1)]).dev with dma := ⟨[(2, { prog := 64 })]⟩ } }).dev.chanReady
        (2 : Fin 32)) ∧
    (dmaEncodes ((#v[5764607523034234880, 0, 0, 0] : Vector Word 4).toList.map (fun (y : Word) => y.toNat)) = false) ∧
    ((none : Option (Vector Word 4)) = none ∧
        ({ upState [(.dma_ch_status_state, 2, 1)] with dev := { (upState [(.dma_ch_status_state, 2, 1)]).dev with dma := ⟨[(2, { prog := 64 })]⟩ } }).dev.chanReady
        (2 : Fin 32)) ∧
    (({ upState [(.dma_ch_status_state, 2, 1)] with dev := { (upState [(.dma_ch_status_state, 2, 1)]).dev with dma := ⟨[(2, { prog := 64, qsram := true })]⟩ } }).dev.chanState
        (2 : Fin 32) = dcRUNNING ∧
        (({ upState [(.dma_ch_status_state, 2, 1)] with dev := { (upState [(.dma_ch_status_state, 2, 1)]).dev with dma := ⟨[(2, { prog := 64, qsram := true })]⟩ } }).dev.chan
        (2 : Fin 32)).fault = none ∧
        (({ upState [(.dma_ch_status_state, 2, 1)] with dev := { (upState [(.dma_ch_status_state, 2, 1)]).dev with dma := ⟨[(2, { prog := 64, qsram := true })]⟩ } }).dev.chan
        (2 : Fin 32)).move = none ∧
        (({ upState [(.dma_ch_status_state, 2, 1)] with dev := { (upState [(.dma_ch_status_state, 2, 1)]).dev with dma := ⟨[(2, { prog := 64, qsram := true })]⟩ } }).dev.chan
        (2 : Fin 32)).ended = false ∧
        (({ upState [(.dma_ch_status_state, 2, 1)] with dev := { (upState [(.dma_ch_status_state, 2, 1)]).dev with dma := ⟨[(2, { prog := 64, qsram := true })]⟩ } }).dev.chan
        (2 : Fin 32)).qsram = true) ∧
    (({ upState [(.dma_ch_status_state, 2, 1)] with dev := { (upState [(.dma_ch_status_state, 2, 1)]).dev with dma := ⟨[(2, { prog := 64, qsram := true })]⟩ } }).dev.dmaPcAddr
        (2 : Fin 32) + 32 ≤ 2 ^ 20 ∧ dmaEncodes ((List.range 4).map (fun (y : Nat) => leNat
        (({ upState [(.dma_ch_status_state, 2, 1)] with dev := { (upState [(.dma_ch_status_state, 2, 1)]).dev with dma := ⟨[(2, { prog := 64, qsram := true })]⟩ } }).dev.qsramBytes
        (({ upState [(.dma_ch_status_state, 2, 1)] with dev := { (upState [(.dma_ch_status_state, 2, 1)]).dev with dma := ⟨[(2, { prog := 64, qsram := true })]⟩ } }).dev.dmaPcAddr
        (2 : Fin 32) + 8 * y) 8))) = true ∧ slice (((List.range 4).map (fun (y : Nat) => leNat
        (({ upState [(.dma_ch_status_state, 2, 1)] with dev := { (upState [(.dma_ch_status_state, 2, 1)]).dev with dma := ⟨[(2, { prog := 64, qsram := true })]⟩ } }).dev.qsramBytes
        (({ upState [(.dma_ch_status_state, 2, 1)] with dev := { (upState [(.dma_ch_status_state, 2, 1)]).dev with dma := ⟨[(2, { prog := 64, qsram := true })]⟩ } }).dev.dmaPcAddr
        (2 : Fin 32) + 8 * y) 8))).getD 0 0) 60 4 = 0) := by
  refine ⟨?_, ?_, ?_, ?_, ?_, ?_, ?_, ?_, ?_, ?_, ?_, ?_, ?_, ?_, ?_, ?_, ?_, ?_, ?_, ?_, ?_, ?_, ?_, ?_, ?_, ?_, ?_, ?_, ?_,
      ?_, ?_, ?_, ?_, ?_, ?_, ?_, ?_, ?_, ?_, ?_, ?_, ?_, ?_, ?_, ?_, ?_, ?_, ?_, ?_, ?_⟩ <;>
    decide +kernel

/-- States and operands that meet the premises of `Obligations.DmaBurstsAndEnds`, clause by clause. -/
theorem witness_DmaBurstsAndEnds :
    ((({ upState [(.dma_ch_status_state, 2, 1)] with dev := { (upState [(.dma_ch_status_state, 2, 1)]).dev with dma := ⟨[(2, { prog := 64, move := some ({ src := 4096, dst := 8192, len := 8, shuf := 0, inv := false, srcSp := 0, dstSp := 0, par := 0, next := 1, bursts := [(0, 0)] }) })]⟩, reads := [{ purpose := .dmaBurst 2 0, req := 0x3002, addr := 4096, ext := true }] } }).dev.chan
        (2 : Fin 32)).move = some
        ({ src := 4096, dst := 8192, len := 8, shuf := 0, inv := false, srcSp := 0, dstSp := 0, par := 0, next := 1, bursts := [(0, 0)] }
        : DmaMove) ∧
        ({ src := 4096, dst := 8192, len := 8, shuf := 0, inv := false, srcSp := 0, dstSp := 0, par := 0, next := 1, bursts := [(0, 0)] }
        : DmaMove).bursts.find? (fun (b : Nat × Nat) => b.1 == (0 : BitVec 32).toNat) = some ((0 : BitVec 32).toNat, 0)) ∧
    (({ src := 4096, dst := 8192, len := 8, shuf := 0, inv := false, srcSp := 0, dstSp := 0, par := 0, next := 1, bursts := [(0, 0)] }
        : DmaMove).srcSp = spKCL ∧
        ({ src := 4096, dst := 8192, len := 8, shuf := 0, inv := false, srcSp := 0, dstSp := 0, par := 0, next := 1, bursts := [(0, 0)] }
        : DmaMove).dstSp = spKCL ∧
        ({ upState [(.dma_ch_status_state, 2, 1)] with dev := { (upState [(.dma_ch_status_state, 2, 1)]).dev with dma := ⟨[(2, { prog := 64, move := some ({ src := 4096, dst := 8192, len := 8, shuf := 0, inv := false, srcSp := 0, dstSp := 0, par := 0, next := 1, bursts := [(0, 0)] }) })]⟩, reads := [{ purpose := .dmaBurst 2 0, req := 0x3002, addr := 4096, ext := true }] } }).dev.chanState
        (2 : Fin 32) = dcRUNNING) ∧
    ((some [1#8, 2#8, 3#8, 4#8, 5#8, 6#8, 7#8, 8#8] : Option (List Byte)) = some ([1#8, 2#8, 3#8, 4#8, 5#8, 6#8, 7#8, 8#8] :
        List Byte) ∧ ([1#8, 2#8, 3#8, 4#8, 5#8, 6#8, 7#8, 8#8] : List Byte).length =
        ({ src := 4096, dst := 8192, len := 8, shuf := 0, inv := false, srcSp := 0, dstSp := 0, par := 0, next := 1, bursts := [(0, 0)] }
        : DmaMove).size (0 : BitVec 32).toNat ∧
        ({ src := 4096, dst := 8192, len := 8, shuf := 0, inv := false, srcSp := 0, dstSp := 0, par := 0, next := 1, bursts := [(0, 0)] }
        : DmaMove).writes (0 : BitVec 32).toNat (([1#8, 2#8, 3#8, 4#8, 5#8, 6#8, 7#8, 8#8] : List Byte).map (fun (y : Byte) =>
        y.toNat)) ≠ []) ∧
    ((({ upState [(.dma_ch_status_state, 2, 1), (.fmem_win_state_state, 2, 2), (.fmem_win_cfg_window, 2, 3), (.fmem_win_cfg_role, 2, 0), (.fmem_win_cfg_writable, 2, 1), (.fmem_win_src_src_limit, 2, 0xFFFFFF), (.sched_echo_ctrl_echo_enable, 0, 0)] with dev := { (upState [(.dma_ch_status_state, 2, 1), (.fmem_win_state_state, 2, 2), (.fmem_win_cfg_window, 2, 3), (.fmem_win_cfg_role, 2, 0), (.fmem_win_cfg_writable, 2, 1), (.fmem_win_src_src_limit, 2, 0xFFFFFF), (.sched_echo_ctrl_echo_enable, 0, 0)]).dev with dma := ⟨[(2, { prog := 64, move := some ({ src := 4096, dst := 3221229568, len := 8, shuf := 0, inv := false, srcSp := 0, dstSp := 1, par := 0, next := 1, bursts := [(0, 0)] }) })]⟩, reads := [{ purpose := .dmaBurst 2 0, req := 0x3002, addr := 4096, ext := true }] } }).dev.chan
        (2 : Fin 32)).move = some
        ({ src := 4096, dst := 3221229568, len := 8, shuf := 0, inv := false, srcSp := 0, dstSp := 1, par := 0, next := 1, bursts := [(0, 0)] }
        : DmaMove) ∧
        ({ src := 4096, dst := 3221229568, len := 8, shuf := 0, inv := false, srcSp := 0, dstSp := 1, par := 0, next := 1, bursts := [(0, 0)] }
        : DmaMove).bursts.find? (fun (b : Nat × Nat) => b.1 == (0 : BitVec 32).toNat) = some ((0 : BitVec 32).toNat, 0)) ∧
    (({ src := 4096, dst := 3221229568, len := 8, shuf := 0, inv := false, srcSp := 0, dstSp := 1, par := 0, next := 1, bursts := [(0, 0)] }
        : DmaMove).srcSp = spKCL ∧
        ({ src := 4096, dst := 3221229568, len := 8, shuf := 0, inv := false, srcSp := 0, dstSp := 1, par := 0, next := 1, bursts := [(0, 0)] }
        : DmaMove).dstSp = spFMEM ∧
        ({ upState [(.dma_ch_status_state, 2, 1), (.fmem_win_state_state, 2, 2), (.fmem_win_cfg_window, 2, 3), (.fmem_win_cfg_role, 2, 0), (.fmem_win_cfg_writable, 2, 1), (.fmem_win_src_src_limit, 2, 0xFFFFFF), (.sched_echo_ctrl_echo_enable, 0, 0)] with dev := { (upState [(.dma_ch_status_state, 2, 1), (.fmem_win_state_state, 2, 2), (.fmem_win_cfg_window, 2, 3), (.fmem_win_cfg_role, 2, 0), (.fmem_win_cfg_writable, 2, 1), (.fmem_win_src_src_limit, 2, 0xFFFFFF), (.sched_echo_ctrl_echo_enable, 0, 0)]).dev with dma := ⟨[(2, { prog := 64, move := some ({ src := 4096, dst := 3221229568, len := 8, shuf := 0, inv := false, srcSp := 0, dstSp := 1, par := 0, next := 1, bursts := [(0, 0)] }) })]⟩, reads := [{ purpose := .dmaBurst 2 0, req := 0x3002, addr := 4096, ext := true }] } }).dev.chanState
        (2 : Fin 32) = dcRUNNING) ∧
    ((some [1#8, 2#8, 3#8, 4#8, 5#8, 6#8, 7#8, 8#8] : Option (List Byte)) = some ([1#8, 2#8, 3#8, 4#8, 5#8, 6#8, 7#8, 8#8] :
        List Byte) ∧ ([1#8, 2#8, 3#8, 4#8, 5#8, 6#8, 7#8, 8#8] : List Byte).length =
        ({ src := 4096, dst := 3221229568, len := 8, shuf := 0, inv := false, srcSp := 0, dstSp := 1, par := 0, next := 1, bursts := [(0, 0)] }
        : DmaMove).size (0 : BitVec 32).toNat ∧
        ({ src := 4096, dst := 3221229568, len := 8, shuf := 0, inv := false, srcSp := 0, dstSp := 1, par := 0, next := 1, bursts := [(0, 0)] }
        : DmaMove).writes (0 : BitVec 32).toNat (([1#8, 2#8, 3#8, 4#8, 5#8, 6#8, 7#8, 8#8] : List Byte).map (fun (y : Byte) =>
        y.toNat)) = [((0 : Nat), ([1, 2, 3, 4, 5, 6, 7, 8] : List Nat))]) ∧
    (({ upState [(.dma_ch_status_state, 2, 1), (.fmem_win_state_state, 2, 2), (.fmem_win_cfg_window, 2, 3), (.fmem_win_cfg_role, 2, 0), (.fmem_win_cfg_writable, 2, 1), (.fmem_win_src_src_limit, 2, 0xFFFFFF), (.sched_echo_ctrl_echo_enable, 0, 0)] with dev := { (upState [(.dma_ch_status_state, 2, 1), (.fmem_win_state_state, 2, 2), (.fmem_win_cfg_window, 2, 3), (.fmem_win_cfg_role, 2, 0), (.fmem_win_cfg_writable, 2, 1), (.fmem_win_src_src_limit, 2, 0xFFFFFF), (.sched_echo_ctrl_echo_enable, 0, 0)]).dev with dma := ⟨[(2, { prog := 64, move := some ({ src := 4096, dst := 3221229568, len := 8, shuf := 0, inv := false, srcSp := 0, dstSp := 1, par := 0, next := 1, bursts := [(0, 0)] }) })]⟩, reads := [{ purpose := .dmaBurst 2 0, req := 0x3002, addr := 4096, ext := true }] } }).dev.dmaMemStatus
        true
        ({ src := 4096, dst := 3221229568, len := 8, shuf := 0, inv := false, srcSp := 0, dstSp := 1, par := 0, next := 1, bursts := [(0, 0)] }
        : DmaMove).dst true = msOK ∧
        ({ upState [(.dma_ch_status_state, 2, 1), (.fmem_win_state_state, 2, 2), (.fmem_win_cfg_window, 2, 3), (.fmem_win_cfg_role, 2, 0), (.fmem_win_cfg_writable, 2, 1), (.fmem_win_src_src_limit, 2, 0xFFFFFF), (.sched_echo_ctrl_echo_enable, 0, 0)] with dev := { (upState [(.dma_ch_status_state, 2, 1), (.fmem_win_state_state, 2, 2), (.fmem_win_cfg_window, 2, 3), (.fmem_win_cfg_role, 2, 0), (.fmem_win_cfg_writable, 2, 1), (.fmem_win_src_src_limit, 2, 0xFFFFFF), (.sched_echo_ctrl_echo_enable, 0, 0)]).dev with dma := ⟨[(2, { prog := 64, move := some ({ src := 4096, dst := 3221229568, len := 8, shuf := 0, inv := false, srcSp := 0, dstSp := 1, par := 0, next := 1, bursts := [(0, 0)] }) })]⟩, reads := [{ purpose := .dmaBurst 2 0, req := 0x3002, addr := 4096, ext := true }] } }).dev.frole
        ((({ upState [(.dma_ch_status_state, 2, 1), (.fmem_win_state_state, 2, 2), (.fmem_win_cfg_window, 2, 3), (.fmem_win_cfg_role, 2, 0), (.fmem_win_cfg_writable, 2, 1), (.fmem_win_src_src_limit, 2, 0xFFFFFF), (.sched_echo_ctrl_echo_enable, 0, 0)] with dev := { (upState [(.dma_ch_status_state, 2, 1), (.fmem_win_state_state, 2, 2), (.fmem_win_cfg_window, 2, 3), (.fmem_win_cfg_role, 2, 0), (.fmem_win_cfg_writable, 2, 1), (.fmem_win_src_src_limit, 2, 0xFFFFFF), (.sched_echo_ctrl_echo_enable, 0, 0)]).dev with dma := ⟨[(2, { prog := 64, move := some ({ src := 4096, dst := 3221229568, len := 8, shuf := 0, inv := false, srcSp := 0, dstSp := 1, par := 0, next := 1, bursts := [(0, 0)] }) })]⟩, reads := [{ purpose := .dmaBurst 2 0, req := 0x3002, addr := 4096, ext := true }] } }).dev.winHolder
        (faWindow
        ({ src := 4096, dst := 3221229568, len := 8, shuf := 0, inv := false, srcSp := 0, dstSp := 1, par := 0, next := 1, bursts := [(0, 0)] }
        : DmaMove).dst)).getD 0) = 0 ∧
        ({ upState [(.dma_ch_status_state, 2, 1), (.fmem_win_state_state, 2, 2), (.fmem_win_cfg_window, 2, 3), (.fmem_win_cfg_role, 2, 0), (.fmem_win_cfg_writable, 2, 1), (.fmem_win_src_src_limit, 2, 0xFFFFFF), (.sched_echo_ctrl_echo_enable, 0, 0)] with dev := { (upState [(.dma_ch_status_state, 2, 1), (.fmem_win_state_state, 2, 2), (.fmem_win_cfg_window, 2, 3), (.fmem_win_cfg_role, 2, 0), (.fmem_win_cfg_writable, 2, 1), (.fmem_win_src_src_limit, 2, 0xFFFFFF), (.sched_echo_ctrl_echo_enable, 0, 0)]).dev with dma := ⟨[(2, { prog := 64, move := some ({ src := 4096, dst := 3221229568, len := 8, shuf := 0, inv := false, srcSp := 0, dstSp := 1, par := 0, next := 1, bursts := [(0, 0)] }) })]⟩, reads := [{ purpose := .dmaBurst 2 0, req := 0x3002, addr := 4096, ext := true }] } }).dev.chanFailed
        ((({ upState [(.dma_ch_status_state, 2, 1), (.fmem_win_state_state, 2, 2), (.fmem_win_cfg_window, 2, 3), (.fmem_win_cfg_role, 2, 0), (.fmem_win_cfg_writable, 2, 1), (.fmem_win_src_src_limit, 2, 0xFFFFFF), (.sched_echo_ctrl_echo_enable, 0, 0)] with dev := { (upState [(.dma_ch_status_state, 2, 1), (.fmem_win_state_state, 2, 2), (.fmem_win_cfg_window, 2, 3), (.fmem_win_cfg_role, 2, 0), (.fmem_win_cfg_writable, 2, 1), (.fmem_win_src_src_limit, 2, 0xFFFFFF), (.sched_echo_ctrl_echo_enable, 0, 0)]).dev with dma := ⟨[(2, { prog := 64, move := some ({ src := 4096, dst := 3221229568, len := 8, shuf := 0, inv := false, srcSp := 0, dstSp := 1, par := 0, next := 1, bursts := [(0, 0)] }) })]⟩, reads := [{ purpose := .dmaBurst 2 0, req := 0x3002, addr := 4096, ext := true }] } }).dev.winHolder
        (faWindow
        ({ src := 4096, dst := 3221229568, len := 8, shuf := 0, inv := false, srcSp := 0, dstSp := 1, par := 0, next := 1, bursts := [(0, 0)] }
        : DmaMove).dst)).getD 0 * 2 ^ 30 + faOffset
        ({ src := 4096, dst := 3221229568, len := 8, shuf := 0, inv := false, srcSp := 0, dstSp := 1, par := 0, next := 1, bursts := [(0, 0)] }
        : DmaMove).dst + (0 : Nat)) ([1, 2, 3, 4, 5, 6, 7, 8] : List Nat).length = false) ∧
    ((({ upState [(.dma_ch_status_state, 2, 1)] with dev := { (upState [(.dma_ch_status_state, 2, 1)]).dev with dma := ⟨[(2, { prog := 64, move := some ({ src := 4096, dst := 8192, len := 8, shuf := 0, inv := false, srcSp := 0, dstSp := 0, par := 0, next := 1, bursts := [(0, 1)] }) })]⟩, reads := [{ purpose := .dmaBurst 2 0, req := 0x3002, addr := 4096, ext := true }] } }).dev.chan
        (2 : Fin 32)).move = some
        ({ src := 4096, dst := 8192, len := 8, shuf := 0, inv := false, srcSp := 0, dstSp := 0, par := 0, next := 1, bursts := [(0, 1)] }
        : DmaMove) ∧
        ({ src := 4096, dst := 8192, len := 8, shuf := 0, inv := false, srcSp := 0, dstSp := 0, par := 0, next := 1, bursts := [(0, 1)] }
        : DmaMove).bursts.find? (fun (b : Nat × Nat) => b.1 == (0 : BitVec 32).toNat) = some ((0 : BitVec 32).toNat, 1)) ∧
    (({ src := 4096, dst := 8192, len := 8, shuf := 0, inv := false, srcSp := 0, dstSp := 0, par := 0, next := 1, bursts := [(0, 1)] }
        : DmaMove).dstSp = spKCL ∧ (some [] : Option (List Byte)) ≠ none) ∧
    (({ src := 4096, dst := 8192, len := 8, shuf := 0, inv := false, srcSp := 0, dstSp := 0, par := 0, next := 1, bursts := [(0, 0)] }
        : DmaMove).srcSp = spKCL ∧
        ({ upState [(.dma_ch_status_state, 2, 1)] with dev := { (upState [(.dma_ch_status_state, 2, 1)]).dev with dma := ⟨[(2, { prog := 64, move := some ({ src := 4096, dst := 8192, len := 8, shuf := 0, inv := false, srcSp := 0, dstSp := 0, par := 0, next := 1, bursts := [(0, 0)] }) })]⟩, reads := [{ purpose := .dmaBurst 2 0, req := 0x3002, addr := 4096, ext := true }] } }).dev.chanState
        (2 : Fin 32) = dcRUNNING ∧ (none : Option (List Byte)) = none) ∧
    (({ src := 4096, dst := 8192, len := 8, shuf := 0, inv := false, srcSp := 0, dstSp := 0, par := 0, next := 1, bursts := [(0, 1)] }
        : DmaMove).dstSp = spKCL ∧ (none : Option (List Byte)) = none) ∧
    (({ upState [(.dma_ch_status_state, 2, 1)] with dev := { (upState [(.dma_ch_status_state, 2, 1)]).dev with dma := ⟨[(2, { prog := 64, ended := true })]⟩ } }).dev.chanState
        (2 : Fin 32) = dcRUNNING ∧
        (({ upState [(.dma_ch_status_state, 2, 1)] with dev := { (upState [(.dma_ch_status_state, 2, 1)]).dev with dma := ⟨[(2, { prog := 64, ended := true })]⟩ } }).dev.chan
        (2 : Fin 32)).ended = true ∧
        (({ upState [(.dma_ch_status_state, 2, 1)] with dev := { (upState [(.dma_ch_status_state, 2, 1)]).dev with dma := ⟨[(2, { prog := 64, ended := true })]⟩ } }).dev.chan
        (2 : Fin 32)).move = none) ∧
    ((({ upState [(.dma_ch_status_state, 2, 2)] with dev := { (upState [(.dma_ch_status_state, 2, 2)]).dev with dma := ⟨[(2, { prog := 64, fault := some ({ cause := 8, addr := 64, space := 0, dir := 2 }) })]⟩ } }).dev.chan
        (2 : Fin 32)).fault = some ({ cause := 8, addr := 64, space := 0, dir := 2 } : DmaFault) ∧
        (({ upState [(.dma_ch_status_state, 2, 2)] with dev := { (upState [(.dma_ch_status_state, 2, 2)]).dev with dma := ⟨[(2, { prog := 64, fault := some ({ cause := 8, addr := 64, space := 0, dir := 2 }) })]⟩ } }).dev.chanState
        (2 : Fin 32) = dcRUNNING ∨
        ({ upState [(.dma_ch_status_state, 2, 2)] with dev := { (upState [(.dma_ch_status_state, 2, 2)]).dev with dma := ⟨[(2, { prog := 64, fault := some ({ cause := 8, addr := 64, space := 0, dir := 2 }) })]⟩ } }).dev.chanState
        (2 : Fin 32) = dcWAITING) ∧
        (({ upState [(.dma_ch_status_state, 2, 2)] with dev := { (upState [(.dma_ch_status_state, 2, 2)]).dev with dma := ⟨[(2, { prog := 64, fault := some ({ cause := 8, addr := 64, space := 0, dir := 2 }) })]⟩ } }).dev.chan
        (2 : Fin 32)).outstanding = 0 ∧
        ({ upState [(.dma_ch_status_state, 2, 2)] with dev := { (upState [(.dma_ch_status_state, 2, 2)]).dev with dma := ⟨[(2, { prog := 64, fault := some ({ cause := 8, addr := 64, space := 0, dir := 2 }) })]⟩ } }).dev.flag
        .dma_ch_ctrl_halt_mode (2 : Fin 32) = false) ∧
    ((({ upState [(.dma_ch_status_state, 2, 2), (.dma_ch_ctrl_halt_mode, 2, 1)] with dev := { (upState [(.dma_ch_status_state, 2, 2), (.dma_ch_ctrl_halt_mode, 2, 1)]).dev with dma := ⟨[(2, { prog := 64, fault := some ({ cause := 8, addr := 64, space := 0, dir := 2 }) })]⟩ } }).dev.chan
        (2 : Fin 32)).fault = some ({ cause := 8, addr := 64, space := 0, dir := 2 } : DmaFault) ∧
        (({ upState [(.dma_ch_status_state, 2, 2), (.dma_ch_ctrl_halt_mode, 2, 1)] with dev := { (upState [(.dma_ch_status_state, 2, 2), (.dma_ch_ctrl_halt_mode, 2, 1)]).dev with dma := ⟨[(2, { prog := 64, fault := some ({ cause := 8, addr := 64, space := 0, dir := 2 }) })]⟩ } }).dev.chanState
        (2 : Fin 32) = dcRUNNING ∨
        ({ upState [(.dma_ch_status_state, 2, 2), (.dma_ch_ctrl_halt_mode, 2, 1)] with dev := { (upState [(.dma_ch_status_state, 2, 2), (.dma_ch_ctrl_halt_mode, 2, 1)]).dev with dma := ⟨[(2, { prog := 64, fault := some ({ cause := 8, addr := 64, space := 0, dir := 2 }) })]⟩ } }).dev.chanState
        (2 : Fin 32) = dcWAITING) ∧
        (({ upState [(.dma_ch_status_state, 2, 2), (.dma_ch_ctrl_halt_mode, 2, 1)] with dev := { (upState [(.dma_ch_status_state, 2, 2), (.dma_ch_ctrl_halt_mode, 2, 1)]).dev with dma := ⟨[(2, { prog := 64, fault := some ({ cause := 8, addr := 64, space := 0, dir := 2 }) })]⟩ } }).dev.chan
        (2 : Fin 32)).outstanding = 0 ∧
        ({ upState [(.dma_ch_status_state, 2, 2), (.dma_ch_ctrl_halt_mode, 2, 1)] with dev := { (upState [(.dma_ch_status_state, 2, 2), (.dma_ch_ctrl_halt_mode, 2, 1)]).dev with dma := ⟨[(2, { prog := 64, fault := some ({ cause := 8, addr := 64, space := 0, dir := 2 }) })]⟩ } }).dev.flag
        .dma_ch_ctrl_halt_mode (2 : Fin 32) = true) ∧
    ((({ upState [(.dma_ch_status_state, 2, 1)] with dev := { (upState [(.dma_ch_status_state, 2, 1)]).dev with dma := ⟨[(2, { prog := 64, fault := some ({ cause := 8, addr := 64, space := 0, dir := 2 }), move := some ({ src := 4096, dst := 8192, len := 8, shuf := 0, inv := false, srcSp := 0, dstSp := 0, par := 0, next := 1, bursts := [(0, 1)] }) })]⟩ } }).dev.chan
        (2 : Fin 32)).fault = some ({ cause := 8, addr := 64, space := 0, dir := 2 } : DmaFault) ∧
        (({ upState [(.dma_ch_status_state, 2, 1)] with dev := { (upState [(.dma_ch_status_state, 2, 1)]).dev with dma := ⟨[(2, { prog := 64, fault := some ({ cause := 8, addr := 64, space := 0, dir := 2 }), move := some ({ src := 4096, dst := 8192, len := 8, shuf := 0, inv := false, srcSp := 0, dstSp := 0, par := 0, next := 1, bursts := [(0, 1)] }) })]⟩ } }).dev.chan
        (2 : Fin 32)).outstanding ≠ 0) ∧
    (({ upState [(.dma_ch_status_state, 2, 4), (.dma_ch_status_cause, 2, 9)] with dev := { (upState [(.dma_ch_status_state, 2, 4), (.dma_ch_status_cause, 2, 9)]).dev with dma := ⟨[(2, { prog := 64 })]⟩ } }).dev.chanState
        (2 : Fin 32) = dcABORTING ∧
        (({ upState [(.dma_ch_status_state, 2, 4), (.dma_ch_status_cause, 2, 9)] with dev := { (upState [(.dma_ch_status_state, 2, 4), (.dma_ch_status_cause, 2, 9)]).dev with dma := ⟨[(2, { prog := 64 })]⟩ } }).dev.chan
        (2 : Fin 32)).outstanding = 0) := by
  refine ⟨?_, ?_, ?_, ?_, ?_, ?_, ?_, ?_, ?_, ?_, ?_, ?_, ?_, ?_, ?_, ?_⟩ <;>
    decide +kernel

/-- States and operands that meet the premises of `Obligations.CountersWindowsAndRecords`, clause by clause. -/
theorem witness_CountersWindowsAndRecords :
    (((upState [(.perf_snap_ctrl_snap_src, 0, 1), (.perf_pmc_count, 80, 9)])).dev.snapDue.2 ≠ 0 ∧ ((upState
        [(.perf_snap_ctrl_snap_src, 0, 1), (.perf_pmc_count, 80, 9)])).dev.domainOn 1 = true ∧ ((upState
        [(.perf_snap_ctrl_snap_src, 0, 1), (.perf_pmc_count, 80, 9)])).dev.flag .perf_dump_status_busy = false ∧ ((upState
        [(.perf_snap_ctrl_snap_src, 0, 1), (.perf_pmc_count, 80, 9)])).dev.flag .perf_snap_ctrl_dump_en = false) ∧
    (((upState [])).dev.snapDue.2 = 0) ∧
    (((upState [])).dev.accepts (.snapNow (.fabric : Mark) (0 : Word)) = true) ∧
    (((upState [])).dev.domainOn 1 = true ∧ ((upState [])).dev.flag .perf_dump_status_busy = false ∧ bit (0 : Word).toNat 1 =
        false) ∧
    (((upState [(.perf_dump_status_busy, 0, 1)])).dev.accepts (.snapNow (.fabric : Mark) (0 : Word)) = true) ∧
    (((upState [(.perf_dump_status_busy, 0, 1)])).dev.domainOn 1 = true ∧ ((upState [(.perf_dump_status_busy, 0, 1)])).dev.flag
        .perf_dump_status_busy = true) ∧
    (({ upState [(.perf_dump_status_busy, 0, 1)] with dev := { (upState [(.perf_dump_status_busy, 0, 1)]).dev with dumpRecs := [[5, 6, 7, 8, 9, 10, 11, 12], [13]] } }).dev.dumpRecs
        = ([5, 6, 7, 8, 9, 10, 11, 12] : List Nat) :: ([[13]] : List (List Nat)) ∧
        ({ upState [(.perf_dump_status_busy, 0, 1)] with dev := { (upState [(.perf_dump_status_busy, 0, 1)]).dev with dumpRecs := [[5, 6, 7, 8, 9, 10, 11, 12], [13]] } }).dev.get
        .h_dump_t -
        ({ upState [(.perf_dump_status_busy, 0, 1)] with dev := { (upState [(.perf_dump_status_busy, 0, 1)]).dev with dumpRecs := [[5, 6, 7, 8, 9, 10, 11, 12], [13]] } }).dev.get
        .h_dump_head < 2 ^
        ({ upState [(.perf_dump_status_busy, 0, 1)] with dev := { (upState [(.perf_dump_status_busy, 0, 1)]).dev with dumpRecs := [[5, 6, 7, 8, 9, 10, 11, 12], [13]] } }).dev.get
        .perf_dump_cfg_dump_size_log2) ∧
    (2 ^ ((upState [(.h_dump_t, 0, 2147483648), (.h_dump_head, 0, 0)])).dev.get .perf_dump_cfg_dump_size_log2 ≤ ((upState
        [(.h_dump_t, 0, 2147483648), (.h_dump_head, 0, 0)])).dev.get .h_dump_t - ((upState [(.h_dump_t, 0, 2147483648),
        (.h_dump_head, 0, 0)])).dev.get .h_dump_head) ∧
    (((upState [(.perf_win_ctrl_window_us, 0, 100), (.h_win_rx_bytes, 5, 77), (.sys_pd_status_on, 0, 0xFFFFB)])).dev.get
        .perf_win_ctrl_window_us ≠ 0) ∧
    (({ upState [(.ras_status_next_seq, 0, 4000)] with dev := { (upState [(.ras_status_next_seq, 0, 4000)]).dev with fifo := [({ code := .RAS_LOST, sev := 4, degraded := false, path := 7, time := 9, seq := 0 } : Rec)] } }).dev.flag
        .h_ras_lost_due = false ∧
        ({ upState [(.ras_status_next_seq, 0, 4000)] with dev := { (upState [(.ras_status_next_seq, 0, 4000)]).dev with fifo := [({ code := .RAS_LOST, sev := 4, degraded := false, path := 7, time := 9, seq := 0 } : Rec)] } }).dev.fifo
        = (({ code := .RAS_LOST, sev := 4, degraded := false, path := 7, time := 9, seq := 0 } : Rec) : Rec) :: ([] : List Rec)
        ∧ 4 ≤ (({ code := .RAS_LOST, sev := 4, degraded := false, path := 7, time := 9, seq := 0 } : Rec) : Rec).sev ∧
        ({ upState [(.ras_status_next_seq, 0, 4000)] with dev := { (upState [(.ras_status_next_seq, 0, 4000)]).dev with fifo := [({ code := .RAS_LOST, sev := 4, degraded := false, path := 7, time := 9, seq := 0 } : Rec)] } }).dev.keep.length
        < 256) ∧
    (((upState [])).dev.flag .h_ras_lost_due = false ∧ ((upState [])).dev.fifo = []) ∧
    (({ upState [] with dev := { (upState []).dev with limits := [{ code := .RAS_LOST, path := 7, folded := 4, last := some ({ code := .RAS_LOST, sev := 4, degraded := false, path := 7, time := 9, seq := 0 } : Rec) }] } }).dev.limits
        =
        ({ code := .RAS_LOST, path := 7, folded := 4, last := some ({ code := .RAS_LOST, sev := 4, degraded := false, path := 7, time := 9, seq := 0 } : Rec) }
        : RateSlot) :: ([] : List RateSlot) ∧
        ({ code := .RAS_LOST, path := 7, folded := 4, last := some ({ code := .RAS_LOST, sev := 4, degraded := false, path := 7, time := 9, seq := 0 } : Rec) }
        : RateSlot).last = some (({ code := .RAS_LOST, sev := 4, degraded := false, path := 7, time := 9, seq := 0 } : Rec) :
        Rec)) ∧
    (({ upState [] with dev := { (upState []).dev with limits := [{ code := .RAS_LOST, path := 7 }] } }).dev.limits =
        ({ code := .RAS_LOST, path := 7 } : RateSlot) :: ([] : List RateSlot) ∧ ({ code := .RAS_LOST, path := 7 } :
        RateSlot).last = none) ∧
    (({ upState [] with dev := { (upState []).dev with keep := [({ code := .RAS_LOST, sev := 4, degraded := false, path := 7, time := 9, seq := 0 } : Rec)], keepStore := [({ code := .RAS_LOST, sev := 4, degraded := false, path := 7, time := 9, seq := 0 } : Rec)] } }).dev.accepts
        (.rasKeepClear (.fabric : Mark) (0x5100 : Word)) = true) ∧
    (((upState [(.ras_trace_bin_bin, 5, 9)])).dev.accepts (.rasTraceCfgWrite (.fabric : Mark) (0x803C0A0110030104 : Word)) =
        true) ∧
    (({ upState [] with dev := { (upState []).dev with ringPend := [({ code := .RAS_LOST, sev := 4, degraded := false, path := 7, time := 9, seq := 0 } : Rec)] } }).dev.ringPend
        = (({ code := .RAS_LOST, sev := 4, degraded := false, path := 7, time := 9, seq := 0 } : Rec) : Rec) :: ([] : List Rec)
        ∧ (true : Bool) = true) ∧
    (({ upState [] with dev := { (upState []).dev with ringPend := [({ code := .RAS_LOST, sev := 4, degraded := false, path := 7, time := 9, seq := 0 } : Rec)] } }).dev.ringPend
        = (({ code := .RAS_LOST, sev := 4, degraded := false, path := 7, time := 9, seq := 0 } : Rec) : Rec) :: ([] : List Rec)
        ∧ (false : Bool) = false) := by
  refine ⟨?_, ?_, ?_, ?_, ?_, ?_, ?_, ?_, ?_, ?_, ?_, ?_, ?_, ?_, ?_, ?_, ?_⟩ <;>
    decide +kernel

/-- States and operands that meet the premises of `Obligations.ResetsAndTheBoot`, clause by clause. -/
theorem witness_ResetsAndTheBoot :
    (({ { upState [(.port_cfg_role, 5, 1)] with dev := { (upState [(.port_cfg_role, 5, 1)]).dev with frames := [{ id := 9, input := 3, hdr := { ftype := 1, cls := 5, order := 1, hops := 1, dst := 0x100, src := 0x200, entropy := 7, length := 3 }, payload := [1, 2, 3], complete := true, arrival := some 3 }], sent := [] } } with mem := ⟨[(5, 7)]⟩ }).dev.flag
        .h_porst = false) ∧
    (((upState [(.h_porst, 0, 1)])).dev.flag .h_porst = true) ∧
    (({ { upState [(.port_cfg_role, 5, 1), (.csq_q_cfg_enable, 3, 1)] with dev := { (upState [(.port_cfg_role, 5, 1), (.csq_q_cfg_enable, 3, 1)]).dev with frames := [{ id := 9, input := 3, hdr := { ftype := 1, cls := 5, order := 1, hops := 1, dst := 0x100, src := 0x200, entropy := 7, length := 3 }, payload := [1, 2, 3], complete := true, arrival := some 3 }] } } with mem := ⟨[(5, 7)]⟩ }).dev.flag
        .h_porst = false) ∧
    (((upState [])).dev.accepts (.sysResetNop (.fabric : Mark) (0xA5A5 : BitVec 16)) = true) ∧
    (((upState [(.csq_q_cfg_enable, 3, 1)])).dev.accepts (.sysResetWarm (.fabric : Mark) (0xA5A5 : BitVec 16)) = true) ∧
    ((0xA5A5 : BitVec 16) = 0xA5A5 ∧ ((upState [(.csq_q_cfg_enable, 3, 1)])).dev.flag .h_porst = false) ∧
    (((upState [])).dev.accepts (.sysResetWarm (.fabric : Mark) (0xA5A4 : BitVec 16)) = true) ∧
    ((0xA5A4 : BitVec 16) ≠ 0xA5A5) ∧
    (((upState [])).dev.accepts (.sysResetCold (.fabric : Mark) (0xA5A5 : BitVec 16)) = true) ∧
    ((0xA5A5 : BitVec 16) = 0xA5A5 ∧ ((upState [])).dev.flag .h_porst = false) ∧
    (((upState [])).dev.accepts (.sysResetCold (.fabric : Mark) (0xA5A4 : BitVec 16)) = true) ∧
    (1 ≤ ((upState [(.sys_boot_status_stage, 0, 3)])).dev.stage ∧ ((upState [(.sys_boot_status_stage, 0, 3)])).dev.stage ≤ 4 ∧
        ((upState [(.sys_boot_status_stage, 0, 3)])).dev.flag .h_boot_stop = false ∧ ((upState [(.sys_boot_status_stage, 0,
        3)])).dev.flag .h_porst = false) ∧
    (((upState [(.sys_boot_status_trial, 0, 1), (.sec_boot_ctrl_confirm_timeout_s, 0, 600)])).dev.ready = true ∧ ((upState
        [(.sys_boot_status_trial, 0, 1), (.sec_boot_ctrl_confirm_timeout_s, 0, 600)])).dev.flag .sys_boot_status_trial = true ∧
        ((upState [(.sys_boot_status_trial, 0, 1), (.sec_boot_ctrl_confirm_timeout_s, 0, 600)])).dev.get
        .sec_boot_ctrl_confirm_timeout_s ≠ 0 ∧ ((upState [(.sys_boot_status_trial, 0, 1), (.sec_boot_ctrl_confirm_timeout_s, 0,
        600)])).dev.flag .h_porst = false) ∧
    (((upState [(.sys_boot_status_stage, 0, 0)])).dev.stage = 0 ∧ ((upState [(.sys_boot_status_stage, 0, 0)])).dev.flag .h_porst
        = false ∧ ((upState [(.sys_boot_status_stage, 0, 0)])).dev.flag .h_trip = false ∧ ((upState [(.sys_boot_status_stage, 0,
        0)])).dev.get .h_rail_out = 0 ∧ ((upState [(.sys_boot_status_stage, 0, 0)])).dev.flag .h_boot_stop = false ∧ ((upState
        [(.sys_boot_status_stage, 0, 0)])).dev.romCold = false) ∧
    (slice (5 : BitVec 4).toNat 0 2 < 2) ∧
    (2 ≤ slice (2 : BitVec 4).toNat 0 2) ∧
    (((upState [(.sys_boot_status_stage, 0, 1)])).dev.stage = 1 ∧ ((upState [(.sys_boot_status_stage, 0, 1)])).dev.flag
        .h_boot_stop = false ∧ ((upState [(.sys_boot_status_stage, 0, 1)])).dev.get .sys_straps_boot_src ≠ 1 ∧ ((upState
        [(.sys_boot_status_stage, 0, 1)])).dev.flag .sys_straps_slot_force_en = false ∧ ((upState [(.sys_boot_status_stage, 0,
        1)])).dev.flag .p_trial = false) ∧
    (((upState [(.sys_boot_status_stage, 0, 1)])).dev.bitOf .h_boot_fail 0 (((upState [(.sys_boot_status_stage, 0, 1)])).dev.get
        .p_pref) = false ∧ ((upState [(.sys_boot_status_stage, 0, 1)])).dev.get .h_boot_wd < 3) ∧
    (((upState [(.sys_boot_status_stage, 0, 1), (.h_boot_fail, 0, 3)])).dev.stage = 1 ∧ ((upState [(.sys_boot_status_stage, 0,
        1), (.h_boot_fail, 0, 3)])).dev.flag .h_boot_stop = false ∧ ((upState [(.sys_boot_status_stage, 0, 1), (.h_boot_fail, 0,
        3)])).dev.get .sys_straps_boot_src ≠ 1 ∧ ((upState [(.sys_boot_status_stage, 0, 1), (.h_boot_fail, 0,
        3)])).dev.slotChoice = none) ∧
    (((upState [(.sys_boot_status_stage, 0, 1), (.sys_straps_boot_src, 0, 1)])).dev.stage = 1 ∧ ((upState
        [(.sys_boot_status_stage, 0, 1), (.sys_straps_boot_src, 0, 1)])).dev.flag .h_boot_stop = false ∧ ((upState
        [(.sys_boot_status_stage, 0, 1), (.sys_straps_boot_src, 0, 1)])).dev.get .sys_straps_boot_src = 1 ∧ ((upState
        [(.sys_boot_status_stage, 0, 1), (.sys_straps_boot_src, 0, 1)])).dev.flag .sec_boot_ctrl_go = false) ∧
    (((upState [(.sys_boot_status_stage, 0, 1), (.sys_straps_boot_src, 0, 1), (.sec_boot_ctrl_go, 0, 1),
        (.sys_straps_slot_force_en, 0, 1), (.sys_straps_slot_force, 0, 1)])).dev.stage = 1 ∧ ((upState [(.sys_boot_status_stage,
        0, 1), (.sys_straps_boot_src, 0, 1), (.sec_boot_ctrl_go, 0, 1), (.sys_straps_slot_force_en, 0, 1),
        (.sys_straps_slot_force, 0, 1)])).dev.flag .h_boot_stop = false ∧ ((upState [(.sys_boot_status_stage, 0, 1),
        (.sys_straps_boot_src, 0, 1), (.sec_boot_ctrl_go, 0, 1), (.sys_straps_slot_force_en, 0, 1), (.sys_straps_slot_force, 0,
        1)])).dev.get .sys_straps_boot_src = 1 ∧ ((upState [(.sys_boot_status_stage, 0, 1), (.sys_straps_boot_src, 0, 1),
        (.sec_boot_ctrl_go, 0, 1), (.sys_straps_slot_force_en, 0, 1), (.sys_straps_slot_force, 0, 1)])).dev.flag
        .sec_boot_ctrl_go = true ∧ ((upState [(.sys_boot_status_stage, 0, 1), (.sys_straps_boot_src, 0, 1), (.sec_boot_ctrl_go,
        0, 1), (.sys_straps_slot_force_en, 0, 1), (.sys_straps_slot_force, 0, 1)])).dev.flag .sys_straps_slot_force_en = true) ∧
    (((upState [(.sys_boot_status_stage, 0, 1), (.sys_straps_boot_src, 0, 1), (.sec_boot_ctrl_go, 0, 1),
        (.sys_straps_slot_force_en, 0, 1), (.sys_straps_slot_force, 0, 1)])).dev.bitOf .h_boot_fail 0 (((upState
        [(.sys_boot_status_stage, 0, 1), (.sys_straps_boot_src, 0, 1), (.sec_boot_ctrl_go, 0, 1), (.sys_straps_slot_force_en, 0,
        1), (.sys_straps_slot_force, 0, 1)])).dev.get .sys_straps_slot_force) = false) ∧
    (({ (upState [(.sys_boot_status_stage, 0, 2)]) with fuses := { svn := 2, ecdsaKeys := 6, lmsKeys := 6 } }).dev.stage = 2 ∧
        (some
        { magicOk := true, ecdsaKey := 1, lmsKey := 2, keyHashOk := true, svn := 3, ecdsaOk := true, lmsOk := true, bodyOk := true, linkRev := 7, version := 9 }
        : Option ImageInfo) = some
        ({ magicOk := true, ecdsaKey := 1, lmsKey := 2, keyHashOk := true, svn := 3, ecdsaOk := true, lmsOk := true, bodyOk := true, linkRev := 7, version := 9 }
        : ImageInfo)) ∧
    (({ magicOk := true, ecdsaKey := 1, lmsKey := 2, keyHashOk := true, svn := 3, ecdsaOk := true, lmsOk := true, bodyOk := true, linkRev := 7, version := 9 }
        : ImageInfo).magicOk = true ∧
        ({ magicOk := true, ecdsaKey := 1, lmsKey := 2, keyHashOk := true, svn := 3, ecdsaOk := true, lmsOk := true, bodyOk := true, linkRev := 7, version := 9 }
        : ImageInfo).ecdsaKey.toNat ≤ 3 ∧
        ({ magicOk := true, ecdsaKey := 1, lmsKey := 2, keyHashOk := true, svn := 3, ecdsaOk := true, lmsOk := true, bodyOk := true, linkRev := 7, version := 9 }
        : ImageInfo).lmsKey.toNat ≤ 3 ∧ bit
        ({ (upState [(.sys_boot_status_stage, 0, 2)]) with fuses := { svn := 2, ecdsaKeys := 6, lmsKeys := 6 } }).fuses.ecdsaKeys
        ({ magicOk := true, ecdsaKey := 1, lmsKey := 2, keyHashOk := true, svn := 3, ecdsaOk := true, lmsOk := true, bodyOk := true, linkRev := 7, version := 9 }
        : ImageInfo).ecdsaKey.toNat = true ∧ bit
        ({ (upState [(.sys_boot_status_stage, 0, 2)]) with fuses := { svn := 2, ecdsaKeys := 6, lmsKeys := 6 } }).fuses.lmsKeys
        ({ magicOk := true, ecdsaKey := 1, lmsKey := 2, keyHashOk := true, svn := 3, ecdsaOk := true, lmsOk := true, bodyOk := true, linkRev := 7, version := 9 }
        : ImageInfo).lmsKey.toNat = true ∧ bit
        ({ (upState [(.sys_boot_status_stage, 0, 2)]) with fuses := { svn := 2, ecdsaKeys := 6, lmsKeys := 6 } }).fuses.ecdsaRevoked
        ({ magicOk := true, ecdsaKey := 1, lmsKey := 2, keyHashOk := true, svn := 3, ecdsaOk := true, lmsOk := true, bodyOk := true, linkRev := 7, version := 9 }
        : ImageInfo).ecdsaKey.toNat = false ∧ bit
        ({ (upState [(.sys_boot_status_stage, 0, 2)]) with fuses := { svn := 2, ecdsaKeys := 6, lmsKeys := 6 } }).fuses.lmsRevoked
        ({ magicOk := true, ecdsaKey := 1, lmsKey := 2, keyHashOk := true, svn := 3, ecdsaOk := true, lmsOk := true, bodyOk := true, linkRev := 7, version := 9 }
        : ImageInfo).lmsKey.toNat = false ∧
        ({ magicOk := true, ecdsaKey := 1, lmsKey := 2, keyHashOk := true, svn := 3, ecdsaOk := true, lmsOk := true, bodyOk := true, linkRev := 7, version := 9 }
        : ImageInfo).keyHashOk = true ∧
        ({ (upState [(.sys_boot_status_stage, 0, 2)]) with fuses := { svn := 2, ecdsaKeys := 6, lmsKeys := 6 } }).fuses.svn ≤
        ({ magicOk := true, ecdsaKey := 1, lmsKey := 2, keyHashOk := true, svn := 3, ecdsaOk := true, lmsOk := true, bodyOk := true, linkRev := 7, version := 9 }
        : ImageInfo).svn.toNat ∧
        ({ magicOk := true, ecdsaKey := 1, lmsKey := 2, keyHashOk := true, svn := 3, ecdsaOk := true, lmsOk := true, bodyOk := true, linkRev := 7, version := 9 }
        : ImageInfo).svn.toNat ≤ 128 ∧
        ({ magicOk := true, ecdsaKey := 1, lmsKey := 2, keyHashOk := true, svn := 3, ecdsaOk := true, lmsOk := true, bodyOk := true, linkRev := 7, version := 9 }
        : ImageInfo).ecdsaOk = true ∧
        ({ magicOk := true, ecdsaKey := 1, lmsKey := 2, keyHashOk := true, svn := 3, ecdsaOk := true, lmsOk := true, bodyOk := true, linkRev := 7, version := 9 }
        : ImageInfo).lmsOk = true) ∧
    (((upState [(.sys_boot_status_stage, 0, 2)])).dev.stage = 2 ∧ imageReason ((upState [(.sys_boot_status_stage, 0, 2)])).fuses
        false (none : Option ImageInfo) ≠ 0) ∧
    (((upState [(.sys_boot_status_stage, 0, 3), (.h_load_img, 0, 77)])).dev.stage = 3 ∧ (true : Bool) = true ∧ (true : Bool) =
        true) ∧
    (((upState [(.sys_boot_status_stage, 0, 3)])).dev.stage = 3 ∧ (true : Bool) = true ∧ (false : Bool) = false) ∧
    (((upState [(.sys_boot_status_stage, 0, 3)])).dev.stage = 3 ∧ (false : Bool) = false) ∧
    (({ upState [(.sys_boot_status_stage, 0, 4)] with dev := { (upState [(.sys_boot_status_stage, 0, 4)]).dev with keepStore := [({ code := .RAS_LOST, sev := 4, degraded := false, path := 7, time := 9, seq := 0 } : Rec)] } }).dev.stage
        = 4 ∧
        ({ upState [(.sys_boot_status_stage, 0, 4)] with dev := { (upState [(.sys_boot_status_stage, 0, 4)]).dev with keepStore := [({ code := .RAS_LOST, sev := 4, degraded := false, path := 7, time := 9, seq := 0 } : Rec)] } }).dev.get
        .sys_reset_info_last_level ≠ 2) ∧
    (((upState [])).dev.accepts (.kclBootGo (.fabric : Mark) (0x07D0025800000000 : Word)) = true) := by
  refine ⟨?_, ?_, ?_, ?_, ?_, ?_, ?_, ?_, ?_, ?_, ?_, ?_, ?_, ?_, ?_, ?_, ?_, ?_, ?_, ?_, ?_, ?_, ?_, ?_, ?_, ?_, ?_, ?_, ?_,
      ?_⟩ <;>
    decide +kernel

/-- States and operands that meet the premises of `Obligations.SecurityCommands`, clause by clause. -/
theorem witness_SecurityCommands :
    (((upState [])).dev.accepts (.secCmdNop (.fabric : Mark) (0 : BitVec 60)) = true) ∧
    (((upState [(.h_run_valid, 0, 1)])).dev.accepts (.secCmdWrite (.fabric : Mark) (0x0100000000000000 : BitVec 60)) = true) ∧
    (((upState [(.h_run_valid, 0, 1)])).dev.flag .sec_cmd_status_busy = false ∧ ((upState [(.h_run_valid, 0, 1)])).dev.slotRuns
        (slice (0x0100000000000000 : BitVec 60).toNat 56 1) = false ∧ ((upState [(.h_run_valid, 0, 1)])).dev.get
        .sys_straps_boot_src ≠ 1) ∧
    (((upState [(.h_run_valid, 0, 1), (.sys_straps_boot_src, 0, 1)])).dev.accepts (.secCmdWrite (.fabric : Mark)
        (0x0100000000000000 : BitVec 60)) = true) ∧
    (((upState [(.h_run_valid, 0, 1), (.sys_straps_boot_src, 0, 1)])).dev.flag .sec_cmd_status_busy = false ∧ ((upState
        [(.h_run_valid, 0, 1), (.sys_straps_boot_src, 0, 1)])).dev.slotRuns (slice (0x0100000000000000 : BitVec 60).toNat 56 1)
        = false ∧ ((upState [(.h_run_valid, 0, 1), (.sys_straps_boot_src, 0, 1)])).dev.get .sys_straps_boot_src = 1) ∧
    (((upState [(.h_run_valid, 0, 1)])).dev.accepts (.secCmdWrite (.fabric : Mark) (0 : BitVec 60)) = true) ∧
    (((upState [(.h_run_valid, 0, 1)])).dev.flag .sec_cmd_status_busy = false ∧ ((upState [(.h_run_valid, 0, 1)])).dev.slotRuns
        (slice (0 : BitVec 60).toNat 56 1) = true) ∧
    (((upState [(.h_run_valid, 0, 1)])).dev.accepts (.secCmdVerify (.fabric : Mark) (0x0100000000000000 : BitVec 60)) = true) ∧
    (((upState [(.h_run_valid, 0, 1)])).dev.flag .sec_cmd_status_busy = false ∧ ((upState [(.h_run_valid, 0, 1)])).dev.slotRuns
        (slice (0x0100000000000000 : BitVec 60).toNat 56 1) = false) ∧
    (((upState [(.sec_cmd_status_busy, 0, 1)])).dev.accepts (.secCmdVerify (.fabric : Mark) (0 : BitVec 60)) = true) ∧
    (((upState [(.sec_cmd_status_busy, 0, 1)])).dev.flag .sec_cmd_status_busy = true) ∧
    (((upState [(.sec_slot_status_state, 1, 1), (.sec_slot_status_link_rev, 1, 0)])).dev.accepts (.secCmdPreferTrial (.fabric :
        Mark) (0x0100000000000000 : BitVec 60)) = true) ∧
    (((upState [(.sec_slot_status_state, 1, 1), (.sec_slot_status_link_rev, 1, 0)])).dev.flag .sec_cmd_status_busy = false ∧
        ((upState [(.sec_slot_status_state, 1, 1), (.sec_slot_status_link_rev, 1, 0)])).dev.get .sec_slot_status_state (slice
        (0x0100000000000000 : BitVec 60).toNat 56 1) = 1 ∧ ((upState [(.sec_slot_status_state, 1, 1),
        (.sec_slot_status_link_rev, 1, 0)])).dev.get .sec_slot_status_link_rev (slice (0x0100000000000000 : BitVec 60).toNat 56
        1) ≤ ((upState [(.sec_slot_status_state, 1, 1), (.sec_slot_status_link_rev, 1, 0)])).dev.get .sys_boot_status_link_rev +
        1 ∧ ((upState [(.sec_slot_status_state, 1, 1), (.sec_slot_status_link_rev, 1, 0)])).dev.get .sys_boot_status_link_rev ≤
        ((upState [(.sec_slot_status_state, 1, 1), (.sec_slot_status_link_rev, 1, 0)])).dev.get .sec_slot_status_link_rev (slice
        (0x0100000000000000 : BitVec 60).toNat 56 1) + 1) ∧
    (((upState [])).dev.accepts (.secCmdPreferTrial (.fabric : Mark) (0x0100000000000000 : BitVec 60)) = true) ∧
    (((upState [])).dev.flag .sec_cmd_status_busy = false ∧ ((upState [])).dev.get .sec_slot_status_state (slice
        (0x0100000000000000 : BitVec 60).toNat 56 1) ≠ 1) ∧
    (((upState [(.sec_slot_status_state, 1, 1), (.sec_slot_status_link_rev, 1, 9)])).dev.accepts (.secCmdPreferTrial (.fabric :
        Mark) (0x0100000000000000 : BitVec 60)) = true) ∧
    (((upState [(.sec_slot_status_state, 1, 1), (.sec_slot_status_link_rev, 1, 9)])).dev.flag .sec_cmd_status_busy = false ∧
        ((upState [(.sec_slot_status_state, 1, 1), (.sec_slot_status_link_rev, 1, 9)])).dev.get .sec_slot_status_state (slice
        (0x0100000000000000 : BitVec 60).toNat 56 1) = 1 ∧ (((upState [(.sec_slot_status_state, 1, 1),
        (.sec_slot_status_link_rev, 1, 9)])).dev.get .sys_boot_status_link_rev + 1 < ((upState [(.sec_slot_status_state, 1, 1),
        (.sec_slot_status_link_rev, 1, 9)])).dev.get .sec_slot_status_link_rev (slice (0x0100000000000000 : BitVec 60).toNat 56
        1) ∨ ((upState [(.sec_slot_status_state, 1, 1), (.sec_slot_status_link_rev, 1, 9)])).dev.get .sec_slot_status_link_rev
        (slice (0x0100000000000000 : BitVec 60).toNat 56 1) + 1 < ((upState [(.sec_slot_status_state, 1, 1),
        (.sec_slot_status_link_rev, 1, 9)])).dev.get .sys_boot_status_link_rev)) ∧
    (((upState [])).dev.accepts (.secCmdConfirm (.fabric : Mark) (0 : BitVec 60)) = true) ∧
    (((upState [])).dev.flag .sec_cmd_status_busy = false ∧ ((upState [])).dev.flag .sys_boot_status_trial = false) ∧
    (((upState [(.sys_boot_status_trial, 0, 1)])).dev.accepts (.secCmdConfirm (.fabric : Mark) (0 : BitVec 60)) = true) ∧
    (((upState [(.sys_boot_status_trial, 0, 1)])).dev.flag .sec_cmd_status_busy = false ∧ ((upState [(.sys_boot_status_trial, 0,
        1)])).dev.flag .sys_boot_status_trial = true) ∧
    (((upState [])).dev.accepts (.secCmdSvnCommit (.fabric : Mark) (0x0080000000000000 : BitVec 60)) = true) ∧
    (((upState [])).dev.flag .sec_cmd_status_busy = false ∧ ((upState [])).dev.flag .sys_boot_status_trial = false ∧ bit
        (0x0080000000000000 : BitVec 60).toNat 55 = true) ∧
    (((upState [(.sys_boot_status_trial, 0, 1)])).dev.accepts (.secCmdSvnCommit (.fabric : Mark) (0 : BitVec 60)) = true) ∧
    (((upState [(.sec_slot_status_state, 1, 1), (.sec_slot_status_svn, 1, 1), (.sys_boot_status_svn, 0, 4)])).dev.accepts
        (.secCmdSvnCommit (.fabric : Mark) (0 : BitVec 60)) = true) ∧
    (((upState [(.sec_slot_status_state, 1, 1), (.sec_slot_status_svn, 1, 1), (.sys_boot_status_svn, 0, 4)])).dev.flag
        .sec_cmd_status_busy = false ∧ ((upState [(.sec_slot_status_state, 1, 1), (.sec_slot_status_svn, 1, 1),
        (.sys_boot_status_svn, 0, 4)])).dev.flag .sys_boot_status_trial = false ∧ bit (0 : BitVec 60).toNat 55 = false ∧
        ((upState [(.sec_slot_status_state, 1, 1), (.sec_slot_status_svn, 1, 1), (.sys_boot_status_svn, 0, 4)])).dev.get
        .sec_slot_status_state (1 - ((upState [(.sec_slot_status_state, 1, 1), (.sec_slot_status_svn, 1, 1),
        (.sys_boot_status_svn, 0, 4)])).dev.get .sys_boot_status_running_slot) = 1 ∧ ((upState [(.sec_slot_status_state, 1, 1),
        (.sec_slot_status_svn, 1, 1), (.sys_boot_status_svn, 0, 4)])).dev.get .sec_slot_status_svn (1 - ((upState
        [(.sec_slot_status_state, 1, 1), (.sec_slot_status_svn, 1, 1), (.sys_boot_status_svn, 0, 4)])).dev.get
        .sys_boot_status_running_slot) < ((upState [(.sec_slot_status_state, 1, 1), (.sec_slot_status_svn, 1, 1),
        (.sys_boot_status_svn, 0, 4)])).dev.get .sys_boot_status_svn) ∧
    (((upState [(.h_run_valid, 0, 1)])).dev.accepts (.secCmdRevoke (.fabric : Mark) (0x0001000000000000 : BitVec 60)) = true) ∧
    (((upState [(.h_run_valid, 0, 1)])).dev.flag .sec_cmd_status_busy = false ∧ bit (0x0001000000000000 : BitVec 60).toNat 53 =
        false ∧ slice (0x0001000000000000 : BitVec 60).toNat 48 2 ≠ ((upState [(.h_run_valid, 0, 1)])).dev.get .h_run_ecdsa) ∧
    (((upState [(.h_run_valid, 0, 1)])).dev.accepts (.secCmdRevoke (.fabric : Mark) (0x0021000000000000 : BitVec 60)) = true) ∧
    (((upState [(.h_run_valid, 0, 1)])).dev.flag .sec_cmd_status_busy = false ∧ bit (0x0021000000000000 : BitVec 60).toNat 53 =
        true ∧ slice (0x0021000000000000 : BitVec 60).toNat 48 2 ≠ ((upState [(.h_run_valid, 0, 1)])).dev.get .h_run_lms) ∧
    (((upState [])).dev.accepts (.secCmdAttest (.fabric : Mark) (0 : BitVec 60)) = true) ∧
    (((upState [])).dev.flag .sec_cmd_status_busy = false) ∧
    (((upState [])).dev.accepts (.secCmdExtend (.fabric : Mark) (0 : BitVec 60)) = true) ∧
    (((upState [])).dev.flag .sec_cmd_status_busy = false ∧ ((upState [])).dev.measLog.length < 64) ∧
    (({ upState [] with dev := { (upState []).dev with measLog := List.replicate 64 [1] } }).dev.accepts (.secCmdExtend (.fabric
        : Mark) (0 : BitVec 60)) = true) ∧
    (({ upState [] with dev := { (upState []).dev with measLog := List.replicate 64 [1] } }).dev.flag .sec_cmd_status_busy =
        false ∧ 64 ≤ ({ upState [] with dev := { (upState []).dev with measLog := List.replicate 64 [1] } }).dev.measLog.length) ∧
    (({ upState [(.sec_cmd_status_busy, 0, 1), (.sec_cmd_status_last_cmd, 0, 1), (.h_sec_args, 0, 72057594037927936)] with dev := { (upState [(.sec_cmd_status_busy, 0, 1), (.sec_cmd_status_last_cmd, 0, 1), (.h_sec_args, 0, 72057594037927936)]).dev with reads := [{ purpose := .sec, req := 0x7000, addr := 0, ext := true }] } }).dev.flag
        .sec_cmd_status_busy = true ∧
        ({ upState [(.sec_cmd_status_busy, 0, 1), (.sec_cmd_status_last_cmd, 0, 1), (.h_sec_args, 0, 72057594037927936)] with dev := { (upState [(.sec_cmd_status_busy, 0, 1), (.sec_cmd_status_last_cmd, 0, 1), (.h_sec_args, 0, 72057594037927936)]).dev with reads := [{ purpose := .sec, req := 0x7000, addr := 0, ext := true }] } }).dev.get
        .sec_cmd_status_last_cmd = 1 ∧
        ({ upState [(.sec_cmd_status_busy, 0, 1), (.sec_cmd_status_last_cmd, 0, 1), (.h_sec_args, 0, 72057594037927936)] with dev := { (upState [(.sec_cmd_status_busy, 0, 1), (.sec_cmd_status_last_cmd, 0, 1), (.h_sec_args, 0, 72057594037927936)]).dev with reads := [{ purpose := .sec, req := 0x7000, addr := 0, ext := true }] } }).dev.get
        .sys_straps_boot_src ≠ 1 ∧
        ({ upState [(.sec_cmd_status_busy, 0, 1), (.sec_cmd_status_last_cmd, 0, 1), (.h_sec_args, 0, 72057594037927936)] with dev := { (upState [(.sec_cmd_status_busy, 0, 1), (.sec_cmd_status_last_cmd, 0, 1), (.h_sec_args, 0, 72057594037927936)]).dev with reads := [{ purpose := .sec, req := 0x7000, addr := 0, ext := true }] } }).dev.takeRead
        .sec = some
        ({ (upState [(.sec_cmd_status_busy, 0, 1), (.sec_cmd_status_last_cmd, 0, 1), (.h_sec_args, 0, 72057594037927936)]).dev with reads := [] }
        : Dev) ∧ ({ kclOk := true, flashOk := true, storeOk := true, img := none, burned := 9, bytes := Vector.replicate 48 5 }
        : SecOutcome).kclOk = true ∧
        ({ kclOk := true, flashOk := true, storeOk := true, img := none, burned := 9, bytes := Vector.replicate 48 5 } :
        SecOutcome).flashOk = true) ∧
    (({ upState [(.sec_cmd_status_busy, 0, 1), (.sec_cmd_status_last_cmd, 0, 1), (.h_sec_args, 0, 72057594037927936)] with dev := { (upState [(.sec_cmd_status_busy, 0, 1), (.sec_cmd_status_last_cmd, 0, 1), (.h_sec_args, 0, 72057594037927936)]).dev with reads := [{ purpose := .sec, req := 0x7000, addr := 0, ext := true }] } }).dev.flag
        .sec_cmd_status_busy = true ∧
        ({ upState [(.sec_cmd_status_busy, 0, 1), (.sec_cmd_status_last_cmd, 0, 1), (.h_sec_args, 0, 72057594037927936)] with dev := { (upState [(.sec_cmd_status_busy, 0, 1), (.sec_cmd_status_last_cmd, 0, 1), (.h_sec_args, 0, 72057594037927936)]).dev with reads := [{ purpose := .sec, req := 0x7000, addr := 0, ext := true }] } }).dev.get
        .sec_cmd_status_last_cmd = 1 ∧
        ({ upState [(.sec_cmd_status_busy, 0, 1), (.sec_cmd_status_last_cmd, 0, 1), (.h_sec_args, 0, 72057594037927936)] with dev := { (upState [(.sec_cmd_status_busy, 0, 1), (.sec_cmd_status_last_cmd, 0, 1), (.h_sec_args, 0, 72057594037927936)]).dev with reads := [{ purpose := .sec, req := 0x7000, addr := 0, ext := true }] } }).dev.get
        .sys_straps_boot_src ≠ 1 ∧
        ({ upState [(.sec_cmd_status_busy, 0, 1), (.sec_cmd_status_last_cmd, 0, 1), (.h_sec_args, 0, 72057594037927936)] with dev := { (upState [(.sec_cmd_status_busy, 0, 1), (.sec_cmd_status_last_cmd, 0, 1), (.h_sec_args, 0, 72057594037927936)]).dev with reads := [{ purpose := .sec, req := 0x7000, addr := 0, ext := true }] } }).dev.takeRead
        .sec = some
        ({ (upState [(.sec_cmd_status_busy, 0, 1), (.sec_cmd_status_last_cmd, 0, 1), (.h_sec_args, 0, 72057594037927936)]).dev with reads := [] }
        : Dev) ∧ ({ kclOk := true, flashOk := false, storeOk := true, img := none, burned := 9, bytes := Vector.replicate 48 5 }
        : SecOutcome).kclOk = true ∧
        ({ kclOk := true, flashOk := false, storeOk := true, img := none, burned := 9, bytes := Vector.replicate 48 5 } :
        SecOutcome).flashOk = false) ∧
    (({ upState [(.sec_cmd_status_busy, 0, 1), (.sec_cmd_status_last_cmd, 0, 1), (.h_sec_args, 0, 72057594037927936)] with dev := { (upState [(.sec_cmd_status_busy, 0, 1), (.sec_cmd_status_last_cmd, 0, 1), (.h_sec_args, 0, 72057594037927936)]).dev with reads := [{ purpose := .sec, req := 0x7000, addr := 0, ext := true }] } }).dev.flag
        .sec_cmd_status_busy = true ∧
        ({ upState [(.sec_cmd_status_busy, 0, 1), (.sec_cmd_status_last_cmd, 0, 1), (.h_sec_args, 0, 72057594037927936)] with dev := { (upState [(.sec_cmd_status_busy, 0, 1), (.sec_cmd_status_last_cmd, 0, 1), (.h_sec_args, 0, 72057594037927936)]).dev with reads := [{ purpose := .sec, req := 0x7000, addr := 0, ext := true }] } }).dev.get
        .sec_cmd_status_last_cmd = 1 ∧
        ({ upState [(.sec_cmd_status_busy, 0, 1), (.sec_cmd_status_last_cmd, 0, 1), (.h_sec_args, 0, 72057594037927936)] with dev := { (upState [(.sec_cmd_status_busy, 0, 1), (.sec_cmd_status_last_cmd, 0, 1), (.h_sec_args, 0, 72057594037927936)]).dev with reads := [{ purpose := .sec, req := 0x7000, addr := 0, ext := true }] } }).dev.get
        .sys_straps_boot_src ≠ 1 ∧
        ({ upState [(.sec_cmd_status_busy, 0, 1), (.sec_cmd_status_last_cmd, 0, 1), (.h_sec_args, 0, 72057594037927936)] with dev := { (upState [(.sec_cmd_status_busy, 0, 1), (.sec_cmd_status_last_cmd, 0, 1), (.h_sec_args, 0, 72057594037927936)]).dev with reads := [{ purpose := .sec, req := 0x7000, addr := 0, ext := true }] } }).dev.takeRead
        .sec = some
        ({ (upState [(.sec_cmd_status_busy, 0, 1), (.sec_cmd_status_last_cmd, 0, 1), (.h_sec_args, 0, 72057594037927936)]).dev with reads := [] }
        : Dev) ∧ ({ kclOk := false, flashOk := true, storeOk := true, img := none, burned := 9, bytes := Vector.replicate 48 5 }
        : SecOutcome).kclOk = false) ∧
    (((upState [(.sec_cmd_status_busy, 0, 1), (.sec_cmd_status_last_cmd, 0, 2), (.h_sec_args, 0, 72057594037927936)])).dev.flag
        .sec_cmd_status_busy = true ∧ ((upState [(.sec_cmd_status_busy, 0, 1), (.sec_cmd_status_last_cmd, 0, 2), (.h_sec_args,
        0, 72057594037927936)])).dev.get .sec_cmd_status_last_cmd = 2) ∧
    (((upState [(.sec_cmd_status_busy, 0, 1), (.sec_cmd_status_last_cmd, 0, 3), (.h_sec_args, 0, 72057594037927936)])).dev.flag
        .sec_cmd_status_busy = true ∧ ((upState [(.sec_cmd_status_busy, 0, 1), (.sec_cmd_status_last_cmd, 0, 3), (.h_sec_args,
        0, 72057594037927936)])).dev.get .sec_cmd_status_last_cmd = 3 ∧
        ({ kclOk := true, flashOk := true, storeOk := true, img := none, burned := 9, bytes := Vector.replicate 48 5 } :
        SecOutcome).storeOk = true) ∧
    (((upState [(.sec_cmd_status_busy, 0, 1), (.sec_cmd_status_last_cmd, 0, 4), (.h_sec_args, 0, 0), (.sys_boot_status_trial, 0,
        1)])).dev.flag .sec_cmd_status_busy = true ∧ ((upState [(.sec_cmd_status_busy, 0, 1), (.sec_cmd_status_last_cmd, 0, 4),
        (.h_sec_args, 0, 0), (.sys_boot_status_trial, 0, 1)])).dev.get .sec_cmd_status_last_cmd = 4 ∧
        ({ kclOk := true, flashOk := true, storeOk := true, img := none, burned := 9, bytes := Vector.replicate 48 5 } :
        SecOutcome).storeOk = true) ∧
    (((upState [(.sec_cmd_status_busy, 0, 1), (.sec_cmd_status_last_cmd, 0, 5), (.h_sec_args, 0, 0), (.sys_boot_status_svn, 0,
        4)])).dev.flag .sec_cmd_status_busy = true ∧ ((upState [(.sec_cmd_status_busy, 0, 1), (.sec_cmd_status_last_cmd, 0, 5),
        (.h_sec_args, 0, 0), (.sys_boot_status_svn, 0, 4)])).dev.get .sec_cmd_status_last_cmd = 5 ∧ ((upState
        [(.sec_cmd_status_busy, 0, 1), (.sec_cmd_status_last_cmd, 0, 5), (.h_sec_args, 0, 0), (.sys_boot_status_svn, 0,
        4)])).fuses.svn ≤ ((upState [(.sec_cmd_status_busy, 0, 1), (.sec_cmd_status_last_cmd, 0, 5), (.h_sec_args, 0, 0),
        (.sys_boot_status_svn, 0, 4)])).dev.get .sys_boot_status_svn ∧ ((upState [(.sec_cmd_status_busy, 0, 1),
        (.sec_cmd_status_last_cmd, 0, 5), (.h_sec_args, 0, 0), (.sys_boot_status_svn, 0, 4)])).dev.get .sys_boot_status_svn ≤
        ((upState [(.sec_cmd_status_busy, 0, 1), (.sec_cmd_status_last_cmd, 0, 5), (.h_sec_args, 0, 0), (.sys_boot_status_svn,
        0, 4)])).fuses.svn +
        ({ kclOk := true, flashOk := true, storeOk := true, img := none, burned := 9, bytes := Vector.replicate 48 5 } :
        SecOutcome).burned.toNat) ∧
    (((upState [(.sec_cmd_status_busy, 0, 1), (.sec_cmd_status_last_cmd, 0, 5), (.h_sec_args, 0, 0), (.sys_boot_status_svn, 0,
        40)])).dev.flag .sec_cmd_status_busy = true ∧ ((upState [(.sec_cmd_status_busy, 0, 1), (.sec_cmd_status_last_cmd, 0, 5),
        (.h_sec_args, 0, 0), (.sys_boot_status_svn, 0, 40)])).dev.get .sec_cmd_status_last_cmd = 5 ∧ ((upState
        [(.sec_cmd_status_busy, 0, 1), (.sec_cmd_status_last_cmd, 0, 5), (.h_sec_args, 0, 0), (.sys_boot_status_svn, 0,
        40)])).fuses.svn +
        ({ kclOk := true, flashOk := true, storeOk := true, img := none, burned := 9, bytes := Vector.replicate 48 5 } :
        SecOutcome).burned.toNat < ((upState [(.sec_cmd_status_busy, 0, 1), (.sec_cmd_status_last_cmd, 0, 5), (.h_sec_args, 0,
        0), (.sys_boot_status_svn, 0, 40)])).dev.get .sys_boot_status_svn) ∧
    (((upState [(.sec_cmd_status_busy, 0, 1), (.sec_cmd_status_last_cmd, 0, 6), (.h_sec_args, 0, 281474976710656)])).dev.flag
        .sec_cmd_status_busy = true ∧ ((upState [(.sec_cmd_status_busy, 0, 1), (.sec_cmd_status_last_cmd, 0, 6), (.h_sec_args,
        0, 281474976710656)])).dev.get .sec_cmd_status_last_cmd = 6 ∧ bit (((upState [(.sec_cmd_status_busy, 0, 1),
        (.sec_cmd_status_last_cmd, 0, 6), (.h_sec_args, 0, 281474976710656)])).dev.get .h_sec_args) 53 = false ∧
        ({ kclOk := true, flashOk := true, storeOk := true, img := none, burned := 9, bytes := Vector.replicate 48 5 } :
        SecOutcome).burned ≠ 0) ∧
    (((upState [(.sec_cmd_status_busy, 0, 1), (.sec_cmd_status_last_cmd, 0, 6), (.h_sec_args, 0, 9288674231451648)])).dev.flag
        .sec_cmd_status_busy = true ∧ ((upState [(.sec_cmd_status_busy, 0, 1), (.sec_cmd_status_last_cmd, 0, 6), (.h_sec_args,
        0, 9288674231451648)])).dev.get .sec_cmd_status_last_cmd = 6 ∧ bit (((upState [(.sec_cmd_status_busy, 0, 1),
        (.sec_cmd_status_last_cmd, 0, 6), (.h_sec_args, 0, 9288674231451648)])).dev.get .h_sec_args) 53 = true ∧
        ({ kclOk := true, flashOk := true, storeOk := true, img := none, burned := 9, bytes := Vector.replicate 48 5 } :
        SecOutcome).burned ≠ 0) ∧
    (((upState [(.sec_cmd_status_busy, 0, 1), (.sec_cmd_status_last_cmd, 0, 6), (.h_sec_args, 0, 281474976710656)])).dev.flag
        .sec_cmd_status_busy = true ∧ ((upState [(.sec_cmd_status_busy, 0, 1), (.sec_cmd_status_last_cmd, 0, 6), (.h_sec_args,
        0, 281474976710656)])).dev.get .sec_cmd_status_last_cmd = 6 ∧
        ({ kclOk := true, flashOk := true, storeOk := true, img := none, burned := 0, bytes := Vector.replicate 48 5 } :
        SecOutcome).burned = 0) ∧
    (((upState [(.sec_cmd_status_busy, 0, 1), (.sec_cmd_status_last_cmd, 0, 7), (.h_sec_args, 0, 0)])).dev.flag
        .sec_cmd_status_busy = true ∧ ((upState [(.sec_cmd_status_busy, 0, 1), (.sec_cmd_status_last_cmd, 0, 7), (.h_sec_args,
        0, 0)])).dev.get .sec_cmd_status_last_cmd = 7 ∧
        ({ kclOk := true, flashOk := true, storeOk := true, img := none, burned := 9, bytes := Vector.replicate 48 5 } :
        SecOutcome).kclOk = true) ∧
    (({ upState [(.sec_cmd_status_busy, 0, 1), (.sec_cmd_status_last_cmd, 0, 8), (.h_sec_args, 0, 0)] with dev := { (upState [(.sec_cmd_status_busy, 0, 1), (.sec_cmd_status_last_cmd, 0, 8), (.h_sec_args, 0, 0)]).dev with reads := [{ purpose := .sec, req := 0x7000, addr := 0, ext := true }] } }).dev.flag
        .sec_cmd_status_busy = true ∧
        ({ upState [(.sec_cmd_status_busy, 0, 1), (.sec_cmd_status_last_cmd, 0, 8), (.h_sec_args, 0, 0)] with dev := { (upState [(.sec_cmd_status_busy, 0, 1), (.sec_cmd_status_last_cmd, 0, 8), (.h_sec_args, 0, 0)]).dev with reads := [{ purpose := .sec, req := 0x7000, addr := 0, ext := true }] } }).dev.get
        .sec_cmd_status_last_cmd = 8 ∧
        ({ upState [(.sec_cmd_status_busy, 0, 1), (.sec_cmd_status_last_cmd, 0, 8), (.h_sec_args, 0, 0)] with dev := { (upState [(.sec_cmd_status_busy, 0, 1), (.sec_cmd_status_last_cmd, 0, 8), (.h_sec_args, 0, 0)]).dev with reads := [{ purpose := .sec, req := 0x7000, addr := 0, ext := true }] } }).dev.takeRead
        .sec = some
        ({ (upState [(.sec_cmd_status_busy, 0, 1), (.sec_cmd_status_last_cmd, 0, 8), (.h_sec_args, 0, 0)]).dev with reads := [] }
        : Dev) ∧ ({ kclOk := true, flashOk := true, storeOk := true, img := none, burned := 9, bytes := Vector.replicate 48 5 }
        : SecOutcome).kclOk = true) ∧
    (({ upState [(.sec_cmd_status_busy, 0, 1), (.sec_cmd_status_last_cmd, 0, 8), (.h_sec_args, 0, 0)] with dev := { (upState [(.sec_cmd_status_busy, 0, 1), (.sec_cmd_status_last_cmd, 0, 8), (.h_sec_args, 0, 0)]).dev with reads := [{ purpose := .sec, req := 0x7000, addr := 0, ext := true }] } }).dev.flag
        .sec_cmd_status_busy = true ∧
        ({ upState [(.sec_cmd_status_busy, 0, 1), (.sec_cmd_status_last_cmd, 0, 8), (.h_sec_args, 0, 0)] with dev := { (upState [(.sec_cmd_status_busy, 0, 1), (.sec_cmd_status_last_cmd, 0, 8), (.h_sec_args, 0, 0)]).dev with reads := [{ purpose := .sec, req := 0x7000, addr := 0, ext := true }] } }).dev.get
        .sec_cmd_status_last_cmd = 8 ∧
        ({ upState [(.sec_cmd_status_busy, 0, 1), (.sec_cmd_status_last_cmd, 0, 8), (.h_sec_args, 0, 0)] with dev := { (upState [(.sec_cmd_status_busy, 0, 1), (.sec_cmd_status_last_cmd, 0, 8), (.h_sec_args, 0, 0)]).dev with reads := [{ purpose := .sec, req := 0x7000, addr := 0, ext := true }] } }).dev.takeRead
        .sec = some
        ({ (upState [(.sec_cmd_status_busy, 0, 1), (.sec_cmd_status_last_cmd, 0, 8), (.h_sec_args, 0, 0)]).dev with reads := [] }
        : Dev) ∧ ({ kclOk := false, flashOk := true, storeOk := true, img := none, burned := 9, bytes := Vector.replicate 48 5 }
        : SecOutcome).kclOk = false) := by
  refine ⟨?_, ?_, ?_, ?_, ?_, ?_, ?_, ?_, ?_, ?_, ?_, ?_, ?_, ?_, ?_, ?_, ?_, ?_, ?_, ?_, ?_, ?_, ?_, ?_, ?_, ?_, ?_, ?_, ?_,
      ?_, ?_, ?_, ?_, ?_, ?_, ?_, ?_, ?_, ?_, ?_, ?_, ?_, ?_, ?_, ?_, ?_, ?_, ?_, ?_, ?_⟩ <;>
    decide +kernel

/-- States and operands that meet the premises of `Obligations.CompanionLinkAndServicePorts`, clause by clause. -/
theorem witness_CompanionLinkAndServicePorts :
    ((({ upState [] with dev := { (upState []).dev with reads := [{ purpose := .sec, req := 0x7000, addr := 64, ext := true }] } }).dev.reads.filter
        (fun (y : KRead) => y.ext))[(0 : Fin 256).val]? = some ({ purpose := .sec, req := 0x7000, addr := 64, ext := true } :
        KRead)) ∧
    (({ purpose := .sec, req := 0x7000, addr := 64, ext := true } : KRead).purpose = .sec) ∧
    ((({ upState [] with dev := { (upState []).dev with reads := [{ purpose := .progImage 9, req := 0x7000, addr := 64, ext := true }] } }).dev.reads.filter
        (fun (y : KRead) => y.ext))[(0 : Fin 256).val]? = some
        ({ purpose := .progImage 9, req := 0x7000, addr := 64, ext := true } : KRead)) ∧
    (({ purpose := .progImage 9, req := 0x7000, addr := 64, ext := true } : KRead).purpose = .progImage (9 : Nat)) ∧
    ((((upState [])).dev.reads.filter (fun (y : KRead) => y.ext))[(0 : Fin 256).val]? = none) ∧
    (((upState [])).dev.domainOn 10 = true ∧ (5 : BitVec 8) ≠ 0) ∧
    (((upState [])).dev.domainOn 10 = true ∧ ((upState [])).dev.reads = [] ∧ ((upState [])).dev.kclWrites = [] ∧ ((upState
        [])).dev.ringPend = []) ∧
    (({ upState [] with dev := { (upState []).dev with reads := [{ purpose := .sec, req := 0x7000, addr := 64, ext := true }] } }).dev.domainOn
        10 = true ∧
        ({ upState [] with dev := { (upState []).dev with reads := [{ purpose := .sec, req := 0x7000, addr := 64, ext := true }] } }).dev.reads
        = [({ purpose := .sec, req := 0x7000, addr := 64, ext := true } : KRead)] ∧
        ({ purpose := .sec, req := 0x7000, addr := 64, ext := true } : KRead).ext = true ∧
        ({ purpose := .sec, req := 0x7000, addr := 64, ext := true } : KRead).purpose = .sec ∧
        ({ upState [] with dev := { (upState []).dev with reads := [{ purpose := .sec, req := 0x7000, addr := 64, ext := true }] } }).dev.kclWrites
        = [] ∧
        ({ upState [] with dev := { (upState []).dev with reads := [{ purpose := .sec, req := 0x7000, addr := 64, ext := true }] } }).dev.ringPend
        = []) ∧
    (((upState [(.kcl_status_width, 0, 4)])).dev.accepts (.kclRetrainCmd (.fabric : Mark) (0x1000A : Word)) = true) ∧
    (((upState [(.kcl_status_width, 0, 4)])).dev.get .kcl_status_width = 4) ∧
    (((upState [(.h_kcl_train, 0, 1), (.h_kcl_full, 0, 1)])).dev.domainOn 10 = true ∧ ((upState [(.h_kcl_train, 0, 1),
        (.h_kcl_full, 0, 1)])).dev.get .h_kcl_train ≠ 0 ∧ ((upState [(.h_kcl_train, 0, 1), (.h_kcl_full, 0, 1)])).dev.flag
        .h_kcl_full = true ∧ (0xFF : BitVec 8) = 0xFF) ∧
    (((upState [(.h_kcl_train, 0, 1), (.h_kcl_full, 0, 1)])).dev.domainOn 10 = true ∧ ((upState [(.h_kcl_train, 0, 1),
        (.h_kcl_full, 0, 1)])).dev.get .h_kcl_train ≠ 0 ∧ (((upState [(.h_kcl_train, 0, 1), (.h_kcl_full, 0, 1)])).dev.flag
        .h_kcl_full = false ∨ (0x7F : BitVec 8) ≠ 0xFF)) ∧
    (((upState [(.port_cfg_role, 501, 0)])).dev.accepts (.svcBindWrite (.fabric : Mark) (1 : Fin 2) (0x1F51 : Word)) = true) ∧
    (bit (0x1F51 : Word).toNat 0 = true ∧ ((upState [(.port_cfg_role, 501, 0)])).dev.flag .kcl_svc_cfg_bind_en (1 : Fin 2) =
        false ∧ ((upState [(.port_cfg_role, 501, 0)])).dev.bindOk (1 : Fin 2) (slice (0x1F51 : Word).toNat 4 9) = true) ∧
    (((upState [])).dev.accepts (.svcBindWrite (.fabric : Mark) (1 : Fin 2) (0x0051 : Word)) = true) ∧
    (((upState [])).dev.bindAccept (1 : Fin 2) (bit (0x0051 : Word).toNat 0) (slice (0x0051 : Word).toNat 4 9) = false ∧ slice
        (0x0051 : Word).toNat 4 9 ≠ ((upState [])).dev.get .kcl_svc_cfg_bind_port (1 : Fin 2)) ∧
    (((upState [])).dev.accepts (.kclSvcAddrWrite (.fabric : Mark) (1 : Fin 2) (1 : Fin 3) (0x020000000009 : Word)) = true) ∧
    (((upState [])).dev.flag .kcl_svc_cfg_bind_en (1 : Fin 2) = false) ∧
    (((upState [(.kcl_svc_cfg_bind_en, 1, 1), (.kcl_svc_cfg_bind_port, 1, 500), (.port_cfg_role, 500, 2)])).dev.accepts
        (.kclSvcAddrWrite (.fabric : Mark) (1 : Fin 2) (1 : Fin 3) (0x020000000009 : Word)) = true) ∧
    (((upState [(.kcl_svc_cfg_bind_en, 1, 1), (.kcl_svc_cfg_bind_port, 1, 500), (.port_cfg_role, 500, 2)])).dev.flag
        .kcl_svc_cfg_bind_en (1 : Fin 2) = true ∧ ((upState [(.kcl_svc_cfg_bind_en, 1, 1), (.kcl_svc_cfg_bind_port, 1, 500),
        (.port_cfg_role, 500, 2)])).dev.fenced (((upState [(.kcl_svc_cfg_bind_en, 1, 1), (.kcl_svc_cfg_bind_port, 1, 500),
        (.port_cfg_role, 500, 2)])).dev.get .kcl_svc_cfg_bind_port (1 : Fin 2)) = false ∧ ((upState [(.kcl_svc_cfg_bind_en, 1,
        1), (.kcl_svc_cfg_bind_port, 1, 500), (.port_cfg_role, 500, 2)])).dev.role (((upState [(.kcl_svc_cfg_bind_en, 1, 1),
        (.kcl_svc_cfg_bind_port, 1, 500), (.port_cfg_role, 500, 2)])).dev.get .kcl_svc_cfg_bind_port (1 : Fin 2)) ≠
        roleDISABLED) ∧
    (((upState [(.kcl_svc_cfg_bind_en, 1, 1), (.kcl_svc_cfg_bind_port, 1, 500), (.port_cfg_role, 500, 2),
        (.port_status_link_status, 500, 1)])).dev.domainOn 10 = true ∧ ((upState [(.kcl_svc_cfg_bind_en, 1, 1),
        (.kcl_svc_cfg_bind_port, 1, 500), (.port_cfg_role, 500, 2), (.port_status_link_status, 500, 1)])).dev.flag
        .kcl_svc_cfg_bind_en (1 : Fin 2) = true ∧ ((upState [(.kcl_svc_cfg_bind_en, 1, 1), (.kcl_svc_cfg_bind_port, 1, 500),
        (.port_cfg_role, 500, 2), (.port_status_link_status, 500, 1)])).dev.upRole (((upState [(.kcl_svc_cfg_bind_en, 1, 1),
        (.kcl_svc_cfg_bind_port, 1, 500), (.port_cfg_role, 500, 2), (.port_status_link_status, 500, 1)])).dev.get
        .kcl_svc_cfg_bind_port (1 : Fin 2)) = true ∧ ((upState [(.kcl_svc_cfg_bind_en, 1, 1), (.kcl_svc_cfg_bind_port, 1, 500),
        (.port_cfg_role, 500, 2), (.port_status_link_status, 500, 1)])).dev.role (((upState [(.kcl_svc_cfg_bind_en, 1, 1),
        (.kcl_svc_cfg_bind_port, 1, 500), (.port_cfg_role, 500, 2), (.port_status_link_status, 500, 1)])).dev.get
        .kcl_svc_cfg_bind_port (1 : Fin 2)) ≠ roleANALYSIS ∧ ((upState [(.kcl_svc_cfg_bind_en, 1, 1), (.kcl_svc_cfg_bind_port,
        1, 500), (.port_cfg_role, 500, 2), (.port_status_link_status, 500, 1)])).dev.linkStatus (((upState
        [(.kcl_svc_cfg_bind_en, 1, 1), (.kcl_svc_cfg_bind_port, 1, 500), (.port_cfg_role, 500, 2), (.port_status_link_status,
        500, 1)])).dev.get .kcl_svc_cfg_bind_port (1 : Fin 2)) = lsTRAIN) ∧
    (((upState [])).dev.domainOn 10 = true ∧ ((upState [])).dev.flag .kcl_svc_cfg_bind_en (1 : Fin 2) = false) ∧
    (((upState [(.kcl_svc_cfg_bind_en, 1, 1), (.kcl_svc_cfg_bind_port, 1, 500), (.port_cfg_role, 500, 2),
        (.port_status_link_status, 500, 8)])).dev.flag .kcl_svc_cfg_bind_en (1 : Fin 2) = true ∧ ((upState
        [(.kcl_svc_cfg_bind_en, 1, 1), (.kcl_svc_cfg_bind_port, 1, 500), (.port_cfg_role, 500, 2), (.port_status_link_status,
        500, 8)])).dev.upRole (((upState [(.kcl_svc_cfg_bind_en, 1, 1), (.kcl_svc_cfg_bind_port, 1, 500), (.port_cfg_role, 500,
        2), (.port_status_link_status, 500, 8)])).dev.get .kcl_svc_cfg_bind_port (1 : Fin 2)) = true ∧ lsTRAIN ≤ ((upState
        [(.kcl_svc_cfg_bind_en, 1, 1), (.kcl_svc_cfg_bind_port, 1, 500), (.port_cfg_role, 500, 2), (.port_status_link_status,
        500, 8)])).dev.linkStatus (((upState [(.kcl_svc_cfg_bind_en, 1, 1), (.kcl_svc_cfg_bind_port, 1, 500), (.port_cfg_role,
        500, 2), (.port_status_link_status, 500, 8)])).dev.get .kcl_svc_cfg_bind_port (1 : Fin 2))) ∧
    (((upState [(.kcl_svc_cfg_pass_en, 1, 1), (.kcl_svc_status_block_lock, 0, 1)])).dev.domainOn 10 = true ∧ 18 ≤ (byteList
        ([255#8, 255#8, 255#8, 255#8, 255#8, 255#8, 2#8, 0#8, 0#8, 0#8, 0#8, 1#8, 8#8, 0#8, 1#8, 2#8, 3#8, 0#8, 0#8, 0#8, 0#8,
        0#8, 0#8, 0#8, 0#8, 0#8, 0#8, 0#8, 0#8, 0#8, 0#8, 0#8, 0#8, 0#8, 0#8, 0#8, 0#8, 0#8, 0#8, 0#8, 0#8, 0#8, 0#8, 0#8, 0#8,
        0#8, 0#8, 0#8, 0#8, 0#8, 0#8, 0#8, 0#8, 0#8, 0#8, 0#8, 0#8, 0#8, 0#8, 0#8, 45#8, 13#8, 193#8, 101#8] : List
        Byte)).length ∧ (byteList ([255#8, 255#8, 255#8, 255#8, 255#8, 255#8, 2#8, 0#8, 0#8, 0#8, 0#8, 1#8, 8#8, 0#8, 1#8, 2#8,
        3#8, 0#8, 0#8, 0#8, 0#8, 0#8, 0#8, 0#8, 0#8, 0#8, 0#8, 0#8, 0#8, 0#8, 0#8, 0#8, 0#8, 0#8, 0#8, 0#8, 0#8, 0#8, 0#8, 0#8,
        0#8, 0#8, 0#8, 0#8, 0#8, 0#8, 0#8, 0#8, 0#8, 0#8, 0#8, 0#8, 0#8, 0#8, 0#8, 0#8, 0#8, 0#8, 0#8, 0#8, 45#8, 13#8, 193#8,
        101#8] : List Byte)).length ≤ 4160 ∧ leNat ((byteList ([255#8, 255#8, 255#8, 255#8, 255#8, 255#8, 2#8, 0#8, 0#8, 0#8,
        0#8, 1#8, 8#8, 0#8, 1#8, 2#8, 3#8, 0#8, 0#8, 0#8, 0#8, 0#8, 0#8, 0#8, 0#8, 0#8, 0#8, 0#8, 0#8, 0#8, 0#8, 0#8, 0#8, 0#8,
        0#8, 0#8, 0#8, 0#8, 0#8, 0#8, 0#8, 0#8, 0#8, 0#8, 0#8, 0#8, 0#8, 0#8, 0#8, 0#8, 0#8, 0#8, 0#8, 0#8, 0#8, 0#8, 0#8, 0#8,
        0#8, 0#8, 45#8, 13#8, 193#8, 101#8] : List Byte)).drop ((byteList ([255#8, 255#8, 255#8, 255#8, 255#8, 255#8, 2#8, 0#8,
        0#8, 0#8, 0#8, 1#8, 8#8, 0#8, 1#8, 2#8, 3#8, 0#8, 0#8, 0#8, 0#8, 0#8, 0#8, 0#8, 0#8, 0#8, 0#8, 0#8, 0#8, 0#8, 0#8, 0#8,
        0#8, 0#8, 0#8, 0#8, 0#8, 0#8, 0#8, 0#8, 0#8, 0#8, 0#8, 0#8, 0#8, 0#8, 0#8, 0#8, 0#8, 0#8, 0#8, 0#8, 0#8, 0#8, 0#8, 0#8,
        0#8, 0#8, 0#8, 0#8, 45#8, 13#8, 193#8, 101#8] : List Byte)).length - 4)) = ethFcs ((byteList ([255#8, 255#8, 255#8,
        255#8, 255#8, 255#8, 2#8, 0#8, 0#8, 0#8, 0#8, 1#8, 8#8, 0#8, 1#8, 2#8, 3#8, 0#8, 0#8, 0#8, 0#8, 0#8, 0#8, 0#8, 0#8, 0#8,
        0#8, 0#8, 0#8, 0#8, 0#8, 0#8, 0#8, 0#8, 0#8, 0#8, 0#8, 0#8, 0#8, 0#8, 0#8, 0#8, 0#8, 0#8, 0#8, 0#8, 0#8, 0#8, 0#8, 0#8,
        0#8, 0#8, 0#8, 0#8, 0#8, 0#8, 0#8, 0#8, 0#8, 0#8, 45#8, 13#8, 193#8, 101#8] : List Byte)).take ((byteList ([255#8,
        255#8, 255#8, 255#8, 255#8, 255#8, 2#8, 0#8, 0#8, 0#8, 0#8, 1#8, 8#8, 0#8, 1#8, 2#8, 3#8, 0#8, 0#8, 0#8, 0#8, 0#8, 0#8,
        0#8, 0#8, 0#8, 0#8, 0#8, 0#8, 0#8, 0#8, 0#8, 0#8, 0#8, 0#8, 0#8, 0#8, 0#8, 0#8, 0#8, 0#8, 0#8, 0#8, 0#8, 0#8, 0#8, 0#8,
        0#8, 0#8, 0#8, 0#8, 0#8, 0#8, 0#8, 0#8, 0#8, 0#8, 0#8, 0#8, 0#8, 45#8, 13#8, 193#8, 101#8] : List Byte)).length - 4)) ∧
        isPfc ((byteList ([255#8, 255#8, 255#8, 255#8, 255#8, 255#8, 2#8, 0#8, 0#8, 0#8, 0#8, 1#8, 8#8, 0#8, 1#8, 2#8, 3#8, 0#8,
        0#8, 0#8, 0#8, 0#8, 0#8, 0#8, 0#8, 0#8, 0#8, 0#8, 0#8, 0#8, 0#8, 0#8, 0#8, 0#8, 0#8, 0#8, 0#8, 0#8, 0#8, 0#8, 0#8, 0#8,
        0#8, 0#8, 0#8, 0#8, 0#8, 0#8, 0#8, 0#8, 0#8, 0#8, 0#8, 0#8, 0#8, 0#8, 0#8, 0#8, 0#8, 0#8, 45#8, 13#8, 193#8, 101#8] :
        List Byte)).take ((byteList ([255#8, 255#8, 255#8, 255#8, 255#8, 255#8, 2#8, 0#8, 0#8, 0#8, 0#8, 1#8, 8#8, 0#8, 1#8,
        2#8, 3#8, 0#8, 0#8, 0#8, 0#8, 0#8, 0#8, 0#8, 0#8, 0#8, 0#8, 0#8, 0#8, 0#8, 0#8, 0#8, 0#8, 0#8, 0#8, 0#8, 0#8, 0#8, 0#8,
        0#8, 0#8, 0#8, 0#8, 0#8, 0#8, 0#8, 0#8, 0#8, 0#8, 0#8, 0#8, 0#8, 0#8, 0#8, 0#8, 0#8, 0#8, 0#8, 0#8, 0#8, 45#8, 13#8,
        193#8, 101#8] : List Byte)).length - 4)) (ethTags ((byteList ([255#8, 255#8, 255#8, 255#8, 255#8, 255#8, 2#8, 0#8, 0#8,
        0#8, 0#8, 1#8, 8#8, 0#8, 1#8, 2#8, 3#8, 0#8, 0#8, 0#8, 0#8, 0#8, 0#8, 0#8, 0#8, 0#8, 0#8, 0#8, 0#8, 0#8, 0#8, 0#8, 0#8,
        0#8, 0#8, 0#8, 0#8, 0#8, 0#8, 0#8, 0#8, 0#8, 0#8, 0#8, 0#8, 0#8, 0#8, 0#8, 0#8, 0#8, 0#8, 0#8, 0#8, 0#8, 0#8, 0#8, 0#8,
        0#8, 0#8, 0#8, 45#8, 13#8, 193#8, 101#8] : List Byte)).take ((byteList ([255#8, 255#8, 255#8, 255#8, 255#8, 255#8, 2#8,
        0#8, 0#8, 0#8, 0#8, 1#8, 8#8, 0#8, 1#8, 2#8, 3#8, 0#8, 0#8, 0#8, 0#8, 0#8, 0#8, 0#8, 0#8, 0#8, 0#8, 0#8, 0#8, 0#8, 0#8,
        0#8, 0#8, 0#8, 0#8, 0#8, 0#8, 0#8, 0#8, 0#8, 0#8, 0#8, 0#8, 0#8, 0#8, 0#8, 0#8, 0#8, 0#8, 0#8, 0#8, 0#8, 0#8, 0#8, 0#8,
        0#8, 0#8, 0#8, 0#8, 0#8, 45#8, 13#8, 193#8, 101#8] : List Byte)).length - 4))).2 = false) ∧
    ((((upState [(.kcl_svc_cfg_pass_en, 1, 1), (.kcl_svc_status_block_lock, 0, 1)])).dev.svcPort (1 : Fin 2) = none ∨ beAt
        ((byteList ([255#8, 255#8, 255#8, 255#8, 255#8, 255#8, 2#8, 0#8, 0#8, 0#8, 0#8, 1#8, 8#8, 0#8, 1#8, 2#8, 3#8, 0#8, 0#8,
        0#8, 0#8, 0#8, 0#8, 0#8, 0#8, 0#8, 0#8, 0#8, 0#8, 0#8, 0#8, 0#8, 0#8, 0#8, 0#8, 0#8, 0#8, 0#8, 0#8, 0#8, 0#8, 0#8, 0#8,
        0#8, 0#8, 0#8, 0#8, 0#8, 0#8, 0#8, 0#8, 0#8, 0#8, 0#8, 0#8, 0#8, 0#8, 0#8, 0#8, 0#8, 45#8, 13#8, 193#8, 101#8] : List
        Byte)).take ((byteList ([255#8, 255#8, 255#8, 255#8, 255#8, 255#8, 2#8, 0#8, 0#8, 0#8, 0#8, 1#8, 8#8, 0#8, 1#8, 2#8,
        3#8, 0#8, 0#8, 0#8, 0#8, 0#8, 0#8, 0#8, 0#8, 0#8, 0#8, 0#8, 0#8, 0#8, 0#8, 0#8, 0#8, 0#8, 0#8, 0#8, 0#8, 0#8, 0#8, 0#8,
        0#8, 0#8, 0#8, 0#8, 0#8, 0#8, 0#8, 0#8, 0#8, 0#8, 0#8, 0#8, 0#8, 0#8, 0#8, 0#8, 0#8, 0#8, 0#8, 0#8, 45#8, 13#8, 193#8,
        101#8] : List Byte)).length - 4)) 0 6 ≠ ((upState [(.kcl_svc_cfg_pass_en, 1, 1), (.kcl_svc_status_block_lock, 0,
        1)])).dev.get .kcl_svc_mac_own_mac (1 : Fin 2) ∨ beAt ((byteList ([255#8, 255#8, 255#8, 255#8, 255#8, 255#8, 2#8, 0#8,
        0#8, 0#8, 0#8, 1#8, 8#8, 0#8, 1#8, 2#8, 3#8, 0#8, 0#8, 0#8, 0#8, 0#8, 0#8, 0#8, 0#8, 0#8, 0#8, 0#8, 0#8, 0#8, 0#8, 0#8,
        0#8, 0#8, 0#8, 0#8, 0#8, 0#8, 0#8, 0#8, 0#8, 0#8, 0#8, 0#8, 0#8, 0#8, 0#8, 0#8, 0#8, 0#8, 0#8, 0#8, 0#8, 0#8, 0#8, 0#8,
        0#8, 0#8, 0#8, 0#8, 45#8, 13#8, 193#8, 101#8] : List Byte)).take ((byteList ([255#8, 255#8, 255#8, 255#8, 255#8, 255#8,
        2#8, 0#8, 0#8, 0#8, 0#8, 1#8, 8#8, 0#8, 1#8, 2#8, 3#8, 0#8, 0#8, 0#8, 0#8, 0#8, 0#8, 0#8, 0#8, 0#8, 0#8, 0#8, 0#8, 0#8,
        0#8, 0#8, 0#8, 0#8, 0#8, 0#8, 0#8, 0#8, 0#8, 0#8, 0#8, 0#8, 0#8, 0#8, 0#8, 0#8, 0#8, 0#8, 0#8, 0#8, 0#8, 0#8, 0#8, 0#8,
        0#8, 0#8, 0#8, 0#8, 0#8, 0#8, 45#8, 13#8, 193#8, 101#8] : List Byte)).length - 4)) (ethTags ((byteList ([255#8, 255#8,
        255#8, 255#8, 255#8, 255#8, 2#8, 0#8, 0#8, 0#8, 0#8, 1#8, 8#8, 0#8, 1#8, 2#8, 3#8, 0#8, 0#8, 0#8, 0#8, 0#8, 0#8, 0#8,
        0#8, 0#8, 0#8, 0#8, 0#8, 0#8, 0#8, 0#8, 0#8, 0#8, 0#8, 0#8, 0#8, 0#8, 0#8, 0#8, 0#8, 0#8, 0#8, 0#8, 0#8, 0#8, 0#8, 0#8,
        0#8, 0#8, 0#8, 0#8, 0#8, 0#8, 0#8, 0#8, 0#8, 0#8, 0#8, 0#8, 45#8, 13#8, 193#8, 101#8] : List Byte)).take ((byteList
        ([255#8, 255#8, 255#8, 255#8, 255#8, 255#8, 2#8, 0#8, 0#8, 0#8, 0#8, 1#8, 8#8, 0#8, 1#8, 2#8, 3#8, 0#8, 0#8, 0#8, 0#8,
        0#8, 0#8, 0#8, 0#8, 0#8, 0#8, 0#8, 0#8, 0#8, 0#8, 0#8, 0#8, 0#8, 0#8, 0#8, 0#8, 0#8, 0#8, 0#8, 0#8, 0#8, 0#8, 0#8, 0#8,
        0#8, 0#8, 0#8, 0#8, 0#8, 0#8, 0#8, 0#8, 0#8, 0#8, 0#8, 0#8, 0#8, 0#8, 0#8, 45#8, 13#8, 193#8, 101#8] : List
        Byte)).length - 4))).2 2 ≠ ((upState [(.kcl_svc_cfg_pass_en, 1, 1), (.kcl_svc_status_block_lock, 0, 1)])).dev.get
        .kcl_svc_cfg_fab_ethertype (1 : Fin 2)) ∧ ((upState [(.kcl_svc_cfg_pass_en, 1, 1), (.kcl_svc_status_block_lock, 0,
        1)])).dev.flag .kcl_svc_cfg_pass_en (1 : Fin 2) = true ∧ ((((upState [(.kcl_svc_cfg_pass_en, 1, 1),
        (.kcl_svc_status_block_lock, 0, 1)])).dev.svcFifo.get (1 - (1 : Fin 2).val) []).foldl (fun (y : Nat) (z : List Nat ×
        Nat) => y + z.1.length) 0) + (byteList ([255#8, 255#8, 255#8, 255#8, 255#8, 255#8, 2#8, 0#8, 0#8, 0#8, 0#8, 1#8, 8#8,
        0#8, 1#8, 2#8, 3#8, 0#8, 0#8, 0#8, 0#8, 0#8, 0#8, 0#8, 0#8, 0#8, 0#8, 0#8, 0#8, 0#8, 0#8, 0#8, 0#8, 0#8, 0#8, 0#8, 0#8,
        0#8, 0#8, 0#8, 0#8, 0#8, 0#8, 0#8, 0#8, 0#8, 0#8, 0#8, 0#8, 0#8, 0#8, 0#8, 0#8, 0#8, 0#8, 0#8, 0#8, 0#8, 0#8, 0#8, 45#8,
        13#8, 193#8, 101#8] : List Byte)).length ≤ 65536 ∧ ((upState [(.kcl_svc_cfg_pass_en, 1, 1), (.kcl_svc_status_block_lock,
        0, 1)])).dev.get .kcl_svc_status_block_lock (1 - (1 : Fin 2).val) ≠ 0) ∧
    (((upState [(.kcl_svc_cfg_bind_en, 1, 1), (.kcl_svc_cfg_bind_port, 1, 500), (.kcl_svc_cfg_fab_ethertype, 1, 34997),
        (.kcl_svc_cfg_vid_check, 1, 0)])).dev.domainOn 10 = true ∧ 18 ≤ (byteList ([0#8, 0#8, 0#8, 0#8, 0#8, 0#8, 2#8, 0#8, 0#8,
        0#8, 0#8, 1#8, 136#8, 181#8, 240#8, 0#8, 0#8, 0#8, 0#8, 0#8, 0#8, 0#8, 0#8, 0#8, 0#8, 0#8, 0#8, 0#8, 0#8, 0#8, 0#8, 0#8,
        0#8, 0#8, 0#8, 0#8, 0#8, 0#8, 0#8, 0#8, 0#8, 0#8, 0#8, 0#8, 0#8, 0#8, 0#8, 0#8, 0#8, 0#8, 0#8, 0#8, 0#8, 0#8, 0#8, 0#8,
        0#8, 0#8, 0#8, 0#8, 0#8, 0#8, 0#8, 0#8, 0#8, 0#8, 0#8, 0#8, 0#8, 0#8, 0#8, 0#8, 0#8, 0#8, 0#8, 0#8, 0#8, 0#8, 12#8,
        40#8, 232#8, 141#8] : List Byte)).length ∧ (byteList ([0#8, 0#8, 0#8, 0#8, 0#8, 0#8, 2#8, 0#8, 0#8, 0#8, 0#8, 1#8,
        136#8, 181#8, 240#8, 0#8, 0#8, 0#8, 0#8, 0#8, 0#8, 0#8, 0#8, 0#8, 0#8, 0#8, 0#8, 0#8, 0#8, 0#8, 0#8, 0#8, 0#8, 0#8, 0#8,
        0#8, 0#8, 0#8, 0#8, 0#8, 0#8, 0#8, 0#8, 0#8, 0#8, 0#8, 0#8, 0#8, 0#8, 0#8, 0#8, 0#8, 0#8, 0#8, 0#8, 0#8, 0#8, 0#8, 0#8,
        0#8, 0#8, 0#8, 0#8, 0#8, 0#8, 0#8, 0#8, 0#8, 0#8, 0#8, 0#8, 0#8, 0#8, 0#8, 0#8, 0#8, 0#8, 0#8, 12#8, 40#8, 232#8, 141#8]
        : List Byte)).length ≤ 4160 ∧ leNat ((byteList ([0#8, 0#8, 0#8, 0#8, 0#8, 0#8, 2#8, 0#8, 0#8, 0#8, 0#8, 1#8, 136#8,
        181#8, 240#8, 0#8, 0#8, 0#8, 0#8, 0#8, 0#8, 0#8, 0#8, 0#8, 0#8, 0#8, 0#8, 0#8, 0#8, 0#8, 0#8, 0#8, 0#8, 0#8, 0#8, 0#8,
        0#8, 0#8, 0#8, 0#8, 0#8, 0#8, 0#8, 0#8, 0#8, 0#8, 0#8, 0#8, 0#8, 0#8, 0#8, 0#8, 0#8, 0#8, 0#8, 0#8, 0#8, 0#8, 0#8, 0#8,
        0#8, 0#8, 0#8, 0#8, 0#8, 0#8, 0#8, 0#8, 0#8, 0#8, 0#8, 0#8, 0#8, 0#8, 0#8, 0#8, 0#8, 0#8, 12#8, 40#8, 232#8, 141#8] :
        List Byte)).drop ((byteList ([0#8, 0#8, 0#8, 0#8, 0#8, 0#8, 2#8, 0#8, 0#8, 0#8, 0#8, 1#8, 136#8, 181#8, 240#8, 0#8, 0#8,
        0#8, 0#8, 0#8, 0#8, 0#8, 0#8, 0#8, 0#8, 0#8, 0#8, 0#8, 0#8, 0#8, 0#8, 0#8, 0#8, 0#8, 0#8, 0#8, 0#8, 0#8, 0#8, 0#8, 0#8,
        0#8, 0#8, 0#8, 0#8, 0#8, 0#8, 0#8, 0#8, 0#8, 0#8, 0#8, 0#8, 0#8, 0#8, 0#8, 0#8, 0#8, 0#8, 0#8, 0#8, 0#8, 0#8, 0#8, 0#8,
        0#8, 0#8, 0#8, 0#8, 0#8, 0#8, 0#8, 0#8, 0#8, 0#8, 0#8, 0#8, 0#8, 12#8, 40#8, 232#8, 141#8] : List Byte)).length - 4)) =
        ethFcs ((byteList ([0#8, 0#8, 0#8, 0#8, 0#8, 0#8, 2#8, 0#8, 0#8, 0#8, 0#8, 1#8, 136#8, 181#8, 240#8, 0#8, 0#8, 0#8, 0#8,
        0#8, 0#8, 0#8, 0#8, 0#8, 0#8, 0#8, 0#8, 0#8, 0#8, 0#8, 0#8, 0#8, 0#8, 0#8, 0#8, 0#8, 0#8, 0#8, 0#8, 0#8, 0#8, 0#8, 0#8,
        0#8, 0#8, 0#8, 0#8, 0#8, 0#8, 0#8, 0#8, 0#8, 0#8, 0#8, 0#8, 0#8, 0#8, 0#8, 0#8, 0#8, 0#8, 0#8, 0#8, 0#8, 0#8, 0#8, 0#8,
        0#8, 0#8, 0#8, 0#8, 0#8, 0#8, 0#8, 0#8, 0#8, 0#8, 0#8, 12#8, 40#8, 232#8, 141#8] : List Byte)).take ((byteList ([0#8,
        0#8, 0#8, 0#8, 0#8, 0#8, 2#8, 0#8, 0#8, 0#8, 0#8, 1#8, 136#8, 181#8, 240#8, 0#8, 0#8, 0#8, 0#8, 0#8, 0#8, 0#8, 0#8, 0#8,
        0#8, 0#8, 0#8, 0#8, 0#8, 0#8, 0#8, 0#8, 0#8, 0#8, 0#8, 0#8, 0#8, 0#8, 0#8, 0#8, 0#8, 0#8, 0#8, 0#8, 0#8, 0#8, 0#8, 0#8,
        0#8, 0#8, 0#8, 0#8, 0#8, 0#8, 0#8, 0#8, 0#8, 0#8, 0#8, 0#8, 0#8, 0#8, 0#8, 0#8, 0#8, 0#8, 0#8, 0#8, 0#8, 0#8, 0#8, 0#8,
        0#8, 0#8, 0#8, 0#8, 0#8, 0#8, 12#8, 40#8, 232#8, 141#8] : List Byte)).length - 4)) ∧ isPfc ((byteList ([0#8, 0#8, 0#8,
        0#8, 0#8, 0#8, 2#8, 0#8, 0#8, 0#8, 0#8, 1#8, 136#8, 181#8, 240#8, 0#8, 0#8, 0#8, 0#8, 0#8, 0#8, 0#8, 0#8, 0#8, 0#8, 0#8,
        0#8, 0#8, 0#8, 0#8, 0#8, 0#8, 0#8, 0#8, 0#8, 0#8, 0#8, 0#8, 0#8, 0#8, 0#8, 0#8, 0#8, 0#8, 0#8, 0#8, 0#8, 0#8, 0#8, 0#8,
        0#8, 0#8, 0#8, 0#8, 0#8, 0#8, 0#8, 0#8, 0#8, 0#8, 0#8, 0#8, 0#8, 0#8, 0#8, 0#8, 0#8, 0#8, 0#8, 0#8, 0#8, 0#8, 0#8, 0#8,
        0#8, 0#8, 0#8, 0#8, 12#8, 40#8, 232#8, 141#8] : List Byte)).take ((byteList ([0#8, 0#8, 0#8, 0#8, 0#8, 0#8, 2#8, 0#8,
        0#8, 0#8, 0#8, 1#8, 136#8, 181#8, 240#8, 0#8, 0#8, 0#8, 0#8, 0#8, 0#8, 0#8, 0#8, 0#8, 0#8, 0#8, 0#8, 0#8, 0#8, 0#8, 0#8,
        0#8, 0#8, 0#8, 0#8, 0#8, 0#8, 0#8, 0#8, 0#8, 0#8, 0#8, 0#8, 0#8, 0#8, 0#8, 0#8, 0#8, 0#8, 0#8, 0#8, 0#8, 0#8, 0#8, 0#8,
        0#8, 0#8, 0#8, 0#8, 0#8, 0#8, 0#8, 0#8, 0#8, 0#8, 0#8, 0#8, 0#8, 0#8, 0#8, 0#8, 0#8, 0#8, 0#8, 0#8, 0#8, 0#8, 0#8, 12#8,
        40#8, 232#8, 141#8] : List Byte)).length - 4)) (ethTags ((byteList ([0#8, 0#8, 0#8, 0#8, 0#8, 0#8, 2#8, 0#8, 0#8, 0#8,
        0#8, 1#8, 136#8, 181#8, 240#8, 0#8, 0#8, 0#8, 0#8, 0#8, 0#8, 0#8, 0#8, 0#8, 0#8, 0#8, 0#8, 0#8, 0#8, 0#8, 0#8, 0#8, 0#8,
        0#8, 0#8, 0#8, 0#8, 0#8, 0#8, 0#8, 0#8, 0#8, 0#8, 0#8, 0#8, 0#8, 0#8, 0#8, 0#8, 0#8, 0#8, 0#8, 0#8, 0#8, 0#8, 0#8, 0#8,
        0#8, 0#8, 0#8, 0#8, 0#8, 0#8, 0#8, 0#8, 0#8, 0#8, 0#8, 0#8, 0#8, 0#8, 0#8, 0#8, 0#8, 0#8, 0#8, 0#8, 0#8, 12#8, 40#8,
        232#8, 141#8] : List Byte)).take ((byteList ([0#8, 0#8, 0#8, 0#8, 0#8, 0#8, 2#8, 0#8, 0#8, 0#8, 0#8, 1#8, 136#8, 181#8,
        240#8, 0#8, 0#8, 0#8, 0#8, 0#8, 0#8, 0#8, 0#8, 0#8, 0#8, 0#8, 0#8, 0#8, 0#8, 0#8, 0#8, 0#8, 0#8, 0#8, 0#8, 0#8, 0#8,
        0#8, 0#8, 0#8, 0#8, 0#8, 0#8, 0#8, 0#8, 0#8, 0#8, 0#8, 0#8, 0#8, 0#8, 0#8, 0#8, 0#8, 0#8, 0#8, 0#8, 0#8, 0#8, 0#8, 0#8,
        0#8, 0#8, 0#8, 0#8, 0#8, 0#8, 0#8, 0#8, 0#8, 0#8, 0#8, 0#8, 0#8, 0#8, 0#8, 0#8, 0#8, 12#8, 40#8, 232#8, 141#8] : List
        Byte)).length - 4))).2 = false) ∧
    (beAt ((byteList ([0#8, 0#8, 0#8, 0#8, 0#8, 0#8, 2#8, 0#8, 0#8, 0#8, 0#8, 1#8, 136#8, 181#8, 240#8, 0#8, 0#8, 0#8, 0#8, 0#8,
        0#8, 0#8, 0#8, 0#8, 0#8, 0#8, 0#8, 0#8, 0#8, 0#8, 0#8, 0#8, 0#8, 0#8, 0#8, 0#8, 0#8, 0#8, 0#8, 0#8, 0#8, 0#8, 0#8, 0#8,
        0#8, 0#8, 0#8, 0#8, 0#8, 0#8, 0#8, 0#8, 0#8, 0#8, 0#8, 0#8, 0#8, 0#8, 0#8, 0#8, 0#8, 0#8, 0#8, 0#8, 0#8, 0#8, 0#8, 0#8,
        0#8, 0#8, 0#8, 0#8, 0#8, 0#8, 0#8, 0#8, 0#8, 0#8, 12#8, 40#8, 232#8, 141#8] : List Byte)).take ((byteList ([0#8, 0#8,
        0#8, 0#8, 0#8, 0#8, 2#8, 0#8, 0#8, 0#8, 0#8, 1#8, 136#8, 181#8, 240#8, 0#8, 0#8, 0#8, 0#8, 0#8, 0#8, 0#8, 0#8, 0#8, 0#8,
        0#8, 0#8, 0#8, 0#8, 0#8, 0#8, 0#8, 0#8, 0#8, 0#8, 0#8, 0#8, 0#8, 0#8, 0#8, 0#8, 0#8, 0#8, 0#8, 0#8, 0#8, 0#8, 0#8, 0#8,
        0#8, 0#8, 0#8, 0#8, 0#8, 0#8, 0#8, 0#8, 0#8, 0#8, 0#8, 0#8, 0#8, 0#8, 0#8, 0#8, 0#8, 0#8, 0#8, 0#8, 0#8, 0#8, 0#8, 0#8,
        0#8, 0#8, 0#8, 0#8, 0#8, 12#8, 40#8, 232#8, 141#8] : List Byte)).length - 4)) 0 6 = ((upState [(.kcl_svc_cfg_bind_en, 1,
        1), (.kcl_svc_cfg_bind_port, 1, 500), (.kcl_svc_cfg_fab_ethertype, 1, 34997), (.kcl_svc_cfg_vid_check, 1, 0)])).dev.get
        .kcl_svc_mac_own_mac (1 : Fin 2) ∧ beAt ((byteList ([0#8, 0#8, 0#8, 0#8, 0#8, 0#8, 2#8, 0#8, 0#8, 0#8, 0#8, 1#8, 136#8,
        181#8, 240#8, 0#8, 0#8, 0#8, 0#8, 0#8, 0#8, 0#8, 0#8, 0#8, 0#8, 0#8, 0#8, 0#8, 0#8, 0#8, 0#8, 0#8, 0#8, 0#8, 0#8, 0#8,
        0#8, 0#8, 0#8, 0#8, 0#8, 0#8, 0#8, 0#8, 0#8, 0#8, 0#8, 0#8, 0#8, 0#8, 0#8, 0#8, 0#8, 0#8, 0#8, 0#8, 0#8, 0#8, 0#8, 0#8,
        0#8, 0#8, 0#8, 0#8, 0#8, 0#8, 0#8, 0#8, 0#8, 0#8, 0#8, 0#8, 0#8, 0#8, 0#8, 0#8, 0#8, 0#8, 12#8, 40#8, 232#8, 141#8] :
        List Byte)).take ((byteList ([0#8, 0#8, 0#8, 0#8, 0#8, 0#8, 2#8, 0#8, 0#8, 0#8, 0#8, 1#8, 136#8, 181#8, 240#8, 0#8, 0#8,
        0#8, 0#8, 0#8, 0#8, 0#8, 0#8, 0#8, 0#8, 0#8, 0#8, 0#8, 0#8, 0#8, 0#8, 0#8, 0#8, 0#8, 0#8, 0#8, 0#8, 0#8, 0#8, 0#8, 0#8,
        0#8, 0#8, 0#8, 0#8, 0#8, 0#8, 0#8, 0#8, 0#8, 0#8, 0#8, 0#8, 0#8, 0#8, 0#8, 0#8, 0#8, 0#8, 0#8, 0#8, 0#8, 0#8, 0#8, 0#8,
        0#8, 0#8, 0#8, 0#8, 0#8, 0#8, 0#8, 0#8, 0#8, 0#8, 0#8, 0#8, 0#8, 12#8, 40#8, 232#8, 141#8] : List Byte)).length - 4))
        (ethTags ((byteList ([0#8, 0#8, 0#8, 0#8, 0#8, 0#8, 2#8, 0#8, 0#8, 0#8, 0#8, 1#8, 136#8, 181#8, 240#8, 0#8, 0#8, 0#8,
        0#8, 0#8, 0#8, 0#8, 0#8, 0#8, 0#8, 0#8, 0#8, 0#8, 0#8, 0#8, 0#8, 0#8, 0#8, 0#8, 0#8, 0#8, 0#8, 0#8, 0#8, 0#8, 0#8, 0#8,
        0#8, 0#8, 0#8, 0#8, 0#8, 0#8, 0#8, 0#8, 0#8, 0#8, 0#8, 0#8, 0#8, 0#8, 0#8, 0#8, 0#8, 0#8, 0#8, 0#8, 0#8, 0#8, 0#8, 0#8,
        0#8, 0#8, 0#8, 0#8, 0#8, 0#8, 0#8, 0#8, 0#8, 0#8, 0#8, 0#8, 12#8, 40#8, 232#8, 141#8] : List Byte)).take ((byteList
        ([0#8, 0#8, 0#8, 0#8, 0#8, 0#8, 2#8, 0#8, 0#8, 0#8, 0#8, 1#8, 136#8, 181#8, 240#8, 0#8, 0#8, 0#8, 0#8, 0#8, 0#8, 0#8,
        0#8, 0#8, 0#8, 0#8, 0#8, 0#8, 0#8, 0#8, 0#8, 0#8, 0#8, 0#8, 0#8, 0#8, 0#8, 0#8, 0#8, 0#8, 0#8, 0#8, 0#8, 0#8, 0#8, 0#8,
        0#8, 0#8, 0#8, 0#8, 0#8, 0#8, 0#8, 0#8, 0#8, 0#8, 0#8, 0#8, 0#8, 0#8, 0#8, 0#8, 0#8, 0#8, 0#8, 0#8, 0#8, 0#8, 0#8, 0#8,
        0#8, 0#8, 0#8, 0#8, 0#8, 0#8, 0#8, 0#8, 12#8, 40#8, 232#8, 141#8] : List Byte)).length - 4))).2 2 = ((upState
        [(.kcl_svc_cfg_bind_en, 1, 1), (.kcl_svc_cfg_bind_port, 1, 500), (.kcl_svc_cfg_fab_ethertype, 1, 34997),
        (.kcl_svc_cfg_vid_check, 1, 0)])).dev.get .kcl_svc_cfg_fab_ethertype (1 : Fin 2) ∧ ((upState [(.kcl_svc_cfg_bind_en, 1,
        1), (.kcl_svc_cfg_bind_port, 1, 500), (.kcl_svc_cfg_fab_ethertype, 1, 34997), (.kcl_svc_cfg_vid_check, 1, 0)])).dev.flag
        .kcl_svc_cfg_vid_check (1 : Fin 2) = false) ∧
    (((upState [(.kcl_svc_cfg_bind_en, 1, 1), (.kcl_svc_cfg_bind_port, 1, 500), (.kcl_svc_cfg_fab_ethertype, 1, 34997),
        (.kcl_svc_cfg_vid_check, 1, 0)])).dev.svcPort (1 : Fin 2) = some (500 : Nat) ∧ ethUnit ((byteList ([0#8, 0#8, 0#8, 0#8,
        0#8, 0#8, 2#8, 0#8, 0#8, 0#8, 0#8, 1#8, 136#8, 181#8, 240#8, 0#8, 0#8, 0#8, 0#8, 0#8, 0#8, 0#8, 0#8, 0#8, 0#8, 0#8, 0#8,
        0#8, 0#8, 0#8, 0#8, 0#8, 0#8, 0#8, 0#8, 0#8, 0#8, 0#8, 0#8, 0#8, 0#8, 0#8, 0#8, 0#8, 0#8, 0#8, 0#8, 0#8, 0#8, 0#8, 0#8,
        0#8, 0#8, 0#8, 0#8, 0#8, 0#8, 0#8, 0#8, 0#8, 0#8, 0#8, 0#8, 0#8, 0#8, 0#8, 0#8, 0#8, 0#8, 0#8, 0#8, 0#8, 0#8, 0#8, 0#8,
        0#8, 0#8, 0#8, 12#8, 40#8, 232#8, 141#8] : List Byte)).take ((byteList ([0#8, 0#8, 0#8, 0#8, 0#8, 0#8, 2#8, 0#8, 0#8,
        0#8, 0#8, 1#8, 136#8, 181#8, 240#8, 0#8, 0#8, 0#8, 0#8, 0#8, 0#8, 0#8, 0#8, 0#8, 0#8, 0#8, 0#8, 0#8, 0#8, 0#8, 0#8, 0#8,
        0#8, 0#8, 0#8, 0#8, 0#8, 0#8, 0#8, 0#8, 0#8, 0#8, 0#8, 0#8, 0#8, 0#8, 0#8, 0#8, 0#8, 0#8, 0#8, 0#8, 0#8, 0#8, 0#8, 0#8,
        0#8, 0#8, 0#8, 0#8, 0#8, 0#8, 0#8, 0#8, 0#8, 0#8, 0#8, 0#8, 0#8, 0#8, 0#8, 0#8, 0#8, 0#8, 0#8, 0#8, 0#8, 0#8, 12#8,
        40#8, 232#8, 141#8] : List Byte)).length - 4)) ((ethTags ((byteList ([0#8, 0#8, 0#8, 0#8, 0#8, 0#8, 2#8, 0#8, 0#8, 0#8,
        0#8, 1#8, 136#8, 181#8, 240#8, 0#8, 0#8, 0#8, 0#8, 0#8, 0#8, 0#8, 0#8, 0#8, 0#8, 0#8, 0#8, 0#8, 0#8, 0#8, 0#8, 0#8, 0#8,
        0#8, 0#8, 0#8, 0#8, 0#8, 0#8, 0#8, 0#8, 0#8, 0#8, 0#8, 0#8, 0#8, 0#8, 0#8, 0#8, 0#8, 0#8, 0#8, 0#8, 0#8, 0#8, 0#8, 0#8,
        0#8, 0#8, 0#8, 0#8, 0#8, 0#8, 0#8, 0#8, 0#8, 0#8, 0#8, 0#8, 0#8, 0#8, 0#8, 0#8, 0#8, 0#8, 0#8, 0#8, 0#8, 12#8, 40#8,
        232#8, 141#8] : List Byte)).take ((byteList ([0#8, 0#8, 0#8, 0#8, 0#8, 0#8, 2#8, 0#8, 0#8, 0#8, 0#8, 1#8, 136#8, 181#8,
        240#8, 0#8, 0#8, 0#8, 0#8, 0#8, 0#8, 0#8, 0#8, 0#8, 0#8, 0#8, 0#8, 0#8, 0#8, 0#8, 0#8, 0#8, 0#8, 0#8, 0#8, 0#8, 0#8,
        0#8, 0#8, 0#8, 0#8, 0#8, 0#8, 0#8, 0#8, 0#8, 0#8, 0#8, 0#8, 0#8, 0#8, 0#8, 0#8, 0#8, 0#8, 0#8, 0#8, 0#8, 0#8, 0#8, 0#8,
        0#8, 0#8, 0#8, 0#8, 0#8, 0#8, 0#8, 0#8, 0#8, 0#8, 0#8, 0#8, 0#8, 0#8, 0#8, 0#8, 0#8, 12#8, 40#8, 232#8, 141#8] : List
        Byte)).length - 4))).2 + 2) = some ([240, 0, 0, 0, 0, 0, 0, 0, 0, 0, 0, 0, 0, 0, 0, 0, 0, 0, 0, 0, 0, 0, 0, 0, 0, 0, 0,
        0, 0, 0, 0, 0, 0, 0, 0, 0, 0, 0, 0, 0, 0, 0, 0, 0, 0, 0, 0, 0, 0, 0, 0, 0, 0, 0, 0, 0, 0, 0, 0, 0, 0, 0, 0, 0] : List
        Nat)) ∧
    (((upState [])).dev.domainOn 10 = true ∧ leNat ((byteList ([0#8, 0#8, 0#8, 0#8, 0#8, 7#8, 2#8, 0#8, 0#8, 0#8, 0#8, 1#8, 8#8,
        0#8, 1#8, 0#8, 0#8, 0#8, 0#8, 0#8, 0#8, 0#8, 0#8, 0#8, 0#8, 0#8, 0#8, 0#8, 0#8, 0#8, 0#8, 0#8, 0#8, 0#8, 0#8, 0#8, 0#8,
        0#8, 0#8, 0#8, 0#8, 0#8, 0#8, 0#8, 0#8, 0#8, 0#8, 0#8, 0#8, 0#8, 0#8, 0#8, 0#8, 0#8, 0#8, 0#8, 0#8, 0#8, 0#8, 0#8, 53#8,
        23#8, 60#8, 0#8] : List Byte)).drop ((byteList ([0#8, 0#8, 0#8, 0#8, 0#8, 7#8, 2#8, 0#8, 0#8, 0#8, 0#8, 1#8, 8#8, 0#8,
        1#8, 0#8, 0#8, 0#8, 0#8, 0#8, 0#8, 0#8, 0#8, 0#8, 0#8, 0#8, 0#8, 0#8, 0#8, 0#8, 0#8, 0#8, 0#8, 0#8, 0#8, 0#8, 0#8, 0#8,
        0#8, 0#8, 0#8, 0#8, 0#8, 0#8, 0#8, 0#8, 0#8, 0#8, 0#8, 0#8, 0#8, 0#8, 0#8, 0#8, 0#8, 0#8, 0#8, 0#8, 0#8, 0#8, 53#8,
        23#8, 60#8, 0#8] : List Byte)).length - 4)) ≠ ethFcs ((byteList ([0#8, 0#8, 0#8, 0#8, 0#8, 7#8, 2#8, 0#8, 0#8, 0#8, 0#8,
        1#8, 8#8, 0#8, 1#8, 0#8, 0#8, 0#8, 0#8, 0#8, 0#8, 0#8, 0#8, 0#8, 0#8, 0#8, 0#8, 0#8, 0#8, 0#8, 0#8, 0#8, 0#8, 0#8, 0#8,
        0#8, 0#8, 0#8, 0#8, 0#8, 0#8, 0#8, 0#8, 0#8, 0#8, 0#8, 0#8, 0#8, 0#8, 0#8, 0#8, 0#8, 0#8, 0#8, 0#8, 0#8, 0#8, 0#8, 0#8,
        0#8, 53#8, 23#8, 60#8, 0#8] : List Byte)).take ((byteList ([0#8, 0#8, 0#8, 0#8, 0#8, 7#8, 2#8, 0#8, 0#8, 0#8, 0#8, 1#8,
        8#8, 0#8, 1#8, 0#8, 0#8, 0#8, 0#8, 0#8, 0#8, 0#8, 0#8, 0#8, 0#8, 0#8, 0#8, 0#8, 0#8, 0#8, 0#8, 0#8, 0#8, 0#8, 0#8, 0#8,
        0#8, 0#8, 0#8, 0#8, 0#8, 0#8, 0#8, 0#8, 0#8, 0#8, 0#8, 0#8, 0#8, 0#8, 0#8, 0#8, 0#8, 0#8, 0#8, 0#8, 0#8, 0#8, 0#8, 0#8,
        53#8, 23#8, 60#8, 0#8] : List Byte)).length - 4))) ∧
    (((upState [(.kcl_svc_cfg_pass_en, 1, 0)])).dev.domainOn 10 = true ∧ 18 ≤ (byteList ([255#8, 255#8, 255#8, 255#8, 255#8,
        255#8, 2#8, 0#8, 0#8, 0#8, 0#8, 1#8, 8#8, 0#8, 1#8, 2#8, 3#8, 0#8, 0#8, 0#8, 0#8, 0#8, 0#8, 0#8, 0#8, 0#8, 0#8, 0#8,
        0#8, 0#8, 0#8, 0#8, 0#8, 0#8, 0#8, 0#8, 0#8, 0#8, 0#8, 0#8, 0#8, 0#8, 0#8, 0#8, 0#8, 0#8, 0#8, 0#8, 0#8, 0#8, 0#8, 0#8,
        0#8, 0#8, 0#8, 0#8, 0#8, 0#8, 0#8, 0#8, 45#8, 13#8, 193#8, 101#8] : List Byte)).length ∧ (byteList ([255#8, 255#8,
        255#8, 255#8, 255#8, 255#8, 2#8, 0#8, 0#8, 0#8, 0#8, 1#8, 8#8, 0#8, 1#8, 2#8, 3#8, 0#8, 0#8, 0#8, 0#8, 0#8, 0#8, 0#8,
        0#8, 0#8, 0#8, 0#8, 0#8, 0#8, 0#8, 0#8, 0#8, 0#8, 0#8, 0#8, 0#8, 0#8, 0#8, 0#8, 0#8, 0#8, 0#8, 0#8, 0#8, 0#8, 0#8, 0#8,
        0#8, 0#8, 0#8, 0#8, 0#8, 0#8, 0#8, 0#8, 0#8, 0#8, 0#8, 0#8, 45#8, 13#8, 193#8, 101#8] : List Byte)).length ≤ 4160 ∧
        leNat ((byteList ([255#8, 255#8, 255#8, 255#8, 255#8, 255#8, 2#8, 0#8, 0#8, 0#8, 0#8, 1#8, 8#8, 0#8, 1#8, 2#8, 3#8, 0#8,
        0#8, 0#8, 0#8, 0#8, 0#8, 0#8, 0#8, 0#8, 0#8, 0#8, 0#8, 0#8, 0#8, 0#8, 0#8, 0#8, 0#8, 0#8, 0#8, 0#8, 0#8, 0#8, 0#8, 0#8,
        0#8, 0#8, 0#8, 0#8, 0#8, 0#8, 0#8, 0#8, 0#8, 0#8, 0#8, 0#8, 0#8, 0#8, 0#8, 0#8, 0#8, 0#8, 45#8, 13#8, 193#8, 101#8] :
        List Byte)).drop ((byteList ([255#8, 255#8, 255#8, 255#8, 255#8, 255#8, 2#8, 0#8, 0#8, 0#8, 0#8, 1#8, 8#8, 0#8, 1#8,
        2#8, 3#8, 0#8, 0#8, 0#8, 0#8, 0#8, 0#8, 0#8, 0#8, 0#8, 0#8, 0#8, 0#8, 0#8, 0#8, 0#8, 0#8, 0#8, 0#8, 0#8, 0#8, 0#8, 0#8,
        0#8, 0#8, 0#8, 0#8, 0#8, 0#8, 0#8, 0#8, 0#8, 0#8, 0#8, 0#8, 0#8, 0#8, 0#8, 0#8, 0#8, 0#8, 0#8, 0#8, 0#8, 45#8, 13#8,
        193#8, 101#8] : List Byte)).length - 4)) = ethFcs ((byteList ([255#8, 255#8, 255#8, 255#8, 255#8, 255#8, 2#8, 0#8, 0#8,
        0#8, 0#8, 1#8, 8#8, 0#8, 1#8, 2#8, 3#8, 0#8, 0#8, 0#8, 0#8, 0#8, 0#8, 0#8, 0#8, 0#8, 0#8, 0#8, 0#8, 0#8, 0#8, 0#8, 0#8,
        0#8, 0#8, 0#8, 0#8, 0#8, 0#8, 0#8, 0#8, 0#8, 0#8, 0#8, 0#8, 0#8, 0#8, 0#8, 0#8, 0#8, 0#8, 0#8, 0#8, 0#8, 0#8, 0#8, 0#8,
        0#8, 0#8, 0#8, 45#8, 13#8, 193#8, 101#8] : List Byte)).take ((byteList ([255#8, 255#8, 255#8, 255#8, 255#8, 255#8, 2#8,
        0#8, 0#8, 0#8, 0#8, 1#8, 8#8, 0#8, 1#8, 2#8, 3#8, 0#8, 0#8, 0#8, 0#8, 0#8, 0#8, 0#8, 0#8, 0#8, 0#8, 0#8, 0#8, 0#8, 0#8,
        0#8, 0#8, 0#8, 0#8, 0#8, 0#8, 0#8, 0#8, 0#8, 0#8, 0#8, 0#8, 0#8, 0#8, 0#8, 0#8, 0#8, 0#8, 0#8, 0#8, 0#8, 0#8, 0#8, 0#8,
        0#8, 0#8, 0#8, 0#8, 0#8, 45#8, 13#8, 193#8, 101#8] : List Byte)).length - 4)) ∧ isPfc ((byteList ([255#8, 255#8, 255#8,
        255#8, 255#8, 255#8, 2#8, 0#8, 0#8, 0#8, 0#8, 1#8, 8#8, 0#8, 1#8, 2#8, 3#8, 0#8, 0#8, 0#8, 0#8, 0#8, 0#8, 0#8, 0#8, 0#8,
        0#8, 0#8, 0#8, 0#8, 0#8, 0#8, 0#8, 0#8, 0#8, 0#8, 0#8, 0#8, 0#8, 0#8, 0#8, 0#8, 0#8, 0#8, 0#8, 0#8, 0#8, 0#8, 0#8, 0#8,
        0#8, 0#8, 0#8, 0#8, 0#8, 0#8, 0#8, 0#8, 0#8, 0#8, 45#8, 13#8, 193#8, 101#8] : List Byte)).take ((byteList ([255#8,
        255#8, 255#8, 255#8, 255#8, 255#8, 2#8, 0#8, 0#8, 0#8, 0#8, 1#8, 8#8, 0#8, 1#8, 2#8, 3#8, 0#8, 0#8, 0#8, 0#8, 0#8, 0#8,
        0#8, 0#8, 0#8, 0#8, 0#8, 0#8, 0#8, 0#8, 0#8, 0#8, 0#8, 0#8, 0#8, 0#8, 0#8, 0#8, 0#8, 0#8, 0#8, 0#8, 0#8, 0#8, 0#8, 0#8,
        0#8, 0#8, 0#8, 0#8, 0#8, 0#8, 0#8, 0#8, 0#8, 0#8, 0#8, 0#8, 0#8, 45#8, 13#8, 193#8, 101#8] : List Byte)).length - 4))
        (ethTags ((byteList ([255#8, 255#8, 255#8, 255#8, 255#8, 255#8, 2#8, 0#8, 0#8, 0#8, 0#8, 1#8, 8#8, 0#8, 1#8, 2#8, 3#8,
        0#8, 0#8, 0#8, 0#8, 0#8, 0#8, 0#8, 0#8, 0#8, 0#8, 0#8, 0#8, 0#8, 0#8, 0#8, 0#8, 0#8, 0#8, 0#8, 0#8, 0#8, 0#8, 0#8, 0#8,
        0#8, 0#8, 0#8, 0#8, 0#8, 0#8, 0#8, 0#8, 0#8, 0#8, 0#8, 0#8, 0#8, 0#8, 0#8, 0#8, 0#8, 0#8, 0#8, 45#8, 13#8, 193#8, 101#8]
        : List Byte)).take ((byteList ([255#8, 255#8, 255#8, 255#8, 255#8, 255#8, 2#8, 0#8, 0#8, 0#8, 0#8, 1#8, 8#8, 0#8, 1#8,
        2#8, 3#8, 0#8, 0#8, 0#8, 0#8, 0#8, 0#8, 0#8, 0#8, 0#8, 0#8, 0#8, 0#8, 0#8, 0#8, 0#8, 0#8, 0#8, 0#8, 0#8, 0#8, 0#8, 0#8,
        0#8, 0#8, 0#8, 0#8, 0#8, 0#8, 0#8, 0#8, 0#8, 0#8, 0#8, 0#8, 0#8, 0#8, 0#8, 0#8, 0#8, 0#8, 0#8, 0#8, 0#8, 45#8, 13#8,
        193#8, 101#8] : List Byte)).length - 4))).2 = false) ∧
    ((((upState [(.kcl_svc_cfg_pass_en, 1, 0)])).dev.svcPort (1 : Fin 2) = none ∨ beAt ((byteList ([255#8, 255#8, 255#8, 255#8,
        255#8, 255#8, 2#8, 0#8, 0#8, 0#8, 0#8, 1#8, 8#8, 0#8, 1#8, 2#8, 3#8, 0#8, 0#8, 0#8, 0#8, 0#8, 0#8, 0#8, 0#8, 0#8, 0#8,
        0#8, 0#8, 0#8, 0#8, 0#8, 0#8, 0#8, 0#8, 0#8, 0#8, 0#8, 0#8, 0#8, 0#8, 0#8, 0#8, 0#8, 0#8, 0#8, 0#8, 0#8, 0#8, 0#8, 0#8,
        0#8, 0#8, 0#8, 0#8, 0#8, 0#8, 0#8, 0#8, 0#8, 45#8, 13#8, 193#8, 101#8] : List Byte)).take ((byteList ([255#8, 255#8,
        255#8, 255#8, 255#8, 255#8, 2#8, 0#8, 0#8, 0#8, 0#8, 1#8, 8#8, 0#8, 1#8, 2#8, 3#8, 0#8, 0#8, 0#8, 0#8, 0#8, 0#8, 0#8,
        0#8, 0#8, 0#8, 0#8, 0#8, 0#8, 0#8, 0#8, 0#8, 0#8, 0#8, 0#8, 0#8, 0#8, 0#8, 0#8, 0#8, 0#8, 0#8, 0#8, 0#8, 0#8, 0#8, 0#8,
        0#8, 0#8, 0#8, 0#8, 0#8, 0#8, 0#8, 0#8, 0#8, 0#8, 0#8, 0#8, 45#8, 13#8, 193#8, 101#8] : List Byte)).length - 4)) 0 6 ≠
        ((upState [(.kcl_svc_cfg_pass_en, 1, 0)])).dev.get .kcl_svc_mac_own_mac (1 : Fin 2) ∨ beAt ((byteList ([255#8, 255#8,
        255#8, 255#8, 255#8, 255#8, 2#8, 0#8, 0#8, 0#8, 0#8, 1#8, 8#8, 0#8, 1#8, 2#8, 3#8, 0#8, 0#8, 0#8, 0#8, 0#8, 0#8, 0#8,
        0#8, 0#8, 0#8, 0#8, 0#8, 0#8, 0#8, 0#8, 0#8, 0#8, 0#8, 0#8, 0#8, 0#8, 0#8, 0#8, 0#8, 0#8, 0#8, 0#8, 0#8, 0#8, 0#8, 0#8,
        0#8, 0#8, 0#8, 0#8, 0#8, 0#8, 0#8, 0#8, 0#8, 0#8, 0#8, 0#8, 45#8, 13#8, 193#8, 101#8] : List Byte)).take ((byteList
        ([255#8, 255#8, 255#8, 255#8, 255#8, 255#8, 2#8, 0#8, 0#8, 0#8, 0#8, 1#8, 8#8, 0#8, 1#8, 2#8, 3#8, 0#8, 0#8, 0#8, 0#8,
        0#8, 0#8, 0#8, 0#8, 0#8, 0#8, 0#8, 0#8, 0#8, 0#8, 0#8, 0#8, 0#8, 0#8, 0#8, 0#8, 0#8, 0#8, 0#8, 0#8, 0#8, 0#8, 0#8, 0#8,
        0#8, 0#8, 0#8, 0#8, 0#8, 0#8, 0#8, 0#8, 0#8, 0#8, 0#8, 0#8, 0#8, 0#8, 0#8, 45#8, 13#8, 193#8, 101#8] : List
        Byte)).length - 4)) (ethTags ((byteList ([255#8, 255#8, 255#8, 255#8, 255#8, 255#8, 2#8, 0#8, 0#8, 0#8, 0#8, 1#8, 8#8,
        0#8, 1#8, 2#8, 3#8, 0#8, 0#8, 0#8, 0#8, 0#8, 0#8, 0#8, 0#8, 0#8, 0#8, 0#8, 0#8, 0#8, 0#8, 0#8, 0#8, 0#8, 0#8, 0#8, 0#8,
        0#8, 0#8, 0#8, 0#8, 0#8, 0#8, 0#8, 0#8, 0#8, 0#8, 0#8, 0#8, 0#8, 0#8, 0#8, 0#8, 0#8, 0#8, 0#8, 0#8, 0#8, 0#8, 0#8, 45#8,
        13#8, 193#8, 101#8] : List Byte)).take ((byteList ([255#8, 255#8, 255#8, 255#8, 255#8, 255#8, 2#8, 0#8, 0#8, 0#8, 0#8,
        1#8, 8#8, 0#8, 1#8, 2#8, 3#8, 0#8, 0#8, 0#8, 0#8, 0#8, 0#8, 0#8, 0#8, 0#8, 0#8, 0#8, 0#8, 0#8, 0#8, 0#8, 0#8, 0#8, 0#8,
        0#8, 0#8, 0#8, 0#8, 0#8, 0#8, 0#8, 0#8, 0#8, 0#8, 0#8, 0#8, 0#8, 0#8, 0#8, 0#8, 0#8, 0#8, 0#8, 0#8, 0#8, 0#8, 0#8, 0#8,
        0#8, 45#8, 13#8, 193#8, 101#8] : List Byte)).length - 4))).2 2 ≠ ((upState [(.kcl_svc_cfg_pass_en, 1, 0)])).dev.get
        .kcl_svc_cfg_fab_ethertype (1 : Fin 2)) ∧ ((upState [(.kcl_svc_cfg_pass_en, 1, 0)])).dev.flag .kcl_svc_cfg_pass_en (1 :
        Fin 2) = false) ∧
    (((upState [(.kcl_svc_cfg_pfc_en, 1, 255)])).dev.domainOn 10 = true ∧ 18 ≤ (byteList ([1#8, 128#8, 194#8, 0#8, 0#8, 1#8,
        2#8, 0#8, 0#8, 0#8, 0#8, 1#8, 136#8, 8#8, 1#8, 1#8, 0#8, 15#8, 0#8, 0#8, 0#8, 1#8, 0#8, 0#8, 0#8, 1#8, 0#8, 0#8, 0#8,
        1#8, 0#8, 0#8, 0#8, 1#8, 0#8, 0#8, 0#8, 0#8, 0#8, 0#8, 0#8, 0#8, 0#8, 0#8, 0#8, 0#8, 0#8, 0#8, 0#8, 0#8, 0#8, 0#8, 0#8,
        0#8, 0#8, 0#8, 0#8, 0#8, 0#8, 0#8, 128#8, 24#8, 14#8, 67#8] : List Byte)).length ∧ (byteList ([1#8, 128#8, 194#8, 0#8,
        0#8, 1#8, 2#8, 0#8, 0#8, 0#8, 0#8, 1#8, 136#8, 8#8, 1#8, 1#8, 0#8, 15#8, 0#8, 0#8, 0#8, 1#8, 0#8, 0#8, 0#8, 1#8, 0#8,
        0#8, 0#8, 1#8, 0#8, 0#8, 0#8, 1#8, 0#8, 0#8, 0#8, 0#8, 0#8, 0#8, 0#8, 0#8, 0#8, 0#8, 0#8, 0#8, 0#8, 0#8, 0#8, 0#8, 0#8,
        0#8, 0#8, 0#8, 0#8, 0#8, 0#8, 0#8, 0#8, 0#8, 128#8, 24#8, 14#8, 67#8] : List Byte)).length ≤ 4160 ∧ leNat ((byteList
        ([1#8, 128#8, 194#8, 0#8, 0#8, 1#8, 2#8, 0#8, 0#8, 0#8, 0#8, 1#8, 136#8, 8#8, 1#8, 1#8, 0#8, 15#8, 0#8, 0#8, 0#8, 1#8,
        0#8, 0#8, 0#8, 1#8, 0#8, 0#8, 0#8, 1#8, 0#8, 0#8, 0#8, 1#8, 0#8, 0#8, 0#8, 0#8, 0#8, 0#8, 0#8, 0#8, 0#8, 0#8, 0#8, 0#8,
        0#8, 0#8, 0#8, 0#8, 0#8, 0#8, 0#8, 0#8, 0#8, 0#8, 0#8, 0#8, 0#8, 0#8, 128#8, 24#8, 14#8, 67#8] : List Byte)).drop
        ((byteList ([1#8, 128#8, 194#8, 0#8, 0#8, 1#8, 2#8, 0#8, 0#8, 0#8, 0#8, 1#8, 136#8, 8#8, 1#8, 1#8, 0#8, 15#8, 0#8, 0#8,
        0#8, 1#8, 0#8, 0#8, 0#8, 1#8, 0#8, 0#8, 0#8, 1#8, 0#8, 0#8, 0#8, 1#8, 0#8, 0#8, 0#8, 0#8, 0#8, 0#8, 0#8, 0#8, 0#8, 0#8,
        0#8, 0#8, 0#8, 0#8, 0#8, 0#8, 0#8, 0#8, 0#8, 0#8, 0#8, 0#8, 0#8, 0#8, 0#8, 0#8, 128#8, 24#8, 14#8, 67#8] : List
        Byte)).length - 4)) = ethFcs ((byteList ([1#8, 128#8, 194#8, 0#8, 0#8, 1#8, 2#8, 0#8, 0#8, 0#8, 0#8, 1#8, 136#8, 8#8,
        1#8, 1#8, 0#8, 15#8, 0#8, 0#8, 0#8, 1#8, 0#8, 0#8, 0#8, 1#8, 0#8, 0#8, 0#8, 1#8, 0#8, 0#8, 0#8, 1#8, 0#8, 0#8, 0#8, 0#8,
        0#8, 0#8, 0#8, 0#8, 0#8, 0#8, 0#8, 0#8, 0#8, 0#8, 0#8, 0#8, 0#8, 0#8, 0#8, 0#8, 0#8, 0#8, 0#8, 0#8, 0#8, 0#8, 128#8,
        24#8, 14#8, 67#8] : List Byte)).take ((byteList ([1#8, 128#8, 194#8, 0#8, 0#8, 1#8, 2#8, 0#8, 0#8, 0#8, 0#8, 1#8, 136#8,
        8#8, 1#8, 1#8, 0#8, 15#8, 0#8, 0#8, 0#8, 1#8, 0#8, 0#8, 0#8, 1#8, 0#8, 0#8, 0#8, 1#8, 0#8, 0#8, 0#8, 1#8, 0#8, 0#8, 0#8,
        0#8, 0#8, 0#8, 0#8, 0#8, 0#8, 0#8, 0#8, 0#8, 0#8, 0#8, 0#8, 0#8, 0#8, 0#8, 0#8, 0#8, 0#8, 0#8, 0#8, 0#8, 0#8, 0#8,
        128#8, 24#8, 14#8, 67#8] : List Byte)).length - 4)) ∧ isPfc ((byteList ([1#8, 128#8, 194#8, 0#8, 0#8, 1#8, 2#8, 0#8,
        0#8, 0#8, 0#8, 1#8, 136#8, 8#8, 1#8, 1#8, 0#8, 15#8, 0#8, 0#8, 0#8, 1#8, 0#8, 0#8, 0#8, 1#8, 0#8, 0#8, 0#8, 1#8, 0#8,
        0#8, 0#8, 1#8, 0#8, 0#8, 0#8, 0#8, 0#8, 0#8, 0#8, 0#8, 0#8, 0#8, 0#8, 0#8, 0#8, 0#8, 0#8, 0#8, 0#8, 0#8, 0#8, 0#8, 0#8,
        0#8, 0#8, 0#8, 0#8, 0#8, 128#8, 24#8, 14#8, 67#8] : List Byte)).take ((byteList ([1#8, 128#8, 194#8, 0#8, 0#8, 1#8, 2#8,
        0#8, 0#8, 0#8, 0#8, 1#8, 136#8, 8#8, 1#8, 1#8, 0#8, 15#8, 0#8, 0#8, 0#8, 1#8, 0#8, 0#8, 0#8, 1#8, 0#8, 0#8, 0#8, 1#8,
        0#8, 0#8, 0#8, 1#8, 0#8, 0#8, 0#8, 0#8, 0#8, 0#8, 0#8, 0#8, 0#8, 0#8, 0#8, 0#8, 0#8, 0#8, 0#8, 0#8, 0#8, 0#8, 0#8, 0#8,
        0#8, 0#8, 0#8, 0#8, 0#8, 0#8, 128#8, 24#8, 14#8, 67#8] : List Byte)).length - 4)) (ethTags ((byteList ([1#8, 128#8,
        194#8, 0#8, 0#8, 1#8, 2#8, 0#8, 0#8, 0#8, 0#8, 1#8, 136#8, 8#8, 1#8, 1#8, 0#8, 15#8, 0#8, 0#8, 0#8, 1#8, 0#8, 0#8, 0#8,
        1#8, 0#8, 0#8, 0#8, 1#8, 0#8, 0#8, 0#8, 1#8, 0#8, 0#8, 0#8, 0#8, 0#8, 0#8, 0#8, 0#8, 0#8, 0#8, 0#8, 0#8, 0#8, 0#8, 0#8,
        0#8, 0#8, 0#8, 0#8, 0#8, 0#8, 0#8, 0#8, 0#8, 0#8, 0#8, 128#8, 24#8, 14#8, 67#8] : List Byte)).take ((byteList ([1#8,
        128#8, 194#8, 0#8, 0#8, 1#8, 2#8, 0#8, 0#8, 0#8, 0#8, 1#8, 136#8, 8#8, 1#8, 1#8, 0#8, 15#8, 0#8, 0#8, 0#8, 1#8, 0#8,
        0#8, 0#8, 1#8, 0#8, 0#8, 0#8, 1#8, 0#8, 0#8, 0#8, 1#8, 0#8, 0#8, 0#8, 0#8, 0#8, 0#8, 0#8, 0#8, 0#8, 0#8, 0#8, 0#8, 0#8,
        0#8, 0#8, 0#8, 0#8, 0#8, 0#8, 0#8, 0#8, 0#8, 0#8, 0#8, 0#8, 0#8, 128#8, 24#8, 14#8, 67#8] : List Byte)).length - 4))).2
        = true) ∧
    (((upState [(.kcl_svc_cfg_bind_en, 1, 1), (.kcl_svc_cfg_bind_port, 1, 500), (.kcl_svc_cfg_pfc_en, 1, 255),
        (.kcl_svc_cfg_pfc_headroom, 1, 65535), (.h_pfc_xoff, 1, 0)])).dev.svcPort (1 : Fin 2) = some (500 : Nat) ∧ ((upState
        [(.kcl_svc_cfg_bind_en, 1, 1), (.kcl_svc_cfg_bind_port, 1, 500), (.kcl_svc_cfg_pfc_en, 1, 255),
        (.kcl_svc_cfg_pfc_headroom, 1, 65535), (.h_pfc_xoff, 1, 0)])).dev.bitOf .kcl_svc_cfg_pfc_en (1 : Fin 2) (3 : Fin 8) =
        true) ∧
    (((upState [(.kcl_svc_cfg_bind_en, 1, 1), (.kcl_svc_cfg_bind_port, 1, 500), (.kcl_svc_cfg_pfc_en, 1, 255),
        (.kcl_svc_cfg_pfc_headroom, 1, 65535), (.h_pfc_xoff, 1, 0)])).dev.bitOf .h_pfc_xoff (1 : Fin 2) (3 : Fin 8) = false ∧
        ((upState [(.kcl_svc_cfg_bind_en, 1, 1), (.kcl_svc_cfg_bind_port, 1, 500), (.kcl_svc_cfg_pfc_en, 1, 255),
        (.kcl_svc_cfg_pfc_headroom, 1, 65535), (.h_pfc_xoff, 1, 0)])).dev.xoffDue (1 : Fin 2) (500 : Nat) (3 : Fin 8) = true) ∧
    (((upState [(.kcl_svc_cfg_pfc_en, 1, 0)])).dev.bitOf .kcl_svc_cfg_pfc_en (1 : Fin 2) (3 : Fin 8) = false) ∧
    (((upState [(.kcl_svc_cfg_bind_en, 1, 1), (.kcl_svc_cfg_bind_port, 1, 500), (.kcl_svc_cfg_pfc_en, 1, 255),
        (.kcl_svc_cfg_pfc_headroom, 1, 65535), (.h_pfc_xoff, 1, 255)])).dev.svcPort (1 : Fin 2) = some (500 : Nat) ∧ ((upState
        [(.kcl_svc_cfg_bind_en, 1, 1), (.kcl_svc_cfg_bind_port, 1, 500), (.kcl_svc_cfg_pfc_en, 1, 255),
        (.kcl_svc_cfg_pfc_headroom, 1, 65535), (.h_pfc_xoff, 1, 255)])).dev.bitOf .kcl_svc_cfg_pfc_en (1 : Fin 2) (3 : Fin 8) =
        true) ∧
    (((upState [(.kcl_svc_cfg_bind_en, 1, 1), (.kcl_svc_cfg_bind_port, 1, 500), (.kcl_svc_cfg_pfc_en, 1, 255),
        (.kcl_svc_cfg_pfc_headroom, 1, 65535), (.h_pfc_xoff, 1, 255)])).dev.bitOf .h_pfc_xoff (1 : Fin 2) (3 : Fin 8) = true ∧
        ((upState [(.kcl_svc_cfg_bind_en, 1, 1), (.kcl_svc_cfg_bind_port, 1, 500), (.kcl_svc_cfg_pfc_en, 1, 255),
        (.kcl_svc_cfg_pfc_headroom, 1, 65535), (.h_pfc_xoff, 1, 255)])).dev.xoffDue (1 : Fin 2) (500 : Nat) (3 : Fin 8) = true) ∧
    (((upState [(.kcl_svc_cfg_bind_en, 1, 1), (.kcl_svc_cfg_bind_port, 1, 500), (.kcl_svc_cfg_pfc_en, 1, 255), (.h_pfc_xoff, 1,
        255), (.xbar_iq_iq, 4003, 100)])).dev.svcPort (1 : Fin 2) = some (500 : Nat) ∧ ((upState [(.kcl_svc_cfg_bind_en, 1, 1),
        (.kcl_svc_cfg_bind_port, 1, 500), (.kcl_svc_cfg_pfc_en, 1, 255), (.h_pfc_xoff, 1, 255), (.xbar_iq_iq, 4003,
        100)])).dev.bitOf .kcl_svc_cfg_pfc_en (1 : Fin 2) (3 : Fin 8) = true) ∧
    (((upState [(.kcl_svc_cfg_bind_en, 1, 1), (.kcl_svc_cfg_bind_port, 1, 500), (.kcl_svc_cfg_pfc_en, 1, 255), (.h_pfc_xoff, 1,
        255), (.xbar_iq_iq, 4003, 100)])).dev.bitOf .h_pfc_xoff (1 : Fin 2) (3 : Fin 8) = true ∧ ((upState
        [(.kcl_svc_cfg_bind_en, 1, 1), (.kcl_svc_cfg_bind_port, 1, 500), (.kcl_svc_cfg_pfc_en, 1, 255), (.h_pfc_xoff, 1, 255),
        (.xbar_iq_iq, 4003, 100)])).dev.xonDue (1 : Fin 2) (500 : Nat) (3 : Fin 8) = true) := by
  refine ⟨?_, ?_, ?_, ?_, ?_, ?_, ?_, ?_, ?_, ?_, ?_, ?_, ?_, ?_, ?_, ?_, ?_, ?_, ?_, ?_, ?_, ?_, ?_, ?_, ?_, ?_, ?_, ?_, ?_,
      ?_, ?_, ?_, ?_, ?_, ?_, ?_, ?_, ?_, ?_⟩ <;>
    decide +kernel

/-- States and operands that meet the premises of `Obligations.BoardPins`, clause by clause. -/
theorem witness_BoardPins :
    ((false : Bool) = false) ∧
    ((true : Bool) = true ∧ 2 ≤ (5 : Fin 12).val ∧ ((upState [])).dev.alive = true) ∧
    ((true : Bool) = true ∧ (1 : Fin 12).val ≤ 1 ∧ ((upState [])).dev.alive = true) ∧
    (((upState [(.h_rail_out, 0, 32)])).dev.bitOf .h_rail_out 0 (5 : Fin 12) = true ∧ (((upState [(.h_rail_out, 0,
        32)])).dev.putB .h_rail_out 0 (5 : Fin 12) false).get .h_rail_out = 0) ∧
    (((upState [])).dev.bitOf .h_rail_out 0 (5 : Fin 12) = false) ∧
    (((upState [(.h_rail_out, 0, 96)])).dev.bitOf .h_rail_out 0 (5 : Fin 12) = true ∧ (((upState [(.h_rail_out, 0,
        96)])).dev.putB .h_rail_out 0 (5 : Fin 12) false).get .h_rail_out ≠ 0) ∧
    (((upState [(.h_avs_mv, 0, 700)])).dev.alive = true ∧ ((upState [(.h_avs_mv, 0, 700)])).dev.flag .h_avs_stop (0 : Fin 3) =
        false ∧ (true : Bool) = true ∧ (false : Bool) = false ∧ ((upState [(.h_avs_mv, 0, 700)])).dev.stage ≠ 0) ∧
    (((upState [(.h_avs_mv, 0, 700)])).dev.alive = true ∧ ((upState [(.h_avs_mv, 0, 700)])).dev.flag .h_avs_stop (0 : Fin 3) =
        false ∧ ((false : Bool) = false ∨ (false : Bool) = true)) ∧
    (((upState [])).dev.alive = true ∧ ((upState [])).dev.flag .h_refclk = false) ∧
    (((upState [(.h_refclk, 0, 1)])).dev.alive = false ∨ ((upState [(.h_refclk, 0, 1)])).dev.flag .h_refclk = true) ∧
    ((0x80 : BitVec 8) = 0x80) ∧
    (((upState [(.h_trip, 0, 1)])).dev.flag .h_porst = false ∧ ((upState [(.h_trip, 0, 1)])).dev.aonOk = true ∧ ((upState
        [(.h_trip, 0, 1)])).dev.flag .h_trip = true ∧ (60 : BitVec 8) ≠ 0x80 ∧ (((((upState [(.h_trip, 0, 1)])).dev.sensStore
        (41 : Fin 72) (60 : BitVec 8).toNat).thermEpisodes (41 : Fin 72) (sgn 8 (60 : BitVec 8).toNat)).thermCold (41 : Fin 72)
        (sgn 8 (60 : BitVec 8).toNat)).tripOver = true) ∧
    (((upState [])).dev.flag .h_porst = false ∧ ((upState [])).dev.flag .h_trip = false ∧ ((upState [])).dev.aonOk = true) ∧
    ((60 : BitVec 8) ≠ 0x80 ∧ sgn 8 (60 : BitVec 8).toNat < thermTrip (sensZone (41 : Fin 72)).1) ∧
    ((110 : BitVec 8) ≠ 0x80 ∧ thermTrip (sensZone (41 : Fin 72)).1 ≤ sgn 8 (110 : BitVec 8).toNat) ∧
    (((upState [(.h_sens, 40, 60)])).dev.aonOk = true) ∧
    (((upState [(.h_rail_out, 0, 1)])).dev.aonOk = false) ∧
    (((upState [(.i2c_status_alert, 0, 9)])).dev.aonOk = true) ∧
    (((upState [])).dev.aonOk = true ∧ (0x10 : BitVec 8) ≠ 0x11 ∧ ((0x10 : BitVec 8) ≠ 0x10 ∨ ([3] : List Byte) ≠ [])) ∧
    (((upState [(.h_board_test, 0, 1)])).dev.flag .h_board_test = true) ∧
    (((upState [])).dev.flag .h_board_test = false) := by
  refine ⟨?_, ?_, ?_, ?_, ?_, ?_, ?_, ?_, ?_, ?_, ?_, ?_, ?_, ?_, ?_, ?_, ?_, ?_, ?_, ?_, ?_⟩ <;>
    decide +kernel

/-- States and operands that meet the premises of `Obligations.MalformedEntriesFailWithEncoding`, clause by clause. -/
theorem witness_MalformedEntriesFailWithEncoding :
    (({ upState [(.csq_q_cfg_enable, 3, 1), (.csq_q_cfg_privilege, 3, 0)] with dev := { (upState [(.csq_q_cfg_enable, 3, 1), (.csq_q_cfg_privilege, 3, 0)]).dev with queues := ⟨[(3, { buf := [(5, [1048577, 0, 0, 0, 0, 0, 0, 0])] })]⟩ } }).dev.qHead
        (3 : Fin 512)
        (({ upState [(.csq_q_cfg_enable, 3, 1), (.csq_q_cfg_privilege, 3, 0)] with dev := { (upState [(.csq_q_cfg_enable, 3, 1), (.csq_q_cfg_privilege, 3, 0)]).dev with queues := ⟨[(3, { buf := [(5, [1048577, 0, 0, 0, 0, 0, 0, 0])] })]⟩ } }).dev.queue
        (3 : Fin 512)) = some ((5 : Nat), ([1048577, 0, 0, 0, 0, 0, 0, 0] : List Nat))) ∧
    (slice (([1048577, 0, 0, 0, 0, 0, 0, 0] : List Nat).getD 0 0) 20 4 ≠ 0 ∨ bit (([1048577, 0, 0, 0, 0, 0, 0, 0] : List
        Nat).getD 0 0) 16 = true ∨ bit (([1048577, 0, 0, 0, 0, 0, 0, 0] : List Nat).getD 0 0) 3 = true ∨ ((slice (([1048577, 0,
        0, 0, 0, 0, 0, 0] : List Nat).getD 0 0) 1 2 = 0 ∨ slice (([1048577, 0, 0, 0, 0, 0, 0, 0] : List Nat).getD 0 0) 1 2 = 3)
        ∧ slice (([1048577, 0, 0, 0, 0, 0, 0, 0] : List Nat).getD 0 0) 4 12 ≠ 0) ∨ (slice (([1048577, 0, 0, 0, 0, 0, 0, 0] :
        List Nat).getD 0 0) 1 2 = 2 ∧ (slice (([1048577, 0, 0, 0, 0, 0, 0, 0] : List Nat).getD 0 0) 4 3 = 0 ∨ slice (([1048577,
        0, 0, 0, 0, 0, 0, 0] : List Nat).getD 0 0) 4 3 = 7 ∨ slice (([1048577, 0, 0, 0, 0, 0, 0, 0] : List Nat).getD 0 0) 7 9 ≠
        0))) ∧
    (({ upState [(.csq_q_cfg_enable, 3, 1), (.csq_q_cfg_privilege, 3, 0)] with dev := { (upState [(.csq_q_cfg_enable, 3, 1), (.csq_q_cfg_privilege, 3, 0)]).dev with queues := ⟨[(3, { buf := [(5, [81, 0, 0, 0, 0, 0, 0, 0])] })]⟩ } }).dev.qHead
        (3 : Fin 512)
        (({ upState [(.csq_q_cfg_enable, 3, 1), (.csq_q_cfg_privilege, 3, 0)] with dev := { (upState [(.csq_q_cfg_enable, 3, 1), (.csq_q_cfg_privilege, 3, 0)]).dev with queues := ⟨[(3, { buf := [(5, [81, 0, 0, 0, 0, 0, 0, 0])] })]⟩ } }).dev.queue
        (3 : Fin 512)) = some ((5 : Nat), ([81, 0, 0, 0, 0, 0, 0, 0] : List Nat))) ∧
    (slice (([81, 0, 0, 0, 0, 0, 0, 0] : List Nat).getD 0 0) 20 4 ≠ 0 ∨ bit (([81, 0, 0, 0, 0, 0, 0, 0] : List Nat).getD 0 0) 16
        = true ∨ bit (([81, 0, 0, 0, 0, 0, 0, 0] : List Nat).getD 0 0) 3 = true ∨ ((slice (([81, 0, 0, 0, 0, 0, 0, 0] : List
        Nat).getD 0 0) 1 2 = 0 ∨ slice (([81, 0, 0, 0, 0, 0, 0, 0] : List Nat).getD 0 0) 1 2 = 3) ∧ slice (([81, 0, 0, 0, 0, 0,
        0, 0] : List Nat).getD 0 0) 4 12 ≠ 0) ∨ (slice (([81, 0, 0, 0, 0, 0, 0, 0] : List Nat).getD 0 0) 1 2 = 2 ∧ (slice (([81,
        0, 0, 0, 0, 0, 0, 0] : List Nat).getD 0 0) 4 3 = 0 ∨ slice (([81, 0, 0, 0, 0, 0, 0, 0] : List Nat).getD 0 0) 4 3 = 7 ∨
        slice (([81, 0, 0, 0, 0, 0, 0, 0] : List Nat).getD 0 0) 7 9 ≠ 0))) ∧
    (({ upState [(.csq_q_cfg_enable, 3, 1), (.csq_q_cfg_privilege, 3, 0)] with dev := { (upState [(.csq_q_cfg_enable, 3, 1), (.csq_q_cfg_privilege, 3, 0)]).dev with queues := ⟨[(3, { buf := [(5, [23, 0, 0, 0, 0, 0, 0, 0])] })]⟩ } }).dev.qHead
        (3 : Fin 512)
        (({ upState [(.csq_q_cfg_enable, 3, 1), (.csq_q_cfg_privilege, 3, 0)] with dev := { (upState [(.csq_q_cfg_enable, 3, 1), (.csq_q_cfg_privilege, 3, 0)]).dev with queues := ⟨[(3, { buf := [(5, [23, 0, 0, 0, 0, 0, 0, 0])] })]⟩ } }).dev.queue
        (3 : Fin 512)) = some ((5 : Nat), ([23, 0, 0, 0, 0, 0, 0, 0] : List Nat))) ∧
    (slice (([23, 0, 0, 0, 0, 0, 0, 0] : List Nat).getD 0 0) 20 4 ≠ 0 ∨ bit (([23, 0, 0, 0, 0, 0, 0, 0] : List Nat).getD 0 0) 16
        = true ∨ bit (([23, 0, 0, 0, 0, 0, 0, 0] : List Nat).getD 0 0) 3 = true ∨ ((slice (([23, 0, 0, 0, 0, 0, 0, 0] : List
        Nat).getD 0 0) 1 2 = 0 ∨ slice (([23, 0, 0, 0, 0, 0, 0, 0] : List Nat).getD 0 0) 1 2 = 3) ∧ slice (([23, 0, 0, 0, 0, 0,
        0, 0] : List Nat).getD 0 0) 4 12 ≠ 0) ∨ (slice (([23, 0, 0, 0, 0, 0, 0, 0] : List Nat).getD 0 0) 1 2 = 2 ∧ (slice (([23,
        0, 0, 0, 0, 0, 0, 0] : List Nat).getD 0 0) 4 3 = 0 ∨ slice (([23, 0, 0, 0, 0, 0, 0, 0] : List Nat).getD 0 0) 4 3 = 7 ∨
        slice (([23, 0, 0, 0, 0, 0, 0, 0] : List Nat).getD 0 0) 7 9 ≠ 0))) ∧
    (({ upState [(.csq_q_cfg_enable, 3, 1), (.csq_q_cfg_privilege, 3, 0)] with dev := { (upState [(.csq_q_cfg_enable, 3, 1), (.csq_q_cfg_privilege, 3, 0)]).dev with queues := ⟨[(3, { buf := [(5, [117, 0, 0, 0, 0, 0, 0, 0])] })]⟩ } }).dev.qHead
        (3 : Fin 512)
        (({ upState [(.csq_q_cfg_enable, 3, 1), (.csq_q_cfg_privilege, 3, 0)] with dev := { (upState [(.csq_q_cfg_enable, 3, 1), (.csq_q_cfg_privilege, 3, 0)]).dev with queues := ⟨[(3, { buf := [(5, [117, 0, 0, 0, 0, 0, 0, 0])] })]⟩ } }).dev.queue
        (3 : Fin 512)) = some ((5 : Nat), ([117, 0, 0, 0, 0, 0, 0, 0] : List Nat))) ∧
    (slice (([117, 0, 0, 0, 0, 0, 0, 0] : List Nat).getD 0 0) 20 4 ≠ 0 ∨ bit (([117, 0, 0, 0, 0, 0, 0, 0] : List Nat).getD 0 0)
        16 = true ∨ bit (([117, 0, 0, 0, 0, 0, 0, 0] : List Nat).getD 0 0) 3 = true ∨ ((slice (([117, 0, 0, 0, 0, 0, 0, 0] :
        List Nat).getD 0 0) 1 2 = 0 ∨ slice (([117, 0, 0, 0, 0, 0, 0, 0] : List Nat).getD 0 0) 1 2 = 3) ∧ slice (([117, 0, 0, 0,
        0, 0, 0, 0] : List Nat).getD 0 0) 4 12 ≠ 0) ∨ (slice (([117, 0, 0, 0, 0, 0, 0, 0] : List Nat).getD 0 0) 1 2 = 2 ∧ (slice
        (([117, 0, 0, 0, 0, 0, 0, 0] : List Nat).getD 0 0) 4 3 = 0 ∨ slice (([117, 0, 0, 0, 0, 0, 0, 0] : List Nat).getD 0 0) 4
        3 = 7 ∨ slice (([117, 0, 0, 0, 0, 0, 0, 0] : List Nat).getD 0 0) 7 9 ≠ 0))) ∧
    (({ upState [(.csq_q_cfg_enable, 3, 1), (.csq_q_cfg_privilege, 3, 0)] with dev := { (upState [(.csq_q_cfg_enable, 3, 1), (.csq_q_cfg_privilege, 3, 0)]).dev with queues := ⟨[(3, { buf := [(5, [149, 0, 0, 0, 0, 0, 0, 0])] })]⟩ } }).dev.qHead
        (3 : Fin 512)
        (({ upState [(.csq_q_cfg_enable, 3, 1), (.csq_q_cfg_privilege, 3, 0)] with dev := { (upState [(.csq_q_cfg_enable, 3, 1), (.csq_q_cfg_privilege, 3, 0)]).dev with queues := ⟨[(3, { buf := [(5, [149, 0, 0, 0, 0, 0, 0, 0])] })]⟩ } }).dev.queue
        (3 : Fin 512)) = some ((5 : Nat), ([149, 0, 0, 0, 0, 0, 0, 0] : List Nat))) ∧
    (slice (([149, 0, 0, 0, 0, 0, 0, 0] : List Nat).getD 0 0) 20 4 ≠ 0 ∨ bit (([149, 0, 0, 0, 0, 0, 0, 0] : List Nat).getD 0 0)
        16 = true ∨ bit (([149, 0, 0, 0, 0, 0, 0, 0] : List Nat).getD 0 0) 3 = true ∨ ((slice (([149, 0, 0, 0, 0, 0, 0, 0] :
        List Nat).getD 0 0) 1 2 = 0 ∨ slice (([149, 0, 0, 0, 0, 0, 0, 0] : List Nat).getD 0 0) 1 2 = 3) ∧ slice (([149, 0, 0, 0,
        0, 0, 0, 0] : List Nat).getD 0 0) 4 12 ≠ 0) ∨ (slice (([149, 0, 0, 0, 0, 0, 0, 0] : List Nat).getD 0 0) 1 2 = 2 ∧ (slice
        (([149, 0, 0, 0, 0, 0, 0, 0] : List Nat).getD 0 0) 4 3 = 0 ∨ slice (([149, 0, 0, 0, 0, 0, 0, 0] : List Nat).getD 0 0) 4
        3 = 7 ∨ slice (([149, 0, 0, 0, 0, 0, 0, 0] : List Nat).getD 0 0) 7 9 ≠ 0))) ∧
    (({ upState [(.csq_q_cfg_enable, 3, 1), (.csq_q_cfg_privilege, 3, 0)] with dev := { (upState [(.csq_q_cfg_enable, 3, 1), (.csq_q_cfg_privilege, 3, 0)]).dev with queues := ⟨[(3, { buf := [(5, [5, 0, 0, 0, 0, 0, 0, 0])] })]⟩ } }).dev.qHead
        (3 : Fin 512)
        (({ upState [(.csq_q_cfg_enable, 3, 1), (.csq_q_cfg_privilege, 3, 0)] with dev := { (upState [(.csq_q_cfg_enable, 3, 1), (.csq_q_cfg_privilege, 3, 0)]).dev with queues := ⟨[(3, { buf := [(5, [5, 0, 0, 0, 0, 0, 0, 0])] })]⟩ } }).dev.queue
        (3 : Fin 512)) = some ((5 : Nat), ([5, 0, 0, 0, 0, 0, 0, 0] : List Nat))) ∧
    (slice (([5, 0, 0, 0, 0, 0, 0, 0] : List Nat).getD 0 0) 20 4 ≠ 0 ∨ bit (([5, 0, 0, 0, 0, 0, 0, 0] : List Nat).getD 0 0) 16 =
        true ∨ bit (([5, 0, 0, 0, 0, 0, 0, 0] : List Nat).getD 0 0) 3 = true ∨ ((slice (([5, 0, 0, 0, 0, 0, 0, 0] : List
        Nat).getD 0 0) 1 2 = 0 ∨ slice (([5, 0, 0, 0, 0, 0, 0, 0] : List Nat).getD 0 0) 1 2 = 3) ∧ slice (([5, 0, 0, 0, 0, 0, 0,
        0] : List Nat).getD 0 0) 4 12 ≠ 0) ∨ (slice (([5, 0, 0, 0, 0, 0, 0, 0] : List Nat).getD 0 0) 1 2 = 2 ∧ (slice (([5, 0,
        0, 0, 0, 0, 0, 0] : List Nat).getD 0 0) 4 3 = 0 ∨ slice (([5, 0, 0, 0, 0, 0, 0, 0] : List Nat).getD 0 0) 4 3 = 7 ∨ slice
        (([5, 0, 0, 0, 0, 0, 0, 0] : List Nat).getD 0 0) 7 9 ≠ 0))) ∧
    (({ upState [(.csq_q_cfg_enable, 3, 1), (.csq_q_cfg_privilege, 3, 0)] with dev := { (upState [(.csq_q_cfg_enable, 3, 1), (.csq_q_cfg_privilege, 3, 0)]).dev with queues := ⟨[(3, { buf := [(5, [65683, 0, 0, 0, 0, 0, 0, 0])] })]⟩ } }).dev.qHead
        (3 : Fin 512)
        (({ upState [(.csq_q_cfg_enable, 3, 1), (.csq_q_cfg_privilege, 3, 0)] with dev := { (upState [(.csq_q_cfg_enable, 3, 1), (.csq_q_cfg_privilege, 3, 0)]).dev with queues := ⟨[(3, { buf := [(5, [65683, 0, 0, 0, 0, 0, 0, 0])] })]⟩ } }).dev.queue
        (3 : Fin 512)) = some ((5 : Nat), ([65683, 0, 0, 0, 0, 0, 0, 0] : List Nat))) ∧
    (slice (([65683, 0, 0, 0, 0, 0, 0, 0] : List Nat).getD 0 0) 20 4 ≠ 0 ∨ bit (([65683, 0, 0, 0, 0, 0, 0, 0] : List Nat).getD 0
        0) 16 = true ∨ bit (([65683, 0, 0, 0, 0, 0, 0, 0] : List Nat).getD 0 0) 3 = true ∨ ((slice (([65683, 0, 0, 0, 0, 0, 0,
        0] : List Nat).getD 0 0) 1 2 = 0 ∨ slice (([65683, 0, 0, 0, 0, 0, 0, 0] : List Nat).getD 0 0) 1 2 = 3) ∧ slice (([65683,
        0, 0, 0, 0, 0, 0, 0] : List Nat).getD 0 0) 4 12 ≠ 0) ∨ (slice (([65683, 0, 0, 0, 0, 0, 0, 0] : List Nat).getD 0 0) 1 2 =
        2 ∧ (slice (([65683, 0, 0, 0, 0, 0, 0, 0] : List Nat).getD 0 0) 4 3 = 0 ∨ slice (([65683, 0, 0, 0, 0, 0, 0, 0] : List
        Nat).getD 0 0) 4 3 = 7 ∨ slice (([65683, 0, 0, 0, 0, 0, 0, 0] : List Nat).getD 0 0) 7 9 ≠ 0))) ∧
    (({ upState [(.csq_q_cfg_enable, 3, 1), (.csq_q_cfg_privilege, 3, 0)] with dev := { (upState [(.csq_q_cfg_enable, 3, 1), (.csq_q_cfg_privilege, 3, 0)]).dev with queues := ⟨[(3, { buf := [(5, [155, 0, 0, 0, 0, 0, 0, 0])] })]⟩ } }).dev.qHead
        (3 : Fin 512)
        (({ upState [(.csq_q_cfg_enable, 3, 1), (.csq_q_cfg_privilege, 3, 0)] with dev := { (upState [(.csq_q_cfg_enable, 3, 1), (.csq_q_cfg_privilege, 3, 0)]).dev with queues := ⟨[(3, { buf := [(5, [155, 0, 0, 0, 0, 0, 0, 0])] })]⟩ } }).dev.queue
        (3 : Fin 512)) = some ((5 : Nat), ([155, 0, 0, 0, 0, 0, 0, 0] : List Nat))) ∧
    (slice (([155, 0, 0, 0, 0, 0, 0, 0] : List Nat).getD 0 0) 20 4 ≠ 0 ∨ bit (([155, 0, 0, 0, 0, 0, 0, 0] : List Nat).getD 0 0)
        16 = true ∨ bit (([155, 0, 0, 0, 0, 0, 0, 0] : List Nat).getD 0 0) 3 = true ∨ ((slice (([155, 0, 0, 0, 0, 0, 0, 0] :
        List Nat).getD 0 0) 1 2 = 0 ∨ slice (([155, 0, 0, 0, 0, 0, 0, 0] : List Nat).getD 0 0) 1 2 = 3) ∧ slice (([155, 0, 0, 0,
        0, 0, 0, 0] : List Nat).getD 0 0) 4 12 ≠ 0) ∨ (slice (([155, 0, 0, 0, 0, 0, 0, 0] : List Nat).getD 0 0) 1 2 = 2 ∧ (slice
        (([155, 0, 0, 0, 0, 0, 0, 0] : List Nat).getD 0 0) 4 3 = 0 ∨ slice (([155, 0, 0, 0, 0, 0, 0, 0] : List Nat).getD 0 0) 4
        3 = 7 ∨ slice (([155, 0, 0, 0, 0, 0, 0, 0] : List Nat).getD 0 0) 7 9 ≠ 0))) := by
  refine ⟨?_, ?_, ?_, ?_, ?_, ?_, ?_, ?_, ?_, ?_, ?_, ?_, ?_, ?_, ?_, ?_⟩ <;>
    decide +kernel

/-- States and operands that meet the premises of `Obligations.WraDomainSwitchesOnlyAtConfiguration`, clause by clause. -/
theorem witness_WraDomainSwitchesOnlyAtConfiguration :
    (({ upState [] with dev := { (upState []).dev with descs := ⟨[(6, some { words := [3 * 2 ^ 60 + 3 * 2 ^ 56 + 2 * 2 ^ 52 + 2 * 2 ^ 35 + 7, 2 ^ 56 + 2 ^ 32 + 1, 64, 0, 0, 0, 0, 0] })]⟩ } }).dev.accepts
        (.pdCmdOn (.fabric : Mark) (7 : Fin 32)) = true) ∧
    ((7 : Fin 32).val = 7) ∧
    ((∃ c ∈
        ({ upState [] with dev := { (upState []).dev with descs := ⟨[(6, some { words := [3 * 2 ^ 60 + 3 * 2 ^ 56 + 2 * 2 ^ 52 + 2 * 2 ^ 35 + 7, 2 ^ 56 + 2 ^ 32 + 1, 64, 0, 0, 0, 0, 0] })]⟩ } }).dev.loadedCtxs,
        hxWra c.2.hdr = true) ∨ (∃ x ∈
        ({ upState [] with dev := { (upState []).dev with descs := ⟨[(6, some { words := [3 * 2 ^ 60 + 3 * 2 ^ 56 + 2 * 2 ^ 52 + 2 * 2 ^ 35 + 7, 2 ^ 56 + 2 ^ 32 + 1, 64, 0, 0, 0, 0, 0] })]⟩ } }).dev.loadedDescs,
        dxKind x.2.words ≠ dkGATHER_CMB)) ∧
    (({ upState [(.sys_pd_status_busy, 0, 128)] with dev := { (upState [(.sys_pd_status_busy, 0, 128)]).dev with descs := ⟨[(6, some { words := [3 * 2 ^ 60 + 3 * 2 ^ 56 + 2 * 2 ^ 52 + 2 * 2 ^ 35 + 7, 2 ^ 56 + 2 ^ 32 + 1, 64, 0, 0, 0, 0, 0] })]⟩ } }).dev.accepts
        (.pdCmdOff (.fabric : Mark) (7 : Fin 32)) = true) ∧
    ((∃ c ∈
        ({ upState [(.sys_pd_status_busy, 0, 128)] with dev := { (upState [(.sys_pd_status_busy, 0, 128)]).dev with descs := ⟨[(6, some { words := [3 * 2 ^ 60 + 3 * 2 ^ 56 + 2 * 2 ^ 52 + 2 * 2 ^ 35 + 7, 2 ^ 56 + 2 ^ 32 + 1, 64, 0, 0, 0, 0, 0] })]⟩ } }).dev.loadedCtxs,
        hxWra c.2.hdr = true) ∨ (∃ x ∈
        ({ upState [(.sys_pd_status_busy, 0, 128)] with dev := { (upState [(.sys_pd_status_busy, 0, 128)]).dev with descs := ⟨[(6, some { words := [3 * 2 ^ 60 + 3 * 2 ^ 56 + 2 * 2 ^ 52 + 2 * 2 ^ 35 + 7, 2 ^ 56 + 2 ^ 32 + 1, 64, 0, 0, 0, 0, 0] })]⟩ } }).dev.loadedDescs,
        dxKind x.2.words ≠ dkGATHER_CMB)) ∧
    (({ upState [(.csq_q_cfg_privilege, 3, 0)] with dev := { (upState [(.csq_q_cfg_privilege, 3, 0)]).dev with queues := ⟨[(3, { run := some ({ run := 5, index := 0, words := [2533274790789122, 0], tStart := 0, pc := 0, regs := [0, 1, 2, 3, 4, 5, 6, 7], prog := [11673330234144325671, 72057594037927936, 72057594037927936], budget := 1000 }) })]⟩, descs := ⟨[(6, some { words := [3 * 2 ^ 60 + 3 * 2 ^ 56 + 2 * 2 ^ 52 + 2 * 2 ^ 35 + 7, 2 ^ 56 + 2 ^ 32 + 1, 64, 0, 0, 0, 0, 0] })]⟩ } }).dev.issues
        (3 : Fin 512) 0xA2 (11673330234144325671 : Nat) (0 : Nat)
        ({ run := 5, index := 0, words := [2533274790789122, 0], tStart := 0, pc := 0, regs := [0, 1, 2, 3, 4, 5, 6, 7], prog := [11673330234144325671, 72057594037927936, 72057594037927936], budget := 1000 }
        : Entry)) ∧
    (slice (11673330234144325671 : Nat) 0 5 = 7 ∧ bit (11673330234144325671 : Nat) 5 = true) ∧
    (({ upState [(.csq_q_cfg_privilege, 3, 0)] with dev := { (upState [(.csq_q_cfg_privilege, 3, 0)]).dev with queues := ⟨[(3, { run := some ({ run := 5, index := 0, words := [2533274790789122, 0], tStart := 0, pc := 0, regs := [0, 1, 2, 3, 4, 5, 6, 7], prog := [11673330234144325671, 72057594037927936, 72057594037927936], budget := 1000 }) })]⟩, descs := ⟨[(6, some { words := [3 * 2 ^ 60 + 3 * 2 ^ 56 + 2 * 2 ^ 52 + 2 * 2 ^ 35 + 7, 2 ^ 56 + 2 ^ 32 + 1, 64, 0, 0, 0, 0, 0] })]⟩ } }).dev.opsOpen
        (3 : Fin 512)
        ({ run := 5, index := 0, words := [2533274790789122, 0], tStart := 0, pc := 0, regs := [0, 1, 2, 3, 4, 5, 6, 7], prog := [11673330234144325671, 72057594037927936, 72057594037927936], budget := 1000 }
        : Entry).run < 16) ∧
    ((∃ c ∈
        ({ upState [(.csq_q_cfg_privilege, 3, 0)] with dev := { (upState [(.csq_q_cfg_privilege, 3, 0)]).dev with queues := ⟨[(3, { run := some ({ run := 5, index := 0, words := [2533274790789122, 0], tStart := 0, pc := 0, regs := [0, 1, 2, 3, 4, 5, 6, 7], prog := [11673330234144325671, 72057594037927936, 72057594037927936], budget := 1000 }) })]⟩, descs := ⟨[(6, some { words := [3 * 2 ^ 60 + 3 * 2 ^ 56 + 2 * 2 ^ 52 + 2 * 2 ^ 35 + 7, 2 ^ 56 + 2 ^ 32 + 1, 64, 0, 0, 0, 0, 0] })]⟩ } }).dev.loadedCtxs,
        hxWra c.2.hdr = true) ∨ (∃ x ∈
        ({ upState [(.csq_q_cfg_privilege, 3, 0)] with dev := { (upState [(.csq_q_cfg_privilege, 3, 0)]).dev with queues := ⟨[(3, { run := some ({ run := 5, index := 0, words := [2533274790789122, 0], tStart := 0, pc := 0, regs := [0, 1, 2, 3, 4, 5, 6, 7], prog := [11673330234144325671, 72057594037927936, 72057594037927936], budget := 1000 }) })]⟩, descs := ⟨[(6, some { words := [3 * 2 ^ 60 + 3 * 2 ^ 56 + 2 * 2 ^ 52 + 2 * 2 ^ 35 + 7, 2 ^ 56 + 2 ^ 32 + 1, 64, 0, 0, 0, 0, 0] })]⟩ } }).dev.loadedDescs,
        dxKind x.2.words ≠ dkGATHER_CMB)) ∧
    (({ upState [(.csq_q_cfg_privilege, 3, 0)] with dev := { (upState [(.csq_q_cfg_privilege, 3, 0)]).dev with queues := ⟨[(3, { run := some ({ run := 5, index := 0, words := [2533274790789122, 0], tStart := 0, pc := 0, regs := [0, 1, 2, 3, 4, 5, 6, 7], prog := [11673330234144325639, 72057594037927936, 72057594037927936], budget := 1000 }) })]⟩, descs := ⟨[(6, some { words := [3 * 2 ^ 60 + 3 * 2 ^ 56 + 2 * 2 ^ 52 + 2 * 2 ^ 35 + 7, 2 ^ 56 + 2 ^ 32 + 1, 64, 0, 0, 0, 0, 0] })]⟩ } }).dev.issues
        (3 : Fin 512) 0xA2 (11673330234144325639 : Nat) (0 : Nat)
        ({ run := 5, index := 0, words := [2533274790789122, 0], tStart := 0, pc := 0, regs := [0, 1, 2, 3, 4, 5, 6, 7], prog := [11673330234144325639, 72057594037927936, 72057594037927936], budget := 1000 }
        : Entry)) ∧
    (slice (11673330234144325639 : Nat) 0 5 = 7 ∧ bit (11673330234144325639 : Nat) 5 = false) ∧
    (({ upState [(.csq_q_cfg_privilege, 3, 0)] with dev := { (upState [(.csq_q_cfg_privilege, 3, 0)]).dev with queues := ⟨[(3, { run := some ({ run := 5, index := 0, words := [2533274790789122, 0], tStart := 0, pc := 0, regs := [0, 1, 2, 3, 4, 5, 6, 7], prog := [11673330234144325639, 72057594037927936, 72057594037927936], budget := 1000 }) })]⟩, descs := ⟨[(6, some { words := [3 * 2 ^ 60 + 3 * 2 ^ 56 + 2 * 2 ^ 52 + 2 * 2 ^ 35 + 7, 2 ^ 56 + 2 ^ 32 + 1, 64, 0, 0, 0, 0, 0] })]⟩ } }).dev.opsOpen
        (3 : Fin 512)
        ({ run := 5, index := 0, words := [2533274790789122, 0], tStart := 0, pc := 0, regs := [0, 1, 2, 3, 4, 5, 6, 7], prog := [11673330234144325639, 72057594037927936, 72057594037927936], budget := 1000 }
        : Entry).run < 16) ∧
    ((∃ c ∈
        ({ upState [(.csq_q_cfg_privilege, 3, 0)] with dev := { (upState [(.csq_q_cfg_privilege, 3, 0)]).dev with queues := ⟨[(3, { run := some ({ run := 5, index := 0, words := [2533274790789122, 0], tStart := 0, pc := 0, regs := [0, 1, 2, 3, 4, 5, 6, 7], prog := [11673330234144325639, 72057594037927936, 72057594037927936], budget := 1000 }) })]⟩, descs := ⟨[(6, some { words := [3 * 2 ^ 60 + 3 * 2 ^ 56 + 2 * 2 ^ 52 + 2 * 2 ^ 35 + 7, 2 ^ 56 + 2 ^ 32 + 1, 64, 0, 0, 0, 0, 0] })]⟩ } }).dev.loadedCtxs,
        hxWra c.2.hdr = true) ∨ (∃ x ∈
        ({ upState [(.csq_q_cfg_privilege, 3, 0)] with dev := { (upState [(.csq_q_cfg_privilege, 3, 0)]).dev with queues := ⟨[(3, { run := some ({ run := 5, index := 0, words := [2533274790789122, 0], tStart := 0, pc := 0, regs := [0, 1, 2, 3, 4, 5, 6, 7], prog := [11673330234144325639, 72057594037927936, 72057594037927936], budget := 1000 }) })]⟩, descs := ⟨[(6, some { words := [3 * 2 ^ 60 + 3 * 2 ^ 56 + 2 * 2 ^ 52 + 2 * 2 ^ 35 + 7, 2 ^ 56 + 2 ^ 32 + 1, 64, 0, 0, 0, 0, 0] })]⟩ } }).dev.loadedDescs,
        dxKind x.2.words ≠ dkGATHER_CMB)) := by
  refine ⟨?_, ?_, ?_, ?_, ?_, ?_, ?_, ?_, ?_, ?_, ?_, ?_, ?_⟩ <;>
    decide +kernel

/-- States and operands that meet the premises of `Obligations.RevokeBurnsTheBitOfItsKey`, clause by clause. -/
theorem witness_RevokeBurnsTheBitOfItsKey :
    (((upState [(.h_run_valid, 0, 1), (.h_run_ecdsa, 0, 1)])).dev.accepts (.secCmdRevoke (.fabric : Mark) (0x0001000000000000 :
        BitVec 60)) = true) ∧
    (((upState [(.h_run_valid, 0, 1), (.h_run_ecdsa, 0, 1)])).dev.flag .sec_cmd_status_busy = false ∧ ((upState [(.h_run_valid,
        0, 1), (.h_run_ecdsa, 0, 1)])).dev.flag .h_run_valid = true ∧ bit (0x0001000000000000 : BitVec 60).toNat 53 = false ∧
        slice (0x0001000000000000 : BitVec 60).toNat 48 2 = ((upState [(.h_run_valid, 0, 1), (.h_run_ecdsa, 0, 1)])).dev.get
        .h_run_ecdsa) ∧
    (((upState [(.h_run_valid, 0, 1), (.h_run_lms, 0, 1)])).dev.accepts (.secCmdRevoke (.fabric : Mark) (0x0021000000000000 :
        BitVec 60)) = true) ∧
    (((upState [(.h_run_valid, 0, 1), (.h_run_lms, 0, 1)])).dev.flag .sec_cmd_status_busy = false ∧ ((upState [(.h_run_valid, 0,
        1), (.h_run_lms, 0, 1)])).dev.flag .h_run_valid = true ∧ bit (0x0021000000000000 : BitVec 60).toNat 53 = true ∧ slice
        (0x0021000000000000 : BitVec 60).toNat 48 2 = ((upState [(.h_run_valid, 0, 1), (.h_run_lms, 0, 1)])).dev.get .h_run_lms) ∧
    (((upState [(.h_run_valid, 0, 1)])).dev.accepts (.secCmdRevoke (.fabric : Mark) (0x0001000000000000 : BitVec 60)) = true) ∧
    (((upState [(.h_run_valid, 0, 1)])).dev.flag .sec_cmd_status_busy = false ∧ (((upState [(.h_run_valid, 0, 1)])).dev.flag
        .h_run_valid = true → slice (0x0001000000000000 : BitVec 60).toNat 48 2 ≠ ((upState [(.h_run_valid, 0, 1)])).dev.get
        .h_run_ecdsa) ∧ bit (0x0001000000000000 : BitVec 60).toNat 53 = false) ∧
    (((upState [(.h_run_valid, 0, 1)])).dev.accepts (.secCmdRevoke (.fabric : Mark) (0x0021000000000000 : BitVec 60)) = true) ∧
    (((upState [(.h_run_valid, 0, 1)])).dev.flag .sec_cmd_status_busy = false ∧ (((upState [(.h_run_valid, 0, 1)])).dev.flag
        .h_run_valid = true → slice (0x0021000000000000 : BitVec 60).toNat 48 2 ≠ ((upState [(.h_run_valid, 0, 1)])).dev.get
        .h_run_lms) ∧ bit (0x0021000000000000 : BitVec 60).toNat 53 = true) ∧
    (((upState [(.sec_cmd_status_busy, 0, 1), (.sec_cmd_status_last_cmd, 0, 6), (.h_sec_args, 0, 562949953421312)])).dev.flag
        .sec_cmd_status_busy = true ∧ ((upState [(.sec_cmd_status_busy, 0, 1), (.sec_cmd_status_last_cmd, 0, 6), (.h_sec_args,
        0, 562949953421312)])).dev.get .sec_cmd_status_last_cmd = 6 ∧ bit (((upState [(.sec_cmd_status_busy, 0, 1),
        (.sec_cmd_status_last_cmd, 0, 6), (.h_sec_args, 0, 562949953421312)])).dev.get .h_sec_args) 53 = false ∧
        ({ kclOk := true, flashOk := true, storeOk := true, img := none, burned := 9, bytes := Vector.replicate 48 5 } :
        SecOutcome).burned ≠ 0) ∧
    (((upState [(.sec_cmd_status_busy, 0, 1), (.sec_cmd_status_last_cmd, 0, 6), (.h_sec_args, 0, 9570149208162304)])).dev.flag
        .sec_cmd_status_busy = true ∧ ((upState [(.sec_cmd_status_busy, 0, 1), (.sec_cmd_status_last_cmd, 0, 6), (.h_sec_args,
        0, 9570149208162304)])).dev.get .sec_cmd_status_last_cmd = 6 ∧ bit (((upState [(.sec_cmd_status_busy, 0, 1),
        (.sec_cmd_status_last_cmd, 0, 6), (.h_sec_args, 0, 9570149208162304)])).dev.get .h_sec_args) 53 = true ∧
        ({ kclOk := true, flashOk := true, storeOk := true, img := none, burned := 9, bytes := Vector.replicate 48 5 } :
        SecOutcome).burned ≠ 0) := by
  refine ⟨?_, ?_, ?_, ?_, ?_, ?_, ?_, ?_, ?_, ?_⟩ <;>
    decide +kernel

/-- States and operands that meet the premises of `Obligations.SnapshotDuringADumpIsMissed`, clause by clause. -/
theorem witness_SnapshotDuringADumpIsMissed :
    (((upState [(.perf_dump_status_busy, 0, 1)])).dev.accepts (.snapNow (.fabric : Mark) (0 : Word)) = true) ∧
    (((upState [(.perf_dump_status_busy, 0, 1)])).dev.domainOn 1 = true ∧ ((upState [(.perf_dump_status_busy, 0, 1)])).dev.flag
        .perf_dump_status_busy = true ∧ ((upState [(.perf_dump_status_busy, 0, 1)])).dev.get .perf_dump_status_snaps_missed <
        65535) ∧
    ((2 : BitVec 16).toNat < ((upState [(.perf_dump_status_busy, 0, 1), (.perf_snap_ctrl_snap_src, 0, 1),
        (.perf_snap_ctrl_snap_period_us, 0, 100), (.h_local, 0, 1500000000000000)])).dev.snapDue.2 ∧ ((upState
        [(.perf_dump_status_busy, 0, 1), (.perf_snap_ctrl_snap_src, 0, 1), (.perf_snap_ctrl_snap_period_us, 0, 100), (.h_local,
        0, 1500000000000000)])).dev.domainOn 1 = true ∧ ((upState [(.perf_dump_status_busy, 0, 1), (.perf_snap_ctrl_snap_src, 0,
        1), (.perf_snap_ctrl_snap_period_us, 0, 100), (.h_local, 0, 1500000000000000)])).dev.flag .perf_dump_status_busy = true
        ∧ ((upState [(.perf_dump_status_busy, 0, 1), (.perf_snap_ctrl_snap_src, 0, 1), (.perf_snap_ctrl_snap_period_us, 0, 100),
        (.h_local, 0, 1500000000000000)])).dev.get .perf_dump_status_snaps_missed + (2 : BitVec 16).toNat < 65535) ∧
    ((2 : BitVec 16).toNat < ((upState [(.perf_snap_ctrl_snap_src, 0, 1), (.perf_pmc_count, 80, 9),
        (.perf_snap_ctrl_snap_period_us, 0, 100), (.h_local, 0, 1500000000000000)])).dev.snapDue.2 ∧ ((upState
        [(.perf_snap_ctrl_snap_src, 0, 1), (.perf_pmc_count, 80, 9), (.perf_snap_ctrl_snap_period_us, 0, 100), (.h_local, 0,
        1500000000000000)])).dev.domainOn 1 = true ∧ ((upState [(.perf_snap_ctrl_snap_src, 0, 1), (.perf_pmc_count, 80, 9),
        (.perf_snap_ctrl_snap_period_us, 0, 100), (.h_local, 0, 1500000000000000)])).dev.flag .perf_dump_status_busy = false ∧
        ((upState [(.perf_snap_ctrl_snap_src, 0, 1), (.perf_pmc_count, 80, 9), (.perf_snap_ctrl_snap_period_us, 0, 100),
        (.h_local, 0, 1500000000000000)])).dev.get .perf_dump_status_snaps_missed + (2 : BitVec 16).toNat < 65536) := by
  refine ⟨?_, ?_, ?_, ?_⟩ <;>
    decide +kernel

/-! ### Premises of the statements about all commands -/

/-- The answer of a command that completes. -/
def after (c : Instr) (s : State) : State :=
  match exec c s with
  | .next t => t
  | _ => s

/-- Whether a command completes. -/
def completes (c : Instr) (s : State) : Bool :=
  match exec c s with
  | .next _ => true
  | _ => false

theorem after_eq {c : Instr} {s : State} (h : completes c s = true) : exec c s = .next (after c s) := by
  unfold completes at h
  unfold after
  split at h <;> simp_all

/-- Premises of `Obligations.StepWithoutCommandCountsTime`. -/
theorem witness_StepWithoutCommandCountsTime :
    (upState []).pending = [] ∧ (upState []).dev.timeRuns = true ∧ (upState [(.h_porst, 0, 1)]).pending = [] ∧
    (upState [(.h_porst, 0, 1)]).dev.timeRuns = false ∧ (upState [(.h_porst, 0, 1)]).dev.events = [] := by
  decide +kernel

/-- A queue cut off with an entry of memory listed: premises of `Obligations.StepKeepsMemoryForm`. -/
theorem witness_StepKeepsMemoryForm :
    Memory.wf (⟨[(5, 7)]⟩ : SMap Byte) = true ∧
    step { upState [] with mem := ⟨[(5, 7)]⟩, pending := [.csqQCmdNop .fabric 3] } =
      .next (after (.csqQCmdNop .fabric 3) { upState [] with mem := ⟨[(5, 7)]⟩ }) :=
  ⟨by decide +kernel, after_eq (c := .csqQCmdNop .fabric 3) (s := { upState [] with mem := ⟨[(5, 7)]⟩ }) (by decide +kernel)⟩

/-- Premises of `Obligations.StepKeepsFuses`. -/
theorem witness_StepKeepsFuses :
    step { upState [] with fuses := { svn := 2 }, pending := [.csqQCmdNop .fabric 3] } =
      .next (after (.csqQCmdNop .fabric 3) { upState [] with fuses := { svn := 2 } }) :=
  after_eq (c := .csqQCmdNop .fabric 3) (s := { upState [] with fuses := { svn := 2 } }) (by decide +kernel)

/-- A REVOKE of LMS key 2 that ends well. -/
def revoking : State := upState [(.sec_cmd_status_busy, 0, 1), (.sec_cmd_status_last_cmd, 0, 6), (.h_sec_args, 0, 0x22000000000000)]

/-- What a SEC command that ends well reports. -/
def wellDone : SecOutcome :=
  { kclOk := true, flashOk := true, storeOk := true, img := none, burned := 1, bytes := Vector.replicate 48 0 }

/-- Premises of `Obligations.FusesChangeOnlyBySecurity`. -/
theorem witness_FusesChangeOnlyBySecurity :
    Instr.secCmdDone wellDone ≠ .kclReplayFail ∧
    exec (.secCmdDone wellDone) revoking = .next (after (.secCmdDone wellDone) revoking) ∧
    (after (.secCmdDone wellDone) revoking).fuses ≠ revoking.fuses :=
  ⟨by decide +kernel, after_eq (by decide +kernel), by decide +kernel⟩

/-- REVOKE of LMS key 2 burns bit 2 of the LMS keys (R533). -/
theorem test_revoke_lms_two : (after (.secCmdDone wellDone) revoking).fuses = { lmsRevoked := 4 } := by decide +kernel

/-- Premises of `Obligations.MemoryChangesOnlyByItsWriters`. -/
theorem witness_MemoryChangesOnlyByItsWriters :
    writesMemory (.csqQCmdNop .fabric 3) = false ∧
    exec (.csqQCmdNop .fabric 3) { upState [] with mem := ⟨[(5, 7)]⟩ } =
      .next (after (.csqQCmdNop .fabric 3) { upState [] with mem := ⟨[(5, 7)]⟩ }) :=
  ⟨by decide +kernel, after_eq (by decide +kernel)⟩

/-- Premises of `Obligations.WritesNeedFabricPrivilege`. -/
theorem witness_WritesNeedFabricPrivilege :
    writeOf (.fwdAgeCtrlWrite .observe 7) = some (.observe, rowFWD_AGE_CTRL, 0, 7) ∧ (upState []).dev.get .h_kcl_train = 0 := by
  decide +kernel

/-- Premises of `Obligations.WritesNeedReadyAndPower`, clause by clause: stage 3 of the boot, a domain off. -/
theorem witness_WritesNeedReadyAndPower :
    writeOf (.fwdAgeCtrlWrite .fabric 7) = some (.fabric, rowFWD_AGE_CTRL, 0, 7) ∧
    (upState [(.sys_boot_status_stage, 0, 3)]).dev.get .h_kcl_train = 0 ∧
    (upState [(.sys_boot_status_stage, 0, 3)]).dev.ready = false ∧ bootBlock (rowFWD_AGE_CTRL.addr 0) = false ∧
    writeOf (.lasEngCtrlWrite .fabric 2 0) = some (.fabric, rowLAS_ENG_CTRL, 2, 0) ∧
    (upState [(.sys_pd_status_on, 0, 0xFDFFF)]).dev.get .h_kcl_train = 0 ∧
    (upState [(.sys_pd_status_on, 0, 0xFDFFF)]).dev.ready = true ∧
    (upState [(.sys_pd_status_on, 0, 0xFDFFF)]).dev.offDomain rowLAS_ENG_CTRL.dom 2 = some 13 := by
  decide +kernel

/-- Premises of `Obligations.ReservedCommandsDoNothing`: SYS_PD_CMD names domain 25. -/
theorem witness_ReservedCommandsDoNothing :
    writeOf (.pdCmdOn .fabric 25) = some (.fabric, rowSYS_PD_CMD, 0, 2 ^ 62 + 25) ∧ (upState []).dev.reaches rowSYS_PD_CMD 0 ∧
    rowSYS_PD_CMD.isCommand = true ∧ (upState []).dev.refusedFields rowSYS_PD_CMD 0 (2 ^ 62 + 25) ≠ [] := by
  decide +kernel

/-- Premises of `Obligations.WritesWhileLinkTrainsAreNotAccepted`. -/
theorem witness_WritesWhileLinkTrainsAreNotAccepted :
    (writeOf (.pdCmdOn .fabric 2)).isSome = true ∧ State.reset.dev.get .h_kcl_train ≠ 0 := by
  decide +kernel

/-- Premises of `Obligations.RegWriteChecksInOrder` and `Obligations.RegReadRefused`, clause by clause: a form that is refused, one
that is not, an unassigned address, a register before READY, one in a domain that is off, a refused command, a write that is taken. -/
theorem witness_RegWriteChecksInOrder :
    (upState []).dev.get .h_kcl_train = 0 ∧ ¬ (4 = 8 ∧ 8 % 8 = 0 ∧ 8 ≤ 0x03FFFFFF) ∧ (8 = 8 ∧ 8 % 8 = 0 ∧ 8 ≤ 0x03FFFFFF) ∧
    decodeAddr 0x03FFFFF8 = none ∧ decodeAddr (rowFWD_AGE_CTRL.addr 0) = some (rowFWD_AGE_CTRL, 0) ∧
    rowFWD_AGE_CTRL.addr 0 % 8 = 0 ∧ rowFWD_AGE_CTRL.addr 0 ≤ 0x03FFFFFF ∧
    (upState [(.sys_boot_status_stage, 0, 3)]).dev.ready = false ∧ bootBlock (rowFWD_AGE_CTRL.addr 0) = false ∧
    decodeAddr (rowLAS_ENG_CTRL.addr 2) = some (rowLAS_ENG_CTRL, 2) ∧
    (upState [(.sys_pd_status_on, 0, 0xFDFFF)]).dev.ready = true ∧
    (upState [(.sys_pd_status_on, 0, 0xFDFFF)]).dev.offDomain rowLAS_ENG_CTRL.dom 2 = some 13 ∧
    decodeAddr (rowSYS_PD_CMD.addr 0) = some (rowSYS_PD_CMD, 0) ∧ (upState []).dev.reaches rowSYS_PD_CMD 0 ∧
    rowSYS_PD_CMD.isCommand = true ∧ (upState []).dev.refusedFields rowSYS_PD_CMD 0 (2 ^ 62 + 25) ≠ [] ∧
    (upState []).dev.reaches rowFWD_AGE_CTRL 0 ∧ (upState []).dev.refusedFields rowFWD_AGE_CTRL 0 100 = [] ∧
    specialBases.contains rowFWD_AGE_CTRL.base = false := by
  decide +kernel

/-- Premises of `Obligations.FieldsFollowTheirAccessCodes`, clause by clause, and of `Obligations.EveryAddressOfACopyDecodesToIt`. -/
theorem witness_FieldsFollowTheirAccessCodes :
    rowFWD_AGE_CTRL ∈ regTable ∧
    (∃ f ∈ rowFWD_AGE_CTRL.fields, f.live = false ∧ 0 < f.nsub) ∧
    (∀ f ∈ rowFWD_AGE_CTRL.fields, f.fld = Fld.port_cfg_role → 3 / f.nsub ≠ 0) ∧
    0 < copies rowFWD_AGE_CTRL.dims ∧ (rowFWD_AGE_CTRL.holes.any (fun h => decide (h.1 ≤ 0 ∧ 0 ≤ h.2))) = false := by
  decide +kernel

/-- Premises of `Obligations.SettlingAnIdleBlockTouchesTimeOnly`. -/
theorem witness_SettlingAnIdleBlockTouchesTimeOnly : (upState []).dev.idle := by
  simp only [Dev.idle]
  decide +kernel

/-! ### Ill-formed commands -/

/-- An access has 1 to 64 bytes. -/
theorem test_wf_access_size : (Instr.regWrite .fabric 0 8 0).wf = false ∧ (Instr.regWrite .fabric 8 8 0).wf = true := by decide
/-- An address has 64 bits. -/
theorem test_wf_access_addr : (Instr.regReadRefused .fabric 8 (2 ^ 64)).wf = false := by decide
/-- A sweep meets dips in rising order (R74). -/
theorem test_wf_dips : (Instr.ringSweepEnd 5 7 [800, 400]).wf = false ∧ (Instr.ringSweepEnd 5 7 [400, 800]).wf = true := by decide
/-- A payload has at most 4,096 bytes (R146). -/
theorem test_wf_payload : (Instr.frameLastByte 5 (List.replicate 4097 0) 0).wf = false := by decide +kernel
/-- The commands 0x10 and 0x11 of the I2C device are rows of their own (R572). -/
theorem test_wf_i2c : (Instr.i2cBadCommand 0x11 []).wf = false ∧ (Instr.i2cBadCommand 0x10 []).wf = false ∧
    (Instr.i2cBadCommand 0x12 []).wf = true := by decide
/-- A codeword stands once in a list of codewords. -/
theorem test_wf_codewords : (Instr.gatherRowsDone 1 [3, 3] []).wf = false ∧ (Instr.fmemAccessDone 1 [] [4, 4]).wf = false ∧
    (Instr.dmaBurstResponse 1 1 none [5, 5] []).wf = false := by decide

/-! ### Values of the spec's examples -/

/-- The header of the contribution frame of chapter 05: GEID 0x01_A2B4 to spine 291. -/
def exampleHdr : Hdr :=
  { ver := 1, ftype := 0x10, cls := 1, order := 1, plane := 3, dst := 0xFF0123, src := 0x01A2B4, srcSub := 2, entropy := 0x5C3E,
    length := 4096, w4 := 37 * 2 ^ 18 + 5, w5 := 12 * 2 ^ 12 + 700 * 4 }

/-- Words 0 to 6 of that header, its link bytes and its credits. -/
theorem test_example_header :
    exampleHdr.words7 = [0x14089800, 0xFF012300, 0x01A2B402, 0x5C3E8000, 0x00940005, 0x0000CAF0, 0] ∧
    linkBytes 4096 = 4132 ∧ cellCost 4096 = 17 ∧ exampleHdr.ctx = 37 ∧ exampleHdr.chunk = 12 ∧ exampleHdr.member = 700 := by
  decide +kernel

/-- CRC-32C of 32 zero bytes, from RFC 3720, appendix B.4. -/
theorem test_crc32c_zeros : crc32c (List.replicate 32 0) = 0x8A9136AA := by decide +kernel

/-- The bs8 block of chapter 10: scales 0x82 and 0x7F, sums 797 and 20, output scale 0x82 with 100 and 2. -/
theorem test_example_bs8 :
    blkOut fmBS8 (blkAdd { e := 0x82, bad := false, sums := [100 * 2 ^ 40, -5 * 2 ^ 40] }
      { e := 0x7F, bad := false, sums := [-3 * 2 ^ 40, 60 * 2 ^ 40] }).1 = some (0x82, [100, 2]) := by
  decide +kernel

/-- The nodes of the bf16 sum of chapter 10: (1,0) ties to even, (1,1) is exact, (2,0) is 1.0. -/
theorem test_example_bf16 :
    let leaf (c : Nat) : Nat := c * 2 ^ 16
    let add (x y : Nat) : Nat := (sum32 (fpF32.decode x) (fpF32.decode y)).1
    add (leaf 0x4B80) (leaf 0x3F80) = 0x4B800000 ∧ add (leaf 0x3F80) (leaf 0xCB80) = 0xCB7FFFFF ∧
    add (add (leaf 0x4B80) (leaf 0x3F80)) (add (leaf 0x3F80) (leaf 0xCB80)) = 0x3F800000 ∧ (f32Out fpBF16 0x3F800000).1 = 0x3F80 := by
  decide +kernel

/-- The update of the servo in chapter 14: freq_int 1,250 ppb and o = 3.0 ns give TIME_RATE 0x05A5_0000. -/
theorem test_example_servo :
    ((upState [(.h_freq_int, 0, 1250 * fUnit), (.time_servo_ki_shift, 0, 10), (.time_servo_kp_shift, 0, 4)]).dev.servo
      (3 * oUnit) false []).get .time_rate_rate = 0x05A50000 := by
  decide +kernel

/-! ### Single steps -/

/-- A read of an unassigned address answers 0 without an error, and leaves one record (R12). -/
theorem test_read_unassigned :
    (after (.regReadRefused .fabric 8 0x03FFFFF8) (upState [])).dev.sent.head? = some (.reply false 0) ∧
    (after (.regReadRefused .fabric 8 0x03FFFFF8) (upState [])).dev.fifo.map (·.code) = [.REG_UNMAPPED] := by
  decide +kernel

/-- An OBSERVE write is answered with an error and leaves REG_PRIVILEGE (R440). -/
theorem test_observe_write :
    (after (.fwdAgeCtrlWrite .observe 7) (upState [])).dev.sent.head? = some (.reply true 0) ∧
    (after (.fwdAgeCtrlWrite .observe 7) (upState [])).dev.fifo.map (·.code) = [.REG_PRIVILEGE] := by
  decide +kernel

/-- An idle step counts one nanosecond, and wraps at 2^64 (R397). -/
theorem test_tick_wraps :
    (match step (upState [(.h_local, 0, 2 ^ 64 - 1)]) with | .next t => t.dev.localNs | _ => 1) = 0 := by
  decide +kernel

/-- PD10 is not switched by request: blocker 0x106 (R28, R587). -/
theorem test_pd10_refused : (upState []).dev.pdBlocker 10 false = some 0x106 := by decide +kernel

/-- The pending queue is first in, first out. -/
theorem test_queue_order :
    (match step { upState [] with pending := [.csqQCmdNop .fabric 3, .csqQCmdStop .fabric 3] } with
      | .next t => t.pending
      | _ => []) = [.csqQCmdStop .fabric 3] := by
  decide +kernel

end Sys2Proof.Tests
end

section
/-! SUPPORT. What a write of a register does to its fields: one place of one field, one field, all fields of the register (R9, R11, R13). -/

namespace Sys2Proof.Machine

/-! ### Updates in order, read at one place -/

/-- Updates none of which touches a place leave it as it was. -/
theorem Dev.foldl_get_untouched {α : Type} (upd : Dev → α → Dev) (g : Fld) (j : Nat) (l : List α)
    (h : ∀ a ∈ l, ∀ d, (upd d a).get g j = d.get g j) (d : Dev) : (l.foldl upd d).get g j = d.get g j :=
  List.foldlRecOn (motive := fun e => e.get g j = d.get g j) l upd rfl (fun e he a ha => (h a ha e).trans he)

/-- Updates of which one alone touches a place do there what that one does. -/
theorem Dev.foldl_get_of_one {α : Type} (upd : Dev → α → Dev) (g : Fld) (j : Nat) (val : Nat → Nat) {l : List α} {a : α}
    (ha : a ∈ l) (hn : l.Nodup) (hown : ∀ d, (upd d a).get g j = val (d.get g j))
    (hother : ∀ b ∈ l, b ≠ a → ∀ d, (upd d b).get g j = d.get g j) (d : Dev) :
    (l.foldl upd d).get g j = val (d.get g j) := by
  obtain ⟨before, after, rfl⟩ := List.append_of_mem ha
  obtain ⟨-, hcons, hdisj⟩ := List.nodup_append.mp hn
  have hafter : a ∉ after := (List.nodup_cons.mp hcons).1
  rw [List.foldl_append, List.foldl_cons,
    foldl_get_untouched upd g j after (fun b hb => hother b (by simp [hb]) (fun e => hafter (e ▸ hb))), hown,
    foldl_get_untouched upd g j before (fun b hb => hother b (by simp [hb]) (hdisj b hb a (by simp)))]

/-- Updates that touch nothing but register fields, records and draws leave the rest of the block as it was. -/
theorem Dev.foldl_rest {α : Type} (upd : Dev → α → Dev) (h : ∀ d a, (upd d a).rest = d.rest) (l : List α) (d : Dev) :
    (l.foldl upd d).rest = d.rest :=
  List.foldlRecOn (motive := fun e : Dev => e.rest = d.rest) l upd rfl (fun e he a _ => (h e a).trans he)

/-! ### One place of a field -/

theorem maskOf_lt (n : Nat) (p : Nat → Bool) : maskOf n p < 2 ^ n := by
  induction n with
  | zero => simp [maskOf]
  | succ n ih =>
    simp only [maskOf] at ih
    simp only [maskOf, List.range_succ, List.foldl_append, List.foldl_cons, List.foldl_nil]
    split <;> omega

/-- What a place of field `f` that holds `old` holds after a write of `x`, by the access code (R9); `keep`: the write may not
place `x` there (R13). -/
def FieldRow.stored (f : FieldRow) (keep : Bool) (old x : Nat) : Nat :=
  match f.acc with
  | .rw => if keep then old else x
  | .w1c => maskOf f.w (fun b => bit old b && !bit x b)
  | .w1s => maskOf f.w (fun b => bit old b || bit x b)
  | _ => old

/-- The part of `Dev.writeField` that concerns place `k` of the field. -/
def Dev.writePlace (d : Dev) (i v : Nat) (bad : List Nat) (f : FieldRow) (k : Nat) : Dev :=
  let lo := f.lo + f.stride * k
  let x := slice v lo f.w
  let j := i * f.nsub + k
  match f.acc with
  | .rw => if bad.contains lo then d else d.set f.fld j x
  | .w1c => d.set f.fld j (maskOf f.w (fun b => bit (d.get f.fld j) b && !bit x b))
  | .w1s => d.set f.fld j (maskOf f.w (fun b => bit (d.get f.fld j) b || bit x b))
  | _ => d

/-- A write of a field is a write of its places in order. -/
theorem Dev.writeField_eq (d : Dev) (i v : Nat) (bad : List Nat) {f : FieldRow} (hl : f.live = false) :
    d.writeField i v bad f = (List.range f.nsub).foldl (fun d k => d.writePlace i v bad f k) d := by
  unfold Dev.writeField
  rw [if_neg (by simp [hl])]
  rfl

/-- The place written holds what the access code says, where the field's bits in the register are no more than it has. -/
theorem Dev.writePlace_get_same (d : Dev) (i v : Nat) (bad : List Nat) (f : FieldRow) (k : Nat) (hw : f.w ≤ f.fld.width) :
    (d.writePlace i v bad f k).get f.fld (i * f.nsub + k) =
      f.stored (bad.contains (f.lo + f.stride * k)) (d.get f.fld (i * f.nsub + k)) (slice v (f.lo + f.stride * k) f.w) := by
  have fits {x : Nat} (hx : x < 2 ^ f.w) : x % 2 ^ f.fld.width = x :=
    Nat.mod_eq_of_lt (hx.trans_le (Nat.pow_le_pow_right Nat.two_pos hw))
  have hslice : slice v (f.lo + f.stride * k) f.w < 2 ^ f.w := Nat.mod_lt _ (Nat.two_pow_pos _)
  unfold Dev.writePlace FieldRow.stored
  cases f.acc with
  | rw => dsimp only; split <;> simp [fits hslice]
  | w1c | w1s => simp [fits (maskOf_lt _ _)]
  | ro | wo | rc => rfl

/-- Every other place is as it was. -/
theorem Dev.writePlace_get_other (d : Dev) (i v : Nat) (bad : List Nat) (f : FieldRow) (k : Nat) {g : Fld} {j : Nat}
    (h : f.fld = g → j ≠ i * f.nsub + k) : (d.writePlace i v bad f k).get g j = d.get g j := by
  have hset (x : Nat) : (d.set f.fld (i * f.nsub + k) x).get g j = d.get g j := by
    rw [Dev.get_set, if_neg]
    rintro ⟨hg, hj⟩
    exact h (Fld.ctorIdx_inj hg).symm hj
  unfold Dev.writePlace
  cases f.acc with
  | rw => dsimp only; split <;> simp [hset]
  | w1c | w1s => exact hset _
  | ro | wo | rc => rfl

theorem Dev.writePlace_rest (d : Dev) (i v : Nat) (bad : List Nat) (f : FieldRow) (k : Nat) :
    (d.writePlace i v bad f k).rest = d.rest := by
  unfold Dev.writePlace
  cases f.acc with
  | rw => dsimp only; split <;> simp
  | w1c | w1s => simp
  | ro | wo | rc => rfl

/-! ### One field -/

/-- Each place of a field that is stored holds what the access code says. -/
theorem Dev.writeField_get_same (d : Dev) (i v : Nat) (bad : List Nat) {f : FieldRow} {k : Nat} (hl : f.live = false)
    (hw : f.w ≤ f.fld.width) (hk : k < f.nsub) :
    (d.writeField i v bad f).get f.fld (i * f.nsub + k) =
      f.stored (bad.contains (f.lo + f.stride * k)) (d.get f.fld (i * f.nsub + k)) (slice v (f.lo + f.stride * k) f.w) := by
  rw [Dev.writeField_eq d i v bad hl]
  exact foldl_get_of_one _ f.fld _ (fun old => f.stored _ old _) (List.mem_range.mpr hk) List.nodup_range
    (fun d => d.writePlace_get_same i v bad f k hw)
    (fun k' _ hne d => d.writePlace_get_other i v bad f k' (fun _ e => hne (Nat.add_left_cancel e).symm)) d

/-- The places of other fields, and those of other copies, are as they were. -/
theorem Dev.writeField_get_other (d : Dev) (i v : Nat) (bad : List Nat) (f : FieldRow) {g : Fld} {j : Nat}
    (h : f.fld = g → j / f.nsub ≠ i) : (d.writeField i v bad f).get g j = d.get g j := by
  by_cases hl : f.live = true
  · simp [Dev.writeField, hl]
  · rw [Dev.writeField_eq d i v bad (by simpa using hl)]
    refine foldl_get_untouched _ g j _ (fun k hk d => d.writePlace_get_other i v bad f k (fun hg hj => h hg ?_)) d
    have hk := List.mem_range.mp hk
    rw [hj, Nat.mul_comm, Nat.mul_add_div (Nat.zero_lt_of_lt hk), Nat.div_eq_of_lt hk, Nat.add_zero]

theorem Dev.writeField_rest (d : Dev) (i v : Nat) (bad : List Nat) (f : FieldRow) : (d.writeField i v bad f).rest = d.rest := by
  by_cases hl : f.live = true
  · simp [Dev.writeField, hl]
  · rw [Dev.writeField_eq d i v bad (by simpa using hl)]
    exact foldl_rest _ (fun d k => d.writePlace_rest i v bad f k) _ d

/-! ### All fields of a register -/

/-- In each register of the map the fields differ from one another, and none takes more bits of the register than it has. -/
theorem regTable_fields : ∀ r ∈ regTable, (r.fields.map (·.fld)).Nodup ∧ ∀ f ∈ r.fields, f.live = false → f.w ≤ f.fld.width := by
  decide +kernel

/-- A write leaves in each place of its register what the access code of the field says. -/
theorem Dev.writeFields_get_same (d : Dev) {r : RegRow} (i v : Nat) (bad : List Nat) {f : FieldRow} {k : Nat} (hr : r ∈ regTable)
    (hf : f ∈ r.fields) (hl : f.live = false) (hk : k < f.nsub) :
    (d.writeFields r i v bad).get f.fld (i * f.nsub + k) =
      f.stored (bad.contains (f.lo + f.stride * k)) (d.get f.fld (i * f.nsub + k)) (slice v (f.lo + f.stride * k) f.w) := by
  obtain ⟨hnodup, hwidth⟩ := regTable_fields r hr
  exact foldl_get_of_one _ f.fld _ (fun old => f.stored _ old _) hf hnodup.of_map
    (fun d => d.writeField_get_same i v bad hl (hwidth f hf hl) hk)
    (fun f' hf' hne d => d.writeField_get_other i v bad f'
      (fun hfld => (hne (List.inj_on_of_nodup_map hnodup hf' hf hfld)).elim)) d

/-- Fields of other registers and of other copies are as they were. -/
theorem Dev.writeFields_get_other (d : Dev) (r : RegRow) (i v : Nat) (bad : List Nat) {g : Fld} {j : Nat}
    (h : ∀ f ∈ r.fields, f.fld = g → j / f.nsub ≠ i) : (d.writeFields r i v bad).get g j = d.get g j :=
  foldl_get_untouched _ g j _ (fun f hf d => d.writeField_get_other i v bad f (h f hf)) d

theorem Dev.writeFields_rest (d : Dev) (r : RegRow) (i v : Nat) (bad : List Nat) : (d.writeFields r i v bad).rest = d.rest :=
  foldl_rest _ (fun d f => d.writeField_rest i v bad f) r.fields d

/-- Settles O15: within a register the fields are distinct, so each place is reached by the one field it belongs to. -/
theorem fieldsFollowTheirAccessCodes : Obligations.FieldsFollowTheirAccessCodes := by
  unfold Obligations.FieldsFollowTheirAccessCodes
  intro r d i v hr
  refine ⟨fun f hf hl k hk => ?_, fun g j h => d.writeFields_get_other r i v [] h, d.writeFields_rest r i v []⟩
  refine (d.writeFields_get_same i v [] hr hf hl hk).trans ?_
  unfold FieldRow.stored
  cases f.acc <;> rfl

end Sys2Proof.Machine
end

section
/-! SUPPORT. How a companion write reaches the state (R585): every command that is one runs `Dev.hostWrite`, a reset command apart. -/

namespace Sys2Proof.Machine

/-! ### The checks of a write (R585) -/

/-- A write that reaches its register passes checks 4 and 5. -/
theorem Dev.checkPower_of_reaches {d : Dev} {r : RegRow} {i : Nat} (h : d.reaches r i) (req dir : Nat) :
    d.checkPower req dir r i = none := by
  obtain ⟨-, hready, hdom⟩ := h
  have hstage : (!d.ready && !bootBlock (r.addr i)) = false := by
    rcases hready with h | h <;> simp [h]
  simp [Dev.checkPower, hstage, hdom]

/-- A FABRIC write of a refused encoding to a command register leaves its record and a normal completion, whatever its effect is. -/
theorem Dev.hostWrite_reserved {d : Dev} {r : RegRow} {i v : Nat} (hr : d.reaches r i) (hc : r.isCommand = true)
    (hbad : d.refusedFields r i v ≠ []) (eff : Nat → Nat → List Nat → Dev → Dev) :
    d.hostWrite .fabric r i v eff = (d.raise .REG_RSVD_ENC d.pathDevice
      [.w (r.addr i), .d v, .d (maskOf 64 (fun k => (d.refusedFields r i v).contains k)), .h 0]).ok := by
  have ⟨htrain, _⟩ := hr
  simp [Dev.hostWrite, htrain, markPriv, privFABRIC, markReq, Dev.checkPower_of_reaches hr, Dev.checkEncoding, hbad, hc, Dev.ok]

/-- No level from 0 to 2 of SYS_RESET_CMD has a field that is refused (R541). -/
theorem Dev.refusedFields_reset (d : Dev) {level confirm : Nat} (hl : level ≤ 2) (hc : confirm < 2 ^ 16) :
    d.refusedFields rowSYS_RESET_CMD 0 (level * 2 ^ 62 + confirm) = [] := by
  generalize hv : level * 2 ^ 62 + confirm = v
  have hlevel : slice v 62 2 = level := by unfold slice; omega
  have hmore : d.refusedMore rowSYS_RESET_CMD 0 v = [] := rfl
  rw [Dev.refusedFields, hmore]
  simp [RegRow.refused, rowSYS_RESET_CMD, FieldRow.allows, hlevel, hl, Nat.mod_one]

/-! ### The commands that are companion writes -/

/-- The outcome of `s` after `f` on its device, by one of the three ways commands take: records alone; what the engines take in
besides; and the zeroing of a frame newly mapped besides (R375, R509). -/
inductive State.RunsBy (s : State) (f : Dev → Dev) : Host.Outcome State Fault Refusal → Prop
  | run : s.RunsBy f (s.run f)
  | runX : s.RunsBy f (s.runX f)
  | runMap : s.RunsBy f (s.runMap f)

/-- However an effect reaches the state, the device ends as it left it, where it put no frame into ZEROING. -/
theorem State.RunsBy.ends {s : State} {f : Dev → Dev} {o : Host.Outcome State Fault Refusal} (h : s.RunsBy f o)
    (hz : (f s.dev).fstate = s.dev.fstate) : o = .next (s.ends (f s.dev)) ∨ o = .next (s.endsX (f s.dev)) := by
  cases h with
  | run => exact .inl rfl
  | runX => exact .inr rfl
  | runMap =>
    right
    have hmem : zeroNew s.dev (f s.dev) s.mem = s.mem := zeroNew_same _ _ _ (fun k _ hk => hz ▸ hk)
    rw [State.runMap, State.runMem_next, hmem]
    rfl

/-- A command that is a companion write runs the checks of R585 and then some effect, unless it is a reset command. The proof
names the commands that do not take the plain way `run`. -/
theorem exec_of_writeOf {c : Instr} {m : Mark} {r : RegRow} {i v : Nat} (h : writeOf c = some (m, r, i, v)) (s : State) :
    (∃ eff, s.RunsBy (fun d => d.hostWrite m r i v eff) (exec c s)) ∨
    ∃ level confirm f, level ≤ 2 ∧ confirm < 2 ^ 16 ∧ r = rowSYS_RESET_CMD ∧ i = 0 ∧ v = level * 2 ^ 62 + confirm ∧
      exec c s = s.resetCmd m level confirm f := by
  cases c <;> cases h
  case sysResetNop confirm =>
    exact .inr ⟨0, confirm.toNat, fun s => s, by decide, confirm.isLt, rfl, rfl, rfl, rfl⟩
  case sysResetWarm confirm =>
    exact .inr ⟨1, confirm.toNat, fun s => s.warm 5, by decide, confirm.isLt, rfl, rfl, rfl, rfl⟩
  case sysResetCold confirm =>
    exact .inr ⟨2, confirm.toNat, fun s => if s.dev.flag .h_porst then s else s.cold 1 2, by decide, confirm.isLt, rfl, rfl, rfl, rfl⟩
  case fmemCmdMap => exact .inl ⟨_, .runMap⟩
  case pdCmdNop | pdCmdOn | pdCmdOff | portCfgWrite | portStencilWrite | ringCmdNop | ringCmdOff | ringCmdRestart | ringCmdRetry |
      optEngCtrlWrite | optLaneMapWrite | laneTxArm | laneRxArm | lasEngCtrlWrite | xprCmdNop | xprCmdSetup | xprCmdTeardown |
      xprCmdReweight | portCmdNop | portCmdFence | portCmdUnfence | portCmdAdmit | portCmdAccept | portCmdRetry | portCmdRestart |
      portCmdRebalance | collCmdAbort | cmbUnitFenceCmd | cmbUnitUnfence | wraTileFence | wraTileUnfence | fmemCmdUnmap |
      fmemCmdResync | timeParentWrite | timeCtrlWrite | svcBindWrite =>
    exact .inl ⟨_, .runX⟩
  all_goals exact .inl ⟨_, .run⟩

/-- Settles O11: the write stops at the encoding check, whichever way the command takes; a reset command has no refused field. -/
theorem reservedCommandsDoNothing : Obligations.ReservedCommandsDoNothing := by
  unfold Obligations.ReservedCommandsDoNothing
  intro c r i v s hw hr hc hbad
  rcases exec_of_writeOf hw s with ⟨eff, hrun⟩ | ⟨level, confirm, f, hl, hconf, rfl, rfl, rfl, -⟩
  · have hdev := Dev.hostWrite_reserved hr hc hbad eff
    have hends := hrun.ends (by rw [hdev]; rfl)
    rwa [hdev] at hends
  · exact absurd (s.dev.refusedFields_reset hl hconf) hbad

end Sys2Proof.Machine
end

section
/-! SUPPORT. The control-space map read backwards (R12, R32): the copy an offset names, and registers that share no address. -/

namespace Sys2Proof.Machine

/-! ### Offsets and copies -/

/-- The largest offset that copies of the listed dimensions have. -/
def dimsReach : List (Nat × Nat) → Nat
  | [] => 0
  | (n, st) :: r => (n - 1) * st + dimsReach r

/-- Each step is larger than all that the dimensions inside it reach, so that an offset spells its copy. -/
def dimsNest : List (Nat × Nat) → Bool
  | [] => true
  | (_, st) :: r => decide (dimsReach r < st) && dimsNest r

@[simp] theorem copies_nil : copies [] = 1 := rfl

@[simp] theorem copies_cons (n st : Nat) (r : List (Nat × Nat)) : copies ((n, st) :: r) = n * copies r := by
  have hfold (l : List (Nat × Nat)) (a : Nat) : l.foldl (fun a e => a * e.1) a = a * l.foldl (fun a e => a * e.1) 1 := by
    induction l generalizing a with
    | nil => simp
    | cons e l ih => rw [List.foldl_cons, List.foldl_cons, ih, ih (1 * e.1), Nat.one_mul, Nat.mul_assoc]
  unfold copies
  rw [List.foldl_cons, hfold, Nat.one_mul]

/-- A copy number splits into its place in the first dimension and the number of the copy inside. -/
theorem copy_split {n st i : Nat} {r : List (Nat × Nat)} (h : i < copies ((n, st) :: r)) :
    i / copies r < n ∧ i % copies r < copies r := by
  rw [copies_cons] at h
  have hpos : 0 < copies r := Nat.pos_of_mul_pos_left (Nat.zero_lt_of_lt h)
  exact ⟨Nat.div_lt_of_lt_mul (by rwa [Nat.mul_comm]), Nat.mod_lt _ hpos⟩

theorem offsetOf_le {l : List (Nat × Nat)} {i : Nat} (h : i < copies l) : offsetOf l i ≤ dimsReach l := by
  induction l generalizing i with
  | nil => exact Nat.le_refl 0
  | cons e r ih =>
    obtain ⟨n, st⟩ := e
    obtain ⟨hdiv, hmod⟩ := copy_split h
    exact Nat.add_le_add (Nat.mul_le_mul_right _ (Nat.le_sub_one_of_lt hdiv)) (ih hmod)

/-- The offset of a copy names that copy. -/
theorem copyOf_offsetOf {l : List (Nat × Nat)} {i : Nat} (hn : dimsNest l = true) (hi : i < copies l) (acc : Nat) :
    copyOf l (offsetOf l i) acc = some (acc * copies l + i) := by
  induction l generalizing i acc with
  | nil =>
    have : i = 0 := by simpa using hi
    simp [copyOf, offsetOf, this]
  | cons e r ih =>
    obtain ⟨n, st⟩ := e
    obtain ⟨hdiv, hmod⟩ := copy_split hi
    simp only [dimsNest, Bool.and_eq_true, decide_eq_true_eq] at hn
    obtain ⟨hst, hr⟩ := hn
    have hlt : offsetOf r (i % copies r) < st := (offsetOf_le hmod).trans_lt hst
    have hoff : offsetOf ((n, st) :: r) i = offsetOf r (i % copies r) + st * (i / copies r) := by
      simp only [offsetOf]; ring
    have hq : offsetOf ((n, st) :: r) i / st = i / copies r := by
      rw [hoff, Nat.add_mul_div_left _ _ (by omega), Nat.div_eq_of_lt hlt, Nat.zero_add]
    have hm : offsetOf ((n, st) :: r) i % st = offsetOf r (i % copies r) := by
      rw [hoff, Nat.add_mul_mod_self_left, Nat.mod_eq_of_lt hlt]
    rw [copyOf, hq, hm, if_pos hdiv, ih hr hmod, copies_cons]
    congr 1
    calc (acc * n + i / copies r) * copies r + i % copies r
        = acc * (n * copies r) + (copies r * (i / copies r) + i % copies r) := by ring
      _ = acc * (n * copies r) + i := by rw [Nat.div_add_mod]

/-- A copy that an offset names exists and has that offset. -/
theorem offsetOf_copyOf {l : List (Nat × Nat)} {off acc j : Nat} (h : copyOf l off acc = some j) :
    ∃ i < copies l, off = offsetOf l i ∧ j = acc * copies l + i := by
  induction l generalizing off acc with
  | nil =>
    simp only [copyOf, Option.ite_none_right_eq_some, Option.some.injEq] at h
    obtain ⟨hoff, rfl⟩ := h
    exact ⟨0, by simp, hoff, by simp⟩
  | cons e r ih =>
    obtain ⟨n, st⟩ := e
    simp only [copyOf, Option.ite_none_right_eq_some] at h
    obtain ⟨hq, h⟩ := h
    obtain ⟨i, hi, hoff, rfl⟩ := ih h
    have hpos : 0 < copies r := Nat.zero_lt_of_lt hi
    have hdiv : (off / st * copies r + i) / copies r = off / st := by
      rw [Nat.mul_comm, Nat.mul_add_div hpos, Nat.div_eq_of_lt hi, Nat.add_zero]
    have hmod : (off / st * copies r + i) % copies r = i := by
      rw [Nat.mul_comm, Nat.mul_add_mod, Nat.mod_eq_of_lt hi]
    refine ⟨off / st * copies r + i, ?_, ?_, ?_⟩
    · rw [copies_cons]
      calc off / st * copies r + i < off / st * copies r + copies r := Nat.add_lt_add_left hi _
        _ = (off / st + 1) * copies r := by ring
        _ ≤ n * copies r := Nat.mul_le_mul_right _ hq
    · rw [offsetOf, hdiv, hmod, ← hoff, Nat.mul_comm, Nat.div_add_mod]
    · rw [copies_cons]; ring

/-- A register answers at an address only where one of its copies stands. -/
theorem RegRow.addr_of_copyAt {r : RegRow} {a j : Nat} (h : r.copyAt a = some j) : j < copies r.dims ∧ a = r.addr j := by
  unfold RegRow.copyAt at h
  split at h
  · cases h
  next hbase =>
    split at h
    next i hi =>
      obtain ⟨k, hk, hoff, rfl⟩ := offsetOf_copyOf hi
      split at h
      · cases h
      · cases h
        rw [Nat.zero_mul, Nat.zero_add]
        exact ⟨hk, by unfold RegRow.addr; omega⟩
    · cases h

/-- A register answers at the address of a copy that exists. -/
theorem RegRow.copyAt_addr {r : RegRow} {i : Nat} (hn : dimsNest r.dims = true) (hi : i < copies r.dims)
    (hh : r.holes.any (fun h => decide (h.1 ≤ i ∧ i ≤ h.2)) = false) : r.copyAt (r.addr i) = some i := by
  have hoff : r.addr i - r.base = offsetOf r.dims i := Nat.add_sub_cancel_left ..
  have hlow : ¬ r.addr i < r.base := Nat.not_lt.mpr (Nat.le_add_right ..)
  rw [RegRow.copyAt, if_neg hlow, hoff, copyOf_offsetOf hn hi, Nat.zero_mul, Nat.zero_add]
  simp only [hh, Bool.false_eq_true, if_false]

/-! ### Registers that share no address -/

/-- The largest offset that copies of the listed dimensions have modulo `m`: a step that is a multiple of `m` counts for nothing. -/
def dimsReachMod (m : Nat) : List (Nat × Nat) → Nat
  | [] => 0
  | (n, st) :: r => (if st % m = 0 then 0 else (n - 1) * st) + dimsReachMod m r

/-- Modulo `m` the addresses of `r` stand below those of `q`. -/
def RegRow.belowMod (m : Nat) (r q : RegRow) : Bool :=
  decide (r.base % m + dimsReachMod m r.dims < q.base % m) && decide (q.base % m + dimsReachMod m q.dims < m)

/-- Two registers are told apart by the size of the control space or by a step of one of them. -/
def RegRow.apart (r q : RegRow) : Bool :=
  (0x4000000 :: (r.dims ++ q.dims).map (·.2)).any (fun m => r.belowMod m q || q.belowMod m r)

theorem offsetOf_modEq {l : List (Nat × Nat)} {i : Nat} (m : Nat) (h : i < copies l) :
    ∃ o ≤ dimsReachMod m l, offsetOf l i ≡ o [MOD m] := by
  induction l generalizing i with
  | nil => exact ⟨0, Nat.le_refl 0, rfl⟩
  | cons e r ih =>
    obtain ⟨n, st⟩ := e
    obtain ⟨hdiv, hmod⟩ := copy_split h
    obtain ⟨o, ho, hmo⟩ := ih hmod
    by_cases hst : st % m = 0
    · refine ⟨o, by simpa [dimsReachMod, hst] using ho, ?_⟩
      have hz : i / copies r * st ≡ 0 [MOD m] := ((Nat.dvd_of_mod_eq_zero hst).mul_left _).modEq_zero_nat
      simpa only [offsetOf, Nat.zero_add] using hz.add hmo
    · refine ⟨i / copies r * st + o, ?_, hmo.add_left _⟩
      simp only [dimsReachMod, hst, if_false]
      exact Nat.add_le_add (Nat.mul_le_mul_right _ (Nat.le_sub_one_of_lt hdiv)) ho

theorem RegRow.addr_mod {r : RegRow} {i : Nat} (m : Nat) (hi : i < copies r.dims)
    (hm : r.base % m + dimsReachMod m r.dims < m) :
    r.base % m ≤ r.addr i % m ∧ r.addr i % m ≤ r.base % m + dimsReachMod m r.dims := by
  obtain ⟨o, ho, hmo⟩ := offsetOf_modEq m hi
  have heq : r.addr i % m = r.base % m + o := calc
    r.addr i % m = (r.base % m + o) % m := (Nat.mod_modEq r.base m).symm.add hmo
    _ = r.base % m + o := Nat.mod_eq_of_lt (by omega)
  omega

theorem RegRow.addr_ne_of_belowMod {r q : RegRow} {m i j : Nat} (h : r.belowMod m q = true) (hi : i < copies r.dims)
    (hj : j < copies q.dims) : r.addr i ≠ q.addr j := by
  simp only [RegRow.belowMod, Bool.and_eq_true, decide_eq_true_eq] at h
  obtain ⟨hrq, hq⟩ := h
  have hr := RegRow.addr_mod m hi (by omega)
  have hq := RegRow.addr_mod m hj hq
  intro heq
  rw [heq] at hr
  omega

theorem RegRow.addr_ne_of_apart {r q : RegRow} {i j : Nat} (h : r.apart q = true) (hi : i < copies r.dims)
    (hj : j < copies q.dims) : r.addr i ≠ q.addr j := by
  obtain ⟨m, -, hm⟩ := List.any_eq_true.mp h
  rcases Bool.or_eq_true _ _ ▸ hm with hm | hm
  · exact RegRow.addr_ne_of_belowMod hm hi hj
  · exact (RegRow.addr_ne_of_belowMod hm hj hi).symm

/-- Of registers that are apart, one answers at the address of a copy of another never. -/
theorem RegRow.copyAt_none_of_apart {r q : RegRow} {i : Nat} (h : q.apart r = true) (hi : i < copies r.dims) :
    q.copyAt (r.addr i) = none := by
  rw [Option.eq_none_iff_forall_ne_some]
  intro j hj
  obtain ⟨hlt, haddr⟩ := RegRow.addr_of_copyAt hj
  exact RegRow.addr_ne_of_apart h hlt hi haddr.symm

/-! ### The whole map -/

/-- In every register of the map an offset spells its copy. -/
theorem regTable_nest : ∀ r ∈ regTable, dimsNest r.dims = true := by
  decide +kernel

/-- The registers of the map are apart. -/
theorem regTable_apart : regTable.Pairwise (fun r q => r.apart q = true) := by
  decide +kernel

/-- The search of a list stops at an element that answers, where none before it does. -/
theorem findSome?_of_pairwise {α β : Type} {R : α → α → Prop} {f : α → Option β} {l : List α} {x : α} {b : β}
    (hl : l.Pairwise R) (hx : x ∈ l) (hf : f x = some b) (hbefore : ∀ y, R y x → f y = none) : l.findSome? f = some b := by
  induction l with
  | nil => cases hx
  | cons y l ih =>
    obtain ⟨hy, hl⟩ := List.pairwise_cons.mp hl
    rcases List.mem_cons.mp hx with rfl | hx
    · rw [List.findSome?_cons, hf]
    · rw [List.findSome?_cons, hbefore y (hy x hx)]
      exact ih hl hx

/-- Settles O16: the register answers at the address of its copy, and one that is apart from it does not. -/
theorem everyAddressOfACopyDecodesToIt : Obligations.EveryAddressOfACopyDecodesToIt := by
  unfold Obligations.EveryAddressOfACopyDecodesToIt
  intro r i hr hi hh
  refine findSome?_of_pairwise regTable_apart hr ?_ (fun q hq => ?_)
  · simp [RegRow.copyAt_addr (regTable_nest r hr) hi hh]
  · simp [RegRow.copyAt_none_of_apart hq hi]

end Sys2Proof.Machine
end

section
/-! SUPPORT. Every command completes: each operation on the whole state keeps the queue, and each way a command's effect reaches the
state leaves no event behind (R509, log entry 1). -/

namespace Sys2Proof.Machine

/-- Settles O1: the step takes the front off and carries it out. -/
theorem stepRunsFront : Obligations.StepRunsFront := by
  unfold Obligations.StepRunsFront
  intro c s
  rfl

/-! ### Operations on the whole state keep the queue -/

theorem State.ite_pending {c : Prop} [Decidable c] {s t u : State} (ht : t.pending = s.pending) (hu : u.pending = s.pending) :
    (if c then t else u).pending = s.pending := by
  split
  · exact ht
  · exact hu

@[simp] theorem State.secCut_pending (s : State) : s.secCut.pending = s.pending := by
  unfold State.secCut
  exact ite_pending rfl (ite_pending rfl (ite_pending rfl (ite_pending rfl rfl)))

@[simp] theorem State.warm_pending (s : State) (cause : Nat) : (s.warm cause).pending = s.pending := by
  unfold State.warm
  exact ite_pending rfl s.secCut_pending

@[simp] theorem State.cold_pending (s : State) (level cause : Nat) : (s.cold level cause).pending = s.pending :=
  s.secCut_pending

@[simp] theorem State.svnCommit_pending (s : State) (n : Nat) : (s.svnCommit n).pending = s.pending := rfl

@[simp] theorem State.revoke_pending (s : State) (a : Nat) (ok : Bool) : (s.revoke a ok).pending = s.pending := by
  unfold State.revoke
  exact ite_pending rfl rfl

@[simp] theorem State.secDone_pending (s : State) (r : SecOutcome) : (s.secDone r).pending = s.pending := by
  unfold State.secDone
  have hdev (f : Dev → Dev) := s.onDev_pending f
  exact ite_pending rfl (ite_pending (hdev _) (ite_pending (hdev _) (ite_pending (hdev _) (ite_pending (hdev _)
    (ite_pending (s.svnCommit_pending _) (ite_pending (s.revoke_pending _ _) (ite_pending (hdev _) (hdev _))))))))

@[simp] theorem State.railOut_pending (s : State) (rail mv : Nat) (sustained : Bool) :
    (s.railOut rail mv sustained).pending = s.pending := by
  unfold State.railOut
  exact ite_pending (s.onDev_pending _) (ite_pending ((State.cold_pending _ 0 1).trans (s.onDev_pending _))
    ((State.onDev_pending _ _).trans (s.onDev_pending _)))

@[simp] theorem State.trip_pending (s : State) (i : Nat) : (s.trip i).pending = s.pending := by
  simp [State.trip]

@[simp] theorem State.sample_pending (s : State) (i v : Nat) : (s.sample i v).pending = s.pending := by
  unfold State.sample
  refine ite_pending (s.onDev_pending _) ?_
  split
  · exact s.onDev_pending _
  · split
    · simp
    · split <;> simp

@[simp] theorem State.regWrite_pending (s : State) (req : Nat) (r : RegRow) (i v : Nat) :
    (s.regWrite req r i v).pending = s.pending := by
  unfold State.regWrite
  refine ite_pending rfl (ite_pending (ite_pending rfl ?_) rfl)
  split
  · exact State.warm_pending _ 5
  · exact ite_pending rfl (State.cold_pending _ 1 2)
  · rfl

@[simp] theorem State.burstWrite_pending (s : State) (c : Nat) (m : DmaMove) (k : Nat) (runs : List (Nat × List Nat)) :
    (s.burstWrite c m k runs).pending = s.pending := by
  unfold State.burstWrite
  cases runs with
  | nil => rfl
  | cons run runs =>
    refine ite_pending rfl (ite_pending (ite_pending rfl rfl) (ite_pending rfl ?_))
    dsimp only
    split
    · exact State.regWrite_pending ..
    · rfl
    · rfl

@[simp] theorem State.burstData_pending (s : State) (c : Nat) (m : DmaMove) (k : Nat) (data : Option (List Nat)) (corr bad : List Nat) :
    (s.burstData c m k data corr bad).pending = s.pending := by
  unfold State.burstData
  refine ite_pending rfl ?_
  split
  · rfl
  · exact State.burstWrite_pending ..

@[simp] theorem State.burstResponse_pending (s : State) (c k : Nat) (data : Option (List Nat)) (corr bad : List Nat) :
    (s.burstResponse c k data corr bad).pending = s.pending := by
  unfold State.burstResponse
  rw [State.onDev_pending]
  split
  · rfl
  · split
    · exact s.burstData_pending ..
    · rfl
    · rfl

@[simp] theorem State.readFails_pending (s : State) (p : KPurpose) : (s.readFails p).pending = s.pending := by
  cases p with
  | head q | crHead q =>
    change (dite _ _ _ : State).pending = _
    split <;> rfl
  | dmaBurst c k => exact s.burstResponse_pending ..
  | ringHead | dumpHead | mcEntry | stencil | collImage | wraImage | progImage | sec => rfl

/-- Operations in turn, each of which keeps the queue, keep it. -/
theorem State.foldl_pending {α : Type} {f : State → α → State} (h : ∀ s a, (f s a).pending = s.pending) (l : List α) (s : State) :
    (l.foldl f s).pending = s.pending :=
  List.foldlRecOn (motive := fun t : State => t.pending = s.pending) l f rfl (fun t ht a _ => (h t a).trans ht)

@[simp] theorem State.replayFail_pending (s : State) : s.replayFail.pending = s.pending := by
  unfold State.replayFail
  refine ite_pending rfl ?_
  rw [foldl_pending (fun s w => s.burstResponse_pending ..), foldl_pending (fun s p => s.readFails_pending p)]

/-! ### The ways a command completes -/

/-- A command on `s` completes with outcome `o`: a next state with the same queue, and no event left waiting. -/
def State.Completes (s : State) (o : Host.Outcome State Fault Refusal) : Prop :=
  ∃ t, o = .next t ∧ t.pending = s.pending ∧ t.dev.events = []

theorem State.run_completes (s : State) (f : Dev → Dev) : s.Completes (s.run f) := by
  obtain ⟨t, ht, -, hevents, -, -, hpending⟩ := s.run_out f
  exact ⟨t, ht, hpending, hevents⟩

theorem State.runMem_completes (s : State) (f : Dev → SMap Byte → Dev × SMap Byte) : s.Completes (s.runMem f) := by
  obtain ⟨t, ht, -, hevents, -, -, hpending⟩ := s.runMem_out f
  exact ⟨t, ht, hpending, hevents⟩

/-- An operation on the whole state that keeps the queue, and then its records on their way. -/
theorem State.done_completes {s t : State} (h : t.pending = s.pending) : s.Completes t.done :=
  ⟨t.onDev (fun d => d.settle.flush), rfl, (t.onDev_pending _).trans h, by rw [State.onDev_dev]; exact Dev.flush_events _⟩

theorem State.resetCmd_completes (s : State) (m : Mark) (level confirm : Nat) {f : State → State}
    (hf : ∀ t, (f t).pending = t.pending) : s.Completes (s.resetCmd m level confirm f) := by
  unfold State.resetCmd
  exact State.done_completes (ite_pending (hf _) rfl)

theorem execRegWrite_completes (m : Mark) (size a : Nat) (v : Word) (s : State) : s.Completes (execRegWrite m size a v s) := by
  unfold execRegWrite
  split
  · exact State.done_completes rfl
  · dsimp only
    split
    · exact State.done_completes (State.regWrite_pending ..)
    · exact State.done_completes rfl
    · exact State.done_completes rfl

theorem execRegReadRefused_completes (m : Mark) (size a : Nat) (s : State) : s.Completes (execRegReadRefused m size a s) := by
  unfold execRegReadRefused
  split
  · exact State.done_completes rfl
  · dsimp only
    split
    · exact State.done_completes rfl
    · exact State.done_completes rfl
    · exact State.done_completes rfl

theorem execKclReadTimeout_completes (k : Fin 256) (s : State) : s.Completes (execKclReadTimeout k s) := by
  unfold execKclReadTimeout
  split
  · exact State.done_completes rfl
  · exact State.done_completes (State.readFails_pending ..)

/-- Settles O3: most commands run an effect on the device or on device and memory; the others are operations on the whole state. -/
theorem everyCommandCompletes : Obligations.EveryCommandCompletes := by
  unfold Obligations.EveryCommandCompletes
  intro c s
  change s.Completes (exec c s)
  cases c
  case regWrite m size a v => exact execRegWrite_completes m size a v s
  case regReadRefused m size a => exact execRegReadRefused_completes m size a s
  case porstNAssert =>
    change s.Completes (if _ then _ else _)
    split <;> exact State.done_completes (by simp)
  case wrstNAssert => exact State.done_completes (s.warm_pending 4)
  case sysResetNop => exact s.resetCmd_completes _ _ _ (f := id) (fun _ => rfl)
  case sysResetWarm => exact s.resetCmd_completes _ _ _ (f := (·.warm 5)) (fun t => t.warm_pending 5)
  case sysResetCold m confirm =>
    exact s.resetCmd_completes m 2 confirm.toNat (f := fun t => if t.dev.flag .h_porst then t else t.cold 1 2)
      (fun t => State.ite_pending rfl (t.cold_pending 1 2))
  case bootWatchdog | confirmTimeout =>
    change s.Completes (if _ then _ else _)
    split <;> exact State.done_completes (by simp)
  case secCmdDone r => exact State.done_completes (s.secDone_pending r)
  case railOutOfRange => exact State.done_completes (s.railOut_pending ..)
  case thermSample => exact State.done_completes (s.sample_pending ..)
  case dmaBurstResponse => exact State.done_completes (s.burstResponse_pending ..)
  case kclReadTimeout k => exact execKclReadTimeout_completes k s
  case kclReplayFail => exact State.done_completes s.replayFail_pending
  case fmemCmdMap | fmemAccessDone | mirrorPush | mirrorAck | mirrorKeep | mirrorDone | resyncPush | dxMemMap | gatherRowsDone =>
    unfold exec
    dsimp only [execFmemCmdMap, execFmemAccessDone, execMirrorPush, execMirrorAck, execMirrorKeep, execMirrorDone, execResyncPush,
      execDxMemMap, execGatherRowsDone, State.runMap]
    exact s.runMem_completes _
  all_goals exact s.run_completes _

end Sys2Proof.Machine
end

section
/-! SUPPORT. Accesses that a check of R585 stops, and REG_WRITE and REG_READ_REFUSED check by check. -/

namespace Sys2Proof.Machine

/-! ### Checks 4 and 5 -/

/-- The boot-stage check stops an access before READY outside SYS and SEC (R528). -/
theorem Dev.checkPower_of_notReady {d : Dev} {r : RegRow} {i : Nat} (hready : d.ready = false) (hboot : bootBlock (r.addr i) = false)
    (req dir : Nat) : d.checkPower req dir r i = some (d.recDomainOff req (r.addr i) dir 0xFF) := by
  simp [Dev.checkPower, hready, hboot]

/-- The domain check stops an access to a copy in a domain that is off (R30). -/
theorem Dev.checkPower_of_off {d : Dev} {r : RegRow} {i k : Nat} (hstage : d.ready = true ∨ bootBlock (r.addr i) = true)
    (hoff : d.offDomain r.dom i = some k) (req dir : Nat) :
    d.checkPower req dir r i = some (d.recDomainOff req (r.addr i) dir k) := by
  have hstage : (!d.ready && !bootBlock (r.addr i)) = false := by
    rcases hstage with h | h <;> simp [h]
  simp [Dev.checkPower, hstage, hoff]

/-- A FABRIC write that checks 4 and 5 stop leaves the record of the check and an error completion. -/
theorem Dev.hostWrite_of_checkPower {d e : Dev} {r : RegRow} {i : Nat} (ht : d.get .h_kcl_train = 0)
    (hp : d.checkPower 0 1 r i = some e) (v : Nat) (eff : Nat → Nat → List Nat → Dev → Dev) :
    d.hostWrite .fabric r i v eff = e.err := by
  simp [Dev.hostWrite, ht, markPriv, privFABRIC, markReq, hp, Dev.err]

/-- A reset command that checks 4 and 5 stop resets nothing. -/
theorem State.resetCmd_of_checkPower {s : State} {e : Dev} (ht : s.dev.get .h_kcl_train = 0)
    (hp : s.dev.checkPower 0 1 rowSYS_RESET_CMD 0 = some e) (level confirm : Nat) (f : State → State) :
    s.resetCmd .fabric level confirm f = .next (s.endsX e.err) := by
  simp only [State.resetCmd, Dev.hostWrite_of_checkPower ht hp, hp, Option.isNone_some, Bool.and_false, Bool.false_and,
    Bool.false_eq_true, if_false]
  rfl

/-- A FABRIC companion write into what checks 4 and 5 hold to be off does nothing but the record. -/
theorem Ends.of_checkPower {c : Instr} {r : RegRow} {i v k : Nat} {s : State} (hw : writeOf c = some (.fabric, r, i, v))
    (ht : s.dev.get .h_kcl_train = 0) (hp : s.dev.checkPower 0 1 r i = some (s.dev.recDomainOff 0 (r.addr i) 1 k)) :
    Ends c s (s.dev.recDomainOff 0 (r.addr i) 1 k).err := by
  rcases exec_of_writeOf hw s with ⟨eff, hrun⟩ | ⟨level, confirm, f, -, -, rfl, rfl, -, hexec⟩
  · have hdev := Dev.hostWrite_of_checkPower ht hp v eff
    have hends := hrun.ends (by rw [hdev]; rfl)
    rwa [hdev] at hends
  · exact .inr (hexec.trans (State.resetCmd_of_checkPower ht hp level confirm f))

/-- Settles O10: the write stops at check 4 or 5, whichever way the command takes. -/
theorem writesNeedReadyAndPower : Obligations.WritesNeedReadyAndPower := by
  unfold Obligations.WritesNeedReadyAndPower
  intro c r i v s hw ht
  exact ⟨fun hready hboot => .of_checkPower hw ht (Dev.checkPower_of_notReady hready hboot 0 1),
    fun hstage k hoff => .of_checkPower hw ht (Dev.checkPower_of_off hstage hoff 0 1)⟩

/-! ### Checks 1 to 5 by the address -/

/-- An access is well formed: an aligned 64-bit access within the space (R8). -/
abbrev FormOk (size a : Nat) : Prop := size = 8 ∧ a % 8 = 0 ∧ a ≤ 0x03FFFFFF

theorem Dev.access_of_not_form (d : Dev) (req priv : Nat) {size a : Nat} (wr : Option Nat) (h : ¬ FormOk size a) :
    d.access req priv size a wr = (d, .form) := by
  unfold Dev.access
  rw [if_pos (by unfold FormOk at h; omega)]

theorem Dev.access_of_unmapped (d : Dev) (req : Nat) {priv size a : Nat} {wr : Option Nat} (h : FormOk size a)
    (hpriv : wr.isSome = true → priv = privFABRIC) (hdec : decodeAddr a = none) :
    d.access req priv size a wr = (d.recUnmapped req a (b2n wr.isSome), .unmapped) := by
  unfold Dev.access
  rw [if_neg (by unfold FormOk at h; omega), if_neg (fun hw => hw.2 (hpriv hw.1))]
  simp only [hdec]

theorem Dev.access_of_off (d e : Dev) (req : Nat) {priv size a i : Nat} {wr : Option Nat} {r : RegRow} (h : FormOk size a)
    (hpriv : wr.isSome = true → priv = privFABRIC) (hdec : decodeAddr a = some (r, i))
    (hp : d.checkPower req (b2n wr.isSome) r i = some e) : d.access req priv size a wr = (e, .off) := by
  unfold Dev.access
  rw [if_neg (by unfold FormOk at h; omega), if_neg (fun hw => hw.2 (hpriv hw.1))]
  simp only [hdec, hp]

theorem Dev.access_of_pass (d : Dev) (req : Nat) {priv size a i : Nat} {wr : Option Nat} {r : RegRow} (h : FormOk size a)
    (hpriv : wr.isSome = true → priv = privFABRIC) (hdec : decodeAddr a = some (r, i))
    (hp : d.checkPower req (b2n wr.isSome) r i = none) : d.access req priv size a wr = (d, .pass r i) := by
  unfold Dev.access
  rw [if_neg (by unfold FormOk at h; omega), if_neg (fun hw => hw.2 (hpriv hw.1))]
  simp only [hdec, hp]

theorem Dev.access_of_priv (d : Dev) (req : Nat) {priv size a : Nat} (v : Nat) (h : FormOk size a) (hpriv : priv ≠ privFABRIC) :
    d.access req priv size a (some v) = (d.recPrivilege req a v, .priv) := by
  unfold Dev.access
  rw [if_neg (by unfold FormOk at h; omega), if_pos ⟨rfl, hpriv⟩]
  rfl

/-! ### REG_READ_REFUSED -/

/-- A read that a check other than decode stops is answered with an error. -/
theorem execRegReadRefused_of_error {m : Mark} {size a : Nat} {s : State} {e : Dev} {c : Chk} (ht : s.dev.get .h_kcl_train = 0)
    (ha : s.dev.access (markReq m) (markPriv m) size a none = (e, c)) (hc : c = .form ∨ c = .off) :
    execRegReadRefused m size a s = .next (s.endsX e.err) := by
  rcases hc with rfl | rfl <;> simp only [execRegReadRefused, ht, ha] <;> rfl

theorem execRegReadRefused_of_unmapped {m : Mark} {size a : Nat} {s : State} {e : Dev} (ht : s.dev.get .h_kcl_train = 0)
    (ha : s.dev.access (markReq m) (markPriv m) size a none = (e, .unmapped)) :
    execRegReadRefused m size a s = .next (s.endsX e.ok) := by
  simp only [execRegReadRefused, ht, ha]; rfl

/-- Settles O14: the first check that fails answers. -/
theorem regReadRefused : Obligations.RegReadRefused := by
  unfold Obligations.RegReadRefused
  intro m size a s ht
  refine ⟨fun h => ?_, fun h hdec => ?_, fun h r i hdec => ⟨fun hready hboot => ?_, fun hstage k hoff => ?_⟩⟩
  · exact execRegReadRefused_of_error ht (s.dev.access_of_not_form _ _ _ h) (.inl rfl)
  · exact execRegReadRefused_of_unmapped ht (s.dev.access_of_unmapped _ h nofun hdec)
  · exact execRegReadRefused_of_error ht
      (s.dev.access_of_off _ _ h nofun hdec (Dev.checkPower_of_notReady hready hboot _ _)) (.inr rfl)
  · exact execRegReadRefused_of_error ht (s.dev.access_of_off _ _ h nofun hdec (Dev.checkPower_of_off hstage hoff _ _)) (.inr rfl)

/-! ### REG_WRITE -/

/-- A write that a check other than decode stops is answered with an error. -/
theorem execRegWrite_of_error {m : Mark} {size a : Nat} {v : Word} {s : State} {e : Dev} {c : Chk} (ht : s.dev.get .h_kcl_train = 0)
    (ha : s.dev.access (markReq m) (markPriv m) size a (some v.toNat) = (e, c)) (hc : c = .form ∨ c = .priv ∨ c = .off) :
    execRegWrite m size a v s = .next (s.endsX e.err) := by
  rcases hc with rfl | rfl | rfl <;> simp only [execRegWrite, ht, ha] <;> rfl

theorem execRegWrite_of_unmapped {m : Mark} {size a : Nat} {v : Word} {s : State} {e : Dev} (ht : s.dev.get .h_kcl_train = 0)
    (ha : s.dev.access (markReq m) (markPriv m) size a (some v.toNat) = (e, .unmapped)) :
    execRegWrite m size a v s = .next (s.endsX e.ok) := by
  simp only [execRegWrite, ht, ha]; rfl

/-- A FABRIC write that reaches its register is answered without an error and meets check 6. -/
theorem execRegWrite_of_reaches {size a i : Nat} (v : Word) {s : State} {r : RegRow} (h : FormOk size a)
    (hdec : decodeAddr a = some (r, i)) (hreach : s.dev.reaches r i) :
    execRegWrite .fabric size a v s = (({ s with dev := s.dev.ok } : State).regWrite 0 r i v.toNat).settled := by
  have hpass := s.dev.access_of_pass 0 (priv := 0) (wr := some v.toNat) h (fun _ => rfl) hdec (Dev.checkPower_of_reaches hreach _ _)
  simp only [execRegWrite, hreach.1, markReq, markPriv, hpass]; rfl

/-- Check 6 of a refused encoding: its record, and the refused fields (R13). -/
theorem Dev.checkEncoding_of_refused {d : Dev} {r : RegRow} {i v : Nat} (req : Nat) (hbad : d.refusedFields r i v ≠ []) :
    d.checkEncoding req r i v = (d.raise .REG_RSVD_ENC d.pathDevice
      [.w (r.addr i), .d v, .d (maskOf 64 (fun k => (d.refusedFields r i v).contains k)), .h req], d.refusedFields r i v) := by
  simp [Dev.checkEncoding, hbad]

theorem Dev.checkEncoding_of_taken {d : Dev} {r : RegRow} {i v : Nat} (req : Nat) (hok : d.refusedFields r i v = []) :
    d.checkEncoding req r i v = (d, []) := by
  simp [Dev.checkEncoding, hok]

/-- A refused encoding of a command register leaves its record and does nothing else (R13). -/
theorem State.regWrite_of_refused {s : State} {r : RegRow} {i v : Nat} (req : Nat) (hc : r.isCommand = true)
    (hbad : s.dev.refusedFields r i v ≠ []) :
    s.regWrite req r i v = { s with dev := (s.dev.checkEncoding req r i v).1 } := by
  simp only [State.regWrite, Dev.checkEncoding_of_refused req hbad]
  rw [if_pos ⟨hc, hbad⟩]

/-- A register whose chapter says no more than R9 takes its fields. -/
theorem Dev.regEffect_of_plain (d : Dev) (req : Nat) {r : RegRow} (i v : Nat) (bad : List Nat)
    (hr : specialBases.contains r.base = false) : d.regEffect req r i v bad = d.writeFields r i v bad := by
  have hne : ∀ q ∈ specialBases, r.base ≠ q := fun q hq he => by
    rw [he, List.contains_iff_mem.mpr hq] at hr
    cases hr
  simp only [specialBases, List.map_cons, List.map_nil, List.forall_mem_cons] at hne
  simp [Dev.regEffect, Dev.writeBase, Dev.writeControl, Dev.writeSwitch, Dev.writeEngine, Dev.writeOptic, hne]

/-- The state of a frame of fabric memory is read-only (R394). -/
theorem regTable_fstate : ∀ r ∈ regTable, ∀ f ∈ r.fields, f.fld = .fmem_win_state_state → f.acc = .ro := by
  decide +kernel

theorem decodeAddr_mem {a i : Nat} {r : RegRow} (h : decodeAddr a = some (r, i)) : r ∈ regTable := by
  obtain ⟨q, hq, hf⟩ := List.exists_of_findSome?_eq_some h
  obtain ⟨j, -, hj⟩ := Option.map_eq_some_iff.mp hf
  cases hj
  exact hq

/-- A write leaves a read-only field as it was (R9). -/
theorem Dev.writeField_of_ro (d : Dev) (i v : Nat) (bad : List Nat) {f : FieldRow} (h : f.acc = .ro) :
    d.writeField i v bad f = d := by
  unfold Dev.writeField
  split
  · rfl
  · simp only [h]
    exact List.foldlRecOn (motive := fun e => e = d) _ _ rfl (fun e he _ _ => he)

/-- A write of a register's fields leaves the states of the frames of fabric memory as they were. -/
theorem Dev.writeFields_fstate (d : Dev) {r : RegRow} (hr : r ∈ regTable) (i v : Nat) (bad : List Nat) (k : Nat) :
    (d.writeFields r i v bad).fstate k = d.fstate k := by
  refine foldl_get_untouched _ _ k _ (fun f hf d => ?_) d
  by_cases hfld : f.fld = .fmem_win_state_state
  · rw [d.writeField_of_ro i v bad (regTable_fstate r hr f hf hfld)]
  · exact d.writeField_get_other i v bad f (fun h => absurd h hfld)

/-- A write that is taken by a register whose chapter says no more than R9 takes its fields, and reaches no memory. -/
theorem State.regWrite_of_plain {s : State} {r : RegRow} {i v : Nat} (req : Nat) (hr : r ∈ regTable)
    (hok : s.dev.refusedFields r i v = []) (hplain : specialBases.contains r.base = false) :
    s.regWrite req r i v = { s with dev := s.dev.writeFields r i v [] } := by
  have hreset : r.base ≠ rowSYS_RESET_CMD.base := fun he => by
    rw [he] at hplain
    exact absurd hplain (by decide)
  have hmem : zeroNew s.dev (s.dev.writeFields r i v []) s.mem = s.mem :=
    zeroNew_same _ _ _ (fun k _ hk => (s.dev.writeFields_fstate hr i v [] k).symm.trans hk)
  simp only [State.regWrite, Dev.checkEncoding_of_taken req hok, Dev.regEffect_of_plain _ _ _ _ _ hplain, hmem]
  rw [if_neg (by simp), if_neg hreset]

/-- Settles O13: the first check that fails answers, and a plain register takes its fields. -/
theorem regWriteChecksInOrder : Obligations.RegWriteChecksInOrder := by
  unfold Obligations.RegWriteChecksInOrder
  intro m size a v s ht
  refine ⟨fun h => ?_, fun h hm => ?_, fun h hm hdec => ?_, fun h hm r i hdec => ⟨fun hready hboot => ?_, fun hstage k hoff => ?_,
    fun hreach hc hbad => ?_, fun hreach hok hplain => ?_⟩⟩
  · exact execRegWrite_of_error ht (s.dev.access_of_not_form _ _ _ h) (.inl rfl)
  all_goals subst hm
  · exact execRegWrite_of_error ht (s.dev.access_of_priv _ _ h (by decide)) (.inr (.inl rfl))
  · exact execRegWrite_of_unmapped ht (s.dev.access_of_unmapped _ h (fun _ => rfl) hdec)
  · exact execRegWrite_of_error ht
      (s.dev.access_of_off _ _ h (fun _ => rfl) hdec (Dev.checkPower_of_notReady hready hboot _ _)) (.inr (.inr rfl))
  · exact execRegWrite_of_error ht
      (s.dev.access_of_off _ _ h (fun _ => rfl) hdec (Dev.checkPower_of_off hstage hoff _ _)) (.inr (.inr rfl))
  · refine (execRegWrite_of_reaches v h hdec hreach).trans ?_
    have hbad' : s.dev.ok.refusedFields r i v.toNat ≠ [] := hbad
    rw [State.regWrite_of_refused (s := { s with dev := s.dev.ok }) 0 hc hbad', Dev.checkEncoding_of_refused 0 hbad']
    rfl
  · refine (execRegWrite_of_reaches v h hdec hreach).trans ?_
    rw [State.regWrite_of_plain (s := { s with dev := s.dev.ok }) 0 (decodeAddr_mem hdec) hok hplain]
    rfl

end Sys2Proof.Machine
end

section
/-! SUPPORT. What the operations on ports, rings, lasers and frames leave alone: the fields of the device as a whole that power
domains, die-to-die links and record paths rest on (R16, R22, R28), and the events the command has raised so far. -/

namespace Sys2Proof.Machine

/-! ### The fields spared -/

/-- The on and busy bits of the domains, the replays of the die-to-die links, and the device's position in the fabric. -/
def coreFlds : List Fld :=
  [.sys_pd_status_on, .sys_pd_status_busy, .h_d2d_replays, .sys_fabric_pos_hall, .sys_fabric_pos_plane, .sys_fabric_pos_device]

/-- From `d` to `e` no field of `coreFlds` has changed, and no event is lost. -/
structure Dev.Spares (d e : Dev) : Prop where
  get : ∀ f ∈ coreFlds, ∀ i, e.get f i = d.get f i
  events : d.events <+: e.events

open Dev (Spares)

theorem Dev.Spares.refl (d : Dev) : d.Spares d := ⟨fun _ _ _ => rfl, List.prefix_rfl⟩

/-- The last operation first: what it spares, and what those before it spare. -/
theorem Dev.Spares.after {d e g : Dev} (k : e.Spares g) (h : d.Spares e) : d.Spares g :=
  ⟨fun f hf i => (k.get f hf i).trans (h.get f hf i), h.events.trans k.events⟩

/-- A last change of neither fields nor events. -/
theorem Dev.Spares.same {d e g : Dev} (h : d.Spares e) (hf : g.flds = e.flds) (he : g.events = e.events) : d.Spares g :=
  ⟨fun f hc i => by rw [← h.get f hc i]; simp only [Dev.get, hf], by rw [he]; exact h.events⟩

theorem Dev.Spares.ite {c : Prop} [Decidable c] {d e g : Dev} (h : d.Spares e) (k : d.Spares g) :
    d.Spares (if c then e else g) := by
  split
  · exact h
  · exact k

theorem Dev.Spares.foldl {α : Type} {f : Dev → α → Dev} (h : ∀ (d : Dev) (a : α), d.Spares (f d a)) (l : List α) (d : Dev) :
    d.Spares (l.foldl f d) :=
  List.foldlRecOn (motive := fun e => d.Spares e) l f (.refl d) (fun e he a _ => (h e a).after he)

theorem Dev.set_spares (d : Dev) (f : Fld) (i v : Nat) (h : f ∉ coreFlds := by decide) : d.Spares (d.set f i v) :=
  ⟨fun _ hg j => d.get_set_fld (fun hc => h (by rwa [← Fld.ctorIdx_inj hc])) i j v, List.prefix_rfl⟩

theorem Dev.putB_spares (d : Dev) (f : Fld) (i k : Nat) (b : Bool) (h : f ∉ coreFlds := by decide) : d.Spares (d.putB f i k b) :=
  d.set_spares f i _ h

theorem Dev.incr_spares (d : Dev) (f : Fld) (i n : Nat) (h : f ∉ coreFlds := by decide) : d.Spares (d.incr f i n) :=
  d.set_spares f i _ h

theorem Dev.setMany_spares (d : Dev) (l : List (Fld × Nat × Nat)) (h : ∀ x ∈ l, x.1 ∉ coreFlds) : d.Spares (d.setMany l) := by
  induction l generalizing d with
  | nil => exact .refl d
  | cons x l ih =>
    rw [List.forall_mem_cons] at h
    exact (ih _ h.2).after (d.set_spares x.1 x.2.1 x.2.2 h.1)

theorem Dev.raiseRaw_spares (d : Dev) (c : RecCode) (s p t j : Nat) : d.Spares (d.raiseRaw c s p t j) :=
  ⟨fun _ _ _ => rfl, List.prefix_append ..⟩

theorem Dev.raise_spares (d : Dev) (c : RecCode) (p : Nat) (l : List Item) (j : Nat) : d.Spares (d.raise c p l j) :=
  d.raiseRaw_spares ..

/-! ### Counters and frames -/

theorem Dev.pmcAdd_spares (d : Dev) (b i n : Nat) : d.Spares (d.pmcAdd b i n) := by
  unfold Dev.pmcAdd
  exact .ite ((Dev.putB_spares ..).after (Dev.set_spares ..)) (Dev.set_spares ..)

theorem Dev.count_spares (d : Dev) (b : Nat) (e : Ev) (n : Nat) (a : Attr) : d.Spares (d.count b e n a) := by
  unfold Dev.count Dev.countCode
  exact .ite (.foldl (fun d i => .ite (d.pmcAdd_spares b i n) (.refl d)) _ d) (.refl d)

theorem Dev.refreshBundle_spares (d : Dev) (key : Nat) : d.Spares (d.refreshBundle key) := by
  unfold Dev.refreshBundle
  have hindir (t : SMap (List IndEntry)) : d.Spares { d with indir := t } := .same (.refl d) rfl rfl
  exact .ite (hindir _) (.ite (hindir _) (.ite (hindir _) ((Dev.count_spares ..).after (hindir _))))

theorem Dev.refreshPort_spares (d : Dev) (n : Nat) : d.Spares (d.refreshPort n) := by
  unfold Dev.refreshPort
  split
  · exact d.refreshBundle_spares _
  · exact .refl d

theorem Dev.undelivered_spares (d : Dev) (p : Nat) (h : Hdr) : d.Spares (d.undelivered p h) := by
  unfold Dev.undelivered
  exact .ite (.same (.refl d) rfl rfl) (.refl d)

theorem Dev.reportFreed_spares (d : Dev) (n c k : Nat) : d.Spares (d.reportFreed n c k) := by
  unfold Dev.reportFreed
  exact (Dev.incr_spares ..).after (Dev.incr_spares ..)

theorem Dev.freeCredits_spares (d : Dev) (n c k : Nat) : d.Spares (d.freeCredits n c k) := by
  unfold Dev.freeCredits
  exact (Dev.reportFreed_spares ..).after (.ite (.refl d) ((Dev.count_spares ..).after (Dev.set_spares ..)))

theorem Dev.freeFrame_spares (d : Dev) (f : Frame) : d.Spares (d.freeFrame f) := by
  unfold Dev.freeFrame
  exact .after (.ite (Dev.freeCredits_spares ..) (.refl _)) (.same (.refl d) rfl rfl)

theorem Dev.releaseRef_spares (d : Dev) (fid : Nat) : d.Spares (d.releaseRef fid) := by
  unfold Dev.releaseRef
  split
  · exact .ite (d.freeFrame_spares _) (.same (.refl d) rfl rfl)
  · exact .refl d

theorem Dev.spoil_spares (d : Dev) (fid : Nat) : d.Spares (d.spoil fid) := by
  unfold Dev.spoil
  split
  · exact .refl d
  · have hqueues (d : Dev) (q : List EqEntry) (w : List Wait) : d.Spares { d with egress := q, waits := w } := .same (.refl d) rfl rfl
    refine .after (.foldl (fun d _ => d.releaseRef_spares fid) _ _) ((hqueues ..).after ?_)
    refine .after (.foldl (fun d p => d.undelivered_spares p _) _ _) (.foldl (fun d x => ?_) _ d)
    split
    · exact .ite ((Dev.undelivered_spares ..).after (.same (.refl d) rfl rfl)) (.refl d)
    · exact .refl d

theorem Dev.abortRx_spares (d : Dev) (n : Nat) : d.Spares (d.abortRx n) := by
  unfold Dev.abortRx
  split
  · exact .refl d
  · exact .after (.foldl Dev.spoil_spares _ _) ((Dev.spoil_spares ..).after (.same (.refl d) rfl rfl))

/-! ### Links and lanes -/

theorem Dev.setLink_spares (d : Dev) (n v : Nat) : d.Spares (d.setLink n v) := by
  unfold Dev.setLink
  exact (Dev.set_spares ..).after (.after (.ite (Dev.set_spares ..) (.refl _)) (.ite (.refl d) (Dev.set_spares ..)))

theorem Dev.setTxMap_spares (d : Dev) (n : Nat) (m : List Nat) : d.Spares (d.setTxMap n m) :=
  d.setMany_spares _ (by simp [coreFlds])

theorem Dev.parkHalf_spares (d : Dev) (n : Nat) : d.Spares (d.parkHalf n) := by
  unfold Dev.parkHalf
  split
  · exact .ite (d.setTxMap_spares ..) (.refl d)
  · exact .refl d

theorem Dev.refreshLink_spares (d : Dev) (n : Nat) : d.Spares (d.refreshLink n) := by
  unfold Dev.refreshLink
  refine .ite (.refl d) (.ite (.ite (.refl d) ?_) (.ite (.ite (d.setLink_spares ..) ?_) (.refl d)))
  · exact (Dev.refreshPort_spares ..).after ((Dev.setLink_spares ..).after (d.abortRx_spares n))
  · exact (Dev.set_spares ..).after ((Dev.setLink_spares ..).after ((Dev.parkHalf_spares ..).after (.same (.refl d) rfl rfl)))

theorem Dev.toTrain_spares (d : Dev) (n : Nat) : d.Spares (d.toTrain n) := by
  unfold Dev.toTrain
  have hrev (d : Dev) (r : SMap (Option RevBody)) : d.Spares { d with heldRev := r } := .same (.refl d) rfl rfl
  refine (Dev.refreshPort_spares ..).after (.after (.ite (Dev.setLink_spares ..) (Dev.setLink_spares ..)) ?_)
  refine (Dev.parkHalf_spares ..).after ((Dev.abortRx_spares ..).after ((hrev ..).after ?_))
  exact (Dev.setMany_spares _ _ (by simp [coreFlds])).after (.ite (Dev.set_spares ..) (.refl d))

/-! ### Rings -/

theorem Dev.rxDark_spares (d : Dev) (k : Nat) : d.Spares (d.rxDark k) := by
  unfold Dev.rxDark
  refine .ite (.refl d) (.ite (Dev.set_spares ..) ?_)
  split
  · exact Dev.set_spares ..
  · exact .refl d

theorem Dev.dips_spares (d : Dev) (l : SMap (List Nat)) : d.Spares { d with dips := l } := .same (.refl d) rfl rfl

theorem Dev.ringOff_spares (d : Dev) (k : Nat) : d.Spares (d.ringOff k) := by
  unfold Dev.ringOff
  exact (Dev.dips_spares ..).after ((Dev.setMany_spares _ _ (by simp [coreFlds])).after (d.rxDark_spares k))

theorem Dev.ringSweep_spares (d : Dev) (k : Nat) : d.Spares (d.ringSweep k) := by
  unfold Dev.ringSweep
  exact (Dev.dips_spares ..).after ((Dev.setMany_spares _ _ (by simp [coreFlds])).after (d.rxDark_spares k))

theorem Dev.ringLine_spares (d : Dev) (n r : Nat) (go : Bool) : d.Spares (d.ringLine n r go) := by
  unfold Dev.ringLine
  exact .ite (.ite (d.ringSweep_spares _) (.refl d)) (.ite (.refl d) (d.ringOff_spares _))

theorem Dev.octetRings_spares (d : Dev) (o : Nat) (go : Bool) : d.Spares (d.octetRings o go) := by
  unfold Dev.octetRings
  exact .ite (.refl d) (.foldl (fun d j => d.ringLine_spares ..) _ d)

theorem Dev.engineRings_spares (d : Dev) (e : Nat) : d.Spares (d.engineRings e) := by
  unfold Dev.engineRings
  refine .after (.foldl (fun d p => d.refreshLink_spares _) _ _) ?_
  exact List.foldlRecOn (motive := fun a : Dev × Option Nat => d.Spares a.1) _ _ (.refl d)
    (fun a ha j _ => (Dev.octetRings_spares ..).after ha)

/-! ### Sparing sequences and fences -/

theorem Dev.slotRings_spares (d : Dev) (o s : Nat) {f : Dev → Nat → Dev} (h : ∀ (d : Dev) (k : Nat), d.Spares (f d k)) :
    d.Spares (d.slotRings o s f) :=
  .foldl (fun d _ => h d _) _ d

theorem Dev.dfbState_spares (d : Dev) (k st : Nat) : d.Spares (d.dfbState k st) := by
  unfold Dev.dfbState
  exact .after (.ite (.refl _) (Dev.set_spares ..)) (Dev.set_spares ..)

theorem Dev.seqShowQueue_spares (d : Dev) (o : Nat) : d.Spares (d.seqShowQueue o) := by
  unfold Dev.seqShowQueue
  split
  · exact .ite (Dev.setMany_spares _ _ (by simp [coreFlds])) (.refl d)
  · exact .refl d

theorem Dev.seqEnd_spares (d : Dev) (o outcome : Nat) {final : Dev → Nat → Dev} (h : ∀ (d : Dev) (n : Nat), d.Spares (final d n)) :
    d.Spares (d.seqEnd o outcome final) := by
  unfold Dev.seqEnd
  refine (Dev.seqShowQueue_spares ..).after (.after (.foldl (fun d p => .ite ?_ (.refl d)) _ _) ?_)
  · exact (Dev.toTrain_spares ..).after ((Dev.putB_spares ..).after (h d _))
  · exact Dev.setMany_spares _ _ (by simp [coreFlds])

theorem Dev.halfHome_spares (d : Dev) (n s : Nat) : d.Spares (d.halfHome n s) := by
  unfold Dev.halfHome
  exact .ite (.refl d) (d.setTxMap_spares ..)

theorem Dev.halfAway_spares (d : Dev) (n s : Nat) : d.Spares (d.halfAway n s) := by
  unfold Dev.halfAway
  exact .ite (d.setTxMap_spares ..) (.refl d)

theorem Dev.parkSlot_spares (d : Dev) (o s : Nat) : d.Spares (d.parkSlot o s) := by
  unfold Dev.parkSlot
  refine (Dev.seqEnd_spares _ _ _ (fun d n => d.halfAway_spares n s)).after ((Dev.raise_spares ..).after ?_)
  refine .after (Dev.slotRings_spares _ _ _ (fun d k => .ite (.refl d) (d.ringOff_spares k))) ?_
  exact (Dev.putB_spares ..).after ((Dev.putB_spares ..).after ((Dev.set_spares ..).after (Dev.dfbState_spares ..)))

theorem Dev.seqSwap_spares (d : Dev) (o : Nat) : d.Spares (d.seqSwap o) := by
  unfold Dev.seqSwap
  refine .ite (d.parkSlot_spares ..) (.after (Dev.slotRings_spares _ _ _ (fun d k => .ite (.refl d) (Dev.set_spares ..))) ?_)
  exact (Dev.dfbState_spares ..).after (Dev.set_spares ..)

theorem Dev.seqProgress_spares (d : Dev) (o : Nat) : d.Spares (d.seqProgress o) := by
  unfold Dev.seqProgress
  have hhome (d : Dev) (n : Nat) := d.halfHome_spares n
  refine .ite (.ite (d.seqSwap_spares o) (.refl d)) (.ite (.ite (.ite ?_ ?_) (.refl d)) (.refl d))
  · exact Dev.seqEnd_spares _ _ _ (fun d n => hhome d n _)
  · exact (Dev.seqEnd_spares _ _ _ (fun d n => hhome d n _)).after (Dev.raise_spares ..)

theorem Dev.fenceCore_spares (d : Dev) (n cause : Nat) : d.Spares (d.fenceCore n cause) := by
  unfold Dev.fenceCore
  have hsend (d : Dev) (l : SMap (Option Sending)) : d.Spares { d with sending := l } := .same (.refl d) rfl rfl
  refine (Dev.refreshPort_spares ..).after (.after (.ite (.refl _) ?_)
    ((Dev.set_spares ..).after (.after (.ite (.refl _) (Dev.set_spares ..)) (Dev.putB_spares ..))))
  generalize Dev.set _ .opt_margin_status_request_pending n 0 = e
  split
  · exact .after (.ite (.refl _) ((Dev.undelivered_spares ..).after (hsend ..))) (Dev.count_spares ..)
  · exact .refl _

theorem Dev.seqFence_spares (d : Dev) (n : Nat) : d.Spares (d.seqFence n) := by
  unfold Dev.seqFence
  exact (Dev.raise_spares ..).after ((Dev.setMany_spares _ _ (by simp [coreFlds])).after
    ((Dev.putB_spares ..).after (Dev.fenceCore_spares ..)))

theorem Dev.fence_spares (d : Dev) (n cause : Nat) : d.Spares (d.fence n cause) := by
  unfold Dev.fence
  exact .after (.ite ((Dev.seqProgress_spares ..).after (Dev.seqFence_spares ..)) (.refl _)) (d.fenceCore_spares ..)

end Sys2Proof.Machine
end

section
/-! SUPPORT. The replays of the die-to-die links (R16, R489). -/

namespace Sys2Proof.Machine

theorem exec_d2dFlitUncorr (s : State) (link : Fin 9) :
    exec (.d2dFlitUncorr link) s =
      .next (s.endsX (if s.dev.get .h_d2d_replays link = 0 then s.dev.d2dReplay link else s.dev)) := rfl

theorem exec_d2dReplayResult (s : State) (link : Fin 9) (good : Bool) :
    exec (.d2dReplayResult link good) s = .next (s.endsX (
      if s.dev.get .h_d2d_replays link = 0 then s.dev
      else if good then s.dev.set .h_d2d_replays link 0
      else if s.dev.get .h_d2d_replays link < 4 then s.dev.d2dReplay link else s.dev.d2dFail link)) := rfl

/-- The replay that begins is the next one. -/
theorem Dev.d2dReplay_eq (d : Dev) (k : Nat) :
    d.d2dReplay k = (d.set .h_d2d_replays k (d.get .h_d2d_replays k + 1)).d2dCount k .D2D_REPLAY .D2D_REPLAY_DEV := rfl

theorem Dev.rootsLost_spares (d : Dev) : d.Spares d.rootsLost := .same (.refl d) rfl rfl

/-- The fences that follow the record of a failed link leave the record and the count of replays as they are. -/
theorem Dev.raiseRaw_fences_spares (d : Dev) (c : RecCode) (s p t cause : Nat) (port : Nat → Nat) (l : List Nat) :
    (d.raiseRaw c s p t 0).Spares (l.foldl (fun d i => d.fence (port i) cause) (d.raiseRaw c s p t 0)) :=
  .foldl (fun d i => d.fence_spares (port i) cause) l _

/-- A failed link has no replay under way, and its record names the engine of the link, or the device (R16). -/
theorem Dev.d2dFail_spec (d : Dev) (k : Nat) :
    (d.d2dFail k).get .h_d2d_replays k = 0 ∧
      ∃ r ∈ (d.d2dFail k).events, r.code = .D2D_FAIL ∧ r.path = if k < 8 then d.pathEngine k else d.pathDevice := by
  have hzero : (d.set .h_d2d_replays k 0).get .h_d2d_replays k = 0 := by simp
  have hbase (n : Nat) : (d.set .h_d2d_replays k 0).pathBase n = d.pathBase n := by
    simp only [Dev.pathBase]
    rw [Dev.get_set_fld _ (by decide), Dev.get_set_fld _ (by decide), Dev.get_set_fld _ (by decide)]
  have hmem : Fld.h_d2d_replays ∈ coreFlds := by decide
  unfold Dev.d2dFail
  dsimp only
  split
  · next =>
    have key := Dev.raiseRaw_fences_spares (d.set .h_d2d_replays k 0) .D2D_FAIL 4 ((d.set .h_d2d_replays k 0).pathEngine k)
      (packItems [.h k]) fcD2D (64 * k + ·) (List.range 64)
    refine ⟨(key.get _ hmem k).trans hzero, _, key.events.subset (List.mem_append_right _ (List.mem_singleton_self _)), rfl, ?_⟩
    exact congrArg (· + k * 2 ^ 35 + 0 * 2 ^ 12 + 0) (hbase 3)
  · next =>
    have key := Dev.raiseRaw_fences_spares (d.set .h_d2d_replays k 0).rootsLost .D2D_FAIL 6
      (d.set .h_d2d_replays k 0).pathDevice (packItems [.h k]) fcD2D (fun n => n) (List.range 512)
    refine ⟨(key.get _ hmem k).trans hzero, _, key.events.subset (List.mem_append_right _ (List.mem_singleton_self _)), rfl, ?_⟩
    exact congrArg (· + 0 * 2 ^ 12 + 0) (hbase 2)

/-- Settles O19: a replay that begins counts up from the number of those under way; the record of a failed link is still there
after the fences, which touch neither the records nor the replays. -/
theorem dieToDieLinks : Obligations.DieToDieLinks := by
  intro s
  refine ⟨fun link h0 => ?first, fun link good h0 hgood => ?good, fun link good h hgood => ?next, fun link good h4 hgood => ?last,
    fun _ => rfl⟩
  case first => rw [exec_d2dFlitUncorr, if_pos h0, Dev.d2dReplay_eq, h0]
  case good => rw [exec_d2dReplayResult, if_neg h0, if_pos hgood]
  case next =>
    obtain ⟨h0, hlt⟩ := h
    rw [exec_d2dReplayResult, if_neg h0, if_neg (by simp [hgood]), if_pos hlt, Dev.d2dReplay_eq]
  case last =>
    refine ⟨s.dev.d2dFail link, ?_, s.dev.d2dFail_spec link⟩
    rw [exec_d2dReplayResult, if_neg (by omega), if_neg (by simp [hgood]), if_neg (by omega)]

end Sys2Proof.Machine
end

section
/-! SUPPORT. What the engines leave alone when a command has ended (`settle`), and with them the way of the
records to the bank (`flush`): the same fields as the operations on ports and rings. -/

namespace Sys2Proof.Machine

open Dev (Spares)

/-! ### Frames the device originates -/

theorem Dev.dropNote_spares (d : Dev) (arr : Option Nat) (inp : Nat) (c : RecCode) (h : Hdr) : d.Spares (d.dropNote arr inp c h) := by
  unfold Dev.dropNote
  split
  · exact (Dev.raise_spares ..).after (d.count_spares ..)
  · exact (Dev.raise_spares ..).after (d.count_spares ..)

theorem Dev.addWait_spares (d : Dev) (f : Frame) (t : Target) : d.Spares (d.addWait f t) := .same (.refl d) rfl rfl

theorem Dev.routeOwn_spares (d : Dev) (f : Frame) (r : Resolved) : d.Spares (d.routeOwn f r) := by
  unfold Dev.routeOwn
  split
  · exact d.dropNote_spares ..
  · exact d.addWait_spares ..

theorem Dev.draw_spares (d : Dev) : d.Spares d.draw.2 := .same (.refl d) rfl rfl

theorem Dev.newFid_spares (d : Dev) : d.Spares d.newFid.2 := .same (.refl d) rfl rfl

theorem Dev.chance_spares (d : Dev) (q mn mx pm : Nat) : d.Spares (d.chance q mn mx pm).1 := by
  unfold Dev.chance
  split
  · exact .refl d
  · split
    · exact .refl d
    · exact d.draw_spares

theorem Dev.redHit_spares (d : Dev) (f : Frame) (out : Nat) : d.Spares (d.redHit f out).1 := by
  have hcounted (x : Dev × Bool) (e : Ev) (h : d.Spares x.1) :
      d.Spares (if x.2 then (x.1.count out e 1 f.hdr.attr, true) else (x.1, false)).1 := by
    split
    · exact (Dev.count_spares ..).after h
    · exact h
  unfold Dev.redHit
  refine hcounted (if d.get .xbar_port_mode_svc_mode out = 0 then (d, false) else d.chance _ _ _ _) _ ?_
  split
  · exact .refl d
  · exact d.chance_spares ..

theorem Dev.putPort_spares (d : Dev) (f : Frame) (out : Nat) : d.Spares (d.putPort f out) := by
  have key := d.redHit_spares f out
  unfold Dev.putPort
  generalize d.redHit f out = x at key ⊢
  obtain ⟨e, hit⟩ := x
  cases hit
  · exact key.same rfl rfl
  · exact key

theorem Dev.mirrorCopy_spares (d : Dev) (s : Nat) (c : Capture) : d.Spares (d.mirrorCopy s c) := by
  have last (e : Dev) (f : Frame) (p : Nat) (h : Hdr) (h0 : d.Spares e) :
      d.Spares (if (e.newFid.2.incr .xbar_mir_stats_sent s).get .xbar_mir_cfg_dest_kind s = 0
        then (e.newFid.2.incr .xbar_mir_stats_sent s).putPort f p
        else (e.newFid.2.incr .xbar_mir_stats_sent s).routeOwn f ((e.newFid.2.incr .xbar_mir_stats_sent s).resolve none h)) :=
    .after (.ite (Dev.putPort_spares ..) (Dev.routeOwn_spares ..)) ((Dev.incr_spares ..).after (e.newFid_spares.after h0))
  unfold Dev.mirrorCopy
  generalize c.arrival = arr
  cases arr with
  | none => exact last d.draw.2 _ _ _ d.draw_spares
  | some n => exact last d _ _ _ (.refl d)

theorem Dev.mirrorOffer_spares (d : Dev) (s made : Nat) (c : Capture) : d.Spares (d.mirrorOffer s made c).1 := by
  unfold Dev.mirrorOffer
  split
  · exact .refl d
  · split
    · exact Dev.set_spares ..
    · dsimp only
      split
      · exact (Dev.incr_spares ..).after (Dev.set_spares ..)
      · exact (Dev.mirrorCopy_spares ..).after (Dev.set_spares ..)

theorem Dev.launch_spares (d : Dev) (f : Frame) : d.Spares (d.launch f) := by
  unfold Dev.launch
  dsimp only
  split
  · exact (Dev.routeOwn_spares ..).after (Dev.mirrorOffer_spares ..)
  · exact d.routeOwn_spares ..

/-- A frame originated has come from a launch. -/
theorem Dev.originate_spares {d e : Dev} {inp : Nat} {h : Hdr} {p : List Nat} (he : d.originate inp h p = some e) : d.Spares e := by
  unfold Dev.originate at he
  split at he
  · simp at he
  · obtain rfl := Option.some.inj he
    exact (Dev.launch_spares ..).after d.newFid_spares

/-! ### Steps of collectives -/

theorem Dev.putCtx_spares (d : Dev) (x : Nat) (c : Option Ctx) : d.Spares (d.putCtx x c) := .same (.refl d) rfl rfl

theorem Dev.onStep_spares (d : Dev) (x : Nat) (f : Step → Step) : d.Spares (d.onStep x f) := by
  unfold Dev.onStep
  split
  · exact d.putCtx_spares ..
  · exact .refl d

theorem Dev.seeFrame_spares (d : Dev) (h : Hdr) : d.Spares (d.seeFrame h) := by
  unfold Dev.seeFrame
  dsimp only
  split
  · exact .refl d
  · split
    · exact .refl d
    · exact .ite (.refl d) (.ite (.ite (.refl d) (.ite (d.onStep_spares ..) (d.onStep_spares ..)))
        (.ite (.refl d) (d.count_spares ..)))

theorem Dev.partialSent_spares (d : Dev) (h : Hdr) (b : List Nat) : d.Spares (d.partialSent h b) := by
  unfold Dev.partialSent
  split
  · exact .refl d
  · exact .ite (.refl d) (d.onStep_spares ..)

theorem Dev.collDrain_spares (d : Dev) (n : Nat) : d.Spares (d.collDrain n) := by
  induction n generalizing d with
  | zero => exact .refl d
  | succ n ih =>
    unfold Dev.collDrain
    split
    · exact .refl d
    · split
      · next he => exact (ih _).after ((Dev.partialSent_spares ..).after ((originate_spares he).after (.same (.refl d) rfl rfl)))
      · exact .refl d

theorem Dev.markLost_spares (d : Dev) (port : Nat) (h : Hdr) : d.Spares (d.markLost port h) := by
  unfold Dev.markLost
  split
  · exact .refl d
  · have hlost (f : Step → Step) (b : Prop) [Decidable b] (n : Nat) :
        d.Spares (if b then d.onStep h.ctx f else (d.onStep h.ctx f).count blkDevice .COLL_UNDELIVERED n) :=
      .ite (d.onStep_spares ..) ((Dev.count_spares ..).after (d.onStep_spares ..))
    exact .ite (.refl d) (.ite (hlost ..) ((Dev.raise_spares ..).after ((Dev.onStep_spares ..).after (hlost ..))))

theorem Dev.absorb_spares (d : Dev) : d.Spares d.absorb := by
  unfold Dev.absorb
  have hseen (d : Dev) (l : List Hdr) : d.Spares { d with collSeen := l } := .same (.refl d) rfl rfl
  have hundeliv (d : Dev) (l : List (Nat × Hdr)) : d.Spares { d with undeliv := l } := .same (.refl d) rfl rfl
  refine .after (.foldl (fun d (u : Nat × Hdr) => d.markLost_spares u.1 u.2) _ _) ((hundeliv ..).after ?_)
  exact (Dev.collDrain_spares ..).after (.after (.foldl Dev.seeFrame_spares _ _) (hseen ..))

/-! ### Fabric memory and the WRA -/

theorem Dev.fmemDrain_spares (d : Dev) (n : Nat) : d.Spares (d.fmemDrain n) := by
  induction n generalizing d with
  | zero => exact .refl d
  | succ n ih =>
    unfold Dev.fmemDrain
    split
    · exact .refl d
    · split
      · next he =>
        refine (ih _).after ?_
        split
        · exact .same ((originate_spares he).after (.same (.refl d) rfl rfl)) rfl rfl
        · exact (originate_spares he).after (.same (.refl d) rfl rfl)
      · exact .refl d

theorem Dev.setPasses_spares (d : Dev) (w : Work) (p : Passes) : d.Spares (d.setPasses w p) := by
  cases w with
  | chunk x k => exact d.onStep_spares ..
  | gather id => exact .same (.refl d) rfl rfl

theorem Dev.wraBind_spares (d : Dev) : d.Spares d.wraBind := by
  unfold Dev.wraBind
  refine .foldl (fun d w => ?_) _ d
  split
  · refine .ite (.refl d) ?_
    split
    · exact d.setPasses_spares ..
    · exact .refl d
  · exact .refl d

/-! ### Time -/

theorem Dev.refreshDegraded_spares (d : Dev) : d.Spares d.refreshDegraded := d.set_spares ..

theorem Dev.reqDropped_spares (d : Dev) (k : Nat) : d.Spares (d.reqDropped k) := by
  unfold Dev.reqDropped
  exact .ite ((Dev.count_spares ..).after (Dev.set_spares ..)) (.refl d)

theorem Dev.tportCheck_spares (d : Dev) (k : Nat) : d.Spares (d.tportCheck k) := by
  unfold Dev.tportCheck
  exact (Dev.set_spares ..).after ((Dev.set_spares ..).after (.ite ((Dev.set_spares ..).after (d.reqDropped_spares k)) (.refl d)))

theorem Dev.putOffset_spares (d : Dev) (x : Int) : d.Spares (d.putOffset x) := d.setMany_spares _ (by simp [coreFlds])

theorem Dev.putRate_spares (d : Dev) (r : Int) (l : List Item) : d.Spares (d.putRate r l) := by
  unfold Dev.putRate
  refine (Dev.set_spares ..).after (.after (.ite (.refl _) (Dev.putOffset_spares ..)) (.ite (.refl d) ?_))
  exact .ite (d.count_spares ..) ((Dev.raise_spares ..).after ((Dev.set_spares ..).after (d.count_spares ..)))

theorem Dev.toState_spares (d : Dev) (new : Nat) (l : List Item) : d.Spares (d.toState new l) := by
  unfold Dev.toState
  refine .ite (.refl d) ((Dev.refreshDegraded_spares _).after ?_)
  refine .after (.ite ?_ (.ite ?_ (.ite ?_ (.ite ?_ (.refl _))))) (.after (.ite (Dev.set_spares ..) (.refl _)) ?_)
  · exact Dev.setMany_spares _ _ (by simp [coreFlds])
  · exact (Dev.putRate_spares ..).after (Dev.setMany_spares _ _ (by simp [coreFlds]))
  · exact Dev.setMany_spares _ _ (by simp [coreFlds])
  · exact Dev.set_spares ..
  · exact (Dev.raise_spares ..).after ((Dev.set_spares ..).after ((Dev.set_spares ..).after d.draw_spares))

theorem Dev.adopt_spares (d : Dev) (k : Nat) : d.Spares (d.adopt k) :=
  (Dev.refreshDegraded_spares _).after (d.setMany_spares _ (by simp [coreFlds]))

theorem Dev.timeCheck_spares (d : Dev) (l : List Item) : d.Spares (d.timeCheck l) := by
  have hports : d.Spares ((d.tportCheck 0).tportCheck 1).refreshDegraded :=
    (Dev.refreshDegraded_spares _).after ((Dev.tportCheck_spares ..).after (d.tportCheck_spares ..))
  unfold Dev.timeCheck
  generalize ((d.tportCheck 0).tportCheck 1).refreshDegraded = e at hports ⊢
  refine .after ?_ hports
  refine .ite (.ite (.refl e) ?_) (.ite ?_ (.refl e))
  · exact (Dev.toState_spares ..).after (e.set_spares ..)
  · exact (Dev.adopt_spares ..).after (e.toState_spares ..)

theorem Dev.settle_spares (d : Dev) : d.Spares d.settle := by
  unfold Dev.settle
  have h := d.absorb_spares
  generalize d.absorb = e at h ⊢
  exact (Dev.timeCheck_spares ..).after ((Dev.wraBind_spares _).after ((e.fmemDrain_spares _).after h))

/-! ### The end of a command -/

theorem coreFlds_notLost {f : Fld} (hf : f ∈ coreFlds) : f ∉ lostFlds := by
  revert f
  decide

/-- What the engines and the records do after a command changes no field of `coreFlds`. -/
theorem Dev.settle_flush_get (d : Dev) {f : Fld} (hf : f ∈ coreFlds) (i : Nat) : d.settle.flush.get f i = d.get f i :=
  (d.settle.flush_get f i (coreFlds_notLost hf)).trans (d.settle_spares.get f hf i)

end Sys2Proof.Machine
end

section
/-! SUPPORT. A domain that loses what it holds (R30) keeps the fields of other domains; the end of a switch. -/

namespace Sys2Proof.Machine

theorem lookupKey_filter {α : Type} (p : Nat → Bool) {k : Nat} (hk : p k = true) (l : List (Nat × α)) :
    lookupKey k (l.filter (fun e => p e.1)) = lookupKey k l := by
  induction l with
  | nil => rfl
  | cons e l ih =>
    obtain ⟨j, v⟩ := e
    by_cases hj : p j
    · simp [hj, lookupKey, ih]
    · have : j ≠ k := by rintro rfl; exact hj hk
      simp [hj, lookupKey, ih, this]

/-- A field put back to reset at some indexes reads as before at the others, and so does every other field. -/
theorem Dev.get_clearIdx (d : Dev) {f g : Fld} (p : Nat → Bool) {i : Nat} (h : g = f → p i = false) :
    (d.clearIdx f p).get g i = d.get g i := by
  by_cases hg : g = f
  · subst hg
    simp only [Dev.get, Dev.clearIdx, SMap.get_set_same]
    simp only [SMap.get, SMap.keep]
    rw [lookupKey_filter (fun i => !p i) (by simp [h rfl])]
  · have hc : g.ctorIdx ≠ f.ctorIdx := fun e => hg (Fld.ctorIdx_inj e)
    simp only [Dev.get, Dev.clearIdx, SMap.get_set_other _ hc]

/-- Index `i` of field `g` lies in no register and no internal scalar of domain `k`. -/
def outsideDomain (k : Nat) (core : Bool) (g : Fld) (i : Nat) : Bool :=
  regTable.all (fun r => r.fields.all (fun f => decide (g.ctorIdx ≠ f.fld.ctorIdx) || !r.dom.within k core (i / f.nsub))) &&
    hiddenTable.all (fun h => decide (g.ctorIdx ≠ h.1.ctorIdx) || !h.2.within k core i)

/-- What lies outside a domain keeps its value when the registers of the domain are reset. -/
theorem Dev.resetFields_get (d : Dev) (k : Nat) (core : Bool) (g : Fld) (i : Nat) (h : outsideDomain k core g i = true) :
    (d.resetFields k core).get g i = d.get g i := by
  simp only [outsideDomain, Bool.and_eq_true, List.all_eq_true, Bool.or_eq_true, decide_eq_true_eq, Bool.not_eq_true'] at h
  obtain ⟨hregs, hhidden⟩ := h
  unfold Dev.resetFields
  refine List.foldlRecOn (motive := fun e => Dev.get e g i = d.get g i) _ _ ?_ (fun e he x hx => ?_)
  · refine List.foldlRecOn (motive := fun e => Dev.get e g i = d.get g i) _ _ rfl (fun e he r hr => ?_)
    refine List.foldlRecOn (motive := fun e => Dev.get e g i = d.get g i) _ _ he (fun e he f hf => ?_)
    rw [e.get_clearIdx (fun j => r.dom.within k core (j / f.nsub)) (fun hg => (hregs r hr f hf).resolve_left (by simp [hg])), he]
  · rw [e.get_clearIdx (fun i => x.2.within k core i) (fun hg => (hhidden x hx).resolve_left (by simp [hg])), he]

/-- The on bits of the domains lie outside PD1. -/
theorem pdOn_outside_PD1 : outsideDomain 1 false .sys_pd_status_on 0 = true := by decide +kernel

/-- What PD1 holds beside its registers is no field. -/
theorem Dev.resetHeld_PD1_flds (d : Dev) : (d.resetHeld 1 false).flds = d.flds := by
  unfold Dev.resetHeld
  dsimp only
  rw [if_pos rfl]

theorem Dev.resetDomain_PD1_flds (d : Dev) : (d.resetDomain 1).flds = (d.resetFields 1 false).flds := by
  unfold Dev.resetDomain
  simp only [show decide (2 ≤ 1 ∧ 1 ≤ 5) = false from rfl, Bool.false_and]
  rw [Dev.resetHeld_PD1_flds]

theorem Dev.opEnd_flds (d : Dev) (k : OpKey) (code detail : Nat) : (d.opEnd k code detail).flds = d.flds := rfl

/-- PD1 switched off: the end of the switch leaves the on bits of the domains as they are. -/
theorem Dev.pdDone_off_PD1_on (d : Dev) (trained : Nat) (hbusy : d.pdBusy 1 = true) (hoff : d.bitOf .h_pd_target 0 1 = false) :
    (d.pdDone 1 trained).get .sys_pd_status_on 0 = d.get .sys_pd_status_on 0 := by
  have hdone : (d.pdDone 1 trained).flds = ((d.putB .sys_pd_status_busy 0 1 false).resetFields 1 false).flds := by
    rw [← Dev.resetDomain_PD1_flds]
    unfold Dev.pdDone
    rw [hbusy, hoff]
    dsimp only
    rw [if_neg (by decide), if_neg (by decide), if_neg (by decide), Dev.opEnd_flds]
  calc (d.pdDone 1 trained).get .sys_pd_status_on 0
      = ((d.putB .sys_pd_status_busy 0 1 false).resetFields 1 false).get .sys_pd_status_on 0 := by simp only [Dev.get, hdone]
    _ = (d.putB .sys_pd_status_busy 0 1 false).get .sys_pd_status_on 0 := Dev.resetFields_get _ _ _ _ _ pdOn_outside_PD1
    _ = d.get .sys_pd_status_on 0 := d.get_set_fld (by decide) ..

theorem State.endsX_dev (s : State) (d : Dev) : (s.endsX d).dev = d.settle.flush := by simp only [State.endsX]

/-- PD1 is on and switching off at once: a state that no command leads to, since PD_CMD_OFF clears the on bit when it is taken
(R28), but that the statement covers. -/
def onAndSwitchingOff : State := { dev := ({} : Dev).setMany [(.sys_pd_status_on, 0, 2), (.sys_pd_status_busy, 0, 2)] }

/-- Refutes O17: its last clause. In `onAndSwitchingOff` the target of PD1 is off and its on bit is still 1; the end of the switch
does not clear it again, and neither do the engines afterwards. -/
theorem not_domainSwitching : ¬ Obligations.DomainSwitching := by
  intro h
  obtain ⟨-, -, -, -, -, -, hdone⟩ := h onAndSwitchingOff
  obtain ⟨e, he, -, hon⟩ := hdone 1 0 (by decide) (by decide)
  have hrun : exec (.pdSwitchDone 1 0) onAndSwitchingOff = .next (onAndSwitchingOff.endsX (onAndSwitchingOff.dev.pdDone 1 0)) := rfl
  rw [hrun] at he
  have hdev := congrArg State.dev (Host.Outcome.next.inj he)
  rw [State.endsX_dev, State.endsX_dev] at hdev
  have hmem : Fld.sys_pd_status_on ∈ coreFlds := by decide
  have hget : e.get .sys_pd_status_on 0 = 2 := by
    rw [← e.settle_flush_get hmem 0, ← hdev, Dev.settle_flush_get _ hmem, Dev.pdDone_off_PD1_on _ _ (by decide) (by decide)]
    decide
  have hstill : e.pdOn 1 = true := by rw [Dev.pdOn, Dev.bitOf, hget]; decide
  have hgone : e.pdOn 1 = false := hon 1
  simp [hstill] at hgone

end Sys2Proof.Machine
end

section
/-! SUPPORT. Requests to switch a domain and what blocks them (R27 to R29, R587); the charge of an instruction (R435). -/

namespace Sys2Proof.Machine

/-! ### Changes of fields alone -/

/-- `e` is `d` but for its register fields. -/
def Dev.FldsOnly (d e : Dev) : Prop := e = { d with flds := e.flds }

theorem Dev.FldsOnly.refl (d : Dev) : d.FldsOnly d := rfl

theorem Dev.FldsOnly.trans {d e g : Dev} (h : d.FldsOnly e) (k : e.FldsOnly g) : d.FldsOnly g := by
  unfold Dev.FldsOnly at *
  rw [k, h]

theorem Dev.FldsOnly.ite {c : Prop} [Decidable c] {d e g : Dev} (h : d.FldsOnly e) (k : d.FldsOnly g) :
    d.FldsOnly (if c then e else g) := by
  split
  · exact h
  · exact k

theorem Dev.FldsOnly.foldl {α : Type} {f : Dev → α → Dev} (h : ∀ (d : Dev) (a : α), d.FldsOnly (f d a)) (l : List α) (d : Dev) :
    d.FldsOnly (l.foldl f d) :=
  List.foldlRecOn (motive := fun e => d.FldsOnly e) l f (.refl d) (fun e he a _ => he.trans (h e a))

theorem Dev.set_fldsOnly (d : Dev) (f : Fld) (i v : Nat) : d.FldsOnly (d.set f i v) := rfl

theorem Dev.pmcAdd_fldsOnly (d : Dev) (b i n : Nat) : d.FldsOnly (d.pmcAdd b i n) := by
  unfold Dev.pmcAdd
  exact .ite ((d.set_fldsOnly ..).trans (Dev.set_fldsOnly ..)) (d.set_fldsOnly ..)

theorem Dev.count_fldsOnly (d : Dev) (b : Nat) (e : Ev) (n : Nat) (a : Attr) : d.FldsOnly (d.count b e n a) := by
  unfold Dev.count Dev.countCode
  exact .ite (.foldl (fun d i => .ite (d.pmcAdd_fldsOnly b i n) (.refl d)) _ d) (.refl d)

/-! ### The charge of an instruction -/

/-- The contexts, the descriptors and the operations of `e` are those of `d`. -/
structure Dev.SameLoads (d e : Dev) : Prop where
  ctxs : e.ctxs = d.ctxs
  descs : e.descs = d.descs
  ops : e.ops = d.ops

theorem Dev.FldsOnly.sameLoads {d e : Dev} (h : d.FldsOnly e) : d.SameLoads e := by
  unfold Dev.FldsOnly at h
  exact ⟨by rw [h], by rw [h], by rw [h]⟩

theorem Dev.SameLoads.trans {d e g : Dev} (h : d.SameLoads e) (k : e.SameLoads g) : d.SameLoads g :=
  ⟨k.ctxs.trans h.ctxs, k.descs.trans h.descs, k.ops.trans h.ops⟩

theorem Dev.putQueue_spares (d : Dev) (q : Nat) (x : Queue) : d.Spares (d.putQueue q x) := by
  have hqueues : d.Spares { d with queues := d.queues.set q {} x } := .same (.refl d) rfl rfl
  exact (Dev.setMany_spares _ _ (by simp [coreFlds])).after hqueues

theorem Dev.putQueue_sameLoads (d : Dev) (q : Nat) (x : Queue) : d.SameLoads (d.putQueue q x) := by
  have hqueues : d.SameLoads { d with queues := d.queues.set q {} x } := ⟨rfl, rfl, rfl⟩
  exact hqueues.trans (Dev.FldsOnly.sameLoads (Dev.setMany_flds _ _))

theorem Dev.onRun_spares (d : Dev) (q : Nat) (f : Entry → Entry) : d.Spares (d.onRun q f) := by
  unfold Dev.onRun
  split
  · exact d.putQueue_spares ..
  · exact .refl d

theorem Dev.onRun_sameLoads (d : Dev) (q : Nat) (f : Entry → Entry) : d.SameLoads (d.onRun q f) := by
  unfold Dev.onRun
  split
  · exact d.putQueue_sameLoads ..
  · exact ⟨rfl, rfl, rfl⟩

theorem Dev.charged_spares (d : Dev) (q w : Nat) : d.Spares (d.charged q w) := (Dev.count_spares ..).after (d.onRun_spares ..)

theorem Dev.charged_sameLoads (d : Dev) (q w : Nat) : d.SameLoads (d.charged q w) :=
  (d.onRun_sameLoads ..).trans (Dev.count_fldsOnly ..).sameLoads

/-- An instruction that issues within its budget has its effect on the device that has been charged for it. -/
theorem Dev.drvIssue_of_issues {d : Dev} {q op w i : Nat} {e : Entry} {row : DSpec} (h : d.issues q op w i e) (hrow : dspec w = some row)
    (k : Nat → Nat → Entry → Dev → Dev) : d.drvIssue q op k = k w i e (d.charged q w) := by
  obtain ⟨⟨hrun, hwait, rfl, hlen, rfl, hop⟩, hbudget⟩ := h
  have hcost : wCost (e.prog.getD e.pc 0) = row.cost := by rw [wCost, hrow]
  unfold Dev.drvIssue Dev.charged
  rw [hcost] at hbudget ⊢
  rw [hrun]
  dsimp only
  rw [hrow]
  dsimp only
  rw [if_neg (by simp only [hwait, hop]; simpa using hlen), if_neg (by omega)]

/-! ### Requests to switch a domain -/

/-- A request that something blocks leaves its record alone (R28). -/
theorem Dev.pdRequest_of_blocked {d : Dev} {k b : Nat} {on : Bool} (h : d.pdBlocker k on = some b) (req : Nat) :
    d.pdRequest k on req = (d.raise .PD_DEP_REFUSED d.pathDevice [.h k, .h (if on then 1 else 2), .h b, .h req], false) := by
  rw [Dev.pdRequest, h]

theorem Dev.wraInUse_iff (d : Dev) : d.wraInUse = true ↔
    (∃ c ∈ d.loadedCtxs, hxWra c.2.hdr = true) ∨ (∃ x ∈ d.loadedDescs, dxKind x.2.words ≠ dkGATHER_CMB) := by
  simp [Dev.wraInUse]

/-- What blocks every request for PD7 while the WRA is used (R29): its switching first. -/
theorem Dev.pdBlocker_of_wraInUse {d : Dev} (h : d.wraInUse = true) (on : Bool) :
    d.pdBlocker 7 on = some (if d.bitOf .sys_pd_status_busy 0 7 then 0x207 else 0x102) := by
  unfold Dev.pdBlocker Dev.pdBusy
  rw [if_neg (by decide)]
  split
  · rfl
  · rw [if_pos ⟨rfl, h⟩]

/-- PD7 needs PD6, and no need is blocked by WRA_IN_USE. -/
theorem Dev.pdBlocker_of_not_wraInUse {d : Dev} (h : d.wraInUse = false) (on : Bool) : d.pdBlocker 7 on ≠ some 0x102 := by
  have hneed : d.pdNeed true 6 ≠ some 0x102 := by
    unfold Dev.pdNeed
    split
    · simp
    · split <;> simp
  unfold Dev.pdBlocker
  rw [if_neg (by decide)]
  split
  · simp
  · rw [if_neg (by simp [h])]
    split
    · simp
    · cases on with
      | true => simpa [pdNeeds, List.findSome?] using hneed
      | false => simp [Dev.pdOffCond, h]

/-- A write of SYS_PD_CMD that passes its checks has its effect for requester 0. -/
theorem Dev.hostWrite_of_accepts {d : Dev} {m : Mark} {r : RegRow} {i v : Nat} {c : Instr} (hw : writeOf c = some (m, r, i, v))
    (h : d.accepts c = true) (eff : Nat → Nat → List Nat → Dev → Dev) : d.hostWrite m r i v eff = (eff 0 v [] d).ok := by
  simp only [Dev.accepts, hw, Bool.and_eq_true, beq_iff_eq, decide_eq_true_eq, List.isEmpty_iff] at h
  obtain ⟨⟨rfl, hreach⟩, hnone⟩ := h
  exact d.hostWrite_pass r i v eff hreach.1 (Dev.checkPower_of_reaches hreach 0 1) hnone

/-- While the WRA is used, a request for PD7 leaves its record alone. -/
theorem Dev.pdRequest_of_wraInUse {d : Dev} (h : (∃ c ∈ d.loadedCtxs, hxWra c.2.hdr = true) ∨
    (∃ x ∈ d.loadedDescs, dxKind x.2.words ≠ dkGATHER_CMB)) (on : Bool) (req : Nat) :
    d.pdRequest 7 on req = (d.raise .PD_DEP_REFUSED d.pathDevice [.h 7, .h (if on then 1 else 2),
      .h (if d.bitOf .sys_pd_status_busy 0 7 then 0x207 else 0x102), .h req], false) :=
  Dev.pdRequest_of_blocked (Dev.pdBlocker_of_wraInUse (d.wraInUse_iff.mpr h) on) req

theorem exec_pdCmdOn_of_accepts {s : State} {m : Mark} {k : Fin 32} (h : s.dev.accepts (.pdCmdOn m k) = true) :
    exec (.pdCmdOn m k) s = .next (s.endsX (s.dev.pdRequest k true 0).1.ok) := by
  rw [← Dev.hostWrite_of_accepts rfl h (fun req _ _ d => (d.pdRequest k true req).1)]
  rfl

theorem exec_pdCmdOff_of_accepts {s : State} {m : Mark} {k : Fin 32} (h : s.dev.accepts (.pdCmdOff m k) = true) :
    exec (.pdCmdOff m k) s = .next (s.endsX (s.dev.pdRequest k false 0).1.ok) := by
  rw [← Dev.hostWrite_of_accepts rfl h (fun req _ _ d => (d.pdRequest k false req).1)]
  rfl

theorem dspec_progPower {w : Nat} (h : wOp w = 0xA2) : ∃ row, dspec w = some row := by
  unfold dspec
  rw [h]
  exact ⟨_, rfl⟩

theorem Dev.opsOpen_of_sameLoads {d e : Dev} (h : d.SameLoads e) (q run : Nat) : e.opsOpen q run = d.opsOpen q run := by
  simp only [Dev.opsOpen, h.ops]

/-- An operation starts with the result its effect answers (R458). -/
theorem Dev.drvOp_eq_starts {d : Dev} {q w i : Nat} {e : Entry} (h : d.opsOpen q e.run < 16) (key : OpKey)
    (k : Dev → Dev × Option Nat) : d.drvOp q w i e key k = (k d).1.starts q w i e key (k d).2 := by
  unfold Dev.drvOp
  rw [if_neg (by omega)]
  rfl

/-- PROG.POWER of PD7 while the WRA is used: the operation ends with code 9, and the record names the queue. -/
theorem exec_dxProgPower_of_wraInUse {s : State} {q : Fin 512} {w i c : Nat} {e : Entry} {on : Bool} (h : s.dev.issues q 0xA2 w i e)
    (hcmd : (if on then 1 else 2) = c) (hk : slice w 0 5 = 7) (hon : bit w 5 = on) (hopen : s.dev.opsOpen q e.run < 16)
    (hwra : (∃ c ∈ s.dev.loadedCtxs, hxWra c.2.hdr = true) ∨ (∃ x ∈ s.dev.loadedDescs, dxKind x.2.words ≠ dkGATHER_CMB)) :
    exec (.dxProgPower q) s = .next (s.endsX (((s.dev.charged q w).raise .PD_DEP_REFUSED s.dev.pathDevice [.h 7,
      .h c, .h (if s.dev.bitOf .sys_pd_status_busy 0 7 then 0x207 else 0x102), .h (reqQUEUE q)]).starts q w i e
      (.power 7 on) (some 9))) := by
  obtain ⟨⟨-, -, -, -, -, hop⟩, -⟩ := id h
  obtain ⟨row, hrow⟩ := dspec_progPower hop
  have hrun : exec (.dxProgPower q) s = .next (s.endsX (s.dev.dxProgPower q)) := rfl
  have hloads := s.dev.charged_sameLoads q w
  have hspares := s.dev.charged_spares q w
  have hbusy : (s.dev.charged q w).bitOf .sys_pd_status_busy 0 7 = s.dev.bitOf .sys_pd_status_busy 0 7 :=
    congrArg (bit · 7) (hspares.get _ (by decide) 0)
  have hpath : (s.dev.charged q w).pathDevice = s.dev.pathDevice := by
    simp only [Dev.pathDevice, Dev.pathBase, hspares.get .sys_fabric_pos_hall (by decide),
      hspares.get .sys_fabric_pos_plane (by decide), hspares.get .sys_fabric_pos_device (by decide)]
  rw [← Dev.opsOpen_of_sameLoads hloads] at hopen
  simp only [Dev.loadedCtxs, Dev.loadedDescs, ← hloads.ctxs, ← hloads.descs] at hwra
  rw [hrun, Dev.dxProgPower, Dev.drvIssue_of_issues h hrow]
  dsimp only
  rw [hk, hon, if_neg (by decide)]
  rw [Dev.drvOp_eq_starts hopen]
  dsimp only
  rw [Dev.pdRequest_of_wraInUse hwra, hbusy, hpath, hcmd]
  rfl

/-- Settles O57: what uses the WRA blocks PD7 ahead of every other condition but its own switching, whoever asks; and nothing else
answers the code of WRA_IN_USE. -/
theorem wraDomainSwitchesOnlyAtConfiguration : Obligations.WraDomainSwitchesOnlyAtConfiguration := by
  intro s
  refine ⟨fun m domain hacc h7 hwra => ?_, fun m domain hacc h7 hwra => ?_, fun q w i n hi hw hopen hwra => ?_,
    fun q w i n hi hw hopen hwra => ?_, fun hfree on => ?_⟩
  · rw [exec_pdCmdOn_of_accepts hacc, h7, Dev.pdRequest_of_wraInUse hwra]
    rfl
  · rw [exec_pdCmdOff_of_accepts hacc, h7, Dev.pdRequest_of_wraInUse hwra]
    rfl
  · exact exec_dxProgPower_of_wraInUse hi rfl hw.1 hw.2 hopen hwra
  · exact exec_dxProgPower_of_wraInUse hi rfl hw.1 hw.2 hopen hwra
  · rw [← Dev.wraInUse_iff, Bool.not_eq_true] at hfree
    exact Dev.pdBlocker_of_not_wraInUse hfree on

end Sys2Proof.Machine
end

section
/-! SUPPORT. A frame that arrives (R17, R148 to R151, R588): its header, its way to a wait queue, its last byte, its cells. -/

namespace Sys2Proof.Machine

/-! ### What a reception writes before the checks of R588 are made -/

/-- The fields written between the header and the answer of the request: the hunt, and the counts of RX_FRAMES and RX_BYTES. -/
def rxFlds : List Fld := countFlds ++ [.h_hunting, .h_win_rx_bytes, .h_win_sat]

/-- In `e` the checks and the destination search see what they see in `d`: the fields but those of `rxFlds`, the forwarding table
and the groups. -/
structure Dev.LooksLike (d e : Dev) : Prop where
  get : ∀ (f : Fld) (i : Nat), f ∉ rxFlds → e.get f i = d.get f i
  ftab : e.ftab = d.ftab
  groups : e.groups = d.groups

theorem Dev.LooksLike.refl (d : Dev) : d.LooksLike d := ⟨fun _ _ _ => rfl, rfl, rfl⟩

theorem Dev.LooksLike.trans {d e g : Dev} (h : d.LooksLike e) (k : e.LooksLike g) : d.LooksLike g :=
  ⟨fun f i hf => (k.get f i hf).trans (h.get f i hf), k.ftab.trans h.ftab, k.groups.trans h.groups⟩

theorem Dev.set_looksLike (d : Dev) (f : Fld) (i v : Nat) (h : f ∈ rxFlds := by decide) : d.LooksLike (d.set f i v) :=
  ⟨fun _ j hg => d.get_set_fld (fun hc => hg (by rwa [Fld.ctorIdx_inj hc])) i j v, rfl, rfl⟩

theorem Dev.count_looksLike (d : Dev) (b : Nat) (e : Ev) (n : Nat) (a : Attr) : d.LooksLike (d.count b e n a) := by
  have hflds := d.count_fldsOnly b e n a
  unfold Dev.FldsOnly at hflds
  exact ⟨fun f j hf => d.count_get b e n a f j (fun hc => hf (List.mem_append_left _ hc)), by rw [hflds], by rw [hflds]⟩

theorem Dev.winAdd_looksLike (d : Dev) (f : Fld) (k p n : Nat) (h : f ∈ rxFlds) : d.LooksLike (d.winAdd f k p n) := by
  unfold Dev.winAdd
  split
  · exact .refl d
  · dsimp only
    split
    · exact (d.set_looksLike f _ _ h).trans (Dev.set_looksLike ..)
    · exact d.set_looksLike f _ _ h

theorem Dev.winAdd_fldsOnly (d : Dev) (f : Fld) (k p n : Nat) : d.FldsOnly (d.winAdd f k p n) := by
  unfold Dev.winAdd
  exact .ite (.refl d) (.ite ((d.set_fldsOnly ..).trans (Dev.set_fldsOnly ..)) (d.set_fldsOnly ..))

/-! ### What the checks see -/

section
variable {d e : Dev} (h : d.LooksLike e)
include h

theorem Dev.LooksLike.get_eq (f : Fld) (hf : f ∉ rxFlds := by decide) : @Dev.get e f = @Dev.get d f := funext (fun i => h.get f i hf)

theorem Dev.LooksLike.flag_eq (f : Fld) (hf : f ∉ rxFlds := by decide) : @Dev.flag e f = @Dev.flag d f := by
  funext i
  rw [Dev.flag, h.get_eq f hf, Dev.flag]

theorem Dev.LooksLike.role_eq : e.role = d.role := h.get_eq .port_cfg_role

theorem Dev.LooksLike.rank_eq : e.rank = d.rank := by
  funext n
  unfold Dev.rank
  rw [h.role_eq, h.get_eq .port_cfg_axis]

theorem Dev.LooksLike.checkLink_eq : e.checkLink = d.checkLink := by
  have hstatus : e.linkStatus = d.linkStatus := h.get_eq .port_status_link_status
  have hfenced : e.fenced = d.fenced := h.flag_eq .port_status_fence_mask
  funext n hd
  unfold Dev.checkLink
  rw [h.role_eq, hstatus, hfenced]

theorem Dev.LooksLike.checkFabric_eq : e.checkFabric = d.checkFabric := by
  have hfeature : e.hasFeature = d.hasFeature := by
    funext n t
    unfold Dev.hasFeature Dev.bitOf
    rw [h.get_eq .port_status_agreed_features]
  have hplane : e.plane = d.plane := congrFun (h.get_eq .sys_fabric_pos_plane) 0
  funext n hd
  unfold Dev.checkFabric
  rw [h.role_eq, hfeature, hplane, h.rank_eq, h.flag_eq .port_cfg_ctrl_from_down, h.get_eq .port_stencil_2_src_base,
    h.get_eq .port_stencil_2_src_limit]

theorem Dev.LooksLike.policer_eq : e.policer = d.policer := by
  funext n c
  unfold Dev.policer
  rw [h.flag_eq .sched_pol_map_pol_en, h.get_eq .sched_pol_map_pol_idx]

theorem Dev.LooksLike.groupValid_eq : e.groupValid = d.groupValid := by
  funext g
  unfold Dev.groupValid Dev.groupWord
  rw [h.groups]

theorem Dev.LooksLike.routeGroup_eq : e.routeGroup = d.routeGroup := by
  have hkeeps : e.mcKeeps = d.mcKeeps := by
    funext arr p
    unfold Dev.mcKeeps Dev.upRole
    rw [h.rank_eq, h.role_eq]
  funext arr c g
  unfold Dev.routeGroup Dev.groupClass Dev.groupPorts Dev.groupWord
  rw [h.groupValid_eq, hkeeps, h.groups]

theorem Dev.LooksLike.searchDst_eq : e.searchDst = d.searchDst := by
  have hfw : e.fw = d.fw := by
    funext i w
    unfold Dev.fw
    rw [h.ftab]
  funext g
  unfold Dev.searchDst Dev.findEntry Dev.bucketA Dev.bucketB Dev.validEntries
  rw [hfw, h.ftab, h.get_eq .fwd_ctrl_seed_a, h.get_eq .fwd_ctrl_seed_b]

theorem Dev.LooksLike.orderCheck_eq : e.orderCheck = d.orderCheck := by
  funext arr r
  unfold Dev.orderCheck
  rw [h.role_eq, h.rank_eq]

theorem Dev.LooksLike.selectBundle_eq : e.selectBundle = d.selectBundle := by
  funext w
  unfold Dev.selectBundle
  rw [h.flag_eq .sys_fabric_size_fabric_mode, h.get_eq .sys_fabric_size_size, h.get_eq .sys_fabric_coord_coord]

theorem Dev.LooksLike.resolve_eq : e.resolve = d.resolve := by
  have hown : e.ownGeid = d.ownGeid := by
    unfold Dev.ownGeid
    rw [h.get_eq .sys_fabric_pos_device]
  funext arr hd
  unfold Dev.resolve
  rw [hown, h.routeGroup_eq, h.searchDst_eq, h.orderCheck_eq, h.selectBundle_eq, h.groupValid_eq, h.flag_eq .fwd_ctrl_flood_enable,
    h.get_eq .fwd_ctrl_flood_group]

end

/-! ### The header -/

/-- Port `n` begins to receive a frame with header `h`. -/
def Dev.begins (d : Dev) (n : Nat) (h : Hdr) : Dev :=
  { d with nextFid := d.nextFid + 1, receiving := d.receiving.set n none (some { rid := d.nextFid, len := h.length }),
           rxSpoilt := d.rxSpoilt.set n false false }

/-- The frame is counted where checks 2 to 7 have passed. -/
def Dev.rxCounted (d : Dev) (n : Nat) (h : Hdr) : Dev :=
  ((d.count n .RX_FRAMES 1 h.attr).count n .RX_BYTES (linkBytes h.length) h.attr).winAdd .h_win_rx_bytes 5 n (linkBytes h.length)

/-- The device in which the frame of header `h` that begins on port `n` has been counted. -/
def Dev.entering (d : Dev) (n : Nat) (h : Hdr) : Dev := ((d.set .h_hunting n 0).begins n h).rxCounted n h

theorem Dev.begins_looksLike (d : Dev) (n : Nat) (h : Hdr) : d.LooksLike (d.begins n h) := ⟨fun _ _ _ => rfl, rfl, rfl⟩

theorem Dev.rxCounted_looksLike (d : Dev) (n : Nat) (h : Hdr) : d.LooksLike (d.rxCounted n h) :=
  ((d.count_looksLike ..).trans (Dev.count_looksLike ..)).trans (Dev.winAdd_looksLike _ _ _ _ _ (by decide))

theorem Dev.rxCounted_fldsOnly (d : Dev) (n : Nat) (h : Hdr) : d.FldsOnly (d.rxCounted n h) :=
  ((d.count_fldsOnly ..).trans (Dev.count_fldsOnly ..)).trans (Dev.winAdd_fldsOnly ..)

/-- Checks 2 to 7 answer at once. -/
theorem Dev.headerIn_of_link {d : Dev} {n : Nat} {h : Hdr} (hlink : d.checkLink n h ≠ .pass) :
    d.headerIn n h = (d.begins n h).gateDrop n h (d.checkLink n h) := by
  have hsee : (d.begins n h).checkLink n h = d.checkLink n h := by rw [(d.begins_looksLike n h).checkLink_eq]
  generalize hg : d.checkLink n h = g at *
  unfold Dev.begins at hsee ⊢
  unfold Dev.headerIn Dev.newFid
  dsimp only
  rw [hsee]
  cases g with
  | count _ => rfl
  | drop _ _ => rfl
  | pass => exact absurd rfl hlink

/-- Checks 2 to 16 pass where the frame is not mirrored at ingress: it is counted and enters. -/
theorem Dev.headerIn_of_pass {d : Dev} {n : Nat} {h : Hdr} (hlink : d.checkLink n h = .pass) (hfabric : d.checkFabric n h = .pass)
    (hmirror : d.flag .xbar_port_mirror_ing_en n = false) :
    d.headerIn n h = ((d.begins n h).rxCounted n h).enterFrame n d.nextFid 0 h := by
  have hbegins := d.begins_looksLike n h
  have hcounted := hbegins.trans (Dev.rxCounted_looksLike _ n h)
  have hlink' : (d.begins n h).checkLink n h = .pass := by rw [hbegins.checkLink_eq, hlink]
  have hfabric' : ((d.begins n h).rxCounted n h).checkFabric n h = .pass := by rw [hcounted.checkFabric_eq, hfabric]
  have hmirror' : ((d.begins n h).rxCounted n h).flag .xbar_port_mirror_ing_en n = false := by
    rw [hcounted.flag_eq .xbar_port_mirror_ing_en, hmirror]
  unfold Dev.rxCounted Dev.begins at *
  unfold Dev.headerIn Dev.newFid
  dsimp only
  rw [hlink']
  dsimp only
  rw [hmirror', if_neg Bool.false_ne_true]
  dsimp only
  rw [hfabric']

/-- The header words of a unit on port `n` pass the framing: the quadrant is on, no frame is being received, the receiver does not
hunt, and the version and the header CRC are right (R148). -/
structure Dev.HeaderSound (d : Dev) (n : Nat) (ws : List Nat) : Prop where
  quad : d.quadOn n = true
  idle : d.receiving.getOpt n = none
  calm : d.flag .h_hunting n = false
  crc : hdrCrcOk ws = true
  ver : (Hdr.ofWords ws).ver = 1

theorem Dev.frameHeader_of_sound {d : Dev} {n : Nat} {ws : List Nat} (h : d.HeaderSound n ws) :
    d.frameHeader n ws = (d.set .h_hunting n 0).headerIn n (Hdr.ofWords ws) := by
  unfold Dev.frameHeader
  simp [h.quad, h.idle, h.calm, h.crc, h.ver]

/-- A header that passes checks 1 to 16, on a port without ingress mirroring, enters. -/
theorem Dev.frameHeader_of_entering {d : Dev} {n : Nat} {ws : List Nat} (h : d.HeaderSound n ws)
    (hlink : d.checkLink n (Hdr.ofWords ws) = .pass) (hfabric : d.checkFabric n (Hdr.ofWords ws) = .pass)
    (hmirror : d.flag .xbar_port_mirror_ing_en n = false) :
    d.frameHeader n ws = (d.entering n (Hdr.ofWords ws)).enterFrame n d.nextFid 0 (Hdr.ofWords ws) := by
  have hlook := d.set_looksLike .h_hunting n 0
  rw [Dev.frameHeader_of_sound h, Dev.headerIn_of_pass (by rw [hlook.checkLink_eq, hlink]) (by rw [hlook.checkFabric_eq, hfabric])
    (by rw [hlook.flag_eq .xbar_port_mirror_ing_en, hmirror])]
  rfl

/-- A unit whose header CRC is wrong is no frame (R148). -/
theorem Dev.frameHeader_of_badCrc {d : Dev} {n : Nat} {ws : List Nat} (hquad : d.quadOn n = true) (hidle : d.receiving.getOpt n = none)
    (hcrc : hdrCrcOk ws = false) :
    d.frameHeader n ws = if d.flag .h_hunting n then d.count n .HUNT_BYTES 4
      else ((d.count n .HDR_CRC).raise .HDR_INVALID (d.pathPort n)).set .h_hunting n 1 := by
  unfold Dev.frameHeader
  simp [hquad, hidle, hcrc]

theorem exec_fabricFrameRx (s : State) (port : Fin 512) (h : HdrWords) :
    exec (.fabricFrameRx port h) s = .next (s.endsX (s.dev.frameHeader port (hdrList h))) := rfl

/-! ### The wait queue of a bundle -/

/-- The frame that reception `rid` on port `n` puts in a wait queue, neither mirrored nor a copy. -/
def Dev.arrivedFrame (d : Dev) (n rid : Nat) (h : Hdr) : Frame :=
  { id := rid, input := n, hdr := h, mc := false, arrival := some n, mirrored := 0,
    stamp := if h.ftype = ftTIME then d.fabric32 / 2 ^ 24 % 2 ^ 64 else 0 }

/-- The frame of header `h` stands in the queue of bundle `key`; one of a collective on its way down is seen (R282). -/
def Dev.queued (d : Dev) (n rid : Nat) (h : Hdr) (key : Nat) : Dev :=
  let e := d.addWait (d.arrivedFrame n rid h) (.bundle key)
  { e with collSeen := if isCollDown h.ftype then e.collSeen ++ [h] else e.collSeen }

theorem Dev.routeFrame_of_bundle (d : Dev) (n rid : Nat) (h : Hdr) (key : Nat) :
    d.routeFrame n rid 0 h { route := .bundle key } = d.queued n rid h key := by
  have hseen (e : Dev) (b : Bool) :
      (if b then { e with collSeen := e.collSeen ++ [h] } else e) = { e with collSeen := if b then e.collSeen ++ [h] else e.collSeen } := by
    cases b <;> rfl
  exact hseen ..

/-- A frame that no policer watches, on an AXIS port, learns nothing and goes to the bundle of its route. -/
theorem Dev.enterFrame_of_bundle {d : Dev} {n rid : Nat} {h : Hdr} {key : Nat} (hrole : d.role n = roleAXIS)
    (hpol : d.policer n h.cls = none) (hres : d.resolve (some n) h = { route := .bundle key }) :
    d.enterFrame n rid 0 h = d.queued n rid h key := by
  have hpolice : d.police n h = (d, h.colour, false) := by rw [Dev.police, hpol]
  have hlearns : d.learns n h = false := by simp [Dev.learns, hrole, roleAXIS, roleDOWN]
  unfold Dev.enterFrame
  rw [hpolice]
  dsimp only
  rw [if_neg Bool.false_ne_true, hlearns, if_neg (by simp), if_neg (by simp), hres, Dev.routeFrame_of_bundle]

theorem Dev.entering_looksLike (d : Dev) (n : Nat) (h : Hdr) : d.LooksLike (d.entering n h) :=
  ((d.set_looksLike ..).trans (Dev.begins_looksLike ..)).trans (Dev.rxCounted_looksLike ..)

theorem Dev.begins_set (d : Dev) (f : Fld) (i v n : Nat) (h : Hdr) : (d.begins n h).FldsOnly ((d.set f i v).begins n h) := rfl

/-- Nothing but fields, the next frame number and the reception changes until the frame enters. -/
theorem Dev.entering_fldsOnly (d : Dev) (n : Nat) (h : Hdr) : (d.begins n h).FldsOnly (d.entering n h) :=
  (d.begins_set ..).trans (Dev.rxCounted_fldsOnly ..)

/-- What a frame queued for a bundle leaves of the device it came to. -/
theorem Dev.queued_entering (d : Dev) (n : Nat) (h : Hdr) (key : Nat) :
    ∃ e, e = (d.entering n h).queued n d.nextFid h key ∧
      e.waits = d.waits ++ [{ fid := d.nextFid, input := n, cls := h.cls, target := .bundle key }] ∧ e.nextFid = d.nextFid + 1 ∧
      (∃ f, e.frames = d.frames ++ [f] ∧ f.id = d.nextFid ∧ f.hdr = h ∧ f.input = n ∧ f.complete = false) ∧
      d.Keeps e rxFlds ∧
      e.rest = ({ d with frames := e.frames, nextFid := e.nextFid, waits := e.waits, egress := e.egress,
                         receiving := e.receiving, ftab := e.ftab, collSeen := e.collSeen, rxSpoilt := e.rxSpoilt,
                         sent := e.sent } : Dev).rest := by
  have hkeeps : d.Keeps (d.entering n h) rxFlds := (d.entering_looksLike n h).get
  have hflds := d.entering_fldsOnly n h
  generalize d.entering n h = e at hkeeps hflds ⊢
  unfold Dev.FldsOnly at hflds
  refine ⟨_, rfl, ?_, ?_, ⟨e.arrivedFrame n d.nextFid h, ?_, rfl, rfl, rfl, rfl⟩, hkeeps, ?_⟩
  all_goals rw [hflds]; rfl

end Sys2Proof.Machine
end

section
/-! SUPPORT. The last byte of a frame and the cells it stands in (R150, R151, R206); the settling of O30. -/

namespace Sys2Proof.Machine
/-! ### The last byte -/

/-- A frame of reception `rid` that waits for its bytes has them. -/
def fillFrame (rid : Nat) (tail : List Nat) (f : Frame) : Frame :=
  if f.ofRx = some rid then { f with payload := (f.payload ++ tail).take f.hdr.length, complete := true, ofRx := none } else f

theorem fillFrame_id (rid : Nat) (tail : List Nat) (f : Frame) : (fillFrame rid tail f).id = f.id := by
  unfold fillFrame
  split <;> rfl

theorem fillFrame_hdr (rid : Nat) (tail : List Nat) (f : Frame) : (fillFrame rid tail f).hdr = f.hdr := by
  unfold fillFrame
  split <;> rfl

theorem Dev.fillMirrors_frames (d : Dev) (rid : Nat) (tail : List Nat) :
    (d.fillMirrors rid tail).frames = d.frames.map (fillFrame rid tail) := rfl

/-- A mirror copy that gets its bytes keeps its number and its header (R226). -/
theorem Dev.fillMirrors_frame {d : Dev} {k : Nat} {f : Frame} (hf : d.frame k = some f) (rid : Nat) (tail : List Nat) :
    ∃ g, (d.fillMirrors rid tail).frame k = some g ∧ g.hdr = f.hdr := by
  have hid : ((fun f : Frame => f.id == k) ∘ fillFrame rid tail) = (fun f => f.id == k) :=
    funext (fun f => congrArg (· == k) (fillFrame_id rid tail f))
  refine ⟨fillFrame rid tail f, ?_, fillFrame_hdr rid tail f⟩
  unfold Dev.frame at hf ⊢
  rw [Dev.fillMirrors_frames, List.find?_map, hid, hf]
  rfl

/-- Reception `r` on port `n` has ended with the payload `bytes` and the CRC word `crc`: the frame is complete (R150, R226). -/
def Dev.arrived (d : Dev) (n : Nat) (r : Rx) (bytes : List Nat) (crc : Nat) : Dev :=
  (({ d with receiving := d.receiving.set n none none, rxSpoilt := d.rxSpoilt.set n false false } : Dev).fillMirrors r.rid
    (bytes ++ List.replicate (padBytes r.len) 0 ++ beBytes 4 crc)).mapFrame r.rid (fun g => { g with payload := bytes, complete := true })

/-- The last byte of a held frame, told by its CRC word (R151). -/
theorem Dev.lastByte_eq {d : Dev} {n : Nat} {r : Rx} {f : Frame} {bytes : List Nat} (hr : d.receiving.getOpt n = some r)
    (hlen : r.len = bytes.length) (hf : d.frame r.rid = some f) (crc : Nat) :
    d.lastByte n bytes crc =
      if crc = (frameCrc f.hdr bytes ^^^ 0xFFFFFFFF) then ((d.arrived n r bytes crc).countBad n f.hdr true).spoil r.rid
      else if crc ≠ frameCrc f.hdr bytes ∨ d.rxSpoilt.get n false = true then ((d.arrived n r bytes crc).countBad n f.hdr false).spoil r.rid
      else (d.arrived n r bytes crc).settleInternal := by
  have hpayload : (bytes ++ List.replicate r.len 0).take r.len = bytes := by rw [hlen, List.take_left']; rfl
  have hf' : ({ d with receiving := d.receiving.set n none none, rxSpoilt := d.rxSpoilt.set n false false } : Dev).frame r.rid = some f := hf
  obtain ⟨g, hg, hhdr⟩ := Dev.fillMirrors_frame hf' r.rid (bytes ++ List.replicate (padBytes r.len) 0 ++ beBytes 4 crc)
  unfold Dev.lastByte Dev.arrived
  rw [hr]
  dsimp only
  rw [hpayload, hg]
  dsimp only
  rw [hhdr]

/-- A CRC is not its own inverse. -/
theorem xor_ones_ne (x : Nat) : x ≠ x ^^^ 0xFFFFFFFF := by
  intro h
  have hones : x ^^^ (x ^^^ 0xFFFFFFFF) = 0 := by rw [← h, Nat.xor_self]
  rw [← Nat.xor_assoc, Nat.xor_self, Nat.zero_xor] at hones
  exact absurd hones (by decide)

theorem exec_frameLastByte (s : State) (port : Fin 512) (payload : List Byte) (crc : BitVec 32) :
    exec (.frameLastByte port payload crc) s = .next (s.endsX (s.dev.lastByte port (byteList payload) crc.toNat)) := rfl

theorem length_byteList (l : List Byte) : (byteList l).length = l.length := List.length_map ..

/-! ### The cells -/

theorem exec_sramScrubVisit (s : State) (fid : BitVec 32) (cell : CellRead) :
    exec (.sramScrubVisit fid cell) s = .next (s.endsX (s.dev.scrubCell fid.toNat (cellOf cell))) := rfl

theorem Dev.scrubCell_bad {d : Dev} {fid : Nat} (h : (d.frame fid).isSome = true) (a : Nat) :
    d.scrubCell fid (.bad a) = ((d.count blkDevice .CELL_UNCORR).raise .CELL_UNCORR d.pathDevice [.w a]).spoil fid := by
  unfold Dev.scrubCell
  exact if_pos h

/-- The fields of `rxFlds` are among those that a frame on its way in may write. -/
theorem rxFlds_subset : rxFlds ⊆ countFlds ++ [.xbar_mir_stats_dropped, .xbar_mir_stats_sent, .sched_pol_stats_red,
    .sched_pol_stats_yellow, .h_freed, .h_unreported, .h_hunting, .h_win_rx_bytes, .h_win_sat, .h_full_sec, .h_learn_q, .h_pol_p,
    .h_pol_c, .h_pol_t, .h_mir_cnt] := by decide

theorem Dev.Keeps.mono {d e : Dev} {l m : List Fld} (h : d.Keeps e l) (hl : l ⊆ m) : d.Keeps e m :=
  fun f i hf => h f i (fun hc => hf (hl hc))

/-- Settles O30: the framing by the version and the CRC of the header; the checks, which see the same device before and after the
reception begins and is counted; the wait queue; the last byte by its CRC word; the cells. -/
theorem framesIn : Obligations.FramesIn := by
  intro s
  refine ⟨fun port h hp hcrc => ?badCrc, fun port h hp hcrc => ?hunting, fun port h hp hsound hlink => ?link,
    fun port h hp hsound hpass => ?enters, fun port h key hp hsound hpass hport hres => ?queued,
    fun port payload crc r f hr hok => ?good, fun port payload crc r f hr hstomped => ?stomped,
    fun port payload crc r f hr hbad => ?bad, fun fid cell hcell => ?corrected, fun fid cell a hcell => ?uncorrectable⟩
  case badCrc =>
    obtain ⟨hquad, hidle, hcalm⟩ := hp
    rw [exec_fabricFrameRx, Dev.frameHeader_of_badCrc hquad hidle hcrc, if_neg (by simp [hcalm])]
  case hunting =>
    obtain ⟨hquad, hidle⟩ := hp
    obtain ⟨hhunt, hcrc⟩ := hcrc
    rw [exec_fabricFrameRx, Dev.frameHeader_of_badCrc hquad hidle hcrc, if_pos hhunt]
  case link =>
    obtain ⟨hquad, hidle, hcalm⟩ := hp
    obtain ⟨hcrc, hver⟩ := hsound
    have hlook := s.dev.set_looksLike .h_hunting port 0
    rw [← hlook.checkLink_eq] at hlink ⊢
    rw [exec_fabricFrameRx, Dev.frameHeader_of_sound ⟨hquad, hidle, hcalm, hcrc, hver⟩, Dev.headerIn_of_link hlink]
    rfl
  case enters =>
    obtain ⟨hquad, hidle, hcalm⟩ := hp
    obtain ⟨hcrc, hver⟩ := hsound
    obtain ⟨hlink, hfabric, hmirror⟩ := hpass
    rw [exec_fabricFrameRx, Dev.frameHeader_of_entering ⟨hquad, hidle, hcalm, hcrc, hver⟩ hlink hfabric hmirror]
    rfl
  case queued =>
    obtain ⟨hquad, hidle, hcalm⟩ := hp
    obtain ⟨hcrc, hver⟩ := hsound
    obtain ⟨hlink, hfabric⟩ := hpass
    obtain ⟨hrole, hmirror, hpol⟩ := hport
    obtain ⟨e, he, hwaits, hfid, hframe, hkeeps, hrest⟩ := s.dev.queued_entering port (Hdr.ofWords (hdrList h)) key
    refine ⟨e, ?_, ⟨hwaits, hfid, hframe⟩, hkeeps.mono rxFlds_subset, hrest⟩
    have hlook := s.dev.entering_looksLike port (Hdr.ofWords (hdrList h))
    rw [exec_fabricFrameRx, Dev.frameHeader_of_entering ⟨hquad, hidle, hcalm, hcrc, hver⟩ hlink hfabric hmirror,
      Dev.enterFrame_of_bundle (by rw [hlook.role_eq, hrole]) (by rw [hlook.policer_eq, hpol]) (by rw [hlook.resolve_eq, hres]), he]
  case good =>
    obtain ⟨hunspoilt, hgood⟩ := hok
    obtain ⟨hr, hlen, hf⟩ := hr
    rw [exec_frameLastByte, Dev.lastByte_eq hr (by rw [hlen, length_byteList]) hf, hgood, if_neg (xor_ones_ne _),
      if_neg (by simp [hunspoilt])]
    rfl
  case stomped =>
    obtain ⟨hr, hlen, hf⟩ := hr
    rw [exec_frameLastByte, Dev.lastByte_eq hr (by rw [hlen, length_byteList]) hf, if_pos hstomped]
    rfl
  case bad =>
    obtain ⟨hr, hlen, hf⟩ := hr
    rw [exec_frameLastByte, Dev.lastByte_eq hr (by rw [hlen, length_byteList]) hf, if_neg hbad.1, if_pos hbad.2]
    rfl
  case corrected => rw [hcell, exec_sramScrubVisit]; rfl
  case uncorrectable => rw [hcell.1, exec_sramScrubVisit, cellOf, Dev.scrubCell_bad hcell.2]

end Sys2Proof.Machine
end

section
/-! SUPPORT. A change of the block confined to fields of a list and to what a view of the rest leaves out: how changes of that kind
compose, and what the end of a command changes where nothing waits for the engines (R409, R415). -/

namespace Sys2Proof.Machine

/-- From `d` to `e` no field has changed but those of `own`, and what `view` shows of the rest of the block is the same. -/
structure Dev.Confined (view : Dev → Dev) (own : List Fld) (d e : Dev) : Prop where
  fields : d.Keeps e own
  rest : view e.rest = view d.rest

namespace Dev.Confined

variable {view : Dev → Dev} {own : List Fld}

theorem refl (d : Dev) : d.Confined view own d := ⟨fun _ _ _ => rfl, rfl⟩

/-- One change after another. -/
theorem after {d e g : Dev} (k : e.Confined view own g) (h : d.Confined view own e) : d.Confined view own g :=
  ⟨fun f i hf => (k.fields f i hf).trans (h.fields f i hf), k.rest.trans h.rest⟩

theorem ite {c : Prop} [Decidable c] {d e g : Dev} (h : d.Confined view own e) (k : d.Confined view own g) :
    d.Confined view own (if c then e else g) := by
  split
  · exact h
  · exact k

theorem foldl {α : Type} {f : Dev → α → Dev} (h : ∀ (d : Dev) (a : α), d.Confined view own (f d a)) (l : List α) (d : Dev) :
    d.Confined view own (l.foldl f d) :=
  List.foldlRecOn (motive := fun e => d.Confined view own e) l f (.refl d) (fun e he a _ => (h e a).after he)

theorem mono {own' : List Fld} {d e : Dev} (h : d.Confined view own e) (hown : own ⊆ own') : d.Confined view own' e :=
  ⟨fun f i hf => h.fields f i (fun hm => hf (hown hm)), h.rest⟩

/-- A view that shows less than everything. -/
theorem hide {d e : Dev} (h : d.Confined id own e) : d.Confined view own e := ⟨h.fields, congrArg view h.rest⟩

/-- A change of the block that no field and nothing in view feels. -/
theorem same {d e g : Dev} (h : d.Confined view own e) (hf : g.flds = e.flds) (hr : view g.rest = view e.rest) :
    d.Confined view own g :=
  ⟨fun f i hn => .trans (by simp only [Dev.get, hf]) (h.fields f i hn), hr.trans h.rest⟩

end Dev.Confined

section
variable {view : Dev → Dev} {own : List Fld}

theorem Dev.set_confined (d : Dev) {f : Fld} (hf : f ∈ own) (i v : Nat) : d.Confined view own (d.set f i v) :=
  ⟨fun _ j hg => d.get_set_fld (fun hc => hg (by rwa [Fld.ctorIdx_inj hc])) i j v, rfl⟩

theorem Dev.setMany_confined (d : Dev) (l : List (Fld × Nat × Nat)) (h : ∀ e ∈ l, e.1 ∈ own) : d.Confined view own (d.setMany l) := by
  induction l generalizing d with
  | nil => exact .refl d
  | cons e l ih =>
    rw [Dev.setMany_cons]
    exact (ih _ (fun x hx => h x (List.mem_cons_of_mem _ hx))).after (d.set_confined (h e (List.mem_cons_self)) _ _)

theorem Dev.putB_confined (d : Dev) {f : Fld} (hf : f ∈ own) (i k : Nat) (b : Bool) : d.Confined view own (d.putB f i k b) :=
  d.set_confined hf _ _

theorem Dev.raise_confined (d : Dev) (c : RecCode) (p : Nat) (l : List Item) (job : Nat) :
    d.Confined view own (d.raise c p l job) := by
  rw [Dev.raise_eq]
  exact .same (.refl d) rfl rfl

theorem Dev.pmcAdd_confined (d : Dev) (b i n : Nat) : d.Confined view countFlds (d.pmcAdd b i n) := by
  unfold Dev.pmcAdd
  exact .ite ((Dev.putB_confined _ (by decide) ..).after (d.set_confined (by decide) ..)) (d.set_confined (by decide) ..)

theorem Dev.count_confined (d : Dev) (b : Nat) (e : Ev) (n : Nat) (a : Attr) : d.Confined view countFlds (d.count b e n a) := by
  unfold Dev.count Dev.countCode
  exact .ite (.foldl (fun d i => .ite (d.pmcAdd_confined b i n) (.refl d)) _ d) (.refl d)

theorem Dev.draw_confined (d : Dev) : d.Confined view own d.draw.2 := ⟨fun _ _ _ => rfl, rfl⟩
end

/-! ### The end of a command where nothing waits for the engines -/

theorem Dev.absorb_of_idle {d : Dev} (h : d.idle) : d.absorb = d := by
  obtain ⟨hseen, hout, hlost, -, -⟩ := h
  unfold Dev.absorb
  cases d
  simp_all [Dev.collDrain]

theorem Dev.fmemDrain_of_empty {d : Dev} (h : d.fmemOut = []) : d.fmemDrain d.fmemOut.length = d := by rw [h]; rfl

theorem Dev.wraBind_of_no_work {d : Dev} (h : d.works = []) : d.wraBind = d := by rw [Dev.wraBind, h]; rfl

/-- Where nothing waits for the engines, the end of a command is a look at the time unit's ports. -/
theorem Dev.settle_of_idle {d : Dev} (h : d.idle) : d.settle = d.timeCheck := by
  rw [Dev.settle, Dev.absorb_of_idle h]
  obtain ⟨-, -, -, hfmem, hworks⟩ := h
  rw [Dev.fmemDrain_of_empty hfmem, Dev.wraBind_of_no_work hworks]

/-- The fields the time unit writes when it looks at its ports, and what it counts. -/
abbrev clockFlds : List Fld := timeFlds ++ countFlds

section
variable {view : Dev → Dev}

theorem Dev.count_clock (d : Dev) (b : Nat) (e : Ev) (n : Nat) (a : Attr) : d.Confined view clockFlds (d.count b e n a) :=
  (d.count_confined b e n a).mono (List.subset_append_right _ _)

theorem Dev.refreshDegraded_clock (d : Dev) : d.Confined view clockFlds d.refreshDegraded := d.set_confined (by decide) _ _

theorem Dev.reqDropped_clock (d : Dev) (k : Nat) : d.Confined view clockFlds (d.reqDropped k) := by
  unfold Dev.reqDropped
  exact .ite ((Dev.count_clock ..).after (d.set_confined (by decide) ..)) (.refl d)

theorem Dev.tportCheck_clock (d : Dev) (k : Nat) : d.Confined view clockFlds (d.tportCheck k) := by
  unfold Dev.tportCheck
  refine (Dev.set_confined _ (by decide) ..).after ((Dev.set_confined _ (by decide) ..).after (.ite ?_ (.refl d)))
  exact (Dev.set_confined _ (by decide) ..).after (d.reqDropped_clock k)

theorem Dev.putOffset_clock (d : Dev) (x : Int) : d.Confined view clockFlds (d.putOffset x) :=
  d.setMany_confined _ (by simp [timeFlds])

theorem Dev.putRate_clock (d : Dev) (r : Int) (l : List Item) : d.Confined view clockFlds (d.putRate r l) := by
  unfold Dev.putRate
  refine (Dev.set_confined _ (by decide) ..).after (.after (.ite (.refl _) (Dev.putOffset_clock ..)) (.ite (.refl d) ?_))
  refine .ite (d.count_clock ..) ?_
  exact (Dev.raise_confined ..).after ((Dev.set_confined _ (by decide) ..).after (d.count_clock ..))

theorem Dev.toState_clock (d : Dev) (new : Nat) (l : List Item) : d.Confined view clockFlds (d.toState new l) := by
  unfold Dev.toState
  refine .ite (.refl d) ((Dev.refreshDegraded_clock _).after ?_)
  refine .after (.ite ?_ (.ite ?_ (.ite ?_ (.ite ?_ (.refl _))))) (.after (.ite (Dev.set_confined _ (by decide) ..) (.refl _)) ?_)
  · exact Dev.setMany_confined _ _ (by simp [timeFlds])
  · exact (Dev.putRate_clock ..).after (Dev.setMany_confined _ _ (by simp [timeFlds]))
  · exact Dev.setMany_confined _ _ (by simp [timeFlds])
  · exact Dev.set_confined _ (by decide) ..
  · exact (Dev.raise_confined ..).after
      ((Dev.set_confined _ (by decide) ..).after ((Dev.set_confined _ (by decide) ..).after d.draw_confined))

theorem Dev.adopt_clock (d : Dev) (k : Nat) : d.Confined view clockFlds (d.adopt k) :=
  (Dev.refreshDegraded_clock _).after (d.setMany_confined _ (by simp [timeFlds]))

theorem Dev.timeCheck_clock (d : Dev) (l : List Item) : d.Confined view clockFlds (d.timeCheck l) := by
  have hports : d.Confined view clockFlds ((d.tportCheck 0).tportCheck 1).refreshDegraded :=
    (Dev.refreshDegraded_clock _).after ((Dev.tportCheck_clock ..).after (d.tportCheck_clock ..))
  unfold Dev.timeCheck
  generalize ((d.tportCheck 0).tportCheck 1).refreshDegraded = e at hports ⊢
  refine .after ?_ hports
  refine .ite (.ite (.refl e) ?_) (.ite ?_ (.refl e))
  · exact (Dev.toState_clock _ _ _).after (e.set_confined (by decide) _ _)
  · exact (Dev.adopt_clock _ _).after (e.toState_clock _ _)

end

/-- The end of a command where nothing waits for the engines. -/
theorem Dev.settle_clock {d : Dev} (h : d.idle) : d.Confined id clockFlds d.settle := by
  rw [Dev.settle_of_idle h]
  exact d.timeCheck_clock []

/-- What a device has sent is among its rest. -/
theorem Dev.sent_of_rest {d e : Dev} (h : e.rest = d.rest) : e.sent = d.sent := by
  have hrest (d : Dev) : d.rest.sent = d.sent := rfl
  rw [← hrest, h, hrest]

theorem Dev.sent_settle_flush {d : Dev} (h : d.idle) : d.settle.flush.sent = d.sent :=
  Dev.sent_of_rest ((Dev.flush_rest _).trans (Dev.settle_clock h).rest)

theorem Dev.get_settle_flush {d : Dev} (h : d.idle) {f : Fld} (hf : f ∉ clockFlds ++ lostFlds) (i : Nat) :
    d.settle.flush.get f i = d.get f i := by
  rw [List.mem_append, not_or] at hf
  exact (d.settle.flush_get f i hf.2).trans ((Dev.settle_clock h).fields f i hf.1)

end Sys2Proof.Machine
end

section
/-! SUPPORT. A CREDIT frame of a port that sends a frame (R145, R156). -/

namespace Sys2Proof.Machine

theorem exec_creditSend (s : State) (port : Fin 512) :
    exec (.creditSend port) s = .next (s.endsX (s.dev.creditSend port)) := rfl

theorem Dev.idle_of_rest {d e : Dev} (h : e.rest = d.rest) (hd : d.idle) : e.idle := by
  have hidle (d : Dev) : d.rest.idle ↔ d.idle := Iff.rfl
  rwa [← hidle, h, hidle]

/-- Port 0 is admitted, has announced its allotments, and is sending a frame. -/
def sendingAFrame : State :=
  { dev := { (({} : Dev).setMany [(.sys_pd_status_on, 0, 1023), (.port_status_link_status, 0, lsADMITTED), (.h_credit_sent, 0, 1)]) with
      sending := ({} : SMap (Option Sending)).set 0 none (some { fid := 1, cls := 0, hdr := {} }) } }

/-- The CREDIT frame of `sendingAFrame` waits for the end of the frame that is being sent: nothing has left. -/
theorem creditSend_sendingAFrame : (sendingAFrame.dev.creditSend 0).idle ∧ (sendingAFrame.dev.creditSend 0).sent = [] := by
  refine ⟨⟨?_, ?_, ?_, ?_, ?_⟩, ?_⟩ <;> decide +kernel

/-- Refutes O23: its last clause. In `sendingAFrame` a condition for a CREDIT frame holds, and the frame waits for the end of the one
that is being sent (R145), while the clause has it sent at once. -/
theorem not_portConfiguration : ¬ Obligations.PortConfiguration := by
  intro h
  obtain ⟨-, -, -, -, -, -, hcredit⟩ := h sendingAFrame
  obtain ⟨e, he, ⟨hsent, -⟩, -, hrest⟩ := hcredit 0 (by decide) (by decide) (by decide)
  obtain ⟨hidle, hnone⟩ := creditSend_sendingAFrame
  rw [exec_creditSend] at he
  have hends := congrArg State.dev (Host.Outcome.next.inj he)
  rw [State.endsX_dev, State.endsX_dev] at hends
  have hcalm : e.idle := Dev.idle_of_rest hrest ⟨rfl, rfl, rfl, rfl, rfl⟩
  have hnothing : e.sent = [] := by
    rw [← Dev.sent_settle_flush hcalm, ← hends]
    exact (Dev.sent_settle_flush hidle).trans hnone
  simp [hnothing] at hsent

end Sys2Proof.Machine
end

section
/-! SUPPORT. A link-control frame where the quadrant of its port is off (R17). -/

namespace Sys2Proof.Machine

theorem exec_lcAdmit (s : State) (port : Fin 512) :
    exec (.lcAdmit port) s = .next (s.endsX (s.dev.lcIn port (fun d => d.admitRx port))) := rfl

theorem Dev.lcIn_of_quad_off {d : Dev} {n : Nat} (h : d.quadOn n = false) (f : Dev → Dev) : d.lcIn n f = d := by
  rw [Dev.lcIn, h]
  exact if_pos rfl

/-- The link of port 5 is in CREDIT_INIT, and the quadrant of the port has no power. -/
def linkWithoutPower : State :=
  { dev := ({} : Dev).setMany [(.sys_pd_status_on, 0, 3), (.port_status_link_status, 5, lsCREDIT_INIT)] }

/-- Refutes O20: its clause of the first ADMIT received in CREDIT_INIT, whose premises do not ask for the quadrant of the port. In
`linkWithoutPower` they hold; the frame has no effect, and no ADMIT is noted. -/
theorem not_linkBringUp : ¬ Obligations.LinkBringUp := by
  intro h
  obtain ⟨-, -, -, -, -, -, -, -, hadmit, -⟩ := h linkWithoutPower
  have he := hadmit 5 (by decide) (by decide)
  rw [exec_lcAdmit, Dev.lcIn_of_quad_off (by decide)] at he
  have hends := congrArg (fun t : State => t.dev.get .h_admit_rcvd 5) (Host.Outcome.next.inj he)
  have hown : Fld.h_admit_rcvd ∉ clockFlds ++ lostFlds := by decide
  rw [State.endsX_dev, State.endsX_dev, Dev.get_settle_flush ⟨rfl, rfl, rfl, rfl, rfl⟩ hown,
    Dev.get_settle_flush ⟨rfl, rfl, rfl, rfl, rfl⟩ hown] at hends
  revert hends
  decide

end Sys2Proof.Machine
end

section
/-! SUPPORT. Accepted writes of the registers of the fabric's position and shape (R40, R42). -/

namespace Sys2Proof.Machine

/-- A write that leaves a legal shape where nothing stands against it is carried out. -/
theorem Dev.shapeWrite_of_legal {d : Dev} {r : RegRow} {v : Nat} {bad : List Nat} (h : (d.writeFields r 0 v bad).shapeFail = 0) :
    d.shapeWrite r v bad = d.writeFields r 0 v bad := by
  unfold Dev.shapeWrite
  dsimp only
  split
  · rfl
  · next hne => exact absurd h hne

/-- Any other one leaves its record alone. -/
theorem Dev.shapeWrite_of_fails {d : Dev} {r : RegRow} {v : Nat} {bad : List Nat} (h : (d.writeFields r 0 v bad).shapeFail ≠ 0) :
    d.shapeWrite r v bad = d.raise .SHAPE_REFUSED d.pathDevice [.h (d.writeFields r 0 v bad).shapeFail] := by
  unfold Dev.shapeWrite
  dsimp only
  split
  · next hzero => exact absurd hzero h
  · rfl

theorem exec_sysFabricPosWrite_of_accepts {s : State} {m : Mark} {v : Word} (h : s.dev.accepts (.sysFabricPosWrite m v) = true) :
    exec (.sysFabricPosWrite m v) s = .next (s.ends (s.dev.writeFields rowSYS_FABRIC_POS 0 v.toNat []).ok) := by
  rw [← Dev.hostWrite_of_accepts rfl h (fun _ v bad d => d.writeFields rowSYS_FABRIC_POS 0 v bad)]
  rfl

theorem exec_sysFabricSizeWrite_of_accepts {s : State} {m : Mark} {v : Word} (h : s.dev.accepts (.sysFabricSizeWrite m v) = true) :
    exec (.sysFabricSizeWrite m v) s = .next (s.ends (s.dev.shapeWrite rowSYS_FABRIC_SIZE v.toNat []).ok) := by
  rw [← Dev.hostWrite_of_accepts rfl h (fun _ v bad d => d.shapeWrite rowSYS_FABRIC_SIZE v bad)]
  rfl

theorem exec_sysFabricCoordWrite_of_accepts {s : State} {m : Mark} {v : Word}
    (h : s.dev.accepts (.sysFabricCoordWrite m v) = true) :
    exec (.sysFabricCoordWrite m v) s = .next (s.ends (s.dev.shapeWrite rowSYS_FABRIC_COORD v.toNat []).ok) := by
  rw [← Dev.hostWrite_of_accepts rfl h (fun _ v bad d => d.shapeWrite rowSYS_FABRIC_COORD v bad)]
  rfl

/-- Settles O18: an accepted write has the effect of its register, and that of the shape is carried out or leaves its record. -/
theorem fabricShape : Obligations.FabricShape := by
  intro s
  refine ⟨fun m v h => exec_sysFabricPosWrite_of_accepts h, fun m v h hlegal => ?size, fun m v h hlegal => ?coord,
    fun m v h hfails => ?refused⟩
  case size => rw [exec_sysFabricSizeWrite_of_accepts h, Dev.shapeWrite_of_legal hlegal]
  case coord => rw [exec_sysFabricCoordWrite_of_accepts h, Dev.shapeWrite_of_legal hlegal]
  case refused => rw [exec_sysFabricSizeWrite_of_accepts h, Dev.shapeWrite_of_fails hfails]

end Sys2Proof.Machine
end

section
/-! SUPPORT. Wait queues (R210, R211): what an enqueue does where there is room and where there is none. -/

namespace Sys2Proof.Machine

/-- An internal output that marks nothing and has room takes the frame unmarked. -/
theorem Dev.enqueue_internal {d : Dev} {out : Nat} (h : 514 ≤ out)
    (hroom : d.outputUsed out < d.get .xbar_mirror_res_oq_int (out - 512) * 256) (f : Frame) (pin : Option (Nat × Nat)) :
    d.enqueue f out pin = (d.pushEgress { out := out, cls := f.hdr.cls, fid := f.id, cells := f.cells }, .done) := by
  unfold Dev.enqueue
  rw [if_pos (by omega), if_neg (by omega), if_neg (by omega)]

theorem Dev.enqueue_internal_full {d : Dev} {out : Nat} (h : 512 ≤ out)
    (hfull : d.get .xbar_mirror_res_oq_int (out - 512) * 256 ≤ d.outputUsed out) (f : Frame) (pin : Option (Nat × Nat)) :
    d.enqueue f out pin = (d, .full) := by
  unfold Dev.enqueue
  rw [if_pos h, if_pos hfull]

/-- Mode NORMAL drops nothing early (R219). -/
theorem Dev.redHit_of_normal {d : Dev} {out : Nat} (h : d.get .xbar_port_mode_svc_mode out = 0) (f : Frame) :
    d.redHit f out = (d, false) := by
  simp [Dev.redHit, h]

/-- A port in mode NORMAL that does not mark the class of the frame and has room for it takes it unmarked. -/
theorem Dev.enqueue_port {d : Dev} {f : Frame} {out : Nat} (h : out < 512)
    (hroom : d.outUsed out f.hdr.cls < d.get .xbar_eq_eq (8 * out + f.hdr.cls)) (hmode : d.get .xbar_port_mode_svc_mode out = 0)
    (hmark : d.bitOf .sched_port_cfg_mark_mask out f.hdr.cls = false) (pin : Option (Nat × Nat)) :
    d.enqueue f out pin = (d.pushEgress { out := out, cls := f.hdr.cls, fid := f.id, cells := f.cells, pin := pin }, .done) := by
  unfold Dev.enqueue
  rw [if_neg (by omega), if_neg (by omega), Dev.redHit_of_normal hmode]
  simp only [hmark]
  rfl

theorem Dev.enqueue_port_full {d : Dev} {f : Frame} {out : Nat} (h : out < 512)
    (hfull : d.get .xbar_eq_eq (8 * out + f.hdr.cls) ≤ d.outUsed out f.hdr.cls) (pin : Option (Nat × Nat)) :
    d.enqueue f out pin = (d, .full) := by
  unfold Dev.enqueue
  rw [if_neg (by omega), if_pos hfull]

/-- The choice of a link moves nothing but the round-robin pointers. -/
theorem Dev.pickLink_rr (d : Dev) (key : Nat) (f : Frame) : ∃ rr, (d.pickLink key f).1 = { d with rr := rr } := by
  unfold Dev.pickLink
  dsimp only
  split
  · exact ⟨d.rr, rfl⟩
  · split
    · exact ⟨_, rfl⟩
    · split
      · exact ⟨d.rr, rfl⟩
      · exact ⟨d.rr, rfl⟩

theorem exec_waitQueueEnqueue {s : State} {inp : Fin 517} {cls : Fin 8} {t : WaitTarget} {w : Wait}
    (h : s.dev.waitHead inp cls (waitIs t) = some w) :
    exec (.waitQueueEnqueue inp cls t) s = .next (s.endsX (s.dev.serveWait w)) := by
  have hrun : exec (.waitQueueEnqueue inp cls t) s = .next (s.endsX (match s.dev.waitHead inp cls (waitIs t) with
    | some w => s.dev.serveWait w
    | none => s.dev)) := rfl
  rw [hrun, h]

section
variable {d e : Dev} {w : Wait} {f : Frame}

theorem Dev.serveWait_internal_done {out : Nat} (hf : d.frame w.fid = some f) (ht : w.target = .internal out)
    (he : d.enqueue f out none = (e, .done)) : d.serveWait w = (e.leaveWait f.id).settleInternal := by
  simp only [Dev.serveWait, hf, ht, he]

theorem Dev.serveWait_internal_full {out : Nat} (hf : d.frame w.fid = some f) (ht : w.target = .internal out)
    (he : d.enqueue f out none = (e, .full)) : d.serveWait w = e.eqHold out f.hdr := by
  simp only [Dev.serveWait, hf, ht, he]

theorem Dev.serveWait_bundle {key : Nat} (hf : d.frame w.fid = some f) (ht : w.target = .bundle key) :
    d.serveWait w = d.unicastHead f key := by
  simp only [Dev.serveWait, hf, ht]

variable {key p : Nat} {pin : Option (Nat × Nat)}

theorem Dev.unicastHead_done (hpick : (d.pickLink key f).2 = .link p pin) (he : (d.pickLink key f).1.enqueue f p pin = (e, .done)) :
    d.unicastHead f key = e.leaveWait f.id := by
  unfold Dev.unicastHead
  generalize d.pickLink key f = x at hpick he ⊢
  obtain ⟨g, pick⟩ := x
  simp only at hpick he
  simp only [hpick, he]

theorem Dev.unicastHead_full (hpick : (d.pickLink key f).2 = .link p pin) (he : (d.pickLink key f).1.enqueue f p pin = (e, .full)) :
    d.unicastHead f key = e.eqHold p f.hdr := by
  unfold Dev.unicastHead
  generalize d.pickLink key f = x at hpick he ⊢
  obtain ⟨g, pick⟩ := x
  simp only at hpick he
  simp only [hpick, he]
end

/-- A head that takes its link while a link has room for it (R210, R219). -/
theorem Dev.unicastHead_of_room {d : Dev} {f : Frame} {key p : Nat} {pin : Option (Nat × Nat)}
    (hpick : (d.pickLink key f).2 = .link p pin) (hp : p < 512) (hroom : d.outUsed p f.hdr.cls < d.get .xbar_eq_eq (8 * p + f.hdr.cls))
    (hmode : d.get .xbar_port_mode_svc_mode p = 0) (hmark : d.bitOf .sched_port_cfg_mark_mask p f.hdr.cls = false) :
    d.unicastHead f key =
      ((d.pickLink key f).1.pushEgress { out := p, cls := f.hdr.cls, fid := f.id, cells := f.cells, pin := pin }).leaveWait f.id := by
  obtain ⟨rr, hrr⟩ := d.pickLink_rr key f
  exact Dev.unicastHead_done hpick (Dev.enqueue_port hp (by rw [hrr]; exact hroom) (by rw [hrr]; exact hmode)
    (by rw [hrr]; exact hmark) pin)

theorem Dev.unicastHead_of_full {d : Dev} {f : Frame} {key p : Nat} {pin : Option (Nat × Nat)}
    (hpick : (d.pickLink key f).2 = .link p pin) (hp : p < 512)
    (hfull : d.get .xbar_eq_eq (8 * p + f.hdr.cls) ≤ d.outUsed p f.hdr.cls) :
    d.unicastHead f key = (d.pickLink key f).1.count p .EQ_HOLD 1 f.hdr.attr := by
  obtain ⟨rr, hrr⟩ := d.pickLink_rr key f
  rw [Dev.unicastHead_full hpick (Dev.enqueue_port_full hp (by rw [hrr]; exact hfull) pin), Dev.eqHold, if_pos hp]

end Sys2Proof.Machine
end

section
/-! SUPPORT. The scheduling decision and the frame that starts (R234 to R238, R402), the end of a frame (R207, R496), the drain of a
fenced port (R222). -/

namespace Sys2Proof.Machine

/-! ### Parts of the block in view -/

theorem Dev.Confined.blur {v w : Dev → Dev} {own : List Fld} {d e : Dev} (h : d.Confined v own e) (hw : ∀ x, w (v x) = w x) :
    d.Confined w own e :=
  ⟨h.fields, by rw [← hw, h.rest, hw]⟩

/-- What is in view is the same. -/
theorem Dev.Confined.part {α : Type} {view : Dev → Dev} {own : List Fld} {d e : Dev} (h : d.Confined view own e) (p : Dev → α)
    (hp : ∀ x : Dev, p (view x.rest) = p x) : p e = p d := by
  rw [← hp, h.rest, hp]

/-- The block without the deficits of the classes. -/
def Dev.lessDeficits (d : Dev) : Dev := { d with deficits := {} }

/-- The block without what a frame that starts may change: frames, queues, deficits, messages. -/
def Dev.lessFrames (d : Dev) : Dev :=
  { d with
    frames := [], nextFid := 0, waits := [], egress := [], sending := {}, deficits := {}, undeliv := [], sent := [] }

/-- The device with the frames, queues, deficits and messages of `e`. -/
def Dev.withFrames (d e : Dev) : Dev :=
  { d with
    frames := e.frames, nextFid := e.nextFid, waits := e.waits, egress := e.egress, sending := e.sending,
    deficits := e.deficits, undeliv := e.undeliv, sent := e.sent }

theorem Dev.Confined.rest_lessFrames {own : List Fld} {d e : Dev} (h : d.Confined Dev.lessFrames own e) :
    e.rest = (d.withFrames e).rest :=
  calc e.rest
    _ = e.rest.lessFrames.withFrames e := rfl
    _ = d.rest.lessFrames.withFrames e := by rw [h.rest]
    _ = (d.withFrames e).rest := rfl

/-! ### The class that sends (R236, R237) -/

/-- The fields of the procedure of R237. -/
def pickFlds : List Fld := [.h_sch_ptr, .h_sch_fresh] ++ countFlds

theorem Dev.setDeficit_confined (d : Dev) (n c v : Nat) : d.Confined Dev.lessDeficits pickFlds (d.setDeficit n c v) :=
  .same (.refl d) rfl rfl

theorem Dev.dwrrStep_confined (d : Dev) (n c : Nat) (elig empty : Nat → Bool) :
    d.Confined Dev.lessDeficits pickFlds (d.dwrrStep n c elig empty).1 := by
  unfold Dev.dwrrStep
  extract_lets fresh on e
  have hgain : d.Confined Dev.lessDeficits pickFlds e :=
    .ite ((Dev.putB_confined _ (by decide) ..).after (d.setDeficit_confined ..)) (.refl d)
  split
  · exact ((Dev.set_confined _ (by decide) ..).after (e.setDeficit_confined ..)).after hgain
  · exact ((Dev.putB_confined _ (by decide) ..).after (.ite (e.setDeficit_confined ..) (.refl e))).after hgain

theorem Dev.dwrr_confined (d : Dev) (n : Nat) (elig empty : Nat → Bool) (fuel c : Nat) :
    d.Confined Dev.lessDeficits pickFlds (d.dwrr n elig empty fuel c).1 := by
  induction fuel generalizing d c with
  | zero => exact .refl d
  | succ fuel ih =>
    have hstep := d.dwrrStep_confined n c elig empty
    unfold Dev.dwrr
    generalize d.dwrrStep n c elig empty = x at hstep ⊢
    obtain ⟨e, sends⟩ := x
    cases sends with
    | true => exact hstep
    | false => exact (ih e _).after hstep

theorem Dev.pickClass_confined (d : Dev) (n : Nat) : d.Confined Dev.lessDeficits pickFlds (d.pickClass n).1 := by
  unfold Dev.pickClass
  extract_lets st elig empty e
  have hheld : d.Confined Dev.lessDeficits pickFlds e :=
    .foldl (fun d c => .ite ((d.count_confined ..).mono (List.subset_append_right _ _)) (.refl d)) _ d
  split
  · exact hheld
  · split
    · exact (e.dwrr_confined ..).after hheld
    · exact hheld

/-- Frames and queues are those before the class was chosen. -/
theorem Dev.portHead_of_lessDeficits {own : List Fld} {d e : Dev} (h : d.Confined Dev.lessDeficits own e) (n c : Nat) :
    e.portHead n c = d.portHead n c := by
  simp only [Dev.portHead, Dev.frame, h.part Dev.egress (fun _ => rfl), h.part Dev.frames (fun _ => rfl)]

/-! ### The frame that starts -/

/-- The fields a frame that starts takes credit, tokens and its timestamp from. -/
def startFlds : List Fld := [.port_credit_sent, .h_shp_tok, .h_shp_t, .h_treq_t1]

/-- The block without its frames. -/
def Dev.lessFrameTable (d : Dev) : Dev := { d with frames := [] }

theorem Dev.stampTime_confined (d : Dev) (n : Nat) (f : Frame) : d.Confined Dev.lessFrameTable startFlds (d.stampTime n f) := by
  have hmap (g : Frame → Frame) : d.Confined Dev.lessFrameTable startFlds (d.mapFrame f.id g) := .same (.refl d) rfl rfl
  unfold Dev.stampTime
  exact .ite (.after (.foldl (fun d k => .ite (d.set_confined (by decide) ..) (.refl d)) _ _) (hmap _)) (.refl d)

/-- The credit and the tokens that a frame of class `c` on port `n` takes. -/
def Dev.pays (d : Dev) (n c cells len : Nat) : Dev :=
  let d := if d.role n = roleANALYSIS then d else d.incr .port_credit_sent (8 * n + c) cells
  if d.flag .sched_shaper_shape_en (8 * n + c) then d.putTokens n c (d.shaperTokens n c - d.countedLen n c len * 8000) else d

theorem Dev.pays_confined {view : Dev → Dev} (d : Dev) (n c cells len : Nat) :
    d.Confined view startFlds (d.pays n c cells len) := by
  unfold Dev.pays
  refine .after (.ite (Dev.setMany_confined _ _ (by simp [startFlds])) (.refl _)) (.ite (.refl d) (d.set_confined (by decide) ..))

/-- The device with its head gone from the queue, sent with header `h`. -/
def Dev.sends (d : Dev) (n c : Nat) (q : EqEntry) (f : Frame) (h : Hdr) : Dev :=
  { d with egress := removeEntry q d.egress, sending := d.sending.set n none (some { fid := f.id, cls := c, hdr := h }) }

/-- A head without errors in its cells starts: stamped, taken from its queue, paid for, mirrored. -/
theorem Dev.startHead_ok {d : Dev} {n c : Nat} {q : EqEntry} {f : Frame} (h : d.portHead n c = some (q, f)) :
    d.startHead n c .ok =
      (((d.stampTime n f).sends n c q f (d.outHdr n f.hdr q.mark)).pays n c f.cells (d.outHdr n f.hdr q.mark).length).egressMirror n
        (((((d.stampTime n f).sends n c q f (d.outHdr n f.hdr q.mark)).pays n c f.cells (d.outHdr n f.hdr q.mark).length).frame
          f.id).getD f) (d.outHdr n f.hdr q.mark) := by
  unfold Dev.startHead
  rw [h]
  rfl

theorem Dev.egressMirror_of_off {d : Dev} {n : Nat} (h : d.flag .xbar_port_mirror_egr_en n = false) (f : Frame) (x : Hdr) :
    d.egressMirror n f x = d := by
  rw [Dev.egressMirror, h]
  rfl

theorem Dev.Confined.flag_eq {view : Dev → Dev} {own : List Fld} {d e : Dev} (h : d.Confined view own e) {f : Fld} (hf : f ∉ own)
    (i : Nat) : e.flag f i = d.flag f i := by
  simp only [Dev.flag, h.fields f i hf]

/-- What a head that starts changes where the port mirrors nothing. -/
theorem Dev.startHead_confined {d : Dev} {n c : Nat} {q : EqEntry} {f : Frame} (h : d.portHead n c = some (q, f))
    (hmir : d.flag .xbar_port_mirror_egr_en n = false) :
    d.Confined Dev.lessFrames startFlds (d.startHead n c .ok) ∧
      (d.startHead n c .ok).sending.getOpt n = some { fid := f.id, cls := c, hdr := d.outHdr n f.hdr q.mark } ∧
      (d.startHead n c .ok).egress = removeEntry q d.egress := by
  rw [Dev.startHead_ok h]
  generalize d.outHdr n f.hdr q.mark = x
  have hstamp := d.stampTime_confined n f
  generalize d.stampTime n f = e at hstamp ⊢
  have hpays := (e.sends n c q f x).pays_confined (view := id) n c f.cells x.length
  generalize (e.sends n c q f x).pays n c f.cells x.length = g at hpays ⊢
  have hall : d.Confined Dev.lessFrames startFlds g := hpays.hide.after (.same (hstamp.blur (fun _ => rfl)) rfl rfl)
  rw [Dev.egressMirror_of_off (by rw [hall.flag_eq (by decide), hmir])]
  refine ⟨hall, ?_, ?_⟩
  · rw [hpays.part Dev.sending (fun _ => rfl), Dev.sends, SMap.getOpt_set_same]
  · rw [hpays.part Dev.egress (fun _ => rfl), Dev.sends, hstamp.part Dev.egress (fun _ => rfl)]

theorem exec_schedDecision (s : State) (port : Fin 512) (cell : CellRead) :
    exec (.schedDecision port cell) s = .next (s.endsX (s.dev.schedule port (cellOf cell))) := rfl

/-- A decision of a port that is free to send, with a class that may. -/
theorem Dev.schedule_of_picks {d : Dev} {n c : Nat} (h : d.sending.getOpt n = none ∧ d.fenced n = false ∧ d.passWaits n = false ∧
    (d.linkStatus n = lsADMITTED ∨ d.linkStatus n = lsTX_ONLY)) (hpick : (d.pickClass n).2 = some c) (cell : Cell) :
    d.schedule n cell = (d.pickClass n).1.startHead n c cell := by
  obtain ⟨hfree, hfenced, hpass, hup⟩ := h
  have hup' : (d.linkStatus n == lsADMITTED || d.linkStatus n == lsTX_ONLY) = true := by simpa using hup
  unfold Dev.schedule
  generalize d.pickClass n = x at hpick ⊢
  obtain ⟨e, pick⟩ := x
  simp only at hpick
  simp [hfree, hfenced, hpass, hup', hpick]

/-- The decision of a port without egress mirroring. -/
theorem Dev.decision_confined {d : Dev} {n c : Nat} {q : EqEntry} {f : Frame} (h : d.portHead n c = some (q, f))
    (hmir : d.flag .xbar_port_mirror_egr_en n = false) :
    d.Confined Dev.lessFrames (startFlds ++ pickFlds) ((d.pickClass n).1.startHead n c .ok) ∧
      ((d.pickClass n).1.startHead n c .ok).sending.getOpt n = some { fid := f.id, cls := c, hdr := d.outHdr n f.hdr q.mark } ∧
      ((d.pickClass n).1.startHead n c .ok).egress = removeEntry q d.egress := by
  have hpick := d.pickClass_confined n
  generalize (d.pickClass n).1 = e at hpick ⊢
  have hrole : e.role n = d.role n := hpick.fields .port_cfg_role n (by decide)
  have hhdr : e.outHdr n f.hdr q.mark = d.outHdr n f.hdr q.mark := by rw [Dev.outHdr, Dev.outHdr, hrole]
  obtain ⟨hall, hsending, hqueue⟩ := Dev.startHead_confined ((Dev.portHead_of_lessDeficits hpick n c).trans h)
    ((hpick.flag_eq (by decide) n).trans hmir)
  rw [hhdr] at hsending
  rw [hpick.part Dev.egress (fun _ => rfl)] at hqueue
  exact ⟨(hall.mono (List.subset_append_left _ _)).after ((hpick.blur (fun _ => rfl)).mono (List.subset_append_right _ _)),
    hsending, hqueue⟩

end Sys2Proof.Machine
end

section
/-! SUPPORT. The end of a frame (R207, R496), the drain of a fenced port (R222), and with them what FramesOut states. -/

namespace Sys2Proof.Machine

/-- A slot that is dark stays so whatever is counted and sent. -/
theorem Dev.analysisDark_of_counts {d e : Dev} (h : d.Keeps e countFlds) (n : Nat) : e.analysisDark n = d.analysisDark n := by
  have hget (f : Fld) (i : Nat) (hf : f ∉ countFlds) : e.get f i = d.get f i := h f i hf
  have hrole : e.role n = d.role n := hget _ n (by decide)
  have hsvc : e.boundSvc n = d.boundSvc n := by simp (disch := decide) only [Dev.boundSvc, Dev.flag, hget]
  have hseq (s : Nat) : e.seqDark (n / 8) s = d.seqDark (n / 8) s := by
    rw [Dev.seqDark, Dev.seqDark, hget .las_oct_status_phase _ (by decide), hget .las_oct_status_slot _ (by decide)]
  have hdrops (c : Nat) : e.circDrops c = d.circDrops c := by simp (disch := decide) only [Dev.circDrops, hget]
  have hlit : e.litRole n = d.litRole n := by rw [Dev.litRole, Dev.litRole, hrole, hsvc]
  simp (disch := decide) only [Dev.analysisDark, hrole, hsvc, hseq, hlit, hdrops, Dev.txMap, Dev.slotParked, Dev.slotLit,
    Dev.feedOpen, Dev.dfb, Dev.activeB, Dev.bitOf, hget]

theorem Dev.slots_fldsOnly (d : Dev) (p kind n : Nat) : d.FldsOnly (d.slots p kind n) :=
  (d.count_fldsOnly ..).trans ((Dev.count_fldsOnly ..).trans (Dev.winAdd_fldsOnly ..))

/-- A unit boundary where no link-control frame waits. -/
theorem Dev.unitEnd_of_none_waits {d : Dev} {n : Nat} (h : d.lcWait.get n [] = []) :
    d.unitEnd n = { d with sending := d.sending.set n none none, lcWait := d.lcWait.set n [] [] } := by
  rw [Dev.unitEnd, h]
  rfl

/-- What the end of a complete frame counts on a port of the fabric: the frame, its bytes, its slots. -/
def Dev.txCounted (d : Dev) (n : Nat) (x : Sending) (f : Frame) : Dev :=
  ((((d.emit (.frame n x.hdr.words f.payload x.stomp)).count n .TX_FRAMES 1 x.hdr.attr).count n .TX_BYTES
    (linkBytes x.hdr.length) x.hdr.attr).winAdd .h_win_tx_bytes 4 n (linkBytes x.hdr.length)).slots n (b2n x.stomp)
    (linkBytes x.hdr.length / 4)

/-- Counting leaves what is being sent and what waits as they were. -/
theorem Dev.txCounted_parts (d : Dev) (n : Nat) (x : Sending) (f : Frame) :
    (d.txCounted n x f).sending = d.sending ∧ (d.txCounted n x f).lcWait = d.lcWait := by
  have h : (d.emit (.frame n x.hdr.words f.payload x.stomp)).FldsOnly (d.txCounted n x f) :=
    (Dev.count_fldsOnly ..).trans ((Dev.count_fldsOnly ..).trans ((Dev.winAdd_fldsOnly ..).trans (Dev.slots_fldsOnly ..)))
  unfold Dev.FldsOnly at h
  rw [h]
  exact ⟨rfl, rfl⟩

theorem Dev.txEnd_of_complete {d : Dev} {n : Nat} {x : Sending} {f : Frame} (hx : d.sending.getOpt n = some x)
    (hf : d.frame x.fid = some f) (hdone : f.complete = true) (hsvc : d.boundSvc n = none) (hdark : d.analysisDark n = false) :
    d.txEnd n .ok = ((d.txCounted n x f).unitEnd n).releaseRef x.fid := by
  have hlit : (((d.emit (.frame n x.hdr.words f.payload x.stomp)).count n .TX_FRAMES 1 x.hdr.attr).count n .TX_BYTES
      (linkBytes x.hdr.length) x.hdr.attr).analysisDark n = false := by
    have hcounts := ((Dev.count_confined (view := id) ((d.emit (.frame n x.hdr.words f.payload x.stomp)).count n .TX_FRAMES 1 x.hdr.attr)
      n .TX_BYTES (linkBytes x.hdr.length) x.hdr.attr).after (Dev.count_confined ..)).fields
    rw [Dev.analysisDark_of_counts hcounts]
    exact hdark
  unfold Dev.txEnd
  simp only [hx, hf, hdone, hsvc, hlit]
  rfl

theorem exec_frameTxEnd (s : State) (port : Fin 512) (cell : CellRead) :
    exec (.frameTxEnd port cell) s = .next (s.endsX (s.dev.txEnd port (cellOf cell))) := rfl

theorem exec_fencedDrain (s : State) (port : Fin 512) (cls : Fin 8) :
    exec (.fencedDrain port cls) s = .next (s.endsX (s.dev.fencedDrain port cls)) := rfl

theorem Dev.fencedDrain_of_head {d : Dev} {n c : Nat} {q : EqEntry} {f : Frame} (hfenced : d.fenced n = true)
    (h : d.portHead n c = some (q, f)) :
    d.fencedDrain n c = (({ d.count n (if f.mc then .UMBRA_DISCARD else .FENCED_DISCARD) 1 f.hdr.attr with
      egress := removeEntry q d.egress } : Dev).undelivered n f.hdr).releaseRef f.id := by
  have hcount := d.count_confined (view := id) n (if f.mc then .UMBRA_DISCARD else .FENCED_DISCARD) 1 f.hdr.attr
  unfold Dev.fencedDrain
  rw [← hcount.part Dev.egress (fun _ => rfl)]
  simp only [hfenced, h]
  rfl

theorem exec_serviceModeEnd (s : State) (port : Fin 512) :
    exec (.serviceModeEnd port) s = .next (s.endsX (if s.dev.get .xbar_port_mode_svc_mode port = 1 ∨
      s.dev.get .xbar_port_mode_svc_mode port = 3 then s.dev.set .xbar_port_mode_svc_mode port 0 else s.dev)) := rfl

theorem exec_xbarPortModeWrite_of_accepts {s : State} {m : Mark} {port : Fin 512} {v : Word}
    (h : s.dev.accepts (.xbarPortModeWrite m port v) = true) :
    exec (.xbarPortModeWrite m port v) s = .next (s.ends (s.dev.writeFields rowXBAR_PORT_MODE port v.toNat []).ok) := by
  rw [← Dev.hostWrite_of_accepts rfl h (fun _ v bad d => d.writeFields rowXBAR_PORT_MODE port v bad)]
  rfl

/-- What a decision may change is what the obligation lists. -/
theorem decisionFlds_subset : startFlds ++ pickFlds ⊆ creditFlds ++ countFlds ++ ([.port_credit_sent, .xbar_mir_stats_dropped,
    .xbar_mir_stats_sent, .h_sch_ptr, .h_sch_fresh, .h_shp_tok, .h_shp_t, .h_mir_cnt, .h_treq_t1] : List Fld) := by decide

/-- Settles O31: an enqueue where there is room and where there is none, the frame that the procedure of R237 starts, the counts of
a frame that has left, a fenced port's discards. -/
theorem framesOut : Obligations.FramesOut := by
  intro s
  refine ⟨fun inp cls t w f out hw hroom => ?internal, fun inp cls t w f out hw hfull => ?internalFull,
    fun inp cls t w f key p pin hw hpick hroom => ?link, fun inp cls t w f key p pin hw hpick hfull => ?linkFull,
    fun port cell c hfree hpick => ?decision, fun port cell c q f hfree hpick hok => ?starts,
    fun port cell x f hx hok => ?sent, fun port cls q f h => ?drain, fun port h => ?mode,
    fun m port v h => exec_xbarPortModeWrite_of_accepts h⟩
  case internal =>
    obtain ⟨hhead, hf, ht⟩ := hw
    obtain ⟨hout, hroom⟩ := hroom
    rw [exec_waitQueueEnqueue hhead, Dev.serveWait_internal_done hf ht (Dev.enqueue_internal hout hroom f none)]
  case internalFull =>
    obtain ⟨hhead, hf, ht⟩ := hw
    obtain ⟨hout, hfull⟩ := hfull
    rw [exec_waitQueueEnqueue hhead, Dev.serveWait_internal_full hf ht (Dev.enqueue_internal_full (by omega) hfull f none),
      Dev.eqHold, if_neg (by omega)]
  case link =>
    obtain ⟨hhead, hf, ht⟩ := hw
    obtain ⟨hlink, hp⟩ := hpick
    obtain ⟨hroom, hmode, hmark⟩ := hroom
    rw [exec_waitQueueEnqueue hhead, Dev.serveWait_bundle hf ht, Dev.unicastHead_of_room hlink hp hroom hmode hmark]
  case linkFull =>
    obtain ⟨hhead, hf, ht⟩ := hw
    obtain ⟨hlink, hp⟩ := hpick
    rw [exec_waitQueueEnqueue hhead, Dev.serveWait_bundle hf ht, Dev.unicastHead_of_full hlink hp hfull]
  case decision => rw [exec_schedDecision, Dev.schedule_of_picks hfree hpick]
  case starts =>
    obtain ⟨hclass, hhead⟩ := hpick
    obtain ⟨rfl, hmir⟩ := hok
    obtain ⟨hall, hsending, hqueue⟩ := Dev.decision_confined hhead hmir
    refine ⟨_, ?_, ⟨hsending, hqueue⟩, hall.fields.mono decisionFlds_subset, hall.rest_lessFrames⟩
    rw [exec_schedDecision, Dev.schedule_of_picks hfree hclass]
    rfl
  case sent =>
    obtain ⟨hsending, hf, hdone⟩ := hx
    obtain ⟨rfl, hsvc, hwait, hdark⟩ := hok
    obtain ⟨hsame, hwaits⟩ := s.dev.txCounted_parts port x f
    rw [exec_frameTxEnd, cellOf, Dev.txEnd_of_complete hsending hf hdone hsvc hdark,
      Dev.unitEnd_of_none_waits (by rw [hwaits, hwait]), hsame, hwaits]
    rfl
  case drain =>
    obtain ⟨hfenced, hhead⟩ := h
    rw [exec_fencedDrain, Dev.fencedDrain_of_head hfenced hhead]
  case mode => rw [exec_serviceModeEnd, if_pos h]

end Sys2Proof.Machine
end

section
/-! SUPPORT. Link-control frames, the bundle of a port, the comparison of identities and revisions (R51, R59 to R64, R145, R156): the
fields they write, and the parts of the block they touch besides: frames that wait for a unit boundary, indirection tables, held
REVs, messages. -/

namespace Sys2Proof.Machine

/-- The block without what an exchange on a link touches besides fields. -/
def Dev.lessLink (d : Dev) : Dev := { d with lcWait := {}, indir := {}, heldRev := {}, sent := [] }

/-- The fields that the comparison of identities and revisions writes, and what is counted on the way. -/
def linkFlds : List Fld :=
  [.port_status_stencil_status, .port_status_fence_mask, .port_status_link_status, .port_status_agreed_features, .h_swap_watch,
   .port_nbr_ext_partner_rev, .h_partner_mask, .h_rev_known, .opt_margin_status_request_pending, .h_win_partial, .port_credit_sent,
   .port_credit_returned, .h_credit_rcvd, .h_credit_sent, .h_admit_sent, .h_admit_rcvd] ++ slotFlds ++ countFlds

section
variable {view : Dev → Dev}

theorem Dev.count_link (d : Dev) (b : Nat) (e : Ev) (n : Nat) (a : Attr) : d.Confined view linkFlds (d.count b e n a) :=
  (d.count_confined b e n a).mono (List.subset_append_right _ _)

theorem Dev.winAdd_link (d : Dev) {f : Fld} (hf : f ∈ linkFlds) (k p n : Nat) : d.Confined view linkFlds (d.winAdd f k p n) := by
  unfold Dev.winAdd
  refine .ite (.refl d) (.ite ?_ (d.set_confined hf ..))
  exact (Dev.putB_confined _ (by decide) ..).after (d.set_confined hf ..)

theorem Dev.slots_link (d : Dev) (p kind n : Nat) : d.Confined view linkFlds (d.slots p kind n) := by
  unfold Dev.slots
  refine .after (Dev.winAdd_link _ ?_ ..) ((Dev.count_link ..).after (d.count_link ..))
  split <;> decide

theorem Dev.setLink_link (d : Dev) (n v : Nat) : d.Confined view linkFlds (d.setLink n v) := by
  unfold Dev.setLink
  exact (Dev.set_confined _ (by decide) ..).after
    (.after (.ite (Dev.set_confined _ (by decide) ..) (.refl _)) (.ite (.refl d) (d.set_confined (by decide) ..)))
end

/-! ### Link-control frames (R145, R152) -/

theorem Dev.emit_link {own : List Fld} (d : Dev) (e : Emit) : d.Confined Dev.lessLink own (d.emit e) := .same (.refl d) rfl rfl

theorem Dev.lcPut_link (d : Dev) (p ty : Nat) (body : List Nat) : d.Confined Dev.lessLink linkFlds (d.lcPut p ty body) := by
  unfold Dev.lcPut
  dsimp only
  split
  · exact .ite ((Dev.slots_link ..).after (d.emit_link _)) (d.emit_link _)
  · exact .ite ((Dev.slots_link ..).after (d.emit_link _)) (d.emit_link _)

theorem Dev.sendLc_link (d : Dev) (p ty : Nat) (body : List Nat) : d.Confined Dev.lessLink linkFlds (d.sendLc p ty body) := by
  unfold Dev.sendLc
  exact .ite (.same (.refl d) rfl rfl) (d.lcPut_link ..)

theorem Dev.sendRev_link (d : Dev) (n : Nat) : d.Confined Dev.lessLink linkFlds (d.sendRev n) := d.sendLc_link ..

/-! ### The bundle of a port (R51) -/

theorem Dev.refreshBundle_link (d : Dev) (key : Nat) : d.Confined Dev.lessLink linkFlds (d.refreshBundle key) := by
  have htable (t : List IndEntry) : d.Confined Dev.lessLink linkFlds { d with indir := d.indir.set key [] t } :=
    .same (.refl d) rfl rfl
  unfold Dev.refreshBundle
  refine .ite (htable _) (.ite (htable _) ?_)
  generalize d.reassign key (d.eligible key) (d.indir.get key []) = x
  exact .ite (htable _) ((Dev.count_link ..).after (htable _))

theorem Dev.refreshPort_link (d : Dev) (n : Nat) : d.Confined Dev.lessLink linkFlds (d.refreshPort n) := by
  unfold Dev.refreshPort
  split
  · exact d.refreshBundle_link _
  · exact .refl d

theorem Dev.unfence_link (d : Dev) (n cause : Nat) : d.Confined Dev.lessLink linkFlds (d.unfence n cause) :=
  (Dev.refreshPort_link ..).after (d.putB_confined (by decide) ..)

/-! ### Identities and revisions (R59 to R64) -/

theorem Dev.mismatch_link (d : Dev) (n code : Nat) (closest : Option Nat) :
    d.Confined Dev.lessLink linkFlds (d.mismatch n code closest) :=
  (Dev.raise_confined ..).after (d.setMany_confined _ (by simp [linkFlds]))

theorem Dev.watchersOf_link (d : Dev) (n : Nat) : d.Confined Dev.lessLink linkFlds (d.watchersOf n) := by
  unfold Dev.watchersOf
  refine .foldl (fun d a => ?_) _ d
  split
  · exact d.set_confined (by decide) ..
  · exact d.mismatch_link ..

theorem Dev.stencilMatch_link (d : Dev) (n : Nat) : d.Confined Dev.lessLink linkFlds (d.stencilMatch n) := by
  unfold Dev.stencilMatch
  refine (Dev.sendRev_link ..).after ((Dev.setLink_link ..).after ((Dev.unfence_link ..).after ((Dev.watchersOf_link ..).after ?_)))
  exact d.setMany_confined _ (by simp [linkFlds])

theorem Dev.toCreditInit_link (d : Dev) (n : Nat) : d.Confined Dev.lessLink linkFlds (d.toCreditInit n) := by
  unfold Dev.toCreditInit
  refine (Dev.setLink_link ..).after ((Dev.setMany_confined _ _ (by simp [linkFlds])).after (.foldl (fun d c => ?_) _ d))
  exact d.setMany_confined _ (by simp [linkFlds])

theorem Dev.judgeRev_link (d : Dev) (n : Nat) (b : RevBody) : d.Confined Dev.lessLink linkFlds (d.judgeRev n b) := by
  unfold Dev.judgeRev
  extract_lets rev e agreed
  have hkept : d.Confined Dev.lessLink linkFlds e := d.setMany_confined _ (by simp [linkFlds])
  split
  · exact ((Dev.toCreditInit_link ..).after (e.set_confined (by decide) ..)).after hkept
  · exact ((Dev.raise_confined ..).after (e.setLink_link ..)).after hkept

theorem Dev.heldRevNow_link (d : Dev) (n : Nat) : d.Confined Dev.lessLink linkFlds (d.heldRevNow n) := by
  have htaken (l : SMap (Option RevBody)) : d.Confined Dev.lessLink linkFlds { d with heldRev := l } := .same (.refl d) rfl rfl
  unfold Dev.heldRevNow
  split
  · exact .ite ((Dev.judgeRev_link ..).after (htaken _)) (.refl d)
  · exact .refl d

end Sys2Proof.Machine
end

section
/-! SUPPORT. The commands of PORT_CMD (R172): what each does to the port and what it shows. -/

namespace Sys2Proof.Machine

/-- The device after a command that is carried out, which shows itself and its result. -/
def Dev.cmdShown (d : Dev) (n cmd res : Nat) : Dev :=
  d.setMany [(.port_cmd_status_last_cmd, n, cmd), (.port_cmd_status_result, n, res)]

theorem Dev.portCmd_nop (d : Dev) (n : Nat) : (d.portCmd n 0).1 = d := rfl

theorem Dev.portCmd_fence (d : Dev) (n : Nat) : (d.portCmd n 1).1 = (d.fence n fcFABRIC).cmdShown n 1 0 := rfl

theorem Dev.portCmd_unfence {d : Dev} {n : Nat} (h : d.bitOf .port_status_fence_mask n fcFABRIC = true)
    (hstall : d.bitOf .port_status_fence_mask n fcCREDIT_STALL = false) :
    (d.portCmd n 2).1 = ((d.putB .port_status_fence_mask n fcFABRIC false).unfence n fcCREDIT_STALL).cmdShown n 2 0 := by
  simp only [Dev.portCmd, h, hstall]
  rfl

/-- ADMIT in ADMIT_WAIT, with its answer. -/
theorem Dev.portCmd_admit {d : Dev} {n : Nat} (h : d.linkStatus n = lsADMIT_WAIT) :
    d.portCmd n 3 = ((d.sendAdmit n).cmdShown n 3 0, 0) := by
  simp only [Dev.portCmd, h]
  rfl

theorem Dev.portCmd_admit_quarantined {d : Dev} {n : Nat} (h : d.linkStatus n = lsQUARANTINE) :
    d.portCmd n 3 = (d.set .port_cmd_status_result n 3, 3) := by
  simp only [Dev.portCmd, h]
  rfl

theorem Dev.portCmd_retry {d : Dev} {n : Nat} (h : d.linkStatus n = lsQUARANTINE) :
    (d.portCmd n 5).1 = ((d.setLink n lsREVISION).sendRev n).cmdShown n 5 0 := by
  simp only [Dev.portCmd, h]
  rfl

theorem Dev.portCmd_restart {d : Dev} {n : Nat} (hrole : d.upRole n = true)
    (h : d.linkStatus n ≠ lsADMITTED ∨ d.fenced n = true) :
    (d.portCmd n 6).1 = ((d.sendRestart n 0).toTrain n).cmdShown n 6 0 := by
  have hcut : ¬ (d.linkStatus n = lsADMITTED ∧ (!d.fenced n) = true) := by
    rintro ⟨hup, hfree⟩
    rcases h with h | h
    · exact h hup
    · simp [h] at hfree
  simp only [Dev.portCmd, if_neg hcut, hrole]
  rfl

theorem Dev.portCmd_rebalance {d : Dev} {n k : Nat} (h : d.bundleKey n = some k) :
    (d.portCmd n 7).1 = (d.rebalance k).cmdShown n 7 0 := by
  simp only [Dev.portCmd, h]
  rfl

/-! ### ACCEPT (R62) -/

/-- The announced identity taken for the stencil (R62). -/
def Dev.takeNeighbour (d : Dev) (n : Nat) : Dev :=
  d.setMany [(.port_stencil_0_nbr_kind, n, d.get .port_nbr_0_nbr_kind n), (.port_stencil_0_nbr_plane, n, d.get .port_nbr_0_nbr_plane n),
    (.port_stencil_0_nbr_id, n, d.get .port_nbr_0_nbr_id n), (.port_stencil_0_far_port, n, d.get .port_nbr_0_far_port n),
    (.port_stencil_1_nbr_serial, n, d.get .port_nbr_1_nbr_serial n), (.port_stencil_0_valid, n, 1)]

/-- The stencil after it has taken the announced identity: each field as wide as it is. -/
theorem Dev.takeNeighbour_gets (d : Dev) (n : Nat) :
    (d.takeNeighbour n).get .port_stencil_0_valid n = 1 ∧
      (d.takeNeighbour n).get .port_stencil_0_nbr_id n = d.get .port_nbr_0_nbr_id n % 2 ^ 24 ∧
      (d.takeNeighbour n).get .port_stencil_0_far_port n = d.get .port_nbr_0_far_port n % 2 ^ 16 ∧
      (d.takeNeighbour n).get .port_stencil_1_nbr_serial n = d.get .port_nbr_1_nbr_serial n % 2 ^ 64 := by
  refine ⟨?_, ?_, ?_, ?_⟩ <;>
    (simp (disch := decide) only [Dev.takeNeighbour, Dev.setMany_cons, Dev.setMany_nil, Dev.get_set_same, Dev.get_set_fld]; rfl)

/-- The comparison that follows, and its result. -/
def Dev.judgeTaken (d : Dev) (n : Nat) : Dev :=
  if d.firstFail n n = 0 then (d.stencilMatch n).heldRevNow n else d.mismatch n (d.firstFail n n) none
def Dev.judgedResult (d : Dev) (n : Nat) : Nat := if d.firstFail n n = 0 then 0 else 2

theorem Dev.portCmd_accept {d : Dev} {n : Nat} (h : d.linkStatus n = lsHELD) :
    (d.portCmd n 4).1 = ((d.takeNeighbour n).judgeTaken n).cmdShown n 4 ((d.takeNeighbour n).judgedResult n) := by
  unfold Dev.judgeTaken Dev.judgedResult
  by_cases hpass : (d.takeNeighbour n).firstFail n n = 0
  · rw [if_pos hpass, if_pos hpass]
    unfold Dev.takeNeighbour at hpass ⊢
    simp only [Dev.portCmd, h, hpass]
    rfl
  · rw [if_neg hpass, if_neg hpass]
    unfold Dev.takeNeighbour at hpass ⊢
    simp only [Dev.portCmd, h, hpass]
    rfl

theorem Dev.judgeTaken_link (d : Dev) (n : Nat) : d.Confined Dev.lessLink linkFlds (d.judgeTaken n) := by
  unfold Dev.judgeTaken
  exact .ite ((Dev.heldRevNow_link ..).after (d.stencilMatch_link n)) (d.mismatch_link ..)

/-- The fields of the stencil that ACCEPT writes, and those of PORT_CMD_STATUS. -/
def acceptFlds : List Fld :=
  [.port_stencil_0_nbr_kind, .port_stencil_0_nbr_plane, .port_stencil_0_nbr_id, .port_stencil_0_far_port, .port_stencil_1_nbr_serial,
   .port_stencil_0_valid, .port_cmd_status_last_cmd, .port_cmd_status_result] ++ linkFlds

/-- The device after ACCEPT and its answer. -/
def Dev.accepted (d : Dev) (n : Nat) : Dev :=
  (((d.takeNeighbour n).judgeTaken n).cmdShown n 4 ((d.takeNeighbour n).judgedResult n)).ok

theorem Dev.cmdShown_ok_confined (d : Dev) (n cmd res : Nat) : d.Confined Dev.lessLink (acceptFlds.drop 6) (d.cmdShown n cmd res).ok :=
  (Dev.emit_link ..).after (d.setMany_confined _ (by simp [acceptFlds]))

/-- After the stencil has taken the announced identity, ACCEPT changes what the comparison touches, and what it shows. -/
theorem Dev.accepted_confined (d : Dev) (n : Nat) :
    (d.takeNeighbour n).Confined Dev.lessLink (acceptFlds.drop 6) (d.accepted n) :=
  (Dev.cmdShown_ok_confined ..).after ((Dev.judgeTaken_link ..).mono (List.subset_append_right _ _))

theorem Dev.accepted_last_cmd (d : Dev) (n : Nat) : (d.accepted n).get .port_cmd_status_last_cmd n = 4 := by
  rw [Dev.accepted, Dev.ok, Dev.emit_get, Dev.cmdShown, Dev.setMany_cons, Dev.setMany_cons, Dev.setMany_nil,
    Dev.get_set_fld _ (by decide), Dev.get_set_same]
  rfl

/-- The block without what a port command may change besides fields. -/
def Dev.lessPort (d : Dev) : Dev :=
  { d with
    frames := [], waits := [], egress := [], lcWait := {}, sending := {}, receiving := {}, rxSpoilt := {}, undeliv := [],
    indir := {}, heldRev := {}, dips := {}, sent := [] }

/-- The device with those parts of `e`. -/
def Dev.withPort (d e : Dev) : Dev :=
  { d with
    frames := e.frames, waits := e.waits, egress := e.egress, lcWait := e.lcWait, sending := e.sending, receiving := e.receiving,
    rxSpoilt := e.rxSpoilt, undeliv := e.undeliv, indir := e.indir, heldRev := e.heldRev, dips := e.dips, sent := e.sent }

theorem Dev.Confined.rest_lessPort {own : List Fld} {d e : Dev} (h : d.Confined Dev.lessPort own e) :
    e.rest = (d.withPort e).rest :=
  calc e.rest
    _ = e.rest.lessPort.withPort e := rfl
    _ = d.rest.lessPort.withPort e := by rw [h.rest]
    _ = (d.withPort e).rest := rfl

theorem acceptFlds_subset : acceptFlds ⊆ fenceFlds ++ slotFlds ++ creditFlds ++ countFlds ++ ([.port_status_agreed_features,
    .port_status_stencil_status, .port_cmd_status_last_cmd, .port_cmd_status_result, .port_stencil_0_far_port, .port_stencil_0_nbr_id,
    .port_stencil_0_nbr_plane, .port_stencil_0_nbr_kind, .port_stencil_0_valid, .port_stencil_1_nbr_serial, .port_nbr_ext_partner_rev,
    .port_credit_returned, .port_credit_sent, .xbar_port_mode_svc_mode, .h_rev_known, .h_partner_mask, .h_admitted_once, .h_cw_run,
    .h_txcw_t0, .h_swap_watch, .h_sq_try, .h_sq_c] : List Fld) := by decide

/-- A command of PORT_CMD that passes its checks. -/
theorem portCmdWrite_of_accepts {s : State} {m : Mark} {port : Fin 512} {cmd : Nat} {c : Instr} {e : Dev} (h : s.dev.accepts c = true)
    (hw : writeOf c = some (m, rowPORT_CMD, port.val, cmd)) (he : (s.dev.portCmd port cmd).1 = e) :
    portCmdWrite m port cmd s = .next (s.endsX e.ok) := by
  rw [← he, ← Dev.hostWrite_of_accepts hw h (fun _ _ _ d => (d.portCmd port cmd).1)]
  rfl

/-- Settles O22: every command does what its lemma says, and ACCEPT touches the link alone. -/
theorem portCommands : Obligations.PortCommands := by
  intro s
  refine ⟨fun m port h => ?nop, fun m port h => ?fence, fun m port h hset hstall => ?unfence, fun m port h hwait => ?admission,
    fun m port h hquar => ?quarantined, fun m port h hheld => ?accept, fun m port h hquar => ?retry,
    fun m port h hup hcut => ?restart, fun m port k h hkey => ?rebalance⟩
  case nop => exact portCmdWrite_of_accepts h rfl (s.dev.portCmd_nop port)
  case fence => exact portCmdWrite_of_accepts h rfl (s.dev.portCmd_fence port)
  case unfence => exact portCmdWrite_of_accepts h rfl (Dev.portCmd_unfence hset hstall)
  case admission => exact portCmdWrite_of_accepts h rfl (congrArg Prod.fst (Dev.portCmd_admit hwait))
  case quarantined => exact portCmdWrite_of_accepts h rfl (congrArg Prod.fst (Dev.portCmd_admit_quarantined hquar))
  case accept =>
    have htaken := s.dev.accepted_confined port
    have hall : s.dev.Confined Dev.lessLink acceptFlds (s.dev.accepted port) :=
      (htaken.mono (List.drop_subset _ _)).after (s.dev.setMany_confined _ (by simp [acceptFlds]))
    obtain ⟨hvalid, hid, hfar, hserial⟩ := s.dev.takeNeighbour_gets port
    refine ⟨s.dev.accepted port, portCmdWrite_of_accepts h rfl (Dev.portCmd_accept hheld),
      ⟨(htaken.fields _ _ (by decide)).trans hvalid, (htaken.fields _ _ (by decide)).trans hid,
        (htaken.fields _ _ (by decide)).trans hfar, (htaken.fields _ _ (by decide)).trans hserial,
        s.dev.accepted_last_cmd port⟩, hall.fields.mono acceptFlds_subset, (hall.blur (fun _ => rfl)).rest_lessPort⟩
  case retry => exact portCmdWrite_of_accepts h rfl (Dev.portCmd_retry hquar)
  case restart => exact portCmdWrite_of_accepts h rfl (Dev.portCmd_restart hup.1 hcut)
  case rebalance => exact portCmdWrite_of_accepts h rfl (Dev.portCmd_rebalance hkey)

end Sys2Proof.Machine
end

section
/-! SUPPORT. An instruction of a group that issues (R435, R455, R456): the device that has been charged for it reads as before, its
object and its block pass their checks, and what is left is what the instruction does. -/

namespace Sys2Proof.Machine

/-! ### The charged device -/

/-- The block without its queues. -/
def Dev.lessQueues (d : Dev) : Dev := { d with queues := {} }

/-- The fields that follow a queue, and the counters of events. -/
def chargeFlds : List Fld :=
  [.csq_q_status_state, .csq_q_status_map_pending, .csq_q_status_buffered, .csq_q_cr_status_held] ++ countFlds

theorem Dev.putQueue_confined (d : Dev) (q : Nat) (x : Queue) : d.Confined Dev.lessQueues chargeFlds (d.putQueue q x) :=
  (Dev.setMany_confined _ _ (by simp [chargeFlds])).after (.same (.refl d) rfl rfl)

theorem Dev.onRun_confined (d : Dev) (q : Nat) (f : Entry → Entry) : d.Confined Dev.lessQueues chargeFlds (d.onRun q f) := by
  unfold Dev.onRun
  split
  · exact d.putQueue_confined ..
  · exact .refl d

theorem Dev.charged_confined (d : Dev) (q w : Nat) : d.Confined Dev.lessQueues chargeFlds (d.charged q w) :=
  ((Dev.count_confined ..).mono (List.subset_append_right _ _)).after (d.onRun_confined ..)

/-- Every field but those of the queue and the counters reads as before. -/
theorem Dev.charged_get (d : Dev) (q w : Nat) {f : Fld} (hf : f ∉ chargeFlds) (i : Nat) : (d.charged q w).get f i = d.get f i :=
  (d.charged_confined q w).fields f i hf

section
variable (d : Dev) (q w : Nat)

theorem Dev.charged_bitOf {f : Fld} (hf : f ∉ chargeFlds) (i k : Nat) : (d.charged q w).bitOf f i k = d.bitOf f i k := by
  rw [Dev.bitOf, d.charged_get q w hf, Dev.bitOf]

theorem Dev.charged_seqQueue : (d.charged q w).seqQueue = d.seqQueue := (d.charged_confined q w).part Dev.seqQueue (fun _ => rfl)

theorem Dev.charged_ready : (d.charged q w).ready = d.ready := by
  rw [Dev.ready, d.charged_get q w (by decide), Dev.ready]

theorem Dev.charged_domainOn (k : Nat) : (d.charged q w).domainOn k = d.domainOn k := by
  rw [Dev.domainOn, d.charged_bitOf q w (by decide), d.charged_get q w (by decide), Dev.domainOn]

theorem Dev.charged_offDomain (r : DomRule) (i : Nat) : (d.charged q w).offDomain r i = d.offDomain r i := by
  simp only [Dev.offDomain, d.charged_domainOn]

theorem Dev.charged_qAllowed (p cls lo hi : Nat) (use : Bool) : (d.charged q w).qAllowed p cls lo hi use = d.qAllowed p cls lo hi use := by
  simp (disch := decide) only [Dev.qAllowed, Dev.qPriv, Dev.qMap, d.charged_get]

theorem Dev.charged_qSeq (p : Nat) : (d.charged q w).qSeq p = d.qSeq p := d.charged_get q w (by decide) p

theorem Dev.charged_pathPort (n : Nat) : (d.charged q w).pathPort n = d.pathPort n := by
  simp (disch := decide) only [Dev.pathPort, Dev.pathBase, d.charged_get]

theorem Dev.charged_refusedFields (r : RegRow) (i v : Nat) : (d.charged q w).refusedFields r i v = d.refusedFields r i v := by
  simp (disch := decide) only [Dev.refusedFields, Dev.refusedMore, d.charged_get]

theorem Dev.charged_linkStatus (n : Nat) : (d.charged q w).linkStatus n = d.linkStatus n := d.charged_get q w (by decide) n

theorem Dev.charged_circState (c : Nat) : (d.charged q w).circState c = d.circState c := d.charged_get q w (by decide) c

theorem Dev.charged_seqRuns (o : Nat) : (d.charged q w).seqRuns o = d.seqRuns o := by
  rw [Dev.seqRuns, Dev.seqRuns, Dev.seqPhase, d.charged_get q w (by decide), Dev.seqPhase]

theorem Dev.charged_seqOwns (n : Nat) : (d.charged q w).seqOwns n = d.seqOwns n := by
  rw [Dev.seqOwns, d.charged_seqRuns, d.charged_bitOf q w (by decide), Dev.seqOwns]

theorem Dev.charged_seqHas (o s : Nat) : (d.charged q w).seqHas o s = d.seqHas o s := by
  rw [Dev.seqHas, d.charged_seqQueue, d.charged_seqRuns, d.charged_get q w (by decide), Dev.seqHas]

theorem Dev.charged_standbyUnused (o s : Nat) : (d.charged q w).standbyUnused o s = d.standbyUnused o s := by
  rw [Dev.standbyUnused, d.charged_bitOf q w (by decide), Dev.dfb, d.charged_get q w (by decide), Dev.standbyUnused, Dev.dfb]

theorem Dev.charged_circDrops (c : Nat) : (d.charged q w).circDrops c = d.circDrops c := by
  simp (disch := decide) only [Dev.circDrops, d.charged_get]

theorem Dev.charged_circUses (n r : Nat) : (d.charged q w).circUses n r = d.circUses n r := by
  unfold Dev.circUses Dev.circBusy
  simp (disch := decide) only [d.charged_circDrops, d.charged_get]

theorem Dev.charged_ringBusy (n r : Nat) : (d.charged q w).ringBusy n r = d.ringBusy n r := by
  simp (disch := decide) only [Dev.ringBusy, Dev.admitted, Dev.linkStatus, Dev.txMap, Dev.rxMap, d.charged_circUses, d.charged_get]
end

/-! ### The checks an instruction passes -/

/-- An object the instruction may use is handed on. -/
theorem Dev.drvObj_of_mayUse {d : Dev} {q w v : Nat} {e : Entry} (h : d.mayUse q w e v = true) (i : Nat) (k : Nat → Dev → Dev) :
    d.drvObj q w i e k = k v d := by
  cases hrow : dspec w with
  | none => simp [Dev.mayUse, hrow] at h
  | some row =>
    cases hobj : row.objOf w with
    | none =>
      simp only [Dev.mayUse, hrow, hobj, beq_iff_eq] at h
      simp only [Dev.drvObj, hrow, hobj, h]
    | some x =>
      obtain ⟨lo, wd, cls, low, high, use⟩ := x
      simp only [Dev.mayUse, hrow, hobj, Bool.and_eq_true, beq_iff_eq, decide_eq_true_eq, Bool.or_eq_true] at h
      obtain ⟨⟨⟨rfl, hlow⟩, hhigh⟩, hallowed⟩ := h
      simp only [Dev.drvObj, hrow, hobj]
      rw [if_neg (by omega), if_neg]
      rintro ⟨hb, hcls, hdenied⟩
      rcases hallowed with (hb0 | hcls0) | hok
      · exact hb hb0
      · exact hcls hcls0
      · rw [hok] at hdenied
        exact absurd hdenied (by decide)

theorem Dev.drvGate_of_on {d : Dev} {t : Target'} (hready : d.ready = true ∨ bootBlock (t.row.addr t.ix) = true)
    (hon : d.offDomain t.row.dom t.ix = none) (q w i code : Nat) (wr : Bool) (k : Dev → Dev) :
    d.drvGate q w i code wr t k = k d := by
  have hstage : (!d.ready && !bootBlock (t.row.addr t.ix)) = false := by
    rcases hready with h | h <;> simp [h]
  simp [Dev.drvGate, Dev.checkPower, hstage, hon]

/-- Where no field is refused, a write is what its effect says. -/
theorem Dev.drvWrite_of_takes {d : Dev} {t : Target'} {v : Nat} (h : d.refusedFields t.row t.ix v = []) (q : Nat)
    (f : List Nat → Dev → Dev × Nat) : d.drvWrite q t v f = f [] d := by
  simp [Dev.drvWrite, Dev.checkEncoding, h]

theorem Dev.mayUse_charged (d : Dev) (q w p y : Nat) (e : Entry) (v : Nat) : (d.charged p y).mayUse q w e v = d.mayUse q w e v := by
  simp only [Dev.mayUse, d.charged_qAllowed]

theorem dspec_of_mayUse {d : Dev} {q w v : Nat} {e : Entry} (h : d.mayUse q w e v = true) : ∃ row, dspec w = some row := by
  unfold Dev.mayUse at h
  split at h
  · contradiction
  · exact ⟨_, ‹_›⟩

end Sys2Proof.Machine
end

section
/-! SUPPORT. The PORT, XPR and LANE groups (R465, R466): an instruction of a group that issues is its write, its read or its operation
on the charged device. -/

namespace Sys2Proof.Machine

section
variable {d : Dev} {q op code w i v : Nat} {wr : Bool} {e : Entry} {t : Nat → Nat → Target'}

/-- An instruction whose checks pass does on the charged device what it says. -/
theorem Dev.dxRun_of_executes (h : d.executes q op w i e v (t w v).row (t w v).ix) (k : Nat → Nat → Entry → Nat → Dev → Dev) :
    d.dxRun q op code wr t k = k w i e v (d.charged q w) := by
  obtain ⟨hissues, huse, hready, hon⟩ := h
  obtain ⟨row, hrow⟩ := dspec_of_mayUse huse
  rw [← d.charged_ready q w] at hready
  rw [← d.charged_offDomain q w] at hon
  rw [Dev.dxRun, Dev.drvIssue_of_issues hissues hrow,
    Dev.drvObj_of_mayUse (by rw [d.mayUse_charged, huse]), Dev.drvGate_of_on hready hon]

theorem Dev.dxRead_of_executes (h : d.executes q op w i e v (t w v).row (t w v).ix) :
    d.dxRead q op code t = (d.charged q w).drvDone q w i ((d.charged q w).readReg {} (t w v).row (t w v).ix) :=
  Dev.dxRun_of_executes h _

variable {val : Nat → Entry → Nat} {f : Nat → Nat → List Nat → Dev → Dev × Nat}

/-- A write of which no field is refused. -/
theorem Dev.dxWrite_of_executes (h : d.executes q op w i e v (t w v).row (t w v).ix)
    (href : d.refusedFields (t w v).row (t w v).ix (val w e) = []) :
    d.dxWrite q op code t val f =
      (f v (val w e) [] (d.charged q w)).1.drvResult q w i (f v (val w e) [] (d.charged q w)).2 := by
  rw [← d.charged_refusedFields q w] at href
  rw [Dev.dxWrite, Dev.dxRun_of_executes h]
  simp only [Dev.drvWrite_of_takes href]

/-- An operation that starts with the result its effect answers. -/
theorem Dev.dxRun_starts (h : d.executes q op w i e v (t w v).row (t w v).ix) (hopen : d.opsOpen q e.run < 16)
    (key : Nat → OpKey) (k : Nat → Nat → Entry → Nat → Dev → Dev × Option Nat) :
    d.dxRun q op code wr t (fun w i e v d => d.drvOp q w i e (key v) (k w i e v)) =
      (k w i e v (d.charged q w)).1.starts q w i e (key v) (k w i e v (d.charged q w)).2 := by
  rw [← Dev.opsOpen_of_sameLoads (d.charged_sameLoads q w)] at hopen
  rw [Dev.dxRun_of_executes h, Dev.drvOp_eq_starts hopen]

end

/-- An instruction's effect on the device is its effect on the state. -/
theorem State.runX_of_eq {s : State} {f : Dev → Dev} {e : Dev} (h : f s.dev = e) : s.runX f = .next (s.endsX e) := by
  rw [← h]
  rfl

/-! ### Registers none of whose fields is refused -/

/-- ADMIT is a command of PORT_CMD. -/
theorem Dev.refusedFields_portCmd_admit (d : Dev) (n : Nat) : d.refusedFields rowPORT_CMD n 3 = [] := by
  rw [Dev.refusedFields, Dev.refusedMore, if_neg (by decide), if_neg (by decide), if_neg (by decide)]
  decide

/-- Every value of OPT_RING_CMD is a command. -/
theorem Dev.refusedFields_ringCmd (d : Dev) (n v : Nat) : d.refusedFields rowOPT_RING_CMD n v = [] := by
  rw [Dev.refusedFields, Dev.refusedMore, if_neg (by decide), if_neg (by decide), if_neg (by decide)]
  simp [RegRow.refused, rowOPT_RING_CMD, FieldRow.allows]

/-! ### Writes of circuits and lanes -/

section
variable {d : Dev} {n v : Nat}

theorem Dev.xprCfgWrite_of_free {bad : List Nat} (h : d.circState n = 0) :
    (d.xprCfgWrite n v bad).2 = true := by rw [Dev.xprCfgWrite, if_pos h]

theorem Dev.xprCfgWrite_of_busy {bad : List Nat} (h : d.circState n ≠ 0) :
    (d.xprCfgWrite n v bad).2 = false := by rw [Dev.xprCfgWrite, if_neg h]

theorem Dev.laneCwWrite_of_free (h : d.seqOwns n = false) : (d.laneCwWrite n v).2 = 0 := by simp [Dev.laneCwWrite, h]

theorem Dev.laneCwWrite_of_owned (h : d.seqOwns n = true) :
    d.laneCwWrite n v = (d.raise .LAS_SEQ_OWNS_PORT (d.pathPort n), 3) := by simp [Dev.laneCwWrite, h]

/-- A request for a sparing sequence that joins the queue (R113). -/
theorem Dev.octCmd_spare {o s : Nat} (hfree : d.seqHas o s = false) (hpark : d.get .las_oct_status_parked o = 0)
    (hstandby : d.standbyUnused o s = true) : d.octCmd o s 1 = (d.seqEnqueue o s false, 0) := by
  simp [Dev.octCmd, Dev.seqRequest, hfree, hpark, hstandby, b2n]
end

/-- The two fields of a LAS_OCT_CMD word. -/
theorem slice_octWord (w : Nat) :
    slice (slice w 6 3 * 16 + slice w 9 2) 4 3 = slice w 6 3 ∧ slice (slice w 6 3 * 16 + slice w 9 2) 0 2 = slice w 9 2 := by
  have hslot : slice w 6 3 < 8 := Nat.mod_lt _ (by decide)
  have hcmd : slice w 9 2 < 4 := Nat.mod_lt _ (by decide)
  generalize slice w 6 3 = a at hslot ⊢
  generalize slice w 9 2 = b at hcmd ⊢
  constructor
  · change (a * 16 + b) / 16 % 8 = a
    omega
  · change (a * 16 + b) / 1 % 4 = b
    omega

/-! ### RING.CMD (R81) -/

section
variable {d : Dev} {q w i v : Nat}

theorem Dev.dxRing_of_out_of_range (h : 9 < slice w 12 4) : d.dxRing q w i v = d.drvFailFlow q w i fcRANGE := by
  rw [Dev.dxRing]
  exact if_pos h

theorem Dev.dxRing_eq (h : slice w 12 4 ≤ 9) :
    d.dxRing q w i v = (d.ringCmd v (slice w 12 4) (slice w 10 2)).1.drvResult q w i
      (if (d.ringCmd v (slice w 12 4) (slice w 10 2)).2 then 7 else 0) := by
  unfold Dev.dxRing
  simp only
  rw [if_neg (by omega), Dev.drvWrite_of_takes (Dev.refusedFields_ringCmd ..)]

theorem Dev.ringCmd_sweep {n r : Nat} (h : d.ringBusy n r = false) :
    d.ringCmd n r 2 = ((d.ringRestart n r).refreshLink n, false) := by simp [Dev.ringCmd, h]

theorem Dev.ringCmd_off {n r : Nat} (h : d.ringBusy n r = false) :
    d.ringCmd n r 1 = (((d.ringOff (ringIx n r)).ringRestart n r).refreshLink n, false) := by simp [Dev.ringCmd, h]

theorem Dev.ringCmd_busy {n r cmd : Nat} (h : d.ringBusy n r = true) (hcmd : cmd = 1 ∨ cmd = 2) :
    d.ringCmd n r cmd = (d.raise .OPT_RING_BUSY (d.pathPort n) [.h r, .h cmd], true) := by
  rw [Dev.ringCmd, if_neg (by omega), if_pos ⟨by omega, h⟩]
end

end Sys2Proof.Machine
end

section
/-! SUPPORT. PORT.STENCIL's answer (R465), and what PortAndLaneInstructions states. -/

namespace Sys2Proof.Machine

/-- The answer to a read of a stencil entry: written, or the operation ends with IMAGE_READ. -/
theorem Dev.stencilDone_some {d e : Dev} {q n : Nat} (h : d.takeRead (.stencil q n) = some e) (ws : List Nat) :
    d.stencilDone q n (some ws) =
      (e.stencilInstall (reqQUEUE q) n ws).opFirst q (.stencil n) (fun (o : Op) => ({ o with res := some 0 } : Op)) := by
  simp only [Dev.stencilDone, h]

theorem Dev.stencilDone_none {d e : Dev} {q n : Nat} (h : d.takeRead (.stencil q n) = some e) :
    d.stencilDone q n none = e.opFirst q (.stencil n) (fun (o : Op) => ({ o with res := some 6 } : Op)) := by
  simp only [Dev.stencilDone, h]

/-- PORT.READ of the register that the word selects. -/
theorem Dev.dxPortRead_of_row {d : Dev} {q w i v : Nat} {e : Entry} {r : RegRow} (hr : (portReadRow w v).row = r)
    (h : d.executes q 0x33 w i e v r v) :
    d.dxPortRead q = (d.charged q w).drvDone q w i ((d.charged q w).readReg {} r v) := by
  subst hr
  exact Dev.dxRead_of_executes (t := portReadRow) h

/-- LANE.READ of the register that the word selects. -/
theorem Dev.dxLaneRead_of_row {d : Dev} {q w i v : Nat} {e : Entry} {r : RegRow} (hr : (laneReadRow w v).row = r)
    (h : d.executes q 0x54 w i e v r v) :
    d.dxLaneRead q = (d.charged q w).drvDone q w i ((d.charged q w).readReg {} r v) := by
  subst hr
  exact Dev.dxRead_of_executes (t := laneReadRow) h

theorem Dev.dxRingCmd_of_executes {d : Dev} {q w i v : Nat} {e : Entry} (h : d.executes q 0x53 w i e v rowOPT_LANE_MAP v) :
    d.dxRingCmd q = (d.charged q w).dxRing q w i v := Dev.dxRun_of_executes (t := fun _ v => { row := rowOPT_LANE_MAP, ix := v }) h _

theorem Dev.drvResult_ok (d : Dev) (q w i : Nat) : d.drvResult q w i 0 = d.drvDone q w i 0 := rfl

theorem Dev.drvResult_of_ne {c : Nat} (hc : c ≠ 0) (d : Dev) (q w i : Nat) : d.drvResult q w i c = d.drvFail q w i c := if_neg hc

/-! ### RING.CMD (R81) -/

section
variable {d : Dev} {q w i v : Nat} (h : slice w 12 4 ≤ 9)
include h

theorem Dev.dxRing_sweep (hcmd : slice w 10 2 = 2) (hfree : d.ringBusy v (slice w 12 4) = false) :
    d.dxRing q w i v = ((d.ringRestart v (slice w 12 4)).refreshLink v).drvDone q w i 0 := by
  rw [Dev.dxRing_eq h, hcmd, Dev.ringCmd_sweep hfree]
  simp only [Bool.false_eq_true, if_false, Dev.drvResult_ok]

theorem Dev.dxRing_off (hcmd : slice w 10 2 = 1) (hfree : d.ringBusy v (slice w 12 4) = false) :
    d.dxRing q w i v = (((d.ringOff (ringIx v (slice w 12 4))).ringRestart v (slice w 12 4)).refreshLink v).drvDone q w i 0 := by
  rw [Dev.dxRing_eq h, hcmd, Dev.ringCmd_off hfree]
  simp only [Bool.false_eq_true, if_false, Dev.drvResult_ok]

theorem Dev.dxRing_busy (hcmd : slice w 10 2 = 1 ∨ slice w 10 2 = 2) (hbusy : d.ringBusy v (slice w 12 4) = true) :
    d.dxRing q w i v =
      (d.raise .OPT_RING_BUSY (d.pathPort v) [.h (slice w 12 4), .h (slice w 10 2)]).drvFail q w i 7 := by
  rw [Dev.dxRing_eq h, Dev.ringCmd_busy hbusy hcmd]
  simp only [if_true, Dev.drvResult_of_ne (show 7 ≠ 0 by decide)]
end

/-! ### Writes and reads of the groups -/

/-- PORT.CFG with the answer of its write. -/
theorem Dev.dxPortCfg_of_executes {d : Dev} {q w i v : Nat} {e : Entry} (h : d.executes q 0x31 w i e v rowPORT_CFG v)
    (href : d.refusedFields rowPORT_CFG v (e.reg (wA w)) = []) :
    d.dxPortCfg q = ((d.charged q w).portCfgWrite v (e.reg (wA w)) []).1.drvResult q w i
      ((d.charged q w).portCfgWrite v (e.reg (wA w)) []).2 :=
  Dev.dxWrite_of_executes (t := fun _ v => { row := rowPORT_CFG, ix := v }) (val := fun w e => e.reg (wA w)) h href

/-- XPR.CFG with the answer of its write. -/
theorem Dev.dxXprCfg_of_executes {d : Dev} {q w i v : Nat} {e : Entry} (h : d.executes q 0x40 w i e v rowXPR_CIRC_CFG v)
    (href : d.refusedFields rowXPR_CIRC_CFG v (e.reg (wA w)) = []) :
    d.dxXprCfg q = ((d.charged q w).xprCfgWrite v (e.reg (wA w)) []).1.drvResult q w i
      (if ((d.charged q w).xprCfgWrite v (e.reg (wA w)) []).2 then 0 else 1) :=
  Dev.dxWrite_of_executes (t := fun _ v => { row := rowXPR_CIRC_CFG, ix := v }) (val := fun w e => e.reg (wA w)) h href

/-- XPR.WT with the answer of its write. -/
theorem Dev.dxXprWt_of_executes {d : Dev} {q w i v : Nat} {e : Entry} (h : d.executes q 0x41 w i e v rowXPR_CIRC_WEIGHT v)
    (href : d.refusedFields rowXPR_CIRC_WEIGHT v (e.reg (wA w)) = []) :
    d.dxXprWt q = ((d.charged q w).xprWeightWrite v (e.reg (wA w)) []).1.drvResult q w i
      (if ((d.charged q w).xprWeightWrite v (e.reg (wA w)) []).2 then 0 else 1) :=
  Dev.dxWrite_of_executes (t := fun _ v => { row := rowXPR_CIRC_WEIGHT, ix := v }) (val := fun w e => e.reg (wA w)) h href

/-- LANE.OCT with the answer of its command. -/
theorem Dev.dxLaneOct_of_executes {d : Dev} {q w i v : Nat} {e : Entry} (h : d.executes q 0x50 w i e v rowLAS_OCT_CMD v)
    (href : d.refusedFields rowLAS_OCT_CMD v (slice w 6 3 * 16 + slice w 9 2) = []) :
    d.dxLaneOct q = ((d.charged q w).octCmd v (slice w 6 3) (slice w 9 2)).1.drvResult q w i
      ((d.charged q w).octCmd v (slice w 6 3) (slice w 9 2)).2 := by
  obtain ⟨hslot, hcmd⟩ := slice_octWord w
  rw [Dev.dxLaneOct, Dev.dxWrite_of_executes (t := fun _ v => { row := rowLAS_OCT_CMD, ix := v })
    (val := fun w _ => slice w 6 3 * 16 + slice w 9 2) h href]
  simp only [hslot, hcmd]

/-- The value LANE.NEXT writes: the lane fields, then the arms. -/
def laneNextWord (w : Nat) (e : Entry) : Nat := slice (e.reg (wA w)) 0 31 + b2n (bit w 9) * 2 ^ 63 + b2n (bit w 10) * 2 ^ 62

/-- LANE.NEXT with the answer of its write. -/
theorem Dev.dxLaneNext_of_executes {d : Dev} {q w i v : Nat} {e : Entry} (h : d.executes q 0x51 w i e v rowOPT_LANE_NEXT v)
    (href : d.refusedFields rowOPT_LANE_NEXT v (laneNextWord w e) = []) :
    d.dxLaneNext q = ((d.charged q w).laneNextWrite v (laneNextWord w e)).1.drvResult q w i
      ((d.charged q w).laneNextWrite v (laneNextWord w e)).2 :=
  Dev.dxWrite_of_executes (t := fun _ v => { row := rowOPT_LANE_NEXT, ix := v }) (val := laneNextWord) h href

/-- LANE.CW with the answer of its write. -/
theorem Dev.dxLaneCw_of_executes {d : Dev} {q w i v : Nat} {e : Entry} (h : d.executes q 0x52 w i e v rowOPT_LANE_SWITCH_CW v)
    (href : d.refusedFields rowOPT_LANE_SWITCH_CW v (e.reg (wA w)) = []) :
    d.dxLaneCw q = ((d.charged q w).laneCwWrite v (e.reg (wA w))).1.drvResult q w i
      ((d.charged q w).laneCwWrite v (e.reg (wA w))).2 :=
  Dev.dxWrite_of_executes (t := fun _ v => { row := rowOPT_LANE_SWITCH_CW, ix := v }) (val := fun w e => e.reg (wA w)) h href

/-- PORT.CMD 3 with the answer of the command. -/
theorem Dev.dxPortCmd_admit {d : Dev} {q w i v : Nat} {e : Entry} (h : d.executes q 0x30 w i e v rowPORT_CMD v)
    (hcmd : slice w 9 4 = 3) :
    d.dxPortCmd q = ((d.charged q w).portCmd v 3).1.drvResult q w i ((d.charged q w).portCmd v 3).2 := by
  have href : d.refusedFields rowPORT_CMD v (slice w 9 4) = [] := by rw [hcmd, d.refusedFields_portCmd_admit]
  rw [Dev.dxPortCmd, Dev.dxWrite_of_executes (t := fun _ v => { row := rowPORT_CMD, ix := v }) (val := fun w _ => slice w 9 4) h href]
  simp only [hcmd]

/-- Settles O46: each instruction is its write, its read or its operation on the charged device, which reads as before. -/
theorem portAndLaneInstructions : Obligations.PortAndLaneInstructions := by
  intro s
  refine ⟨fun q w i n v h _ hadmit => ?admission, fun q w i n v h hquar => ?quarantined, fun q w i n v h href hres => ?cfg,
    fun q w i n v h href hres => ?cfgFails, fun q w i n v h hopen => ?stencil, fun q port entry ws d hread hentry => ?installed,
    fun q port entry d hread hentry => ?unread, fun q w i n v h hsel => ?status, fun q w i n v h hsel => ?nbr0,
    fun q w i n v h hsel => ?nbr1, fun q w i n v h hsel => ?nbrExt, fun q w i n v h hsel => ?margin,
    fun q w i n v h hsel => ?rxPower, fun q w i n v h href hfree => ?circCfg, fun q w i n v h href hbusy => ?circCfgFails,
    fun q w i n v h href hres => ?weight, fun q w i n v h href hres => ?weightFails, fun q w i n v h hopen => ?setup,
    fun q w i n v h hopen => ?tear, fun q w i n v h hopen => ?reweight, fun q w i n v h => ?circRead,
    fun q w i n v h href hspare => ?spare, fun q w i n v h href hres => ?octFails, fun q w i n v h href hres => ?next,
    fun q w i n v h href hres => ?nextFails, fun q w i n v h href hfree => ?cw, fun q w i n v h href howned => ?cwFails,
    fun q w i n v h hring => ?sweep, fun q w i n v h hring => ?off, fun q w i n v h hring => ?busy,
    fun q w i n v h hring => ?range, fun q w i n v h hsel => ?laneMap, fun q w i n v h hsel => ?octStatus,
    fun q w i n v h hsel => ?seqTime, fun q w i n v h hsel => ?cwCount⟩
  case admission =>
    obtain ⟨hcmd, hwait⟩ := hadmit
    rw [← s.dev.charged_linkStatus q w] at hwait
    refine State.runX_of_eq ((Dev.dxPortCmd_admit h hcmd).trans ?_)
    rw [hcmd, Dev.portCmd_admit hwait]
    exact Dev.drvResult_ok _ q w i
  case quarantined =>
    obtain ⟨hcmd, hquar⟩ := hquar
    rw [← s.dev.charged_linkStatus q w] at hquar
    refine State.runX_of_eq ((Dev.dxPortCmd_admit h hcmd).trans ?_)
    rw [Dev.portCmd_admit_quarantined hquar]
    exact Dev.drvResult_of_ne (Nat.succ_ne_zero _) _ q w i
  case cfg => exact State.runX_of_eq ((Dev.dxPortCfg_of_executes h href).trans (by rw [hres, Dev.drvResult_ok]))
  case cfgFails => exact State.runX_of_eq ((Dev.dxPortCfg_of_executes h href).trans (Dev.drvResult_of_ne hres ..))
  case stencil =>
    have hstarts := Dev.dxRun_starts (code := 0) (wr := true) (t := fun _ v => { row := rowPORT_STENCIL_0, ix := v }) h hopen .stencil
      (fun w _ e v d => (d.kread (.stencil q v) (reqLOAD (d.qSeq q)) (e.reg (wA w)) 32, none))
    rw [s.dev.charged_qSeq] at hstarts
    exact State.runX_of_eq hstarts
  case installed =>
    subst hentry
    exact State.runX_of_eq (Dev.stencilDone_some hread _)
  case unread =>
    subst hentry
    exact State.runX_of_eq (Dev.stencilDone_none hread)
  case status => exact State.runX_of_eq (Dev.dxPortRead_of_row (by simp only [portReadRow, hsel]) h)
  case nbr0 => exact State.runX_of_eq (Dev.dxPortRead_of_row (by simp only [portReadRow, hsel]) h)
  case nbr1 => exact State.runX_of_eq (Dev.dxPortRead_of_row (by simp only [portReadRow, hsel]) h)
  case nbrExt => exact State.runX_of_eq (Dev.dxPortRead_of_row (by simp only [portReadRow, hsel]) h)
  case margin => exact State.runX_of_eq (Dev.dxPortRead_of_row (by simp only [portReadRow, hsel]) h)
  case rxPower => exact State.runX_of_eq (Dev.dxPortRead_of_row (by simp only [portReadRow, hsel]) h)
  case circCfg =>
    rw [← s.dev.charged_circState q w] at hfree
    refine State.runX_of_eq ((Dev.dxXprCfg_of_executes h href).trans ?_)
    rw [Dev.xprCfgWrite_of_free hfree]
    exact Dev.drvResult_ok _ q w i
  case circCfgFails =>
    rw [← s.dev.charged_circState q w] at hbusy
    refine State.runX_of_eq ((Dev.dxXprCfg_of_executes h href).trans ?_)
    rw [Dev.xprCfgWrite_of_busy hbusy]
    exact Dev.drvResult_of_ne (Nat.succ_ne_zero _) _ q w i
  case weight =>
    refine State.runX_of_eq ((Dev.dxXprWt_of_executes h href).trans ?_)
    rw [hres]
    exact Dev.drvResult_ok _ q w i
  case weightFails =>
    refine State.runX_of_eq ((Dev.dxXprWt_of_executes h href).trans ?_)
    rw [hres]
    exact Dev.drvResult_of_ne (Nat.succ_ne_zero _) _ q w i
  case setup =>
    exact State.runX_of_eq (Dev.dxRun_starts (t := tCirc) h hopen .xprSetup
      (fun w _ e v d => (d.set .xpr_circ_act_time_act_time v (e.reg (wA w))).xprSetup v))
  case tear => exact State.runX_of_eq (Dev.dxRun_starts (t := tCirc) h hopen .xprTear (fun _ _ _ v d => d.xprTeardown v))
  case reweight => exact State.runX_of_eq (Dev.dxRun_starts (t := tCirc) h hopen .xprReweight (fun _ _ _ v d => d.xprReweight v))
  case circRead => exact State.runX_of_eq (Dev.dxRead_of_executes (t := fun _ v => { row := rowXPR_CIRC_STATUS, ix := v }) h)
  case spare =>
    obtain ⟨hcmd, hfree, hpark, hstandby⟩ := hspare
    rw [← s.dev.charged_seqHas q w] at hfree
    rw [← s.dev.charged_get q w (by decide)] at hpark
    rw [← s.dev.charged_standbyUnused q w] at hstandby
    refine State.runX_of_eq ((Dev.dxLaneOct_of_executes h href).trans ?_)
    rw [hcmd, Dev.octCmd_spare hfree hpark hstandby, ← s.dev.charged_seqQueue q w]
    exact Dev.drvResult_ok _ q w i
  case octFails => exact State.runX_of_eq ((Dev.dxLaneOct_of_executes h href).trans (Dev.drvResult_of_ne hres ..))
  case next => exact State.runX_of_eq ((Dev.dxLaneNext_of_executes h href).trans (by rw [laneNextWord, hres, Dev.drvResult_ok]))
  case nextFails => exact State.runX_of_eq ((Dev.dxLaneNext_of_executes h href).trans (Dev.drvResult_of_ne hres ..))
  case cw =>
    rw [← s.dev.charged_seqOwns q w] at hfree
    exact State.runX_of_eq ((Dev.dxLaneCw_of_executes h href).trans (by rw [Dev.laneCwWrite_of_free hfree, Dev.drvResult_ok]))
  case cwFails =>
    rw [← s.dev.charged_seqOwns q w] at howned
    refine State.runX_of_eq ((Dev.dxLaneCw_of_executes h href).trans ?_)
    rw [Dev.laneCwWrite_of_owned howned, s.dev.charged_pathPort]
    exact Dev.drvResult_of_ne (Nat.succ_ne_zero _) _ q w i
  case sweep =>
    obtain ⟨hring, hcmd, hfree⟩ := hring
    rw [← s.dev.charged_ringBusy q w] at hfree
    exact State.runX_of_eq ((Dev.dxRingCmd_of_executes h).trans (Dev.dxRing_sweep hring hcmd hfree))
  case off =>
    obtain ⟨hring, hcmd, hfree⟩ := hring
    rw [← s.dev.charged_ringBusy q w] at hfree
    exact State.runX_of_eq ((Dev.dxRingCmd_of_executes h).trans (Dev.dxRing_off hring hcmd hfree))
  case busy =>
    obtain ⟨hring, hcmd, hbusy⟩ := hring
    rw [← s.dev.charged_ringBusy q w] at hbusy
    rw [← s.dev.charged_pathPort q w]
    exact State.runX_of_eq ((Dev.dxRingCmd_of_executes h).trans (Dev.dxRing_busy hring hcmd hbusy))
  case range => exact State.runX_of_eq ((Dev.dxRingCmd_of_executes h).trans (Dev.dxRing_of_out_of_range hring))
  case laneMap => exact State.runX_of_eq (Dev.dxLaneRead_of_row (by simp only [laneReadRow, hsel]) h)
  case octStatus => exact State.runX_of_eq (Dev.dxLaneRead_of_row (by simp only [laneReadRow, hsel]) h)
  case seqTime => exact State.runX_of_eq (Dev.dxLaneRead_of_row (by simp only [laneReadRow, hsel]) h)
  case cwCount => exact State.runX_of_eq (Dev.dxLaneRead_of_row (by simp only [laneReadRow, hsel]) h)

end Sys2Proof.Machine
end

section
/-! SUPPORT. The states of a ring (R73 to R80): what ends each of them, and where the ring goes. -/

namespace Sys2Proof.Machine

/-! ### From SWEEP to LOCKED (R74) -/

section
variable {d : Dev} {n r : Nat}

theorem Dev.ringSweepEnd_of_dips {dips : List Nat} (h : d.ring (ringIx n r) = rsSWEEP) (hdips : dips ≠ []) :
    d.ringSweepEnd n r dips = (d.ringIdentify (ringIx n r) (sortBy (· ≤ ·) dips)).afterRing n := by
  simp only [Dev.ringSweepEnd, if_pos h, if_pos hdips]

/-- A receive ring that finds no dip waits for light. -/
theorem Dev.ringSweepEnd_of_no_dip (h : d.ring (ringIx n r) = rsSWEEP) (hrx : 5 ≤ r) :
    d.ringSweepEnd n r [] = (d.set .opt_ring_status_state (ringIx n r) rsHOLD).afterRing n := by
  simp only [Dev.ringSweepEnd, if_pos h, ne_eq, not_true, if_false, if_neg (Nat.not_lt.mpr hrx)]

theorem Dev.ringTone_of_own {sl : Nat} (h : d.ring (ringIx n r) = rsIDENTIFY) (hsl : sl = ringSlot r) :
    d.ringTone n r sl =
      { d.setMany [(.opt_ring_status_seen_slot, ringIx n r, ringSlot r), (.opt_ring_status_state, ringIx n r, rsACQUIRE)] with
        dips := d.dips.set (ringIx n r) [] [] } := by
  subst hsl
  simp only [Dev.ringTone, h, ne_eq, not_true, if_false, if_true]
  rfl

theorem Dev.ringSettled_of_order {setting err : Nat} (h : d.ring (ringIx n r) = rsACQUIRE) (hwindow : inWindow setting = true)
    (herr : (sgn 16 err).natAbs ≤ 2000) :
    d.ringSettled n r setting err = (d.setMany [(.opt_ring_heater_heater_ghz, ringIx n r, setting),
      (.opt_ring_heater_lock_error, ringIx n r, err), (.opt_ring_status_state, ringIx n r, rsLOCKED), (.h_ring_acqto, ringIx n r, 0),
      (.h_ring_ever, ringIx n r, 1), (.h_ring_rail, ringIx n r, 0), (.h_ring_near, ringIx n r, 0)]).afterRing n := by
  simp only [Dev.ringSettled, h, ne_eq, not_true, if_false, if_neg (Nat.not_lt.mpr herr), if_pos hwindow,
    Dev.setMany_cons, Dev.setMany_nil]

theorem Dev.ringAcqTimeout_of_early (h : d.ring (ringIx n r) = rsACQUIRE) (hrail : d.flag .h_ring_rail (ringIx n r) = false)
    (hfew : d.get .h_ring_acqto (ringIx n r) < 2) :
    d.ringAcqTimeout n r =
      (d.set .h_ring_acqto (ringIx n r) (d.get .h_ring_acqto (ringIx n r) + 1)).ringSweep (ringIx n r) := by
  simp only [Dev.ringAcqTimeout, h, hrail, ne_eq, not_true, if_false, Bool.false_eq_true, if_neg (Nat.not_le.mpr hfew)]
  rfl

/-! ### A LOCKED ring in a rail (R79) -/

/-- A setting within 50 GHz of an end of the heater's range is in a rail. -/
theorem inRail_iff (g : Nat) : inRail g = true ↔ g < 50 ∨ 2950 < g := by simp [inRail]

/-- The note that a ring nears a rail touches no field but its own. -/
theorem Dev.ringNear_confined {view : Dev → Dev} (d : Dev) (n r : Nat) : d.Confined view [.h_ring_near] (d.ringNear n r) := by
  unfold Dev.ringNear
  exact .ite ((Dev.raise_confined ..).after (d.set_confined (by decide) ..)) (.refl d)

/-- A change of nothing but a ring's setting and its nearness to a rail. -/
abbrev Dev.Moves (d e : Dev) : Prop := d.Confined id [.opt_ring_heater_heater_ghz, .h_ring_near] e

theorem Dev.Moves.pathPort {e : Dev} (h : d.Moves e) (n : Nat) : e.pathPort n = d.pathPort n := by
  simp (disch := decide) only [Dev.pathPort, Dev.pathBase, h.fields _ _]

theorem Dev.Moves.picTemp {e : Dev} (h : d.Moves e) (n : Nat) : e.picTemp n = d.picTemp n := h.fields _ _ (by decide)

theorem Dev.Moves.ring {e : Dev} (h : d.Moves e) (k : Nat) : e.ring k = d.ring k := h.fields _ _ (by decide)

/-- A ring that moves into a rail is recorded and relocked an order away. -/
theorem Dev.ringRail_of_inRail {g : Nat} (h : d.ring (ringIx n r) = rsLOCKED) (hg : g < 2 ^ 12) (hrail : g < 50 ∨ 2950 < g) :
    d.ringRail n r g =
      ((((d.set .opt_ring_heater_heater_ghz (ringIx n r) g).ringNear n r).raise .OPT_RING_RAIL (d.pathPort n)
        [.h r, .h g, .h (d.picTemp n)]).ringRelock n r (if g < 50 then g + 2400 else g - 2400) true false).afterRing n := by
  have hset : d.Moves (d.set .opt_ring_heater_heater_ghz (ringIx n r) g) := d.set_confined (by decide) ..
  have hnear : d.Moves ((d.set .opt_ring_heater_heater_ghz (ringIx n r) g).ringNear n r) :=
    ((Dev.ringNear_confined ..).mono (by decide)).after hset
  have hheld : (d.set .opt_ring_heater_heater_ghz (ringIx n r) g).get .opt_ring_heater_heater_ghz (ringIx n r) = g :=
    (Dev.get_set_same ..).trans (Nat.mod_eq_of_lt hg)
  simp only [Dev.ringRail, Dev.ringDrift, h, hset.ring, hheld, hnear.pathPort, hnear.picTemp, ne_eq, not_true, if_false,
    if_pos ((inRail_iff g).mpr hrail)]

/-! ### Recalibration (R77) -/

theorem Dev.recalVisit_of_right {sl : Nat} (h : d.ring (ringIx n r) = rsLOCKED) (hsl : sl = 7 ∨ sl = ringSlot r) :
    d.recalVisit n r sl = d.set .opt_ring_status_seen_slot (ringIx n r) sl := by
  simp only [Dev.recalVisit, h, ne_eq, not_true, if_false, if_pos hsl]

end

/-- Settles O24: each event of a ring in the state it ends, by the lemma on its operation. -/
theorem ringLockStates : Obligations.RingLockStates := by
  intro s
  refine ⟨fun port ring dips h hdips => ?sweep, fun port ring dips h hnone => ?noDip, fun port ring tones h hslot => ?tone,
    fun port ring setting err h hset => ?settled, fun port ring h => ?timeout, fun port ring h hpeer => ?lost,
    fun port ring h => ?light, fun port ring h => ?resweep, fun port ring h => ?moved, fun port ring setting h hrail => ?rail,
    fun port ring tones h hnone => ?noSlot, fun port ring tones h hown => ?ownSlot⟩
  case sweep => exact State.runX_of_eq (Dev.ringSweepEnd_of_dips h (by simpa using hdips))
  case noDip =>
    subst hnone
    exact State.runX_of_eq (Dev.ringSweepEnd_of_no_dip h.1 h.2)
  case tone => exact State.runX_of_eq (Dev.ringTone_of_own h hslot)
  case settled =>
    obtain ⟨hlow, hhigh, herr⟩ := hset
    exact State.runX_of_eq (Dev.ringSettled_of_order h (by simp [inWindow, hlow, hhigh]) herr)
  case timeout =>
    obtain ⟨hacq, hrail, hfew⟩ := h
    exact State.runX_of_eq (Dev.ringAcqTimeout_of_early hacq hrail hfew)
  case lost =>
    refine State.runX_of_eq ?_
    simp only [if_pos h, hpeer.2, Bool.false_and, Bool.false_eq_true, if_false]
  case light => exact State.runX_of_eq (if_pos h)
  case resweep =>
    obtain ⟨hhold, hrx, hnever⟩ := h
    exact State.runX_of_eq (if_pos ⟨hhold, hrx, by rw [hnever]; rfl⟩)
  case moved => exact State.runX_of_eq (if_pos h)
  case rail => exact State.runX_of_eq (Dev.ringRail_of_inRail h (by omega) hrail)
  case noSlot =>
    rw [← hnone]
    exact State.runX_of_eq (Dev.recalVisit_of_right h (.inl hnone))
  case ownSlot =>
    rw [← hown]
    exact State.runX_of_eq (Dev.recalVisit_of_right h (.inr hown))

end Sys2Proof.Machine
end

section
/-! SUPPORT. Commands of a ring (R81), writes of OPT_ENG_CTRL (R92), and the first report of the sources after a loss (R83, R84). -/

namespace Sys2Proof.Machine

/-! ### Ring commands (R81) -/

theorem Dev.ringCmd_nop (d : Dev) (n r : Nat) : d.ringCmd n r 0 = (d, false) := rfl

theorem Dev.ringCmd_retry {d : Dev} {n r : Nat} (h : d.ring (ringIx n r) = rsFAULT) :
    d.ringCmd n r 3 = (((d.ringRestart n r).set .h_ring_acqto (ringIx n r) 0).refreshLink n, false) := by
  simp [Dev.ringCmd, h]

/-- A command of OPT_RING_CMD that passes its checks. -/
theorem ringCmdWrite_of_accepts {s : State} {m : Mark} {port : Fin 512} {ring : Fin 10} {cmd : Nat} {c : Instr} {e : Dev}
    (h : s.dev.accepts c = true) (hw : writeOf c = some (m, rowOPT_RING_CMD, ringIx port ring, cmd))
    (he : (s.dev.ringCmd port ring cmd).1 = e) : ringCmdWrite m port ring cmd s = .next (s.endsX e.ok) := by
  rw [← he, ← Dev.hostWrite_of_accepts hw h (fun _ _ _ d => (d.ringCmd port ring cmd).1)]
  rfl

theorem exec_optEngCtrlWrite_of_accepts {s : State} {m : Mark} {engine : Fin 8} {v : Word}
    (h : s.dev.accepts (.optEngCtrlWrite m engine v) = true) :
    exec (.optEngCtrlWrite m engine v) s = .next (s.endsX (s.dev.engCtrlWrite engine v.toNat []).ok) := by
  rw [← Dev.hostWrite_of_accepts rfl h (fun _ v bad d => d.engCtrlWrite engine v bad)]
  rfl

/-! ### The first report after a loss (R84) -/

section
variable (d : Dev) (e : Nat) (rep : List Nat)

/-- The filters of engine `e` started at the report. -/
def Dev.ffLoaded : Dev := (List.range 12).foldl (fun d n => d.set .h_ff_p (12 * e + n) (rep.getD n 0 * 2 ^ 16)) d

/-- The device after the first report of a loss: the filters at the report, their sum and the time noted, and no heater moved. -/
def Dev.ffResumed : Dev :=
  (d.ffLoaded e rep).setMany [(.h_ff_prev, e, wrap 96 ((d.ffLoaded e rep).ffSum e)), (.opt_eng_status_ff_link_ok, e, 1),
    (.h_ff_last, e, (d.ffLoaded e rep).fabricNs)]

/-- The change of the filters since the last report counts as none. -/
theorem Dev.ffReport_of_lost {d : Dev} {e : Nat} (h : d.flag .opt_eng_status_ff_link_ok e = false) :
    d.ffReport e rep = d.ffResumed e rep := by
  simp only [Dev.ffReport, h, Bool.not_false, if_true, ne_eq, not_true_eq_false, decide_false, Bool.and_false, Bool.false_eq_true,
    if_false]
  rfl

theorem Dev.ffLoaded_confined {view : Dev → Dev} : d.Confined view [.h_ff_p] (d.ffLoaded e rep) :=
  .foldl (fun d _ => d.set_confined (by decide) ..) _ d

theorem Dev.ffLoaded_filter {n : Nat} (hn : n < 12) : (d.ffLoaded e rep).get .h_ff_p (12 * e + n) = rep.getD n 0 * 2 ^ 16 % 2 ^ 48 :=
  Dev.foldl_get_of_one _ .h_ff_p _ (fun _ => rep.getD n 0 * 2 ^ 16 % 2 ^ 48) (List.mem_range.mpr hn) List.nodup_range
    (fun _ => Dev.get_set_same ..) (fun _ _ hne _ => Dev.get_set_idx _ _ (by omega) _) d

theorem Dev.ffLoaded_fabricNs : (d.ffLoaded e rep).fabricNs = d.fabricNs := by
  simp (disch := decide) only [Dev.fabricNs, Dev.fabric32, Dev.localNs, Dev.rate, (d.ffLoaded_confined (view := id) e rep).fields _ _]

/-- The fields in which a report that moves no heater is noted. -/
def ffFlds : List Fld := [.h_ff_p, .h_ff_prev, .opt_eng_status_ff_link_ok, .h_ff_last]

theorem Dev.ffResumed_confined {view : Dev → Dev} : d.Confined view ffFlds (d.ffResumed e rep) :=
  (Dev.setMany_confined _ _ (by simp [ffFlds])).after ((d.ffLoaded_confined e rep).mono (by decide))

theorem Dev.ffResumed_fldsOnly : d.FldsOnly (d.ffResumed e rep) :=
  (Dev.FldsOnly.foldl (fun d _ => d.set_fldsOnly ..) _ d).trans (Dev.setMany_flds _ _)

theorem Dev.ffResumed_link : (d.ffResumed e rep).flag .opt_eng_status_ff_link_ok e = true := by
  rw [Dev.flag, Dev.ffResumed, Dev.setMany_cons, Dev.setMany_cons, Dev.setMany_cons, Dev.setMany_nil, Dev.get_set_fld _ (by decide),
    Dev.get_set_same]
  rfl

/-- Fabric time is a number of 64 bits. -/
theorem Dev.fabricNs_lt : d.fabricNs < 2 ^ 64 := by
  unfold Dev.fabricNs Dev.fabric32
  extract_lets num t
  omega

theorem Dev.ffResumed_time : (d.ffResumed e rep).get .h_ff_last e = d.fabricNs := by
  rw [Dev.ffResumed, Dev.setMany_cons, Dev.setMany_cons, Dev.setMany_cons, Dev.setMany_nil, Dev.get_set_same, d.ffLoaded_fabricNs]
  exact Nat.mod_eq_of_lt d.fabricNs_lt

theorem Dev.ffResumed_filter {n : Nat} (hn : n < 12) : (d.ffResumed e rep).get .h_ff_p (12 * e + n) = rep.getD n 0 * 2 ^ 16 % 2 ^ 48 := by
  simp (disch := decide) only [Dev.ffResumed, Dev.setMany_cons, Dev.setMany_nil, Dev.get_set_fld, d.ffLoaded_filter e rep hn]

end

theorem exec_ffReport (s : State) (engine : Fin 8) (report : Vector (BitVec 16) 12) :
    exec (.ffReport engine report) s = .next (s.endsX (s.dev.ffReport engine (report.toList.map (·.toNat)))) := rfl

/-- A report of twelve words of 16 bits, read at one of them. -/
theorem getD_report (report : Vector (BitVec 16) 12) (n : Fin 12) : (report.toList.map (·.toNat)).getD n 0 = report[n].toNat := by
  simp [List.getD_eq_getElem?_getD]

/-- Settles O25: a command that passes its checks is `ringCmd`, and the first report after a loss is `ffResumed`. -/
theorem ringCommandsAndEngines : Obligations.RingCommandsAndEngines := by
  intro s
  refine ⟨fun m port ring h => ?nop, fun m port ring h hfree => ?off, fun m port ring h hfree => ?restart,
    fun m port ring h hbusy => ?busy, fun m port ring h hfault => ?retry, fun m engine v h => ?engine, fun engine report h => ?report,
    fun engine h => ?lost⟩
  case nop => exact ringCmdWrite_of_accepts h rfl (by rw [s.dev.ringCmd_nop port ring])
  case off => exact ringCmdWrite_of_accepts h rfl (by rw [Dev.ringCmd_off hfree])
  case restart => exact ringCmdWrite_of_accepts h rfl (by rw [Dev.ringCmd_sweep hfree])
  case busy => exact ringCmdWrite_of_accepts h rfl (by rw [Dev.ringCmd_busy hbusy (.inl rfl)])
  case retry => exact ringCmdWrite_of_accepts h rfl (by rw [Dev.ringCmd_retry hfault])
  case engine => exact exec_optEngCtrlWrite_of_accepts h
  case report =>
    have hfilter (n : Fin 12) := s.dev.ffResumed_filter engine (report.toList.map (·.toNat)) n.isLt
    have hkeeps := s.dev.ffResumed_confined (view := id) engine (report.toList.map (·.toNat))
    have hflds := s.dev.ffResumed_fldsOnly engine (report.toList.map (·.toNat))
    refine ⟨s.dev.ffResumed engine (report.toList.map (·.toNat)), ?ends, ⟨Dev.ffResumed_link .., fun n => ?filter,
      Dev.ffResumed_time .., fun k => ?heater⟩, ?keeps, ?rest⟩
    case ends => rw [exec_ffReport, Dev.ffReport_of_lost _ h]
    case filter =>
      rw [hfilter, getD_report]
      have hword := report[n].isLt
      omega
    case heater => exact hkeeps.fields _ _ (by decide)
    case keeps => exact hkeeps.fields.mono (by decide)
    case rest =>
      rw [hflds]
      rfl
  case lost => exact State.runX_of_eq (if_pos h)

end Sys2Proof.Machine
end

section
/-! SUPPORT. An answer to a power request where the quadrant of its port is off (R17, R88). -/

namespace Sys2Proof.Machine

theorem exec_lcPwrAns (s : State) (port : Fin 512) (lane : Fin 4) (granted : Bool) (trim : Fin 8) :
    exec (.lcPwrAns port lane granted trim) s = .next (s.endsX (s.dev.lcIn port (fun d => d.pwrAnsRx port lane granted trim))) := rfl

/-- In `linkWithoutPower`, port 5 waits for the answer to a power request for its lane 0. -/
def requestWithoutPower : State := { dev := linkWithoutPower.dev.set .opt_margin_status_request_pending 5 1 }

/-- Refutes O26: its last clause, of a granted request, whose premises do not ask for the quadrant of the port. In
`requestWithoutPower` they hold; the frame has no effect, and the answer is still awaited. -/
theorem not_laneMapsAndPower : ¬ Obligations.LaneMapsAndPower := by
  intro h
  obtain ⟨-, -, -, -, -, -, -, -, -, -, -, -, hanswer⟩ := h requestWithoutPower
  have he := hanswer 5 0 true 0 (by decide) (by decide)
  rw [exec_lcPwrAns, Dev.lcIn_of_quad_off (by decide)] at he
  have hends := congrArg (fun t : State => t.dev.get .opt_margin_status_request_pending 5) (Host.Outcome.next.inj he)
  have hown : Fld.opt_margin_status_request_pending ∉ clockFlds ++ lostFlds := by decide
  rw [State.endsX_dev, State.endsX_dev, Dev.get_settle_flush ⟨rfl, rfl, rfl, rfl, rfl⟩ hown,
    Dev.get_settle_flush (Dev.idle_of_rest (Dev.count_confined (view := id) ..).rest ⟨rfl, rfl, rfl, rfl, rfl⟩) hown,
    Dev.count_get _ _ _ _ _ _ _ (by decide)] at hends
  revert hends
  decide

end Sys2Proof.Machine
end

section
/-! SUPPORT. Express circuits: link-control frames of a partner where the quadrant of the port is off (R17, R153). -/

namespace Sys2Proof.Machine

theorem exec_lcExpressWithdraw (s : State) (port : Fin 512) (cause : BitVec 4) (slot : Fin 5) (circuit : Fin 64) :
    exec (.lcExpressWithdraw port cause slot circuit) s = .next (s.endsX (s.dev.lcIn port id)) := rfl

theorem Dev.lcGot_confined {view : Dev → Dev} (d : Dev) (n : Nat) : d.Confined view lcFlds (d.lcGot n) :=
  (Dev.setMany_confined _ _ (by simp [lcFlds])).after (d.set_confined (by decide) ..)

/-- The first link-control frame that a port counts in a microsecond. -/
theorem lcGot_linkWithoutPower : (linkWithoutPower.dev.lcGot 5).get .h_lc_count 5 = 1 := by decide

/-- Refutes O29: its last clause, of a withdrawal of the partner, whose premises do not ask for the quadrant of the port. In
`linkWithoutPower` they hold; the frame has no effect, and it is not counted among those of its microsecond. -/
theorem not_expressCircuits : ¬ Obligations.ExpressCircuits := by
  intro h
  obtain ⟨-, -, -, -, -, -, -, -, -, -, -, -, -, -, -, -, hwithdraw⟩ := h linkWithoutPower
  have he := hwithdraw 5 0 0 0 (by decide)
  rw [exec_lcExpressWithdraw, Dev.lcIn_of_quad_off (by decide)] at he
  have hends := congrArg (fun t : State => t.dev.get .h_lc_count 5) (Host.Outcome.next.inj he)
  have hown : Fld.h_lc_count ∉ clockFlds ++ lostFlds := by decide
  have hidle : linkWithoutPower.dev.idle := ⟨rfl, rfl, rfl, rfl, rfl⟩
  rw [State.endsX_dev, State.endsX_dev, Dev.get_settle_flush hidle hown,
    Dev.get_settle_flush (Dev.idle_of_rest (Dev.lcGot_confined (view := id) ..).rest hidle) hown] at hends
  exact absurd (hends.trans lcGot_linkWithoutPower) (by decide)

end Sys2Proof.Machine
end

section
/-! SUPPORT. A SPARE_REQ where the quadrant of its port is off (R17, R116). -/

namespace Sys2Proof.Machine

theorem exec_lcSpareReq (s : State) (port : Fin 512) (seq : BitVec 16) (back : Bool) (slot spare : Fin 5) (cw : BitVec 32) :
    exec (.lcSpareReq port seq back slot spare cw) s = .next (s.endsX (s.dev.lcUnbound port (fun d => d.lcAdmitted port
      (fun d => d.spareReqRx port seq.toNat back slot spare cw.toNat)))) := rfl

theorem Dev.lcUnbound_of_unbound {d : Dev} {n : Nat} (h : d.boundSvc n = none) (f : Dev → Dev) : d.lcUnbound n f = f d := by
  simp [Dev.lcUnbound, h]

theorem Dev.lcAdmitted_of_quad_off {d : Dev} {n : Nat} (h : d.quadOn n = false) (f : Dev → Dev) : d.lcAdmitted n f = d :=
  Dev.lcIn_of_quad_off h _

/-- The link of port 5 is ADMITTED with its lanes on slots 0 to 3, and the quadrant of the port has no power. -/
def admittedWithoutPower : State :=
  { dev := ({} : Dev).setMany [(.sys_pd_status_on, 0, 3), (.port_status_link_status, 5, lsADMITTED)] }

/-- Refutes O28: its clause of a SPARE_REQ that passes its checks, whose premises do not ask for the quadrant of the port. In
`admittedWithoutPower` they hold; the frame has no effect, and the receive switch is not armed. -/
theorem not_sparingSequences : ¬ Obligations.SparingSequences := by
  intro h
  obtain ⟨-, -, -, -, -, -, hrequest, -⟩ := h admittedWithoutPower
  obtain ⟨e, he, ⟨harmed, -⟩, -, hrest⟩ := hrequest 5 0 true 4 0 1024 (by decide) (by decide)
  rw [exec_lcSpareReq, Dev.lcUnbound_of_unbound (by decide), Dev.lcAdmitted_of_quad_off (by decide)] at he
  have hends := congrArg (fun t : State => t.dev.get .opt_lane_next_rx_arm 5) (Host.Outcome.next.inj he)
  have hown : Fld.opt_lane_next_rx_arm ∉ clockFlds ++ lostFlds := by decide
  rw [State.endsX_dev, State.endsX_dev, Dev.get_settle_flush ⟨rfl, rfl, rfl, rfl, rfl⟩ hown,
    Dev.get_settle_flush (Dev.idle_of_rest hrest ⟨rfl, rfl, rfl, rfl, rfl⟩) hown] at hends
  exact absurd (hends.trans harmed) (by decide)

end Sys2Proof.Machine
end

section
/-! SUPPORT. The failure of a DFB while the octet runs a sequence whose slot field names no slot (R121, R123). -/

namespace Sys2Proof.Machine

/-! ### The end of a command that lost copies, where no context is held (R283) -/

theorem Dev.markLost_of_no_ctx {d : Dev} (h : d.ctxs = {}) (port : Nat) (hd : Hdr) : d.markLost port hd = d := by
  have hnone : d.ctx hd.ctx = none := by rw [Dev.ctx, h]; rfl
  simp [Dev.markLost, hnone]

/-- Where no context is held, lost copies are forgotten. -/
theorem Dev.absorb_of_no_ctx {d : Dev} (hctx : d.ctxs = {}) (hidle : ({ d with undeliv := [] } : Dev).idle) :
    d.absorb = { d with undeliv := [] } := by
  obtain ⟨hseen, hout, -, -, -⟩ := hidle
  have hlost (e : Dev) (he : e.ctxs = {}) (l : List (Nat × Hdr)) : l.foldl (fun d u => d.markLost u.1 u.2) e = e :=
    List.foldlRecOn (motive := (· = e)) l _ rfl (fun _ hd u _ => by rw [hd, Dev.markLost_of_no_ctx he])
  unfold Dev.absorb
  cases d
  simp_all [Dev.collDrain]

theorem Dev.settle_of_no_ctx {d : Dev} (hctx : d.ctxs = {}) (hidle : ({ d with undeliv := [] } : Dev).idle) :
    d.settle = ({ d with undeliv := [] } : Dev).settle := by
  rw [Dev.settle, Dev.settle, Dev.absorb_of_no_ctx hctx hidle, Dev.absorb_of_idle hidle]

theorem Dev.get_settle_flush_of_no_ctx {d : Dev} (hctx : d.ctxs = {}) (hidle : ({ d with undeliv := [] } : Dev).idle) {f : Fld}
    (hf : f ∉ clockFlds ++ lostFlds) (i : Nat) : d.settle.flush.get f i = d.get f i := by
  rw [Dev.settle_of_no_ctx hctx hidle, Dev.get_settle_flush hidle hf]
  rfl

/-! ### The counterexample -/

theorem exec_dfbFail (s : State) (octet : Fin 64) (slot : Fin 5) :
    exec (.dfbFail octet slot) s = .next (s.endsX (s.dev.dfbFail octet slot)) := rfl

/-- The DFB of slot 0 of octet 0 is LIT. The octet prepares to park slot 5, which is none, with port 0 as its participant, and lane 0
of that port receives 0 dBm. -/
def failureBesideNoSlot : State :=
  { dev := ({} : Dev).setMany [(.port_status_link_status, 0, lsADMITTED), (.las_dfb_status_state, 0, 3), (.las_oct_status_phase, 0, 2),
      (.las_oct_status_slot, 0, 5), (.las_oct_status_participants, 0, 1), (.h_seq_kind, 0, 1), (.opt_rx_power_lane, 0, 0)] }

/-- The failure fences port 0, the sequence goes on without it and turns off ring 5 of every port, which is the receive ring of slot
0: lane 0 has no measurement any more (R87). -/
theorem dfbFail_failureBesideNoSlot :
    (failureBesideNoSlot.dev.dfbFail 0 0).get .opt_rx_power_lane 0 = 0x8000 ∧ (failureBesideNoSlot.dev.dfbFail 0 0).idle := by
  refine ⟨?_, ?_, ?_, ?_, ?_, ?_⟩ <;> decide +kernel

/-- Refutes O27: its clause of a failed DFB, whose premises do not ask that the slot of the octet's sequence be one of the five (a
write of LAS_OCT_CMD names no other, R136). In `failureBesideNoSlot` they hold, and the failure changes the received power of a
lane, which is not among the fields listed. -/
theorem not_laserLightingAndWear : ¬ Obligations.LaserLightingAndWear := by
  intro h
  obtain ⟨-, -, -, -, -, -, -, -, hfail, -⟩ := h failureBesideNoSlot
  obtain ⟨e, he, -, hkeeps, hrest⟩ := hfail 0 0 (by decide)
  obtain ⟨hdark, hidle⟩ := dfbFail_failureBesideNoSlot
  rw [exec_dfbFail, Fin.val_zero, Fin.val_zero] at he
  have hends := congrArg (fun t : State => t.dev.get .opt_rx_power_lane 0) (Host.Outcome.next.inj he)
  have hown : Fld.opt_rx_power_lane ∉ clockFlds ++ lostFlds := by decide
  have hectx : e.ctxs = {} := congrArg Dev.ctxs hrest
  have heidle : ({ e with undeliv := [] } : Dev).idle :=
    ⟨congrArg Dev.collSeen hrest, congrArg Dev.collOut hrest, rfl, congrArg Dev.fmemOut hrest, congrArg Dev.works hrest⟩
  rw [State.endsX_dev, State.endsX_dev, Dev.get_settle_flush hidle hown, Dev.get_settle_flush_of_no_ctx hectx heidle hown,
    hkeeps _ _ (by decide)] at hends
  exact absurd (hdark.symm.trans hends) (by decide)

end Sys2Proof.Machine
end

section
/-! SUPPORT. A link-control frame of a reserved type where the quadrant of its port is off (R17, R152). -/

namespace Sys2Proof.Machine

theorem exec_lcTypeReserved (s : State) (port : Fin 512) (lcType : BitVec 8) :
    exec (.lcTypeReserved port lcType) s = .next (s.endsX (s.dev.lcIn port (fun d =>
      if 1 ≤ lcType.toNat ∧ lcType.toNat ≤ 0x0C then d else d.count port .LC_UNKNOWN))) := rfl

/-- Refutes O21: its clause of a reserved lc_type, whose premises do not ask for the quadrant of the port (nor do those of its clause
of RESTART). In `linkWithoutPower` they hold; the frame has no effect, and it is not counted among those of its microsecond. -/
theorem not_linkLossAndFraming : ¬ Obligations.LinkLossAndFraming := by
  intro h
  obtain ⟨-, -, -, hreserved, -⟩ := h linkWithoutPower
  have he := hreserved 5 0 (by decide) (by decide)
  rw [exec_lcTypeReserved, Dev.lcIn_of_quad_off (by decide)] at he
  have hends := congrArg (fun t : State => t.dev.get .h_lc_count 5) (Host.Outcome.next.inj he)
  have hcount : (linkWithoutPower.dev.lcGot 5).Confined id countFlds ((linkWithoutPower.dev.lcGot 5).count 5 .LC_UNKNOWN) :=
    Dev.count_confined ..
  have hidle : ((linkWithoutPower.dev.lcGot 5).count 5 .LC_UNKNOWN).idle :=
    Dev.idle_of_rest hcount.rest ⟨rfl, rfl, rfl, rfl, rfl⟩
  have hown : Fld.h_lc_count ∉ clockFlds ++ lostFlds := by decide
  rw [State.endsX_dev, State.endsX_dev, Dev.get_settle_flush ⟨rfl, rfl, rfl, rfl, rfl⟩ hown] at hends
  have hcounted := (Dev.get_settle_flush hidle hown 5).trans (hcount.fields .h_lc_count 5 (by decide))
  exact absurd (hends.trans (hcounted.trans lcGot_linkWithoutPower)) (by decide)

end Sys2Proof.Machine
end

section
/-! SUPPORT. The forwarding table: a write of its seeds (R201), lock slots and their commits (R192 to R195), the sweep (R188 to
R190). -/

namespace Sys2Proof.Machine

/-- A command that is a plain companion write and passes its checks has the effect of its register. -/
theorem State.run_hostWrite_of_accepts {s : State} {c : Instr} {m : Mark} {r : RegRow} {i v : Nat}
    {eff : Nat → Nat → List Nat → Dev → Dev} {e : Dev} (hw : writeOf c = some (m, r, i, v)) (h : s.dev.accepts c = true)
    (he : eff 0 v [] s.dev = e) : s.run (fun d => d.hostWrite m r i v eff) = .next (s.ends e.ok) := by
  rw [← he, ← Dev.hostWrite_of_accepts hw h eff]
  rfl

/-! ### Seeds and limits (R187, R201) -/

/-- The device after a write of FWD_CTRL of which both seeds are refused. -/
def Dev.seedsKept (d : Dev) (v : Nat) (bad : List Nat) : Dev :=
  (d.writeFields rowFWD_CTRL 0 v bad).setMany [(.fwd_ctrl_seed_a, 0, d.get .fwd_ctrl_seed_a),
    (.fwd_ctrl_seed_b, 0, d.get .fwd_ctrl_seed_b)]

section
variable {d : Dev} {v : Nat} {bad : List Nat}

/-- With no entry valid, two different seeds are taken. -/
theorem Dev.fwdCtrlWrite_of_differ (hfree : d.entriesValid = 0)
    (hdiffer : (d.writeFields rowFWD_CTRL 0 v bad).get .fwd_ctrl_seed_a ≠
      (d.writeFields rowFWD_CTRL 0 v bad).get .fwd_ctrl_seed_b) :
    d.fwdCtrlWrite v bad = d.writeFields rowFWD_CTRL 0 v bad := by
  unfold Dev.fwdCtrlWrite
  dsimp only
  rw [if_neg (not_not_intro hfree), if_neg hdiffer, ite_self]

variable (hnew : ¬((d.writeFields rowFWD_CTRL 0 v bad).get .fwd_ctrl_seed_a = d.get .fwd_ctrl_seed_a ∧
  (d.writeFields rowFWD_CTRL 0 v bad).get .fwd_ctrl_seed_b = d.get .fwd_ctrl_seed_b))
include hnew

/-- While entries are valid, both seeds stay. -/
theorem Dev.fwdCtrlWrite_of_valid (hvalid : d.entriesValid ≠ 0) :
    d.fwdCtrlWrite v bad = (d.seedsKept v bad).raise .FWD_SEED_BUSY d.pathDevice := by
  unfold Dev.fwdCtrlWrite
  dsimp only
  rw [if_neg hnew, if_pos hvalid]
  rfl

/-- Two equal seeds are not taken. -/
theorem Dev.fwdCtrlWrite_of_equal (hfree : d.entriesValid = 0) (hequal : (d.writeFields rowFWD_CTRL 0 v bad).get .fwd_ctrl_seed_a =
      (d.writeFields rowFWD_CTRL 0 v bad).get .fwd_ctrl_seed_b) :
    d.fwdCtrlWrite v bad = (d.seedsKept v bad).raise .FWD_SEED_INVALID d.pathDevice := by
  unfold Dev.fwdCtrlWrite
  dsimp only
  rw [if_neg hnew, if_neg (not_not_intro hfree), if_pos hequal]
  rfl
end

/-- A port that was learn-blocked before does not rise. -/
theorem Dev.learnRises_of_blocked {d old : Dev} {n : Nat} (h : old.learnBlocked n = true) : d.learnRises old [n] = d := by
  have hports : [n].eraseDups = [n] := rfl
  rw [Dev.learnRises, hports, List.foldl_cons, List.foldl_nil, if_neg (by simp [h])]

/-- The ports whose learn_blocked rises leave records, and nothing else changes. -/
theorem Dev.learnRises_confined {view : Dev → Dev} {own : List Fld} (d old : Dev) (ps : List Nat) :
    d.Confined view own (d.learnRises old ps) :=
  .foldl (fun d _ => .ite (d.raise_confined ..) (.refl d)) _ d

/-! ### FWD_LOCK_REQ (R192, R204) -/

/-- The two fields of a FWD_LOCK_REQ word. -/
theorem slice_lockWord {cmd : Nat} (hcmd : cmd < 4) (b : BitVec 19) :
    slice (lockWord cmd b.toNat) 62 2 = cmd ∧ slice (lockWord cmd b.toNat) 0 19 = b.toNat := by
  have hb := b.isLt
  unfold slice lockWord
  omega

section
variable (d : Dev) (k : Nat) (b : BitVec 19)

theorem Dev.lockReqWrite_nop : d.lockReqWrite k (lockWord 0 b.toNat) = d := by
  simp only [Dev.lockReqWrite, (slice_lockWord (show 0 < 4 by decide) b).1]

theorem Dev.lockReqWrite_acquire : d.lockReqWrite k (lockWord 1 b.toNat) = (d.lockAcquire k b.toNat).1 := by
  simp only [Dev.lockReqWrite, slice_lockWord (show 1 < 4 by decide) b]

theorem Dev.lockReqWrite_release : d.lockReqWrite k (lockWord 2 b.toNat) = d.lockRelease k := by
  simp only [Dev.lockReqWrite, (slice_lockWord (show 2 < 4 by decide) b).1]

theorem Dev.lockReqWrite_commit : d.lockReqWrite k (lockWord 3 b.toNat) = (d.lockCommit [k]).1 := by
  simp only [Dev.lockReqWrite, (slice_lockWord (show 3 < 4 by decide) b).1]
end

section
variable {d : Dev} {k b : Nat}

theorem Dev.lockAcquire_of_held (h : d.slotHeld k = true) :
    (d.lockAcquire k b).1 = d.set .fwd_lock_status_result k lkSLOT_BUSY := by
  rw [Dev.lockAcquire, if_pos h]

variable (hempty : d.slotHeld k = false)
include hempty

theorem Dev.lockAcquire_of_out_of_range (hb : nUnits ≤ b) :
    (d.lockAcquire k b).1 = (d.set .fwd_lock_status_bucket k b).set .fwd_lock_status_result k lkRANGE := by
  rw [Dev.lockAcquire, if_neg (by simp [hempty]), if_pos hb]

theorem Dev.lockAcquire_of_locked (hb : b < nUnits) (hlocked : d.locked b = true) :
    (d.lockAcquire k b).1 = (d.set .fwd_lock_status_bucket k b).set .fwd_lock_status_result k lkBUSY := by
  rw [Dev.lockAcquire, if_neg (by simp [hempty]), if_neg (Nat.not_le.mpr hb), if_pos (by simp [hlocked])]

/-- A free bucket is copied to the stage and held. -/
theorem Dev.lockAcquire_of_free (hb : b < nUnits) (hfree : d.locked b = false) :
    (d.lockAcquire k b).1 = (((d.set .fwd_lock_status_bucket k b).setMany ((List.range 8).map (fun j =>
        (.fwd_lock_stage_stage, 8 * k + j, d.ftab.get (8 * b + j) 0)))).setMany [(.fwd_lock_status_held, k, 1),
        (.h_lock_us, k, max 1 (d.get .fwd_lock_ctrl_lock_timeout_us))]).set .fwd_lock_status_result k lkOK := by
  have hkept : ((d.set .fwd_lock_status_bucket k b).setMany ((List.range 8).map (fun j =>
      (.fwd_lock_stage_stage, 8 * k + j, d.ftab.get (8 * b + j) 0)))).get .fwd_lock_ctrl_lock_timeout_us =
      d.get .fwd_lock_ctrl_lock_timeout_us := by
    rw [Dev.setMany_get _ _ _ _ (by simpa using fun _ _ => .inl (by decide)), Dev.get_set_fld _ (by decide)]
  rw [Dev.lockAcquire, if_neg (by simp [hempty]), if_neg (Nat.not_le.mpr hb), if_neg (by simp [hfree]), ← hkept]
  rfl
end

/-! ### Entries (R179) -/

theorem Dev.setEntry_fw_same (d : Dev) (e w0 w1 : Nat) :
    (d.setEntry e w0 w1).fw e 0 = w0 ∧ (d.setEntry e w0 w1).fw e 1 = w1 := by
  simp [Dev.fw, Dev.setEntry, SMap.get_set]

theorem Dev.setEntry_fw_other (d : Dev) {e x w : Nat} (hx : x ≠ e) (hw : w < 2) (w0 w1 : Nat) :
    (d.setEntry e w0 w1).fw x w = d.fw x w := by
  unfold Dev.fw Dev.setEntry
  rw [SMap.get_set_other _ (by omega), SMap.get_set_other _ (by omega)]

/-- Entries written one after another hold what each was given. -/
theorem Dev.foldl_setEntry_fw (d : Dev) (b : Nat) (w0 w1 : Nat → Nat) {n i : Nat} (hi : i < n) :
    ((List.range n).foldl (fun d i => d.setEntry (b + i) (w0 i) (w1 i)) d).fw (b + i) 0 = w0 i ∧
      ((List.range n).foldl (fun d i => d.setEntry (b + i) (w0 i) (w1 i)) d).fw (b + i) 1 = w1 i := by
  induction n with
  | zero => exact absurd hi (Nat.not_lt_zero i)
  | succ n ih =>
    rw [List.range_succ, List.foldl_append, List.foldl_cons, List.foldl_nil]
    rcases Nat.lt_succ_iff_lt_or_eq.mp hi with hlt | rfl
    · rw [Dev.setEntry_fw_other _ (by omega) (by decide), Dev.setEntry_fw_other _ (by omega) (by decide)]
      exact ih hlt
    · exact Dev.setEntry_fw_same ..

/-! ### Commits (R193, R194) -/

/-- The fields of a slot that a commit writes. -/
def commitFlds : List Fld := [.fwd_lock_status_result, .fwd_lock_status_held]

/-- The block without the forwarding table and the messages out. -/
def Dev.lessTable (d : Dev) : Dev := { d with ftab := {}, sent := [] }

theorem Dev.Confined.rest_lessTable {own : List Fld} {d e : Dev} (h : d.Confined Dev.lessTable own e) :
    e.rest = ({ d with ftab := e.ftab, sent := e.sent } : Dev).rest :=
  calc e.rest
    _ = { e.rest.lessTable with ftab := e.ftab, sent := e.sent } := rfl
    _ = { d.rest.lessTable with ftab := e.ftab, sent := e.sent } := by rw [h.rest]
    _ = ({ d with ftab := e.ftab, sent := e.sent } : Dev).rest := rfl

/-- Slot `k` is freed with OK. -/
def Dev.slotDone (d : Dev) (k : Nat) : Prop := d.slotHeld k = false ∧ d.get .fwd_lock_status_result k = lkOK

theorem Dev.Confined.slotDone {view : Dev → Dev} {d e : Dev} {k : Nat} (h : d.Confined view [] e) (hd : d.slotDone k) :
    e.slotDone k :=
  ⟨(h.flag_eq (by simp) k).trans hd.1, (h.fields _ _ (by simp)).trans hd.2⟩

theorem Dev.setEntries_confined {own : List Fld} (d : Dev) (b : Nat) (w0 w1 : Nat → Nat) (l : List Nat) :
    d.Confined Dev.lessTable own (l.foldl (fun d i => d.setEntry (b + i) (w0 i) (w1 i)) d) := by
  have hentry (d : Dev) (i : Nat) : d.Confined Dev.lessTable own (d.setEntry (b + i) (w0 i) (w1 i)) := .same (.refl d) rfl rfl
  exact .foldl hentry l d

section
variable (d live : Dev) (ks : List Nat) (k : Nat)

theorem Dev.installSlot_confined : d.Confined Dev.lessTable commitFlds (d.installSlot live ks k) :=
  (Dev.setMany_confined _ _ (by simp [commitFlds])).after (d.setEntries_confined ..)

theorem Dev.installSlot_slotDone : (d.installSlot live ks k).slotDone k := by
  simp [Dev.slotDone, Dev.slotHeld, Dev.flag, Dev.installSlot, Dev.get_set, lkOK]

variable {d k} in
/-- A slot that is done stays so. -/
theorem Dev.slotDone.installSlot (h : d.slotDone k) (j : Nat) : (d.installSlot live ks j).slotDone k := by
  by_cases hj : k = j
  · rw [hj]
    exact d.installSlot_slotDone live ks j
  · unfold Dev.installSlot
    dsimp only
    generalize hwritten : (List.range 4).foldl _ d = e
    obtain ⟨hheld, hresult⟩ : e.slotDone k := by
      rw [← hwritten]
      exact Dev.Confined.slotDone (d.setEntries_confined ..) h
    have hother (f : Fld) : (e.setMany [(.fwd_lock_status_held, j, 0), (.fwd_lock_status_result, j, lkOK)]).get f k = e.get f k :=
      Dev.setMany_get _ _ _ _ (by simp [hj])
    exact ⟨by rwa [Dev.slotHeld, Dev.flag, hother], (hother _).trans hresult⟩

/-- The entries of the slot's bucket are the staged ones, with the age marks of the entries that were live. -/
theorem Dev.installSlot_fw {i : Nat} (hi : i < 4) :
    (d.installSlot live ks k).fw (4 * live.get .fwd_lock_status_bucket k + i) 0 = live.keepAge ks (live.staged k (2 * i)) ∧
      (d.installSlot live ks k).fw (4 * live.get .fwd_lock_status_bucket k + i) 1 = live.staged k (2 * i + 1) :=
  Dev.foldl_setEntry_fw d _ (fun i => live.keepAge ks (live.staged k (2 * i))) (fun i => live.staged k (2 * i + 1)) hi
end

/-- The device with the slots of a commit installed and freed. -/
def Dev.installed (d : Dev) (ks : List Nat) : Dev := ks.foldl (fun a k => a.installSlot d ks k) d

theorem Dev.installed_confined (d : Dev) (ks : List Nat) : d.Confined Dev.lessTable commitFlds (d.installed ks) :=
  .foldl (fun a k => a.installSlot_confined d ks k) ks d

/-- Of the slots installed one after another each is done at the end, and so is one that was before. -/
theorem Dev.foldl_installSlot_slotDone (d live : Dev) (ks : List Nat) {k : Nat} {l : List Nat} (h : k ∈ l ∨ d.slotDone k) :
    (l.foldl (fun a j => a.installSlot live ks j) d).slotDone k := by
  induction l generalizing d with
  | nil => simpa using h
  | cons j l ih =>
    refine ih _ ?_
    rcases h with hmem | hdone
    · rcases List.mem_cons.mp hmem with rfl | hlater
      · exact .inr (d.installSlot_slotDone live ks k)
      · exact .inl hlater
    · exact .inr (hdone.installSlot live ks j)

/-- A commit in which no slot has a fault installs its slots; ports may become learn-blocked by it. -/
theorem Dev.lockCommit_of_ok {d : Dev} {ks : List Nat} (hlen : ks.length ≤ 8) (hok : ∀ k ∈ ks, d.slotFails ks k = lkOK) :
    ∃ ports, (d.lockCommit ks).1 = (d.installed ks).learnRises d ports := by
  unfold Dev.lockCommit
  dsimp only
  rw [if_pos ⟨hlen, by simpa using hok⟩]
  exact ⟨_, rfl⟩

/-- Any other one changes the results alone. -/
theorem Dev.lockCommit_of_fault {d : Dev} {ks : List Nat} (h : 8 < ks.length ∨ ∃ k ∈ ks, d.slotFails ks k ≠ lkOK) :
    (d.lockCommit ks).1 = ks.foldl (fun x k => x.set .fwd_lock_status_result k
      (if d.slotFails ks k = lkOK then lkCOMMIT_SET else d.slotFails ks k)) d := by
  unfold Dev.lockCommit
  dsimp only
  rw [if_neg]
  · exact List.foldl_map
  · rintro ⟨hlen, hok⟩
    rcases h with h | ⟨k, hk, hne⟩
    · omega
    · exact hne (by simpa using List.all_eq_true.mp hok (k, d.slotFails ks k) (List.mem_map_of_mem hk))

/-- A commit without a fault, and its answer: it changes slots and table alone, every slot is done, the entries are
those installed. -/
theorem Dev.lockCommit_ok_leaves {d : Dev} {ks : List Nat} (hlen : ks.length ≤ 8) (hok : ∀ k ∈ ks, d.slotFails ks k = lkOK) :
    d.Confined Dev.lessTable commitFlds (d.lockCommit ks).1.ok ∧ (∀ k ∈ ks, (d.lockCommit ks).1.ok.slotDone k) ∧
      ∀ e w, (d.lockCommit ks).1.ok.fw e w = (d.installed ks).fw e w := by
  obtain ⟨ports, hcommit⟩ := Dev.lockCommit_of_ok hlen hok
  rw [hcommit]
  have hrises : (d.installed ks).Confined id [] ((d.installed ks).learnRises d ports) := Dev.learnRises_confined ..
  refine ⟨.same ((hrises.hide.mono (List.nil_subset _)).after (d.installed_confined ks)) rfl rfl,
    fun k hk => hrises.slotDone (d.foldl_installSlot_slotDone d ks (.inl hk)),
    fun e w => hrises.part (fun d => d.fw e w) (fun _ => rfl)⟩

/-! ### Timeouts of holds (R195) -/

theorem Dev.lockTimeout_of_held {d : Dev} {k : Nat} (h : d.slotHeld k = true) :
    d.lockTimeout k = ((d.setMany [(.fwd_lock_status_held, k, 0), (.fwd_lock_status_result, k, lkLOCK_LOST)]).count blkDevice
      .FWD_LOCK_TIMEOUT).raise .FWD_LOCK_TIMEOUT (d.pathDevice ucLOCK_SLOT k) [.h k, .w (d.get .fwd_lock_status_bucket k)] := by
  rw [Dev.lockTimeout, if_pos h]
  dsimp only
  generalize hlost : (d.setMany [(.fwd_lock_status_held, k, 0), (.fwd_lock_status_result, k, lkLOCK_LOST)]).count blkDevice
    .FWD_LOCK_TIMEOUT = e
  have hkept : d.Keeps e (commitFlds ++ countFlds) := by
    rw [← hlost]
    exact (((Dev.count_confined ..).mono (List.subset_append_right _ _)).after
      (d.setMany_confined (view := id) _ (by simp [commitFlds]))).fields
  have hpath : e.pathDevice ucLOCK_SLOT k = d.pathDevice ucLOCK_SLOT k := by
    simp only [Dev.pathDevice, Dev.pathBase, hkept .sys_fabric_pos_hall 0 (by decide), hkept .sys_fabric_pos_plane 0 (by decide),
      hkept .sys_fabric_pos_device 0 (by decide)]
  rw [← hpath, ← hkept .fwd_lock_status_bucket k (by decide)]

/-! ### The sweep (R188 to R190) -/

/-- What is locked depends on the lock slots alone. -/
theorem Dev.Confined.locked_eq {view : Dev → Dev} {own : List Fld} {d e : Dev} (h : d.Confined view own e)
    (hheld : Fld.fwd_lock_status_held ∉ own) (hbucket : Fld.fwd_lock_status_bucket ∉ own) (b : Nat) : e.locked b = d.locked b := by
  simp only [Dev.locked, Dev.slotHeld, h.flag_eq hheld, h.fields _ _ hbucket]

/-- The fields in which the sweep shows and keeps its place. -/
def sweepFlds : List Fld := [.fwd_sweep_sweep_pos, .h_sweep_at]

theorem Dev.sweepDone_of_skipped {d : Dev} (h : d.swSkipped ≠ []) : d.sweepDone = d := if_neg (fun hdone => h hdone.2)

/-- The device whose sweep shows where it is and goes on to the next bucket. -/
def Dev.sweepNext (d : Dev) : Dev :=
  d.setMany [(.fwd_sweep_sweep_pos, 0, d.get .h_sweep_at), (.h_sweep_at, 0, d.get .h_sweep_at + 1)]

section
variable {d : Dev} (hon : d.sweepOn = true)
include hon

/-- A visit while the round goes on: a bucket that is not locked is aged, and the end of the sweep is looked for. -/
theorem Dev.sweepVisit_eq (hat : d.get .h_sweep_at < nUnits) :
    d.sweepVisit = (if d.locked (d.get .h_sweep_at) then { d.sweepNext with swSkipped := d.swSkipped ++ [d.get .h_sweep_at] }
      else d.sweepNext.ageUnit (d.get .h_sweep_at)).sweepDone := by
  have hnext : d.Confined id sweepFlds d.sweepNext := d.setMany_confined _ (by simp [sweepFlds])
  rw [← hnext.locked_eq (by decide) (by decide)]
  exact if_neg (by simp [hon, hat])

/-- A locked bucket is put aside, and the sweep is not at its end then. -/
theorem Dev.sweepVisit_of_locked (hat : d.get .h_sweep_at < nUnits) (hlocked : d.locked (d.get .h_sweep_at) = true) :
    d.sweepVisit = { d.sweepNext with swSkipped := d.swSkipped ++ [d.get .h_sweep_at] } := by
  rw [Dev.sweepVisit_eq hon hat, if_pos hlocked, Dev.sweepDone_of_skipped (by simp)]

theorem Dev.sweepVisit_of_free (hat : d.get .h_sweep_at < nUnits) (hfree : d.locked (d.get .h_sweep_at) = false) :
    d.sweepVisit = (d.sweepNext.ageUnit (d.get .h_sweep_at)).sweepDone := by
  rw [Dev.sweepVisit_eq hon hat, if_neg (by simp [hfree])]

/-- At the end of a round the first bucket put aside is aged if it is free by now. -/
theorem Dev.sweepRevisit_of_free {k : Nat} {r : List Nat} (hat : d.get .h_sweep_at = nUnits) (hskipped : d.swSkipped = k :: r)
    (hfree : d.locked k = false) :
    d.sweepRevisit = ((({ d with swSkipped := r } : Dev).set .fwd_sweep_sweep_pos 0 k).ageUnit k).sweepDone := by
  have hshown : d.Confined (fun _ => {}) sweepFlds (({ d with swSkipped := r } : Dev).set .fwd_sweep_sweep_pos 0 k) :=
    (Dev.set_confined _ (by decide) ..).after (.same (.refl d) rfl rfl)
  unfold Dev.sweepRevisit
  rw [hskipped]
  dsimp only
  rw [if_pos (by simp [hon, hat]), hshown.locked_eq (by decide) (by decide), if_neg (by simp [hfree])]
end

/-- Settles O32: each command passes its checks and does what the lemma on its case says; a commit is read off what it leaves. -/
theorem forwardingTable : Obligations.ForwardingTable := by
  intro s
  refine ⟨fun m v h hfree hdiffer => ?taken, fun m v h hvalid hnew => ?busySeed, fun m v h hfree hnew hequal => ?equalSeed,
    fun m v h => ?age, fun m port v h hblocked => ?learn, fun m slot b h => ?nop, fun m slot b h ⟨hempty, hb, hfree⟩ => ?acquire,
    fun m slot b h hheld => ?slotBusy, fun m slot b h ⟨hempty, hb, hlocked⟩ => ?busy, fun m slot b h ⟨hempty, hb⟩ => ?range,
    fun m slot b h => ?release, fun m slot b h hok => ?commit, fun m slot b h hfault => ?commitFault,
    fun m v h hlen hok => ?commitSet, fun m v h hfault => ?commitSetFault, fun slot hheld => ?timeout,
    fun ⟨hon, hat⟩ hlocked => ?visitLocked, fun ⟨hon, hat⟩ hfree => ?visit, fun k r ⟨hon, hat, hskipped⟩ hfree => ?revisit⟩
  case taken => exact State.run_hostWrite_of_accepts rfl h (Dev.fwdCtrlWrite_of_differ hfree hdiffer)
  case busySeed => exact State.run_hostWrite_of_accepts rfl h (Dev.fwdCtrlWrite_of_valid hnew hvalid)
  case equalSeed => exact State.run_hostWrite_of_accepts rfl h (Dev.fwdCtrlWrite_of_equal hnew hfree hequal)
  case age => exact State.run_hostWrite_of_accepts rfl h rfl
  case learn => exact State.run_hostWrite_of_accepts rfl h (Dev.learnRises_of_blocked hblocked)
  case nop => exact State.run_hostWrite_of_accepts rfl h (s.dev.lockReqWrite_nop slot b)
  case acquire =>
    exact State.run_hostWrite_of_accepts rfl h ((s.dev.lockReqWrite_acquire slot b).trans (Dev.lockAcquire_of_free hempty hb hfree))
  case slotBusy =>
    exact State.run_hostWrite_of_accepts rfl h ((s.dev.lockReqWrite_acquire slot b).trans (Dev.lockAcquire_of_held hheld))
  case busy =>
    exact State.run_hostWrite_of_accepts rfl h
      ((s.dev.lockReqWrite_acquire slot b).trans (Dev.lockAcquire_of_locked hempty hb hlocked))
  case range =>
    exact State.run_hostWrite_of_accepts rfl h
      ((s.dev.lockReqWrite_acquire slot b).trans (Dev.lockAcquire_of_out_of_range hempty hb))
  case release => exact State.run_hostWrite_of_accepts rfl h (s.dev.lockReqWrite_release slot b)
  case commit =>
    obtain ⟨hconfined, hdone, hentries⟩ := Dev.lockCommit_ok_leaves (d := s.dev) (ks := [slot.val]) (by simp) (by simpa using hok)
    obtain ⟨hheld, hresult⟩ := hdone slot (List.mem_singleton_self _)
    refine ⟨_, State.run_hostWrite_of_accepts rfl h (s.dev.lockReqWrite_commit slot b), ⟨hheld, hresult, fun i => ?_⟩,
      hconfined.fields.mono (by decide), hconfined.rest_lessTable⟩
    rw [hentries, hentries]
    exact s.dev.installSlot_fw s.dev [slot.val] slot i.isLt
  case commitFault =>
    refine State.run_hostWrite_of_accepts rfl h ((s.dev.lockReqWrite_commit slot b).trans ?_)
    rw [Dev.lockCommit_of_fault (.inr ⟨slot, List.mem_singleton_self _, hfault⟩), List.foldl_cons, List.foldl_nil, if_neg hfault]
  case commitSet =>
    obtain ⟨hconfined, hdone, -⟩ := Dev.lockCommit_ok_leaves hlen hok
    exact ⟨_, State.run_hostWrite_of_accepts rfl h rfl, hdone, hconfined.fields, hconfined.rest_lessTable⟩
  case commitSetFault => exact State.run_hostWrite_of_accepts rfl h (Dev.lockCommit_of_fault hfault)
  case timeout => exact State.runX_of_eq (Dev.lockTimeout_of_held hheld)
  case visitLocked => exact State.runX_of_eq (Dev.sweepVisit_of_locked hon hat hlocked)
  case visit => exact State.runX_of_eq (Dev.sweepVisit_of_free hon hat hfree)
  case revisit => exact State.runX_of_eq (Dev.sweepRevisit_of_free hon hat hskipped hfree)

end Sys2Proof.Machine
end

section
/-! SUPPORT. Egress: what a write of a scheduler, a shaper, a policer or a time gate does (R237, R239, R245, R248), and the gate
lists of a port (R240 to R244). -/

namespace Sys2Proof.Machine

/-- A write of a register changes the fields of that register alone. -/
theorem Dev.writeFields_confined {view : Dev → Dev} {own : List Fld} {r : RegRow} (hr : ∀ f ∈ r.fields, f.fld ∈ own) (d : Dev)
    (i v : Nat) (bad : List Nat) : d.Confined view own (d.writeFields r i v bad) :=
  ⟨fun _ _ hg => d.writeFields_get_other r i v bad (fun f hf hfld => absurd (hfld ▸ hr f hf) hg),
    congrArg view (d.writeFields_rest r i v bad)⟩

/-! ### Schedulers and shapers (R237, R239) -/

section
variable {d : Dev} {n c half v : Nat} {bad : List Nat}

/-- Where no class moves between STRICT and DWRR, none starts anew. -/
theorem Dev.schedCfgWrite_of_kept
    (h : ∀ c < 8, (d.writeFields rowSCHED_PORT_CFG n v bad).strict n c = d.strict n c) :
    d.schedCfgWrite n v bad = d.writeFields rowSCHED_PORT_CFG n v bad := by
  unfold Dev.schedCfgWrite
  exact List.foldlRecOn (motive := fun e => e = d.writeFields rowSCHED_PORT_CFG n v bad) (List.range 8) _ rfl
    (fun _ he c hc => (if_pos (beq_iff_eq.mpr (h c (List.mem_range.mp hc)))).trans he)

theorem Dev.shaperWrite_of_refilled
    (h : (d.writeFields rowSCHED_SHAPER (8 * n + c) v bad).get .sched_shaper_burst (8 * n + c) ≠
      d.get .sched_shaper_burst (8 * n + c) ∨ d.flag .sched_shaper_shape_en (8 * n + c) = false) :
    d.shaperWrite n c v bad = (d.writeFields rowSCHED_SHAPER (8 * n + c) v bad).putTokens n c
      ((d.writeFields rowSCHED_SHAPER (8 * n + c) v bad).get .sched_shaper_burst (8 * n + c) * 8000) :=
  congrArg (Dev.putTokens _ n c) (if_pos h)

theorem Dev.shaperWrite_of_kept
    (hburst : (d.writeFields rowSCHED_SHAPER (8 * n + c) v bad).get .sched_shaper_burst (8 * n + c) =
      d.get .sched_shaper_burst (8 * n + c)) (hon : d.flag .sched_shaper_shape_en (8 * n + c) = true) :
    d.shaperWrite n c v bad = (d.writeFields rowSCHED_SHAPER (8 * n + c) v bad).putTokens n c (min (d.shaperTokens n c)
      ((d.writeFields rowSCHED_SHAPER (8 * n + c) v bad).get .sched_shaper_burst (8 * n + c) * 8000)) :=
  congrArg (Dev.putTokens _ n c) (if_neg (by simp [hburst, hon]))

/-! ### Policers (R245, R248) -/

/-- The device with both buckets of policer `k` full as of time `t` (R248). -/
def Dev.polFilled (d : Dev) (k t : Nat) : Dev :=
  d.setMany [(.h_pol_p, k, d.get .sched_pol_burst_pbs_ebs k * 8000), (.h_pol_c, k, d.get .sched_pol_burst_cbs k * 8000),
    (.h_pol_t, k, t)]

/-- A policer in mode 0 whose peak lies below what is committed (R248). -/
abbrev Dev.polInverted (d : Dev) (k : Nat) : Prop :=
  d.get .sched_pol_cfg_mode k = 0 ∧ (d.get .sched_pol_cfg_pir_mbps k < d.get .sched_pol_cfg_cir_mbps k ∨
    d.get .sched_pol_burst_pbs_ebs k < d.get .sched_pol_burst_cbs k)

theorem Dev.polWrite_of_inverted {k : Nat} {f : Dev → Dev} (h : (f d).polInverted k) :
    d.polWrite k f = d.raise .SCHED_POL_REFUSED d.pathDevice := if_pos h

theorem Dev.polWrite_of_ordered {k : Nat} {f : Dev → Dev} (h : ¬ (f d).polInverted k) :
    d.polWrite k f = (f d).polFilled k d.localNs := if_neg h

/-- Where each field names a policer of the port's quadrant, none is put back. -/
theorem Dev.polMapWrite_of_own_quadrant (h : ∀ i < 4, (d.writeFields rowSCHED_POL_MAP (2 * n + half) v bad).get
      .sched_pol_map_pol_idx (8 * n + 4 * half + i) / 1024 = n / 128) :
    d.polMapWrite n half v bad = d.writeFields rowSCHED_POL_MAP (2 * n + half) v bad := by
  have hout : (List.range 4).filter (fun i => (d.writeFields rowSCHED_POL_MAP (2 * n + half) v bad).get .sched_pol_map_pol_idx
      (8 * n + 4 * half + i) / 1024 != n / 128) = [] :=
    List.filter_eq_nil_iff.mpr (fun i hi => by simp [h i (List.mem_range.mp hi)])
  unfold Dev.polMapWrite
  dsimp only
  rw [hout]
  rfl
end

/-! ### A change of gate lists (R243, R244) -/

section
variable {d : Dev} {n v : Nat} {bad : List Nat}

/-- Gates that are on show the entry in force and its gate byte. -/
theorem Dev.gateShow_of_on (h : d.flag .sched_gate_ctrl_gate_en n = true) :
    d.gateShow n = d.setMany [(.sched_gate_status_entry, n, (d.gateNow n).1),
      (.sched_gate_status_gate_state, n, gateByte (d.gate n (d.activeList n) (d.gateNow n).1))] := by
  rw [Dev.gateShow, Dev.gateView, if_pos h]

/-- The fields of SCHED_GATE_CTRL, and those in which a port shows its entry in force. -/
def gateCtrlFlds : List Fld :=
  [.sched_gate_ctrl_guard_extra_ns, .sched_gate_ctrl_change, .sched_gate_ctrl_gate_en, .sched_gate_status_entry,
    .sched_gate_status_gate_state]

/-- The device after a write of SCHED_GATE_CTRL, the change that it may ask for left out. -/
def Dev.gateSet (d : Dev) (n v : Nat) (bad : List Nat) : Dev :=
  ((d.writeFields rowSCHED_GATE_CTRL n v bad).set .sched_gate_ctrl_change n 0).gateShow n

theorem Dev.gateSet_confined (d : Dev) (n v : Nat) (bad : List Nat) : d.Confined id gateCtrlFlds (d.gateSet n v bad) :=
  (Dev.setMany_confined _ _ (by simp [gateCtrlFlds])).after
    ((Dev.set_confined _ (by decide) ..).after (Dev.writeFields_confined (by decide) ..))

theorem bit_setBit (x i : Nat) : bit (setBit x i) i = true := by
  by_cases hx : bit x i = true
  · rw [setBit, if_pos hx, hx]
  · rw [setBit, if_neg hx, bit, Nat.add_div_right _ (Nat.two_pow_pos i)]
    simp only [bit, beq_iff_eq] at hx ⊢
    omega

theorem Dev.gateCtrlWrite_of_change : d.gateCtrlWrite n (setBit v 9) bad = (d.gateSet n (setBit v 9) bad).gateChange n :=
  if_pos (bit_setBit v 9)

section
variable {e : Dev} (h : d.Confined id gateCtrlFlds e)
include h

theorem Dev.Confined.gateList (l k : Nat) : e.gateList n l k = d.gateList n l k := by
  have hgates : e.rest.gates = d.rest.gates := congrArg Dev.gates h.rest
  exact List.map_congr_left (fun i _ => congrArg (SMap.get · (gateKey n l i) (gateReset i)) hgates)

/-- The checks of an admin list read nothing that SCHED_GATE_CTRL holds. -/
theorem Dev.Confined.gateCheck : e.gateCheck n = d.gateCheck n := by
  have hactive : e.activeList n = d.activeList n := h.fields _ n (by decide)
  unfold Dev.gateCheck Dev.flag
  dsimp only
  rw [h.fields .sched_gate_status_pending n (by decide), h.fields .sched_gate_admin_n_entries n (by decide),
    h.fields .sched_gate_admin_cycle_ns n (by decide), hactive, h.gateList]

theorem Dev.Confined.gateSwapTime : e.gateSwapTime n = d.gateSwapTime n := by
  have hnow : e.fabricNs = d.fabricNs := by
    simp (disch := decide) only [Dev.fabricNs, Dev.fabric32, Dev.localNs, Dev.rate, h.fields _ _]
  unfold Dev.gateSwapTime
  dsimp only
  rw [hnow, h.fields .sched_gate_base_base_ns n (by decide), h.fields .sched_gate_admin_cycle_ns n (by decide)]

theorem Dev.Confined.gatePath : e.pathPort n = d.pathPort n := by
  simp (disch := decide) only [Dev.pathPort, Dev.pathBase, h.fields _ _]
end

/-- A request for a list that fails a check, or while a change is pending, is refused with what the checks give. -/
theorem Dev.gateCtrlWrite_of_bad_list (h : d.gateCheck n ≠ 0) : d.gateCtrlWrite n (setBit v 9) bad =
    ((d.gateSet n (setBit v 9) bad).set .sched_gate_status_result n (d.gateCheck n)).raise .SCHED_GCL_REFUSED (d.pathPort n) := by
  have hset := d.gateSet_confined n (setBit v 9) bad
  rw [Dev.gateCtrlWrite_of_change, Dev.gateChange, hset.gateCheck, if_pos h, Dev.gateRefuse, hset.gatePath]

/-- A request for a good list makes it pending. -/
theorem Dev.gateCtrlWrite_of_good_list (h : d.gateCheck n = 0) : d.gateCtrlWrite n (setBit v 9) bad =
    (d.gateSet n (setBit v 9) bad).setMany [(.sched_gate_status_result, n, 0), (.sched_gate_status_pending, n, 1),
      (.h_gate_swap, n, d.gateSwapTime n)] := by
  have hset := d.gateSet_confined n (setBit v 9) bad
  rw [Dev.gateCtrlWrite_of_change, Dev.gateChange, hset.gateCheck, if_neg (not_not_intro h), hset.gateSwapTime]

/-- The device once active and admin list of port `n` have changed places (R244). -/
def Dev.gateSwapped (d : Dev) (n : Nat) : Dev :=
  d.setMany [(.sched_gate_status_active_list, n, 1 - d.activeList n), (.sched_gate_status_pending, n, 0),
    (.h_gate_cycle, n, d.get .sched_gate_admin_cycle_ns n), (.h_gate_n, n, d.get .sched_gate_admin_n_entries n),
    (.h_gate_base, n, d.get .sched_gate_base_base_ns n), (.sched_gate_admin_cycle_ns, n, d.get .h_gate_cycle n),
    (.sched_gate_admin_n_entries, n, d.get .h_gate_n n), (.sched_gate_base_base_ns, n, d.get .h_gate_base n),
    (.sched_gate_status_entry, n, 0)]

/-- Gates that are off show nothing of a swap but its entry. -/
theorem Dev.gateSwap_of_off (hpending : d.flag .sched_gate_status_pending n = true) (htime : d.get .h_gate_swap n ≤ d.fabricNs)
    (hoff : d.flag .sched_gate_ctrl_gate_en n = false) : d.gateSwap n = d.gateSwapped n := by
  have hdue : d.gateDue n = true := by rw [Dev.gateDue, hpending, Bool.true_and, decide_eq_true htime]
  have hkept : (d.gateSwapped n).get .sched_gate_ctrl_gate_en n = d.get .sched_gate_ctrl_gate_en n :=
    Dev.setMany_get _ _ _ _ (by simpa using by decide)
  have hclosed : (d.gateSwapped n).flag .sched_gate_ctrl_gate_en n = false := by rwa [Dev.flag, hkept]
  unfold Dev.gateSwap
  rw [if_neg (by simp [hdue])]
  exact if_neg (Bool.eq_false_iff.mp hclosed)

/-- No admin entry is written while a change is pending (R244). -/
theorem Dev.gateDataWrite_of_pending (h : d.flag .sched_gate_status_pending n = true) :
    d.gateDataWrite n v = (d.set .sched_gate_status_result n 1).raise .SCHED_GCL_REFUSED (d.pathPort n) := by
  have hpath : (d.set .sched_gate_status_result n 1).pathPort n = d.pathPort n := by
    simp (disch := decide) only [Dev.pathPort, Dev.pathBase, Dev.get_set_fld]
  rw [Dev.gateDataWrite, if_pos h, Dev.gateRefuse, ← hpath]

theorem Dev.gateDataWrite_of_free (h : d.flag .sched_gate_status_pending n = false) :
    d.gateDataWrite n v = (d.setGate n (1 - d.activeList n) (d.get .sched_gate_index_index n)
      (slice v 56 8 * 2 ^ 32 + slice v 0 32)).set .sched_gate_index_index n (d.get .sched_gate_index_index n + 1) :=
  if_neg (by simp [h])
end

/-- Settles O34: each command passes its checks and does what the lemma on its case says. -/
theorem schedulersAndGates : Obligations.SchedulersAndGates := by
  intro s
  refine ⟨fun m port v h hkept => ?cfg, fun m port cls v h hfill => ?shaperFilled,
    fun m port cls v h ⟨hburst, hon⟩ => ?shaperKept, fun m pol v h hordered => ?polCfg,
    fun m pol v h hinverted => ?polCfgRefused, fun m pol v h hordered => ?polBurst,
    fun m pol v h hinverted => ?polBurstRefused, fun m port half v h hown => ?polMap, fun port hon => ?entry,
    fun m port v h hbad => ?change, fun m port v h hgood => ?changePending, fun port ⟨hpending, htime, hoff⟩ => ?swap,
    fun m port v h hpending => ?dataRefused, fun m port v h hfree => ?data⟩
  case cfg => exact State.run_hostWrite_of_accepts rfl h (Dev.schedCfgWrite_of_kept (fun c hc => hkept ⟨c, hc⟩))
  case shaperFilled => exact State.run_hostWrite_of_accepts rfl h (Dev.shaperWrite_of_refilled hfill)
  case shaperKept => exact State.run_hostWrite_of_accepts rfl h (Dev.shaperWrite_of_kept hburst hon)
  case polCfg => exact State.run_hostWrite_of_accepts rfl h (Dev.polWrite_of_ordered hordered)
  case polCfgRefused => exact State.run_hostWrite_of_accepts rfl h (Dev.polWrite_of_inverted hinverted)
  case polBurst => exact State.run_hostWrite_of_accepts rfl h (Dev.polWrite_of_ordered hordered)
  case polBurstRefused => exact State.run_hostWrite_of_accepts rfl h (Dev.polWrite_of_inverted hinverted)
  case polMap => exact State.run_hostWrite_of_accepts rfl h (Dev.polMapWrite_of_own_quadrant (fun i hi => hown ⟨i, hi⟩))
  case entry => exact State.runX_of_eq ((if_pos hon).trans (Dev.gateShow_of_on hon))
  case change => exact State.run_hostWrite_of_accepts rfl h (Dev.gateCtrlWrite_of_bad_list hbad)
  case changePending => exact State.run_hostWrite_of_accepts rfl h (Dev.gateCtrlWrite_of_good_list hgood)
  case swap => exact State.runX_of_eq (Dev.gateSwap_of_off hpending htime hoff)
  case dataRefused => exact State.run_hostWrite_of_accepts rfl h (Dev.gateDataWrite_of_pending hpending)
  case data => exact State.run_hostWrite_of_accepts rfl h (Dev.gateDataWrite_of_free hfree)

end Sys2Proof.Machine
end

section
/-! SUPPORT. Combining units: the unit commands (R310), a write of CMB_CTRL (R318), and how a shadow computation and the third one
end a shadow check (R312). -/

namespace Sys2Proof.Machine

/-- As `State.run_hostWrite_of_accepts`, for a command that moves frames or steps. -/
theorem State.runX_hostWrite_of_accepts {s : State} {c : Instr} {m : Mark} {r : RegRow} {i v : Nat}
    {eff : Nat → Nat → List Nat → Dev → Dev} {e : Dev} (hw : writeOf c = some (m, r, i, v)) (h : s.dev.accepts c = true)
    (he : eff 0 v [] s.dev = e) : s.runX (fun d => d.hostWrite m r i v eff) = .next (s.endsX e.ok) :=
  State.runX_of_eq ((Dev.hostWrite_of_accepts hw h eff).trans (congrArg Dev.ok he))

/-! ### Unit commands (R310) -/

section
variable {d : Dev} {u l : Nat}

theorem Dev.cmbRetire_of_none_retired (h : d.get .h_cmb_req u = 31) :
    d.cmbRetire u l = (d.retireLane u l 2).unitResult u 0 := if_pos h

theorem Dev.cmbRetire_of_retired (h : d.get .h_cmb_req u ≠ 31) : d.cmbRetire u l = d.unitResult u 1 := if_neg h

theorem Dev.cmbRestore_of_retired (h : d.get .h_cmb_req u ≠ 31) :
    d.cmbRestore u = (d.set .h_cmb_req u 31).unitResult u 0 := if_neg h

theorem Dev.cmbRestore_of_none_retired (h : d.get .h_cmb_req u = 31) : d.cmbRestore u = d.unitResult u 2 := if_pos h

theorem Dev.cmbFence_of_another_up (h : d.unitsUp.any (· != u) = true) :
    d.cmbFence u = (d.fenceUnit u 2).unitResult u 0 := if_pos h

theorem Dev.cmbFence_of_last (h : d.unitsUp.any (· != u) = false) : d.cmbFence u = d.unitResult u 3 :=
  if_neg (Bool.eq_false_iff.mp h)

theorem Dev.cmbUnfence_of_fenced (h : d.flag .cmb_unit_status_fenced u = true) :
    d.cmbUnfence u = ((d.set .cmb_unit_status_fenced u 0).unitResult u 0).bindWaiting := if_pos h

theorem Dev.cmbUnfence_of_up (h : d.flag .cmb_unit_status_fenced u = false) : d.cmbUnfence u = d.unitResult u 4 :=
  if_neg (Bool.eq_false_iff.mp h)
end

/-! ### CMB_CTRL (R318) -/

section
variable {d : Dev} {v : Nat}

/-- Where shadow_log2n does not fall, or the limit it gives still covers the reserved intake, all fields are taken. -/
theorem Dev.cmbCtrlWrite_of_covered
    (h : d.get .cmb_ctrl_shadow_log2n ≤ slice v 0 5 ∨ d.intakeSum ≤ d.rateLimitAt (slice v 0 5) * 1000000000) :
    d.cmbCtrlWrite v [] = d.writeFields rowCMB_CTRL 0 v [] := by
  refine if_neg (fun hrefused => ?_)
  simp only [Bool.and_eq_true, decide_eq_true_eq] at hrefused
  obtain ⟨⟨-, hlower⟩, hexceeds⟩ := hrefused
  omega

/-- A lower shadow_log2n under which the reserved intake would exceed the limit is not taken; the other fields are. -/
theorem Dev.cmbCtrlWrite_of_exceeded (hlower : slice v 0 5 < d.get .cmb_ctrl_shadow_log2n)
    (hexceeds : d.rateLimitAt (slice v 0 5) * 1000000000 < d.intakeSum) :
    d.cmbCtrlWrite v [] = (d.writeFields rowCMB_CTRL 0 v [0]).raise .CMB_SHADOW_REFUSED d.pathDevice
      [.h (slice v 0 5), .h (d.get .cmb_ctrl_shadow_log2n)] :=
  if_pos (by simp [hlower, hexceeds])
end

/-! ### The end of a shadow computation (R312) -/

/-- A run counts in fields alone: the checks under way stay. -/
theorem Dev.shadowRun_shadows (d : Dev) (u : Nat) : (d.shadowRun u).shadows = d.shadows := by
  have hcounted : d.FldsOnly (d.shadowRun u) :=
    (d.set_fldsOnly ..).trans ((Dev.set_fldsOnly ..).trans (Dev.count_fldsOnly ..))
  rw [hcounted]

/-- The signatures of the delivering unit of check `w` and of its shadow unit `su`, of the lanes `diff` that differ (R312, R315). -/
def Dev.shadowSigs (d : Dev) (w : Shadow) (su diff : Nat) (e1 e2 : Env) : Nat × Nat :=
  (d.cmbSig w.unit w.format w.op (physLane diff w.lane) e1,
    d.cmbSig su w.format w.op (physLane diff (d.get .cmb_unit_status_retired_lane su)) e2)

section
variable {d : Dev} {x st k su : Nat} {err : List (Fin 4096 × BitVec 8)} {e1 e2 : Env} {w : Shadow}
  (hw : d.shadows.find? (fun s => s.ctx == x && s.step == st && s.chunk == k && s.third.isNone) = some w)
  (hsu : w.shadow = some su)
include hw hsu

theorem Dev.shadowCompare_of_equal (heq : lanesDiffer (w.form err) w.crcs = 0) : d.shadowCompare x st k err e1 e2 =
    (((d.shadowRun su).dropShadow w).count (blkCluster su) .SHADOW_RUN).placeShadows := by
  simp only [Dev.shadowCompare, hw, hsu]
  exact if_pos heq

/-- With a third unit up, the check keeps what the comparison found and waits for that unit. -/
theorem Dev.shadowCompare_of_differ {u : Nat} (hdiff : lanesDiffer (w.form err) w.crcs ≠ 0)
    (hthird : (d.shadowRun su).thirdUnit w.unit su = some u) : d.shadowCompare x st k err e1 e2 =
    { d.shadowRun su with shadows := d.shadows.map (fun s => if s = w then
        { w with found := w.form err, diff := lanesDiffer (w.form err) w.crcs, third := some u,
                 sigs := (d.shadowRun su).shadowSigs w su (lanesDiffer (w.form err) w.crcs) e1 e2 } else s) } := by
  simp only [Dev.shadowCompare, hw, hsu, if_neg hdiff, hthird, Dev.shadowRun_shadows]
  rfl
end

/-! ### The end of the third computation (R312) -/

/-- The outcome of check `w` by the lane CRCs of the third computation: it sides with the shadow, else with the delivered result,
else with neither. -/
def Shadow.thirdOutcome (w : Shadow) (crcs : List Nat) : Nat :=
  if crcs = w.found then 1 else if crcs = w.crcs then 2 else 3

/-- The physical lane that the outcome strikes: one of the shadow unit `su` where that is the bad one, else of the delivering unit. -/
def Dev.thirdLane (d : Dev) (w : Shadow) (su : Nat) (crcs : List Nat) : Nat :=
  if crcs ≠ w.found ∧ crcs = w.crcs then physLane w.diff (d.get .cmb_unit_status_retired_lane su) else physLane w.diff w.lane

section
variable {d : Dev} {x st k u : Nat} {err : List (Fin 4096 × BitVec 8)} {e : Env} {w : Shadow}
  (hw : d.shadows.find? (fun s => s.ctx == x && s.step == st && s.chunk == k && s.third.isSome) = some w)
  (hthird : w.third = some u)
include hw hthird

theorem Dev.shadowThird_of_up {su : Nat} (hsu : w.shadow = some su) (hup : d.flag .cmb_unit_status_fenced u = false) :
    d.shadowThird x st k err e = ((d.dropShadow w).shadowRun u).shadowOutcome w (w.thirdOutcome (w.form err))
      (((d.dropShadow w).shadowRun u).cmbSig u w.format w.op
        (physLane w.diff (((d.dropShadow w).shadowRun u).get .cmb_unit_status_retired_lane u)) e)
      (((d.dropShadow w).shadowRun u).thirdLane w su (w.form err)) := by
  have hruns : ¬ (d.dropShadow w).flag .cmb_unit_status_fenced u = true := Bool.eq_false_iff.mp hup
  simp only [Dev.shadowThird, hw, hthird, hsu, Option.getD_some, if_neg hruns, Shadow.thirdOutcome, Dev.thirdLane]
  by_cases hfound : w.form err = w.found
  · simp only [if_pos hfound, if_neg (mt And.left (not_not_intro hfound))]
  · by_cases hcrcs : w.form err = w.crcs
    · simp only [if_neg hfound, if_pos hcrcs, if_pos (And.intro hfound hcrcs)]
    · simp only [if_neg hfound, if_neg hcrcs, if_neg (mt And.right hcrcs)]

theorem Dev.shadowThird_of_fenced (hfenced : d.flag .cmb_unit_status_fenced u = true) : d.shadowThird x st k err e =
    (d.dropShadow w).shadowOutcome { w with third := none } 3 0 (physLane w.diff w.lane) := by
  simp only [Dev.shadowThird, hw, hthird, Option.getD_some]
  exact if_pos hfenced
end

/-- Settles O37: each command passes its checks and does what the lemma on its case says; the two ends of a shadow check find it
and do what theirs say. -/
theorem combiningUnits : Obligations.CombiningUnits := by
  intro s
  refine ⟨fun m unit h => ?nop, fun m unit lane h hnone => ?retire, fun m unit lane h hretired => ?retireRefused,
    fun m unit h hretired => ?restore, fun m unit h hnone => ?restoreRefused, fun m unit h hanother => ?fence,
    fun m unit h hlast => ?fenceRefused, fun m unit h hfenced => ?unfence, fun m unit h hup => ?unfenceRefused,
    fun m unit h => ?clear, fun m v h hcovered => ?ctrl, fun m v h ⟨hlower, hexceeds⟩ => ?ctrlRefused,
    fun ctx step chunk err e1 e2 w su hw ⟨hsu, heq⟩ => ?equal,
    fun ctx step chunk err e1 e2 w su u hw ⟨hsu, hdiff, hthird⟩ => ?differ,
    fun ctx step chunk err e w u su hw ⟨hthird, hsu, hup⟩ => ?third,
    fun ctx step chunk err e w u hw ⟨hthird, hfenced⟩ => ?thirdFenced⟩
  case nop => exact State.run_hostWrite_of_accepts rfl h rfl
  case retire => exact State.run_hostWrite_of_accepts rfl h (Dev.cmbRetire_of_none_retired hnone)
  case retireRefused => exact State.run_hostWrite_of_accepts rfl h (Dev.cmbRetire_of_retired hretired)
  case restore => exact State.run_hostWrite_of_accepts rfl h (Dev.cmbRestore_of_retired hretired)
  case restoreRefused => exact State.run_hostWrite_of_accepts rfl h (Dev.cmbRestore_of_none_retired hnone)
  case fence => exact State.runX_hostWrite_of_accepts rfl h (Dev.cmbFence_of_another_up hanother)
  case fenceRefused => exact State.runX_hostWrite_of_accepts rfl h (Dev.cmbFence_of_last hlast)
  case unfence => exact State.runX_hostWrite_of_accepts rfl h (Dev.cmbUnfence_of_fenced hfenced)
  case unfenceRefused => exact State.runX_hostWrite_of_accepts rfl h (Dev.cmbUnfence_of_up hup)
  case clear => exact State.run_hostWrite_of_accepts rfl h rfl
  case ctrl => exact State.run_hostWrite_of_accepts rfl h (Dev.cmbCtrlWrite_of_covered hcovered)
  case ctrlRefused => exact State.run_hostWrite_of_accepts rfl h (Dev.cmbCtrlWrite_of_exceeded hlower hexceeds)
  case equal => exact State.runX_of_eq (Dev.shadowCompare_of_equal hw hsu heq)
  case differ => exact State.runX_of_eq (Dev.shadowCompare_of_differ hw hsu hdiff hthird)
  case third => exact State.runX_of_eq (Dev.shadowThird_of_up hw hthird hsu hup)
  case thirdFenced => exact State.runX_of_eq (Dev.shadowThird_of_fenced hw hthird hfenced)

end Sys2Proof.Machine
end

section
/-! SUPPORT. What a command does to fabric memory: an operation on the whole state leaves it alone, or writes, zeroes or empties it
and so keeps its canonical form (R371, R375, R521, log entry 6). -/

namespace Sys2Proof.Machine

/-! ### Bytes (R371, R372, R375) -/

/-- A byte that a table keeps reads as before; another reads as one that nothing has written. -/
theorem memByte_keep (m : SMap Byte) (p : Nat → Bool) (x : Nat) :
    memByte (m.keep p) x = if p x then memByte m x else 0 := by
  have hnone : p x = false → lookupKey x (m.entries.filter (fun e => p e.1)) = none := by
    intro hx
    induction m.entries with
    | nil => rfl
    | cons e l ih =>
      obtain ⟨j, v⟩ := e
      by_cases hj : p j = true
      · have hne : j ≠ x := by rintro rfl; simp [hx] at hj
        simp [hj, lookupKey, hne, ih]
      · simp [hj, ih]
  unfold memByte SMap.get SMap.keep
  split
  next hx => rw [lookupKey_filter p hx]
  next hx => rw [hnone (by simpa using hx)]; rfl

theorem memByte_memZero (m : SMap Byte) (f x : Nat) :
    memByte (memZero m f) x = if f * 2 ^ 30 ≤ x ∧ x < (f + 1) * 2 ^ 30 then 0 else memByte m x := by
  rw [memZero, memByte_keep]
  by_cases hx : f * 2 ^ 30 ≤ x ∧ x < (f + 1) * 2 ^ 30
  · rw [if_pos hx, if_neg (by rw [decide_eq_true hx]; decide)]
  · rw [if_neg hx, if_pos (by rw [decide_eq_false hx]; decide)]

theorem memByte_memPut (m : SMap Byte) (a v x : Nat) :
    memByte (memPut m a v) x = if x = a then v % 256 else memByte m x := by
  unfold memByte memPut
  rw [SMap.get_set]
  split
  · exact BitVec.toNat_ofNat ..
  · rfl

/-- Bytes written from `a` up: the first is the one put at `a`, the others are written above it. -/
theorem memByte_memWrite (m : SMap Byte) (a : Nat) (l : List Nat) (x : Nat) :
    memByte (memWrite m a l) x = if a ≤ x ∧ x < a + l.length then l.getD (x - a) 0 % 256 else memByte m x := by
  induction l generalizing m a with
  | nil => exact (if_neg (by rw [List.length_nil]; omega)).symm
  | cons b l ih =>
    rw [memWrite, ih, memByte_memPut, List.length_cons]
    rcases Nat.lt_trichotomy x a with hlt | rfl | hgt
    · rw [if_neg (by omega), if_neg (Nat.ne_of_lt hlt), if_neg (by omega)]
    · rw [if_neg (by omega), if_pos rfl, if_pos (by omega), Nat.sub_self, List.getD_cons_zero]
    · have hsub : x - a = (x - (a + 1)) + 1 := by omega
      rw [if_neg (Nat.ne_of_gt hgt), hsub, List.getD_cons_succ]
      exact if_congr (by omega) rfl rfl

/-- Settles O41: a write puts byte after byte, a zeroed frame keeps the bytes outside it. -/
theorem fabricMemoryBytes : Obligations.FabricMemoryBytes := ⟨memByte_memWrite, memByte_memZero⟩

/-! ### Operations on the whole state -/

/-- From `s` to `t` fabric memory is the same. -/
def State.SameMem (s t : State) : Prop := t.mem = s.mem

/-- Fabric memory has the canonical form in `t` if it has it in `s`. -/
structure State.KeepsForm (s t : State) : Prop where
  form : Memory.wf s.mem = true → Memory.wf t.mem = true

namespace State

theorem SameMem.ite {c : Prop} [Decidable c] {s t u : State} (ht : s.SameMem t) (hu : s.SameMem u) :
    s.SameMem (if c then t else u) := by
  split
  · exact ht
  · exact hu

theorem SameMem.keepsForm {s t : State} (h : s.SameMem t) : s.KeepsForm t :=
  ⟨fun hs => (congrArg Memory.wf h).trans hs⟩

theorem KeepsForm.refl (s : State) : s.KeepsForm s := ⟨id⟩

theorem KeepsForm.trans {s t u : State} (h : s.KeepsForm t) (k : t.KeepsForm u) : s.KeepsForm u :=
  ⟨fun hs => k.form (h.form hs)⟩

theorem KeepsForm.ite {c : Prop} [Decidable c] {s t u : State} (ht : s.KeepsForm t) (hu : s.KeepsForm u) :
    s.KeepsForm (if c then t else u) := by
  split
  · exact ht
  · exact hu

theorem KeepsForm.foldl {α : Type} {f : State → α → State} (h : ∀ (s : State) (a : α), s.KeepsForm (f s a)) (l : List α) (s : State) :
    s.KeepsForm (l.foldl f s) :=
  List.foldlRecOn (motive := fun t : State => s.KeepsForm t) l f (.refl s) (fun t ht a _ => ht.trans (h t a))

/-- An operation on a state whose memory is that of `s`. -/
theorem KeepsForm.after_same {s t u : State} (k : t.KeepsForm u) (h : s.SameMem t) : s.KeepsForm u := h.keepsForm.trans k

theorem onDev_sameMem (s : State) (f : Dev → Dev) : s.SameMem (s.onDev f) := s.onDev_mem f

theorem onDev_keepsForm (s : State) (f : Dev → Dev) : s.KeepsForm (s.onDev f) := (s.onDev_sameMem f).keepsForm

/-- A state that differs in its device alone. -/
theorem withDev_keepsForm (s : State) (d : Dev) : s.KeepsForm { s with dev := d } := ⟨id⟩

/-- LPDDR contents are not preserved by a reset: memory is empty (R521). -/
theorem keepsForm_of_empty {s t : State} (h : t.mem = {}) : s.KeepsForm t :=
  ⟨fun _ => by rw [h]; rfl⟩

theorem warm_keepsForm (s : State) (cause : Nat) : s.KeepsForm (s.warm cause) := by
  unfold State.warm
  exact .ite (.refl s) (keepsForm_of_empty rfl)

theorem cold_keepsForm (s : State) (level cause : Nat) : s.KeepsForm (s.cold level cause) := by
  unfold State.cold
  exact keepsForm_of_empty rfl

theorem svnCommit_sameMem (s : State) (n : Nat) : s.SameMem (s.svnCommit n) := rfl

theorem revoke_sameMem (s : State) (a : Nat) (ok : Bool) : s.SameMem (s.revoke a ok) := by
  unfold State.revoke
  exact .ite rfl rfl

theorem secDone_sameMem (s : State) (r : SecOutcome) : s.SameMem (s.secDone r) := by
  unfold State.secDone
  have hdev (f : Dev → Dev) := s.onDev_sameMem f
  exact .ite rfl (.ite (hdev _) (.ite (hdev _) (.ite (hdev _) (.ite (hdev _) (.ite (s.svnCommit_sameMem _)
    (.ite (s.revoke_sameMem ..) (.ite (hdev _) (hdev _))))))))

theorem railOut_keepsForm (s : State) (rail mv : Nat) (sustained : Bool) : s.KeepsForm (s.railOut rail mv sustained) := by
  unfold State.railOut
  refine .after_same (.ite (.refl _) (.ite (State.cold_keepsForm ..) (State.onDev_keepsForm _ _))) (s.onDev_sameMem _)

theorem trip_keepsForm (s : State) (i : Nat) : s.KeepsForm (s.trip i) := by
  unfold State.trip
  exact ((s.onDev_keepsForm _).trans (State.cold_keepsForm ..)).trans (State.onDev_keepsForm _ _)

theorem sample_keepsForm (s : State) (i v : Nat) : s.KeepsForm (s.sample i v) := by
  unfold State.sample
  refine .after_same (.ite (.refl _) ?_) (s.onDev_sameMem _)
  split
  · exact .refl _
  · exact .after_same (.ite (State.onDev_keepsForm _ _) (.ite (State.trip_keepsForm ..) (.refl _))) (State.onDev_sameMem _ _)

theorem regWrite_keepsForm (s : State) (req : Nat) (r : RegRow) (i v : Nat) : s.KeepsForm (s.regWrite req r i v) := by
  unfold State.regWrite
  have hreset : ∀ t : State, t.KeepsForm (match slice v 62 2 with
      | 1 => t.warm 5
      | 2 => if t.dev.flag .h_porst then t else t.cold 1 2
      | _ => t) := by
    intro t
    split
    · exact t.warm_keepsForm 5
    · exact .ite (.refl t) (t.cold_keepsForm 1 2)
    · exact .refl t
  refine .after_same (.ite (.refl _) (.ite (.ite (.refl _) (hreset _)) ⟨zeroNew_wf _ _ _⟩)) rfl

/-- The runs of a burst are written one after another (R478). -/
theorem burstMem_wf (c k f base : Nat) (runs : List (Nat × List Nat)) (d : Dev) (m : SMap Byte) (h : Memory.wf m = true) :
    Memory.wf (d.burstMem m c k f base runs).2 = true := by
  induction runs generalizing d m with
  | nil => exact h
  | cons run runs ih => exact ih _ _ (memWrite_wf _ _ _ h)

theorem burstWrite_keepsForm (s : State) (c : Nat) (m : DmaMove) (k : Nat) (runs : List (Nat × List Nat)) :
    s.KeepsForm (s.burstWrite c m k runs) := by
  unfold State.burstWrite
  have hdev (d : Dev) := s.withDev_keepsForm d
  cases runs with
  | nil => exact hdev _
  | cons run runs =>
    refine .ite (hdev _) (.ite (.ite (hdev _) ⟨burstMem_wf _ _ _ _ _ _ _⟩) (.ite (hdev _) ?register))
    case register =>
      dsimp only
      split
      · exact (hdev _).trans (State.regWrite_keepsForm ..)
      · exact hdev _
      · exact hdev _

theorem burstData_keepsForm (s : State) (c : Nat) (m : DmaMove) (k : Nat) (data : Option (List Nat)) (corr bad : List Nat) :
    s.KeepsForm (s.burstData c m k data corr bad) := by
  unfold State.burstData
  have hdev (d : Dev) := s.withDev_keepsForm d
  refine .ite (hdev _) ?_
  split
  · exact hdev _
  · exact (hdev _).trans (State.burstWrite_keepsForm ..)

theorem burstResponse_keepsForm (s : State) (c k : Nat) (data : Option (List Nat)) (corr bad : List Nat) :
    s.KeepsForm (s.burstResponse c k data corr bad) := by
  unfold State.burstResponse
  refine KeepsForm.trans ?_ (State.onDev_keepsForm _ _)
  split
  · exact .refl s
  · split
    · exact s.burstData_keepsForm ..
    · exact s.withDev_keepsForm _
    · exact .refl s

theorem readFails_keepsForm (s : State) (p : KPurpose) : s.KeepsForm (s.readFails p) := by
  have hdev (f : Dev → Dev) := s.onDev_keepsForm f
  cases p with
  | head q | crHead q =>
    change s.KeepsForm (dite _ _ _)
    split
    · exact hdev _
    · exact .refl s
  | dmaBurst c k => exact s.burstResponse_keepsForm ..
  | ringHead | dumpHead | mcEntry | stencil | collImage | wraImage | progImage | sec => exact ⟨id⟩

theorem replayFail_keepsForm (s : State) : s.KeepsForm s.replayFail := by
  unfold State.replayFail
  refine .ite (.refl s) (KeepsForm.trans ?_ (.foldl (fun s w => s.burstResponse_keepsForm ..) _ _))
  exact (s.withDev_keepsForm _).trans (.foldl (fun s p => s.readFails_keepsForm p) _ _)

end State

/-! ### Effects that reach memory -/

theorem Dev.accessDone_wf (d : Dev) {m : SMap Byte} (id : Nat) (corr bad : List Nat) (h : Memory.wf m = true) :
    Memory.wf (d.accessDone m id corr bad).2 = true := by
  unfold Dev.accessDone
  split
  · exact h
  · split
    · exact h
    · dsimp only
      split
      · exact h
      · split
        · split
          · exact h
          · exact memWrite_wf _ _ _ h
        · split
          · exact h
          · exact memWrite_wf _ _ _ h

/-- A mirror frame at the head of the output leaves memory alone or is acted on. -/
theorem Dev.mirrorHead_cases (d : Dev) (m : SMap Byte) (k role : Nat) (act : Nat → Frame → Dev → Dev × SMap Byte) :
    (d.mirrorHead m k role act).2 = m ∨ ∃ g f e, d.mirrorHead m k role act = act g f e := by
  unfold Dev.mirrorHead
  split
  · exact .inl rfl
  · split
    · exact .inl rfl
    · extract_lets edge at' taken uncounted
      cases at' with
      | none => exact .inl rfl
      | some g =>
        dsimp only
        split
        · exact .inl rfl
        · split
          · exact .inl rfl
          · exact .inr ⟨_, _, _, rfl⟩

/-- An action that leaves memory alone. -/
theorem Dev.mirrorHead_sameMem {d : Dev} {m : SMap Byte} {act : Nat → Frame → Dev → Dev × SMap Byte} (k role : Nat)
    (hact : ∀ g f e, (act g f e).2 = m) : (d.mirrorHead m k role act).2 = m := by
  rcases d.mirrorHead_cases m k role act with hsame | ⟨g, f, e, he⟩
  · exact hsame
  · rw [he, hact]

theorem Dev.pushTaken_wf (d : Dev) {m : SMap Byte} (g : Nat) (f : Frame) (h : Memory.wf m = true) :
    Memory.wf (d.pushTaken m g f).2 = true := by
  unfold Dev.pushTaken
  extract_lets o bs a e
  split
  · exact h
  · split
    · exact h
    · exact memWrite_wf _ _ _ h

theorem Dev.mirrorPush_wf (d : Dev) {m : SMap Byte} (h : Memory.wf m = true) :
    Memory.wf (d.mirrorHead m 16 2 (fun g f d => d.pushTaken m g f)).2 = true := by
  rcases d.mirrorHead_cases m 16 2 (fun g f d => d.pushTaken m g f) with hsame | ⟨g, f, e, he⟩
  · rwa [hsame]
  · rw [he]
    exact e.pushTaken_wf g f h

/-! ### Commands -/

/-- Whatever state a command on `s` answers, `R` holds of it. -/
def State.Answers (s : State) (R : State → State → Prop) (o : Host.Outcome State Fault Refusal) : Prop := ∀ t, o = .next t → R s t

namespace State

theorem answers_next {R : State → State → Prop} {s t : State} (h : R s t) : s.Answers R (.next t) := by
  rintro u ⟨⟩
  exact h

theorem run_sameMem (s : State) (f : Dev → Dev) : s.Answers SameMem (s.run f) := answers_next rfl

theorem done_sameMem {s t : State} (h : s.SameMem t) : s.Answers SameMem t.done := answers_next ((t.onDev_mem _).trans h)

theorem done_keepsForm {s t : State} (h : s.KeepsForm t) : s.Answers KeepsForm t.done :=
  answers_next (h.trans (t.onDev_keepsForm _))

/-- An effect that answers the memory it was given. -/
theorem runMem_sameMem {s : State} {f : Dev → SMap Byte → Dev × SMap Byte} (h : (f s.dev s.mem).2 = s.mem) :
    s.Answers SameMem (s.runMem f) := answers_next h

theorem runMem_keepsForm {s : State} {f : Dev → SMap Byte → Dev × SMap Byte}
    (h : Memory.wf s.mem = true → Memory.wf (f s.dev s.mem).2 = true) : s.Answers KeepsForm (s.runMem f) := answers_next ⟨h⟩

theorem runMap_keepsForm (s : State) (f : Dev → Dev) : s.Answers KeepsForm (s.runMap f) := runMem_keepsForm (zeroNew_wf _ _ _)

theorem resetCmd_keepsForm (s : State) (m : Mark) (level confirm : Nat) {f : State → State} (hf : ∀ t : State, t.KeepsForm (f t)) :
    s.Answers KeepsForm (s.resetCmd m level confirm f) := by
  unfold State.resetCmd
  exact done_keepsForm (.ite ((s.withDev_keepsForm _).trans (hf _)) (s.withDev_keepsForm _))

end State

theorem execRegReadRefused_sameMem (m : Mark) (size a : Nat) (s : State) :
    s.Answers State.SameMem (execRegReadRefused m size a s) := by
  unfold execRegReadRefused
  split
  · exact State.done_sameMem rfl
  · dsimp only
    split <;> exact State.done_sameMem rfl

theorem execRegWrite_keepsForm (m : Mark) (size a : Nat) (v : Word) (s : State) :
    s.Answers State.KeepsForm (execRegWrite m size a v s) := by
  unfold execRegWrite
  split
  · exact State.done_keepsForm (s.onDev_keepsForm _)
  · dsimp only
    split
    · exact State.done_keepsForm (((s.withDev_keepsForm _).trans (State.onDev_keepsForm _ _)).trans (State.regWrite_keepsForm ..))
    · exact State.done_keepsForm ((s.withDev_keepsForm _).trans (State.onDev_keepsForm _ _))
    · exact State.done_keepsForm ((s.withDev_keepsForm _).trans (State.onDev_keepsForm _ _))

theorem execKclReadTimeout_keepsForm (k : Fin 256) (s : State) : s.Answers State.KeepsForm (execKclReadTimeout k s) := by
  unfold execKclReadTimeout
  split
  · exact State.done_keepsForm (.refl s)
  · exact State.done_keepsForm ((s.onDev_keepsForm _).trans (State.readFails_keepsForm ..))

theorem exec_fmemCmdMap (s : State) (m : Mark) (frame : Fin 512) :
    exec (.fmemCmdMap m frame) s = s.runMap (fun d => d.hostWrite m rowFMEM_MAP_CMD 0 (fmemWord 1 frame)
      (fun _ _ _ d => (d.memMap frame d.mapArg0 d.mapArg1).1)) := rfl

theorem exec_dxMemMap (s : State) (q : Fin 512) : exec (.dxMemMap q) s = s.runMap (fun d => d.dxMemMap q) := rfl

theorem exec_fmemAccessDone (s : State) (id : BitVec 32) (corr bad : List (BitVec 39)) :
    exec (.fmemAccessDone id corr bad) s = s.runMem (fun d mem =>
      d.accessDone mem id.toNat (corr.map (fun w => w.toNat)) (bad.map (fun w => w.toNat))) := rfl

theorem exec_gatherRowsDone (s : State) (id : BitVec 32) (corr bad : List (BitVec 39)) :
    exec (.gatherRowsDone id corr bad) s = s.runMem (fun d mem =>
      (d.gatherRows mem id.toNat (corr.map (fun w => w.toNat)) (bad.map (fun w => w.toNat)), mem)) := rfl

theorem exec_mirrorPush (s : State) :
    exec .mirrorPush s = s.runMem (fun d mem => d.mirrorHead mem 16 2 (fun g f d => d.pushTaken mem g f)) := rfl

theorem exec_mirrorAck (s : State) :
    exec .mirrorAck s = s.runMem (fun d mem => d.mirrorHead mem 17 1 (fun g f d => (d.ackTaken g f.hdr.reqid, mem))) := rfl

theorem exec_mirrorKeep (s : State) :
    exec .mirrorKeep s = s.runMem (fun d mem => d.mirrorHead mem 18 2 (fun _ _ d => (d, mem))) := rfl

theorem exec_mirrorDone (s : State) :
    exec .mirrorDone s = s.runMem (fun d mem => d.mirrorHead mem 19 2 (fun g f d => (d.doneTaken g f.hdr, mem))) := rfl

theorem exec_resyncPush (s : State) (frame : Fin 409) :
    exec (.resyncPush frame) s = s.runMem (fun d mem => (d.resyncPush mem frame, mem)) := rfl

/-- A command that is none of the writers of memory answers the memory it was given: it is an effect on the device, a mirror frame
that writes nothing, a read of memory, or an operation on the whole state that leaves memory alone. -/
theorem exec_sameMem {c : Instr} (h : writesMemory c = false) (s : State) : s.Answers State.SameMem (exec c s) := by
  cases c
  case fmemCmdMap | dxMemMap | fmemAccessDone | mirrorPush | dmaBurstResponse | kclReadTimeout | kclReplayFail | regWrite |
      porstNAssert | wrstNAssert | sysResetWarm | sysResetCold | bootWatchdog | confirmTimeout | thermSample | railOutOfRange =>
    cases h
  case regReadRefused m size a => exact execRegReadRefused_sameMem m size a s
  case sysResetNop =>
    change s.Answers _ (State.done (ite _ _ _))
    exact State.done_sameMem (.ite rfl rfl)
  case secCmdDone r => exact State.done_sameMem (s.secDone_sameMem r)
  case mirrorAck =>
    rw [exec_mirrorAck]
    exact State.runMem_sameMem (Dev.mirrorHead_sameMem _ _ (fun _ _ _ => rfl))
  case mirrorKeep =>
    rw [exec_mirrorKeep]
    exact State.runMem_sameMem (Dev.mirrorHead_sameMem _ _ (fun _ _ _ => rfl))
  case mirrorDone =>
    rw [exec_mirrorDone]
    exact State.runMem_sameMem (Dev.mirrorHead_sameMem _ _ (fun _ _ _ => rfl))
  case resyncPush =>
    rw [exec_resyncPush]
    exact State.runMem_sameMem rfl
  case gatherRowsDone =>
    rw [exec_gatherRowsDone]
    exact State.runMem_sameMem rfl
  all_goals exact s.run_sameMem _

/-- Settles O7. -/
theorem memoryChangesOnlyByItsWriters : Obligations.MemoryChangesOnlyByItsWriters := by
  intro c s t h hexec a
  rw [exec_sameMem h s t hexec]

/-- Every command keeps the canonical form: those that leave memory alone, and each writer of memory by the lemma on its operation. -/
theorem exec_keepsForm (c : Instr) (s : State) : s.Answers State.KeepsForm (exec c s) := by
  by_cases h : writesMemory c = false
  · exact fun t ht => (exec_sameMem h s t ht).keepsForm
  · cases c
    case fmemCmdMap =>
      rw [exec_fmemCmdMap]
      exact s.runMap_keepsForm _
    case dxMemMap =>
      rw [exec_dxMemMap]
      exact s.runMap_keepsForm _
    case fmemAccessDone =>
      rw [exec_fmemAccessDone]
      exact State.runMem_keepsForm (s.dev.accessDone_wf _ _ _)
    case mirrorPush =>
      rw [exec_mirrorPush]
      exact State.runMem_keepsForm s.dev.mirrorPush_wf
    case dmaBurstResponse => exact State.done_keepsForm (s.burstResponse_keepsForm ..)
    case kclReadTimeout k => exact execKclReadTimeout_keepsForm k s
    case kclReplayFail => exact State.done_keepsForm s.replayFail_keepsForm
    case regWrite m size a v => exact execRegWrite_keepsForm m size a v s
    case porstNAssert =>
      change s.Answers _ (ite _ _ _)
      split
      · exact State.done_keepsForm (.refl s)
      · exact State.done_keepsForm ((s.cold_keepsForm 0 1).trans (State.onDev_keepsForm _ _))
    case wrstNAssert => exact State.done_keepsForm (s.warm_keepsForm 4)
    case sysResetWarm => exact s.resetCmd_keepsForm _ _ _ (f := (·.warm 5)) (fun t => t.warm_keepsForm 5)
    case sysResetCold m confirm =>
      exact s.resetCmd_keepsForm m 2 confirm.toNat (f := fun t => if t.dev.flag .h_porst then t else t.cold 1 2)
        (fun t => .ite (.refl t) (t.cold_keepsForm 1 2))
    case bootWatchdog =>
      change s.Answers _ (ite _ _ _)
      split
      · exact State.done_keepsForm ((s.warm_keepsForm 6).trans (State.onDev_keepsForm _ _))
      · exact State.done_keepsForm (.refl s)
    case confirmTimeout =>
      change s.Answers _ (ite _ _ _)
      split
      · exact State.done_keepsForm (s.warm_keepsForm 7)
      · exact State.done_keepsForm (.refl s)
    case thermSample => exact State.done_keepsForm (s.sample_keepsForm ..)
    case railOutOfRange => exact State.done_keepsForm (s.railOut_keepsForm ..)
    all_goals exact absurd rfl h

/-- Settles O4: the command in front keeps the form, and a step on an empty queue is a tick of the device. -/
theorem stepKeepsMemoryForm : Obligations.StepKeepsMemoryForm := by
  intro s t hs hstep
  unfold step at hstep
  split at hstep
  next => exact ((s.run_sameMem Dev.tick t hstep).keepsForm).form hs
  next c rest _ => exact (exec_keepsForm c _ t hstep).form hs

end Sys2Proof.Machine
end

section
/-! SUPPORT. Mirror pairs (R382 to R384), the patrol scrub (R388) and the refresh rate (R389). -/

namespace Sys2Proof.Machine

/-! ### Mirror frames that arrive (R382) -/

/-- A mirror frame of kind `k`, complete at the head of the FMEM output, which arrived on no port, leaves the output and is acted on
where its frame is mapped in the role it needs, not draining, and its partner sent it. -/
theorem Dev.mirrorHead_of_partner {d : Dev} {k role : Nat} {f : Frame} {mark : Bool} {g : Nat}
    (hf : d.internalHead 513 4 = some (f, mark) ∧ f.complete = true ∧ f.hdr.ftype = ftMEM_RSP ∧ f.hdr.size = k ∧ f.arrival = none)
    (hg : d.winHolder (faWindow f.hdr.faddr) = some g ∧ f.hdr.src = 0xFF0000 + d.get .fmem_win_cfg_partner g ∧ d.frole g = role ∧
      d.fstate g ≠ fsDRAINING) (m : SMap Byte) (act : Nat → Frame → Dev → Dev × SMap Byte) :
    d.mirrorHead m k role act = act g f (d.takeInternal 513 f) := by
  obtain ⟨hhead, hcomplete, hftype, hsize, hinside⟩ := hf
  obtain ⟨hholder, hpartner, hrole, hmapped⟩ := hg
  unfold Dev.winHolder at hholder
  simp [Dev.mirrorHead, hhead, hcomplete, hftype, hsize, hinside, hholder, hpartner, hrole, hmapped]

/-- The outcome of an effect on device and memory. -/
theorem State.runMem_of_eq {s : State} {f : Dev → SMap Byte → Dev × SMap Byte} {x : Dev × SMap Byte} (h : f s.dev s.mem = x) :
    s.runMem f = .next { s.endsX x.1 with mem := x.2 } := by
  rw [State.runMem_next, h]
  simp only [State.endsX]

/-- As `runMem_of_eq`, for an effect that leaves memory alone. -/
theorem State.runMem_of_eq_same {s : State} {f : Dev → SMap Byte → Dev × SMap Byte} {e : Dev} (h : f s.dev s.mem = (e, s.mem)) :
    s.runMem f = .next (s.endsX e) := by
  rw [State.runMem_next, h]
  simp only [State.endsX]

/-- An effect with records alone. -/
theorem State.run_of_eq {s : State} {f : Dev → Dev} {e : Dev} (h : f s.dev = e) : s.run f = .next (s.ends e) := by
  rw [← h]
  rfl

/-! ### The timeouts of a pair (R383) -/

/-- The primary of a pair that answers its partner: ACTIVE or in resynchronisation. -/
abbrev Dev.pairRuns (d : Dev) (f role : Nat) : Prop := d.frole f = role ∧ (d.fstate f = fsACTIVE ∨ d.fstate f = fsRESYNC)

/-- The block without the operations, mirror frames and dirty granules of fabric memory. -/
def Dev.lessPairs (d : Dev) : Dev := { d with fops := [], fpushes := [], fdirty := {}, fmemOut := [], sent := [] }

theorem Dev.Confined.rest_lessPairs {own : List Fld} {d e : Dev} (h : d.Confined Dev.lessPairs own e) :
    e.rest = ({ d with fops := e.fops, fpushes := e.fpushes, fdirty := e.fdirty, fmemOut := e.fmemOut, sent := e.sent } : Dev).rest :=
  calc e.rest
    _ = { e.rest.lessPairs with fops := e.fops, fpushes := e.fpushes, fdirty := e.fdirty, fmemOut := e.fmemOut, sent := e.sent } := rfl
    _ = { d.rest.lessPairs with fops := e.fops, fpushes := e.fpushes, fdirty := e.fdirty, fmemOut := e.fmemOut, sent := e.sent } := by
      rw [h.rest]
    _ = _ := rfl

/-- What is in flight becomes dirty, and nothing else changes. -/
def Dev.pushesDirty (d : Dev) (f : Nat) : Dev :=
  (d.fpushes.filter (fun (p : MPush) => p.frame == f && p.len != 0)).foldl (fun d p => d.markDirty f p.off p.len) d

/-- The writes of frame `f` that wait for their push are held for the answer of a DEGRADED primary. -/
def holdPushed (f : Nat) (o : MOp) : MOp := if o.frame = f ∧ o.phase = 1 then { o with phase := 2 } else o

theorem holdPushed_phase (f : Nat) (o : MOp) (h : (holdPushed f o).frame = f) : (holdPushed f o).phase ≠ 1 := by
  unfold holdPushed at h ⊢
  split
  next => exact Nat.succ_ne_self 1
  next hfree =>
    rw [if_neg hfree] at h
    exact fun hphase => hfree ⟨h, hphase⟩

/-- The primary without its partner, before the record. -/
def Dev.partnerLost (d : Dev) (f : Nat) : Dev :=
  ({ (d.pushesDirty f).dropPushes f with fops := (d.pushesDirty f).fops.map (holdPushed f) } : Dev).setMany
    [(.fmem_win_state_state, f, fsDEGRADED), (.h_fm_hold, f, 1)]

/-- The loss of the partner leaves a record besides. -/
theorem Dev.mirrorLost_eq (d : Dev) (f : Nat) : ∃ l, d.mirrorLost f = { d.partnerLost f with events := l } := by
  have hraise : d.mirrorLost f = (d.partnerLost f).raise .FMEM_MIRROR_LOST ((d.partnerLost f).pathDevice ucFMEM_FRAME f)
      [.h f, .w ((d.partnerLost f).get .fmem_win_cfg_window f), .h ((d.partnerLost f).get .fmem_win_cfg_partner f),
        .w (ivCount ((d.partnerLost f).dirty f))] ((d.partnerLost f).get .fmem_win_cfg_job_tag f) := rfl
  exact ⟨_, hraise.trans (Dev.raise_eq ..)⟩

theorem Dev.partnerLost_confined (d : Dev) (f : Nat) :
    d.Confined Dev.lessPairs [.fmem_win_state_state, .h_fm_hold] (d.partnerLost f) := by
  have hmark (d : Dev) (o n : Nat) : d.Confined Dev.lessPairs [.fmem_win_state_state, .h_fm_hold] (d.markDirty f o n) :=
    .same (.refl d) rfl rfl
  have hdirty : d.Confined Dev.lessPairs [.fmem_win_state_state, .h_fm_hold] (d.pushesDirty f) :=
    .foldl (fun d (p : MPush) => hmark d p.off p.len) _ d
  unfold Dev.partnerLost
  generalize d.pushesDirty f = e at hdirty ⊢
  exact (Dev.setMany_confined _ _ (by simp)).after (.same hdirty rfl rfl)

theorem Dev.partnerLost_pair (d : Dev) (f : Nat) : (d.partnerLost f).fstate f = fsDEGRADED ∧ (d.partnerLost f).get .h_fm_hold f = 1 := by
  unfold Dev.partnerLost Dev.fstate
  rw [Dev.setMany_cons, Dev.setMany_cons, Dev.setMany_nil, Dev.get_set_same, Dev.get_set_fld _ (by decide), Dev.get_set_same]
  exact ⟨rfl, rfl⟩

/-- No push of the frame is in flight, and no write of it waits for one. -/
theorem Dev.partnerLost_pushes (d : Dev) (f : Nat) : (∀ p ∈ (d.partnerLost f).fpushes, p.frame ≠ f) ∧
    ∀ o ∈ (d.partnerLost f).fops, o.frame = f → o.phase ≠ 1 := by
  unfold Dev.partnerLost
  simp only [Dev.setMany_cons, Dev.setMany_nil, Dev.set_fpushes, Dev.set_fops]
  refine ⟨fun p hp => ?_, fun o ho hframe => ?_⟩
  · simpa using (List.mem_filter.mp hp).2
  · obtain ⟨x, -, rfl⟩ := List.mem_map.mp ho
    exact holdPushed_phase f x hframe

/-! ### Resynchronisation (R384) -/

theorem Dev.resyncPush_of_dirty {d : Dev} {f g : Nat} (hpair : d.fstate f = fsRESYNC ∧ d.frole f = 1)
    (h : ivFirst (d.dirty f) (d.fpushes.filterMap (fun (p : MPush) => if p.frame = f then p.gran else none)) = some g) (m : SMap Byte) :
    d.resyncPush m f = d.mirrorPush f 16 (d.get .fmem_win_cfg_window f * 2 ^ 30 + g * 4096) (memRead m (f * 2 ^ 30 + g * 4096) 4096)
      none (some g) := by
  unfold Dev.resyncPush
  rw [if_neg (by simp [hpair]), h]

/-! ### The LPDDR side (R388, R389) -/

/-- Channel `k` shows its refresh rate and whether it is hot. -/
def Dev.mr4Shown (d : Dev) (k rate : Nat) (hot : Bool) : Dev :=
  d.setMany [(.memc_ch_status_mr4_rate, k, rate), (.memc_ch_status_hot, k, b2n hot)]

theorem exec_mr4Poll (s : State) (chan : Fin 64) (rate : BitVec 4) (hot : Bool) : exec (.mr4Poll chan rate hot) s = s.run (fun d =>
    if d.domainOn 9 = false then d
    else if hot && !d.flag .memc_ch_status_hot chan then
      (d.mr4Shown chan rate.toNat hot).raise .MEMC_HOT ((d.mr4Shown chan rate.toNat hot).pathDevice ucLPDDR_CHANNEL chan) [.h chan]
    else d.mr4Shown chan rate.toNat hot) := rfl

theorem Dev.mr4Shown_pathDevice (d : Dev) (k rate : Nat) (hot : Bool) (c i : Nat) :
    (d.mr4Shown k rate hot).pathDevice c i = d.pathDevice c i := by
  have hshown : d.Confined id [.memc_ch_status_mr4_rate, .memc_ch_status_hot] (d.mr4Shown k rate hot) :=
    d.setMany_confined _ (by simp)
  simp (disch := decide) only [Dev.pathDevice, Dev.pathBase, hshown.fields _ _]

/-- Settles O40: each mirror frame is acted on as `mirrorHead_of_partner` says, and the other commands do what the lemma on their case
says. -/
theorem mirrorPairs : Obligations.MirrorPairs := by
  intro s
  refine ⟨fun f mark g hf hg => ?push, fun f mark g hf hg => ?ack, fun f mark g hf hg => ?keep, fun f mark g hf hg => ?done,
    fun frame h => ?keepSend, fun frame h hpushes => ?lost, fun frame h hpushes => ?lostParts, fun frame h => ?orphan,
    fun frame => ?answers, fun frame g h hdirty => ?resync, fun chan rate hot ⟨hon, hcold⟩ => ?cold,
    fun chan rate hot ⟨hon, hhot, hwas⟩ => ?hot, fun chan corr bad ⟨hon, hen, hleft⟩ => ?scrub⟩
  case push =>
    have htaken : s.dev.mirrorHead s.mem 16 2 (fun g f d => d.pushTaken s.mem g f) = (s.dev.takeInternal 513 f).pushTaken s.mem g f :=
      Dev.mirrorHead_of_partner hf hg ..
    rw [exec_mirrorPush]
    exact State.runMem_of_eq htaken
  case ack =>
    rw [exec_mirrorAck]
    exact State.runMem_of_eq_same (Dev.mirrorHead_of_partner hf hg ..)
  case keep =>
    rw [exec_mirrorKeep]
    exact State.runMem_of_eq_same (Dev.mirrorHead_of_partner hf hg ..)
  case done =>
    rw [exec_mirrorDone]
    exact State.runMem_of_eq_same (Dev.mirrorHead_of_partner hf hg ..)
  case keepSend => exact State.runX_of_eq (if_pos h)
  case lost => exact State.runX_of_eq (if_pos ⟨h.1, h.2, hpushes⟩)
  case lostParts =>
    obtain ⟨l, hl⟩ := s.dev.mirrorLost_eq frame
    obtain ⟨hstate, hhold⟩ := s.dev.partnerLost_pair frame
    obtain ⟨hgone, hheld⟩ := s.dev.partnerLost_pushes frame
    have hlost := s.dev.partnerLost_confined frame
    refine ⟨s.dev.mirrorLost frame, State.runX_of_eq (if_pos ⟨h.1, h.2, hpushes⟩), ?_⟩
    rw [hl]
    generalize s.dev.partnerLost frame = e at *
    have hall := hlost.same (g := { e with events := l }) rfl rfl
    exact ⟨⟨hstate, hhold, hgone, hheld⟩, hall.fields, hall.rest_lessPairs⟩
  case orphan => exact State.run_of_eq (if_pos h)
  case answers => rfl
  case resync =>
    rw [exec_resyncPush]
    exact State.runMem_of_eq_same (by rw [Dev.resyncPush_of_dirty h hdirty])
  case cold =>
    rw [exec_mr4Poll]
    refine State.run_of_eq ?_
    have hsame : (hot && !s.dev.flag .memc_ch_status_hot chan) = false := by
      rcases hcold with h | h <;> simp [h]
    rw [if_neg (by simp [hon]), hsame]
    rfl
  case hot =>
    subst hhot
    rw [exec_mr4Poll]
    refine State.run_of_eq ?_
    rw [if_neg (by simp [hon]), hwas, s.dev.mr4Shown_pathDevice]
    rfl
  case scrub =>
    refine State.run_of_eq (if_neg ?_)
    simp [hon, hen, hleft]

end Sys2Proof.Machine
end

section
/-! SUPPORT. The result of a DMA program that a halt ends (R481, R482): the register that shows it has eight bits. -/

namespace Sys2Proof.Machine

theorem exec_dmaHaltSettled (s : State) (chan : Fin 32) :
    exec (.dmaHaltSettled chan) s = .next (s.ends (s.dev.dmaSettle chan)) := rfl

/-- Channel 2 runs, a halt of it has begun and no response is outstanding; its halts end the program (halt_mode 1). The cause of
the halt is 240: no command leads here, since the causes of R482 end at 9, but the statement covers it. -/
def haltOfCause240 : State :=
  { dev := { (({} : Dev).setMany [(.dma_ch_status_state, 2, dcRUNNING), (.dma_ch_ctrl_halt_mode, 2, 1)]) with
      dma := ({} : SMap DmaChan).set 2 {} { fault := some { cause := 240, addr := 0, space := spKCL, dir := 0 } } } }

/-- 16 + 240 is 256, of which last_result shows the low eight bits. -/
theorem haltOfCause240_result : (haltOfCause240.dev.dmaSettle 2).get .dma_ch_status_last_result 2 = 0 := by decide +kernel

/-- Refutes O50: its clause of a halt with halt_mode 1, which gives last_result as 16 + cause for a cause of any size, while the
register has eight bits. In `haltOfCause240` the halt settles and last_result is 0, not 256. -/
theorem not_dmaBurstsAndEnds : ¬ Obligations.DmaBurstsAndEnds := by
  intro h
  obtain ⟨-, -, -, -, -, -, -, hhalt, -⟩ := h haltOfCause240
  obtain ⟨e, he, ⟨-, hresult, -⟩, -⟩ := hhalt 2 { cause := 240, addr := 0, space := spKCL, dir := 0 } (by decide)
  rw [exec_dmaHaltSettled] at he
  have hends : (haltOfCause240.dev.dmaSettle 2).flush = e.flush := congrArg State.dev (Host.Outcome.next.inj he)
  have hown : Fld.dma_ch_status_last_result ∉ lostFlds := by decide
  have hzero : e.get .dma_ch_status_last_result 2 = 0 := by
    rw [← e.flush_get _ _ hown, ← hends, Dev.flush_get _ _ _ hown, haltOfCause240_result]
  simp only [show ((2 : Fin 32) : Nat) = 2 from rfl, hzero] at hresult
  exact absurd hresult (by decide)

end Sys2Proof.Machine
end

section
/-! SUPPORT. The end of a running entry (R435 to R448): the register fields it may change, of which no frame of fabric memory has
any. -/

namespace Sys2Proof.Machine

/-- Nothing of the block but its fields is in view. -/
def Dev.fieldsOnly (_ : Dev) : Dev := {}

/-- The fields that an entry which goes on or ends may change. -/
def entryFlds : List Fld :=
  [.csq_qsram_word, .csq_q_cr_status_cr_tail, .csq_q_cr_status_cr_phase, .csq_q_pmap_active_word, .csq_q_status_map_gen,
   .csq_q_last_entry, .csq_q_last_status, .csq_q_last_detail, .csq_token_count, .csq_token_sat] ++ chargeFlds

/-- The block without its reads of companion memory. -/
def Dev.lessReads (d : Dev) : Dev := { d with reads := [], readWaits := [], sent := [] }

/-- From `d` to `e` no field but those of an entry has changed. -/
abbrev Dev.EntryStep (d e : Dev) : Prop := d.Confined Dev.fieldsOnly entryFlds e

/-- A change of the block beside its fields. -/
theorem Dev.entryStep_of_flds {d e : Dev} (h : e.flds = d.flds) : d.EntryStep e := .same (.refl d) h rfl

section
variable (d : Dev) (q : Nat)

theorem Dev.putQueue_entryStep (x : Queue) : d.EntryStep (d.putQueue q x) :=
  ((d.putQueue_confined q x).blur (fun _ => rfl)).mono (List.subset_append_right _ _)

theorem Dev.onRun_entryStep (f : Entry → Entry) : d.EntryStep (d.onRun q f) :=
  ((d.onRun_confined q f).blur (fun _ => rfl)).mono (List.subset_append_right _ _)

theorem Dev.qCount_entryStep (e : Ev) (n : Nat) : d.EntryStep (d.qCount q e n) := (d.count_confined ..).mono (by decide)

theorem Dev.qRecord_entryStep (c : RecCode) (l : List Item) : d.EntryStep (d.qRecord q c l) := d.raise_confined ..

/-! ### Reads of companion memory, words of queue SRAM -/

theorem Dev.kread_confined {own : List Fld} (p : KPurpose) (req addr bytes : Nat) (ext : Bool) :
    d.Confined Dev.lessReads own (d.kread p req addr bytes ext) := by
  unfold Dev.kread
  exact .ite (.same (.refl d) rfl rfl) (.ite (.same (.refl d) rfl rfl) (.same (.refl d) rfl rfl))

theorem Dev.issueReads_confined {own : List Fld} (n : Nat) : d.Confined Dev.lessReads own (d.issueReads n) := by
  induction n generalizing d with
  | zero => exact .refl d
  | succ n ih =>
    unfold Dev.issueReads
    split
    · exact .refl d
    · exact .ite (.refl d) ((ih _).after (.same (.refl d) rfl rfl))

theorem Dev.dropReads_confined {own : List Fld} (p : KPurpose) : d.Confined Dev.lessReads own (d.dropReads p) :=
  (Dev.issueReads_confined _ _).after (.same (.refl d) rfl rfl)

theorem Dev.readHead_entryStep : d.EntryStep (d.readHead q) := by
  unfold Dev.readHead
  exact .ite (((Dev.kread_confined ..).after (d.dropReads_confined _)).blur (fun _ => rfl)) (.refl d)

theorem Dev.readCrHead_entryStep : d.EntryStep (d.readCrHead q) := by
  unfold Dev.readCrHead
  exact .ite (((Dev.kread_confined ..).after (d.dropReads_confined _)).blur (fun _ => rfl)) (.refl d)

theorem Dev.qsramWrite_entryStep (k v : Nat) : d.EntryStep (d.qsramWrite k v) := by
  unfold Dev.qsramWrite
  refine .after (.foldl (fun d q => ?_) _ _) (d.set_confined (by decide) ..)
  exact .after (.ite (Dev.readCrHead_entryStep ..) (.refl _)) (.ite (d.readHead_entryStep _) (.refl _))

/-! ### Records, tokens, maps -/

theorem Dev.crWrite_entryStep (r : CRec) : d.EntryStep (d.crWrite q r) := by
  unfold Dev.crWrite
  refine .after (Dev.setMany_confined _ _ (by simp [entryFlds])) (.after (Dev.putQueue_entryStep ..) ?_)
  exact .ite (.foldl (fun d i => d.qsramWrite_entryStep ..) _ _) (Dev.entryStep_of_flds rfl)

theorem Dev.complete_entryStep (r : CRec) : d.EntryStep (d.complete q r) := by
  unfold Dev.complete
  exact .ite (d.crWrite_entryStep ..) ((Dev.qCount_entryStep ..).after (d.putQueue_entryStep ..))

theorem Dev.signalTok_entryStep (t n : Nat) : d.EntryStep (d.signalTok t n) := by
  have hset : d.EntryStep (d.set .csq_token_count t (min (d.get .csq_token_count t + n) 65535)) := d.set_confined (by decide) ..
  have hcount (e : Dev) (n : Nat) : e.EntryStep (e.count blkDevice .TOKEN_SAT n) := (e.count_confined ..).mono (by decide)
  unfold Dev.signalTok
  exact .ite hset (.after (.ite (.refl _) ((Dev.raise_confined ..).after (Dev.set_confined _ (by decide) ..)))
    ((hcount ..).after hset))

theorem Dev.protFail_entryStep (cls v : Nat) : d.EntryStep (d.protFail q cls v) := by
  unfold Dev.protFail
  exact .after (.ite (.refl _) ((Dev.qRecord_entryStep ..).after (Dev.putQueue_entryStep ..))) (d.qCount_entryStep ..)

theorem Dev.installMap_entryStep : d.EntryStep (d.installMap q) := by
  unfold Dev.installMap
  dsimp only
  split
  · exact .refl d
  · refine .ite (.refl d) ((Dev.putQueue_entryStep ..).after (.after (Dev.set_confined _ (by decide) ..) ?_))
    exact .foldl (fun d k => d.set_confined (by decide) ..) _ d

/-! ### The entry -/

theorem Dev.retire_entryStep (index : Nat) (ws : List Nat) (e : Option Entry) (r : EntryEnd) :
    d.EntryStep (d.retire q index ws e r) := by
  unfold Dev.retire
  extract_lets w0 ok launched x d1 d2 d3 d4 d5 d6 d7 d8
  have h2 : d.EntryStep d2 := (Dev.putQueue_entryStep ..).after (Dev.entryStep_of_flds rfl)
  have h3 : d2.EntryStep d3 := d2.qCount_entryStep ..
  have h4 : d3.EntryStep d4 := .ite (d3.signalTok_entryStep ..) (.refl d3)
  have h5 : d4.EntryStep d5 := .ite (d4.complete_entryStep ..) (.refl d4)
  have h6 : d5.EntryStep d6 := .ite (.refl d5) (d5.setMany_confined _ (by simp [entryFlds]))
  have h7 : d6.EntryStep d7 := by
    unfold d7
    split
    · exact d6.protFail_entryStep ..
    · exact .refl d6
  have h8 : d7.EntryStep d8 := .ite (d7.qRecord_entryStep ..) (.refl d7)
  exact (d8.installMap_entryStep q).after (h8.after (h7.after (h6.after (h5.after (h4.after (h3.after h2))))))

theorem Dev.endRun_entryStep (r : EntryEnd) : d.EntryStep (d.endRun q r) := by
  unfold Dev.endRun
  split
  · exact d.retire_entryStep ..
  · exact .refl d

theorem Dev.drvNext_entryStep (npc : Nat) : d.EntryStep (d.drvNext q npc) := by
  have hgoes := d.onRun_entryStep q (·.goto npc)
  unfold Dev.drvNext
  dsimp only
  split
  · exact .after (.ite (Dev.endRun_entryStep ..) (.refl _)) hgoes
  · exact hgoes

/-- The next instruction of an entry, or its end, leaves the states of the frames as they were. -/
theorem Dev.drvNext_fstate (npc f : Nat) : (d.drvNext q npc).fstate f = d.fstate f :=
  (d.drvNext_entryStep q npc).fields _ f (by decide)
end

end Sys2Proof.Machine
end

section
/-! SUPPORT. The TIME and TRIG groups (R413, R414, R426, R467): what an instruction finds on the charged device, triggers that are
armed or refused. -/

namespace Sys2Proof.Machine

/-! ### The charged device -/

section
variable (d : Dev) (q w : Nat)

theorem Dev.charged_flag {f : Fld} (hf : f ∉ chargeFlds) (i : Nat) : (d.charged q w).flag f i = d.flag f i :=
  (d.charged_confined q w).flag_eq hf i

theorem Dev.charged_fabric32 : (d.charged q w).fabric32 = d.fabric32 := by
  simp (disch := decide) only [Dev.fabric32, Dev.localNs, Dev.rate, d.charged_get]

theorem Dev.charged_pathDevice : (d.charged q w).pathDevice = d.pathDevice := by
  simp (disch := decide) only [Dev.pathDevice, Dev.pathBase, d.charged_get]

theorem Dev.charged_ops : (d.charged q w).ops = d.ops := (d.charged_sameLoads q w).ops

theorem Dev.charged_cap (c : Nat) : (d.charged q w).cap c = d.cap c :=
  (d.charged_confined q w).part (Dev.cap · c) (fun _ => rfl)

theorem Dev.charged_progs : (d.charged q w).progs = d.progs := (d.charged_confined q w).part Dev.progs (fun _ => rfl)

theorem Dev.charged_progLoads : (d.charged q w).progLoads = d.progLoads :=
  (d.charged_confined q w).part Dev.progLoads (fun _ => rfl)
end

/-- An opcode of the table has a row. -/
theorem dspec_of_op {w op : Nat} (h : wOp w = op) (hop : (dxTable.find? (fun s => s.op == op)).isSome = true) :
    ∃ row, dspec w = some row := by
  rw [dspec, h]
  exact Option.isSome_iff_exists.mp hop

/-! ### Captures and fabric time -/

/-- TIME.NOW: the latched fraction and local counter. -/
theorem Dev.dxTimeNow_of_issues {d : Dev} {q w i : Nat} {n : Entry} (h : d.issues q 0x60 w i n) :
    d.dxTimeNow q = ((d.charged q w).setMany [(.time_now_frac_now_frac, 0, d.fabric32 % 2 ^ 32),
      (.time_local_local, 0, d.localNs)]).drvDone q w i d.fabricNs := by
  obtain ⟨⟨-, -, -, -, -, hop⟩, -⟩ := id h
  obtain ⟨row, hrow⟩ := dspec_of_op hop (by decide)
  have hlocal : (d.charged q w).localNs = d.localNs := d.charged_get q w (by decide) 0
  rw [Dev.dxTimeNow, Dev.drvIssue_of_issues h hrow]
  simp only [Dev.timeNow, Dev.fabricNs, d.charged_fabric32, hlocal]

/-- CAP.POP hands on what it takes. -/
theorem Dev.dxCapPop_of_executes {d : Dev} {q w i v : Nat} {n : Entry} (h : d.executes q 0x73 w i n v rowTIME_CAP_NS v) :
    d.dxCapPop q = ((d.charged q w).capPop v).1.drvDone q w i ((d.charged q w).capPop v).2 :=
  Dev.dxRun_of_executes (t := fun _ v => { row := rowTIME_CAP_NS, ix := v }) h _

theorem Dev.capPop_cons {d : Dev} {c : Nat} {x : Nat × Bool} {r : List (Nat × Bool)} (h : d.cap c = x :: r) :
    d.capPop c = ({ d with caps := d.caps.set c [] r }, x.1 / 4 % 2 ^ 64) := by
  rw [Dev.capPop, h]

theorem Dev.capPop_nil {d : Dev} {c : Nat} (h : d.cap c = []) : d.capPop c = (d, 0) := by
  rw [Dev.capPop, h]

/-! ### Triggers -/

/-- Every value of TIME_TRIG_PERIOD is taken. -/
theorem Dev.refusedFields_trigPeriod (d : Dev) (k v : Nat) : d.refusedFields rowTIME_TRIG_PERIOD k v = [] := by
  rw [Dev.refusedFields, Dev.refusedMore, if_neg (by decide), if_neg (by decide), if_neg (by decide)]
  simp [RegRow.refused, rowTIME_TRIG_PERIOD, FieldRow.allows]

theorem Dev.dxTimeParent_of_executes {d : Dev} {q w i v : Nat} {n : Entry} (h : d.executes q 0x62 w i n v rowTIME_PARENT 0)
    (href : d.refusedFields rowTIME_PARENT 0 (n.reg (wA w)) = []) :
    d.dxTimeParent q = ((d.charged q w).parentWrite (n.reg (wA w)) []).drvDone q w i 0 := by
  rw [Dev.dxTimeParent, Dev.dxWrite_of_executes (t := fun _ _ => { row := rowTIME_PARENT, ix := 0 })
    (val := fun w e => e.reg (wA w)) h href]
  dsimp only
  rw [Dev.drvResult_ok]

theorem Dev.dxTrigPeriod_of_executes {d : Dev} {q w i v : Nat} {n : Entry} (h : d.executes q 0x70 w i n v rowTIME_TRIG_PERIOD v) :
    d.dxTrigPeriod q = ((d.charged q w).writeFields rowTIME_TRIG_PERIOD v (n.reg (wA w)) []).drvDone q w i 0 :=
  Dev.dxWrite_of_executes (t := fun _ v => { row := rowTIME_TRIG_PERIOD, ix := v }) (val := fun w e => e.reg (wA w)) h
    (d.refusedFields_trigPeriod v _)

/-- The width and period of trigger `k` give no lawful pulse (R413). -/
abbrev Dev.badPulse (d : Dev) (k : Nat) : Prop :=
  d.get .time_trig_period_width_ns k < 10 ∨ (d.get .time_trig_period_period_ns k ≠ 0 ∧
    (d.get .time_trig_period_period_ns k < 100 ∨ d.get .time_trig_period_period_ns k ≤ d.get .time_trig_period_width_ns k))

theorem Dev.trigArm_lawful {d : Dev} {k : Nat} (h : ¬ d.badPulse k) : (d.trigArm k).1.flag .time_trig_ctrl_enable k = true := by
  rw [Dev.trigArm, if_neg h]
  dsimp only
  have hset : (d.setMany [(.time_trig_ctrl_enable, k, 1), (.h_trig_next, k, d.trigFirst k),
      (.time_trig_ctrl_remaining, k, d.get .time_trig_ctrl_count k)]).get .time_trig_ctrl_enable k = 1 := by
    simp (disch := decide) only [Dev.setMany_cons, Dev.setMany_nil, Dev.get_set_fld, Dev.get_set_same]
    rfl
  split
  · rw [Dev.flag, Dev.get_set_fld _ (by decide), hset]
    rfl
  · rw [Dev.flag, hset]
    rfl

theorem Dev.trigArm_unlawful {d : Dev} {k : Nat} (h : d.badPulse k) : (d.trigArm k).1.flag .time_trig_ctrl_enable k = false := by
  rw [Dev.trigArm, if_pos h]
  rw [Dev.flag, Dev.raise_get, Dev.get_set_same]
  rfl

/-- A write with enable to a trigger that is off arms it. -/
theorem Dev.trigCtrlWrite_of_off {d : Dev} {k v : Nat} {bad : List Nat} (hoff : d.flag .time_trig_ctrl_enable k = false)
    (hv : bit v 0 = true) : d.trigCtrlWrite k v bad = ((d.writeFields rowTIME_TRIG_CTRL k v (0 :: bad)).trigArm k).1 := by
  simp [Dev.trigCtrlWrite, hoff, hv]

/-- The write of TIME_TRIG_CTRL leaves the pulse. -/
theorem Dev.badPulse_writeFields (d : Dev) (k v : Nat) (bad : List Nat) :
    (d.writeFields rowTIME_TRIG_CTRL k v bad).badPulse k ↔ d.badPulse k := by
  have hget (f : Fld) (hf : ∀ r ∈ rowTIME_TRIG_CTRL.fields, r.fld ≠ f) :
      (d.writeFields rowTIME_TRIG_CTRL k v bad).get f k = d.get f k :=
    d.writeFields_get_other _ k v bad (fun r hr he => absurd he (hf r hr))
  rw [Dev.badPulse, Dev.badPulse, hget _ (by decide), hget _ (by decide)]

theorem bit_armWord (c p : Nat) : bit (c * 2 ^ 48 + p * 2 + 1) 0 = true := by
  rw [bit, beq_iff_eq]
  omega

/-- Trigger `v` as TRIG.ARM leaves it. -/
def Dev.trigArmed (d : Dev) (q w v : Nat) (n : Entry) : Dev :=
  ((d.charged q w).set .time_trig_start_start_ns v (n.reg (wA w))).trigCtrlWrite v
    (slice w 3 16 * 2 ^ 48 + b2n (bit w 2) * 2 + 1) []

theorem Dev.dxTrigArm_of_executes {d : Dev} {q w i v : Nat} {n : Entry} (h : d.executes q 0x71 w i n v rowTIME_TRIG_CTRL v) :
    d.dxTrigArm q = if (d.trigArmed q w v n).flag .time_trig_ctrl_enable v
      then (d.trigArmed q w v n).drvDone q w i ((d.trigArmed q w v n).get .time_trig_ctrl_late v)
      else (d.trigArmed q w v n).drvFail q w i 1 :=
  Dev.dxRun_of_executes (t := tTrig) h _

/-- TRIG.ARM enables a trigger that is off exactly where its pulse is lawful. -/
theorem Dev.trigArmed_enable {d : Dev} {v : Nat} (hoff : d.flag .time_trig_ctrl_enable v = false) (q w : Nat) (n : Entry) :
    (d.trigArmed q w v n).flag .time_trig_ctrl_enable v = true ↔ ¬ d.badPulse v := by
  have hstart : d.Confined Dev.lessQueues (.time_trig_start_start_ns :: chargeFlds)
      ((d.charged q w).set .time_trig_start_start_ns v (n.reg (wA w))) :=
    (Dev.set_confined _ (by decide) ..).after ((d.charged_confined q w).mono (List.subset_cons_self _ _))
  rw [Dev.trigArmed, Dev.trigCtrlWrite_of_off ((hstart.flag_eq (by decide) v).trans hoff) (bit_armWord ..)]
  have hpulse := Dev.badPulse_writeFields ((d.charged q w).set .time_trig_start_start_ns v (n.reg (wA w))) v
    (slice w 3 16 * 2 ^ 48 + b2n (bit w 2) * 2 + 1) [0]
  simp only [Dev.badPulse, hstart.fields .time_trig_period_width_ns v (by decide),
    hstart.fields .time_trig_period_period_ns v (by decide)] at hpulse
  generalize Dev.writeFields _ rowTIME_TRIG_CTRL _ _ _ = e at hpulse ⊢
  constructor
  · intro hon hbad
    rw [Dev.trigArm_unlawful (hpulse.mpr hbad)] at hon
    exact absurd hon (by decide)
  · exact fun hok => Dev.trigArm_lawful (mt hpulse.mp hok)

theorem Dev.dxTrigOff_of_on {d : Dev} {q w i v : Nat} {n : Entry} (h : d.executes q 0x72 w i n v rowTIME_TRIG_CTRL v)
    (hon : d.flag .time_trig_ctrl_enable v = true) : d.dxTrigOff q = ((d.charged q w).trigStop v).drvDone q w i 0 := by
  rw [← d.charged_flag q w (by decide)] at hon
  refine (Dev.dxRun_of_executes (t := tTrig) h _).trans ?_
  rw [hon]
  rfl

end Sys2Proof.Machine
end

section
/-! SUPPORT. The MEM group (R374, R375, R384, R467): a frame that is mapped and the memory it zeroes, commands of a frame. -/

namespace Sys2Proof.Machine

section
variable (d : Dev) (q w : Nat)

theorem Dev.charged_fstate (f : Nat) : (d.charged q w).fstate f = d.fstate f := d.charged_get q w (by decide) f

theorem Dev.charged_memBusy : (d.charged q w).memBusy = d.memBusy := by simp only [Dev.memBusy, d.charged_fstate]

theorem Dev.charged_mapResult (f a0 a1 : Nat) : (d.charged q w).mapResult f a0 a1 = d.mapResult f a0 a1 := by
  simp (disch := decide) only [Dev.mapResult, d.charged_memBusy, d.charged_domainOn, d.charged_fstate, d.charged_flag, d.charged_get]

theorem Dev.charged_frameCmdResult (cmd f : Nat) : (d.charged q w).frameCmdResult cmd f = d.frameCmdResult cmd f := by
  have hrole : (d.charged q w).frole f = d.frole f := d.charged_get q w (by decide) f
  simp only [Dev.frameCmdResult, d.charged_memBusy, d.charged_domainOn, d.charged_fstate, hrole]
end

/-! ### MAP -/

/-- A check passed on the way to the answer 0. -/
theorem of_check_zero {c : Prop} [Decidable c] {a b : Nat} (ha : a ≠ 0) (h : (if c then a else b) = 0) : ¬ c ∧ b = 0 := by
  by_cases hc : c
  · exact absurd ((if_pos hc).symm.trans h) ha
  · exact ⟨hc, (if_neg hc).symm.trans h⟩

/-- A frame that can be mapped is one of the 409, and FREE. -/
theorem Dev.mapResult_zero {d : Dev} {f a0 a1 : Nat} (h : d.mapResult f a0 a1 = 0) : f < 409 ∧ d.fstate f = fsFREE := by
  unfold Dev.mapResult at h
  obtain ⟨-, h⟩ := of_check_zero (by decide) h
  obtain ⟨-, h⟩ := of_check_zero (by decide) h
  obtain ⟨-, h⟩ := of_check_zero (by decide) h
  obtain ⟨hargs, h⟩ := of_check_zero (by decide) h
  obtain ⟨hfree, -⟩ := of_check_zero (by decide) h
  exact ⟨Nat.lt_of_not_le (fun hf => hargs (.inl hf)), Decidable.not_not.mp hfree⟩

/-- One frame that a command puts in ZEROING is zeroed, where no other changes its state. -/
theorem zeroNew_one {d d' : Dev} {v : Nat} (hv : v < 409) (hfree : d.fstate v ≠ fsZEROING) (hzeroing : d'.fstate v = fsZEROING)
    (hothers : ∀ f, f ≠ v → d'.fstate f = d.fstate f) (m : SMap Byte) : zeroNew d d' m = memZero m v := by
  have hone : ∀ f, (d.fstate f != fsZEROING && d'.fstate f == fsZEROING) = decide (f = v) := by
    intro f
    by_cases hf : f = v
    · subst hf
      simp [hfree, hzeroing]
    · simp [hothers f hf, hf]
  have hlist : (List.range 409).filter (fun f => decide (f = v)) = [v] := by
    rw [List.filter_eq, List.count_eq_one_of_mem List.nodup_range (List.mem_range.mpr hv)]
    rfl
  simp only [zeroNew, hone, hlist, List.foldl_cons, List.foldl_nil]

theorem State.runMap_of_eq {s : State} {f : Dev → Dev} {e : Dev} {m : SMap Byte} (h : f s.dev = e) (hm : zeroNew s.dev e s.mem = m) :
    s.runMap f = .next { s.endsX e with mem := m } := by
  rw [State.runMap, State.runMem_of_eq (x := (e, m)) (by rw [h, hm])]

theorem State.runMap_of_eq_same {s : State} {f : Dev → Dev} {e : Dev} (h : f s.dev = e) (hm : ∀ g, e.fstate g = s.dev.fstate g) :
    s.runMap f = .next (s.endsX e) := by
  have hmem : zeroNew s.dev e s.mem = s.mem := zeroNew_same _ _ _ (fun g _ hg => (hm g).symm.trans hg)
  rw [State.runMap, State.runMem_of_eq_same (e := e) (by rw [h, hmem])]

/-- The operation of a MAP by the entry `n`, which has ended with result `res`. -/
def mapOp (q w i v : Nat) (n : Entry) (res : Nat) : Op :=
  { queue := q, entry := n.run, start := i, group := slice w 60 4, key := .memMap v, res := some res }

/-- The device after its effect `e` of a MAP: the operation of the entry has ended, and the entry goes on. -/
def Dev.mapEnds (d e : Dev) (q w i v : Nat) (n : Entry) (res : Nat) : Dev :=
  ({ e with ops := d.ops ++ [mapOp q w i v n res] } : Dev).drvNext q (i + 1)

theorem Dev.mapEnds_fstate (d e : Dev) (q w i v : Nat) (n : Entry) (res f : Nat) :
    (d.mapEnds e q w i v n res).fstate f = e.fstate f := Dev.drvNext_fstate ..

section
variable {d : Dev} {q w i v : Nat} {n : Entry}

theorem Dev.dxMemMap_of_executes (h : d.executes q 0x80 w i n v rowFMEM_WIN_STATE v) (hopen : d.opsOpen q n.run < 16) :
    d.dxMemMap q = ((d.charged q w).memMap v (n.reg (wA w)) (n.reg (wD w))).1.mapEnds
      ((d.charged q w).memMap v (n.reg (wA w)) (n.reg (wD w))).1 q w i v n
      ((d.charged q w).memMap v (n.reg (wA w)) (n.reg (wD w))).2 := by
  rw [← Dev.opsOpen_of_sameLoads (d.charged_sameLoads q w)] at hopen
  refine (Dev.dxRun_of_executes (t := tWin) h _).trans ?_
  rw [if_neg (by omega)]
  rfl

/-- MAP of a frame that can be mapped. -/
theorem Dev.dxMemMap_accepted (h : d.executes q 0x80 w i n v rowFMEM_WIN_STATE v) (hopen : d.opsOpen q n.run < 16)
    (hres : d.mapResult v (n.reg (wA w)) (n.reg (wD w)) = 0) :
    d.dxMemMap q = d.mapEnds (((d.charged q w).mapFrame' v (n.reg (wA w)) (n.reg (wD w))).mapStatus v 0) q w i v n 0 := by
  rw [← d.charged_mapResult q w] at hres
  have hmap : (d.charged q w).memMap v (n.reg (wA w)) (n.reg (wD w)) =
      (((d.charged q w).mapFrame' v (n.reg (wA w)) (n.reg (wD w))).mapStatus v 0, 0) := by
    rw [Dev.memMap, hres]
    rfl
  rw [Dev.dxMemMap_of_executes h hopen, hmap, Dev.mapEnds, Dev.mapEnds, ← d.charged_ops q w]
  rw [Dev.mapFrame', Dev.mapStatus, Dev.setMany_flds, Dev.setMany_flds (d.charged q w)]

/-- MAP of another frame: its record and its result. -/
theorem Dev.dxMemMap_refused (h : d.executes q 0x80 w i n v rowFMEM_WIN_STATE v) (hopen : d.opsOpen q n.run < 16)
    (hres : d.mapResult v (n.reg (wA w)) (n.reg (wD w)) ≠ 0) :
    d.dxMemMap q = d.mapEnds (((d.charged q w).mapRefused v (slice (n.reg (wA w)) 16 26)
      (d.mapResult v (n.reg (wA w)) (n.reg (wD w))) (slice (n.reg (wA w)) 0 16)).mapStatus v
      (d.mapResult v (n.reg (wA w)) (n.reg (wD w)))) q w i v n (d.mapResult v (n.reg (wA w)) (n.reg (wD w))) := by
  have hmap : (d.charged q w).memMap v (n.reg (wA w)) (n.reg (wD w)) = (((d.charged q w).mapRefused v (slice (n.reg (wA w)) 16 26)
      (d.mapResult v (n.reg (wA w)) (n.reg (wD w))) (slice (n.reg (wA w)) 0 16)).mapStatus v
      (d.mapResult v (n.reg (wA w)) (n.reg (wD w))), d.mapResult v (n.reg (wA w)) (n.reg (wD w))) := by
    rw [Dev.memMap, d.charged_mapResult, if_neg hres]
  rw [Dev.dxMemMap_of_executes h hopen, hmap, Dev.mapEnds, Dev.mapEnds, ← d.charged_ops q w]
  rw [Dev.mapRefused, Dev.mapStatus, Dev.setMany_flds, Dev.raise_eq]

theorem Dev.mapFrame_fstate (d : Dev) (v a0 a1 f : Nat) :
    ((d.mapFrame' v a0 a1).mapStatus v 0).fstate f = if f = v then fsZEROING else d.fstate f := by
  unfold Dev.fstate Dev.mapStatus Dev.mapFrame'
  simp (disch := decide) only [Dev.setMany_cons, Dev.setMany_nil, Dev.get_set_fld]
  rw [Dev.get_set]
  simp (disch := decide) only [Dev.get_set_fld]
  split
  next h =>
    rw [if_pos h.2]
    rfl
  next h => rw [if_neg (fun hf => h ⟨trivial, hf⟩)]

theorem Dev.mapRefused_fstate (d : Dev) (v win res job f : Nat) :
    ((d.mapRefused v win res job).mapStatus v res).fstate f = d.fstate f := by
  unfold Dev.fstate Dev.mapStatus Dev.mapRefused
  simp (disch := decide) only [Dev.setMany_cons, Dev.setMany_nil, Dev.get_set_fld, Dev.raise_get]

/-- An accepted MAP zeroes the memory of its frame, and of no other. -/
theorem zeroNew_mapped {a0 a1 : Nat} (hres : d.mapResult v a0 a1 = 0) (q w i : Nat) (n : Entry) (m : SMap Byte) :
    zeroNew d (d.mapEnds (((d.charged q w).mapFrame' v a0 a1).mapStatus v 0) q w i v n 0) m = memZero m v := by
  obtain ⟨hv, hfree⟩ := Dev.mapResult_zero hres
  refine zeroNew_one hv (by rw [hfree]; decide) ?zeroing (fun f hf => ?others) m
  case zeroing => rw [Dev.mapEnds_fstate, Dev.mapFrame_fstate, if_pos rfl]
  case others => rw [Dev.mapEnds_fstate, Dev.mapFrame_fstate, if_neg hf, d.charged_fstate]

/-- A refused one changes the state of no frame. -/
theorem Dev.notMapped_fstate (d : Dev) (q w i v win res job : Nat) (n : Entry) (f : Nat) :
    (d.mapEnds (((d.charged q w).mapRefused v win res job).mapStatus v res) q w i v n res).fstate f = d.fstate f := by
  rw [Dev.mapEnds_fstate, Dev.mapRefused_fstate, d.charged_fstate]

/-! ### UNMAP, RESYNC and PROMOTE -/

theorem Dev.memUnmap_result (d : Dev) (f : Nat) : (d.memUnmap f).2 = d.frameCmdResult 2 f := by
  by_cases h : d.frameCmdResult 2 f = 0 <;> simp [Dev.memUnmap, h]

theorem Dev.memResync_of_ok {d : Dev} {f : Nat} (h : d.frameCmdResult 3 f = 0) :
    d.memResync f = (((d.set .fmem_win_state_state f fsRESYNC).resyncDone f).mapStatus f 0, 0) := by
  simp [Dev.memResync, h]

theorem Dev.memResync_result (d : Dev) (f : Nat) : (d.memResync f).2 = d.frameCmdResult 3 f := by
  by_cases h : d.frameCmdResult 3 f = 0 <;> simp [Dev.memResync, h]

theorem Dev.memPromote_of_ok {d : Dev} {f : Nat} (h : d.frameCmdResult 4 f = 0) :
    d.memPromote f = (((d.setMany [(.fmem_win_cfg_role, f, 1), (.fmem_win_state_state, f, fsDEGRADED), (.h_fm_hold, f, 0)]).putDirty f
      [(0, 262144)]).mapStatus f 0, 0) := by
  simp [Dev.memPromote, h]

theorem Dev.memPromote_result (d : Dev) (f : Nat) : (d.memPromote f).2 = d.frameCmdResult 4 f := by
  by_cases h : d.frameCmdResult 4 f = 0 <;> simp [Dev.memPromote, h]

theorem Dev.dxMemUnmap_of_executes (h : d.executes q 0x81 w i n v rowFMEM_WIN_STATE v) (hopen : d.opsOpen q n.run < 16) :
    d.dxMemUnmap q = ((d.charged q w).memUnmap v).1.starts q w i n (.memUnmap v) (failOnly (d.frameCmdResult 2 v)) := by
  rw [← d.charged_frameCmdResult q w, ← Dev.memUnmap_result]
  exact Dev.dxRun_starts (t := tWin) h hopen .memUnmap (fun _ _ _ v d => ((d.memUnmap v).1, failOnly (d.memUnmap v).2))

theorem Dev.dxMemResync_of_executes (h : d.executes q 0x82 w i n v rowFMEM_WIN_STATE v) (hopen : d.opsOpen q n.run < 16) :
    d.dxMemResync q = ((d.charged q w).memResync v).1.starts q w i n (.memResync v) (some (d.frameCmdResult 3 v)) := by
  rw [← d.charged_frameCmdResult q w, ← Dev.memResync_result]
  exact Dev.dxRun_starts (t := tWin) h hopen .memResync (fun _ _ _ v d => ((d.memResync v).1, some (d.memResync v).2))

theorem Dev.dxMemPromote_of_executes (h : d.executes q 0x83 w i n v rowFMEM_WIN_STATE v) (hopen : d.opsOpen q n.run < 16) :
    d.dxMemPromote q = ((d.charged q w).memPromote v).1.starts q w i n (.memPromote v) (some (d.frameCmdResult 4 v)) := by
  rw [← d.charged_frameCmdResult q w, ← Dev.memPromote_result]
  exact Dev.dxRun_starts (t := tWin) h hopen .memPromote (fun _ _ _ v d => ((d.memPromote v).1, some (d.memPromote v).2))
end

end Sys2Proof.Machine
end

section
/-! SUPPORT. The DMA and PROG groups (R28, R467 to R470, R473, R484): channels run and aborted, program images, domains requested. -/

namespace Sys2Proof.Machine

/-! ### DMA -/

section
variable {d : Dev} {q w i v : Nat} {n : Entry}

/-- DMA.RUN of an address the queue may read, with the operation's answer. -/
theorem Dev.dxDmaRun_of_allowed (h : d.executes q 0x90 w i n v rowDMA_CH_STATUS v) (hopen : d.opsOpen q n.run < 16)
    (hmay : d.qAllowed q ocKCL_ADDR (n.reg (wA w)) (n.reg (wA w) + 7) false = true) :
    d.dxDmaRun q = if d.chanState v = dcIDLE
      then ((d.charged q w).dmaStart v (n.reg (wA w)) (d.qPriv q) q (d.qMap q)).starts q w i n (.dmaRun v) none
      else (d.charged q w).starts q w i n (.dmaRun v) (some 1) := by
  have hstate : (d.charged q w).chanState v = d.chanState v := d.charged_get q w (by decide) v
  have hpriv : (d.charged q w).qPriv q = d.qPriv q := d.charged_get q w (by decide) q
  have hmap : (d.charged q w).qMap q = d.qMap q := by simp (disch := decide) only [Dev.qMap, d.charged_get]
  rw [← d.charged_qAllowed q w] at hmay
  rw [← Dev.opsOpen_of_sameLoads (d.charged_sameLoads q w)] at hopen
  refine (Dev.dxRun_of_executes (t := tChan) h _).trans ?_
  dsimp only
  rw [hmay, if_neg (by decide), Dev.drvOp_eq_starts hopen, hstate, hpriv, hmap]
  split <;> rfl

/-- DMA.ABORT of a channel that runs. -/
theorem Dev.dxDmaAbort_of_running (h : d.executes q 0x91 w i n v rowDMA_CH_STATUS v) (hrun : d.chanState v = dcRUNNING) :
    d.dxDmaAbort q = ((((d.charged q w).set .dma_ch_status_cause v hcABORTED).putChan v
      { d.chan v with wait := none }).setChanState v dcABORTING).drvDone q w i 0 := by
  have hstate : (d.charged q w).chanState v = dcRUNNING := (d.charged_get q w (by decide) v).trans hrun
  have hchan : ((d.charged q w).set .dma_ch_status_cause v hcABORTED).chan v = d.chan v :=
    (d.charged_confined q w).part (Dev.chan · v) (fun _ => rfl)
  refine (Dev.dxRun_of_executes (t := tChan) h _).trans ?_
  rw [Dev.dmaAbort, hstate, if_pos (.inl rfl), if_neg (by decide)]
  dsimp only
  rw [hchan]
end

/-! ### PROG.LOAD and its answer (R469) -/

section
variable {d : Dev} {q w i v : Nat} {n : Entry}

/-- The load that PROG.LOAD begins. -/
def loadFrom (q w : Nat) (n : Entry) : ProgLoad := { queue := q, addr := n.reg (wA w) / 8 * 8, mask := slice w 12 8 }

/-- PROG.LOAD of a free handle begins to read its image. -/
theorem Dev.dxProgLoad_of_free (h : d.issues q 0xA0 w i n) (huse : d.mayUse q w n v = true) (hopen : d.opsOpen q n.run < 16)
    (hprog : d.progs.getOpt v = none) (hload : d.progLoads.getOpt v = none) :
    d.dxProgLoad q = (({ d.charged q w with progLoads := d.progLoads.set v none (some (loadFrom q w n)) } : Dev).kread (.progImage v)
      (reqLOAD (d.qSeq q)) (n.reg (wA w) / 8 * 8) 16).starts q w i n (.progLoad v) none := by
  obtain ⟨row, hrow⟩ := dspec_of_mayUse huse
  rw [← Dev.opsOpen_of_sameLoads (d.charged_sameLoads q w)] at hopen
  rw [Dev.dxProgLoad, Dev.drvIssue_of_issues h hrow, Dev.drvObj_of_mayUse (by rw [d.mayUse_charged, huse]),
    Dev.drvOp_eq_starts hopen]
  simp [d.charged_progs, d.charged_progLoads, d.charged_qSeq, hprog, hload, loadFrom]

/-- PROG.LOAD of a loaded handle is refused with HANDLE_BUSY. -/
theorem Dev.dxProgLoad_of_loaded (h : d.issues q 0xA0 w i n) (huse : d.mayUse q w n v = true) (hopen : d.opsOpen q n.run < 16)
    (hprog : (d.progs.getOpt v).isSome = true) : d.dxProgLoad q = (d.charged q w).starts q w i n (.progLoad v) (some 2) := by
  obtain ⟨row, hrow⟩ := dspec_of_mayUse huse
  rw [← Dev.opsOpen_of_sameLoads (d.charged_sameLoads q w)] at hopen
  rw [Dev.dxProgLoad, Dev.drvIssue_of_issues h hrow, Dev.drvObj_of_mayUse (by rw [d.mayUse_charged, huse]),
    Dev.drvOp_eq_starts hopen]
  simp [d.charged_progs, hprog]

/-- PROG.UNLOAD of a handle, held or free, that an entry runs or none does. -/
theorem Dev.dxProgUnload_of_issues (h : d.issues q 0xA1 w i n) (huse : d.mayUse q w n v = true) :
    d.dxProgUnload q = if (d.progs.getOpt v).isNone then (d.charged q w).drvFail q w i 8
      else if (d.charged q w).handleRuns v then (d.charged q w).drvFail q w i 7
      else ({ d.charged q w with progs := d.progs.set v none none } : Dev).drvDone q w i 0 := by
  obtain ⟨row, hrow⟩ := dspec_of_mayUse huse
  rw [Dev.dxProgUnload, Dev.drvIssue_of_issues h hrow, Dev.drvObj_of_mayUse (by rw [d.mayUse_charged, huse]), d.charged_progs]
end

/-- The block without what the end of a load may change: operations, reads, programs, loads. -/
def Dev.lessProgs (d : Dev) : Dev :=
  { d with ops := [], reads := [], readWaits := [], progs := {}, progLoads := {}, sent := [] }

theorem Dev.Confined.rest_lessProgs {own : List Fld} {d e : Dev} (h : d.Confined Dev.lessProgs own e) :
    e.rest = ({ d with ops := e.ops, reads := e.reads, readWaits := e.readWaits, progs := e.progs, progLoads := e.progLoads,
                       sent := e.sent } : Dev).rest :=
  calc e.rest
    _ = { e.rest.lessProgs with ops := e.ops, reads := e.reads, readWaits := e.readWaits, progs := e.progs,
                                progLoads := e.progLoads, sent := e.sent } := rfl
    _ = { d.rest.lessProgs with ops := e.ops, reads := e.reads, readWaits := e.readWaits, progs := e.progs,
                                progLoads := e.progLoads, sent := e.sent } := by rw [h.rest]
    _ = _ := rfl

/-- The device whose load of handle `h` has left its place. -/
def Dev.loadGone (d : Dev) (h : Nat) : Dev := { d.dropReads (.progImage h) with progLoads := d.progLoads.set h none none }

theorem Dev.loadGone_confined (d : Dev) (h : Nat) : d.Confined Dev.lessProgs [] (d.loadGone h) :=
  .same ((d.dropReads_confined _).blur (fun _ => rfl)) rfl rfl

theorem Dev.loadGone_progs (d : Dev) (h : Nat) : (d.loadGone h).progs = d.progs :=
  (d.dropReads_confined (own := []) (.progImage h)).part Dev.progs (fun _ => rfl)

/-- The checks of an image do not see the load itself. -/
theorem Dev.loadGone_progCheck (d : Dev) (h : Nat) (l : ProgLoad) (img : Option (List Nat)) :
    (d.loadGone h).progCheck l img = d.progCheck l img := by
  have hget (f : Fld) (i : Nat) : (d.loadGone h).get f i = d.get f i := (d.loadGone_confined h).fields f i List.not_mem_nil
  have hproof (ws : List Nat) : (d.loadGone h).loadProof l ws = d.loadProof l ws := by
    simp only [Dev.loadProof, Dev.qPriv, Dev.qMap, hget]
  have hblocks (k : Nat) : (d.loadGone h).blocksUsed k = d.blocksUsed k := by rw [Dev.blocksUsed, d.loadGone_progs, Dev.blocksUsed]
  cases img with
  | none => rfl
  | some ws => simp only [Dev.progCheck, hproof, hblocks]

/-- The program that an image of load `l` holds. -/
def Dev.progOf (d : Dev) (l : ProgLoad) (ws : List Nat) : Prog :=
  { words := (ws.drop 2).take (slice (ws.getD 0 0) 32 16), budget := slice (ws.getD 0 0) 0 32, seqs := l.mask, queue := l.queue,
    gen := d.get .csq_q_status_map_gen l.queue }

/-- An image that passes is held under its handle, and the operation ends with 0. -/
theorem Dev.progLoadEnd_of_passes {d : Dev} {h : Nat} {l : ProgLoad} {img : Option (List Nat)} (hl : d.progLoads.getOpt h = some l)
    (hok : d.progCheck l img = 0) : d.progLoadEnd h img =
      ({ d.loadGone h with progs := (d.loadGone h).progs.set h none (some ((d.loadGone h).progOf l (img.getD []))) } : Dev).opEnd
        (.progLoad h) 0 := by
  rw [← d.loadGone_progCheck h] at hok
  unfold Dev.loadGone at hok ⊢
  simp only [Dev.progLoadEnd, hl, hok]
  rfl

/-- Another ends its operation with its result. -/
theorem Dev.progLoadEnd_of_fails {d : Dev} {h : Nat} {l : ProgLoad} {img : Option (List Nat)} (hl : d.progLoads.getOpt h = some l)
    (hbad : d.progCheck l img ≠ 0) : ∃ detail, d.progLoadEnd h img =
      (d.loadGone h).opEnd (.progLoad h) (d.progCheck l img) detail := by
  rw [← d.loadGone_progCheck h] at hbad ⊢
  unfold Dev.loadGone at hbad ⊢
  simp only [Dev.progLoadEnd, hl]
  rw [if_neg hbad]
  exact ⟨_, rfl⟩

theorem Dev.opEnd_confined {own : List Fld} (d : Dev) (k : OpKey) (code detail : Nat) :
    d.Confined Dev.lessProgs own (d.opEnd k code detail) := .same (.refl d) rfl rfl

/-! ### PROG.POWER (R28) -/

section
variable {d : Dev} {q w i : Nat} {n : Entry}

/-- What blocks a request to switch a domain on is found on the charged device too. -/
theorem Dev.charged_pdBlocker (d : Dev) (q w k : Nat) : (d.charged q w).pdBlocker k true = d.pdBlocker k true := by
  have hloads := d.charged_sameLoads q w
  have hwra : (d.charged q w).wraInUse = d.wraInUse := by
    simp only [Dev.wraInUse, Dev.loadedCtxs, Dev.loadedDescs, hloads.ctxs, hloads.descs]
  have hbusy (k : Nat) : (d.charged q w).pdBusy k = d.pdBusy k := d.charged_bitOf q w (by decide) 0 k
  have hon (k : Nat) : (d.charged q w).pdOn k = d.pdOn k := d.charged_bitOf q w (by decide) 0 k
  have hneed : (d.charged q w).pdNeed true = d.pdNeed true := by
    funext r
    simp only [Dev.pdNeed, hbusy, hon]
  simp only [Dev.pdBlocker, hbusy, hon, hwra, hneed, if_true]

/-- PROG.POWER of a domain of the table, with the operation's answer. -/
theorem Dev.dxProgPower_on (h : d.issues q 0xA2 w i n) (hk : slice w 0 5 ≤ 19) (hon : bit w 5 = true) (hopen : d.opsOpen q n.run < 16) :
    d.dxProgPower q = ((d.charged q w).pdRequest (slice w 0 5) true (reqQUEUE q)).1.starts q w i n (.power (slice w 0 5) true)
      (if !((d.charged q w).pdRequest (slice w 0 5) true (reqQUEUE q)).2 then some 9
       else if ((d.charged q w).pdRequest (slice w 0 5) true (reqQUEUE q)).1.pdBusy (slice w 0 5) then none else some 0) := by
  obtain ⟨⟨-, -, -, -, -, hop⟩, -⟩ := id h
  obtain ⟨row, hrow⟩ := dspec_progPower hop
  rw [← Dev.opsOpen_of_sameLoads (d.charged_sameLoads q w)] at hopen
  rw [Dev.dxProgPower, Dev.drvIssue_of_issues h hrow]
  dsimp only
  rw [hon, if_neg (by omega), Dev.drvOp_eq_starts hopen]

/-- A request that nothing blocks, for a domain that is off. -/
theorem Dev.pdRequest_on {k : Nat} (hfree : d.pdBlocker k true = none) (hoff : d.pdOn k = false) (req : Nat) :
    d.pdRequest k true req = ((d.putB .sys_pd_status_busy 0 k true).putB .h_pd_target 0 k true, true) := by
  rw [Dev.pdRequest, hfree]
  simp [hoff]

theorem bit_eq_testBit (x k : Nat) : bit x k = x.testBit k := by
  rw [bit, Nat.testBit_eq_decide_div_mod_eq]
  rfl

theorem bit_mod_two_pow {x k n : Nat} (h : k < n) : bit (x % 2 ^ n) k = bit x k := by
  rw [bit_eq_testBit, bit_eq_testBit, Nat.testBit_mod_two_pow, decide_eq_true h, Bool.true_and]

/-- Such a request leaves the domain busy. -/
theorem Dev.pdBusy_putB {k : Nat} (h : k ≤ 19) (d : Dev) :
    ((d.putB .sys_pd_status_busy 0 k true).putB .h_pd_target 0 k true).pdBusy k = true := by
  have hbusy : ((d.putB .sys_pd_status_busy 0 k true).putB .h_pd_target 0 k true).get .sys_pd_status_busy 0 =
      setBit (d.get .sys_pd_status_busy 0) k % 2 ^ 20 :=
    (Dev.get_set_fld _ (by decide) ..).trans (d.get_set_same ..)
  rw [Dev.pdBusy, Dev.bitOf, hbusy, bit_mod_two_pow (by omega), bit_setBit]
end

end Sys2Proof.Machine
end

section
/-! SUPPORT. What TimeMemoryAndProgramInstructions states. -/

namespace Sys2Proof.Machine

/-- Settles O47: each instruction is its write, its read or its operation on the charged device, which reads as before; a MAP that is
accepted makes one frame ZEROING, and the memory of that frame alone is zeroed. -/
theorem timeMemoryAndProgramInstructions : Obligations.TimeMemoryAndProgramInstructions := by
  intro s
  refine ⟨fun q w i n h => State.runX_of_eq (Dev.dxTimeNow_of_issues h), fun q w i n v h => ?stat, fun q w i n v h href => ?parent,
    fun q w i n v h => ?period, fun q w i n v h hpulse => ?arm, fun q w i n v h hpulse => ?armRefused,
    fun q w i n v h hon => State.runX_of_eq (Dev.dxTrigOff_of_on h hon), fun q w i n v x r h hcap => ?pop,
    fun q w i n v h hcap => ?popNone, fun q w i n v h hopen hres => ?map, fun q w i n v h hopen hres => ?mapRefused,
    fun q w i n v h hopen hres => ?unmap, fun q w i n v h hopen hres => ?resync, fun q w i n v h hopen hres => ?promote,
    fun q w i n v h hopen hres => ?unmapRefused, fun q w i n v h hopen hres => State.runX_of_eq (Dev.dxMemResync_of_executes h hopen),
    fun q w i n v h hopen hres => State.runX_of_eq (Dev.dxMemPromote_of_executes h hopen), fun q w i n v h => ?memRead,
    fun q w i n v h hopen hchan => ?run, fun q w i n v h hopen hchan => ?runBusy,
    fun q w i n v h hrun => State.runX_of_eq (Dev.dxDmaAbort_of_running h hrun), fun q w i n v h => ?dmaRead,
    fun q w i n v h huse hopen hfree => State.runX_of_eq (Dev.dxProgLoad_of_free h huse hopen hfree.1 hfree.2),
    fun q w i n v h huse hopen hheld => State.runX_of_eq (Dev.dxProgLoad_of_loaded h huse hopen hheld),
    fun handle image l ws hl hok => ?loaded, fun handle image l hl hbad => ?notLoaded, fun q w i n v h huse hidle => ?unload,
    fun q w i n v h huse hnone => ?unloadNone, fun q w i n v h huse hruns => ?unloadRuns,
    fun q w i n h hk hopen hfree => ?power, fun q w i n b h hk hopen hblocked => ?powerBlocked⟩
  case stat => exact State.runX_of_eq (Dev.dxRead_of_executes (t := fun _ _ => { row := rowTIME_STATUS, ix := 0 }) h)
  case parent => exact State.runX_of_eq (Dev.dxTimeParent_of_executes h href)
  case period => exact State.runX_of_eq (Dev.dxTrigPeriod_of_executes h)
  case arm =>
    obtain ⟨hoff, hok⟩ := hpulse
    refine State.runX_of_eq ((Dev.dxTrigArm_of_executes h).trans ?_)
    rw [if_pos ((Dev.trigArmed_enable hoff q w n).mpr hok), Dev.trigArmed]
  case armRefused =>
    obtain ⟨hoff, hbad⟩ := hpulse
    refine State.runX_of_eq ((Dev.dxTrigArm_of_executes h).trans ?_)
    rw [if_neg (fun hon => (Dev.trigArmed_enable hoff q w n).mp hon hbad), Dev.trigArmed]
  case pop =>
    have hcaps : (s.dev.charged q w).caps = s.dev.caps := (s.dev.charged_confined q w).part Dev.caps (fun _ => rfl)
    rw [← s.dev.charged_cap q w] at hcap
    refine State.runX_of_eq ((Dev.dxCapPop_of_executes h).trans ?_)
    rw [Dev.capPop_cons hcap, hcaps]
  case popNone =>
    rw [← s.dev.charged_cap q w] at hcap
    refine State.runX_of_eq ((Dev.dxCapPop_of_executes h).trans ?_)
    rw [Dev.capPop_nil hcap]
  case map =>
    rw [exec_dxMemMap]
    exact State.runMap_of_eq (Dev.dxMemMap_accepted h hopen hres) (zeroNew_mapped hres q w i n s.mem)
  case mapRefused =>
    rw [exec_dxMemMap]
    exact State.runMap_of_eq_same (Dev.dxMemMap_refused h hopen hres) (fun f => Dev.notMapped_fstate ..)
  case unmap =>
    have hops := Dev.dxMemUnmap_of_executes h hopen
    rw [hres] at hops
    exact State.runX_of_eq hops
  case resync =>
    refine State.runX_of_eq ((Dev.dxMemResync_of_executes h hopen).trans ?_)
    rw [hres, Dev.memResync_of_ok (by rw [s.dev.charged_frameCmdResult, hres])]
  case promote =>
    refine State.runX_of_eq ((Dev.dxMemPromote_of_executes h hopen).trans ?_)
    rw [hres, Dev.memPromote_of_ok (by rw [s.dev.charged_frameCmdResult, hres])]
  case unmapRefused =>
    have hops := Dev.dxMemUnmap_of_executes h hopen
    rw [failOnly, if_neg hres] at hops
    exact State.runX_of_eq hops
  case memRead => exact State.runX_of_eq (Dev.dxRead_of_executes (t := tWin) h)
  case run =>
    obtain ⟨hmay, hidle⟩ := hchan
    exact State.runX_of_eq ((Dev.dxDmaRun_of_allowed h hopen hmay).trans (if_pos hidle))
  case runBusy =>
    obtain ⟨hmay, hbusy⟩ := hchan
    exact State.runX_of_eq ((Dev.dxDmaRun_of_allowed h hopen hmay).trans (if_neg hbusy))
  case dmaRead => exact State.runX_of_eq (Dev.dxRead_of_executes (t := tChan) h)
  case loaded =>
    obtain ⟨hload, rfl⟩ := hl
    have hall : s.dev.Confined Dev.lessProgs [] (s.dev.progLoadEnd handle (some (ws.map (fun y => y.toNat)))) := by
      rw [Dev.progLoadEnd_of_passes hload hok]
      exact (Dev.opEnd_confined ..).after (.same (s.dev.loadGone_confined handle) rfl rfl)
    refine ⟨_, State.runX_of_eq rfl, ⟨?_, ?_⟩, hall.fields, hall.rest_lessProgs⟩
    · rw [Option.map_some, Dev.progLoadEnd_of_passes hload hok, Dev.opEnd, SMap.getOpt_set_same]
      rfl
    · rw [Option.map_some, Dev.progLoadEnd_of_passes hload hok, Dev.opEnd, Dev.loadGone, SMap.getOpt_set_same]
  case notLoaded =>
    obtain ⟨detail, hend⟩ := Dev.progLoadEnd_of_fails hl hbad
    have hall := (Dev.opEnd_confined (own := []) (s.dev.loadGone handle) (.progLoad handle) (s.dev.progCheck l
      (image.map (fun y => y.map (fun z => z.toNat)))) detail).after (s.dev.loadGone_confined handle)
    refine ⟨_, State.runX_of_eq hend, ⟨?_, ?_⟩, hall.fields, hall.rest_lessProgs⟩
    · rw [Dev.opEnd, s.dev.loadGone_progs]
    · rw [Dev.opEnd, Dev.loadGone, SMap.getOpt_set_same]
  case unload =>
    obtain ⟨hheld, hidle⟩ := hidle
    refine State.runX_of_eq ((Dev.dxProgUnload_of_issues h huse).trans ?_)
    rw [if_neg (by simpa [Option.isSome_iff_ne_none] using hheld), if_neg (by rw [hidle]; decide)]
  case unloadNone =>
    refine State.runX_of_eq ((Dev.dxProgUnload_of_issues h huse).trans (if_pos ?_))
    rw [hnone]
    rfl
  case unloadRuns =>
    obtain ⟨hheld, hruns⟩ := hruns
    refine State.runX_of_eq ((Dev.dxProgUnload_of_issues h huse).trans ?_)
    rw [if_neg (by simpa [Option.isSome_iff_ne_none] using hheld), if_pos hruns]
  case power =>
    obtain ⟨hblocker, hoff⟩ := hfree
    have hoff' : (s.dev.charged q w).pdOn (slice w 0 5) = false := (s.dev.charged_bitOf q w (by decide) 0 _).trans hoff
    refine State.runX_of_eq ((Dev.dxProgPower_on h hk.1 hk.2 hopen).trans ?_)
    rw [Dev.pdRequest_on (by rw [s.dev.charged_pdBlocker, hblocker]) hoff']
    dsimp only
    rw [Dev.pdBusy_putB hk.1]
    rfl
  case powerBlocked =>
    refine State.runX_of_eq ((Dev.dxProgPower_on h hk.1 hk.2 hopen).trans ?_)
    rw [Dev.pdRequest_of_blocked (by rw [s.dev.charged_pdBlocker, hblocked]), s.dev.charged_pathDevice]
    rfl

end Sys2Proof.Machine
end

section
/-! SUPPORT. The end of a command where nothing waits for the engines (R404, R405, R409, R415). -/

namespace Sys2Proof.Machine

/-- Settles O60: what is left of the end of a command is a look at the time unit's ports. -/
theorem settlingAnIdleBlockTouchesTimeOnly : Obligations.SettlingAnIdleBlockTouchesTimeOnly := by
  unfold Obligations.SettlingAnIdleBlockTouchesTimeOnly
  intro d hidle
  exact ⟨(Dev.settle_clock hidle).rest, fun f i htime hcount =>
    (Dev.settle_clock hidle).fields f i (List.mem_append.not.mpr (not_or.mpr ⟨htime, hcount⟩))⟩

end Sys2Proof.Machine
end

section
/-! SUPPORT. A nanosecond of local time (R397): the fields that a tick writes besides the local counter. -/

namespace Sys2Proof.Machine

/-- The fields that a tick writes after the local counter: idle slots, the learning queue, the place of the DMA engine's round, and
what is counted. -/
def tickFlds : List Fld := [.h_slot_half, .h_learn_q, .h_dma_next] ++ linkFlds

section
variable (d : Dev)

theorem Dev.countBlocks_confined {view : Dev → Dev} (e : Nat) (p : Nat → Bool) :
    d.Confined view countFlds (d.countBlocks e p) := by
  unfold Dev.countBlocks
  exact .foldl (fun d _ => .ite (d.pmcAdd_confined ..) (.refl d)) _ d

theorem Dev.tickCrossings_confined {view : Dev → Dev} : d.Confined view countFlds d.tickCrossings := by
  unfold Dev.tickCrossings
  exact .after (.foldl (fun d _ => d.countBlocks_confined ..) _ _) ((Dev.countBlocks_confined ..).after d.draw_confined)

theorem Dev.tickPort_confined {view : Dev → Dev} (n : Nat) : d.Confined view tickFlds (d.tickPort n) := by
  unfold Dev.tickPort
  exact .ite (.refl d) (((Dev.slots_link ..).mono (List.subset_append_right _ _)).after (d.set_confined (by decide) ..))

/-- A passed frame that leaves takes its slots and may be counted (R417, R555). -/
theorem Dev.svcDrain_confined (o : Nat) : d.Confined Dev.fieldsOnly linkFlds (d.svcDrain o) := by
  unfold Dev.svcDrain
  split
  · exact .refl d
  next bytes t rest _ =>
    refine .ite (.refl d) ?_
    extract_lets e res
    have hleaves : d.Confined Dev.fieldsOnly linkFlds e := .same (.refl d) rfl rfl
    have hsent (g : Dev) (out : List Nat) : g.Confined Dev.fieldsOnly linkFlds (g.emit (.eth o out)) := .same (.refl g) rfl rfl
    split
    next g out hout =>
      have hcorrected : d.Confined Dev.fieldsOnly linkFlds g := by
        split at hout
        · cases hout
          exact (e.count_link ..).after hleaves
        · cases hout
          exact hleaves
      dsimp only
      split
      · exact .ite ((Dev.slots_link ..).after ((hsent ..).after hcorrected)) ((hsent ..).after hcorrected)
      · exact (hsent ..).after hcorrected

theorem Dev.pwrFlush_confined {own : List Fld} : d.Confined Dev.fieldsOnly own d.pwrFlush := by
  unfold Dev.pwrFlush
  exact .ite (.refl d) (.after (.foldl (fun d _ => d.raise_confined ..) _ _) (.same (.refl d) rfl rfl))

theorem Dev.learnDrain_confined {view : Dev → Dev} : d.Confined view tickFlds d.learnDrain := by
  unfold Dev.learnDrain
  exact .ite (.refl d) ((Dev.set_confined _ (by decide) ..).after d.draw_confined)

/-- A burst that is issued, or meets its fault, is counted at most (R473). -/
theorem Dev.dmaBurst_confined (c : Nat) : d.Confined Dev.fieldsOnly countFlds (d.dmaBurst c) := by
  have hchan (d : Dev) (x : DmaChan) : d.Confined Dev.fieldsOnly countFlds (d.putChan c x) := .same (.refl d) rfl rfl
  unfold Dev.dmaBurst
  dsimp only
  split
  · exact .refl d
  · split
    · unfold Dev.dmaHalt
      exact .ite (.refl d) (hchan ..)
    · exact (Dev.count_confined ..).after (.after (.ite ((Dev.kread_confined ..).blur (fun _ => rfl)) (.refl _)) (hchan ..))

theorem Dev.dmaServe_confined (n : Nat) : d.Confined Dev.fieldsOnly tickFlds (d.dmaServe n) := by
  induction n generalizing d with
  | zero => exact .refl d
  | succ n ih =>
    unfold Dev.dmaServe
    split
    · exact .refl d
    next c _ => exact (ih _).after ((Dev.set_confined _ (by decide) ..).after ((d.dmaBurst_confined c).mono (by decide)))
end

/-- While the time island runs, a tick counts one nanosecond and writes no other field but those of `tickFlds`. -/
theorem Dev.tick_confined {d : Dev} (h : d.timeRuns = true) : (d.incr .h_local 0).Confined Dev.fieldsOnly tickFlds d.tick := by
  have hlink : linkFlds ⊆ tickFlds := List.subset_append_right _ _
  have hcount : countFlds ⊆ tickFlds := by decide
  rw [Dev.tick, if_neg (by simp [h])]
  extract_lets e g
  refine (Dev.dmaServe_confined ..).after ((Dev.learnDrain_confined _).after ((Dev.pwrFlush_confined _).after ?_))
  refine ((Dev.svcDrain_confined ..).mono hlink).after (((Dev.svcDrain_confined ..).mono hlink).after ?_)
  refine .after (.foldl (fun d n => d.tickPort_confined n) _ _) ?_
  exact ((Dev.tickCrossings_confined _).mono hcount).after ((Dev.countBlocks_confined ..).mono hcount)

theorem Dev.tick_localNs {d : Dev} (h : d.timeRuns = true) : d.tick.flush.localNs = (d.localNs + 1) % 2 ^ 64 :=
  calc d.tick.flush.localNs
    _ = d.tick.localNs := d.tick.flush_get _ _ (by decide)
    _ = (d.incr .h_local 0).localNs := (Dev.tick_confined h).fields _ _ (by decide)
    _ = (d.localNs + 1) % 2 ^ 64 := d.get_set_same ..

theorem Dev.tick_of_stopped {d : Dev} (h : d.timeRuns = false) : d.tick = d := by
  unfold Dev.tick
  rw [h]
  rfl

theorem step_of_empty {s : State} (h : s.pending = []) : step s = .next { s with dev := s.dev.tick.flush } := by
  have htick : step s = s.tick := by rw [step, h]
  exact htick.trans (s.run_next Dev.tick)

/-- Settles O2: the step is a tick, which writes the local counter once. -/
theorem stepWithoutCommandCountsTime : Obligations.StepWithoutCommandCountsTime := by
  unfold Obligations.StepWithoutCommandCountsTime
  intro s hempty
  refine ⟨_, step_of_empty hempty, ⟨rfl, rfl, rfl⟩, Dev.tick_localNs, fun hstopped hquiet => ?_⟩
  rw [Dev.tick_of_stopped hstopped, Dev.flush_quiet _ hquiet]

end Sys2Proof.Machine
end

section
/-! SUPPORT. Fabric time that has moved (R399, R412, R495): a step by a difference, and the fields that what it fires may
write. -/

namespace Sys2Proof.Machine

/-! ### What a step of fabric time may write besides the offset -/

/-- The fields of gates and their lists, and of circuits that switch (R129, R242, R244). -/
def switchFlds : List Fld :=
  [.sched_gate_status_entry, .sched_gate_status_gate_state, .sched_gate_status_active_list, .sched_gate_status_pending,
   .sched_gate_admin_cycle_ns, .sched_gate_admin_n_entries, .sched_gate_base_base_ns, .h_gate_cycle, .h_gate_n, .h_gate_base,
   .h_wtr_state, .h_wtr_ghz, .h_xpr_decl, .xpr_circ_status_state, .xpr_circ_status_act_late]

/-- The fields of snapshots and windows, their shadows among them (R495, R497, R498). -/
def shadowFlds : List Fld :=
  [.h_snap_last, .perf_snap_cycle_cycles, .perf_snap_pmc_count, .perf_blk_status_snap_ovf, .perf_last_snap_last_snap,
   .perf_dump_status_dump_seq, .perf_dump_status_busy, .perf_dump_status_snaps_missed, .h_dump_miss, .h_win_rx_bytes,
   .h_win_tx_bytes, .perf_win_bytes_rx_bytes, .perf_win_bytes_tx_bytes, .perf_win_slot_a_retired, .perf_win_slot_a_wasted,
   .perf_win_slot_b_front_starved, .perf_win_slot_b_back_starved, .perf_win_info_sat, .perf_win_info_partial,
   .perf_win_info_window_seq, .h_win_end]

/-- The fields that a step of fabric time and what it fires may write besides the offset. -/
def stepFlds : List Fld := .time_status_step_count :: (switchFlds ++ shadowFlds ++ linkFlds)

theorem linkFlds_subset_stepFlds : linkFlds ⊆ stepFlds := List.subset_cons_of_subset _ (List.subset_append_right _ _)

/-- What a step of fabric time fires leaves every field but those of `stepFlds`. -/
abbrev Dev.StepsOn (d e : Dev) : Prop := d.Confined Dev.fieldsOnly stepFlds e

section
variable (d : Dev)

theorem Dev.set_stepsOn (f : Fld) (i v : Nat) (h : f ∈ stepFlds := by decide) : d.StepsOn (d.set f i v) :=
  d.set_confined h i v

theorem Dev.sendLc_stepsOn (p ty : Nat) (body : List Nat) : d.StepsOn (d.sendLc p ty body) :=
  ((d.sendLc_link p ty body).blur (fun _ => rfl)).mono linkFlds_subset_stepFlds

theorem Dev.bulk_stepsOn (f : Fld) (n : Nat) (p : Nat → Bool) (g : Nat → Nat) (h : f ∈ stepFlds := by decide) :
    d.StepsOn (d.bulk f n p g) := by
  refine ⟨fun x i hx => ?_, rfl⟩
  have hne : x.ctorIdx ≠ f.ctorIdx := fun hc => hx (by rwa [Fld.ctorIdx_inj hc])
  simp only [Dev.get, Dev.bulk, SMap.get_set_other _ hne]

/-! ### Gates (R242, R244) -/

theorem Dev.gateShow_stepsOn (n : Nat) : d.StepsOn (d.gateShow n) := d.setMany_confined _ (by simp [stepFlds, switchFlds])

theorem Dev.gateTimeStep_stepsOn : d.StepsOn d.gateTimeStep := by
  unfold Dev.gateTimeStep
  exact .after (.foldl (fun d n => .ite (d.gateShow_stepsOn n) (.refl d)) _ _) ((d.countBlocks_confined ..).mono (by decide))

theorem Dev.gateSwap_stepsOn (n : Nat) : d.StepsOn (d.gateSwap n) := by
  unfold Dev.gateSwap
  exact .ite (.refl d) (.after (.ite (Dev.set_stepsOn ..) (.refl _)) (d.setMany_confined _ (by simp [stepFlds, switchFlds])))

/-! ### Circuits (R129) -/

theorem Dev.weightRings_stepsOn (c st ghz : Nat) : d.StepsOn (d.weightRings c st ghz) := by
  unfold Dev.weightRings
  exact .foldl (fun d _ => d.setMany_confined _ (by simp [stepFlds, switchFlds])) _ d

theorem Dev.opEnd_stepsOn (k : OpKey) (code detail : Nat) : d.StepsOn (d.opEnd k code detail) := .same (.refl d) rfl rfl

theorem Dev.xprActivate_stepsOn (c : Nat) : d.StepsOn (d.xprActivate c) := by
  unfold Dev.xprActivate
  refine .ite (.refl d) ((Dev.opEnd_stepsOn ..).after (.after (.ite ?_ (.refl _)) ?_))
  · exact (Dev.raise_confined ..).after (Dev.set_stepsOn ..)
  · exact (Dev.setMany_confined _ _ (by simp [stepFlds, switchFlds])).after
      ((Dev.weightRings_stepsOn ..).after (.foldl (fun d _ => d.sendLc_stepsOn ..) _ d))

/-! ### Snapshots and windows (R495, R497, R498) -/

theorem Dev.snapMiss_stepsOn (n : Nat) : d.StepsOn (d.snapMiss n) := (Dev.set_stepsOn ..).after (d.set_stepsOn ..)

theorem Dev.snapCopy_stepsOn : d.StepsOn d.snapCopy := by
  unfold Dev.snapCopy
  exact (Dev.set_stepsOn ..).after ((Dev.bulk_stepsOn ..).after ((Dev.bulk_stepsOn ..).after (d.bulk_stepsOn ..)))

theorem Dev.dumpBegin_stepsOn (src : Nat) : d.StepsOn (d.dumpBegin src) := by
  unfold Dev.dumpBegin
  exact (Dev.setMany_confined _ _ (by simp [stepFlds, shadowFlds])).after
    (.same (d.set_stepsOn .perf_dump_status_dump_seq ..) rfl rfl)

theorem Dev.snapshot_stepsOn (src : Nat) : d.StepsOn (d.snapshot src) := by
  unfold Dev.snapshot
  refine .ite (.refl d) (.ite ((Dev.raise_confined ..).after (d.snapMiss_stepsOn 1)) ?_)
  exact .after (.ite (Dev.dumpBegin_stepsOn ..) (.refl _)) d.snapCopy_stepsOn

theorem Dev.snapFire_stepsOn (n : Nat) : d.StepsOn (d.snapFire n) :=
  (Dev.snapMiss_stepsOn ..).after ((Dev.snapshot_stepsOn ..).after (d.set_stepsOn ..))

theorem Dev.windowLatch_stepsOn : d.StepsOn d.windowLatch := by
  unfold Dev.windowLatch
  have latch (d : Dev) (src dst : Fld) (hsrc : src ∈ stepFlds := by decide) (hdst : dst ∈ stepFlds := by decide) :
      d.StepsOn ((d.bulk dst 512 d.quadOn (fun n => d.get src n)).bulk src 512 d.quadOn (fun _ => 0)) :=
    (Dev.bulk_stepsOn _ _ _ _ _ hsrc).after (d.bulk_stepsOn _ _ _ _ hdst)
  refine (Dev.set_stepsOn ..).after ((Dev.bulk_stepsOn ..).after ((Dev.bulk_stepsOn ..).after ((Dev.bulk_stepsOn ..).after ?_)))
  refine (latch _ .h_win_sat .perf_win_info_sat).after ((latch _ .h_win_back .perf_win_slot_b_back_starved).after ?_)
  refine (latch _ .h_win_front .perf_win_slot_b_front_starved).after ((latch _ .h_win_wasted .perf_win_slot_a_wasted).after ?_)
  refine (latch _ .h_win_retired .perf_win_slot_a_retired).after ((latch _ .h_win_tx_bytes .perf_win_bytes_tx_bytes).after ?_)
  exact latch d .h_win_rx_bytes .perf_win_bytes_rx_bytes

theorem Dev.partialAll_stepsOn : d.StepsOn d.partialAll := by
  unfold Dev.partialAll
  exact .foldl (fun d n => .ite (d.set_stepsOn ..) (.refl d)) _ d

/-! ### A step and what it fires (R399, R412) -/

theorem Dev.fire_stepsOn (a : Action) : d.StepsOn (d.fire a) := by
  cases a with
  | gates n => exact d.gateSwap_stepsOn n
  | express c => exact d.xprActivate_stepsOn c
  | snapshot => exact d.snapFire_stepsOn _

theorem Dev.fireDue_stepsOn : d.StepsOn d.fireDue :=
  .foldl (f := fun d (a : Nat × Action) => d.fire a.2) (fun d a => d.fire_stepsOn a.2) d.dueActions d

theorem Dev.afterStep_stepsOn (e : Dev) : e.StepsOn (d.afterStep e) := by
  unfold Dev.afterStep
  exact (Dev.fireDue_stepsOn _).after (.ite ((Dev.partialAll_stepsOn _).after e.windowLatch_stepsOn) (.refl e))

theorem Dev.timeStep_stepsOn (x : Int) (l : List Item) : (d.putOffset (d.offset32 + x)).StepsOn (d.timeStep x l) := by
  unfold Dev.timeStep
  exact (Dev.partialAll_stepsOn _).after
    ((Dev.gateTimeStep_stepsOn _).after ((Dev.raise_confined ..).after (Dev.set_stepsOn ..)))
end

/-! ### The offset after a step by a difference (R423) -/

/-- Two's complement of `w` bits is the number modulo 2^w. -/
theorem sgn_emod (w x : Nat) : sgn w x % 2 ^ w = (x : Int) % 2 ^ w := by
  unfold sgn
  dsimp only
  split
  · simp
  · simp

/-- From `a` the signed difference to `b` leads to `b`, modulo 2^96. -/
theorem add_sgn_difference {a b : Nat} (ha : a < 2 ^ 96) (hb : b < 2 ^ 96) :
    (((a : Int) + sgn 96 (b + 2 ^ 96 - a)) % 2 ^ 96).toNat = b := by
  have hdiff : ((a : Int) + sgn 96 (b + 2 ^ 96 - a)) % 2 ^ 96 = (b : Int) := by
    rw [← Int.add_emod_emod, sgn_emod, Int.add_emod_emod]
    omega
  rw [hdiff, Int.toNat_natCast]

theorem Dev.putOffset_gets (d : Dev) {x : Int} {y : Nat} (h : (x % 2 ^ 96).toNat = y) (hy : y < 2 ^ 96) :
    (d.putOffset x).get .time_offset_ns_offset_ns = y / 2 ^ 32 ∧
      (d.putOffset x).get .time_offset_frac_offset_frac = y % 2 ^ 32 := by
  have hns : y / 2 ^ 32 % 2 ^ 64 = y / 2 ^ 32 := by omega
  have hfrac : y % 2 ^ 32 % 2 ^ 32 = y % 2 ^ 32 := Nat.mod_mod ..
  constructor <;>
    simp (disch := decide) only [Dev.putOffset, h, Dev.setMany_cons, Dev.setMany_nil, Dev.get_set_same, Dev.get_set_fld]
  · exact hns
  · exact hfrac

/-- A step by the difference to the value written leaves that value in the offset, whatever it fires. -/
theorem Dev.offset_of_step {d : Dev} {ns frac : Nat} (hold : d.offset32 < 2 ^ 96) (hns : ns < 2 ^ 64) (hfrac : frac < 2 ^ 32)
    (old : Dev) (l : List Item) :
    (old.afterStep (d.timeStep (sgn 96 (ns * 2 ^ 32 + frac + 2 ^ 96 - d.offset32)) l)).get .time_offset_ns_offset_ns = ns ∧
      (old.afterStep (d.timeStep (sgn 96 (ns * 2 ^ 32 + frac + 2 ^ 96 - d.offset32)) l)).get
        .time_offset_frac_offset_frac = frac := by
  have hbound : ns * 2 ^ 32 + frac < 2 ^ 96 := by omega
  have hfired := (old.afterStep_stepsOn _).after
    (d.timeStep_stepsOn (sgn 96 (ns * 2 ^ 32 + frac + 2 ^ 96 - d.offset32)) l)
  obtain ⟨hputNs, hputFrac⟩ := d.putOffset_gets (add_sgn_difference hold hbound) hbound
  rw [hfired.fields _ _ (by decide), hfired.fields _ _ (by decide), hputNs, hputFrac]
  exact ⟨by omega, by omega⟩

end Sys2Proof.Machine
end

section
/-! SUPPORT. What TimeRegistersAndPins states: reads of the control space, the registers of fabric time, triggers and
captures. -/

namespace Sys2Proof.Machine

/-! ### What stays in view after a change of other fields -/

/-- The fields of fabric time (R397, R398). -/
def fabricFlds : List Fld := [.h_local, .time_rate_rate, .time_offset_ns_offset_ns, .time_offset_frac_offset_frac]

theorem Dev.Keeps.fabric32 {d e : Dev} {own : List Fld} (h : d.Keeps e own) (hown : ∀ f ∈ fabricFlds, f ∉ own) :
    e.fabric32 = d.fabric32 := by
  have hsame (f : Fld) (hf : f ∈ fabricFlds := by decide) : e.get f 0 = d.get f 0 := h f 0 (hown f hf)
  simp only [Dev.fabric32, Dev.localNs, Dev.rate, hsame .h_local, hsame .time_rate_rate, hsame .time_offset_ns_offset_ns,
    hsame .time_offset_frac_offset_frac]

/-- The fields of a path that name the device (R22, R24). -/
def positionFlds : List Fld := [.sys_fabric_pos_hall, .sys_fabric_pos_plane, .sys_fabric_pos_device]

theorem Dev.Keeps.pathDevice {d e : Dev} {own : List Fld} (h : d.Keeps e own)
    (hown : ∀ f ∈ positionFlds, f ∉ own) (uc ui : Nat) :
    e.pathDevice uc ui = d.pathDevice uc ui := by
  have hsame (f : Fld) (hf : f ∈ positionFlds := by decide) : e.get f 0 = d.get f 0 := h f 0 (hown f hf)
  simp only [Dev.pathDevice, Dev.pathBase, hsame .sys_fabric_pos_hall, hsame .sys_fabric_pos_plane,
    hsame .sys_fabric_pos_device]

/-- The answer to a write changes what has been sent, and nothing else. -/
theorem Dev.ok_rest {d e : Dev} (h : e.rest = d.rest) : e.ok.rest = ({ d with sent := e.ok.sent } : Dev).rest :=
  calc e.ok.rest
    _ = { e.rest with sent := e.ok.sent } := rfl
    _ = { d.rest with sent := e.ok.sent } := by rw [h]
    _ = ({ d with sent := e.ok.sent } : Dev).rest := rfl

/-! ### Fields that a write stores as they are (R9) -/

theorem regsTime_subset : regsTime ⊆ regTable := by
  unfold regTable
  iterate 18 refine List.subset_append_of_subset_left _ ?_
  exact List.subset_append_right _ _

/-- A read-write field of one place in each copy takes its bits of the word, unless they are refused. -/
theorem Dev.writeFields_get_rw (d : Dev) (i v : Nat) {bad : List Nat} {r : RegRow} {f : FieldRow} (hr : r ∈ regTable)
    (hf : f ∈ r.fields) (hacc : f.acc = .rw) (hlive : f.live = false) (hone : f.nsub = 1) (hok : bad.contains f.lo = false) :
    (d.writeFields r i v bad).get f.fld i = slice v f.lo f.w := by
  have hplace := d.writeFields_get_same i v bad hr hf hlive (k := 0) (by omega)
  simp only [hone, FieldRow.stored, hacc, Nat.mul_one, Nat.mul_zero, Nat.add_zero, hok] at hplace
  exact hplace

/-! ### Reads (R421, R426) -/

/-- A read that reaches its register is answered with what its effect gives, whichever its mark (R440). -/
theorem Dev.hostRead_of_reaches {d : Dev} {r : RegRow} {i : Nat} (h : d.reaches r i) (m : Mark) (eff : Dev → Dev × Nat) :
    d.hostRead m r i eff = (eff d).1.emit (.reply false (eff d).2) := by
  rw [Dev.hostRead, if_neg (not_not_intro h.1), Dev.checkPower_of_reaches h]

theorem exec_timeNowRead_of_reaches {s : State} (h : s.dev.reaches rowTIME_NOW_NS 0) (m : Mark) :
    exec (.timeNowRead m) s = .next (s.ends (s.dev.timeNow.1.emit (.reply false s.dev.timeNow.2))) :=
  State.run_of_eq (Dev.hostRead_of_reaches h m Dev.timeNow)

theorem exec_capPopRead_of_reaches {s : State} {c : Fin 4} (h : s.dev.reaches rowTIME_CAP_NS c) (m : Mark) :
    exec (.capPopRead m c) s = .next (s.ends ((s.dev.capPop c).1.emit (.reply false (s.dev.capPop c).2))) :=
  State.run_of_eq (Dev.hostRead_of_reaches h m (fun d => d.capPop c))

/-! ### The registers of fabric time (R423) -/

section
variable {d : Dev} {v : Nat}

theorem Dev.offsetWrite_of_open (h : d.offsetOpen = true) :
    d.offsetWrite v = d.afterStep ((d.set .h_frac_valid 0 0).timeStep (sgn 96 ((v * 2 ^ 32 + (if d.flag .h_frac_valid = true then
      d.get .h_frac_stage else d.get .time_offset_frac_offset_frac)) + 2 ^ 96 - d.offset32)) []) := by
  rw [Dev.offsetWrite, if_neg (by simp [h])]

theorem Dev.offsetWrite_of_shut (h : d.offsetOpen = false) : d.offsetWrite v = d.raise .TIME_SET_BUSY d.pathDevice := by
  rw [Dev.offsetWrite, if_pos (by simp [h]), Dev.setBusy]

theorem Dev.offset32_set {f : Fld} (hf : f ∉ fabricFlds) (i x : Nat) : (d.set f i x).offset32 = d.offset32 := by
  have hne (g : Fld) (hg : g ∈ fabricFlds := by decide) : g.ctorIdx ≠ f.ctorIdx :=
    fun hc => hf (by rwa [← Fld.ctorIdx_inj hc])
  rw [Dev.offset32, d.get_set_fld (hne _), d.get_set_fld (hne _), Dev.offset32]

/-- Without a staged fraction the offset takes the value written and keeps its fraction. -/
theorem Dev.offsetWrite_gets (hopen : d.offsetOpen = true) (hstaged : d.flag .h_frac_valid = false) (hold : d.offset32 < 2 ^ 96)
    (hfrac : d.get .time_offset_frac_offset_frac < 2 ^ 32) (hv : v < 2 ^ 64) :
    (d.offsetWrite v).get .time_offset_ns_offset_ns = v ∧
      (d.offsetWrite v).get .time_offset_frac_offset_frac = d.get .time_offset_frac_offset_frac := by
  have hset : (d.set .h_frac_valid 0 0).offset32 = d.offset32 := Dev.offset32_set (by decide) 0 0
  rw [Dev.offsetWrite_of_open hopen, if_neg (by simp [hstaged]), ← hset]
  exact Dev.offset_of_step (by rwa [hset]) hv hfrac d []

theorem Dev.fracWrite_of_open (h : d.offsetOpen = true) :
    d.fracWrite v = d.setMany [(.h_frac_stage, 0, slice v 0 32), (.h_frac_valid, 0, 1)] := if_pos h

theorem Dev.fracWrite_of_shut (h : d.offsetOpen = false) : d.fracWrite v = d.raise .TIME_SET_BUSY d.pathDevice :=
  if_neg (by simp [h])

theorem Dev.rateWrite_of_free (h : d.tstate = tsFREE) : d.rateWrite v = d.putRate (sgn 48 v) [] := if_pos h

theorem Dev.rateWrite_of_servo (h : d.tstate ≠ tsFREE) : d.rateWrite v = d.raise .TIME_SET_BUSY d.pathDevice := if_neg h
end

/-! ### Triggers (R413) -/

/-- The fields of TIME_TRIG_CTRL. -/
def trigCtrlFlds : List Fld :=
  [.time_trig_ctrl_count, .time_trig_ctrl_remaining, .time_trig_ctrl_late, .time_trig_ctrl_polarity, .time_trig_ctrl_enable]

section
variable {d : Dev} {k v : Nat} {bad : List Nat}

theorem Dev.trigArm_confined (h : ¬ d.badPulse k) : d.Confined id (.h_trig_next :: trigCtrlFlds) (d.trigArm k).1 := by
  rw [Dev.trigArm, if_neg h]
  exact .after (.ite (Dev.set_confined _ (by decide) ..) (.refl _)) (d.setMany_confined _ (by simp [trigCtrlFlds]))

/-- A trigger that is armed is enabled, with its count remaining and its first pulse next. -/
theorem Dev.trigArm_gets (h : ¬ d.badPulse k) :
    (d.trigArm k).1.get .time_trig_ctrl_enable k = 1 ∧
      (d.trigArm k).1.get .time_trig_ctrl_count k = d.get .time_trig_ctrl_count k ∧
      (d.trigArm k).1.get .time_trig_ctrl_remaining k = d.get .time_trig_ctrl_count k % 2 ^ 16 ∧
      (d.trigArm k).1.get .h_trig_next k = d.trigFirst k % 2 ^ 64 := by
  have hlate (e : Dev) (c : Prop) [Decidable c] {f : Fld} (hf : f ∉ [Fld.time_trig_ctrl_late]) :
      (if c then e.set .time_trig_ctrl_late k 1 else e).get f k = e.get f k :=
    (Dev.Confined.ite (view := id) (e.set_confined (by decide) k 1) (.refl e)).fields f k hf
  rw [Dev.trigArm, if_neg h]
  dsimp only
  rw [hlate _ _ (by decide), hlate _ _ (by decide), hlate _ _ (by decide), hlate _ _ (by decide)]
  simp (disch := decide) only [Dev.setMany_cons, Dev.setMany_nil, Dev.get_set_fld, Dev.get_set_same]
  exact ⟨rfl, trivial, rfl, rfl⟩

theorem Dev.trigCtrl_confined : d.Confined id trigCtrlFlds (d.writeFields rowTIME_TRIG_CTRL k v bad) :=
  Dev.writeFields_confined (by decide) ..

/-- The first pulse depends on no field of TIME_TRIG_CTRL. -/
theorem Dev.trigFirst_writeFields : (d.writeFields rowTIME_TRIG_CTRL k v bad).trigFirst k = d.trigFirst k := by
  have hkept := (Dev.trigCtrl_confined (d := d) (k := k) (v := v) (bad := bad)).fields
  have htime : (d.writeFields rowTIME_TRIG_CTRL k v bad).fabricNs = d.fabricNs :=
    congrArg (· / 2 ^ 32) (hkept.fabric32 (by decide))
  unfold Dev.trigFirst
  dsimp only
  rw [htime, hkept .time_trig_start_start_ns k (by decide), hkept .time_trig_period_period_ns k (by decide)]

theorem trigCtrl_mem_regsTime : rowTIME_TRIG_CTRL ∈ regsTime :=
  List.mem_append_right _ (.tail _ (.tail _ (.tail _ (.head _))))

/-- A trigger that was off is armed as the word says. -/
theorem Dev.trigCtrlWrite_armed (hoff : d.flag .time_trig_ctrl_enable k = false) (hv : bit v 0 = true)
    (hpulse : ¬ d.badPulse k) :
    ((d.trigCtrlWrite k v []).get .time_trig_ctrl_enable k = 1 ∧
      (d.trigCtrlWrite k v []).get .time_trig_ctrl_count k = slice v 48 16 ∧
      (d.trigCtrlWrite k v []).get .time_trig_ctrl_remaining k = slice v 48 16 ∧
      (d.trigCtrlWrite k v []).get .h_trig_next k = d.trigFirst k % 2 ^ 64) ∧
    d.Confined id (.h_trig_next :: trigCtrlFlds) (d.trigCtrlWrite k v []) := by
  have hcount : (d.writeFields rowTIME_TRIG_CTRL k v [0]).get .time_trig_ctrl_count k = slice v 48 16 :=
    d.writeFields_get_rw k v (regsTime_subset trigCtrl_mem_regsTime)
      (f := { fld := .time_trig_ctrl_count, lo := 48, w := 16, acc := .rw }) (.head _) rfl rfl rfl rfl
  have hpulse' := mt (d.badPulse_writeFields k v [0]).mp hpulse
  have hslice : slice v 48 16 % 2 ^ 16 = slice v 48 16 := Nat.mod_mod ..
  rw [Dev.trigCtrlWrite_of_off hoff hv]
  obtain ⟨henable, hkept, hleft, hnext⟩ := Dev.trigArm_gets hpulse'
  rw [hcount] at hkept hleft
  rw [Dev.trigFirst_writeFields] at hnext
  exact ⟨⟨henable, hkept, hleft.trans hslice, hnext⟩,
    (Dev.trigArm_confined hpulse').after (Dev.trigCtrl_confined.mono (List.subset_cons_self _ _))⟩

/-- A pulse that is not lawful leaves the trigger disabled, with its record. -/
theorem Dev.trigCtrlWrite_refused (hoff : d.flag .time_trig_ctrl_enable k = false) (hv : bit v 0 = true)
    (hpulse : d.badPulse k) :
    d.trigCtrlWrite k v bad = ((d.writeFields rowTIME_TRIG_CTRL k v (0 :: bad)).set .time_trig_ctrl_enable k 0).raise
      .TIME_TRIG_REFUSED (d.pathDevice ucTIME_IO k) := by
  have hpath : (d.writeFields rowTIME_TRIG_CTRL k v (0 :: bad)).pathDevice ucTIME_IO k = d.pathDevice ucTIME_IO k :=
    Dev.trigCtrl_confined.fields.pathDevice (by decide) ..
  rw [Dev.trigCtrlWrite_of_off hoff hv, Dev.trigArm, if_pos ((d.badPulse_writeFields k v _).mpr hpulse), hpath]

theorem Dev.trigCtrlWrite_stops (hon : d.flag .time_trig_ctrl_enable k = true) (hv : bit v 0 = false) :
    d.trigCtrlWrite k v bad = (d.writeFields rowTIME_TRIG_CTRL k v (0 :: bad)).trigStop k := by
  simp [Dev.trigCtrlWrite, hon, hv]

theorem Dev.trigEdge_of_running (hon : d.flag .time_trig_ctrl_enable k = true) (hruns : d.flag .h_trig_on k = true) :
    d.trigEdge k = d.trigPin k false := by
  rw [Dev.trigEdge, if_neg (by simp [hon]), if_pos hruns]

/-- The single pulse of a trigger without period and count. -/
theorem Dev.trigEdge_of_single (hon : d.flag .time_trig_ctrl_enable k = true) (hidle : d.flag .h_trig_on k = false)
    (hperiod : d.get .time_trig_period_period_ns k = 0) (hnext : d.get .h_trig_next k = 0)
    (hcount : d.get .time_trig_ctrl_count k = 0) :
    d.trigEdge k = (d.set .h_trig_next k 1).trigPin k true := by
  simp [Dev.trigEdge, hon, hidle, hperiod, hnext, hcount]
end

/-! ### Captures (R414) -/

/-- An edge of a kind that is captured, the first of its input, joins a FIFO that has room. -/
theorem Dev.capEdge_of_first {d : Dev} {c quarter : Nat} {falling : Bool} (hon : d.flag .time_cap_info_enable c = true)
    (hkind : d.bitOf .time_cap_info_edge_sel c (b2n falling) = true) (hfirst : d.get .h_cap_last c = 0)
    (hroom : (d.cap c).length < 16) :
    d.capEdge c falling quarter = { d.set .h_cap_last c ((d.fabric32 / 2 ^ 30 + quarter) + 1) with
      caps := d.caps.set c [] (d.cap c ++ [((d.fabric32 / 2 ^ 30 + quarter), falling)]) } := by
  have hcap (x : Nat) : (d.set .h_cap_last c x).cap c = d.cap c := rfl
  rw [Dev.capEdge, if_neg (by simp [hon, hkind])]
  dsimp only
  rw [if_neg (by simp [hfirst]), hcap, if_neg (by omega), d.set_caps]

/-- Settles O43: each command passes its checks and does what the lemma on its case says. -/
theorem timeRegistersAndPins : Obligations.TimeRegistersAndPins := by
  unfold Obligations.TimeRegistersAndPins
  intro s
  refine ⟨fun m h => exec_timeNowRead_of_reaches h m, fun m v h hopen => ?offset,
    fun m v h ⟨hopen, hstaged, hold, hfrac⟩ => ?offsetReads, fun m v h hshut => ?offsetBusy, fun m v h hopen => ?frac,
    fun m v h hshut => ?fracBusy, fun m v h hfree => ?rate, fun m v h hservo => ?rateBusy, fun hon => State.run_of_eq (if_pos hon),
    fun m k v h ⟨hoff, hv, hpulse⟩ => ?armed, fun m k v h ⟨hoff, hv, hpulse⟩ => ?refused, fun m k v h ⟨hon, hv⟩ => ?stopped,
    fun k ⟨hon, hruns⟩ => State.run_of_eq (Dev.trigEdge_of_running hon hruns),
    fun k ⟨hon, hidle, hperiod, hnext, hcount⟩ => State.run_of_eq (Dev.trigEdge_of_single hon hidle hperiod hnext hcount),
    fun c falling quarter ⟨hon, hkind, hfirst, hroom⟩ => State.run_of_eq (Dev.capEdge_of_first hon hkind hfirst hroom),
    fun m c x r h hcap => ?popped⟩
  case offset => exact State.run_hostWrite_of_accepts rfl h (Dev.offsetWrite_of_open hopen)
  case offsetReads =>
    exact ⟨_, State.run_hostWrite_of_accepts rfl h rfl, Dev.offsetWrite_gets hopen hstaged hold hfrac v.isLt⟩
  case offsetBusy => exact State.run_hostWrite_of_accepts rfl h (Dev.offsetWrite_of_shut hshut)
  case frac => exact State.run_hostWrite_of_accepts rfl h (Dev.fracWrite_of_open hopen)
  case fracBusy => exact State.run_hostWrite_of_accepts rfl h (Dev.fracWrite_of_shut hshut)
  case rate => exact State.run_hostWrite_of_accepts rfl h (Dev.rateWrite_of_free hfree)
  case rateBusy => exact State.run_hostWrite_of_accepts rfl h (Dev.rateWrite_of_servo hservo)
  case armed =>
    obtain ⟨hgets, hconfined⟩ := Dev.trigCtrlWrite_armed hoff hv hpulse
    exact ⟨_, State.run_hostWrite_of_accepts rfl h rfl, hgets, (hconfined.mono (by decide)).fields, Dev.ok_rest hconfined.rest⟩
  case refused => exact State.run_hostWrite_of_accepts rfl h (Dev.trigCtrlWrite_refused hoff hv hpulse)
  case stopped => exact State.run_hostWrite_of_accepts rfl h (Dev.trigCtrlWrite_stops hon hv)
  case popped =>
    rw [exec_capPopRead_of_reaches h, Dev.capPop_cons hcap]

end Sys2Proof.Machine
end

section
/-! SUPPORT. Exchanges of time (R401 to R403, R409): a REQ that is sent, answered or lost, a RESP that is taken. -/

namespace Sys2Proof.Machine

/-! ### What a TIME frame taken from its output leaves in view -/

/-- The fields that change when a frame leaves an internal output (R156, R207). -/
def takenFlds : List Fld := creditFlds ++ countFlds

/-- Those, and the number of REQs counted in a second (R401). -/
def reqFlds : List Fld := .h_treq_n :: takenFlds

section
variable {view : Dev → Dev} (d : Dev)

theorem Dev.count_taken (b : Nat) (e : Ev) (n : Nat) (a : Attr) : d.Confined view takenFlds (d.count b e n a) :=
  (d.count_confined b e n a).mono (by decide)

theorem Dev.freeCredits_taken (n c k : Nat) : d.Confined view takenFlds (d.freeCredits n c k) := by
  unfold Dev.freeCredits Dev.reportFreed
  refine (Dev.set_confined _ (by decide) ..).after ((Dev.set_confined _ (by decide) ..).after (.ite (.refl d) ?_))
  exact (Dev.count_taken ..).after (d.set_confined (by decide) ..)

theorem Dev.releaseRef_taken (fid : Nat) : d.Confined Dev.lessFrames takenFlds (d.releaseRef fid) := by
  unfold Dev.releaseRef
  split
  · unfold Dev.freeFrame
    exact .ite (.after (.ite (Dev.freeCredits_taken ..) (.refl _)) (.same (.refl d) rfl rfl)) (.same (.refl d) rfl rfl)
  · exact .refl d

theorem Dev.takeInternal_taken (out : Nat) (f : Frame) : d.Confined Dev.lessFrames takenFlds (d.takeInternal out f) :=
  (Dev.releaseRef_taken ..).after (.same (.refl d) rfl rfl)
end

section
variable {d e : Dev} (h : d.Keeps e reqFlds)
include h

theorem Dev.Keeps.timeTail : e.timeTail = d.timeTail := by
  have hget (f : Fld) (hf : f ∉ reqFlds := by decide) : e.get f 0 = d.get f 0 := h f 0 hf
  have hstate : e.tstate = d.tstate := hget _
  have hown : e.ownGm = d.ownGm := by
    rw [Dev.ownGm, hget .sys_fabric_pos_hall, hget .sys_fabric_pos_device, Dev.ownGm]
  have hgm : e.gmId = d.gmId := by rw [Dev.gmId, hstate, hown, hget .time_status_gm_id, Dev.gmId]
  rw [Dev.timeTail, hstate, hgm, hget .time_status_steps_removed, hget .time_status_holdover_age, hget .time_status_degraded,
    Dev.timeTail]

theorem Dev.Keeps.timeHdr (n seq op : Nat) : e.timeHdr n seq op = d.timeHdr n seq op := by
  have hget (f : Fld) (hf : f ∉ reqFlds) (i : Nat) : e.get f i = d.get f i := h f i hf
  simp (disch := decide) only [Dev.timeHdr, Dev.plane, Dev.ownGeid, hget]

theorem Dev.Keeps.hasFeature (n ft : Nat) : e.hasFeature n ft = d.hasFeature n ft := by
  rw [Dev.hasFeature, Dev.bitOf, h _ _ (by decide), Dev.hasFeature, Dev.bitOf]

theorem Dev.Keeps.tport (k : Nat) : e.tport k = d.tport k := by
  rw [Dev.tport, h _ _ (by decide), h _ _ (by decide), Dev.tport]

theorem Dev.Keeps.tportUp (k : Nat) : e.tportUp k = d.tportUp k := by
  have hget (f : Fld) (hf : f ∉ reqFlds) (i : Nat) : e.get f i = d.get f i := h f i hf
  simp (disch := decide) only [Dev.tportUp, Dev.tportEn, Dev.flag, Dev.admitted, Dev.linkStatus, Dev.fenced, h.tport,
    h.hasFeature, hget]
end

/-! ### A REQ that is sent, and one that is lost (R401, R403) -/

theorem Dev.timeHdr_length (d : Dev) (n seq op : Nat) : (d.timeHdr n seq op).length = 32 := rfl

/-- With room at its input a frame is placed. -/
theorem Dev.originateAt_of_room {d : Dev} {inp : Nat} {x : Hdr} (h : d.inputFits inp (cellCost x.length) = true) (n : Nat)
    (p : List Nat) : ∃ e, d.originateAt inp n x p = some e := by
  rw [Dev.originateAt, if_neg (by simp [h])]
  exact ⟨_, rfl⟩

theorem Dev.timeReq_of_room {d : Dev} {k : Nat} (hservo : d.flag .time_ctrl_servo_en = true) (hup : d.tportUp k = true)
    (hroom : d.inputFits 515 (cellCost 32) = true) :
    d.timeReq k = ((d.originateAt 515 (d.tport k) (d.timeHdr (d.tport k) ((d.get .h_treq_seq k + 1) % 2 ^ 20) 1)
      (List.replicate 24 0 ++ d.timeTail)).getD d).setMany
        [(.h_treq_seq, k, (d.get .h_treq_seq k + 1) % 2 ^ 20), (.h_treq_out, k, 1)] := by
  obtain ⟨e, he⟩ := Dev.originateAt_of_room (x := d.timeHdr (d.tport k) ((d.get .h_treq_seq k + 1) % 2 ^ 20) 1)
    (by rwa [d.timeHdr_length]) (d.tport k) (List.replicate 24 0 ++ d.timeTail)
  rw [Dev.timeReq, if_neg (by simp [hservo, hup])]
  simp only [he, Option.getD_some]

theorem Dev.timeLost_of_out {d : Dev} {k : Nat} (h : d.flag .h_treq_out k = true) :
    d.timeLost k = (((d.set .h_treq_out k 0).count (d.tport k) .TIME_EX_LOST).incrSat .time_meas_lost_run k).timeCheck
      [.h (d.tport k)] := by
  rw [Dev.timeLost, if_neg (by simp [h]), Dev.reqDropped, if_pos h]

/-! ### A REQ that arrives (R401, R402) -/

/-- A REQ at the head in the second counted so far: excess, counted alone, or answered where its port answers. -/
theorem Dev.timeAnswer_of_head {d : Dev} {f : Frame} {n : Nat} (hhead : d.timeHead 1 = some (f, n))
    (hsec : d.get .h_treq_sec n = d.localNs / 1000000000) :
    d.timeAnswer =
      if 2048 ≤ d.get .h_treq_n n then (d.takeInternal 515 f).count n .TIME_REQ_EXCESS 1 { src := some f.hdr.src }
      else if !(d.role n == roleDOWN || d.role n == roleAXIS || d.role n == roleSERVICE) || !d.hasFeature n ftTIME then
        (d.takeInternal 515 f).incr .h_treq_n n
      else (((d.takeInternal 515 f).incr .h_treq_n n).originateAt 515 n (d.timeHdr n f.hdr.reqid 2)
        (f.payload.take 8 ++ beBytes 8 f.stamp ++ List.replicate 8 0 ++ d.timeTail)).getD d := by
  have htaken : d.Keeps (d.takeInternal 515 f) takenFlds := (d.takeInternal_taken 515 f).fields
  have hcounted : d.Keeps ((d.takeInternal 515 f).incr .h_treq_n n) reqFlds :=
    ((Dev.set_confined _ (by decide) ..).after ((d.takeInternal_taken 515 f).mono (List.subset_cons_self _ _))).fields
  have hsame : (d.takeInternal 515 f).get .h_treq_sec n = (d.takeInternal 515 f).localNs / 1000000000 := by
    rw [htaken _ _ (by decide), hsec, Dev.localNs, Dev.localNs, htaken _ _ (by decide)]
  have hnumber : (d.takeInternal 515 f).get .h_treq_n n = d.get .h_treq_n n := htaken _ _ (by decide)
  unfold Dev.timeAnswer
  rw [hhead]
  dsimp only
  rw [if_pos hsame, hnumber]
  rw [hcounted.timeTail, hcounted.timeHdr, hcounted.hasFeature,
    show ((d.takeInternal 515 f).incr .h_treq_n n).role n = d.role n from hcounted _ _ (by decide)]

/-! ### A RESP that arrives (R403) -/

/-- RESP `f` on port `n` answers the REQ that parent port or alternate `j` awaits. -/
abbrev Dev.respMatches (d : Dev) (n : Nat) (f : Frame) (j : Nat) : Bool :=
  d.tport j == n && d.tportUp j && d.flag .h_treq_out j && d.get .h_treq_seq j == f.hdr.reqid

/-- The RESP's leaving its output does not change what it matches. -/
theorem Dev.respMatches_takeInternal (d : Dev) (n : Nat) (f : Frame) :
    (d.takeInternal 515 f).respMatches n f = d.respMatches n f := by
  have htaken := ((d.takeInternal_taken 515 f).mono (List.subset_cons_self _ _ : takenFlds ⊆ reqFlds)).fields
  funext j
  rw [Dev.respMatches, htaken.tport, htaken.tportUp, Dev.flag, htaken _ _ (by decide), htaken _ _ (by decide), ← Dev.flag]

section
variable {d : Dev} {f : Frame} {n : Nat} (hhead : d.timeHead 2 = some (f, n))
include hhead

theorem Dev.timeResp_of_match {k : Nat} (hfirst : firstBelow 2 (d.respMatches n f) = some k) :
    d.timeResp = (d.takeInternal 515 f).respTaken k n f := by
  have hfound := (congrArg (firstBelow 2) (d.respMatches_takeInternal n f)).trans hfirst
  unfold Dev.timeResp
  rw [hhead]
  dsimp only
  split
  next j hj =>
    obtain rfl : j = k := Option.some.inj (hj.symm.trans hfound)
    rfl
  next hj => exact absurd (hj.symm.trans hfound) (by simp)

theorem Dev.timeResp_of_none (hfirst : firstBelow 2 (d.respMatches n f) = none) : d.timeResp = d.takeInternal 515 f := by
  have hfound := (congrArg (firstBelow 2) (d.respMatches_takeInternal n f)).trans hfirst
  unfold Dev.timeResp
  rw [hhead]
  dsimp only
  split
  next j hj => exact absurd (hj.symm.trans hfound) (by simp)
  next => rfl
end

end Sys2Proof.Machine
end

section
/-! SUPPORT. The parents, the states of the time unit, PPS and the reference (R405 to R411), and what
TimeExchangesAndStates states. -/

namespace Sys2Proof.Machine

/-! ### A write of TIME_PARENT (R408) -/

/-- The block without the measured delays, the run number and what has been sent. -/
def Dev.lessExchanges (d : Dev) : Dev := { d with timeDs := {}, runs := 0, sent := [] }

theorem Dev.Confined.rest_lessExchanges {own : List Fld} {d e : Dev} (h : d.Confined Dev.lessExchanges own e) :
    e.rest = ({ d with timeDs := e.timeDs, runs := e.runs, sent := e.sent } : Dev).rest :=
  calc e.rest
    _ = { e.rest.lessExchanges with timeDs := e.timeDs, runs := e.runs, sent := e.sent } := rfl
    _ = { d.rest.lessExchanges with timeDs := e.timeDs, runs := e.runs, sent := e.sent } := by rw [h.rest]
    _ = ({ d with timeDs := e.timeDs, runs := e.runs, sent := e.sent } : Dev).rest := rfl

/-- The fields the time unit writes when a parent port is forgotten. -/
def forgetFlds : List Fld := .h_tp_valid :: clockFlds

/-- The fields of TIME_PARENT (R424). -/
def parentFlds : List Fld :=
  [.time_parent_parent_port, .time_parent_parent_en, .time_parent_alt_port, .time_parent_alt_en, .time_parent_alt_wait_ms]

section
variable (d : Dev) (v : Nat) (bad : List Nat)

theorem Dev.timeDs_confined {own : List Fld} (t : SMap (List Int)) : d.Confined Dev.lessExchanges own { d with timeDs := t } :=
  .same (.refl d) rfl rfl

theorem Dev.tForget_confined (k : Nat) : d.Confined Dev.lessExchanges forgetFlds (d.tForget k) :=
  (Dev.timeDs_confined _ _).after (d.setMany_confined _ (by simp [forgetFlds, timeFlds]))

theorem Dev.toState_forget (new : Nat) : d.Confined Dev.lessExchanges forgetFlds (d.toState new) :=
  (d.toState_clock new []).mono (List.subset_cons_self _ _)

/-- Before and after the word is stored, a write of TIME_PARENT is the time unit's own work. -/
theorem Dev.parentWrite_stages : ∃ g, d.Confined id clockFlds g ∧
    (g.writeFields rowTIME_PARENT 0 v bad).Confined Dev.lessExchanges forgetFlds (d.parentWrite v bad) := by
  unfold Dev.parentWrite
  extract_lets runs d' moved sel leave left dropped written forgotten chosen
  have hleft : d.Confined id clockFlds left :=
    .ite ((Dev.toState_clock ..).after (d.set_confined (by decide) ..)) (.refl d)
  have hdropped : left.Confined id clockFlds dropped :=
    .foldl (fun g k => .ite (g.reqDropped_clock k) (.refl g)) _ left
  have hforgotten : written.Confined Dev.lessExchanges forgetFlds forgotten :=
    .foldl (fun g k => .ite (g.tForget_confined k) (.refl g)) _ written
  have hchosen : forgotten.Confined Dev.lessExchanges forgetFlds chosen :=
    .ite (.ite (.ite ((Dev.set_confined _ (by decide) ..).after (forgotten.toState_forget _)) (.refl _))
      (forgotten.set_confined (by decide) ..)) (.refl _)
  exact ⟨dropped, hdropped.after hleft,
    .after ((chosen.timeCheck_clock []).mono (List.subset_cons_self _ _)) (hchosen.after hforgotten)⟩

theorem Dev.parentWrite_confined : d.Confined Dev.lessExchanges (forgetFlds ++ parentFlds) (d.parentWrite v bad) := by
  obtain ⟨g, hbefore, hafter⟩ := d.parentWrite_stages v bad
  have hstored : g.Confined id parentFlds (g.writeFields rowTIME_PARENT 0 v bad) := Dev.writeFields_confined (by decide) ..
  exact (hafter.mono (by decide)).after ((hstored.hide.mono (by decide)).after (hbefore.hide.mono (by decide)))

theorem timeParent_mem_regsTime : rowTIME_PARENT ∈ regsTime :=
  List.mem_append_left _ (List.mem_of_getElem (i := 9) (h := by decide) rfl)

/-- A write of TIME_PARENT leaves its fields in force. -/
theorem Dev.parentWrite_gets :
    (d.parentWrite v []).get .time_parent_parent_port 0 = slice v 0 9 ∧
      (d.parentWrite v []).get .time_parent_parent_en 0 = slice v 9 1 ∧
      (d.parentWrite v []).get .time_parent_alt_port 0 = slice v 16 9 ∧
      (d.parentWrite v []).get .time_parent_alt_en 0 = slice v 25 1 ∧
      (d.parentWrite v []).get .time_parent_alt_wait_ms 0 = slice v 32 16 := by
  obtain ⟨g, -, hafter⟩ := d.parentWrite_stages v []
  have hrow := regsTime_subset timeParent_mem_regsTime
  have hfield {f : FieldRow} (hf : f ∈ rowTIME_PARENT.fields) (hacc : f.acc = .rw) (hlive : f.live = false)
      (hone : f.nsub = 1) (hown : f.fld ∉ forgetFlds) : (d.parentWrite v []).get f.fld 0 = slice v f.lo f.w :=
    (hafter.fields _ _ hown).trans (g.writeFields_get_rw 0 v hrow hf hacc hlive hone rfl)
  refine ⟨hfield (f := { fld := .time_parent_parent_port, lo := 0, w := 9, acc := .rw }) ?_ rfl rfl rfl (by decide),
    hfield (f := { fld := .time_parent_parent_en, lo := 9, w := 1, acc := .rw }) ?_ rfl rfl rfl (by decide),
    hfield (f := { fld := .time_parent_alt_port, lo := 16, w := 9, acc := .rw }) ?_ rfl rfl rfl (by decide),
    hfield (f := { fld := .time_parent_alt_en, lo := 25, w := 1, acc := .rw }) ?_ rfl rfl rfl (by decide),
    hfield (f := { fld := .time_parent_alt_wait_ms, lo := 32, w := 16, acc := .rw }) ?_ rfl rfl rfl (by decide)⟩
  all_goals simp [rowTIME_PARENT]

/-! ### A write of TIME_CTRL (R405, R410, R411) -/

/-- The fields of TIME_CTRL (R420), and the reference in use. -/
def timeCtrlFlds : List Fld :=
  [.time_ctrl_tc_en, .time_ctrl_pps_out_en, .time_ctrl_ref_sel, .time_ctrl_step_en, .time_ctrl_gm_en, .time_ctrl_servo_en,
   .h_ref_ext]

/-- The word of TIME_CTRL stored, with its reference in use. -/
def Dev.timeCtrlStored : Dev :=
  (d.writeFields rowTIME_CTRL 0 v bad).set .h_ref_ext 0 ((d.writeFields rowTIME_CTRL 0 v bad).get .time_ctrl_ref_sel)

/-- After the word is stored, a write of TIME_CTRL is the time unit's own work. -/
theorem Dev.timeCtrlWrite_clock : (d.timeCtrlStored v bad).Confined id clockFlds (d.timeCtrlWrite v bad) := by
  rw [Dev.timeCtrlWrite, ← Dev.timeCtrlStored]
  exact (Dev.timeCheck_clock _ []).after
    (.ite (Dev.toState_clock ..) (.ite (Dev.toState_clock ..) (.ite (Dev.toState_clock ..) (.refl _))))

theorem Dev.timeCtrlWrite_confined : d.Confined id (clockFlds ++ timeCtrlFlds) (d.timeCtrlWrite v bad) := by
  have hstored : d.Confined id timeCtrlFlds (d.timeCtrlStored v bad) :=
    (Dev.set_confined _ (by decide) ..).after (Dev.writeFields_confined (by decide) ..)
  exact ((d.timeCtrlWrite_clock v bad).mono (by decide)).after (hstored.mono (by decide))

/-- A write of TIME_CTRL leaves its fields in force. -/
theorem Dev.timeCtrlWrite_gets :
    (d.timeCtrlWrite v []).get .time_ctrl_servo_en 0 = slice v 0 1 ∧
      (d.timeCtrlWrite v []).get .time_ctrl_gm_en 0 = slice v 1 1 ∧
      (d.timeCtrlWrite v []).get .time_ctrl_step_en 0 = slice v 2 1 ∧
      (d.timeCtrlWrite v []).get .h_ref_ext 0 = slice v 3 1 ∧
      (d.timeCtrlWrite v []).get .time_ctrl_pps_out_en 0 = slice v 4 1 := by
  have hafter := (d.timeCtrlWrite_clock v []).fields
  have hrow : rowTIME_CTRL ∈ regTable := regsTime_subset (List.mem_append_left _ (.head _))
  have hword {f : FieldRow} (hf : f ∈ rowTIME_CTRL.fields) (hacc : f.acc = .rw) (hlive : f.live = false) (hone : f.nsub = 1) :
      (d.writeFields rowTIME_CTRL 0 v []).get f.fld 0 = slice v f.lo f.w :=
    d.writeFields_get_rw 0 v hrow hf hacc hlive hone rfl
  have hfield {f : FieldRow} (hf : f ∈ rowTIME_CTRL.fields) (hacc : f.acc = .rw) (hlive : f.live = false) (hone : f.nsub = 1)
      (hown : f.fld ∉ clockFlds) (href : f.fld.ctorIdx ≠ Fld.h_ref_ext.ctorIdx) :
      (d.timeCtrlWrite v []).get f.fld 0 = slice v f.lo f.w :=
    (hafter _ _ hown).trans ((Dev.get_set_fld _ href 0 0 _).trans (hword hf hacc hlive hone))
  have href : (d.timeCtrlWrite v []).get .h_ref_ext 0 = slice v 3 1 := by
    rw [hafter _ _ (by decide), Dev.timeCtrlStored, Dev.get_set_same,
      hword (f := { fld := .time_ctrl_ref_sel, lo := 3, w := 1, acc := .rw }) (by simp [rowTIME_CTRL]) rfl rfl rfl]
    exact Nat.mod_mod ..
  refine ⟨hfield (f := { fld := .time_ctrl_servo_en, lo := 0, w := 1, acc := .rw }) ?_ rfl rfl rfl (by decide) (by decide),
    hfield (f := { fld := .time_ctrl_gm_en, lo := 1, w := 1, acc := .rw }) ?_ rfl rfl rfl (by decide) (by decide),
    hfield (f := { fld := .time_ctrl_step_en, lo := 2, w := 1, acc := .rw }) ?_ rfl rfl rfl (by decide) (by decide), href,
    hfield (f := { fld := .time_ctrl_pps_out_en, lo := 4, w := 1, acc := .rw }) ?_ rfl rfl rfl (by decide) (by decide)⟩
  all_goals simp [rowTIME_CTRL]
end

/-! ### Edges of PPS_IN (R405, R410) -/

section
variable {d : Dev} {quarter : Nat} (hgm : d.flag .time_ctrl_gm_en = true)

theorem Dev.tstate_set {f : Fld} (hf : Fld.time_status_time_state.ctorIdx ≠ f.ctorIdx) (i v : Nat) :
    (d.set f i v).tstate = d.tstate := d.get_set_fld hf i 0 v

include hgm

/-- A grandmaster shows the error of an edge, and follows it unless it is more than 1 us off. -/
theorem Dev.ppsEdge_of_grandmaster (hstate : d.tstate = tsGRANDMASTER) :
    d.ppsEdge quarter =
      if 1000 * 2 ^ 32 < (d.ppsErr quarter).natAbs then
        (d.set .time_pps_pps_err 0 (wrap 32 (ratioRound (d.ppsErr quarter) (2 ^ 24)))).count blkDevice .TIME_PPS_REJECT
      else ((d.set .time_pps_pps_err 0 (wrap 32 (ratioRound (d.ppsErr quarter) (2 ^ 24)))).set .time_status_pps_ok 0 1).servo
        (-(ratioFree (d.ppsErr quarter * oUnit) (2 ^ 32))) true [] := by
  rw [Dev.ppsEdge, if_neg (by simp [hgm])]
  exact if_pos ((Dev.tstate_set (by decide) ..).trans hstate)

/-- An edge outside GRANDMASTER, and outside a HOLDOVER entered from there, is the first. -/
theorem Dev.ppsEdge_of_first (hstate : d.tstate ≠ tsGRANDMASTER)
    (hhold : ¬(d.tstate = tsHOLDOVER ∧ d.flag .h_gm_hold = true)) :
    d.ppsEdge quarter =
      (d.set .time_pps_pps_err 0 (wrap 32 (ratioRound (d.ppsErr quarter) (2 ^ 24)))).ppsFirst (d.ppsErr quarter) := by
  have hsame (v : Nat) : (d.set .time_pps_pps_err 0 v).tstate = d.tstate := Dev.tstate_set (by decide) ..
  have hflag (v : Nat) : (d.set .time_pps_pps_err 0 v).flag .h_gm_hold = d.flag .h_gm_hold :=
    congrArg (· != 0) (d.get_set_fld (by decide) 0 0 v)
  rw [Dev.ppsEdge, if_neg (by simp [hgm])]
  dsimp only
  rw [if_neg (by rwa [hsame]), if_neg (by rwa [hsame, hflag])]
end

/-- Settles O42: each command does what the lemma on its case says. -/
theorem timeExchangesAndStates : Obligations.TimeExchangesAndStates := by
  unfold Obligations.TimeExchangesAndStates
  intro s
  refine ⟨fun alt ⟨hservo, hup, hroom⟩ => State.runX_of_eq (Dev.timeReq_of_room hservo hup hroom),
    fun f n ⟨hhead, hsec, hfew⟩ ⟨hrole, hagreed, hroom⟩ => ?answered, fun f n ⟨hhead, hsec, hmany⟩ => ?excess,
    fun f n k hhead hfirst => ?matched, fun f n hhead hnone => ?unmatched,
    fun alt hout => State.runX_of_eq (Dev.timeLost_of_out hout), fun halt => State.runX_of_eq (if_pos halt),
    fun m v h => ?parent, fun m v h => ?ctrl, fun hstate => State.runX_of_eq (if_pos hstate),
    fun quarter ⟨hgm, hstate, hfar⟩ => ?rejected, fun quarter ⟨hgm, hstate, hnear⟩ => ?followed,
    fun quarter ⟨hgm, hstate, hhold⟩ => State.runX_of_eq (Dev.ppsEdge_of_first hgm hstate hhold),
    fun hstate => ?lost, fun hstate => ?quiet, fun href => State.run_of_eq (if_pos href)⟩
  case answered =>
    refine State.runX_of_eq ((Dev.timeAnswer_of_head hhead hsec).trans ?_)
    rw [if_neg (by omega), if_neg ?_]
    rcases hrole with hdown | haxis | hservice
    · simp [hdown, hagreed]
    · simp [haxis, hagreed]
    · simp [hservice, hagreed]
  case excess => exact State.runX_of_eq ((Dev.timeAnswer_of_head hhead hsec).trans (if_pos hmany))
  case matched => exact State.runX_of_eq (congrArg s.dev.afterStep (Dev.timeResp_of_match hhead hfirst))
  case unmatched => exact State.runX_of_eq (congrArg s.dev.afterStep (Dev.timeResp_of_none hhead hnone))
  case parent =>
    have hgets := s.dev.parentWrite_gets v.toNat
    have hconfined := s.dev.parentWrite_confined v.toNat []
    generalize he : s.dev.parentWrite v.toNat [] = e at hgets hconfined
    have hanswered : s.dev.Confined Dev.lessExchanges (forgetFlds ++ parentFlds) e.ok := .same hconfined rfl rfl
    exact ⟨e.ok, State.runX_hostWrite_of_accepts rfl h he, hgets, (hanswered.mono (by decide)).fields,
      hanswered.rest_lessExchanges⟩
  case ctrl =>
    have hgets := s.dev.timeCtrlWrite_gets v.toNat
    have hconfined := s.dev.timeCtrlWrite_confined v.toNat []
    generalize he : s.dev.timeCtrlWrite v.toNat [] = e at hgets hconfined
    exact ⟨e.ok, State.runX_hostWrite_of_accepts rfl h he, hgets, (hconfined.mono (by decide)).fields,
      Dev.ok_rest hconfined.rest⟩
  case rejected => exact State.runX_of_eq ((Dev.ppsEdge_of_grandmaster hgm hstate).trans (if_pos hfar))
  case followed =>
    exact State.runX_of_eq ((Dev.ppsEdge_of_grandmaster hgm hstate).trans (if_neg (Nat.not_lt.mpr hnear)))
  case lost =>
    have hpath : (s.dev.set .time_status_pps_ok 0 0).pathDevice = s.dev.pathDevice :=
      (s.dev.set_confined (view := id) (List.mem_singleton_self _) 0 0).fields.pathDevice (by decide) ..
    refine State.runX_of_eq ?_
    dsimp only
    rw [if_pos ((Dev.tstate_set (by decide) ..).trans hstate), hpath]
  case quiet => exact State.runX_of_eq (if_neg (by rwa [Dev.tstate_set (by decide)]))

end Sys2Proof.Machine
end

section
/-! SUPPORT. Companion writes that get no further than the link or the check of privilege (R440, R548, R585, log entry 18). -/

namespace Sys2Proof.Machine

/-- A write that meets a link in training leaves it so. -/
theorem Dev.hostWrite_train {d : Dev} (h : d.get .h_kcl_train ≠ 0) (m : Mark) (r : RegRow) (i v : Nat)
    (eff : Nat → Nat → List Nat → Dev → Dev) : (d.hostWrite m r i v eff).get .h_kcl_train ≠ 0 := by
  rw [Dev.hostWrite, if_pos h, Dev.notAccepted]
  split <;> exact h

/-- A reset command whose write is not one of FABRIC on a trained link resets nothing. -/
theorem State.resetCmd_of_stopped {s : State} {m : Mark} (h : m = .observe ∨ s.dev.get .h_kcl_train ≠ 0) (level confirm : Nat)
    (f : State → State) : s.resetCmd m level confirm f =
      .next (s.endsX (s.dev.hostWrite m rowSYS_RESET_CMD 0 (level * 2 ^ 62 + confirm) (fun _ _ _ d => d))) := by
  have hlink (ht : s.dev.get .h_kcl_train ≠ 0) := Dev.hostWrite_train ht m rowSYS_RESET_CMD 0 (level * 2 ^ 62 + confirm) (fun _ _ _ d => d)
  unfold State.resetCmd
  generalize s.dev.hostWrite m rowSYS_RESET_CMD 0 (level * 2 ^ 62 + confirm) (fun _ _ _ d => d) = d at hlink ⊢
  dsimp only
  rw [if_neg]
  · rfl
  · simp only [Bool.and_eq_true, beq_iff_eq]
    rintro ⟨⟨⟨hmark, hzero⟩, -⟩, -⟩
    rcases h with rfl | htrain
    · cases hmark
    · exact hlink htrain hzero

/-- A companion write that does the same whatever its effect is, and is stopped before check 4, ends so whichever way it takes. -/
theorem Ends.of_stopped {c : Instr} {m : Mark} {r : RegRow} {i v : Nat} {s : State} {d : Dev} (hw : writeOf c = some (m, r, i, v))
    (hstop : m = .observe ∨ s.dev.get .h_kcl_train ≠ 0) (hdev : ∀ eff, s.dev.hostWrite m r i v eff = d)
    (hframes : d.fstate = s.dev.fstate) : Ends c s d := by
  rcases exec_of_writeOf hw s with ⟨eff, hrun⟩ | ⟨level, confirm, f, -, -, rfl, rfl, rfl, hexec⟩
  · have hends := hrun.ends (by rw [hdev]; exact hframes)
    rwa [hdev] at hends
  · exact .inr (by rw [hexec, State.resetCmd_of_stopped hstop, hdev])

/-- Settles O9: the write stops at the check of privilege, whichever way the command takes. -/
theorem writesNeedFabricPrivilege : Obligations.WritesNeedFabricPrivilege := by
  intro c r i v s hw ht
  exact .of_stopped hw (.inl rfl) (s.dev.hostWrite_observe r i v · ht) rfl

theorem Dev.notAccepted_eq (d : Dev) : d.notAccepted = if d.get .h_kcl_train = 2 then d.err else d := rfl

/-- Settles O12: a write that meets a link in training gets no further than the link. -/
theorem writesWhileLinkTrainsAreNotAccepted : Obligations.WritesWhileLinkTrainsAreNotAccepted := by
  intro c s hc ht
  rw [← Dev.notAccepted_eq]
  rcases hc with hwrite | ⟨m, size, a, v, rfl⟩
  · obtain ⟨⟨m, r, i, v⟩, hw⟩ := Option.isSome_iff_exists.mp hwrite
    refine .of_stopped hw (.inr ht) (fun eff => ?_) ?_
    · rw [Dev.hostWrite, if_pos ht]
    · rw [Dev.notAccepted]
      split <;> rfl
  · right
    change execRegWrite m size a v s = _
    rw [execRegWrite, if_pos ht]
    rfl

end Sys2Proof.Machine
end

section
/-! SUPPORT. What leaves the always-on island and the stores alone: domains that lose what they hold (R30), records that reach the
bank (R506, R510, R516). -/

namespace Sys2Proof.Machine

/-! ### A domain that is reset -/

/-- A field of the always-on island, or of the persistent store (R26). -/
def alwaysOn (g : Fld) : Bool :=
  regTable.all (fun r => r.fields.all (fun f => decide (g.ctorIdx ≠ f.fld.ctorIdx) || decide (r.dom = .fixed 0))) &&
    hiddenTable.all (fun h => decide (g.ctorIdx ≠ h.1.ctorIdx) || decide (h.2 = .fixed 0) || decide (h.2 = .fixed 99))

/-- Copies that lie all in one domain lie in no other. -/
theorem DomRule.not_within_fixed {j k : Nat} (hjk : j ≠ k) (core : Bool) (i : Nat) : (DomRule.fixed j).within k core i = false := by
  simp [DomRule.within, DomRule.domain, hjk]

theorem outsideDomain_of_alwaysOn {g : Fld} (hg : alwaysOn g = true) {k : Nat} (h0 : 0 ≠ k) (h99 : 99 ≠ k) (core : Bool) (i : Nat) :
    outsideDomain k core g i = true := by
  simp only [alwaysOn, Bool.and_eq_true, List.all_eq_true, Bool.or_eq_true, decide_eq_true_eq, or_assoc] at hg
  obtain ⟨hregs, hhidden⟩ := hg
  simp only [outsideDomain, Bool.and_eq_true, List.all_eq_true, Bool.or_eq_true, decide_eq_true_eq, Bool.not_eq_true']
  refine ⟨fun r hr f hf => (hregs r hr f hf).imp_right (fun h => ?_), fun x hx => (hhidden x hx).imp_right (fun h => ?_)⟩
  · rw [h]
    exact DomRule.not_within_fixed h0 ..
  · rcases h with h | h
    · rw [h]
      exact DomRule.not_within_fixed h0 ..
    · rw [h]
      exact DomRule.not_within_fixed h99 ..

/-- Of the block without its registers: the bank, the persistent copy of the keep area, and the wear histories (R506, R527). -/
def Dev.stores (d : Dev) : Dev := { bank := d.bank, keepStore := d.keepStore, wearHist := d.wearHist }

theorem Dev.stores_rest (d : Dev) : d.rest.stores = d.stores := rfl

section
variable (d : Dev)

theorem Dev.resetFields_rest (k : Nat) (core : Bool) : (d.resetFields k core).rest = d.rest := by
  unfold Dev.resetFields
  refine List.foldlRecOn (motive := fun e => Dev.rest e = d.rest) _ _ ?_ (fun e he _ _ => he)
  refine List.foldlRecOn (motive := fun e => Dev.rest e = d.rest) _ _ rfl (fun e he r _ => ?_)
  exact List.foldlRecOn (motive := fun e => Dev.rest e = d.rest) _ _ he (fun e he _ _ => he)

theorem Dev.dropPorts_stores (gone : Nat → Bool) : d.Confined Dev.stores takenFlds (d.dropPorts gone) := by
  unfold Dev.dropPorts
  have hrefs (e : Dev) (l : List EqEntry) : e.Confined Dev.stores takenFlds (l.foldl (fun d e => d.releaseRef e.fid) e) :=
    .foldl (fun d (x : EqEntry) => (d.releaseRef_taken x.fid).blur (fun _ => rfl)) _ _
  exact (hrefs ..).after (.same (.refl d) rfl rfl)

/-- What a domain holds beside its registers is no field, but that frames which are dropped give back their credits, and is none of
the stores. -/
theorem Dev.resetHeld_stores (k : Nat) (last : Bool) : d.Confined Dev.stores takenFlds (d.resetHeld k last) := by
  unfold Dev.resetHeld
  have hreads : d.Confined Dev.stores takenFlds { d with
      reads := d.reads.filter (fun r => r.purpose.domain != k || k == 0),
      readWaits := d.readWaits.filter (fun r => r.1.purpose.domain != k || k == 0) } := .same (.refl d) rfl rfl
  revert hreads
  generalize ({ d with
      reads := d.reads.filter (fun r => r.purpose.domain != k || k == 0),
      readWaits := d.readWaits.filter (fun r => r.1.purpose.domain != k || k == 0) } : Dev) = e
  intro hreads
  have hends (e : Dev) (key : Nat → OpKey) (code : Nat) (l : List (Nat × Option Load)) :
      e.Confined Dev.stores takenFlds (l.foldl (fun e x => e.opEnd (key x.1) code) e) :=
    .foldl (fun (e : Dev) _ => (e.opEnd_confined ..).blur (fun _ => rfl)) _ _
  refine Dev.Confined.after ?_ hreads
  refine .ite (.same (.refl e) rfl rfl) (.ite ?quadrant (.ite (.same (.refl e) rfl rfl) (.ite ?engines (.ite (.same (.refl e) rfl rfl)
    (.ite (.same (.refl e) rfl rfl) (.ite (.same (.refl e) rfl rfl) (.refl e)))))))
  case quadrant =>
    dsimp only
    split
    · exact .same (.refl e) rfl rfl
    · exact .same (e.dropPorts_stores _) rfl rfl
  case engines => exact .same ((hends _ .wraLoad 39 _).after (hends e .collLoad 13 _)) rfl rfl

theorem Dev.resetDomain_stores (k : Nat) : (d.resetDomain k).stores = d.stores := by
  unfold Dev.resetDomain
  dsimp only
  rw [← Dev.stores_rest, (Dev.resetHeld_stores ..).rest, d.resetFields_rest, Dev.stores_rest]

/-- A domain that is reset keeps the fields of the always-on island. -/
theorem Dev.resetDomain_get {k : Nat} (h0 : 0 ≠ k) (h99 : 99 ≠ k) {f : Fld} (hon : alwaysOn f = true) (hf : f ∉ takenFlds) (i : Nat) :
    (d.resetDomain k).get f i = d.get f i := by
  unfold Dev.resetDomain
  rw [(Dev.resetHeld_stores ..).fields f i hf, d.resetFields_get _ _ _ _ (outsideDomain_of_alwaysOn hon h0 h99 ..)]

/-- So do several. -/
theorem Dev.resetDomains_get {l : List Nat} (hl : ∀ k ∈ l, 0 ≠ k ∧ 99 ≠ k) {f : Fld} (hon : alwaysOn f = true) (hf : f ∉ takenFlds)
    (i : Nat) : (l.foldl Dev.resetDomain d).get f i = d.get f i :=
  List.foldlRecOn (motive := fun e => Dev.get e f i = d.get f i) _ _ rfl
    (fun e he k hk => (e.resetDomain_get (hl k hk).1 (hl k hk).2 hon hf i).trans he)

theorem Dev.resetDomains_stores (l : List Nat) : (l.foldl Dev.resetDomain d).stores = d.stores :=
  List.foldlRecOn (motive := fun e => Dev.stores e = d.stores) _ _ rfl (fun e he k _ => (e.resetDomain_stores k).trans he)

theorem Dev.resetAll_get {f : Fld} (hon : alwaysOn f = true) (hf : f ∉ takenFlds) (i : Nat) : d.resetAll.get f i = d.get f i :=
  d.resetDomains_get (by decide) hon hf i

theorem Dev.resetAll_stores : d.resetAll.stores = d.stores := d.resetDomains_stores _

/-! ### A record that reaches the bank -/

/-- The fields in which the FIFO, the bank, the ring and the trace bins show what they did. -/
def bankFlds : List Fld :=
  [.ras_status_next_seq, .h_keep_full, .ras_sev_sev_seen, .i2c_status_alert, .ras_first_code, .ras_first_valid, .ras_first_severity,
   .ras_first_seq, .ras_trace_bin_bin, .ras_ring_status_ring_skipped] ++ lostFlds

/-- The block without what a record that reaches the bank is kept in. -/
def Dev.lessBank (d : Dev) : Dev := { d with bank := {}, keep := [], keepStore := [], ringPend := [], sent := [] }

theorem Dev.emit_confined {view : Dev → Dev} (hview : ∀ x : Dev, view { x with sent := [] } = view x) {own : List Fld} (e : Emit) :
    d.Confined view own (d.emit e) :=
  .same (.refl d) rfl ((hview _).symm.trans (hview d.rest))

theorem Dev.incr_confined {view : Dev → Dev} {own : List Fld} {f : Fld} (hf : f ∈ own) (i n : Nat) :
    d.Confined view own (d.incr f i n) := d.set_confined hf _ _

theorem Dev.incrSat_confined {view : Dev → Dev} {own : List Fld} {f : Fld} (hf : f ∈ own) (i : Nat) :
    d.Confined view own (d.incrSat f i) := d.set_confined hf _ _

/-- The events of a command go to the FIFO. -/
theorem Dev.flush_bank : d.Confined Dev.lessBank bankFlds d.flush :=
  ⟨fun f i hf => d.flush_get f i (fun h => hf (List.mem_append_right _ h)), congrArg Dev.lessBank d.flush_rest⟩

theorem Dev.alert_bank (k : Nat) : d.Confined Dev.lessBank bankFlds (d.alert k) := by
  unfold Dev.alert
  exact (Dev.putB_confined _ (by decide) ..).after (.ite (d.emit_confined (fun _ => rfl) _) (.refl d))

theorem Dev.traceCount_bank (r : Rec) : d.Confined Dev.lessBank bankFlds (d.traceCount r) := by
  unfold Dev.traceCount
  split
  · exact .refl d
  · exact .ite (d.incrSat_confined (by decide) _) (.refl d)

theorem Dev.ringIssue_bank : d.Confined Dev.lessBank bankFlds d.ringIssue := by
  unfold Dev.ringIssue
  split
  · exact .refl d
  · exact d.emit_confined (fun _ => rfl) _

theorem Dev.ringOffer_bank (r : Rec) : d.Confined Dev.lessBank bankFlds (d.ringOffer r) := by
  unfold Dev.ringOffer
  have hkept (l : List Rec) : d.Confined Dev.lessBank bankFlds { d with ringPend := l } := .same (.refl d) rfl rfl
  exact .ite (.refl d) (.ite (d.incr_confined (by decide) _ _) (.ite ((Dev.ringIssue_bank _).after (hkept _)) (hkept _)))

theorem Dev.bankWrite_bank (r : Rec) : d.Confined Dev.lessBank bankFlds (d.bankWrite r) := by
  unfold Dev.bankWrite
  refine (Dev.ringOffer_bank ..).after ((Dev.traceCount_bank ..).after (.after (.ite (Dev.setMany_confined _ _ (by simp [bankFlds])) (.refl _)) ?_))
  refine .after (.ite (Dev.alert_bank ..) (.refl _)) ((Dev.putB_confined _ (by decide) ..).after ?_)
  refine .after (.ite ((Dev.raise_confined ..).after (Dev.set_confined _ (by decide) ..)) (.refl _)) ?_
  have hkept (e : Dev) (l m : List Rec) : e.Confined Dev.lessBank bankFlds { e with keep := l, keepStore := m } := .same (.refl e) rfl rfl
  exact .after (.ite (hkept ..) (.refl _)) (.same (d.incr_confined (by decide) _ _) rfl rfl)

theorem Dev.fifoDrain_bank : d.Confined Dev.lessBank bankFlds d.fifoDrain := by
  unfold Dev.fifoDrain
  refine .ite ((Dev.bankWrite_bank ..).after (d.set_confined (by decide) ..)) ?_
  split
  · exact .refl d
  · exact (Dev.bankWrite_bank ..).after (.same (.refl d) rfl rfl)

theorem Dev.drainAll_bank (n : Nat) : d.Confined Dev.lessBank bankFlds (d.drainAll n) := by
  induction n generalizing d with
  | zero => exact .refl d
  | succ n ih =>
    rw [Dev.drainAll]
    exact .ite (.refl d) ((ih _).after d.fifoDrain_bank)
end

end Sys2Proof.Machine
end

section
/-! SUPPORT. The fuses (R532, R533): the operations that burn some, and that each command burns at most. -/

namespace Sys2Proof.Machine

/-! ### More and more fuses -/

/-- Where bit `i` is clear, adding it leaves the other bits. -/
theorem bit_add_two_pow_of_ne {x i j : Nat} (hclear : bit x i = false) (hne : j ≠ i) : bit (x + 2 ^ i) j = bit x j := by
  rw [bit_eq_testBit, bit_eq_testBit]
  rcases Nat.lt_or_gt_of_ne hne with hlt | hgt
  · rw [Nat.add_comm, Nat.testBit_two_pow_add_gt hlt]
  · obtain ⟨k, rfl⟩ : ∃ k, j = k + 1 + i := ⟨j - i - 1, by omega⟩
    have heven : (x / 2 ^ i + 1) / 2 = x / 2 ^ i / 2 := by
      simp only [bit, beq_eq_false_iff_ne] at hclear
      omega
    rw [Nat.testBit_add, Nat.testBit_add_one, Nat.add_div_right _ (Nat.two_pow_pos i), heven, ← Nat.testBit_add_one, ← Nat.testBit_add]

theorem bit_setBit_of_ne {x i j : Nat} (hne : j ≠ i) : bit (setBit x i) j = bit x j := by
  unfold setBit
  split
  · rfl
  · next hclear => exact bit_add_two_pow_of_ne (Bool.eq_false_of_not_eq_true hclear) hne

/-- A bit set leaves those that are set. -/
theorem bit_setBit_of_bit {x i : Nat} (k : Nat) (h : bit x i = true) : bit (setBit x k) i = true := by
  by_cases hik : i = k
  · subst hik
    exact bit_setBit x i
  · rw [bit_setBit_of_ne hik, h]

namespace Fuses

theorem le_refl (a : Fuses) : a.le a := ⟨Nat.le_refl _, fun _ => id, fun _ => id, rfl, rfl⟩

theorem le_trans {a b c : Fuses} (h : a.le b) (k : b.le c) : a.le c := by
  obtain ⟨hsvn, hecdsa, hlms, hecdsaKeys, hlmsKeys⟩ := h
  obtain ⟨ksvn, kecdsa, klms, kecdsaKeys, klmsKeys⟩ := k
  exact ⟨hsvn.trans ksvn, fun i h => kecdsa i (hecdsa i h), fun i h => klms i (hlms i h), kecdsaKeys.trans hecdsaKeys,
    klmsKeys.trans hlmsKeys⟩

/-- A higher count (R532). -/
theorem le_svn (a : Fuses) {n : Nat} (h : a.svn ≤ n) : a.le { a with svn := n } := ⟨h, fun _ => id, fun _ => id, rfl, rfl⟩

/-- The fuses with the revoke bit of key index `k` burned: of an LMS key, or of an ECDSA key (R533). -/
def revoked (a : Fuses) (lms : Bool) (k : Nat) : Fuses :=
  if lms then { a with lmsRevoked := setBit a.lmsRevoked k } else { a with ecdsaRevoked := setBit a.ecdsaRevoked k }

theorem le_revoked (a : Fuses) (lms : Bool) (k : Nat) : a.le (a.revoked lms k) := by
  cases lms
  · exact ⟨Nat.le_refl _, fun _ => bit_setBit_of_bit k, fun _ => id, rfl, rfl⟩
  · exact ⟨Nat.le_refl _, fun _ => id, fun _ => bit_setBit_of_bit k, rfl, rfl⟩

end Fuses

/-! ### Operations that burn -/

/-- The fields that say which SEC command runs (R542). -/
def secFlds : List Fld := [.sec_cmd_status_busy, .sec_cmd_status_last_cmd]

/-- The same SEC command runs, if any. -/
def Dev.SameSec (d e : Dev) : Prop := ∀ f ∈ secFlds, ∀ i, e.get f i = d.get f i

/-- A command that burns fuses runs: SVN_COMMIT or REVOKE (R532, R533). -/
def Dev.burning (d : Dev) : Prop :=
  d.flag .sec_cmd_status_busy = true ∧ (d.get .sec_cmd_status_last_cmd = 5 ∨ d.get .sec_cmd_status_last_cmd = 6)

theorem Dev.Confined.sameSec {view : Dev → Dev} {own : List Fld} {d e : Dev} (h : d.Confined view own e)
    (hown : ∀ f ∈ secFlds, f ∉ own := by decide) : d.SameSec e := fun f hf i => h.fields f i (hown f hf)

theorem Dev.SameSec.trans {d e g : Dev} (h : d.SameSec e) (k : e.SameSec g) : d.SameSec g :=
  fun f hf i => (k f hf i).trans (h f hf i)

theorem Dev.SameSec.burning {d e : Dev} (h : d.SameSec e) (he : e.burning) : d.burning := by
  have hbusy := h .sec_cmd_status_busy (by decide) 0
  have hlast := h .sec_cmd_status_last_cmd (by decide) 0
  unfold Dev.burning Dev.flag at he ⊢
  rwa [hbusy, hlast] at he

/-- From `s` to `t` no fuse is unburned, and some are burned only where such a command runs. -/
structure State.Burns (s t : State) : Prop where
  le : s.fuses.le t.fuses
  only : t.fuses ≠ s.fuses → s.dev.burning

namespace State

theorem Burns.of_fuses {s t : State} (h : t.fuses = s.fuses) : s.Burns t := ⟨by rw [h]; exact Fuses.le_refl _, fun hne => absurd h hne⟩

theorem Burns.refl (s : State) : s.Burns s := .of_fuses rfl

theorem Burns.ite {c : Prop} [Decidable c] {s t u : State} (ht : c → s.Burns t) (hu : ¬c → s.Burns u) :
    s.Burns (if c then t else u) := by
  split
  next h => exact ht h
  next h => exact hu h

/-- Before what burns, no fuse and no SEC command has changed. -/
theorem Burns.after {s t u : State} (k : t.Burns u) (hfuses : t.fuses = s.fuses) (hsec : s.dev.SameSec t.dev) : s.Burns u :=
  ⟨hfuses ▸ k.le, fun hne => hsec.burning (k.only (by rwa [hfuses]))⟩

/-- After what burns, no fuse has changed. -/
theorem Burns.andThen {s t u : State} (h : s.Burns t) (hfuses : u.fuses = t.fuses) : s.Burns u :=
  ⟨hfuses ▸ h.le, fun hne => h.only (by rwa [← hfuses])⟩

/-- A change of the device alone before what burns. -/
theorem Burns.afterDev {s t : State} {f : Dev → Dev} (k : (s.onDev f).Burns t) (hsec : s.dev.SameSec (f s.dev)) : s.Burns t :=
  k.after rfl hsec

theorem burns_of_burning {s t : State} (h : s.dev.burning) (hle : s.fuses.le t.fuses) : s.Burns t := ⟨hle, fun _ => h⟩

/-- A reset that cuts a SEC command short may leave some of its bits burned (R526). -/
theorem secCut_burns (s : State) : s.Burns s.secCut := by
  unfold State.secCut
  refine .ite (fun _ => .refl s) (fun hbusy => ?_)
  simp only [Bool.not_eq_true, Bool.not_eq_false'] at hbusy
  refine .ite (fun _ => .of_fuses rfl) (fun _ => .ite (fun hlast => ?svn) (fun _ => .ite (fun hlast => ?revoke) (fun _ => .of_fuses rfl)))
  case svn => exact burns_of_burning ⟨hbusy, .inl hlast⟩ (s.fuses.le_svn (Nat.le_add_right ..))
  case revoke =>
    refine burns_of_burning ⟨hbusy, .inr hlast⟩ ?_
    dsimp only
    split
    · exact s.fuses.le_refl
    · exact s.fuses.le_revoked ..

theorem warm_burns (s : State) (cause : Nat) : s.Burns (s.warm cause) := by
  unfold State.warm
  exact .ite (fun _ => .refl s) (fun _ => s.secCut_burns.andThen rfl)

theorem cold_burns (s : State) (level cause : Nat) : s.Burns (s.cold level cause) := s.secCut_burns.andThen rfl

theorem svnCommit_burns {s : State} (h : s.dev.burning) (n : Nat) : s.Burns (s.svnCommit n) :=
  burns_of_burning h (s.fuses.le_svn (Nat.le_max_left ..))

theorem revoke_burns {s : State} (h : s.dev.burning) (a : Nat) (ok : Bool) : s.Burns (s.revoke a ok) := by
  unfold State.revoke
  exact .ite (fun _ => burns_of_burning h (s.fuses.le_revoked ..)) (fun _ => .of_fuses rfl)

theorem secDone_burns (s : State) (r : SecOutcome) : s.Burns (s.secDone r) := by
  have hdev (f : Dev → Dev) : s.Burns (s.onDev f) := .of_fuses rfl
  unfold State.secDone
  refine .ite (fun _ => .refl s) (fun hbusy => ?_)
  simp only [Bool.not_eq_true, Bool.not_eq_false'] at hbusy
  exact .ite (fun _ => hdev _) (fun _ => .ite (fun _ => hdev _) (fun _ => .ite (fun _ => hdev _) (fun _ => .ite (fun _ => hdev _)
    (fun _ => .ite (fun h => svnCommit_burns ⟨hbusy, .inl h⟩ _) (fun _ => .ite (fun h => revoke_burns ⟨hbusy, .inr h⟩ ..)
      (fun _ => .ite (fun _ => hdev _) (fun _ => hdev _)))))))

end State

/-! ### Rails and sensors -/

section
variable (d : Dev)

theorem Dev.resetAll_sameSec : d.SameSec d.resetAll := fun f hf i =>
  d.resetAll_get (by revert f; decide +kernel) (by revert f; decide) i

theorem Dev.thermRec_confined {view : Dev → Dev} {own : List Fld} (c : RecCode) (i : Nat) : d.Confined view own (d.thermRec c i) :=
  d.raise_confined ..

/-- The fields in which a reading is stored (R94, R573). -/
def sensFlds : List Fld := [.h_sens, .opt_eng_temp_eic_temp, .opt_eng_temp_pic_temp]

/-- The fields of the episodes of a sensor, beside the alerts (R577, R578). -/
def episodeFlds : List Fld := [.h_sens_warn, .h_sens_over, .h_cold_hold, .h_cold_rom] ++ bankFlds

theorem Dev.sensStore_confined {view : Dev → Dev} (i v : Nat) : d.Confined view sensFlds (d.sensStore i v) := by
  unfold Dev.sensStore
  refine .after (.ite (Dev.set_confined _ (by decide) ..) (.ite (Dev.set_confined _ (by decide) ..) (.refl _))) ?_
  exact d.set_confined (by decide) ..

theorem Dev.thermEpisodes_confined (i : Nat) (t : Int) : d.Confined Dev.lessBank episodeFlds (d.thermEpisodes i t) := by
  have hnoted (e : Dev) (f : Fld) (hf : f ∈ episodeFlds) (c : RecCode) (k : Nat) :
      e.Confined Dev.lessBank episodeFlds (if e.flag f i then e else ((e.set f i 1).thermRec c i).alert k) :=
    .ite (.refl e) (((Dev.alert_bank _ k).mono (List.subset_append_right ..)).after
      ((Dev.thermRec_confined ..).after (e.set_confined hf ..)))
  unfold Dev.thermEpisodes
  refine .after (.ite (hnoted _ _ (by decide) ..) (Dev.set_confined _ (by decide) ..)) ?_
  exact .ite (hnoted _ _ (by decide) ..) (.ite (d.set_confined (by decide) ..) (.refl d))

theorem Dev.thermCold_confined (i : Nat) (t : Int) : d.Confined Dev.lessBank episodeFlds (d.thermCold i t) := by
  unfold Dev.thermCold
  exact .ite (.ite (.refl d) (d.set_confined (by decide) ..))
    (.ite ((Dev.thermRec_confined ..).after (d.set_confined (by decide) ..)) (.refl d))

/-- What a trip does before its reset: its record reaches the bank. -/
theorem Dev.tripRecord_bank (i : Nat) :
    d.Confined Dev.lessBank bankFlds (((d.thermRec .THERM_TRIP i).alert 2).flush.drainAll 82) :=
  (Dev.drainAll_bank ..).after ((Dev.flush_bank _).after ((Dev.alert_bank ..).after (d.thermRec_confined ..)))
end

namespace State

theorem railOut_burns (s : State) (rail mv : Nat) (sustained : Bool) : s.Burns (s.railOut rail mv sustained) := by
  unfold State.railOut
  refine Burns.afterDev (f := fun d => (d.putB .h_rail_out 0 rail true).resetAll)
    (.ite (fun _ => .refl _) (fun _ => .ite (fun _ => cold_burns ..) (fun _ => .of_fuses (State.onDev_fuses ..)))) ?_
  have hrail : s.dev.SameSec (s.dev.putB .h_rail_out 0 rail true) :=
    (s.dev.putB_confined (view := id) (own := [.h_rail_out]) (by decide) ..).sameSec
  exact hrail.trans (s.dev.putB .h_rail_out 0 rail true).resetAll_sameSec

theorem trip_burns (s : State) (i : Nat) : s.Burns (s.trip i) := by
  unfold State.trip
  exact Burns.afterDev (f := fun d => ((d.thermRec .THERM_TRIP i).alert 2).flush.drainAll 82)
    ((State.cold_burns _ 1 3).andThen (State.onDev_fuses ..)) (s.dev.tripRecord_bank i).sameSec

theorem sample_burns (s : State) (i v : Nat) : s.Burns (s.sample i v) := by
  unfold State.sample
  refine Burns.afterDev (f := fun d => d.sensStore i v) (.ite (fun _ => .refl _) (fun _ => ?_)) (s.dev.sensStore_confined (view := id) i v).sameSec
  split
  · exact .refl _
  next t _ =>
    exact Burns.afterDev (f := fun d => (d.thermEpisodes i t).thermCold i t)
      (.ite (fun _ => .of_fuses rfl) (fun _ => .ite (fun _ => trip_burns ..) (fun _ => .refl _)))
      ((Dev.thermCold_confined ..).after (Dev.thermEpisodes_confined ..)).sameSec

end State

end Sys2Proof.Machine
end

section
/-! SUPPORT. Register writes, DMA bursts and reset commands burn fuses only by the resets they cause; then each command (R532, R533). -/

namespace Sys2Proof.Machine

/-! ### Checks of an access, and what a read changes -/

section
variable {view : Dev → Dev} {own : List Fld} (d : Dev)

theorem Dev.checkPower_confined {req dir : Nat} {r : RegRow} {i : Nat} {e : Dev} (h : d.checkPower req dir r i = some e) :
    d.Confined view own e := by
  unfold Dev.checkPower at h
  split at h
  · cases h
    exact d.raise_confined ..
  · split at h
    · cases h
      exact d.raise_confined ..
    · cases h

theorem Dev.checkEncoding_confined (req : Nat) (r : RegRow) (i v : Nat) : d.Confined view own (d.checkEncoding req r i v).1 := by
  unfold Dev.checkEncoding
  dsimp only
  split
  · exact .refl d
  · exact d.raise_confined ..

theorem Dev.access_confined (req priv size a : Nat) (wr : Option Nat) : d.Confined view own (d.access req priv size a wr).1 := by
  unfold Dev.access
  dsimp only
  split
  · exact .refl d
  · split
    · exact d.raise_confined ..
    · split
      · exact d.raise_confined ..
      · split
        next h => exact d.checkPower_confined h
        · exact .refl d

/-- A companion write changes what its effect changes, and what it answers. -/
theorem Dev.hostWrite_confined (hview : ∀ x : Dev, view { x with sent := [] } = view x) (m : Mark) (r : RegRow) (i v : Nat)
    {eff : Nat → Nat → List Nat → Dev → Dev} (heff : ∀ (req w : Nat) (bad : List Nat) (e : Dev), e.Confined view own (eff req w bad e)) :
    d.Confined view own (d.hostWrite m r i v eff) := by
  have hreply (e : Dev) (b : Bool) := Dev.emit_confined e hview (own := own) (.reply b 0)
  unfold Dev.hostWrite
  refine .ite (.ite (hreply ..) (.refl d)) (.ite ((hreply ..).after (d.raise_confined ..)) ?_)
  split
  next h => exact (hreply ..).after (d.checkPower_confined h)
  · exact .ite ((hreply ..).after (d.checkEncoding_confined ..))
      ((hreply ..).after ((heff ..).after (d.checkEncoding_confined ..)))

/-- The fields that a read of memory or of a register may change. -/
def readFlds : List Fld :=
  [.memc_ch_ecc_corrected, .memc_ch_ecc_uncorrectable, .memc_last_uncorr_channel, .memc_last_uncorr_address, .memc_ch_status_failed,
   .time_now_frac_now_frac, .time_local_local] ++ countFlds

theorem Dev.count_read (b : Nat) (e : Ev) (n : Nat) (a : Attr) : d.Confined view readFlds (d.count b e n a) :=
  (d.count_confined b e n a).mono (List.subset_append_right ..)

theorem Dev.memCorr_read (scrub : Bool) (a : Nat) : d.Confined view readFlds (d.memCorr scrub a) :=
  (Dev.incr_confined _ (by decide) ..).after (d.count_read ..)

theorem Dev.memUncorr_read (scrub : Bool) (a : Nat) : d.Confined Dev.stores readFlds (d.memUncorr scrub a) := by
  have htimes (e : Dev) (t : SMap (List Nat)) : e.Confined Dev.stores readFlds { e with chUncorr := t } := .same (.refl e) rfl rfl
  have hfail (e : Dev) (k : Nat) : e.Confined Dev.stores readFlds (e.failChan k) :=
    .ite (.refl e) ((Dev.raise_confined ..).after (e.set_confined (by decide) ..))
  unfold Dev.memUncorr
  refine .after (.ite (hfail ..) (.refl _)) ((htimes ..).after ((Dev.raise_confined ..).after ?_))
  exact (Dev.setMany_confined _ _ (by simp [readFlds])).after ((Dev.incrSat_confined _ (by decide) _).after (d.count_read ..))

theorem Dev.memBytes_read (e : Ev) (a n : Nat) : d.Confined view readFlds (d.memBytes e a n) :=
  .foldl (fun d _ => d.count_read ..) _ _

theorem Dev.memCheck_read (a n : Nat) (corr bad : List Nat) : d.Confined Dev.stores readFlds (d.memCheck a n corr bad).1 :=
  (Dev.Confined.foldl (fun d w => d.memUncorr_read false w) _ _).after (.foldl (fun d w => d.memCorr_read false w) _ _)

theorem Dev.readEff_read (fu : Fuses) (r : RegRow) (i : Nat) : d.Confined Dev.stores readFlds (d.readEff fu r i).1 := by
  unfold Dev.readEff
  split
  · exact d.setMany_confined _ (by simp [readFlds])
  · split
    · unfold Dev.capPop
      split
      · exact .refl d
      · exact .same (.refl d) rfl rfl
    · exact .refl d
end

/-- What the read of a burst changes (R478). -/
theorem State.burstRead_read (s : State) (c : Nat) (m : DmaMove) (k : Nat) (data : Option (List Nat)) (corr bad : List Nat) :
    s.dev.Confined Dev.stores readFlds (s.burstRead c m k data corr bad).1 := by
  unfold State.burstRead
  dsimp only
  split
  · exact (s.dev.dropReads_confined _).blur (fun _ => rfl)
  · split
    · exact (Dev.memCheck_read ..).after (s.dev.memBytes_read ..)
    · split
      · exact .refl _
      · split
        · exact (Dev.readEff_read ..).after (s.dev.access_confined ..)
        · exact s.dev.access_confined ..
        · exact s.dev.access_confined ..

/-! ### Operations on the whole state -/

namespace State

theorem regWrite_burns (s : State) (req : Nat) (r : RegRow) (i v : Nat) : s.Burns (s.regWrite req r i v) := by
  unfold State.regWrite
  refine Burns.afterDev (f := fun d => (d.checkEncoding req r i v).1) ?_
    (s.dev.checkEncoding_confined (view := id) (own := []) req r i v).sameSec
  refine .ite (fun _ => .refl _) (fun _ => .ite (fun _ => .ite (fun _ => .refl _) (fun _ => ?reset)) (fun _ => .of_fuses rfl))
  case reset =>
    split
    · exact State.warm_burns ..
    · exact .ite (fun _ => .refl _) (fun _ => State.cold_burns ..)
    · exact .refl _

theorem burstWrite_burns (s : State) (c : Nat) (m : DmaMove) (k : Nat) (runs : List (Nat × List Nat)) :
    s.Burns (s.burstWrite c m k runs) := by
  unfold State.burstWrite
  cases runs with
  | nil => exact .of_fuses rfl
  | cons run runs =>
    refine .ite (fun _ => .of_fuses rfl) (fun _ => .ite (fun _ => .ite (fun _ => .of_fuses rfl) (fun _ => .of_fuses rfl))
      (fun _ => .ite (fun _ => .of_fuses rfl) (fun _ => ?register)))
    case register =>
      dsimp only
      split
      · refine Burns.afterDev (f := fun d => (d.access (reqDMA c) (d.chan c).priv 8 (m.dst + run.1) (some (leNat run.2))).1.burstDone c k)
          (regWrite_burns ..) ?_
        exact (Dev.Confined.same (view := Dev.stores) (own := []) (s.dev.access_confined ..) rfl rfl).sameSec
      · exact .of_fuses rfl
      · exact .of_fuses rfl

theorem burstData_burns (s : State) (c : Nat) (m : DmaMove) (k : Nat) (data : Option (List Nat)) (corr bad : List Nat) :
    s.Burns (s.burstData c m k data corr bad) := by
  unfold State.burstData
  refine .ite (fun _ => .of_fuses rfl) (fun _ => ?_)
  split
  · exact .of_fuses rfl
  · exact Burns.afterDev (f := fun _ => (s.burstRead c m k data corr bad).1) (State.burstWrite_burns ..)
      (s.burstRead_read c m k data corr bad).sameSec

theorem burstResponse_burns (s : State) (c k : Nat) (data : Option (List Nat)) (corr bad : List Nat) :
    s.Burns (s.burstResponse c k data corr bad) := by
  unfold State.burstResponse
  refine Burns.andThen ?_ (State.onDev_fuses ..)
  split
  · exact .refl s
  · split
    · exact s.burstData_burns ..
    · exact .of_fuses rfl
    · exact .refl s

theorem readFails_burns (s : State) (p : KPurpose) : s.Burns (s.readFails p) := by
  cases p with
  | head q | crHead q =>
    change s.Burns (dite _ _ _)
    split
    · exact .of_fuses rfl
    · exact .refl s
  | dmaBurst c k => exact s.burstResponse_burns ..
  | ringHead | dumpHead | mcEntry | stencil | collImage | wraImage | progImage | sec => exact .of_fuses rfl

/-- A replay failure may end several transfers; none of them unburns a fuse (R548). -/
theorem replayFail_le (s : State) : s.fuses.le s.replayFail.fuses := by
  have hall {α : Type} (f : State → α → State) (hf : ∀ (t : State) (a : α), t.Burns (f t a)) (l : List α) (t : State) :
      t.fuses.le (l.foldl f t).fuses :=
    List.foldlRecOn (motive := fun u : State => t.fuses.le u.fuses) l f t.fuses.le_refl
      (fun u hu a _ => Fuses.le_trans hu (hf u a).le)
  unfold State.replayFail
  dsimp only
  split
  · exact s.fuses.le_refl
  · have hreads (e : Dev) (l : List KPurpose) : s.fuses.le (l.foldl (fun (t : State) p => t.readFails p) { s with dev := e }).fuses :=
      hall _ (fun t p => t.readFails_burns p) l { s with dev := e }
    have hwrites (t : State) (l : List (Nat × Nat)) :
        t.fuses.le (l.foldl (fun (t : State) w => t.burstResponse w.1 w.2 none [] []) t).fuses :=
      hall _ (fun t w => t.burstResponse_burns ..) l t
    exact Fuses.le_trans (hreads ..) (hwrites ..)

/-! ### Commands -/

theorem done_burns {s t : State} (h : s.Burns t) : s.Answers Burns t.done := answers_next (h.andThen (t.onDev_fuses _))

theorem settled_burns {s t : State} (h : s.Burns t) : s.Answers Burns t.settled := answers_next (h.andThen (t.onDev_fuses _))

/-- An effect on the device, or on the device and memory. -/
theorem run_burns (s : State) (f : Dev → Dev) : s.Answers Burns (s.run f) := answers_next (.of_fuses rfl)

theorem runMem_burns (s : State) (f : Dev → SMap Byte → Dev × SMap Byte) : s.Answers Burns (s.runMem f) := answers_next (.of_fuses rfl)

theorem resetCmd_burns (s : State) (m : Mark) (level confirm : Nat) {f : State → State} (hf : ∀ t : State, t.Burns (f t)) :
    s.Answers Burns (s.resetCmd m level confirm f) := by
  have hsec := (s.dev.hostWrite_confined (view := Dev.stores) (own := []) (fun _ => rfl) m rowSYS_RESET_CMD 0
    (level * 2 ^ 62 + confirm) (eff := fun _ _ _ d => d) (fun _ _ _ e => .refl e)).sameSec
  unfold State.resetCmd
  generalize s.dev.hostWrite m rowSYS_RESET_CMD 0 (level * 2 ^ 62 + confirm) (fun _ _ _ d => d) = e at hsec ⊢
  exact done_burns (.ite (fun _ => (hf _).after rfl hsec) (fun _ => .of_fuses rfl))

end State

theorem execRegWrite_burns (m : Mark) (size a : Nat) (v : Word) (s : State) : s.Answers State.Burns (execRegWrite m size a v s) := by
  have haccess := (s.dev.access_confined (view := Dev.stores) (own := []) (markReq m) (markPriv m) size a (some v.toNat)).sameSec
  unfold execRegWrite
  split
  · exact State.settled_burns (.of_fuses (s.onDev_fuses _))
  · generalize s.dev.access (markReq m) (markPriv m) size a (some v.toNat) = x at haccess ⊢
    have hreply : s.dev.SameSec (x.1.emit (.reply false 0)) :=
      haccess.trans (x.1.emit_confined (view := Dev.stores) (own := []) (fun _ => rfl) _).sameSec
    dsimp only
    split
    · exact State.settled_burns ((State.regWrite_burns _ _ _ _ _).after rfl hreply)
    · exact State.settled_burns (.of_fuses rfl)
    · exact State.settled_burns (.of_fuses rfl)

theorem execKclReadTimeout_burns (k : Fin 256) (s : State) : s.Answers State.Burns (execKclReadTimeout k s) := by
  unfold execKclReadTimeout
  split
  · exact State.settled_burns (.refl s)
  next r _ =>
    exact State.settled_burns (State.Burns.afterDev (f := fun d => d.raise .KCL_READ_TIMEOUT d.pathDevice [.d r.addr, .h r.req])
      (State.readFails_burns ..) (s.dev.raise_confined (view := id) (own := []) ..).sameSec)

/-- Every command but a replay failure, which ends several transfers, burns fuses only where a SEC command that does so runs. -/
theorem exec_burns {c : Instr} (hc : c ≠ .kclReplayFail) (s : State) : s.Answers State.Burns (exec c s) := by
  cases c
  case kclReplayFail => exact absurd rfl hc
  case secCmdDone r => exact State.done_burns (s.secDone_burns r)
  case porstNAssert =>
    change s.Answers _ (ite _ _ _)
    split
    · exact State.done_burns (.refl s)
    · exact State.done_burns ((s.cold_burns 0 1).andThen (State.onDev_fuses ..))
  case wrstNAssert => exact State.done_burns (s.warm_burns 4)
  case sysResetNop => exact s.resetCmd_burns _ _ _ (f := fun t => t) State.Burns.refl
  case sysResetWarm => exact s.resetCmd_burns _ _ _ (f := (·.warm 5)) (fun t => t.warm_burns 5)
  case sysResetCold m confirm =>
    exact s.resetCmd_burns m 2 confirm.toNat (f := fun t => if t.dev.flag .h_porst then t else t.cold 1 2)
      (fun t => .ite (fun _ => .refl t) (fun _ => t.cold_burns 1 2))
  case bootWatchdog =>
    change s.Answers _ (ite _ _ _)
    split
    · exact State.done_burns ((s.warm_burns 6).andThen (State.onDev_fuses ..))
    · exact State.done_burns (.refl s)
  case confirmTimeout =>
    change s.Answers _ (ite _ _ _)
    split
    · exact State.done_burns (s.warm_burns 7)
    · exact State.done_burns (.refl s)
  case thermSample => exact State.done_burns (s.sample_burns ..)
  case railOutOfRange => exact State.done_burns (s.railOut_burns ..)
  case regWrite m size a v => exact execRegWrite_burns m size a v s
  case regReadRefused m size a =>
    change s.Answers _ (execRegReadRefused m size a s)
    unfold execRegReadRefused
    split
    · exact State.settled_burns (.of_fuses (State.onDev_fuses ..))
    · dsimp only
      split <;> exact State.settled_burns (.of_fuses rfl)
  case kclReadTimeout k => exact execKclReadTimeout_burns k s
  case dmaBurstResponse => exact State.settled_burns (s.burstResponse_burns ..)
  case fmemCmdMap =>
    rw [exec_fmemCmdMap]
    exact s.runMem_burns _
  case dxMemMap =>
    rw [exec_dxMemMap]
    exact s.runMem_burns _
  case fmemAccessDone =>
    rw [exec_fmemAccessDone]
    exact s.runMem_burns _
  case mirrorPush =>
    rw [exec_mirrorPush]
    exact s.runMem_burns _
  case mirrorAck =>
    rw [exec_mirrorAck]
    exact s.runMem_burns _
  case mirrorKeep =>
    rw [exec_mirrorKeep]
    exact s.runMem_burns _
  case mirrorDone =>
    rw [exec_mirrorDone]
    exact s.runMem_burns _
  case resyncPush =>
    rw [exec_resyncPush]
    exact s.runMem_burns _
  case gatherRowsDone =>
    rw [exec_gatherRowsDone]
    exact s.runMem_burns _
  all_goals exact s.run_burns _

theorem State.settled_le {s t : State} (h : s.fuses.le t.fuses) : s.Answers (fun s u => s.fuses.le u.fuses) t.settled :=
  State.answers_next (by rwa [State.onDev_fuses])

theorem exec_kclReplayFail_le (s : State) : s.Answers (fun s t => s.fuses.le t.fuses) (exec .kclReplayFail s) :=
  State.settled_le s.replayFail_le

/-- Settles O6: what each command burns. -/
theorem fusesChangeOnlyBySecurity : Obligations.FusesChangeOnlyBySecurity := by
  intro c s t hc hexec hne
  exact (exec_burns hc s t hexec).only hne

/-- Settles O5: the command in front unburns no fuse, and a step on an empty queue is a tick of the device. -/
theorem stepKeepsFuses : Obligations.StepKeepsFuses := by
  intro s t hstep
  unfold step at hstep
  split at hstep
  next => exact (s.run_burns Dev.tick t hstep).le
  next c rest _ =>
    by_cases hc : c = .kclReplayFail
    · subst hc
      exact exec_kclReplayFail_le { s with pending := rest } t hstep
    · exact (exec_burns hc _ t hstep).le

end Sys2Proof.Machine
end

section
/-! SUPPORT. What the engines take in at the end of a command (R217, R223, R409): the fields it may change. -/

namespace Sys2Proof.Machine

/-- The fields that frames sent by the engines, and the time unit, may change at the end of a command. -/
def settleFlds : List Fld := [.h_mir_cnt, .xbar_mir_stats_sent, .xbar_mir_stats_dropped] ++ countFlds ++ clockFlds

/-- From `d` to `e` no other field has changed, and none of the stores. -/
abbrev Dev.Settles (d e : Dev) : Prop := d.Confined Dev.stores settleFlds e

section
variable (d : Dev)

theorem Dev.count_settles (b : Nat) (e : Ev) (n : Nat) (a : Attr) : d.Settles (d.count b e n a) :=
  (d.count_confined b e n a).mono (by decide)

/-! ### Frames that the device originates -/

theorem Dev.routeOwn_settles (f : Frame) (r : Resolved) : d.Settles (d.routeOwn f r) := by
  unfold Dev.routeOwn
  split
  · exact (Dev.raise_confined ..).after (d.count_settles ..)
  · exact .same (.refl d) rfl rfl

theorem Dev.chance_settles (q mn mx pm : Nat) : d.Settles (d.chance q mn mx pm).1 := by
  unfold Dev.chance
  split
  · exact .refl d
  · split
    · exact .refl d
    · exact d.draw_confined

theorem Dev.redHit_settles (f : Frame) (out : Nat) : d.Settles (d.redHit f out).1 := by
  have hcounted (x : Dev × Bool) (e : Ev) (h : d.Settles x.1) :
      d.Settles (if x.2 then (x.1.count out e 1 f.hdr.attr, true) else (x.1, false)).1 := by
    split
    · exact (Dev.count_settles ..).after h
    · exact h
  unfold Dev.redHit
  refine hcounted (if d.get .xbar_port_mode_svc_mode out = 0 then (d, false) else d.chance _ _ _ _) _ ?_
  split
  · exact .refl d
  · exact d.chance_settles ..

theorem Dev.putPort_settles (f : Frame) (out : Nat) : d.Settles (d.putPort f out) := by
  have hred := d.redHit_settles f out
  unfold Dev.putPort
  generalize d.redHit f out = x at hred ⊢
  obtain ⟨e, hit⟩ := x
  cases hit
  · exact hred.same rfl rfl
  · exact hred

theorem Dev.mirrorCopy_settles (s : Nat) (c : Capture) : d.Settles (d.mirrorCopy s c) := by
  have hsent (e : Dev) (f : Frame) (p : Nat) (h : Hdr) (he : d.Settles e) :
      d.Settles (if (e.newFid.2.incr .xbar_mir_stats_sent s).get .xbar_mir_cfg_dest_kind s = 0
        then (e.newFid.2.incr .xbar_mir_stats_sent s).putPort f p
        else (e.newFid.2.incr .xbar_mir_stats_sent s).routeOwn f ((e.newFid.2.incr .xbar_mir_stats_sent s).resolve none h)) := by
    refine .after (.ite (Dev.putPort_settles ..) (Dev.routeOwn_settles ..)) ((Dev.incr_confined _ (by decide) ..).after ?_)
    exact he.same rfl rfl
  unfold Dev.mirrorCopy
  generalize c.arrival = arr
  cases arr with
  | none => exact hsent d.draw.2 _ _ _ d.draw_confined
  | some n => exact hsent d _ _ _ (.refl d)

theorem Dev.mirrorOffer_settles (s made : Nat) (c : Capture) : d.Settles (d.mirrorOffer s made c).1 := by
  unfold Dev.mirrorOffer
  have hcnt (v : Nat) : d.Settles (d.set .h_mir_cnt s v) := d.set_confined (by decide) ..
  split
  · exact .refl d
  · split
    · exact hcnt _
    · dsimp only
      split
      · exact (Dev.incr_confined _ (by decide) ..).after (hcnt _)
      · exact (Dev.mirrorCopy_settles ..).after (hcnt _)

theorem Dev.launch_settles (f : Frame) : d.Settles (d.launch f) := by
  unfold Dev.launch
  dsimp only
  split
  · exact (Dev.routeOwn_settles ..).after (Dev.mirrorOffer_settles ..)
  · exact d.routeOwn_settles ..

theorem Dev.originate_settles {d e : Dev} {inp : Nat} {h : Hdr} {p : List Nat} (he : d.originate inp h p = some e) : d.Settles e := by
  unfold Dev.originate at he
  split at he
  · cases he
  · obtain rfl := Option.some.inj he
    exact (Dev.launch_settles ..).after (.same (.refl d) rfl rfl)

/-! ### Steps, memory and gathers -/

theorem Dev.onStep_settles (x : Nat) (f : Step → Step) : d.Settles (d.onStep x f) := by
  unfold Dev.onStep
  split
  · exact .same (.refl d) rfl rfl
  · exact .refl d

theorem Dev.seeFrame_settles (h : Hdr) : d.Settles (d.seeFrame h) := by
  unfold Dev.seeFrame
  dsimp only
  split
  · exact .refl d
  · split
    · exact .refl d
    · exact .ite (.refl d) (.ite (.ite (.refl d) (.ite (d.onStep_settles ..) (d.onStep_settles ..)))
        (.ite (.refl d) (d.count_settles ..)))

theorem Dev.partialSent_settles (h : Hdr) (b : List Nat) : d.Settles (d.partialSent h b) := by
  unfold Dev.partialSent
  split
  · exact .refl d
  · exact .ite (.refl d) (d.onStep_settles ..)

theorem Dev.collDrain_settles (n : Nat) : d.Settles (d.collDrain n) := by
  induction n generalizing d with
  | zero => exact .refl d
  | succ n ih =>
    unfold Dev.collDrain
    split
    · exact .refl d
    · split
      next he => exact (ih _).after ((Dev.partialSent_settles ..).after ((originate_settles he).after (.same (.refl d) rfl rfl)))
      next => exact .refl d

theorem Dev.markLost_settles (port : Nat) (h : Hdr) : d.Settles (d.markLost port h) := by
  unfold Dev.markLost
  split
  · exact .refl d
  · have hlost (f : Step → Step) (b : Prop) [Decidable b] (n : Nat) :
        d.Settles (if b then d.onStep h.ctx f else (d.onStep h.ctx f).count blkDevice .COLL_UNDELIVERED n) :=
      .ite (d.onStep_settles ..) ((Dev.count_settles ..).after (d.onStep_settles ..))
    exact .ite (.refl d) (.ite (hlost ..) ((Dev.raise_confined ..).after ((Dev.onStep_settles ..).after (hlost ..))))

theorem Dev.absorb_settles : d.Settles d.absorb := by
  have hseen (d : Dev) (l : List Hdr) : d.Settles { d with collSeen := l } := .same (.refl d) rfl rfl
  have hundeliv (d : Dev) (l : List (Nat × Hdr)) : d.Settles { d with undeliv := l } := .same (.refl d) rfl rfl
  unfold Dev.absorb
  refine .after (.foldl (fun d (u : Nat × Hdr) => d.markLost_settles u.1 u.2) _ _) ((hundeliv ..).after ?_)
  exact (Dev.collDrain_settles ..).after (.after (.foldl Dev.seeFrame_settles _ _) (hseen ..))

theorem Dev.fmemDrain_settles (n : Nat) : d.Settles (d.fmemDrain n) := by
  induction n generalizing d with
  | zero => exact .refl d
  | succ n ih =>
    unfold Dev.fmemDrain
    split
    · exact .refl d
    · split
      next he =>
        refine (ih _).after ?_
        split
        · exact .same ((originate_settles he).after (.same (.refl d) rfl rfl)) rfl rfl
        · exact (originate_settles he).after (.same (.refl d) rfl rfl)
      next => exact .refl d

theorem Dev.setPasses_settles (w : Work) (p : Passes) : d.Settles (d.setPasses w p) := by
  cases w with
  | chunk x k => exact d.onStep_settles ..
  | gather id => exact .same (.refl d) rfl rfl

theorem Dev.wraBind_settles : d.Settles d.wraBind := by
  unfold Dev.wraBind
  refine .foldl (fun d w => ?_) _ d
  split
  · refine .ite (.refl d) ?_
    split
    · exact d.setPasses_settles ..
    · exact .refl d
  · exact .refl d

theorem Dev.settle_settles : d.Settles d.settle := by
  unfold Dev.settle
  have hsubset : clockFlds ⊆ settleFlds := List.subset_append_right _ _
  exact ((Dev.timeCheck_clock ..).mono hsubset).after ((Dev.wraBind_settles _).after ((Dev.fmemDrain_settles ..).after d.absorb_settles))

/-- A field that none of them may change reads at the end of a command as its effect left it. -/
theorem Dev.get_settle_flush_of_notMem {f : Fld} (hf : f ∉ settleFlds) (hlost : f ∉ lostFlds) (i : Nat) :
    d.settle.flush.get f i = d.get f i :=
  (d.settle.flush_get f i hlost).trans (d.settle_settles.fields f i hf)

end

end Sys2Proof.Machine
end

section
/-! SUPPORT. The SEC commands (R532 to R537, R542): what a write of SEC_CMD does, and what the end of a command does. -/

namespace Sys2Proof.Machine

/-! ### A command begins -/

/-- The fields that show a command that has just begun (R542). -/
def Dev.secBegun (d : Dev) (cmd a : Nat) : Dev :=
  d.setMany [(.sec_cmd_status_busy, 0, 1), (.sec_cmd_status_last_cmd, 0, cmd), (.sec_cmd_status_result, 0, 0), (.h_sec_args, 0, a)]

/-- A command refused at its start. -/
def Dev.secRefused (d : Dev) (cmd res : Nat) : Dev :=
  (d.setMany [(.sec_cmd_status_busy, 0, 0), (.sec_cmd_status_last_cmd, 0, cmd), (.sec_cmd_status_result, 0, res)]).raise
    .SEC_CMD_REFUSED d.pathDevice [.h cmd, .h res]

/-- Where an image or bytes are read from, or a report goes (R542). -/
def Dev.secAddr (d : Dev) : Nat := d.get .sec_cmd_addr_addr / 64 * 64

/-- What a command does once it has begun: WRITE and EXTEND read, ATTEST writes. -/
def Dev.secStart (d : Dev) (cmd a : Nat) (e : Dev) : Dev :=
  if cmd = 1 then
    if e.get .sys_straps_boot_src = 1 then e.set .sec_kcl_img_img (slice a 56 1) d.secAddr
    else (e.set .sec_slot_status_state (slice a 56 1) 3).kread .sec reqSEC d.secAddr 4096
  else if cmd = 7 then (e.attestBytes (bit a 54)).1.emit (.kclWrite reqSEC d.secAddr (e.attestBytes (bit a 54)).2)
  else if cmd = 8 then e.kread .sec reqSEC d.secAddr 48
  else e

section
variable {d : Dev} {cmd a : Nat}

theorem Dev.secBegun_straps : (d.secBegun cmd a).get .sys_straps_boot_src = d.get .sys_straps_boot_src :=
  (d.setMany_confined (view := id) (own := [.sec_cmd_status_busy, .sec_cmd_status_last_cmd, .sec_cmd_status_result, .h_sec_args]) _
    (by simp)).fields _ 0 (by decide)

theorem Dev.secCmd_of_accepted (hcmd : cmd ≠ 0) (hidle : d.flag .sec_cmd_status_busy = false) (hok : d.secRefusal cmd a = 0) :
    d.secCmd cmd a = d.secStart cmd a (d.secBegun cmd a) := by
  unfold Dev.secCmd
  rw [if_neg hcmd, hidle, if_neg (by decide), hok]
  rfl

theorem Dev.secEnd_of_refused (d : Dev) (cmd : Nat) {res : Nat} (h : res ≠ 0) : d.secEnd cmd res = d.secRefused cmd res := by
  have hpath : (d.setMany [(.sec_cmd_status_busy, 0, 0), (.sec_cmd_status_last_cmd, 0, cmd), (.sec_cmd_status_result, 0, res)]).pathDevice
      = d.pathDevice :=
    (d.setMany_confined (view := id) (own := [.sec_cmd_status_busy, .sec_cmd_status_last_cmd, .sec_cmd_status_result]) _
      (by simp)).fields.pathDevice (by decide) 0 0
  unfold Dev.secEnd
  dsimp only
  rw [if_neg h, hpath]
  rfl

theorem Dev.secCmd_of_refused {res : Nat} (hcmd : cmd ≠ 0) (hidle : d.flag .sec_cmd_status_busy = false)
    (hres : d.secRefusal cmd a = res) (hne : res ≠ 0) : d.secCmd cmd a = d.secRefused cmd res := by
  rw [← d.secEnd_of_refused cmd hne]
  unfold Dev.secCmd
  rw [if_neg hcmd, hidle, if_neg (by decide), hres]
  dsimp only
  split
  · exact absurd rfl hne
  · rfl

theorem Dev.secCmd_of_busy (hcmd : cmd ≠ 0) (hbusy : d.flag .sec_cmd_status_busy = true) :
    d.secCmd cmd a = (d.raise .SEC_CMD_REFUSED d.pathDevice [.h cmd, .h 1]).set .sec_cmd_status_result 0 1 := by
  unfold Dev.secCmd
  rw [if_neg hcmd, if_pos hbusy]

/-! ### The refusals of each command (R536) -/

theorem Dev.secRefusal_write : d.secRefusal 1 a = if d.slotRuns (slice a 56 1) then 2 else 0 := rfl

theorem Dev.secRefusal_verify : d.secRefusal 2 a = if d.slotRuns (slice a 56 1) then 2 else 0 := rfl

theorem Dev.secRefusal_prefer : d.secRefusal 3 a =
    if d.get .sec_slot_status_state (slice a 56 1) ≠ 1 then 5
    else if revGap (d.get .sec_slot_status_link_rev (slice a 56 1)) (d.get .sys_boot_status_link_rev) then 6 else 0 := rfl

theorem Dev.secRefusal_confirm : d.secRefusal 4 a = if d.flag .sys_boot_status_trial then 0 else 7 := rfl

/-- SVN_COMMIT would leave the other valid slot below the count (R532). -/
def Dev.strands (d : Dev) (a : Nat) : Prop :=
  d.get .sec_slot_status_state (1 - d.get .sys_boot_status_running_slot) = 1 ∧
    d.get .sec_slot_status_svn (1 - d.get .sys_boot_status_running_slot) < d.get .sys_boot_status_svn ∧ bit a 55 = false

theorem Dev.secRefusal_svn_of_trial (h : d.flag .sys_boot_status_trial = true) : d.secRefusal 5 a = 8 := if_pos h

theorem Dev.secRefusal_svn_of_strands (h : d.flag .sys_boot_status_trial = false) (hstrands : d.strands a) : d.secRefusal 5 a = 9 :=
  (if_neg (by simp [h])).trans (if_pos hstrands)

theorem Dev.secRefusal_svn_of_allowed (h : d.flag .sys_boot_status_trial = false) (hallow : bit a 55 = true) :
    d.secRefusal 5 a = 0 :=
  (if_neg (by simp [h])).trans (if_neg (by simp [hallow]))

/-- The key index of its kind with which the running image was verified (R533). -/
def runKey (a : Nat) : Fld := if bit a 53 then .h_run_lms else .h_run_ecdsa

theorem Dev.secRefusal_revoke : d.secRefusal 6 a =
    if d.flag .h_run_valid = true ∧ slice a 48 2 = d.get (runKey a) then 10 else 0 := rfl

theorem Dev.secRefusal_attest : d.secRefusal 7 a = 0 := rfl

theorem Dev.secRefusal_extend : d.secRefusal 8 a = if d.measLog.length ≥ 64 then 12 else 0 := rfl

theorem revGap_iff (x y : Nat) : revGap x y = true ↔ x > y + 1 ∨ y > x + 1 := by simp [revGap]
end

/-! ### The write of a command -/

section
variable {s : State} {c : Instr} {m : Mark} {cmd : Nat} {v : BitVec 60}

/-- `c` is the write of SEC_CMD with command `cmd`. -/
structure IsSecWrite (c : Instr) (m : Mark) (cmd : Nat) (v : BitVec 60) (s : State) : Prop where
  writes : writeOf c = some (m, rowSEC_CMD, 0, cmd * 2 ^ 60 + v.toNat)
  runs : exec c s = s.secWrite m cmd v.toNat

theorem IsSecWrite.ends (h : IsSecWrite c m cmd v s) (hacc : s.dev.accepts c = true) :
    exec c s = .next (s.ends (s.dev.secCmd cmd v.toNat).ok) := by
  rw [h.runs]
  exact State.run_hostWrite_of_accepts h.writes hacc rfl

theorem IsSecWrite.begins (h : IsSecWrite c m cmd v s) (hacc : s.dev.accepts c = true) (hcmd : cmd ≠ 0)
    (hidle : s.dev.flag .sec_cmd_status_busy = false) (hok : s.dev.secRefusal cmd v.toNat = 0) :
    exec c s = .next (s.ends (s.dev.secStart cmd v.toNat (s.dev.secBegun cmd v.toNat)).ok) := by
  rw [h.ends hacc, Dev.secCmd_of_accepted hcmd hidle hok]

theorem IsSecWrite.refused (h : IsSecWrite c m cmd v s) (hacc : s.dev.accepts c = true) (hcmd : cmd ≠ 0)
    (hidle : s.dev.flag .sec_cmd_status_busy = false) {res : Nat} (hres : s.dev.secRefusal cmd v.toNat = res) (hne : res ≠ 0) :
    exec c s = .next (s.ends (s.dev.secRefused cmd res).ok) := by
  rw [h.ends hacc, Dev.secCmd_of_refused hcmd hidle hres hne]
end

theorem isSecWrite_revoke (m : Mark) (v : BitVec 60) (s : State) : IsSecWrite (.secCmdRevoke m v) m 6 v s := ⟨rfl, rfl⟩

/-! ### The end of a command -/

section
variable {s : State}

/-- A command that runs ends as its outcome on the whole state says. -/
theorem exec_secCmdDone (r : SecOutcome) (s : State) : exec (.secCmdDone r) s = (s.secDone r).done := rfl

theorem State.secDone_svn {r : SecOutcome} (hbusy : s.dev.flag .sec_cmd_status_busy = true)
    (hlast : s.dev.get .sec_cmd_status_last_cmd = 5) : s.secDone r = s.svnCommit r.burned.toNat := by
  simp [State.secDone, hbusy, hlast]

theorem State.secDone_revoke {r : SecOutcome} (hbusy : s.dev.flag .sec_cmd_status_busy = true)
    (hlast : s.dev.get .sec_cmd_status_last_cmd = 6) :
    s.secDone r = s.revoke (s.dev.get .h_sec_args) (r.burned != 0) := by
  simp [State.secDone, hbusy, hlast]

/-- A burn of a revoke bit that verifies. -/
theorem State.revoke_burned (s : State) (a : Nat) :
    s.revoke a true = { s with dev := s.dev.secEnd 6 0, fuses := s.fuses.revoked (bit a 53) (slice a 48 2) } := rfl

theorem exec_revoke_burned {r : SecOutcome} (hbusy : s.dev.flag .sec_cmd_status_busy = true)
    (hlast : s.dev.get .sec_cmd_status_last_cmd = 6) (hburn : r.burned ≠ 0) :
    exec (.secCmdDone r) s = .next { s.endsX (s.dev.secEnd 6 0) with
      fuses := s.fuses.revoked (bit (s.dev.get .h_sec_args) 53) (slice (s.dev.get .h_sec_args) 48 2) } := by
  rw [exec_secCmdDone, State.secDone_revoke hbusy hlast, bne_iff_ne.mpr hburn, State.revoke_burned]
  simp only [State.done, State.onDev, State.endsX]
end

/-! ### SEC_FUSE (R542) -/

/-- SEC_FUSE shows the low bits of each kind of fuse. -/
theorem Dev.readReg_SEC_FUSE (d : Dev) (fu : Fuses) : d.readReg fu rowSEC_FUSE 0 =
    fu.svn % 2 ^ 8 * 2 ^ 16 + fu.lmsRevoked % 2 ^ 4 * 2 ^ 12 + fu.ecdsaRevoked % 2 ^ 4 * 2 ^ 8 + fu.lmsKeys % 2 ^ 4 * 2 ^ 4 +
      fu.ecdsaKeys % 2 ^ 4 := by
  simp [Dev.readReg, rowSEC_FUSE, Dev.live, Dev.liveBase]

/-- Settles O58: the refusal of REVOKE, its burn, and the bits SEC_FUSE shows. -/
theorem revokeBurnsTheBitOfItsKey : Obligations.RevokeBurnsTheBitOfItsKey := by
  intro s
  have hrefused (m : Mark) (v : BitVec 60) (f : Fld) (hacc : s.dev.accepts (.secCmdRevoke m v) = true)
      (hidle : s.dev.flag .sec_cmd_status_busy = false) (hkey : runKey v.toNat = f) (hrun : s.dev.flag .h_run_valid = true)
      (hk : slice v.toNat 48 2 = s.dev.get f) :
      exec (.secCmdRevoke m v) s = .next (s.ends (s.dev.secRefused 6 10).ok) := by
    subst hkey
    exact (isSecWrite_revoke m v s).refused hacc (by decide) hidle (Dev.secRefusal_revoke.trans (if_pos ⟨hrun, hk⟩)) (by decide)
  have hbegins (m : Mark) (v : BitVec 60) (f : Fld) (hacc : s.dev.accepts (.secCmdRevoke m v) = true)
      (hidle : s.dev.flag .sec_cmd_status_busy = false) (hkey : runKey v.toNat = f)
      (hk : s.dev.flag .h_run_valid = true → slice v.toNat 48 2 ≠ s.dev.get f) :
      exec (.secCmdRevoke m v) s = .next (s.ends (s.dev.secBegun 6 v.toNat).ok) := by
    subst hkey
    exact (isSecWrite_revoke m v s).begins hacc (by decide) hidle (Dev.secRefusal_revoke.trans (if_neg (fun h => hk h.1 h.2)))
  have hresult (d : Dev) : ((d.secEnd 6 0).settle.flush).get .sec_cmd_status_result = 0 :=
    (Dev.get_settle_flush_of_notMem _ (by decide) (by decide) 0).trans (Dev.get_set_same ..)
  refine ⟨?_, ?_, ?_, ?_, ?_, ?_, ?_, ?_⟩
  · rintro m v hacc ⟨hidle, hrun, hecdsa, hk⟩
    exact hrefused m v _ hacc hidle (if_neg (by simp [hecdsa])) hrun hk
  · rintro m v hacc ⟨hidle, hrun, hlms, hk⟩
    exact hrefused m v _ hacc hidle (if_pos hlms) hrun hk
  · rintro m v hacc ⟨hidle, hk, hecdsa⟩
    exact hbegins m v _ hacc hidle (if_neg (by simp [hecdsa])) hk
  · rintro m v hacc ⟨hidle, hk, hlms⟩
    exact hbegins m v _ hacc hidle (if_pos hlms) hk
  · rintro r ⟨hbusy, hlast, hecdsa, hburn⟩
    refine ⟨_, exec_revoke_burned hbusy hlast hburn, ?_, ?_⟩
    · rw [hecdsa]
      rfl
    · simp only [State.endsX]
      exact hresult s.dev
  · rintro r ⟨hbusy, hlast, hlms, hburn⟩
    refine ⟨_, exec_revoke_burned hbusy hlast hburn, ?_, ?_⟩
    · rw [hlms]
      rfl
    · simp only [State.endsX]
      exact hresult s.dev
  · intro k
    rw [Dev.readReg_SEC_FUSE]
    fin_cases k <;> simp only [bit, Nat.reduceAdd, Nat.reducePow] <;> constructor <;> congr 1 <;> omega
  · intro x
    exact Nat.mod_lt _ (by decide)

end Sys2Proof.Machine
end

section
/-! SUPPORT. Each SEC command from its start to its end (R531 to R537, R542). -/

namespace Sys2Proof.Machine

section
variable {s : State} {r : SecOutcome}

/-! ### Ends of the other commands -/

/-- A command that runs is the one that SEC_CMD_STATUS shows. -/
def Dev.secRuns (d : Dev) (cmd : Nat) : Prop := d.flag .sec_cmd_status_busy = true ∧ d.get .sec_cmd_status_last_cmd = cmd

theorem exec_secCmdDone_of_dev {e : Dev} (h : s.secDone r = { s with dev := e }) : exec (.secCmdDone r) s = .next (s.endsX e) := by
  rw [exec_secCmdDone, h]
  simp only [State.done, State.onDev, State.endsX]

/-- The slot a command is about. -/
def Dev.secSlot (d : Dev) : Nat := slice (d.get .h_sec_args) 56 1

theorem State.secDone_write (hruns : s.dev.secRuns 1) (hsrc : s.dev.get .sys_straps_boot_src ≠ 1) {d : Dev}
    (hread : s.dev.takeRead .sec = some d) : s.secDone r = { s with dev :=
      (if !r.kclOk then (d.slotState s.dev.secSlot 1).secEnd 1 3
      else if !r.flashOk then (d.slotState s.dev.secSlot 1).secEnd 1 4
      else (d.verifySlot s.fuses s.dev.secSlot r.img).secEnd 1 0) } := by
  obtain ⟨hbusy, hlast⟩ := hruns
  simp [State.secDone, hbusy, hlast, State.onDev, hsrc, Dev.secRead, hread, Dev.secSlot]

theorem State.secDone_verify (hruns : s.dev.secRuns 2) :
    s.secDone r = { s with dev := (s.dev.verifySlot s.fuses s.dev.secSlot r.img).secEnd 2 0 } := by
  obtain ⟨hbusy, hlast⟩ := hruns
  simp [State.secDone, hbusy, hlast, State.onDev, Dev.secSlot]

theorem State.secDone_prefer (hruns : s.dev.secRuns 3) :
    s.secDone r = { s with dev := (s.dev.bootControl s.dev.secSlot true r.storeOk).secEnd 3 0 } := by
  obtain ⟨hbusy, hlast⟩ := hruns
  simp [State.secDone, hbusy, hlast, State.onDev, Dev.secSlot]

theorem State.secDone_confirm (hruns : s.dev.secRuns 4) : s.secDone r = { s with dev :=
    ((s.dev.bootControl (s.dev.get .sys_boot_status_running_slot) false r.storeOk).set .sys_boot_status_trial 0 0).secEnd 4 0 } := by
  obtain ⟨hbusy, hlast⟩ := hruns
  simp [State.secDone, hbusy, hlast, State.onDev]

theorem State.secDone_attest (hruns : s.dev.secRuns 7) :
    s.secDone r = { s with dev := s.dev.secEnd 7 (if r.kclOk then 0 else 13) } := by
  obtain ⟨hbusy, hlast⟩ := hruns
  simp [State.secDone, hbusy, hlast, State.onDev]

theorem State.secDone_extend (hruns : s.dev.secRuns 8) {d : Dev} (hread : s.dev.takeRead .sec = some d) :
    s.secDone r = { s with dev :=
      if r.kclOk then ({ d with measLog := d.measLog ++ [r.bytes.toList.map (·.toNat)] } : Dev).secEnd 8 0 else d.secEnd 8 3 } := by
  obtain ⟨hbusy, hlast⟩ := hruns
  simp [State.secDone, hbusy, hlast, State.onDev, Dev.secRead, hread]

theorem State.svnCommit_reached {n : Nat} (hle : s.fuses.svn ≤ s.dev.get .sys_boot_status_svn)
    (hreach : s.dev.get .sys_boot_status_svn ≤ s.fuses.svn + n) : s.svnCommit n = { s with
      dev := (s.dev.secEnd 5 0).raise .SVN_COMMITTED s.dev.pathDevice [.h s.fuses.svn, .h (s.dev.get .sys_boot_status_svn)],
      fuses := { s.fuses with svn := s.dev.get .sys_boot_status_svn } } := by
  have hnew : max s.fuses.svn (min (s.dev.get .sys_boot_status_svn) (s.fuses.svn + n)) = s.dev.get .sys_boot_status_svn := by omega
  unfold State.svnCommit
  dsimp only
  rw [hnew]
  simp [State.onDev]

theorem State.svnCommit_short {n : Nat} (hshort : s.fuses.svn + n < s.dev.get .sys_boot_status_svn) : s.svnCommit n = { s with
      dev := (s.dev.secEnd 5 11).raise .FUSE_FAIL s.dev.pathDevice [.h (s.fuses.svn + n)],
      fuses := { s.fuses with svn := s.fuses.svn + n } } := by
  have hnew : max s.fuses.svn (min (s.dev.get .sys_boot_status_svn) (s.fuses.svn + n)) = s.fuses.svn + n := by omega
  unfold State.svnCommit
  dsimp only
  rw [hnew]
  simp [State.onDev, Nat.not_le.mpr hshort]

theorem exec_svnCommit_of {n : Nat} {e : Dev} {fu : Fuses} (hruns : s.dev.secRuns 5) (hn : r.burned.toNat = n)
    (h : s.svnCommit n = { s with dev := e, fuses := fu }) :
    exec (.secCmdDone r) s = .next { s.endsX e with fuses := fu } := by
  obtain ⟨hbusy, hlast⟩ := hruns
  rw [exec_secCmdDone, State.secDone_svn hbusy hlast, hn, h]
  simp only [State.done, State.onDev, State.endsX]

theorem exec_revoke_failed (hruns : s.dev.secRuns 6) (hburn : r.burned = 0) : exec (.secCmdDone r) s =
    .next (s.endsX ((s.dev.draw.2.secEnd 6 11).raise .FUSE_FAIL s.dev.pathDevice [.h s.dev.draw.1])) := by
  obtain ⟨hbusy, hlast⟩ := hruns
  refine exec_secCmdDone_of_dev ?_
  rw [State.secDone_revoke hbusy hlast, hburn]
  rfl
end

/-! ### Starts of the other commands -/

section
variable (m : Mark) (v : BitVec 60) (s : State)

theorem isSecWrite_nop : IsSecWrite (.secCmdNop m v) m 0 v s := ⟨rfl, rfl⟩
theorem isSecWrite_write : IsSecWrite (.secCmdWrite m v) m 1 v s := ⟨rfl, rfl⟩
theorem isSecWrite_verify : IsSecWrite (.secCmdVerify m v) m 2 v s := ⟨rfl, rfl⟩
theorem isSecWrite_preferTrial : IsSecWrite (.secCmdPreferTrial m v) m 3 v s := ⟨rfl, rfl⟩
theorem isSecWrite_confirm : IsSecWrite (.secCmdConfirm m v) m 4 v s := ⟨rfl, rfl⟩
theorem isSecWrite_svnCommit : IsSecWrite (.secCmdSvnCommit m v) m 5 v s := ⟨rfl, rfl⟩
theorem isSecWrite_attest : IsSecWrite (.secCmdAttest m v) m 7 v s := ⟨rfl, rfl⟩
theorem isSecWrite_extend : IsSecWrite (.secCmdExtend m v) m 8 v s := ⟨rfl, rfl⟩
end

/-- Settles O53, command by command: the writes that begin or are refused, then the ends. -/
theorem securityCommands : Obligations.SecurityCommands := by
  intro s
  refine ⟨?nop, ?write, ?writeKcl, ?writeRuns, ?verify, ?verifyBusy, ?prefer, ?preferInvalid, ?preferGap, ?confirmNone, ?confirm,
    ?svn, ?svnTrial, ?svnStrands, ?revokeEcdsa, ?revokeLms, ?attest, ?extend, ?extendFull, ?writeDone, ?writeFlash, ?writeRead,
    ?verifyDone, ?preferDone, ?confirmDone, ?svnDone, ?svnShort, ?ecdsaDone, ?lmsDone, ?revokeFails, ?attestDone, ?extendDone,
    ?extendFails⟩
  case nop => exact fun m v hacc => (isSecWrite_nop m v s).ends hacc
  case write =>
    rintro m v hacc ⟨hidle, hslot, hsrc⟩
    rw [(isSecWrite_write m v s).begins hacc (by decide) hidle (Dev.secRefusal_write.trans (by rw [hslot]; rfl)),
      Dev.secStart, if_pos rfl, Dev.secBegun_straps, if_neg hsrc]
    rfl
  case writeKcl =>
    rintro m v hacc ⟨hidle, hslot, hsrc⟩
    rw [(isSecWrite_write m v s).begins hacc (by decide) hidle (Dev.secRefusal_write.trans (by rw [hslot]; rfl)),
      Dev.secStart, if_pos rfl, Dev.secBegun_straps, if_pos hsrc]
    rfl
  case writeRuns =>
    rintro m v hacc ⟨hidle, hslot⟩
    exact (isSecWrite_write m v s).refused hacc (by decide) hidle (Dev.secRefusal_write.trans (if_pos hslot)) (by decide)
  case verify =>
    rintro m v hacc ⟨hidle, hslot⟩
    exact (isSecWrite_verify m v s).begins hacc (by decide) hidle (Dev.secRefusal_verify.trans (by rw [hslot]; rfl))
  case verifyBusy =>
    intro m v hacc hbusy
    rw [(isSecWrite_verify m v s).ends hacc, Dev.secCmd_of_busy (by decide) hbusy]
  case prefer =>
    rintro m v hacc ⟨hidle, hstate, hle, hge⟩
    refine (isSecWrite_preferTrial m v s).begins hacc (by decide) hidle (Dev.secRefusal_prefer.trans ?_)
    rw [if_neg (not_not_intro hstate), if_neg]
    rw [revGap_iff]
    omega
  case preferInvalid =>
    rintro m v hacc ⟨hidle, hstate⟩
    exact (isSecWrite_preferTrial m v s).refused hacc (by decide) hidle (Dev.secRefusal_prefer.trans (if_pos hstate)) (by decide)
  case preferGap =>
    rintro m v hacc ⟨hidle, hstate, hgap⟩
    refine (isSecWrite_preferTrial m v s).refused hacc (by decide) hidle (Dev.secRefusal_prefer.trans ?_) (by decide)
    rw [if_neg (not_not_intro hstate), if_pos]
    rw [revGap_iff]
    omega
  case confirmNone =>
    rintro m v hacc ⟨hidle, htrial⟩
    exact (isSecWrite_confirm m v s).refused hacc (by decide) hidle (Dev.secRefusal_confirm.trans (by rw [htrial]; rfl)) (by decide)
  case confirm =>
    rintro m v hacc ⟨hidle, htrial⟩
    exact (isSecWrite_confirm m v s).begins hacc (by decide) hidle (Dev.secRefusal_confirm.trans (if_pos htrial))
  case svn =>
    rintro m v hacc ⟨hidle, htrial, hallow⟩
    exact (isSecWrite_svnCommit m v s).begins hacc (by decide) hidle (Dev.secRefusal_svn_of_allowed htrial hallow)
  case svnTrial =>
    rintro m v hacc ⟨hidle, htrial⟩
    exact (isSecWrite_svnCommit m v s).refused hacc (by decide) hidle (Dev.secRefusal_svn_of_trial htrial) (by decide)
  case svnStrands =>
    rintro m v hacc ⟨hidle, htrial, hallow, hvalid, hbelow⟩
    exact (isSecWrite_svnCommit m v s).refused hacc (by decide) hidle (Dev.secRefusal_svn_of_strands htrial ⟨hvalid, hbelow, hallow⟩)
      (by decide)
  case revokeEcdsa =>
    rintro m v hacc ⟨hidle, hecdsa, hk⟩
    have hkey : runKey v.toNat = .h_run_ecdsa := if_neg (by simp [hecdsa])
    exact (isSecWrite_revoke m v s).begins hacc (by decide) hidle (Dev.secRefusal_revoke.trans (if_neg (fun h => hk (hkey ▸ h.2))))
  case revokeLms =>
    rintro m v hacc ⟨hidle, hlms, hk⟩
    have hkey : runKey v.toNat = .h_run_lms := if_pos hlms
    exact (isSecWrite_revoke m v s).begins hacc (by decide) hidle (Dev.secRefusal_revoke.trans (if_neg (fun h => hk (hkey ▸ h.2))))
  case attest =>
    intro m v hacc hidle
    exact (isSecWrite_attest m v s).begins hacc (by decide) hidle Dev.secRefusal_attest
  case extend =>
    rintro m v hacc ⟨hidle, hroom⟩
    exact (isSecWrite_extend m v s).begins hacc (by decide) hidle (Dev.secRefusal_extend.trans (if_neg (Nat.not_le.mpr hroom)))
  case extendFull =>
    rintro m v hacc ⟨hidle, hfull⟩
    exact (isSecWrite_extend m v s).refused hacc (by decide) hidle (Dev.secRefusal_extend.trans (if_pos hfull)) (by decide)
  case writeDone =>
    rintro r d ⟨hbusy, hlast, hsrc, hread, hkcl, hflash⟩
    refine exec_secCmdDone_of_dev ((State.secDone_write ⟨hbusy, hlast⟩ hsrc hread).trans ?_)
    rw [hkcl, hflash]
    rfl
  case writeFlash =>
    rintro r d ⟨hbusy, hlast, hsrc, hread, hkcl, hflash⟩
    refine exec_secCmdDone_of_dev ((State.secDone_write ⟨hbusy, hlast⟩ hsrc hread).trans ?_)
    rw [hkcl, hflash]
    rfl
  case writeRead =>
    rintro r d ⟨hbusy, hlast, hsrc, hread, hkcl⟩
    refine exec_secCmdDone_of_dev ((State.secDone_write ⟨hbusy, hlast⟩ hsrc hread).trans ?_)
    rw [hkcl]
    rfl
  case verifyDone =>
    rintro r ⟨hbusy, hlast⟩
    exact exec_secCmdDone_of_dev (State.secDone_verify ⟨hbusy, hlast⟩)
  case preferDone =>
    rintro r ⟨hbusy, hlast, hstore⟩
    refine exec_secCmdDone_of_dev ((State.secDone_prefer ⟨hbusy, hlast⟩).trans ?_)
    rw [hstore]
    rfl
  case confirmDone =>
    rintro r ⟨hbusy, hlast, hstore⟩
    refine exec_secCmdDone_of_dev ((State.secDone_confirm ⟨hbusy, hlast⟩).trans ?_)
    rw [hstore]
    rfl
  case svnDone =>
    rintro r ⟨hbusy, hlast, hle, hreach⟩
    exact exec_svnCommit_of ⟨hbusy, hlast⟩ rfl (State.svnCommit_reached hle hreach)
  case svnShort =>
    rintro r ⟨hbusy, hlast, hshort⟩
    exact exec_svnCommit_of ⟨hbusy, hlast⟩ rfl (State.svnCommit_short hshort)
  case ecdsaDone =>
    rintro r ⟨hbusy, hlast, hecdsa, hburn⟩
    rw [exec_revoke_burned hbusy hlast hburn, hecdsa, Fuses.revoked, if_neg (by decide)]
  case lmsDone =>
    rintro r ⟨hbusy, hlast, hlms, hburn⟩
    rw [exec_revoke_burned hbusy hlast hburn, hlms, Fuses.revoked, if_pos rfl]
  case revokeFails => exact fun r h => exec_revoke_failed ⟨h.1, h.2.1⟩ h.2.2
  case attestDone =>
    rintro r ⟨hbusy, hlast, hkcl⟩
    refine exec_secCmdDone_of_dev ((State.secDone_attest ⟨hbusy, hlast⟩).trans ?_)
    rw [hkcl]
    rfl
  case extendDone =>
    rintro r d ⟨hbusy, hlast, hread, hkcl⟩
    refine exec_secCmdDone_of_dev ((State.secDone_extend ⟨hbusy, hlast⟩ hread).trans ?_)
    rw [hkcl]
    rfl
  case extendFails =>
    rintro r d ⟨hbusy, hlast, hread, hkcl⟩
    refine exec_secCmdDone_of_dev ((State.secDone_extend ⟨hbusy, hlast⟩ hread).trans ?_)
    rw [hkcl]
    rfl

end Sys2Proof.Machine
end

section
/-! SUPPORT. Two statements that fail: an entry's index wider than its register (R431), and the end of a window (R495). -/

namespace Sys2Proof.Machine

/-! ### An index of 65,536 -/

/-- A state that no command leads to, since head has sixteen bits, but that the statement covers: queue 0 is enabled, and its buffer
holds a malformed entry with index 65,536. -/
def malformedAt65536 : State :=
  { dev := { (({} : Dev).set .csq_q_cfg_enable 0 1) with queues := ⟨[(0, { buf := [(65536, [8])] })]⟩ } }

theorem malformedAt65536_last_entry : (malformedAt65536.dev.entryStart 0).get .csq_q_last_entry 0 = 0 := by decide +kernel

theorem exec_entryStart (q : Fin 512) (s : State) : exec (.entryStart q) s = .next (s.endsX (s.dev.entryStart q)) := rfl

/-- Refutes O56: the index of the failed entry is shown in sixteen bits. In `malformedAt65536` the entry at index 65,536 fails, and
last_entry reads 0. -/
theorem not_malformedEntriesFailWithEncoding : ¬ Obligations.MalformedEntriesFailWithEncoding := by
  intro h
  obtain ⟨hfails, -⟩ := h malformedAt65536
  obtain ⟨e, he, ⟨-, -, -, hlast, -⟩, -⟩ := hfails 0 65536 [8] (by decide +kernel) (.inr (.inr (.inl (by decide))))
  have hends : (malformedAt65536.dev.entryStart 0).settle.flush = e.settle.flush := by
    have hdev := congrArg State.dev (Host.Outcome.next.inj ((exec_entryStart 0 malformedAt65536).symm.trans he))
    rwa [State.endsX_dev, State.endsX_dev] at hdev
  have hzero : e.get .csq_q_last_entry 0 = 0 := by
    rw [← e.get_settle_flush_of_notMem (by decide) (by decide), ← hends,
      Dev.get_settle_flush_of_notMem _ (by decide) (by decide), malformedAt65536_last_entry]
  exact absurd (hlast.symm.trans hzero) (by decide)

/-! ### A window that ends between two ticks -/

/-- The fabric time is 1,005 ns, and windows last 1 us. -/
def windowAt1005 : State :=
  { dev := (({} : Dev).set .perf_win_ctrl_window_us 0 1).set .h_local 0 1005 }

theorem windowAt1005_fabricNs : windowAt1005.dev.fabricNs = 1005 := by decide +kernel

theorem windowAt1005_end : windowAt1005.dev.windowLatch.get .h_win_end = 1000 := by decide +kernel

theorem exec_windowLatch {s : State} (h : s.dev.get .perf_win_ctrl_window_us ≠ 0) :
    exec .windowLatch s = .next (s.ends s.dev.windowLatch) := by
  change s.run (fun d => if d.get .perf_win_ctrl_window_us = 0 then d else d.windowLatch) = _
  rw [State.run, State.onDev, if_neg h]
  rfl

/-- Refutes O51: a window ends at a multiple of window_us (R495), not when it is latched. In `windowAt1005` the latch shows an end at
1,000 ns while the fabric time is 1,005 ns. -/
theorem not_countersWindowsAndRecords : ¬ Obligations.CountersWindowsAndRecords := by
  intro h
  obtain ⟨-, -, -, -, -, -, -, hwindow, -⟩ := h windowAt1005
  have hlasts : windowAt1005.dev.get .perf_win_ctrl_window_us ≠ 0 := by decide +kernel
  obtain ⟨e, he, ⟨-, hend⟩, -⟩ := hwindow hlasts
  rw [exec_windowLatch hlasts] at he
  have hends : windowAt1005.dev.windowLatch.flush = e.flush := by
    have hdev := congrArg State.dev (Host.Outcome.next.inj he)
    simpa only [State.ends] using hdev
  have hown : Fld.h_win_end ∉ lostFlds := by decide
  have hshown : e.get .h_win_end = 1000 := by
    rw [← e.flush_get _ _ hown, ← hends, Dev.flush_get _ _ _ hown, windowAt1005_end]
  rw [windowAt1005_fabricNs] at hend
  exact absurd (hend.symm.trans hshown) (by decide)

end Sys2Proof.Machine
end

section
/-! SUPPORT. Snapshots of the counters (R497, R498): what one that is taken copies, and what one that is missed leaves. -/

namespace Sys2Proof.Machine

/-! ### Copies of many indexes at once -/

/-- Of the keys of a list, those listed whose value differs from what an unlisted key reads as. -/
theorem lookupKey_differing {α : Type} [DecidableEq α] (l : List Nat) (v r : Nat → α) (i : Nat) :
    lookupKey i (l.filterMap (fun k => if v k = r k then none else some (k, v k))) =
      if i ∈ l ∧ v i ≠ r i then some (v i) else none := by
  induction l with
  | nil => simp [lookupKey]
  | cons k l ih =>
    rw [List.filterMap_cons]
    by_cases hkr : v k = r k
    · have hmem : (i ∈ k :: l ∧ v i ≠ r i) ↔ i ∈ l ∧ v i ≠ r i := by
        rw [List.mem_cons]
        exact ⟨fun ⟨hi, hne⟩ => ⟨hi.resolve_left (fun h => hne (h ▸ hkr)), hne⟩, fun ⟨hi, hne⟩ => ⟨.inr hi, hne⟩⟩
      simp only [hkr, if_true, hmem, ih]
    · by_cases hki : k = i
      · subst hki
        simp [hkr, lookupKey]
      · simp [hkr, lookupKey, hki, ih, Ne.symm hki]

/-- An index below the bound holds what it was set to, in the width of the field. -/
theorem Dev.bulk_get (d : Dev) (f : Fld) {n i : Nat} (hi : i < n) (p : Nat → Bool) (g : Nat → Nat) :
    (d.bulk f n p g).get f i = (if p i then g i else d.get f i) % 2 ^ f.width := by
  have hlook := lookupKey_differing (List.range n) (fun k => (if p k then g k else d.get f k) % 2 ^ f.width) f.reset i
  change (((d.bulk f n p g).flds.get f.ctorIdx {}).get i (f.reset i)) = _
  rw [Dev.bulk, SMap.get_set_same]
  refine (congrArg (Option.getD · (f.reset i)) hlook).trans ?_
  generalize (if p i then g i else d.get f i) % 2 ^ f.width = v
  by_cases hv : v = f.reset i
  · rw [if_neg (fun h => h.2 hv), hv]
    rfl
  · rw [if_pos ⟨List.mem_range.mpr hi, hv⟩]
    rfl

theorem Dev.bulk_confined {view : Dev → Dev} {own : List Fld} (d : Dev) {f : Fld} (hf : f ∈ own) (n : Nat) (p : Nat → Bool)
    (g : Nat → Nat) : d.Confined view own (d.bulk f n p g) :=
  ⟨fun h i hh => by
    have hne : h.ctorIdx ≠ f.ctorIdx := fun hc => hh (by rwa [Fld.ctorIdx_inj hc])
    simp only [Dev.get, Dev.bulk, SMap.get_set_other _ hne], rfl⟩

/-! ### What a change of other fields leaves in view -/

section
variable {d e : Dev} {own : List Fld} (h : d.Keeps e own)
include h

theorem Dev.Keeps.domainOn (hown : ∀ f ∈ [Fld.sys_pd_status_on, .h_rail_out], f ∉ own) (k : Nat) : e.domainOn k = d.domainOn k := by
  rw [Dev.domainOn, Dev.bitOf, h _ _ (hown .sys_pd_status_on (by decide)), h _ _ (hown .h_rail_out (by decide)), Dev.domainOn,
    Dev.bitOf]

/-- The fields that the frame of a record is made of. -/
def stampFlds : List Fld := .time_status_degraded :: fabricFlds

/-- A record raised later in the same command is the same record, where the events before it are the same. -/
theorem Dev.Keeps.raise_events (hown : ∀ f ∈ stampFlds, f ∉ own) (hevents : e.events = d.events) (c : RecCode) (p : Nat)
    (l : List Item) (job : Nat) : (e.raise c p l job).events = (d.raise c p l job).events := by
  have htime : e.fabricNs = d.fabricNs := by
    rw [Dev.fabricNs, h.fabric32 (fun f hf => hown f (List.mem_cons_of_mem _ hf)), Dev.fabricNs]
  have hdegraded : e.flag .time_status_degraded = d.flag .time_status_degraded := by
    rw [Dev.flag, h _ _ (hown _ List.mem_cons_self), Dev.flag]
  simp only [Dev.raise, Dev.raiseRaw, htime, hdegraded, hevents]
end

/-! ### A snapshot that is missed -/

/-- The counts of missed snapshots. -/
def missFlds : List Fld := [.perf_dump_status_snaps_missed, .h_dump_miss]

section
variable (d : Dev)

theorem Dev.snapMiss_confined {view : Dev → Dev} (n : Nat) : d.Confined view missFlds (d.snapMiss n) :=
  (Dev.set_confined _ (by decide) ..).after (d.set_confined (by decide) ..)

/-- The count of missed snapshots below its top. -/
theorem Dev.snapMiss_count {n : Nat} (h : d.get .perf_dump_status_snaps_missed + n < 65536) :
    (d.snapMiss n).get .perf_dump_status_snaps_missed = d.get .perf_dump_status_snaps_missed + n := by
  have hsat : satU 16 (d.get .perf_dump_status_snaps_missed + n) % 2 ^ 16 = d.get .perf_dump_status_snaps_missed + n := by
    rw [satU, Nat.min_eq_left (by omega), Nat.mod_eq_of_lt (by omega)]
  rw [Dev.snapMiss, Dev.incrSat, Dev.get_set_fld _ (by decide), Dev.incrSat, Dev.get_set_same]
  exact hsat

theorem Dev.snapshot_of_busy (src : Nat) (hon : d.domainOn 1 = true) (hbusy : d.flag .perf_dump_status_busy = true) :
    d.snapshot src = (d.snapMiss 1).bgOverrun 19 := by
  rw [Dev.snapshot, if_neg (by simp [hon]), if_pos hbusy]

/-! ### A snapshot that is taken -/

/-- The fields that a snapshot copies into. -/
def snapFlds : List Fld := [.perf_snap_cycle_cycles, .perf_snap_pmc_count, .perf_blk_status_snap_ovf, .perf_last_snap_last_snap]

/-- The fields that show a dump which has just begun. -/
def dumpFlds : List Fld := [.perf_dump_status_dump_seq, .perf_dump_status_busy, .h_dump_miss]

theorem Dev.dumpBegin_confined (src : Nat) : d.Confined Dev.fieldsOnly dumpFlds (d.dumpBegin src) := by
  unfold Dev.dumpBegin
  exact (Dev.setMany_confined _ _ (by simp [dumpFlds])).after (.same (d.incr_confined (f := .perf_dump_status_dump_seq) (by decide) 0 1) rfl rfl)

theorem Dev.snapCopy_confined {view : Dev → Dev} : d.Confined view snapFlds d.snapCopy := by
  unfold Dev.snapCopy
  exact (Dev.set_confined _ (by decide) ..).after ((Dev.bulk_confined _ (by decide) ..).after
    ((Dev.bulk_confined _ (by decide) ..).after (d.bulk_confined (by decide) ..)))

theorem Dev.snapCopy_last : d.snapCopy.get .perf_last_snap_last_snap = d.fabricNs % 2 ^ 64 := Dev.get_set_same ..

theorem Dev.snapCopy_pmc {k : Nat} (hk : k < 8 * blkCount) : d.snapCopy.get .perf_snap_pmc_count k =
    (if d.blkOn (k / 8) then d.get .perf_pmc_count k else d.get .perf_snap_pmc_count k) % 2 ^ 48 := by
  have hcycles := d.bulk_confined (view := id) (own := [.perf_snap_cycle_cycles]) (f := .perf_snap_cycle_cycles) (by decide) blkCount
    d.blkOn d.cycleOf
  have hlater (e : Dev) (n v : Nat) (p : Nat → Bool) (g : Nat → Nat) :
      ((e.bulk .perf_blk_status_snap_ovf n p g).set .perf_last_snap_last_snap 0 v).get .perf_snap_pmc_count k =
        e.get .perf_snap_pmc_count k :=
    ((Dev.set_confined (view := id) (own := snapFlds.drop 2) _ (by decide) 0 v).after (e.bulk_confined (by decide) n p g)).fields _ _
      (by decide)
  unfold Dev.snapCopy
  rw [hlater]
  generalize d.bulk .perf_snap_cycle_cycles blkCount d.blkOn d.cycleOf = e at hcycles ⊢
  rw [Dev.bulk_get _ _ hk, hcycles.fields _ _ (by decide), hcycles.fields _ _ (by decide), Dev.blkOn,
    hcycles.fields.domainOn (by decide), Dev.blkOn]
  rfl
end

/-! ### Snapshots by time and by command -/

/-- A write of a register changes fields alone. -/
theorem Dev.writeFields_fldsOnly (d : Dev) (r : RegRow) (i v : Nat) (bad : List Nat) : d.FldsOnly (d.writeFields r i v bad) := by
  refine .foldl (fun e f => ?_) _ d
  unfold Dev.writeField
  refine .ite (.refl e) (.foldl (fun e k => ?_) _ e)
  dsimp only
  split
  · exact .ite (.refl e) (e.set_fldsOnly ..)
  · exact e.set_fldsOnly ..
  · exact e.set_fldsOnly ..
  · exact .refl e

/-- The fields of PERF_SNAP_CTRL, and where its schedule stands. -/
def snapCtrlFlds : List Fld := .h_snap_last :: RegRow.flds rowPERF_SNAP_CTRL

/-- A write of PERF_SNAP_CTRL before the snapshot it may ask for (R497). -/
def Dev.snapCtrlSet (d : Dev) (v : Nat) (bad : List Nat) : Dev :=
  let e := (d.writeFields rowPERF_SNAP_CTRL 0 v bad).set .perf_snap_ctrl_snap_now 0 0
  if e.get .perf_snap_ctrl_snap_src = d.get .perf_snap_ctrl_snap_src then e else e.set .h_snap_last 0 0

section
variable {d : Dev}

theorem Dev.snapCtrlWrite_of_now (v : Nat) (bad : List Nat) (h : bit v 0 = true) :
    d.snapCtrlWrite v bad = (d.snapCtrlSet v bad).snapshot 3 := if_pos h

theorem Dev.snapCtrlSet_confined {view : Dev → Dev} (v : Nat) (bad : List Nat) :
    d.Confined view snapCtrlFlds (d.snapCtrlSet v bad) := by
  have hset := (Dev.set_confined (view := view) (own := snapCtrlFlds) (d.writeFields rowPERF_SNAP_CTRL 0 v bad)
    (f := .perf_snap_ctrl_snap_now) (by decide) 0 0).after (Dev.writeFields_confined (by decide) d 0 v bad)
  unfold Dev.snapCtrlSet
  exact .ite hset ((Dev.set_confined _ (by decide) ..).after hset)

theorem Dev.snapCtrlSet_events (v : Nat) (bad : List Nat) : (d.snapCtrlSet v bad).events = d.events := by
  have hwritten := d.writeFields_fldsOnly rowPERF_SNAP_CTRL 0 v bad
  have honly : d.FldsOnly (d.snapCtrlSet v bad) := by
    unfold Dev.snapCtrlSet
    exact .ite (hwritten.trans (Dev.set_fldsOnly ..)) ((hwritten.trans (Dev.set_fldsOnly ..)).trans (Dev.set_fldsOnly ..))
  rw [honly]

/-- The fields of a snapshot stay, `n` more are missed, and BG_OVERRUN is the one new event. -/
structure Dev.Misses (d e : Dev) (n : Nat) : Prop where
  keeps : ∀ f ∈ snapFlds, ∀ i, e.get f i = d.get f i
  count : e.get .perf_dump_status_snaps_missed = d.get .perf_dump_status_snaps_missed + n
  events : e.events = (d.raise .BG_OVERRUN (d.pathDevice ucBG_ACTIVITY 19)).events

/-- A snapshot while a dump runs, after changes of the schedule alone. -/
theorem Dev.snapshot_misses {g : Dev} (h : d.Confined id snapCtrlFlds g) (hevents : g.events = d.events) (src : Nat)
    (hon : d.domainOn 1 = true) (hbusy : d.flag .perf_dump_status_busy = true)
    (hroom : d.get .perf_dump_status_snaps_missed + 1 < 65536) : d.Misses (g.snapshot src) 1 := by
  have hcount : g.get .perf_dump_status_snaps_missed = d.get .perf_dump_status_snaps_missed := h.fields _ _ (by decide)
  have hmiss : d.Keeps (g.snapMiss 1) (missFlds ++ snapCtrlFlds) :=
    (((g.snapMiss_confined 1).mono (List.subset_append_left ..)).after (h.mono (List.subset_append_right missFlds _))).fields
  rw [Dev.snapshot_of_busy _ _ ((h.fields.domainOn (by decide) 1).trans hon) ((h.flag_eq (by decide) 0).trans hbusy)]
  refine ⟨fun f hf i => hmiss f i (by revert f; decide), ?_, ?_⟩
  · exact (g.snapMiss_count (by omega)).trans (by rw [hcount])
  · rw [Dev.bgOverrun, hmiss.raise_events (by decide) hevents, hmiss.pathDevice (by decide)]

theorem Dev.Misses.more {e : Dev} {n : Nat} (h : d.Misses e n) (m : Nat)
    (hroom : d.get .perf_dump_status_snaps_missed + n + m < 65536) : d.Misses (e.snapMiss m) (n + m) := by
  have hcount := h.count
  refine ⟨fun f hf i => ((e.snapMiss_confined (view := id) m).fields f i (by revert f; decide)).trans (h.keeps f hf i), ?_, h.events⟩
  rw [e.snapMiss_count (by omega), hcount, Nat.add_assoc]

theorem Dev.Misses.ok {e : Dev} {n : Nat} (h : d.Misses e n) : d.Misses e.ok n := ⟨h.keeps, h.count, h.events⟩

/-- The schedule once `n + 1` times have fired. -/
def Dev.snapStarts (d : Dev) (n : Nat) : Dev :=
  d.set .h_snap_last 0 (d.snapDue.1 + n * (d.get .perf_snap_ctrl_snap_period_us * 1000) + 1)

theorem Dev.snapFire_succ (d : Dev) (n : Nat) : d.snapFire (n + 1) = ((d.snapStarts n).snapshot 1).snapMiss n := by
  rw [Dev.snapFire, Nat.add_sub_cancel, Dev.snapStarts]

theorem Dev.snapStarts_confined (n : Nat) : d.Confined id snapCtrlFlds (d.snapStarts n) := d.set_confined (by decide) ..

/-- A snapshot that is taken copies the counters; then its dump may begin. -/
theorem Dev.snapshot_takes (g : Dev) (src : Nat) (hon : g.domainOn 1 = true) (hidle : g.flag .perf_dump_status_busy = false) :
    g.snapCopy.Confined Dev.fieldsOnly dumpFlds (g.snapshot src) := by
  rw [Dev.snapshot, if_neg (by simp [hon]), if_neg (by simp [hidle])]
  exact .ite (g.snapCopy.dumpBegin_confined src) (.refl _)

/-- Of the times that are due, the first `more + 1` fire together. -/
theorem exec_snapshotTime_of_due {s : State} {more : BitVec 16} (h : more.toNat < s.dev.snapDue.2) :
    exec (.snapshotTime more) s = .next (s.ends (((s.dev.snapStarts more.toNat).snapshot 1).snapMiss more.toNat)) := by
  have hmin : min s.dev.snapDue.2 (more.toNat + 1) = more.toNat + 1 := Nat.min_eq_right h
  change s.run (fun d => if d.snapDue.2 = 0 then d else d.snapFire (min d.snapDue.2 (more.toNat + 1))) = _
  rw [State.run, State.onDev, if_neg (by omega), hmin, Dev.snapFire_succ]
  rfl
end

/-- Settles O59: by command and by time while a dump runs, by time while none does, and from any source. -/
theorem snapshotDuringADumpIsMissed : Obligations.SnapshotDuringADumpIsMissed := by
  intro s
  refine ⟨?now, ?time, ?taken, ?source⟩
  case now =>
    rintro m v hacc ⟨hon, hbusy, hroom⟩
    have hset := s.dev.snapCtrlSet_confined (view := id) (setBit v.toNat 0) []
    have hmisses := (Dev.snapshot_misses hset (s.dev.snapCtrlSet_events ..) 3 hon hbusy (by omega)).ok
    refine ⟨_, State.run_hostWrite_of_accepts rfl hacc (Dev.snapCtrlWrite_of_now _ _ (bit_setBit _ 0)), fun i => ?_, ?_⟩
    · exact ⟨hmisses.keeps _ (by decide) i, hmisses.keeps _ (by decide) i, hmisses.keeps _ (by decide) i⟩
    · exact ⟨hmisses.keeps _ (by decide) 0, hmisses.count, hmisses.events⟩
  case time =>
    rintro more ⟨hdue, hon, hbusy, hroom⟩
    have hmisses := (Dev.snapshot_misses (s.dev.snapStarts_confined more.toNat) rfl 1 hon hbusy (by omega)).more more.toNat (by omega)
    have hcount := hmisses.count
    rw [← Nat.add_assoc] at hcount
    refine ⟨_, exec_snapshotTime_of_due hdue, fun i => ?_, ?_⟩
    · exact ⟨hmisses.keeps _ (by decide) i, hmisses.keeps _ (by decide) i, hmisses.keeps _ (by decide) i⟩
    · exact ⟨hmisses.keeps _ (by decide) 0, hcount, hmisses.events⟩
  case taken =>
    rintro more ⟨hdue, hon, hidle, hroom⟩
    have hstarts := (s.dev.snapStarts_confined more.toNat).blur (w := Dev.fieldsOnly) (fun _ => rfl)
    refine ⟨_, exec_snapshotTime_of_due hdue, ?_⟩
    generalize s.dev.snapStarts more.toNat = g at hstarts
    have hdomain (k : Nat) : g.domainOn k = s.dev.domainOn k := hstarts.fields.domainOn (by decide) k
    have htakes := g.snapshot_takes 1 ((hdomain 1).trans hon) ((hstarts.flag_eq (by decide) 0).trans hidle)
    have hcopied (f : Fld) (hf : f ∉ missFlds ++ dumpFlds) (i : Nat) :
        ((g.snapshot 1).snapMiss more.toNat).get f i = g.snapCopy.get f i :=
      ((((g.snapshot 1).snapMiss_confined more.toNat).mono (List.subset_append_left ..)).after
        (htakes.mono (List.subset_append_right missFlds _))).fields f i hf
    have hmissed : (g.snapshot 1).get .perf_dump_status_snaps_missed = s.dev.get .perf_dump_status_snaps_missed :=
      (htakes.fields _ _ (by decide)).trans ((g.snapCopy_confined (view := id).fields _ _ (by decide)).trans (hstarts.fields _ _ (by decide)))
    refine ⟨fun k hk => ?_, ?_, ?_⟩
    · rw [hcopied _ (by decide), g.snapCopy_pmc k.isLt, Dev.blkOn, hdomain, ← Dev.blkOn, if_pos hk, hstarts.fields _ _ (by decide)]
    · rw [hcopied _ (by decide), g.snapCopy_last, Dev.fabricNs, hstarts.fields.fabric32 (by decide), Dev.fabricNs]
    · rw [Dev.snapMiss_count _ (by omega), hmissed]
  case source =>
    intro src hon hbusy
    rw [s.dev.snapshot_of_busy src hon hbusy, Dev.bgOverrun,
      (s.dev.snapMiss_confined (view := id) 1).fields.pathDevice (by decide), Dev.snapMiss]

end Sys2Proof.Machine
end

section
/-! SUPPORT. The flow group (R460 to R462): where a running entry goes on, what its OK end leaves, and what each instruction does on
the charged device. -/

namespace Sys2Proof.Machine

/-! ### The entry of a queue -/

@[simp] theorem Dev.queue_putQueue (d : Dev) (q : Nat) (x : Queue) : (d.putQueue q x).queue q = x := by
  have hqueues : (d.putQueue q x).queues = d.queues.set q {} x := congrArg Dev.queues (Dev.setMany_flds _ _)
  rw [Dev.queue, hqueues, SMap.get_set_same]

theorem Dev.run_onRun {d : Dev} {q : Nat} {e : Entry} (h : (d.queue q).run = some e) (f : Entry → Entry) :
    ((d.onRun q f).queue q).run = some (f e) := by
  rw [Dev.onRun, h]
  dsimp only
  rw [Dev.queue_putQueue]

theorem Dev.run_charged {d : Dev} {q : Nat} {e : Entry} (h : (d.queue q).run = some e) (w : Nat) :
    ((d.charged q w).queue q).run = some { e with spent := e.spent + wCost w } := by
  have hcount : (d.onRun q (fun e => { e with spent := e.spent + wCost w })).FldsOnly (d.charged q w) := Dev.count_fldsOnly ..
  have hsame : (d.charged q w).queues = (d.onRun q (fun e => { e with spent := e.spent + wCost w })).queues :=
    (congrArg Dev.queues hcount :)
  rw [Dev.queue, hsame]
  exact Dev.run_onRun h _

/-! ### What the end of an entry leaves as it was -/

/-- In view is what an entry that ends leaves as it was: all but operations, reads, messages sent and queues, and of queue `q` whether
an entry runs. -/
def Dev.lessEntry (q : Nat) (d : Dev) : Dev :=
  { d with ops := [], reads := [], readWaits := [], sent := [], queues := ({} : SMap Queue).set q {} { run := (d.queue q).run } }

/-- From `d` to `e` an entry of queue `q` leaves its traces, and what runs in the queue stays. -/
abbrev Dev.Leaves (q : Nat) (d e : Dev) : Prop := d.Confined (Dev.lessEntry q) entryFlds e

section
variable {q : Nat} {d e : Dev}

theorem Dev.Leaves.run (h : d.Leaves q e) : (e.queue q).run = (d.queue q).run :=
  h.part (fun d => (d.queue q).run) (fun d => by
    rw [Dev.lessEntry, Dev.queue, SMap.get_set_same]
    rfl)

theorem Dev.leaves_of_same {e : Dev} (hflds : e.flds = d.flds) (hview : e.rest.lessEntry q = d.rest.lessEntry q) : d.Leaves q e :=
  .same (.refl d) hflds hview

theorem Dev.putQueue_leaves (d : Dev) {x : Queue} (h : x.run = (d.queue q).run) : d.Leaves q (d.putQueue q x) := by
  refine (Dev.setMany_confined _ _ (by simp [entryFlds, chargeFlds])).after (Dev.leaves_of_same rfl ?_)
  simp only [Dev.rest, Dev.lessEntry, Dev.queue, SMap.get_set_same, h]

theorem Dev.readHead_leaves (d : Dev) (k : Nat) : d.Leaves q (d.readHead k) := by
  unfold Dev.readHead
  exact .ite (((Dev.kread_confined ..).after (d.dropReads_confined _)).blur (fun _ => rfl)) (.refl d)

theorem Dev.readCrHead_leaves (d : Dev) (k : Nat) : d.Leaves q (d.readCrHead k) := by
  unfold Dev.readCrHead
  exact .ite (((Dev.kread_confined ..).after (d.dropReads_confined _)).blur (fun _ => rfl)) (.refl d)

theorem Dev.qsramWrite_leaves (d : Dev) (k v : Nat) : d.Leaves q (d.qsramWrite k v) := by
  unfold Dev.qsramWrite
  refine .after (.foldl (fun d k => ?_) _ _) (d.set_confined (by decide) ..)
  exact .after (.ite (Dev.readCrHead_leaves ..) (.refl _)) (.ite (d.readHead_leaves _) (.refl _))

theorem Dev.crWrite_leaves (d : Dev) (r : CRec) : d.Leaves q (d.crWrite q r) := by
  unfold Dev.crWrite
  extract_lets x n t w0 words base d1
  have h1 : d.Leaves q d1 := .ite (.foldl (fun d i => d.qsramWrite_leaves ..) _ _) (Dev.leaves_of_same rfl rfl)
  exact .after (Dev.setMany_confined _ _ (by simp [entryFlds])) (.after (Dev.putQueue_leaves d1 rfl) h1)

theorem Dev.qCount_leaves (d : Dev) (k : Nat) (e : Ev) (n : Nat) : d.Leaves q (d.qCount k e n) := (d.count_confined ..).mono (by decide)

theorem Dev.complete_leaves (d : Dev) (r : CRec) : d.Leaves q (d.complete q r) := by
  unfold Dev.complete
  exact .ite (d.crWrite_leaves ..) ((Dev.qCount_leaves ..).after (d.putQueue_leaves rfl))

theorem Dev.signalTok_leaves (d : Dev) (t n : Nat) : d.Leaves q (d.signalTok t n) := by
  have hset : d.Leaves q (d.set .csq_token_count t (min (d.get .csq_token_count t + n) 65535)) := d.set_confined (by decide) ..
  have hcount (e : Dev) (n : Nat) : e.Leaves q (e.count blkDevice .TOKEN_SAT n) := (e.count_confined ..).mono (by decide)
  unfold Dev.signalTok
  exact .ite hset (.after (.ite (.refl _) ((Dev.raise_confined ..).after (Dev.set_confined _ (by decide) ..)))
    ((hcount ..).after hset))

theorem Dev.installMap_leaves (d : Dev) : d.Leaves q (d.installMap q) := by
  unfold Dev.installMap
  extract_lets x
  split
  · exact .refl d
  · next m _ =>
    refine .ite (.refl d) ?_
    extract_lets d1
    have hwords : d.Leaves q d1 := .foldl (fun d k => d.set_confined (by decide) ..) _ d
    have hgen : d.Leaves q (d1.incr .csq_q_status_map_gen q) := .after (Dev.set_confined _ (by decide) ..) hwords
    exact .after (Dev.putQueue_leaves _ hgen.run.symm) hgen

/-- The entry of queue `q` has left its place. -/
def Dev.vacated (d : Dev) (q : Nat) : Dev :=
  ({ d with ops := d.ops.filter (fun o => !(o.queue == q && o.res.isSome)) } : Dev).putQueue q
    { d.queue q with run := none, began := d.localNs, halted := (d.queue q).halted }

/-- The OK end of an entry: it leaves its place, and then its traces (R435). -/
theorem Dev.retire_ok_leaves (d : Dev) (index : Nat) (ws : List Nat) (e : Option Entry) :
    (d.vacated q).Leaves q (d.retire q index ws e { status := stOK }) := by
  unfold Dev.retire
  extract_lets w0 ok launched x d1 d2 d3 d4 d5 d6 d7 d8
  have hhalted : (x.halted || (!ok && entHaltOnFail w0) || stOK == stSTOPPED) = x.halted := by simp [ok, stOK, stSTOPPED]
  have hd2 : d2 = d.vacated q := by
    unfold d2
    rw [hhalted]
    rfl
  have h3 : d2.Leaves q d3 := d2.qCount_leaves ..
  have h4 : d3.Leaves q d4 := .ite (d3.signalTok_leaves ..) (.refl d3)
  have h5 : d4.Leaves q d5 := .ite (d4.complete_leaves ..) (.refl d4)
  have h8 : d8 = d5 := by simp [d8, d7, d6, ok, stOK, stBUDGET]
  rw [h8, ← hd2]
  exact d5.installMap_leaves.after (h5.after (h4.after h3))

theorem Dev.vacated_run (d : Dev) : ((d.vacated q).queue q).run = none := by rw [Dev.vacated, Dev.queue_putQueue]
end

/-- All but what an entry that goes on or ends may change is in view. -/
def Dev.lessFlow (d : Dev) : Dev := { d with ops := [], reads := [], readWaits := [], sent := [], queues := {} }

theorem Dev.Confined.rest_lessFlow {own : List Fld} {d e : Dev} (h : d.Confined Dev.lessFlow own e) :
    e.rest = ({ d with ops := e.ops, reads := e.reads, readWaits := e.readWaits, queues := e.queues, sent := e.sent } : Dev).rest :=
  calc e.rest
    _ = { e.rest.lessFlow with ops := e.ops, reads := e.reads, readWaits := e.readWaits, queues := e.queues, sent := e.sent } := rfl
    _ = { d.rest.lessFlow with ops := e.ops, reads := e.reads, readWaits := e.readWaits, queues := e.queues, sent := e.sent } := by
      rw [h.rest]
    _ = _ := rfl

section
variable (d : Dev) (q : Nat)

theorem Dev.onRun_flow (f : Entry → Entry) : d.Confined Dev.lessFlow entryFlds (d.onRun q f) :=
  ((d.onRun_confined q f).blur (fun _ => rfl)).mono (List.subset_append_right _ _)

theorem Dev.charged_flow (w : Nat) : d.Confined Dev.lessFlow entryFlds (d.charged q w) :=
  ((d.charged_confined q w).blur (fun _ => rfl)).mono (List.subset_append_right _ _)

theorem Dev.vacated_flow : d.Confined Dev.lessFlow entryFlds (d.vacated q) :=
  (((Dev.putQueue_confined _ q _).blur (fun _ => rfl)).mono (List.subset_append_right _ _)).after (.same (.refl d) rfl rfl)

theorem Dev.retire_ok_flow (index : Nat) (ws : List Nat) (e : Option Entry) :
    d.Confined Dev.lessFlow entryFlds (d.retire q index ws e { status := stOK }) :=
  ((d.retire_ok_leaves index ws e).blur (fun _ => rfl)).after (d.vacated_flow q)
end

theorem entryFlds_subset : entryFlds ⊆ queueFlds ++ countFlds := by decide

/-! ### The next index -/

theorem Entry.goto_of_noLoop {e : Entry} (h : e.loops = []) (npc : Nat) : e.goto npc = { e with pc := npc } := by
  rw [Entry.goto, h, loopNext, ← h]

/-- The last instruction of the body of the one open LOOP, iterations left (R461). -/
theorem Entry.goto_again {e : Entry} {l : LoopSt} {npc : Nat} (h : e.loops = [l]) (hpast : l.last < npc) (hmore : l.iter + 1 < l.count) :
    e.goto npc = ({ e with pc := l.first, loops := [{ l with iter := l.iter + 1 }] } : Entry).setReg l.d (l.iter + 1) := by
  rw [Entry.goto, h, loopNext, if_neg (by omega), if_pos hmore]

theorem Entry.setReg_pc (e : Entry) (r v : Nat) : (e.setReg r v).pc = e.pc := by unfold Entry.setReg; split <;> rfl

theorem Entry.setReg_prog (e : Entry) (r v : Nat) : (e.setReg r v).prog = e.prog := by unfold Entry.setReg; split <;> rfl

/-- Before the end of its program the entry goes on. -/
theorem Dev.drvNext_of_inside {d : Dev} {q npc : Nat} {e : Entry} (h : (d.queue q).run = some e)
    (hin : (e.goto npc).pc < (e.goto npc).prog.length) : d.drvNext q npc = d.onRun q (·.goto npc) := by
  unfold Dev.drvNext
  dsimp only
  rw [Dev.run_onRun h]
  dsimp only
  rw [if_neg (by omega)]

/-- Past the last instruction the entry retires OK (R457). -/
theorem Dev.drvNext_of_past {d : Dev} {q npc : Nat} {e : Entry} (h : (d.queue q).run = some e)
    (hpast : (e.goto npc).prog.length ≤ (e.goto npc).pc) : d.drvNext q npc =
      (d.onRun q (·.goto npc)).retire q (e.goto npc).index (e.goto npc).words (some (e.goto npc)) { status := stOK } := by
  unfold Dev.drvNext
  dsimp only
  rw [Dev.run_onRun h]
  dsimp only
  rw [if_pos hpast, Dev.endRun, Dev.run_onRun h]

section
variable {s : State} {q w i : Nat} {n : Entry}

/-- An entry that goes on within its program: it runs as `m`, and only the entry and its counters have changed. -/
theorem Dev.drvNext_goesOn {d : Dev} {npc : Nat} {m : Entry} (h : d.issues q 0x01 w i n)
    (hm : ({ n with spent := n.spent + 1 } : Entry).goto npc = m) (hin : m.pc < m.prog.length) :
    ((((d.charged q w).drvNext q npc).queue q).run = some m) ∧ d.Keeps ((d.charged q w).drvNext q npc) (queueFlds ++ countFlds) ∧
      d.Confined Dev.lessFlow entryFlds ((d.charged q w).drvNext q npc) := by
  obtain ⟨⟨hrun, -, -, -, -, hop⟩, -⟩ := id h
  have hcost : wCost w = 1 := by
    rw [wCost, dspec, hop]
    rfl
  have hcharged := Dev.run_charged hrun w
  rw [hcost] at hcharged
  rw [Dev.drvNext_of_inside hcharged (by rwa [hm])]
  have hall := (Dev.onRun_flow (d.charged q w) q (·.goto npc)).after (d.charged_flow q w)
  exact ⟨by rw [Dev.run_onRun hcharged, hm], hall.fields.mono entryFlds_subset, hall⟩

/-- An entry that passes its last instruction no longer runs. -/
theorem Dev.drvNext_ends {d : Dev} {npc : Nat} (hrun : (d.queue q).run = some n)
    (hpast : (({ n with spent := n.spent + wCost w } : Entry).goto npc).prog.length ≤
      (({ n with spent := n.spent + wCost w } : Entry).goto npc).pc) :
    ((((d.charged q w).drvNext q npc).queue q).run = none) ∧ d.Keeps ((d.charged q w).drvNext q npc) (queueFlds ++ countFlds) ∧
      d.Confined Dev.lessFlow entryFlds ((d.charged q w).drvNext q npc) := by
  rw [Dev.drvNext_of_past (Dev.run_charged hrun w) hpast]
  generalize ({ n with spent := n.spent + wCost w } : Entry).goto npc = m
  have hall := (Dev.retire_ok_flow _ q m.index m.words (some m)).after
    ((Dev.onRun_flow (d.charged q w) q (·.goto npc)).after (d.charged_flow q w))
  refine ⟨?_, hall.fields.mono entryFlds_subset, hall⟩
  rw [(Dev.retire_ok_leaves ..).run, Dev.vacated_run]
end

/-! ### Values of the instructions -/

/-- The sign-extended immediate of SET (R460). -/
theorem wrap_sgn_of_lt {k x : Nat} (hk : 0 < k) (hk64 : k ≤ 64) (hx : x < 2 ^ k) :
    wrap 64 (sgn k x) = if bit x (k - 1) then 2 ^ 64 - 2 ^ k + x else x := by
  have hhalf : 2 ^ k = 2 * 2 ^ (k - 1) := by rw [← Nat.pow_succ']; congr 1; omega
  have hle : 2 ^ k ≤ 2 ^ 64 := Nat.pow_le_pow_right (by decide) hk64
  have hcast : ((2 ^ k : Nat) : Int) = (2 : Int) ^ k := by norm_cast
  have hbit : bit x (k - 1) = decide (2 ^ (k - 1) ≤ x) := by
    unfold bit
    by_cases h : 2 ^ (k - 1) ≤ x
    · have hone : x / 2 ^ (k - 1) = 1 := Nat.div_eq_of_lt_le (by omega) (by omega)
      simp [hone, h]
    · have hzero : x / 2 ^ (k - 1) = 0 := Nat.div_eq_of_lt (by omega)
      simp [hzero, h]
  unfold wrap sgn
  rw [Nat.mod_eq_of_lt hx, hbit]
  dsimp only
  by_cases h : x < 2 ^ (k - 1)
  · rw [if_pos h, if_neg (by simpa using h)]
    omega
  · rw [if_neg h, if_pos (by simpa using h), ← hcast]
    omega

/-- The sum of ADD (R460). -/
theorem wrap_add_sgn (a b c : Nat) (hc : c < 2 ^ 32) :
    wrap 64 ((a : Int) + b + sgn 32 c) = (a + b + c + (if bit c 31 then 2 ^ 64 - 2 ^ 32 else 0)) % 2 ^ 64 := by
  unfold wrap sgn bit
  rw [Nat.mod_eq_of_lt hc]
  dsimp only
  by_cases h : c < 2 ^ (32 - 1)
  · rw [if_pos h, if_neg (by simp; omega)]
    omega
  · rw [if_neg h, if_pos (by simp; omega)]
    omega

theorem bit_slice_top {x k j : Nat} (hj : j < k) : bit (slice x 0 k) j = bit x j := by
  unfold bit slice
  rw [Nat.pow_zero, Nat.div_one]
  have hsplit : 2 ^ k = 2 ^ j * (2 * 2 ^ (k - j - 1)) := by
    rw [← Nat.pow_succ', ← Nat.pow_add]
    congr 1
    omega
  rw [hsplit, Nat.mod_mul_right_div_self, Nat.mod_mul_right_mod]

theorem slice_lt (x lo k : Nat) : slice x lo k < 2 ^ k := Nat.mod_lt _ (Nat.two_pow_pos k)

/-- Where a BR goes on. -/
theorem brHolds_iff {c a b : Nat} (hc : c ≤ 6) : brHolds c a b = true ↔
    c = 0 ∨ (c = 1 ∧ a = 0) ∨ (c = 2 ∧ a ≠ 0) ∨ (c = 3 ∧ a = b) ∨ (c = 4 ∧ a ≠ b) ∨ (c = 5 ∧ a < b) ∨ (c = 6 ∧ bit a 63 = true) := by
  interval_cases c <;> simp [brHolds]

/-! ### Issue -/

/-- As `drvIssue_of_issues`, of an instruction that looks at its word first. -/
theorem Dev.drvIssue_of_passes {d : Dev} {q op w i : Nat} {n : Entry} (h : d.issues q op w i n)
    (hop : (dxTable.find? (fun s => s.op == op)).isSome = true) (k : Nat → Nat → Entry → Dev → Dev) {p : Nat → Bool} (hp : p w = true) :
    d.drvIssue q op k p = k w i n (d.charged q w) := by
  obtain ⟨row, hrow⟩ := dspec_of_op h.1.2.2.2.2.2 hop
  rw [← Dev.drvIssue_of_issues h hrow k]
  obtain ⟨⟨hrun, -, rfl, -, rfl, -⟩, -⟩ := h
  unfold Dev.drvIssue
  simp only [hrun, hp]

/-- An instruction past the budget ends its entry (R435). -/
theorem Dev.drvIssue_of_overBudget {d : Dev} {q op w i : Nat} {n : Entry} (h : d.fetches q op w i n)
    (hop : (dxTable.find? (fun s => s.op == op)).isSome = true) (hover : n.budget < n.spent + wCost w) (k : Nat → Nat → Entry → Dev → Dev) :
    d.drvIssue q op k = (d.charged q w).endRun q { status := stBUDGET, pc := i } := by
  obtain ⟨hrun, hwait, rfl, hlen, rfl, hw⟩ := h
  obtain ⟨row, hrow⟩ := dspec_of_op hw hop
  have hcost : wCost (n.prog.getD n.pc 0) = row.cost := by rw [wCost, hrow]
  unfold Dev.drvIssue Dev.charged
  rw [hcost] at hover ⊢
  simp only [hrun, hrow]
  rw [if_neg (by simp only [hwait, hw]; simpa using hlen), if_pos hover]

theorem Dev.dxWait_of_mayUse {d : Dev} {q w i v mode : Nat} {n : Entry} (h : d.issues q 0x0A w i n) (hmode : slice w 40 2 = mode)
    (huse : d.mayUse q w n v = true) : d.dxWait q mode =
      ((d.charged q w).onRun q (fun y => { y with wait := some { mode := mode, tok := v, n := slice w 16 8, time := n.reg (wA w),
                                                                 since := (d.charged q w).localNs, limit := slice w 24 16 } })).waitDone q := by
  rw [Dev.dxWait, Dev.drvIssue_of_passes h (by decide) _ (by simpa using hmode), Dev.drvObj_of_mayUse (by rw [d.mayUse_charged, huse])]

section
variable {d : Dev} {q : Nat} {n : Entry} {x : WaitSt} (hrun : (d.queue q).run = some n) (hwait : n.wait = some x)
include hrun hwait

/-- A blocked WAIT in mode TOKEN whose turn has come takes its count (R462). -/
theorem Dev.waitDone_token (hmode : x.mode = 0) (hcount : x.n ≤ d.get .csq_token_count x.tok) (hturn : d.tokTurn x.tok x.since q = true) :
    d.waitDone q = ((d.onRun q (fun y => { y with wait := none })).takeTok x.tok x.n).drvDone q (n.prog.getD n.pc 0) n.pc := by
  simp [Dev.waitDone, Dev.waitHolds, hrun, hwait, hmode, hcount, hturn]

/-- A blocked WAIT in mode TIME goes on once its time has come (R462). -/
theorem Dev.waitDone_time (hmode : x.mode = 1) (htime : x.time ≤ d.fabricNs) :
    d.waitDone q = (d.onRun q (fun y => { y with wait := none })).drvDone q (n.prog.getD n.pc 0) n.pc := by
  simp [Dev.waitDone, Dev.waitHolds, hrun, hwait, hmode, htime]

/-- The queue's entry blocks no more, and the results of its operations are dropped (R462). -/
def Dev.opsCollected (d : Dev) (q run : Nat) : Dev :=
  { d.onRun q (fun y => { y with wait := none }) with ops := d.ops.filter (fun o => !(o.queue == q && o.entry == run)) }

/-- A blocked WAIT in mode DONE collects the results of its operations, the first failure in order of start (R462). -/
theorem Dev.waitDone_ops (hmode : x.mode = 2) (hopen : d.opsOpen q n.run = 0) :
    d.waitDone q = ((d.ops.filter (fun o => o.queue == q && o.entry == n.run)).find? (fun o => o.res != some 0)).elim
      ((d.opsCollected q n.run).drvDone q (n.prog.getD n.pc 0) n.pc)
      (fun o => (d.opsCollected q n.run).drvFailVal q (n.prog.getD n.pc 0) n.pc (failCode o.start o.group (o.res.getD 0))) := by
  have hops : (d.onRun q (fun y => { y with wait := none })).ops = d.ops := (d.onRun_sameLoads ..).ops
  have hholds : d.waitHolds q n x = true := by simp [Dev.waitHolds, hmode, hopen]
  unfold Dev.waitDone Dev.opsCollected
  simp only [hrun, hwait, hholds, hmode, hops]
  cases (d.ops.filter (fun o => o.queue == q && o.entry == n.run)).find? (fun o => o.res != some 0) <;> rfl

/-- A blocked WAIT whose condition does not hold at its limit fails (R462). -/
theorem Dev.waitLimit_of_open (h : d.waitHolds q n x = false) : d.waitLimit q =
    (d.onRun q (fun y => { y with wait := none })).drvFailFlow q (n.prog.getD n.pc 0) n.pc fcWAIT_LIMIT := by
  simp [Dev.waitLimit, hrun, hwait, h]
end

/-! ### SIGNAL -/

/-- The token of a SIGNAL as the table lists it. -/
theorem dspec_signal {w : Nat} (h : wOp w = 0x0B) :
    ∃ row, dspec w = some row ∧ row.objOf w = some (0, 16, ocTOKEN, 0, 65535, true) := by
  unfold dspec
  rw [h]
  exact ⟨_, rfl, rfl⟩

theorem Dev.drvObj_of_range {d : Dev} {q w i : Nat} {n : Entry} (hop : wOp w = 0x0B) (h : 65535 < (n.reg (wB w) + slice w 0 16) % 2 ^ 64)
    (k : Nat → Dev → Dev) : d.drvObj q w i n k = d.drvFailFlow q w i fcRANGE := by
  obtain ⟨row, hrow, hobj⟩ := dspec_signal hop
  simp only [Dev.drvObj, hrow, hobj]
  rw [if_pos ⟨.inr h, by rw [hop]; decide⟩]

theorem Dev.drvObj_of_denied {d : Dev} {q w i v : Nat} {n : Entry} (hop : wOp w = 0x0B) (hv : n.reg (wB w) + slice w 0 16 = v)
    (hin : v ≤ 65535) (hreg : wB w ≠ 0) (h : d.qAllowed q ocTOKEN v v true = false) (k : Nat → Dev → Dev) :
    d.drvObj q w i n k = d.endRun q (protEnd ocTOKEN v i) := by
  obtain ⟨row, hrow, hobj⟩ := dspec_signal hop
  have hsmall : v % 2 ^ 64 = v := Nat.mod_eq_of_lt (by omega)
  simp only [Dev.drvObj, hrow, hobj, hv, hsmall]
  rw [if_neg (by omega), if_pos ⟨hreg, by decide, by rw [h]; rfl⟩]

/-- Settles O44: each instruction is issued on the charged device as its lemma says; where NOP goes on is `Entry.goto`. -/
theorem flowInstructions : Obligations.FlowInstructions := by
  intro s
  refine ⟨fun q w i n h => ?done, fun q w i n h => ?nop, fun q w i n h ⟨hloops, hlen⟩ => ?goesOn, fun q w i n h ⟨hloops, hlen⟩ => ?ends,
    fun q w i n l h ⟨hloops, hlast, hmore, hfirst⟩ => ?again, fun q w i n h hover => ?budget, fun q w i n h => ?set,
    fun q w i n h => ?sethi, fun q w i n h => ?add, fun q w i n h => ?and, fun q w i n h => ?or, fun q w i n h => ?shift,
    fun q w i n h hcond => ?br, fun q w i n h => ?loop, fun q w i n v h ⟨hmode, huse⟩ => ?waitToken,
    fun q w i n v h ⟨hmode, huse⟩ => ?waitTime, fun q w i n v h ⟨hmode, huse⟩ => ?waitDone,
    fun q n x ⟨hrun, hwait⟩ ⟨hmode, hcount, hturn⟩ => ?takesToken, fun q n x ⟨hrun, hwait⟩ ⟨hmode, htime⟩ => ?timeCame,
    fun q n x ⟨hrun, hwait⟩ hopen => ?limit, fun q n x o ⟨hrun, hwait⟩ ⟨hmode, hopen, hfirst⟩ => ?opFailed,
    fun q n x ⟨hrun, hwait⟩ ⟨hmode, hopen, hnone⟩ => ?opsOk, fun q w i n v h huse => ?signal, fun q w i n h hrange => ?range,
    fun q w i n h ⟨hin, hreg, hdenied⟩ => ?denied⟩
  case done => exact State.runX_of_eq (Dev.drvIssue_of_passes h (by decide) _ rfl)
  case nop => exact State.runX_of_eq (Dev.drvIssue_of_passes h (by decide) _ rfl)
  case goesOn =>
    obtain ⟨hrun, hkeeps, hall⟩ := Dev.drvNext_goesOn h (Entry.goto_of_noLoop (by exact hloops) (i + 1)) hlen
    exact ⟨_, State.runX_of_eq (Dev.drvIssue_of_passes h (by decide) _ rfl), hrun, hkeeps, hall.rest_lessFlow⟩
  case ends =>
    obtain ⟨hrun, hkeeps, hall⟩ := Dev.drvNext_ends (w := w) (npc := i + 1) h.1.1
      (by rw [Entry.goto_of_noLoop (by exact hloops)]; exact hlen.ge)
    exact ⟨_, State.runX_of_eq (Dev.drvIssue_of_passes h (by decide) _ rfl), hrun, hkeeps, hall.rest_lessFlow⟩
  case again =>
    obtain ⟨hrun, hkeeps, hall⟩ := Dev.drvNext_goesOn h (Entry.goto_again (npc := i + 1) hloops (by omega) hmore)
      (by rw [Entry.setReg_pc, Entry.setReg_prog]; exact hfirst)
    exact ⟨_, State.runX_of_eq (Dev.drvIssue_of_passes h (by decide) _ rfl), hrun, hkeeps, hall.rest_lessFlow⟩
  case budget => exact State.runX_of_eq (Dev.drvIssue_of_overBudget h (by decide) hover _)
  case set =>
    refine State.runX_of_eq ((Dev.drvIssue_of_passes h (by decide) _ rfl).trans ?_)
    rw [wrap_sgn_of_lt (by decide) (by decide) (slice_lt w 0 44), bit_slice_top (by decide)]
  case sethi => exact State.runX_of_eq (Dev.drvIssue_of_passes h (by decide) _ rfl)
  case add =>
    refine State.runX_of_eq ((Dev.drvIssue_of_passes h (by decide) _ rfl).trans ?_)
    rw [wrap_add_sgn _ _ _ (slice_lt w 0 32), bit_slice_top (by decide)]
  case and => exact State.runX_of_eq (Dev.drvIssue_of_passes h (by decide) _ rfl)
  case or => exact State.runX_of_eq (Dev.drvIssue_of_passes h (by decide) _ rfl)
  case shift => exact State.runX_of_eq (Dev.drvIssue_of_passes h (by decide) _ rfl)
  case br =>
    refine State.runX_of_eq ((Dev.drvIssue_of_passes h (by decide) _ rfl).trans ?_)
    simp only [brHolds_iff hcond]
    congr 1
    split <;> rfl
  case loop => exact State.runX_of_eq (Dev.drvIssue_of_passes h (by decide) _ rfl)
  case waitToken => exact State.runX_of_eq (Dev.dxWait_of_mayUse h hmode huse)
  case waitTime => exact State.runX_of_eq (Dev.dxWait_of_mayUse h hmode huse)
  case waitDone => exact State.runX_of_eq (Dev.dxWait_of_mayUse h hmode huse)
  case takesToken => exact State.runX_of_eq (Dev.waitDone_token hrun hwait hmode hcount hturn)
  case timeCame => exact State.runX_of_eq (Dev.waitDone_time hrun hwait hmode htime)
  case limit => exact State.runX_of_eq (Dev.waitLimit_of_open hrun hwait hopen)
  case opFailed =>
    refine State.runX_of_eq ((Dev.waitDone_ops hrun hwait hmode hopen).trans ?_)
    rw [hfirst]
    rfl
  case opsOk =>
    refine State.runX_of_eq ((Dev.waitDone_ops hrun hwait hmode hopen).trans ?_)
    rw [hnone]
    rfl
  case signal =>
    refine State.runX_of_eq ((Dev.drvIssue_of_passes h (by decide) _ rfl).trans ?_)
    rw [Dev.drvObj_of_mayUse (by rw [s.dev.mayUse_charged, huse])]
  case range =>
    refine State.runX_of_eq ((Dev.drvIssue_of_passes h (by decide) _ rfl).trans ?_)
    exact Dev.drvObj_of_range h.1.2.2.2.2.2 hrange _
  case denied =>
    refine State.runX_of_eq ((Dev.drvIssue_of_passes h (by decide) _ rfl).trans ?_)
    exact Dev.drvObj_of_denied h.1.2.2.2.2.2 rfl hin hreg (by rw [s.dev.charged_qAllowed, hdenied]) _

end Sys2Proof.Machine
end

section
/-! SUPPORT. Control queues (R427 to R450): the reads of watched lines, the start of a head, the commands of a queue. -/

namespace Sys2Proof.Machine

/-! ### Reads of watched lines (R432) -/

/-- The read for `p` at address `a` is out, or waits for a place. -/
def Dev.awaits (d : Dev) (p : KPurpose) (a : Nat) : Prop :=
  ∃ r ∈ d.reads ++ d.readWaits.map Prod.fst, r.purpose = p ∧ r.addr = a

section
variable {d : Dev} {p : KPurpose} {a : Nat}

theorem Dev.issueReads_awaits (h : d.awaits p a) (n : Nat) : (d.issueReads n).awaits p a := by
  induction n generalizing d with
  | zero => exact h
  | succ n ih =>
    unfold Dev.issueReads
    split
    · exact h
    · next r bytes rest hwaits =>
      split
      · exact h
      · obtain ⟨x, hx, hp, ha⟩ := h
        refine ih ⟨x, ?_, hp, ha⟩
        simp only [hwaits, List.map_cons] at hx
        simpa [Dev.emit] using hx

/-- Reads for another purpose are dropped. -/
theorem Dev.dropReads_awaits (h : d.awaits p a) {p' : KPurpose} (hne : p ≠ p') : (d.dropReads p').awaits p a := by
  obtain ⟨r, hr, rfl, ha⟩ := h
  refine Dev.issueReads_awaits ⟨r, ?_, rfl, ha⟩ _
  rcases List.mem_append.mp hr with hout | hwait
  · exact List.mem_append_left _ (List.mem_filter.mpr ⟨hout, by simp [hne]⟩)
  · obtain ⟨x, hx, hxr⟩ := List.mem_map.mp hwait
    exact List.mem_append_right _ (List.mem_map.mpr ⟨x, List.mem_filter.mpr ⟨hx, by simp [hxr, hne]⟩, hxr⟩)

/-- A further read goes out behind those that are out, or waits. -/
theorem Dev.kread_awaits (h : d.awaits p a) (p' : KPurpose) (req addr bytes : Nat) (ext : Bool) :
    (d.kread p' req addr bytes ext).awaits p a := by
  obtain ⟨r, hr, hp, ha⟩ := h
  refine ⟨r, ?_, hp, ha⟩
  unfold Dev.kread
  rcases List.mem_append.mp hr with hout | hwait
  · split <;> try split
    all_goals simp [Dev.emit, hout]
  · obtain ⟨x, hx, rfl⟩ := List.mem_map.mp hwait
    split <;> try split
    all_goals simp only [Dev.emit, List.mem_append, List.mem_map]
    all_goals exact .inr ⟨x, by simp [hx], rfl⟩

theorem Dev.awaits_kread (d : Dev) (p : KPurpose) (req addr bytes : Nat) (ext : Bool) : (d.kread p req addr bytes ext).awaits p addr := by
  refine ⟨{ purpose := p, req := req, addr := addr, ext := ext }, ?_, rfl, rfl⟩
  unfold Dev.kread
  split <;> try split
  all_goals simp [Dev.emit]

/-- A line that is read again awaits other reads as before. -/
theorem Dev.reread_awaits (h : d.awaits p a) {p' : KPurpose} (hne : p ≠ p') (req addr bytes : Nat) (ext : Bool) :
    ((d.dropReads p').kread p' req addr bytes ext).awaits p a :=
  Dev.kread_awaits (Dev.dropReads_awaits h hne) ..
end

section
variable (d : Dev) (q : Nat)

theorem Dev.reread_confined (p : KPurpose) (req addr bytes : Nat) (ext : Bool) :
    d.Confined Dev.lessReads [] ((d.dropReads p).kread p req addr bytes ext) :=
  (Dev.kread_confined ..).after (d.dropReads_confined p)

theorem Dev.readHead_confined : d.Confined Dev.lessReads [] (d.readHead q) := .ite (d.reread_confined ..) (.refl d)

theorem Dev.readCrHead_confined : d.Confined Dev.lessReads [] (d.readCrHead q) := .ite (d.reread_confined ..) (.refl d)

theorem Dev.readRingHead_confined : d.Confined Dev.lessReads [] d.readRingHead := .ite (d.reread_confined ..) (.refl d)

theorem Dev.readDumpHead_confined : d.Confined Dev.lessReads [] d.readDumpHead := .ite (d.reread_confined ..) (.refl d)
end

section
variable {d e : Dev} {q : Nat}

theorem Dev.Confined.queue_lessReads {own : List Fld} (h : d.Confined Dev.lessReads own e) (q : Nat) : e.queue q = d.queue q :=
  h.part (fun d => d.queue q) (fun _ => rfl)

theorem Dev.Confined.rest_lessReads {own : List Fld} (h : d.Confined Dev.lessReads own e) :
    e.rest = ({ d with reads := e.reads, readWaits := e.readWaits, sent := e.sent } : Dev).rest :=
  calc e.rest
    _ = { e.rest.lessReads with reads := e.reads, readWaits := e.readWaits, sent := e.sent } := rfl
    _ = { d.rest.lessReads with reads := e.reads, readWaits := e.readWaits, sent := e.sent } := by rw [h.rest]
    _ = _ := rfl

/-- The head line of queue `q` is watched and has room (R432). -/
abbrev Dev.watchesHead (d : Dev) (q : Nat) : Prop := d.qEn q = true ∧ (d.queue q).buf.length < 8

theorem Dev.Confined.watchesHead (h : d.Confined Dev.lessReads [] e) (hw : d.watchesHead q) : e.watchesHead q :=
  ⟨(h.flag_eq (by simp) q).trans hw.1, by rw [h.queue_lessReads]; exact hw.2⟩

theorem Dev.Confined.headAddr (h : d.Confined Dev.lessReads [] e) (q : Nat) : e.headAddr q = d.headAddr q := by
  simp only [Dev.headAddr, h.fields _ _ List.not_mem_nil]

/-- The head line of queue `q` is among the reads. -/
abbrev Dev.headAwaited (d : Dev) (q : Nat) : Prop := d.awaits (.head q) (d.headAddr q)

theorem Dev.readHead_awaited (hw : d.watchesHead q) : (d.readHead q).headAwaited q := by
  rw [Dev.headAwaited, (d.readHead_confined q).headAddr, Dev.readHead, if_pos hw]
  exact Dev.awaits_kread ..

theorem Dev.readHead_keepsAwaited (h : d.headAwaited q) (hw : d.watchesHead q) (k : Nat) : (d.readHead k).headAwaited q := by
  by_cases hk : k = q
  · subst hk
    exact Dev.readHead_awaited hw
  · rw [Dev.headAwaited, (d.readHead_confined k).headAddr, Dev.readHead]
    split
    · exact Dev.reread_awaits h (by simpa using Ne.symm hk) ..
    · exact h

theorem Dev.readCrHead_keepsAwaited (h : d.headAwaited q) (k : Nat) : (d.readCrHead k).headAwaited q := by
  rw [Dev.headAwaited, (d.readCrHead_confined k).headAddr, Dev.readCrHead]
  split
  · exact Dev.reread_awaits h (by simp) ..
  · exact h

theorem Dev.readRingHead_keepsAwaited (h : d.headAwaited q) : d.readRingHead.headAwaited q := by
  rw [Dev.headAwaited, d.readRingHead_confined.headAddr, Dev.readRingHead]
  split
  · exact Dev.reread_awaits h (by simp) ..
  · exact h

theorem Dev.readDumpHead_keepsAwaited (h : d.headAwaited q) : d.readDumpHead.headAwaited q := by
  rw [Dev.headAwaited, d.readDumpHead_confined.headAddr, Dev.readDumpHead]
  split
  · exact Dev.reread_awaits h (by simp) ..
  · exact h

/-- Both lines of queue `k` are read again. -/
def Dev.refreshQueue (d : Dev) (k : Nat) : Dev := (d.readHead k).readCrHead k

theorem Dev.refreshQueue_confined (d : Dev) (k : Nat) : d.Confined Dev.lessReads [] (d.refreshQueue k) :=
  ((d.readHead k).readCrHead_confined k).after (d.readHead_confined k)

/-- A queue whose lines have been read again stays among the reads while further queues are refreshed. -/
theorem Dev.refreshQueues_awaited (l : List Nat) (hw : d.watchesHead q) (h : q ∈ l ∨ d.headAwaited q) :
    (l.foldl Dev.refreshQueue d).headAwaited q := by
  induction l generalizing d with
  | nil => exact h.resolve_left List.not_mem_nil
  | cons k l ih =>
    refine ih ((d.refreshQueue_confined k).watchesHead hw) ?_
    by_cases hk : q = k
    · subst hk
      exact .inr (Dev.readCrHead_keepsAwaited (Dev.readHead_awaited hw) _)
    · exact h.imp (fun hl => (List.mem_cons.mp hl).resolve_left hk)
        (fun h => Dev.readCrHead_keepsAwaited (Dev.readHead_keepsAwaited h hw _) _)
end

/-- Every watched line is read again (R547). -/
def Dev.refreshed (d : Dev) : Dev := ((List.range 512).foldl Dev.refreshQueue d).readRingHead.readDumpHead

theorem exec_watchRefresh (s : State) : exec .watchRefresh s = .next (s.ends s.dev.refreshed) := rfl

theorem Dev.refreshed_confined (d : Dev) : d.Confined Dev.lessReads [] d.refreshed :=
  (Dev.readDumpHead_confined _).after ((Dev.readRingHead_confined _).after
    (.foldl (fun d k => d.refreshQueue_confined k) _ d))

theorem Dev.refreshed_awaited {d : Dev} {q : Fin 512} (h : d.watchesHead q) : d.refreshed.awaits (.head q) (d.headAddr q) := by
  rw [← d.refreshed_confined.headAddr]
  exact Dev.readDumpHead_keepsAwaited (Dev.readRingHead_keepsAwaited
    (Dev.refreshQueues_awaited _ h (.inl (List.mem_range.mpr q.isLt))))

/-! ### Answers of watched lines (R433, R439) -/

section
variable {d e : Dev} {q : Fin 512}

theorem Dev.takeRead_confined {p : KPurpose} (h : d.takeRead p = some e) : d.Confined Dev.lessReads [] e := by
  unfold Dev.takeRead at h
  split at h
  · rw [← Option.some.inj h]
    exact (Dev.issueReads_confined _ _).after (.same (.refl d) rfl rfl)
  · contradiction

/-- A line of companion memory at the head is taken in. -/
theorem Dev.lineDone_head (h : d.takeRead (.head q) = some e) (hloc : d.flag .csq_q_cfg_loc q = false) (ws : List Nat) :
    d.lineDone (.head q) (some ws) = e.headLine q ws := by
  simp [Dev.lineDone, h, hloc]

theorem Dev.lineDone_head_error (h : d.takeRead (.head q) = some e) (hloc : d.flag .csq_q_cfg_loc q = false) :
    d.lineDone (.head q) none = e := by
  simp [Dev.lineDone, h, hloc]

theorem Dev.lineDone_crHead (h : d.takeRead (.crHead q) = some e) (hloc : d.flag .csq_q_cfg_cr_loc q = false) (ws : List Nat) :
    d.lineDone (.crHead q) (some ws) = e.crHeadLine q (ws.getD (d.get .csq_q_cr_head_addr_cr_head_addr q / 8 % 8) 0) := by
  simp [Dev.lineDone, h, hloc]

theorem Dev.headLine_of_otherPhase {ws : List Nat} (h : ws.getD 0 0 % 2 ≠ d.get .csq_q_status_exp_phase q) : d.headLine q ws = d := by
  have hstop : (ws.getD 0 0 % 2 != d.get .csq_q_status_exp_phase q) = true := by simpa using h
  rw [Dev.headLine, hstop, Bool.or_true, if_pos rfl]

/-- The line of the expected phase is buffered, head advances past it, and the next line is read. -/
theorem Dev.headLine_of_phase {ws : List Nat} (hw : d.watchesHead q) (h : ws.getD 0 0 % 2 = d.get .csq_q_status_exp_phase q) :
    d.headLine q ws =
      let next := (d.get .csq_q_status_head q + 1) % 2 ^ d.get .csq_q_cfg_size_log2 q
      let e := (d.putQueue q { d.queue q with buf := (d.queue q).buf ++ [(d.get .csq_q_status_head q, ws)],
                                              began := if (d.queue q).buf.isEmpty then d.localNs else (d.queue q).began }).set
        .csq_q_status_head q next
      (if next = 0 then e.set .csq_q_status_exp_phase q (1 - d.get .csq_q_status_exp_phase q) else e).readHead q := by
  have hstop : (!d.qEn q || decide (8 ≤ (d.queue q).buf.length) || ws.getD 0 0 % 2 != d.get .csq_q_status_exp_phase q) = false := by
    rw [h]
    simp [hw.1, hw.2]
  have hphase (x : Queue) (v : Nat) : ((d.putQueue q x).set .csq_q_status_head q v).get .csq_q_status_exp_phase q =
      d.get .csq_q_status_exp_phase q := by
    rw [Dev.get_set_fld _ (by decide)]
    exact (d.putQueue_confined q x).fields _ _ (by decide)
  unfold Dev.headLine
  rw [if_neg (by rw [hstop]; decide)]
  simp only [hphase]
end

/-! ### The start of a head (R430, R431, R434) -/

section
variable {d : Dev} {q j : Nat} {ws : List Nat}

/-- A head that passes its checks, and that its sequencer picks, starts. -/
theorem Dev.entryStart_of_ready (hhead : d.qHead q (d.queue q) = some (j, ws)) (hok : entBad (ws.getD 0 0) = false ∧
    d.entTokenBad q (ws.getD 0 0) = none ∧ d.fallbackOn = false ∧ d.seqPick (d.qSeq q) = some q) :
    d.entryStart q = d.startReady q j ws := by
  obtain ⟨hgood, htoken, hfallback, hpick⟩ := hok
  unfold Dev.entryStart
  dsimp only
  rw [hhead]
  dsimp only
  rw [hgood, if_neg (by decide), htoken]
  dsimp only
  rw [if_neg (by simp [hfallback]), if_pos hpick]

theorem Dev.entryStart_of_bad (hhead : d.qHead q (d.queue q) = some (j, ws)) (hbad : entBad (ws.getD 0 0) = true) :
    d.entryStart q = d.headFails q j ws { status := stENCODING } := by
  unfold Dev.entryStart
  dsimp only
  rw [hhead]
  dsimp only
  rw [if_pos hbad]

theorem Dev.entryStart_of_tokenBad {k : Nat} (hhead : d.qHead q (d.queue q) = some (j, ws)) (hgood : entBad (ws.getD 0 0) = false)
    (htoken : d.entTokenBad q (ws.getD 0 0) = some k) : d.entryStart q = d.headFails q j ws (protEnd ocTOKEN k) := by
  unfold Dev.entryStart
  dsimp only
  rw [hhead]
  dsimp only
  rw [hgood, if_neg (by decide), htoken]

/-- What a head that takes its place may write. -/
def beginFlds : List Fld := .h_csq_rr :: .csq_token_count :: chargeFlds

theorem Dev.entryBegin_confined (regs prog : List Nat) (budget : Nat) :
    d.Confined Dev.fieldsOnly beginFlds (d.entryBegin q j ws regs prog budget) := by
  unfold Dev.entryBegin Dev.popHead
  extract_lets w0 k x d1 d2 d3 e y
  have hput (d : Dev) (x : Queue) : d.Confined Dev.fieldsOnly beginFlds (d.putQueue q x) :=
    ((d.putQueue_confined q x).blur (fun _ => rfl)).mono (by decide)
  have hread : d1.Confined Dev.fieldsOnly beginFlds (d1.readHead q) :=
    ((d1.readHead_confined q).blur (fun _ => rfl)).mono (List.nil_subset _)
  have hpop : d.Confined Dev.fieldsOnly beginFlds d2 := .after (.ite hread (.refl d1)) (hput _ _)
  have htake : d2.Confined Dev.fieldsOnly beginFlds d3 := .ite (.refl d2) (d2.set_confined (by decide) ..)
  have hplace (x : Queue) : d3.Confined Dev.fieldsOnly beginFlds (({ d3 with runs := d3.runs + 1 } : Dev).putQueue q x) :=
    .after (hput _ _) (.same (.refl d3) rfl rfl)
  exact .after ((Dev.count_confined ..).mono (by decide))
    (.after (Dev.set_confined _ (by decide) ..) ((hplace _).after (htake.after hpop)))

theorem Dev.startReady_nop (h : entKind (ws.getD 0 0) = 0) :
    d.startReady q j ws = (d.entryBegin q j ws (List.replicate 16 0) [] 0).endRun q { status := stOK } := by
  simp only [Dev.startReady, h]

theorem Dev.startReady_fence (h : entKind (ws.getD 0 0) = 3) :
    d.startReady q j ws = d.entryBegin q j ws (List.replicate 16 0) [] 0 := by
  simp only [Dev.startReady, h]

/-- INLINE starts, and the proof pass says at once whether it goes on (R447). -/
theorem Dev.startReady_inline (h : entKind (ws.getD 0 0) = 2) : d.startReady q j ws =
    ((d.entryBegin q j ws (List.replicate 16 0) ((ws.drop 2).take (entOperand (ws.getD 0 0))) (d.get .csq_q_cfg_inline_budget q)).proveRun
      q ((ws.drop 2).take (entOperand (ws.getD 0 0))) (d.get .csq_q_cfg_inline_budget q)).1 := by
  simp only [Dev.startReady, h]

theorem Dev.startReady_call (h : entKind (ws.getD 0 0) = 1) : d.startReady q j ws = d.startCall q j ws := by
  simp only [Dev.startReady, h]

section
variable (regs prog : List Nat) (budget : Nat)

theorem Dev.entryBegin_get {f : Fld} (hf : f ∉ beginFlds) (i : Nat) : (d.entryBegin q j ws regs prog budget).get f i = d.get f i :=
  (Dev.entryBegin_confined regs prog budget).fields f i hf

theorem Dev.proofPass_entryBegin (p : List Nat) (b : Nat) :
    proofPass p ((d.entryBegin q j ws regs prog budget).qPriv q) ((d.entryBegin q j ws regs prog budget).qMap q) b =
      proofPass p (d.qPriv q) (d.qMap q) b := by
  have hpriv : (d.entryBegin q j ws regs prog budget).qPriv q = d.qPriv q := Dev.entryBegin_get _ _ _ (by decide) q
  have hmap : (d.entryBegin q j ws regs prog budget).qMap q = d.qMap q :=
    List.map_congr_left (fun k _ => Dev.entryBegin_get _ _ _ (by decide) _)
  rw [hpriv, hmap]
end

/-- INLINE runs its program where the proof pass accepts it (R447). -/
theorem Dev.startReady_inline_pass (h : entKind (ws.getD 0 0) = 2) (hpass : proofPass ((ws.drop 2).take (entOperand (ws.getD 0 0)))
      (d.qPriv q) (d.qMap q) (d.get .csq_q_cfg_inline_budget q) = none) :
    d.startReady q j ws = d.entryBegin q j ws (List.replicate 16 0) ((ws.drop 2).take (entOperand (ws.getD 0 0)))
      (d.get .csq_q_cfg_inline_budget q) := by
  rw [Dev.startReady_inline h, Dev.proveRun, Dev.proofPass_entryBegin, hpass]

theorem Dev.startReady_inline_fail {pc code : Nat} (h : entKind (ws.getD 0 0) = 2)
    (hfail : proofPass ((ws.drop 2).take (entOperand (ws.getD 0 0))) (d.qPriv q) (d.qMap q) (d.get .csq_q_cfg_inline_budget q) =
      some (pc, code)) :
    d.startReady q j ws = (d.entryBegin q j ws (List.replicate 16 0) ((ws.drop 2).take (entOperand (ws.getD 0 0)))
      (d.get .csq_q_cfg_inline_budget q)).endRun q { status := stPROOF, pc := pc, detail := code } := by
  rw [Dev.startReady_inline h, Dev.proveRun, Dev.proofPass_entryBegin, hfail]

/-- A CALL of a program proved before for this queue and its map (R447). -/
theorem Dev.startCall_of_proved {p : Prog} (hallow : d.qAllowed q ocHANDLE (entOperand (ws.getD 0 0)) (entOperand (ws.getD 0 0)) true = true)
    (hprog : d.progs.getOpt (entOperand (ws.getD 0 0)) = some p) (hseq : bit p.seqs (d.qSeq q) = true) (hqueue : p.queue = q)
    (hgen : p.gen = d.get .csq_q_status_map_gen q) :
    d.startCall q j ws = d.entryBegin q j ws (0 :: (ws.drop 2).take 6 ++ List.replicate 9 0) p.words p.budget := by
  unfold Dev.startCall callRegs
  simp only [hallow, hprog, hseq, Bool.not_true, Bool.false_eq_true, if_false]
  rw [if_pos ⟨hqueue, by rw [hgen, Dev.entryBegin_get _ _ _ (by decide)]⟩]

theorem Dev.startCall_of_noHandle (hallow : d.qAllowed q ocHANDLE (entOperand (ws.getD 0 0)) (entOperand (ws.getD 0 0)) true = true)
    (hnone : d.progs.getOpt (entOperand (ws.getD 0 0)) = none) :
    d.startCall q j ws = d.headFails q j ws { status := stNO_HANDLE } := by
  simp only [Dev.startCall, hallow, hnone, Bool.not_true, Bool.false_eq_true, if_false]
end

/-! ### The answer to a write -/

theorem Dev.Confined.ok {view : Dev → Dev} {own : List Fld} {d e : Dev} (h : d.Confined view own e)
    (hv : ∀ (x : Dev) (l : List Emit), view { x with sent := l } = view x) : d.Confined view own e.ok := by
  obtain ⟨hfields, hrest⟩ := h
  exact ⟨hfields, (hv e.rest _).trans hrest⟩

theorem Dev.ok_get (d : Dev) (f : Fld) (i : Nat) : d.ok.get f i = d.get f i := rfl

theorem Dev.ok_queue (d : Dev) (q : Nat) : d.ok.queue q = d.queue q := rfl

/-! ### Completion rings (R439) -/

section
variable {d : Dev} {q : Nat}

theorem Dev.flushHeld_one {r : CRec} (h : (d.queue q).held = [r]) (hroom : d.crFull q = false) :
    d.flushHeld q 1 = (d.putQueue q { d.queue q with held := [] }).crWrite q r := by
  simp [Dev.flushHeld, h, hroom]

theorem Dev.flushHeld_of_full (h : d.crFull q = true) (n : Nat) : d.flushHeld q n = d := by
  cases n with
  | zero => rfl
  | succ n =>
    unfold Dev.flushHeld
    split
    · rfl
    · rw [if_pos h]

/-! ### Commands of a queue (R446, R449) -/

theorem Dev.qStop_idle (h : d.qStateOf q (d.queue q) = 1 ∨ d.qStateOf q (d.queue q) = 2) :
    d.qStop q = d.putQueue q { d.queue q with halted := true } := by
  unfold Dev.qStop
  dsimp only
  rw [if_neg (by omega), if_pos h]

theorem Dev.qStop_running (h : d.qStateOf q (d.queue q) = 3) : d.qStop q = d.endRun q { status := stSTOPPED } := if_pos h

theorem Dev.qStop_refused (h : d.qStateOf q (d.queue q) = 0 ∨ d.qStateOf q (d.queue q) = 4) : d.qStop q = d.qRefuse q := by
  unfold Dev.qStop
  dsimp only
  rw [if_neg (by omega), if_neg (by omega)]

theorem Dev.qReset_of_stopped (h : d.qStateOf q (d.queue q) = 4 ∨ d.qStateOf q (d.queue q) = 0) : d.qReset q = d.qRestart q := if_pos h

theorem Dev.qReset_refused (h : d.qStateOf q (d.queue q) ≠ 4 ∧ d.qStateOf q (d.queue q) ≠ 0) : d.qReset q = d.qRefuse q :=
  if_neg (by omega)

/-- A map committed while an entry runs waits for its end (R446). -/
theorem Dev.mapCommit_waits (hvalid : mapValid (d.stagedMap q) = true) (hrun : (d.queue q).run ≠ none) :
    d.mapCommit q = d.putQueue q { d.queue q with pend := some (d.stagedMap q) } := by
  have hsome : (d.queue q).run.isSome = true := Option.isSome_iff_ne_none.mpr hrun
  rw [Dev.mapCommit, if_pos hvalid, Dev.installMap]
  dsimp only
  rw [Dev.queue_putQueue]
  dsimp only
  rw [if_pos hsome]

/-- The map's words are installed, nothing else. -/
def Dev.mapWords (d : Dev) (q : Nat) (m : List Nat) : Dev :=
  (List.range 64).foldl (fun d k => d.set .csq_q_pmap_active_word (64 * q + k) (m.getD k 0)) d

theorem Dev.mapWords_confined {view : Dev → Dev} (d : Dev) (q : Nat) (m : List Nat) :
    d.Confined view [.csq_q_pmap_active_word] (d.mapWords q m) :=
  .foldl (fun d k => d.set_confined (by decide) ..) _ d

theorem Dev.mapWords_get (d : Dev) (q : Nat) (m : List Nat) {k : Nat} (hk : k < 64) :
    (d.mapWords q m).get .csq_q_pmap_active_word (64 * q + k) = m.getD k 0 % 2 ^ 64 :=
  Dev.foldl_get_of_one _ .csq_q_pmap_active_word _ (fun _ => m.getD k 0 % 2 ^ 64) (List.mem_range.mpr hk) List.nodup_range
    (fun d => d.get_set_same ..) (fun b _ hb d => d.get_set_idx _ (by omega) _) d

/-- The committed map waits, then is installed, where no entry runs. -/
def Dev.mapInstalled (d : Dev) (q : Nat) : Dev :=
  (((d.putQueue q { d.queue q with pend := some (d.stagedMap q) }).mapWords q (d.stagedMap q)).incr .csq_q_status_map_gen q).putQueue q
    { d.queue q with pend := none }

theorem Dev.mapCommit_installs (hvalid : mapValid (d.stagedMap q) = true) (hrun : (d.queue q).run = none) :
    d.mapCommit q = d.mapInstalled q := by
  rw [Dev.mapCommit, if_pos hvalid, Dev.installMap]
  dsimp only
  rw [Dev.queue_putQueue]
  dsimp only
  rw [if_neg (by rw [hrun]; decide)]
  rfl

/-- What MAP_COMMIT may write. -/
def mapFlds : List Fld :=
  [.csq_q_status_map_gen, .csq_q_status_state, .csq_q_status_map_pending, .csq_q_status_buffered, .csq_q_cr_status_held,
   .csq_q_pmap_active_word]

/-- A queue that is put writes the fields that follow it alone. -/
theorem Dev.putQueue_shown {own : List Fld} (hown : [Fld.csq_q_status_state, .csq_q_status_map_pending, .csq_q_status_buffered,
    .csq_q_cr_status_held] ⊆ own) (d : Dev) (q : Nat) (x : Queue) : d.Confined Dev.lessQueues own (d.putQueue q x) :=
  (Dev.setMany_confined _ _ (fun y hy => hown (by
    simp only [List.mem_cons, List.not_mem_nil, or_false] at hy
    rcases hy with rfl | rfl | rfl | rfl <;> simp))).after (.same (.refl d) rfl rfl)

theorem Dev.mapInstalled_confined (d : Dev) (q : Nat) : d.Confined Dev.lessQueues mapFlds (d.mapInstalled q) := by
  have hput (d : Dev) (x : Queue) : d.Confined Dev.lessQueues mapFlds (d.putQueue q x) := d.putQueue_shown (by decide) q x
  exact .after (hput _ _) (.after (Dev.set_confined _ (by decide) ..) (.after ((Dev.mapWords_confined _ q _).mono (by decide)) (hput _ _)))

theorem Dev.mapInstalled_word (d : Dev) (q : Nat) {k : Nat} (hk : k < 64) :
    (d.mapInstalled q).get .csq_q_pmap_active_word (64 * q + k) = d.get .csq_q_pmap_stage_word (64 * q + k) % 2 ^ 64 := by
  have hput (d : Dev) (x : Queue) (i : Nat) : (d.putQueue q x).get .csq_q_pmap_active_word i = d.get .csq_q_pmap_active_word i :=
    (d.putQueue_confined q x).fields _ i (by decide)
  have hstaged : (d.stagedMap q).getD k 0 = d.get .csq_q_pmap_stage_word (64 * q + k) := by
    simp [Dev.stagedMap, List.getD_eq_getElem?_getD, List.getElem?_map, List.getElem?_range hk]
  rw [Dev.mapInstalled, hput, Dev.incr, Dev.get_set_fld _ (by decide), Dev.mapWords_get _ _ _ hk, hstaged]

theorem Dev.putQueue_pending (d : Dev) (q : Nat) (x : Queue) :
    (d.putQueue q x).get .csq_q_status_map_pending q = b2n x.pend.isSome % 2 := by
  rw [Dev.putQueue]
  simp (disch := decide) only [Dev.setMany_cons, Dev.setMany_nil, Dev.get_set_fld, Dev.get_set_same]
  rfl

theorem Dev.mapInstalled_pending (d : Dev) (q : Nat) : (d.mapInstalled q).get .csq_q_status_map_pending q = 0 := by
  rw [Dev.mapInstalled, Dev.putQueue_pending]
  rfl

/-- The block without its queues and the messages it sent. -/
def Dev.lessCommanded (d : Dev) : Dev := { d with queues := {}, sent := [] }

theorem Dev.Confined.rest_lessCommanded {own : List Fld} {d e : Dev} (h : d.Confined Dev.lessCommanded own e) :
    e.rest = ({ d with queues := e.queues, sent := e.sent } : Dev).rest :=
  calc e.rest
    _ = { e.rest.lessCommanded with queues := e.queues, sent := e.sent } := rfl
    _ = { d.rest.lessCommanded with queues := e.queues, sent := e.sent } := by rw [h.rest]
    _ = _ := rfl

theorem Dev.mapInstalled_ok (d : Dev) (q : Nat) : d.Confined Dev.lessCommanded mapFlds (d.mapInstalled q).ok :=
  ((d.mapInstalled_confined q).blur (fun _ => rfl)).ok (fun _ _ => rfl)
end

/-! ### Configuration of a queue (R427, R450) -/

section
variable {d : Dev} {q v : Nat}

/-- A disabled queue whose rings lie inside is enabled and restarts (R427, R449). -/
theorem Dev.qCfgWrite_enables (hoff : d.qEn q = false) (hen : bit v 0 = true)
    (hin : (d.writeFields rowCSQ_Q_CFG q v [0]).ringsInside q = true) :
    d.qCfgWrite q v [] = ((d.writeFields rowCSQ_Q_CFG q v [0]).set .csq_q_cfg_enable q 1).qRestart q := by
  simp [Dev.qCfgWrite, hoff, hen, hin]

theorem Dev.qCfgWrite_takes (hoff : d.qEn q = false) (hen : bit v 0 = false) :
    d.qCfgWrite q v [] = d.writeFields rowCSQ_Q_CFG q v [0] := by
  simp [Dev.qCfgWrite, hoff, hen]

theorem Dev.qCfgWrite_refused (hoff : d.qEn q = false) (hen : bit v 0 = true)
    (hin : (d.writeFields rowCSQ_Q_CFG q v [0]).ringsInside q = false) :
    d.qCfgWrite q v [] = (d.writeFields rowCSQ_Q_CFG q v [0]).qRecord q .CSQ_CFG_REFUSED := by
  simp [Dev.qCfgWrite, hoff, hen, hin, Dev.qRefuse]

/-- A write of an enabled queue that leaves enable and the locked fields as they are takes the others (R450). -/
theorem Dev.qCfgWrite_unlocked (hon : d.qEn q = true) (hen : bit v 0 = true)
    (hlocked : ∀ y ∈ lockedFields, slice v y.1 y.2.1 = d.get y.2.2 q) :
    d.qCfgWrite q v [] = (d.writeFields rowCSQ_Q_CFG q v (lockedFields.map (fun y => y.1))).putQueue q (d.queue q) := by
  have hheld : lockedFields.filter (fun f => !([] : List Nat).contains f.1 && slice v f.1 f.2.1 != d.get f.2.2 q) = [] := by
    rw [List.filter_eq_nil_iff]
    intro y hy
    simp [hlocked y hy]
  have hqueues : (d.writeFields rowCSQ_Q_CFG q v (lockedFields.map (·.1))).queues = d.queues :=
    (congrArg Dev.queues (d.writeFields_fldsOnly ..) :)
  rw [Dev.qCfgWrite, if_pos hon, Dev.qCfgEnabled]
  simp only [hen, hheld, Bool.not_true, Bool.false_and, List.isEmpty_nil, Bool.not_false, Bool.and_self, if_true, Bool.false_eq_true,
    if_false, List.nil_append, List.append_nil, Dev.queue, hqueues]

/-- What a queue that is enabled writes. -/
def enableFlds : List Fld :=
  [.csq_q_cfg_job_tag, .csq_q_cfg_inline_budget, .csq_q_cfg_cr_size_log2, .csq_q_cfg_size_log2, .csq_q_cfg_cr_loc, .csq_q_cfg_loc,
   .csq_q_cfg_prio, .csq_q_cfg_seq, .csq_q_cfg_privilege, .csq_q_cfg_enable, .csq_q_status_head, .csq_q_status_exp_phase,
   .csq_q_status_state, .csq_q_status_map_pending, .csq_q_status_buffered, .csq_q_cr_status_cr_tail, .csq_q_cr_status_cr_head,
   .csq_q_cr_status_cr_phase, .csq_q_cr_status_held]

/-- The block without its queues and its reads of companion memory. -/
def Dev.lessLines (d : Dev) : Dev := { d with reads := [], readWaits := [], queues := {}, sent := [] }

theorem Dev.Confined.rest_lessLines {own : List Fld} {d e : Dev} (h : d.Confined Dev.lessLines own e) :
    e.rest = ({ d with keep := e.keep, reads := e.reads, readWaits := e.readWaits, queues := e.queues, sent := e.sent } : Dev).rest :=
  have hkeep : e.keep = d.keep := h.part Dev.keep (fun _ => rfl)
  calc e.rest
    _ = { e.rest.lessLines with reads := e.reads, readWaits := e.readWaits, queues := e.queues, sent := e.sent } := rfl
    _ = { d.rest.lessLines with reads := e.reads, readWaits := e.readWaits, queues := e.queues, sent := e.sent } := by rw [h.rest]
    _ = _ := by rw [hkeep]; rfl

/-- A queue as RESET leaves it, before its lines are read. -/
def Dev.qCleared (d : Dev) (q : Nat) : Dev :=
  let d := d.setMany [(.csq_q_status_head, q, 0), (.csq_q_status_exp_phase, q, 1), (.csq_q_cr_status_cr_tail, q, 0),
    (.csq_q_cr_status_cr_phase, q, 1), (.csq_q_cr_status_cr_head, q, 0)]
  d.putQueue q { d.queue q with buf := [], halted := false, align := 0, tries := 0, crT := 0, crH := 0, held := [] }

theorem Dev.qRestart_eq (d : Dev) (q : Nat) : d.qRestart q = (d.qCleared q).refreshQueue q := rfl

theorem Dev.qCleared_confined (d : Dev) (q : Nat) : d.Confined Dev.lessLines enableFlds (d.qCleared q) :=
  .after (((Dev.putQueue_shown (own := enableFlds) (by decide) _ q _)).blur (fun _ => rfl)) (d.setMany_confined _ (by simp [enableFlds]))

theorem Dev.qCleared_head (d : Dev) (q : Nat) : (d.qCleared q).get .csq_q_status_head q = 0 := by
  rw [Dev.qCleared, (Dev.putQueue_confined _ q _).fields _ _ (by decide)]
  simp (disch := decide) only [Dev.setMany_cons, Dev.setMany_nil, Dev.get_set_fld, Dev.get_set_same]
  rfl

theorem Dev.qCleared_phase (d : Dev) (q : Nat) : (d.qCleared q).get .csq_q_status_exp_phase q = 1 := by
  rw [Dev.qCleared, (Dev.putQueue_confined _ q _).fields _ _ (by decide)]
  simp (disch := decide) only [Dev.setMany_cons, Dev.setMany_nil, Dev.get_set_fld, Dev.get_set_same]
  rfl

theorem Dev.qCleared_enable (d : Dev) (q i : Nat) : (d.qCleared q).get .csq_q_cfg_enable i = d.get .csq_q_cfg_enable i := by
  rw [Dev.qCleared, (Dev.putQueue_confined _ q _).fields _ _ (by decide)]
  simp (disch := decide) only [Dev.setMany_cons, Dev.setMany_nil, Dev.get_set_fld]

/-- A queue that restarts: its head at 0, its phase at 1, its buffer empty (R449). -/
theorem Dev.qRestart_starts (d : Dev) (q : Nat) : ((d.qRestart q).get .csq_q_cfg_enable q = d.get .csq_q_cfg_enable q ∧
    (d.qRestart q).get .csq_q_status_head q = 0 ∧ (d.qRestart q).get .csq_q_status_exp_phase q = 1 ∧
    ((d.qRestart q).queue q).buf = []) ∧ d.Confined Dev.lessLines enableFlds (d.qRestart q) := by
  have hread := (d.qCleared q).refreshQueue_confined q
  have hcleared : ((d.qCleared q).queue q).buf = [] := by rw [Dev.qCleared, Dev.queue_putQueue]
  rw [Dev.qRestart_eq]
  refine ⟨⟨?_, ?_, ?_, ?_⟩, ((hread.blur (fun _ => rfl)).mono (List.nil_subset _)).after (d.qCleared_confined q)⟩
  · rw [hread.fields _ _ List.not_mem_nil, d.qCleared_enable]
  · rw [hread.fields _ _ List.not_mem_nil, d.qCleared_head]
  · rw [hread.fields _ _ List.not_mem_nil, d.qCleared_phase]
  · rw [hread.queue_lessReads, hcleared]

/-- A disabled queue that is enabled. -/
theorem Dev.enabled_starts (d : Dev) (q v : Nat) (bad : List Nat) :
    let e := ((d.writeFields rowCSQ_Q_CFG q v bad).set .csq_q_cfg_enable q 1).qRestart q
    (e.get .csq_q_cfg_enable q = 1 ∧ e.get .csq_q_status_head q = 0 ∧ e.get .csq_q_status_exp_phase q = 1 ∧ (e.queue q).buf = []) ∧
      d.Confined Dev.lessLines enableFlds e := by
  have hwrite : d.Confined Dev.lessLines enableFlds (d.writeFields rowCSQ_Q_CFG q v bad) := d.writeFields_confined (by decide) q v bad
  obtain ⟨⟨hen, hhead, hphase, hbuf⟩, hrestart⟩ := Dev.qRestart_starts ((d.writeFields rowCSQ_Q_CFG q v bad).set .csq_q_cfg_enable q 1) q
  exact ⟨⟨hen.trans (Dev.get_set_same ..), hhead, hphase, hbuf⟩, hrestart.after (.after (Dev.set_confined _ (by decide) ..) hwrite)⟩
end

/-- A queue command that passes its checks. -/
theorem State.qCmd_of_accepts {s : State} {m : Mark} {q cmd : Nat} {c : Instr} {f : Dev → Dev} {e : Dev} (h : s.dev.accepts c = true)
    (hw : writeOf c = some (m, rowCSQ_Q_CMD, q, cmd)) (he : f s.dev = e) : s.qCmd m q cmd f = .next (s.ends e.ok) :=
  State.run_hostWrite_of_accepts hw h he

/-- A write of CSQ_Q_CFG that passes its checks. -/
theorem exec_csqQCfgWrite_of_accepts {s : State} {m : Mark} {q : Fin 512} {v : Word} {e : Dev}
    (h : s.dev.accepts (.csqQCfgWrite m q v) = true) (he : s.dev.qCfgWrite q v.toNat [] = e) :
    exec (.csqQCfgWrite m q v) s = .next (s.ends e.ok) :=
  State.run_hostWrite_of_accepts rfl h he

/-- MAP_COMMIT of a lawful map where no entry runs. -/
theorem exec_mapCommit_installs {s : State} {m : Mark} {q : Fin 512} (h : s.dev.accepts (.csqQCmdMapCommit m q) = true)
    (hvalid : mapValid (s.dev.stagedMap q) = true) (hrun : (s.dev.queue q).run = none) :
    exec (.csqQCmdMapCommit m q) s = .next (s.ends (s.dev.mapInstalled q).ok) :=
  State.qCmd_of_accepts h rfl (Dev.mapCommit_installs hvalid hrun)

/-- Settles O48: each clause by the lemma on its case. -/
theorem queuesAndEntries : Obligations.QueuesAndEntries := by
  intro s
  refine ⟨?_, ?_, ?refresh, ?valid, ?otherPhase, ?error, ?consumer, ?nop, ?fence, ?inline, ?call, ?malformed, ?proof, ?token, ?noHandle,
    ?fenceEnds, ?held, ?full, ?cmdNop, ?stopIdle, ?stopRunning, ?stopRefused, ?resume, ?resumeRefused, ?reset, ?resetRefused, ?mapWaits,
    ?mapInstalls, ?mapRefused, ?enables, ?takes, ?refused, ?unlocked⟩
  case refine_1 =>
    rintro l q ⟨rfl, hen, hroom⟩
    exact State.run_of_eq (if_pos ⟨hen, hroom⟩)
  case refine_2 =>
    rintro l q ⟨rfl, hen⟩
    exact State.run_of_eq (if_pos hen)
  case refresh =>
    have hall := s.dev.refreshed_confined
    refine ⟨_, exec_watchRefresh s, fun q hq => ?_, hall.fields, hall.rest_lessReads⟩
    obtain ⟨r, hr, hp, ha⟩ := Dev.refreshed_awaited hq
    exact List.any_eq_true.mpr ⟨r, hr, by simp [hp, ha]⟩
  case valid =>
    rintro l line q ws d ⟨rfl, htake, hloc⟩ ⟨rfl, hen, hroom⟩ hphase
    have hread := Dev.takeRead_confined htake
    refine State.run_of_eq ((Dev.lineDone_head htake hloc _).trans ?_)
    rw [Dev.headLine_of_phase (hread.watchesHead ⟨hen, hroom⟩) (by rw [hread.fields _ _ List.not_mem_nil]; exact hphase)]
    simp only [hread.fields _ _ List.not_mem_nil, hread.queue_lessReads, Dev.localNs]
  case otherPhase =>
    rintro l line q ws d ⟨rfl, htake, hloc⟩ ⟨rfl, hphase⟩
    have hread := Dev.takeRead_confined htake
    exact State.run_of_eq ((Dev.lineDone_head htake hloc _).trans
      (Dev.headLine_of_otherPhase (by rw [hread.fields _ _ List.not_mem_nil]; exact hphase)))
  case error =>
    rintro l line q d ⟨rfl, htake, hloc⟩ rfl
    exact State.run_of_eq (Dev.lineDone_head_error htake hloc)
  case consumer =>
    rintro l line q ws d ⟨rfl, htake, hloc⟩ rfl
    refine State.run_of_eq ((Dev.lineDone_crHead htake hloc _).trans ?_)
    rw [Dev.crHeadLine, (Dev.takeRead_confined htake).queue_lessReads]
  case nop => exact fun q j ws hhead hok hkind => State.runX_of_eq ((Dev.entryStart_of_ready hhead hok).trans (Dev.startReady_nop hkind))
  case fence =>
    exact fun q j ws hhead hok hkind => State.runX_of_eq ((Dev.entryStart_of_ready hhead hok).trans (Dev.startReady_fence hkind))
  case inline =>
    exact fun q j ws hhead hok ⟨hkind, hpass⟩ =>
      State.runX_of_eq ((Dev.entryStart_of_ready hhead hok).trans (Dev.startReady_inline_pass hkind hpass))
  case call =>
    exact fun q j ws p hhead hok ⟨hkind, hallow⟩ ⟨hprog, hseq, hqueue, hgen⟩ => State.runX_of_eq
      ((Dev.entryStart_of_ready hhead hok).trans ((Dev.startReady_call hkind).trans (Dev.startCall_of_proved hallow hprog hseq hqueue hgen)))
  case malformed => exact fun q j ws hhead hbad => State.runX_of_eq (Dev.entryStart_of_bad hhead hbad)
  case proof =>
    exact fun q j ws pc code hhead hok ⟨hkind, hfail⟩ =>
      State.runX_of_eq ((Dev.entryStart_of_ready hhead hok).trans (Dev.startReady_inline_fail hkind hfail))
  case token => exact fun q j ws k hhead ⟨hgood, htoken⟩ => State.runX_of_eq (Dev.entryStart_of_tokenBad hhead hgood htoken)
  case noHandle =>
    exact fun q j ws hhead hok ⟨hkind, hallow⟩ hnone => State.runX_of_eq
      ((Dev.entryStart_of_ready hhead hok).trans ((Dev.startReady_call hkind).trans (Dev.startCall_of_noHandle hallow hnone)))
  case fenceEnds =>
    rintro q y ⟨hrun, hkind, hfree⟩
    refine State.run_of_eq ?_
    rw [hrun]
    exact if_pos ⟨hkind, hfree⟩
  case held =>
    rintro q r ⟨hheld, hroom⟩
    refine State.run_of_eq ?_
    rw [hheld]
    exact Dev.flushHeld_one hheld hroom
  case full => exact fun q hfull => State.run_of_eq (Dev.flushHeld_of_full hfull _)
  case cmdNop => exact fun m q h => State.qCmd_of_accepts h rfl rfl
  case stopIdle => exact fun m q h hstate => State.qCmd_of_accepts h rfl (Dev.qStop_idle hstate)
  case stopRunning => exact fun m q h hstate => State.qCmd_of_accepts h rfl (Dev.qStop_running hstate)
  case stopRefused => exact fun m q h hstate => State.qCmd_of_accepts h rfl (Dev.qStop_refused hstate)
  case resume => exact fun m q h hstate => State.qCmd_of_accepts h rfl (if_pos hstate)
  case resumeRefused => exact fun m q h hstate => State.qCmd_of_accepts h rfl (if_neg hstate)
  case reset => exact fun m q h hstate => State.qCmd_of_accepts h rfl (Dev.qReset_of_stopped hstate)
  case resetRefused => exact fun m q h hstate => State.qCmd_of_accepts h rfl (Dev.qReset_refused hstate)
  case mapWaits => exact fun m q h ⟨hvalid, hrun⟩ => State.qCmd_of_accepts h rfl (Dev.mapCommit_waits hvalid hrun)
  case mapInstalls =>
    exact fun m q h ⟨hvalid, hrun⟩ => ⟨_, exec_mapCommit_installs h hvalid hrun, ⟨fun k => by rw [Dev.ok_get, s.dev.mapInstalled_word q k.isLt],
      by rw [Dev.ok_get, s.dev.mapInstalled_pending q]⟩, (s.dev.mapInstalled_ok q).fields, (s.dev.mapInstalled_ok q).rest_lessCommanded⟩
  case mapRefused =>
    exact fun m q h hvalid => State.qCmd_of_accepts h rfl (if_neg (by rw [hvalid]; decide))
  case enables =>
    rintro m q v h ⟨hoff, hen⟩ hin
    obtain ⟨hstarts, hall⟩ := s.dev.enabled_starts q v.toNat [0]
    have hok := hall.ok (fun _ _ => rfl)
    refine ⟨_, exec_csqQCfgWrite_of_accepts h (Dev.qCfgWrite_enables hoff hen hin), ?_, hok.fields, hok.rest_lessLines⟩
    simpa only [Dev.ok_get, Dev.ok_queue] using hstarts
  case takes => exact fun m q v h ⟨hoff, hen⟩ => exec_csqQCfgWrite_of_accepts h (Dev.qCfgWrite_takes hoff hen)
  case refused => exact fun m q v h ⟨hoff, hen⟩ hin => exec_csqQCfgWrite_of_accepts h (Dev.qCfgWrite_refused hoff hen hin)
  case unlocked => exact fun m q v h ⟨hon, hen⟩ hlocked => exec_csqQCfgWrite_of_accepts h (Dev.qCfgWrite_unlocked hon hen hlocked)

end Sys2Proof.Machine
end

section
/-! SUPPORT. A warm reset resets PD10 (R521, R522), and with it the note of a module in a service port. -/

namespace Sys2Proof.Machine

/-! ### Fields that read 0 through a reset -/

/-- Every copy of field `g` reads 0. -/
abbrev Dev.Zero (d : Dev) (g : Fld) : Prop := ∀ i, d.get g i = 0

/-- A field that is put back where it lies, whatever it held there, reads as its reset value. -/
theorem Dev.get_clearIdx_reset (d : Dev) (f : Fld) (p : Nat → Bool) {i : Nat} (h : p i = true) : (d.clearIdx f p).get f i = f.reset i := by
  have hgone (l : List (Nat × Nat)) : lookupKey i (l.filter (fun e => !p e.1)) = none := by
    induction l with
    | nil => rfl
    | cons e l ih =>
      by_cases he : p e.1 = true
      · rwa [List.filter_cons_of_neg (by simp [he])]
      · have hne : e.1 ≠ i := fun hi => he (hi ▸ h)
        rw [List.filter_cons_of_pos (by simpa using he)]
        simpa [lookupKey, hne] using ih
  simp only [Dev.get, Dev.clearIdx, SMap.get_set_same]
  simp only [SMap.get, SMap.keep, hgone]
  rfl

section
variable {d : Dev} {g : Fld}

theorem Dev.Zero.of_keeps {own : List Fld} {e : Dev} (h : d.Zero g) (hk : d.Keeps e own) (hg : g ∉ own) : e.Zero g :=
  fun i => (hk g i hg).trans (h i)

theorem Dev.Zero.same {e : Dev} (h : d.Zero g) (hf : e.flds = d.flds) : e.Zero g := by
  intro i
  rw [← h i]
  simp only [Dev.get, hf]

theorem Dev.Zero.resetHeld (hg : g ∉ takenFlds) (h : d.Zero g) (k : Nat) (last : Bool) : (d.resetHeld k last).Zero g :=
  h.of_keeps (Dev.resetHeld_stores ..).fields hg

variable (hreset : ∀ i, g.reset i = 0)
include hreset

theorem Dev.Zero.clearIdx (h : d.Zero g) (f : Fld) (p : Nat → Bool) : (d.clearIdx f p).Zero g := by
  intro i
  by_cases hp : g = f ∧ p i = true
  · obtain ⟨rfl, hi⟩ := hp
    rw [d.get_clearIdx_reset g p hi, hreset]
  · rw [d.get_clearIdx p (fun hg => by simpa using fun hi => hp ⟨hg, hi⟩), h]

theorem Dev.Zero.clearFlds (h : d.Zero g) (l : List Fld) : (d.clearFlds l).Zero g :=
  List.foldlRecOn (motive := fun e => Dev.Zero e g) _ _ h (fun _ he f _ => he.clearIdx hreset f _)

theorem Dev.Zero.clearRow (h : d.Zero g) (k : Nat) (core : Bool) (r : RegRow) :
    (r.fields.foldl (fun d f => d.clearIdx f.fld (fun j => r.dom.within k core (j / f.nsub))) d).Zero g :=
  List.foldlRecOn (motive := fun e => Dev.Zero e g) _ _ h (fun _ he f _ => he.clearIdx hreset f.fld _)

theorem Dev.Zero.clearRows (h : d.Zero g) (k : Nat) (core : Bool) (l : List RegRow) : (l.foldl (fun d r =>
    r.fields.foldl (fun d f => d.clearIdx f.fld (fun j => r.dom.within k core (j / f.nsub))) d) d).Zero g :=
  List.foldlRecOn (motive := fun e => Dev.Zero e g) _ _ h (fun _ he r _ => he.clearRow hreset k core r)

theorem Dev.Zero.clearHidden (h : d.Zero g) (k : Nat) (core : Bool) (l : List (Fld × DomRule)) :
    (l.foldl (fun d h => d.clearIdx h.1 (fun i => h.2.within k core i)) d).Zero g :=
  List.foldlRecOn (motive := fun e => Dev.Zero e g) _ _ h (fun _ he x _ => he.clearIdx hreset x.1 _)

theorem Dev.Zero.resetFields (h : d.Zero g) (k : Nat) (core : Bool) : (d.resetFields k core).Zero g := by
  unfold Dev.resetFields
  generalize regTable = rows
  generalize hiddenTable = hidden
  exact (h.clearRows hreset k core rows).clearHidden hreset k core hidden

theorem Dev.Zero.resetDomain (hg : g ∉ takenFlds) (h : d.Zero g) (k : Nat) : (d.resetDomain k).Zero g := by
  unfold Dev.resetDomain
  exact (h.resetFields hreset k _).resetHeld hg k _

/-- A register of domain `k` alone: its field reads 0 once the rows with it are cleared. -/
theorem Dev.zero_clearRows {r : RegRow} {f : FieldRow} {k : Nat} {rows : List RegRow} (hr : r ∈ rows) (hdom : r.dom = .fixed k)
    (hf : f ∈ r.fields) (hfld : f.fld = g) (d : Dev) (core : Bool) : (rows.foldl (fun d r =>
      r.fields.foldl (fun d f => d.clearIdx f.fld (fun j => r.dom.within k core (j / f.nsub))) d) d).Zero g := by
  obtain ⟨before, after, rfl⟩ := List.append_of_mem hr
  obtain ⟨lows, highs, hfields⟩ := List.append_of_mem hf
  have hcleared (d : Dev) : (d.clearIdx f.fld (fun j => r.dom.within k core (j / f.nsub))).Zero g := by
    intro i
    rw [hfld, d.get_clearIdx_reset g _ (by simp [DomRule.within, DomRule.domain, hdom]), hreset]
  have hrow (d : Dev) : (r.fields.foldl (fun d f => d.clearIdx f.fld (fun j => r.dom.within k core (j / f.nsub))) d).Zero g := by
    rw [hfields, List.foldl_append, List.foldl_cons]
    exact List.foldlRecOn (motive := fun e => Dev.Zero e g) _ _ (hcleared _) (fun _ he f _ => he.clearIdx hreset f.fld _)
  rw [List.foldl_append, List.foldl_cons]
  exact (hrow _).clearRows hreset k core after

/-- The field of a register of domain `k` alone reads 0 once the domain is reset. -/
theorem Dev.zero_resetDomain {r : RegRow} {f : FieldRow} {k : Nat} (hr : r ∈ regTable) (hdom : r.dom = .fixed k) (hf : f ∈ r.fields)
    (hfld : f.fld = g) (hg : g ∉ takenFlds) (d : Dev) : (d.resetDomain k).Zero g := by
  unfold Dev.resetDomain Dev.resetFields
  generalize hiddenTable = hidden
  generalize regTable = rows at hr ⊢
  exact ((Dev.zero_clearRows hreset hr hdom hf hfld d _).clearHidden hreset k _ hidden).resetHeld hg k _
end

theorem Dev.keepFlds_keeps (d old : Dev) (l : List Fld) : d.Keeps (d.keepFlds old l) l := by
  intro g i hg
  refine List.foldlRecOn (motive := fun e => Dev.get e g i = d.get g i) _ _ rfl (fun e he f hf => ?_)
  have hne : g.ctorIdx ≠ f.ctorIdx := fun h => hg (Fld.ctorIdx_inj h ▸ hf)
  rw [← he]
  simp only [Dev.get, SMap.get_set_other _ hne]

/-! ### A warm reset -/

/-- The domains a warm reset resets, in its order (R522). -/
def warmOrder : List Nat := [9, 8, 7, 6, 5, 4, 3, 2, 1, 19, 10]

/-- The device as a warm reset leaves it before the sequences resume (R521, R522). -/
def Dev.warmed (d : Dev) (cause : Nat) : Dev :=
  let e := (List.range 8).foldl (fun d e => d.set .h_eng_hold e (b2n (d.pdOn (11 + e)))) d.clearArms.warmDomains
  let e : Dev := { e.clearFlds warmLost with ringPend := [], keep := [], measLog := [], svcFifo := {} }
  (e.incrSat .sys_reset_info_warm_count 0).setMany [(.sys_reset_info_last_level, 0, 2), (.sys_reset_info_last_cause, 0, cause),
    (.sys_reset_info_stage_at_reset, 0, d.stageAt), (.sys_reset_time_reset_time, 0, d.fabricNs), (.sys_boot_status_stage, 0, 0)]

/-- Without a loaded context, and with the clock free, a warm reset is that and the sequences that resume. -/
theorem Dev.warmReset_eq {d : Dev} (hctx : d.loadedCtxs = []) (hfree : ¬(d.tstate = tsACQUIRE ∨ d.tstate = tsLOCKED)) (cause : Nat) :
    d.warmReset cause = (List.range 64).foldl (fun d o => d.seqResume o) (d.warmed cause) := by
  unfold Dev.warmReset
  dsimp only
  rw [hctx, List.foldl_nil, if_neg hfree]
  rfl

/-- Where no octet has a sequence, none resumes. -/
theorem Dev.seqResumes_of_zero {d : Dev} (h : d.Zero .las_oct_status_phase) (l : List Nat) :
    l.foldl (fun d o => d.seqResume o) d = d :=
  List.foldlRecOn (motive := fun e => e = d) _ _ rfl (fun _ he o _ => by
    subst he
    exact if_pos (h o))

theorem Dev.clearArms_keeps (d : Dev) : d.Keeps d.clearArms [.opt_lane_next_tx_arm, .opt_lane_next_rx_arm] := by
  have harms : d.Confined id [.opt_lane_next_tx_arm, .opt_lane_next_rx_arm] d.clearArms := by
    refine .foldl (fun d n => .ite ?_ (.after (Dev.set_confined _ (by decide) ..) ?_)) _ d
    all_goals exact .ite (.refl d) (d.set_confined (by decide) ..)
  exact harms.fields

/-- The fields a warm reset writes beside those it clears. -/
def warmedFlds : List Fld :=
  [.opt_lane_next_tx_arm, .opt_lane_next_rx_arm, .sys_pd_status_on, .sys_pd_status_busy, .h_eng_hold, .sys_reset_info_warm_count,
   .sys_reset_info_last_level, .sys_reset_info_last_cause, .sys_reset_info_stage_at_reset, .sys_reset_time_reset_time,
   .sys_boot_status_stage] ++ queueRecord ++ takenFlds

section
variable {d : Dev} {g : Fld} (hreset : ∀ i, g.reset i = 0)
include hreset

/-- What reads 0 once the domains are reset reads 0 at the end. -/
theorem Dev.warmed_zero (hg : g ∉ warmedFlds)
    (h : ∀ l : List (Fld × Nat × Nat), (∀ x ∈ l, x.1 ∈ warmedFlds) → (warmOrder.foldl Dev.resetDomain (d.clearArms.setMany l)).Zero g)
    (cause : Nat) : (d.warmed cause).Zero g := by
  have hrec : g ∉ queueRecord := fun hq => hg (by simp [warmedFlds, hq])
  have hdomains : d.clearArms.warmDomains.Zero g := by
    unfold Dev.warmDomains
    extract_lets old eng on d1 d2 d3
    have h2 : d2.Zero g := h _ (by simp [warmedFlds])
    have h3 : d3.Zero g := (h2.of_keeps (d2.keepFlds_keeps old queueRecord) hrec).clearFlds hreset _
    clear_value d3
    exact h3.same rfl
  have hold (e : Dev) : e.Confined id warmedFlds
      ((List.range 8).foldl (fun d e => d.set .h_eng_hold e (b2n (d.pdOn (11 + e)))) e) :=
    .foldl (fun d e => d.set_confined (by decide) ..) _ e
  have hinfo (e : Dev) (l : List (Fld × Nat × Nat)) (hl : ∀ x ∈ l, x.1 ∈ warmedFlds) :
      e.Confined id warmedFlds ((e.incrSat .sys_reset_info_warm_count 0).setMany l) :=
    (Dev.setMany_confined _ _ hl).after (e.incrSat_confined (by decide) _)
  unfold Dev.warmed
  extract_lets e1 e2 e3
  have h1 : e1.Zero g := hdomains.of_keeps (hold _).fields hg
  have h2 : e2.Zero g := h1.clearFlds hreset warmLost
  clear_value e2
  have h3 : e3.Zero g := h2.same rfl
  exact h3.of_keeps (hinfo _ _ (by simp [warmedFlds])).fields hg

/-- A field that reads 0 before a warm reset reads 0 at its end. -/
theorem Dev.Zero.warmed (hg : g ∉ warmedFlds) (h : d.Zero g) (cause : Nat) : (d.warmed cause).Zero g := by
  have htaken : g ∉ takenFlds := fun ht => hg (List.mem_append_right _ ht)
  refine Dev.warmed_zero hreset hg (fun l hl => ?_) cause
  have harms := h.of_keeps d.clearArms_keeps (fun ha => hg (by simp [warmedFlds] at ha ⊢; tauto))
  have hset := harms.of_keeps (Dev.setMany_confined (view := id) _ l hl).fields hg
  exact List.foldlRecOn (motive := fun e => Dev.Zero e g) _ _ hset (fun _ he k _ => he.resetDomain hreset htaken k)

/-- A field of a register of PD10 reads 0 after a warm reset, whatever it held: PD10 is the last domain reset. -/
theorem Dev.warmed_zero_of_pd10 {r : RegRow} {f : FieldRow} (hr : r ∈ regTable) (hdom : r.dom = .fixed 10) (hf : f ∈ r.fields)
    (hfld : f.fld = g) (hg : g ∉ warmedFlds) (cause : Nat) : (d.warmed cause).Zero g := by
  have htaken : g ∉ takenFlds := fun ht => hg (List.mem_append_right _ ht)
  refine Dev.warmed_zero hreset hg (fun l _ => ?_) cause
  exact Dev.zero_resetDomain hreset hr hdom hf hfld htaken _
end

/-! ### The counterexample -/

theorem exec_wrstNAssert (s : State) : exec .wrstNAssert s = .next ((s.warm 4).onDev (fun d => d.settle.flush)) := rfl

/-- A module is present in service port 0; all else is as after a power reset. -/
def moduleInPort0 : State := { dev := ({} : Dev).set .kcl_svc_status_module_present 0 1 }

theorem moduleInPort0_before : moduleInPort0.dev.get .kcl_svc_status_module_present 0 = 1 := Dev.get_set_same ..

theorem moduleInPort0_phase : moduleInPort0.dev.Zero .las_oct_status_phase := fun _ => Dev.get_set_fld _ (by decide) ..

theorem moduleInPort0_free : ¬(moduleInPort0.dev.tstate = tsACQUIRE ∨ moduleInPort0.dev.tstate = tsLOCKED) := by decide +kernel

/-- The status of the service ports lies in PD10, which the reset clears. -/
theorem moduleInPort0_after : (moduleInPort0.dev.warmReset 4).get .kcl_svc_status_module_present 0 = 0 := by
  rw [Dev.warmReset_eq rfl moduleInPort0_free,
    Dev.seqResumes_of_zero (moduleInPort0_phase.warmed (fun _ => rfl) (by decide) 4)]
  exact Dev.warmed_zero_of_pd10 (r := rowKCL_SVC_STATUS) (f := { fld := .kcl_svc_status_module_present, lo := 2, w := 1, acc := .ro })
    (fun _ => rfl) (by decide +kernel) rfl (by decide) rfl (by decide) 4 0

theorem Dev.alertGone_get (d old : Dev) (f : Fld) (i : Nat) : (d.alertGone old).get f i = d.get f i := by
  unfold Dev.alertGone
  split <;> rfl

theorem moduleInPort0_warm : (moduleInPort0.warm 4).dev = (moduleInPort0.dev.warmReset 4).alertGone moduleInPort0.dev := by
  have hcut : moduleInPort0.secCut = moduleInPort0 := by
    unfold State.secCut
    exact if_pos (by decide +kernel)
  rw [State.warm, if_neg (by decide +kernel), hcut]

/-- Refutes O52: its clause of WRST_N, which keeps `module_present` among the pins. The field lies in KCL_SVC_STATUS, a register of
PD10: after WRST_N a module that is present in service port 0 (`moduleInPort0`) reads as absent. -/
theorem not_resetsAndTheBoot : ¬ Obligations.ResetsAndTheBoot := by
  intro h
  obtain ⟨-, -, -, hwarm, -⟩ := h moduleInPort0
  obtain ⟨t, ht, -, -, -, -, -, -, -, -, -, -, -, -, -, -, -, -, -, -, hkept⟩ := hwarm (by decide +kernel)
  rw [exec_wrstNAssert] at ht
  have hdev : ((moduleInPort0.warm 4).onDev (fun d => d.settle.flush)).dev = t.dev := congrArg State.dev (Host.Outcome.next.inj ht)
  have hlost : t.dev.get .kcl_svc_status_module_present 0 = 0 := by
    rw [← hdev, State.onDev_dev, Dev.get_settle_flush_of_notMem _ (by decide) (by decide), moduleInPort0_warm, Dev.alertGone_get,
      moduleInPort0_after]
  have hsame := hkept .kcl_svc_status_module_present (by decide) 0
  simp only [show ((0 : Fin 640) : Nat) = 0 from rfl, hlost, moduleInPort0_before] at hsame
  exact absurd hsame (by decide)

end Sys2Proof.Machine
end

section
/-! SUPPORT. What a COLD or POWER reset leaves (R520, R521, R527): every field but those it keeps at its reset value, nothing queued. -/

namespace Sys2Proof.Machine

/-! ### A clock that stands still -/

theorem Dev.get_set_of_eq {d : Dev} {f : Fld} {i v : Nat} (h : v % 2 ^ f.width = d.get f i) (g : Fld) (j : Nat) :
    (d.set f i v).get g j = d.get g j := by
  rw [Dev.get_set]
  split
  · next hsame =>
    obtain ⟨hfld, rfl⟩ := hsame
    rw [h, Fld.ctorIdx_inj hfld]
  · rfl

/-- The time unit follows no port and shows so: FREE, degraded, no port in use (R404, R405, R415). -/
structure Dev.ClockStill (d : Dev) : Prop where
  parent : d.flag .time_parent_parent_en = false
  alternate : d.flag .time_parent_alt_en = false
  ok : ∀ k, d.get .h_tp_ok k = 0
  eligible : ∀ k, d.get .time_meas_eligible k = 0
  state : d.get .time_status_time_state = 0
  degraded : d.get .time_status_degraded = 1

section
variable {d : Dev}

theorem Dev.ClockStill.of_get {e : Dev} (h : d.ClockStill) (hget : ∀ f i, e.get f i = d.get f i) : e.ClockStill where
  parent := by rw [Dev.flag, hget]; exact h.parent
  alternate := by rw [Dev.flag, hget]; exact h.alternate
  ok k := by rw [hget, h.ok]
  eligible k := by rw [hget, h.eligible]
  state := by rw [hget, h.state]
  degraded := by rw [hget, h.degraded]

theorem Dev.ClockStill.tportEn (h : d.ClockStill) (k : Nat) : d.tportEn k = false := by
  unfold Dev.tportEn
  split
  · exact h.parent
  · exact h.alternate

theorem Dev.ClockStill.tEligible (h : d.ClockStill) (k : Nat) : d.tEligible k = false := by
  simp [Dev.tEligible, Dev.tportUp, h.tportEn]

/-- A port that is not in use stays so. -/
theorem Dev.ClockStill.tportCheck (h : d.ClockStill) (k : Nat) :
    d.tportCheck k = (d.set .h_tp_ok k 0).set .time_meas_eligible k 0 := by
  have hnot : d.flag .h_tp_ok k = false := by simp [Dev.flag, h.ok]
  simp [Dev.tportCheck, hnot, h.tportEn, h.tEligible, b2n]

theorem Dev.ClockStill.tportCheck_get (h : d.ClockStill) (k : Nat) (f : Fld) (i : Nat) : (d.tportCheck k).get f i = d.get f i := by
  rw [h.tportCheck, Dev.get_set_of_eq, Dev.get_set_of_eq]
  · rw [h.ok]; rfl
  · rw [Dev.get_set_fld _ (by decide), h.eligible]; rfl

theorem Dev.ClockStill.refreshDegraded (h : d.ClockStill) : d.refreshDegraded = d.set .time_status_degraded 0 1 := by
  have hnow : d.degradedNow = true := by simp [Dev.degradedNow, Dev.tstate, h.state, tsFREE]
  rw [Dev.refreshDegraded, hnow]
  rfl

theorem Dev.ClockStill.refreshDegraded_get (h : d.ClockStill) (f : Fld) (i : Nat) : d.refreshDegraded.get f i = d.get f i := by
  rw [h.refreshDegraded, Dev.get_set_of_eq]
  rw [h.degraded]
  rfl

/-- Nothing is shown anew, nothing raised, and no parent is taken. -/
theorem Dev.ClockStill.timeCheck (h : d.ClockStill) :
    (∀ f i, d.timeCheck.get f i = d.get f i) ∧ d.timeCheck.events = d.events ∧ d.timeCheck.rest = d.rest := by
  have h0 := h.of_get (h.tportCheck_get 0)
  have h1 := h0.of_get (h0.tportCheck_get 1)
  have h2 := h1.of_get h1.refreshDegraded_get
  have hshown : d.timeCheck = ((d.tportCheck 0).tportCheck 1).refreshDegraded := by
    have hstate : ((d.tportCheck 0).tportCheck 1).refreshDegraded.tstate = 0 := h2.state
    unfold Dev.timeCheck
    dsimp only
    rw [hstate, h2.tEligible, if_neg (by decide), if_neg (by simp)]
  rw [hshown]
  refine ⟨fun f i => by rw [h1.refreshDegraded_get, h0.tportCheck_get, h.tportCheck_get], ?_, ?_⟩
  · rw [h1.refreshDegraded, h0.tportCheck, h.tportCheck]
    simp only [Dev.set_events]
  · rw [h1.refreshDegraded, h0.tportCheck, h.tportCheck]
    simp only [Dev.set_rest]
end

/-! ### The device after the reset -/

/-- What a reset notes of itself (R541). -/
def resetInfoFlds : List Fld := [.sys_reset_info_last_level, .sys_reset_info_last_cause, .sys_reset_info_stage_at_reset]

/-- All but what every reset keeps is as after power is first applied; of records nothing is on its way. -/
structure Dev.Fresh (e : Dev) : Prop where
  events : e.events = []
  rest : e.rest = { ({} : Dev) with keepStore := e.keepStore, wearHist := e.wearHist, sent := e.sent }.rest
  flds : ∀ f i, f ∉ coldKept → f ∉ resetInfoFlds → e.get f i = ({} : Dev).get f i

section
variable {e : Dev}

/-- A part of the block that no reset keeps is as after power is first applied. -/
theorem Dev.Fresh.part {α : Type} (h : e.Fresh) (p : Dev → α) (hp : ∀ x : Dev, p x.rest = p x) :
    p e = p { ({} : Dev) with keepStore := e.keepStore, wearHist := e.wearHist, sent := e.sent } := by rw [← hp, h.rest, hp]

theorem Dev.works_of_none {d : Dev} (hctx : d.ctxs = {}) (hgathers : d.gathers = []) : d.works = [] := by
  simp [Dev.works, Dev.loadedCtxs, hctx, hgathers]

theorem Dev.Fresh.idle (h : e.Fresh) : e.idle := by
  have hctx : e.ctxs = {} := h.part Dev.ctxs (fun _ => rfl)
  have hgathers : e.gathers = [] := h.part Dev.gathers (fun _ => rfl)
  exact ⟨h.part Dev.collSeen (fun _ => rfl), h.part Dev.collOut (fun _ => rfl), h.part Dev.undeliv (fun _ => rfl),
    h.part Dev.fmemOut (fun _ => rfl), Dev.works_of_none hctx hgathers⟩

theorem Dev.Fresh.clockStill (h : e.Fresh) : e.ClockStill where
  parent := by rw [Dev.flag, h.flds _ _ (by decide) (by decide)]; decide +kernel
  alternate := by rw [Dev.flag, h.flds _ _ (by decide) (by decide)]; decide +kernel
  ok k := by rw [h.flds _ _ (by decide) (by decide)]; rfl
  eligible k := by rw [h.flds _ _ (by decide) (by decide)]; rfl
  state := by rw [h.flds _ _ (by decide) (by decide)]; rfl
  degraded := by rw [h.flds _ _ (by decide) (by decide)]; rfl

theorem Dev.flush_of_quiet {d : Dev} (h : d.events = []) : d.flush = d := by
  have hself : ({ d with events := [] } : Dev) = d := by rw [← h]
  rw [Dev.flush, h, sortBy, List.foldl_nil, List.foldl_nil, hself]

/-- Such a device has nothing to settle. -/
theorem Dev.Fresh.settle_flush (h : e.Fresh) : (∀ f i, e.settle.flush.get f i = e.get f i) ∧ e.settle.flush.rest = e.rest := by
  obtain ⟨hget, hevents, hrest⟩ := h.clockStill.timeCheck
  rw [Dev.settle_of_idle h.idle, Dev.flush_of_quiet (hevents.trans h.events)]
  exact ⟨hget, hrest⟩

theorem Dev.Fresh.emit (h : e.Fresh) (x : Emit) : (e.emit x).Fresh where
  events := h.events
  rest := congrArg (fun d : Dev => { d with sent := (e.emit x).sent }) h.rest
  flds := h.flds

theorem Dev.Fresh.alertGone (h : e.Fresh) (old : Dev) : (e.alertGone old).Fresh := by
  unfold Dev.alertGone
  split
  · exact h.emit _
  · exact h

/-- A kept field may hold anything. -/
theorem Dev.Fresh.set (h : e.Fresh) {f : Fld} (hf : f ∈ coldKept) (i v : Nat) : (e.set f i v).Fresh where
  events := h.events
  rest := h.rest
  flds g j hg hinfo := by
    have hne : g.ctorIdx ≠ f.ctorIdx := by
      intro hc
      rw [Fld.ctorIdx_inj hc] at hg
      exact hg hf
    rw [Dev.get_set_fld _ hne, h.flds g j hg hinfo]
end

theorem Dev.keepFlds_rest (d old : Dev) (l : List Fld) : (d.keepFlds old l).rest = d.rest :=
  List.foldlRecOn (motive := fun e : Dev => e.rest = d.rest) _ _ rfl (fun _ he _ _ => he)

theorem Dev.keepFlds_events (d old : Dev) (l : List Fld) : (d.keepFlds old l).events = d.events :=
  List.foldlRecOn (motive := fun e : Dev => e.events = d.events) _ _ rfl (fun _ he _ _ => he)

theorem Dev.get_keepFlds (d old : Dev) {l : List Fld} {f : Fld} (hf : f ∈ l) (i : Nat) : (d.keepFlds old l).get f i = old.get f i := by
  induction l generalizing d with
  | nil => contradiction
  | cons g l ih =>
    by_cases hl : f ∈ l
    · exact ih _ hl
    · obtain rfl := (List.mem_cons.mp hf).resolve_right hl
      refine ((Dev.keepFlds_keeps _ old l) f i hl).trans ?_
      simp only [Dev.get, SMap.get_set_same]

section
variable (d : Dev) (level cause : Nat)

/-- The device a reset starts from: what the persistent stores hold. -/
def Dev.storesOnly (d : Dev) : Dev := { keepStore := d.keepStore, wearHist := d.wearHist, sent := d.sent, fresh := d.fresh }

/-- What a reset notes of itself. -/
def Dev.resetInfo (d : Dev) (level cause : Nat) : List (Fld × Nat × Nat) :=
  [(.sys_reset_info_last_level, 0, level), (.sys_reset_info_last_cause, 0, cause), (.sys_reset_info_stage_at_reset, 0, d.stageAt)]

theorem Dev.coldReset_eq : d.coldReset level cause = (d.storesOnly.keepFlds d coldKept).setMany (d.resetInfo level cause) := rfl

theorem Dev.coldReset_confined : (d.storesOnly.keepFlds d coldKept).Confined id resetInfoFlds (d.coldReset level cause) :=
  Dev.setMany_confined _ _ (by simp [resetInfoFlds])

theorem Dev.coldReset_stores : (d.coldReset level cause).keepStore = d.keepStore ∧ (d.coldReset level cause).wearHist = d.wearHist ∧
    (d.coldReset level cause).rest = d.storesOnly.rest := by
  have hrest : (d.coldReset level cause).rest = d.storesOnly.rest := (d.coldReset_confined level cause).rest.trans (Dev.keepFlds_rest ..)
  exact ⟨(congrArg Dev.keepStore hrest :), (congrArg Dev.wearHist hrest :), hrest⟩

theorem Dev.coldReset_fresh : (d.coldReset level cause).Fresh where
  events := by
    have hkept : (d.storesOnly.keepFlds d coldKept).events = [] := Dev.keepFlds_events ..
    rw [Dev.coldReset_eq, Dev.setMany_flds]
    exact hkept
  rest := by
    obtain ⟨hkeep, hwear, hrest⟩ := d.coldReset_stores level cause
    have hsent : (d.coldReset level cause).sent = d.sent := (congrArg Dev.sent hrest :)
    rw [hkeep, hwear, hsent, hrest]
    rfl
  flds f i hf hinfo := by
    rw [(d.coldReset_confined level cause).fields f i hinfo, Dev.keepFlds_keeps _ _ _ f i hf]
    rfl

theorem Dev.coldReset_kept {f : Fld} (hf : f ∈ coldKept) (hinfo : f ∉ resetInfoFlds) (i : Nat) :
    (d.coldReset level cause).get f i = d.get f i := by
  rw [(d.coldReset_confined level cause).fields f i hinfo, Dev.get_keepFlds _ _ hf]

theorem Dev.coldReset_level : (d.coldReset level cause).get .sys_reset_info_last_level 0 = level % 16 := by
  rw [Dev.coldReset_eq, Dev.resetInfo]
  simp (disch := decide) only [Dev.setMany_cons, Dev.setMany_nil, Dev.get_set_fld, Dev.get_set_same]
  rfl

theorem Dev.coldReset_cause : (d.coldReset level cause).get .sys_reset_info_last_cause 0 = cause % 16 := by
  rw [Dev.coldReset_eq, Dev.resetInfo]
  simp (disch := decide) only [Dev.setMany_cons, Dev.setMany_nil, Dev.get_set_fld, Dev.get_set_same]
  rfl
end

/-! ### A SEC command cut short -/

/-- What the cut of a SEC command writes on the device (R526, R536). -/
def cutFlds : List Fld := [.sec_cmd_status_busy, .sec_slot_status_state, .sec_slot_status_reason]

theorem State.secCut_confined (s : State) : s.dev.Confined id cutFlds s.secCut.dev := by
  have hidle : s.dev.Confined id cutFlds (s.dev.set .sec_cmd_status_busy 0 0) := s.dev.set_confined (by decide) ..
  have hslot (d : Dev) (k r : Nat) : d.Confined id cutFlds (d.slotState k r) := d.setMany_confined _ (by simp [cutFlds])
  unfold State.secCut
  dsimp only
  split
  · exact .refl _
  · split
    · exact .after (.ite (hslot ..) (.refl _)) hidle
    · split
      · exact (Dev.draw_confined _).after hidle
      · split
        · exact (Dev.draw_confined _).after hidle
        · exact hidle

/-! ### The state after the reset -/

section
variable (s : State) (level cause : Nat)

theorem State.cold_fresh : (s.cold level cause).dev.Fresh := (Dev.coldReset_fresh ..).alertGone _

theorem State.cold_get (f : Fld) (i : Nat) : (s.cold level cause).dev.get f i = (s.secCut.dev.coldReset level cause).get f i :=
  Dev.alertGone_get ..

theorem State.cold_kept {f : Fld} (hf : f ∈ coldKept) (hinfo : f ∉ resetInfoFlds) (hcut : f ∉ cutFlds) (i : Nat) :
    (s.cold level cause).dev.get f i = s.dev.get f i := by
  rw [State.cold_get, Dev.coldReset_kept _ _ _ hf hinfo, s.secCut_confined.fields f i hcut]

theorem Dev.alertGone_stores (d old : Dev) : (d.alertGone old).keepStore = d.keepStore ∧ (d.alertGone old).wearHist = d.wearHist := by
  unfold Dev.alertGone
  split <;> exact ⟨rfl, rfl⟩

theorem State.cold_stores : (s.cold level cause).dev.keepStore = s.dev.keepStore ∧ (s.cold level cause).dev.wearHist = s.dev.wearHist := by
  obtain ⟨hkeep, hwear⟩ := (s.secCut.dev.coldReset level cause).alertGone_stores s.secCut.dev
  obtain ⟨hkeep', hwear', -⟩ := s.secCut.dev.coldReset_stores level cause
  exact ⟨hkeep.trans (hkeep'.trans (s.secCut_confined.part Dev.keepStore (fun _ => rfl))),
    hwear.trans (hwear'.trans (s.secCut_confined.part Dev.wearHist (fun _ => rfl)))⟩

theorem State.cold_mem : (s.cold level cause).mem = {} := rfl
end

/-- What a fresh device and its note of the reset are at the end of the command. -/
theorem Dev.Fresh.done {e : Dev} (h : e.Fresh) : e.settle.flush.rest =
      { ({} : Dev) with keepStore := e.keepStore, wearHist := e.wearHist, sent := e.settle.flush.sent }.rest ∧
    (∀ (f : Fld) (i : Nat), f ∉ coldKept → f ∉ resetInfoFlds → e.settle.flush.get f i = State.reset.dev.get f i) ∧
    ∀ (f : Fld) (i : Nat), e.settle.flush.get f i = e.get f i := by
  obtain ⟨hget, hrest⟩ := h.settle_flush
  generalize e.settle.flush = t at hget hrest ⊢
  have hsent : t.sent = e.sent := (congrArg Dev.sent hrest :)
  exact ⟨by rw [hrest, hsent, h.rest], fun f i hf hinfo => (hget f i).trans (h.flds f i hf hinfo), hget⟩

end Sys2Proof.Machine
end

section
/-! SUPPORT. Rails, sensors and the management bus (R563, R568, R572 to R578), and the clauses of O55. -/

namespace Sys2Proof.Machine

/-! ### Masks -/

theorem maskOf_succ (n : Nat) (p : Nat → Bool) : maskOf (n + 1) p = if p n then 2 ^ n + maskOf n p else maskOf n p := by
  simp only [maskOf, List.range_succ, List.foldl_append, List.foldl_cons, List.foldl_nil, Nat.add_comm]

/-- A mask has the bits it was made of. -/
theorem bit_maskOf {n k : Nat} (h : k < n) (p : Nat → Bool) : bit (maskOf n p) k = p k := by
  rw [bit_eq_testBit]
  induction n with
  | zero => omega
  | succ n ih =>
    have hlt := maskOf_lt n p
    rw [maskOf_succ]
    rcases Nat.lt_succ_iff_lt_or_eq.mp h with hk | rfl
    · split
      · rw [Nat.testBit_two_pow_add_gt hk, ih hk]
      · exact ih hk
    · split
      · next hp => rw [Nat.testBit_two_pow_add_eq, Nat.testBit_lt_two_pow hlt, hp]; rfl
      · next hp => rw [Nat.testBit_lt_two_pow hlt]; simpa using hp

theorem State.done_onDev (s : State) (f : Dev → Dev) : (s.onDev f).done = .next (s.endsX (f s.dev)) := rfl

theorem State.endsX_onDev (s : State) (f : Dev → Dev) (e : Dev) : (s.onDev f).endsX e = s.endsX e := rfl

/-- A command that leaves a fresh device: what there is to say of the state at its end. -/
theorem does_of_fresh {c : Instr} {s u : State} {P : State → Prop} (hexec : exec c s = u.done) (hfresh : u.dev.Fresh)
    (h : ∀ t : State, t.mem = u.mem → t.pending = u.pending → t.dev.keepStore = u.dev.keepStore → t.dev.wearHist = u.dev.wearHist →
      t.dev.rest = { ({} : Dev) with keepStore := t.dev.keepStore, wearHist := t.dev.wearHist, sent := t.dev.sent }.rest →
      (∀ f i, f ∉ coldKept → f ∉ resetInfoFlds → t.dev.get f i = State.reset.dev.get f i) →
      (∀ f i, t.dev.get f i = u.dev.get f i) → P t) : Does c s P := by
  obtain ⟨hrest, hflds, hget⟩ := hfresh.done
  have hdev : (u.onDev (fun d => d.settle.flush)).dev = u.dev.settle.flush := u.onDev_dev _
  have hmem := u.onDev_mem (fun d => d.settle.flush)
  have hpending := u.onDev_pending (fun d => d.settle.flush)
  rw [← hdev] at hrest hflds hget
  replace hexec : exec c s = .next (u.onDev (fun d => d.settle.flush)) := hexec
  generalize u.onDev (fun d => d.settle.flush) = t at hexec hrest hflds hget hmem hpending
  have hkeep : t.dev.keepStore = u.dev.keepStore := (congrArg Dev.keepStore hrest :)
  have hwear : t.dev.wearHist = u.dev.wearHist := (congrArg Dev.wearHist hrest :)
  exact ⟨t, hexec, h t hmem hpending hkeep hwear (by rw [hrest, hkeep, hwear]) hflds hget⟩

/-! ### Domains that are reset or shut -/

section
variable (d : Dev)

theorem Dev.resetAll_position (uc ui : Nat) : d.resetAll.pathDevice uc ui = d.pathDevice uc ui := by
  have hget {f : Fld} (hf : f ∈ positionFlds) : d.resetAll.get f 0 = d.get f 0 :=
    d.resetAll_get (by revert f; decide +kernel) (by revert f; decide) 0
  simp only [Dev.pathDevice, Dev.pathBase, hget (f := .sys_fabric_pos_hall) (by decide), hget (f := .sys_fabric_pos_plane) (by decide),
    hget (f := .sys_fabric_pos_device) (by decide)]

theorem Dev.shutAll_position (uc ui : Nat) : d.shutAll.pathDevice uc ui = d.pathDevice uc ui := by
  unfold Dev.shutAll
  rw [Dev.resetAll_position]
  exact (Dev.setMany_confined (view := id) (own := [.sys_pd_status_on, .sys_pd_status_busy, .h_shut]) d _ (by simp)).fields.pathDevice
    (by decide) uc ui

end

/-! ### Rails and REFCLK -/

section
variable (s : State)

theorem exec_railOutOfRange (rail : Fin 12) (mv : BitVec 16) (sustained : Bool) :
    exec (.railOutOfRange rail mv sustained) s = (s.railOut rail mv.toNat sustained).done := rfl

/-- The device as a rail leaves its range. -/
def Dev.railOut (d : Dev) (rail : Nat) : Dev := (d.putB .h_rail_out 0 rail true).resetAll

theorem State.railOut_of_short (rail mv : Nat) : s.railOut rail mv false = s.onDev (fun d => d.railOut rail) := by
  rw [State.railOut]
  exact if_pos rfl

theorem State.railOut_of_alive (halive : s.dev.alive = true) (rail mv : Nat) : s.railOut rail mv true =
    if rail ≤ 1 then (s.onDev (fun d => d.railOut rail)).cold 0 1
    else (s.onDev (fun d => d.railOut rail)).onDev (fun d =>
      (d.shutAll.draw.2.raise .RAIL_FAULT d.shutAll.draw.2.pathDevice [.h d.shutAll.draw.1, .h mv]).alert 4) := by
  rw [State.railOut, halive]
  exact if_neg (by decide)

theorem Dev.railOut_position (d : Dev) (rail uc ui : Nat) : (d.railOut rail).pathDevice uc ui = d.pathDevice uc ui := by
  rw [Dev.railOut, Dev.resetAll_position]
  exact (d.putB_confined (view := id) (own := [.h_rail_out]) (by decide) 0 rail true).fields.pathDevice (by decide) uc ui

theorem Dev.stores_same {d e : Dev} (h : e.stores = d.stores) : e.keepStore = d.keepStore ∧ e.wearHist = d.wearHist :=
  ⟨(congrArg Dev.keepStore h :), (congrArg Dev.wearHist h :)⟩

theorem Dev.railOut_stores (d : Dev) (rail : Nat) :
    (d.railOut rail).keepStore = d.keepStore ∧ (d.railOut rail).wearHist = d.wearHist := by
  obtain ⟨hkeep, hwear⟩ := Dev.stores_same (d.putB .h_rail_out 0 rail true).resetAll_stores
  have hput : d.Confined id [.h_rail_out] (d.putB .h_rail_out 0 rail true) := d.putB_confined (by decide) ..
  exact ⟨hkeep.trans (hput.part Dev.keepStore (fun _ => rfl)), hwear.trans (hput.part Dev.wearHist (fun _ => rfl))⟩

/-- The other rails: the device is shut down. -/
theorem exec_railOutOfRange_shuts (halive : s.dev.alive = true) (rail : Fin 12) (hrail : 2 ≤ rail.val) (mv : BitVec 16) :
    exec (.railOutOfRange rail mv true) s = .next (s.endsX (((s.dev.railOut rail).shutAll.draw.2.raise .RAIL_FAULT
      s.dev.pathDevice [.h (s.dev.railOut rail).shutAll.draw.1, .h mv.toNat]).alert 4)) := by
  have hpath : (s.dev.railOut rail).shutAll.draw.2.pathDevice = s.dev.pathDevice :=
    ((Dev.draw_confined (view := id) (own := []) _).fields.pathDevice (by decide) 0 0).trans
      ((Dev.shutAll_position _ 0 0).trans (s.dev.railOut_position ..))
  rw [exec_railOutOfRange, s.railOut_of_alive halive, if_neg (by omega), State.done_onDev, State.endsX_onDev, State.onDev_dev, hpath]

/-- VDD_AON and VDD_IO: a POWER reset (R520, R521, R563). -/
theorem railOutOfRange_power (halive : s.dev.alive = true) (rail : Fin 12) (hrail : rail.val ≤ 1) (mv : BitVec 16) :
    Does (.railOutOfRange rail mv true) s (fun t => t.mem.entries = [] ∧ t.pending = s.pending ∧
      t.dev.get .sys_reset_info_last_level = 0 ∧ t.dev.get .sys_reset_info_last_cause = 1 ∧
      t.dev.rest = { ({} : Dev) with keepStore := s.dev.keepStore, wearHist := s.dev.wearHist, sent := t.dev.sent }.rest ∧
      ∀ (f : Fld) (i : Nat), f ∉ coldKept → f ∉ resetInfoFlds → t.dev.get f i = State.reset.dev.get f i) := by
  have hexec : exec (.railOutOfRange rail mv true) s = ((s.onDev (fun d => d.railOut rail)).cold 0 1).done := by
    rw [exec_railOutOfRange, s.railOut_of_alive halive, if_pos hrail]
  obtain ⟨hkeep, hwear⟩ := (s.onDev (fun d => d.railOut rail)).cold_stores 0 1
  obtain ⟨hkeep', hwear'⟩ := s.dev.railOut_stores rail
  refine does_of_fresh hexec (State.cold_fresh ..) (fun t hmem hpending hkept hworn hrest hflds hget =>
    ⟨?_, ?_, ?_, ?_, ?_, hflds⟩)
  · rw [hmem, State.cold_mem]
  · rw [hpending, State.cold_pending, State.onDev_pending]
  · rw [hget, State.cold_get, Dev.coldReset_level]
  · rw [hget, State.cold_get, Dev.coldReset_cause]
  · rw [hrest, hkept, hworn, hkeep, hwear, State.onDev_dev, hkeep', hwear']

/-- The last rail back in range (R563). -/
theorem exec_railReturnInRange (rail : Fin 12) (trained : BitVec 64) : exec (.railReturnInRange rail trained) s =
    .next (s.endsX (if s.dev.bitOf .h_rail_out 0 rail then
      (if (s.dev.putB .h_rail_out 0 rail false).get .h_rail_out = 0 then
        ((List.range 20).filter (s.dev.putB .h_rail_out 0 rail false).pdOn).foldl (fun d k => d.domainStart k trained.toNat)
          (s.dev.putB .h_rail_out 0 rail false)
      else s.dev.putB .h_rail_out 0 rail false)
    else s.dev)) := rfl

/-- What a trim does (R564). -/
theorem exec_avsTrim (rail : Fin 3) (mv : BitVec 12) (ack alert : Bool) : exec (.avsTrim rail mv ack alert) s =
    .next (s.ends (if !s.dev.alive || s.dev.flag .h_avs_stop rail then s.dev
      else if !ack || alert then ((s.dev.set .h_avs_stop rail 1).raise .AVS_FAULT s.dev.pathDevice [.h rail, .h (s.dev.get .h_avs_mv rail)]).alert 3
      else if s.dev.stage = 0 then s.dev
      else s.dev.set .h_avs_mv rail (max (max (avsLo rail) (s.dev.get .h_avs_mv rail - 10))
        (min (min (avsHi rail) (s.dev.get .h_avs_mv rail + 10)) mv.toNat)))) := rfl

theorem exec_refclkLoss : exec .refclkLoss s = .next (s.endsX (if !s.dev.alive || s.dev.flag .h_refclk then s.dev
    else ((s.dev.shutAll.set .h_refclk 0 1).raise .REFCLK_LOST (s.dev.shutAll.set .h_refclk 0 1).pathDevice
      [.h ((s.dev.shutAll.set .h_refclk 0 1).get .time_ctrl_ref_sel)]).alert 5)) := rfl

theorem exec_refclkLoss_shuts (halive : s.dev.alive = true) (hclk : s.dev.flag .h_refclk = false) : exec .refclkLoss s =
    .next (s.endsX (((s.dev.shutAll.set .h_refclk 0 1).raise .REFCLK_LOST s.dev.pathDevice
      [.h ((s.dev.shutAll.set .h_refclk 0 1).get .time_ctrl_ref_sel)]).alert 5)) := by
  have hpath : (s.dev.shutAll.set .h_refclk 0 1).pathDevice = s.dev.pathDevice :=
    ((s.dev.shutAll.set_confined (view := id) (own := [.h_refclk]) (by decide) 0 1).fields.pathDevice (by decide) 0 0).trans
      (s.dev.shutAll_position 0 0)
  rw [exec_refclkLoss, halive, hclk, if_neg (by decide), hpath]

/-! ### Thermal sensors -/

/-- The device once a reading is stored and its episodes have followed (R577, R578). -/
def Dev.sampled (d : Dev) (i v : Nat) : Dev := ((d.sensStore i v).thermEpisodes i (sgn 8 v)).thermCold i (sgn 8 v)

section
variable (d : Dev) (i v : Nat)

theorem Dev.sensStore_sens : (d.sensStore i v).get .h_sens i = v % 2 ^ 8 := by
  have hset : (d.set .h_sens i v).get .h_sens i = v % 2 ^ 8 := Dev.get_set_same ..
  unfold Dev.sensStore
  dsimp only
  split
  · rw [Dev.get_set_fld _ (by decide), hset]
  · split
    · rw [Dev.get_set_fld _ (by decide), hset]
    · exact hset

/-- A stored reading is read back; 128 is none (R573). -/
theorem Dev.sensStore_reading {v : BitVec 8} :
    (d.sensStore i v.toNat).reading i = if v.toNat = 128 then none else some (sgn 8 v.toNat) := by
  rw [Dev.reading, Dev.sensStore_sens, Nat.mod_eq_of_lt v.isLt]

theorem Dev.sampled_episodes : (d.sensStore i v).Confined Dev.lessBank episodeFlds (d.sampled i v) :=
  (Dev.thermCold_confined ..).after (Dev.thermEpisodes_confined ..)

theorem Dev.sampled_confined : d.Confined Dev.lessBank (sensFlds ++ episodeFlds) (d.sampled i v) :=
  ((d.sampled_episodes i v).mono (List.subset_append_right ..)).after
    ((d.sensStore_confined i v).mono (List.subset_append_left ..))

theorem Dev.sampled_sens : (d.sampled i v).get .h_sens i = v % 2 ^ 8 := by
  rw [(d.sampled_episodes i v).fields .h_sens i (by decide), Dev.sensStore_sens]

end

theorem exec_thermSample (sensor : Fin 72) (temp : BitVec 8) :
    exec (.thermSample sensor temp) s = (s.sample sensor temp.toNat).done := rfl

/-- A sensor without a reading: it is only stored. -/
theorem State.sample_of_unread {v : BitVec 8} (hv : v.toNat = 128) (i : Nat) :
    s.sample i v.toNat = s.onDev (fun d => d.sensStore i v.toNat) := by
  unfold State.sample
  dsimp only
  rw [State.onDev_dev, Dev.sensStore_reading, if_pos hv]
  exact ite_self _

/-- A reading while the block has its supply (R577). -/
theorem State.sample_of_read {v : BitVec 8} (hv : v.toNat ≠ 128) (hporst : s.dev.flag .h_porst = false) (hok : s.dev.aonOk = true)
    (i : Nat) : s.sample i v.toNat =
      if s.dev.flag .h_trip then (s.onDev (fun d => d.sampled i v.toNat)).onDev
        (fun d => if d.tripOver then (d.set .h_trip 0 0).emit (.pin "THERMTRIP_N" 1) else d)
      else if thermTrip (sensZone i).1 ≤ sgn 8 v.toNat then (s.onDev (fun d => d.sampled i v.toNat)).trip i
      else s.onDev (fun d => d.sampled i v.toNat) := by
  have hstore : s.dev.Confined id sensFlds (s.dev.sensStore i v.toNat) := s.dev.sensStore_confined i v.toNat
  have haon : (s.dev.sensStore i v.toNat).aonOk = true := by
    rw [Dev.aonOk, hstore.fields .h_rail_out 0 (by decide)]
    exact hok
  unfold State.sample
  dsimp only
  rw [State.onDev_dev, Dev.sensStore_reading, if_neg hv, hstore.flag_eq (by decide), hstore.flag_eq (by decide), hporst, haon,
    if_neg (by decide)]
  rfl

/-- The state before the reset of a trip: its record is in the bank (R577). -/
def State.tripNoted (s : State) (i : Nat) : State := s.onDev (fun d => ((d.thermRec .THERM_TRIP i).alert 2).flush.drainAll 82)

/-- The pin and the note of a trip that holds. -/
def Dev.tripHeld (d : Dev) : Dev := (d.set .h_trip 0 1).emit (.pin "THERMTRIP_N" 0)

theorem State.trip_eq (i : Nat) : s.trip i = ((s.tripNoted i).cold 1 3).onDev Dev.tripHeld := rfl

theorem State.trip_fresh (i : Nat) : (s.trip i).dev.Fresh := by
  rw [State.trip_eq, State.onDev_dev]
  exact ((State.cold_fresh ..).set (by decide) 0 1).emit _

theorem Dev.tripHeld_get (d : Dev) {f : Fld} (hf : f.ctorIdx ≠ Fld.h_trip.ctorIdx) (k : Nat) : d.tripHeld.get f k = d.get f k :=
  Dev.get_set_fld _ hf ..

theorem Dev.tripHeld_trip (d : Dev) : d.tripHeld.get .h_trip = 1 := Dev.get_set_same ..

theorem Dev.tripHeld_wearHist (d : Dev) : d.tripHeld.wearHist = d.wearHist := rfl

theorem State.trip_get {f : Fld} (hf : f.ctorIdx ≠ Fld.h_trip.ctorIdx) (i k : Nat) :
    (s.trip i).dev.get f k = ((s.tripNoted i).cold 1 3).dev.get f k := by
  rw [State.trip_eq, State.onDev_dev, Dev.tripHeld_get _ hf]

theorem State.trip_trip (i : Nat) : (s.trip i).dev.get .h_trip = 1 := by rw [State.trip_eq, State.onDev_dev, Dev.tripHeld_trip]

theorem State.trip_sens (i k : Nat) : (s.trip i).dev.get .h_sens k = s.dev.get .h_sens k := by
  rw [s.trip_get (by decide), State.cold_kept _ _ _ (by decide) (by decide) (by decide), State.tripNoted, State.onDev_dev,
    (s.dev.tripRecord_bank i).fields .h_sens k (by decide)]

theorem State.trip_wearHist (i : Nat) : (s.trip i).dev.wearHist = s.dev.wearHist := by
  rw [State.trip_eq, State.onDev_dev, Dev.tripHeld_wearHist, ((s.tripNoted i).cold_stores 1 3).2, State.tripNoted, State.onDev_dev]
  exact (s.dev.tripRecord_bank i).part Dev.wearHist (fun _ => rfl)

/-- A reading at the trip level: a COLD reset with cause THERMAL, and the trip holds (R577). -/
theorem thermSample_trips {sensor : Fin 72} {temp : BitVec 8} (hporst : s.dev.flag .h_porst = false)
    (htrip : s.dev.flag .h_trip = false) (hok : s.dev.aonOk = true) (hread : temp.toNat ≠ 128)
    (hlevel : thermTrip (sensZone sensor).1 ≤ sgn 8 temp.toNat) :
    Does (.thermSample sensor temp) s (fun t => t.mem.entries = [] ∧ t.pending = s.pending ∧
      t.dev.get .sys_reset_info_last_level = 1 ∧ t.dev.get .sys_reset_info_last_cause = 3 ∧
      t.dev.rest = { ({} : Dev) with keepStore := t.dev.keepStore, wearHist := s.dev.wearHist, sent := t.dev.sent }.rest ∧
      (∀ (f : Fld) (i : Nat), f ∉ coldKept → f ∉ resetInfoFlds → t.dev.get f i = State.reset.dev.get f i) ∧
      t.dev.get .h_trip = 1 ∧ t.dev.get .h_sens sensor = temp.toNat) := by
  have hexec : exec (.thermSample sensor temp) s = ((s.onDev (fun d => d.sampled sensor temp.toNat)).trip sensor).done := by
    rw [exec_thermSample, s.sample_of_read hread hporst hok, htrip, if_neg (by decide), if_pos hlevel]
  refine does_of_fresh hexec (State.trip_fresh ..) (fun t hmem hpending _ hworn hrest hflds hget =>
    ⟨?_, ?_, ?_, ?_, ?_, hflds, ?_, ?_⟩)
  · rw [hmem, State.trip_eq, State.onDev_mem, State.cold_mem]
  · rw [hpending, State.trip_pending, State.onDev_pending]
  · rw [hget, State.trip_get _ (by decide), State.cold_get, Dev.coldReset_level]
  · rw [hget, State.trip_get _ (by decide), State.cold_get, Dev.coldReset_cause]
  · have hwear : ((s.onDev (fun d => d.sampled sensor temp.toNat)).trip sensor).dev.wearHist = s.dev.wearHist := by
      rw [State.trip_wearHist, State.onDev_dev]
      exact (s.dev.sampled_confined sensor temp.toNat).part Dev.wearHist (fun _ => rfl)
    rw [hrest, hworn, hwear]
  · rw [hget, State.trip_trip]
  · rw [hget, State.trip_sens, State.onDev_dev, Dev.sampled_sens, Nat.mod_eq_of_lt temp.isLt]

/-! ### The management bus -/

theorem State.i2c_of_ok (hok : s.dev.aonOk = true) (f : Dev → Dev) : s.i2c f = .next (s.ends (f s.dev)) :=
  State.run_of_eq (if_pos hok)

theorem State.i2c_of_out (hok : s.dev.aonOk = false) (f : Dev → Dev) : s.i2c f = .next (s.ends s.dev) :=
  State.run_of_eq (if_neg (by rw [hok]; decide))

theorem Dev.alertClear_bit (d : Dev) (v : Nat) {k : Nat} (hk : k < 7) :
    (d.alertClear v).bitOf .i2c_status_alert 0 k = (d.bitOf .i2c_status_alert 0 k && !bit v k) := by
  rw [Dev.bitOf, Dev.alertClear, Dev.alertGone_get, Dev.get_set_same, show Fld.i2c_status_alert.width = 7 from rfl,
    Nat.mod_eq_of_lt (maskOf_lt 7 _), bit_maskOf hk]

/-- The block without the messages out. -/
def Dev.lessSent (d : Dev) : Dev := { d with sent := [] }

theorem Dev.Confined.rest_lessSent {d e : Dev} {own : List Fld} (h : d.Confined Dev.lessSent own e) :
    e.rest = ({ d with sent := e.sent } : Dev).rest := congrArg (fun x : Dev => { x with sent := e.sent }) h.rest

theorem Dev.alertClear_confined (d : Dev) (v : Nat) : d.Confined Dev.lessSent [.i2c_status_alert] (d.alertClear v) := by
  unfold Dev.alertClear Dev.alertGone
  exact .after (.ite (Dev.emit_confined _ (fun _ => rfl) _) (.refl _)) (d.set_confined (by decide) ..)

/-- Alerts are cleared by writing 1 (R574). -/
theorem exec_i2cWriteStatus (v : Word) (hok : s.dev.aonOk = true) : ∃ e, exec (.i2cWriteStatus v) s = .next (s.ends e) ∧
    (∀ k : Fin 7, e.bitOf .i2c_status_alert 0 k = (s.dev.bitOf .i2c_status_alert 0 k && !bit v.toNat k)) ∧
    s.dev.Keeps e [.i2c_status_alert] ∧ e.rest = ({ s.dev with sent := e.sent } : Dev).rest := by
  have hclear := s.dev.alertClear_confined v.toNat
  exact ⟨_, s.i2c_of_ok hok _, fun k => s.dev.alertClear_bit v.toNat k.isLt, hclear.fields,
    hclear.rest_lessSent⟩

theorem exec_i2cBadCommand (cmd : BitVec 8) (data : List Byte) (hok : s.dev.aonOk = true)
    (hbad : cmd ≠ 0x11 ∧ (cmd ≠ 0x10 ∨ data ≠ [])) : exec (.i2cBadCommand cmd data) s = .next (s.ends (s.dev.emit (.i2c none))) := by
  refine (s.i2c_of_ok hok _).trans ?_
  have hcmd : ¬((cmd.toNat = 0x10 ∧ data.isEmpty = true) ∨ cmd.toNat = 0x11) := by
    obtain ⟨hread, hwrite⟩ := hbad
    rintro (⟨hc, hdata⟩ | hc)
    · exact hwrite.elim (fun h => h (BitVec.eq_of_toNat_eq hc)) (fun h => h (List.isEmpty_iff.mp hdata))
    · exact hread (BitVec.eq_of_toNat_eq hc)
  rw [if_neg hcmd]

/-! ### The test port -/

theorem Dev.tapDrive_of_test (d : Dev) (h : d.flag .h_board_test = true) (mode : Nat) (levels : List Bool) :
    d.tapDrive mode levels = (d.set .h_tap 0 mode).emit (.boundary mode levels) :=
  if_pos (((d.set_confined (view := id) (own := [.h_tap]) (by decide) 0 mode).flag_eq (f := .h_board_test) (by decide) 0).trans h)

theorem Dev.tapDrive_of_no_test (d : Dev) (h : d.flag .h_board_test = false) (mode : Nat) (levels : List Bool) :
    d.tapDrive mode levels = (d.set .h_tap 0 mode).emit (.tap (bypassBits levels)) := by
  have hflag : (d.set .h_tap 0 mode).flag .h_board_test = false :=
    ((d.set_confined (view := id) (own := [.h_tap]) (by decide) 0 mode).flag_eq (f := .h_board_test) (by decide) 0).trans h
  exact if_neg (by rw [hflag]; decide)

end

/-! ### O55 -/

/-- Settles O55. What a reset takes is stated of a fresh device (`does_of_fresh`); the other clauses are the branches of each
command, of which the hypotheses name one. -/
theorem boardPins : Obligations.BoardPins := by
  unfold Obligations.BoardPins
  intro s
  refine ⟨?_, ?_, ?_, ?_, ?_, ?_, ?_, ?_, ?_, ?_, ?_, ?_, ?_, ?_, ?_, ?_, ?_, ?_, ?_, ?_, ?_, ?_, ?_, ?_, ?_, ?_, ?_, ?_, ?_, ?_, ?_⟩
  · rintro rail mv _ rfl
    rw [exec_railOutOfRange, State.railOut_of_short, State.done_onDev, Dev.railOut]
  · rintro rail mv _ ⟨rfl, hrail, halive⟩
    exact exec_railOutOfRange_shuts s halive rail hrail mv
  · rintro rail mv _ ⟨rfl, hrail, halive⟩
    exact railOutOfRange_power s halive rail hrail mv
  · rintro rail trained ⟨hout, hlast⟩
    rw [exec_railReturnInRange, if_pos hout, if_pos hlast]
  · intro rail trained hout
    rw [exec_railReturnInRange, if_neg (by rw [hout]; decide)]
  · rintro rail trained ⟨hout, hlast⟩
    rw [exec_railReturnInRange, if_pos hout, if_neg hlast]
  · rintro rail mv _ _ ⟨halive, hstop, rfl, rfl, hstage⟩
    rw [exec_avsTrim, halive, hstop, if_neg (by decide), if_neg (by decide), if_neg hstage]
  · rintro rail mv ack alert ⟨halive, hstop, hfault⟩
    have hbad : (!ack || alert) = true := by
      rcases hfault with rfl | rfl
      · rfl
      · exact Bool.or_true _
    rw [exec_avsTrim, halive, hstop, hbad, if_neg (by decide), if_pos rfl]
  · rintro ⟨halive, hclk⟩
    exact exec_refclkLoss_shuts s halive hclk
  · intro hstill
    have hskip : (!s.dev.alive || s.dev.flag .h_refclk) = true := by
      rcases hstill with h | h
      · rw [h]; rfl
      · rw [h, Bool.or_true]
    rw [exec_refclkLoss, if_pos hskip]
  · rintro sensor _ rfl
    rw [exec_thermSample, s.sample_of_unread (v := 0x80) rfl, State.done_onDev]
  · rintro sensor temp ⟨hporst, hok, htrip, hread, hover⟩
    have hread' : temp.toNat ≠ 128 := fun h => hread (BitVec.eq_of_toNat_eq h)
    rw [exec_thermSample, s.sample_of_read hread' hporst hok, if_pos htrip, State.done_onDev, State.endsX_onDev, State.onDev_dev]
    exact congrArg (fun e => Host.Outcome.next (s.endsX e)) (if_pos hover)
  · rintro sensor temp ⟨hporst, htrip, hok⟩ ⟨hread, hlevel⟩
    have hread' : temp.toNat ≠ 128 := fun h => hread (BitVec.eq_of_toNat_eq h)
    rw [exec_thermSample, s.sample_of_read hread' hporst hok, htrip, if_neg (by decide), if_neg (by omega), State.done_onDev, Dev.sampled]
  · rintro sensor temp ⟨hporst, htrip, hok⟩ ⟨hread, hlevel⟩
    exact thermSample_trips s hporst htrip hok (fun h => hread (BitVec.eq_of_toNat_eq h)) hlevel
  · exact fun hok => s.i2c_of_ok hok _
  · exact fun hok => s.i2c_of_out hok _
  · exact fun hok => s.i2c_of_out hok _
  · exact fun v hok => s.i2c_of_out hok _
  · exact fun cmd data hok => s.i2c_of_out hok _
  · exact fun hok => s.i2c_of_ok hok _
  · exact fun v hok => exec_i2cWriteStatus s v hok
  · exact fun cmd data h => exec_i2cBadCommand s cmd data h.1 h.2
  · exact fun levels h => State.run_of_eq (s.dev.tapDrive_of_test h 2 levels)
  · exact fun levels h => State.run_of_eq (s.dev.tapDrive_of_no_test h 2 levels)
  · exact fun levels h => State.run_of_eq (s.dev.tapDrive_of_no_test h 3 levels)
  · exact fun levels h => State.run_of_eq (s.dev.tapDrive_of_no_test h 4 levels)
  · exact fun levels h => State.run_of_eq (s.dev.tapDrive_of_test h 3 levels)
  · exact fun levels h => State.run_of_eq (s.dev.tapDrive_of_test h 4 levels)
  · exact State.run_of_eq rfl
  · exact fun tdi => State.run_of_eq rfl
  · exact State.run_of_eq rfl

end Sys2Proof.Machine
end

section
/-! SUPPORT. The companion link and the service ports (R546 to R557), and the clauses of O54. -/

namespace Sys2Proof.Machine

/-! ### One bit of a field -/

theorem bit_setBit_eq (x i j : Nat) : bit (setBit x i) j = if j = i then true else bit x j := by
  split
  · next h => rw [h, bit_setBit]
  · next h => exact bit_setBit_of_ne h

theorem bit_clrBit_eq (x i j : Nat) : bit (clrBit x i) j = if j = i then false else bit x j := by
  unfold clrBit
  by_cases hset : bit x i = true
  · rw [if_pos hset]
    have hle : 2 ^ i ≤ x := by
      by_contra hlt
      rw [bit, Nat.div_eq_of_lt (by omega)] at hset
      exact absurd hset (by decide)
    obtain ⟨y, rfl⟩ : ∃ y, x = y + 2 ^ i := ⟨x - 2 ^ i, by omega⟩
    have hclear : bit y i = false := by
      rw [bit, Nat.add_div_right _ (Nat.two_pow_pos i), beq_iff_eq] at hset
      rw [bit, beq_eq_false_iff_ne]
      omega
    rw [Nat.add_sub_cancel]
    split
    · next h => rw [h, hclear]
    · next h => exact (bit_add_two_pow_of_ne hclear h).symm
  · rw [if_neg hset]
    split
    · next h => rw [h]; exact Bool.eq_false_of_not_eq_true hset
    · rfl

theorem bit_putBit (x i j : Nat) (b : Bool) : bit (putBit x i b) j = if j = i then b else bit x j := by
  cases b
  · exact bit_clrBit_eq x i j
  · exact bit_setBit_eq x i j

theorem Dev.putB_bitOf (d : Dev) (f : Fld) (i k : Nat) (b : Bool) {j : Nat} (h : j < f.width) :
    (d.putB f i k b).bitOf f i j = if j = k then b else d.bitOf f i j := by
  rw [Dev.bitOf, Dev.putB, Dev.get_set_same, bit_mod_two_pow h, bit_putBit]
  rfl

theorem Dev.bitOf_of_get {d e : Dev} {f : Fld} {i : Nat} (h : e.get f i = d.get f i) (k : Nat) : e.bitOf f i k = d.bitOf f i k := by
  rw [Dev.bitOf, Dev.bitOf, h]

/-! ### What leaves a port -/

section
variable {view : Dev → Dev} (d : Dev)

theorem Dev.slots_confined (p kind n : Nat) : d.Confined view (slotFlds ++ countFlds) (d.slots p kind n) := by
  have hcount (e : Dev) (b : Nat) (x : Ev) : e.Confined view (slotFlds ++ countFlds) (e.count b x n) :=
    (e.count_confined b x n {}).mono (List.subset_append_right ..)
  have hwin (e : Dev) {f : Fld} (hf : f ∈ slotFlds ++ countFlds) (k : Nat) : e.Confined view (slotFlds ++ countFlds) (e.winAdd f k p n) := by
    unfold Dev.winAdd
    exact .ite (.refl e) (.ite ((Dev.putB_confined _ (by decide) ..).after (e.set_confined hf ..)) (e.set_confined hf ..))
  unfold Dev.slots
  refine .after (hwin _ ?_ _) ((hcount ..).after (hcount ..))
  split <;> decide

/-- The block without the frames that wait at a port, and without the messages out. -/
def Dev.lessWaits (d : Dev) : Dev := { d with lcWait := {}, sent := [] }

theorem Dev.Confined.rest_lessWaits {d e : Dev} {own : List Fld} (h : d.Confined Dev.lessWaits own e) :
    e.rest = ({ d with lcWait := e.lcWait, sent := e.sent } : Dev).rest :=
  congrArg (fun x : Dev => { x with lcWait := e.lcWait, sent := e.sent }) h.rest

theorem Dev.sendLc_confined (p ty : Nat) (body : List Nat) : d.Confined Dev.lessWaits (slotFlds ++ countFlds) (d.sendLc p ty body) := by
  have hput : d.Confined Dev.lessWaits (slotFlds ++ countFlds) (d.lcPut p ty body) := by
    unfold Dev.lcPut
    dsimp only
    split
    all_goals exact .ite ((Dev.slots_confined ..).after (d.emit_confined (fun _ => rfl) _)) (d.emit_confined (fun _ => rfl) _)
  unfold Dev.sendLc
  exact .ite (.same (.refl d) rfl rfl) hput
end

/-! ### The companion link (R546, R548) -/

section
variable (s : State)

theorem exec_kclReadTimeout_of_read {k : Fin 256} {x : KRead} (h : (s.dev.reads.filter (fun (y : KRead) => y.ext))[k.val]? = some x) :
    exec (.kclReadTimeout k) s =
      ((s.onDev (fun d => d.raise .KCL_READ_TIMEOUT d.pathDevice [.d x.addr, .h x.req])).readFails x.purpose).settled := by
  have hexec : exec (.kclReadTimeout k) s = execKclReadTimeout k s := rfl
  rw [hexec, execKclReadTimeout, h]

theorem exec_kclReadTimeout_of_none {k : Fin 256} (h : (s.dev.reads.filter (fun (y : KRead) => y.ext))[k.val]? = none) :
    exec (.kclReadTimeout k) s = s.settled := by
  have hexec : exec (.kclReadTimeout k) s = execKclReadTimeout k s := rfl
  rw [hexec, execKclReadTimeout, h]

theorem State.settled_onDev (f : Dev → Dev) : (s.onDev f).settled = .next (s.endsX (f s.dev)) := rfl

/-- The device as a replay that failed leaves the link: `n` requests end in an error completion (R548). -/
def Dev.retrains (d : Dev) (n : Nat) : Dev :=
  (d.draw.2.setMany [(.kcl_status_retrain_count, 0, d.get .kcl_status_retrain_count + 1),
    (.h_kcl_full, 0, b2n (d.get .kcl_status_width == 8)),
    (.h_kcl_train, 0, if d.get .h_kcl_train = 0 then 1 else d.get .h_kcl_train)]).raise .KCL_RETRAIN d.pathDevice [.h d.draw.1, .h n]

theorem Dev.retrains_position (d : Dev) (count full train : Nat) : (d.draw.2.setMany [(.kcl_status_retrain_count, 0, count),
    (.h_kcl_full, 0, full), (.h_kcl_train, 0, train)]).pathDevice = d.pathDevice := by
  have hset : d.Confined id [.kcl_status_retrain_count, .h_kcl_full, .h_kcl_train] (d.draw.2.setMany
      [(.kcl_status_retrain_count, 0, count), (.h_kcl_full, 0, full), (.h_kcl_train, 0, train)]) :=
    (Dev.setMany_confined _ _ (by simp)).after d.draw_confined
  exact hset.fields.pathDevice (by decide) 0 0

/-- Where neither the record ring nor a DMA write is at work, the reads alone end. -/
theorem State.replayFail_of_reads (hon : s.dev.domainOn 10 = true) (hw : s.dev.kclWrites = []) (hring : s.dev.ringPend = []) :
    s.replayFail = ((s.dev.reads.filter (fun (r : KRead) => r.ext)).map (fun (r : KRead) => r.purpose)).foldl (fun s p => s.readFails p)
      (s.onDev (fun d => d.retrains (s.dev.reads.filter (fun (r : KRead) => r.ext)).length)) := by
  unfold State.replayFail
  dsimp only
  rw [hon, hw, hring, if_neg (by decide), Dev.retrains_position]
  simp only [List.length_map, List.length_nil, List.foldl_nil, List.isEmpty_nil]
  rfl

end

/-- Half width: the lanes that failed are not OK, and the link trains (R548). -/
def Dev.halved (d : Dev) (failed : Nat) : Dev :=
  let e := d.setMany [(.kcl_status_lanes_ok, 0, maskOf 8 (fun i => d.bitOf .kcl_status_lanes_ok 0 i && !bit failed i)),
    (.kcl_status_width, 0, 4), (.h_kcl_full, 0, 0)]
  if e.get .h_kcl_train = 0 then e.set .h_kcl_train 0 1 else e

/-- The link at half width, recorded. -/
def Dev.degraded (d : Dev) (failed : Nat) : Dev :=
  (d.halved failed).raise .KCL_DEGRADED (d.halved failed).pathDevice [.h failed, .h 4]

theorem Dev.kclDegrade_of_on (d : Dev) {failed : Nat} (hon : d.domainOn 10 = true) (hfailed : failed ≠ 0) :
    d.kclDegrade failed = d.degraded failed := by
  unfold Dev.kclDegrade
  rw [hon]
  exact if_neg (by simpa using hfailed)

section
variable (d : Dev) (failed : Nat)

theorem Dev.halved_confined : d.Confined id [.kcl_status_lanes_ok, .kcl_status_width, .h_kcl_train, .h_kcl_full] (d.halved failed) := by
  unfold Dev.halved
  exact .after (.ite (Dev.set_confined _ (by decide) ..) (.refl _)) (d.setMany_confined _ (by simp))

theorem Dev.halved_get {f : Fld} (hf : f.ctorIdx ≠ Fld.h_kcl_train.ctorIdx) : (d.halved failed).get f 0 =
    (d.setMany [(.kcl_status_lanes_ok, 0, maskOf 8 (fun i => d.bitOf .kcl_status_lanes_ok 0 i && !bit failed i)),
      (.kcl_status_width, 0, 4), (.h_kcl_full, 0, 0)]).get f 0 := by
  unfold Dev.halved
  dsimp only
  split
  · exact Dev.get_set_fld _ hf ..
  · rfl

theorem Dev.halved_width : (d.halved failed).get .kcl_status_width = 4 := by
  rw [d.halved_get failed (by decide)]
  simp (disch := decide) only [Dev.setMany_cons, Dev.setMany_nil, Dev.get_set_fld, Dev.get_set_same]
  rfl

theorem Dev.halved_lane {i : Nat} (h : i < 8) :
    (d.halved failed).bitOf .kcl_status_lanes_ok 0 i = (d.bitOf .kcl_status_lanes_ok 0 i && !bit failed i) := by
  rw [Dev.bitOf, d.halved_get failed (by decide)]
  simp (disch := decide) only [Dev.setMany_cons, Dev.setMany_nil, Dev.get_set_fld, Dev.get_set_same]
  rw [show Fld.kcl_status_lanes_ok.width = 8 from rfl, Nat.mod_eq_of_lt (maskOf_lt 8 _), bit_maskOf h]

theorem Dev.halved_trains : (d.halved failed).get .h_kcl_train ≠ 0 := by
  unfold Dev.halved
  dsimp only
  split
  · rw [Dev.get_set_same]
    decide
  · assumption

theorem Dev.degraded_get (f : Fld) (i : Nat) : (d.degraded failed).get f i = (d.halved failed).get f i := Dev.raise_get ..

theorem Dev.degraded_confined : d.Confined id [.kcl_status_lanes_ok, .kcl_status_width, .h_kcl_train, .h_kcl_full] (d.degraded failed) :=
  (Dev.raise_confined ..).after (d.halved_confined failed)

/-- The lanes and the width at the end of training (R548). -/
def Dev.trained (d : Dev) (pass : Nat) : Dev :=
  d.setMany [(.kcl_status_width, 0, if d.flag .h_kcl_full && pass == 0xFF then 8 else 4),
    (.kcl_status_lanes_ok, 0, if d.flag .h_kcl_full then pass else maskOf 8 (fun i => d.bitOf .kcl_status_lanes_ok 0 i && bit pass i)),
    (.h_kcl_train, 0, 0)]

variable (pass : Nat)

theorem Dev.kclTrained_of_training (hon : d.domainOn 10 = true) (htrain : d.get .h_kcl_train ≠ 0) : d.kclTrained pass =
    if d.get .kcl_status_width == 8 && (if d.flag .h_kcl_full && pass == 0xFF then 8 else 4) == 4
    then (d.trained pass).raise .KCL_DEGRADED (d.trained pass).pathDevice [.h (0xFF - pass), .h 4] else d.trained pass := by
  unfold Dev.kclTrained
  rw [hon]
  exact if_neg (by simpa using htrain)

theorem Dev.kclTrained_get (hon : d.domainOn 10 = true) (htrain : d.get .h_kcl_train ≠ 0) (f : Fld) (i : Nat) :
    (d.kclTrained pass).get f i = (d.trained pass).get f i := by
  rw [d.kclTrained_of_training pass hon htrain]
  generalize (d.get .kcl_status_width == 8 && _) = lost
  cases lost <;> rfl

theorem Dev.kclTrained_confined : d.Confined id [.kcl_status_lanes_ok, .kcl_status_width, .h_kcl_train] (d.kclTrained pass) := by
  unfold Dev.kclTrained
  exact .ite (.refl d) (.after (.ite (Dev.raise_confined ..) (.refl _)) (d.setMany_confined _ (by simp)))

theorem Dev.trained_width : (d.trained pass).get .kcl_status_width = if d.flag .h_kcl_full && pass == 0xFF then 8 else 4 := by
  rw [Dev.trained]
  simp (disch := decide) only [Dev.setMany_cons, Dev.setMany_nil, Dev.get_set_fld, Dev.get_set_same]
  split <;> rfl

theorem Dev.trained_train : (d.trained pass).get .h_kcl_train = 0 := by
  rw [Dev.trained]
  simp (disch := decide) only [Dev.setMany_cons, Dev.setMany_nil, Dev.get_set_same]
  rfl

theorem Dev.trained_lanes (hfull : d.flag .h_kcl_full = true) : (d.trained 0xFF).get .kcl_status_lanes_ok = 0xFF := by
  rw [Dev.trained, hfull]
  simp (disch := decide) only [Dev.setMany_cons, Dev.setMany_nil, Dev.get_set_fld, Dev.get_set_same]
  rfl
end

/-- A link that is asked to retrain from half width (R548). -/
def Dev.askedFull (d : Dev) (v : Nat) : Dev :=
  ((d.writeFields rowKCL_CTRL 0 v []).set .kcl_ctrl_retrain 0 0).setMany [(.h_kcl_train, 0, 1), (.h_kcl_full, 0, 1)]

section
variable (d : Dev) (v : Nat)

theorem Dev.ctrlWritten_confined {view : Dev → Dev} : d.Confined view [.kcl_ctrl_retrain, .kcl_ctrl_read_timeout_us]
    ((d.writeFields rowKCL_CTRL 0 v []).set .kcl_ctrl_retrain 0 0) :=
  (Dev.set_confined _ (by decide) ..).after (Dev.writeFields_confined (by decide) ..)

theorem Dev.kclCtrlWrite_of_half (hbit : bit v 16 = true) (hwidth : d.get .kcl_status_width = 4) :
    d.kclCtrlWrite v [] = d.askedFull v := by
  have hkept : ((d.writeFields rowKCL_CTRL 0 v []).set .kcl_ctrl_retrain 0 0).get .kcl_status_width = 4 :=
    ((d.ctrlWritten_confined v (view := id)).fields .kcl_status_width 0 (by decide)).trans hwidth
  exact if_pos ⟨hbit, hkept⟩

theorem Dev.askedFull_confined {view : Dev → Dev} :
    d.Confined view [.kcl_ctrl_retrain, .kcl_ctrl_read_timeout_us, .h_kcl_train, .h_kcl_full] (d.askedFull v) :=
  (Dev.setMany_confined _ _ (by simp)).after ((d.ctrlWritten_confined v).mono (by decide))

theorem Dev.askedFull_get : (d.askedFull v).get .h_kcl_train = 1 ∧ (d.askedFull v).get .h_kcl_full = 1 ∧
    (d.askedFull v).get .kcl_ctrl_retrain = 0 := by
  unfold Dev.askedFull
  simp (disch := decide) only [Dev.setMany_cons, Dev.setMany_nil, Dev.get_set_fld, Dev.get_set_same]
  decide
end

/-! ### Binding (R550, R557) -/

section
variable (d : Dev) (i v : Nat)

theorem Dev.svcCfgWrite_of_free (hen : bit v 0 = true) (hfree : d.flag .kcl_svc_cfg_bind_en i = false)
    (hok : d.bindOk i (slice v 4 9) = true) : d.svcCfgWrite i v [] = d.writeFields rowKCL_SVC_CFG i v [] := by
  have haccept : d.bindAccept i (bit v 0) (slice v 4 9) = true := by simp [Dev.bindAccept, hen, hfree, hok]
  exact if_pos (by rw [haccept, Bool.or_true])

theorem Dev.svcCfgWrite_of_refused (hno : d.bindAccept i (bit v 0) (slice v 4 9) = false)
    (hnew : slice v 4 9 ≠ d.get .kcl_svc_cfg_bind_port i) : d.svcCfgWrite i v [] =
    ((d.writeFields rowKCL_SVC_CFG i v []).setMany [(.kcl_svc_cfg_bind_en, i, d.get .kcl_svc_cfg_bind_en i),
      (.kcl_svc_cfg_bind_port, i, d.get .kcl_svc_cfg_bind_port i)]).raise .SVC_BIND_REFUSED d.pathDevice [.h i, .h (slice v 4 9)] := by
  have hstored : d.Confined id [.kcl_svc_cfg_fab_ethertype, .kcl_svc_cfg_pfc_headroom, .kcl_svc_cfg_pfc_en, .kcl_svc_cfg_bind_port,
      .kcl_svc_cfg_pass_en, .kcl_svc_cfg_vid_check, .kcl_svc_cfg_tag_en, .kcl_svc_cfg_bind_en]
      (d.writeFields rowKCL_SVC_CFG i v []) := Dev.writeFields_confined (by decide) ..
  rw [← hstored.fields.pathDevice (by decide) 0 0]
  exact if_neg (by simp [hno, hnew])

theorem Dev.svcAddrWrite_of_free (r : RegRow) (hfree : d.flag .kcl_svc_cfg_bind_en i = false) :
    d.svcAddrWrite r i v [] = d.writeFields r i v [] := if_neg (by rw [hfree]; exact Bool.false_ne_true)

theorem Dev.svcAddrWrite_of_used (r : RegRow) (hbound : d.flag .kcl_svc_cfg_bind_en i = true)
    (hopen : d.fenced (d.get .kcl_svc_cfg_bind_port i) = false) (hrole : d.role (d.get .kcl_svc_cfg_bind_port i) ≠ roleDISABLED) :
    d.svcAddrWrite r i v [] = d.raise .ROLE_BUSY (d.pathPort (d.get .kcl_svc_cfg_bind_port i)) :=
  if_pos (by simp [hbound, hopen, hrole])
end

/-! ### Locks (R552) -/

/-- The locks of a service port made `v`. -/
def Dev.lockSet (d : Dev) (i v : Nat) : Dev := d.setMany [(.kcl_svc_status_block_lock, i, v), (.kcl_svc_status_fec_lock, i, v)]

section
variable (d : Dev) (i v : Nat)

theorem Dev.lockSet_confined {view : Dev → Dev} : d.Confined view [.kcl_svc_status_block_lock, .kcl_svc_status_fec_lock] (d.lockSet i v) :=
  d.setMany_confined _ (by simp)

theorem Dev.lockSet_role (n : Nat) : (d.lockSet i v).role n = d.role n :=
  (d.lockSet_confined i v (view := id)).fields .port_cfg_role n (by decide)

theorem Dev.lockSet_upRole (n : Nat) : (d.lockSet i v).upRole n = d.upRole n := by rw [Dev.upRole, Dev.upRole, Dev.lockSet_role]

theorem Dev.lockSet_linkStatus (n : Nat) : (d.lockSet i v).linkStatus n = d.linkStatus n :=
  (d.lockSet_confined i v (view := id)).fields .port_status_link_status n (by decide)

theorem Dev.lockSet_svcPort : (d.lockSet i v).svcPort i = d.svcPort i := by
  have hkept := (d.lockSet_confined i v (view := id)).fields
  rw [Dev.svcPort, Dev.svcPort, Dev.flag, Dev.flag, hkept .kcl_svc_cfg_bind_en i (by decide), hkept .kcl_svc_cfg_bind_port i (by decide)]

theorem Dev.lockSet_locks : (d.lockSet i 1).get .kcl_svc_status_block_lock i = 1 ∧ (d.lockSet i 1).get .kcl_svc_status_fec_lock i = 1 := by
  unfold Dev.lockSet
  simp (disch := decide) only [Dev.setMany_cons, Dev.setMany_nil, Dev.get_set_fld, Dev.get_set_same]
  decide

variable {d i}

theorem Dev.svcPort_of_bound (hbound : d.flag .kcl_svc_cfg_bind_en i = true) : d.svcPort i = some (d.get .kcl_svc_cfg_bind_port i) :=
  if_pos hbound

theorem Dev.svcPort_of_unbound (hfree : d.flag .kcl_svc_cfg_bind_en i = false) : d.svcPort i = none :=
  if_neg (by rw [hfree]; decide)

/-- The port a service port is bound to identifies itself, once the locks hold (R552). -/
def Dev.identifies (d : Dev) (i n : Nat) : Dev := ((d.lockSet i 1).setLink n lsIDENTIFY).sendId n

theorem Dev.svcLock_of_train {n : Nat} (hon : d.domainOn 10 = true) (hport : d.svcPort i = some n) (hup : d.upRole n = true)
    (hrole : d.role n ≠ roleANALYSIS) (hlink : d.linkStatus n = lsTRAIN) : d.svcLock i = d.identifies i n := by
  have hport' : (d.lockSet i 1).svcPort i = some n := (d.lockSet_svcPort i 1).trans hport
  unfold Dev.svcLock
  rw [hon, if_neg (by decide)]
  rw [Dev.lockSet] at hport'
  dsimp only
  rw [hport']
  dsimp only
  rw [← Dev.lockSet, Dev.lockSet_role, Dev.lockSet_upRole, Dev.lockSet_linkStatus, if_neg hrole, if_pos ⟨hup, hlink⟩]
  rfl

theorem Dev.svcLock_of_unbound (hon : d.domainOn 10 = true) (hfree : d.flag .kcl_svc_cfg_bind_en i = false) :
    d.svcLock i = d.lockSet i 1 := by
  have hport : (d.lockSet i 1).svcPort i = none := (d.lockSet_svcPort i 1).trans (Dev.svcPort_of_unbound hfree)
  unfold Dev.svcLock
  rw [hon, if_neg (by decide)]
  rw [Dev.lockSet] at hport
  dsimp only
  rw [hport]
  rfl

theorem Dev.svcUnlock_of_up {n : Nat} (hport : d.svcPort i = some n) (hup : d.upRole n = true) (hlink : lsTRAIN ≤ d.linkStatus n) :
    d.svcUnlock i = (d.lockSet i 0).linkLost n fcLINK_LOSS := by
  have hport' : (d.lockSet i 0).svcPort i = some n := (d.lockSet_svcPort i 0).trans hport
  unfold Dev.svcUnlock
  rw [Dev.lockSet] at hport'
  dsimp only
  rw [hport']
  dsimp only
  rw [← Dev.lockSet, Dev.lockSet_upRole, Dev.lockSet_linkStatus, if_pos ⟨hup, hlink⟩]

theorem Dev.setLink_confined {view : Dev → Dev} (d : Dev) (n v : Nat) : d.Confined view
    [.port_status_link_status, .opt_margin_status_request_pending, .h_win_partial] (d.setLink n v) := by
  unfold Dev.setLink
  exact (Dev.set_confined _ (by decide) ..).after
    (.after (.ite (Dev.set_confined _ (by decide) ..) (.refl _)) (.ite (.refl d) (d.set_confined (by decide) ..)))

theorem Dev.setLink_linkStatus (d : Dev) (n v : Nat) : (d.setLink n v).linkStatus n = v % 2 ^ Fld.port_status_link_status.width :=
  Dev.get_set_same ..

/-- The fields a port writes that begins to identify itself. -/
def identifyFlds : List Fld := slotFlds ++ countFlds ++ [.port_status_link_status, .opt_margin_status_request_pending,
  .kcl_svc_status_fec_lock, .kcl_svc_status_block_lock, .h_win_partial]

variable (d i) (n : Nat)

theorem Dev.identifies_confined : d.Confined Dev.lessWaits identifyFlds (d.identifies i n) :=
  ((Dev.sendLc_confined ..).mono (List.subset_append_left ..)).after
    (((Dev.setLink_confined ..).mono (by decide)).after ((d.lockSet_confined i 1).mono (by decide)))

theorem Dev.identifies_linkStatus : (d.identifies i n).linkStatus n = lsIDENTIFY := by
  rw [Dev.linkStatus, Dev.identifies, Dev.sendId, (Dev.sendLc_confined ..).fields .port_status_link_status n (by decide)]
  exact (Dev.setLink_linkStatus ..).trans (by decide)

theorem Dev.identifies_locks : (d.identifies i n).get .kcl_svc_status_block_lock i = 1 ∧
    (d.identifies i n).get .kcl_svc_status_fec_lock i = 1 := by
  obtain ⟨hblock, hfec⟩ := d.lockSet_locks i
  have hkept {f : Fld} (hsend : f ∉ slotFlds ++ countFlds) (hset : f ∉ [Fld.port_status_link_status, .opt_margin_status_request_pending,
      .h_win_partial]) : (d.identifies i n).get f i = (d.lockSet i 1).get f i := by
    rw [Dev.identifies, Dev.sendId, (Dev.sendLc_confined ..).fields f i hsend, (Dev.setLink_confined (view := id) ..).fields f i hset]
  exact ⟨(hkept (by decide) (by decide)).trans hblock, (hkept (by decide) (by decide)).trans hfec⟩
end

/-! ### PFC (R554) -/

/-- A priority of a PFC frame: held for its quanta, or released by 0. -/
def Dev.pfcHold (d : Dev) (i en : Nat) (quanta : List Nat) (p : Nat) : Dev :=
  if bit en p && d.bitOf .kcl_svc_cfg_pfc_en i p then d.putB .kcl_svc_status_paused i p (quanta.getD p 0 != 0) else d

section
variable (d : Dev) (i en : Nat) (quanta : List Nat)

theorem Dev.pfcRx_eq : d.pfcRx i en quanta = (List.range 8).foldl (fun d p => d.pfcHold i en quanta p) d := rfl

theorem Dev.pfcHolds_confined (l : List Nat) :
    d.Confined Dev.lessSent [.kcl_svc_status_paused] (l.foldl (fun d p => d.pfcHold i en quanta p) d) :=
  .foldl (fun e p => .ite (e.putB_confined (by decide) ..) (.refl e)) l d

/-- What the frame asks of priority `p`. -/
theorem Dev.pfcHolds_paused {n p : Nat} (hn : n ≤ 8) (hp : p < 8) :
    ((List.range n).foldl (fun d p => d.pfcHold i en quanta p) d).bitOf .kcl_svc_status_paused i p =
      if p < n ∧ (bit en p && d.bitOf .kcl_svc_cfg_pfc_en i p) = true then quanta.getD p 0 != 0
      else d.bitOf .kcl_svc_status_paused i p := by
  induction n with
  | zero => exact (if_neg (by omega)).symm
  | succ n ih =>
    specialize ih (by omega)
    have hen := (d.pfcHolds_confined i en quanta (List.range n)).fields .kcl_svc_cfg_pfc_en i (by decide)
    rw [List.range_succ, List.foldl_append, List.foldl_cons, List.foldl_nil]
    generalize (List.range n).foldl (fun d p => d.pfcHold i en quanta p) d = e at ih hen ⊢
    unfold Dev.pfcHold
    rw [Dev.bitOf_of_get hen]
    by_cases hpn : p = n
    · subst hpn
      split
      · next hset => rw [Dev.putB_bitOf _ _ _ _ _ hp, if_pos rfl, if_pos ⟨by omega, hset⟩]
      · next hset => rw [ih, if_neg (by omega), if_neg (fun h => hset h.2)]
    · have hlt : p < n + 1 ↔ p < n := by omega
      rw [apply_ite (fun x : Dev => x.bitOf .kcl_svc_status_paused i p), Dev.putB_bitOf _ _ _ _ _ hp, if_neg hpn, ite_self, ih]
      simp only [hlt]

theorem Dev.pfcRx_confined : d.Confined Dev.lessSent [.kcl_svc_status_paused] (d.pfcRx i en quanta) := d.pfcHolds_confined ..

theorem Dev.pfcRx_paused {p : Nat} (hp : p < 8) : (d.pfcRx i en quanta).bitOf .kcl_svc_status_paused i p =
    if bit en p = true ∧ d.bitOf .kcl_svc_cfg_pfc_en i p = true then quanta.getD p 0 != 0 else d.bitOf .kcl_svc_status_paused i p := by
  rw [Dev.pfcRx_eq, d.pfcHolds_paused i en quanta (Nat.le_refl 8) hp]
  simp only [hp, true_and, Bool.and_eq_true]
end

/-- The quanta of a priority, as the frame gives them. -/
theorem quanta_getD (quanta : Vector (BitVec 16) 8) (p : Fin 8) :
    ((quanta.toList.map (·.toNat)).getD p.val 0 != 0) = (quanta[p.val] != 0) := by
  have hlen : p.val < (quanta.toList.map (·.toNat)).length := by simp
  rw [List.getD_eq_getElem _ _ hlen, List.getElem_map, Vector.getElem_toList]
  have hiff : quanta[p.val].toNat = 0 ↔ quanta[p.val] = 0 := ⟨fun h => BitVec.eq_of_toNat_eq h, fun h => by rw [h]; rfl⟩
  exact Bool.eq_iff_iff.mpr (by simp [hiff])

/-- The fields a PFC frame writes that leaves. -/
def pfcFlds : List Fld := slotFlds ++ countFlds ++ [.kcl_svc_stats_pfc_tx, .h_pfc_xoff]

section
variable (d : Dev) (i n p quanta : Nat)

/-- The device before the slots of the frame are counted. -/
def Dev.pfcNoted (d : Dev) (i p quanta : Nat) : Dev :=
  ((d.emit (.pfc i p quanta)).incrSat .kcl_svc_stats_pfc_tx i).putB .h_pfc_xoff i p (quanta != 0)

theorem Dev.pfcSend_slots : (d.pfcNoted i p quanta).Confined id (slotFlds ++ countFlds) (d.pfcSend i n p quanta) := by
  unfold Dev.pfcSend
  exact .ite (Dev.slots_confined ..) (.refl _)

theorem Dev.pfcSend_confined : d.Confined Dev.lessSent pfcFlds (d.pfcSend i n p quanta) :=
  ((d.pfcSend_slots i n p quanta).hide.mono (List.subset_append_left ..)).after
    ((Dev.putB_confined _ (by decide) ..).after ((Dev.incrSat_confined _ (by decide) _).after (d.emit_confined (fun _ => rfl) _)))

theorem Dev.pfcSend_sent : (d.pfcSend i n p quanta).sent = .pfc i p quanta :: d.sent :=
  (d.pfcSend_slots i n p quanta).part Dev.sent (fun _ => rfl)

theorem Dev.pfcSend_xoff {p : Nat} (hp : p < 8) : (d.pfcSend i n p quanta).bitOf .h_pfc_xoff i p = (quanta != 0) := by
  rw [Dev.bitOf_of_get ((d.pfcSend_slots i n p quanta).fields .h_pfc_xoff i (by decide)), Dev.pfcNoted, Dev.putB_bitOf _ _ _ _ _ hp,
    if_pos rfl]

theorem Dev.pfcWhen_of_due {last : Bool} {due : Nat → Bool} (hport : d.svcPort i = some n)
    (hen : d.bitOf .kcl_svc_cfg_pfc_en i p = true) (hlast : d.bitOf .h_pfc_xoff i p = last) (hdue : due n = true) :
    d.pfcWhen i p last quanta due = d.pfcSend i n p quanta := by
  unfold Dev.pfcWhen
  rw [hport]
  exact if_pos (by simp [hen, hlast, hdue])

theorem Dev.pfcWhen_of_disabled {last : Bool} {due : Nat → Bool} (hoff : d.bitOf .kcl_svc_cfg_pfc_en i p = false) :
    d.pfcWhen i p last quanta due = d := by
  unfold Dev.pfcWhen
  rw [hoff]
  split
  · exact if_neg (by simp)
  · rfl
end

/-! ### Received Ethernet frames (R551, R553, R555) -/

/-- A frame without its FCS. -/
abbrev ethBody (bytes : List Nat) : List Nat := bytes.take (bytes.length - 4)

/-- The offset of a frame's EtherType. -/
abbrev ethType (bytes : List Nat) : Nat := (ethTags (ethBody bytes)).2

/-- Whether the check sequence of a frame is the one of its bytes. -/
abbrev fcsOk (bytes : List Nat) : Prop := leNat (bytes.drop (bytes.length - 4)) = ethFcs (ethBody bytes)

section
variable {d : Dev} {i : Nat} {bytes : List Nat}

/-- Whether a frame is for the fabric: addressed to the service port, with its EtherType, on its VLAN. -/
def Dev.forFabric (d : Dev) (i : Nat) (bytes : List Nat) : Bool :=
  beAt (ethBody bytes) 0 6 == d.get .kcl_svc_mac_own_mac i && beAt (ethBody bytes) (ethType bytes) 2 == d.get .kcl_svc_cfg_fab_ethertype i &&
    !(d.flag .kcl_svc_cfg_vid_check i && (ethTags (ethBody bytes)).1.head?.any (fun v => v != d.get .kcl_svc_vlan_rx_vid i))

theorem Dev.svcFrame_of_bad_fcs (hon : d.domainOn 10 = true) (hbad : ¬fcsOk bytes) :
    d.svcFrame i bytes = d.incrSat .kcl_svc_stats_rx_bad i := by
  unfold Dev.svcFrame
  dsimp only
  rw [hon, if_neg (by decide)]
  exact if_pos (.inr (.inr hbad))

section
variable (hon : d.domainOn 10 = true) (hmin : 18 ≤ bytes.length) (hmax : bytes.length ≤ 4160) (hfcs : fcsOk bytes)
include hon hmin hmax hfcs

theorem Dev.svcFrame_of_pfc (hpfc : isPfc (ethBody bytes) (ethType bytes) = true) : d.svcFrame i bytes =
    d.pfcRx i (beAt (ethBody bytes) (ethType bytes + 4) 2)
      ((List.range 8).map (fun y => beAt (ethBody bytes) (ethType bytes + 6 + 2 * y) 2)) := by
  unfold Dev.svcFrame
  dsimp only
  rw [hon, if_neg (by decide), if_neg (by rintro (h | h | h); exacts [by omega, by omega, h hfcs])]
  exact if_pos hpfc

variable (hpfc : isPfc (ethBody bytes) (ethType bytes) = false)
include hpfc

/-- A frame that holds one unit for the fabric, on a bound service port. -/
theorem Dev.svcFrame_of_unit {n : Nat} {u : List Nat} (hfab : d.forFabric i bytes = true) (hport : d.svcPort i = some n)
    (hunit : ethUnit (ethBody bytes) (ethType bytes + 2) = some u) : d.svcFrame i bytes = d.svcUnit n u := by
  unfold Dev.svcFrame
  dsimp only
  rw [hon, if_neg (by decide), if_neg (by rintro (h | h | h); exacts [by omega, by omega, h hfcs]),
    if_neg (by rw [hpfc]; decide), hport, ← Dev.forFabric, hfab, if_pos rfl, hunit]

/-- Any other frame may pass. -/
theorem Dev.svcFrame_of_other (hother : d.svcPort i = none ∨ d.forFabric i bytes = false) :
    d.svcFrame i bytes = d.svcPass i bytes := by
  unfold Dev.svcFrame
  dsimp only
  rw [hon, if_neg (by decide), if_neg (by rintro (h | h | h); exacts [by omega, by omega, h hfcs]), if_neg (by rw [hpfc]; decide),
    ← Dev.forFabric]
  rcases hother with hport | hfab
  · rw [hport]
  · rw [hfab, if_neg (by decide)]
    cases d.svcPort i <;> rfl
end

theorem Dev.forFabric_of_differs (h : beAt (ethBody bytes) 0 6 ≠ d.get .kcl_svc_mac_own_mac i ∨
    beAt (ethBody bytes) (ethType bytes) 2 ≠ d.get .kcl_svc_cfg_fab_ethertype i) : d.forFabric i bytes = false := by
  unfold Dev.forFabric
  rcases h with h | h <;> simp [h]

theorem Dev.forFabric_of_same (hmac : beAt (ethBody bytes) 0 6 = d.get .kcl_svc_mac_own_mac i)
    (htype : beAt (ethBody bytes) (ethType bytes) 2 = d.get .kcl_svc_cfg_fab_ethertype i)
    (hvid : d.flag .kcl_svc_cfg_vid_check i = false) : d.forFabric i bytes = true := by
  simp [Dev.forFabric, hmac, htype, hvid]

theorem Dev.svcPass_of_room (hpass : d.flag .kcl_svc_cfg_pass_en i = true)
    (hroom : ((d.svcFifo.get (1 - i) []).foldl (fun (y : Nat) (z : List Nat × Nat) => y + z.1.length) 0) + bytes.length ≤ 65536)
    (hlock : d.get .kcl_svc_status_block_lock (1 - i) ≠ 0) : d.svcPass i bytes =
      { d with svcFifo := d.svcFifo.set (1 - i) [] (d.svcFifo.get (1 - i) [] ++ [(bytes, d.fabric32 / 2 ^ 16)]) } := by
  unfold Dev.svcPass
  rw [hpass, if_neg (by decide)]
  exact if_neg (by rintro (h | h); exacts [hlock h, by omega])

theorem Dev.svcPass_of_disabled (hoff : d.flag .kcl_svc_cfg_pass_en i = false) :
    d.svcPass i bytes = d.incrSat .kcl_svc_stats_nonfabric i := if_pos (by rw [hoff]; rfl)

/-- What the statement says of a frame that is not for the fabric. -/
theorem Dev.svcFrame_passes (hon : d.domainOn 10 = true) (hmin : 18 ≤ bytes.length) (hmax : bytes.length ≤ 4160) (hfcs : fcsOk bytes)
    (hpfc : isPfc (ethBody bytes) (ethType bytes) = false)
    (hother : d.svcPort i = none ∨ beAt (ethBody bytes) 0 6 ≠ d.get .kcl_svc_mac_own_mac i ∨
      beAt (ethBody bytes) (ethType bytes) 2 ≠ d.get .kcl_svc_cfg_fab_ethertype i) : d.svcFrame i bytes = d.svcPass i bytes :=
  Dev.svcFrame_of_other hon hmin hmax hfcs hpfc (hother.imp_right Dev.forFabric_of_differs)
end

/-! ### O54 -/

section
variable (s : State)

theorem exec_kclLaneDegrade (failed : BitVec 8) (hon : s.dev.domainOn 10 = true) (hfailed : failed ≠ 0) : ∃ e,
    exec (.kclLaneDegrade failed) s = .next (s.ends e) ∧
    (e.get .kcl_status_width = 4 ∧
      (∀ i : Fin 8, e.bitOf .kcl_status_lanes_ok 0 i = (s.dev.bitOf .kcl_status_lanes_ok 0 i && !bit failed.toNat i)) ∧
      e.get .h_kcl_train ≠ 0) ∧
    s.dev.Keeps e [.kcl_status_lanes_ok, .kcl_status_width, .h_kcl_train, .h_kcl_full] ∧
    e.rest = ({ s.dev with sent := e.sent } : Dev).rest := by
  have hne : failed.toNat ≠ 0 := fun h => hfailed (BitVec.eq_of_toNat_eq h)
  have hget := s.dev.degraded_get failed.toNat
  have hall := s.dev.degraded_confined failed.toNat
  refine ⟨s.dev.degraded failed.toNat, State.run_of_eq (s.dev.kclDegrade_of_on hon hne), ⟨?_, fun i => ?_, ?_⟩, hall.fields,
    hall.hide.rest_lessSent⟩
  · rw [hget, Dev.halved_width]
  · rw [Dev.bitOf_of_get (hget _ _), Dev.halved_lane _ _ i.isLt]
  · rw [hget]
    exact s.dev.halved_trains _

theorem exec_kclReplayFail : exec .kclReplayFail s = s.replayFail.settled := rfl

theorem exec_kclReplayFail_of_none (hon : s.dev.domainOn 10 = true) (hreads : s.dev.reads = []) (hw : s.dev.kclWrites = [])
    (hring : s.dev.ringPend = []) : exec .kclReplayFail s = .next (s.endsX (s.dev.retrains 0)) := by
  rw [exec_kclReplayFail, s.replayFail_of_reads hon hw hring, hreads]
  exact s.settled_onDev _

theorem exec_kclReplayFail_of_sec {x : KRead} (hon : s.dev.domainOn 10 = true) (hreads : s.dev.reads = [x]) (hext : x.ext = true)
    (hsec : x.purpose = .sec) (hw : s.dev.kclWrites = []) (hring : s.dev.ringPend = []) :
    exec .kclReplayFail s = .next (s.endsX ((s.dev.retrains 1).dropReads .sec)) := by
  have hfilter : [x].filter (fun (r : KRead) => r.ext) = [x] := by simp [hext]
  have hfails (t : State) : t.readFails .sec = t.onDev (fun d => d.dropReads .sec) := rfl
  rw [exec_kclReplayFail, s.replayFail_of_reads hon hw hring, hreads, hfilter, List.map_singleton, List.foldl_cons, List.foldl_nil, hsec,
    hfails, State.settled_onDev, State.endsX_onDev, State.onDev_dev, List.length_singleton]

theorem exec_kclRetrainCmd {m : Mark} {v : Word} (h : s.dev.accepts (.kclRetrainCmd m v) = true)
    (hwidth : s.dev.get .kcl_status_width = 4) : ∃ e, exec (.kclRetrainCmd m v) s = .next (s.ends e) ∧
    (e.get .h_kcl_train = 1 ∧ e.get .h_kcl_full = 1 ∧ e.get .kcl_ctrl_retrain = 0) ∧
    s.dev.Keeps e [.kcl_ctrl_retrain, .kcl_ctrl_read_timeout_us, .h_kcl_train, .h_kcl_full] ∧
    e.rest = ({ s.dev with sent := e.sent } : Dev).rest := by
  have hall := (s.dev.askedFull_confined (setBit v.toNat 16)).ok (view := Dev.lessSent) (fun _ _ => rfl)
  refine ⟨(s.dev.askedFull (setBit v.toNat 16)).ok,
    State.run_hostWrite_of_accepts rfl h (s.dev.kclCtrlWrite_of_half _ (bit_setBit ..) hwidth), ?_, hall.fields, hall.rest_lessSent⟩
  simp only [Dev.ok_get]
  exact s.dev.askedFull_get _

theorem exec_svcLockHeld {svc : Fin 2} (hon : s.dev.domainOn 10 = true) (hbound : s.dev.flag .kcl_svc_cfg_bind_en svc = true)
    (hup : s.dev.upRole (s.dev.get .kcl_svc_cfg_bind_port svc) = true)
    (hrole : s.dev.role (s.dev.get .kcl_svc_cfg_bind_port svc) ≠ roleANALYSIS)
    (hlink : s.dev.linkStatus (s.dev.get .kcl_svc_cfg_bind_port svc) = lsTRAIN) :
    exec (.svcLockHeld svc) s = .next (s.endsX (s.dev.identifies svc (s.dev.get .kcl_svc_cfg_bind_port svc))) :=
  State.runX_of_eq (Dev.svcLock_of_train hon (Dev.svcPort_of_bound hbound) hup hrole hlink)

/-- What leaves a service port with a PFC frame. -/
theorem pfcSent {i n p quanta : Nat} (hp : p < 8) :
    ((s.dev.pfcSend i n p quanta).bitOf .h_pfc_xoff i p = (quanta != 0) ∧
      (s.dev.pfcSend i n p quanta).sent = .pfc i p quanta :: s.dev.sent) ∧
    s.dev.Keeps (s.dev.pfcSend i n p quanta) pfcFlds ∧
    (s.dev.pfcSend i n p quanta).rest = ({ s.dev with sent := (s.dev.pfcSend i n p quanta).sent } : Dev).rest :=
  ⟨⟨s.dev.pfcSend_xoff i n quanta hp, s.dev.pfcSend_sent ..⟩, (s.dev.pfcSend_confined ..).fields, (s.dev.pfcSend_confined ..).rest_lessSent⟩

end

/-- Settles O54: each clause is the branch of its command that its hypotheses name; what a command leaves alone is what its parts
are confined to. -/
theorem companionLinkAndServicePorts : Obligations.CompanionLinkAndServicePorts := by
  unfold Obligations.CompanionLinkAndServicePorts
  intro s
  refine ⟨?readSec, ?readProg, ?readNone, ?degrade, ?replay, ?replaySec, ?retrain, ?full, ?half, ?bind, ?bindRefused, ?address,
    ?addressBusy, ?lock, ?lockFree, ?unlock, ?pass, ?unit, ?badFcs, ?nonfabric, ?pfcFrame, ?pfc, ?expiry, ?xoff, ?xoffDisabled,
    ?xoffRepeat, ?xon⟩
  case readSec =>
    intro k x hread hsec
    rw [exec_kclReadTimeout_of_read s hread, hsec]
    exact State.settled_onDev _ _
  case readProg =>
    intro k x h hread hprog
    rw [exec_kclReadTimeout_of_read s hread, hprog]
    exact State.settled_onDev _ _
  case readNone => exact fun k h => exec_kclReadTimeout_of_none s h
  case degrade => exact fun failed h => exec_kclLaneDegrade s failed h.1 h.2
  case replay =>
    rintro ⟨hon, hreads, hw, hring⟩
    exact exec_kclReplayFail_of_none s hon hreads hw hring
  case replaySec =>
    rintro x ⟨hon, hreads, hext, hsec, hw, hring⟩
    exact exec_kclReplayFail_of_sec s hon hreads hext hsec hw hring
  case retrain => exact fun m v h hwidth => exec_kclRetrainCmd s h hwidth
  case full =>
    rintro _ ⟨hon, htrain, hfull, rfl⟩
    have hget := s.dev.kclTrained_get 0xFF hon htrain
    have hall := s.dev.kclTrained_confined 0xFF
    refine ⟨s.dev.kclTrained 0xFF, State.run_of_eq rfl, ⟨?_, ?_, ?_⟩, hall.fields, hall.hide.rest_lessSent⟩
    · rw [hget, Dev.trained_width, hfull]; rfl
    · rw [hget, s.dev.trained_lanes hfull]
    · rw [hget, Dev.trained_train]
  case half =>
    rintro pass ⟨hon, htrain, hnot⟩
    have hget := s.dev.kclTrained_get pass.toNat hon htrain
    have hall := s.dev.kclTrained_confined pass.toNat
    have hhalf : ¬(s.dev.flag .h_kcl_full && pass.toNat == 0xFF) = true := by
      rintro h
      obtain ⟨hfull, hpass⟩ := Bool.and_eq_true_iff.mp h
      rcases hnot with hnot | hnot
      · exact absurd hfull (by rw [hnot]; decide)
      · exact hnot (BitVec.eq_of_toNat_eq (by simpa using hpass))
    refine ⟨s.dev.kclTrained pass.toNat, State.run_of_eq rfl, ⟨?_, ?_⟩, hall.fields, hall.hide.rest_lessSent⟩
    · rw [hget, Dev.trained_width, if_neg hhalf]
    · rw [hget, Dev.trained_train]
  case bind =>
    rintro m svc v h ⟨hen, hfree, hok⟩
    exact State.runX_hostWrite_of_accepts rfl h (Dev.svcCfgWrite_of_free _ _ _ hen hfree hok)
  case bindRefused =>
    rintro m svc v h ⟨hno, hnew⟩
    exact State.runX_hostWrite_of_accepts rfl h (Dev.svcCfgWrite_of_refused _ _ _ hno hnew)
  case address =>
    exact fun m svc r v h hfree => State.run_hostWrite_of_accepts rfl h (Dev.svcAddrWrite_of_free _ _ _ _ hfree)
  case addressBusy =>
    rintro m svc r v h ⟨hbound, hopen, hrole⟩
    exact State.run_hostWrite_of_accepts rfl h (Dev.svcAddrWrite_of_used _ _ _ _ hbound hopen hrole)
  case lock =>
    rintro svc ⟨hon, hbound, hup, hrole, hlink⟩
    obtain ⟨hblock, hfec⟩ := s.dev.identifies_locks (i := svc) (s.dev.get .kcl_svc_cfg_bind_port svc)
    have hall := s.dev.identifies_confined (i := svc) (s.dev.get .kcl_svc_cfg_bind_port svc)
    exact ⟨_, exec_svcLockHeld s hon hbound hup hrole hlink, ⟨hblock, hfec, s.dev.identifies_linkStatus _ _⟩, hall.fields,
      hall.rest_lessWaits⟩
  case lockFree => exact fun svc h => State.runX_of_eq (Dev.svcLock_of_unbound h.1 h.2)
  case unlock =>
    rintro svc ⟨hbound, hup, hlink⟩
    exact State.runX_of_eq (Dev.svcUnlock_of_up (Dev.svcPort_of_bound hbound) hup hlink)
  case pass =>
    rintro svc bytes ⟨hon, hmin, hmax, hfcs, hpfc⟩ ⟨hother, hpass, hroom, hlock⟩
    exact State.runX_of_eq ((Dev.svcFrame_passes hon hmin hmax hfcs hpfc hother).trans (Dev.svcPass_of_room hpass hroom hlock))
  case unit =>
    rintro svc bytes n u ⟨hon, hmin, hmax, hfcs, hpfc⟩ ⟨hmac, htype, hvid⟩ ⟨hport, hunit⟩
    exact State.runX_of_eq
      (Dev.svcFrame_of_unit hon hmin hmax hfcs hpfc (Dev.forFabric_of_same hmac htype hvid) hport hunit)
  case badFcs => exact fun svc bytes h => State.runX_of_eq (Dev.svcFrame_of_bad_fcs h.1 h.2)
  case nonfabric =>
    rintro svc bytes ⟨hon, hmin, hmax, hfcs, hpfc⟩ ⟨hother, hoff⟩
    exact State.runX_of_eq ((Dev.svcFrame_passes hon hmin hmax hfcs hpfc hother).trans (Dev.svcPass_of_disabled hoff))
  case pfcFrame =>
    rintro svc bytes ⟨hon, hmin, hmax, hfcs, hpfc⟩
    exact State.runX_of_eq (Dev.svcFrame_of_pfc hon hmin hmax hfcs hpfc)
  case pfc =>
    intro svc en quanta
    have hall := s.dev.pfcRx_confined svc en.toNat (quanta.toList.map (·.toNat))
    refine ⟨_, State.run_of_eq rfl, fun p => ?_, hall.fields, hall.rest_lessSent⟩
    rw [s.dev.pfcRx_paused _ _ _ p.isLt, quanta_getD]
  case expiry => exact fun svc prio => State.run_of_eq rfl
  case xoff =>
    rintro svc prio n ⟨hport, hen⟩ ⟨hlast, hdue⟩
    exact ⟨_, State.run_of_eq (Dev.pfcWhen_of_due _ _ _ _ _ hport hen hlast hdue), pfcSent s prio.isLt⟩
  case xoffDisabled => exact fun svc prio hoff => State.run_of_eq (Dev.pfcWhen_of_disabled _ _ _ _ hoff)
  case xoffRepeat =>
    rintro svc prio n ⟨hport, hen⟩ ⟨hlast, hdue⟩
    exact ⟨_, State.run_of_eq (Dev.pfcWhen_of_due _ _ _ _ _ hport hen hlast hdue), pfcSent s prio.isLt⟩
  case xon =>
    rintro svc prio n ⟨hport, hen⟩ ⟨hlast, hdue⟩
    exact ⟨_, State.run_of_eq (Dev.pfcWhen_of_due _ _ _ _ _ hport hen hlast hdue), pfcSent s prio.isLt⟩

end Sys2Proof.Machine
end
